-- ==== Sys2Proof/Word.lean ====
section
/-! DEFINITION. The words of the Kerfiro: bytes, 64-bit words, and reading and writing a bit field of a word. -/
namespace Sys2Proof

/-- One byte. -/
abbrev Byte := BitVec 8
/-- A 64-bit register, header or trailer word. -/
abbrev Word := BitVec 64

/-- The value of the field of `w` that starts at bit `lo` and is `n` bits wide. -/
def Word.field (w : Word) (lo n : Nat) : Nat := w.toNat / 2 ^ lo % 2 ^ n

/-- `w` with the field at bit `lo`, `n` bits wide, holding `v` modulo 2^n. -/
def Word.withField (w : Word) (lo n v : Nat) : Word :=
  BitVec.ofNat 64 (w.toNat / 2 ^ (lo + n) * 2 ^ (lo + n) + v % 2 ^ n * 2 ^ lo + w.toNat % 2 ^ lo)

/-- A natural number as a word, modulo 2^64. -/
def Word.ofN (n : Nat) : Word := BitVec.ofNat 64 n

/-- A truth value as 0 or 1. -/
def b2n (b : Bool) : Nat := if b then 1 else 0

end Sys2Proof
end

