-- ==== Sys2Proof/Syntax.lean ====
section
/-! DEFINITION. The commands of the block, one constructor of `Instr` for every row of spec/opcode_table.json, and
the things a command carries: frames, register accesses, decoded operands, measurements. -/
namespace Sys2Proof

/-- An OFT frame (spec/02_ports_and_links.md R45): header words 0 to 5, payload, trailer words T0 and T1. -/
structure Frame where
  w0 : Word
  w1 : Word
  w2 : Word
  w3 : Word
  w4 : Word
  w5 : Word
  payload : List Byte
  t0 : Word
  t1 : Word
  deriving DecidableEq, Repr

/-- How a link frame met its link check (R41, R60). -/
inductive LinkCheck where
  | ok          -- link CRC right, no uncorrectable codeword
  | badCrc      -- link CRC wrong
  | badFec      -- an uncorrectable codeword touches it
  | badMacsec   -- fails its 802.1AE integrity check, or out of order under replay window 0
  deriving DecidableEq, Repr

/-- What a link frame carries after its prefix (R38, R39). -/
inductive LinkBody where
  | none
  | frame (f : Frame)
  | partner (words : List Word)
  deriving DecidableEq, Repr

/-- A received Ethernet frame at a UDP-mode port (R61), by its fields. -/
structure Datagram where
  dstMac : Nat
  vlan : Option Nat
  etherType : Nat
  ihl : Nat
  fragment : Bool
  ipCheckOk : Bool
  protocol : Nat
  srcIp : Nat
  dstIp : Nat
  dstPort : Nat
  udpCheckOk : Bool
  lenOk : Bool
  pre : Word
  body : LinkBody
  check : LinkCheck
  deriving DecidableEq, Repr

/-- By which path a register access arrives (R528, R412, R583). -/
inductive Src where
  | pcie0
  | pcie1
  | inband
  | faultCh
  deriving DecidableEq, Repr

/-! ## Proit-M operands (R203, R216, R217, R256, R265 to R274) -/

/-- The element formats (R203). -/
inductive Fmt where
  | fp32 | bf16 | fp16 | e4m3 | e5m2 | e3m2 | e2m1 | int8 | int16 | int32
  deriving DecidableEq, Repr

/-- Rounding modes (R216). -/
inductive Rnd where
  | rne | rtz | rup | rdn
  | sr (n : Nat)
  deriving DecidableEq, Repr

/-- Overflow modes (R217). -/
inductive Ovf where
  | sat | ieee
  deriving DecidableEq, Repr

/-- A value written as an immediate, or as a scalar register plus a signed 32-bit immediate (R265). -/
inductive Arg where
  | imm (v : Word)
  | reg (r : Fin 32) (off : BitVec 32)
  deriving DecidableEq, Repr

/-- A scalar register or a signed 32-bit immediate (R278). -/
inductive Opd where
  | imm (v : BitVec 32)
  | reg (r : Fin 32)
  deriving DecidableEq, Repr

/-- A scalar register or a 64-bit immediate (R278, R281, R282). -/
inductive Opd64 where
  | imm (v : Word)
  | reg (r : Fin 32)
  deriving DecidableEq, Repr

/-- One addition to a jumar counter: the core, the counter, the value (R282). -/
structure JAdd where
  core : Fin 512
  j    : Arg
  v    : Opd64
  deriving DecidableEq, Repr

/-- A flag (R256). -/
inductive FlagRef where
  | lf (n : Fin 256)
  | cf (n : Fin 1024)
  | pf (a : Arg)
  deriving DecidableEq, Repr

/-- The space a tensor lies in (R178, R265, R314, R315). -/
inductive Space where
  | l
  | s
  | h
  | f (feid : Arg)
  | lOf (k : Fin 512)
  | sOf (c : Fin 64)
  | rope (ctx : Arg)
  | gate (ctx : Arg)
  | expert (ctx : Arg)
  deriving DecidableEq, Repr

/-- A scale array of an FP6 or FP4 operand (R268): in S, or in L. -/
structure ScaleRef where
  inS  : Bool
  base : Arg
  deriving DecidableEq, Repr

/-- A tensor operand (R265 to R268). -/
structure Tensor where
  sp      : Space
  base    : Arg
  fmt     : Fmt
  shape   : List Nat
  strides : List Int
  scale   : Option ScaleRef
  deriving DecidableEq, Repr

/-- How an index tensor selects (R273), and what an out-of-range index does (R274). -/
inductive IMode where
  | row | flat
  deriving DecidableEq, Repr
inductive Oob where
  | fault | zero | skip | clamp | wrap
  deriving DecidableEq, Repr

/-- The options every engine instruction may take (R271, R272). -/
structure Opts where
  rnd  : Rnd
  ovf  : Ovf
  seed : Option (Fin 32)
  idx  : Arg
  tid  : Arg
  done : Option FlagRef
  st   : Option (Fin 32)
  deriving DecidableEq, Repr

/-- Relations of cmp.cc (R278) and of sse.filter (R290). -/
inductive Cond where
  | eq | ne | lt | le | gt | ge | ltu | leu | gtu | geu
  deriving DecidableEq, Repr

/-- The kept-set option of vre.sum and vre.dot (R297). -/
inductive AccOpt where
  | none | more | close | begin
  deriving DecidableEq, Repr

/-- A location of F (R265): FEID and offset. -/
structure FLoc where
  feid : Arg
  off  : Arg
  deriving DecidableEq, Repr

/-- The index tensor of an fde.move (R273, R314): its mode, its out-of-range mode, the tensor, and whether the table is
the source. -/
structure FdeIdx where
  mode : IMode
  oob  : Oob
  ix   : Tensor
  read : Bool
  deriving DecidableEq, Repr

/-- Engine operations by their operands (R295 to R319). -/
inductive EngOp where
  | vreSum (acc : AccOpt) (d a : Tensor)
  | vreDot (acc : AccOpt) (d a b : Tensor)
  | vreAxpy (a : Fin 32) (d x y : Tensor)
  | vreMin (d a : Tensor)
  | vreMax (d a : Tensor)
  | vreSumPair (acc : AccOpt) (dh dl a : Tensor)
  | vreDotPair (acc : AccOpt) (dh dl a b : Tensor)
  | gseGather (m : IMode) (oob : Oob) (d t i : Tensor)
  | gseScatter (m : IMode) (oob : Oob) (t s i : Tensor)
  | gseScatadd (m : IMode) (oob : Oob) (t s i : Tensor)
  | sseSort (desc : Bool) (dk dp key : Tensor)
  | sseTopk (desc : Bool) (k : Arg) (dv dp key : Tensor)
  | sseSelect (d m a b : Tensor)
  | sseCompact (cnt : Option (Fin 32)) (d a m : Tensor)
  | sseFilter (cmp : Cond) (thr : Fin 32) (cnt : Option (Fin 32)) (d a : Tensor)
  | sseDedup (cnt : Option (Fin 32)) (d dp a : Tensor)
  | sseHist (add : Bool) (oob : Oob) (d a : Tensor)
  | tenMma (add ta tb : Bool) (tmask : Option Arg) (c a b : Tensor)
  | cdcCvt (d a : Tensor)
  | cdcMxq (d a : Tensor)
  | cdcUnpack (d a : Tensor)
  | cdcPack (d a : Tensor)
  | cdcSpx (cnt : Option (Fin 32)) (d v m : Tensor)
  | cdcSpc (cnt : Option (Fin 32)) (v m a : Tensor)
  | cdcSplit (dh dl a : Tensor)
  | cdcCrc (sd : Fin 32) (init : Option (Fin 32)) (a : Tensor)
  | cdcRes (sd : Fin 32) (a : Tensor)
  | cdcCrcChk (init : Option (Fin 32)) (a : Tensor) (se : Fin 32)
  | cdcResChk (a : Tensor) (se : Fin 32)
  | fdeMove (p : Option Space) (d a : Option Tensor) (idx : Option FdeIdx) (flow : Arg) (opw chunk : Option (Fin 32))
  | fdePut (x : FLoc) (a : Fin 32) (flow : Arg) (anchor : Bool)
  | fdeAmo (sd : Fin 32) (x : FLoc) (a : Fin 32) (b : Option (Fin 32)) (fn : Fin 8) (w64 signed ordered anchor : Bool) (flow : Arg)
  deriving DecidableEq, Repr

/-- What an engine found as an instruction completed, beside its result: nothing; an uncorrectable error in the core's
own state (R196); a column check that failed, with its expected and computed values (R396). -/
inductive EngErr where
  | none
  | state
  | column (expected computed : Word)
  deriving DecidableEq, Repr

/-- What a rope or gate check unit found beside the frame's own check (R393, R395): nothing, a merged residue that
differs, a dual rounding that differs. -/
inductive HwCheck where
  | none
  | mergeRes
  | dual
  deriving DecidableEq, Repr

/-- The facts the loader reads from an image (R255 to R264): encoding revision, whether its checks pass, code bytes
rounded up, footprint, .data, entry, identifier. -/
structure Image where
  rev    : Nat
  ok     : Bool
  code   : Nat
  l      : Nat
  s      : Nat
  h      : Nat
  pflag  : Nat
  cch    : Nat
  jumar  : Nat
  ctx    : Nat
  data   : List (Nat × List Byte)
  entry  : Nat
  ident  : Word
  deriving DecidableEq, Repr, Inhabited

/-- What came of a run of bytes of a hub DMA at the host (R438): completed, with the data of a host read; refused; poisoned;
not answered. -/
inductive HostSeg where
  | ok (bytes : List Byte)
  | denied (n : Nat)
  | poison (n : Nat)
  | timeout (n : Nat)
  deriving DecidableEq, Repr

/-! ## Power, bring-up, faults and telemetry: measurements and findings -/

/-- What an interval's energy was spent on (R486): a core's units; a tensor engine, S and cluster flags; work of a rope,
gate or store context of a harness; a frame of a harness; an idle endpoint port; an access to a pool; everything else. -/
inductive EnergyOf where
  | core (k : Fin 512)
  | cluster (c : Fin 64)
  | context (h : Fin 4096)
  | frame (h : Fin 4096)
  | port (P : Fin 768)
  | pool (q : Fin 64)
  | system
  deriving DecidableEq, Repr

/-- Readings of a crux die's monitors (R485, R487): measured voltage in mV, timing slack in ps, hottest sensor in °C, and
whether its regulator answers (R570). -/
structure DieRead where
  vmeas : BitVec 10
  slack : Nat
  tj    : BitVec 8
  avs   : Bool
  deriving DecidableEq, Repr

/-- A lane's margins (R534). -/
structure LaneRead where
  rxPwr : BitVec 16
  eyeV  : BitVec 12
  eyeH  : BitVec 12
  deriving DecidableEq, Repr

/-- JTAG instructions (R584). -/
inductive JtagIr where
  | idcode
  | bypass
  | other (code : Nat)
  deriving DecidableEq, Repr

/-- A new entry for the defect list (R499). -/
structure Defect where
  kind : Fin 7
  die  : BitVec 16
  loc  : Word
  deriving DecidableEq, Repr

/-- A finding that stops a camp (R493), beside the slot causes of Camp 1 and the count of failed cores of Camp 3. -/
inductive CampFail where
  | fuse (bank : BitVec 12)
  | flashSilent
  | census (die : Fin 52)
  | bridge (die : Fin 52)
  | sram (die : Fin 16)
  | logic (die : Fin 52)
  | defectList
  | training (stack : Fin 12)
  | repair (stack : Fin 12)
  deriving DecidableEq, Repr

/-- Cairn at Camp 2 (R563): usable, or the cause and partition offset of a failure. -/
structure CairnBad where
  cause : Fin 6
  off   : BitVec 32
  deriving DecidableEq, Repr

/-- The laser modules that answer (a bit for each port die), and the boot port map: the enabled ports, each bonded or not
(R501). -/
structure LaserUp where
  modules : BitVec 32
  ports   : List (Fin 1152 × Bool)
  deriving DecidableEq, Repr

/-- What the work of a camp found (R489 to R501): each camp reads its own fields. -/
structure CampWork where
  fail    : Option CampFail
  defects : List Defect
  ptrB    : Bool           -- Camp 1: the boot pointer names slot B
  causeA  : Fin 5          -- Camp 1: 0 the slot verifies, else the cause of R494
  causeB  : Fin 5
  svn     : BitVec 16      -- Camp 1: security version of the image that verified
  key     : Bool           -- Camp 1: the key that verified it
  cairn   : Option CairnBad -- Camp 2
  rebuilt : Bool           -- Camp 3: neither copy of the defect list was usable
  cores   : List (Fin 512) -- Camp 3: cores that failed or stand on the list, with the core that takes the spare
  pitons  : List Nat       -- Camps 3 and 4: lines that take a piton, by model address
  lasers  : LaserUp        -- Camp 4: what Camp 5 finds where LASER_EN is high already
  deriving DecidableEq, Repr

/-- The register groups of HUB_XDOM_FENCE, by bit (R35). -/
inductive Group where
  | crux | port | hbm | time | power | harness
  deriving DecidableEq, Repr

/-- A unit of the device (R518). -/
inductive DevUnit where
  | crux (n : Fin 16)
  | port (m : Fin 32)
  | hub (i : Fin 4)
  | stack (s : Fin 12)
  deriving DecidableEq, Repr

/-- The commands, one for every row of spec/opcode_table.json, in its order; beside each its mnemonic and rule. Operands that a
rule leaves to the world outside (measurements, bytes fetched, what a check found) come with the command. -/
inductive Instr where
  | registerWrite (src : Src) (fn : BitVec 8) (a : BitVec 26) (v : Word)   -- REGISTER_WRITE (R8)
  | malformedAccess (src : Src) (fn : BitVec 8) (a : BitVec 26) (write : Bool)   -- MALFORMED_ACCESS (R7)
  | crossDomainWriteEffect (g : Group)   -- CROSS_DOMAIN_WRITE_EFFECT (R35)
  | pcsAlign (P : Fin 1152) (rtt : Nat)   -- PCS_ALIGN (R51)
  | partner (P : Fin 1152) (w : Word) (k : LinkCheck) (bs : List Byte)   -- PARTNER (R51)
  | linkFrameReceive (P : Fin 1152) (w : Word) (k : LinkCheck) (f : Frame) (bw late started : Bool)   -- LINK_FRAME_RECEIVE (R41)
  | ack (P : Fin 1152) (w : Word) (k : LinkCheck)   -- ACK (R42)
  | nak (P : Fin 1152) (w : Word) (k : LinkCheck)   -- NAK (R42)
  | reservedLtype (P : Fin 1152) (w : Word)   -- RESERVED_LTYPE (R39)
  | ackDelayExpire (P : Fin 1152)   -- ACK_DELAY_EXPIRE (R42)
  | ackTimeoutExpire (P : Fin 1152) (part : Option (Frame × Bool))   -- ACK_TIMEOUT_EXPIRE (R43)
  | pcsAlignLoss (P : Fin 1152) (part : Option (Frame × Bool))   -- PCS_ALIGN_LOSS (R43)
  | xoffChangeAck (P : Fin 1152)   -- XOFF_CHANGE_ACK (R44)
  | xoffRepeat (P : Fin 1152)   -- XOFF_REPEAT (R44)
  | trainingTimeout (P : Fin 1152)   -- TRAINING_TIMEOUT (R53)
  | departedTimeout (P : Fin 1152)   -- DEPARTED_TIMEOUT (R53)
  | portEnable (src : Src) (P : Fin 1152) (on : Bool)   -- PORT_ENABLE (R53)
  | drain (src : Src) (P : Fin 1152) (on : Bool)   -- DRAIN (R57)
  | retrain (src : Src) (P : Fin 1152) (spare : Option (Fin 100))   -- RETRAIN (R57)
  | portAdmit (src : Src) (P : Fin 1152)   -- ADMIT (R54)
  | evict (src : Src) (P : Fin 1152)   -- EVICT (R62)
  | bond (src : Src) (P : Fin 1152) (on : Bool)   -- BOND (R62)
  | portMode (src : Src) (P : Fin 1152) (mode : Fin 4)   -- PORT_MODE (R62)
  | portIdWrite (src : Src) (P : Fin 1152) (v : Word)   -- PORT_ID_WRITE (R54)
  | macsecKeyLoad (src : Src) (P : Fin 1152) (v : Word)   -- MACSEC_KEY_LOAD (R65)
  | udpDatagramReceive (P : Fin 1152) (d : Datagram)   -- UDP_DATAGRAM_RECEIVE (R61)
  | arpRequest (P : Fin 1152) (ip : BitVec 32)   -- ARP_REQUEST (R61)
  | heldFrameAdmit (P : Option (Fin 1152)) (c : Fin 8) (bw : Bool)   -- HELD_FRAME_ADMIT (R86)
  | steerLand (c : Fin 64)   -- STEER_LAND (R94)
  | directionMapRewrite (t : Fin 384)   -- DIRECTION_MAP_REWRITE (R81)
  | fwdTblWrite (src : Src) (n : Fin 16) (v : Word)   -- FWD_TBL_WRITE (R99)
  | fwdTblRead (src : Src) (n : Fin 16)   -- FWD_TBL_READ (R99)
  | queueLimitWrite (src : Src) (n : Fin 16) (q : Fin 72) (c : Fin 8) (v : Word)   -- QUEUE_LIMIT_WRITE (R85)
  | holdCfgWrite (src : Src) (n : Fin 16) (q : Fin 72) (v : Word)   -- HOLD_CFG_WRITE (R99)
  | frameStart (P : Fin 1152)   -- FRAME_START (R103)
  | gateEntryOpen   -- GATE_ENTRY_OPEN (R120)
  | gateBankSwitch   -- GATE_BANK_SWITCH (R111)
  | arm (src : Src)   -- ARM (R111)
  | disarm (src : Src)   -- DISARM (R112)
  | gateTblWrite (src : Src) (v : Word)   -- GATE_TBL_WRITE (R109)
  | timeSyncSend   -- TIME_SYNC_SEND (R117)
  | timeFrame (t : Fin 384) (est : BitVec 32) (t1 t2 t3 t4 : Word)   -- TIME_FRAME (R117)
  | ptpMessage (o : Int)   -- PTP_MESSAGE (R116)
  | ppsInEdge   -- PPS_IN_EDGE (R116)
  | hwmClear (src : Src) (n : Fin 16) (q : Fin 128) (mask : BitVec 8)   -- HWM_CLEAR (R123)
  | memRequestAccept (n : Fin 16) (f : Frame)   -- MEM_REQUEST_ACCEPT (R151)
  | load (n : Fin 16) (f : Frame)   -- LOAD (R127)
  | store (n : Fin 16) (f : Frame)   -- STORE (R127)
  | storeQuiet (n : Fin 16) (f : Frame)   -- STORE_QUIET (R127)
  | atomic (n : Fin 16) (f : Frame)   -- ATOMIC (R144)
  | combineWindowEnd (g : Nat)   -- COMBINE_WINDOW_END (R147)
  | groupResponse (g : Nat)   -- GROUP_RESPONSE (R148)
  | loadRsp (n : Fin 16) (f : Frame)   -- LOAD_RSP (R154)
  | storeAck (n : Fin 16) (f : Frame)   -- STORE_ACK (R154)
  | atomicRsp (n : Fin 16) (f : Frame)   -- ATOMIC_RSP (R154)
  | anchorRelease (source : Fin 1680)   -- ANCHOR_RELEASE (R139)
  | memTimeout (source : Fin 1680) (tag : BitVec 16)   -- MEM_TIMEOUT (R152)
  | carabinerInsert (src : Src) (n : Fin 16) (all : Bool)   -- CARABINER_INSERT (R135)
  | carabinerRemove (src : Src) (n : Fin 16) (all : Bool)   -- CARABINER_REMOVE (R155)
  | carabinerRead (src : Src) (n : Fin 16) (slot : BitVec 16)   -- CARABINER_READ (R155)
  | bind (src : Src) (h : Fin 4096)   -- BIND (R160)
  | start (src : Src) (h : Fin 4096)   -- START (R160)
  | stop (src : Src) (h : Fin 4096)   -- STOP (R160)
  | recover (src : Src) (h : Fin 4096)   -- RECOVER (R160)
  | unbind (src : Src) (h : Fin 4096)   -- UNBIND (R163)
  | quarantine (src : Src) (h : Fin 4096)   -- QUARANTINE (R160)
  | harnessFault   -- HARNESS_FAULT (R160)
  | stableExpire (h : Fin 4096)   -- STABLE_EXPIRE (R160)
  | harnessStatePropagate (h : Fin 4096)   -- HARNESS_STATE_PROPAGATE (R161)
  | unbindComplete   -- UNBIND_COMPLETE (R163)
  | quotaLimitWrite (src : Src) (k : Fin 5) (h : Fin 4096) (v : BitVec 32)   -- QUOTA_LIMIT_WRITE (R165)
  | coreBind (src : Src) (k : Fin 512) (h : Fin 4096)   -- CORE_BIND (R197)
  | coreBindComplete (n : Fin 16)   -- CORE_BIND_COMPLETE (R197)
  | coreUnbind (src : Src) (k : Fin 512)   -- CORE_UNBIND (R197)
  | go (src : Src) (k : Fin 512)   -- GO (R198)
  | coreHalt (src : Src) (k : Fin 512)   -- CORE_HALT (R161)
  | pflagBind (src : Src) (b : Fin 64) (h : Fin 4096)   -- PFLAG_BIND (R188)
  | cchWrite (src : Src) (n : Fin 16) (v : Word)   -- CCH_WRITE (R201)
  | jumarCfgWrite (src : Src) (n : Fin 16) (i : Fin 32) (v : Word)   -- JUMAR_CFG_WRITE (R191)
  | jumarReset (src : Src) (n : Fin 16) (i : Fin 32)   -- JUMAR_RESET (R200)
  | bivouacEnter (k : Fin 512)   -- BIVOUAC_ENTER (R194)
  | bivouacExit (k : Fin 512)   -- BIVOUAC_EXIT (R195)
  | waitLimitExpire (k : Fin 512)   -- WAIT_LIMIT_EXPIRE (R193)
  | coreLoad (src : Src) (n : Fin 16) (mask : BitVec 32) (img : Image)   -- CORE_LOAD (R261)
  | loadLaunch (src : Src) (n : Fin 16) (mask : BitVec 32) (img : Image)   -- LOAD_LAUNCH (R262)
  | loadComplete (n : Fin 16)   -- LOAD_COMPLETE (R263)
  | mov (k : Fin 512) (d : Fin 32) (a : Opd64)   -- MOV (R278)
  | add (k : Fin 512) (d a : Fin 32) (b : Opd)   -- ADD (R278)
  | sub (k : Fin 512) (d a : Fin 32) (b : Opd)   -- SUB (R278)
  | mul (k : Fin 512) (d a : Fin 32) (b : Opd)   -- MUL (R278)
  | and (k : Fin 512) (d a : Fin 32) (b : Opd)   -- AND (R278)
  | or (k : Fin 512) (d a : Fin 32) (b : Opd)   -- OR (R278)
  | xor (k : Fin 512) (d a : Fin 32) (b : Opd)   -- XOR (R278)
  | shl (k : Fin 512) (d a : Fin 32) (b : Opd)   -- SHL (R278)
  | shr (k : Fin 512) (d a : Fin 32) (b : Opd)   -- SHR (R278)
  | sar (k : Fin 512) (d a : Fin 32) (b : Opd)   -- SAR (R278)
  | min (k : Fin 512) (d a : Fin 32) (b : Opd)   -- MIN (R278)
  | max (k : Fin 512) (d a : Fin 32) (b : Opd)   -- MAX (R278)
  | minu (k : Fin 512) (d a : Fin 32) (b : Opd)   -- MINU (R278)
  | maxu (k : Fin 512) (d a : Fin 32) (b : Opd)   -- MAXU (R278)
  | cmp (k : Fin 512) (c : Cond) (d a : Fin 32) (b : Opd)   -- CMP (R278)
  | ld (k : Fin 512) (d : Fin 32) (b : Arg)   -- LD (R278)
  | st (k : Fin 512) (b : Arg) (a : Fin 32)   -- ST (R278)
  | time (k : Fin 512) (r : Fin 32) (d : Int)   -- TIME (R278)
  | jmp (k : Fin 512) (l : Fin 1048576)   -- JMP (R278)
  | br (k : Fin 512) (a : Fin 32) (l : Fin 1048576)   -- BR (R278)
  | brz (k : Fin 512) (a : Fin 32) (l : Fin 1048576)   -- BRZ (R278)
  | loop (k : Fin 512) (a : Fin 32) (l : Fin 1048576)   -- LOOP (R278)
  | call (k : Fin 512) (l : Fin 1048576)   -- CALL (R278)
  | ret (k : Fin 512)   -- RET (R278)
  | idle (k : Fin 512)   -- IDLE (R278)
  | halt (k : Fin 512) (a : Fin 32) (f : Option FlagRef)   -- HALT (R278)
  | nop (k : Fin 512)   -- NOP (R278)
  | fset (k : Fin 512) (f : FlagRef)   -- FSET (R279)
  | fclr (k : Fin 512) (f : FlagRef)   -- FCLR (R279)
  | ftest (k : Fin 512) (d : Fin 32) (f : FlagRef)   -- FTEST (R279)
  | fwait (k : Fin 512) (f : FlagRef) (v : Bool)   -- FWAIT (R279)
  | fwaitClr (k : Fin 512) (f : FlagRef)   -- FWAIT_CLR (R280)
  | flagWaitSatisfied (k : Fin 512)   -- FLAG_WAIT_SATISFIED (R187)
  | ctake (k : Fin 512) (c : Arg) (n : Opd64)   -- CTAKE (R281)
  | ctakeNw (k : Fin 512) (c : Arg) (n : Opd64)   -- CTAKE_NW (R281)
  | creditTakeServed (k : Fin 512)   -- CREDIT_TAKE_SERVED (R189)
  | cret (k : Fin 512) (c : Arg) (n : Opd64)   -- CRET (R281)
  | cread (k : Fin 512) (d : Fin 32) (c : Arg)   -- CREAD (R281)
  | jadd (l : List JAdd)   -- JADD (R282)
  | jread (k : Fin 512) (d : Fin 32) (j : Arg)   -- JREAD (R282)
  | jwait (k : Fin 512) (j : Arg) (a : Fin 32)   -- JWAIT (R282)
  | jumarWaitSatisfied (k : Fin 512)   -- JUMAR_WAIT_SATISFIED (R282)
  | vreSum (k : Fin 512) (acc : AccOpt) (d a : Tensor) (o : Opts)   -- VRE_SUM (R295)
  | vreDot (k : Fin 512) (acc : AccOpt) (d a b : Tensor) (o : Opts)   -- VRE_DOT (R295)
  | vreAxpy (k : Fin 512) (r : Fin 32) (d x y : Tensor) (o : Opts)   -- VRE_AXPY (R295)
  | vreMin (k : Fin 512) (d a : Tensor) (o : Opts)   -- VRE_MIN (R296)
  | vreMax (k : Fin 512) (d a : Tensor) (o : Opts)   -- VRE_MAX (R296)
  | vreSumPair (k : Fin 512) (acc : AccOpt) (dh dl a : Tensor) (o : Opts)   -- VRE_SUM_PAIR (R295)
  | vreDotPair (k : Fin 512) (acc : AccOpt) (dh dl a b : Tensor) (o : Opts)   -- VRE_DOT_PAIR (R295)
  | gseGather (k : Fin 512) (m : IMode) (oob : Oob) (d t i : Tensor) (o : Opts)   -- GSE_GATHER (R298)
  | gseScatter (k : Fin 512) (m : IMode) (oob : Oob) (t x i : Tensor) (o : Opts)   -- GSE_SCATTER (R299)
  | gseScatadd (k : Fin 512) (m : IMode) (oob : Oob) (t x i : Tensor) (o : Opts)   -- GSE_SCATADD (R300)
  | sseSort (k : Fin 512) (desc : Bool) (dk dp key : Tensor) (o : Opts)   -- SSE_SORT (R303)
  | sseTopk (k : Fin 512) (desc : Bool) (n : Arg) (dv dp key : Tensor) (o : Opts)   -- SSE_TOPK (R303)
  | sseSelect (k : Fin 512) (d m a b : Tensor) (o : Opts)   -- SSE_SELECT (R303)
  | sseCompact (k : Fin 512) (cnt : Option (Fin 32)) (d a m : Tensor) (o : Opts)   -- SSE_COMPACT (R304)
  | sseFilter (k : Fin 512) (cmp : Cond) (thr : Fin 32) (cnt : Option (Fin 32)) (d a : Tensor) (o : Opts)   -- SSE_FILTER (R303)
  | sseDedup (k : Fin 512) (cnt : Option (Fin 32)) (d dp a : Tensor) (o : Opts)   -- SSE_DEDUP (R303)
  | sseHist (k : Fin 512) (add : Bool) (oob : Oob) (d a : Tensor) (o : Opts)   -- SSE_HIST (R305)
  | tenMma (k : Fin 512) (add ta tb : Bool) (tmask : Option Arg) (c a b : Tensor) (o : Opts)   -- TEN_MMA (R306)
  | cdcCvt (k : Fin 512) (d a : Tensor) (o : Opts)   -- CDC_CVT (R310)
  | cdcMxq (k : Fin 512) (d a : Tensor) (o : Opts)   -- CDC_MXQ (R311)
  | cdcUnpack (k : Fin 512) (d a : Tensor) (o : Opts)   -- CDC_UNPACK (R310)
  | cdcPack (k : Fin 512) (d a : Tensor) (o : Opts)   -- CDC_PACK (R310)
  | cdcSpx (k : Fin 512) (cnt : Option (Fin 32)) (d v m : Tensor) (o : Opts)   -- CDC_SPX (R312)
  | cdcSpc (k : Fin 512) (cnt : Option (Fin 32)) (v m a : Tensor) (o : Opts)   -- CDC_SPC (R312)
  | cdcSplit (k : Fin 512) (dh dl a : Tensor) (o : Opts)   -- CDC_SPLIT (R310)
  | cdcCrc (k : Fin 512) (sd : Fin 32) (init : Option (Fin 32)) (a : Tensor) (o : Opts)   -- CDC_CRC (R313)
  | cdcRes (k : Fin 512) (sd : Fin 32) (a : Tensor) (o : Opts)   -- CDC_RES (R310)
  | cdcCrcChk (k : Fin 512) (init : Option (Fin 32)) (a : Tensor) (se : Fin 32) (o : Opts)   -- CDC_CRC_CHK (R310)
  | cdcResChk (k : Fin 512) (a : Tensor) (se : Fin 32) (o : Opts)   -- CDC_RES_CHK (R310)
  | fdeMove (k : Fin 512) (p : Option Space) (d a : Option Tensor) (idx : Option FdeIdx) (flow : Arg) (opw chunk : Option (Fin 32)) (o : Opts)   -- FDE_MOVE (R314)
  | fdePut (k : Fin 512) (x : FLoc) (a : Fin 32) (flow : Arg) (anchor : Bool) (o : Opts)   -- FDE_PUT (R319)
  | fdeAmo (k : Fin 512) (sd : Fin 32) (x : FLoc) (a : Fin 32) (b : Option (Fin 32)) (fn : Fin 8) (w64 signed ordered anchor : Bool) (flow : Arg) (o : Opts)   -- FDE_AMO (R319)
  | selectionRecord (ctx : BitVec 14)   -- SELECTION_RECORD (R369)
  | engineComplete (k : Fin 512) (eng : Fin 7) (i : Fin 16) (err : EngErr)   -- ENGINE_COMPLETE (R275)
  | ropeCreate (src : Src) (n : Fin 16) (ctx : Fin 16384)   -- ROPE_CREATE (R329)
  | ropeReform (src : Src) (n : Fin 16) (ctx : Fin 16384)   -- ROPE_REFORM (R328)
  | ropeAbort (src : Src) (n : Fin 16) (ctx : Fin 16384)   -- ROPE_ABORT (R350)
  | ropeDestroy (src : Src) (n : Fin 16) (ctx : Fin 16384)   -- ROPE_DESTROY (R328)
  | contrib (c : Fin 64) (f : Frame) (hw : HwCheck)   -- CONTRIB (R336)
  | ropePartial (c : Fin 64) (f : Frame) (hw : HwCheck)   -- PARTIAL (R393)
  | ropeResult (c : Fin 64) (f : Frame) (hw : HwCheck)   -- ROPE_RESULT (R340)
  | credit (c : Fin 64) (f : Frame) (hw : HwCheck)   -- CREDIT (R340)
  | summary (c : Fin 64) (f : Frame)   -- SUMMARY (R336)
  | counts (c : Fin 64) (f : Frame)   -- COUNTS (R344)
  | a2a (c : Fin 64) (f : Frame)   -- A2A (R343)
  | ropeAbortFrame (c : Fin 64) (f : Frame)   -- ROPE_ABORT_FRAME (R350)
  | ropeWatchdog (ctx : Fin 16384)   -- ROPE_WATCHDOG (R349)
  | gateCreate (src : Src) (n : Fin 16) (ctx : BitVec 14)   -- GATE_CREATE (R361)
  | gateReform (src : Src) (n : Fin 16) (ctx : BitVec 14)   -- GATE_REFORM (R360)
  | gateDestroy (src : Src) (n : Fin 16) (ctx : BitVec 14)   -- GATE_DESTROY (R360)
  | token (c : Fin 64) (f : Frame)   -- TOKEN (R364)
  | dispatch (c : Fin 64) (f : Frame)   -- DISPATCH (R370)
  | output (c : Fin 64) (f : Frame) (k : HwCheck)   -- OUTPUT (R375)
  | gateTimeout (ctx : BitVec 14) (slot : Fin 256)   -- GATE_TIMEOUT (R375)
  | fetch (c : Fin 64) (f : Frame)   -- FETCH (R380)
  | block (c : Fin 64) (f : Frame)   -- BLOCK (R380)
  | storeCreate (src : Src) (n : Fin 16) (ctx : BitVec 14)   -- STORE_CREATE (R379)
  | storeDestroy (src : Src) (n : Fin 16) (ctx : BitVec 14)   -- STORE_DESTROY (R387)
  | heatClear (src : Src) (n : Fin 16)   -- HEAT_CLEAR (R386)
  | heatRead (src : Src) (n : Fin 16)   -- HEAT_READ (R386)
  | witnessCfgWrite (src : Src) (h : Fin 4096) (v : Word)   -- WITNESS_CFG_WRITE (R402)
  | sqTail (v : Fin 256) (page : Fin 8192) (t : BitVec 16) (fetched : List (List Byte))   -- SQ_TAIL (R428)
  | cqHead (v : Fin 256) (page : Fin 8192) (h : BitVec 16)   -- CQ_HEAD (R428)
  | slotArm (v : Fin 256) (page : Fin 8192) (mask : Word)   -- SLOT_ARM (R430)
  | ringEnable (src : Src) (i : Fin 8192)   -- RING_ENABLE (R420)
  | flush (src : Src) (i : Fin 8192)   -- FLUSH (R433)
  | ringDisable (src : Src) (i : Fin 8192)   -- RING_DISABLE (R433)
  | ringNop (i : Fin 8192)   -- RING_NOP (R422)
  | dmaToDev (i : Fin 8192)   -- DMA_TO_DEV (R438)
  | dmaFromDev (i : Fin 8192)   -- DMA_FROM_DEV (R438)
  | ringLoad (i : Fin 8192) (img : Image)   -- RING_LOAD (R423)
  | ringGo (i : Fin 8192)   -- RING_GO (R422)
  | ringHalt (i : Fin 8192)   -- RING_HALT (R422)
  | waitFlag (i : Fin 8192)   -- WAIT_FLAG (R422)
  | waitFlagTimeout (i : Fin 8192) (j : Fin 64)   -- WAIT_FLAG_TIMEOUT (R422)
  | remoteReg (i : Fin 8192) (write mixed : Bool)   -- REMOTE_REG (R437)
  | remoteRegTimeout (i : Fin 8192) (j : Fin 64)   -- REMOTE_REG_TIMEOUT (R437)
  | regRsp   -- REG_RSP (R437)
  | poolAlloc (i : Fin 8192)   -- POOL_ALLOC (R465)
  | poolFree (i : Fin 8192)   -- POOL_FREE (R467)
  | poolQuery (i : Fin 8192)   -- POOL_QUERY (R463)
  | ringCommandComplete (i : Fin 8192) (j : Fin 64) (segs : List HostSeg)   -- RING_COMMAND_COMPLETE (R426)
  | irqCoalExpire (i : Fin 8192)   -- IRQ_COAL_EXPIRE (R429)
  | sqDb (fetched : List (List Byte))   -- SQ_DB (R431)
  | cqDb   -- CQ_DB (R431)
  | submit   -- SUBMIT (R432)
  | failover   -- FAILOVER (R434)
  | takeover (src : Src)   -- TAKEOVER (R434)
  | pcieLinkDown (p : Fin 2)   -- PCIE_LINK_DOWN (R434)
  | pfFlr   -- PF_FLR (R434)
  | vfFlr (v : Fin 255)   -- VF_FLR (R434)
  | vfBind (src : Src) (v : Fin 255) (w : Word)   -- VF_BIND (R439)
  | regRead   -- REG_READ (R436)
  | regWrite   -- REG_WRITE (R436)
  | bar4Read (src : Src) (o : BitVec 36) (n : Fin 8192)   -- BAR4_READ (R415)
  | bar4Write (src : Src) (o : BitVec 36) (bs : List Byte)   -- BAR4_WRITE (R415)
  | scrubVisit (store : Fin 3) (unit : Fin 512) (o : BitVec 40) (ce ue : Bool)   -- SCRUB_VISIT (R449)
  | pitonInstall (store : Fin 3) (unit : Fin 512) (o : BitVec 40) (readback : Bool)   -- PITON_INSTALL (R451)
  | harnessCopyReload (n : Fin 16) (h : Fin 4096)   -- HARNESS_COPY_RELOAD (R447)
  | poolCreate (src : Src) (q : Fin 64)   -- POOL_CREATE (R459)
  | poolDestroy (src : Src) (q : Fin 64)   -- POOL_DESTROY (R460)
  | poolRebuild (src : Src) (q : Fin 64)   -- POOL_REBUILD (R462)
  | poolReqWrite (src : Src) (q : Fin 64) (e : Option (Fin 16)) (v : Word)   -- POOL_REQ_WRITE (R466)
  | poolWaitTimeout (no : Nat)   -- POOL_WAIT_TIMEOUT (R466)
  | cramponInterval (dyn cd leak : BitVec 32) (lent : BitVec 12) (dies : List (Fin 16 × DieRead)) (shares : List (EnergyOf × BitVec 32))   -- CRAMPON_INTERVAL (R479)
  | ceilingStep   -- CEILING_STEP (R480)
  | powerCap   -- POWER_CAP (R480)
  | calibration (m : Option (BitVec 40))   -- CALIBRATION (R482)
  | droopTrip (n : Fin 16)   -- DROOP_TRIP (R484)
  | droopRelease (n : Fin 16)   -- DROOP_RELEASE (R484)
  | voltageTrim (rs : List DieRead)   -- VOLTAGE_TRIM (R485)
  | marginAlarmTrim (n : Fin 16) (r : DieRead)   -- MARGIN_ALARM_TRIM (R485)
  | portIdleEnter (P : Fin 1152)   -- PORT_IDLE_ENTER (R474)
  | portIdleExit (P : Fin 1152)   -- PORT_IDLE_EXIT (R475)
  | tenLightEnter (c : Fin 64)   -- TEN_LIGHT_ENTER (R471)
  | deepEnter (c : Fin 64)   -- DEEP_ENTER (R471)
  | hbmSelfRefresh   -- HBM_SELF_REFRESH (R476)
  | wakeToleranceWrite (src : Src) (h : Option (Fin 4096)) (v : Word)   -- WAKE_TOLERANCE_WRITE (R473)
  | coreMhzSet (src : Src) (v : BitVec 11)   -- CORE_MHZ_SET (R477)
  | capWSet (src : Src) (v : BitVec 12)   -- CAP_W_SET (R478)
  | perstNRelease   -- PERST_N_RELEASE (R490)
  | bootReset (src : Src)   -- BOOT_RESET (R490)
  | campComplete (w : CampWork)   -- CAMP_COMPLETE (R489)
  | campTimeout   -- CAMP_TIMEOUT (R489)
  | laserEnRise (l : LaserUp)   -- LASER_EN_RISE (R501)
  | laserEnFall   -- LASER_EN_FALL (R524)
  | commit (src : Src)   -- COMMIT (R502)
  | lock (src : Src)   -- LOCK (R505)
  | burnSvn (src : Src)   -- BURN_SVN (R495)
  | jtagToken (src : Src) (v : Word)   -- JTAG_TOKEN (R496)
  | deviceFault (ue : Option (Fin 4 × Fin 16 × Fin 262144))   -- DEVICE_FAULT (R513)
  | fence (src : Src)   -- FENCE (R513)
  | clear (src : Src)   -- CLEAR (R513)
  | unitOutOfService (u : DevUnit)   -- UNIT_OUT_OF_SERVICE (R518)
  | neighbourLost (d : Fin 6)   -- NEIGHBOUR_LOST (R517)
  | mpWatchdog   -- MP_WATCHDOG (R523)
  | mpStart (same : Bool)   -- MP_START (R523)
  | headlessExpire   -- HEADLESS_EXPIRE (R523)
  | resume (src : Src)   -- RESUME (R523)
  | laserOff (src : Src)   -- LASER_OFF (R524)
  | laserOn (src : Src) (m : BitVec 32)   -- LASER_ON (R524)
  | avalancheWindow (slot : Fin 256)   -- AVALANCHE_WINDOW (R550)
  | fmRequest (b : List Byte) (from_ : BitVec 32)   -- FM_REQUEST (R526)
  | fmAck (b : List Byte) (from_ : BitVec 32)   -- FM_ACK (R526)
  | eventResend   -- EVENT_RESEND (R526)
  | fillStart (src : Src) (n : Fin 16)   -- FILL_START (R519)
  | fillAbort (src : Src)   -- FILL_ABORT (R520)
  | fillCopyTimeout (i : Nat)   -- FILL_COPY_TIMEOUT (R520)
  | mark (src : Src) (n : Fin 16) (dev : Fin 64) (on : Bool)   -- MARK (R522)
  | marginReport (temps : List (BitVec 8))   -- MARGIN_REPORT (R529)
  | marginNow (src : Src) (temps : List (BitVec 8))   -- MARGIN_NOW (R529)
  | laneMarginRefresh (m : Fin 32) (rs : List LaneRead)   -- LANE_MARGIN_REFRESH (R534)
  | faultRingWrite (src : Src) (v : Word)   -- FAULT_RING_WRITE (R532)
  | snapshotGo (src : Src) (e : Fin 4) (base : BitVec 26) (count : BitVec 10) (ack : Bool)   -- SNAPSHOT_GO (R539)
  | snapshotComplete (e : Fin 4)   -- SNAPSHOT_COMPLETE (R540)
  | snapshotRelease (src : Src) (e : Fin 4)   -- SNAPSHOT_RELEASE (R557)
  | histSample (u : Fin 64) (v : Word) (h : Fin 4096)   -- HIST_SAMPLE (R544)
  | summaryPeriod (l : Fin 16)   -- SUMMARY_PERIOD (R547)
  | whiteoutExit (p : Fin 2)   -- WHITEOUT_EXIT (R554)
  | ownRelease (src : Src) (r : Fin 16) (force : Bool)   -- OWN_RELEASE (R557)
  | syncCfgWrite (src : Src) (n : Fin 6) (v : Word)   -- SYNC_CFG_WRITE (R558)
  | syncIoEdge (n : Fin 5)   -- SYNC_IO_EDGE (R582)
  | ppsOutPulse (n : Fin 6)   -- PPS_OUT_PULSE (R582)
  | cairnCheckpoint (bad : Option CairnBad)   -- CAIRN_CHECKPOINT (R560)
  | ckpt (src : Src) (bad : Option CairnBad)   -- CKPT (R560)
  | rd (src : Src)   -- RD (R562)
  | format (src : Src) (bad : Option CairnBad)   -- FORMAT (R562)
  | cairnProgram (bad : Option CairnBad)   -- CAIRN_PROGRAM (R562)
  | lifetimeSample (temps : List (BitVec 8))   -- LIFETIME_SAMPLE (R560)
  | pwrgdFall   -- PWRGD_FALL (R574)
  | perstNAssert   -- PERST_N_ASSERT (R574)
  | railDrop   -- RAIL_DROP (R574)
  | refclkLoss   -- REFCLK_LOSS (R576)
  | pciePerst (p : Fin 2)   -- PCIE_PERST (R574)
  | thermalAlarm (u : DevUnit) (tj : BitVec 8) (cooled : Bool)   -- THERMAL_ALARM (R589)
  | thermtrip (rail : Bool)   -- THERMTRIP (R589)
  | sidebandRead (a : BitVec 32)   -- SIDEBAND_READ (R583)
  | alertResponse (tj : BitVec 8)   -- ALERT_RESPONSE (R583)
  | jtagInstruction (ir : JtagIr)   -- JTAG_INSTRUCTION (R584)
  | pcieLinkUp (p : Fin 2)   -- PCIE_LINK_UP (R434)
  | pwrgdRise   -- PWRGD_RISE (R583)
  | vddAonRemoval   -- VDD_AON_REMOVAL (R589)
  | mpException   -- MP_EXCEPTION (R523)
  | inServiceSelfCheck (k : Fin 512)   -- IN_SERVICE_SELF_CHECK (R198)
  | repeatRecordExpire (n : Fin 16) (feid : BitVec 18) (tag : BitVec 16)   -- REPEAT_RECORD_EXPIRE (R150)
  | ropeCommandComplete (n : Fin 16)   -- ROPE_COMMAND_COMPLETE (R329)
  | gateCommandComplete (n : Fin 16)   -- GATE_COMMAND_COMPLETE (R361)
  | poolCommandComplete (q : Fin 64)   -- POOL_COMMAND_COMPLETE (R460)
  | storeCommandComplete (n : Fin 16)   -- STORE_COMMAND_COMPLETE (R387)
  | carabinerCommandComplete (n : Fin 16)   -- CARABINER_COMMAND_COMPLETE (R155)
  | markComplete   -- MARK_COMPLETE (R522)
  deriving DecidableEq, Repr

end Sys2Proof
end

