-- ==== Sys2Proof/Machine/Operands.lean ====
section
/-! DEFINITION. Operand forms: little-endian bytes, CRC-32C, and the fields of an OFT frame (R45, R313). -/
namespace Sys2Proof

/-- The bytes of `n`, least significant first, `k` of them. -/
def bytesLE : Nat → Nat → List Byte
  | 0, _ => []
  | k + 1, n => BitVec.ofNat 8 n :: bytesLE k (n / 256)

/-- The number whose little-endian bytes are given. -/
def leNat : List Byte → Nat
  | [] => 0
  | b :: t => b.toNat + 256 * leNat t

/-- `n` bytes of `l` from index `i`, as a little-endian number; absent bytes read zero. -/
def leAt (l : List Byte) (i n : Nat) : Nat := leNat ((l.drop i).take n)

/-- `n` copies of the byte 0xFF. -/
def allOnes (n : Nat) : List Byte := List.replicate n 0xFF#8

/-- `l` cut or padded with `b` to `n` bytes. -/
def padTo (n : Nat) (b : Byte) (l : List Byte) : List Byte := l.take n ++ List.replicate (n - l.length) b

/-- One bit of the CRC register (R313). -/
def crcBit (c : Nat) : Nat := if c % 2 = 1 then (c / 2) ^^^ 0x82f63b78 else c / 2

/-- One byte into the CRC register. -/
def crcByte (c : Nat) (b : Byte) : Nat :=
  crcBit (crcBit (crcBit (crcBit (crcBit (crcBit (crcBit (crcBit (c ^^^ b.toNat))))))))

/-- The CRC register after the bytes, from the register value `c`. -/
def crcReg (c : Nat) (l : List Byte) : Nat := l.foldl crcByte c

/-- CRC-32C of R313 with the given init. -/
def crc32c (init : Nat) (l : List Byte) : Nat := crcReg (init ^^^ 0xffffffff) l ^^^ 0xffffffff

namespace Frame

/-! Header and trailer fields of R45. -/
def ver (f : Frame) : Nat := f.w0.field 0 4
def cls (f : Frame) : Nat := f.w0.field 4 3
def kind (f : Frame) : Nat := f.w0.field 7 3
def dst (f : Frame) : Nat := f.w0.field 10 18
def src (f : Frame) : Nat := f.w0.field 28 18
def harness (f : Frame) : Nat := f.w0.field 46 12
def first (f : Frame) : Bool := f.w0.field 58 1 == 1
def last (f : Frame) : Bool := f.w0.field 59 1 == 1
def mcast (f : Frame) : Bool := f.w0.field 60 1 == 1
def anchor (f : Frame) : Bool := f.w0.field 61 1 == 1
def trav (f : Frame) : Bool := f.w0.field 62 1 == 1
def op (f : Frame) : Nat := f.w1.field 0 8
def tag (f : Frame) : Nat := f.w1.field 8 16
def flow (f : Frame) : Nat := f.w1.field 24 20
def len (f : Frame) : Nat := f.w1.field 44 13
def travDev (f : Frame) : Nat := f.w1.field 57 6
def seq (f : Frame) : Nat := f.w2.field 0 24
def frag (f : Frame) : Nat := f.w2.field 24 12
def ctx (f : Frame) : Nat := f.w2.field 36 14
def addr (f : Frame) : Nat := f.w3.field 0 52
def epoch (f : Frame) : Nat := f.w4.field 0 16
def chunk (f : Frame) : Nat := f.w4.field 16 32
def ingressTime (f : Frame) : Nat := f.w5.field 0 32
def hops (f : Frame) : Nat := f.w5.field 32 8
def check (f : Frame) : Nat := f.t0.toNat
def tstatus (f : Frame) : Nat := f.t1.field 0 8
def bad (f : Frame) : Bool := f.t1.field 8 1 == 1
def checkKind (f : Frame) : Nat := f.t1.field 9 2
def hdrCrc (f : Frame) : Nat := f.t1.field 32 32

/-- Is some reserved bit of the header or the trailer set? -/
def reservedSet (f : Frame) : Bool :=
  f.w0.field 63 1 != 0 || f.w1.field 63 1 != 0 || f.w2.field 50 14 != 0 || f.w3.field 52 12 != 0 ||
  f.w4.field 48 16 != 0 || f.w5.field 40 24 != 0 || f.t1.field 11 21 != 0

/-- The 48 header bytes in storage order. -/
def headerBytes (f : Frame) : List Byte :=
  bytesLE 8 f.w0.toNat ++ bytesLE 8 f.w1.toNat ++ bytesLE 8 f.w2.toNat ++ bytesLE 8 f.w3.toNat ++
  bytesLE 8 f.w4.toNat ++ bytesLE 8 f.w5.toNat

/-- The header CRC of R45: TRAV, TRAV_DEV and HOPS taken as zero. -/
def headerCrc (f : Frame) : Nat :=
  crc32c 0 (headerBytes { f with w0 := f.w0.withField 62 1 0, w1 := f.w1.withField 57 6 0, w5 := f.w5.withField 32 8 0 })

/-- The frame with HDR_CRC computed afresh. -/
def sealHeader (f : Frame) : Frame := { f with t1 := f.t1.withField 32 32 f.headerCrc }

def setBad (f : Frame) : Frame := { f with t1 := f.t1.withField 8 1 1 }
def setTstatus (f : Frame) (st : Nat) : Frame := { f with t1 := f.t1.withField 0 8 st }
def setAddr (f : Frame) (a : Nat) : Frame := { f with w3 := f.w3.withField 0 52 a }
def setHops (f : Frame) (n : Nat) : Frame := { f with w5 := f.w5.withField 32 8 n }
def setTrav (f : Frame) (b : Bool) : Frame := { f with w0 := f.w0.withField 62 1 (b2n b) }
def setTravDev (f : Frame) (d : Nat) : Frame := { f with w1 := f.w1.withField 57 6 d }

/-- Does the payload check of CHECK_KIND 1 and the header CRC hold (R46, R47)? -/
def checksOk (f : Frame) : Bool :=
  f.hdrCrc == f.headerCrc &&
  (f.checkKind != 1 || f.check == crc32c 0 f.payload)

/-- Bytes of the whole frame: 64 + LEN (R536). -/
def wireLen (f : Frame) : Nat := 64 + f.len

end Frame

/-- What a device fills in when it makes a frame itself: every header field, by value. -/
structure FrameSpec where
  cls : Nat := 0
  kind : Nat := 0
  dst : Nat := 0
  src : Nat := 0
  harness : Nat := 0
  anchor : Bool := false
  op : Nat := 0
  tag : Nat := 0
  flow : Nat := 0
  seq : Nat := 0
  frag : Nat := 0
  first : Bool := true
  last : Bool := true
  ctx : Nat := 0
  addr : Nat := 0
  epoch : Nat := 0
  chunk : Nat := 0
  time : Nat := 0
  status : Nat := 0
  checkKind : Nat := 1
  residue : Nat := 0
  payload : List Byte := []

/-- The frame of a specification, with its payload check and header CRC (R45, R46). -/
def FrameSpec.make (x : FrameSpec) : Frame :=
  let w0 := 1 + x.cls % 8 * 2 ^ 4 + x.kind % 8 * 2 ^ 7 + x.dst % 2 ^ 18 * 2 ^ 10 + x.src % 2 ^ 18 * 2 ^ 28 +
    x.harness % 4096 * 2 ^ 46 + b2n x.first * 2 ^ 58 + b2n x.last * 2 ^ 59 + b2n x.anchor * 2 ^ 61
  let w1 := x.op % 256 + x.tag % 65536 * 2 ^ 8 + x.flow % 2 ^ 20 * 2 ^ 24 + x.payload.length % 2 ^ 13 * 2 ^ 44
  let w2 := x.seq % 2 ^ 24 + x.frag % 4096 * 2 ^ 24 + x.ctx % 2 ^ 14 * 2 ^ 36
  let w4 := x.epoch % 65536 + x.chunk % 2 ^ 32 * 2 ^ 16
  let t0 := if x.checkKind = 1 then crc32c 0 x.payload else if x.checkKind = 2 then x.residue else 0
  let t1 := x.status % 256 + x.checkKind % 4 * 2 ^ 9
  ({ w0 := Word.ofN w0, w1 := Word.ofN w1, w2 := Word.ofN w2, w3 := Word.ofN (x.addr % 2 ^ 52), w4 := Word.ofN w4,
     w5 := Word.ofN (x.time % 2 ^ 32), payload := x.payload, t0 := Word.ofN t0, t1 := Word.ofN t1 } : Frame).sealHeader

end Sys2Proof
end

