-- ==== Sys2Proof/Config.lean ====
section
/-! DEFINITION. What one part fixes and the spec does not give a value for (fuses, the boot image, part-specific
codes), and the free values: constants without a body, so that no proof can see a value of them. -/
namespace Sys2Proof.Config

/-- HUB_GRADE.GRADE as fused: 0 A, 1 B, 2 C (R596). -/
opaque grade : Fin 3
/-- HUB_SERIAL as fused (R596). -/
opaque serial : Word
/-- Metal and base stepping as fused (R596). -/
opaque stepMinor : Fin 16
opaque stepMajor : Fin 16
/-- Fused minimum security version (R494). -/
opaque minSvn : BitVec 16
/-- Fused set voltage of crux die `n`, in mV (R485, R487). -/
opaque vsetMv : Nat → BitVec 10
/-- Fused floor of the set voltage of crux die `n`, in mV, and its upper guard, lower guard and alarm level, in ps (R485). -/
opaque vFloorMv : Nat → Nat
opaque guardUp : Nat → Nat
opaque guardLow : Nat → Nat
opaque slackAlarm : Nat → Nat
/-- Does a JTAG token match the fused unlock hash (R496)? -/
opaque tokenOk : Word → Bool
/-- Equivalence code of the part and its verified image (R406). -/
opaque equivCode : BitVec 32
/-- Image encoding revisions accepted, MIN to MAX (R287, part-specific); MAX is not below MIN. -/
opaque encMin : BitVec 16
opaque encTop : BitVec 16
def encMax : BitVec 16 := if encMin.toNat ≤ encTop.toNat then encTop else encMin
/-- The configuration block of the verified image: fault-channel address, DHCP, manager address and key (R525, R533). -/
opaque imageIpv4 : BitVec 32
opaque imageDhcp : Bool
opaque imageMgr : BitVec 32
opaque imageKey : Nat → Word
/-- The facts the loader reads from the bytes of an image: the encoding is published nowhere (R253, R257, R261). -/
opaque image : List Byte → Image
/-- The DEVICE FEID of the device with a plane index in another plane of the federation: no table of the device holds it
(R72, R353). -/
opaque fedFeid : Nat → Nat → BitVec 18
/-- Where an expert store's grant begins among the H offsets that could hold it, by the words of its descriptor: the same on
every device of the store and at every CREATE from the same words (R379, R519). -/
opaque storePick : List Word → Nat
/-- The free word number `k`: a value the spec leaves open. The machine reads number `k` once and counts on. -/
opaque freeWord : Nat → Word
/-- Byte `j` of the free block number `k`. -/
opaque freeByte : Nat → Nat → Byte

end Sys2Proof.Config
end

