-- ==== Sys2Proof/Machine/RegMap.lean ====
section
/-! DEFINITION. The register map of BAR0 (spec/22_address_map.md R590 to R594 and the register tables of
every chapter): one address function per register, one field descriptor per field, the access masks that a write
follows (R8, R9), and the value every register has after reset. -/
namespace Sys2Proof.Machine

/-- A field of a 64-bit register: the register's BAR0 offset, the field's lowest bit and its width. -/
structure Rf where
  a  : Nat
  lo : Nat
  w  : Nat
  deriving DecidableEq, Repr

/-- Window of crux die `n` (R11, R593). -/
def cruxBase (n : Nat) : Nat := 0x01000000 + n * 0x00100000
/-- Register block of port `P`: 0 to 767 the endpoint ports, 768 + t torus port t (R12 to R14, R594, R96). -/
def portBase (P : Nat) : Nat :=
  if P < 768 then 0x02001000 + (P / 48) * 0x00100000 + (P % 48) * 0x200
  else 0x02081000 + ((P - 768) / 24) * 0x00100000 + ((P - 768) % 24) * 0x200
/-- Register block of core `k` (R176, R202). -/
def coreBase (k : Nat) : Nat := 0x01010000 + (k / 32) * 0x00100000 + (k % 32) * 0x100
/-- Register block of pool `p` (R468). -/
def poolBase (p : Nat) : Nat := 0x01070000 + (p / 4) * 0x00100000 + (p % 4) * 0x1000

/-- HUB_XDOM_FENCE (R35). -/
def HUB_XDOM_FENCE.a : Nat := 0x180
def HUB_XDOM_FENCE.CRUX : Rf := ⟨HUB_XDOM_FENCE.a, 0, 1⟩
def HUB_XDOM_FENCE.PORT : Rf := ⟨HUB_XDOM_FENCE.a, 1, 1⟩
def HUB_XDOM_FENCE.HBM : Rf := ⟨HUB_XDOM_FENCE.a, 2, 1⟩
def HUB_XDOM_FENCE.TIME : Rf := ⟨HUB_XDOM_FENCE.a, 3, 1⟩
def HUB_XDOM_FENCE.POWER : Rf := ⟨HUB_XDOM_FENCE.a, 4, 1⟩
def HUB_XDOM_FENCE.HARNESS : Rf := ⟨HUB_XDOM_FENCE.a, 5, 1⟩
/-- PRT_PORT_CTL (R62). -/
def PRT_PORT_CTL.a (P : Nat) : Nat := portBase P
def PRT_PORT_CTL.ENABLE (P : Nat) : Rf := ⟨PRT_PORT_CTL.a P, 0, 1⟩
def PRT_PORT_CTL.DRAIN (P : Nat) : Rf := ⟨PRT_PORT_CTL.a P, 1, 1⟩
def PRT_PORT_CTL.RETRAIN (P : Nat) : Rf := ⟨PRT_PORT_CTL.a P, 2, 1⟩
def PRT_PORT_CTL.MODE (P : Nat) : Rf := ⟨PRT_PORT_CTL.a P, 3, 2⟩
def PRT_PORT_CTL.BOND (P : Nat) : Rf := ⟨PRT_PORT_CTL.a P, 5, 1⟩
def PRT_PORT_CTL.MACSEC (P : Nat) : Rf := ⟨PRT_PORT_CTL.a P, 6, 1⟩
def PRT_PORT_CTL.CLASS_MASK (P : Nat) : Rf := ⟨PRT_PORT_CTL.a P, 8, 8⟩
def PRT_PORT_CTL.ADMIT (P : Nat) : Rf := ⟨PRT_PORT_CTL.a P, 16, 1⟩
def PRT_PORT_CTL.EVICT (P : Nat) : Rf := ⟨PRT_PORT_CTL.a P, 17, 1⟩
/-- PRT_PORT_STS (R63). -/
def PRT_PORT_STS.a (P : Nat) : Nat := portBase P + 0x8
def PRT_PORT_STS.STATE (P : Nat) : Rf := ⟨PRT_PORT_STS.a P, 0, 4⟩
def PRT_PORT_STS.LINK_UP (P : Nat) : Rf := ⟨PRT_PORT_STS.a P, 4, 1⟩
def PRT_PORT_STS.EMPTY (P : Nat) : Rf := ⟨PRT_PORT_STS.a P, 5, 1⟩
def PRT_PORT_STS.SPARE_USED (P : Nat) : Rf := ⟨PRT_PORT_STS.a P, 6, 1⟩
def PRT_PORT_STS.RX_EXPECT (P : Nat) : Rf := ⟨PRT_PORT_STS.a P, 8, 24⟩
def PRT_PORT_STS.TX_OLDEST (P : Nat) : Rf := ⟨PRT_PORT_STS.a P, 32, 24⟩
def PRT_PORT_STS.RETRAINS (P : Nat) : Rf := ⟨PRT_PORT_STS.a P, 56, 8⟩
/-- PRT_PORT_ID (R63). -/
def PRT_PORT_ID.a (P : Nat) : Nat := portBase P + 0x10
def PRT_PORT_ID.FEID (P : Nat) : Rf := ⟨PRT_PORT_ID.a P, 0, 18⟩
def PRT_PORT_ID.HARNESS (P : Nat) : Rf := ⟨PRT_PORT_ID.a P, 18, 12⟩
def PRT_PORT_ID.ADMIT_EPOCH (P : Nat) : Rf := ⟨PRT_PORT_ID.a P, 32, 32⟩
/-- PRT_BELAY_CFG (R64). -/
def PRT_BELAY_CFG.a (P : Nat) : Nat := portBase P + 0x18
def PRT_BELAY_CFG.ACK_TIMEOUT (P : Nat) : Rf := ⟨PRT_BELAY_CFG.a P, 0, 20⟩
def PRT_BELAY_CFG.ACK_DELAY (P : Nat) : Rf := ⟨PRT_BELAY_CFG.a P, 20, 8⟩
def PRT_BELAY_CFG.REPLAY_LIMIT (P : Nat) : Rf := ⟨PRT_BELAY_CFG.a P, 28, 4⟩
/-- PRT_UDP_CFG0 (R65). -/
def PRT_UDP_CFG0.a (P : Nat) : Nat := portBase P + 0x60
def PRT_UDP_CFG0.PEER_IPV4 (P : Nat) : Rf := ⟨PRT_UDP_CFG0.a P, 0, 32⟩
def PRT_UDP_CFG0.LOCAL_IPV4 (P : Nat) : Rf := ⟨PRT_UDP_CFG0.a P, 32, 32⟩
/-- PRT_UDP_CFG1 (R65). -/
def PRT_UDP_CFG1.a (P : Nat) : Nat := portBase P + 0x68
def PRT_UDP_CFG1.PEER_MAC (P : Nat) : Rf := ⟨PRT_UDP_CFG1.a P, 0, 48⟩
def PRT_UDP_CFG1.UDP_PORT (P : Nat) : Rf := ⟨PRT_UDP_CFG1.a P, 48, 16⟩
/-- PRT_UDP_CFG2 (R65). -/
def PRT_UDP_CFG2.a (P : Nat) : Nat := portBase P + 0x70
def PRT_UDP_CFG2.LOCAL_MAC (P : Nat) : Rf := ⟨PRT_UDP_CFG2.a P, 0, 48⟩
def PRT_UDP_CFG2.VID (P : Nat) : Rf := ⟨PRT_UDP_CFG2.a P, 48, 12⟩
def PRT_UDP_CFG2.VLAN_EN (P : Nat) : Rf := ⟨PRT_UDP_CFG2.a P, 60, 1⟩
/-- PRT_MACSEC_CTL (R65). -/
def PRT_MACSEC_CTL.a (P : Nat) : Nat := portBase P + 0x80
def PRT_MACSEC_CTL.XPN (P : Nat) : Rf := ⟨PRT_MACSEC_CTL.a P, 0, 1⟩
def PRT_MACSEC_CTL.ENCRYPT (P : Nat) : Rf := ⟨PRT_MACSEC_CTL.a P, 1, 1⟩
def PRT_MACSEC_CTL.TX_AN (P : Nat) : Rf := ⟨PRT_MACSEC_CTL.a P, 2, 2⟩
def PRT_MACSEC_CTL.TX_SA (P : Nat) : Rf := ⟨PRT_MACSEC_CTL.a P, 4, 1⟩
def PRT_MACSEC_CTL.ETYPE (P : Nat) : Rf := ⟨PRT_MACSEC_CTL.a P, 16, 16⟩
/-- PRT_MACSEC_PN (R65). -/
def PRT_MACSEC_PN.a (P : Nat) : Nat := portBase P + 0x88
def PRT_MACSEC_PN.V (P : Nat) : Rf := ⟨PRT_MACSEC_PN.a P, 0, 64⟩
/-- PRT_MACSEC_KSEL (R65). -/
def PRT_MACSEC_KSEL.a (P : Nat) : Nat := portBase P + 0x90
def PRT_MACSEC_KSEL.SA (P : Nat) : Rf := ⟨PRT_MACSEC_KSEL.a P, 0, 2⟩
def PRT_MACSEC_KSEL.LOAD (P : Nat) : Rf := ⟨PRT_MACSEC_KSEL.a P, 2, 1⟩
/-- PRT_MACSEC_KEY (R65). -/
def PRT_MACSEC_KEY.a (P : Nat) (i : Nat) : Nat := portBase P + 0x98 + 0x8 * i
def PRT_MACSEC_KEY.V (P : Nat) (i : Nat) : Rf := ⟨PRT_MACSEC_KEY.a P i, 0, 64⟩
/-- PRT_GW_PEER0 (R66). -/
def PRT_GW_PEER0.a (P : Nat) : Nat := portBase P + 0xC8
def PRT_GW_PEER0.FEID_LO (P : Nat) : Rf := ⟨PRT_GW_PEER0.a P, 0, 18⟩
def PRT_GW_PEER0.FEID_HI (P : Nat) : Rf := ⟨PRT_GW_PEER0.a P, 32, 18⟩
def PRT_GW_PEER0.FPLANE (P : Nat) : Rf := ⟨PRT_GW_PEER0.a P, 50, 2⟩
def PRT_GW_PEER0.VALID (P : Nat) : Rf := ⟨PRT_GW_PEER0.a P, 52, 1⟩
/-- PRT_GW_PEER1 (R66). -/
def PRT_GW_PEER1.a (P : Nat) : Nat := portBase P + 0xD0
def PRT_GW_PEER1.PLANE_ID (P : Nat) : Rf := ⟨PRT_GW_PEER1.a P, 0, 32⟩
/-- PRT_GW_HSET (R66). -/
def PRT_GW_HSET.a (P : Nat) (w : Nat) : Nat := portBase P + 0xD8 + 0x8 * w
def PRT_GW_HSET.LO0 (P : Nat) (w : Nat) : Rf := ⟨PRT_GW_HSET.a P w, 0, 12⟩
def PRT_GW_HSET.HI0 (P : Nat) (w : Nat) : Rf := ⟨PRT_GW_HSET.a P w, 12, 12⟩
def PRT_GW_HSET.VALID0 (P : Nat) (w : Nat) : Rf := ⟨PRT_GW_HSET.a P w, 24, 1⟩
def PRT_GW_HSET.LO1 (P : Nat) (w : Nat) : Rf := ⟨PRT_GW_HSET.a P w, 32, 12⟩
def PRT_GW_HSET.HI1 (P : Nat) (w : Nat) : Rf := ⟨PRT_GW_HSET.a P w, 44, 12⟩
def PRT_GW_HSET.VALID1 (P : Nat) (w : Nat) : Rf := ⟨PRT_GW_HSET.a P w, 56, 1⟩
/-- PRT_CNT_FEC_CORR (R68). -/
def PRT_CNT_FEC_CORR.a (P : Nat) : Nat := portBase P + 0x100
def PRT_CNT_FEC_CORR.V (P : Nat) : Rf := ⟨PRT_CNT_FEC_CORR.a P, 0, 64⟩
/-- PRT_CNT_FEC_UNCORR (R68). -/
def PRT_CNT_FEC_UNCORR.a (P : Nat) : Nat := portBase P + 0x108
def PRT_CNT_FEC_UNCORR.V (P : Nat) : Rf := ⟨PRT_CNT_FEC_UNCORR.a P, 0, 64⟩
/-- PRT_CNT_LINK_ERR (R68). -/
def PRT_CNT_LINK_ERR.a (P : Nat) : Nat := portBase P + 0x110
def PRT_CNT_LINK_ERR.V (P : Nat) : Rf := ⟨PRT_CNT_LINK_ERR.a P, 0, 64⟩
/-- PRT_CNT_NAK (R68). -/
def PRT_CNT_NAK.a (P : Nat) : Nat := portBase P + 0x118
def PRT_CNT_NAK.V (P : Nat) : Rf := ⟨PRT_CNT_NAK.a P, 0, 64⟩
/-- PRT_CNT_DUP (R68). -/
def PRT_CNT_DUP.a (P : Nat) : Nat := portBase P + 0x120
def PRT_CNT_DUP.V (P : Nat) : Rf := ⟨PRT_CNT_DUP.a P, 0, 64⟩
/-- PRT_CNT_REPLAY (R68). -/
def PRT_CNT_REPLAY.a (P : Nat) : Nat := portBase P + 0x128
def PRT_CNT_REPLAY.V (P : Nat) : Rf := ⟨PRT_CNT_REPLAY.a P, 0, 64⟩
/-- PRT_CNT_LOST (R68). -/
def PRT_CNT_LOST.a (P : Nat) : Nat := portBase P + 0x130
def PRT_CNT_LOST.V (P : Nat) : Rf := ⟨PRT_CNT_LOST.a P, 0, 64⟩
/-- PRT_CNT_MALFORMED (R68). -/
def PRT_CNT_MALFORMED.a (P : Nat) : Nat := portBase P + 0x138
def PRT_CNT_MALFORMED.V (P : Nat) : Rf := ⟨PRT_CNT_MALFORMED.a P, 0, 64⟩
/-- PRT_CNT_DENIED (R68). -/
def PRT_CNT_DENIED.a (P : Nat) : Nat := portBase P + 0x140
def PRT_CNT_DENIED.V (P : Nat) : Rf := ⟨PRT_CNT_DENIED.a P, 0, 64⟩
/-- PRT_CNT_ABORTED (R68). -/
def PRT_CNT_ABORTED.a (P : Nat) : Nat := portBase P + 0x148
def PRT_CNT_ABORTED.V (P : Nat) : Rf := ⟨PRT_CNT_ABORTED.a P, 0, 64⟩
/-- PRT_CNT_ABSENT (R68). -/
def PRT_CNT_ABSENT.a (P : Nat) : Nat := portBase P + 0x150
def PRT_CNT_ABSENT.V (P : Nat) : Rf := ⟨PRT_CNT_ABSENT.a P, 0, 64⟩
/-- PRT_CNT_MACSEC_DROP (R68). -/
def PRT_CNT_MACSEC_DROP.a (P : Nat) : Nat := portBase P + 0x158
def PRT_CNT_MACSEC_DROP.V (P : Nat) : Rf := ⟨PRT_CNT_MACSEC_DROP.a P, 0, 64⟩
/-- PRT_CNT_UDP_DROP (R68). -/
def PRT_CNT_UDP_DROP.a (P : Nat) : Nat := portBase P + 0x160
def PRT_CNT_UDP_DROP.V (P : Nat) : Rf := ⟨PRT_CNT_UDP_DROP.a P, 0, 64⟩
/-- TEL_MIR_CTL (R97). -/
def TEL_MIR_CTL.a (m : Nat) : Nat := 0x00381000 + m * 0x40
def TEL_MIR_CTL.KIND (m : Nat) : Rf := ⟨TEL_MIR_CTL.a m, 0, 2⟩
def TEL_MIR_CTL.POINT (m : Nat) : Rf := ⟨TEL_MIR_CTL.a m, 2, 1⟩
def TEL_MIR_CTL.PORT_SEL (m : Nat) : Rf := ⟨TEL_MIR_CTL.a m, 3, 2⟩
def TEL_MIR_CTL.DIE (m : Nat) : Rf := ⟨TEL_MIR_CTL.a m, 5, 4⟩
def TEL_MIR_CTL.PORT (m : Nat) : Rf := ⟨TEL_MIR_CTL.a m, 9, 11⟩
def TEL_MIR_CTL.CLASS_MASK (m : Nat) : Rf := ⟨TEL_MIR_CTL.a m, 20, 8⟩
def TEL_MIR_CTL.KIND_MASK (m : Nat) : Rf := ⟨TEL_MIR_CTL.a m, 28, 8⟩
def TEL_MIR_CTL.HARNESS (m : Nat) : Rf := ⟨TEL_MIR_CTL.a m, 36, 12⟩
def TEL_MIR_CTL.HARNESS_EN (m : Nat) : Rf := ⟨TEL_MIR_CTL.a m, 48, 1⟩
def TEL_MIR_CTL.BAD_ONLY (m : Nat) : Rf := ⟨TEL_MIR_CTL.a m, 49, 1⟩
def TEL_MIR_CTL.STOP_ON_FULL (m : Nat) : Rf := ⟨TEL_MIR_CTL.a m, 50, 1⟩
/-- TEL_MIR_N (R97). -/
def TEL_MIR_N.a (m : Nat) : Nat := 0x00381000 + m * 0x40 + 0x8
def TEL_MIR_N.V (m : Nat) : Rf := ⟨TEL_MIR_N.a m, 0, 24⟩
/-- TEL_MIR_RING_BASE (R97). -/
def TEL_MIR_RING_BASE.a (m : Nat) : Nat := 0x00381000 + m * 0x40 + 0x10
def TEL_MIR_RING_BASE.V (m : Nat) : Rf := ⟨TEL_MIR_RING_BASE.a m, 0, 40⟩
/-- TEL_MIR_RING_LOG2 (R97). -/
def TEL_MIR_RING_LOG2.a (m : Nat) : Nat := 0x00381000 + m * 0x40 + 0x18
def TEL_MIR_RING_LOG2.V (m : Nat) : Rf := ⟨TEL_MIR_RING_LOG2.a m, 0, 6⟩
/-- TEL_MIR_WPTR (R97). -/
def TEL_MIR_WPTR.a (m : Nat) : Nat := 0x00381000 + m * 0x40 + 0x20
def TEL_MIR_WPTR.V (m : Nat) : Rf := ⟨TEL_MIR_WPTR.a m, 0, 64⟩
/-- TEL_MIR_MATCH (R97). -/
def TEL_MIR_MATCH.a (m : Nat) : Nat := 0x00381000 + m * 0x40 + 0x28
def TEL_MIR_MATCH.V (m : Nat) : Rf := ⟨TEL_MIR_MATCH.a m, 0, 64⟩
/-- TEL_MIR_DROP (R97). -/
def TEL_MIR_DROP.a (m : Nat) : Nat := 0x00381000 + m * 0x40 + 0x30
def TEL_MIR_DROP.V (m : Nat) : Rf := ⟨TEL_MIR_DROP.a m, 0, 64⟩
/-- FWD_CFG (R98). -/
def FWD_CFG.a (n : Nat) : Nat := cruxBase n + 0x80000
def FWD_CFG.HASH_SEED (n : Nat) : Rf := ⟨FWD_CFG.a n, 0, 32⟩
def FWD_CFG.CUT_EN (n : Nat) : Rf := ⟨FWD_CFG.a n, 32, 1⟩
/-- FWD_TBL_CTL (R98). -/
def FWD_TBL_CTL.a (n : Nat) : Nat := cruxBase n + 0x80000 + 0x10
def FWD_TBL_CTL.TABLE (n : Nat) : Rf := ⟨FWD_TBL_CTL.a n, 0, 2⟩
def FWD_TBL_CTL.INDEX (n : Nat) : Rf := ⟨FWD_TBL_CTL.a n, 2, 20⟩
def FWD_TBL_CTL.WORD (n : Nat) : Rf := ⟨FWD_TBL_CTL.a n, 22, 1⟩
def FWD_TBL_CTL.AUTOINC (n : Nat) : Rf := ⟨FWD_TBL_CTL.a n, 23, 1⟩
def FWD_TBL_CTL.ALL (n : Nat) : Rf := ⟨FWD_TBL_CTL.a n, 24, 1⟩
/-- FWD_TBL_DATA (R98). -/
def FWD_TBL_DATA.a (n : Nat) : Nat := cruxBase n + 0x80000 + 0x18
def FWD_TBL_DATA.V (n : Nat) : Rf := ⟨FWD_TBL_DATA.a n, 0, 64⟩
/-- FWD_ROUTE_CFG (R98). -/
def FWD_ROUTE_CFG.a (n : Nat) (c : Nat) : Nat := cruxBase n + 0x80000 + 0x40 + 0x8 * c
def FWD_ROUTE_CFG.TRAV_MODE (n : Nat) (c : Nat) : Rf := ⟨FWD_ROUTE_CFG.a n c, 0, 2⟩
def FWD_ROUTE_CFG.TRAV_FRAC (n : Nat) (c : Nat) : Rf := ⟨FWD_ROUTE_CFG.a n c, 2, 8⟩
/-- FWD_DEV_EXCLUDE (R98). -/
def FWD_DEV_EXCLUDE.a (n : Nat) : Nat := cruxBase n + 0x80000 + 0x80
def FWD_DEV_EXCLUDE.V (n : Nat) : Rf := ⟨FWD_DEV_EXCLUDE.a n, 0, 64⟩
/-- FWD_HOLD_CFG (R98). -/
def FWD_HOLD_CFG.a (n : Nat) (q : Nat) : Nat := cruxBase n + 0x80000 + 0x100 + 0x8 * q
def FWD_HOLD_CFG.HOLD_CELLS (n : Nat) (q : Nat) : Rf := ⟨FWD_HOLD_CFG.a n q, 0, 12⟩
def FWD_HOLD_CFG.XOFF_ON (n : Nat) (q : Nat) : Rf := ⟨FWD_HOLD_CFG.a n q, 12, 12⟩
def FWD_HOLD_CFG.XOFF_OFF (n : Nat) (q : Nat) : Rf := ⟨FWD_HOLD_CFG.a n q, 24, 12⟩
/-- FWD_QLIMIT (R98). -/
def FWD_QLIMIT.a (n : Nat) (q : Nat) (c : Nat) : Nat := cruxBase n + 0x80000 + 0x400 + 0x40 * q + 0x8 * c
def FWD_QLIMIT.CELLS (n : Nat) (q : Nat) (c : Nat) : Rf := ⟨FWD_QLIMIT.a n q c, 0, 20⟩
/-- FWD_CNT_FRAMES (R100). -/
def FWD_CNT_FRAMES.a (n : Nat) : Nat := cruxBase n + 0x80000 + 0x2000
def FWD_CNT_FRAMES.V (n : Nat) : Rf := ⟨FWD_CNT_FRAMES.a n, 0, 64⟩
/-- FWD_CNT_CUT (R100). -/
def FWD_CNT_CUT.a (n : Nat) : Nat := cruxBase n + 0x80000 + 0x2008
def FWD_CNT_CUT.V (n : Nat) : Rf := ⟨FWD_CNT_CUT.a n, 0, 64⟩
/-- FWD_CNT_SAF (R100). -/
def FWD_CNT_SAF.a (n : Nat) : Nat := cruxBase n + 0x80000 + 0x2010
def FWD_CNT_SAF.V (n : Nat) : Rf := ⟨FWD_CNT_SAF.a n, 0, 64⟩
/-- FWD_CNT_BAD_MARKED (R100). -/
def FWD_CNT_BAD_MARKED.a (n : Nat) : Nat := cruxBase n + 0x80000 + 0x2018
def FWD_CNT_BAD_MARKED.V (n : Nat) : Rf := ⟨FWD_CNT_BAD_MARKED.a n, 0, 64⟩
/-- FWD_CNT_BAD_DISCARD (R100). -/
def FWD_CNT_BAD_DISCARD.a (n : Nat) : Nat := cruxBase n + 0x80000 + 0x2020
def FWD_CNT_BAD_DISCARD.V (n : Nat) : Rf := ⟨FWD_CNT_BAD_DISCARD.a n, 0, 64⟩
/-- FWD_CNT_NOROUTE (R100). -/
def FWD_CNT_NOROUTE.a (n : Nat) : Nat := cruxBase n + 0x80000 + 0x2028
def FWD_CNT_NOROUTE.V (n : Nat) : Rf := ⟨FWD_CNT_NOROUTE.a n, 0, 64⟩
/-- FWD_CNT_HOLD_DROP (R100). -/
def FWD_CNT_HOLD_DROP.a (n : Nat) : Nat := cruxBase n + 0x80000 + 0x2030
def FWD_CNT_HOLD_DROP.V (n : Nat) : Rf := ⟨FWD_CNT_HOLD_DROP.a n, 0, 64⟩
/-- FWD_CNT_TRAV (R100). -/
def FWD_CNT_TRAV.a (n : Nat) : Nat := cruxBase n + 0x80000 + 0x2038
def FWD_CNT_TRAV.V (n : Nat) : Rf := ⟨FWD_CNT_TRAV.a n, 0, 64⟩
/-- FWD_CNT_MCAST_COPY (R100). -/
def FWD_CNT_MCAST_COPY.a (n : Nat) : Nat := cruxBase n + 0x80000 + 0x2040
def FWD_CNT_MCAST_COPY.V (n : Nat) : Rf := ⟨FWD_CNT_MCAST_COPY.a n, 0, 64⟩
/-- FWD_CNT_STEERED (R100). -/
def FWD_CNT_STEERED.a (n : Nat) : Nat := cruxBase n + 0x80000 + 0x2048
def FWD_CNT_STEERED.V (n : Nat) : Rf := ⟨FWD_CNT_STEERED.a n, 0, 64⟩
/-- FWD_CNT_CTX_DENIED (R100). -/
def FWD_CNT_CTX_DENIED.a (n : Nat) : Nat := cruxBase n + 0x80000 + 0x2050
def FWD_CNT_CTX_DENIED.V (n : Nat) : Rf := ⟨FWD_CNT_CTX_DENIED.a n, 0, 64⟩
/-- FWD_CNT_XOFF (R100). -/
def FWD_CNT_XOFF.a (n : Nat) : Nat := cruxBase n + 0x80000 + 0x2058
def FWD_CNT_XOFF.V (n : Nat) : Rf := ⟨FWD_CNT_XOFF.a n, 0, 64⟩
/-- FWD_CNT_REROUTE (R100). -/
def FWD_CNT_REROUTE.a (n : Nat) : Nat := cruxBase n + 0x80000 + 0x2060
def FWD_CNT_REROUTE.V (n : Nat) : Rf := ⟨FWD_CNT_REROUTE.a n, 0, 64⟩
/-- FWD_BUF_USED (R100). -/
def FWD_BUF_USED.a (n : Nat) : Nat := cruxBase n + 0x80000 + 0x2068
def FWD_BUF_USED.V (n : Nat) : Rf := ⟨FWD_BUF_USED.a n, 0, 64⟩
/-- SCH_WFQ_WEIGHT_EP (R124). -/
def SCH_WFQ_WEIGHT_EP.a (n : Nat) : Nat := cruxBase n + 0x90000
def SCH_WFQ_WEIGHT_EP.W (n : Nat) : Rf := ⟨SCH_WFQ_WEIGHT_EP.a n, 0, 56⟩
/-- SCH_WFQ_WEIGHT_TOR (R124). -/
def SCH_WFQ_WEIGHT_TOR.a (n : Nat) : Nat := cruxBase n + 0x90000 + 0x8
def SCH_WFQ_WEIGHT_TOR.W (n : Nat) : Rf := ⟨SCH_WFQ_WEIGHT_TOR.a n, 0, 56⟩
/-- SCH_HWM_CLR (R124). -/
def SCH_HWM_CLR.a (n : Nat) : Nat := cruxBase n + 0x90000 + 0x20
def SCH_HWM_CLR.PORT (n : Nat) : Rf := ⟨SCH_HWM_CLR.a n, 0, 7⟩
def SCH_HWM_CLR.CLASS_MASK (n : Nat) : Rf := ⟨SCH_HWM_CLR.a n, 7, 8⟩
/-- SCH_QSTAT (R124). -/
def SCH_QSTAT.a (n : Nat) (q : Nat) (c : Nat) : Nat := cruxBase n + 0x90000 + 0x4000 + 0x40 * q + 0x8 * c
def SCH_QSTAT.DEPTH (n : Nat) (q : Nat) (c : Nat) : Rf := ⟨SCH_QSTAT.a n q c, 0, 20⟩
def SCH_QSTAT.HWM_DEPTH (n : Nat) (q : Nat) (c : Nat) : Rf := ⟨SCH_QSTAT.a n q c, 20, 20⟩
def SCH_QSTAT.HWM_RES (n : Nat) (q : Nat) (c : Nat) : Rf := ⟨SCH_QSTAT.a n q c, 40, 24⟩
/-- SCH_PGROUP (R124). -/
def SCH_PGROUP.a (n : Nat) (j : Nat) : Nat := cruxBase n + 0x90000 + 0x8000 + 0x8 * j
def SCH_PGROUP.V (n : Nat) (j : Nat) : Rf := ⟨SCH_PGROUP.a n j, 0, 64⟩
/-- SCH_CNT_PITCH_WAIT (R125). -/
def SCH_CNT_PITCH_WAIT.a (n : Nat) : Nat := cruxBase n + 0x90000 + 0x2000
def SCH_CNT_PITCH_WAIT.V (n : Nat) : Rf := ⟨SCH_CNT_PITCH_WAIT.a n, 0, 64⟩
/-- SCH_CNT_UNSCHED (R125). -/
def SCH_CNT_UNSCHED.a (n : Nat) : Nat := cruxBase n + 0x90000 + 0x2008
def SCH_CNT_UNSCHED.V (n : Nat) : Rf := ⟨SCH_CNT_UNSCHED.a n, 0, 64⟩
/-- SCH_CNT_FALLBACK (R125). -/
def SCH_CNT_FALLBACK.a (n : Nat) : Nat := cruxBase n + 0x90000 + 0x2010
def SCH_CNT_FALLBACK.V (n : Nat) : Rf := ⟨SCH_CNT_FALLBACK.a n, 0, 64⟩
/-- SCH_CNT_LATE (R125). -/
def SCH_CNT_LATE.a (n : Nat) : Nat := cruxBase n + 0x90000 + 0x2018
def SCH_CNT_LATE.V (n : Nat) : Rf := ⟨SCH_CNT_LATE.a n, 0, 64⟩
/-- SCH_CNT_C7_HELD (R125). -/
def SCH_CNT_C7_HELD.a (n : Nat) : Nat := cruxBase n + 0x90000 + 0x2020
def SCH_CNT_C7_HELD.V (n : Nat) : Rf := ⟨SCH_CNT_C7_HELD.a n, 0, 64⟩
/-- TIM_NOW (R126). -/
def TIM_NOW.a : Nat := 0x003C0000
def TIM_NOW.V : Rf := ⟨TIM_NOW.a, 0, 64⟩
/-- TIM_CTL (R126). -/
def TIM_CTL.a : Nat := 0x003C0000 + 0x8
def TIM_CTL.SOURCE : Rf := ⟨TIM_CTL.a, 0, 2⟩
def TIM_CTL.ROOT : Rf := ⟨TIM_CTL.a, 2, 6⟩
/-- TIM_GUARD (R126). -/
def TIM_GUARD.a : Nat := 0x003C0000 + 0x10
def TIM_GUARD.V : Rf := ⟨TIM_GUARD.a, 0, 10⟩
/-- TIM_STS (R126). -/
def TIM_STS.a : Nat := 0x003C0000 + 0x18
def TIM_STS.LOCKED : Rf := ⟨TIM_STS.a, 0, 1⟩
def TIM_STS.DRIFT : Rf := ⟨TIM_STS.a, 1, 1⟩
def TIM_STS.PARENT_PORT : Rf := ⟨TIM_STS.a, 2, 9⟩
/-- TIM_OFFSET_EST (R126). -/
def TIM_OFFSET_EST.a : Nat := 0x003C0000 + 0x20
def TIM_OFFSET_EST.V : Rf := ⟨TIM_OFFSET_EST.a, 0, 32⟩
/-- TIM_SYNC_CFG (R126). -/
def TIM_SYNC_CFG.a : Nat := 0x003C0000 + 0x28
def TIM_SYNC_CFG.INTERVAL : Rf := ⟨TIM_SYNC_CFG.a, 0, 10⟩
/-- TIM_PPS_SECONDS (R126). -/
def TIM_PPS_SECONDS.a : Nat := 0x003C0000 + 0x30
def TIM_PPS_SECONDS.V : Rf := ⟨TIM_PPS_SECONDS.a, 0, 64⟩
/-- TIM_GATE_CTL (R126). -/
def TIM_GATE_CTL.a : Nat := 0x003C0000 + 0x40
def TIM_GATE_CTL.MODE : Rf := ⟨TIM_GATE_CTL.a, 0, 1⟩
def TIM_GATE_CTL.ACTIVE_BANK : Rf := ⟨TIM_GATE_CTL.a, 1, 1⟩
def TIM_GATE_CTL.ARM : Rf := ⟨TIM_GATE_CTL.a, 2, 1⟩
def TIM_GATE_CTL.PENDING : Rf := ⟨TIM_GATE_CTL.a, 3, 1⟩
def TIM_GATE_CTL.LEN_A : Rf := ⟨TIM_GATE_CTL.a, 4, 11⟩
def TIM_GATE_CTL.LEN_B : Rf := ⟨TIM_GATE_CTL.a, 15, 11⟩
def TIM_GATE_CTL.DISARM : Rf := ⟨TIM_GATE_CTL.a, 26, 1⟩
/-- TIM_GATE_BASE (R126). -/
def TIM_GATE_BASE.a : Nat := 0x003C0000 + 0x48
def TIM_GATE_BASE.V : Rf := ⟨TIM_GATE_BASE.a, 0, 64⟩
/-- TIM_GATE_SWITCH (R126). -/
def TIM_GATE_SWITCH.a : Nat := 0x003C0000 + 0x50
def TIM_GATE_SWITCH.V : Rf := ⟨TIM_GATE_SWITCH.a, 0, 64⟩
/-- TIM_GATE_PERIOD (R126). -/
def TIM_GATE_PERIOD.a : Nat := 0x003C0000 + 0x58
def TIM_GATE_PERIOD.V : Rf := ⟨TIM_GATE_PERIOD.a, 0, 64⟩
/-- TIM_GATE_TBL_CTL (R126). -/
def TIM_GATE_TBL_CTL.a : Nat := 0x003C0000 + 0x60
def TIM_GATE_TBL_CTL.BANK : Rf := ⟨TIM_GATE_TBL_CTL.a, 0, 1⟩
def TIM_GATE_TBL_CTL.INDEX : Rf := ⟨TIM_GATE_TBL_CTL.a, 1, 10⟩
def TIM_GATE_TBL_CTL.WORD : Rf := ⟨TIM_GATE_TBL_CTL.a, 11, 1⟩
def TIM_GATE_TBL_CTL.AUTOINC : Rf := ⟨TIM_GATE_TBL_CTL.a, 12, 1⟩
/-- TIM_GATE_TBL_DATA (R126). -/
def TIM_GATE_TBL_DATA.a : Nat := 0x003C0000 + 0x68
def TIM_GATE_TBL_DATA.V : Rf := ⟨TIM_GATE_TBL_DATA.a, 0, 64⟩
/-- MFB_CFG (R155). -/
def MFB_CFG.a (n : Nat) : Nat := cruxBase n + 0xA0000
def MFB_CFG.COMBINE_EN (n : Nat) : Rf := ⟨MFB_CFG.a n, 0, 1⟩
def MFB_CFG.WINDOW (n : Nat) : Rf := ⟨MFB_CFG.a n, 1, 12⟩
def MFB_CFG.TIMEOUT_US (n : Nat) : Rf := ⟨MFB_CFG.a n, 13, 14⟩
/-- MFB_CAR_CMD (R155). -/
def MFB_CAR_CMD.a (n : Nat) : Nat := cruxBase n + 0xA0000 + 0x10
def MFB_CAR_CMD.OP (n : Nat) : Rf := ⟨MFB_CAR_CMD.a n, 0, 2⟩
def MFB_CAR_CMD.SLOT (n : Nat) : Rf := ⟨MFB_CAR_CMD.a n, 2, 16⟩
def MFB_CAR_CMD.ALL (n : Nat) : Rf := ⟨MFB_CAR_CMD.a n, 18, 1⟩
def MFB_CAR_CMD.BUSY (n : Nat) : Rf := ⟨MFB_CAR_CMD.a n, 19, 1⟩
def MFB_CAR_CMD.STATUS (n : Nat) : Rf := ⟨MFB_CAR_CMD.a n, 20, 8⟩
/-- MFB_CAR_W0 (R155). -/
def MFB_CAR_W0.a (n : Nat) : Nat := cruxBase n + 0xA0000 + 0x18
def MFB_CAR_W0.V (n : Nat) : Rf := ⟨MFB_CAR_W0.a n, 0, 64⟩
/-- MFB_CAR_W1 (R155). -/
def MFB_CAR_W1.a (n : Nat) : Nat := cruxBase n + 0xA0000 + 0x20
def MFB_CAR_W1.V (n : Nat) : Rf := ⟨MFB_CAR_W1.a n, 0, 64⟩
/-- MFB_CAR_W2 (R155). -/
def MFB_CAR_W2.a (n : Nat) : Nat := cruxBase n + 0xA0000 + 0x28
def MFB_CAR_W2.V (n : Nat) : Rf := ⟨MFB_CAR_W2.a n, 0, 64⟩
/-- MFB_CAR_SPILL (R155). -/
def MFB_CAR_SPILL.a (n : Nat) : Nat := cruxBase n + 0xA0000 + 0x30
def MFB_CAR_SPILL.BASE (n : Nat) : Rf := ⟨MFB_CAR_SPILL.a n, 0, 40⟩
def MFB_CAR_SPILL.LOG2_SETS (n : Nat) : Rf := ⟨MFB_CAR_SPILL.a n, 40, 5⟩
/-- MFB_SPILL_USED (R155). -/
def MFB_SPILL_USED.a (n : Nat) : Nat := cruxBase n + 0xA0000 + 0x38
def MFB_SPILL_USED.V (n : Nat) : Rf := ⟨MFB_SPILL_USED.a n, 0, 17⟩
/-- MFB_CNT_LOAD (R156). -/
def MFB_CNT_LOAD.a (n : Nat) : Nat := cruxBase n + 0xA0000 + 0x2000
def MFB_CNT_LOAD.V (n : Nat) : Rf := ⟨MFB_CNT_LOAD.a n, 0, 64⟩
/-- MFB_CNT_STORE (R156). -/
def MFB_CNT_STORE.a (n : Nat) : Nat := cruxBase n + 0xA0000 + 0x2008
def MFB_CNT_STORE.V (n : Nat) : Rf := ⟨MFB_CNT_STORE.a n, 0, 64⟩
/-- MFB_CNT_ATOMIC (R156). -/
def MFB_CNT_ATOMIC.a (n : Nat) : Nat := cruxBase n + 0xA0000 + 0x2010
def MFB_CNT_ATOMIC.V (n : Nat) : Rf := ⟨MFB_CNT_ATOMIC.a n, 0, 64⟩
/-- MFB_CNT_DENIED (R156). -/
def MFB_CNT_DENIED.a (n : Nat) : Nat := cruxBase n + 0xA0000 + 0x2018
def MFB_CNT_DENIED.V (n : Nat) : Rf := ⟨MFB_CNT_DENIED.a n, 0, 64⟩
/-- MFB_CNT_LOST (R156). -/
def MFB_CNT_LOST.a (n : Nat) : Nat := cruxBase n + 0xA0000 + 0x2020
def MFB_CNT_LOST.V (n : Nat) : Rf := ⟨MFB_CNT_LOST.a n, 0, 64⟩
/-- MFB_CNT_TIMEOUT (R156). -/
def MFB_CNT_TIMEOUT.a (n : Nat) : Nat := cruxBase n + 0xA0000 + 0x2028
def MFB_CNT_TIMEOUT.V (n : Nat) : Rf := ⟨MFB_CNT_TIMEOUT.a n, 0, 64⟩
/-- MFB_CNT_LATE_RSP (R156). -/
def MFB_CNT_LATE_RSP.a (n : Nat) : Nat := cruxBase n + 0xA0000 + 0x2030
def MFB_CNT_LATE_RSP.V (n : Nat) : Rf := ⟨MFB_CNT_LATE_RSP.a n, 0, 64⟩
/-- MFB_CNT_STRAY_RSP (R156). -/
def MFB_CNT_STRAY_RSP.a (n : Nat) : Nat := cruxBase n + 0xA0000 + 0x2038
def MFB_CNT_STRAY_RSP.V (n : Nat) : Rf := ⟨MFB_CNT_STRAY_RSP.a n, 0, 64⟩
/-- MFB_CNT_DUP (R156). -/
def MFB_CNT_DUP.a (n : Nat) : Nat := cruxBase n + 0xA0000 + 0x2040
def MFB_CNT_DUP.V (n : Nat) : Rf := ⟨MFB_CNT_DUP.a n, 0, 64⟩
/-- MFB_CNT_TAG_LIVE (R156). -/
def MFB_CNT_TAG_LIVE.a (n : Nat) : Nat := cruxBase n + 0xA0000 + 0x2048
def MFB_CNT_TAG_LIVE.V (n : Nat) : Rf := ⟨MFB_CNT_TAG_LIVE.a n, 0, 64⟩
/-- MFB_CNT_COMB_GROUP (R156). -/
def MFB_CNT_COMB_GROUP.a (n : Nat) : Nat := cruxBase n + 0xA0000 + 0x2050
def MFB_CNT_COMB_GROUP.V (n : Nat) : Rf := ⟨MFB_CNT_COMB_GROUP.a n, 0, 64⟩
/-- MFB_CNT_COMB_MEMBER (R156). -/
def MFB_CNT_COMB_MEMBER.a (n : Nat) : Nat := cruxBase n + 0xA0000 + 0x2058
def MFB_CNT_COMB_MEMBER.V (n : Nat) : Rf := ⟨MFB_CNT_COMB_MEMBER.a n, 0, 64⟩
/-- MFB_CNT_COMB_BYPASS (R156). -/
def MFB_CNT_COMB_BYPASS.a (n : Nat) : Nat := cruxBase n + 0xA0000 + 0x2060
def MFB_CNT_COMB_BYPASS.V (n : Nat) : Rf := ⟨MFB_CNT_COMB_BYPASS.a n, 0, 64⟩
/-- MFB_CNT_ANCHOR_WAIT (R156). -/
def MFB_CNT_ANCHOR_WAIT.a (n : Nat) : Nat := cruxBase n + 0xA0000 + 0x2068
def MFB_CNT_ANCHOR_WAIT.V (n : Nat) : Rf := ⟨MFB_CNT_ANCHOR_WAIT.a n, 0, 64⟩
/-- MFB_CNT_SPILL_HIT (R156). -/
def MFB_CNT_SPILL_HIT.a (n : Nat) : Nat := cruxBase n + 0xA0000 + 0x2070
def MFB_CNT_SPILL_HIT.V (n : Nat) : Rf := ⟨MFB_CNT_SPILL_HIT.a n, 0, 64⟩
/-- HRN_STS (R174). -/
def HRN_STS.a (h : Nat) : Nat := 0x00100000 + h * 0x80
def HRN_STS.STATE (h : Nat) : Rf := ⟨HRN_STS.a h, 0, 3⟩
def HRN_STS.FAIL_CNT (h : Nat) : Rf := ⟨HRN_STS.a h, 3, 2⟩
def HRN_STS.BUSY (h : Nat) : Rf := ⟨HRN_STS.a h, 5, 1⟩
def HRN_STS.OVER_CORES (h : Nat) : Rf := ⟨HRN_STS.a h, 6, 1⟩
def HRN_STS.OVER_RINGS (h : Nat) : Rf := ⟨HRN_STS.a h, 7, 1⟩
def HRN_STS.OVER_CTX (h : Nat) : Rf := ⟨HRN_STS.a h, 8, 1⟩
def HRN_STS.OVER_CARAB (h : Nat) : Rf := ⟨HRN_STS.a h, 9, 1⟩
def HRN_STS.OVER_HBM (h : Nat) : Rf := ⟨HRN_STS.a h, 10, 1⟩
/-- HRN_CFG (R174). -/
def HRN_CFG.a (h : Nat) : Nat := 0x00100000 + h * 0x80 + 0x8
def HRN_CFG.BW_WEIGHT (h : Nat) : Rf := ⟨HRN_CFG.a h, 0, 8⟩
/-- HRN_Q_CORES (R174). -/
def HRN_Q_CORES.a (h : Nat) : Nat := 0x00100000 + h * 0x80 + 0x10
def HRN_Q_CORES.LIMIT (h : Nat) : Rf := ⟨HRN_Q_CORES.a h, 0, 10⟩
def HRN_Q_CORES.USED (h : Nat) : Rf := ⟨HRN_Q_CORES.a h, 16, 10⟩
/-- HRN_Q_RINGS (R174). -/
def HRN_Q_RINGS.a (h : Nat) : Nat := 0x00100000 + h * 0x80 + 0x18
def HRN_Q_RINGS.LIMIT (h : Nat) : Rf := ⟨HRN_Q_RINGS.a h, 0, 14⟩
def HRN_Q_RINGS.USED (h : Nat) : Rf := ⟨HRN_Q_RINGS.a h, 16, 14⟩
/-- HRN_Q_CTX (R174). -/
def HRN_Q_CTX.a (h : Nat) : Nat := 0x00100000 + h * 0x80 + 0x20
def HRN_Q_CTX.LIMIT (h : Nat) : Rf := ⟨HRN_Q_CTX.a h, 0, 15⟩
def HRN_Q_CTX.USED (h : Nat) : Rf := ⟨HRN_Q_CTX.a h, 16, 15⟩
/-- HRN_Q_CARAB (R174). -/
def HRN_Q_CARAB.a (h : Nat) : Nat := 0x00100000 + h * 0x80 + 0x28
def HRN_Q_CARAB.LIMIT (h : Nat) : Rf := ⟨HRN_Q_CARAB.a h, 0, 21⟩
def HRN_Q_CARAB.USED (h : Nat) : Rf := ⟨HRN_Q_CARAB.a h, 32, 21⟩
/-- HRN_Q_HBM (R174). -/
def HRN_Q_HBM.a (h : Nat) : Nat := 0x00100000 + h * 0x80 + 0x30
def HRN_Q_HBM.LIMIT (h : Nat) : Rf := ⟨HRN_Q_HBM.a h, 0, 28⟩
def HRN_Q_HBM.USED (h : Nat) : Rf := ⟨HRN_Q_HBM.a h, 32, 28⟩
/-- HRN_WAKE (R174). -/
def HRN_WAKE.a (h : Nat) : Nat := 0x00100000 + h * 0x80 + 0x40
def HRN_WAKE.V (h : Nat) : Rf := ⟨HRN_WAKE.a h, 0, 64⟩
/-- HRN_ENERGY_UJ (R174). -/
def HRN_ENERGY_UJ.a (h : Nat) : Nat := 0x00100000 + h * 0x80 + 0x48
def HRN_ENERGY_UJ.V (h : Nat) : Rf := ⟨HRN_ENERGY_UJ.a h, 0, 64⟩
/-- HRN_ENERGY_ALARM (R174). -/
def HRN_ENERGY_ALARM.a (h : Nat) : Nat := 0x00100000 + h * 0x80 + 0x50
def HRN_ENERGY_ALARM.V (h : Nat) : Rf := ⟨HRN_ENERGY_ALARM.a h, 0, 64⟩
/-- HRN_CNT_DENIED (R174). -/
def HRN_CNT_DENIED.a (h : Nat) : Nat := 0x00100000 + h * 0x80 + 0x58
def HRN_CNT_DENIED.V (h : Nat) : Rf := ⟨HRN_CNT_DENIED.a h, 0, 64⟩
/-- HRN_CNT_FAULTS (R174). -/
def HRN_CNT_FAULTS.a (h : Nat) : Nat := 0x00100000 + h * 0x80 + 0x60
def HRN_CNT_FAULTS.V (h : Nat) : Rf := ⟨HRN_CNT_FAULTS.a h, 0, 64⟩
/-- HRN_CMD (R175). -/
def HRN_CMD.a : Nat := 0x00180000
def HRN_CMD.HARNESS : Rf := ⟨HRN_CMD.a, 0, 12⟩
def HRN_CMD.OP : Rf := ⟨HRN_CMD.a, 12, 4⟩
def HRN_CMD.STATUS : Rf := ⟨HRN_CMD.a, 16, 8⟩
def HRN_CMD.BUSY : Rf := ⟨HRN_CMD.a, 24, 1⟩
/-- HRN_GCFG (R175). -/
def HRN_GCFG.a : Nat := 0x00180000 + 0x8
def HRN_GCFG.STABLE_MS : Rf := ⟨HRN_GCFG.a, 0, 16⟩
/-- HRN_COUNT (R175). -/
def HRN_COUNT.a : Nat := 0x00180000 + 0x10
def HRN_COUNT.RUNNING : Rf := ⟨HRN_COUNT.a, 0, 13⟩
def HRN_COUNT.RECOVERING : Rf := ⟨HRN_COUNT.a, 16, 13⟩
def HRN_COUNT.QUARANTINED : Rf := ⟨HRN_COUNT.a, 32, 13⟩
/-- CRX_BIND_CMD (R200). -/
def CRX_BIND_CMD.a (n : Nat) : Nat := cruxBase n
def CRX_BIND_CMD.CORE (n : Nat) : Rf := ⟨CRX_BIND_CMD.a n, 0, 5⟩
def CRX_BIND_CMD.HARNESS (n : Nat) : Rf := ⟨CRX_BIND_CMD.a n, 5, 12⟩
def CRX_BIND_CMD.OP (n : Nat) : Rf := ⟨CRX_BIND_CMD.a n, 17, 2⟩
def CRX_BIND_CMD.STATUS (n : Nat) : Rf := ⟨CRX_BIND_CMD.a n, 19, 8⟩
def CRX_BIND_CMD.BUSY (n : Nat) : Rf := ⟨CRX_BIND_CMD.a n, 27, 1⟩
/-- CRX_CCH_CTL (R200). -/
def CRX_CCH_CTL.a (n : Nat) : Nat := cruxBase n + 0x10
def CRX_CCH_CTL.INDEX (n : Nat) : Rf := ⟨CRX_CCH_CTL.a n, 0, 12⟩
def CRX_CCH_CTL.AUTOINC (n : Nat) : Rf := ⟨CRX_CCH_CTL.a n, 12, 1⟩
/-- CRX_CCH_DATA (R200). -/
def CRX_CCH_DATA.a (n : Nat) : Nat := cruxBase n + 0x18
def CRX_CCH_DATA.V (n : Nat) : Rf := ⟨CRX_CCH_DATA.a n, 0, 64⟩
/-- CRX_CLU_STS (R200). -/
def CRX_CLU_STS.a (n : Nat) (c : Nat) : Nat := cruxBase n + 0x20 + 0x8 * c
def CRX_CLU_STS.HARNESS (n : Nat) (c : Nat) : Rf := ⟨CRX_CLU_STS.a n c, 0, 12⟩
def CRX_CLU_STS.OWNED (n : Nat) (c : Nat) : Rf := ⟨CRX_CLU_STS.a n c, 12, 1⟩
def CRX_CLU_STS.SPARE_USED (n : Nat) (c : Nat) : Rf := ⟨CRX_CLU_STS.a n c, 13, 1⟩
def CRX_CLU_STS.BOUND (n : Nat) (c : Nat) : Rf := ⟨CRX_CLU_STS.a n c, 14, 4⟩
/-- CRX_PFLAG_BIND (R200). -/
def CRX_PFLAG_BIND.a (n : Nat) (b : Nat) : Nat := cruxBase n + 0x400 + 0x8 * b
def CRX_PFLAG_BIND.HARNESS (n : Nat) (b : Nat) : Rf := ⟨CRX_PFLAG_BIND.a n b, 0, 12⟩
def CRX_PFLAG_BIND.VALID (n : Nat) (b : Nat) : Rf := ⟨CRX_PFLAG_BIND.a n b, 12, 1⟩
/-- CRX_JUMAR_CFG (R200). -/
def CRX_JUMAR_CFG.a (n : Nat) (i : Nat) : Nat := cruxBase n + 0x800 + 0x20 * i
def CRX_JUMAR_CFG.VALID (n : Nat) (i : Nat) : Rf := ⟨CRX_JUMAR_CFG.a n i, 0, 1⟩
def CRX_JUMAR_CFG.HARNESS (n : Nat) (i : Nat) : Rf := ⟨CRX_JUMAR_CFG.a n i, 1, 12⟩
def CRX_JUMAR_CFG.RESET (n : Nat) (i : Nat) : Rf := ⟨CRX_JUMAR_CFG.a n i, 13, 1⟩
def CRX_JUMAR_CFG.LIMIT (n : Nat) (i : Nat) : Rf := ⟨CRX_JUMAR_CFG.a n i, 32, 32⟩
/-- CRX_JUMAR_EVEN (R200). -/
def CRX_JUMAR_EVEN.a (n : Nat) (i : Nat) : Nat := cruxBase n + 0x808 + 0x20 * i
def CRX_JUMAR_EVEN.V (n : Nat) (i : Nat) : Rf := ⟨CRX_JUMAR_EVEN.a n i, 0, 64⟩
/-- CRX_JUMAR_ODD (R200). -/
def CRX_JUMAR_ODD.a (n : Nat) (i : Nat) : Nat := cruxBase n + 0x810 + 0x20 * i
def CRX_JUMAR_ODD.V (n : Nat) (i : Nat) : Rf := ⟨CRX_JUMAR_ODD.a n i, 0, 64⟩
/-- CRX_CORE_STS (R202). -/
def CRX_CORE_STS.a (k : Nat) : Nat := coreBase k
def CRX_CORE_STS.STATE (k : Nat) : Rf := ⟨CRX_CORE_STS.a k, 0, 3⟩
def CRX_CORE_STS.HARNESS (k : Nat) : Rf := ⟨CRX_CORE_STS.a k, 3, 12⟩
def CRX_CORE_STS.SPARE (k : Nat) : Rf := ⟨CRX_CORE_STS.a k, 15, 1⟩
def CRX_CORE_STS.WAIT_KIND (k : Nat) : Rf := ⟨CRX_CORE_STS.a k, 16, 3⟩
/-- CRX_CORE_CTL (R202). -/
def CRX_CORE_CTL.a (k : Nat) : Nat := coreBase k + 0x8
def CRX_CORE_CTL.GO (k : Nat) : Rf := ⟨CRX_CORE_CTL.a k, 0, 1⟩
def CRX_CORE_CTL.HALT (k : Nat) : Rf := ⟨CRX_CORE_CTL.a k, 1, 1⟩
/-- CRX_CORE_CFG (R202). -/
def CRX_CORE_CFG.a (k : Nat) : Nat := coreBase k + 0x10
def CRX_CORE_CFG.BIVOUAC_US (k : Nat) : Rf := ⟨CRX_CORE_CFG.a k, 0, 16⟩
def CRX_CORE_CFG.WAIT_LIMIT_US (k : Nat) : Rf := ⟨CRX_CORE_CFG.a k, 16, 16⟩
/-- CRX_CORE_FAULT (R202). -/
def CRX_CORE_FAULT.a (k : Nat) : Nat := coreBase k + 0x18
def CRX_CORE_FAULT.STATUS (k : Nat) : Rf := ⟨CRX_CORE_FAULT.a k, 0, 8⟩
def CRX_CORE_FAULT.UNIT (k : Nat) : Rf := ⟨CRX_CORE_FAULT.a k, 8, 3⟩
def CRX_CORE_FAULT.MORE (k : Nat) : Rf := ⟨CRX_CORE_FAULT.a k, 11, 1⟩
def CRX_CORE_FAULT.INSTR (k : Nat) : Rf := ⟨CRX_CORE_FAULT.a k, 12, 32⟩
/-- CRX_CORE_FAULT_ADDR (R202). -/
def CRX_CORE_FAULT_ADDR.a (k : Nat) : Nat := coreBase k + 0x20
def CRX_CORE_FAULT_ADDR.V (k : Nat) : Rf := ⟨CRX_CORE_FAULT_ADDR.a k, 0, 64⟩
/-- CRX_CNT_BIVOUAC (R202). -/
def CRX_CNT_BIVOUAC.a (k : Nat) : Nat := coreBase k + 0x28
def CRX_CNT_BIVOUAC.V (k : Nat) : Rf := ⟨CRX_CNT_BIVOUAC.a k, 0, 64⟩
/-- CRX_CNT_STALL (R202). -/
def CRX_CNT_STALL.a (k : Nat) : Nat := coreBase k + 0x30
def CRX_CNT_STALL.V (k : Nat) : Rf := ⟨CRX_CNT_STALL.a k, 0, 64⟩
/-- CRX_CNT_WAIT (R202). -/
def CRX_CNT_WAIT.a (k : Nat) : Nat := coreBase k + 0x38
def CRX_CNT_WAIT.V (k : Nat) : Rf := ⟨CRX_CNT_WAIT.a k, 0, 64⟩
/-- CRX_CORE_ARITH (R228). -/
def CRX_CORE_ARITH.a (k : Nat) : Nat := coreBase k + 0x40
def CRX_CORE_ARITH.NAN_IN (k : Nat) : Rf := ⟨CRX_CORE_ARITH.a k, 0, 1⟩
def CRX_CORE_ARITH.INVALID (k : Nat) : Rf := ⟨CRX_CORE_ARITH.a k, 1, 1⟩
def CRX_CORE_ARITH.OVF (k : Nat) : Rf := ⟨CRX_CORE_ARITH.a k, 2, 1⟩
def CRX_CORE_ARITH.UNF (k : Nat) : Rf := ⟨CRX_CORE_ARITH.a k, 3, 1⟩
def CRX_CORE_ARITH.INEXACT (k : Nat) : Rf := ⟨CRX_CORE_ARITH.a k, 4, 1⟩
/-- CRX_RIDGE_CFG (R251). -/
def CRX_RIDGE_CFG.a (n : Nat) : Nat := cruxBase n + 0x20000
def CRX_RIDGE_CFG.FORCE_RPX (n : Nat) : Rf := ⟨CRX_RIDGE_CFG.a n, 0, 1⟩
/-- CRX_CNT_RP64_ENC (R252). -/
def CRX_CNT_RP64_ENC.a (n : Nat) : Nat := cruxBase n + 0x20100
def CRX_CNT_RP64_ENC.V (n : Nat) : Rf := ⟨CRX_CNT_RP64_ENC.a n, 0, 64⟩
/-- CRX_CNT_RPX_ESC (R252). -/
def CRX_CNT_RPX_ESC.a (n : Nat) : Nat := cruxBase n + 0x20108
def CRX_CNT_RPX_ESC.V (n : Nat) : Rf := ⟨CRX_CNT_RPX_ESC.a n, 0, 64⟩
/-- CRX_CNT_RP_BAD (R252). -/
def CRX_CNT_RP_BAD.a (n : Nat) : Nat := cruxBase n + 0x20110
def CRX_CNT_RP_BAD.V (n : Nat) : Rf := ⟨CRX_CNT_RP_BAD.a n, 0, 64⟩
/-- CRX_CNT_HOP_ROUND (R252). -/
def CRX_CNT_HOP_ROUND.a (n : Nat) : Nat := cruxBase n + 0x20118
def CRX_CNT_HOP_ROUND.V (n : Nat) : Rf := ⟨CRX_CNT_HOP_ROUND.a n, 0, 64⟩
/-- CRX_CNT_WRAP (R252). -/
def CRX_CNT_WRAP.a (n : Nat) : Nat := cruxBase n + 0x20120
def CRX_CNT_WRAP.V (n : Nat) : Rf := ⟨CRX_CNT_WRAP.a n, 0, 64⟩
/-- CRX_LOAD_CMD (R287). -/
def CRX_LOAD_CMD.a (n : Nat) : Nat := cruxBase n + 0x30000
def CRX_LOAD_CMD.CORE_MASK (n : Nat) : Rf := ⟨CRX_LOAD_CMD.a n, 0, 32⟩
def CRX_LOAD_CMD.OP (n : Nat) : Rf := ⟨CRX_LOAD_CMD.a n, 32, 2⟩
def CRX_LOAD_CMD.STATUS (n : Nat) : Rf := ⟨CRX_LOAD_CMD.a n, 34, 8⟩
def CRX_LOAD_CMD.BUSY (n : Nat) : Rf := ⟨CRX_LOAD_CMD.a n, 42, 1⟩
/-- CRX_LOAD_SRC (R287). -/
def CRX_LOAD_SRC.a (n : Nat) : Nat := cruxBase n + 0x30000 + 0x8
def CRX_LOAD_SRC.V (n : Nat) : Rf := ⟨CRX_LOAD_SRC.a n, 0, 40⟩
def CRX_LOAD_SRC.HARNESS (n : Nat) : Rf := ⟨CRX_LOAD_SRC.a n, 40, 12⟩
/-- CRX_LOAD_LEN (R287). -/
def CRX_LOAD_LEN.a (n : Nat) : Nat := cruxBase n + 0x30000 + 0x10
def CRX_LOAD_LEN.V (n : Nat) : Rf := ⟨CRX_LOAD_LEN.a n, 0, 23⟩
/-- CRX_LOAD_SHORT_L (R287). -/
def CRX_LOAD_SHORT_L.a (n : Nat) : Nat := cruxBase n + 0x30000 + 0x18
def CRX_LOAD_SHORT_L.V (n : Nat) : Rf := ⟨CRX_LOAD_SHORT_L.a n, 0, 64⟩
/-- CRX_LOAD_SHORT_S (R287). -/
def CRX_LOAD_SHORT_S.a (n : Nat) : Nat := cruxBase n + 0x30000 + 0x20
def CRX_LOAD_SHORT_S.V (n : Nat) : Rf := ⟨CRX_LOAD_SHORT_S.a n, 0, 64⟩
/-- CRX_LOAD_SHORT_H (R287). -/
def CRX_LOAD_SHORT_H.a (n : Nat) : Nat := cruxBase n + 0x30000 + 0x28
def CRX_LOAD_SHORT_H.V (n : Nat) : Rf := ⟨CRX_LOAD_SHORT_H.a n, 0, 64⟩
/-- CRX_LOAD_SHORT_RES (R287). -/
def CRX_LOAD_SHORT_RES.a (n : Nat) : Nat := cruxBase n + 0x30000 + 0x30
def CRX_LOAD_SHORT_RES.PFLAG (n : Nat) : Rf := ⟨CRX_LOAD_SHORT_RES.a n, 0, 16⟩
def CRX_LOAD_SHORT_RES.CCH (n : Nat) : Rf := ⟨CRX_LOAD_SHORT_RES.a n, 16, 16⟩
def CRX_LOAD_SHORT_RES.JUMAR (n : Nat) : Rf := ⟨CRX_LOAD_SHORT_RES.a n, 32, 16⟩
def CRX_LOAD_SHORT_RES.CTX (n : Nat) : Rf := ⟨CRX_LOAD_SHORT_RES.a n, 48, 16⟩
/-- CRX_LOAD_REASON (R287). -/
def CRX_LOAD_REASON.a (n : Nat) : Nat := cruxBase n + 0x30000 + 0x38
def CRX_LOAD_REASON.V (n : Nat) : Rf := ⟨CRX_LOAD_REASON.a n, 0, 4⟩
/-- CRX_LOAD_ARG (R287). -/
def CRX_LOAD_ARG.a (n : Nat) (a : Nat) : Nat := cruxBase n + 0x30000 + 0x40 + 0x8 * a
def CRX_LOAD_ARG.V (n : Nat) (a : Nat) : Rf := ⟨CRX_LOAD_ARG.a n a, 0, 64⟩
/-- CRX_LOAD_CAP (R287). -/
def CRX_LOAD_CAP.a (n : Nat) : Nat := cruxBase n + 0x30000 + 0x80
def CRX_LOAD_CAP.ENC_MIN (n : Nat) : Rf := ⟨CRX_LOAD_CAP.a n, 0, 16⟩
def CRX_LOAD_CAP.ENC_MAX (n : Nat) : Rf := ⟨CRX_LOAD_CAP.a n, 16, 16⟩
def CRX_LOAD_CAP.LANG (n : Nat) : Rf := ⟨CRX_LOAD_CAP.a n, 32, 8⟩
/-- CRX_CORE_EXIT (R289). -/
def CRX_CORE_EXIT.a (k : Nat) : Nat := coreBase k + 0x48
def CRX_CORE_EXIT.V (k : Nat) : Rf := ⟨CRX_CORE_EXIT.a k, 0, 64⟩
/-- CRX_CORE_IMAGE (R289). -/
def CRX_CORE_IMAGE.a (k : Nat) : Nat := coreBase k + 0x50
def CRX_CORE_IMAGE.V (k : Nat) : Rf := ⟨CRX_CORE_IMAGE.a k, 0, 64⟩
/-- CRX_CORE_PC (R289). -/
def CRX_CORE_PC.a (k : Nat) : Nat := coreBase k + 0x58
def CRX_CORE_PC.V (k : Nat) : Rf := ⟨CRX_CORE_PC.a k, 0, 32⟩
def CRX_CORE_PC.DEPTH (k : Nat) : Rf := ⟨CRX_CORE_PC.a k, 32, 5⟩
/-- CRX_CORE_CODE (R289). -/
def CRX_CORE_CODE.a (k : Nat) : Nat := coreBase k + 0x60
def CRX_CORE_CODE.V (k : Nat) : Rf := ⟨CRX_CORE_CODE.a k, 0, 24⟩
/-- CRX_ROPE_CMD (R354). -/
def CRX_ROPE_CMD.a (n : Nat) : Nat := cruxBase n + 0x40000
def CRX_ROPE_CMD.CTX (n : Nat) : Rf := ⟨CRX_ROPE_CMD.a n, 0, 14⟩
def CRX_ROPE_CMD.OP (n : Nat) : Rf := ⟨CRX_ROPE_CMD.a n, 14, 4⟩
def CRX_ROPE_CMD.STATUS (n : Nat) : Rf := ⟨CRX_ROPE_CMD.a n, 18, 8⟩
def CRX_ROPE_CMD.BUSY (n : Nat) : Rf := ⟨CRX_ROPE_CMD.a n, 26, 1⟩
/-- CRX_ROPE_D (R354). -/
def CRX_ROPE_D.a (n : Nat) (w : Nat) : Nat := cruxBase n + 0x40000 + 0x8 + 0x8 * w
def CRX_ROPE_D.V (n : Nat) (w : Nat) : Rf := ⟨CRX_ROPE_D.a n w, 0, 64⟩
/-- CRX_ROPE_SEL (R354). -/
def CRX_ROPE_SEL.a (n : Nat) : Nat := cruxBase n + 0x40000 + 0x48
def CRX_ROPE_SEL.CTX (n : Nat) : Rf := ⟨CRX_ROPE_SEL.a n, 0, 14⟩
/-- CRX_ROPE_STS (R355). -/
def CRX_ROPE_STS.a (n : Nat) : Nat := cruxBase n + 0x40000 + 0x50
def CRX_ROPE_STS.STATE (n : Nat) : Rf := ⟨CRX_ROPE_STS.a n, 0, 3⟩
def CRX_ROPE_STS.SUMMIT (n : Nat) : Rf := ⟨CRX_ROPE_STS.a n, 3, 1⟩
def CRX_ROPE_STS.OPEN (n : Nat) : Rf := ⟨CRX_ROPE_STS.a n, 4, 7⟩
def CRX_ROPE_STS.NEXT_OPNO (n : Nat) : Rf := ⟨CRX_ROPE_STS.a n, 11, 8⟩
def CRX_ROPE_STS.EPOCH (n : Nat) : Rf := ⟨CRX_ROPE_STS.a n, 19, 16⟩
def CRX_ROPE_STS.CAUSE (n : Nat) : Rf := ⟨CRX_ROPE_STS.a n, 35, 8⟩
def CRX_ROPE_STS.SLOTS_USED (n : Nat) : Rf := ⟨CRX_ROPE_STS.a n, 43, 6⟩
/-- CRX_CNT_ROPE_CHUNK (R356). -/
def CRX_CNT_ROPE_CHUNK.a (n : Nat) : Nat := cruxBase n + 0x40000 + 0x2000
def CRX_CNT_ROPE_CHUNK.V (n : Nat) : Rf := ⟨CRX_CNT_ROPE_CHUNK.a n, 0, 64⟩
/-- CRX_CNT_ROPE_PART (R356). -/
def CRX_CNT_ROPE_PART.a (n : Nat) : Nat := cruxBase n + 0x40000 + 0x2008
def CRX_CNT_ROPE_PART.V (n : Nat) : Rf := ⟨CRX_CNT_ROPE_PART.a n, 0, 64⟩
/-- CRX_CNT_ROPE_STALE (R356). -/
def CRX_CNT_ROPE_STALE.a (n : Nat) : Nat := cruxBase n + 0x40000 + 0x2010
def CRX_CNT_ROPE_STALE.V (n : Nat) : Rf := ⟨CRX_CNT_ROPE_STALE.a n, 0, 64⟩
/-- CRX_CNT_ROPE_BAD (R356). -/
def CRX_CNT_ROPE_BAD.a (n : Nat) : Nat := cruxBase n + 0x40000 + 0x2018
def CRX_CNT_ROPE_BAD.V (n : Nat) : Rf := ⟨CRX_CNT_ROPE_BAD.a n, 0, 64⟩
/-- CRX_CNT_ROPE_ABORT (R356). -/
def CRX_CNT_ROPE_ABORT.a (n : Nat) : Nat := cruxBase n + 0x40000 + 0x2020
def CRX_CNT_ROPE_ABORT.V (n : Nat) : Rf := ⟨CRX_CNT_ROPE_ABORT.a n, 0, 64⟩
/-- CRX_CNT_ROPE_WDOG (R356). -/
def CRX_CNT_ROPE_WDOG.a (n : Nat) : Nat := cruxBase n + 0x40000 + 0x2028
def CRX_CNT_ROPE_WDOG.V (n : Nat) : Rf := ⟨CRX_CNT_ROPE_WDOG.a n, 0, 64⟩
/-- CRX_GATE_CMD (R386). -/
def CRX_GATE_CMD.a (n : Nat) : Nat := cruxBase n + 0x50000
def CRX_GATE_CMD.CTX (n : Nat) : Rf := ⟨CRX_GATE_CMD.a n, 0, 14⟩
def CRX_GATE_CMD.OP (n : Nat) : Rf := ⟨CRX_GATE_CMD.a n, 14, 4⟩
def CRX_GATE_CMD.STATUS (n : Nat) : Rf := ⟨CRX_GATE_CMD.a n, 18, 8⟩
def CRX_GATE_CMD.BUSY (n : Nat) : Rf := ⟨CRX_GATE_CMD.a n, 26, 1⟩
/-- CRX_GATE_D (R386). -/
def CRX_GATE_D.a (n : Nat) (w : Nat) : Nat := cruxBase n + 0x50000 + 0x8 + 0x8 * w
def CRX_GATE_D.V (n : Nat) (w : Nat) : Rf := ⟨CRX_GATE_D.a n w, 0, 64⟩
/-- CRX_GATE_SEL (R386). -/
def CRX_GATE_SEL.a (n : Nat) : Nat := cruxBase n + 0x50000 + 0x48
def CRX_GATE_SEL.CTX (n : Nat) : Rf := ⟨CRX_GATE_SEL.a n, 0, 14⟩
/-- CRX_GATE_STS (R386). -/
def CRX_GATE_STS.a (n : Nat) : Nat := cruxBase n + 0x50000 + 0x50
def CRX_GATE_STS.STATE (n : Nat) : Rf := ⟨CRX_GATE_STS.a n, 0, 2⟩
def CRX_GATE_STS.EPOCH (n : Nat) : Rf := ⟨CRX_GATE_STS.a n, 2, 16⟩
def CRX_GATE_STS.IN_FLIGHT (n : Nat) : Rf := ⟨CRX_GATE_STS.a n, 18, 8⟩
def CRX_GATE_STS.CAUSE (n : Nat) : Rf := ⟨CRX_GATE_STS.a n, 26, 8⟩
/-- CRX_GATE_SLOTS (R386). -/
def CRX_GATE_SLOTS.a (n : Nat) : Nat := cruxBase n + 0x50000 + 0x58
def CRX_GATE_SLOTS.BASE (n : Nat) : Rf := ⟨CRX_GATE_SLOTS.a n, 0, 25⟩
def CRX_GATE_SLOTS.BYTES (n : Nat) : Rf := ⟨CRX_GATE_SLOTS.a n, 25, 20⟩
/-- CRX_GATE_SLOTS_RING (R386). -/
def CRX_GATE_SLOTS_RING.a (n : Nat) : Nat := cruxBase n + 0x50000 + 0x60
def CRX_GATE_SLOTS_RING.RING (n : Nat) : Rf := ⟨CRX_GATE_SLOTS_RING.a n, 0, 25⟩
/-- CRX_GATE_HEAT_CTL (R386). -/
def CRX_GATE_HEAT_CTL.a (n : Nat) : Nat := cruxBase n + 0x50000 + 0x68
def CRX_GATE_HEAT_CTL.EXPERT (n : Nat) : Rf := ⟨CRX_GATE_HEAT_CTL.a n, 0, 12⟩
def CRX_GATE_HEAT_CTL.AUTOINC (n : Nat) : Rf := ⟨CRX_GATE_HEAT_CTL.a n, 12, 1⟩
def CRX_GATE_HEAT_CTL.CLEAR (n : Nat) : Rf := ⟨CRX_GATE_HEAT_CTL.a n, 13, 1⟩
/-- CRX_GATE_HEAT (R386). -/
def CRX_GATE_HEAT.a (n : Nat) : Nat := cruxBase n + 0x50000 + 0x70
def CRX_GATE_HEAT.V (n : Nat) : Rf := ⟨CRX_GATE_HEAT.a n, 0, 32⟩
/-- CRX_STORE_CMD (R387). -/
def CRX_STORE_CMD.a (n : Nat) : Nat := cruxBase n + 0x60000
def CRX_STORE_CMD.CTX (n : Nat) : Rf := ⟨CRX_STORE_CMD.a n, 0, 14⟩
def CRX_STORE_CMD.OP (n : Nat) : Rf := ⟨CRX_STORE_CMD.a n, 14, 2⟩
def CRX_STORE_CMD.STATUS (n : Nat) : Rf := ⟨CRX_STORE_CMD.a n, 16, 8⟩
def CRX_STORE_CMD.BUSY (n : Nat) : Rf := ⟨CRX_STORE_CMD.a n, 24, 1⟩
/-- CRX_STORE_D0 (R387). -/
def CRX_STORE_D0.a (n : Nat) : Nat := cruxBase n + 0x60000 + 0x8
def CRX_STORE_D0.HARNESS (n : Nat) : Rf := ⟨CRX_STORE_D0.a n, 0, 12⟩
def CRX_STORE_D0.REPL (n : Nat) : Rf := ⟨CRX_STORE_D0.a n, 12, 2⟩
def CRX_STORE_D0.BLOCK_LOG2 (n : Nat) : Rf := ⟨CRX_STORE_D0.a n, 14, 5⟩
def CRX_STORE_D0.LAYERS (n : Nat) : Rf := ⟨CRX_STORE_D0.a n, 19, 12⟩
def CRX_STORE_D0.EXPERTS (n : Nat) : Rf := ⟨CRX_STORE_D0.a n, 31, 13⟩
def CRX_STORE_D0.BLOCKS (n : Nat) : Rf := ⟨CRX_STORE_D0.a n, 44, 8⟩
/-- CRX_STORE_DEV_MASK (R387). -/
def CRX_STORE_DEV_MASK.a (n : Nat) : Nat := cruxBase n + 0x60000 + 0x10
def CRX_STORE_DEV_MASK.V (n : Nat) : Rf := ⟨CRX_STORE_DEV_MASK.a n, 0, 64⟩
/-- CRX_STORE_MANIFEST (R387). -/
def CRX_STORE_MANIFEST.a (n : Nat) : Nat := cruxBase n + 0x60000 + 0x18
def CRX_STORE_MANIFEST.V (n : Nat) : Rf := ⟨CRX_STORE_MANIFEST.a n, 0, 40⟩
/-- CRX_STORE_BUDGET (R387). -/
def CRX_STORE_BUDGET.a (n : Nat) : Nat := cruxBase n + 0x60000 + 0x20
def CRX_STORE_BUDGET.V (n : Nat) : Rf := ⟨CRX_STORE_BUDGET.a n, 0, 28⟩
def CRX_STORE_BUDGET.OVF_FEID (n : Nat) : Rf := ⟨CRX_STORE_BUDGET.a n, 28, 18⟩
/-- CRX_STORE_OVF_BASE (R387). -/
def CRX_STORE_OVF_BASE.a (n : Nat) : Nat := cruxBase n + 0x60000 + 0x28
def CRX_STORE_OVF_BASE.V (n : Nat) : Rf := ⟨CRX_STORE_OVF_BASE.a n, 0, 52⟩
/-- CRX_STORE_OVF_PAGES (R387). -/
def CRX_STORE_OVF_PAGES.a (n : Nat) : Nat := cruxBase n + 0x60000 + 0x30
def CRX_STORE_OVF_PAGES.V (n : Nat) : Rf := ⟨CRX_STORE_OVF_PAGES.a n, 0, 40⟩
/-- CRX_STORE_SHORT (R387). -/
def CRX_STORE_SHORT.a (n : Nat) : Nat := cruxBase n + 0x60000 + 0x38
def CRX_STORE_SHORT.V (n : Nat) : Rf := ⟨CRX_STORE_SHORT.a n, 0, 64⟩
/-- CRX_STORE_DIR (R387). -/
def CRX_STORE_DIR.a (n : Nat) : Nat := cruxBase n + 0x60000 + 0x40
def CRX_STORE_DIR.V (n : Nat) : Rf := ⟨CRX_STORE_DIR.a n, 0, 40⟩
def CRX_STORE_DIR.STATE (n : Nat) : Rf := ⟨CRX_STORE_DIR.a n, 40, 2⟩
/-- CRX_CNT_GATE_TOKEN (R388). -/
def CRX_CNT_GATE_TOKEN.a (n : Nat) : Nat := cruxBase n + 0x52000
def CRX_CNT_GATE_TOKEN.V (n : Nat) : Rf := ⟨CRX_CNT_GATE_TOKEN.a n, 0, 64⟩
/-- CRX_CNT_GATE_POISON (R388). -/
def CRX_CNT_GATE_POISON.a (n : Nat) : Nat := cruxBase n + 0x52008
def CRX_CNT_GATE_POISON.V (n : Nat) : Rf := ⟨CRX_CNT_GATE_POISON.a n, 0, 64⟩
/-- CRX_CNT_GATE_TIMEOUT (R388). -/
def CRX_CNT_GATE_TIMEOUT.a (n : Nat) : Nat := cruxBase n + 0x52010
def CRX_CNT_GATE_TIMEOUT.V (n : Nat) : Rf := ⟨CRX_CNT_GATE_TIMEOUT.a n, 0, 64⟩
/-- CRX_CNT_GATE_WAIT (R388). -/
def CRX_CNT_GATE_WAIT.a (n : Nat) : Nat := cruxBase n + 0x52018
def CRX_CNT_GATE_WAIT.V (n : Nat) : Rf := ⟨CRX_CNT_GATE_WAIT.a n, 0, 64⟩
/-- CRX_CNT_GATE_DROP (R388). -/
def CRX_CNT_GATE_DROP.a (n : Nat) : Nat := cruxBase n + 0x52020
def CRX_CNT_GATE_DROP.V (n : Nat) : Rf := ⟨CRX_CNT_GATE_DROP.a n, 0, 64⟩
/-- CRX_CNT_GATE_NEXT (R388). -/
def CRX_CNT_GATE_NEXT.a (n : Nat) : Nat := cruxBase n + 0x52028
def CRX_CNT_GATE_NEXT.V (n : Nat) : Rf := ⟨CRX_CNT_GATE_NEXT.a n, 0, 64⟩
/-- CRX_CNT_GATE_STALE (R388). -/
def CRX_CNT_GATE_STALE.a (n : Nat) : Nat := cruxBase n + 0x52030
def CRX_CNT_GATE_STALE.V (n : Nat) : Rf := ⟨CRX_CNT_GATE_STALE.a n, 0, 64⟩
/-- CRX_CNT_GATE_STREAM (R388). -/
def CRX_CNT_GATE_STREAM.a (n : Nat) : Nat := cruxBase n + 0x52038
def CRX_CNT_GATE_STREAM.V (n : Nat) : Rf := ⟨CRX_CNT_GATE_STREAM.a n, 0, 64⟩
/-- CRX_CNT_GATE_FILTER (R388). -/
def CRX_CNT_GATE_FILTER.a (n : Nat) : Nat := cruxBase n + 0x52040
def CRX_CNT_GATE_FILTER.V (n : Nat) : Rf := ⟨CRX_CNT_GATE_FILTER.a n, 0, 64⟩
/-- CRX_CNT_STORE_FETCH (R388). -/
def CRX_CNT_STORE_FETCH.a (n : Nat) : Nat := cruxBase n + 0x62000
def CRX_CNT_STORE_FETCH.V (n : Nat) : Rf := ⟨CRX_CNT_STORE_FETCH.a n, 0, 64⟩
/-- CRX_CNT_STORE_BLOCK (R388). -/
def CRX_CNT_STORE_BLOCK.a (n : Nat) : Nat := cruxBase n + 0x62008
def CRX_CNT_STORE_BLOCK.V (n : Nat) : Rf := ⟨CRX_CNT_STORE_BLOCK.a n, 0, 64⟩
/-- CRX_CNT_STORE_OVF (R388). -/
def CRX_CNT_STORE_OVF.a (n : Nat) : Nat := cruxBase n + 0x62010
def CRX_CNT_STORE_OVF.V (n : Nat) : Rf := ⟨CRX_CNT_STORE_OVF.a n, 0, 64⟩
/-- CRX_CNT_STORE_LOST (R388). -/
def CRX_CNT_STORE_LOST.a (n : Nat) : Nat := cruxBase n + 0x62018
def CRX_CNT_STORE_LOST.V (n : Nat) : Rf := ⟨CRX_CNT_STORE_LOST.a n, 0, 64⟩
/-- HUB_EQUIV_CLASS (R406). -/
def HUB_EQUIV_CLASS.a : Nat := 0x190
def HUB_EQUIV_CLASS.CODE : Rf := ⟨HUB_EQUIV_CLASS.a, 0, 32⟩
/-- HRN_WIT_CFG (R410). -/
def HRN_WIT_CFG.a (h : Nat) : Nat := 0x00188000 + h * 0x20
def HRN_WIT_CFG.BASE (h : Nat) : Rf := ⟨HRN_WIT_CFG.a h, 0, 40⟩
def HRN_WIT_CFG.LOG2 (h : Nat) : Rf := ⟨HRN_WIT_CFG.a h, 40, 5⟩
def HRN_WIT_CFG.MODE (h : Nat) : Rf := ⟨HRN_WIT_CFG.a h, 45, 2⟩
/-- HRN_WIT_WPTR (R410). -/
def HRN_WIT_WPTR.a (h : Nat) : Nat := 0x00188000 + h * 0x20 + 0x8
def HRN_WIT_WPTR.V (h : Nat) : Rf := ⟨HRN_WIT_WPTR.a h, 0, 64⟩
/-- HRN_WIT_RPTR (R410). -/
def HRN_WIT_RPTR.a (h : Nat) : Nat := 0x00188000 + h * 0x20 + 0x10
def HRN_WIT_RPTR.V (h : Nat) : Rf := ⟨HRN_WIT_RPTR.a h, 0, 64⟩
/-- HRN_WIT_DROP (R410). -/
def HRN_WIT_DROP.a (h : Nat) : Nat := 0x00188000 + h * 0x20 + 0x18
def HRN_WIT_DROP.V (h : Nat) : Rf := ⟨HRN_WIT_DROP.a h, 0, 64⟩
/-- CRX_CNT_RES_VERIFY (R411). -/
def CRX_CNT_RES_VERIFY.a (n : Nat) : Nat := cruxBase n + 0x20200
def CRX_CNT_RES_VERIFY.V (n : Nat) : Rf := ⟨CRX_CNT_RES_VERIFY.a n, 0, 64⟩
/-- CRX_CNT_RES_FAIL (R411). -/
def CRX_CNT_RES_FAIL.a (n : Nat) : Nat := cruxBase n + 0x20208
def CRX_CNT_RES_FAIL.V (n : Nat) : Rf := ⟨CRX_CNT_RES_FAIL.a n, 0, 64⟩
/-- CRX_CNT_DUAL_FAIL (R411). -/
def CRX_CNT_DUAL_FAIL.a (n : Nat) : Nat := cruxBase n + 0x20210
def CRX_CNT_DUAL_FAIL.V (n : Nat) : Rf := ⟨CRX_CNT_DUAL_FAIL.a n, 0, 64⟩
/-- CRX_CNT_TEN_CHECK (R411). -/
def CRX_CNT_TEN_CHECK.a (n : Nat) : Nat := cruxBase n + 0x20218
def CRX_CNT_TEN_CHECK.V (n : Nat) : Rf := ⟨CRX_CNT_TEN_CHECK.a n, 0, 64⟩
/-- CRX_CNT_TEN_SKIP (R411). -/
def CRX_CNT_TEN_SKIP.a (n : Nat) : Nat := cruxBase n + 0x20220
def CRX_CNT_TEN_SKIP.V (n : Nat) : Rf := ⟨CRX_CNT_TEN_SKIP.a n, 0, 64⟩
/-- CRX_CNT_TEN_FAIL (R411). -/
def CRX_CNT_TEN_FAIL.a (n : Nat) : Nat := cruxBase n + 0x20228
def CRX_CNT_TEN_FAIL.V (n : Nat) : Rf := ⟨CRX_CNT_TEN_FAIL.a n, 0, 64⟩
/-- CRX_CNT_CDC_FAIL (R411). -/
def CRX_CNT_CDC_FAIL.a (n : Nat) : Nat := cruxBase n + 0x20230
def CRX_CNT_CDC_FAIL.V (n : Nat) : Rf := ⟨CRX_CNT_CDC_FAIL.a n, 0, 64⟩
/-- CRX_CNT_WITNESS (R411). -/
def CRX_CNT_WITNESS.a (n : Nat) : Nat := cruxBase n + 0x20238
def CRX_CNT_WITNESS.V (n : Nat) : Rf := ⟨CRX_CNT_WITNESS.a n, 0, 64⟩
/-- HUB_HOST_CTL (R439). -/
def HUB_HOST_CTL.a : Nat := 0x400
def HUB_HOST_CTL.ACTIVE : Rf := ⟨HUB_HOST_CTL.a, 0, 1⟩
def HUB_HOST_CTL.NONE : Rf := ⟨HUB_HOST_CTL.a, 1, 1⟩
def HUB_HOST_CTL.UP0 : Rf := ⟨HUB_HOST_CTL.a, 2, 1⟩
def HUB_HOST_CTL.UP1 : Rf := ⟨HUB_HOST_CTL.a, 3, 1⟩
def HUB_HOST_CTL.TAKEOVER : Rf := ⟨HUB_HOST_CTL.a, 4, 1⟩
def HUB_HOST_CTL.FAILOVER_MS : Rf := ⟨HUB_HOST_CTL.a, 5, 15⟩
def HUB_HOST_CTL.TAKEOVERS : Rf := ⟨HUB_HOST_CTL.a, 20, 16⟩
/-- HUB_BAR4_CFG (R439). -/
def HUB_BAR4_CFG.a : Nat := 0x408
def HUB_BAR4_CFG.BASE : Rf := ⟨HUB_BAR4_CFG.a, 0, 40⟩
def HUB_BAR4_CFG.HARNESS : Rf := ⟨HUB_BAR4_CFG.a, 40, 12⟩
/-- HUB_MGMT_MASTER (R439). -/
def HUB_MGMT_MASTER.a : Nat := 0x410
def HUB_MGMT_MASTER.FEID : Rf := ⟨HUB_MGMT_MASTER.a, 0, 18⟩
def HUB_MGMT_MASTER.VALID : Rf := ⟨HUB_MGMT_MASTER.a, 18, 1⟩
def HUB_MGMT_MASTER.INDEX : Rf := ⟨HUB_MGMT_MASTER.a, 19, 6⟩
/-- HUB_VF_BIND (R439). -/
def HUB_VF_BIND.a (v : Nat) : Nat := 0x800 + 0x8 * v
def HUB_VF_BIND.HARNESS (v : Nat) : Rf := ⟨HUB_VF_BIND.a v, 0, 12⟩
def HUB_VF_BIND.VALID (v : Nat) : Rf := ⟨HUB_VF_BIND.a v, 12, 1⟩
/-- RING_SQ_BASE (R440). -/
def RING_SQ_BASE.a (i : Nat) : Nat := 0x00200000 + i * 0x40
def RING_SQ_BASE.V (i : Nat) : Rf := ⟨RING_SQ_BASE.a i, 0, 64⟩
/-- RING_CQ_BASE (R440). -/
def RING_CQ_BASE.a (i : Nat) : Nat := 0x00200000 + i * 0x40 + 0x8
def RING_CQ_BASE.V (i : Nat) : Rf := ⟨RING_CQ_BASE.a i, 0, 64⟩
/-- RING_CFG (R440). -/
def RING_CFG.a (i : Nat) : Nat := 0x00200000 + i * 0x40 + 0x10
def RING_CFG.SQ_LOG2 (i : Nat) : Rf := ⟨RING_CFG.a i, 0, 5⟩
def RING_CFG.CQ_LOG2 (i : Nat) : Rf := ⟨RING_CFG.a i, 5, 5⟩
def RING_CFG.SQ_LOC (i : Nat) : Rf := ⟨RING_CFG.a i, 10, 1⟩
def RING_CFG.CQ_LOC (i : Nat) : Rf := ⟨RING_CFG.a i, 11, 2⟩
def RING_CFG.HARNESS (i : Nat) : Rf := ⟨RING_CFG.a i, 13, 12⟩
def RING_CFG.VF (i : Nat) : Rf := ⟨RING_CFG.a i, 25, 8⟩
def RING_CFG.VSLOT (i : Nat) : Rf := ⟨RING_CFG.a i, 33, 11⟩
def RING_CFG.DB_ANY (i : Nat) : Rf := ⟨RING_CFG.a i, 44, 1⟩
def RING_CFG.DB_FEID (i : Nat) : Rf := ⟨RING_CFG.a i, 45, 18⟩
def RING_CFG.DB_FEID_EN (i : Nat) : Rf := ⟨RING_CFG.a i, 63, 1⟩
/-- RING_IRQ (R440). -/
def RING_IRQ.a (i : Nat) : Nat := 0x00200000 + i * 0x40 + 0x18
def RING_IRQ.VECTOR (i : Nat) : Rf := ⟨RING_IRQ.a i, 0, 11⟩
def RING_IRQ.IRQ_EN (i : Nat) : Rf := ⟨RING_IRQ.a i, 11, 1⟩
def RING_IRQ.COAL_COUNT (i : Nat) : Rf := ⟨RING_IRQ.a i, 12, 8⟩
def RING_IRQ.COAL_NS (i : Nat) : Rf := ⟨RING_IRQ.a i, 20, 16⟩
def RING_IRQ.CQ_FEID (i : Nat) : Rf := ⟨RING_IRQ.a i, 36, 18⟩
/-- RING_STS (R440). -/
def RING_STS.a (i : Nat) : Nat := 0x00200000 + i * 0x40 + 0x20
def RING_STS.STATE (i : Nat) : Rf := ⟨RING_STS.a i, 0, 3⟩
def RING_STS.SQ_HEAD (i : Nat) : Rf := ⟨RING_STS.a i, 3, 16⟩
def RING_STS.SQ_TAIL (i : Nat) : Rf := ⟨RING_STS.a i, 19, 16⟩
def RING_STS.CQ_TAIL (i : Nat) : Rf := ⟨RING_STS.a i, 35, 16⟩
/-- RING_STS2 (R440). -/
def RING_STS2.a (i : Nat) : Nat := 0x00200000 + i * 0x40 + 0x28
def RING_STS2.CQ_HEAD (i : Nat) : Rf := ⟨RING_STS2.a i, 0, 16⟩
def RING_STS2.CQ_PHASE (i : Nat) : Rf := ⟨RING_STS2.a i, 16, 1⟩
def RING_STS2.IN_FLIGHT (i : Nat) : Rf := ⟨RING_STS2.a i, 17, 7⟩
def RING_STS2.CAUSE (i : Nat) : Rf := ⟨RING_STS2.a i, 24, 8⟩
/-- RING_CMD (R441). -/
def RING_CMD.a : Nat := 0x00280000
def RING_CMD.RING : Rf := ⟨RING_CMD.a, 0, 13⟩
def RING_CMD.OP : Rf := ⟨RING_CMD.a, 13, 3⟩
def RING_CMD.STATUS : Rf := ⟨RING_CMD.a, 16, 8⟩
def RING_CMD.BUSY : Rf := ⟨RING_CMD.a, 24, 1⟩
/-- RING_CNT_CMD (R442). -/
def RING_CNT_CMD.a : Nat := 0x281000
def RING_CNT_CMD.V : Rf := ⟨RING_CNT_CMD.a, 0, 64⟩
/-- RING_CNT_CQ_FULL (R442). -/
def RING_CNT_CQ_FULL.a : Nat := 0x281008
def RING_CNT_CQ_FULL.V : Rf := ⟨RING_CNT_CQ_FULL.a, 0, 64⟩
/-- RING_CNT_DB_NONE (R442). -/
def RING_CNT_DB_NONE.a : Nat := 0x281010
def RING_CNT_DB_NONE.V : Rf := ⟨RING_CNT_DB_NONE.a, 0, 64⟩
/-- RING_CNT_DB_DENIED (R442). -/
def RING_CNT_DB_DENIED.a : Nat := 0x281018
def RING_CNT_DB_DENIED.V : Rf := ⟨RING_CNT_DB_DENIED.a, 0, 64⟩
/-- RING_CNT_ORPHAN (R442). -/
def RING_CNT_ORPHAN.a : Nat := 0x281020
def RING_CNT_ORPHAN.V : Rf := ⟨RING_CNT_ORPHAN.a, 0, 64⟩
/-- RING_CNT_FLUSH_MSG (R442). -/
def RING_CNT_FLUSH_MSG.a : Nat := 0x281028
def RING_CNT_FLUSH_MSG.V : Rf := ⟨RING_CNT_FLUSH_MSG.a, 0, 64⟩
/-- RING_CNT_MGMT_DENIED (R442). -/
def RING_CNT_MGMT_DENIED.a : Nat := 0x281030
def RING_CNT_MGMT_DENIED.V : Rf := ⟨RING_CNT_MGMT_DENIED.a, 0, 64⟩
/-- RING_CNT_DMA_BYTES (R442). -/
def RING_CNT_DMA_BYTES.a : Nat := 0x281038
def RING_CNT_DMA_BYTES.V : Rf := ⟨RING_CNT_DMA_BYTES.a, 0, 64⟩
/-- POOL_CMD (R468). -/
def POOL_CMD.a (p : Nat) : Nat := poolBase p
def POOL_CMD.OP (p : Nat) : Rf := ⟨POOL_CMD.a p, 0, 2⟩
def POOL_CMD.STATUS (p : Nat) : Rf := ⟨POOL_CMD.a p, 2, 8⟩
def POOL_CMD.BUSY (p : Nat) : Rf := ⟨POOL_CMD.a p, 10, 1⟩
/-- POOL_CFG (R468). -/
def POOL_CFG.a (p : Nat) : Nat := poolBase p + 0x8
def POOL_CFG.HARNESS (p : Nat) : Rf := ⟨POOL_CFG.a p, 0, 12⟩
def POOL_CFG.KIND (p : Nat) : Rf := ⟨POOL_CFG.a p, 12, 1⟩
def POOL_CFG.BUF_LOG2 (p : Nat) : Rf := ⟨POOL_CFG.a p, 13, 5⟩
/-- POOL_PBASE (R468). -/
def POOL_PBASE.a (p : Nat) : Nat := poolBase p + 0x10
def POOL_PBASE.V (p : Nat) : Rf := ⟨POOL_PBASE.a p, 0, 28⟩
/-- POOL_PAGES (R468). -/
def POOL_PAGES.a (p : Nat) : Nat := poolBase p + 0x18
def POOL_PAGES.V (p : Nat) : Rf := ⟨POOL_PAGES.a p, 0, 28⟩
/-- POOL_HBASE (R468). -/
def POOL_HBASE.a (p : Nat) : Nat := poolBase p + 0x20
def POOL_HBASE.V (p : Nat) : Rf := ⟨POOL_HBASE.a p, 0, 40⟩
/-- POOL_FLOOR (R468). -/
def POOL_FLOOR.a (p : Nat) : Nat := poolBase p + 0x28
def POOL_FLOOR.V (p : Nat) : Rf := ⟨POOL_FLOOR.a p, 0, 28⟩
/-- POOL_STS (R468). -/
def POOL_STS.a (p : Nat) : Nat := poolBase p + 0x30
def POOL_STS.STATE (p : Nat) : Rf := ⟨POOL_STS.a p, 0, 2⟩
def POOL_STS.FREE (p : Nat) : Rf := ⟨POOL_STS.a p, 2, 28⟩
def POOL_STS.WAITERS (p : Nat) : Rf := ⟨POOL_STS.a p, 30, 9⟩
/-- POOL_HEAD (R468). -/
def POOL_HEAD.a (p : Nat) : Nat := poolBase p + 0x38
def POOL_HEAD.V (p : Nat) : Rf := ⟨POOL_HEAD.a p, 0, 32⟩
/-- POOL_REQ (R468). -/
def POOL_REQ.a (p : Nat) (e : Nat) : Nat := poolBase p + 0x100 + 0x10 * e
def POOL_REQ.VALID (p : Nat) (e : Nat) : Rf := ⟨POOL_REQ.a p e, 0, 1⟩
def POOL_REQ.FLOOR_OK (p : Nat) (e : Nat) : Rf := ⟨POOL_REQ.a p e, 1, 1⟩
def POOL_REQ.RING (p : Nat) (e : Nat) : Rf := ⟨POOL_REQ.a p e, 2, 13⟩
def POOL_REQ.LIMIT (p : Nat) (e : Nat) : Rf := ⟨POOL_REQ.a p e, 15, 28⟩
/-- POOL_REQ_USED (R468). -/
def POOL_REQ_USED.a (p : Nat) (e : Nat) : Nat := poolBase p + 0x108 + 0x10 * e
def POOL_REQ_USED.USED (p : Nat) (e : Nat) : Rf := ⟨POOL_REQ_USED.a p e, 0, 28⟩
def POOL_REQ_USED.OVER (p : Nat) (e : Nat) : Rf := ⟨POOL_REQ_USED.a p e, 28, 1⟩
/-- HBM_STS (R469). -/
def HBM_STS.a (s : Nat) : Nat := 0x03000000 + s * 0x10000
def HBM_STS.PITONS_USED (s : Nat) : Rf := ⟨HBM_STS.a s, 0, 11⟩
def HBM_STS.PITON_FULL (s : Nat) : Rf := ⟨HBM_STS.a s, 11, 1⟩
/-- HBM_SCRUB_CFG (R469). -/
def HBM_SCRUB_CFG.a (s : Nat) : Nat := 0x03000000 + s * 0x10000 + 0x8
def HBM_SCRUB_CFG.PERIOD_H (s : Nat) : Rf := ⟨HBM_SCRUB_CFG.a s, 0, 14⟩
def HBM_SCRUB_CFG.PITON_CE (s : Nat) : Rf := ⟨HBM_SCRUB_CFG.a s, 14, 4⟩
def HBM_SCRUB_CFG.AUTO_PITON (s : Nat) : Rf := ⟨HBM_SCRUB_CFG.a s, 18, 1⟩
/-- HBM_SHARE (R469). -/
def HBM_SHARE.a (s : Nat) : Nat := 0x03000000 + s * 0x10000 + 0x10
def HBM_SHARE.W_TABLE (s : Nat) : Rf := ⟨HBM_SHARE.a s, 0, 8⟩
def HBM_SHARE.W_DEMAND (s : Nat) : Rf := ⟨HBM_SHARE.a s, 8, 8⟩
def HBM_SHARE.W_STREAM (s : Nat) : Rf := ⟨HBM_SHARE.a s, 16, 8⟩
def HBM_SHARE.W_MIRROR (s : Nat) : Rf := ⟨HBM_SHARE.a s, 24, 8⟩
def HBM_SHARE.W_SCRUB (s : Nat) : Rf := ⟨HBM_SHARE.a s, 32, 8⟩
def HBM_SHARE.CAP_STREAM (s : Nat) : Rf := ⟨HBM_SHARE.a s, 40, 7⟩
def HBM_SHARE.CAP_MIRROR (s : Nat) : Rf := ⟨HBM_SHARE.a s, 47, 7⟩
/-- HBM_PITON_SEL (R469). -/
def HBM_PITON_SEL.a (s : Nat) : Nat := 0x03000000 + s * 0x10000 + 0x18
def HBM_PITON_SEL.V (s : Nat) : Rf := ⟨HBM_PITON_SEL.a s, 0, 10⟩
/-- HBM_PITON_DATA (R469). -/
def HBM_PITON_DATA.a (s : Nat) : Nat := 0x03000000 + s * 0x10000 + 0x20
def HBM_PITON_DATA.VALID (s : Nat) : Rf := ⟨HBM_PITON_DATA.a s, 0, 1⟩
def HBM_PITON_DATA.LINE (s : Nat) : Rf := ⟨HBM_PITON_DATA.a s, 1, 24⟩
/-- CRX_MEM_CFG (R470). -/
def CRX_MEM_CFG.a (n : Nat) : Nat := cruxBase n + 0x20300
def CRX_MEM_CFG.SCRUB_S (n : Nat) : Rf := ⟨CRX_MEM_CFG.a n, 0, 16⟩
def CRX_MEM_CFG.PITON_CE (n : Nat) : Rf := ⟨CRX_MEM_CFG.a n, 16, 4⟩
def CRX_MEM_CFG.AUTO_PITON (n : Nat) : Rf := ⟨CRX_MEM_CFG.a n, 20, 1⟩
/-- PWR_CTL (R487). -/
def PWR_CTL.a : Nat := 0x00300000
def PWR_CTL.CORE_MHZ : Rf := ⟨PWR_CTL.a, 0, 11⟩
def PWR_CTL.CAP_W : Rf := ⟨PWR_CTL.a, 11, 12⟩
/-- PWR_STS (R487). -/
def PWR_STS.a : Nat := 0x00300000 + 0x8
def PWR_STS.EST_W : Rf := ⟨PWR_STS.a, 0, 12⟩
def PWR_STS.BUBBLE : Rf := ⟨PWR_STS.a, 12, 6⟩
def PWR_STS.CORE_MHZ_ACT : Rf := ⟨PWR_STS.a, 18, 11⟩
def PWR_STS.CEILING : Rf := ⟨PWR_STS.a, 29, 1⟩
def PWR_STS.LENT_W : Rf := ⟨PWR_STS.a, 30, 12⟩
def PWR_STS.CAL_FAULT : Rf := ⟨PWR_STS.a, 42, 1⟩
/-- PWR_CAL (R487). -/
def PWR_CAL.a : Nat := 0x00300000 + 0x10
def PWR_CAL.K : Rf := ⟨PWR_CAL.a, 0, 16⟩
def PWR_CAL.RAIL_W : Rf := ⟨PWR_CAL.a, 16, 12⟩
/-- PWR_SYS_WAKE (R487). -/
def PWR_SYS_WAKE.a : Nat := 0x00300000 + 0x18
def PWR_SYS_WAKE.TORUS : Rf := ⟨PWR_SYS_WAKE.a, 0, 16⟩
def PWR_SYS_WAKE.HBM : Rf := ⟨PWR_SYS_WAKE.a, 16, 16⟩
def PWR_SYS_WAKE.FREE_CLUSTER : Rf := ⟨PWR_SYS_WAKE.a, 32, 16⟩
/-- PWR_IDLE_CFG (R487). -/
def PWR_IDLE_CFG.a : Nat := 0x00300000 + 0x20
def PWR_IDLE_CFG.PORT_IDLE_US : Rf := ⟨PWR_IDLE_CFG.a, 0, 16⟩
def PWR_IDLE_CFG.TEN_DEEP_US : Rf := ⟨PWR_IDLE_CFG.a, 16, 16⟩
def PWR_IDLE_CFG.HBM_SR_US : Rf := ⟨PWR_IDLE_CFG.a, 32, 16⟩
/-- PWR_DROOP_CFG (R487). -/
def PWR_DROOP_CFG.a : Nat := 0x00300000 + 0x28
def PWR_DROOP_CFG.THRESH_MV : Rf := ⟨PWR_DROOP_CFG.a, 0, 8⟩
def PWR_DROOP_CFG.HOLD_NS : Rf := ⟨PWR_DROOP_CFG.a, 8, 8⟩
/-- PWR_TRIM_CFG (R487). -/
def PWR_TRIM_CFG.a : Nat := 0x00300000 + 0x30
def PWR_TRIM_CFG.PERIOD_S : Rf := ⟨PWR_TRIM_CFG.a, 0, 16⟩
def PWR_TRIM_CFG.STEP_MV : Rf := ⟨PWR_TRIM_CFG.a, 16, 8⟩
def PWR_TRIM_CFG.AUTO : Rf := ⟨PWR_TRIM_CFG.a, 24, 1⟩
/-- PWR_DIE_STS (R487). -/
def PWR_DIE_STS.a (n : Nat) : Nat := 0x00300000 + 0x100 + 0x10 * n
def PWR_DIE_STS.VSET_MV (n : Nat) : Rf := ⟨PWR_DIE_STS.a n, 0, 10⟩
def PWR_DIE_STS.VMEAS_MV (n : Nat) : Rf := ⟨PWR_DIE_STS.a n, 10, 10⟩
def PWR_DIE_STS.SLACK_PS (n : Nat) : Rf := ⟨PWR_DIE_STS.a n, 20, 8⟩
def PWR_DIE_STS.TJ_C (n : Nat) : Rf := ⟨PWR_DIE_STS.a n, 28, 8⟩
def PWR_DIE_STS.DROOP (n : Nat) : Rf := ⟨PWR_DIE_STS.a n, 36, 1⟩
/-- PWR_CNT_BUBBLE (R488). -/
def PWR_CNT_BUBBLE.a : Nat := 0x00300000 + 0x1000
def PWR_CNT_BUBBLE.V : Rf := ⟨PWR_CNT_BUBBLE.a, 0, 64⟩
/-- PWR_CNT_DROOP (R488). -/
def PWR_CNT_DROOP.a : Nat := 0x00300000 + 0x1008
def PWR_CNT_DROOP.V : Rf := ⟨PWR_CNT_DROOP.a, 0, 64⟩
/-- PWR_CNT_STEPDOWN (R488). -/
def PWR_CNT_STEPDOWN.a : Nat := 0x00300000 + 0x1010
def PWR_CNT_STEPDOWN.V : Rf := ⟨PWR_CNT_STEPDOWN.a, 0, 64⟩
/-- PWR_CNT_TRIM (R488). -/
def PWR_CNT_TRIM.a : Nat := 0x00300000 + 0x1018
def PWR_CNT_TRIM.V : Rf := ⟨PWR_CNT_TRIM.a, 0, 64⟩
/-- PWR_CNT_PORT_IDLE (R488). -/
def PWR_CNT_PORT_IDLE.a : Nat := 0x00300000 + 0x1020
def PWR_CNT_PORT_IDLE.V : Rf := ⟨PWR_CNT_PORT_IDLE.a, 0, 64⟩
/-- PWR_CNT_HBM_SR (R488). -/
def PWR_CNT_HBM_SR.a : Nat := 0x00300000 + 0x1028
def PWR_CNT_HBM_SR.V : Rf := ⟨PWR_CNT_HBM_SR.a, 0, 64⟩
/-- PWR_CNT_DEEP (R488). -/
def PWR_CNT_DEEP.a : Nat := 0x00300000 + 0x1030
def PWR_CNT_DEEP.V : Rf := ⟨PWR_CNT_DEEP.a, 0, 64⟩
/-- HUB_CAMP_STS (R509). -/
def HUB_CAMP_STS.a : Nat := 0x200
def HUB_CAMP_STS.CAMP : Rf := ⟨HUB_CAMP_STS.a, 0, 3⟩
def HUB_CAMP_STS.STATE : Rf := ⟨HUB_CAMP_STS.a, 3, 2⟩
def HUB_CAMP_STS.STATUS : Rf := ⟨HUB_CAMP_STS.a, 5, 8⟩
def HUB_CAMP_STS.REASON : Rf := ⟨HUB_CAMP_STS.a, 13, 8⟩
def HUB_CAMP_STS.DETAIL : Rf := ⟨HUB_CAMP_STS.a, 21, 12⟩
def HUB_CAMP_STS.FW_READY : Rf := ⟨HUB_CAMP_STS.a, 33, 1⟩
/-- HUB_BOOT_CTL (R509). -/
def HUB_BOOT_CTL.a : Nat := 0x208
def HUB_BOOT_CTL.RESET : Rf := ⟨HUB_BOOT_CTL.a, 0, 1⟩
def HUB_BOOT_CTL.COMMIT : Rf := ⟨HUB_BOOT_CTL.a, 1, 1⟩
def HUB_BOOT_CTL.LOCK : Rf := ⟨HUB_BOOT_CTL.a, 2, 1⟩
def HUB_BOOT_CTL.BURN_SVN : Rf := ⟨HUB_BOOT_CTL.a, 3, 1⟩
def HUB_BOOT_CTL.SOD_QUICK : Rf := ⟨HUB_BOOT_CTL.a, 4, 1⟩
/-- HUB_CAMP_RPT (R509). -/
def HUB_CAMP_RPT.a (c : Nat) : Nat := 0x210 + 0x8 * c
def HUB_CAMP_RPT.STATUS (c : Nat) : Rf := ⟨HUB_CAMP_RPT.a c, 0, 8⟩
def HUB_CAMP_RPT.REASON (c : Nat) : Rf := ⟨HUB_CAMP_RPT.a c, 8, 8⟩
def HUB_CAMP_RPT.DURATION_US (c : Nat) : Rf := ⟨HUB_CAMP_RPT.a c, 16, 24⟩
def HUB_CAMP_RPT.DETAIL (c : Nat) : Rf := ⟨HUB_CAMP_RPT.a c, 40, 12⟩
def HUB_CAMP_RPT.NEW_DEFECTS (c : Nat) : Rf := ⟨HUB_CAMP_RPT.a c, 52, 12⟩
/-- HUB_BOOT_IMAGE (R509). -/
def HUB_BOOT_IMAGE.a : Nat := 0x248
def HUB_BOOT_IMAGE.SLOT : Rf := ⟨HUB_BOOT_IMAGE.a, 0, 1⟩
def HUB_BOOT_IMAGE.FALLBACK : Rf := ⟨HUB_BOOT_IMAGE.a, 1, 1⟩
def HUB_BOOT_IMAGE.SVN : Rf := ⟨HUB_BOOT_IMAGE.a, 2, 16⟩
def HUB_BOOT_IMAGE.MIN_SVN : Rf := ⟨HUB_BOOT_IMAGE.a, 18, 16⟩
def HUB_BOOT_IMAGE.KEY : Rf := ⟨HUB_BOOT_IMAGE.a, 34, 1⟩
/-- HUB_DEFECT_STS (R509). -/
def HUB_DEFECT_STS.a : Nat := 0x250
def HUB_DEFECT_STS.ENTRIES : Rf := ⟨HUB_DEFECT_STS.a, 0, 12⟩
def HUB_DEFECT_STS.ADDED : Rf := ⟨HUB_DEFECT_STS.a, 12, 12⟩
def HUB_DEFECT_STS.FULL : Rf := ⟨HUB_DEFECT_STS.a, 24, 1⟩
def HUB_DEFECT_STS.REBUILT : Rf := ⟨HUB_DEFECT_STS.a, 25, 1⟩
def HUB_DEFECT_STS.DROPPED : Rf := ⟨HUB_DEFECT_STS.a, 26, 12⟩
/-- HUB_JTAG_TOKEN (R509). -/
def HUB_JTAG_TOKEN.a : Nat := 0x258
def HUB_JTAG_TOKEN.V : Rf := ⟨HUB_JTAG_TOKEN.a, 0, 64⟩
/-- HUB_JTAG_STS (R509). -/
def HUB_JTAG_STS.a : Nat := 0x260
def HUB_JTAG_STS.OPEN : Rf := ⟨HUB_JTAG_STS.a, 0, 1⟩
def HUB_JTAG_STS.TRIES : Rf := ⟨HUB_JTAG_STS.a, 1, 2⟩
/-- HUB_JOIN0 (R509). -/
def HUB_JOIN0.a : Nat := 0x268
def HUB_JOIN0.PLANE_ID : Rf := ⟨HUB_JOIN0.a, 0, 32⟩
def HUB_JOIN0.A : Rf := ⟨HUB_JOIN0.a, 32, 3⟩
def HUB_JOIN0.B : Rf := ⟨HUB_JOIN0.a, 35, 3⟩
def HUB_JOIN0.C : Rf := ⟨HUB_JOIN0.a, 38, 3⟩
def HUB_JOIN0.INDEX : Rf := ⟨HUB_JOIN0.a, 41, 6⟩
def HUB_JOIN0.FPLANE : Rf := ⟨HUB_JOIN0.a, 47, 2⟩
/-- HUB_JOIN1 (R509). -/
def HUB_JOIN1.a : Nat := 0x270
def HUB_JOIN1.DEVICE_FEID : Rf := ⟨HUB_JOIN1.a, 0, 18⟩
def HUB_JOIN1.EQUIV_ANY : Rf := ⟨HUB_JOIN1.a, 18, 1⟩
def HUB_JOIN1.EQUIV_EXPECT : Rf := ⟨HUB_JOIN1.a, 32, 32⟩
/-- HUB_BOOT_TIME (R509). -/
def HUB_BOOT_TIME.a : Nat := 0x278
def HUB_BOOT_TIME.V : Rf := ⟨HUB_BOOT_TIME.a, 0, 64⟩
/-- HUB_FAULT_STS (R532). -/
def HUB_FAULT_STS.a : Nat := 0x600
def HUB_FAULT_STS.DEV_STATE : Rf := ⟨HUB_FAULT_STS.a, 0, 2⟩
def HUB_FAULT_STS.MP_STATE : Rf := ⟨HUB_FAULT_STS.a, 2, 2⟩
def HUB_FAULT_STS.FAULT_N : Rf := ⟨HUB_FAULT_STS.a, 4, 1⟩
def HUB_FAULT_STS.QUEUE : Rf := ⟨HUB_FAULT_STS.a, 5, 13⟩
def HUB_FAULT_STS.RING_SKIP : Rf := ⟨HUB_FAULT_STS.a, 18, 1⟩
/-- HUB_FAULT_CTL (R532). -/
def HUB_FAULT_CTL.a : Nat := 0x608
def HUB_FAULT_CTL.FENCE : Rf := ⟨HUB_FAULT_CTL.a, 0, 1⟩
def HUB_FAULT_CTL.CLEAR : Rf := ⟨HUB_FAULT_CTL.a, 1, 1⟩
def HUB_FAULT_CTL.RESUME : Rf := ⟨HUB_FAULT_CTL.a, 2, 1⟩
def HUB_FAULT_CTL.LASER_OFF : Rf := ⟨HUB_FAULT_CTL.a, 3, 1⟩
def HUB_FAULT_CTL.LASER_ON : Rf := ⟨HUB_FAULT_CTL.a, 4, 1⟩
def HUB_FAULT_CTL.HEADLESS_S : Rf := ⟨HUB_FAULT_CTL.a, 5, 8⟩
def HUB_FAULT_CTL.MP_WDOG_MS : Rf := ⟨HUB_FAULT_CTL.a, 13, 12⟩
/-- HUB_FAULT_RING (R532). -/
def HUB_FAULT_RING.a : Nat := 0x610
def HUB_FAULT_RING.BASE : Rf := ⟨HUB_FAULT_RING.a, 0, 40⟩
def HUB_FAULT_RING.LOG2 : Rf := ⟨HUB_FAULT_RING.a, 40, 5⟩
def HUB_FAULT_RING.EN : Rf := ⟨HUB_FAULT_RING.a, 45, 1⟩
/-- HUB_FAULT_WPTR (R532). -/
def HUB_FAULT_WPTR.a : Nat := 0x618
def HUB_FAULT_WPTR.V : Rf := ⟨HUB_FAULT_WPTR.a, 0, 64⟩
/-- HUB_HACC_ERR (R532). -/
def HUB_HACC_ERR.a : Nat := 0x620
def HUB_HACC_ERR.OFFSET : Rf := ⟨HUB_HACC_ERR.a, 0, 26⟩
def HUB_HACC_ERR.WRITE : Rf := ⟨HUB_HACC_ERR.a, 26, 1⟩
def HUB_HACC_ERR.STATUS : Rf := ⟨HUB_HACC_ERR.a, 27, 8⟩
def HUB_HACC_ERR.FUNC : Rf := ⟨HUB_HACC_ERR.a, 35, 8⟩
def HUB_HACC_ERR.SOURCE : Rf := ⟨HUB_HACC_ERR.a, 43, 2⟩
def HUB_HACC_ERR.VALID : Rf := ⟨HUB_HACC_ERR.a, 45, 1⟩
/-- HUB_HACC_CNT (R532). -/
def HUB_HACC_CNT.a : Nat := 0x628
def HUB_HACC_CNT.V : Rf := ⟨HUB_HACC_CNT.a, 0, 64⟩
/-- HUB_FILL_CTL (R532). -/
def HUB_FILL_CTL.a : Nat := 0x630
def HUB_FILL_CTL.DIE : Rf := ⟨HUB_FILL_CTL.a, 0, 4⟩
def HUB_FILL_CTL.OP : Rf := ⟨HUB_FILL_CTL.a, 4, 2⟩
def HUB_FILL_CTL.STATUS : Rf := ⟨HUB_FILL_CTL.a, 6, 8⟩
def HUB_FILL_CTL.BUSY : Rf := ⟨HUB_FILL_CTL.a, 14, 1⟩
def HUB_FILL_CTL.TIMEOUT_MS : Rf := ⟨HUB_FILL_CTL.a, 15, 16⟩
/-- HUB_FILL_STS (R532). -/
def HUB_FILL_STS.a : Nat := 0x638
def HUB_FILL_STS.WRITTEN : Rf := ⟨HUB_FILL_STS.a, 0, 32⟩
def HUB_FILL_STS.LOST : Rf := ⟨HUB_FILL_STS.a, 32, 32⟩
/-- HUB_MARK_CTL (R532). -/
def HUB_MARK_CTL.a : Nat := 0x640
def HUB_MARK_CTL.DIE : Rf := ⟨HUB_MARK_CTL.a, 0, 4⟩
def HUB_MARK_CTL.DEV : Rf := ⟨HUB_MARK_CTL.a, 4, 6⟩
def HUB_MARK_CTL.SET : Rf := ⟨HUB_MARK_CTL.a, 10, 1⟩
def HUB_MARK_CTL.GO : Rf := ⟨HUB_MARK_CTL.a, 11, 1⟩
def HUB_MARK_CTL.STATUS : Rf := ⟨HUB_MARK_CTL.a, 12, 8⟩
def HUB_MARK_CTL.BUSY : Rf := ⟨HUB_MARK_CTL.a, 20, 1⟩
/-- HUB_FM_CFG (R533). -/
def HUB_FM_CFG.a : Nat := 0x668
def HUB_FM_CFG.LOCAL_IPV4 : Rf := ⟨HUB_FM_CFG.a, 0, 32⟩
def HUB_FM_CFG.UDP_PORT : Rf := ⟨HUB_FM_CFG.a, 32, 16⟩
def HUB_FM_CFG.DHCP : Rf := ⟨HUB_FM_CFG.a, 48, 1⟩
/-- HUB_FM_MGR (R533). -/
def HUB_FM_MGR.a : Nat := 0x670
def HUB_FM_MGR.V : Rf := ⟨HUB_FM_MGR.a, 0, 32⟩
/-- HUB_FM_KEY (R533). -/
def HUB_FM_KEY.a (i : Nat) : Nat := 0x680 + 0x8 * i
def HUB_FM_KEY.V (i : Nat) : Rf := ⟨HUB_FM_KEY.a i, 0, 64⟩
/-- HUB_MARGIN_CFG (R533). -/
def HUB_MARGIN_CFG.a : Nat := 0x6A0
def HUB_MARGIN_CFG.PERIOD_S : Rf := ⟨HUB_MARGIN_CFG.a, 0, 16⟩
def HUB_MARGIN_CFG.NOW : Rf := ⟨HUB_MARGIN_CFG.a, 16, 1⟩
def HUB_MARGIN_CFG.EYE_MIN_MV : Rf := ⟨HUB_MARGIN_CFG.a, 17, 12⟩
def HUB_MARGIN_CFG.RXP_MIN : Rf := ⟨HUB_MARGIN_CFG.a, 29, 16⟩
/-- HUB_FM_CNT_RX (R533). -/
def HUB_FM_CNT_RX.a : Nat := 0x6C0
def HUB_FM_CNT_RX.V : Rf := ⟨HUB_FM_CNT_RX.a, 0, 64⟩
/-- HUB_FM_CNT_BAD (R533). -/
def HUB_FM_CNT_BAD.a : Nat := 0x6C8
def HUB_FM_CNT_BAD.V : Rf := ⟨HUB_FM_CNT_BAD.a, 0, 64⟩
/-- HUB_FM_CNT_RESEND (R533). -/
def HUB_FM_CNT_RESEND.a : Nat := 0x6D0
def HUB_FM_CNT_RESEND.V : Rf := ⟨HUB_FM_CNT_RESEND.a, 0, 64⟩
/-- HUB_FAULT_CNT (R533). -/
def HUB_FAULT_CNT.a : Nat := 0x6D8
def HUB_FAULT_CNT.V : Rf := ⟨HUB_FAULT_CNT.a, 0, 64⟩
/-- PRT_LANE_MARGIN (R534). -/
def PRT_LANE_MARGIN.a (m : Nat) (l : Nat) : Nat := 0x02000000 + m * 0x80000 + 0x8000 + 0x8 * l
def PRT_LANE_MARGIN.RX_PWR (m : Nat) (l : Nat) : Rf := ⟨PRT_LANE_MARGIN.a m l, 0, 16⟩
def PRT_LANE_MARGIN.EYE_V (m : Nat) (l : Nat) : Rf := ⟨PRT_LANE_MARGIN.a m l, 16, 12⟩
def PRT_LANE_MARGIN.EYE_H (m : Nat) (l : Nat) : Rf := ⟨PRT_LANE_MARGIN.a m l, 28, 12⟩
def PRT_LANE_MARGIN.USE (m : Nat) (l : Nat) : Rf := ⟨PRT_LANE_MARGIN.a m l, 40, 7⟩
def PRT_LANE_MARGIN.FAILED (m : Nat) (l : Nat) : Rf := ⟨PRT_LANE_MARGIN.a m l, 47, 1⟩
/-- PRT_CNT_RX_FRAMES (R536). -/
def PRT_CNT_RX_FRAMES.a (P : Nat) : Nat := portBase P + 0x180
def PRT_CNT_RX_FRAMES.V (P : Nat) : Rf := ⟨PRT_CNT_RX_FRAMES.a P, 0, 64⟩
/-- PRT_CNT_RX_BYTES (R536). -/
def PRT_CNT_RX_BYTES.a (P : Nat) : Nat := portBase P + 0x188
def PRT_CNT_RX_BYTES.V (P : Nat) : Rf := ⟨PRT_CNT_RX_BYTES.a P, 0, 64⟩
/-- PRT_CNT_TX_FRAMES (R536). -/
def PRT_CNT_TX_FRAMES.a (P : Nat) : Nat := portBase P + 0x190
def PRT_CNT_TX_FRAMES.V (P : Nat) : Rf := ⟨PRT_CNT_TX_FRAMES.a P, 0, 64⟩
/-- PRT_CNT_TX_BYTES (R536). -/
def PRT_CNT_TX_BYTES.a (P : Nat) : Nat := portBase P + 0x198
def PRT_CNT_TX_BYTES.V (P : Nat) : Rf := ⟨PRT_CNT_TX_BYTES.a P, 0, 64⟩
/-- PRT_CNT_TX_BYTES_C (R536). -/
def PRT_CNT_TX_BYTES_C.a (P : Nat) (c : Nat) : Nat := portBase P + 0x1A0 + 0x8 * c
def PRT_CNT_TX_BYTES_C.V (P : Nat) (c : Nat) : Rf := ⟨PRT_CNT_TX_BYTES_C.a P c, 0, 64⟩
/-- PRT_CNT_STALL_XOFF (R536). -/
def PRT_CNT_STALL_XOFF.a (P : Nat) : Nat := portBase P + 0x1E0
def PRT_CNT_STALL_XOFF.V (P : Nat) : Rf := ⟨PRT_CNT_STALL_XOFF.a P, 0, 64⟩
/-- PRT_CNT_STALL_REPLAY (R536). -/
def PRT_CNT_STALL_REPLAY.a (P : Nat) : Nat := portBase P + 0x1E8
def PRT_CNT_STALL_REPLAY.V (P : Nat) : Rf := ⟨PRT_CNT_STALL_REPLAY.a P, 0, 64⟩
/-- PRT_CNT_STALL_HOLD (R536). -/
def PRT_CNT_STALL_HOLD.a (P : Nat) : Nat := portBase P + 0x1F0
def PRT_CNT_STALL_HOLD.V (P : Nat) : Rf := ⟨PRT_CNT_STALL_HOLD.a P, 0, 64⟩
/-- PRT_CNT_IDLE_NS (R536). -/
def PRT_CNT_IDLE_NS.a (P : Nat) : Nat := portBase P + 0x1F8
def PRT_CNT_IDLE_NS.V (P : Nat) : Rf := ⟨PRT_CNT_IDLE_NS.a P, 0, 64⟩
/-- TEL_SNAP_CTL (R543). -/
def TEL_SNAP_CTL.a (e : Nat) : Nat := 0x00380000 + e * 0x40
def TEL_SNAP_CTL.BASE (e : Nat) : Rf := ⟨TEL_SNAP_CTL.a e, 0, 26⟩
def TEL_SNAP_CTL.COUNT (e : Nat) : Rf := ⟨TEL_SNAP_CTL.a e, 26, 10⟩
def TEL_SNAP_CTL.ACK_OVF (e : Nat) : Rf := ⟨TEL_SNAP_CTL.a e, 36, 1⟩
def TEL_SNAP_CTL.GO (e : Nat) : Rf := ⟨TEL_SNAP_CTL.a e, 37, 1⟩
def TEL_SNAP_CTL.RELEASE (e : Nat) : Rf := ⟨TEL_SNAP_CTL.a e, 38, 1⟩
def TEL_SNAP_CTL.BUSY (e : Nat) : Rf := ⟨TEL_SNAP_CTL.a e, 39, 1⟩
def TEL_SNAP_CTL.STATUS (e : Nat) : Rf := ⟨TEL_SNAP_CTL.a e, 40, 8⟩
/-- TEL_SNAP_TIME0 (R543). -/
def TEL_SNAP_TIME0.a (e : Nat) : Nat := 0x00380000 + e * 0x40 + 0x8
def TEL_SNAP_TIME0.V (e : Nat) : Rf := ⟨TEL_SNAP_TIME0.a e, 0, 64⟩
/-- TEL_SNAP_TIME1 (R543). -/
def TEL_SNAP_TIME1.a (e : Nat) : Nat := 0x00380000 + e * 0x40 + 0x10
def TEL_SNAP_TIME1.V (e : Nat) : Rf := ⟨TEL_SNAP_TIME1.a e, 0, 64⟩
/-- TEL_HIST_CFG (R546). -/
def TEL_HIST_CFG.a (u : Nat) : Nat := 0x00388000 + u * 0x400
def TEL_HIST_CFG.SRC (u : Nat) : Rf := ⟨TEL_HIST_CFG.a u, 0, 4⟩
def TEL_HIST_CFG.DIE (u : Nat) : Rf := ⟨TEL_HIST_CFG.a u, 4, 4⟩
def TEL_HIST_CFG.PORT (u : Nat) : Rf := ⟨TEL_HIST_CFG.a u, 8, 7⟩
def TEL_HIST_CFG.CLASS (u : Nat) : Rf := ⟨TEL_HIST_CFG.a u, 15, 3⟩
def TEL_HIST_CFG.HARNESS (u : Nat) : Rf := ⟨TEL_HIST_CFG.a u, 18, 12⟩
def TEL_HIST_CFG.HARNESS_EN (u : Nat) : Rf := ⟨TEL_HIST_CFG.a u, 30, 1⟩
def TEL_HIST_CFG.MODE (u : Nat) : Rf := ⟨TEL_HIST_CFG.a u, 31, 1⟩
def TEL_HIST_CFG.SHIFT (u : Nat) : Rf := ⟨TEL_HIST_CFG.a u, 32, 6⟩
def TEL_HIST_CFG.BASE (u : Nat) : Rf := ⟨TEL_HIST_CFG.a u, 38, 26⟩
/-- TEL_HIST_SAMPLE (R546). -/
def TEL_HIST_SAMPLE.a (u : Nat) : Nat := 0x00388000 + u * 0x400 + 0x8
def TEL_HIST_SAMPLE.NS (u : Nat) : Rf := ⟨TEL_HIST_SAMPLE.a u, 0, 16⟩
/-- TEL_HIST_STS (R546). -/
def TEL_HIST_STS.a (u : Nat) : Nat := 0x00388000 + u * 0x400 + 0x10
def TEL_HIST_STS.PENDING (u : Nat) : Rf := ⟨TEL_HIST_STS.a u, 0, 1⟩
/-- TEL_HIST_N (R546). -/
def TEL_HIST_N.a (u : Nat) : Nat := 0x00388000 + u * 0x400 + 0x18
def TEL_HIST_N.V (u : Nat) : Rf := ⟨TEL_HIST_N.a u, 0, 64⟩
/-- TEL_HIST_BIN (R546). -/
def TEL_HIST_BIN.a (u : Nat) (b : Nat) : Nat := 0x00388000 + u * 0x400 + 0x200 + 0x8 * b
def TEL_HIST_BIN.V (u : Nat) (b : Nat) : Rf := ⟨TEL_HIST_BIN.a u b, 0, 32⟩
/-- TEL_COLLECT (R548). -/
def TEL_COLLECT.a : Nat := 0x398000
def TEL_COLLECT.MODE : Rf := ⟨TEL_COLLECT.a, 0, 2⟩
def TEL_COLLECT.FAULTS : Rf := ⟨TEL_COLLECT.a, 2, 1⟩
def TEL_COLLECT.PORT : Rf := ⟨TEL_COLLECT.a, 3, 1⟩
def TEL_COLLECT.FEID : Rf := ⟨TEL_COLLECT.a, 4, 18⟩
/-- TEL_COLLECT_IP (R548). -/
def TEL_COLLECT_IP.a : Nat := 0x398008
def TEL_COLLECT_IP.IPV4 : Rf := ⟨TEL_COLLECT_IP.a, 0, 32⟩
def TEL_COLLECT_IP.UDP_PORT : Rf := ⟨TEL_COLLECT_IP.a, 32, 16⟩
/-- TEL_SUM_CFG (R548). -/
def TEL_SUM_CFG.a (l : Nat) : Nat := 0x398100 + 0x10 * l
def TEL_SUM_CFG.BASE (l : Nat) : Rf := ⟨TEL_SUM_CFG.a l, 0, 26⟩
def TEL_SUM_CFG.COUNT (l : Nat) : Rf := ⟨TEL_SUM_CFG.a l, 26, 10⟩
def TEL_SUM_CFG.ACK_OVF (l : Nat) : Rf := ⟨TEL_SUM_CFG.a l, 36, 1⟩
def TEL_SUM_CFG.PERIOD_MS (l : Nat) : Rf := ⟨TEL_SUM_CFG.a l, 37, 16⟩
/-- TEL_SUM_STS (R548). -/
def TEL_SUM_STS.a (l : Nat) : Nat := 0x398108 + 0x10 * l
def TEL_SUM_STS.STATUS (l : Nat) : Rf := ⟨TEL_SUM_STS.a l, 0, 8⟩
/-- HUB_AVAL_CFG (R552). -/
def HUB_AVAL_CFG.a : Nat := 0x700
def HUB_AVAL_CFG.WINDOW_MS : Rf := ⟨HUB_AVAL_CFG.a, 0, 16⟩
/-- HUB_AVAL_STS (R552). -/
def HUB_AVAL_STS.a : Nat := 0x708
def HUB_AVAL_STS.USED : Rf := ⟨HUB_AVAL_STS.a, 0, 9⟩
/-- HUB_AVAL_OVF (R552). -/
def HUB_AVAL_OVF.a (k : Nat) : Nat := 0x740 + 0x8 * k
def HUB_AVAL_OVF.V (k : Nat) : Rf := ⟨HUB_AVAL_OVF.a k, 0, 64⟩
/-- HUB_SYNC_CFG (R558). -/
def HUB_SYNC_CFG.a (n : Nat) : Nat := 0x1100 + 0x8 * n
def HUB_SYNC_CFG.FUNC (n : Nat) : Rf := ⟨HUB_SYNC_CFG.a n, 0, 3⟩
def HUB_SYNC_CFG.ARG (n : Nat) : Rf := ⟨HUB_SYNC_CFG.a n, 3, 2⟩
def HUB_SYNC_CFG.EDGE (n : Nat) : Rf := ⟨HUB_SYNC_CFG.a n, 5, 1⟩
def HUB_SYNC_CFG.WIDTH (n : Nat) : Rf := ⟨HUB_SYNC_CFG.a n, 6, 10⟩
/-- CRN_STS (R565). -/
def CRN_STS.a : Nat := 0x00340000
def CRN_STS.STATE : Rf := ⟨CRN_STS.a, 0, 2⟩
def CRN_STS.CAIRN_FAIL : Rf := ⟨CRN_STS.a, 2, 1⟩
def CRN_STS.FRESH : Rf := ⟨CRN_STS.a, 3, 1⟩
def CRN_STS.BUF : Rf := ⟨CRN_STS.a, 4, 11⟩
def CRN_STS.LG_USED : Rf := ⟨CRN_STS.a, 15, 7⟩
def CRN_STS.LG_FULL : Rf := ⟨CRN_STS.a, 22, 1⟩
/-- CRN_CFG (R565). -/
def CRN_CFG.a : Nat := 0x00340000 + 0x8
def CRN_CFG.CKPT_MIN : Rf := ⟨CRN_CFG.a, 0, 12⟩
def CRN_CFG.REC_SEV : Rf := ⟨CRN_CFG.a, 12, 2⟩
def CRN_CFG.REC_FAULTS : Rf := ⟨CRN_CFG.a, 14, 1⟩
def CRN_CFG.REC_RATE : Rf := ⟨CRN_CFG.a, 15, 10⟩
/-- CRN_CMD (R565). -/
def CRN_CMD.a : Nat := 0x00340000 + 0x10
def CRN_CMD.CKPT : Rf := ⟨CRN_CMD.a, 0, 1⟩
def CRN_CMD.RD : Rf := ⟨CRN_CMD.a, 1, 1⟩
def CRN_CMD.FORMAT : Rf := ⟨CRN_CMD.a, 2, 1⟩
def CRN_CMD.BUSY : Rf := ⟨CRN_CMD.a, 3, 1⟩
def CRN_CMD.STATUS : Rf := ⟨CRN_CMD.a, 4, 8⟩
/-- CRN_RD_SEQ (R565). -/
def CRN_RD_SEQ.a : Nat := 0x00340000 + 0x18
def CRN_RD_SEQ.V : Rf := ⟨CRN_RD_SEQ.a, 0, 64⟩
/-- CRN_RD_DATA (R565). -/
def CRN_RD_DATA.a (w : Nat) : Nat := 0x00340000 + 0x20 + 0x8 * w
def CRN_RD_DATA.V (w : Nat) : Rf := ⟨CRN_RD_DATA.a w, 0, 64⟩
/-- CRN_SEQ_FIRST (R565). -/
def CRN_SEQ_FIRST.a : Nat := 0x00340000 + 0x60
def CRN_SEQ_FIRST.V : Rf := ⟨CRN_SEQ_FIRST.a, 0, 64⟩
/-- CRN_SEQ_NEXT (R565). -/
def CRN_SEQ_NEXT.a : Nat := 0x00340000 + 0x68
def CRN_SEQ_NEXT.V : Rf := ⟨CRN_SEQ_NEXT.a, 0, 64⟩
/-- CRN_GEN (R565). -/
def CRN_GEN.a : Nat := 0x00340000 + 0x70
def CRN_GEN.V : Rf := ⟨CRN_GEN.a, 0, 64⟩
/-- CRN_CNT_REC (R565). -/
def CRN_CNT_REC.a : Nat := 0x00340000 + 0x800
def CRN_CNT_REC.V : Rf := ⟨CRN_CNT_REC.a, 0, 64⟩
/-- CRN_CNT_DROP (R565). -/
def CRN_CNT_DROP.a : Nat := 0x00340000 + 0x808
def CRN_CNT_DROP.V : Rf := ⟨CRN_CNT_DROP.a, 0, 64⟩
/-- CRN_CNT_RATE_DROP (R565). -/
def CRN_CNT_RATE_DROP.a : Nat := 0x00340000 + 0x810
def CRN_CNT_RATE_DROP.V : Rf := ⟨CRN_CNT_RATE_DROP.a, 0, 64⟩
/-- CRN_CNT_FLASH_ERR (R565). -/
def CRN_CNT_FLASH_ERR.a : Nat := 0x00340000 + 0x818
def CRN_CNT_FLASH_ERR.V : Rf := ⟨CRN_CNT_FLASH_ERR.a, 0, 64⟩
/-- HUB_ID (R596). -/
def HUB_ID.a : Nat := 0
def HUB_ID.VENDOR : Rf := ⟨HUB_ID.a, 0, 16⟩
def HUB_ID.DEVICE : Rf := ⟨HUB_ID.a, 16, 16⟩
def HUB_ID.STEP_MINOR : Rf := ⟨HUB_ID.a, 32, 4⟩
def HUB_ID.STEP_MAJOR : Rf := ⟨HUB_ID.a, 36, 4⟩
def HUB_ID.FAMILY : Rf := ⟨HUB_ID.a, 40, 8⟩
def HUB_ID.VF_DEVICE : Rf := ⟨HUB_ID.a, 48, 16⟩
/-- HUB_GRADE (R596). -/
def HUB_GRADE.a : Nat := 0x8
def HUB_GRADE.GRADE : Rf := ⟨HUB_GRADE.a, 0, 2⟩
def HUB_GRADE.CORE_MHZ_MAX : Rf := ⟨HUB_GRADE.a, 2, 11⟩
def HUB_GRADE.CAP_W_MAX : Rf := ⟨HUB_GRADE.a, 13, 12⟩
/-- HUB_SERIAL (R596). -/
def HUB_SERIAL.a : Nat := 0x10
def HUB_SERIAL.V : Rf := ⟨HUB_SERIAL.a, 0, 64⟩
/-- HUB_RESOURCES (R596). -/
def HUB_RESOURCES.a : Nat := 0x18
def HUB_RESOURCES.CRUX : Rf := ⟨HUB_RESOURCES.a, 0, 8⟩
def HUB_RESOURCES.PORT_DIES : Rf := ⟨HUB_RESOURCES.a, 8, 8⟩
def HUB_RESOURCES.STACKS : Rf := ⟨HUB_RESOURCES.a, 16, 8⟩
def HUB_RESOURCES.CORES : Rf := ⟨HUB_RESOURCES.a, 24, 12⟩
def HUB_RESOURCES.HBM_GIB : Rf := ⟨HUB_RESOURCES.a, 36, 12⟩
/-- HUB_PLANE (R597). -/
def HUB_PLANE.a : Nat := 0x20
def HUB_PLANE.PLANE_ID : Rf := ⟨HUB_PLANE.a, 0, 32⟩
def HUB_PLANE.INDEX : Rf := ⟨HUB_PLANE.a, 32, 6⟩
def HUB_PLANE.A : Rf := ⟨HUB_PLANE.a, 38, 3⟩
def HUB_PLANE.B : Rf := ⟨HUB_PLANE.a, 41, 3⟩
def HUB_PLANE.C : Rf := ⟨HUB_PLANE.a, 44, 3⟩
def HUB_PLANE.FPLANE : Rf := ⟨HUB_PLANE.a, 47, 2⟩
def HUB_PLANE.COMMITTED : Rf := ⟨HUB_PLANE.a, 49, 1⟩
def HUB_PLANE.LOCKED : Rf := ⟨HUB_PLANE.a, 50, 1⟩
/-- HUB_IDENT_STS (R597). -/
def HUB_IDENT_STS.a : Nat := 0x28
def HUB_IDENT_STS.FUSES_OK : Rf := ⟨HUB_IDENT_STS.a, 0, 1⟩
def HUB_IDENT_STS.STANDBY : Rf := ⟨HUB_IDENT_STS.a, 1, 1⟩
/-- HUB_MEMBER_EPOCH (R55). -/
def HUB_MEMBER_EPOCH.a : Nat := 0x188
def HUB_MEMBER_EPOCH.V : Rf := ⟨HUB_MEMBER_EPOCH.a, 0, 32⟩
/-- CRX_CLU_SRES (R288). -/
def CRX_CLU_SRES.a (n : Nat) (c : Nat) : Nat := cruxBase n + 0x40 + 0x8 * c
def CRX_CLU_SRES.BYTES (n : Nat) (c : Nat) : Rf := ⟨CRX_CLU_SRES.a n c, 0, 25⟩
/-- PRT_PARTNER (R64). -/
def PRT_PARTNER.a (P : Nat) (w : Nat) : Nat := portBase P + 0x20 + 0x8 * w
def PRT_PARTNER.V (P : Nat) (w : Nat) : Rf := ⟨PRT_PARTNER.a P w, 0, 64⟩
/-- TEL_TRACE_CFG (R549). -/
def TEL_TRACE_CFG.a : Nat := 0x399000
def TEL_TRACE_CFG.MASK : Rf := ⟨TEL_TRACE_CFG.a, 0, 8⟩
/-- HBM_CNT_CE (R469). -/
def HBM_CNT_CE.a (s : Nat) : Nat := 0x03000000 + s * 0x10000 + 0x100
def HBM_CNT_CE.V (s : Nat) : Rf := ⟨HBM_CNT_CE.a s, 0, 64⟩
/-- HBM_CNT_UE (R469). -/
def HBM_CNT_UE.a (s : Nat) : Nat := 0x03000000 + s * 0x10000 + 0x108
def HBM_CNT_UE.V (s : Nat) : Rf := ⟨HBM_CNT_UE.a s, 0, 64⟩
/-- HBM_CNT_UNWRITTEN (R469). -/
def HBM_CNT_UNWRITTEN.a (s : Nat) : Nat := 0x03000000 + s * 0x10000 + 0x110
def HBM_CNT_UNWRITTEN.V (s : Nat) : Rf := ⟨HBM_CNT_UNWRITTEN.a s, 0, 64⟩
/-- HBM_CNT_SCRUB_LINES (R469). -/
def HBM_CNT_SCRUB_LINES.a (s : Nat) : Nat := 0x03000000 + s * 0x10000 + 0x118
def HBM_CNT_SCRUB_LINES.V (s : Nat) : Rf := ⟨HBM_CNT_SCRUB_LINES.a s, 0, 64⟩
/-- HBM_CNT_PITON (R469). -/
def HBM_CNT_PITON.a (s : Nat) : Nat := 0x03000000 + s * 0x10000 + 0x120
def HBM_CNT_PITON.V (s : Nat) : Rf := ⟨HBM_CNT_PITON.a s, 0, 64⟩
/-- POOL_CNT_ALLOC (R468). -/
def POOL_CNT_ALLOC.a (p : Nat) : Nat := poolBase p + 0x800
def POOL_CNT_ALLOC.V (p : Nat) : Rf := ⟨POOL_CNT_ALLOC.a p, 0, 64⟩
/-- POOL_CNT_FREE (R468). -/
def POOL_CNT_FREE.a (p : Nat) : Nat := poolBase p + 0x808
def POOL_CNT_FREE.V (p : Nat) : Rf := ⟨POOL_CNT_FREE.a p, 0, 64⟩
/-- POOL_CNT_NOMEM (R468). -/
def POOL_CNT_NOMEM.a (p : Nat) : Nat := poolBase p + 0x810
def POOL_CNT_NOMEM.V (p : Nat) : Rf := ⟨POOL_CNT_NOMEM.a p, 0, 64⟩
/-- POOL_CNT_QUOTA (R468). -/
def POOL_CNT_QUOTA.a (p : Nat) : Nat := poolBase p + 0x818
def POOL_CNT_QUOTA.V (p : Nat) : Rf := ⟨POOL_CNT_QUOTA.a p, 0, 64⟩
/-- POOL_CNT_DOUBLE_FREE (R468). -/
def POOL_CNT_DOUBLE_FREE.a (p : Nat) : Nat := poolBase p + 0x820
def POOL_CNT_DOUBLE_FREE.V (p : Nat) : Rf := ⟨POOL_CNT_DOUBLE_FREE.a p, 0, 64⟩
/-- POOL_CNT_BROKEN (R468). -/
def POOL_CNT_BROKEN.a (p : Nat) : Nat := poolBase p + 0x828
def POOL_CNT_BROKEN.V (p : Nat) : Rf := ⟨POOL_CNT_BROKEN.a p, 0, 64⟩
/-- CRX_CNT_SRAM_CE (R470). -/
def CRX_CNT_SRAM_CE.a (n : Nat) : Nat := cruxBase n + 0x20400
def CRX_CNT_SRAM_CE.V (n : Nat) : Rf := ⟨CRX_CNT_SRAM_CE.a n, 0, 64⟩
/-- CRX_CNT_SRAM_UE (R470). -/
def CRX_CNT_SRAM_UE.a (n : Nat) : Nat := cruxBase n + 0x20408
def CRX_CNT_SRAM_UE.V (n : Nat) : Rf := ⟨CRX_CNT_SRAM_UE.a n, 0, 64⟩
/-- CRX_CNT_SRAM_UNWRITTEN (R470). -/
def CRX_CNT_SRAM_UNWRITTEN.a (n : Nat) : Nat := cruxBase n + 0x20410
def CRX_CNT_SRAM_UNWRITTEN.V (n : Nat) : Rf := ⟨CRX_CNT_SRAM_UNWRITTEN.a n, 0, 64⟩
/-- CRX_CNT_SRAM_PITON (R470). -/
def CRX_CNT_SRAM_PITON.a (n : Nat) : Nat := cruxBase n + 0x20418
def CRX_CNT_SRAM_PITON.V (n : Nat) : Rf := ⟨CRX_CNT_SRAM_PITON.a n, 0, 64⟩
/-- TEL_SNAP_DATA (R543). -/
def TEL_SNAP_DATA.a (e : Nat) (i : Nat) : Nat := 0x382000 + 0x1000 * e + 0x8 * i
def TEL_SNAP_DATA.V (e : Nat) (i : Nat) : Rf := ⟨TEL_SNAP_DATA.a e i, 0, 64⟩
/-- TEL_SNAP_OVF (R543). -/
def TEL_SNAP_OVF.a (e : Nat) (j : Nat) : Nat := 0x386000 + 0x40 * e + 0x8 * j
def TEL_SNAP_OVF.V (e : Nat) (j : Nat) : Rf := ⟨TEL_SNAP_OVF.a e j, 0, 64⟩
/-- TEL_WO_STS (R555). -/
def TEL_WO_STS.a (p : Nat) : Nat := 0x39A000 + 0x8 * p
def TEL_WO_STS.ACTIVE (p : Nat) : Rf := ⟨TEL_WO_STS.a p, 0, 1⟩
def TEL_WO_STS.OCC (p : Nat) : Rf := ⟨TEL_WO_STS.a p, 1, 23⟩
def TEL_WO_STS.EPISODES (p : Nat) : Rf := ⟨TEL_WO_STS.a p, 24, 40⟩
/-- TEL_WO_DROP (R555). -/
def TEL_WO_DROP.a (p : Nat) (k : Nat) : Nat := 0x39A100 + 0x40 * p + 0x8 * k
def TEL_WO_DROP.V (p : Nat) (k : Nat) : Rf := ⟨TEL_WO_DROP.a p k, 0, 64⟩
/-- HUB_OWN (R556). -/
def HUB_OWN.a (r : Nat) : Nat := 0x1000 + 0x8 * r
def HUB_OWN.OWNER (r : Nat) : Rf := ⟨HUB_OWN.a r, 0, 8⟩
def HUB_OWN.INSTANCE (r : Nat) : Rf := ⟨HUB_OWN.a r, 8, 8⟩
/-- HUB_OWN_CTL (R557). -/
def HUB_OWN_CTL.a : Nat := 0x1080
def HUB_OWN_CTL.R : Rf := ⟨HUB_OWN_CTL.a, 0, 4⟩
def HUB_OWN_CTL.FORCE : Rf := ⟨HUB_OWN_CTL.a, 4, 1⟩
/-- CRN_LG (R564). -/
def CRN_LG.a (e : Nat) (w : Nat) : Nat := 0x00340000 + 0x100 + 0x10 * e + 0x8 * w
def CRN_LG.V (e : Nat) (w : Nat) : Rf := ⟨CRN_LG.a e w, 0, 64⟩
/-- CRN_LIFE (R560). -/
def CRN_LIFE.a (i : Nat) : Nat := 0x350000 + 0x8 * i
def CRN_LIFE.V (i : Nat) : Rf := ⟨CRN_LIFE.a i, 0, 64⟩

/-- One row of the access map: a register (repeated along up to three indices), the bits a write may change (`rw`),
those among them that lock at Camp 6 (`rwl`), the bits cleared by writing one (`w1c`), and whether it is a counter. -/
structure RegRow where
  name : String
  off  : Nat
  n1 : Nat
  s1 : Nat
  n2 : Nat
  s2 : Nat
  n3 : Nat
  s3 : Nat
  n4 : Nat
  s4 : Nat
  rw : Nat
  rwl : Nat
  w1c : Nat
  ctr : Bool
  deriving DecidableEq, Repr

def rowsOf_port0 : List RegRow := [
  ⟨"PRT_PORT_CTL", 0x2001000, 16, 0x100000, 48, 0x200, 1, 0x0, 1, 0x0, 0x3F7B, 0x0, 0x0, false⟩,
  ⟨"PRT_PORT_CTL", 0x2081000, 16, 0x100000, 24, 0x200, 1, 0x0, 1, 0x0, 0x3F7B, 0x0, 0x0, false⟩,
  ⟨"PRT_PORT_STS", 0x2001008, 16, 0x100000, 48, 0x200, 1, 0x0, 1, 0x0, 0x0, 0x0, 0x0, false⟩,
  ⟨"PRT_PORT_STS", 0x2081008, 16, 0x100000, 24, 0x200, 1, 0x0, 1, 0x0, 0x0, 0x0, 0x0, false⟩,
  ⟨"PRT_PORT_ID", 0x2001010, 16, 0x100000, 48, 0x200, 1, 0x0, 1, 0x0, 0x3FFFFFFF, 0x0, 0x0, false⟩,
  ⟨"PRT_PORT_ID", 0x2081010, 16, 0x100000, 24, 0x200, 1, 0x0, 1, 0x0, 0x3FFFFFFF, 0x0, 0x0, false⟩,
  ⟨"PRT_BELAY_CFG", 0x2001018, 16, 0x100000, 48, 0x200, 1, 0x0, 1, 0x0, 0xFFFFFFFF, 0x0, 0x0, false⟩,
  ⟨"PRT_BELAY_CFG", 0x2081018, 16, 0x100000, 24, 0x200, 1, 0x0, 1, 0x0, 0xFFFFFFFF, 0x0, 0x0, false⟩,
  ⟨"PRT_UDP_CFG0", 0x2001060, 16, 0x100000, 48, 0x200, 1, 0x0, 1, 0x0, 0xFFFFFFFFFFFFFFFF, 0x0, 0x0, false⟩,
  ⟨"PRT_UDP_CFG0", 0x2081060, 16, 0x100000, 24, 0x200, 1, 0x0, 1, 0x0, 0xFFFFFFFFFFFFFFFF, 0x0, 0x0, false⟩,
  ⟨"PRT_UDP_CFG1", 0x2001068, 16, 0x100000, 48, 0x200, 1, 0x0, 1, 0x0, 0xFFFFFFFFFFFFFFFF, 0x0, 0x0, false⟩,
  ⟨"PRT_UDP_CFG1", 0x2081068, 16, 0x100000, 24, 0x200, 1, 0x0, 1, 0x0, 0xFFFFFFFFFFFFFFFF, 0x0, 0x0, false⟩,
  ⟨"PRT_UDP_CFG2", 0x2001070, 16, 0x100000, 48, 0x200, 1, 0x0, 1, 0x0, 0x1FFFFFFFFFFFFFFF, 0x0, 0x0, false⟩,
  ⟨"PRT_UDP_CFG2", 0x2081070, 16, 0x100000, 24, 0x200, 1, 0x0, 1, 0x0, 0x1FFFFFFFFFFFFFFF, 0x0, 0x0, false⟩,
  ⟨"PRT_MACSEC_CTL", 0x2001080, 16, 0x100000, 48, 0x200, 1, 0x0, 1, 0x0, 0xFFFF001F, 0x0, 0x0, false⟩,
  ⟨"PRT_MACSEC_CTL", 0x2081080, 16, 0x100000, 24, 0x200, 1, 0x0, 1, 0x0, 0xFFFF001F, 0x0, 0x0, false⟩,
  ⟨"PRT_MACSEC_PN", 0x2001088, 16, 0x100000, 48, 0x200, 1, 0x0, 1, 0x0, 0x0, 0x0, 0x0, false⟩,
  ⟨"PRT_MACSEC_PN", 0x2081088, 16, 0x100000, 24, 0x200, 1, 0x0, 1, 0x0, 0x0, 0x0, 0x0, false⟩,
  ⟨"PRT_MACSEC_KSEL", 0x2001090, 16, 0x100000, 48, 0x200, 1, 0x0, 1, 0x0, 0x3, 0x0, 0x0, false⟩,
  ⟨"PRT_MACSEC_KSEL", 0x2081090, 16, 0x100000, 24, 0x200, 1, 0x0, 1, 0x0, 0x3, 0x0, 0x0, false⟩,
  ⟨"PRT_MACSEC_KEY", 0x2001098, 16, 0x100000, 48, 0x200, 6, 0x8, 1, 0x0, 0x0, 0x0, 0x0, false⟩,
  ⟨"PRT_MACSEC_KEY", 0x2081098, 16, 0x100000, 24, 0x200, 6, 0x8, 1, 0x0, 0x0, 0x0, 0x0, false⟩,
  ⟨"PRT_GW_PEER0", 0x20010C8, 16, 0x100000, 48, 0x200, 1, 0x0, 1, 0x0, 0x1FFFFF0003FFFF, 0x0, 0x0, false⟩,
  ⟨"PRT_GW_PEER0", 0x20810C8, 16, 0x100000, 24, 0x200, 1, 0x0, 1, 0x0, 0x1FFFFF0003FFFF, 0x0, 0x0, false⟩]
def rowsOf_port1 : List RegRow := [
  ⟨"PRT_GW_PEER1", 0x20010D0, 16, 0x100000, 48, 0x200, 1, 0x0, 1, 0x0, 0xFFFFFFFF, 0x0, 0x0, false⟩,
  ⟨"PRT_GW_PEER1", 0x20810D0, 16, 0x100000, 24, 0x200, 1, 0x0, 1, 0x0, 0xFFFFFFFF, 0x0, 0x0, false⟩,
  ⟨"PRT_GW_HSET", 0x20010D8, 16, 0x100000, 48, 0x200, 4, 0x8, 1, 0x0, 0x1FFFFFF01FFFFFF, 0x0, 0x0, false⟩,
  ⟨"PRT_GW_HSET", 0x20810D8, 16, 0x100000, 24, 0x200, 4, 0x8, 1, 0x0, 0x1FFFFFF01FFFFFF, 0x0, 0x0, false⟩,
  ⟨"PRT_CNT_FEC_CORR", 0x2001100, 16, 0x100000, 48, 0x200, 1, 0x0, 1, 0x0, 0x0, 0x0, 0x0, true⟩,
  ⟨"PRT_CNT_FEC_CORR", 0x2081100, 16, 0x100000, 24, 0x200, 1, 0x0, 1, 0x0, 0x0, 0x0, 0x0, true⟩,
  ⟨"PRT_CNT_FEC_UNCORR", 0x2001108, 16, 0x100000, 48, 0x200, 1, 0x0, 1, 0x0, 0x0, 0x0, 0x0, true⟩,
  ⟨"PRT_CNT_FEC_UNCORR", 0x2081108, 16, 0x100000, 24, 0x200, 1, 0x0, 1, 0x0, 0x0, 0x0, 0x0, true⟩,
  ⟨"PRT_CNT_LINK_ERR", 0x2001110, 16, 0x100000, 48, 0x200, 1, 0x0, 1, 0x0, 0x0, 0x0, 0x0, true⟩,
  ⟨"PRT_CNT_LINK_ERR", 0x2081110, 16, 0x100000, 24, 0x200, 1, 0x0, 1, 0x0, 0x0, 0x0, 0x0, true⟩,
  ⟨"PRT_CNT_NAK", 0x2001118, 16, 0x100000, 48, 0x200, 1, 0x0, 1, 0x0, 0x0, 0x0, 0x0, true⟩,
  ⟨"PRT_CNT_NAK", 0x2081118, 16, 0x100000, 24, 0x200, 1, 0x0, 1, 0x0, 0x0, 0x0, 0x0, true⟩,
  ⟨"PRT_CNT_DUP", 0x2001120, 16, 0x100000, 48, 0x200, 1, 0x0, 1, 0x0, 0x0, 0x0, 0x0, true⟩,
  ⟨"PRT_CNT_DUP", 0x2081120, 16, 0x100000, 24, 0x200, 1, 0x0, 1, 0x0, 0x0, 0x0, 0x0, true⟩,
  ⟨"PRT_CNT_REPLAY", 0x2001128, 16, 0x100000, 48, 0x200, 1, 0x0, 1, 0x0, 0x0, 0x0, 0x0, true⟩,
  ⟨"PRT_CNT_REPLAY", 0x2081128, 16, 0x100000, 24, 0x200, 1, 0x0, 1, 0x0, 0x0, 0x0, 0x0, true⟩,
  ⟨"PRT_CNT_LOST", 0x2001130, 16, 0x100000, 48, 0x200, 1, 0x0, 1, 0x0, 0x0, 0x0, 0x0, true⟩,
  ⟨"PRT_CNT_LOST", 0x2081130, 16, 0x100000, 24, 0x200, 1, 0x0, 1, 0x0, 0x0, 0x0, 0x0, true⟩,
  ⟨"PRT_CNT_MALFORMED", 0x2001138, 16, 0x100000, 48, 0x200, 1, 0x0, 1, 0x0, 0x0, 0x0, 0x0, true⟩,
  ⟨"PRT_CNT_MALFORMED", 0x2081138, 16, 0x100000, 24, 0x200, 1, 0x0, 1, 0x0, 0x0, 0x0, 0x0, true⟩,
  ⟨"PRT_CNT_DENIED", 0x2001140, 16, 0x100000, 48, 0x200, 1, 0x0, 1, 0x0, 0x0, 0x0, 0x0, true⟩,
  ⟨"PRT_CNT_DENIED", 0x2081140, 16, 0x100000, 24, 0x200, 1, 0x0, 1, 0x0, 0x0, 0x0, 0x0, true⟩,
  ⟨"PRT_CNT_ABORTED", 0x2001148, 16, 0x100000, 48, 0x200, 1, 0x0, 1, 0x0, 0x0, 0x0, 0x0, true⟩,
  ⟨"PRT_CNT_ABORTED", 0x2081148, 16, 0x100000, 24, 0x200, 1, 0x0, 1, 0x0, 0x0, 0x0, 0x0, true⟩]
def rowsOf_port2 : List RegRow := [
  ⟨"PRT_CNT_ABSENT", 0x2001150, 16, 0x100000, 48, 0x200, 1, 0x0, 1, 0x0, 0x0, 0x0, 0x0, true⟩,
  ⟨"PRT_CNT_ABSENT", 0x2081150, 16, 0x100000, 24, 0x200, 1, 0x0, 1, 0x0, 0x0, 0x0, 0x0, true⟩,
  ⟨"PRT_CNT_MACSEC_DROP", 0x2001158, 16, 0x100000, 48, 0x200, 1, 0x0, 1, 0x0, 0x0, 0x0, 0x0, true⟩,
  ⟨"PRT_CNT_MACSEC_DROP", 0x2081158, 16, 0x100000, 24, 0x200, 1, 0x0, 1, 0x0, 0x0, 0x0, 0x0, true⟩,
  ⟨"PRT_CNT_UDP_DROP", 0x2001160, 16, 0x100000, 48, 0x200, 1, 0x0, 1, 0x0, 0x0, 0x0, 0x0, true⟩,
  ⟨"PRT_CNT_UDP_DROP", 0x2081160, 16, 0x100000, 24, 0x200, 1, 0x0, 1, 0x0, 0x0, 0x0, 0x0, true⟩,
  ⟨"PRT_LANE_MARGIN", 0x2008000, 32, 0x80000, 100, 0x8, 1, 0x0, 1, 0x0, 0x0, 0x0, 0x0, false⟩,
  ⟨"PRT_CNT_RX_FRAMES", 0x2001180, 16, 0x100000, 48, 0x200, 1, 0x0, 1, 0x0, 0x0, 0x0, 0x0, true⟩,
  ⟨"PRT_CNT_RX_FRAMES", 0x2081180, 16, 0x100000, 24, 0x200, 1, 0x0, 1, 0x0, 0x0, 0x0, 0x0, true⟩,
  ⟨"PRT_CNT_RX_BYTES", 0x2001188, 16, 0x100000, 48, 0x200, 1, 0x0, 1, 0x0, 0x0, 0x0, 0x0, true⟩,
  ⟨"PRT_CNT_RX_BYTES", 0x2081188, 16, 0x100000, 24, 0x200, 1, 0x0, 1, 0x0, 0x0, 0x0, 0x0, true⟩,
  ⟨"PRT_CNT_TX_FRAMES", 0x2001190, 16, 0x100000, 48, 0x200, 1, 0x0, 1, 0x0, 0x0, 0x0, 0x0, true⟩,
  ⟨"PRT_CNT_TX_FRAMES", 0x2081190, 16, 0x100000, 24, 0x200, 1, 0x0, 1, 0x0, 0x0, 0x0, 0x0, true⟩,
  ⟨"PRT_CNT_TX_BYTES", 0x2001198, 16, 0x100000, 48, 0x200, 1, 0x0, 1, 0x0, 0x0, 0x0, 0x0, true⟩,
  ⟨"PRT_CNT_TX_BYTES", 0x2081198, 16, 0x100000, 24, 0x200, 1, 0x0, 1, 0x0, 0x0, 0x0, 0x0, true⟩,
  ⟨"PRT_CNT_TX_BYTES_C", 0x20011A0, 16, 0x100000, 48, 0x200, 8, 0x8, 1, 0x0, 0x0, 0x0, 0x0, true⟩,
  ⟨"PRT_CNT_TX_BYTES_C", 0x20811A0, 16, 0x100000, 24, 0x200, 8, 0x8, 1, 0x0, 0x0, 0x0, 0x0, true⟩,
  ⟨"PRT_CNT_STALL_XOFF", 0x20011E0, 16, 0x100000, 48, 0x200, 1, 0x0, 1, 0x0, 0x0, 0x0, 0x0, true⟩,
  ⟨"PRT_CNT_STALL_XOFF", 0x20811E0, 16, 0x100000, 24, 0x200, 1, 0x0, 1, 0x0, 0x0, 0x0, 0x0, true⟩,
  ⟨"PRT_CNT_STALL_REPLAY", 0x20011E8, 16, 0x100000, 48, 0x200, 1, 0x0, 1, 0x0, 0x0, 0x0, 0x0, true⟩,
  ⟨"PRT_CNT_STALL_REPLAY", 0x20811E8, 16, 0x100000, 24, 0x200, 1, 0x0, 1, 0x0, 0x0, 0x0, 0x0, true⟩,
  ⟨"PRT_CNT_STALL_HOLD", 0x20011F0, 16, 0x100000, 48, 0x200, 1, 0x0, 1, 0x0, 0x0, 0x0, 0x0, true⟩,
  ⟨"PRT_CNT_STALL_HOLD", 0x20811F0, 16, 0x100000, 24, 0x200, 1, 0x0, 1, 0x0, 0x0, 0x0, 0x0, true⟩,
  ⟨"PRT_CNT_IDLE_NS", 0x20011F8, 16, 0x100000, 48, 0x200, 1, 0x0, 1, 0x0, 0x0, 0x0, 0x0, true⟩]
def rowsOf_port3 : List RegRow := [
  ⟨"PRT_CNT_IDLE_NS", 0x20811F8, 16, 0x100000, 24, 0x200, 1, 0x0, 1, 0x0, 0x0, 0x0, 0x0, true⟩,
  ⟨"PRT_PARTNER", 0x2001020, 16, 0x100000, 48, 0x200, 8, 0x8, 1, 0x0, 0x0, 0x0, 0x0, false⟩,
  ⟨"PRT_PARTNER", 0x2081020, 16, 0x100000, 24, 0x200, 8, 0x8, 1, 0x0, 0x0, 0x0, 0x0, false⟩]
/-- The access rows of one part of the map. -/
def rowsOf_port : List RegRow := rowsOf_port0 ++ rowsOf_port1 ++ rowsOf_port2 ++ rowsOf_port3
def rowsOf_crux0 : List RegRow := [
  ⟨"FWD_CFG", 0x1080000, 16, 0x100000, 1, 0x0, 1, 0x0, 1, 0x0, 0x1FFFFFFFF, 0xFFFFFFFF, 0x0, false⟩,
  ⟨"FWD_TBL_CTL", 0x1080010, 16, 0x100000, 1, 0x0, 1, 0x0, 1, 0x0, 0x1FFFFFF, 0x0, 0x0, false⟩,
  ⟨"FWD_TBL_DATA", 0x1080018, 16, 0x100000, 1, 0x0, 1, 0x0, 1, 0x0, 0xFFFFFFFFFFFFFFFF, 0x0, 0x0, false⟩,
  ⟨"FWD_ROUTE_CFG", 0x1080040, 16, 0x100000, 8, 0x8, 1, 0x0, 1, 0x0, 0x3FF, 0x0, 0x0, false⟩,
  ⟨"FWD_DEV_EXCLUDE", 0x1080080, 16, 0x100000, 1, 0x0, 1, 0x0, 1, 0x0, 0xFFFFFFFFFFFFFFFF, 0x0, 0x0, false⟩,
  ⟨"FWD_HOLD_CFG", 0x1080100, 16, 0x100000, 72, 0x8, 1, 0x0, 1, 0x0, 0xFFFFFFFFF, 0xFFFFFFFFF, 0x0, false⟩,
  ⟨"FWD_QLIMIT", 0x1080400, 16, 0x100000, 72, 0x40, 8, 0x8, 1, 0x0, 0xFFFFF, 0xFFFFF, 0x0, false⟩,
  ⟨"FWD_CNT_FRAMES", 0x1082000, 16, 0x100000, 1, 0x0, 1, 0x0, 1, 0x0, 0x0, 0x0, 0x0, true⟩,
  ⟨"FWD_CNT_CUT", 0x1082008, 16, 0x100000, 1, 0x0, 1, 0x0, 1, 0x0, 0x0, 0x0, 0x0, true⟩,
  ⟨"FWD_CNT_SAF", 0x1082010, 16, 0x100000, 1, 0x0, 1, 0x0, 1, 0x0, 0x0, 0x0, 0x0, true⟩,
  ⟨"FWD_CNT_BAD_MARKED", 0x1082018, 16, 0x100000, 1, 0x0, 1, 0x0, 1, 0x0, 0x0, 0x0, 0x0, true⟩,
  ⟨"FWD_CNT_BAD_DISCARD", 0x1082020, 16, 0x100000, 1, 0x0, 1, 0x0, 1, 0x0, 0x0, 0x0, 0x0, true⟩,
  ⟨"FWD_CNT_NOROUTE", 0x1082028, 16, 0x100000, 1, 0x0, 1, 0x0, 1, 0x0, 0x0, 0x0, 0x0, true⟩,
  ⟨"FWD_CNT_HOLD_DROP", 0x1082030, 16, 0x100000, 1, 0x0, 1, 0x0, 1, 0x0, 0x0, 0x0, 0x0, true⟩,
  ⟨"FWD_CNT_TRAV", 0x1082038, 16, 0x100000, 1, 0x0, 1, 0x0, 1, 0x0, 0x0, 0x0, 0x0, true⟩,
  ⟨"FWD_CNT_MCAST_COPY", 0x1082040, 16, 0x100000, 1, 0x0, 1, 0x0, 1, 0x0, 0x0, 0x0, 0x0, true⟩,
  ⟨"FWD_CNT_STEERED", 0x1082048, 16, 0x100000, 1, 0x0, 1, 0x0, 1, 0x0, 0x0, 0x0, 0x0, true⟩,
  ⟨"FWD_CNT_CTX_DENIED", 0x1082050, 16, 0x100000, 1, 0x0, 1, 0x0, 1, 0x0, 0x0, 0x0, 0x0, true⟩,
  ⟨"FWD_CNT_XOFF", 0x1082058, 16, 0x100000, 1, 0x0, 1, 0x0, 1, 0x0, 0x0, 0x0, 0x0, true⟩,
  ⟨"FWD_CNT_REROUTE", 0x1082060, 16, 0x100000, 1, 0x0, 1, 0x0, 1, 0x0, 0x0, 0x0, 0x0, true⟩,
  ⟨"FWD_BUF_USED", 0x1082068, 16, 0x100000, 1, 0x0, 1, 0x0, 1, 0x0, 0x0, 0x0, 0x0, false⟩,
  ⟨"SCH_WFQ_WEIGHT_EP", 0x1090000, 16, 0x100000, 1, 0x0, 1, 0x0, 1, 0x0, 0xFFFFFFFFFFFFFF, 0x0, 0x0, false⟩,
  ⟨"SCH_WFQ_WEIGHT_TOR", 0x1090008, 16, 0x100000, 1, 0x0, 1, 0x0, 1, 0x0, 0xFFFFFFFFFFFFFF, 0x0, 0x0, false⟩,
  ⟨"SCH_HWM_CLR", 0x1090020, 16, 0x100000, 1, 0x0, 1, 0x0, 1, 0x0, 0x0, 0x0, 0x0, false⟩]
def rowsOf_crux1 : List RegRow := [
  ⟨"SCH_QSTAT", 0x1094000, 16, 0x100000, 72, 0x40, 8, 0x8, 1, 0x0, 0x0, 0x0, 0x0, false⟩,
  ⟨"SCH_PGROUP", 0x1098000, 16, 0x100000, 2048, 0x8, 1, 0x0, 1, 0x0, 0xFFFFFFFFFFFFFFFF, 0x0, 0x0, false⟩,
  ⟨"SCH_CNT_PITCH_WAIT", 0x1092000, 16, 0x100000, 1, 0x0, 1, 0x0, 1, 0x0, 0x0, 0x0, 0x0, true⟩,
  ⟨"SCH_CNT_UNSCHED", 0x1092008, 16, 0x100000, 1, 0x0, 1, 0x0, 1, 0x0, 0x0, 0x0, 0x0, true⟩,
  ⟨"SCH_CNT_FALLBACK", 0x1092010, 16, 0x100000, 1, 0x0, 1, 0x0, 1, 0x0, 0x0, 0x0, 0x0, true⟩,
  ⟨"SCH_CNT_LATE", 0x1092018, 16, 0x100000, 1, 0x0, 1, 0x0, 1, 0x0, 0x0, 0x0, 0x0, true⟩,
  ⟨"SCH_CNT_C7_HELD", 0x1092020, 16, 0x100000, 1, 0x0, 1, 0x0, 1, 0x0, 0x0, 0x0, 0x0, true⟩,
  ⟨"MFB_CFG", 0x10A0000, 16, 0x100000, 1, 0x0, 1, 0x0, 1, 0x0, 0x7FFFFFF, 0x0, 0x0, false⟩,
  ⟨"MFB_CAR_CMD", 0x10A0010, 16, 0x100000, 1, 0x0, 1, 0x0, 1, 0x0, 0x7FFFC, 0x0, 0x0, false⟩,
  ⟨"MFB_CAR_W0", 0x10A0018, 16, 0x100000, 1, 0x0, 1, 0x0, 1, 0x0, 0xFFFFFFFFFFFFFFFF, 0x0, 0x0, false⟩,
  ⟨"MFB_CAR_W1", 0x10A0020, 16, 0x100000, 1, 0x0, 1, 0x0, 1, 0x0, 0xFFFFFFFFFFFFFFFF, 0x0, 0x0, false⟩,
  ⟨"MFB_CAR_W2", 0x10A0028, 16, 0x100000, 1, 0x0, 1, 0x0, 1, 0x0, 0xFFFFFFFFFFFFFFFF, 0x0, 0x0, false⟩,
  ⟨"MFB_CAR_SPILL", 0x10A0030, 16, 0x100000, 1, 0x0, 1, 0x0, 1, 0x0, 0x1FFFFFFFFFFF, 0x0, 0x0, false⟩,
  ⟨"MFB_SPILL_USED", 0x10A0038, 16, 0x100000, 1, 0x0, 1, 0x0, 1, 0x0, 0x0, 0x0, 0x0, false⟩,
  ⟨"MFB_CNT_LOAD", 0x10A2000, 16, 0x100000, 1, 0x0, 1, 0x0, 1, 0x0, 0x0, 0x0, 0x0, true⟩,
  ⟨"MFB_CNT_STORE", 0x10A2008, 16, 0x100000, 1, 0x0, 1, 0x0, 1, 0x0, 0x0, 0x0, 0x0, true⟩,
  ⟨"MFB_CNT_ATOMIC", 0x10A2010, 16, 0x100000, 1, 0x0, 1, 0x0, 1, 0x0, 0x0, 0x0, 0x0, true⟩,
  ⟨"MFB_CNT_DENIED", 0x10A2018, 16, 0x100000, 1, 0x0, 1, 0x0, 1, 0x0, 0x0, 0x0, 0x0, true⟩,
  ⟨"MFB_CNT_LOST", 0x10A2020, 16, 0x100000, 1, 0x0, 1, 0x0, 1, 0x0, 0x0, 0x0, 0x0, true⟩,
  ⟨"MFB_CNT_TIMEOUT", 0x10A2028, 16, 0x100000, 1, 0x0, 1, 0x0, 1, 0x0, 0x0, 0x0, 0x0, true⟩,
  ⟨"MFB_CNT_LATE_RSP", 0x10A2030, 16, 0x100000, 1, 0x0, 1, 0x0, 1, 0x0, 0x0, 0x0, 0x0, true⟩,
  ⟨"MFB_CNT_STRAY_RSP", 0x10A2038, 16, 0x100000, 1, 0x0, 1, 0x0, 1, 0x0, 0x0, 0x0, 0x0, true⟩,
  ⟨"MFB_CNT_DUP", 0x10A2040, 16, 0x100000, 1, 0x0, 1, 0x0, 1, 0x0, 0x0, 0x0, 0x0, true⟩,
  ⟨"MFB_CNT_TAG_LIVE", 0x10A2048, 16, 0x100000, 1, 0x0, 1, 0x0, 1, 0x0, 0x0, 0x0, 0x0, true⟩]
def rowsOf_crux2 : List RegRow := [
  ⟨"MFB_CNT_COMB_GROUP", 0x10A2050, 16, 0x100000, 1, 0x0, 1, 0x0, 1, 0x0, 0x0, 0x0, 0x0, true⟩,
  ⟨"MFB_CNT_COMB_MEMBER", 0x10A2058, 16, 0x100000, 1, 0x0, 1, 0x0, 1, 0x0, 0x0, 0x0, 0x0, true⟩,
  ⟨"MFB_CNT_COMB_BYPASS", 0x10A2060, 16, 0x100000, 1, 0x0, 1, 0x0, 1, 0x0, 0x0, 0x0, 0x0, true⟩,
  ⟨"MFB_CNT_ANCHOR_WAIT", 0x10A2068, 16, 0x100000, 1, 0x0, 1, 0x0, 1, 0x0, 0x0, 0x0, 0x0, true⟩,
  ⟨"MFB_CNT_SPILL_HIT", 0x10A2070, 16, 0x100000, 1, 0x0, 1, 0x0, 1, 0x0, 0x0, 0x0, 0x0, true⟩,
  ⟨"CRX_BIND_CMD", 0x1000000, 16, 0x100000, 1, 0x0, 1, 0x0, 1, 0x0, 0x1FFFF, 0x0, 0x0, false⟩,
  ⟨"CRX_CCH_CTL", 0x1000010, 16, 0x100000, 1, 0x0, 1, 0x0, 1, 0x0, 0x1FFF, 0x0, 0x0, false⟩,
  ⟨"CRX_CCH_DATA", 0x1000018, 16, 0x100000, 1, 0x0, 1, 0x0, 1, 0x0, 0xFFFFFFFFFFFFFFFF, 0x0, 0x0, false⟩,
  ⟨"CRX_CLU_STS", 0x1000020, 16, 0x100000, 4, 0x8, 1, 0x0, 1, 0x0, 0x0, 0x0, 0x0, false⟩,
  ⟨"CRX_PFLAG_BIND", 0x1000400, 16, 0x100000, 4, 0x8, 1, 0x0, 1, 0x0, 0x1FFF, 0x0, 0x0, false⟩,
  ⟨"CRX_JUMAR_CFG", 0x1000800, 16, 0x100000, 32, 0x20, 1, 0x0, 1, 0x0, 0xFFFFFFFF00001FFF, 0x0, 0x0, false⟩,
  ⟨"CRX_JUMAR_EVEN", 0x1000808, 16, 0x100000, 32, 0x20, 1, 0x0, 1, 0x0, 0x0, 0x0, 0x0, false⟩,
  ⟨"CRX_JUMAR_ODD", 0x1000810, 16, 0x100000, 32, 0x20, 1, 0x0, 1, 0x0, 0x0, 0x0, 0x0, false⟩,
  ⟨"CRX_CORE_STS", 0x1010000, 16, 0x100000, 32, 0x100, 1, 0x0, 1, 0x0, 0x0, 0x0, 0x0, false⟩,
  ⟨"CRX_CORE_CTL", 0x1010008, 16, 0x100000, 32, 0x100, 1, 0x0, 1, 0x0, 0x0, 0x0, 0x0, false⟩,
  ⟨"CRX_CORE_CFG", 0x1010010, 16, 0x100000, 32, 0x100, 1, 0x0, 1, 0x0, 0xFFFFFFFF, 0x0, 0x0, false⟩,
  ⟨"CRX_CORE_FAULT", 0x1010018, 16, 0x100000, 32, 0x100, 1, 0x0, 1, 0x0, 0x0, 0x0, 0x0, false⟩,
  ⟨"CRX_CORE_FAULT_ADDR", 0x1010020, 16, 0x100000, 32, 0x100, 1, 0x0, 1, 0x0, 0x0, 0x0, 0x0, false⟩,
  ⟨"CRX_CNT_BIVOUAC", 0x1010028, 16, 0x100000, 32, 0x100, 1, 0x0, 1, 0x0, 0x0, 0x0, 0x0, true⟩,
  ⟨"CRX_CNT_STALL", 0x1010030, 16, 0x100000, 32, 0x100, 1, 0x0, 1, 0x0, 0x0, 0x0, 0x0, true⟩,
  ⟨"CRX_CNT_WAIT", 0x1010038, 16, 0x100000, 32, 0x100, 1, 0x0, 1, 0x0, 0x0, 0x0, 0x0, true⟩,
  ⟨"CRX_CORE_ARITH", 0x1010040, 16, 0x100000, 32, 0x100, 1, 0x0, 1, 0x0, 0x0, 0x0, 0x1F, false⟩,
  ⟨"CRX_RIDGE_CFG", 0x1020000, 16, 0x100000, 1, 0x0, 1, 0x0, 1, 0x0, 0x1, 0x0, 0x0, false⟩,
  ⟨"CRX_CNT_RP64_ENC", 0x1020100, 16, 0x100000, 1, 0x0, 1, 0x0, 1, 0x0, 0x0, 0x0, 0x0, true⟩]
def rowsOf_crux3 : List RegRow := [
  ⟨"CRX_CNT_RPX_ESC", 0x1020108, 16, 0x100000, 1, 0x0, 1, 0x0, 1, 0x0, 0x0, 0x0, 0x0, true⟩,
  ⟨"CRX_CNT_RP_BAD", 0x1020110, 16, 0x100000, 1, 0x0, 1, 0x0, 1, 0x0, 0x0, 0x0, 0x0, true⟩,
  ⟨"CRX_CNT_HOP_ROUND", 0x1020118, 16, 0x100000, 1, 0x0, 1, 0x0, 1, 0x0, 0x0, 0x0, 0x0, true⟩,
  ⟨"CRX_CNT_WRAP", 0x1020120, 16, 0x100000, 1, 0x0, 1, 0x0, 1, 0x0, 0x0, 0x0, 0x0, true⟩,
  ⟨"CRX_LOAD_CMD", 0x1030000, 16, 0x100000, 1, 0x0, 1, 0x0, 1, 0x0, 0xFFFFFFFF, 0x0, 0x0, false⟩,
  ⟨"CRX_LOAD_SRC", 0x1030008, 16, 0x100000, 1, 0x0, 1, 0x0, 1, 0x0, 0xFFFFFFFFFFFFF, 0x0, 0x0, false⟩,
  ⟨"CRX_LOAD_LEN", 0x1030010, 16, 0x100000, 1, 0x0, 1, 0x0, 1, 0x0, 0x7FFFFF, 0x0, 0x0, false⟩,
  ⟨"CRX_LOAD_SHORT_L", 0x1030018, 16, 0x100000, 1, 0x0, 1, 0x0, 1, 0x0, 0x0, 0x0, 0x0, false⟩,
  ⟨"CRX_LOAD_SHORT_S", 0x1030020, 16, 0x100000, 1, 0x0, 1, 0x0, 1, 0x0, 0x0, 0x0, 0x0, false⟩,
  ⟨"CRX_LOAD_SHORT_H", 0x1030028, 16, 0x100000, 1, 0x0, 1, 0x0, 1, 0x0, 0x0, 0x0, 0x0, false⟩,
  ⟨"CRX_LOAD_SHORT_RES", 0x1030030, 16, 0x100000, 1, 0x0, 1, 0x0, 1, 0x0, 0x0, 0x0, 0x0, false⟩,
  ⟨"CRX_LOAD_REASON", 0x1030038, 16, 0x100000, 1, 0x0, 1, 0x0, 1, 0x0, 0x0, 0x0, 0x0, false⟩,
  ⟨"CRX_LOAD_ARG", 0x1030040, 16, 0x100000, 8, 0x8, 1, 0x0, 1, 0x0, 0xFFFFFFFFFFFFFFFF, 0x0, 0x0, false⟩,
  ⟨"CRX_LOAD_CAP", 0x1030080, 16, 0x100000, 1, 0x0, 1, 0x0, 1, 0x0, 0x0, 0x0, 0x0, false⟩,
  ⟨"CRX_CORE_EXIT", 0x1010048, 16, 0x100000, 32, 0x100, 1, 0x0, 1, 0x0, 0x0, 0x0, 0x0, false⟩,
  ⟨"CRX_CORE_IMAGE", 0x1010050, 16, 0x100000, 32, 0x100, 1, 0x0, 1, 0x0, 0x0, 0x0, 0x0, false⟩,
  ⟨"CRX_CORE_PC", 0x1010058, 16, 0x100000, 32, 0x100, 1, 0x0, 1, 0x0, 0x0, 0x0, 0x0, false⟩,
  ⟨"CRX_CORE_CODE", 0x1010060, 16, 0x100000, 32, 0x100, 1, 0x0, 1, 0x0, 0x0, 0x0, 0x0, false⟩,
  ⟨"CRX_ROPE_CMD", 0x1040000, 16, 0x100000, 1, 0x0, 1, 0x0, 1, 0x0, 0x3FFF, 0x0, 0x0, false⟩,
  ⟨"CRX_ROPE_D", 0x1040008, 16, 0x100000, 8, 0x8, 1, 0x0, 1, 0x0, 0xFFFFFFFFFFFFFFFF, 0x0, 0x0, false⟩,
  ⟨"CRX_ROPE_SEL", 0x1040048, 16, 0x100000, 1, 0x0, 1, 0x0, 1, 0x0, 0x3FFF, 0x0, 0x0, false⟩,
  ⟨"CRX_ROPE_STS", 0x1040050, 16, 0x100000, 1, 0x0, 1, 0x0, 1, 0x0, 0x0, 0x0, 0x0, false⟩,
  ⟨"CRX_CNT_ROPE_CHUNK", 0x1042000, 16, 0x100000, 1, 0x0, 1, 0x0, 1, 0x0, 0x0, 0x0, 0x0, true⟩,
  ⟨"CRX_CNT_ROPE_PART", 0x1042008, 16, 0x100000, 1, 0x0, 1, 0x0, 1, 0x0, 0x0, 0x0, 0x0, true⟩]
def rowsOf_crux4 : List RegRow := [
  ⟨"CRX_CNT_ROPE_STALE", 0x1042010, 16, 0x100000, 1, 0x0, 1, 0x0, 1, 0x0, 0x0, 0x0, 0x0, true⟩,
  ⟨"CRX_CNT_ROPE_BAD", 0x1042018, 16, 0x100000, 1, 0x0, 1, 0x0, 1, 0x0, 0x0, 0x0, 0x0, true⟩,
  ⟨"CRX_CNT_ROPE_ABORT", 0x1042020, 16, 0x100000, 1, 0x0, 1, 0x0, 1, 0x0, 0x0, 0x0, 0x0, true⟩,
  ⟨"CRX_CNT_ROPE_WDOG", 0x1042028, 16, 0x100000, 1, 0x0, 1, 0x0, 1, 0x0, 0x0, 0x0, 0x0, true⟩,
  ⟨"CRX_GATE_CMD", 0x1050000, 16, 0x100000, 1, 0x0, 1, 0x0, 1, 0x0, 0x3FFF, 0x0, 0x0, false⟩,
  ⟨"CRX_GATE_D", 0x1050008, 16, 0x100000, 8, 0x8, 1, 0x0, 1, 0x0, 0xFFFFFFFFFFFFFFFF, 0x0, 0x0, false⟩,
  ⟨"CRX_GATE_SEL", 0x1050048, 16, 0x100000, 1, 0x0, 1, 0x0, 1, 0x0, 0x3FFF, 0x0, 0x0, false⟩,
  ⟨"CRX_GATE_STS", 0x1050050, 16, 0x100000, 1, 0x0, 1, 0x0, 1, 0x0, 0x0, 0x0, 0x0, false⟩,
  ⟨"CRX_GATE_SLOTS", 0x1050058, 16, 0x100000, 1, 0x0, 1, 0x0, 1, 0x0, 0x0, 0x0, 0x0, false⟩,
  ⟨"CRX_GATE_SLOTS_RING", 0x1050060, 16, 0x100000, 1, 0x0, 1, 0x0, 1, 0x0, 0x0, 0x0, 0x0, false⟩,
  ⟨"CRX_GATE_HEAT_CTL", 0x1050068, 16, 0x100000, 1, 0x0, 1, 0x0, 1, 0x0, 0x1FFF, 0x0, 0x0, false⟩,
  ⟨"CRX_GATE_HEAT", 0x1050070, 16, 0x100000, 1, 0x0, 1, 0x0, 1, 0x0, 0x0, 0x0, 0x0, false⟩,
  ⟨"CRX_STORE_CMD", 0x1060000, 16, 0x100000, 1, 0x0, 1, 0x0, 1, 0x0, 0x3FFF, 0x0, 0x0, false⟩,
  ⟨"CRX_STORE_D0", 0x1060008, 16, 0x100000, 1, 0x0, 1, 0x0, 1, 0x0, 0xFFFFFFFFFFFFF, 0x0, 0x0, false⟩,
  ⟨"CRX_STORE_DEV_MASK", 0x1060010, 16, 0x100000, 1, 0x0, 1, 0x0, 1, 0x0, 0xFFFFFFFFFFFFFFFF, 0x0, 0x0, false⟩,
  ⟨"CRX_STORE_MANIFEST", 0x1060018, 16, 0x100000, 1, 0x0, 1, 0x0, 1, 0x0, 0xFFFFFFFFFF, 0x0, 0x0, false⟩,
  ⟨"CRX_STORE_BUDGET", 0x1060020, 16, 0x100000, 1, 0x0, 1, 0x0, 1, 0x0, 0x3FFFFFFFFFFF, 0x0, 0x0, false⟩,
  ⟨"CRX_STORE_OVF_BASE", 0x1060028, 16, 0x100000, 1, 0x0, 1, 0x0, 1, 0x0, 0xFFFFFFFFFFFFF, 0x0, 0x0, false⟩,
  ⟨"CRX_STORE_OVF_PAGES", 0x1060030, 16, 0x100000, 1, 0x0, 1, 0x0, 1, 0x0, 0xFFFFFFFFFF, 0x0, 0x0, false⟩,
  ⟨"CRX_STORE_SHORT", 0x1060038, 16, 0x100000, 1, 0x0, 1, 0x0, 1, 0x0, 0x0, 0x0, 0x0, false⟩,
  ⟨"CRX_STORE_DIR", 0x1060040, 16, 0x100000, 1, 0x0, 1, 0x0, 1, 0x0, 0x0, 0x0, 0x0, false⟩,
  ⟨"CRX_CNT_GATE_TOKEN", 0x1052000, 16, 0x100000, 1, 0x0, 1, 0x0, 1, 0x0, 0x0, 0x0, 0x0, true⟩,
  ⟨"CRX_CNT_GATE_POISON", 0x1052008, 16, 0x100000, 1, 0x0, 1, 0x0, 1, 0x0, 0x0, 0x0, 0x0, true⟩,
  ⟨"CRX_CNT_GATE_TIMEOUT", 0x1052010, 16, 0x100000, 1, 0x0, 1, 0x0, 1, 0x0, 0x0, 0x0, 0x0, true⟩]
def rowsOf_crux5 : List RegRow := [
  ⟨"CRX_CNT_GATE_WAIT", 0x1052018, 16, 0x100000, 1, 0x0, 1, 0x0, 1, 0x0, 0x0, 0x0, 0x0, true⟩,
  ⟨"CRX_CNT_GATE_DROP", 0x1052020, 16, 0x100000, 1, 0x0, 1, 0x0, 1, 0x0, 0x0, 0x0, 0x0, true⟩,
  ⟨"CRX_CNT_GATE_NEXT", 0x1052028, 16, 0x100000, 1, 0x0, 1, 0x0, 1, 0x0, 0x0, 0x0, 0x0, true⟩,
  ⟨"CRX_CNT_GATE_STALE", 0x1052030, 16, 0x100000, 1, 0x0, 1, 0x0, 1, 0x0, 0x0, 0x0, 0x0, true⟩,
  ⟨"CRX_CNT_GATE_STREAM", 0x1052038, 16, 0x100000, 1, 0x0, 1, 0x0, 1, 0x0, 0x0, 0x0, 0x0, true⟩,
  ⟨"CRX_CNT_GATE_FILTER", 0x1052040, 16, 0x100000, 1, 0x0, 1, 0x0, 1, 0x0, 0x0, 0x0, 0x0, true⟩,
  ⟨"CRX_CNT_STORE_FETCH", 0x1062000, 16, 0x100000, 1, 0x0, 1, 0x0, 1, 0x0, 0x0, 0x0, 0x0, true⟩,
  ⟨"CRX_CNT_STORE_BLOCK", 0x1062008, 16, 0x100000, 1, 0x0, 1, 0x0, 1, 0x0, 0x0, 0x0, 0x0, true⟩,
  ⟨"CRX_CNT_STORE_OVF", 0x1062010, 16, 0x100000, 1, 0x0, 1, 0x0, 1, 0x0, 0x0, 0x0, 0x0, true⟩,
  ⟨"CRX_CNT_STORE_LOST", 0x1062018, 16, 0x100000, 1, 0x0, 1, 0x0, 1, 0x0, 0x0, 0x0, 0x0, true⟩,
  ⟨"CRX_CNT_RES_VERIFY", 0x1020200, 16, 0x100000, 1, 0x0, 1, 0x0, 1, 0x0, 0x0, 0x0, 0x0, true⟩,
  ⟨"CRX_CNT_RES_FAIL", 0x1020208, 16, 0x100000, 1, 0x0, 1, 0x0, 1, 0x0, 0x0, 0x0, 0x0, true⟩,
  ⟨"CRX_CNT_DUAL_FAIL", 0x1020210, 16, 0x100000, 1, 0x0, 1, 0x0, 1, 0x0, 0x0, 0x0, 0x0, true⟩,
  ⟨"CRX_CNT_TEN_CHECK", 0x1020218, 16, 0x100000, 1, 0x0, 1, 0x0, 1, 0x0, 0x0, 0x0, 0x0, true⟩,
  ⟨"CRX_CNT_TEN_SKIP", 0x1020220, 16, 0x100000, 1, 0x0, 1, 0x0, 1, 0x0, 0x0, 0x0, 0x0, true⟩,
  ⟨"CRX_CNT_TEN_FAIL", 0x1020228, 16, 0x100000, 1, 0x0, 1, 0x0, 1, 0x0, 0x0, 0x0, 0x0, true⟩,
  ⟨"CRX_CNT_CDC_FAIL", 0x1020230, 16, 0x100000, 1, 0x0, 1, 0x0, 1, 0x0, 0x0, 0x0, 0x0, true⟩,
  ⟨"CRX_CNT_WITNESS", 0x1020238, 16, 0x100000, 1, 0x0, 1, 0x0, 1, 0x0, 0x0, 0x0, 0x0, true⟩,
  ⟨"POOL_CMD", 0x1070000, 16, 0x100000, 4, 0x1000, 1, 0x0, 1, 0x0, 0x0, 0x0, 0x0, false⟩,
  ⟨"POOL_CFG", 0x1070008, 16, 0x100000, 4, 0x1000, 1, 0x0, 1, 0x0, 0x3FFFF, 0x0, 0x0, false⟩,
  ⟨"POOL_PBASE", 0x1070010, 16, 0x100000, 4, 0x1000, 1, 0x0, 1, 0x0, 0xFFFFFFF, 0x0, 0x0, false⟩,
  ⟨"POOL_PAGES", 0x1070018, 16, 0x100000, 4, 0x1000, 1, 0x0, 1, 0x0, 0xFFFFFFF, 0x0, 0x0, false⟩,
  ⟨"POOL_HBASE", 0x1070020, 16, 0x100000, 4, 0x1000, 1, 0x0, 1, 0x0, 0xFFFFFFFFFF, 0x0, 0x0, false⟩,
  ⟨"POOL_FLOOR", 0x1070028, 16, 0x100000, 4, 0x1000, 1, 0x0, 1, 0x0, 0xFFFFFFF, 0x0, 0x0, false⟩]
def rowsOf_crux6 : List RegRow := [
  ⟨"POOL_STS", 0x1070030, 16, 0x100000, 4, 0x1000, 1, 0x0, 1, 0x0, 0x0, 0x0, 0x0, false⟩,
  ⟨"POOL_HEAD", 0x1070038, 16, 0x100000, 4, 0x1000, 1, 0x0, 1, 0x0, 0x0, 0x0, 0x0, false⟩,
  ⟨"POOL_REQ", 0x1070100, 16, 0x100000, 4, 0x1000, 16, 0x10, 1, 0x0, 0x7FFFFFFFFFF, 0x0, 0x0, false⟩,
  ⟨"POOL_REQ_USED", 0x1070108, 16, 0x100000, 4, 0x1000, 16, 0x10, 1, 0x0, 0x0, 0x0, 0x0, false⟩,
  ⟨"CRX_MEM_CFG", 0x1020300, 16, 0x100000, 1, 0x0, 1, 0x0, 1, 0x0, 0x1FFFFF, 0x0, 0x0, false⟩,
  ⟨"CRX_CLU_SRES", 0x1000040, 16, 0x100000, 4, 0x8, 1, 0x0, 1, 0x0, 0x0, 0x0, 0x0, false⟩,
  ⟨"POOL_CNT_ALLOC", 0x1070800, 16, 0x100000, 4, 0x1000, 1, 0x0, 1, 0x0, 0x0, 0x0, 0x0, true⟩,
  ⟨"POOL_CNT_FREE", 0x1070808, 16, 0x100000, 4, 0x1000, 1, 0x0, 1, 0x0, 0x0, 0x0, 0x0, true⟩,
  ⟨"POOL_CNT_NOMEM", 0x1070810, 16, 0x100000, 4, 0x1000, 1, 0x0, 1, 0x0, 0x0, 0x0, 0x0, true⟩,
  ⟨"POOL_CNT_QUOTA", 0x1070818, 16, 0x100000, 4, 0x1000, 1, 0x0, 1, 0x0, 0x0, 0x0, 0x0, true⟩,
  ⟨"POOL_CNT_DOUBLE_FREE", 0x1070820, 16, 0x100000, 4, 0x1000, 1, 0x0, 1, 0x0, 0x0, 0x0, 0x0, true⟩,
  ⟨"POOL_CNT_BROKEN", 0x1070828, 16, 0x100000, 4, 0x1000, 1, 0x0, 1, 0x0, 0x0, 0x0, 0x0, true⟩,
  ⟨"CRX_CNT_SRAM_CE", 0x1020400, 16, 0x100000, 1, 0x0, 1, 0x0, 1, 0x0, 0x0, 0x0, 0x0, true⟩,
  ⟨"CRX_CNT_SRAM_UE", 0x1020408, 16, 0x100000, 1, 0x0, 1, 0x0, 1, 0x0, 0x0, 0x0, 0x0, true⟩,
  ⟨"CRX_CNT_SRAM_UNWRITTEN", 0x1020410, 16, 0x100000, 1, 0x0, 1, 0x0, 1, 0x0, 0x0, 0x0, 0x0, true⟩,
  ⟨"CRX_CNT_SRAM_PITON", 0x1020418, 16, 0x100000, 1, 0x0, 1, 0x0, 1, 0x0, 0x0, 0x0, 0x0, true⟩]
/-- The access rows of one part of the map. -/
def rowsOf_crux : List RegRow := rowsOf_crux0 ++ rowsOf_crux1 ++ rowsOf_crux2 ++ rowsOf_crux3 ++ rowsOf_crux4 ++ rowsOf_crux5 ++ rowsOf_crux6
def rowsOf_hbm0 : List RegRow := [
  ⟨"HBM_STS", 0x3000000, 12, 0x10000, 1, 0x0, 1, 0x0, 1, 0x0, 0x0, 0x0, 0x0, false⟩,
  ⟨"HBM_SCRUB_CFG", 0x3000008, 12, 0x10000, 1, 0x0, 1, 0x0, 1, 0x0, 0x7FFFF, 0x0, 0x0, false⟩,
  ⟨"HBM_SHARE", 0x3000010, 12, 0x10000, 1, 0x0, 1, 0x0, 1, 0x0, 0x3FFFFFFFFFFFFF, 0x0, 0x0, false⟩,
  ⟨"HBM_PITON_SEL", 0x3000018, 12, 0x10000, 1, 0x0, 1, 0x0, 1, 0x0, 0x3FF, 0x0, 0x0, false⟩,
  ⟨"HBM_PITON_DATA", 0x3000020, 12, 0x10000, 1, 0x0, 1, 0x0, 1, 0x0, 0x0, 0x0, 0x0, false⟩,
  ⟨"HBM_CNT_CE", 0x3000100, 12, 0x10000, 1, 0x0, 1, 0x0, 1, 0x0, 0x0, 0x0, 0x0, true⟩,
  ⟨"HBM_CNT_UE", 0x3000108, 12, 0x10000, 1, 0x0, 1, 0x0, 1, 0x0, 0x0, 0x0, 0x0, true⟩,
  ⟨"HBM_CNT_UNWRITTEN", 0x3000110, 12, 0x10000, 1, 0x0, 1, 0x0, 1, 0x0, 0x0, 0x0, 0x0, true⟩,
  ⟨"HBM_CNT_SCRUB_LINES", 0x3000118, 12, 0x10000, 1, 0x0, 1, 0x0, 1, 0x0, 0x0, 0x0, 0x0, true⟩,
  ⟨"HBM_CNT_PITON", 0x3000120, 12, 0x10000, 1, 0x0, 1, 0x0, 1, 0x0, 0x0, 0x0, 0x0, true⟩]
/-- The access rows of one part of the map. -/
def rowsOf_hbm : List RegRow := rowsOf_hbm0
def rowsOf_hub0 : List RegRow := [
  ⟨"HUB_XDOM_FENCE", 0x180, 1, 0x0, 1, 0x0, 1, 0x0, 1, 0x0, 0x0, 0x0, 0x0, false⟩,
  ⟨"TIM_NOW", 0x3C0000, 1, 0x0, 1, 0x0, 1, 0x0, 1, 0x0, 0x0, 0x0, 0x0, false⟩,
  ⟨"TIM_CTL", 0x3C0008, 1, 0x0, 1, 0x0, 1, 0x0, 1, 0x0, 0xFF, 0xFF, 0x0, false⟩,
  ⟨"TIM_GUARD", 0x3C0010, 1, 0x0, 1, 0x0, 1, 0x0, 1, 0x0, 0x3FF, 0x0, 0x0, false⟩,
  ⟨"TIM_STS", 0x3C0018, 1, 0x0, 1, 0x0, 1, 0x0, 1, 0x0, 0x0, 0x0, 0x0, false⟩,
  ⟨"TIM_OFFSET_EST", 0x3C0020, 1, 0x0, 1, 0x0, 1, 0x0, 1, 0x0, 0x0, 0x0, 0x0, false⟩,
  ⟨"TIM_SYNC_CFG", 0x3C0028, 1, 0x0, 1, 0x0, 1, 0x0, 1, 0x0, 0x3FF, 0x0, 0x0, false⟩,
  ⟨"TIM_PPS_SECONDS", 0x3C0030, 1, 0x0, 1, 0x0, 1, 0x0, 1, 0x0, 0xFFFFFFFFFFFFFFFF, 0x0, 0x0, false⟩,
  ⟨"TIM_GATE_CTL", 0x3C0040, 1, 0x0, 1, 0x0, 1, 0x0, 1, 0x0, 0x3FFFFF1, 0x0, 0x0, false⟩,
  ⟨"TIM_GATE_BASE", 0x3C0048, 1, 0x0, 1, 0x0, 1, 0x0, 1, 0x0, 0xFFFFFFFFFFFFFFFF, 0x0, 0x0, false⟩,
  ⟨"TIM_GATE_SWITCH", 0x3C0050, 1, 0x0, 1, 0x0, 1, 0x0, 1, 0x0, 0xFFFFFFFFFFFFFFFF, 0x0, 0x0, false⟩,
  ⟨"TIM_GATE_PERIOD", 0x3C0058, 1, 0x0, 1, 0x0, 1, 0x0, 1, 0x0, 0x0, 0x0, 0x0, false⟩,
  ⟨"TIM_GATE_TBL_CTL", 0x3C0060, 1, 0x0, 1, 0x0, 1, 0x0, 1, 0x0, 0x1FFF, 0x0, 0x0, false⟩,
  ⟨"TIM_GATE_TBL_DATA", 0x3C0068, 1, 0x0, 1, 0x0, 1, 0x0, 1, 0x0, 0xFFFFFFFFFFFFFFFF, 0x0, 0x0, false⟩,
  ⟨"HRN_CMD", 0x180000, 1, 0x0, 1, 0x0, 1, 0x0, 1, 0x0, 0xFFF, 0x0, 0x0, false⟩,
  ⟨"HRN_GCFG", 0x180008, 1, 0x0, 1, 0x0, 1, 0x0, 1, 0x0, 0xFFFF, 0x0, 0x0, false⟩,
  ⟨"HRN_COUNT", 0x180010, 1, 0x0, 1, 0x0, 1, 0x0, 1, 0x0, 0x0, 0x0, 0x0, false⟩,
  ⟨"HUB_EQUIV_CLASS", 0x190, 1, 0x0, 1, 0x0, 1, 0x0, 1, 0x0, 0x0, 0x0, 0x0, false⟩,
  ⟨"HUB_HOST_CTL", 0x400, 1, 0x0, 1, 0x0, 1, 0x0, 1, 0x0, 0xFFFE0, 0x0, 0x0, false⟩,
  ⟨"HUB_BAR4_CFG", 0x408, 1, 0x0, 1, 0x0, 1, 0x0, 1, 0x0, 0xFFFFFFFFFFFFF, 0x0, 0x0, false⟩,
  ⟨"HUB_MGMT_MASTER", 0x410, 1, 0x0, 1, 0x0, 1, 0x0, 1, 0x0, 0x1FFFFFF, 0x1FFFFFF, 0x0, false⟩,
  ⟨"HUB_VF_BIND", 0x800, 256, 0x8, 1, 0x0, 1, 0x0, 1, 0x0, 0x1FFF, 0x0, 0x0, false⟩,
  ⟨"RING_CMD", 0x280000, 1, 0x0, 1, 0x0, 1, 0x0, 1, 0x0, 0x1FFF, 0x0, 0x0, false⟩,
  ⟨"RING_CNT_CMD", 0x281000, 1, 0x0, 1, 0x0, 1, 0x0, 1, 0x0, 0x0, 0x0, 0x0, true⟩]
def rowsOf_hub1 : List RegRow := [
  ⟨"RING_CNT_CQ_FULL", 0x281008, 1, 0x0, 1, 0x0, 1, 0x0, 1, 0x0, 0x0, 0x0, 0x0, true⟩,
  ⟨"RING_CNT_DB_NONE", 0x281010, 1, 0x0, 1, 0x0, 1, 0x0, 1, 0x0, 0x0, 0x0, 0x0, true⟩,
  ⟨"RING_CNT_DB_DENIED", 0x281018, 1, 0x0, 1, 0x0, 1, 0x0, 1, 0x0, 0x0, 0x0, 0x0, true⟩,
  ⟨"RING_CNT_ORPHAN", 0x281020, 1, 0x0, 1, 0x0, 1, 0x0, 1, 0x0, 0x0, 0x0, 0x0, true⟩,
  ⟨"RING_CNT_FLUSH_MSG", 0x281028, 1, 0x0, 1, 0x0, 1, 0x0, 1, 0x0, 0x0, 0x0, 0x0, true⟩,
  ⟨"RING_CNT_MGMT_DENIED", 0x281030, 1, 0x0, 1, 0x0, 1, 0x0, 1, 0x0, 0x0, 0x0, 0x0, true⟩,
  ⟨"RING_CNT_DMA_BYTES", 0x281038, 1, 0x0, 1, 0x0, 1, 0x0, 1, 0x0, 0x0, 0x0, 0x0, true⟩,
  ⟨"PWR_CTL", 0x300000, 1, 0x0, 1, 0x0, 1, 0x0, 1, 0x0, 0x7FFFFF, 0x0, 0x0, false⟩,
  ⟨"PWR_STS", 0x300008, 1, 0x0, 1, 0x0, 1, 0x0, 1, 0x0, 0x0, 0x0, 0x0, false⟩,
  ⟨"PWR_CAL", 0x300010, 1, 0x0, 1, 0x0, 1, 0x0, 1, 0x0, 0x0, 0x0, 0x0, false⟩,
  ⟨"PWR_SYS_WAKE", 0x300018, 1, 0x0, 1, 0x0, 1, 0x0, 1, 0x0, 0xFFFFFFFFFFFF, 0x0, 0x0, false⟩,
  ⟨"PWR_IDLE_CFG", 0x300020, 1, 0x0, 1, 0x0, 1, 0x0, 1, 0x0, 0xFFFFFFFFFFFF, 0x0, 0x0, false⟩,
  ⟨"PWR_DROOP_CFG", 0x300028, 1, 0x0, 1, 0x0, 1, 0x0, 1, 0x0, 0xFFFF, 0x0, 0x0, false⟩,
  ⟨"PWR_TRIM_CFG", 0x300030, 1, 0x0, 1, 0x0, 1, 0x0, 1, 0x0, 0x1FFFFFF, 0x0, 0x0, false⟩,
  ⟨"PWR_DIE_STS", 0x300100, 16, 0x10, 1, 0x0, 1, 0x0, 1, 0x0, 0x0, 0x0, 0x0, false⟩,
  ⟨"PWR_CNT_BUBBLE", 0x301000, 1, 0x0, 1, 0x0, 1, 0x0, 1, 0x0, 0x0, 0x0, 0x0, true⟩,
  ⟨"PWR_CNT_DROOP", 0x301008, 1, 0x0, 1, 0x0, 1, 0x0, 1, 0x0, 0x0, 0x0, 0x0, true⟩,
  ⟨"PWR_CNT_STEPDOWN", 0x301010, 1, 0x0, 1, 0x0, 1, 0x0, 1, 0x0, 0x0, 0x0, 0x0, true⟩,
  ⟨"PWR_CNT_TRIM", 0x301018, 1, 0x0, 1, 0x0, 1, 0x0, 1, 0x0, 0x0, 0x0, 0x0, true⟩,
  ⟨"PWR_CNT_PORT_IDLE", 0x301020, 1, 0x0, 1, 0x0, 1, 0x0, 1, 0x0, 0x0, 0x0, 0x0, true⟩,
  ⟨"PWR_CNT_HBM_SR", 0x301028, 1, 0x0, 1, 0x0, 1, 0x0, 1, 0x0, 0x0, 0x0, 0x0, true⟩,
  ⟨"PWR_CNT_DEEP", 0x301030, 1, 0x0, 1, 0x0, 1, 0x0, 1, 0x0, 0x0, 0x0, 0x0, true⟩,
  ⟨"HUB_CAMP_STS", 0x200, 1, 0x0, 1, 0x0, 1, 0x0, 1, 0x0, 0x0, 0x0, 0x0, false⟩,
  ⟨"HUB_BOOT_CTL", 0x208, 1, 0x0, 1, 0x0, 1, 0x0, 1, 0x0, 0x10, 0x0, 0x0, false⟩]
def rowsOf_hub2 : List RegRow := [
  ⟨"HUB_CAMP_RPT", 0x210, 7, 0x8, 1, 0x0, 1, 0x0, 1, 0x0, 0x0, 0x0, 0x0, false⟩,
  ⟨"HUB_BOOT_IMAGE", 0x248, 1, 0x0, 1, 0x0, 1, 0x0, 1, 0x0, 0x0, 0x0, 0x0, false⟩,
  ⟨"HUB_DEFECT_STS", 0x250, 1, 0x0, 1, 0x0, 1, 0x0, 1, 0x0, 0x0, 0x0, 0x0, false⟩,
  ⟨"HUB_JTAG_TOKEN", 0x258, 1, 0x0, 1, 0x0, 1, 0x0, 1, 0x0, 0x0, 0x0, 0x0, false⟩,
  ⟨"HUB_JTAG_STS", 0x260, 1, 0x0, 1, 0x0, 1, 0x0, 1, 0x0, 0x0, 0x0, 0x0, false⟩,
  ⟨"HUB_JOIN0", 0x268, 1, 0x0, 1, 0x0, 1, 0x0, 1, 0x0, 0x1FFFFFFFFFFFF, 0x1FFFFFFFFFFFF, 0x0, false⟩,
  ⟨"HUB_JOIN1", 0x270, 1, 0x0, 1, 0x0, 1, 0x0, 1, 0x0, 0xFFFFFFFF0007FFFF, 0xFFFFFFFF0007FFFF, 0x0, false⟩,
  ⟨"HUB_BOOT_TIME", 0x278, 1, 0x0, 1, 0x0, 1, 0x0, 1, 0x0, 0x0, 0x0, 0x0, false⟩,
  ⟨"HUB_FAULT_STS", 0x600, 1, 0x0, 1, 0x0, 1, 0x0, 1, 0x0, 0x0, 0x0, 0x0, false⟩,
  ⟨"HUB_FAULT_CTL", 0x608, 1, 0x0, 1, 0x0, 1, 0x0, 1, 0x0, 0x1FFFFE0, 0x0, 0x0, false⟩,
  ⟨"HUB_FAULT_RING", 0x610, 1, 0x0, 1, 0x0, 1, 0x0, 1, 0x0, 0x3FFFFFFFFFFF, 0x0, 0x0, false⟩,
  ⟨"HUB_FAULT_WPTR", 0x618, 1, 0x0, 1, 0x0, 1, 0x0, 1, 0x0, 0x0, 0x0, 0x0, false⟩,
  ⟨"HUB_HACC_ERR", 0x620, 1, 0x0, 1, 0x0, 1, 0x0, 1, 0x0, 0x0, 0x0, 0x200000000000, false⟩,
  ⟨"HUB_HACC_CNT", 0x628, 1, 0x0, 1, 0x0, 1, 0x0, 1, 0x0, 0x0, 0x0, 0x0, true⟩,
  ⟨"HUB_FILL_CTL", 0x630, 1, 0x0, 1, 0x0, 1, 0x0, 1, 0x0, 0x7FFF800F, 0x0, 0x0, false⟩,
  ⟨"HUB_FILL_STS", 0x638, 1, 0x0, 1, 0x0, 1, 0x0, 1, 0x0, 0x0, 0x0, 0x0, false⟩,
  ⟨"HUB_MARK_CTL", 0x640, 1, 0x0, 1, 0x0, 1, 0x0, 1, 0x0, 0x7FF, 0x0, 0x0, false⟩,
  ⟨"HUB_FM_CFG", 0x668, 1, 0x0, 1, 0x0, 1, 0x0, 1, 0x0, 0x1FFFFFFFFFFFF, 0x0, 0x0, false⟩,
  ⟨"HUB_FM_MGR", 0x670, 1, 0x0, 1, 0x0, 1, 0x0, 1, 0x0, 0xFFFFFFFF, 0x0, 0x0, false⟩,
  ⟨"HUB_FM_KEY", 0x680, 4, 0x8, 1, 0x0, 1, 0x0, 1, 0x0, 0x0, 0x0, 0x0, false⟩,
  ⟨"HUB_MARGIN_CFG", 0x6A0, 1, 0x0, 1, 0x0, 1, 0x0, 1, 0x0, 0x1FFFFFFEFFFF, 0x0, 0x0, false⟩,
  ⟨"HUB_FM_CNT_RX", 0x6C0, 1, 0x0, 1, 0x0, 1, 0x0, 1, 0x0, 0x0, 0x0, 0x0, true⟩,
  ⟨"HUB_FM_CNT_BAD", 0x6C8, 1, 0x0, 1, 0x0, 1, 0x0, 1, 0x0, 0x0, 0x0, 0x0, true⟩,
  ⟨"HUB_FM_CNT_RESEND", 0x6D0, 1, 0x0, 1, 0x0, 1, 0x0, 1, 0x0, 0x0, 0x0, 0x0, true⟩]
def rowsOf_hub3 : List RegRow := [
  ⟨"HUB_FAULT_CNT", 0x6D8, 1, 0x0, 1, 0x0, 1, 0x0, 1, 0x0, 0x0, 0x0, 0x0, true⟩,
  ⟨"TEL_COLLECT", 0x398000, 1, 0x0, 1, 0x0, 1, 0x0, 1, 0x0, 0x3FFFFF, 0x0, 0x0, false⟩,
  ⟨"TEL_COLLECT_IP", 0x398008, 1, 0x0, 1, 0x0, 1, 0x0, 1, 0x0, 0xFFFFFFFFFFFF, 0x0, 0x0, false⟩,
  ⟨"TEL_SUM_CFG", 0x398100, 16, 0x10, 1, 0x0, 1, 0x0, 1, 0x0, 0x1FFFFFFFFFFFFF, 0x0, 0x0, false⟩,
  ⟨"TEL_SUM_STS", 0x398108, 16, 0x10, 1, 0x0, 1, 0x0, 1, 0x0, 0x0, 0x0, 0x0, false⟩,
  ⟨"HUB_AVAL_CFG", 0x700, 1, 0x0, 1, 0x0, 1, 0x0, 1, 0x0, 0xFFFF, 0x0, 0x0, false⟩,
  ⟨"HUB_AVAL_STS", 0x708, 1, 0x0, 1, 0x0, 1, 0x0, 1, 0x0, 0x0, 0x0, 0x0, false⟩,
  ⟨"HUB_AVAL_OVF", 0x740, 15, 0x8, 1, 0x0, 1, 0x0, 1, 0x0, 0x0, 0x0, 0x0, true⟩,
  ⟨"HUB_SYNC_CFG", 0x1100, 6, 0x8, 1, 0x0, 1, 0x0, 1, 0x0, 0xFFFF, 0x0, 0x0, false⟩,
  ⟨"CRN_STS", 0x340000, 1, 0x0, 1, 0x0, 1, 0x0, 1, 0x0, 0x0, 0x0, 0x0, false⟩,
  ⟨"CRN_CFG", 0x340008, 1, 0x0, 1, 0x0, 1, 0x0, 1, 0x0, 0x1FFFFFF, 0x0, 0x0, false⟩,
  ⟨"CRN_CMD", 0x340010, 1, 0x0, 1, 0x0, 1, 0x0, 1, 0x0, 0x0, 0x0, 0x0, false⟩,
  ⟨"CRN_RD_SEQ", 0x340018, 1, 0x0, 1, 0x0, 1, 0x0, 1, 0x0, 0xFFFFFFFFFFFFFFFF, 0x0, 0x0, false⟩,
  ⟨"CRN_RD_DATA", 0x340020, 8, 0x8, 1, 0x0, 1, 0x0, 1, 0x0, 0x0, 0x0, 0x0, false⟩,
  ⟨"CRN_SEQ_FIRST", 0x340060, 1, 0x0, 1, 0x0, 1, 0x0, 1, 0x0, 0x0, 0x0, 0x0, false⟩,
  ⟨"CRN_SEQ_NEXT", 0x340068, 1, 0x0, 1, 0x0, 1, 0x0, 1, 0x0, 0x0, 0x0, 0x0, false⟩,
  ⟨"CRN_GEN", 0x340070, 1, 0x0, 1, 0x0, 1, 0x0, 1, 0x0, 0x0, 0x0, 0x0, false⟩,
  ⟨"CRN_CNT_REC", 0x340800, 1, 0x0, 1, 0x0, 1, 0x0, 1, 0x0, 0x0, 0x0, 0x0, true⟩,
  ⟨"CRN_CNT_DROP", 0x340808, 1, 0x0, 1, 0x0, 1, 0x0, 1, 0x0, 0x0, 0x0, 0x0, true⟩,
  ⟨"CRN_CNT_RATE_DROP", 0x340810, 1, 0x0, 1, 0x0, 1, 0x0, 1, 0x0, 0x0, 0x0, 0x0, true⟩,
  ⟨"CRN_CNT_FLASH_ERR", 0x340818, 1, 0x0, 1, 0x0, 1, 0x0, 1, 0x0, 0x0, 0x0, 0x0, true⟩,
  ⟨"HUB_ID", 0x0, 1, 0x0, 1, 0x0, 1, 0x0, 1, 0x0, 0x0, 0x0, 0x0, false⟩,
  ⟨"HUB_GRADE", 0x8, 1, 0x0, 1, 0x0, 1, 0x0, 1, 0x0, 0x0, 0x0, 0x0, false⟩,
  ⟨"HUB_SERIAL", 0x10, 1, 0x0, 1, 0x0, 1, 0x0, 1, 0x0, 0x0, 0x0, 0x0, false⟩]
def rowsOf_hub4 : List RegRow := [
  ⟨"HUB_RESOURCES", 0x18, 1, 0x0, 1, 0x0, 1, 0x0, 1, 0x0, 0x0, 0x0, 0x0, false⟩,
  ⟨"HUB_PLANE", 0x20, 1, 0x0, 1, 0x0, 1, 0x0, 1, 0x0, 0x0, 0x0, 0x0, false⟩,
  ⟨"HUB_IDENT_STS", 0x28, 1, 0x0, 1, 0x0, 1, 0x0, 1, 0x0, 0x0, 0x0, 0x0, false⟩,
  ⟨"HUB_MEMBER_EPOCH", 0x188, 1, 0x0, 1, 0x0, 1, 0x0, 1, 0x0, 0xFFFFFFFF, 0x0, 0x0, false⟩,
  ⟨"TEL_TRACE_CFG", 0x399000, 1, 0x0, 1, 0x0, 1, 0x0, 1, 0x0, 0xFF, 0x0, 0x0, false⟩,
  ⟨"TEL_SNAP_DATA", 0x382000, 4, 0x1000, 512, 0x8, 1, 0x0, 1, 0x0, 0x0, 0x0, 0x0, false⟩,
  ⟨"TEL_SNAP_OVF", 0x386000, 4, 0x40, 8, 0x8, 1, 0x0, 1, 0x0, 0x0, 0x0, 0x0, false⟩,
  ⟨"TEL_WO_STS", 0x39A000, 2, 0x8, 1, 0x0, 1, 0x0, 1, 0x0, 0x0, 0x0, 0x0, false⟩,
  ⟨"TEL_WO_DROP", 0x39A100, 2, 0x40, 8, 0x8, 1, 0x0, 1, 0x0, 0x0, 0x0, 0x0, true⟩,
  ⟨"HUB_OWN", 0x1000, 10, 0x8, 1, 0x0, 1, 0x0, 1, 0x0, 0x0, 0x0, 0x0, false⟩,
  ⟨"HUB_OWN_CTL", 0x1080, 1, 0x0, 1, 0x0, 1, 0x0, 1, 0x0, 0x0, 0x0, 0x0, false⟩,
  ⟨"CRN_LG", 0x340100, 64, 0x10, 2, 0x8, 1, 0x0, 1, 0x0, 0x0, 0x0, 0x0, false⟩,
  ⟨"CRN_LIFE", 0x350000, 16384, 0x8, 1, 0x0, 1, 0x0, 1, 0x0, 0x0, 0x0, 0x0, true⟩]
/-- The access rows of one part of the map. -/
def rowsOf_hub : List RegRow := rowsOf_hub0 ++ rowsOf_hub1 ++ rowsOf_hub2 ++ rowsOf_hub3 ++ rowsOf_hub4
def rowsOf_arr0 : List RegRow := [
  ⟨"TEL_MIR_CTL", 0x381000, 16, 0x40, 1, 0x0, 1, 0x0, 1, 0x0, 0x7FFFFFFFFFFFF, 0x0, 0x0, false⟩,
  ⟨"TEL_MIR_N", 0x381008, 16, 0x40, 1, 0x0, 1, 0x0, 1, 0x0, 0xFFFFFF, 0x0, 0x0, false⟩,
  ⟨"TEL_MIR_RING_BASE", 0x381010, 16, 0x40, 1, 0x0, 1, 0x0, 1, 0x0, 0xFFFFFFFFFF, 0x0, 0x0, false⟩,
  ⟨"TEL_MIR_RING_LOG2", 0x381018, 16, 0x40, 1, 0x0, 1, 0x0, 1, 0x0, 0x3F, 0x0, 0x0, false⟩,
  ⟨"TEL_MIR_WPTR", 0x381020, 16, 0x40, 1, 0x0, 1, 0x0, 1, 0x0, 0x0, 0x0, 0x0, false⟩,
  ⟨"TEL_MIR_MATCH", 0x381028, 16, 0x40, 1, 0x0, 1, 0x0, 1, 0x0, 0x0, 0x0, 0x0, true⟩,
  ⟨"TEL_MIR_DROP", 0x381030, 16, 0x40, 1, 0x0, 1, 0x0, 1, 0x0, 0x0, 0x0, 0x0, true⟩,
  ⟨"HRN_STS", 0x100000, 4096, 0x80, 1, 0x0, 1, 0x0, 1, 0x0, 0x0, 0x0, 0x0, false⟩,
  ⟨"HRN_CFG", 0x100008, 4096, 0x80, 1, 0x0, 1, 0x0, 1, 0x0, 0xFF, 0x0, 0x0, false⟩,
  ⟨"HRN_Q_CORES", 0x100010, 4096, 0x80, 1, 0x0, 1, 0x0, 1, 0x0, 0x3FF, 0x0, 0x0, false⟩,
  ⟨"HRN_Q_RINGS", 0x100018, 4096, 0x80, 1, 0x0, 1, 0x0, 1, 0x0, 0x3FFF, 0x0, 0x0, false⟩,
  ⟨"HRN_Q_CTX", 0x100020, 4096, 0x80, 1, 0x0, 1, 0x0, 1, 0x0, 0x7FFF, 0x0, 0x0, false⟩,
  ⟨"HRN_Q_CARAB", 0x100028, 4096, 0x80, 1, 0x0, 1, 0x0, 1, 0x0, 0x1FFFFF, 0x0, 0x0, false⟩,
  ⟨"HRN_Q_HBM", 0x100030, 4096, 0x80, 1, 0x0, 1, 0x0, 1, 0x0, 0xFFFFFFF, 0x0, 0x0, false⟩,
  ⟨"HRN_WAKE", 0x100040, 4096, 0x80, 1, 0x0, 1, 0x0, 1, 0x0, 0xFFFFFFFFFFFFFFFF, 0x0, 0x0, false⟩,
  ⟨"HRN_ENERGY_UJ", 0x100048, 4096, 0x80, 1, 0x0, 1, 0x0, 1, 0x0, 0x0, 0x0, 0x0, false⟩,
  ⟨"HRN_ENERGY_ALARM", 0x100050, 4096, 0x80, 1, 0x0, 1, 0x0, 1, 0x0, 0xFFFFFFFFFFFFFFFF, 0x0, 0x0, false⟩,
  ⟨"HRN_CNT_DENIED", 0x100058, 4096, 0x80, 1, 0x0, 1, 0x0, 1, 0x0, 0x0, 0x0, 0x0, true⟩,
  ⟨"HRN_CNT_FAULTS", 0x100060, 4096, 0x80, 1, 0x0, 1, 0x0, 1, 0x0, 0x0, 0x0, 0x0, true⟩,
  ⟨"HRN_WIT_CFG", 0x188000, 4096, 0x20, 1, 0x0, 1, 0x0, 1, 0x0, 0x7FFFFFFFFFFF, 0x0, 0x0, false⟩,
  ⟨"HRN_WIT_WPTR", 0x188008, 4096, 0x20, 1, 0x0, 1, 0x0, 1, 0x0, 0x0, 0x0, 0x0, false⟩,
  ⟨"HRN_WIT_RPTR", 0x188010, 4096, 0x20, 1, 0x0, 1, 0x0, 1, 0x0, 0xFFFFFFFFFFFFFFFF, 0x0, 0x0, false⟩,
  ⟨"HRN_WIT_DROP", 0x188018, 4096, 0x20, 1, 0x0, 1, 0x0, 1, 0x0, 0x0, 0x0, 0x0, true⟩,
  ⟨"RING_SQ_BASE", 0x200000, 8192, 0x40, 1, 0x0, 1, 0x0, 1, 0x0, 0xFFFFFFFFFFFFFFFF, 0x0, 0x0, false⟩]
def rowsOf_arr1 : List RegRow := [
  ⟨"RING_CQ_BASE", 0x200008, 8192, 0x40, 1, 0x0, 1, 0x0, 1, 0x0, 0xFFFFFFFFFFFFFFFF, 0x0, 0x0, false⟩,
  ⟨"RING_CFG", 0x200010, 8192, 0x40, 1, 0x0, 1, 0x0, 1, 0x0, 0xFFFFFFFFFFFFFFFF, 0x0, 0x0, false⟩,
  ⟨"RING_IRQ", 0x200018, 8192, 0x40, 1, 0x0, 1, 0x0, 1, 0x0, 0x3FFFFFFFFFFFFF, 0x0, 0x0, false⟩,
  ⟨"RING_STS", 0x200020, 8192, 0x40, 1, 0x0, 1, 0x0, 1, 0x0, 0x0, 0x0, 0x0, false⟩,
  ⟨"RING_STS2", 0x200028, 8192, 0x40, 1, 0x0, 1, 0x0, 1, 0x0, 0x0, 0x0, 0x0, false⟩,
  ⟨"TEL_SNAP_CTL", 0x380000, 4, 0x40, 1, 0x0, 1, 0x0, 1, 0x0, 0x1FFFFFFFFF, 0x0, 0x0, false⟩,
  ⟨"TEL_SNAP_TIME0", 0x380008, 4, 0x40, 1, 0x0, 1, 0x0, 1, 0x0, 0x0, 0x0, 0x0, false⟩,
  ⟨"TEL_SNAP_TIME1", 0x380010, 4, 0x40, 1, 0x0, 1, 0x0, 1, 0x0, 0x0, 0x0, 0x0, false⟩,
  ⟨"TEL_HIST_CFG", 0x388000, 64, 0x400, 1, 0x0, 1, 0x0, 1, 0x0, 0xFFFFFFFFFFFFFFFF, 0x0, 0x0, false⟩,
  ⟨"TEL_HIST_SAMPLE", 0x388008, 64, 0x400, 1, 0x0, 1, 0x0, 1, 0x0, 0xFFFF, 0x0, 0x0, false⟩,
  ⟨"TEL_HIST_STS", 0x388010, 64, 0x400, 1, 0x0, 1, 0x0, 1, 0x0, 0x0, 0x0, 0x0, false⟩,
  ⟨"TEL_HIST_N", 0x388018, 64, 0x400, 1, 0x0, 1, 0x0, 1, 0x0, 0x0, 0x0, 0x0, true⟩,
  ⟨"TEL_HIST_BIN", 0x388200, 64, 0x400, 64, 0x8, 1, 0x0, 1, 0x0, 0x0, 0x0, 0x0, true⟩]
/-- The access rows of one part of the map. -/
def rowsOf_arr : List RegRow := rowsOf_arr0 ++ rowsOf_arr1

/-- The access rows searched for offset `a`. -/
def rowsFor (a : Nat) : List RegRow :=
  if 0x03000000 ≤ a then rowsOf_hbm
  else if 0x02000000 ≤ a then rowsOf_port
  else if 0x01000000 ≤ a then rowsOf_crux
  else rowsOf_hub ++ rowsOf_arr

/-- Does one strided step list reach the distance `x`? The four strides of a row descend or the index count is 1. -/
def RegRow.hits (r : RegRow) (a : Nat) : Bool :=
  if a < r.off then false else
  let x0 := a - r.off
  let i1 := if r.n1 ≤ 1 then 0 else min (x0 / r.s1) (r.n1 - 1)
  let x1 := x0 - i1 * r.s1
  let i2 := if r.n2 ≤ 1 then 0 else min (x1 / r.s2) (r.n2 - 1)
  let x2 := x1 - i2 * r.s2
  let i3 := if r.n3 ≤ 1 then 0 else min (x2 / r.s3) (r.n3 - 1)
  let x3 := x2 - i3 * r.s3
  let i4 := if r.n4 ≤ 1 then 0 else min (x3 / r.s4) (r.n4 - 1)
  x3 == i4 * r.s4

/-- The register at BAR0 offset `a`, where one is assigned (R591). -/
def regRow (a : Nat) : Option RegRow := (rowsFor a).find? (fun r => r.hits a)

/-- The registers whose reset value is not zero, with that value. -/
def resetRows : List (RegRow × Nat) := [
  (⟨"PRT_PORT_CTL", 0x2001000, 16, 0x100000, 48, 0x200, 1, 0x0, 1, 0x0, 0, 0, 0, false⟩, 0x3E00),
  (⟨"PRT_PORT_CTL", 0x2081000, 16, 0x100000, 24, 0x200, 1, 0x0, 1, 0x0, 0, 0, 0, false⟩, 0x3E00),
  (⟨"PRT_PORT_STS", 0x2001008, 16, 0x100000, 48, 0x200, 1, 0x0, 1, 0x0, 0, 0, 0, false⟩, 0x20),
  (⟨"PRT_PORT_STS", 0x2081008, 16, 0x100000, 24, 0x200, 1, 0x0, 1, 0x0, 0, 0, 0, false⟩, 0x20),
  (⟨"PRT_BELAY_CFG", 0x2001018, 16, 0x100000, 48, 0x200, 1, 0x0, 1, 0x0, 0, 0, 0, false⟩, 0x84001F40),
  (⟨"PRT_BELAY_CFG", 0x2081018, 16, 0x100000, 24, 0x200, 1, 0x0, 1, 0x0, 0, 0, 0, false⟩, 0x84001F40),
  (⟨"PRT_UDP_CFG1", 0x2001068, 16, 0x100000, 48, 0x200, 1, 0x0, 1, 0x0, 0, 0, 0, false⟩, 0xCF10000000000000),
  (⟨"PRT_UDP_CFG1", 0x2081068, 16, 0x100000, 24, 0x200, 1, 0x0, 1, 0x0, 0, 0, 0, false⟩, 0xCF10000000000000),
  (⟨"PRT_MACSEC_CTL", 0x2001080, 16, 0x100000, 48, 0x200, 1, 0x0, 1, 0x0, 0, 0, 0, false⟩, 0x88B50002),
  (⟨"PRT_MACSEC_CTL", 0x2081080, 16, 0x100000, 24, 0x200, 1, 0x0, 1, 0x0, 0, 0, 0, false⟩, 0x88B50002),
  (⟨"TEL_MIR_RING_LOG2", 0x381018, 16, 0x40, 1, 0x0, 1, 0x0, 1, 0x0, 0, 0, 0, false⟩, 0x10),
  (⟨"FWD_CFG", 0x1080000, 16, 0x100000, 1, 0x0, 1, 0x0, 1, 0x0, 0, 0, 0, false⟩, 0x1FFFFFFFF),
  (⟨"SCH_WFQ_WEIGHT_EP", 0x1090000, 16, 0x100000, 1, 0x0, 1, 0x0, 1, 0x0, 0, 0, 0, false⟩, 0x8081010204040),
  (⟨"SCH_WFQ_WEIGHT_TOR", 0x1090008, 16, 0x100000, 1, 0x0, 1, 0x0, 1, 0x0, 0, 0, 0, false⟩, 0x8081010204040),
  (⟨"TIM_GUARD", 0x3C0010, 1, 0x0, 1, 0x0, 1, 0x0, 1, 0x0, 0, 0, 0, false⟩, 0x30),
  (⟨"TIM_SYNC_CFG", 0x3C0028, 1, 0x0, 1, 0x0, 1, 0x0, 1, 0x0, 0, 0, 0, false⟩, 0xA),
  (⟨"MFB_CFG", 0x10A0000, 16, 0x100000, 1, 0x0, 1, 0x0, 1, 0x0, 0, 0, 0, false⟩, 0x28201),
  (⟨"HRN_CFG", 0x100008, 4096, 0x80, 1, 0x0, 1, 0x0, 1, 0x0, 0, 0, 0, false⟩, 0x10),
  (⟨"HRN_GCFG", 0x180008, 1, 0x0, 1, 0x0, 1, 0x0, 1, 0x0, 0, 0, 0, false⟩, 0x3E8),
  (⟨"CRX_CORE_CFG", 0x1010010, 16, 0x100000, 32, 0x100, 1, 0x0, 1, 0x0, 0, 0, 0, false⟩, 0x14),
  (⟨"CRX_LOAD_CAP", 0x1030080, 16, 0x100000, 1, 0x0, 1, 0x0, 1, 0x0, 0, 0, 0, false⟩, 0x100000000),
  (⟨"HRN_WIT_CFG", 0x188000, 4096, 0x20, 1, 0x0, 1, 0x0, 1, 0x0, 0, 0, 0, false⟩, 0xC0000000000),
  (⟨"HUB_HOST_CTL", 0x400, 1, 0x0, 1, 0x0, 1, 0x0, 1, 0x0, 0, 0, 0, false⟩, 0xC82),
  (⟨"HBM_SCRUB_CFG", 0x3000008, 12, 0x10000, 1, 0x0, 1, 0x0, 1, 0x0, 0, 0, 0, false⟩, 0x4C018),
  (⟨"HBM_SHARE", 0x3000010, 12, 0x10000, 1, 0x0, 1, 0x0, 1, 0x0, 0, 0, 0, false⟩, 0x1320104204020),
  (⟨"CRX_MEM_CFG", 0x1020300, 16, 0x100000, 1, 0x0, 1, 0x0, 1, 0x0, 0, 0, 0, false⟩, 0x130258),
  (⟨"PWR_CAL", 0x300010, 1, 0x0, 1, 0x0, 1, 0x0, 1, 0x0, 0, 0, 0, false⟩, 0x4000),
  (⟨"PWR_SYS_WAKE", 0x300018, 1, 0x0, 1, 0x0, 1, 0x0, 1, 0x0, 0, 0, 0, false⟩, 0xFFFF00000000),
  (⟨"PWR_IDLE_CFG", 0x300020, 1, 0x0, 1, 0x0, 1, 0x0, 1, 0x0, 0, 0, 0, false⟩, 0x3E800640032),
  (⟨"PWR_DROOP_CFG", 0x300028, 1, 0x0, 1, 0x0, 1, 0x0, 1, 0x0, 0, 0, 0, false⟩, 0x641E),
  (⟨"PWR_TRIM_CFG", 0x300030, 1, 0x0, 1, 0x0, 1, 0x0, 1, 0x0, 0, 0, 0, false⟩, 0x1050E10),
  (⟨"HUB_CAMP_RPT", 0x210, 7, 0x8, 1, 0x0, 1, 0x0, 1, 0x0, 0, 0, 0, false⟩, 0x1),
  (⟨"HUB_JTAG_STS", 0x260, 1, 0x0, 1, 0x0, 1, 0x0, 1, 0x0, 0, 0, 0, false⟩, 0x1),
  (⟨"HUB_FAULT_CTL", 0x608, 1, 0x0, 1, 0x0, 1, 0x0, 1, 0x0, 0, 0, 0, false⟩, 0x7D03C0),
  (⟨"HUB_FAULT_RING", 0x610, 1, 0x0, 1, 0x0, 1, 0x0, 1, 0x0, 0, 0, 0, false⟩, 0xC0000000000),
  (⟨"HUB_FILL_CTL", 0x630, 1, 0x0, 1, 0x0, 1, 0x0, 1, 0x0, 0, 0, 0, false⟩, 0x50000),
  (⟨"HUB_FM_CFG", 0x668, 1, 0x0, 1, 0x0, 1, 0x0, 1, 0x0, 0, 0, 0, false⟩, 0xCF1100000000),
  (⟨"HUB_MARGIN_CFG", 0x6A0, 1, 0x0, 1, 0x0, 1, 0x0, 1, 0x0, 0, 0, 0, false⟩, 0x1F9C00280258),
  (⟨"PRT_LANE_MARGIN", 0x2008000, 32, 0x80000, 100, 0x8, 1, 0x0, 1, 0x0, 0, 0, 0, false⟩, 0x7F0000000000),
  (⟨"TEL_HIST_SAMPLE", 0x388008, 64, 0x400, 1, 0x0, 1, 0x0, 1, 0x0, 0, 0, 0, false⟩, 0x3E8),
  (⟨"TEL_COLLECT_IP", 0x398008, 1, 0x0, 1, 0x0, 1, 0x0, 1, 0x0, 0, 0, 0, false⟩, 0xCF1200000000),
  (⟨"HUB_AVAL_CFG", 0x700, 1, 0x0, 1, 0x0, 1, 0x0, 1, 0x0, 0, 0, 0, false⟩, 0x64),
  (⟨"HUB_SYNC_CFG", 0x1100, 6, 0x8, 1, 0x0, 1, 0x0, 1, 0x0, 0, 0, 0, false⟩, 0x280),
  (⟨"CRN_CFG", 0x340008, 1, 0x0, 1, 0x0, 1, 0x0, 1, 0x0, 0, 0, 0, false⟩, 0x20503C)]

/-- Default queue limit of class `c` in cells (R85). -/
def qlimitReset (c : Nat) : Nat := if c = 0 then 1024 else if c ≤ 5 then 512 else 256
/-- Reset of FWD_HOLD_CFG of port index `q`: endpoint pools 0x400 cells, torus pools 0x500 (R85, R98). -/
def holdReset (q : Nat) : Nat := (if q < 48 then 0x400 else 0x500) + 0x006 * 0x1000 + 0x002 * 0x1000000

/-- The CORE clock limit in MHz and the package power cap in W of the fused grade (R1, R508). -/
def gradeMhz : Nat := if Config.grade.val = 0 then 1600 else if Config.grade.val = 1 then 1400 else 1200
def gradeW : Nat := if Config.grade.val = 0 then 4000 else if Config.grade.val = 1 then 3400 else 2800

/-- The registers whose reset value fuses, the boot image or the part give (R406, R487, R509, R533, R596). -/
def fusedReset (a : Nat) : Option Nat :=
  if a = HUB_ID.a then some (0xD7A5 + 0x0768 * 2 ^ 16 + Config.stepMinor.val * 2 ^ 32 + Config.stepMajor.val * 2 ^ 36 + 2 ^ 40 + 0x0769 * 2 ^ 48)
  else if a = HUB_GRADE.a then some (Config.grade.val + gradeMhz * 2 ^ 2 + gradeW * 2 ^ 13)
  else if a = HUB_SERIAL.a then some Config.serial.toNat
  else if a = HUB_RESOURCES.a then some (16 + 32 * 2 ^ 8 + 12 * 2 ^ 16 + 512 * 2 ^ 24 + 576 * 2 ^ 36)
  else if a = HUB_EQUIV_CLASS.a then some Config.equivCode.toNat
  else if a = HUB_BOOT_IMAGE.a then some (Config.minSvn.toNat * 2 ^ 18)
  else if a = HUB_FM_CFG.a then some (Config.imageIpv4.toNat + 0xCF11 * 2 ^ 32 + b2n Config.imageDhcp * 2 ^ 48)
  else if a = HUB_FM_MGR.a then some Config.imageMgr.toNat
  else if a = PWR_CTL.a then some (gradeMhz + gradeW * 2 ^ 11)
  else if a = PWR_STS.a then some (gradeMhz * 2 ^ 18)
  else if PWR_DIE_STS.a 0 ≤ a ∧ a < PWR_DIE_STS.a 16 ∧ a % 16 = 0 then some (Config.vsetMv ((a - PWR_DIE_STS.a 0) / 16)).toNat
  else if 0x01000000 ≤ a ∧ a < 0x02000000 ∧ a % 0x100000 = 0x30080 then some (Config.encMin.toNat + Config.encMax.toNat * 2 ^ 16 + 2 ^ 32)
  else none

/-- The value every register holds after reset: the reset column of its table (R591 gives zero elsewhere). -/
def regReset (a : Nat) : Word :=
  BitVec.ofNat 64 (
    match fusedReset a with
    | some v => v
    | none =>
    if 0x01000000 ≤ a ∧ a < 0x02000000 ∧ 0x80100 ≤ a % 0x100000 ∧ a % 0x100000 < 0x80340 then
      (if a % 8 = 0 then holdReset ((a % 0x100000 - 0x80100) / 8) else 0)
    else if 0x01000000 ≤ a ∧ a < 0x02000000 ∧ 0x80400 ≤ a % 0x100000 ∧ a % 0x100000 < 0x81600 then
      (if a % 8 = 0 then qlimitReset (((a % 0x100000 - 0x80400) / 8) % 8) else 0)
    else match resetRows.find? (fun p => p.1.hits a) with
      | some p => p.2
      | none => 0)

end Sys2Proof.Machine
end

