-- ==== Sys2Proof/Machine/State.lean ====
section
/-! DEFINITION. The state of a Kerfiro, the reasons a step can stop, and the state after reset. Plain data: every
component derives DecidableEq and Repr. Registers live once, in `regs`, under their BAR0 offset. -/
namespace Sys2Proof.Machine

/-- Why the machine stops with a fault. -/
inductive Fault where
  /-- Raised by every meaning whose command carries a list of the wrong length or shape (WellFormed refuses it): the
  hardware never sees such a command. Safe: the model stops where no hardware behaviour exists. -/
  | illFormed (mnemonic : String)
  deriving DecidableEq, Repr

/-- Why a command has no meaning here. -/
inductive Refusal where
  /-- Raised by an arm of `exec` that has no meaning yet. Safe: the model stops. -/
  | notModelled (mnemonic : String)
  deriving DecidableEq, Repr

/-! ## Links (R38 to R68) -/

/-- A link frame held in a replay buffer until an LACK beyond it (R40). -/
structure Held where
  lseq : Nat
  cls  : Nat
  body : LinkBody
  deriving DecidableEq, Repr

/-- One MACsec security association (R65): key words 0 to 3, the 96-bit salt, the SSCI. -/
structure MacSa where
  key  : List Word
  salt : Nat
  ssci : Nat
  deriving DecidableEq, Repr

/-- Everything a port holds beside its registers. -/
structure PortSt where
  rxExpect : Nat               -- belay expected value E (R41)
  txNext   : Nat               -- LSEQ of the next first transmission (R40)
  held     : List Held         -- replay buffer, oldest first
  failed   : Nat               -- consecutive failed replays (R43)
  replayed : Bool              -- a replay has been made since LACK last advanced
  ackDue   : Bool
  unacked  : Nat               -- frames accepted since the last acknowledgement
  nak      : Option (Nat × Nat) -- E of the last NAK for a gap, and the plane time it was sent (R41)
  xoffRx   : Nat               -- XOFF bits last received (R44)
  xoffTx   : Nat               -- XOFF bits this port asserts
  xoffDirty : Bool             -- an XOFF bit has changed and no link frame has carried it yet
  openMsgs : List Nat          -- SEQ of messages begun at this ingress and not yet ended (R56)
  partnerOk : Bool             -- a PARTNER message has been received since alignment
  delay    : Nat               -- link delay D in ns, half the PARTNER round trip (R122)
  sas      : List MacSa        -- the four SAs of R65
  staging  : List Word         -- PRT_MACSEC_KEY0 to KEY5
  v        : Nat               -- virtual time (R105)
  fin      : List Nat          -- F_c of classes 0 to 7
  heads    : List (Option Nat) -- tag given to the frame at the head of each class
  c7       : Nat               -- C7 tokens in quarter bytes (R108)
  c7Time   : Nat               -- plane time at which c7 was last filled
  fallback : Bool              -- this torus port is in fallback because of its partner (R120)
  pEst     : Nat               -- the partner's TIM_OFFSET_EST (R117)
  pSeen    : Nat               -- plane time of its last time frame
  goodSince : Option Nat       -- since when the governing estimate has been at most G/4 (R120)
  waitMark : Bool              -- the pitched head already counted in SCH_CNT_PITCH_WAIT for this pitch
  c7Held   : Bool              -- the C7 head already counted in SCH_CNT_C7_HELD (R108)
  idle     : Bool              -- PORT_IDLE (R474)
  xoffAt   : Option Nat        -- plane time of the last change of an XOFF bit it asserts (R44)
  deriving DecidableEq, Repr

def PortSt.initial : PortSt :=
  { rxExpect := 0, txNext := 0, held := [], failed := 0, replayed := false, ackDue := false, unacked := 0, nak := none,
    xoffRx := 0, xoffTx := 0, xoffDirty := false, openMsgs := [], partnerOk := false, delay := 0,
    sas := List.replicate 4 ⟨[0, 0, 0, 0], 0, 0⟩, staging := [0, 0, 0, 0, 0, 0], v := 0, fin := [0, 0, 0, 0, 0, 0, 0, 0],
    heads := [none, none, none, none, none, none, none, none], c7 := 32768, c7Time := 0, fallback := false, pEst := 0,
    pSeen := 0, goodSince := none, waitMark := false, c7Held := false, idle := false, xoffAt := none }

/-! ## Forwarding (R69 to R100) -/

/-- Where a frame goes inside the device (R92, R132, R151): an egress port, a cluster's scratch, a stage of the
memory fabric on a crux die, the hub 0 ring block, the management processor, or hub 3. -/
inductive Place where
  | port (P : Nat)
  | cluster (c : Nat)
  | memAccept (n : Nat)   -- at its source crux die, before the pending table (R151)
  | memCheck (n : Nat)    -- at its check point (R132)
  | memReply (n : Nat)    -- a response at the crux die of the source (R154)
  | ring
  | mgmt
  | tele
  deriving DecidableEq, Repr

/-- A frame admitted to an egress queue (R83): `tracked` where its cells count against its harness (R167). -/
structure Queued where
  P       : Nat
  cls     : Nat
  frame   : Frame
  cells   : Nat
  ingress : Option Nat
  time    : Nat
  tracked : Bool
  cut     : Bool
  deriving DecidableEq, Repr

/-- A frame held at its ingress with the places that have not admitted it yet (R86, R91). `P` none: held in a
cluster or hub that sent it. -/
structure HeldIn where
  P     : Option Nat
  cls   : Nat
  frame : Frame
  dests : List Place
  cells : Nat
  phase : Nat
  cut   : Bool
  deriving DecidableEq, Repr

/-- A frame in a steering or hub queue, or landed at a place (R92, R94). -/
structure Steered where
  place   : Place
  frame   : Frame
  ingress : Option Nat
  deriving DecidableEq, Repr

structure FwdSt where
  feid    : List (Nat × Word)   -- FEID table entries, key die * 262144 + FEID (R72)
  mstage  : List (Nat × Word)   -- staged multicast word 0, key die * 16384 + group (R89)
  mcast0  : List (Nat × Word)
  mcast1  : List (Nat × Word)
  home    : List (Nat × Word)   -- context home entries, key die * 16384 + CTX (R93)
  dirMap  : List (Nat × Nat)    -- direction map entries, key die * 1536 + d * 256 + i, value torus port (R77)
  tblBad  : List Nat            -- table entries that hold an uncorrectable word (R447)
  queues  : List Queued         -- every egress queue, in order of admission
  holds   : List HeldIn         -- every hold pool, in order of arrival
  steer   : List Steered        -- steering and hub queues, in order of arrival
  inbox   : List Steered        -- landed, visible to their consumer
  place   : List (Nat × Nat × Nat × Nat)  -- tracking places (port, class, harness, counted cells) (R167)
  mirN    : List (Nat × Nat)    -- frames matched since session s was set (R95)
  deriving DecidableEq, Repr

def FwdSt.initial : FwdSt :=
  { feid := [], mstage := [], mcast0 := [], mcast1 := [], home := [], dirMap := [], tblBad := [], queues := [],
    holds := [], steer := [], inbox := [], place := [], mirN := [] }

/-! ## Plane time (R116 to R120) -/

structure TimeSt where
  slew       : Int          -- offset still to be slewed away, in ns (R117)
  slewTicks  : Nat          -- ns counted toward the next slewed ns, at 100 ppm
  step       : Option Int   -- offset of 1 µs or more, stepped at the next gate entry boundary
  parentSeen : Nat          -- plane time of the last time frame from the parent
  goodSince  : Option Nat   -- since when the own estimate has been at most G/4 (R120)
  fallUntil  : Nat          -- plane time until which a step keeps every port in fallback
  own        : Bool         -- fallback of every port by the device's own estimate or the parent's silence (R120)
  stepFb     : Bool         -- fallback of every port in this entry because of a step (R120)
  guardAt    : Nat          -- TIM_GUARD as it stood when the active bank became active (R114)
  syncN      : Nat          -- time frames sent to the parent (R117)
  deriving DecidableEq, Repr

def TimeSt.initial : TimeSt :=
  { slew := 0, slewTicks := 0, step := none, parentSeen := 0, goodSince := some 0, fallUntil := 0, own := false,
    stepFb := false, guardAt := 48, syncN := 0 }

/-! ## Records, telemetry paths and the fault channel (R510 to R534, R547 to R555) -/

/-- A fault, alarm or event before coalescing (R510): `detail` holds bytes 40 to 63. -/
structure FaultRec where
  cls     : Nat
  code    : Nat
  sev     : Nat
  status  : Nat
  unit    : Nat
  harness : Nat
  detail  : List Byte
  deriving DecidableEq, Repr

/-- A fault of severity HARNESS or DEVICE waiting at hub 0, with the plane time it occurred (R514). -/
structure Raised where
  what : FaultRec
  time : Nat
  deriving DecidableEq, Repr

/-- One entry of the coalescing table (R550, R551). `count` is what has accumulated since it last sent. -/
structure Aval where
  slot   : Nat
  what   : FaultRec
  count  : Nat
  first  : Nat
  last   : Nat
  opened : Nat
  window : Nat
  deriving DecidableEq, Repr

/-- An item of a queued path (R526, R547, R553). `tag` is the OP of a collector item, or the number of the EVENT
datagram that carries a record held for the fault manager, 0 while unsent. -/
structure Item where
  tag   : Nat
  prio  : Nat
  bytes : List Byte
  deriving DecidableEq, Repr

/-- A queued path under whiteout (R554): plane time of the last drop and the drops of the episode by priority. -/
structure Whiteout where
  lastDrop : Nat
  drops    : List Nat
  deriving DecidableEq, Repr

structure FaultSt where
  raised   : List Raised
  aval     : List Aval
  ovfMask  : Nat          -- classes that overflowed in the current second (R551)
  ovfSec   : Nat          -- the second for which the overflow record was last sent, plus one
  seqno    : Nat          -- records sent since Camp 0 (R510)
  hold     : List Item
  eventSeq : Nat          -- EVENT datagrams numbered so far (R526)
  reqSeq   : Nat          -- SEQ of the last accepted request (R527)
  reqAny   : Bool         -- a request has been accepted since Camp 0
  reqFrom  : Nat          -- IPv4 address of its source
  saved    : List Byte    -- the saved RESPONSE payload
  key      : List Word    -- HUB_FM_KEY0 to KEY3, write-only
  coll     : List Item
  wo0      : Whiteout     -- collector queue
  wo1      : Whiteout     -- fault channel hold
  sumSeq   : List (Nat × Nat)  -- summaries sent by each list (R547)
  sumLate  : List (Nat × Nat)  -- sum of the SCH_CNT_LATE counters at each list's last summary
  marks    : List (Nat × Nat)  -- counts already reported in MARGIN records, by unit (R530)
  outUnits : List Nat     -- units out of service (R518)
  deriving DecidableEq, Repr

def FaultSt.initial : FaultSt :=
  { raised := [], aval := [], ovfMask := 0, ovfSec := 0, seqno := 0, hold := [], eventSeq := 0, reqSeq := 0,
    reqAny := false, reqFrom := 0, saved := [], key := [0, 0, 0, 0], coll := [], wo0 := ⟨0, [0, 0, 0, 0, 0]⟩,
    wo1 := ⟨0, [0, 0, 0, 0, 0]⟩, sumSeq := [], sumLate := [], marks := [], outUnits := [] }

/-! ## Memory (R443 to R470) -/

structure MemSt where
  cells  : List Host.Cell      -- bytes of words that have been written, by model address (R444); rising
  valid  : List Nat            -- valid bits that are set, by the base address of the granule or sector (R170)
  ue     : List Nat            -- words that decode as uncorrectable (R444)
  pitons : List (Nat × Nat)    -- installed pitons: line address, group (R450)
  ceHits : List (Nat × Nat)    -- scrub visits that found a CE, by line (R451)
  scrubAt : List (Nat × Nat)   -- words visited by each scrubber (R449)
  bufs   : List (Nat × Nat)    -- allocated buffers: pool, index (R461)
  dying  : List Nat            -- pools whose DESTROY has been accepted and has not completed (R460)
  pcmds  : List (Nat × Nat)    -- pool commands executing: pool, OP (R459)
  dead   : List Nat            -- stacks out of service, every word of which reads as uncorrectable (R518)
  deriving DecidableEq, Repr

def MemSt.initial : MemSt :=
  { cells := [], valid := [], ue := [], pitons := [], ceHits := [], scrubAt := [], bufs := [], dying := [], pcmds := [], dead := [] }

/-! ## Memory fabric (R127 to R156) -/

/-- A valid carabiner: crux die, slot (below 65,536 a die slot, above it a spill slot), words, and the number of the
insertion that made it (R162). -/
structure Carab where
  die  : Nat
  slot : Nat
  w0   : Word
  w1   : Word
  w2   : Word
  ins  : Nat
  deriving DecidableEq, Repr

/-- A pending entry (R151). `source`: an endpoint port, 1152 + k for core k, or 1664 + n for the store engine of crux die n. `queued`: an anchored request waiting
in its anchor queue (R139). `no`: order of acceptance. -/
structure Pend where
  no     : Nat
  die    : Nat
  source : Nat
  frame  : Frame
  queued : Bool
  time   : Nat
  deriving DecidableEq, Repr

/-- A repeat record of a home crux die (R150). `answer`: status and value, none while the original is in progress. -/
structure Repeat where
  die     : Nat
  src     : Nat
  tag     : Nat
  harness : Nat
  target  : Nat
  answer  : Option (Nat × Nat)
  waiting : List Frame
  deriving DecidableEq, Repr

/-- A hot-line group (R147, R149). `addr`: translated address; `oper`: FN, W64, SIGNED and ORDERED; `answer`: what
device memory has answered. -/
structure HotGroup where
  no      : Nat
  die     : Nat
  dev     : Bool
  port    : Nat
  feid    : Nat
  addr    : Nat
  oper    : Nat
  members : List Frame
  sent    : Bool
  answer  : Option (Nat × Nat)
  deriving DecidableEq, Repr

/-- The answer to a core's memory request: core, request number, status, data. -/
structure CoreRsp where
  core   : Nat
  no     : Nat
  status : Nat
  data   : List Byte
  deriving DecidableEq, Repr

structure MfbSt where
  carabs  : List Carab
  carRes  : List (Nat × Nat)             -- status a carabiner command will complete with, by crux die
  ins     : Nat                          -- insertion commands that have succeeded
  pends   : List Pend                    -- in order of acceptance
  gone    : List (Nat × Nat × Nat)       -- source, TAG and target of entries retired without a response (R152)
  next    : Nat                          -- acceptance number of the next request
  tag     : Nat                          -- TAG of the device's next own request (R316)
  repeats : List Repeat
  groups  : List HotGroup
  coreWait : List (Nat × Nat × Frame)    -- requests of cores with 1,024 pending: core, number, frame (R316)
  coreRsp : List CoreRsp
  deriving DecidableEq, Repr

def MfbSt.initial : MfbSt :=
  { carabs := [], carRes := [], ins := 0, pends := [], gone := [], next := 0, tag := 0, repeats := [], groups := [],
    coreWait := [], coreRsp := [] }

/-! ## Harnesses (R157 to R175) -/

structure HrnSt where
  old       : List (Nat × Nat)   -- state still in force at the copies, by harness, until it is propagated (R161)
  started   : List (Nat × Nat)   -- plane time of the last START from RECOVERING (R160)
  unbinding : Option Nat         -- the harness whose UNBIND is executing (R163)
  wit       : List (Nat × Nat)   -- witness records produced, by harness (R402)
  deriving DecidableEq, Repr

def HrnSt.initial : HrnSt := { old := [], started := [], unbinding := none, wit := [] }

/-! ## Cores (R176 to R202, R253 to R289) -/

/-- A ridge accumulator (R229, R230): the 480-bit integer in units of 2^-298, the wraps, the state bits. -/
structure Acc where
  v        : Int
  wrap     : Int
  nan      : Bool
  invalid  : Bool
  pinf     : Bool
  ninf     : Bool
  ovt      : Bool
  nonempty : Bool
  nz       : Bool
  pz       : Bool
  deriving DecidableEq, Repr

/-- A kept set of the VRE (R297): outputs, whether some input had 32-bit elements, the accumulators. -/
structure Kept where
  wide : Bool
  accs : List Acc
  deriving DecidableEq, Repr

/-- What a core holds beside its registers. -/
structure CoreSt where
  bound  : Bool               -- counted in its cluster and its harness's quota (R197)
  sregs  : List Word          -- s0 to s31
  stack  : List Nat           -- call stack, newest first
  entry  : Nat
  ldata  : Nat                -- footprint key l (R259)
  sFoot  : Nat                -- footprint key s (R329)
  loadAt : Nat                -- plane time at which the load completed (R404)
  arith  : Nat                -- flags of the instructions completed since the load (R404)
  kept   : Option Kept
  deriving DecidableEq, Repr

def CoreSt.initial : CoreSt :=
  { bound := false, sregs := List.replicate 32 0, stack := [], entry := 0, ldata := 0, sFoot := 0, loadAt := 0, arith := 0, kept := none }

/-- What a core waits for (R193). A flag's key: 256 k + n for a local flag, 2^20 + 1024 c + n for a cluster flag,
2^21 + f for a package flag. -/
inductive WaitOp where
  | flag (key : Nat) (v clr : Bool)
  | credit (g n : Nat)
  | jumar (j v : Nat)
  | drain
  | halt (r : Nat) (done : Option Nat)
  | queue (eng : Nat)
  deriving DecidableEq, Repr

/-- A waiting core; `met`: its condition has become true at its home, at plane time `time`. Above 999,999: a WAIT_FLAG
ring command, by its number. -/
structure Wait where
  core : Nat
  op   : WaitOp
  met  : Bool
  time : Nat
  deriving DecidableEq, Repr

/-- The result of an engine instruction, made at its start and applied at its completion: bytes written by model
address, scalar registers written, flags, status, out-of-range count, a fault (status, address, site of R398 or 0,
expected and computed values), the kept set it leaves, and counters it adds to. -/
structure EngRes where
  writes : List (Nat × List Byte)
  regs   : List (Nat × Word)
  flags  : Nat
  status : Nat
  oob    : Nat
  fault  : Option (Nat × Nat × Nat × Nat × Nat)
  kept   : Option (Option Kept)
  cnts   : List (Rf × Nat)
  deriving DecidableEq, Repr

def EngRes.none : EngRes := { writes := [], regs := [], flags := 0, status := 0, oob := 0, fault := Option.none, kept := Option.none, cnts := [] }

/-- One request of an FDE transfer: number, first byte of its data in the transfer's stream, length, answer. -/
structure Part where
  no     : Nat
  at_    : Nat
  len    : Nat
  answer : Option (Nat × List Byte)
  deriving DecidableEq, Repr

/-- A rope or stream side of an FDE transfer (R346): context, operation word with OPNO, next chunk, chunks that landed. -/
structure Stream where
  ctx    : Nat
  opw    : Nat
  chunk  : Nat
  first  : Nat
  landed : List (Nat × Nat × Nat)   -- chunk, place in the destination, elements
  ended  : Option Nat
  deriving DecidableEq, Repr

/-- An engine or TEN instruction a core has issued and that has not completed. `eng`: 1 VRE, 2 GSE, 3 SSE, 4 CDC, 5 FDE,
6 TEN. `sregs`: the scalar registers as they were at issue (R270). `taint`: a source has been written under it (R184). -/
structure Flight where
  no      : Nat
  core    : Nat
  eng     : Nat
  op      : EngOp
  opts    : Opts
  sregs   : List Word
  pc      : Nat
  started : Bool
  srcs    : List (Nat × Nat)
  dsts    : List (Nat × Nat)
  taint   : Bool
  res     : EngRes
  data    : List Byte
  parts   : List Part
  fill    : List (Nat × Nat)   -- runs that the answers' bytes go to, in order
  undef   : List (Nat × Nat)   -- runs whose contents R292 leaves undefined
  stream  : Option Stream
  deriving DecidableEq, Repr

/-- A load executing on a crux die (R261 to R263, R423): the cores of its mask, OP, harness, the image, ARG0 to ARG7.
`run`: the ring command that asked for it. -/
structure Load where
  die    : Nat
  cores  : List Nat
  launch : Bool
  h      : Nat
  img    : Image
  args   : List Word
  run    : Option Nat
  halt   : Bool               -- a halt of the harness arrived while it executed (R263)
  deriving DecidableEq, Repr

/-- A CRX_BIND_CMD executing on a crux die (R197), or waiting for a load (R263). -/
structure BindCmd where
  die    : Nat
  core   : Nat
  h      : Nat
  bind   : Bool
  waits  : Bool
  deriving DecidableEq, Repr

structure CompSt where
  cores   : List (Nat × CoreSt)
  flags   : List Nat           -- flags that are 1, by key
  cch     : List (Nat × Word)  -- credit channel entries (R201)
  waits   : List Wait          -- in order of arrival
  flights : List Flight        -- in order of issue
  next    : Nat                -- instructions issued to engines so far
  tenLast : List (Nat × Nat)   -- the core each TEN served last (R185)
  loads   : List Load
  binds   : List BindCmd
  deriving DecidableEq, Repr

def CompSt.initial : CompSt :=
  { cores := [], flags := [], cch := [], waits := [], flights := [], next := 0, tenLast := [], loads := [], binds := [] }

/-! ## Ropes (R320 to R356) -/

/-- A member (R323): a core of a device, or an endpoint. -/
structure Member where
  core : Bool
  id   : Nat
  dev  : Nat
  deriving DecidableEq, Repr

/-- What one frame brought to a chunk: its source (a rank, or 65,536 + a device), its first element, its elements as
accumulators (a SUM) or codes. -/
structure RopeIn where
  src   : Nat
  first : Nat
  accs  : List Acc
  codes : List Nat
  deriving DecidableEq, Repr

/-- An open chunk (R341). `sum`: its input residues modulo p; `up`: its partial has been sent; `down`: elements of its
RESULT that have been passed down. -/
structure RopeChunk where
  c    : Nat
  ins  : List RopeIn
  sum  : Nat
  up   : Bool
  down : List Nat
  deriving DecidableEq, Repr

/-- A summary (R336). -/
structure Summary where
  first  : Nat
  last   : Nat
  rank   : Nat
  merged : Nat
  flags  : Nat
  deriving DecidableEq, Repr

/-- A chunk finished here as summit (R403): index, result bytes, residues in and out, flags. -/
structure Finished where
  c     : Nat
  bytes : List Byte
  resIn : Nat
  resOut : Nat
  flags : Nat
  deriving DecidableEq, Repr

/-- The all-to-all side of an operation (R343 to R345). `phase`: 0 GATHER, 1 WAIT, 2 BARRIER, 3 DELIVER, 4 DATA. -/
structure A2aSt where
  phase   : Nat
  vecs    : List (Nat × Nat × List Nat)  -- rank, frame, counts of local members' send vectors
  counts  : List (Nat × Nat × Nat)       -- sender rank, receiver rank, elements due, of local receivers
  lasts   : List Nat                     -- devices whose LAST COUNTS frame has arrived
  arrived : List Nat                     -- barrier arrivals: children (65,536 + device), and this device (65,536 + me)
  got     : List (Nat × Nat × Nat)       -- sender rank, receiver rank, elements delivered
  sent    : List (Nat × Nat × Nat)       -- local sender, receiver rank, elements forwarded
  ended   : List Nat                     -- local receivers completed
  deriving DecidableEq, Repr

/-- An open operation on a device. -/
structure RopeOp where
  opno   : Nat
  opened : Nat                  -- plane time at which it opened here (R549)
  word   : Nat
  chunks : List RopeChunk
  begun  : List (Nat × Nat)     -- chunks each local contributor has begun
  freed  : List Nat             -- chunks freed
  local_ : Summary              -- of the local members
  kids   : List (Nat × Summary) -- from the children
  told   : Bool                 -- its SUMMARY has been sent, or its witness record written
  fin    : List Finished
  hopF   : Nat
  a2a    : A2aSt
  deriving DecidableEq, Repr

structure RopeCtx where
  ctx     : Nat
  die     : Nat
  cluster : Nat                 -- device cluster
  desc    : List Word
  broken  : Bool
  cause   : Nat
  members : List Member         -- by rank
  bytes   : Nat                 -- S bytes reserved
  nextOp  : Nat
  ops     : List RopeOp
  begun   : List (Nat × Nat)    -- chunks begun less settled, by local contributor (R340)
  owed    : Nat                 -- partials unsettled toward the parent
  held    : List (Nat × Nat × Nat × Nat × List Byte)  -- results of core members not yet received: rank, OPNO, chunk, element, bytes
  deriving DecidableEq, Repr

structure RopeSt where
  ctxs : List RopeCtx
  cmds : List (Nat × Nat)       -- status a context command will complete with, by crux die
  deriving DecidableEq, Repr

def RopeSt.initial : RopeSt := { ctxs := [], cmds := [] }

/-! ## Gates and expert stores (R357 to R388) -/

/-- A chosen expert of a token: rank, expert, gate value (FP32 bits), its OUTPUT as it lands (frame, bytes), complete. -/
structure Chosen where
  rank : Nat
  e    : Nat
  g    : Nat
  got  : List (Nat × List Byte)
  done : Bool
  deriving DecidableEq, Repr

/-- A token in flight (R364). `phase`: 0 landing, 1 awaiting a selection record, 2 chosen, 3 dispatched, 4 chosen and
counted as waiting for capacity. -/
structure Token where
  slot    : Nat
  src     : Nat
  seq     : Nat
  frames  : List (Nat × List Byte)
  last    : Option Nat
  poison  : Bool
  phase   : Nat
  ranking : List (Nat × Nat)    -- experts with their logits, best first
  chosen  : List Chosen
  dropped : Nat
  landed  : Nat
  deriving DecidableEq, Repr

/-- What a gate context has answered since its last witness record (R405). -/
structure GateTally where
  tokens   : Nat
  poisoned : Nat
  timeouts : Nat
  dropped  : Nat
  resIn    : Nat
  resOut   : Nat
  flags    : Nat
  deriving DecidableEq, Repr

def GateTally.zero : GateTally := { tokens := 0, poisoned := 0, timeouts := 0, dropped := 0, resIn := 0, resOut := 0, flags := 0 }

structure GateCtx where
  ctx     : Nat
  die     : Nat
  desc    : List Word
  broken  : Bool
  cause   : Nat
  weights : List Byte
  pred    : List Byte
  hosts   : List Nat
  masks   : List (Nat × Nat × List Nat)  -- mask DISPATCH messages in progress: ORIGIN, SEQ, endpoints served (R370)
  bytes   : List (Nat × Nat)    -- S bytes reserved, by device cluster
  base    : Nat                 -- S offset of slot 0 (R369)
  ring    : Nat                 -- S offset of the landing ring
  tokens  : List Token          -- in order of landing
  landed  : Nat                 -- tokens landed since CREATE (R369)
  heat    : List (Nat × Nat)
  recent  : List (Nat × Nat × Nat)  -- endpoint, BLOCK_ID, time requested (R382), oldest first
  tally   : GateTally
  deriving DecidableEq, Repr

/-- A selection record handed over by an FDE transfer (R369): context, the bytes. -/
structure SelRec where
  ctx   : Nat
  bytes : List Byte
  deriving DecidableEq, Repr

/-- An overflow block being read (R380): crux die, BLOCK_ID, ORIGIN, SEQ, LOADs as parts. -/
structure OvfRead where
  die    : Nat
  ctx    : Nat
  h      : Nat
  block  : Nat
  origin : Nat
  seq    : Nat
  parts  : List Part
  deriving DecidableEq, Repr

/-- An expert store of a crux die (R377 to R387), from its registers at CREATE. -/
structure Store where
  die     : Nat
  ctx     : Nat
  h       : Nat
  repl    : Nat
  lg      : Nat
  layers  : Nat
  experts : Nat
  blocks  : Nat
  mask    : Nat
  ovfFeid : Nat
  pages   : Nat
  dir     : Nat                 -- H offset of the directory
  pool    : Nat                 -- the FLAT pool that holds its grant (R458)
  deriving DecidableEq, Repr

/-- A copy a fill visits (R519, R520): directory index, copy number, H offset here, device of the other copy; `st` 0 waiting,
1 requested, 2 written, 3 left LOST with a status; the frames that have come: FRAG, whether poisoned, bytes. -/
structure FillCopy where
  entry  : Nat
  c      : Nat
  off    : Nat
  dev    : Nat
  st     : Nat
  status : Nat
  got    : List (Nat × Bool × List Byte)
  deriving DecidableEq, Repr

/-- A running fill (R519): crux die of the store, its harness, bytes of a block, the copies in ascending offset. -/
structure Fill where
  die    : Nat
  h      : Nat
  size   : Nat
  copies : List FillCopy
  deriving DecidableEq, Repr

structure GateSt where
  ctxs   : List GateCtx
  cmds   : List (Nat × Nat)     -- status a gate command will complete with, by crux die
  recs   : List SelRec
  stores : List Store
  scmds  : List (Nat × Nat × Nat) -- store commands executing: crux die, OP, the status it will complete with
  ovf    : List OvfRead
  fill   : Option Fill
  deriving DecidableEq, Repr

def GateSt.initial : GateSt := { ctxs := [], cmds := [], recs := [], stores := [], scmds := [], ovf := [], fill := none }

/-! ## Host interface (R412 to R442) -/

/-- How a ring command ends: status, REASON, VALUE0 to VALUE4. -/
structure RingEnd where
  status : Nat
  reason : Nat
  vals   : List Nat
  deriving DecidableEq, Repr

/-- A ring command in progress (R425): its number, ring pair, submission index, head entry, continuation, and how it ends
once that is known. -/
structure RingRun where
  no    : Nat
  ring  : Nat
  sq    : Nat
  opc   : Nat
  flags : Nat
  slot  : Nat
  user  : Nat
  args  : List Byte
  cont  : List Byte
  ended : Option RingEnd
  deriving DecidableEq, Repr

/-- A result slot (R430). -/
structure RingSlot where
  status : Nat
  armed  : Bool
  sq     : Nat
  value  : Nat
  deriving DecidableEq, Repr
def RingSlot.idle : RingSlot := { status := 1, armed := false, sq := 0, value := 0 }

/-- A waiting allocation (R465, R466). -/
structure PoolWait where
  pool  : Nat
  run   : Nat
  ring  : Nat
  n     : Nat
  entry : Nat
  clear : Bool
  list  : Nat
  bound : Nat
  deriving DecidableEq, Repr

/-- A SUBMIT message whose LAST frame has not arrived (R432). -/
structure Submit where
  ring  : Nat
  src   : Nat
  seq   : Nat
  bytes : List Byte
  deriving DecidableEq, Repr

structure HostSt where
  opened  : List Nat                   -- ring pairs that are not OFF
  runs    : List RingRun               -- commands in progress, in order of start
  next    : Nat                        -- commands started so far
  slots   : List (Nat × RingSlot)      -- result slots, key ring * 64 + slot
  used    : List (Nat × Nat)           -- completion entries written and not released, by ring
  unsig   : List (Nat × Nat)           -- completion entries not yet signalled, by ring (R429)
  cut     : List Nat                   -- rings whose flush cut a chain whose continuations have yet to come (R433)
  flush   : List (Nat × Nat)           -- flush point, by FLUSHING ring
  disable : List Nat                   -- rings whose DISABLE waits for the flush to end
  full    : List Nat                   -- rings that have stopped fetching for a full completion ring
  cache   : List (Nat × List Byte)     -- entries fetched from host memory, key ring * 65536 + index
  submits : List Submit
  waits   : List PoolWait              -- waiting allocations, in order of arrival
  remote  : List (Nat × Nat × Nat)     -- REMOTE_REGs that await their response: run, TAG, device index (R437)
  tag     : Nat                        -- TAG of the next
  msix    : List (Nat × Word)          -- words of the VFs' MSI-X tables, key VF * 128 + word (R598)
  pendV   : List (Nat × Nat)           -- vectors whose pending bit is set, by function and vector
  deriving DecidableEq, Repr

def HostSt.initial : HostSt :=
  { opened := [], runs := [], next := 0, slots := [], used := [], unsig := [], cut := [], flush := [], disable := [], full := [],
    cache := [], submits := [], waits := [], remote := [], tag := 0, msix := [], pendV := [] }

/-! ## Cairn (R559 to R565) -/

/-- A record waiting to be programmed (R561, R562). -/
structure CairnRec where
  kind : Nat
  time : Nat
  body : List Byte
  deriving DecidableEq, Repr

/-- One copy of the lifetime image in flash (R559, R560): generation, serial, words by index; none: blank. -/
structure LifeCopy where
  gen    : Nat
  serial : Word
  words  : List (Nat × Word)
  deriving DecidableEq, Repr

structure CairnSt where
  buf     : List CairnRec
  log     : List (Nat × List Byte)   -- programmed records by SEQ
  copyA   : Option LifeCopy
  copyB   : Option LifeCopy
  lg      : List (List Byte)         -- last-gasp entries used, oldest first, 16 bytes each (R564)
  rateSec : Nat                      -- the second in which fault records are being counted (R561)
  rateN   : Nat
  dead    : Bool                     -- flash writes stopped until the next Camp 2 (R563)
  joule   : Nat                      -- package energy not yet counted in whole joules, in nJ (R560)
  deriving DecidableEq, Repr

def CairnSt.initial : CairnSt :=
  { buf := [], log := [], copyA := none, copyB := none, lg := [], rateSec := 0, rateN := 0, dead := false, joule := 0 }

/-! ## Power (R471 to R488) -/

/-- What the crampon holds beside its registers. -/
structure PowerSt where
  steps   : Nat                -- steps of 100 MHz by which the ceiling is below the grade limit (R480)
  est     : Nat                -- P of the last interval, in 2^-14 mW (R478)
  sum     : Nat                -- sum of the interval estimates since the last calibration, in 2^-14 nJ (R482)
  miss    : Nat                -- calibrations in a row without a rail measurement
  good    : Nat                -- calibrations in a row within range
  frac    : List (Nat × Nat)   -- energy not yet a whole microjoule, in nJ, by harness (R486)
  ten     : List (Nat × Nat)   -- tensor engines in LIGHT (1) or DEEP (2), by device cluster (R471)
  hbmSr   : Bool               -- the stacks are in self-refresh (R476)
  noAvs   : List Nat           -- crux dies whose regulator does not answer (R570)
  trips   : List (Nat × Nat)   -- droop trips since the last MARGIN record, by crux die (R530)
  deriving DecidableEq, Repr

def PowerSt.initial : PowerSt :=
  { steps := 0, est := 0, sum := 0, miss := 0, good := 0, frac := [], ten := [], hbmSr := false, noAvs := [], trips := [] }

/-! ## Telemetry on hub 3 (R539 to R546) -/

/-- What a snapshot has latched: engine, first offset, words, stickies, plane time. -/
structure Snap where
  eng   : Nat
  words : List Word
  ovf   : List Bool
  time  : Nat
  deriving DecidableEq, Repr

structure TelSt where
  snaps : List Snap            -- snapshots in progress
  hist  : List (Nat × Word)    -- TEL_HIST_CFG (key 2u) and TEL_HIST_SAMPLE (2u + 1) in force (R542)
  deriving DecidableEq, Repr

def TelSt.initial : TelSt := { snaps := [], hist := [] }

/-! ## Bring-up (R489 to R509) and pins (R567 to R589) -/

structure BootSt where
  held     : Bool              -- held in reset (R574, R576, R589)
  perst    : Bool              -- PERST_N is high
  pwrgd    : Bool              -- PWRGD is high
  laserEn  : Bool              -- LASER_EN is high
  lasers   : List Nat          -- port dies whose lasers are on
  thermTrip : Bool             -- THERMTRIP_N latched low (R589)
  hot      : Bool              -- a 105 °C alarm has been sent and the sensors have not fallen below 100 °C since (R589)
  smbAlert : Bool              -- SMB_ALERT_N asserted
  jtag     : JtagIr            -- the selected JTAG instruction (R584)
  jtagKeep : Bool              -- a token keeps JTAG open (R496)
  minSvn   : Nat               -- fused MIN_SVN (R494, R495)
  defects  : List (List Byte)  -- the defect list, oldest first, 16 bytes an entry (R499)
  committed : Bool             -- a COMMIT has passed since the last reset or stop (R505)
  campNs   : Nat               -- time since the running camp began, waits apart, in ns (R489)
  bootNs   : Nat               -- time since the last start of Camp 0, in ns (R509)
  deriving DecidableEq, Repr

/-! ## What leaves the device -/

/-- Something the device sends or signals. The model keeps them, oldest first, in the field `out` of State. -/
inductive Out where
  | link (P : Nat) (prefixWord : Word) (body : LinkBody)       -- a link frame started on port P
  | arp (P : Nat)                                       -- an ARP reply (R61)
  | timeFrame (P : Nat) (est : Nat)                     -- a time frame with the sender's estimate (R117)
  | event (dst : Nat) (seq : Nat) (recs : List (List Byte)) -- an EVENT datagram to an IPv4 address (R526)
  | response (dst : Nat) (seq : Nat) (bytes : List Byte) -- a RESPONSE datagram (R526): SEQ of its header, its accesses
  | datagram (op : Nat) (bytes : List Byte)             -- a collector datagram (R548)
  | readData (bytes : List Byte) (poisoned : Bool)      -- a PCIe read completion (R415)
  | regData (v : Word)                                  -- a register read completion
  | hostWrite (addr : Nat) (bytes : List Byte)          -- a write by the hub DMA to host memory
  | msix (fn vec : Nat)                                 -- an MSI-X message (R429)
  | ppsOut (pin : Nat)                                  -- a pulse on an output pin (R582)
  | sideband (v : Word) (nack : Bool)                   -- sideband read data, and the NACK of its PEC byte (R583)
  | alertResponse                                       -- the part's answer to an SMBus Alert Response
  deriving DecidableEq, Repr

/-! ## Register writes on their way to another domain (R32 to R35) -/

/-- An accepted write that has not taken effect: its group, its path, the function, the offset and the value. -/
structure XWrite where
  grp  : Group
  src  : Src
  fn   : Nat
  addr : Nat
  val  : Word
  deriving DecidableEq, Repr

/-! ## The whole machine -/

structure State where
  regs    : List (Nat × Word)      -- registers that differ from their reset value, by BAR0 offset, rising
  sticky  : List Nat               -- offsets of the counters whose wrap sticky is set (R535)
  xdom    : List XWrite            -- staged writes, oldest first
  ports   : List (Nat × PortSt)    -- ports that differ from their initial state
  fwd     : FwdSt
  gateTbl : List (Nat × Word)      -- gate table words, key bank * 2048 + entry * 2 + word (R109)
  time    : TimeSt
  fault   : FaultSt
  mem     : MemSt
  mfb     : MfbSt
  hrn     : HrnSt
  comp    : CompSt
  rope    : RopeSt
  gate    : GateSt
  host    : HostSt
  cairn   : CairnSt
  power   : PowerSt
  tel     : TelSt
  boot    : BootSt
  pending : List Instr             -- commands waiting, first in first out
  out     : List Out
  free    : Nat                    -- how many free values have been read (the model's own field)
  deriving DecidableEq, Repr

/-- Pins and fuses right after PERST_N has risen with the rails good and LASER_EN low: Camp 0 runs (R490, R574). -/
def BootSt.initial : BootSt :=
  { held := false, perst := true, pwrgd := true, laserEn := false, lasers := [], thermTrip := false, hot := false, smbAlert := false,
    jtag := .idcode, jtagKeep := false, minSvn := Config.minSvn.toNat, defects := [], committed := false, campNs := 0, bootNs := 0 }

/-- The machine right after reset: every register at its reset value but the lifetime image's count of Camp 0 starts, which counts this
one (R490, R560); nothing stored, nothing queued, a blank Cairn partition. -/
def State.reset : State :=
  { regs := [(0x350018, 1#64)], sticky := [], xdom := [], ports := [], fwd := FwdSt.initial, gateTbl := [], time := TimeSt.initial,
    fault := FaultSt.initial, mem := MemSt.initial, mfb := MfbSt.initial, hrn := HrnSt.initial, comp := CompSt.initial,
    rope := RopeSt.initial, gate := GateSt.initial, host := HostSt.initial, cairn := CairnSt.initial, power := PowerSt.initial,
    tel := TelSt.initial, boot := BootSt.initial, pending := [], out := [], free := 0 }

end Sys2Proof.Machine
end

