-- ==== Sys2Proof/Machine/Ops.lean ====
section
/-! DEFINITION. The named operations over registers, counters, memory and free values that every meaning uses. -/
namespace Sys2Proof.Machine

/-! ## Sparse tables: rising keys, no entry equal to what an unlisted key reads as -/

/-- The value listed for `a`, if any. -/
def lookupKey {α : Type} : List (Nat × α) → Nat → Option α
  | [], _ => none
  | (k, v) :: t, a => if k = a then some v else lookupKey t a

/-- The value of `a`, `d a` where none is listed. -/
def sparseGet {α : Type} (d : Nat → α) (l : List (Nat × α)) (a : Nat) : α := (lookupKey l a).getD (d a)

/-- `l` without an entry for `a`. -/
def eraseKey {α : Type} (l : List (Nat × α)) (a : Nat) : List (Nat × α) := l.filter (fun p => p.1 != a)

/-- `l` with an entry put before the first larger key. -/
def insertKey {α : Type} : List (Nat × α) → Nat → α → List (Nat × α)
  | [], a, v => [(a, v)]
  | (k, x) :: t, a, v => if a < k then (a, v) :: (k, x) :: t else (k, x) :: insertKey t a v

/-- `l` with `a` reading `v`: the entry is dropped where `v` is what an unlisted key reads as. -/
def sparseSet {α : Type} [DecidableEq α] (d : Nat → α) (l : List (Nat × α)) (a : Nat) (v : α) : List (Nat × α) :=
  if v = d a then eraseKey l a else insertKey (eraseKey l a) a v

/-- Rising keys. -/
def rising {α : Type} : List (Nat × α) → Bool
  | [] => true
  | [_] => true
  | (a, _) :: (b, y) :: t => decide (a < b) && rising ((b, y) :: t)

/-- `l` with `k` in it, rising, without repeats. -/
def insertNat : List Nat → Nat → List Nat
  | [], a => [a]
  | k :: t, a => if a < k then a :: k :: t else if a = k then k :: t else k :: insertNat t a

/-- Element `i` of a list of naturals, 0 beyond its end. -/
def nth (l : List Nat) (i : Nat) : Nat := l.getD i 0

/-! ## Registers -/

namespace State

/-- The value of the register at BAR0 offset `a`. -/
def reg (s : State) (a : Nat) : Word := sparseGet regReset s.regs a
/-- The state with the register at `a` holding `v`. -/
def setReg (s : State) (a : Nat) (v : Word) : State := { s with regs := sparseSet regReset s.regs a v }
/-- The value of a register field. -/
def rf (s : State) (x : Rf) : Nat := (s.reg x.a).field x.lo x.w
/-- Is a one-bit field set? -/
def rb (s : State) (x : Rf) : Bool := s.rf x == 1
/-- The state with a register field holding `v`. -/
def wf (s : State) (x : Rf) (v : Nat) : State := s.setReg x.a ((s.reg x.a).withField x.lo x.w v)
/-- Add to a 64-bit wrapping counter; a wrap sets its sticky (R535, R537). -/
def count (s : State) (x : Rf) (n : Nat) : State :=
  let v := (s.reg x.a).toNat + n
  let t := s.setReg x.a (Word.ofN v)
  if 2 ^ 64 ≤ v then { t with sticky := insertNat t.sticky x.a } else t
/-- Add one to a counter. -/
def inc (s : State) (x : Rf) : State := s.count x 1
/-- Add to a field that holds its largest value rather than wrap. -/
def satInc (s : State) (x : Rf) (n : Nat) : State := s.wf x (min (2 ^ x.w - 1) (s.rf x + n))

/-- Plane time (R116). -/
def now (s : State) : Nat := s.rf TIM_NOW.V

/-- Take the next free value: the number of the draw, and the state that has made it. -/
def draw (s : State) : Nat × State := (s.free, { s with free := s.free + 1 })
/-- A free word. -/
def freeW (s : State) : Word × State := (Config.freeWord s.free, { s with free := s.free + 1 })
/-- A block of `n` free bytes. -/
def freeB (s : State) (n : Nat) : List Byte × State :=
  ((List.range n).map (Config.freeByte s.free), { s with free := s.free + 1 })

/-- Send something out of the device. -/
def emit (s : State) (o : Out) : State := { s with out := s.out ++ [o] }

/-- One more of lifetime counter `i` (R560), word 2 to 17 of the lifetime image. -/
def lifeInc (s : State) (i : Nat) : State := s.inc (CRN_LIFE.V i)

/-! ## Component setters -/
def withPorts (s : State) (v : List (Nat × PortSt)) : State := { s with ports := v }
def withFwd (s : State) (v : FwdSt) : State := { s with fwd := v }
def withFault (s : State) (v : FaultSt) : State := { s with fault := v }
def withTime (s : State) (v : TimeSt) : State := { s with time := v }
def withMem (s : State) (v : MemSt) : State := { s with mem := v }
def withBoot (s : State) (v : BootSt) : State := { s with boot := v }
def withMfb (s : State) (v : MfbSt) : State := { s with mfb := v }
def withHrn (s : State) (v : HrnSt) : State := { s with hrn := v }
def withComp (s : State) (v : CompSt) : State := { s with comp := v }
def withRope (s : State) (v : RopeSt) : State := { s with rope := v }
def withHost (s : State) (v : HostSt) : State := { s with host := v }
def withGate (s : State) (v : GateSt) : State := { s with gate := v }
def withCairn (s : State) (v : CairnSt) : State := { s with cairn := v }
def withPower (s : State) (v : PowerSt) : State := { s with power := v }
def withTel (s : State) (v : TelSt) : State := { s with tel := v }

/-- Work reaches the tensor engine of device cluster `c`, which leaves LIGHT or DEEP (R471). -/
def wakeTen (s : State) (c : Nat) : State :=
  if (lookupKey s.power.ten c).isSome then s.withPower { s.power with ten := eraseKey s.power.ten c } else s
/-- An access to H ends self-refresh (R476). -/
def wakeHbm (s : State) (rs : List (Nat × Nat)) : State :=
  if s.power.hbmSr && rs.any (fun r => decide (r.1 < 0x10000000000)) then s.withPower { s.power with hbmSr := false } else s

/-- The state of port `P`. -/
def port (s : State) (P : Nat) : PortSt := sparseGet (fun _ => PortSt.initial) s.ports P
/-- The state with port `P` holding `p`. -/
def setPort (s : State) (P : Nat) (p : PortSt) : State :=
  s.withPorts (sparseSet (fun _ => PortSt.initial) s.ports P p)

end State

/-! ## Memory: one model address space for H, L and S -/

/-- Model address of byte `o` of the L of core `k` (2 MiB each). -/
def addrL (k o : Nat) : Nat := 0x10000000000 + k * 0x200000 + o
/-- Model address of byte `o` of the S of cluster `c` (24 MiB each, in a stride of 64 MiB). -/
def addrS (c o : Nat) : Nat := 0x20000000000 + c * 0x4000000 + o

/-- Bytes of S: offsets 0x0100_0000 to 0x027F_FFFF hold it in the machine's address map (R257); here from 0. -/
def sizeS : Nat := 0x1800000
def sizeL : Nat := 0x200000
def sizeH : Nat := 0x9000000000
/-- Pseudo-channel and stack of device address `d` (R455). -/
def pcOf (d : Nat) : Nat := d / 256 % 768
def stackOf (d : Nat) : Nat := pcOf d / 64

/-- Base of the valid-bit unit that holds address `a`: 256-byte sectors of H, 64-byte granules of L and S (R170). -/
def unitBase (a : Nat) : Nat := if a < 0x10000000000 then a / 256 * 256 else a / 64 * 64
def unitSize (a : Nat) : Nat := if a < 0x10000000000 then 256 else 64

/-- What a read of one protected word or byte finds (R444). -/
inductive Found where
  | clean
  | unwritten
  | ue
  deriving DecidableEq, Repr

namespace MemSt

/-- Is the valid bit of the unit at `a` set, or is the memory harness 0's, which has none (R171, R172)? -/
def live (m : MemSt) (owner a : Nat) : Bool := owner == 0 || m.valid.contains (unitBase a)

/-- What the word that holds byte `a` decodes as (R444, R445). -/
def found (m : MemSt) (a : Nat) : Found :=
  if m.ue.contains (a / 8 * 8) || (decide (a < 0x10000000000) && m.dead.contains (stackOf a)) then .ue
  else if (lookupKey m.cells (a / 8 * 8)).isSome then .clean
  else .unwritten

/-- Byte `a` as a reader of harness-`owner` memory gets it (R171, R444). -/
def readByte (m : MemSt) (owner a : Nat) : Byte :=
  if m.live owner a then
    (match m.found a with
     | .clean => (lookupKey m.cells a).getD 0xFF#8
     | _ => 0xFF#8)
  else 0#8

/-- `n` bytes from `a`. -/
def read (m : MemSt) (owner a n : Nat) : List Byte := (List.range n).map (fun i => m.readByte owner (a + i))

/-- The addresses of the words that `n` bytes from `a` touch. -/
def words (a n : Nat) : List Nat :=
  if n = 0 then [] else (List.range ((a + n - 1) / 8 - a / 8 + 1)).map (fun i => (a / 8 + i) * 8)

/-- The words of a range that do not decode, with what was found. -/
def badWords (m : MemSt) (owner a n : Nat) : List (Nat × Found) :=
  (words a n).filterMap (fun w =>
    if m.live owner w then (match m.found w with | .clean => none | x => some (w, x)) else none)

/-- Some byte of the range reads as poison. -/
def poisoned (m : MemSt) (owner a n : Nat) : Bool := !(m.badWords owner a n).isEmpty

/-- One byte stored. -/
def putByte (m : MemSt) (a : Nat) (b : Byte) : MemSt := { m with cells := insertKey (eraseKey m.cells a) a b }

/-- Bytes stored from `a` up. -/
def putBytes (m : MemSt) (a : Nat) : List Byte → MemSt
  | [] => m
  | b :: t => putBytes (m.putByte a b) (a + 1) t

/-- Words `[lo, hi)` left holding the poison code (R445). -/
def poison (m : MemSt) (lo hi : Nat) : MemSt :=
  { m with cells := m.cells.filter (fun p => p.1 < lo || hi ≤ p.1), ue := m.ue.filter (fun w => w < lo || hi ≤ w) }

/-- Every valid bit of `[lo, hi)` cleared (R170). -/
def clearValid (m : MemSt) (lo hi : Nat) : MemSt := { m with valid := m.valid.filter (fun u => u < lo || hi ≤ u) }

/-- A clear unit made valid, its bytes zero (R171). -/
def openUnit (m : MemSt) (u : Nat) : MemSt :=
  let m' := (m.poison u (u + unitSize u)).putBytes u (List.replicate (unitSize u) 0)
  { m' with valid := insertNat m'.valid u }

/-- The units touched by `n` bytes from `a`. -/
def units (a n : Nat) : List Nat :=
  if n = 0 then [] else
    (List.range ((unitBase (a + n - 1) - unitBase a) / unitSize a + 1)).map (fun i => unitBase a + i * unitSize a)

/-- Store bytes within one word: whole words are written; a partial write merges, or leaves the poison code where the
word does not decode (R446). -/
def writeWord (m : MemSt) (a : Nat) (bs : List Byte) : MemSt :=
  let w := a / 8 * 8
  if bs.length = 8 then (m.poison w (w + 8)).putBytes a bs
  else match m.found a with
    | .clean => m.putBytes a bs
    | _ => m.poison w (w + 8)

/-- Store bytes word by word. -/
def writeWords : Nat → MemSt → Nat → List Byte → MemSt
  | 0, m, _, _ => m
  | fuel + 1, m, a, bs =>
    if bs.isEmpty then m
    else
      let k := 8 - a % 8
      writeWords fuel (m.writeWord a (bs.take k)) (a + k) (bs.drop k)

/-- A write of `bs` at `a` into memory of harness `owner` (R171, R446). -/
def write (m : MemSt) (owner a : Nat) (bs : List Byte) : MemSt :=
  let m1 := if owner = 0 then m else
    (units a bs.length).foldl (fun m u => if m.valid.contains u then m else m.openUnit u) m
  writeWords (bs.length + 1) m1 a bs

/-- The words of a write that could not take a merge (R446): partial words that do not decode. -/
def mergeFails (m : MemSt) (owner a n : Nat) : List (Nat × Found) :=
  (m.badWords owner a n).filter (fun p => !(a ≤ p.1 && p.1 + 8 ≤ a + n))

end MemSt

/-- The canonical form of memory: addresses strictly rising. An unlisted byte holds no value (an unwritten word decodes as poison,
R445), so no listed entry equals what an unlisted address reads as. -/
def Memory.wf (l : List Host.Cell) : Bool := rising l

/-! ## H space (R457) -/

/-- Pool `q` is READY. -/
def State.poolReady (s : State) (q : Nat) : Bool := s.rf (POOL_STS.STATE q) == 1
/-- Pool `q` lies in its harness's H space: READY or BROKEN, its DESTROY not accepted (R457, R460). -/
def State.poolHeld (s : State) (q : Nat) : Bool := s.rf (POOL_STS.STATE q) != 0 && !s.mem.dying.contains q
/-- Pool `q` of harness `h` holds H offset `o`. -/
def State.poolHas (s : State) (q h o : Nat) : Bool :=
  s.poolHeld q && s.rf (POOL_CFG.HARNESS q) == h && s.rf (POOL_HBASE.V q) ≤ o &&
  o < s.rf (POOL_HBASE.V q) + s.rf (POOL_PAGES.V q) * 4096
/-- The pool of harness `h` that holds offset `o`. -/
def State.poolOf (s : State) (h o : Nat) : Option Nat := (List.range 64).find? (fun q => s.poolHas q h o)
/-- Device byte address of offset `o` within pool `q`. -/
def State.poolAddr (s : State) (q o : Nat) : Nat := s.rf (POOL_PBASE.V q) * 4096 + (o - s.rf (POOL_HBASE.V q))
/-- The runs of device addresses that `n` bytes of harness `h`'s H space from `o` occupy; none where some byte lies in
no pool. -/
def State.hRuns (s : State) (h : Nat) : Nat → Nat → Nat → Option (List (Nat × Nat))
  | 0, _, n => if n = 0 then some [] else none
  | fuel + 1, o, n =>
    if n = 0 then some [] else
    match s.poolOf h o with
    | none => none
    | some q =>
      let k := min n (s.rf (POOL_HBASE.V q) + s.rf (POOL_PAGES.V q) * 4096 - o)
      match s.hRuns h fuel (o + k) (n - k) with
      | none => none
      | some t => some ((s.poolAddr q o, k) :: t)
/-- The runs of a range of an H space. -/
def State.hRange (s : State) (h o n : Nat) : Option (List (Nat × Nat)) := s.hRuns h 65 o n

/-- The bytes of a list of runs. -/
def MemSt.readRuns (m : MemSt) (owner : Nat) (rs : List (Nat × Nat)) : List Byte :=
  rs.flatMap (fun r => m.read owner r.1 r.2)
/-- A list of runs written in order. -/
def MemSt.writeRuns (m : MemSt) (owner : Nat) : List (Nat × Nat) → List Byte → MemSt
  | [], _ => m
  | (a, n) :: t, bs => MemSt.writeRuns (m.write owner a (bs.take n)) owner t (bs.drop n)

end Sys2Proof.Machine
end

