-- ==== Sys2Proof/Machine/Record.lean ====
section
/-! DEFINITION. Fault records, avalanche, whiteout, the fault ring, Cairn records, trace records and host-access
errors (spec/19 R510 to R514, R526, R528; spec/20 R549 to R555, R561, R562). -/
namespace Sys2Proof.Machine

/-! ## Codes of R599, R511 and R510 -/
def stOK : Nat := 0x00
def stNOT_READY : Nat := 0x01
def stFLUSHED : Nat := 0x02
def stQUOTA : Nat := 0x03
def stNOMEM : Nat := 0x04
def stCONFLICT : Nat := 0x05
def stPOISON : Nat := 0x06
def stTIMEOUT : Nat := 0x07
def stDENIED : Nat := 0x08
def stLOST : Nat := 0x09
def stCHECK : Nat := 0x0A
def stDOUBLE_FREE : Nat := 0x0B
def stUNDERFLOW : Nat := 0x0C
def stOVERFLOW : Nat := 0x0D
def stREJECT : Nat := 0x0E
def stFENCED : Nat := 0x0F
def stDUPLICATE : Nat := 0x10
def stLATE : Nat := 0x11

def clHOST : Nat := 0x01
def clLINK : Nat := 0x02
def clROUTE : Nat := 0x03
def clMEMBER : Nat := 0x04
def clMEMORY : Nat := 0x05
def clREQUEST : Nat := 0x06
def clHARNESS : Nat := 0x07
def clCHECK : Nat := 0x08
def clDEVICE : Nat := 0x09
def clTIME : Nat := 0x0A
def clPOWER : Nat := 0x0B
def clMARGIN : Nat := 0x0C
def clMGMT : Nat := 0x0D
def clLOG : Nat := 0x0E

/-- UNIT codes (R510). -/
def unitCrux (n : Nat) : Nat := n
def unitPortDie (m : Nat) : Nat := 16 + m
def unitHub (i : Nat) : Nat := 48 + i
def unitStack (s : Nat) : Nat := 52 + s
def unitDevice : Nat := 0xFF

/-- The crux die that owns port `P` and the port's index q on it: 0 to 47 endpoint, 48 to 71 torus (R12 to R14, R98). -/
def dieOf (P : Nat) : Nat := if P < 768 then P / 48 else (P - 768) / 24
def idxOf (P : Nat) : Nat := if P < 768 then P % 48 else 48 + (P - 768) % 24
/-- The port of index `q` of crux die `n`. -/
def portAt (n q : Nat) : Nat := if q < 48 then 48 * n + q else 768 + 24 * n + (q - 48)
/-- The port die of port `P` (R12). -/
def portDie (P : Nat) : Nat := if P < 768 then 2 * (P / 48) else 2 * ((P - 768) / 24) + 1
def isTorus (P : Nat) : Bool := decide (768 ≤ P)

namespace State

/-- This device's plane index and plane identifier, from the committed join record (R597). -/
def devIndex (s : State) : Nat := s.rf HUB_PLANE.INDEX
def planeId (s : State) : Nat := s.rf HUB_PLANE.PLANE_ID

/-! ## Queued paths and whiteout (R553 to R555) -/

/-- Capacity of path `p` in bytes: the collector queue, the fault channel hold. -/
def woCap (p : Nat) : Nat := if p = 0 then 4194304 else 4096 * 64
def woItems (s : State) (p : Nat) : List Item := if p = 0 then s.fault.coll else s.fault.hold
def setWoItems (s : State) (p : Nat) (l : List Item) : State :=
  if p = 0 then s.withFault { s.fault with coll := l } else s.withFault { s.fault with hold := l }
def woOf (s : State) (p : Nat) : Whiteout := if p = 0 then s.fault.wo0 else s.fault.wo1
def setWo (s : State) (p : Nat) (w : Whiteout) : State :=
  if p = 0 then s.withFault { s.fault with wo0 := w } else s.withFault { s.fault with wo1 := w }
def occupancy (l : List Item) : Nat := (l.map (fun i => i.bytes.length)).sum

/-- Registers that report a path after its items changed: OCC, and entry into whiteout at 3/4 of C. -/
def woSettle (s : State) (p : Nat) : State :=
  let o := occupancy (s.woItems p)
  let s1 := (s.wf (TEL_WO_STS.OCC p) o).wf HUB_FAULT_STS.QUEUE s.fault.hold.length
  if !s1.rb (TEL_WO_STS.ACTIVE p) && 3 * woCap p ≤ 4 * o then
    (((s1.wf (TEL_WO_STS.ACTIVE p) 1).satInc (TEL_WO_STS.EPISODES p) 1).setWo p ⟨s.now, [0, 0, 0, 0, 0]⟩).lifeInc 15
  else s1

/-- One item of priority `k` dropped from path `p`. -/
def woDrop (s : State) (p k : Nat) : State :=
  let w := s.woOf p
  (s.inc (TEL_WO_DROP.V p k)).setWo p ⟨s.now, w.drops.set (k - 1) (nth w.drops (k - 1) + 1)⟩

/-- The oldest item of the lowest priority present, if it is below 5, and the rest. -/
def evictOne (l : List Item) : Option (Nat × List Item) :=
  let m := (l.map (fun i => i.prio)).foldl min 5
  if 5 ≤ m then none else some (m, l.eraseP (fun i => i.prio == m))

/-- Evict until `n` more bytes fit (R554). -/
def evictFor (p n : Nat) : Nat → State → State
  | 0, s => s
  | fuel + 1, s =>
    if occupancy (s.woItems p) + n ≤ woCap p then s
    else match evictOne (s.woItems p) with
      | none => s
      | some (k, l) => evictFor p n fuel ((s.setWoItems p l).woDrop p k)

/-- Put an item on path `p` under R554. -/
def offer (s : State) (p : Nat) (it : Item) : State :=
  let n := it.bytes.length
  let s1 := if it.prio = 5 then evictFor p n ((s.woItems p).length + 1) s else s
  let o := occupancy (s1.woItems p)
  let lim := if s1.rb (TEL_WO_STS.ACTIVE p) then (3 + it.prio) * woCap p else 8 * woCap p
  if 8 * (o + n) ≤ lim then (s1.setWoItems p (s1.woItems p ++ [it])).woSettle p
  else (s1.woDrop p it.prio).woSettle p

/-! ## Fault channel (R525, R526) -/

/-- Is the fault channel able to send EVENTs: after Camp 1, processor up, a key that is not all zero (R523, R526)? -/
def fmUp (s : State) : Bool :=
  s.rf (HUB_CAMP_RPT.STATUS 1) == 0 && (s.rf HUB_FAULT_STS.MP_STATE == 0 || s.rf HUB_FAULT_STS.MP_STATE == 3) &&
  s.fault.key != [0, 0, 0, 0]

/-- The management processor is EXPIRED or RETURNED (R523). -/
def mpStopped (s : State) : Bool := s.rf HUB_FAULT_STS.MP_STATE == 2 || s.rf HUB_FAULT_STS.MP_STATE == 3

/-- Where EVENTs go (R526): the source of the last accepted request, or HUB_FM_MGR. -/
def eventTo (s : State) : Nat := if s.fault.reqAny then s.fault.reqFrom else s.rf HUB_FM_MGR.V

/-- Number and send every unsent record, one EVENT to 16 records. -/
def sendEvents : Nat → State → State
  | 0, s => s
  | fuel + 1, s =>
    let un := s.fault.hold.filter (fun i => i.tag == 0)
    if un.isEmpty || !s.fmUp then s else
    let k := min 16 un.length
    let e := s.fault.eventSeq + 1
    let first := un.take k
    let mark : List Item → Nat → List Item := fun l n =>
      (l.foldl (fun (acc : List Item × Nat) i =>
        if i.tag == 0 && decide (acc.2 < n) then (acc.1 ++ [{ i with tag := e }], acc.2 + 1) else (acc.1 ++ [i], acc.2)) ([], 0)).1
    let s1 := s.withFault { s.fault with eventSeq := e, hold := mark s.fault.hold k }
    sendEvents fuel (s1.emit (.event s.eventTo e (first.map (fun i => i.bytes))))

/-! ## Cairn records (R561, R562) -/

/-- A record for Cairn: buffered, or dropped where the buffer of 1,024 is full. -/
def cairnRec (s : State) (kind time : Nat) (body : List Byte) : State :=
  if 1024 ≤ s.cairn.buf.length then (s.inc CRN_CNT_DROP.V).lifeInc 17
  else (s.withCairn { s.cairn with buf := s.cairn.buf ++ [⟨kind, time, padTo 36 0 body⟩] }).wf CRN_STS.BUF (s.cairn.buf.length + 1)

/-- A fault record for Cairn, under REC_FAULTS, REC_SEV and REC_RATE. -/
def cairnFault (s : State) (sev last : Nat) (bytes : List Byte) : State :=
  if !s.rb CRN_CFG.REC_FAULTS || sev < s.rf CRN_CFG.REC_SEV then s else
  let sec := s.now / 1000000000
  let n := if s.cairn.rateSec = sec then s.cairn.rateN else 0
  if max 1 (s.rf CRN_CFG.REC_RATE) ≤ n then (s.withCairn { s.cairn with rateSec := sec, rateN := n }).inc CRN_CNT_RATE_DROP.V
  else (s.withCairn { s.cairn with rateSec := sec, rateN := n + 1 }).cairnRec 5 last
    (bytes.take 4 ++ (bytes.drop 5).take 3 ++ (bytes.drop 12).take 4 ++ (bytes.drop 40).take 24)

/-! ## The defect list (R499) -/

/-- Append an entry: KIND, finding camp (0xFF in service), die, location, CRC. Past 4,095 entries it is dropped. -/
def appendDefect (s : State) (kind camp die loc : Nat) : State :=
  let e := bytesLE 1 kind ++ bytesLE 1 camp ++ bytesLE 2 die ++ bytesLE 8 loc
  let e16 := e ++ bytesLE 4 (crc32c 0 e)
  if 4095 ≤ s.boot.defects.length then (s.satInc HUB_DEFECT_STS.DROPPED 1).wf HUB_DEFECT_STS.FULL 1
  else
    (((s.withBoot { s.boot with defects := s.boot.defects ++ [e16] }).wf HUB_DEFECT_STS.ENTRIES (s.boot.defects.length + 1)).satInc
      HUB_DEFECT_STS.ADDED 1).cairnRec 4 s.now e16

/-! ## Records (R510, R512) -/

/-- The 64 bytes of a record. -/
def recordBytes (s : State) (r : FaultRec) (count first last seqno : Nat) : List Byte :=
  bytesLE 1 r.cls ++ bytesLE 1 (r.sev % 4) ++ bytesLE 1 r.status ++ bytesLE 1 r.code ++ bytesLE 1 s.devIndex ++
  bytesLE 1 r.unit ++ bytesLE 2 r.harness ++ bytesLE 4 s.planeId ++ bytesLE 4 (min count 0xFFFFFFFF) ++ bytesLE 8 first ++
  bytesLE 8 last ++ bytesLE 8 seqno ++ padTo 24 0 r.detail

/-- Write a record to the fault ring while EN is set (R512). -/
def ringRecord (s : State) (bytes : List Byte) : State :=
  if !s.rb HUB_FAULT_RING.EN then s else
  let slots := 2 ^ s.rf HUB_FAULT_RING.LOG2 / 64
  let o := s.rf HUB_FAULT_RING.BASE + (s.rf HUB_FAULT_WPTR.V % slots) * 64
  match s.poolOf 0 o, s.hRange 0 o 64 with
  | some q, some rs =>
    if s.poolReady q then (s.withMem (s.mem.writeRuns 0 rs bytes)).wf HUB_FAULT_WPTR.V (s.rf HUB_FAULT_WPTR.V + 1)
    else s.wf HUB_FAULT_STS.RING_SKIP 1
  | _, _ => s.wf HUB_FAULT_STS.RING_SKIP 1

/-- Send a record on every path. -/
def sendRecord (s : State) (r : FaultRec) (count first last : Nat) : State :=
  let q := s.fault.seqno + 1
  let bytes := s.recordBytes r count first last q
  let prio := if 2 ≤ r.sev then 5 else 4
  let s1 := s.withFault { s.fault with seqno := q }
  let s2 := s1.offer 1 ⟨0, prio, bytes⟩
  let s3 := sendEvents 1 s2
  let s4 := s3.ringRecord bytes
  let s5 := if s4.rb TEL_COLLECT.FAULTS && s4.rf TEL_COLLECT.MODE != 0 then s4.offer 0 ⟨4, prio, bytes⟩ else s4
  s5.cairnFault r.sev last bytes

/-- Do two records share a coalescing key (R550)? -/
def sameKey (a b : FaultRec) : Bool := a.cls == b.cls && a.code == b.code && a.unit == b.unit && a.harness == b.harness

/-- The entry a new key takes (R551): one of 0 to 191, or one of 192 to 255 for severity HARNESS or DEVICE. -/
def avalSlot (l : List Aval) (sev : Nat) : Option Nat :=
  (List.range (if 2 ≤ sev then 256 else 192)).find? (fun i => !(l.any (fun e => e.slot == i)))

/-- The lifetime counter an occurrence counts in, if any (R560): CHECK faults, UE and CE reports, POWER_CAP alarms. -/
def lifeWord (r : FaultRec) : Option Nat :=
  if r.cls = clCHECK then some 8
  else if r.cls = clMEMORY && r.code = 2 then some 9
  else if r.cls = clMEMORY && r.code = 1 then some 10
  else if r.cls = clPOWER && r.code = 1 then some 14 else none

/-- An occurrence of a fault, alarm or event at plane time `t`: counted, coalesced, sent (R550, R551). -/
def occur (s : State) (r : FaultRec) (t : Nat) : State :=
  let s0 := (match lifeWord r with | some i => s.lifeInc i | none => s).inc HUB_FAULT_CNT.V
  let win := s0.rf HUB_AVAL_CFG.WINDOW_MS
  match s0.fault.aval.find? (fun e => sameKey e.what r) with
  | some e =>
    let e' := { e with what := r, count := e.count + 1, first := if e.count = 0 then t else e.first, last := t }
    s0.withFault { s0.fault with aval := s0.fault.aval.map (fun x => if x.slot = e.slot then e' else x) }
  | none =>
    if win = 0 then s0.sendRecord r 1 t t
    else match avalSlot s0.fault.aval r.sev with
      | some i =>
        let s1 := s0.withFault { s0.fault with aval := s0.fault.aval ++ [⟨i, r, 0, t, t, t, win⟩] }
        (s1.wf HUB_AVAL_STS.USED s1.fault.aval.length).sendRecord r 1 t t
      | none =>
        let s1 := s0.inc (HUB_AVAL_OVF.V r.cls)
        let sec := t / 1000000000 + 1
        let mask := (if s1.fault.ovfSec = sec then s1.fault.ovfMask else 0) ||| 2 ^ r.cls
        let s2 := s1.withFault { s1.fault with ovfMask := mask, ovfSec := sec }
        if s1.fault.ovfSec = sec then s2
        else (s2.inc HUB_FAULT_CNT.V).sendRecord ⟨clLOG, 0x21, 1, stOK, unitHub 0, 0, bytesLE 2 mask⟩ 1 t t

/-- Report a fault: a NOTE or an ALARM is recorded at once; a fault of severity HARNESS or DEVICE waits for hub 0 to
apply it in order of arrival (R512, R514). -/
def report (s : State) (r : FaultRec) : State :=
  if 2 ≤ r.sev then s.withFault { s.fault with raised := s.fault.raised ++ [⟨r, s.now⟩] }
  else s.occur r s.now

/-- A trace record, where the point is enabled and a collector is set (R549). -/
def trace (s : State) (point unit harness : Nat) (args : List Byte) : State :=
  if (s.rf TEL_TRACE_CFG.MASK) / 2 ^ point % 2 = 1 && s.rf TEL_COLLECT.MODE != 0 then
    s.offer 0 ⟨2, 2, bytesLE 8 s.now ++ bytesLE 1 point ++ bytesLE 1 unit ++ bytesLE 2 harness ++ padTo 20 0 args⟩
  else s

/-! ## Host-access errors (R528) -/

/-- SOURCE code of R532. -/
def srcCode : Src → Nat
  | .pcie0 => 0
  | .pcie1 => 1
  | .inband => 2
  | .faultCh => 3

/-- A host-access error of the given code (1 register, 2 BAR4 window) and status. -/
def haccCode (s : State) (code : Nat) (src : Src) (fn off : Nat) (write : Bool) (status : Nat) : State :=
  let s1 := s.inc HUB_HACC_CNT.V
  let s2 := if s1.rb HUB_HACC_ERR.VALID then s1 else
    (((((s1.wf HUB_HACC_ERR.OFFSET off).wf HUB_HACC_ERR.WRITE (b2n write)).wf HUB_HACC_ERR.STATUS status).wf HUB_HACC_ERR.FUNC fn).wf
      HUB_HACC_ERR.SOURCE (srcCode src)).wf HUB_HACC_ERR.VALID 1
  s2.report ⟨clHOST, code, 0, status, unitHub 0, 0, bytesLE 8 off ++ bytesLE 1 fn ++ bytesLE 1 (srcCode src)⟩

/-- A refused register access. -/
def hacc (s : State) (src : Src) (fn off : Nat) (write : Bool) (status : Nat) : State :=
  s.haccCode 1 src fn off write status

/-- A refused register write from `src`. -/
def reject (s : State) (src : Src) (off : Nat) : State := s.hacc src 0 off true stREJECT

end State

end Sys2Proof.Machine
end

