-- ==== Sys2Proof/Machine/Access.lean ====
section
/-! DEFINITION. Which register accesses reach a register: reachability by camp, reserved ranges, the standby port
(R412, R491, R591), and the outcome type of a meaning. -/
namespace Sys2Proof.Machine

/-- What a meaning answers. -/
abbrev Res := Host.Outcome State Fault Refusal

/-- A command that goes on. -/
def done (s : State) : Res := .next s

/-- A command that takes `s` to `t`; while the device is held in reset it changes nothing (R574). -/
def unheld (s t : State) : Res := .next (if s.boot.held then s else t)

namespace State

/-- Camp `c` has ended with status OK since the last reset (R489, R509). -/
def campOk (s : State) (c : Nat) : Bool := s.rf (HUB_CAMP_RPT.STATUS c) == 0

/-- The camp at whose end the block of offset `a` becomes reachable (R491). Pools answer with the HBM controllers. -/
def reachCamp (a : Nat) : Nat :=
  if a < 0x00100000 then 0
  else if a < 0x00400000 then 1
  else if a < 0x01000000 then 0
  else if a < 0x02000000 then (if 0x70000 ≤ a % 0x100000 && a % 0x100000 < 0x80000 then 4 else 2)
  else if a < 0x03000000 then 2
  else 4

/-- Reserved ranges of R590. -/
def reservedRange (a : Nat) : Bool := (decide (0x00400000 ≤ a) && decide (a < 0x01000000)) || decide (0x030C0000 ≤ a)

/-- Registers the standby port exposes: identity and host control (R412, R597). -/
def standbyOk (a : Nat) : Bool :=
  decide (a < 0x30) || (decide (0x400 ≤ a) && decide (a < 0x418)) || (decide (0x800 ≤ a) && decide (a < 0x1000))

/-- Does the access arrive through a PCIe port that is not the active one (R412)? -/
def standby (s : State) (src : Src) : Bool :=
  match src with
  | .pcie0 => s.rb HUB_HOST_CTL.NONE || s.rf HUB_HOST_CTL.ACTIVE != 0
  | .pcie1 => s.rb HUB_HOST_CTL.NONE || s.rf HUB_HOST_CTL.ACTIVE != 1
  | _ => false

/-- The status that turns an access away before any register is looked at, if one does (R412, R491, R591). Camp
registers answer during Camp 0 only on the sideband; on every path they need the end of Camp 0. -/
def accessFails (s : State) (src : Src) (a : Nat) : Option Nat :=
  if reservedRange a then some stDENIED
  else if s.standby src && !standbyOk a then some stDENIED
  else if !s.campOk (reachCamp a) then some stNOT_READY
  else none

/-- Apply a register write unless the access is turned away, which is reported (R491, R528, R591). Nothing answers while the
device is held in reset (R574). -/
def guardWrite (s : State) (src : Src) (a : Nat) (k : State → State) : State :=
  if s.boot.held then s else
  match s.accessFails src a with
  | some st => s.hacc src 0 a true st
  | none => k s

end State
end Sys2Proof.Machine
end

