-- ==== Sys2Proof/Machine/Quota.lean ====
section
/-! DEFINITION. What many units share: the harness table's copies and quotas (R158, R161, R165), memory error reports
(R448), pending entries (R142, R151). -/
namespace Sys2Proof.Machine

/-- The resources with a quota (R162). -/
inductive QKind where
  | cores | rings | ctx | carab | hbm
  deriving DecidableEq, Repr

def QKind.limit (k : QKind) (h : Nat) : Rf :=
  match k with
  | .cores => HRN_Q_CORES.LIMIT h | .rings => HRN_Q_RINGS.LIMIT h | .ctx => HRN_Q_CTX.LIMIT h
  | .carab => HRN_Q_CARAB.LIMIT h | .hbm => HRN_Q_HBM.LIMIT h
def QKind.used (k : QKind) (h : Nat) : Rf :=
  match k with
  | .cores => HRN_Q_CORES.USED h | .rings => HRN_Q_RINGS.USED h | .ctx => HRN_Q_CTX.USED h
  | .carab => HRN_Q_CARAB.USED h | .hbm => HRN_Q_HBM.USED h
def QKind.over (k : QKind) (h : Nat) : Rf :=
  match k with
  | .cores => HRN_STS.OVER_CORES h | .rings => HRN_STS.OVER_RINGS h | .ctx => HRN_STS.OVER_CTX h
  | .carab => HRN_STS.OVER_CARAB h | .hbm => HRN_STS.OVER_HBM h
/-- The device total of a resource (R174). -/
def QKind.total (k : QKind) : Nat :=
  match k with
  | .cores => 512 | .rings => 8192 | .ctx => 16384 | .carab => 0x100000 | .hbm => 0x9000000

namespace State

/-- The state of harness `h` at hub 0; harness 0 is RUNNING (R157). -/
def hrnState (s : State) (h : Nat) : Nat := if h = 0 then 2 else s.rf (HRN_STS.STATE h)
/-- The state of harness `h` in the copies of the table (R22, R161). -/
def hrnCopy (s : State) (h : Nat) : Nat := if h = 0 then 2 else (lookupKey s.hrn.old h).getD (s.rf (HRN_STS.STATE h))
/-- A grant may be made to harness `h`: harness 0, BOUND, RUNNING or RECOVERING (R162). -/
def grantable (s : State) (h : Nat) : Bool := s.hrnState h == 1 || s.hrnState h == 2 || s.hrnState h == 3

/-- OVER follows USED and LIMIT (R165). -/
def setOver (s : State) (k : QKind) (h : Nat) : State :=
  s.wf (k.over h) (b2n (decide (s.rf (k.limit h) < s.rf (k.used h))))
/-- Does the quota permit `n` more units (R165)? -/
def quotaOk (s : State) (k : QKind) (h n : Nat) : Bool := h == 0 || decide (s.rf (k.used h) + n ≤ s.rf (k.limit h))
/-- `n` units granted. -/
def quotaTake (s : State) (k : QKind) (h n : Nat) : State :=
  if h = 0 then s else (s.wf (k.used h) (s.rf (k.used h) + n)).setOver k h
/-- `n` units released, USED never below 0, in every state but FREE. -/
def quotaGive (s : State) (k : QKind) (h n : Nat) : State :=
  if h = 0 || s.hrnState h = 0 then s else (s.wf (k.used h) (s.rf (k.used h) - n)).setOver k h
/-- A write of a LIMIT (R165, R174). -/
def writeLimit (s : State) (src : Src) (k : QKind) (h v : Nat) : State :=
  if k.total < v then s.reject src (k.limit h).a else (s.wf (k.limit h) v).setOver k h

/-! ## Memory error reports (R448) -/

/-- The crux die of an address of L or S (R12, R16): 32 cores and 4 clusters to a die. -/
def sramDie (a : Nat) : Nat :=
  if a < 0x20000000000 then (a - 0x10000000000) / 0x200000 / 32 else (a - 0x20000000000) / 0x4000000 / 4
/-- One CE, UE or UNWRITTEN event: `code` 1, 2 or 3, at address `a`, of memory of harness `owner`. -/
def memEvent (s : State) (code owner a : Nat) : State :=
  let h := decide (a < 0x10000000000)
  let s1 := s.inc (if h then (if code = 1 then HBM_CNT_CE.V (stackOf a) else if code = 2 then HBM_CNT_UE.V (stackOf a)
      else HBM_CNT_UNWRITTEN.V (stackOf a))
    else (if code = 1 then CRX_CNT_SRAM_CE.V (sramDie a) else if code = 2 then CRX_CNT_SRAM_UE.V (sramDie a)
      else CRX_CNT_SRAM_UNWRITTEN.V (sramDie a)))
  s1.report ⟨clMEMORY, code, if code = 2 then 1 else 0, if code = 1 then stOK else stPOISON,
    if h then unitStack (stackOf a) else unitCrux (sramDie a), owner,
    bytesLE 2 (if h then pcOf a else sramDie a) ++ bytesLE 8 a ++ bytesLE 2 owner⟩
/-- Every word of a list that did not decode is reported. -/
def memEvents (s : State) (owner : Nat) (l : List (Nat × Found)) : State :=
  l.foldl (fun t p => t.memEvent (match p.2 with | .ue => 2 | _ => 3) owner p.1) s

/-- A read of runs of memory of harness `owner`: the bytes, whether some word was poison, and the state with every
such word reported. -/
def memRead (s : State) (owner : Nat) (rs : List (Nat × Nat)) : List Byte × Bool × State :=
  let bad := rs.flatMap (fun r => s.mem.badWords owner r.1 r.2)
  (s.mem.readRuns owner rs, !bad.isEmpty, (s.memEvents owner bad).wakeHbm rs)
/-- Do two lists of runs share a byte? -/
def overlap (a b : List (Nat × Nat)) : Bool :=
  a.any (fun x => b.any (fun y => decide (x.1 < y.1 + y.2) && decide (y.1 < x.1 + x.2)))
/-- Engine instructions in progress that read or write bytes now written by another unit (R184). -/
def taintBy (s : State) (rs : List (Nat × Nat)) : State :=
  if s.comp.flights.any (fun f => f.started && (overlap f.srcs rs || overlap f.dsts rs)) then
    s.withComp { s.comp with flights := s.comp.flights.map (fun f =>
      if f.started && (overlap f.srcs rs || overlap f.dsts rs) then { f with taint := true } else f) }
  else s
/-- A write of bytes to runs: whether some merge failed, and the state (R446). -/
def memWrite (s : State) (owner : Nat) (rs : List (Nat × Nat)) (bs : List Byte) : Bool × State :=
  let bad := rs.flatMap (fun r => s.mem.mergeFails owner r.1 r.2)
  (!bad.isEmpty, (((s.withMem (s.mem.writeRuns owner rs bs)).memEvents owner (bad.map (fun p => (p.1, Found.unwritten)))).taintBy rs).wakeHbm rs)

/-! ## Pending entries (R142, R151) -/

/-- Room for one more request of source FEID `src`, with `more` already on their way: 4,096 pending entries and 8
anchor queue places. -/
def memRoom (s : State) (src : Nat) (anchored : Bool) (more : Nat) : Bool :=
  let mine := s.mfb.pends.filter (fun p => decide (p.source < 1152) && p.frame.src == src)
  decide (mine.length + more < 4096) && (!anchored || decide ((mine.filter (fun p => p.queued)).length + more < 8))

/-- Every pending entry of a source is retired without answer, its anchor queue emptied. -/
def retireSource (s : State) (source : Nat) : State :=
  let mine := s.mfb.pends.filter (fun p => p.source == source)
  s.withMfb { s.mfb with pends := s.mfb.pends.filter (fun p => p.source != source),
                         gone := s.mfb.gone ++ (mine.filter (fun p => !p.queued)).map (fun p => (p.frame.src, p.frame.tag, p.frame.dst)),
                         coreWait := s.mfb.coreWait.filter (fun w => 1152 + w.1 != source) }

end State
end Sys2Proof.Machine
end

