-- ==== Sys2Proof/Machine/Forward.lean ====
section
/-! DEFINITION. Forwarding: tables, flow hash, route choice, admission, holding, steering, multicast, mirroring
(spec/03_forwarding.md; R47, R49, R50, R66, R127, R153, R158, R159, R167, R168, R503, R504, R515, R523). -/
namespace Sys2Proof.Machine

namespace State

/-! ## Ports and shape -/
def pstate (s : State) (P : Nat) : Nat := s.rf (PRT_PORT_STS.STATE P)
def active (s : State) (P : Nat) : Bool := s.pstate P == 4
def draining (s : State) (P : Nat) : Bool := s.rb (PRT_PORT_CTL.DRAIN P)
/-- A torus port is eligible while ACTIVE with DRAIN clear (R81). -/
def eligible (s : State) (P : Nat) : Bool := s.active P && !s.draining P
def gatewayPort (s : State) (P : Nat) : Bool := !isTorus P && s.rf (PRT_PORT_CTL.MODE P) == 2
/-- Is port `P` served as an 800 Gb/s port (torus, or an even member of a bonded pair)? -/
def fast (s : State) (P : Nat) : Bool := isTorus P || s.rb (PRT_PORT_CTL.BOND P)
/-- Is port `P` the odd member of a bonded pair (R13, R62)? -/
def oddBonded (s : State) (P : Nat) : Bool := !isTorus P && P % 2 == 1 && s.rb (PRT_PORT_CTL.BOND (P - 1))

def shapeA (s : State) : Nat := s.rf HUB_PLANE.A
def shapeB (s : State) : Nat := s.rf HUB_PLANE.B
def shapeC (s : State) : Nat := s.rf HUB_PLANE.C
/-- Devices of the plane: a × b × c (R23). -/
def planeSize (s : State) : Nat := s.shapeA * s.shapeB * s.shapeC
/-- Size of dimension `k`. -/
def dim (s : State) (k : Nat) : Nat := if k = 0 then s.shapeA else if k = 1 then s.shapeB else s.shapeC
/-- Coordinate `k` of device `i` (R23). -/
def coord (s : State) (k i : Nat) : Nat :=
  if k = 0 then i % s.shapeA else if k = 1 then i / s.shapeA % s.shapeB else i / (s.shapeA * s.shapeB)
/-- The device next to `i` in direction `d` (R14, R24). -/
def neighbour (s : State) (i d : Nat) : Nat :=
  let k := d / 2
  let n := s.dim k
  let c := s.coord k i
  let c' := if d % 2 = 0 then (c + 1) % n else (c + n - 1) % n
  let step := if k = 0 then 1 else if k = 1 then s.shapeA else s.shapeA * s.shapeB
  i + c' * step - c * step

/-! ## Tables (R72, R89, R93) -/
def feidRaw (s : State) (n f : Nat) : Word := sparseGet (fun _ => 0#64) s.fwd.feid (n * 262144 + f)
/-- Key of a table entry in `tblBad`: table 0 FEID, 1 multicast, 2 context home, 3 direction map. -/
def tblKey (t n i : Nat) : Nat := (t * 16 + n) * 1048576 + i
def tblGood (s : State) (t n i : Nat) : Bool := !s.fwd.tblBad.contains (tblKey t n i)
/-- The FEID table entry a lookup of `f` on crux die `n` uses: none where it is not VALID, names a device outside the
plane, holds an uncorrectable word, or is a device address (R72, R447, R504). -/
def feidEntry (s : State) (n f : Nat) : Option Word :=
  let w := s.feidRaw n f
  if f < 0x3FFC0 && w.field 0 1 == 1 && decide (w.field 3 6 < s.planeSize) && s.tblGood 0 n f then some w else none
def homeRaw (s : State) (n c : Nat) : Word := sparseGet (fun _ => 0#64) s.fwd.home (n * 16384 + c)
def mcastWord (s : State) (n g w : Nat) : Word :=
  if w = 0 then sparseGet (fun _ => 0#64) s.fwd.mcast0 (n * 16384 + g)
  else sparseGet (fun _ => 0#64) s.fwd.mcast1 (n * 16384 + g)
/-- The torus port that entry `i` of direction `d` names when every port is eligible (R77). -/
def dirHome (d i : Nat) : Nat := 24 * (i % 16) + 4 * d + (i / 16) % 4
def dirEntry (s : State) (n d i : Nat) : Nat :=
  sparseGet (fun k => dirHome (k % 1536 / 256) (k % 256)) s.fwd.dirMap (n * 1536 + d * 256 + i)
/-- The eligible torus ports of direction `d` in ascending order (R81). -/
def eligiblePorts (s : State) (d : Nat) : List Nat :=
  ((List.range 384).filter (fun t => t % 24 / 4 == d)).filter (fun t => s.eligible (768 + t))

/-! ## The flow hash (R75) -/
def hashOf (seed dst src flow : Nat) : Nat :=
  crcReg seed (bytesLE 8 (dst % 2 ^ 18 + src % 2 ^ 18 * 2 ^ 18 + flow % 2 ^ 20 * 2 ^ 36))
def flowHash (s : State) (n : Nat) (f : Frame) : Nat := hashOf (s.rf (FWD_CFG.HASH_SEED n)) f.dst f.src f.flow

/-! ## Minimal routes (R74) -/
/-- The direction of the next hop from device `i` toward `j`; none where they are the same. -/
def minDir (s : State) (h i j : Nat) : Option Nat :=
  let go : Nat → Option Nat := fun k =>
    let n := s.dim k
    let a := s.coord k i
    let b := s.coord k j
    if a = b then none else
    let up := (b + n - a) % n
    if n = 2 || 2 * up = n then some (2 * k + h / 2 ^ (24 + k) % 2)
    else if 2 * up < n then some (2 * k) else some (2 * k + 1)
  ((go 0).or (go 1)).or (go 2)
/-- The devices of the minimal route from `i` to `j`, `i` first. -/
def minRoute (s : State) (h j : Nat) : Nat → Nat → List Nat
  | 0, i => [i]
  | fuel + 1, i =>
    match s.minDir h i j with
    | none => [i]
    | some d => i :: minRoute s h j fuel (s.neighbour i d)

/-- The direction of the next hop from here toward device `j`: a frame that still has to move in the dimension in which
it is moving (direction `mv`) goes on that way, the longer way round too (R81); any other moves minimally (R74). -/
def onwardDir (s : State) (h : Nat) (mv : Option Nat) (j : Nat) : Option Nat :=
  match s.minDir h s.devIndex j with
  | none => none
  | some d => match mv with
    | some m => if m / 2 = d / 2 then some m else some d
    | none => some d
/-- The direction in which a frame was moving that arrived on torus port `P`: a link leaves in one direction and arrives on
a port of its opposite (R24). -/
def movingDir (P : Nat) : Nat := let d := (P - 768) % 24 / 4; if d % 2 = 0 then d + 1 else d - 1
/-- The torus port a frame of hash `h` leaves by from crux die `n` toward device `j` (R77, R81): the map entry of its
direction, the opposite direction where that has no eligible port, none where neither has. -/
def exitPort (s : State) (n h : Nat) (mv : Option Nat) (j : Nat) : Option Nat :=
  match s.onwardDir h mv j with
  | none => none
  | some d =>
    let t := s.dirEntry n d (h % 256)
    if s.eligible (768 + t) then some (768 + t)
    else
      let d' := if d % 2 = 0 then d + 1 else d - 1
      if (s.eligiblePorts d).isEmpty then
        (let t' := s.dirEntry n d' (h % 256)
         if (s.eligiblePorts d').isEmpty then none else some (768 + t'))
      else some (768 + t)

/-- The traverse intermediate, where the frame takes one (R78, R79). -/
def traverse (s : State) (n : Nat) (f : Frame) (h dest : Nat) : Option Nat :=
  let mode := s.rf (FWD_ROUTE_CFG.TRAV_MODE n f.cls)
  let takes := mode == 2 || (mode == 1 && decide (h / 2 ^ 8 % 256 < s.rf (FWD_ROUTE_CFG.TRAV_FRAC n f.cls)))
  if !takes then none else
  let ex := (s.reg (FWD_DEV_EXCLUDE.a n)).toNat
  let l := (List.range s.planeSize).filter (fun i =>
    i != 0 && i != s.devIndex && i != dest && ex / 2 ^ i % 2 == 0)
  if l.isEmpty then none else some (nth l (h / 2 ^ 16 % 256 % l.length))

end State

/-- Where a frame entered the pipeline: an endpoint port, a torus port, a gateway port, or a cluster or hub. -/
inductive Origin where
  | endpoint (P : Nat)
  | torus (P : Nat)
  | gateway (P : Nat)
  | inside
  deriving DecidableEq, Repr

/-- The port of an origin. -/
def Origin.port : Origin → Option Nat
  | .endpoint P => some P
  | .torus P => some P
  | .gateway P => some P
  | .inside => none

/-- What the lookup and path stages decide (R70). -/
inductive Verdict where
  | noroute (fault : Option (Nat × Nat))   -- discarded, FWD_CNT_NOROUTE; R81 also reports a route fault: device, direction
  | ctxDenied                     -- R93, R159
  | go (f : Frame) (p : Place) (trav : Bool)
  deriving DecidableEq, Repr

namespace State

/-- The steering check of R93 and R159; the cluster the frame goes to where it passes. -/
def ctxCluster (s : State) (n : Nat) (f : Frame) : Option Nat :=
  let w := s.homeRaw n f.ctx
  let ty := if f.kind = 2 then 1 else 2
  let run := f.harness == 0 || s.hrnCopy f.harness == 2
  if w.field 0 1 == 1 && w.field 1 2 == ty && w.field 9 12 == f.harness && s.tblGood 2 n f.ctx && run
  then some (w.field 3 4 * 4 + w.field 7 2) else none

def toward (s : State) (n : Nat) (f : Frame) (h : Nat) (mv : Option Nat) (j : Nat) (trav : Bool) : Verdict :=
  match s.exitPort n h mv j with
  | some P => .go f (.port P) trav
  | none => .noroute (some (j, (s.onwardDir h mv j).getD 0))

/-- A frame to be steered into a cluster. -/
def steerVerdict (s : State) (n : Nat) (f : Frame) : Verdict :=
  match s.ctxCluster n f with
  | some c => .go f (.cluster c) false
  | none => .ctxDenied

def isMemResp (f : Frame) : Bool := f.op == 0x81 || f.op == 0x82 || f.op == 0xC0
/-- A MEM request starts its pending entry at its source crux die (R151). -/
def isMemReq (f : Frame) : Bool := f.kind == 1 && !isMemResp f

/-- Lookup and path choice of a unicast frame on crux die `n` (R72, R74, R78, R79, R92, R132, R504). -/
def decide1 (s : State) (n : Nat) (o : Origin) (f : Frame) : Verdict :=
  let h := s.flowHash n f
  let me := s.devIndex
  let fromEp := match o with | .endpoint _ => true | _ => false
  let here := fromEp || o == .inside
  let mv := match o with | .torus P => some (movingDir P) | _ => none
  if 0x3FFC0 ≤ f.dst then
    (let i := f.dst - 0x3FFC0
     if f.kind != 6 || decide (s.planeSize ≤ i) then .noroute none
     else if i = me then .go f .mgmt false
     else s.toward n f h mv i false)
  else if (f.kind == 2 || f.kind == 3) && fromEp then s.steerVerdict n f
  else match s.feidEntry n f.dst with
    | none => .noroute none
    | some e =>
      let f1 := if f.trav && f.travDev == me then f.setTrav false else f
      if f1.trav then s.toward n f1 h mv f1.travDev false
      else
        let dev := e.field 3 6
        if dev != me then
          (match (if here then s.traverse n f1 h dev else none) with
           | some t => s.toward n ((f1.setTrav true).setTravDev t) h mv t true
           | none => s.toward n f1 h (if f.trav then none else mv) dev false)
        else if e.field 1 1 == 1 then
          (match f1.kind with
           | 2 => s.steerVerdict n f1
           | 3 => s.steerVerdict n f1
           | 4 => s.steerVerdict n f1
           | 1 => .go f1 (if isMemResp f1 then .memReply n else .memCheck n) false
           | 5 => .go f1 .ring false
           | 6 => .go f1 .mgmt false
           | 7 => .go f1 .tele false
           | _ => .noroute none)
        else
          let P := e.field 9 10
          if f1.kind = 1 && e.field 2 1 == 0 then
            .go f1 (if isMemResp f1 then .memReply (dieOf P) else .memCheck (dieOf P)) false
          else .go f1 (.port P) false

/-! ## Queues (R83 to R86, R167) -/
/-- Cells a frame takes (R83). -/
def cellsOf (f : Frame) : Nat := (64 + f.len + 255) / 256

def queueOf (s : State) (P c : Nat) : List Queued := s.fwd.queues.filter (fun x => x.P == P && x.cls == c)
def depth (s : State) (P c : Nat) : Nat := ((s.queueOf P c).map (fun x => x.cells)).sum
/-- Limit of the queue of port `P`, class `c`; a bonded port has its members' sum (R85). -/
def qlimit (s : State) (P c : Nat) : Nat :=
  let n := dieOf P
  let q := idxOf P
  s.rf (FWD_QLIMIT.CELLS n q c) + (if !isTorus P && s.rb (PRT_PORT_CTL.BOND P) then s.rf (FWD_QLIMIT.CELLS n (q + 1) c) else 0)
def placesOf (s : State) (P c : Nat) : List (Nat × Nat × Nat × Nat) :=
  s.fwd.place.filter (fun x => x.1 == P && x.2.1 == c)
def bwWeight (s : State) (h : Nat) : Nat := max 1 (s.rf (HRN_CFG.BW_WEIGHT h))

/-- Does the egress queue take the frame now (R83, R84, R167)? `bw`: write bandwidth is free. -/
def takes (s : State) (P : Nat) (f : Frame) (bw : Bool) : Bool :=
  let c := f.cls
  let q := s.qlimit P c
  let d := s.depth P c
  let r := cellsOf f
  let pl := s.placesOf P c
  let mine := pl.find? (fun x => x.2.2.1 == f.harness)
  bw && decide (d + r ≤ q) &&
  (f.harness == 0 || decide (2 * d < q) ||
    (match mine with
     | some x => decide ((x.2.2.2 + r) * ((pl.map (fun y => s.bwWeight y.2.2.1)).sum) ≤ q * s.bwWeight f.harness)
     | none => decide (pl.length < 16) &&
         decide (r * ((pl.map (fun y => s.bwWeight y.2.2.1)).sum + s.bwWeight f.harness) ≤ q * s.bwWeight f.harness)))

/-- High-water mark of the depth of a queue (R123); a bonded port keeps it in its even member. -/
def markDepth (s : State) (P c : Nat) : State :=
  let x := SCH_QSTAT.HWM_DEPTH (dieOf P) (idxOf P) c
  let d := s.depth P c
  if s.rf x < d then s.wf x d else s

/-- Put a frame in an egress queue, taking or filling its harness's tracking place (R167). -/
def enqueue (s : State) (P : Nat) (f : Frame) (ingress : Option Nat) (cut : Bool) : State :=
  let c := f.cls
  let r := cellsOf f
  let pl := s.placesOf P c
  let has := pl.any (fun x => x.2.2.1 == f.harness)
  let tr := f.harness != 0 && (has || decide (pl.length < 16))
  let place := if !tr then s.fwd.place
    else if has then s.fwd.place.map (fun x => if x.1 == P && x.2.1 == c && x.2.2.1 == f.harness then (P, c, f.harness, x.2.2.2 + r) else x)
    else s.fwd.place ++ [(P, c, f.harness, r)]
  (s.withFwd { s.fwd with queues := s.fwd.queues ++ [⟨P, c, f, r, ingress, s.now, tr, cut⟩], place := place }).markDepth P c

/-- Every queue of the port is empty: V and every F_c are zero (R105). -/
def emptyPort (s : State) (P : Nat) : State :=
  s.setPort P { s.port P with v := 0, fin := [0, 0, 0, 0, 0, 0, 0, 0],
                              heads := [none, none, none, none, none, none, none, none] }

/-- Cells of class `c` held at port `P` (R86). -/
def heldCells (s : State) (P c : Nat) : Nat :=
  ((s.fwd.holds.filter (fun x => x.P == some P && x.cls == c)).map (fun x => x.cells)).sum

/-- Raise XOFF for class `c` where the held cells reach XOFF_ON (R86). -/
def xoffRaise (s : State) (P c : Nat) : State :=
  let p := s.port P
  if s.rf (FWD_HOLD_CFG.XOFF_ON (dieOf P) (idxOf P)) ≤ s.heldCells P c && p.xoffTx / 2 ^ c % 2 == 0 then
    (s.setPort P { p with xoffTx := p.xoffTx + 2 ^ c, xoffDirty := true, xoffAt := some s.now }).inc (FWD_CNT_XOFF.V (dieOf P))
  else s

/-- Clear XOFF for class `c` where the held cells have fallen to XOFF_OFF (R86). -/
def xoffClear (s : State) (P c : Nat) : State :=
  let p := s.port P
  if s.heldCells P c ≤ s.rf (FWD_HOLD_CFG.XOFF_OFF (dieOf P) (idxOf P)) && p.xoffTx / 2 ^ c % 2 == 1 then
    s.setPort P { p with xoffTx := p.xoffTx - 2 ^ c, xoffDirty := true, xoffAt := some s.now }
  else s

/-- Route phase of a frame that arrived on torus port `P` (R87). -/
def routePhase (s : State) (P : Nat) (f : Frame) : Nat :=
  let second := !f.trav && f.travDev != 0
  let dArr := (P - 768) % 24 / 4
  let k := dArr / 2
  let start := if second then f.travDev else ((s.feidEntry (dieOf P) f.src).map (fun e => e.field 3 6)).getD 0
  let a := s.coord k start
  let b := s.coord k s.devIndex
  let wrapped := decide (3 ≤ s.dim k) && (if dArr % 2 = 1 then decide (b < a) else decide (a < b))
  (if second then 2 else 0) + b2n wrapped

/-- Hold a frame at its ingress, charged to the port's pool; discarded where the pool has no room (R86, R87). A frame
from a cluster or a hub waits in its sender and is never discarded. -/
def hold (s : State) (P : Option Nat) (f : Frame) (dests : List Place) (cut : Bool) : State :=
  let r := cellsOf f
  match P with
  | none => s.withFwd { s.fwd with holds := s.fwd.holds ++ [⟨none, f.cls, f, dests, r, 4, cut⟩] }
  | some p =>
    let n := dieOf p
    let cells := s.rf (FWD_HOLD_CFG.HOLD_CELLS n (idxOf p))
    let mine := s.fwd.holds.filter (fun x => x.P == some p)
    let shared := ((mine.filter (fun x => x.phase == 4)).map (fun x => x.cells)).sum
    let cap := if isTorus p then cells - 68 else cells
    let ph := if isTorus p then s.routePhase p f else 4
    let inPh := ((mine.filter (fun x => x.phase == ph)).map (fun x => x.cells)).sum
    if shared + r ≤ cap then
      (s.withFwd { s.fwd with holds := s.fwd.holds ++ [⟨some p, f.cls, f, dests, r, 4, cut⟩] }).xoffRaise p f.cls
    else if isTorus p && decide (inPh + r ≤ 17) then
      (s.withFwd { s.fwd with holds := s.fwd.holds ++ [⟨some p, f.cls, f, dests, r, ph, cut⟩] }).xoffRaise p f.cls
    else
      (s.inc (FWD_CNT_HOLD_DROP.V n)).report ⟨clLINK, 0x02, 1, stOK, unitPortDie (portDie p), f.harness, bytesLE 2 p⟩

/-! ## Refusals that answer (R153, R515) -/

/-- The answer to MEM request `f` with a failing status (R128, R130). -/
def memAnswer (s : State) (f : Frame) (status : Nat) : Frame :=
  let isLoad := f.op == 1
  let isAtom := decide (0x40 ≤ f.op) && decide (f.op ≤ 0x7F)
  let n := if isLoad then f.chunk % 8192 else 0
  FrameSpec.make
   { cls := 2, kind := 1, dst := f.src, src := f.dst, harness := f.harness,
     op := if isLoad then 0x81 else if isAtom then 0xC0 else 0x82, tag := f.tag, flow := f.flow,
     time := s.now, status := status,
     payload := if isLoad then (if status = 0x0E then [] else allOnes (min n 4096)) else if isAtom then allOnes 8 else [],
     checkKind := if isLoad || isAtom then (if isLoad && status = 0x0E then 0 else 1) else 0 }

/-- Report of class REQUEST (R511, R601). -/
def reqReport (s : State) (code sev status unit : Nat) (f : Frame) : State :=
  s.report ⟨clREQUEST, code, sev, status, unit, f.harness, bytesLE 4 f.src ++ bytesLE 4 f.dst ++ bytesLE 1 f.op⟩

/-- The record of an original that is answered at its home crux die, closed with its status and value, and the repeats that
waited for it (R150). -/
def endRecord (s : State) (m : Nat) (f : Frame) (a : Nat × Nat) : State × List Frame :=
  match s.mfb.repeats.find? (fun r => r.die == m && r.src == f.src && r.tag == f.tag && r.target == f.dst && r.answer == none) with
  | none => (s, [])
  | some r => (s.withMfb { s.mfb with repeats := s.mfb.repeats.map (fun q =>
      if q == r then { q with answer := some a, waiting := [] } else q) }, r.waiting)

/-- A frame that meets its egress absent or draining (R56, R82): counted; a MEM request is answered TIMEOUT (R153), and so
are the repeats that wait for it (R150). -/
def absent (s : State) (answer : Frame → State → State) (P : Nat) (f : Frame) : State :=
  let s1 := s.inc (PRT_CNT_ABSENT.V P)
  if f.kind = 1 && !isMemResp f then
    let s2 := (s1.inc (MFB_CNT_TIMEOUT.V (dieOf P))).reqReport 0x07 1 stTIMEOUT (unitCrux (dieOf P)) f
    let r := s2.endRecord (dieOf P) f (stTIMEOUT, 2 ^ 64 - 1)
    r.2.foldl (fun t g => answer (t.memAnswer g stTIMEOUT) (t.inc (MFB_CNT_DUP.V (dieOf P)))) (answer (r.1.memAnswer f stTIMEOUT) r.1)
  else s1

/-- The state names a place that takes no room from a queue of cells: the memory fabric's stages. -/
def placeFree : Place → Bool
  | .memAccept _ => true
  | .memCheck _ => true
  | .memReply _ => true
  | _ => false

/-- Room in a steering queue (4,096 cells) or the hub queue (2,048 cells) (R85). -/
def steerRoom (s : State) (p : Place) (f : Frame) : Bool :=
  let used := ((s.fwd.steer.filter (fun x => x.place == p)).map (fun x => cellsOf x.frame)).sum
  match p with
  | .cluster _ => decide (used + cellsOf f ≤ 4096)
  | _ => decide (used + cellsOf f ≤ 2048)

/-- Is the frame refused at its final egress (R168, R515)? -/
def deliveryDenied (s : State) (P : Nat) (f : Frame) : Bool :=
  !isTorus P && !s.gatewayPort P && f.harness != 0 &&
  ((f.kind != 1 && f.harness != s.rf (PRT_PORT_ID.HARNESS P)) || (s.rf HUB_FAULT_STS.DEV_STATE == 2 && f.kind != 1))

/-- R47 at the final egress toward an endpoint: a mismatch sets BAD, counts and reports FRAME_CRC. -/
def egressCheck (s : State) (P : Nat) (f : Frame) : State × Frame :=
  if isTorus P || f.checksOk || f.bad then (s, f)
  else
    let s1 := (s.inc (FWD_CNT_BAD_MARKED.V (dieOf P)))
    (s1.report ⟨clCHECK, 0x09, 2, stCHECK, unitCrux (dieOf P), f.harness,
      bytesLE 4 (f.check) ++ bytesLE 4 (crc32c 0 f.payload)⟩, f.setBad)

/-- Requests of source FEID `src` that stand before its pending table. -/
def waitingAccept (s : State) (src : Nat) : Nat :=
  (s.fwd.inbox.filter (fun x => (match x.place with | .memAccept _ => true | _ => false) && x.frame.src == src && isMemReq x.frame)).length

/-- Can the frame be placed now? -/
def canPlace (s : State) (p : Place) (f : Frame) (bw : Bool) : Bool :=
  match p with
  | .port P => s.takes P f bw
  | .memAccept _ => s.memRoom f.src f.anchor (s.waitingAccept f.src)
  | q => placeFree q || s.steerRoom q f

/-- The unit a place inside the device belongs to. -/
def placeUnit : Place → Option Nat
  | .port _ => none
  | .cluster c => some (unitCrux (c / 4))
  | .memAccept n => some (unitCrux n)
  | .memCheck n => some (unitCrux n)
  | .memReply n => some (unitCrux n)
  | .ring => some (unitHub 0)
  | .mgmt => some (unitHub 0)
  | .tele => some (unitHub 3)
/-- The place lies on a unit out of service: a frame to it is lost (R518). -/
def placeDead (s : State) (p : Place) : Bool :=
  match placeUnit p with
  | some u => s.fault.outUnits.contains u
  | none => false

/-- The frame put where it was admitted. A steered frame is counted (R94). -/
def placeFrame (s : State) (n : Nat) (p : Place) (f : Frame) (ingress : Option Nat) (cut : Bool) : State :=
  if s.placeDead p then s else
  match p with
  | .port P =>
    let r := s.egressCheck P f
    r.1.enqueue P r.2 ingress cut
  | .memAccept _ => s.withFwd { s.fwd with inbox := s.fwd.inbox ++ [⟨p, f, ingress⟩] }
  | .memReply _ => s.withFwd { s.fwd with inbox := s.fwd.inbox ++ [⟨p, f, ingress⟩] }
  | .memCheck _ => (s.inc (FWD_CNT_STEERED.V n)).withFwd { s.fwd with inbox := s.fwd.inbox ++ [⟨p, f, ingress⟩] }
  | .cluster _ => (s.inc (FWD_CNT_STEERED.V n)).withFwd { s.fwd with steer := s.fwd.steer ++ [⟨p, f, ingress⟩] }
  | .ring => (s.inc (FWD_CNT_STEERED.V n)).withFwd { s.fwd with steer := s.fwd.steer ++ [⟨p, f, ingress⟩] }
  | .mgmt => (s.inc (FWD_CNT_STEERED.V n)).withFwd { s.fwd with steer := s.fwd.steer ++ [⟨p, f, ingress⟩] }
  | .tele => (s.inc (FWD_CNT_STEERED.V n)).withFwd { s.fwd with steer := s.fwd.steer ++ [⟨p, f, ingress⟩] }

/-- One frame offered to one place: discarded at an absent or forbidden egress, admitted, or handed back (true: it
must be held) (R56, R82, R86, R168). -/
def offerPlace (s : State) (answer : Frame → State → State) (n : Nat) (p : Place) (f : Frame) (ingress : Option Nat)
    (bw cut : Bool) : State × Bool :=
  match p with
  | .port P =>
    if !isTorus P && (!s.active P || s.draining P) then (s.absent answer P f, false)
    else if s.deliveryDenied P f then
      (if s.rf HUB_FAULT_STS.DEV_STATE == 2 then (s.inc (PRT_CNT_DENIED.V P), false)
       else (((s.inc (PRT_CNT_DENIED.V P)).inc (HRN_CNT_DENIED.V f.harness)).reqReport 0x02 0 stDENIED (unitCrux (dieOf P)) f, false))
    else if s.takes P f bw then (s.placeFrame n p f ingress cut, false)
    else (s, true)
  | _ => if s.canPlace p f bw then (s.placeFrame n p f ingress cut, false) else (s, true)

/-- Offer a frame to each of its places in turn; the places that did not take it. -/
def offerAll (answer : Frame → State → State) (n : Nat) (f : Frame) (ingress : Option Nat) (bw cut : Bool) :
    List Place → State → State × List Place
  | [], s => (s, [])
  | p :: t, s =>
    let r := s.offerPlace answer n p f ingress bw cut
    let q := offerAll answer n f ingress bw cut t r.1
    (q.1, if r.2 then p :: q.2 else q.2)

/-- Does a held frame of the same port and class stand before this one (R86)? -/
def blocked (s : State) (ingress : Option Nat) (c : Nat) : Bool :=
  s.fwd.holds.any (fun x => x.P == ingress && x.cls == c && ingress.isSome)

/-- Admit a frame to its places, holding it for those that cannot take it now. -/
def admitTo (s : State) (answer : Frame → State → State) (n : Nat) (f : Frame) (ingress : Option Nat) (bw cut : Bool)
    (ps : List Place) : State :=
  if s.blocked ingress f.cls then s.hold ingress f ps cut
  else
    let r := offerAll answer n f ingress bw cut ps s
    if r.2.isEmpty then r.1 else r.1.hold ingress f r.2 cut

/-! ## Multicast (R89 to R91) -/

/-- The devices a multicast frame goes on to from here. -/
def mcastKids (s : State) (n : Nat) (o : Origin) (f : Frame) : List Nat :=
  let h := s.flowHash n f
  let me := s.devIndex
  let mask := (s.mcastWord n f.dst 0).toNat
  let src := match o with
    | .gateway _ => me
    | _ => ((s.feidEntry n f.src).map (fun e => e.field 3 6)).getD me
  (((List.range s.planeSize).filter (fun d => d != me && mask / 2 ^ d % 2 == 1)).filterMap (fun d =>
    let p := s.minRoute h d 12 src
    (p.drop (p.idxOf me + 1)).head?)).dedup
/-- Those of them that no eligible port leads to, with the direction wanted (R81). -/
def mcastLost (s : State) (n : Nat) (o : Origin) (f : Frame) : List (Nat × Nat) :=
  let h := s.flowHash n f
  ((s.mcastKids n o f).filter (fun k => (s.exitPort n h none k).isNone)).map (fun k => (k, (s.minDir h s.devIndex k).getD 0))
/-- The places of the copies of a multicast frame on this device. -/
def mcastPlaces (s : State) (n : Nat) (o : Origin) (f : Frame) : List Place :=
  let h := s.flowHash n f
  let me := s.devIndex
  let mask := (s.mcastWord n f.dst 0).toNat
  let far := (s.mcastKids n o f).filterMap (fun k => (s.exitPort n h none k).map Place.port)
  let near := if mask / 2 ^ me % 2 == 1 then
      ((List.range 16).filter (fun m => (s.mcastWord n f.dst 1).field (48 + m) 1 == 1)).flatMap (fun m =>
        ((List.range 48).filter (fun k => (s.mcastWord m f.dst 1).field k 1 == 1)).filterMap (fun k =>
          if o == .endpoint (48 * m + k) then none else some (Place.port (48 * m + k))))
    else []
  far ++ near

/-- Refused under R89. -/
def mcastBad (s : State) (n : Nat) (f : Frame) : Bool :=
  decide (16384 ≤ f.dst) || (s.mcastWord n f.dst 0 == 0) || f.kind == 1 || f.kind == 5 || !s.tblGood 1 n f.dst

/-! ## Mirroring (R95 to R97) -/

def mirMatches (s : State) (m point P : Nat) (f : Frame) : Bool :=
  let k := s.rf (TEL_MIR_CTL.KIND m)
  let sel := s.rf (TEL_MIR_CTL.PORT_SEL m)
  (k == 1 || (k == 2 && s.rf (TEL_MIR_N.V m) != 0)) && s.rf (TEL_MIR_CTL.POINT m) == point &&
  (sel == 0 || (sel == 1 && s.rf (TEL_MIR_CTL.DIE m) == dieOf P) || (sel == 2 && s.rf (TEL_MIR_CTL.PORT m) == P)) &&
  s.rf (TEL_MIR_CTL.CLASS_MASK m) / 2 ^ f.cls % 2 == 1 && s.rf (TEL_MIR_CTL.KIND_MASK m) / 2 ^ f.kind % 2 == 1 &&
  (!s.rb (TEL_MIR_CTL.HARNESS_EN m) || s.rf (TEL_MIR_CTL.HARNESS m) == f.harness) &&
  (!s.rb (TEL_MIR_CTL.BAD_ONLY m) || f.bad)

/-- A 64-byte header ring record (R96). -/
def mirRecord (s : State) (point P : Nat) (f : Frame) (cut : Bool) : List Byte :=
  bytesLE 8 s.now ++ f.headerBytes ++ bytesLE 2 P ++ bytesLE 1 (point + 2 * b2n f.bad + 4 * b2n cut) ++ bytesLE 5 0

/-- Session `m` takes its copy of a matching frame, or drops it. -/
def mirTake (s : State) (m point P : Nat) (f : Frame) (cut : Bool) : State :=
  let seen := sparseGet (fun _ => 0) s.fwd.mirN m
  let full := s.rb (TEL_MIR_CTL.STOP_ON_FULL m) && s.rf (TEL_MIR_CTL.KIND m) == 1 &&
    decide (2 ^ s.rf (TEL_MIR_RING_LOG2.V m) ≤ s.rf (TEL_MIR_WPTR.V m))
  if full then s else
  let s1 := (s.inc (TEL_MIR_MATCH.V m)).withFwd { s.fwd with mirN := sparseSet (fun _ => 0) s.fwd.mirN m (seen + 1) }
  if s.rf (TEL_MIR_CTL.KIND m) = 1 then
    (let size := 2 ^ s.rf (TEL_MIR_RING_LOG2.V m)
     let w := s.rf (TEL_MIR_WPTR.V m)
     let w0 := if size ≤ w then 0 else w
     match s1.hRange 0 (s.rf (TEL_MIR_RING_BASE.V m) + w0) 64 with
     | some rs => (s1.withMem (s1.mem.writeRuns 0 rs (s1.mirRecord point P f cut))).wf (TEL_MIR_WPTR.V m) (w0 + 64)
     | none => s1.inc (TEL_MIR_DROP.V m))
  else if seen % s.rf (TEL_MIR_N.V m) = 0 then
    (if s1.rf TEL_COLLECT.MODE = 0 then s1 else
     let s2 := s1.offer 0 ⟨1, 1, (f.headerBytes ++ f.payload).take 128⟩
     if (s2.reg (TEL_WO_DROP.a 0 1)) = (s1.reg (TEL_WO_DROP.a 0 1)) then s2 else s2.inc (TEL_MIR_DROP.V m))
  else s1

/-- Every session at a match point; `m` counts down from 16. -/
def mirrorFrom : Nat → Nat → Nat → Frame → Bool → State → State
  | 0, _, _, _, _, s => s
  | m + 1, point, P, f, cut, s =>
    let i := 15 - m
    mirrorFrom m point P f cut (if s.mirMatches i point P f then s.mirTake i point P f cut else s)
def mirror (s : State) (point P : Nat) (f : Frame) (cut : Bool) : State := mirrorFrom 16 point P f cut s

/-! ## The pipeline from the lookup stage on (R69, R70) -/

/-- Is a frame sent cut-through (R83)? -/
def cutThrough (s : State) (n : Nat) (o : Origin) (p : Place) : Bool :=
  s.rb (FWD_CFG.CUT_EN n) &&
  (match p, o.port with
   | .port P, some I => s.fast I || !s.fast P
   | _, _ => true)

/-- The route fault of R81: destination device and direction (R511). -/
def noRouteFault (s : State) (n : Nat) (f : Frame) (x : Nat × Nat) : State :=
  s.report ⟨clROUTE, 0x01, 1, stOK, unitCrux n, f.harness, bytesLE 1 x.1 ++ bytesLE 1 x.2⟩

/-- A frame through lookup, path choice and admission on crux die `n`. `fuel` bounds the answers a discard makes. -/
def forwardF : Nat → Nat → Origin → Bool → Frame → State → State
  | 0, _, _, _, _, s => s
  | fuel + 1, n, o, bw, f, s0 =>
    let s := s0.inc (FWD_CNT_FRAMES.V n)
    let answer : Frame → State → State := fun a t => forwardF fuel n .inside true a t
    if f.mcast then
      (if s.mcastBad n f then s.inc (FWD_CNT_NOROUTE.V n)
       else
         let ps := s.mcastPlaces n o f
         let s1 := (s.mcastLost n o f).foldl (fun t x => (t.inc (FWD_CNT_NOROUTE.V n)).noRouteFault n f x) s
         (s1.count (FWD_CNT_MCAST_COPY.V n) ps.length).admitTo answer n f o.port bw (s.rb (FWD_CFG.CUT_EN n)) ps)
    else match s.decide1 n o f with
      | .noroute flt =>
        let s1 := s.inc (FWD_CNT_NOROUTE.V n)
        match flt with
        | some x => s1.noRouteFault n f x
        | none => s1
      | .ctxDenied =>
        ((s.inc (FWD_CNT_CTX_DENIED.V n)).inc (HRN_CNT_DENIED.V f.harness)).reqReport 0x03 0 stDENIED (unitCrux n) f
      | .go g p tr =>
        let s1 := if tr then s.inc (FWD_CNT_TRAV.V n) else s
        s1.admitTo answer n g o.port bw (s.cutThrough n o p) [p]

/-- A frame that a cluster, a hub or the memory fabric of crux die `n` sends. -/
def send (s : State) (n : Nat) (f : Frame) : State := forwardF 3 n .inside true f s

/-! ## Ingress checks (R46, R49, R50, R66, R127, R503, R515, R523) -/

/-- An OP that its KIND reserves (R127, R333, R362, R431). -/
def opReserved (f : Frame) : Bool :=
  match f.kind with
  | 1 => !(f.op == 1 || f.op == 2 || f.op == 3 || (decide (0x40 ≤ f.op) && decide (f.op ≤ 0x7F)) || isMemResp f)
  | 2 => f.op == 0 || decide (8 < f.op)
  | 3 => !(f.op == 1 || f.op == 2)
  | 4 => !(decide (1 ≤ f.op) && decide (f.op ≤ 4))
  | 5 => !(decide (1 ≤ f.op) && decide (f.op ≤ 4))
  | _ => false

/-- A MEM frame that breaks R127 or R139. -/
def memMalformed (f : Frame) : Bool :=
  let lenBad := match f.op with
    | 1 => f.len != 0
    | 2 => f.len == 0
    | 3 => f.len == 0
    | 0x81 => false
    | 0x82 => f.len != 0
    | 0xC0 => f.len != 8
    | _ => f.len != (if f.op % 8 = 7 then 16 else 8)
  f.kind == 1 && (!f.first || !f.last || f.frag != 0 || f.ctx != 0 || f.epoch != 0 || lenBad ||
    (f.anchor && !((f.op == 2 || f.op == 3) && decide (f.addr % 64 + f.len ≤ 64)) && !(decide (0x40 ≤ f.op) && decide (f.op ≤ 0x7F))) ||
    (f.checkKind == 0 && f.len != 0) || (f.op == 1 && decide (8192 ≤ f.chunk)) ||
    (if isMemResp f then f.cls != 2 else f.cls != 1))

/-- The MALFORMED conditions of R46, R49 and R127. -/
def malformed (f : Frame) : Bool :=
  f.ver != 1 || decide (4096 < f.len) || f.len != f.payload.length || f.reservedSet || f.checkKind == 3 ||
  (f.checkKind == 0 && !(f.kind == 6 || f.kind == 7 || (f.kind == 1 && f.len == 0))) ||
  (f.checkKind == 1 && decide (2 ^ 32 ≤ f.check)) || (f.checkKind == 2 && decide (2 ^ 61 ≤ f.check)) ||
  opReserved f || memMalformed f

/-- The fields an endpoint port stamps (R48). -/
def stamp (s : State) (P : Nat) (f : Frame) : Frame :=
  { f with
    w0 := ((f.w0.withField 28 18 (s.rf (PRT_PORT_ID.FEID P))).withField 46 12 (s.rf (PRT_PORT_ID.HARNESS P))).withField 62 1 0
    w1 := f.w1.withField 57 6 0
    w5 := (f.w5.withField 0 32 s.now).withField 32 8 0 }.sealHeader

/-- New messages are turned away in EXPIRED and RETURNED (R523); those begun go on. -/
def messageBarred (s : State) (P : Nat) (f : Frame) : Bool :=
  (s.rf HUB_FAULT_STS.MP_STATE == 2 || s.rf HUB_FAULT_STS.MP_STATE == 3) && !(s.port P).openMsgs.contains f.seq

/-- The messages open at an ingress after this frame (R56). -/
def noteMessage (s : State) (P : Nat) (f : Frame) : State :=
  let p := s.port P
  let l := if f.last then p.openMsgs.erase f.seq else insertNat p.openMsgs f.seq
  s.setPort P { p with openMsgs := l }

/-- A frame accepted by an endpoint port (R48, R49). -/
def endpointIngress (s : State) (P : Nat) (bw : Bool) (f : Frame) : State :=
  let h := s.rf (PRT_PORT_ID.HARNESS P)
  if !s.active P then s.inc (PRT_CNT_DENIED.V P)
  else if malformed f then s.inc (PRT_CNT_MALFORMED.V P)
  else if f.kind = 6 || f.kind = 7 then s.inc (PRT_CNT_DENIED.V P)
  else if s.rf (PRT_PORT_CTL.CLASS_MASK P) / 2 ^ f.cls % 2 = 0 then s.inc (PRT_CNT_DENIED.V P)
  else if f.bad then s.inc (PRT_CNT_ABORTED.V P)
  else if h != 0 && (s.hrnCopy h == 4 || s.rf HUB_FAULT_STS.DEV_STATE == 2) then s.inc (PRT_CNT_DENIED.V P)
  else if s.messageBarred P f then s.inc (PRT_CNT_DENIED.V P)
  else
    let g := s.stamp P f
    let s1 := (s.noteMessage P f).mirror 0 P g false
    if g.kind == 1 && g.op == 0xC0 && !g.mcast then s1.placeFrame (dieOf P) (.memAccept (dieOf P)) g (some P) false
    else if isMemReq g && !g.mcast then
      (if s1.blocked (some P) g.cls then s1.hold (some P) g [.memAccept (dieOf P)] false
       else s1.placeFrame (dieOf P) (.memAccept (dieOf P)) g (some P) false)
    else forwardF 3 (dieOf P) (.endpoint P) bw g s1

/-- One harness range of R66 admits `h`. -/
def gwRange (s : State) (P w h : Nat) : Bool :=
  (s.rb (PRT_GW_HSET.VALID0 P w) && decide (s.rf (PRT_GW_HSET.LO0 P w) ≤ h) && decide (h ≤ s.rf (PRT_GW_HSET.HI0 P w))) ||
  (s.rb (PRT_GW_HSET.VALID1 P w) && decide (s.rf (PRT_GW_HSET.LO1 P w) ≤ h) && decide (h ≤ s.rf (PRT_GW_HSET.HI1 P w)))

/-- Is a FEID one of this plane's own (R29)? -/
def ownFeid (s : State) (n f : Nat) : Bool :=
  match s.feidEntry n f with
  | some e => e.field 2 1 == 0
  | none => false

/-- A gateway port accepts a peer frame only inside its configured ranges (R29, R66). -/
def gatewayAdmits (s : State) (P : Nat) (f : Frame) : Bool :=
  s.rb (PRT_GW_PEER0.VALID P) && decide (s.rf (PRT_GW_PEER0.FEID_LO P) ≤ f.src) && decide (f.src ≤ s.rf (PRT_GW_PEER0.FEID_HI P)) &&
  (s.gwRange P 0 f.harness || s.gwRange P 1 f.harness || s.gwRange P 2 f.harness || s.gwRange P 3 f.harness) &&
  !s.ownFeid (dieOf P) f.src

/-- A frame that arrives with BAD set: its egress may have `started` before its tail told so (R88). -/
def badGoesOn (s : State) (P : Nat) (started : Bool) : Bool := started && s.rb (FWD_CFG.CUT_EN (dieOf P))

def gatewayIngress (s : State) (P : Nat) (bw started : Bool) (f : Frame) : State :=
  if !s.active P then s.inc (PRT_CNT_DENIED.V P)
  else if !s.gatewayAdmits P f then
    ((s.inc (PRT_CNT_DENIED.V P)).inc (HRN_CNT_DENIED.V f.harness)).reqReport 0x03 0 stDENIED (unitPortDie (portDie P)) f
  else if f.bad && !s.badGoesOn P started then s.inc (FWD_CNT_BAD_DISCARD.V (dieOf P))
  else
    let g := f.setHops 0
    forwardF 3 (dieOf P) (.gateway P) bw g (s.mirror 0 P g false)

/-- A torus port carries stamped fields unchanged, counts a hop and applies the hop limit (R50), the LOCK rule (R503)
and R88. -/
def torusIngress (s : State) (P : Nat) (bw started : Bool) (f : Frame) : State :=
  if !s.active P then s.inc (PRT_CNT_DENIED.V P)
  else if !s.rb HUB_PLANE.LOCKED && f.kind != 6 then s.inc (PRT_CNT_DENIED.V P)
  else if f.kind == 6 && f.op == 1 then s      -- a time frame is consumed by the port die (R117)
  else if f.bad && !s.badGoesOn P started then s.inc (FWD_CNT_BAD_DISCARD.V (dieOf P))
  else if 24 < f.hops + 1 then
    (s.inc (PRT_CNT_MALFORMED.V P)).report ⟨clROUTE, 0x02, 1, stOK, unitPortDie (portDie P), f.harness,
      bytesLE 1 (((s.feidEntry (dieOf P) f.dst).map (fun e => e.field 3 6)).getD (f.dst % 64)) ++ bytesLE 1 (movingDir P)⟩
  else
    let g := f.setHops (f.hops + 1)
    forwardF 3 (dieOf P) (.torus P) bw g (s.mirror 0 P g false)

/-- A frame that belay has accepted enters the pipeline. `late`: its last byte came after E + D + G/2 (R122). -/
def ingress (s : State) (P : Nat) (bw late started : Bool) (f : Frame) : State :=
  let s0 := (s.inc (PRT_CNT_RX_FRAMES.V P)).count (PRT_CNT_RX_BYTES.V P) f.wireLen
  let s1 := if late && f.cls == 0 then s0.inc (SCH_CNT_LATE.V (dieOf P)) else s0
  if isTorus P then s1.torusIngress P bw started f
  else if s1.gatewayPort P then s1.gatewayIngress P bw started f
  else s1.endpointIngress P bw f

end State
end Sys2Proof.Machine
end

