-- ==== Sys2Proof/Machine/Flags.lean ====
section
/-! DEFINITION. Arithmetic flags (R218, R228) and the status word of an engine instruction (R277). -/
namespace Sys2Proof.Machine

/-- The arithmetic flags, as bits of CRX_CORE_ARITH (R228). -/
def fNanIn : Nat := 1
def fInvalid : Nat := 2
def fOvf : Nat := 4
def fUnf : Nat := 8
def fInexact : Nat := 16

/-- The status word of R277. -/
def statusWord (status flags oob : Nat) : Nat :=
  status % 256 + flags % 32 * 256 + (if oob = 0 then 0 else 8192) + min oob 0xFFFFFFFF * 2 ^ 32

end Sys2Proof.Machine
end

