-- ==== Sys2Proof/Machine/Num.lean ====
section
/-! DEFINITION. Number formats, the single rounding, block scales, the ridge accumulator, RP64 and RPX
(spec/08_number_formats.md, spec/09_exact_arithmetic.md). Every finite value is an integer times a power of two. -/
namespace Sys2Proof

/-! ## Formats (R203 to R206) -/

namespace Fmt
def bits : Fmt → Nat
  | .fp32 => 32 | .bf16 => 16 | .fp16 => 16 | .e4m3 => 8 | .e5m2 => 8 | .e3m2 => 6 | .e2m1 => 4
  | .int8 => 8 | .int16 => 16 | .int32 => 32
def isInt : Fmt → Bool
  | .int8 => true | .int16 => true | .int32 => true | _ => false
/-- FP6 and FP4 carry block scales (R208). -/
def mx : Fmt → Bool
  | .e3m2 => true | .e2m1 => true | _ => false
/-- Precision with the implicit bit. -/
def p : Fmt → Nat
  | .fp32 => 24 | .bf16 => 8 | .fp16 => 11 | .e4m3 => 4 | .e5m2 => 3 | .e3m2 => 3 | .e2m1 => 2
  | .int8 => 7 | .int16 => 15 | .int32 => 31
def bias : Fmt → Nat
  | .fp32 => 127 | .bf16 => 127 | .fp16 => 15 | .e4m3 => 7 | .e5m2 => 15 | .e3m2 => 3 | .e2m1 => 1 | _ => 0
def emin : Fmt → Int
  | .fp32 => -126 | .bf16 => -126 | .fp16 => -14 | .e4m3 => -6 | .e5m2 => -14 | .e3m2 => -2 | .e2m1 => 0 | _ => 0
def emax : Fmt → Int
  | .fp32 => 127 | .bf16 => 127 | .fp16 => 15 | .e4m3 => 8 | .e5m2 => 15 | .e3m2 => 4 | .e2m1 => 2 | _ => 0
def hasInf : Fmt → Bool
  | .fp32 => true | .bf16 => true | .fp16 => true | .e5m2 => true | _ => false
/-- Bits of the exponent field. -/
def ebits (f : Fmt) : Nat := f.bits - f.p
/-- The exponent of the spacing at the largest finite value, and that value in units of it. -/
def maxExp (f : Fmt) : Int := if f.isInt then 0 else f.emax - f.p + 1
def maxMant (f : Fmt) (neg : Bool) : Nat :=
  if f.isInt then (if neg then 2 ^ f.p else 2 ^ f.p - 1)
  else match f with
    | .e4m3 => 14
    | _ => 2 ^ f.p - 1
/-- Canonical NaN (R205); FP6, FP4 and integers have none. -/
def canonNan : Fmt → Nat
  | .fp32 => 0x7FC00000 | .bf16 => 0x7FC0 | .fp16 => 0x7E00 | .e4m3 => 0x7F | .e5m2 => 0x7E | _ => 0
/-- Whole bytes of an element of 8 bits or more. -/
def bytes (f : Fmt) : Nat := f.bits / 8
end Fmt

namespace Machine

/-- The value of an element: NaN, an infinity, a signed zero, or a non-zero integer times 2^-149 (R204, R210). -/
inductive Val where
  | nan
  | inf (neg : Bool)
  | zero (neg : Bool)
  | fin (x : Int)
  deriving DecidableEq, Repr

/-- A signed magnitude: `n` times 2^(e - 149), negative where `neg`. -/
def Val.make (neg : Bool) (n : Nat) (e : Nat) : Val :=
  if n = 0 then .zero neg else .fin (if neg then -((n * 2 ^ e : Nat) : Int) else ((n * 2 ^ e : Nat) : Int))

/-- Decode an element (R204, R205). `sc`: the block's scale byte, for FP6 and FP4 (R210). -/
def decodeElem (f : Fmt) (code sc : Nat) : Val :=
  if f.isInt then
    (let w := f.bits
     let v : Int := if 2 ^ (w - 1) ≤ code then (code : Int) - 2 ^ w else code
     if v = 0 then .zero false else .fin (v * 2 ^ 149))
  else
    let w := f.bits
    let mb := f.p - 1
    let neg := code / 2 ^ (w - 1) % 2 == 1
    let e := code / 2 ^ mb % 2 ^ f.ebits
    let m := code % 2 ^ mb
    let allE := 2 ^ f.ebits - 1
    if f.mx then
      (if sc = 0xFF then .nan
       else
         -- value is n * 2^(ex) with ex = max(e,1) - bias - mb + scale - 127, and -149 is below every such exponent
         let n := if e = 0 then m else m + 2 ^ mb
         Val.make neg n (149 + max e 1 + sc - f.bias - mb - 127))
    else if f == .e4m3 then
      (if e = allE && m = 7 then .nan
       else Val.make neg (if e = 0 then m else m + 2 ^ mb) (149 + max e 1 - f.bias - mb))
    else if e = allE then (if m = 0 then .inf neg else .nan)
    else Val.make neg (if e = 0 then m else m + 2 ^ mb) (149 + max e 1 - f.bias - mb)

/-! ## Rounding (R215 to R222) -/

/-- Random bits of SR(n) (R220). -/
def srMix (x : Nat) : Nat :=
  let x := x ^^^ (x / 2 ^ 30)
  let x := x * 0xBF58476D1CE4E5B9 % 2 ^ 64
  let x := x ^^^ (x / 2 ^ 27)
  let x := x * 0x94D049BB133111EB % 2 ^ 64
  x ^^^ (x / 2 ^ 31)
def srBits (seed tensor index n : Nat) : Nat :=
  let key := srMix (seed ^^^ (tensor * 0x9E3779B97F4A7C15 % 2 ^ 64))
  let st := srMix (key ^^^ (index * 0xD1B54A32D192ED03 % 2 ^ 64))
  st / 2 ^ (64 - n)

/-- Does the rounding raise the magnitude: kept `k`, remainder `rem` below `2^d`, sign, random bits `r` (R215)? -/
def roundsUp (mode : Rnd) (neg : Bool) (k rem d r : Nat) : Bool :=
  match mode with
  | .rne => decide (2 ^ d < 2 * rem) || (2 * rem == 2 ^ d && k % 2 == 1)
  | .rtz => false
  | .rup => !neg
  | .rdn => neg
  | .sr n => decide (2 ^ n ≤ rem * 2 ^ n / 2 ^ d + r)

/-- What a rounded finite value becomes: an infinity, the largest finite value, or units of a power of two. -/
inductive Rounded where
  | inf
  | max
  | units (m : Nat) (e : Int)
  deriving DecidableEq, Repr

/-- The result of an overflow (R217). -/
def overflowTo (mode : Rnd) (ov : Ovf) (neg hasInf : Bool) : Rounded :=
  if ov == .sat || !hasInf then .max
  else match mode with
    | .rtz => .max
    | .rup => if neg then .max else .inf
    | .rdn => if neg then .inf else .max
    | _ => .inf

/-- Is `a * 2^ea` greater than `b * 2^eb`? -/
def gtPow (a : Nat) (ea : Int) (b : Nat) (eb : Int) : Bool :=
  if eb ≤ ea then decide (b < a * 2 ^ (ea - eb).toNat) else decide (b * 2 ^ (eb - ea).toNat < a)

/-- round() of R215 on a magnitude `n * 2^e`, n not 0, with its flags (R218). -/
def roundMag (f : Fmt) (mode : Rnd) (ov : Ovf) (neg : Bool) (n : Nat) (e : Int) (r : Nat) : Rounded × Nat :=
  let lg : Int := (Nat.log2 n : Int) + e
  let qe : Int := if f.isInt then 0 else max lg f.emin - f.p + 1
  let d : Nat := (qe - e).toNat
  let k : Nat := if qe ≤ e then n * 2 ^ (e - qe).toNat else n / 2 ^ d
  let rem : Nat := if qe ≤ e then 0 else n % 2 ^ d
  let m := if rem != 0 && roundsUp mode neg k rem d r then k + 1 else k
  let tiny := !f.isInt && decide (lg < f.emin)
  if gtPow m qe (f.maxMant neg) f.maxExp then (overflowTo mode ov neg f.hasInf, fOvf ||| fInexact)
  else (.units m qe, if rem = 0 then 0 else fInexact ||| (if tiny then fUnf else 0))

/-- The code of a rounded value in a format of its own scale. -/
def encodeRounded (f : Fmt) (neg : Bool) : Rounded → Nat
  | .inf => b2n neg * 2 ^ (f.bits - 1) + (2 ^ f.ebits - 1) * 2 ^ (f.p - 1)
  | .max =>
    if f.isInt then (if neg then 2 ^ (f.bits - 1) else 2 ^ (f.bits - 1) - 1)
    else
      let m := f.maxMant neg
      b2n neg * 2 ^ (f.bits - 1) + (f.emax + f.bias).toNat * 2 ^ (f.p - 1) + (m - 2 ^ (f.p - 1))
  | .units m e =>
    if f.isInt then (if neg then (2 ^ f.bits - m) % 2 ^ f.bits else m)
    else
      let mb := f.p - 1
      let s := b2n neg * 2 ^ (f.bits - 1)
      if m < 2 ^ mb then s + m
      else if m = 2 ^ f.p then s + (e + 1 + mb + f.bias).toNat * 2 ^ mb
      else s + (e + mb + f.bias).toNat * 2 ^ mb + (m - 2 ^ mb)

/-- The value, in units of 2^-298, of a code that `encodeRounded` gives; for the remainder of a pair. -/
def roundedInt (f : Fmt) (neg : Bool) (x : Rounded) : Int :=
  let mag : Nat := match x with
    | .inf => 0
    | .max => f.maxMant neg * 2 ^ (f.maxExp + 298).toNat
    | .units m e => m * 2 ^ (e + 298).toNat
  if neg then -(mag : Int) else mag

/-! ## The ridge accumulator (R229 to R237) -/

def Acc.empty : Acc :=
  { v := 0, wrap := 0, nan := false, invalid := false, pinf := false, ninf := false, ovt := false, nonempty := false,
    nz := false, pz := false }

/-- MAX_FP32 in units of 2^-298. -/
def maxFp32 : Int := (2 ^ 24 - 1) * 2 ^ 402

/-- merge of R233. -/
def Acc.merge (a b : Acc) : Acc :=
  let raw := a.v + b.v
  let cv := (raw + 2 ^ 479) % 2 ^ 480 - 2 ^ 479
  let carry : Int := if 0 ≤ a.v && 0 ≤ b.v && cv < 0 then 1 else if a.v < 0 && b.v < 0 && 0 ≤ cv then -1 else 0
  let sum := a.wrap + b.wrap + carry
  let sat := a.wrap == 127 || a.wrap == -127 || b.wrap == 127 || b.wrap == -127
  let w := if sat then (if a.wrap == 127 || b.wrap == 127 then 127 else -127) else sum
  let ne := a.nonempty || b.nonempty
  { v := cv, wrap := max (-127) (min 127 w), nan := a.nan || b.nan, invalid := a.invalid || b.invalid,
    pinf := a.pinf || b.pinf, ninf := a.ninf || b.ninf, ovt := a.ovt || b.ovt, nonempty := ne,
    nz := (a.nz || !a.nonempty) && (b.nz || !b.nonempty) && ne,
    pz := (a.pz || !a.nonempty) && (b.pz || !b.nonempty) && ne }

/-- Accumulator of a finite term of `x` units of 2^-298, `x` not 0 (R231 rows 4 and 6). -/
def Acc.ofInt (ov : Ovf) (x : Int) : Acc :=
  let e := { Acc.empty with nonempty := true }
  if maxFp32 < x then
    (if ov == .ieee then { e with ovt := true, pinf := true } else { e with ovt := true, v := maxFp32 })
  else if x < -maxFp32 then
    (if ov == .ieee then { e with ovt := true, ninf := true } else { e with ovt := true, v := -maxFp32 })
  else { e with v := x }

/-- A(t) of one input element (R231). -/
def Acc.ofVal (ov : Ovf) : Val → Acc
  | .nan => { Acc.empty with nonempty := true, nan := true }
  | .inf true => { Acc.empty with nonempty := true, ninf := true }
  | .inf false => { Acc.empty with nonempty := true, pinf := true }
  | .zero neg => { Acc.empty with nonempty := true, nz := neg, pz := !neg }
  | .fin x => Acc.ofInt ov (x * 2 ^ 149)

def Val.neg : Val → Bool
  | .nan => false
  | .inf n => n
  | .zero n => n
  | .fin x => decide (x < 0)

/-- A(t) of a product (R231). -/
def Acc.ofProd (ov : Ovf) (a b : Val) : Acc :=
  let neg := a.neg != b.neg
  match a, b with
  | .nan, _ => Acc.ofVal ov .nan
  | _, .nan => Acc.ofVal ov .nan
  | .inf _, .zero _ => { Acc.empty with nonempty := true, invalid := true }
  | .zero _, .inf _ => { Acc.empty with nonempty := true, invalid := true }
  | .inf _, _ => Acc.ofVal ov (.inf neg)
  | _, .inf _ => Acc.ofVal ov (.inf neg)
  | .zero _, _ => Acc.ofVal ov (.zero neg)
  | _, .zero _ => Acc.ofVal ov (.zero neg)
  | .fin x, .fin y => Acc.ofInt ov (x * y)

/-- The value an accumulator holds, after the precedence of R235: NaN, an infinity, a zero, or units of 2^-298. -/
inductive Exact where
  | nan
  | inf (neg : Bool)
  | zero (neg : Bool)
  | num (x : Int)
  deriving DecidableEq, Repr

def Acc.x (a : Acc) : Int := a.v + a.wrap * 2 ^ 480

/-- Rules 1 to 4 of R235 and the zero sign of R236. -/
def Acc.exact (a : Acc) (mode : Rnd) : Exact :=
  if a.nan || a.invalid || (a.pinf && a.ninf) then .nan
  else if a.pinf then .inf false
  else if a.ninf then .inf true
  else if a.x = 0 then .zero (if mode == .rdn then a.nonempty && !a.pz else a.nz)
  else .num a.x

/-- Flags an accumulator's state adds, whatever rule decides (R235). -/
def Acc.stateFlags (a : Acc) : Nat :=
  (if a.nan then fNanIn else 0) ||| (if a.invalid || (a.pinf && a.ninf) then fInvalid else 0) |||
  (if a.ovt then fOvf ||| fInexact else 0)

def Val.exact : Val → Exact
  | .nan => .nan
  | .inf n => .inf n
  | .zero n => .zero n
  | .fin x => .num (x * 2 ^ 149)

/-- One element of a format without block scales (R225), with the flags of rows 1 to 4 but NAN_IN. -/
def encodeExact (f : Fmt) (mode : Rnd) (ov : Ovf) (r : Nat) : Exact → Nat × Nat
  | .nan => if f.isInt then (0, fInvalid) else (f.canonNan, 0)
  | .inf neg =>
    if f.isInt then (encodeRounded f neg .max, fInvalid ||| fOvf ||| fInexact)
    else if ov == .ieee && f.hasInf then (encodeRounded f neg .inf, 0)
    else (encodeRounded f neg .max, fOvf ||| fInexact)
  | .zero neg => if f.isInt then (0, 0) else (b2n neg * 2 ^ (f.bits - 1), 0)
  | .num x =>
    let neg := decide (x < 0)
    let q := roundMag f mode ov neg x.natAbs (-298) r
    (encodeRounded f neg q.1, q.2)

/-- One source element converted (R225): row 1 sets NAN_IN. -/
def convertVal (f : Fmt) (mode : Rnd) (ov : Ovf) (r : Nat) (v : Val) : Nat × Nat :=
  let q := encodeExact f mode ov r v.exact
  (q.1, q.2 ||| (if v == .nan then fNanIn else 0))

/-- One accumulator finished (R235). -/
def finishAcc (f : Fmt) (mode : Rnd) (ov : Ovf) (r : Nat) (a : Acc) : Nat × Nat :=
  let q := encodeExact f mode ov r (a.exact mode)
  (q.1, q.2 ||| a.stateFlags)

/-- A block of FP6 or FP4 (R211): element codes, scale byte and flags. `rs`: random bits by place. -/
def encodeBlock (f : Fmt) (mode : Rnd) (rs : List Nat) (vs : List Exact) : List Nat × Nat × Nat :=
  if vs.any (fun v => v == .nan) then (vs.map (fun _ => 0), 0xFF, fNanIn)
  else
    let a := vs.foldl (fun m v => match v with | .num x => max m x.natAbs | _ => m) 0
    let x : Int := if a = 0 then 0 else max (-127) (min 127 ((Nat.log2 a : Int) - 298 - f.emax))
    let one : Exact × Nat → Nat × Nat := fun p =>
      match p.1 with
      | .nan => (0, 0)
      | .inf neg => (encodeRounded f neg .max, fOvf ||| fInexact)
      | .zero neg => (b2n neg * 2 ^ (f.bits - 1), 0)
      | .num y =>
        let neg := decide (y < 0)
        let q := roundMag f mode .sat neg y.natAbs (-298 - x) p.2
        (encodeRounded f neg q.1, q.2)
    let cs := ((List.range vs.length).map (fun i => (vs.getD i (.zero false), nth rs i))).map one
    (cs.map (fun c => c.1), (x + 127).toNat, cs.foldl (fun m c => m ||| c.2) 0)

/-- Elements of a block written under scales that are given (R311). -/
def encodeScaled (f : Fmt) (mode : Rnd) (rs : List Nat) (sc : Nat) (vs : List Val) : List Nat × Nat × Nat :=
  let anyNan := vs.any (fun v => v == .nan)
  if anyNan || sc = 0xFF then (vs.map (fun _ => 0), 0xFF, if anyNan then fNanIn else 0)
  else
    let one : Val × Nat → Nat × Nat := fun p =>
      match p.1.exact with
      | .nan => (0, 0)
      | .inf neg => (encodeRounded f neg .max, fOvf ||| fInexact)
      | .zero neg => (b2n neg * 2 ^ (f.bits - 1), 0)
      | .num y =>
        let neg := decide (y < 0)
        let q := roundMag f mode .sat neg y.natAbs (-298 + (127 - (sc : Int))) p.2
        (encodeRounded f neg q.1, q.2)
    let cs := ((List.range vs.length).map (fun i => (vs.getD i .nan, nth rs i))).map one
    (cs.map (fun c => c.1), sc, cs.foldl (fun m c => m ||| c.2) 0)

/-- A pair result (R226, R227): hi, lo and flags. -/
def encodePair (f : Fmt) (ov : Ovf) : Exact → Nat × Nat × Nat
  | .nan => (f.canonNan, f.canonNan, 0)
  | .inf neg =>
    if ov == .ieee then (encodeRounded f neg .inf, 0, 0)
    else (encodeRounded f neg .max, encodeRounded f neg .max, fOvf ||| fInexact)
  | .zero neg => (b2n neg * 2 ^ (f.bits - 1), 0, 0)
  | .num x =>
    let neg := decide (x < 0)
    let h := roundMag f .rne ov neg x.natAbs (-298) 0
    match h.1 with
    | .inf => (encodeRounded f neg .inf, 0, fOvf ||| fInexact)
    | hv =>
      let d := x - roundedInt f neg hv
      let keep := h.2 &&& (fOvf ||| fUnf)
      if d = 0 then (encodeRounded f neg hv, 0, keep)
      else
        let ln := decide (d < 0)
        let l := roundMag f .rne .sat ln d.natAbs (-298) 0
        (encodeRounded f neg hv, encodeRounded f ln l.1, keep ||| l.2)

/-! ## RP64 and RPX (R238 to R241) -/

/-- The state word of an RPX element. -/
def Acc.stateWord (a : Acc) : Nat :=
  b2n a.nan + 2 * b2n a.invalid + 4 * b2n a.pinf + 8 * b2n a.ninf + 16 * b2n a.ovt + 32 * b2n a.nonempty + 64 * b2n a.nz +
  128 * b2n a.pz + (a.wrap % 256).toNat * 256
def Acc.rpx (a : Acc) : List Byte := bytesLE 60 (a.v % 2 ^ 480).toNat ++ bytesLE 4 a.stateWord
/-- Decode an RPX element; none where a reserved bit is set. -/
def Acc.ofRpx (l : List Byte) : Option Acc :=
  let v := leAt l 0 60
  let w := leAt l 60 4
  if 65536 ≤ w then none else
  let b : Nat → Bool := fun i => w / 2 ^ i % 2 == 1
  let wr : Int := if 128 ≤ w / 256 then ((w / 256 : Nat) : Int) - 256 else ((w / 256 : Nat) : Int)
  some { v := if 2 ^ 479 ≤ v then (v : Int) - 2 ^ 480 else v, wrap := wr, nan := b 0, invalid := b 1, pinf := b 2, ninf := b 3,
         ovt := b 4, nonempty := b 5, nz := b 6, pz := b 7 }

/-- What RP64 decodes for an element of value `v` (R239). -/
def Acc.plain (v : Int) : Acc := { Acc.empty with v := v, nonempty := true, pz := decide (v = 0) }

/-- Factors of two in a non-zero magnitude, counted up to `k`. -/
def trailZeros : Nat → Nat → Nat
  | 0, _ => 0
  | k + 1, n => if n % 2 = 0 then trailZeros k (n / 2) + 1 else 0

/-- Encode a block of `n` elements (R240): the bytes, and whether it escaped. -/
def encodeRp (force : Bool) (accs : List Acc) : List Byte × Bool :=
  let esc := bytesLE 2 0xFFFF ++ accs.flatMap Acc.rpx ++ (List.replicate (32 - accs.length) Acc.empty).flatMap Acc.rpx
  if force || accs.any (fun a => a != Acc.plain a.v) then (esc, true)
  else
    let nzs := (accs.filter (fun a => a.v != 0)).map (fun a => trailZeros 480 a.v.natAbs)
    let x := if nzs.isEmpty then 0 else nzs.foldl min 416
    let ss := accs.map (fun a => a.v / 2 ^ x)
    if ss.any (fun t => decide (t < -2 ^ 63) || decide (2 ^ 63 ≤ t)) then (esc, true)
    else (bytesLE 2 x ++ ss.flatMap (fun t => bytesLE 8 (t % 2 ^ 64).toNat) ++ List.replicate (8 * (32 - accs.length)) 0#8, false)

/-- Decode a block at the head of a list (R239, R241): its 32 accumulators and the rest; none where it fails. -/
def decodeRp (l : List Byte) : Option (List Acc × List Byte) :=
  let x := leAt l 0 2
  if x ≤ 0x1A0 then
    (if l.length < 258 then none else
     some ((List.range 32).map (fun i =>
       let t := leAt l (8 * i + 2) 8
       Acc.plain ((if 2 ^ 63 ≤ t then (t : Int) - 2 ^ 64 else (t : Int)) * 2 ^ x)), l.drop 258))
  else if x = 0xFFFF then
    (if l.length < 2050 then none else
     let es := (List.range 32).map (fun i => Acc.ofRpx ((l.drop (64 * i + 2)).take 64))
     if es.any (fun e => e.isNone) then none
     else some (es.map (fun e => e.getD Acc.empty), l.drop 2050))
  else none

/-! ## Keys (R301) -/

/-- The order key of an element. -/
def sortKey (f : Fmt) (x : Nat) : Nat :=
  let top := 2 ^ (f.bits - 1)
  if f.isInt then x ^^^ top
  else if x / top % 2 = 1 then 2 ^ f.bits - 1 - x
  else x + top
def isNanCode (f : Fmt) (x : Nat) : Bool := decodeElem f x 0 == .nan

end Machine
end Sys2Proof
end

