-- ==== Sys2Proof/Machine/RopeBase.lean ====
section
/-! DEFINITION. What ropes and gates share with every unit: the linear residue, witness rings, CHECK faults, the trees
of a rope, and the breaking of contexts (spec/14_verification.md R389 to R402; spec/12_ropes_and_collectives.md R325 to
R332, R350; spec/13_conditional_compute.md R360, R405). -/
namespace Sys2Proof.Machine

/-! ## The linear residue (R389 to R391) -/
def resP : Nat := 2 ^ 61 - 1
/-- The weight of logical index `i` under a seed. -/
def resWeight (seed i : Nat) : Nat :=
  let key := srMix (seed ^^^ 0x6A09E667F3BCC909)
  let x := srMix (key ^^^ (i * 0xD1B54A32D192ED03 % 2 ^ 64))
  let w := x / 8
  if w = 0 || w = 2 ^ 61 - 1 then 1 else w
/-- Residue value of an integer in units of 2^-298. -/
def resU (v : Int) : Nat := (v % (resP : Int)).toNat
/-- Residue of accumulators whose first has logical index `base`. -/
def residue (seed base : Nat) (l : List Acc) : Nat :=
  ((List.range l.length).map (fun j => resWeight seed ((base + j) % 2 ^ 48) * resU (l.getD j Acc.empty).x % resP)).sum % resP
/-- Residue of elements read from a tensor: the values of A(t) under SAT. -/
def residueVals (seed base : Nat) (l : List Val) : Nat := residue seed base (l.map (Acc.ofVal .sat))

/-- A format field of R322. -/
def fmtCode : Nat → Option Fmt
  | 0 => some .fp32 | 1 => some .bf16 | 2 => some .fp16 | 3 => some .e4m3 | 4 => some .e5m2
  | 7 => some .int8 | 8 => some .int16 | 9 => some .int32 | _ => none
/-- A rounding field of R321. -/
def rndCode (c : Nat) : Rnd :=
  match c with
  | 0 => .rne | 1 => .rtz | 2 => .rup | 3 => .rdn | n => .sr (n - 3)

namespace RopeCtx
def word (c : RopeCtx) (w : Nat) : Word := c.desc.getD w 0
def harness (c : RopeCtx) : Nat := (c.word 0).field 0 12
def mode (c : RopeCtx) : Nat := (c.word 0).field 12 2
def inFmt (c : RopeCtx) : Fmt := (fmtCode ((c.word 0).field 14 4)).getD .fp32
def outFmt (c : RopeCtx) : Fmt := (fmtCode ((c.word 0).field 18 4)).getD .fp32
def rnd (c : RopeCtx) : Rnd := rndCode ((c.word 0).field 22 5)
def ovf (c : RopeCtx) : Ovf := if (c.word 0).field 27 1 = 1 then .ieee else .sat
/-- Elements of a chunk. -/
def e (c : RopeCtx) : Nat := 2 ^ (c.word 0).field 28 4
def slots (c : RopeCtx) : Nat := (c.word 0).field 32 6
def stripe (c : RopeCtx) : Bool := (c.word 0).field 38 1 == 1
def epoch (c : RopeCtx) : Nat := (c.word 0).field 41 16
def seed (c : RopeCtx) : Nat := (c.word 1).toNat
def tid (c : RopeCtx) : Nat := (c.word 2).field 0 32
def summit (c : RopeCtx) : Nat := (c.word 2).field 32 6
def devMask (c : RopeCtx) : Nat := (c.word 3).toNat
def planeEpoch (c : RopeCtx) : Nat := (c.word 5).field 0 32
def fed (c : RopeCtx) : Bool := (c.word 6).field 0 1 == 1
def member (c : RopeCtx) (r : Nat) : Member := c.members.getD r ⟨false, 0, 255⟩
def ranks (c : RopeCtx) : Nat := c.members.length
/-- Devices of the plane that hold members, ascending. -/
def devs (c : RopeCtx) : List Nat := (List.range 64).filter (fun d => c.members.any (fun m => m.dev == d))
end RopeCtx

/-- Fields of the operation word (R334). -/
def opColl (w : Nat) : Nat := w % 16
def opRed (w : Nat) : Nat := w / 16 % 4
def opRoot (w : Nat) : Nat := w / 64 % 65536
def opCount (w : Nat) : Nat := w / 2 ^ 22 % 2 ^ 30

namespace RopeCtx
/-- C: chunks of one member's vector or block. -/
def perRank (c : RopeCtx) (w : Nat) : Nat := (opCount w + c.e - 1) / c.e
/-- Result chunks of the operation. -/
def chunksOf (c : RopeCtx) (w : Nat) : Nat :=
  match opColl w with
  | 1 => c.perRank w | 2 => c.perRank w | 5 => c.perRank w
  | 3 => c.ranks * (opCount w / c.e)
  | 4 => c.ranks * c.perRank w
  | 6 => 1
  | _ => 0
end RopeCtx

/-- Nothing contributed yet. -/
def Summary.empty : Summary := ⟨2 ^ 64 - 1, 0, 0, 0, 0⟩
def Summary.join (a b : Summary) : Summary :=
  let late := decide (a.last < b.last)
  ⟨min a.first b.first, if late then b.last else a.last, if late then b.rank else a.rank, a.merged + b.merged, a.flags ||| b.flags⟩
/-- The 32-byte payload of a SUMMARY (R336). -/
def Summary.bytes (a : Summary) : List Byte :=
  bytesLE 8 a.first ++ bytesLE 8 a.last ++ bytesLE 4 a.rank ++ bytesLE 4 a.merged ++ bytesLE 1 a.flags ++ bytesLE 7 0
def Summary.ofBytes (l : List Byte) : Summary := ⟨leAt l 0 8, leAt l 8 8, leAt l 16 4, leAt l 20 4, leAt l 24 1⟩

namespace State

/-! ## Witness records (R400 to R402) -/

/-- Produce a witness record of harness `h` on crux die `n`, cluster `c` within it. -/
def witness (s : State) (h kind n c status flags : Nat) (body : List Byte) : State :=
  let q := sparseGet (fun _ => 0) s.hrn.wit h
  let s1 := (s.inc (CRX_CNT_WITNESS.V n)).withHrn { s.hrn with wit := sparseSet (fun _ => 0) s.hrn.wit h (q + 1) }
  let m := s.rf (HRN_WIT_CFG.MODE h)
  if m = 0 then s1 else
  let r0 := bytesLE 1 kind ++ bytesLE 1 1 ++ bytesLE 2 h ++ bytesLE 4 (s.rf HUB_EQUIV_CLASS.CODE) ++ bytesLE 8 s.now ++
    bytesLE 1 s.devIndex ++ bytesLE 1 (n + 16 * c) ++ bytesLE 1 status ++ bytesLE 1 flags ++ bytesLE 4 s.planeId ++ bytesLE 8 (q + 1) ++
    padTo 92 0 body
  let r := r0 ++ bytesLE 4 (crc32c 0 r0)
  let cap := 2 ^ s.rf (HRN_WIT_CFG.LOG2 h) / 128
  let wp := s.rf (HRN_WIT_WPTR.V h)
  let full := decide (cap ≤ wp - s.rf (HRN_WIT_RPTR.V h))
  match s.hRange h (s.rf (HRN_WIT_CFG.BASE h)) (cap * 128), s.hRange h (s.rf (HRN_WIT_CFG.BASE h) + wp % cap * 128) 128 with
  | some _, some rs =>
    if m = 2 && full then s1.inc (HRN_WIT_DROP.V h)
    else (s1.memWrite h rs r).2.wf (HRN_WIT_WPTR.V h) (wp + 1)
  | _, _ => s1.inc (HRN_WIT_DROP.V h)

/-! ## CHECK faults (R398, R399) -/

/-- A CHECK fault at a site (R601) against harness `h`, found on crux die `n`. -/
def checkFault (s : State) (site h n : Nat) (detail : List Byte) : State :=
  s.report ⟨clCHECK, site, 2, stCHECK, unitCrux n, h, detail⟩

/-! ## Trees (R325, R326) -/

/-- The FEID of device `i` of this plane: the first VALID DEVICE entry that names it (R72). -/
def feidOfDevice (s : State) (i : Nat) : Nat :=
  ((s.fwd.feid.find? (fun e => decide (e.1 < 0x3FFC0) && e.2.field 0 1 == 1 && e.2.field 1 1 == 1 && e.2.field 2 1 == 0 && e.2.field 3 6 == i)).map
    (fun e => e.1)).getD (0x3FFC0 + i)

/-- The minimal route from device `i` to a summit, ties in the + direction. -/
def treeRoute (s : State) (summit i : Nat) : List Nat := s.minRoute 0 summit 12 i
/-- The parent of device `i`. -/
def parentOf (s : State) (summit i : Nat) : Nat := ((s.treeRoute summit i).drop 1).headD i
/-- The devices of a chunk's tree. -/
def treeOf (s : State) (c : RopeCtx) (summit : Nat) : List Nat := (c.devs.flatMap (fun d => s.treeRoute summit d)).dedup
/-- The children of device `i` in a tree. -/
def childrenOf (s : State) (c : RopeCtx) (summit i : Nat) : List Nat :=
  (s.treeOf c summit).filter (fun d => d != i && d != summit && s.parentOf summit d == i)
/-- The summit of chunk `k` of an operation. -/
def summitOf (_s : State) (c : RopeCtx) (w k : Nat) : Nat :=
  if opColl w = 2 || opColl w = 5 then (c.member (opRoot w)).dev
  else if c.stripe then c.devs.getD (k % c.devs.length) c.summit else c.summit
/-- Every summit some chunk of the rope may have now. -/
def summits (_s : State) (c : RopeCtx) : List Nat :=
  ((if c.stripe then c.devs else [c.summit]) ++
    (c.ops.filter (fun o => opColl o.word == 2 || opColl o.word == 5)).map (fun o => (c.member (opRoot o.word)).dev)).dedup
/-- The devices next to this one in the rope's trees. -/
def ropeNeighbours (s : State) (c : RopeCtx) : List Nat :=
  ((s.summits c).flatMap (fun x => (if x = s.devIndex then [] else [s.parentOf x s.devIndex]) ++ s.childrenOf c x s.devIndex)).dedup
/-- The local members of a rope, by rank. -/
def localRanks (s : State) (c : RopeCtx) : List Nat := (List.range c.ranks).filter (fun r => (c.member r).dev == s.devIndex)

/-! ## Contexts -/
def findRope (s : State) (ctx : Nat) : Option RopeCtx := s.rope.ctxs.find? (fun c => c.ctx == ctx)
def putRope (s : State) (c : RopeCtx) : State :=
  s.withRope { s.rope with ctxs := s.rope.ctxs.map (fun x => if x.ctx = c.ctx then c else x) }
def findGate (s : State) (ctx : Nat) : Option GateCtx := s.gate.ctxs.find? (fun c => c.ctx == ctx)
def putGate (s : State) (c : GateCtx) : State :=
  s.withGate { s.gate with ctxs := s.gate.ctxs.map (fun x => if x.ctx = c.ctx then c else x) }

/-- Is this the device where a federated rope finishes (R353)? -/
def fedTop (s : State) (c : RopeCtx) : Bool :=
  (c.word 6).field 1 2 == s.rf HUB_PLANE.FPLANE && (c.word 6).field 3 6 == s.devIndex
def isSummit (s : State) (c : RopeCtx) (w k : Nat) : Bool := s.summitOf c w k == s.devIndex
/-- Does this device finish the chunk: the summit, but for a plane summit below the federation's (R353)? -/
def isTop (s : State) (c : RopeCtx) (w k : Nat) : Bool := s.isSummit c w k && (!c.fed || s.fedTop c)
def inTree (s : State) (c : RopeCtx) (w k : Nat) : Bool := (s.treeOf c (s.summitOf c w k)).contains s.devIndex
/-- Chunks this device has to do with; those it finishes. -/
def handled (s : State) (c : RopeCtx) (w : Nat) : List Nat := (List.range (c.chunksOf w)).filter (fun k => s.inTree c w k)
def mine (s : State) (c : RopeCtx) (w : Nat) : List Nat := (s.handled c w).filter (fun k => s.isTop c w k)

/-! ## Witness records of a rope (R400, R403) -/

/-- A ROPE witness record: principal, or part; that of an operation that broke, with its status, covers no chunk. -/
def ropeRecord (s : State) (c : RopeCtx) (o : RopeOp) (principal : Bool) (sm : Summary) (broke : Option Nat) : State :=
  let ks := if broke.isSome then [] else o.fin
  let sumR : (Finished → Nat) → Nat := fun f => (ks.map f).sum % resP
  let z := fun (x : Nat) => if principal then x else 0
  s.witness c.harness 1 c.die (c.cluster % 4) (broke.getD stOK) (ks.foldl (fun a x => a ||| x.flags) 0)
    (bytesLE 2 c.ctx ++ bytesLE 1 o.opno ++ bytesLE 1 (c.mode + 4 * (c.word 0).field 27 1 + 8 * b2n c.stripe + 16 * b2n principal) ++
     bytesLE 1 ((c.word 0).field 22 5) ++ bytesLE 1 ((c.word 0).field 14 4 + 16 * (c.word 0).field 18 4) ++ bytesLE 2 c.epoch ++
     bytesLE 8 o.word ++ bytesLE 8 c.seed ++ bytesLE 4 c.tid ++ bytesLE 4 ((ks.head?.map (fun x => x.c)).getD 0) ++ bytesLE 4 ks.length ++
     bytesLE 1 (if c.stripe && !(opColl o.word == 2 || opColl o.word == 5) then c.devs.length else 1) ++
     bytesLE 1 (z (sm.flags ||| o.hopF)) ++ bytesLE 2 0 ++
     bytesLE 8 (sumR (fun x => x.resIn)) ++ bytesLE 8 (sumR (fun x => x.resOut)) ++ bytesLE 4 (crc32c 0 (ks.flatMap (fun x => x.bytes))) ++
     bytesLE 4 (z sm.merged) ++ bytesLE 8 (z sm.first) ++ bytesLE 8 (z sm.last) ++ bytesLE 4 (z sm.rank))

/-- The record of an operation that breaks with a status, where it has not been written: the principal one on the device that
finishes chunk 0, with the summaries that have come, a part on every other device that finishes some chunk (R400). -/
def brokenRecord (s : State) (c : RopeCtx) (o : RopeOp) (status : Nat) : State :=
  let ms := s.mine c o.word
  if s.isTop c o.word 0 then
    (if o.told then s else s.ropeRecord c o true ((o.kids.map (fun y => y.2)).foldl Summary.join o.local_) (some status))
  else if ms.isEmpty || (o.fin.isEmpty && ms.all (fun k => o.freed.contains k)) then s
  else s.ropeRecord c o false Summary.empty (some status)

/-- A frame a rope context sends (R333, R335). -/
def ropeFrame (s : State) (c : RopeCtx) (op dst opno word chunk frag : Nat) (first last : Bool) (status : Nat)
    (kind residue_ : Nat) (payload : List Byte) : State :=
  s.send c.die (FrameSpec.make
   { cls := 0, kind := 2, dst := dst, src := s.feidOfDevice s.devIndex, harness := c.harness, op := op,
     flow := (c.ctx * 64 + chunk % 64) % 2 ^ 20, frag := frag, first := first, last := last, ctx := c.ctx,
     addr := word % 2 ^ 52, epoch := c.epoch, chunk := opno % 256 * 2 ^ 24 + chunk % 2 ^ 24, time := s.now, status := status,
     checkKind := kind, residue := residue_, payload := payload })

/-- Transfers of cores on a context end with a status (R346, R350). -/
def endStreams (s : State) (ctx status : Nat) : State :=
  s.withComp { s.comp with flights := s.comp.flights.map (fun f =>
    match f.stream with
    | some x => if x.ctx = ctx && x.ended == none then { f with stream := some { x with ended := some status } } else f
    | none => f) }

/-- A context breaks (R350). `from_`: the neighbour an ABORT came from (65,536 + device) or the member (its rank). -/
def breakRope (s : State) (ctx status : Nat) (quiet : Bool) (from_ : Option Nat) : State :=
  match s.findRope ctx with
  | none => s
  | some c =>
    if c.broken then s else
    let opno := (c.ops.head?.map (fun o => o.opno)).getD c.nextOp
    let word := (c.ops.head?.map (fun o => o.word)).getD 0
    let ends := (s.ropeNeighbours c).filterMap (fun d => if from_ == some (65536 + d) then none else some (s.feidOfDevice d)) ++
      (s.localRanks c).filterMap (fun r => if (c.member r).core || from_ == some r then none else some (c.member r).id)
    let s0 := c.ops.foldl (fun t o => t.brokenRecord c o status) s
    let s1 := (s0.putRope { c with broken := true, cause := status, ops := [], begun := [], owed := 0 }).inc (CRX_CNT_ROPE_ABORT.V c.die)
    let s2 := s1.endStreams ctx status
    if quiet then s2 else ends.foldl (fun t d => t.ropeFrame c 8 d opno word 0 0 true true status 1 0 []) s2

/-- A CHECK fault of a rope context breaks it (R398, R399). -/
def ropeCheck (s : State) (c : RopeCtx) (site opno chunk want got : Nat) : State :=
  (s.checkFault site c.harness c.die
    (bytesLE 2 c.ctx ++ bytesLE 2 c.epoch ++ bytesLE 1 opno ++ bytesLE 3 chunk ++ bytesLE 8 want ++ bytesLE 8 got)).breakRope
      c.ctx stCHECK false none

/-- Every rope context that holds a local member breaks with LOST (R332). -/
def memberLost (s : State) (core : Bool) (id : Nat) : State :=
  (s.rope.ctxs.filter (fun c => !c.broken && c.members.any (fun m => m.core == core && m.id == id && m.dev == s.devIndex))).foldl
    (fun t c => t.breakRope c.ctx stLOST false none) s
/-- The endpoint of port `P` has left ACTIVE. -/
def memberGone (s : State) (P : Nat) : State := s.memberLost false (s.rf (PRT_PORT_ID.FEID P))

/-- A gate context's witness record (R400, R405). -/
def gateWitness (s : State) (c : GateCtx) : State :=
  let h := (c.desc.getD 0 0).field 0 12
  let t := c.tally
  (s.witness h 3 c.die (((c.desc.getD 2 0).field 0 8) % 4) stOK t.flags
    (bytesLE 2 c.ctx ++ bytesLE 2 ((c.desc.getD 0 0).field 41 16) ++ bytesLE 4 t.tokens ++ bytesLE 4 t.poisoned ++ bytesLE 4 t.timeouts ++
     bytesLE 4 t.dropped ++ bytesLE 12 0 ++ bytesLE 8 t.resIn ++ bytesLE 8 t.resOut)).putGate { c with tally := GateTally.zero }

/-- A gate context becomes BROKEN, its tokens discarded (R360). -/
def breakGate (s : State) (ctx status : Nat) : State :=
  match s.findGate ctx with
  | none => s
  | some c =>
    if c.broken then s else
    let s1 := s.gateWitness c
    (s1.putGate { c with broken := true, cause := status, tokens := [], tally := GateTally.zero }).trace 3 (unitCrux c.die)
      ((c.desc.getD 0 0).field 0 12) (bytesLE 2 ctx ++ bytesLE 1 2 ++ bytesLE 1 status)

/-- Every context of a harness breaks (R330, R360, R515). -/
def breakContexts (s : State) (h status : Nat) (quiet : Bool) : State :=
  let s1 := (s.rope.ctxs.filter (fun c => c.harness == h)).foldl (fun t c => t.breakRope c.ctx status quiet none) s
  (s1.gate.ctxs.filter (fun c => (c.desc.getD 0 0).field 0 12 == h)).foldl (fun t c => t.breakGate c.ctx status) s1

/-- A frame that fails its check on its way into the device (R47, R398). -/
def frameCrcFault (s : State) (p : Place) (f : Frame) : State :=
  let n := match p with | .cluster c => c / 4 | .memAccept n => n | .memCheck n => n | .memReply n => n | _ => 0
  let s1 := s.inc (FWD_CNT_BAD_MARKED.V n)
  let plain := s1.checkFault 0x01 f.harness n (bytesLE 4 f.check ++ bytesLE 4 (crc32c 0 f.payload))
  if f.kind = 2 then
    (match s.findRope f.ctx with
     | some c => if c.epoch = f.epoch && !c.broken then s1.ropeCheck c 0x01 (f.chunk / 2 ^ 24) (f.chunk % 2 ^ 24) f.check (crc32c 0 f.payload)
                 else plain
     | none => plain)
  else plain

/-- Does a carabiner range touch a copy that a running fill has not written (R520)? -/
def fillTouches (s : State) (w0 w2 : Word) : Bool :=
  match s.gate.fill with
  | none => false
  | some f =>
    let here := match s.feidEntry 0 (w0.field 23 18) with
      | some e => e.field 1 1 == 1 && e.field 3 6 == s.devIndex
      | none => false
    here && w0.field 11 12 == f.h &&
      f.copies.any (fun c => c.st != 2 && decide (c.off < w2.field 0 28 * 4096 + 2 ^ w0.field 5 6) && decide (w2.field 0 28 * 4096 < c.off + f.size))

end State
end Sys2Proof.Machine
end

