-- ==== Sys2Proof/Machine/Cores.lean ====
section
/-! DEFINITION. Cores: their state, flags, credit channels, jumar counters, waits, faults and halts
(spec/07_compute_model.md R176 to R202; spec/06_harnesses.md R161; spec/10_proit_machine.md R275 to R286; spec/14
R400, R404). -/
namespace Sys2Proof.Machine

/-- Keys of flags (R176): local flag n of core k, cluster flag n of device cluster c, package flag f. -/
def lfKey (k n : Nat) : Nat := 256 * k + n
def cfKey (c n : Nat) : Nat := 0x100000 + 1024 * c + n
def pfKey (f : Nat) : Nat := 0x200000 + f

/-- Scalar registers an engine operation writes at completion (R291). -/
def engWrites : EngOp → List Nat
  | .sseCompact c _ _ _ => c.toList.map (fun r => r.val)
  | .sseFilter _ _ c _ _ => c.toList.map (fun r => r.val)
  | .sseDedup c _ _ _ => c.toList.map (fun r => r.val)
  | .cdcSpx c _ _ _ => c.toList.map (fun r => r.val)
  | .cdcSpc c _ _ _ => c.toList.map (fun r => r.val)
  | .cdcCrc d _ _ => [d.val]
  | .cdcRes d _ => [d.val]
  | .fdeAmo d _ _ _ _ _ _ _ _ _ => [d.val]
  | _ => []
def Flight.writes (f : Flight) : List Nat := engWrites f.op ++ f.opts.st.toList.map (fun r => r.val)

namespace State

def cst (s : State) (k : Nat) : CoreSt := sparseGet (fun _ => CoreSt.initial) s.comp.cores k
def setCst (s : State) (k : Nat) (c : CoreSt) : State :=
  s.withComp { s.comp with cores := sparseSet (fun _ => CoreSt.initial) s.comp.cores k c }
/-- Scalar register `r` of core `k`. -/
def sreg (s : State) (k r : Nat) : Word := (s.cst k).sregs.getD r 0
def setSreg (s : State) (k r : Nat) (v : Word) : State := s.setCst k { s.cst k with sregs := (s.cst k).sregs.set r v }
/-- STATE of core `k` (R198): 0 UNBOUND, 1 HALTED, 2 RUNNING, 3 WAITING, 4 BIVOUAC, 5 FAULTED, 6 FAILED. -/
def cstate (s : State) (k : Nat) : Nat := s.rf (CRX_CORE_STS.STATE k)
def coreH (s : State) (k : Nat) : Nat := s.rf (CRX_CORE_STS.HARNESS k)
def running (s : State) (k : Nat) : Bool := s.cstate k == 2
/-- Core `k` is bound (R197); a core that fails in service stays bound until it is unbound. -/
def boundCore (s : State) (k : Nat) : Bool := (s.cst k).bound
def pc (s : State) (k : Nat) : Nat := s.rf (CRX_CORE_PC.V k)
def setPc (s : State) (k v : Nat) : State := s.wf (CRX_CORE_PC.V k) v
def nextPc (s : State) (k : Nat) : State := s.setPc k (s.pc k + 1)
/-- The owner of device cluster `c`: by its bound cores, or by a context homed there (R163, R324). -/
def cluOwner (s : State) (c : Nat) : Option Nat :=
  if s.rb (CRX_CLU_STS.OWNED (c / 4) (c % 4)) || s.rf (CRX_CLU_SRES.BYTES (c / 4) (c % 4)) != 0 then
    some (s.rf (CRX_CLU_STS.HARNESS (c / 4) (c % 4)))
  else none
/-- The harness whose valid bits govern the L of core `k` and the S of cluster `c`; unowned scratch is harness 0's. -/
def ownL (s : State) (k : Nat) : Nat := s.coreH k
def ownS (s : State) (c : Nat) : Nat := (s.cluOwner c).getD 0
/-- The harness that holds model address `a` of L or S. -/
def ownOf (s : State) (a : Nat) : Nat :=
  if a < 0x10000000000 then 0
  else if a < 0x20000000000 then s.ownL ((a - 0x10000000000) / 0x200000) else s.ownS ((a - 0x20000000000) / 0x4000000)

/-! ## Flags (R186 to R188, R279, R280) -/

def flagOf (s : State) (key : Nat) : Bool := s.comp.flags.contains key
/-- Waits of a kind that see value `v` of a flag. -/
def seeFlag (l : List Wait) (now key : Nat) (v : Bool) : List Wait :=
  l.map (fun w => if w.op == .flag key v false && !w.met then { w with met := true, time := now } else w)
/-- A flag changes at its home: plain waits that see the value are satisfied, and the first fwait.clr takes it. -/
def writeFlag (s : State) (key : Nat) (v : Bool) : State :=
  let fl : Bool → List Nat := fun b => if b then insertNat s.comp.flags key else s.comp.flags.filter (fun x => x != key)
  let ws := seeFlag s.comp.waits s.now key v
  let taker := if v then ws.find? (fun w => w.op == .flag key true true && !w.met) else none
  match taker with
  | some t => s.withComp { s.comp with flags := fl false,
                                       waits := seeFlag (ws.map (fun w => if w == t then { w with met := true, time := s.now } else w)) s.now key false }
  | none => s.withComp { s.comp with flags := fl v, waits := ws }
/-- The harness a package flag is bound to (R188). -/
def pflagH (s : State) (f : Nat) : Option Nat :=
  let n := f / 256
  let b := f / 64 % 4
  if s.rb (CRX_PFLAG_BIND.VALID n b) then some (s.rf (CRX_PFLAG_BIND.HARNESS n b)) else none

/-! ## Credit channels (R189, R190, R201) -/

def cchOf (s : State) (g : Nat) : Word := sparseGet (fun _ => 0#64) s.comp.cch g
def setCch (s : State) (g : Nat) (w : Word) : State :=
  s.withComp { s.comp with cch := sparseSet (fun _ => 0#64) s.comp.cch g w }
def cchCount (s : State) (g : Nat) : Nat := (s.cchOf g).field 32 16
def cchCap (s : State) (g : Nat) : Nat := (s.cchOf g).field 16 16
def cchH (s : State) (g : Nat) : Option Nat :=
  if (s.cchOf g).field 0 1 = 1 then some ((s.cchOf g).field 1 12) else none
/-- Waiting takes on one channel are served in arrival order (R189). -/
def serve (g : Nat) : Nat → List Wait → List Wait × Nat
  | c, [] => ([], c)
  | c, w :: t =>
    match w.op, w.met with
    | .credit g' n, false =>
      if g' = g then
        (if n ≤ c then (let r := serve g (c - n) t; ({ w with met := true } :: r.1, r.2))
         else (w :: t, c))
      else (let r := serve g c t; (w :: r.1, r.2))
    | _, _ => (let r := serve g c t; (w :: r.1, r.2))
def serveCch (s : State) (g : Nat) : State :=
  let r := serve g (s.cchCount g) s.comp.waits
  (s.withComp { s.comp with waits := r.1 }).setCch g ((s.cchOf g).withField 32 16 r.2)
/-- Return `n` credits: none where R189 refuses. -/
def creditReturn (s : State) (g n : Nat) : Option State :=
  if s.cchCount g + n ≤ s.cchCap g then
    some ((s.setCch g ((s.cchOf g).withField 32 16 (s.cchCount g + n))).serveCch g)
  else none

/-! ## Jumar counters (R191, R192) -/

def jDie (j : Nat) : Nat := j / 64
def jPair (j : Nat) : Nat := j % 64 / 2
def jumar (s : State) (j : Nat) : Nat :=
  if j % 2 = 0 then s.rf (CRX_JUMAR_EVEN.V (jDie j) (jPair j)) else s.rf (CRX_JUMAR_ODD.V (jDie j) (jPair j))
def setJumar (s : State) (j v : Nat) : State :=
  let s1 := if j % 2 = 0 then s.wf (CRX_JUMAR_EVEN.V (jDie j) (jPair j)) v else s.wf (CRX_JUMAR_ODD.V (jDie j) (jPair j)) v
  s1.withComp { s1.comp with waits := s1.comp.waits.map (fun w =>
    match w.op with
    | .jumar j' x => if j' = j && decide (x ≤ v) then { w with met := true } else w
    | _ => w) }
def jumarH (s : State) (j : Nat) : Option Nat :=
  if s.rb (CRX_JUMAR_CFG.VALID (jDie j) (jPair j)) then some (s.rf (CRX_JUMAR_CFG.HARNESS (jDie j) (jPair j))) else none

/-! ## Waiting (R193, R283) -/

/-- WAIT_KIND of a wait (R202). -/
def waitKind : WaitOp → Nat
  | .flag key _ _ => if key < 0x100000 then 1 else if key < 0x200000 then 2 else 3
  | .credit _ _ => 4
  | .jumar _ _ => 5
  | _ => 6
def waitOf (s : State) (k : Nat) : Option Wait := s.comp.waits.find? (fun w => w.core == k)
def dropWait (s : State) (k : Nat) : State :=
  (s.withComp { s.comp with waits := s.comp.waits.filter (fun w => w.core != k) }).wf (CRX_CORE_STS.WAIT_KIND k) 0
/-- The SEQ of core `k` blocks. -/
def block (s : State) (k : Nat) (op : WaitOp) : State :=
  ((s.withComp { s.comp with waits := s.comp.waits ++ [⟨k, op, false, 0⟩] }).wf (CRX_CORE_STS.STATE k) 3).wf
    (CRX_CORE_STS.WAIT_KIND k) (waitKind op)
/-- The SEQ goes on after its wait. -/
def resume (s : State) (k : Nat) : State := ((s.dropWait k).wf (CRX_CORE_STS.STATE k) 2).nextPc k

/-! ## Abandoning, halting, faulting (R161, R196, R198) -/

def flightsOf (s : State) (k : Nat) : List Flight := s.comp.flights.filter (fun f => f.core == k)

/-- Bytes left undefined: free values. -/
def scribble (s : State) (rs : List (Nat × Nat)) : State :=
  rs.foldl (fun t r =>
    let b := t.freeB r.2
    (b.2.memWrite (b.2.ownOf r.1) [r] b.1).2) s

/-- Every instruction of core `k` not started is discarded; those in progress are abandoned, their destinations
undefined, and their memory requests retired without answer. -/
def abandon (s : State) (k : Nat) : State :=
  let mine := s.flightsOf k
  let s0 := (s.withComp { s.comp with flights := s.comp.flights.filter (fun f => f.core != k) }).retireSource (1152 + k)
  let s1 := s0.withMfb { s0.mfb with coreRsp := s0.mfb.coreRsp.filter (fun r => r.core != k) }
  s1.scribble ((mine.filter (fun f => f.started)).flatMap (fun f => f.dsts.filter (fun r => decide (0x10000000000 ≤ r.1))))

/-- A PROGRAM witness record (R400, R404). -/
def programWitness (s : State) (k status instr exit : Nat) (wit : List Word) : State :=
  let c := s.cst k
  s.witness (s.coreH k) 2 (k / 32) (k / 8 % 4) status 0
    (bytesLE 8 (s.rf (CRX_CORE_IMAGE.V k)) ++ bytesLE 2 k ++ bytesLE 1 c.arith ++ bytesLE 1 0 ++ bytesLE 4 instr ++ bytesLE 8 exit ++
     bytesLE 8 c.loadAt ++ wit.flatMap (fun w => bytesLE 8 w.toNat))

/-- Core `k` stops: its wait ends, its instructions are discarded or abandoned, its kept set is discarded (R297). -/
def stopCore (s : State) (k st : Nat) : State :=
  let s1 := ((s.dropWait k).abandon k).wf (CRX_CORE_STS.STATE k) st
  s1.setCst k { s1.cst k with kept := none }

/-- Core `k` is halted from outside (R161); a rope that holds it as a member breaks (R332). -/
def haltCore (s : State) (k : Nat) : State :=
  let c := s.cstate k
  if c = 2 || c = 3 || c = 4 then (s.stopCore k 1).memberLost true k else s

/-- Core `k` faults (R196). `site`: a CHECK site (R601) with its expected and computed values, or 0. -/
def coreFault (s : State) (k status unit instr addr : Nat) (site want got : Nat) : State :=
  let h := s.coreH k
  let s1 := s.stopCore k (if status = stPOISON then 6 else 5)
  let s2 := (((s1.wf (CRX_CORE_FAULT.STATUS k) status).wf (CRX_CORE_FAULT.UNIT k) unit).wf (CRX_CORE_FAULT.INSTR k) instr).wf
    (CRX_CORE_FAULT_ADDR.V k) addr
  let s3 := if status = stPOISON then s2 else s2.programWitness k status instr 0 [0, 0, 0, 0]
  let s3 := s3.trace 1 (unitCrux (k / 32)) h (bytesLE 2 k ++ bytesLE 1 status ++ bytesLE 4 instr)
  let s4 := if site = 0 then
      s3.report ⟨clHARNESS, 0x01, 2, status, unitCrux (k / 32), h, bytesLE 2 k ++ bytesLE 4 instr⟩
    else s3.checkFault site h (k / 32) (bytesLE 2 k ++ bytesLE 4 instr ++ bytesLE 8 want ++ bytesLE 8 got)
  s4.memberLost true k

/-- A SEQ instruction faults at the moment it executes (R286). -/
def seqFault (s : State) (k status addr : Nat) : State := s.coreFault k status 0 (s.pc k) addr 0 0 0

/-- The flag a done= option or a halt names, for core `k`. -/
def doneKey (k : Nat) (regs : Nat → Word) : FlagRef → Nat
  | .lf n => lfKey k n.val
  | .cf n => cfKey (k / 8) n.val
  | .pf (.imm v) => pfKey v.toNat
  | .pf (.reg r o) => pfKey ((regs r.val + o.signExtend 64).toNat)

/-- `halt` takes effect once the core has drained (R278, R400). -/
def haltDone (s : State) (k r : Nat) (flag : Option Nat) : State :=
  let i := s.pc k
  let exit := s.sreg k r
  let s1 := s.setReg (CRX_CORE_EXIT.a k) exit
  let s2 := s1.programWitness k stOK i exit.toNat [s1.sreg k 28, s1.sreg k 29, s1.sreg k 30, s1.sreg k 31]
  let s3 := (s2.dropWait k).wf (CRX_CORE_STS.STATE k) 1
  let s4 := (s3.setCst k { s3.cst k with kept := none }).nextPc k
  match flag with
  | some key => s4.writeFlag key true
  | none => s4

/-- `idle` and `halt` end when nothing the core has issued is left. -/
def drained (s : State) (k : Nat) : State :=
  if !(s.flightsOf k).isEmpty then s else
  match s.waitOf k with
  | some w => (match w.op with
    | .drain => s.resume k
    | .halt r f => s.haltDone k r f
    | _ => s)
  | none => s

/-! ## Sequencer steps -/

/-- Will an instruction in flight write one of the registers `rs` of core `k` (R183)? -/
def hazard (s : State) (k : Nat) (rs : List Nat) : Bool :=
  (s.flightsOf k).any (fun f => f.writes.any (fun r => rs.contains r))
/-- One SEQ instruction of core `k` that reads the registers `rs`: it executes while the core is RUNNING and no
register it reads is still to be written. -/
def seqStep (s : State) (k : Nat) (rs : List Nat) (f : State → State) : State :=
  if s.running k && !s.hazard k rs then f s else s

/-- The value of an operand. -/
def argOf (regs : Nat → Word) : Arg → Word
  | .imm v => v
  | .reg r o => regs r.val + o.signExtend 64
def opdOf (regs : Nat → Word) : Opd → Word
  | .imm v => v.signExtend 64
  | .reg r => regs r.val
def opdRegs : Opd → List Nat
  | .imm _ => []
  | .reg r => [r.val]
def opd64Of (regs : Nat → Word) : Opd64 → Word
  | .imm v => v
  | .reg r => regs r.val
def opd64Regs : Opd64 → List Nat
  | .imm _ => []
  | .reg r => [r.val]
def argRegs : Arg → List Nat
  | .imm _ => []
  | .reg r _ => [r.val]
def flagRegs : FlagRef → List Nat
  | .pf a => argRegs a
  | _ => []

/-- The flag an instruction names: its key, or the fault that naming it is (R256, R284). -/
def flagKey (s : State) (k : Nat) (f : FlagRef) : Nat ⊕ (Nat × Nat) :=
  match f with
  | .lf n => .inl (lfKey k n.val)
  | .cf n => .inl (cfKey (k / 8) n.val)
  | .pf a =>
    let v := (argOf (s.sreg k) a).toNat
    if 4096 ≤ v then .inr (stREJECT, v)
    else if s.pflagH v != some (s.coreH k) then .inr (stDENIED, v) else .inl (pfKey v)

end State
end Sys2Proof.Machine
end

