-- ==== Sys2Proof/Machine/RingBase.lean ====
section
/-! DEFINITION. What ring pairs share with harnesses, pools and loads: commands in progress and how they end, waiting
allocations, pausing (spec/15_host_interface.md R418, R425; spec/16 R466). -/
namespace Sys2Proof.Machine
namespace State

def ringState (s : State) (i : Nat) : Nat := s.rf (RING_STS.STATE i)
def ringH (s : State) (i : Nat) : Nat := s.rf (RING_CFG.HARNESS i)
def findRun (s : State) (no : Nat) : Option RingRun := s.host.runs.find? (fun r => r.no == no)
/-- Command number `no` is known to end with a status, a REASON and values. -/
def endRun (s : State) (no status reason : Nat) (vals : List Nat) : State :=
  s.withHost { s.host with runs := s.host.runs.map (fun r =>
    if r.no = no && r.ended.isNone then { r with ended := some ⟨status, reason, vals⟩ } else r) }
/-- Commands in progress on a ring. -/
def runsOf (s : State) (i : Nat) : List RingRun := s.host.runs.filter (fun r => r.ring == i)

/-- WAITERS of every pool follows the waiting allocations. -/
def setWaiters (s : State) (q : Nat) : State :=
  s.wf (POOL_STS.WAITERS q) (s.host.waits.filter (fun w => w.pool == q)).length
/-- Waiting allocations end with a status (R466); VALUE0 is 0, VALUE1 the pool's FREE. -/
def endWaits (s : State) (p : PoolWait → Bool) (status : Nat) : State :=
  let out := s.host.waits.filter p
  let s1 := s.withHost { s.host with waits := s.host.waits.filter (fun w => !p w) }
  let s2 := out.foldl (fun t w => t.endRun w.run status 0 [0, t.rf (POOL_STS.FREE w.pool)]) s1
  ((out.map (fun w => w.pool)).dedup).foldl (fun t q => t.setWaiters q) s2

/-- A ring pair takes a state; leaving ACTIVE flushes its waiting allocations (R466). -/
def setRing (s : State) (i st : Nat) : State :=
  let s1 := if s.ringState i = 1 && st != 1 then s.endWaits (fun w => w.ring == i) stFLUSHED else s
  s1.wf (RING_STS.STATE i) st
/-- A cause to pause a ring pair (R418): its harness QUARANTINED, or host memory without an active port. -/
def pauseCause (s : State) (i : Nat) : Bool :=
  s.hrnState (s.ringH i) == 4 || (s.rb HUB_HOST_CTL.NONE && (s.rf (RING_CFG.SQ_LOC i) == 0 || s.rf (RING_CFG.CQ_LOC i) == 0))
/-- ACTIVE rings with a cause pause, PAUSED rings without one go on. -/
def ringPauses (s : State) : State :=
  s.host.opened.foldl (fun t i =>
    if t.ringState i = 1 && t.pauseCause i then t.setRing i 3
    else if t.ringState i = 3 && !t.pauseCause i then t.setRing i 1 else t) s
/-- A ring pair goes to ERROR (R427). -/
def ringError (s : State) (i cause : Nat) : State := (s.setRing i 4).wf (RING_STS2.CAUSE i) cause

end State
end Sys2Proof.Machine
end

