-- ==== Sys2Proof/Machine/Harness.lean ====
section
/-! DEFINITION. The harness table: its commands, harness faults, propagation to the copies, quotas
(spec/06_harnesses.md R157 to R175; spec/19 R512, R514, R515). UNBIND stands in Unbind.lean. -/
namespace Sys2Proof.Machine
namespace State

/-! ## Propagation (R22, R161) -/

/-- The cores bound to harness `h`. -/
def coresOf (s : State) (h : Nat) : List Nat := (List.range 512).filter (fun k => s.boundCore k && s.coreH k == h)

/-- The cores of a harness halt; those of a load in progress halt once it completes (R161, R263). -/
def haltHarness (s : State) (h : Nat) : State :=
  let s1 := (s.coresOf h).foldl (fun t k => t.haltCore k) s
  s1.withComp { s1.comp with loads := s1.comp.loads.map (fun l => if l.h = h then { l with halt := true } else l) }

/-- A state change of harness `h` is in force at every copy: a harness that is not RUNNING has its cores halted and its
contexts broken (R161, R330, R360). -/
def propagate (s : State) (h : Nat) : State :=
  match lookupKey s.hrn.old h with
  | none => s
  | some o =>
    let s1 := s.withHrn { s.hrn with old := eraseKey s.hrn.old h }
    if o = 2 && s1.hrnState h != 2 then (s1.haltHarness h).breakContexts h stDENIED true else s1

/-- A transition of harness `h` is traced (R549). -/
def traceHrn (s : State) (h old : Nat) : State :=
  s.trace 0 (unitHub 0) h (bytesLE 1 old ++ bytesLE 1 (s.hrnState h) ++ bytesLE 1 (s.rf (HRN_STS.FAIL_CNT h)))

/-- A state change of harness `h` at hub 0; the copies hold the old state until it is propagated (R161). An earlier change
still on its way is in force first. -/
def setHrn (s : State) (h st : Nat) : State :=
  let s1 := s.propagate h
  let s2 := ((s1.withHrn { s1.hrn with old := insertKey (eraseKey s1.hrn.old h) h (s1.hrnState h) }).wf (HRN_STS.STATE h) st).ringPauses
  s2.traceHrn h (s.hrnState h)

/-- A command completes with a status. -/
def hrnStatus (s : State) (st : Nat) : State := s.wf HRN_CMD.STATUS st

/-- BIND of a FREE harness zeroes its account, counters and quota USED fields, and its witness ring (R160, R402). -/
def hrnBind (s : State) (h : Nat) : State :=
  if !s.campOk 6 then s.hrnStatus stNOT_READY
  else if s.hrnState h != 0 then s.hrnStatus stREJECT
  else
    let s1 := ((((s.wf (HRN_STS.FAIL_CNT h) 0).setHrn h 1).setReg (HRN_ENERGY_UJ.a h) 0).setReg (HRN_CNT_DENIED.a h) 0).setReg (HRN_CNT_FAULTS.a h) 0
    let s2 := [QKind.cores, .rings, .ctx, .carab, .hbm].foldl (fun t k => (t.wf (k.used h) 0).setOver k h) s1
    let s3 := ((s2.setReg (HRN_WIT_WPTR.a h) 0).setReg (HRN_WIT_RPTR.a h) 0).setReg (HRN_WIT_DROP.a h) 0
    (s3.withHrn { s3.hrn with wit := eraseKey s3.hrn.wit h, started := eraseKey s3.hrn.started h }).hrnStatus stOK

/-- START (R160, R515): the START instant from RECOVERING is recorded. -/
def hrnStart (s : State) (h : Nat) : State :=
  let c := s.hrnState h
  if (c = 1 || c = 3) && s.rf HUB_FAULT_STS.DEV_STATE != 2 && !s.mpStopped then
    (let s1 := s.setHrn h 2
     let s2 := if c = 3 then s1.withHrn { s1.hrn with started := insertKey (eraseKey s1.hrn.started h) h s.now } else s1
     s2.hrnStatus stOK)
  else s.hrnStatus stREJECT

def hrnStop (s : State) (h : Nat) : State :=
  if s.hrnState h = 2 then (s.setHrn h 1).hrnStatus stOK else s.hrnStatus stREJECT
def hrnRecover (s : State) (h : Nat) : State :=
  if s.hrnState h = 2 then (s.setHrn h 3).hrnStatus stOK else s.hrnStatus stREJECT
def hrnQuarantine (s : State) (h : Nat) : State :=
  if s.hrnState h != 0 then (s.setHrn h 4).hrnStatus stOK else s.hrnStatus stREJECT

/-- A write of HRN_CMD that names a command other than UNBIND (R157, R161, R175). -/
def hrnCmd (s : State) (src : Src) (h op : Nat) (unbind : State → State) : State :=
  if s.rb HRN_CMD.BUSY then s.reject src HRN_CMD.a
  else if op != 0 && h = 0 then s.reject src HRN_CMD.a
  else
    let s1 := s.wf HRN_CMD.HARNESS h
    match op with
    | 0 => s1
    | 1 => s1.hrnBind h
    | 2 => s1.hrnStart h
    | 3 => s1.hrnStop h
    | 4 => s1.hrnRecover h
    | 5 => unbind s1
    | 6 => s1.hrnQuarantine h
    | _ => s1.hrnStatus stREJECT

/-! ## Harness faults (R157, R160) -/

/-- FAIL_CNT increases by 1; at 3 the harness is quarantined. -/
def failOnce (s : State) (h other : Nat) : State :=
  let n := s.rf (HRN_STS.FAIL_CNT h) + 1
  let s1 := s.wf (HRN_STS.FAIL_CNT h) (min 3 n)
  s1.setHrn h (if 3 ≤ n then 4 else other)

/-- A harness fault against `h` at plane time `t`. -/
def harnessFault (s : State) (r : FaultRec) (t : Nat) : State :=
  let h := r.harness
  if h = 0 then (s.occur r t).inc (HRN_CNT_FAULTS.V 0)
  else
    match s.hrnState h with
    | 0 => (s.occur { r with harness := 0 } t).inc (HRN_CNT_FAULTS.V 0)
    | 2 =>
      let s1 := (s.occur r t).inc (HRN_CNT_FAULTS.V h)
      let near := match lookupKey s1.hrn.started h with
        | some t0 => decide (s1.now - t0 < max 1 (s1.rf HRN_GCFG.STABLE_MS) * 1000000)
        | none => false
      if near then s1.failOnce h 3 else s1.setHrn h 3
    | 3 => ((s.occur r t).inc (HRN_CNT_FAULTS.V h)).failOnce h 3
    | _ => (s.occur r t).inc (HRN_CNT_FAULTS.V h)

/-- The next fault hub 0 applies: the oldest whose harness has no command executing on it, and of those that arrived with it
a DEVICE fault first (R161, R514). -/
def nextRaised (s : State) : Option Raised :=
  match s.fault.raised.find? (fun r => r.what.sev == 3 || s.hrn.unbinding != some r.what.harness || r.what.harness == 0) with
  | some r => (s.fault.raised.find? (fun x => x.what.sev == 3 && x.time == r.time)).or (some r)
  | none => none

/-- The next fault, where it is a harness fault, is applied. -/
def applyHarnessFault (s : State) : State :=
  match s.nextRaised with
  | some r =>
    if r.what.sev = 2 then (s.withFault { s.fault with raised := s.fault.raised.erase r }).harnessFault r.what r.time else s
  | none => s

/-- Which quota an index names: cores, rings, contexts, carabiners, HBM pages. -/
def qkind (i : Fin 5) : QKind :=
  match i.val with
  | 0 => .cores | 1 => .rings | 2 => .ctx | 3 => .carab | _ => .hbm

/-- A write of HRN_WIT_CFG (R402, R410). -/
def writeWitCfg (s : State) (src : Src) (h : Nat) (v : Word) : State :=
  let lg := v.field 40 5
  if lg < 12 || 30 < lg || v.field 45 2 = 3 || v.field 0 40 % 2 ^ lg != 0 then s.reject src (HRN_WIT_CFG.a h)
  else ((s.setReg (HRN_WIT_CFG.a h) (Word.ofN (v.field 0 47))).setReg (HRN_WIT_WPTR.a h) 0).setReg (HRN_WIT_RPTR.a h) 0

end State

/-- HRN_CMD BIND (R160). -/
def execBind (src : Src) (h : Fin 4096) (s : State) : Res :=
  unheld s (s.guardWrite src HRN_CMD.a (fun t => t.hrnCmd src h 1 (fun u => u)))
/-- HRN_CMD START (R160). -/
def execStart (src : Src) (h : Fin 4096) (s : State) : Res :=
  unheld s (s.guardWrite src HRN_CMD.a (fun t => t.hrnCmd src h 2 (fun u => u)))
/-- HRN_CMD STOP (R160). -/
def execStop (src : Src) (h : Fin 4096) (s : State) : Res :=
  unheld s (s.guardWrite src HRN_CMD.a (fun t => t.hrnCmd src h 3 (fun u => u)))
/-- HRN_CMD RECOVER (R160). -/
def execRecover (src : Src) (h : Fin 4096) (s : State) : Res :=
  unheld s (s.guardWrite src HRN_CMD.a (fun t => t.hrnCmd src h 4 (fun u => u)))
/-- HRN_CMD QUARANTINE (R160). -/
def execQuarantine (src : Src) (h : Fin 4096) (s : State) : Res :=
  unheld s (s.guardWrite src HRN_CMD.a (fun t => t.hrnCmd src h 6 (fun u => u)))
/-- The next harness fault is applied at hub 0 (R160, R514). -/
def execHarnessFault (s : State) : Res := unheld s s.applyHarnessFault
/-- STABLE_MS has passed since the START of harness `h` without a harness fault (R160). -/
def execStableExpire (h : Fin 4096) (s : State) : Res :=
  unheld s (if h.val != 0 && s.hrnState h == 2 then (s.wf (HRN_STS.FAIL_CNT h) 0).traceHrn h 2 else s)
/-- A state change of harness `h` reaches every copy of the table (R161). -/
def execHarnessStatePropagate (h : Fin 4096) (s : State) : Res := unheld s (s.propagate h)
/-- A quota LIMIT is written (R165, R166, R174): `k` 0 cores, 1 rings, 2 contexts, 3 carabiners, 4 HBM pages. -/
def execQuotaLimitWrite (src : Src) (k : Fin 5) (h : Fin 4096) (v : BitVec 32) (s : State) : Res :=
  unheld s (s.guardWrite src ((State.qkind k).limit h).a (fun t => t.writeLimit src (State.qkind k) h v.toNat))
/-- HRN_WIT_CFG of harness `h` is written (R402). -/
def execWitnessCfgWrite (src : Src) (h : Fin 4096) (v : Word) (s : State) : Res :=
  unheld s (s.guardWrite src (HRN_WIT_CFG.a h) (fun t => t.writeWitCfg src h v))

end Sys2Proof.Machine
end

