-- ==== Sys2Proof/Machine/Binding.lean ====
section
/-! DEFINITION. Binding cores, starting them, loading programs, package flag blocks, credit channels and jumar pairs as
harness 0 sets them, bivouac and the wait limit (spec/07_compute_model.md R188 to R201; spec/10_proit_machine.md R260 to
R264). -/
namespace Sys2Proof.Machine
namespace State

/-! ## Binding (R163, R170, R197) -/

/-- Bound cores of device cluster `c`. -/
def boundIn (s : State) (c : Nat) : Nat := s.rf (CRX_CLU_STS.BOUND (c / 4) (c % 4))
/-- A MODE 0 gate context holds cluster `c` (R359). -/
def gateHolds (s : State) (c : Nat) : Bool :=
  s.gate.ctxs.any (fun g => (g.desc.getD 0 0).field 12 1 == 0 && g.bytes.any (fun b => b.1 == c))
/-- The status a bind completes with (R197, R359, R507). -/
def bindStatus (s : State) (k h : Nat) : Nat :=
  if !s.campOk 6 then stNOT_READY
  else if !s.grantable h || s.boundCore k || s.cstate k = 6 then stREJECT
  else if (match s.cluOwner (k / 8) with | some o => o != h | none => false) || s.gateHolds (k / 8) then stCONFLICT
  else if !s.quotaOk .cores h 1 then stQUOTA else stOK
def setClu (s : State) (c h n : Nat) : State :=
  ((s.wf (CRX_CLU_STS.BOUND (c / 4) (c % 4)) n).wf (CRX_CLU_STS.OWNED (c / 4) (c % 4)) (if n = 0 then 0 else 1)).wf
    (CRX_CLU_STS.HARNESS (c / 4) (c % 4)) h
/-- Address range of S of cluster `c` below its context reservations (R288, R324). -/
def sFree (s : State) (c : Nat) : Nat := sizeS - s.rf (CRX_CLU_SRES.BYTES (c / 4) (c % 4))

/-- A command finishes. -/
def bindDone (s : State) (n st : Nat) : State :=
  ((s.withComp { s.comp with binds := s.comp.binds.filter (fun b => b.die != n) }).wf (CRX_BIND_CMD.STATUS n) st).wf (CRX_BIND_CMD.BUSY n) 0
/-- A bind is granted: its unit is taken, and it executes until L, and S for a first core, are cleared. -/
def bindBegin (s : State) (n k h : Nat) : State :=
  let st := s.bindStatus k h
  if st != stOK then s.bindDone n st
  else
    let s1 := (s.quotaTake .cores h 1).wf (CRX_BIND_CMD.BUSY n) 1
    s1.withComp { s1.comp with binds := s1.comp.binds.filter (fun b => b.die != n) ++ [⟨n, k, h, true, false⟩] }
/-- Clearing finishes: the core is HALTED and owned by its harness. -/
def bindFinish (s : State) (n : Nat) : State :=
  match s.comp.binds.find? (fun b => b.die == n && b.bind && !b.waits) with
  | none => s
  | some b =>
    let k := b.core
    let c := k / 8
    let first := s.boundIn c == 0
    let s1 := if b.h = 0 then s else s.withMem (s.mem.clearValid (addrL k 0) (addrL k sizeL))
    let s2 := if b.h = 0 || !first then s1 else s1.withMem (s1.mem.clearValid (addrS c 0) (addrS c (s1.sFree c)))
    let gone : Nat → Bool := fun x => (decide (lfKey k 0 ≤ x) && decide (x < lfKey k 256)) ||
      (first && decide (cfKey c 0 ≤ x) && decide (x < cfKey c 1024))
    let s3 := s2.withComp { s2.comp with flags := s2.comp.flags.filter (fun x => !gone x) }
    let s4 := (((s3.setClu c b.h (s3.boundIn c + 1)).wf (CRX_CORE_STS.STATE k) 1).wf (CRX_CORE_STS.HARNESS k) b.h).setReg (CRX_CORE_ARITH.a k) 0
    let s5 := ((s4.setReg (CRX_CORE_IMAGE.a k) 0).setReg (CRX_CORE_CODE.a k) 0).setCst k
      { s4.cst k with bound := true, entry := 0, ldata := 0, sFoot := 0, kept := none }
    (s5.wakeTen c).bindDone n stOK

/-- Core `k` is unbound: its quota unit goes back, a tenant's L holds poison, and the last core releases the cluster
(R197, R445). -/
def unbindCore (s : State) (k : Nat) : State :=
  let h := s.coreH k
  let c := k / 8
  let s0 := (s.haltCore k).quotaGive .cores h 1
  let s1 := if h = 0 then s0 else s0.withMem ((s0.mem.poison (addrL k 0) (addrL k sizeL)).clearValid (addrL k 0) (addrL k sizeL))
  let left := s1.boundIn c - 1
  let s2 := if h = 0 || left != 0 then s1
    else s1.withMem ((s1.mem.poison (addrS c 0) (addrS c (s1.sFree c))).clearValid (addrS c 0) (addrS c (s1.sFree c)))
  let keep := s2.rf (CRX_CLU_SRES.BYTES (c / 4) (c % 4)) != 0
  let s3 := s2.setClu c (if left = 0 && !keep then 0 else h) left
  let s4 := if s3.cstate k = 6 then s3 else s3.wf (CRX_CORE_STS.STATE k) 0
  (s4.wf (CRX_CORE_STS.HARNESS k) 0).setCst k { s4.cst k with bound := false }
def unbindBegin (s : State) (n k : Nat) : State :=
  if !s.boundCore k || s.hrnState (s.coreH k) = 2 then s.bindDone n stREJECT
  else (s.unbindCore k).bindDone n stOK

/-- Is a load executing on core `k`? -/
def loading (s : State) (k : Nat) : Bool := s.comp.loads.any (fun l => l.cores.contains k)

/-- A write of CRX_BIND_CMD takes effect (R197, R263). -/
def writeBindCmd (s : State) (src : Src) (n q h op : Nat) : State :=
  if s.rb (CRX_BIND_CMD.BUSY n) then s.reject src (CRX_BIND_CMD.a n) else
  let s1 := (s.wf (CRX_BIND_CMD.CORE n) q).wf (CRX_BIND_CMD.HARNESS n) h
  let k := 32 * n + q
  if op = 0 then s1
  else if op = 3 then s1.bindDone n stREJECT
  else if s.loading k then
    (s1.withComp { s1.comp with binds := s1.comp.binds ++ [⟨n, k, h, decide (op = 1), true⟩] }).wf (CRX_BIND_CMD.BUSY n) 1
  else if op = 1 then s1.bindBegin n k h else s1.unbindBegin n k

/-! ## GO (R198) -/

/-- Core `k` starts at the entry of its program. -/
def startCore (s : State) (k : Nat) : State :=
  let s1 := if s.cstate k = 5 then (s.setReg (CRX_CORE_FAULT.a k) 0).setReg (CRX_CORE_FAULT_ADDR.a k) 0 else s
  (s1.wf (CRX_CORE_STS.STATE k) 2).setPc k (s1.cst k).entry
/-- May the cores of a harness start (R158, R515, R523)? -/
def mayRun (s : State) (h : Nat) : Bool := s.hrnState h == 2 && !s.mpStopped && (h == 0 || s.rf HUB_FAULT_STS.DEV_STATE != 2)
def go (s : State) (k : Nat) : State :=
  if (s.cstate k = 1 || s.cstate k = 5) && s.mayRun (s.coreH k) then s.startCore k else s.inc (HRN_CNT_FAULTS.V 0)

/-! ## Loading (R260 to R264) -/

/-- Bytes of H that harness `h` holds (R260): harness 0 counts its pools, which no quota counts. -/
def hbmHeld (s : State) (h : Nat) : Nat :=
  if h = 0 then (((List.range 64).filter (fun q => s.poolHeld q && s.rf (POOL_CFG.HARNESS q) == 0)).map (fun q => s.rf (POOL_PAGES.V q))).sum * 4096
  else s.rf (HRN_Q_HBM.USED h) * 4096
def ctxHeld (s : State) (h : Nat) : Nat :=
  if h = 0 then (s.rope.ctxs.filter (fun c => c.harness == 0)).length + (s.gate.ctxs.filter (fun c => (c.desc.getD 0 0).field 0 12 == 0)).length
  else s.rf (HRN_Q_CTX.USED h)
def pflagBlocks (s : State) (h : Nat) : Nat :=
  ((List.range 64).filter (fun b => s.rb (CRX_PFLAG_BIND.VALID (b / 4) (b % 4)) && s.rf (CRX_PFLAG_BIND.HARNESS (b / 4) (b % 4)) == h)).length
def cchHeld (s : State) (h : Nat) : Nat :=
  (s.comp.cch.filter (fun e => e.2.field 0 1 == 1 && e.2.field 1 12 == h)).length
def jumarPairs (s : State) (h : Nat) : Nat :=
  ((List.range 512).filter (fun i => s.rb (CRX_JUMAR_CFG.VALID (i / 32) (i % 32)) && s.rf (CRX_JUMAR_CFG.HARNESS (i / 32) (i % 32)) == h)).length

/-- The shortfalls of R260: L, S, H, package flag blocks, channels, pairs, contexts. -/
def shortfalls (s : State) (cores : List Nat) (h : Nat) (i : Image) : List Nat :=
  let clus := (cores.map (fun k => k / 8)).dedup
  [i.l + i.code - sizeL,
   (clus.map (fun c => i.s - (sizeS - s.rf (CRX_CLU_SRES.BYTES (c / 4) (c % 4))))).foldl max 0,
   i.h - s.hbmHeld h, i.pflag - s.pflagBlocks h, i.cch - s.cchHeld h, i.jumar - s.jumarPairs h, i.ctx - s.ctxHeld h]

/-- The checks of R261 from order 1 to 8: status and REASON. -/
def loadCheck (s : State) (cores : List Nat) (op h0 src len : Nat) (i : Image) : Nat × Nat :=
  let h := s.coreH (cores.headD 0)
  if cores.isEmpty || !(op == 1 || op == 2) then (stREJECT, 7)
  else if cores.any (fun k => !s.boundCore k || s.coreH k != h) then (stREJECT, 6)
  else if cores.any (fun k => !(s.cstate k == 1 || s.cstate k == 5) || s.comp.binds.any (fun b => b.core == k) || s.loading k) then (stREJECT, 4)
  else if !s.grantable h || (op == 2 && (s.hrnState h != 2 || s.mpStopped)) || (h != 0 && s.rf HUB_FAULT_STS.DEV_STATE == 2) then (stREJECT, 5)
  else if !(h0 == 0 || h0 == h) || len < 4096 || 0x400000 < len ||
      (match s.hRange h0 src len with | some [_] => false | _ => true) then (stDENIED, 7)
  else if i.rev < Config.encMin.toNat || Config.encMax.toNat < i.rev then (stREJECT, 2)
  else if !i.ok || i.data.any (fun d => decide (i.l < d.1 + d.2.length)) then (stREJECT, 3)
  else if (s.shortfalls cores h i).any (fun x => x != 0) then (stREJECT, 1) else (stOK, 0)

/-- What a load that has completed reports (R287). -/
def loadReport (s : State) (n st reason : Nat) (sh : List Nat) : State :=
  let s1 := ((s.wf (CRX_LOAD_CMD.STATUS n) st).wf (CRX_LOAD_CMD.BUSY n) 0).wf (CRX_LOAD_REASON.V n) reason
  let s2 := ((s1.setReg (CRX_LOAD_SHORT_L.a n) (Word.ofN (nth sh 0))).setReg (CRX_LOAD_SHORT_S.a n) (Word.ofN (nth sh 1))).setReg
    (CRX_LOAD_SHORT_H.a n) (Word.ofN (nth sh 2))
  (((s2.wf (CRX_LOAD_SHORT_RES.PFLAG n) (min 0xFFFF (nth sh 3))).wf (CRX_LOAD_SHORT_RES.CCH n) (min 0xFFFF (nth sh 4))).wf
    (CRX_LOAD_SHORT_RES.JUMAR n) (min 0xFFFF (nth sh 5))).wf (CRX_LOAD_SHORT_RES.CTX n) (min 0xFFFF (nth sh 6))

/-- The program is written to one core and its state set (R262). -/
def loadCore (s : State) (args : List Word) (i : Image) (k : Nat) : State :=
  let h := s.ownL k
  let b := s.freeB i.code
  let s1 := (b.2.memWrite h [(addrL k (sizeL - i.code), i.code)] b.1).2
  let s2 := i.data.foldl (fun t d => (t.memWrite h [(addrL k d.1, d.2.length)] d.2).2) s1
  let s3 := s2.setCst k { s2.cst k with sregs := args ++ List.replicate (32 - args.length) 0, stack := [], entry := i.entry, ldata := i.l,
                                        sFoot := i.s, loadAt := s2.now, arith := 0, kept := none }
  ((((((s3.setReg (CRX_CORE_FAULT.a k) 0).setReg (CRX_CORE_FAULT_ADDR.a k) 0).setReg (CRX_CORE_EXIT.a k) 0).setReg (CRX_CORE_IMAGE.a k) i.ident).wf
    (CRX_CORE_CODE.V k) i.code).setReg (CRX_CORE_PC.a k) (Word.ofN (i.entry % 2 ^ 32))).wf (CRX_CORE_STS.STATE k) 1

/-- The cores of die `n` that a mask names. -/
def maskCores (n mask : Nat) : List Nat := ((List.range 32).filter (fun q => mask / 2 ^ q % 2 == 1)).map (fun q => 32 * n + q)

/-- A write of CRX_LOAD_CMD (R261): a load that fails its checks ends at once. -/
def writeLoadCmd (s : State) (src : Src) (n mask op : Nat) (img : State → Image) : State :=
  if s.rb (CRX_LOAD_CMD.BUSY n) then s.reject src (CRX_LOAD_CMD.a n) else
  let s1 := s.wf (CRX_LOAD_CMD.CORE_MASK n) mask
  if op = 0 then s1 else
  let cores := maskCores n mask
  let i := img s
  let r := s.loadCheck cores op (s.rf (CRX_LOAD_SRC.HARNESS n)) (s.rf (CRX_LOAD_SRC.V n)) (s.rf (CRX_LOAD_LEN.V n)) i
  let h := s.coreH (cores.headD 0)
  if r.1 != stOK then s1.loadReport n r.1 r.2 (if r.2 = 1 then s.shortfalls cores h i else [])
  else (s1.withComp { s1.comp with loads := s1.comp.loads ++ [⟨n, cores, op == 2, h, i, (List.range 8).map (fun a => s1.reg (CRX_LOAD_ARG.a n a)), none, false⟩] }).wf (CRX_LOAD_CMD.BUSY n) 1

/-- The bind commands that waited for a load are applied to the state it left (R263). -/
def lateBind (s : State) (n : Nat) : State :=
  match s.comp.binds.find? (fun b => b.die == n && b.waits) with
  | some b => if s.loading b.core then s else if b.bind then s.bindBegin n b.core b.h else s.unbindBegin n b.core
  | none => s

/-- The oldest load executing on crux die `n` finishes (R262, R263, R423). -/
def loadDone (s : State) (n : Nat) : State :=
  match s.comp.loads.find? (fun l => l.die == n) with
  | none => s
  | some l =>
    let s1 := s.withComp { s.comp with loads := s.comp.loads.erase l }
    let s2 := l.cores.foldl (fun t k => t.loadCore l.args l.img k) s1
    let ok := s2.mayRun l.h && !l.halt
    let s3 := if l.launch && ok then l.cores.foldl (fun t k => t.startCore k) s2 else s2
    let r := if l.launch && !ok then (stREJECT, 5) else (stOK, 0)
    let s4 := match l.run with
      | none => s3.loadReport n r.1 r.2 []
      | some x => s3.endRun x r.1 r.2 [0, 0, 0, 0]
    s4.lateBind n

/-! ## Package flags, channels and pairs as harness 0 sets them (R188, R191, R200, R201) -/

def writePflag (s : State) (n b h : Nat) (valid : Bool) : State :=
  let s1 := (s.wf (CRX_PFLAG_BIND.HARNESS n b) h).wf (CRX_PFLAG_BIND.VALID n b) (b2n valid)
  if valid then (List.range 64).foldl (fun t i => t.writeFlag (pfKey (256 * n + 64 * b + i)) false) s1 else s1

/-- The channel CRX_CCH_CTL selects. -/
def cchSel (s : State) (n : Nat) : Nat := 4096 * n + s.rf (CRX_CCH_CTL.INDEX n)
def cchAdvance (s : State) (n : Nat) : State :=
  if s.rb (CRX_CCH_CTL.AUTOINC n) then s.wf (CRX_CCH_CTL.INDEX n) (s.rf (CRX_CCH_CTL.INDEX n) + 1) else s
/-- A write of CRX_CCH_DATA: VALID sets COUNT to CAPACITY; invalidating faults every core whose take waits (R190). -/
def writeCch (s : State) (src : Src) (n : Nat) (v : Word) : State :=
  let g := s.cchSel n
  let was := (s.cchOf g).field 0 1 == 1
  let on := v.field 0 1 == 1
  if on && (was || v.field 16 16 == 0) then s.reject src (CRX_CCH_DATA.a n)
  else
    let e := Word.ofN (v.field 0 13 + v.field 16 16 * 2 ^ 16 + (if on then v.field 16 16 else s.cchCount g) * 2 ^ 32)
    let s1 := (s.setCch g e).cchAdvance n
    if on || !was then s1
    else
      let ks := s.comp.waits.filterMap (fun w => match w.op with
        | .credit g' _ => if g' = g && !w.met then some w.core else none
        | _ => none)
      ks.foldl (fun t k => t.seqFault k stDENIED g) s1

def writeJumar (s : State) (n i : Nat) (v : Word) : State :=
  let s1 := s.setReg (CRX_JUMAR_CFG.a n i) (Word.ofN (v.field 0 13 + v.field 32 32 * 2 ^ 32))
  if v.field 13 1 = 1 then (s1.setReg (CRX_JUMAR_EVEN.a n i) 0).setReg (CRX_JUMAR_ODD.a n i) 0 else s1

/-! ## Bivouac and the wait limit (R193 to R195) -/

/-- What a wait is for, as CRX_CORE_FAULT_ADDR shows it. -/
def waitAddr : WaitOp → Nat
  | .flag key _ _ => if key < 0x100000 then key % 256 else if key < 0x200000 then key % 1024 else key - 0x200000
  | .credit g _ => g
  | .jumar j _ => j
  | _ => 0
def bivouac (s : State) (k : Nat) : State :=
  let kind := s.rf (CRX_CORE_STS.WAIT_KIND k)
  if s.cstate k = 3 && 1 ≤ kind && kind ≤ 5 && (s.flightsOf k).isEmpty && s.rf (CRX_CORE_CFG.BIVOUAC_US k) != 0 &&
      100 ≤ (s.reg (HRN_WAKE.a (s.coreH k))).field 0 16 then
    (s.wf (CRX_CORE_STS.STATE k) 4).inc (CRX_CNT_BIVOUAC.V k)
  else s
/-- A waiting core whose condition has become true goes on. -/
def wake (s : State) (k st : Nat) (kind : WaitOp → Bool) : State :=
  match s.waitOf k with
  | some w => if s.cstate k = st && w.met && kind w.op then s.resume k else s
  | none => s
def waitLimit (s : State) (k : Nat) : State :=
  match s.waitOf k with
  | some w =>
    if (s.cstate k = 3 || s.cstate k = 4) && s.rf (CRX_CORE_CFG.WAIT_LIMIT_US k) != 0 && !w.met then
      s.seqFault k stTIMEOUT (waitAddr w.op) else s
  | none => s

end State

/-- CRX_BIND_CMD bind of core `k` (R197). -/
def execCoreBind (src : Src) (k : Fin 512) (h : Fin 4096) (s : State) : Res :=
  unheld s (s.guardWrite src (CRX_BIND_CMD.a (k.val / 32)) (fun t => t.writeBindCmd src (k.val / 32) (k.val % 32) h 1))
/-- Clearing for the bind executing on crux die `n` finishes (R197). -/
def execCoreBindComplete (n : Fin 16) (s : State) : Res := unheld s (s.bindFinish n)
/-- CRX_BIND_CMD unbind of core `k` (R197). -/
def execCoreUnbind (src : Src) (k : Fin 512) (s : State) : Res :=
  unheld s (s.guardWrite src (CRX_BIND_CMD.a (k.val / 32)) (fun t =>
    t.writeBindCmd src (k.val / 32) (k.val % 32) (t.rf (CRX_BIND_CMD.HARNESS (k.val / 32))) 2))
/-- CRX_CORE_CTL.GO of core `k` (R198). -/
def execGo (src : Src) (k : Fin 512) (s : State) : Res := unheld s (s.guardWrite src (CRX_CORE_CTL.a k) (fun t => t.go k))
/-- CRX_PFLAG_BIND of block `b` with VALID set (R188). -/
def execPflagBind (src : Src) (b : Fin 64) (h : Fin 4096) (s : State) : Res :=
  unheld s (s.guardWrite src (CRX_PFLAG_BIND.a (b.val / 4) (b.val % 4)) (fun t => t.writePflag (b.val / 4) (b.val % 4) h true))
/-- CRX_CCH_DATA of crux die `n` is written (R201). -/
def execCchWrite (src : Src) (n : Fin 16) (v : Word) (s : State) : Res :=
  unheld s (s.guardWrite src (CRX_CCH_DATA.a n) (fun t => t.writeCch src n v))
/-- CRX_JUMAR_CFG of pair `i` of crux die `n` is written (R191). -/
def execJumarCfgWrite (src : Src) (n : Fin 16) (i : Fin 32) (v : Word) (s : State) : Res :=
  unheld s (s.guardWrite src (CRX_JUMAR_CFG.a n i) (fun t => t.writeJumar n i v))
/-- CRX_JUMAR_CFG.RESET of a pair (R200). -/
def execJumarReset (src : Src) (n : Fin 16) (i : Fin 32) (s : State) : Res :=
  unheld s (s.guardWrite src (CRX_JUMAR_CFG.a n i) (fun t => t.writeJumar n i ((t.reg (CRX_JUMAR_CFG.a n i)).withField 13 1 1)))
/-- Core `k` enters bivouac (R194). -/
def execBivouacEnter (k : Fin 512) (s : State) : Res := unheld s (s.bivouac k)
/-- Core `k` leaves bivouac (R195). -/
def execBivouacExit (k : Fin 512) (s : State) : Res := unheld s (s.wake k 4 (fun _ => true))
/-- One wait of core `k` has lasted longer than WAIT_LIMIT_US (R193). -/
def execWaitLimitExpire (k : Fin 512) (s : State) : Res := unheld s (s.waitLimit k)
/-- CRX_LOAD_CMD OP 1 on crux die `n`; `img`: what the loader reads from the image (R261). -/
def execCoreLoad (src : Src) (n : Fin 16) (mask : BitVec 32) (img : Image) (s : State) : Res :=
  unheld s (s.guardWrite src (CRX_LOAD_CMD.a n) (fun t => t.writeLoadCmd src n mask.toNat 1 (fun _ => img)))
/-- CRX_LOAD_CMD OP 2 (R262). -/
def execLoadLaunch (src : Src) (n : Fin 16) (mask : BitVec 32) (img : Image) (s : State) : Res :=
  unheld s (s.guardWrite src (CRX_LOAD_CMD.a n) (fun t => t.writeLoadCmd src n mask.toNat 2 (fun _ => img)))
/-- The load executing on crux die `n` finishes (R263). -/
def execLoadComplete (n : Fin 16) (s : State) : Res := unheld s (s.loadDone n)
/-- The flag core `k` waits for has reached its value (R187). -/
def execFlagWaitSatisfied (k : Fin 512) (s : State) : Res :=
  unheld s (s.wake k 3 (fun o => match o with | .flag _ _ _ => true | _ => false))
/-- The take core `k` waits for has been served (R189). -/
def execCreditTakeServed (k : Fin 512) (s : State) : Res :=
  unheld s (s.wake k 3 (fun o => match o with | .credit _ _ => true | _ => false))
/-- The jumar counter core `k` waits for has reached its value (R282). -/
def execJumarWaitSatisfied (k : Fin 512) (s : State) : Res :=
  unheld s (s.wake k 3 (fun o => match o with | .jumar _ _ => true | _ => false))

end Sys2Proof.Machine
end

