-- ==== Sys2Proof/Machine/Cairn.lean ====
section
/-! DEFINITION. Cairn: the lifetime image, the record log and its failures (spec/20_telemetry_and_cairn.md R559 to R565). -/
namespace Sys2Proof.Machine

/-- Records of one log sector, and of the whole log (R559). -/
def sectorRecords : Nat := 1023
def logRecords : Nat := 516615

namespace State

/-! ## The lifetime image (R560) -/

/-- Words 2 to 0x41F of the image in SRAM that are not zero. -/
def lifeWords (s : State) : List (Nat × Word) :=
  s.regs.filterMap (fun p => if decide (CRN_LIFE.a 2 ≤ p.1) && decide (p.1 < CRN_LIFE.a 0x420) then some ((p.1 - CRN_LIFE.a 0) / 8, p.2) else none)
/-- The generation of the image in SRAM. -/
def setGen (s : State) (g : Nat) : State := (s.wf CRN_GEN.V g).wf (CRN_LIFE.V 0) g
/-- A fresh image of generation 0. -/
def freshImage (s : State) : State :=
  ((s.lifeWords.foldl (fun t x => t.setReg (CRN_LIFE.a x.1) 0) s).setReg (CRN_LIFE.a 1) Config.serial).setGen 0
/-- The copy that matches the serial number, if it is there. -/
def usable (c : Option LifeCopy) : Option LifeCopy := c.filter (fun x => x.serial == Config.serial)
/-- The copy with the higher generation. -/
def newerCopy (a b : Option LifeCopy) : Option LifeCopy :=
  match usable a, usable b with
  | some x, some y => if y.gen ≤ x.gen then some x else some y
  | some x, none => some x
  | none, y => y

/-- Counts of the image loaded at Camp 2 are added to those made since Camp 0. -/
def loadImage (s : State) (c : LifeCopy) : State :=
  ((c.words.foldl (fun t x => t.setReg (CRN_LIFE.a x.1) (t.reg (CRN_LIFE.a x.1) + x.2)) s).setReg (CRN_LIFE.a 1) Config.serial).setGen c.gen

/-! ## Failures (R563, R564) -/

/-- The registers that show the last-gasp store. -/
def showLg (s : State) : State :=
  let s1 := (s.cairn.lg.zip (List.range 64)).foldl (fun t x =>
    (t.setReg (CRN_LG.a x.2 0) (Word.ofN (leAt x.1 0 8))).setReg (CRN_LG.a x.2 1) (Word.ofN (leAt x.1 8 8))) s
  (s1.wf CRN_STS.LG_USED s.cairn.lg.length).wf CRN_STS.LG_FULL (b2n (decide (64 ≤ s.cairn.lg.length)))

/-- The next free last-gasp entry is written with CAUSE and a partition offset. -/
def lastGasp (s : State) (cause off : Nat) : State :=
  if 64 ≤ s.cairn.lg.length then s else
  let camp := if s.rf HUB_CAMP_STS.STATE = 3 then 7 else s.rf HUB_CAMP_STS.CAMP
  let e := bytesLE 4 (s.rf (CRN_LIFE.V 3)) ++ bytesLE 4 (s.rf (CRN_LIFE.V 2)) ++ bytesLE 1 cause ++ bytesLE 1 camp ++ bytesLE 4 off
  (s.withCairn { s.cairn with lg := s.cairn.lg ++ [e ++ bytesLE 2 (crc32c 0 e)] }).showLg

/-- Cairn fails: nothing more is written to flash until the next Camp 2 or FORMAT. -/
def cairnFail (s : State) (b : CairnBad) : State :=
  let s1 := ((s.lastGasp b.cause.val b.off.toNat).wf CRN_STS.CAIRN_FAIL 1).wf CRN_STS.STATE 2
  ((s1.withCairn { s1.cairn with dead := true }).inc CRN_CNT_FLASH_ERR.V).report
    ⟨clLOG, 0x30, 1, stOK, unitHub 2, 0, bytesLE 4 b.cause.val ++ bytesLE 4 b.off.toNat⟩

/-! ## The log (R559, R561, R562) -/

/-- CRN_SEQ_FIRST and CRN_SEQ_NEXT from the log held. -/
def showLog (s : State) : State :=
  match s.cairn.log.head?, s.cairn.log.getLast? with
  | some a, some b => (s.wf CRN_SEQ_FIRST.V a.1).wf CRN_SEQ_NEXT.V (b.1 + 1)
  | _, _ => s

/-- Cairn starts at Camp 2: the newer usable copy is loaded, or a fresh image is started, or Cairn fails. -/
def cairnStart (s : State) (bad : Option CairnBad) : State :=
  let s0 := (s.withCairn { s.cairn with dead := false }).showLog
  match bad with
  | some b => s0.cairnFail b
  | none =>
    let s1 := (s0.wf CRN_STS.CAIRN_FAIL 0).wf CRN_STS.STATE 1
    match newerCopy s.cairn.copyA s.cairn.copyB with
    | some c => (s1.loadImage c).cairnRec 8 s.now (bytesLE 1 0 ++ bytesLE 8 c.gen)
    | none => ((s1.wf CRN_STS.FRESH 1).loadImage ⟨0, Config.serial, []⟩).cairnRec 8 s.now (bytesLE 1 1 ++ bytesLE 8 0)

/-- The lifetime image is written to the older copy under the next generation. -/
def checkpoint (s : State) (bad : Option CairnBad) : Nat × State :=
  if s.rf CRN_STS.STATE != 1 || s.cairn.dead then (stREJECT, s) else
  match bad with
  | some b => (stREJECT, s.cairnFail b)
  | none =>
    let g := s.rf CRN_GEN.V + 1
    let c : LifeCopy := ⟨g, Config.serial, s.lifeWords⟩
    let toB := match s.cairn.copyA, s.cairn.copyB with
      | some x, some y => decide (y.gen < x.gen)
      | some _, none => true
      | none, _ => false
    let s1 := (s.withCairn { s.cairn with copyA := if toB then s.cairn.copyA else some c, copyB := if toB then some c else s.cairn.copyB }).setGen g
    (stOK, s1.cairnRec 7 s.now (bytesLE 8 g ++ bytesLE 1 (b2n toB)))

/-- The oldest buffered record is programmed and read back. -/
def cairnProgram (s : State) (bad : Option CairnBad) : State :=
  if s.rf CRN_STS.STATE != 1 || s.cairn.dead then s else
  match s.cairn.buf with
  | [] => s
  | r :: rest =>
    match bad with
    | some b => s.cairnFail b
    | none =>
      let q := s.rf CRN_SEQ_NEXT.V
      let e := bytesLE 1 r.kind ++ bytesLE 1 1 ++ bytesLE 2 0 ++ bytesLE 4 (s.rf (CRN_LIFE.V 3)) ++ bytesLE 8 r.time ++ bytesLE 8 q ++ r.body
      let first := s.rf CRN_SEQ_FIRST.V
      let f := if logRecords ≤ q - first then first + sectorRecords else first
      let l := s.cairn.log.filter (fun x => decide (f ≤ x.1)) ++ [(q, e ++ bytesLE 4 (crc32c 0 e))]
      ((((s.withCairn { s.cairn with buf := rest, log := l }).wf CRN_SEQ_FIRST.V f).wf CRN_SEQ_NEXT.V (q + 1)).wf CRN_STS.BUF rest.length).inc
        CRN_CNT_REC.V

/-- RD (R562). -/
def cairnRead (s : State) : Nat × State :=
  match lookupKey s.cairn.log (s.rf CRN_RD_SEQ.V) with
  | some bs => (stOK, (List.range 8).foldl (fun t w => t.setReg (CRN_RD_DATA.a w) (Word.ofN (leAt bs (8 * w) 8))) s)
  | none => (stREJECT, s)

/-- FORMAT: the partition is erased and a fresh image of generation 0 started. -/
def cairnFormat (s : State) (bad : Option CairnBad) : Nat × State :=
  match bad with
  | some b => (stREJECT, s.cairnFail b)
  | none =>
    let s1 := s.withCairn { s.cairn with log := [], copyA := none, copyB := none, dead := false }
    let s2 := (((s1.wf CRN_STS.CAIRN_FAIL 0).wf CRN_STS.STATE 1).wf CRN_STS.FRESH 1).freshImage
    (stOK, (s2.wf CRN_SEQ_FIRST.V 0).wf CRN_SEQ_NEXT.V 0)

/-- A write of CRN_CMD: its commands complete in turn, and STATUS is the last one's. -/
def writeCrnCmd (s : State) (v : Word) (bad : Option CairnBad) : State :=
  let go : Bool → (State → Nat × State) → State → State := fun on f t => if on then (f t).2.wf CRN_CMD.STATUS (f t).1 else t
  go (v.field 2 1 == 1) (fun t => t.cairnFormat bad) (go (v.field 1 1 == 1) (fun t => t.cairnRead) (go (v.field 0 1 == 1) (fun t => t.checkpoint bad) s))

/-- Once a second: power-on seconds and the histograms; `temps`: temperatures of the stacks (R560). -/
def lifeSample (s : State) (temps : List (BitVec 8)) : State :=
  if s.boot.held then s else
  let s1 := s.lifeInc 2
  let s2 := (List.range 16).foldl (fun t n =>
    let v := t.rf (PWR_DIE_STS.VSET_MV n)
    (t.lifeInc (0x040 + 32 * n + min 31 (t.rf (PWR_DIE_STS.TJ_C n) / 5))).lifeInc (0x240 + 16 * n + min 15 ((v - 650) * 2 / 25))) s1
  let s3 := s2.lifeInc (0x340 + min 31 (s2.rf PWR_STS.EST_W / 125))
  (List.range 12).foldl (fun t i => t.lifeInc (0x360 + 16 * i + min 15 ((temps.getD i 0).toNat / 8))) s3

end State

/-- CKPT_MIN has passed, or a second since LOCK (R560). -/
def execCairnCheckpoint (bad : Option CairnBad) (s : State) : Res := unheld s (if s.boot.held then s else (s.checkpoint bad).2)
/-- CRN_CMD.CKPT (R560). -/
def execCkpt (src : Src) (bad : Option CairnBad) (s : State) : Res :=
  unheld s (s.guardWrite src CRN_CMD.a (fun t => t.writeCrnCmd 1 bad))
/-- CRN_CMD.RD (R562). -/
def execRd (src : Src) (s : State) : Res := unheld s (s.guardWrite src CRN_CMD.a (fun t => t.writeCrnCmd 2 none))
/-- CRN_CMD.FORMAT (R562). -/
def execFormat (src : Src) (bad : Option CairnBad) (s : State) : Res :=
  unheld s (s.guardWrite src CRN_CMD.a (fun t => t.writeCrnCmd 4 bad))
/-- The oldest buffered record is programmed, or the program fails (R562, R563). -/
def execCairnProgram (bad : Option CairnBad) (s : State) : Res := unheld s (s.cairnProgram bad)
/-- The lifetime sample of a second (R560). -/
def execLifetimeSample (temps : List (BitVec 8)) (s : State) : Res :=
  if temps.length = 12 then unheld s (s.lifeSample temps) else .fault (.illFormed "LIFETIME_SAMPLE")

end Sys2Proof.Machine
end

