-- ==== Sys2Proof/Machine/Pools.lean ====
section
/-! DEFINITION. Buffer pools, patrol scrubbing, pitons and harness table copies (spec/16_memory_and_pools.md R443 to
R470). -/
namespace Sys2Proof.Machine
namespace State

/-! ## A pool's shape (R457, R458, R461) -/

def poolH (s : State) (q : Nat) : Nat := s.rf (POOL_CFG.HARNESS q)
def poolBuffers (s : State) (q : Nat) : Bool := s.rb (POOL_CFG.KIND q)
/-- First device byte of pool `q`, and the byte past its last. -/
def poolLo (s : State) (q : Nat) : Nat := s.rf (POOL_PBASE.V q) * 4096
def poolHi (s : State) (q : Nat) : Nat := (s.rf (POOL_PBASE.V q) + s.rf (POOL_PAGES.V q)) * 4096
/-- Bytes of a buffer, and how many buffers the pool has. -/
def bufSize (s : State) (q : Nat) : Nat := 2 ^ s.rf (POOL_CFG.BUF_LOG2 q)
def bufCount (s : State) (q : Nat) : Nat := if s.poolBuffers q then s.rf (POOL_PAGES.V q) * 4096 / s.bufSize q else 0
def bufAddr (s : State) (q b : Nat) : Nat := s.poolLo q + b * s.bufSize q
/-- State bit of buffer `b` (R461). -/
def bufUsed (s : State) (q b : Nat) : Bool := s.mem.bufs.contains (q, b)
def poolFree (s : State) (q : Nat) : Nat := s.rf (POOL_STS.FREE q)
def freeBuf (s : State) (q b : Nat) : State := s.withMem { s.mem with bufs := s.mem.bufs.filter (fun x => x != (q, b)) }
def takeBuf (s : State) (q b : Nat) : State := s.withMem { s.mem with bufs := s.mem.bufs ++ [(q, b)] }
/-- The link word of buffer `b` (R461). -/
def putLink (s : State) (q b v : Nat) : State :=
  s.withMem (s.mem.write (s.poolH q) (s.bufAddr q b) (bytesLE 8 v))
/-- The list of free buffers threaded in the order given. -/
def thread (s : State) (q : Nat) (l : List Nat) : State :=
  let s1 := (l.zip (l.tail ++ [0xFFFFFFFF])).foldl (fun t p => t.putLink q p.1 p.2) s
  (s1.wf (POOL_HEAD.V q) (l.headD 0xFFFFFFFF)).wf (POOL_STS.FREE q) l.length

/-! ## Commands (R459, R460, R462) -/

/-- A pool of another number that holds its pages: READY, BROKEN, or with a CREATE or DESTROY executing. -/
def poolPagesHeld (s : State) (q : Nat) : Bool :=
  s.rf (POOL_STS.STATE q) != 0 || s.mem.pcmds.any (fun p => p.1 == q && (p.2 == 1 || p.2 == 2))
/-- A pool whose H range is taken: held, or being created (R457, R459). -/
def poolHTaken (s : State) (q : Nat) : Bool := s.poolHeld q || s.mem.pcmds.any (fun p => p.1 == q && p.2 == 1)
def rangesMeet (a n b m : Nat) : Bool := decide (a < b + m) && decide (b < a + n)
/-- Is some other pool within a run of device pages (R459)? -/
def pagesClash (s : State) (q lo n : Nat) : Bool :=
  (List.range 64).any (fun p => p != q && s.poolPagesHeld p && rangesMeet lo n (s.rf (POOL_PBASE.V p)) (s.rf (POOL_PAGES.V p)))

/-- The checks of CREATE in order (R459); NOT_READY before DONE, but for harness 0 (R507). -/
def createStatus (s : State) (q : Nat) : Nat :=
  let h := s.poolH q
  let pages := s.rf (POOL_PAGES.V q)
  let base := s.rf (POOL_HBASE.V q)
  let lg := s.rf (POOL_CFG.BUF_LOG2 q)
  let bufs := s.poolBuffers q
  if h != 0 && s.rf HUB_CAMP_STS.STATE != 3 then stNOT_READY
  else if s.rf (POOL_STS.STATE q) != 0 || !s.grantable h then stREJECT
  else if (bufs && (lg < 12 || 20 < lg || pages * 4096 % 2 ^ lg != 0 || base % 2 ^ lg != 0 || s.bufCount q < s.rf (POOL_FLOOR.V q))) ||
      pages = 0 || base % 4096 != 0 then stREJECT
  else if 0x8FECE00 < s.rf (POOL_PBASE.V q) + pages || s.pagesClash q (s.rf (POOL_PBASE.V q)) pages then stCONFLICT
  else if 2 ^ 40 < base + pages * 4096 ||
      (List.range 64).any (fun p => p != q && s.poolHTaken p && s.poolH p == h &&
        rangesMeet base (pages * 4096) (s.rf (POOL_HBASE.V p)) (s.rf (POOL_PAGES.V p) * 4096)) then stREJECT
  else if !s.quotaOk .hbm h pages then stQUOTA else stOK

/-- A pool command completes. -/
def poolDone (s : State) (q st : Nat) : State := (s.wf (POOL_CMD.STATUS q) st).wf (POOL_CMD.BUSY q) 0
/-- A pool command is accepted and executes until POOL_COMMAND_COMPLETE. -/
def poolExec (s : State) (q op : Nat) : State :=
  (s.withMem { s.mem with pcmds := s.mem.pcmds ++ [(q, op)] }).wf (POOL_CMD.BUSY q) 1

def poolCreate (s : State) (q : Nat) : State :=
  let st := s.createStatus q
  if st != stOK then s.poolDone q st
  else (s.quotaTake .hbm (s.poolH q) (s.rf (POOL_PAGES.V q))).poolExec q 1

/-- DESTROY accepted: its waiting allocations end and its H range leaves the H space (R460). -/
def poolDestroy (s : State) (q : Nat) : State :=
  if s.rf (POOL_STS.STATE q) = 0 then s.poolDone q stREJECT
  else
    let s1 := s.endWaits (fun w => w.pool == q) stFLUSHED
    (s1.withMem { s1.mem with dying := s1.mem.dying ++ [q] }).poolExec q 2

def poolRebuild (s : State) (q : Nat) : State :=
  if s.rf (POOL_STS.STATE q) = 2 then s.poolExec q 3 else s.poolDone q stREJECT

/-- A write of POOL_CMD (R459, R468). -/
def writePoolCmd (s : State) (src : Src) (q op : Nat) : State :=
  if s.rb (POOL_CMD.BUSY q) then s.reject src (POOL_CMD.a q)
  else match op with
    | 0 => s
    | 1 => s.poolCreate q
    | 2 => s.poolDestroy q
    | 3 => s.poolRebuild q
    | _ => s

/-- The pages of pool `q` hold poison, its buffers are gone (no requester holds one), its units go back, it is OFF (R445,
R460). -/
def poolGone (s : State) (q : Nat) : State :=
  let lo := s.poolLo q
  let hi := s.poolHi q
  let m := (s.mem.poison lo hi).clearValid lo hi
  let s1 := s.withMem { m with bufs := m.bufs.filter (fun b => b.1 != q), dying := m.dying.filter (fun d => d != q) }
  let s2 := (((s1.quotaGive .hbm (s1.poolH q) (s1.rf (POOL_PAGES.V q))).wf (POOL_STS.STATE q) 0).wf (POOL_STS.FREE q) 0).wf (POOL_HEAD.V q) 0xFFFFFFFF
  (List.range 16).foldl (fun t e => t.setReg (POOL_REQ_USED.a q e) 0) s2
/-- A created pool becomes READY: valid bits clear, every buffer free, the scree list threaded (R459). -/
def poolMade (s : State) (q : Nat) : State :=
  let s1 := if s.poolH q = 0 then s else s.withMem (s.mem.clearValid (s.poolLo q) (s.poolHi q))
  let s2 := s1.withMem { s1.mem with bufs := s1.mem.bufs.filter (fun b => b.1 != q) }
  (s2.thread q (List.range (s2.bufCount q))).wf (POOL_STS.STATE q) 1
/-- A REBUILD rethreads the list from the state bits (R462). -/
def poolRebuilt (s : State) (q : Nat) : State :=
  (s.thread q ((List.range (s.bufCount q)).filter (fun b => !s.bufUsed q b))).wf (POOL_STS.STATE q) 1
/-- The command executing on pool `q` finishes. -/
def poolComplete (s : State) (q : Nat) : State :=
  match s.mem.pcmds.find? (fun p => p.1 == q) with
  | none => s
  | some p =>
    let s1 := s.withMem { s.mem with pcmds := s.mem.pcmds.erase p }
    let s2 := if p.2 = 1 then s1.poolMade q else if p.2 = 2 then s1.poolGone q else s1.poolRebuilt q
    s2.poolDone q stOK

/-! ## Requesters (R464) -/

/-- The requester entry of a ring pair: the VALID entry that names it, else entry 0. -/
def reqEntry (s : State) (q i : Nat) : Nat :=
  ((List.range 16).find? (fun e => e != 0 && s.rb (POOL_REQ.VALID q e) && s.rf (POOL_REQ.RING q e) == i)).getD 0
def reqUsed (s : State) (q e : Nat) : Nat := s.rf (POOL_REQ_USED.USED q e)
def setReqUsed (s : State) (q e n : Nat) : State :=
  (s.wf (POOL_REQ_USED.USED q e) n).wf (POOL_REQ_USED.OVER q e) (b2n (decide (s.rf (POOL_REQ.LIMIT q e) < n)))

/-! ## Allocation (R461, R462, R465, R466) -/

/-- One pop from the scree list: the buffer and the state after it, or none where a check fails. -/
def pop (s : State) (q : Nat) : Option (Nat × State) :=
  let b := s.rf (POOL_HEAD.V q)
  if s.bufCount q ≤ b || s.bufUsed q b then none
  else
    let a := s.bufAddr q b
    let link := leNat (s.mem.read (s.poolH q) a 8)
    let left := s.poolFree q - 1
    if s.mem.poisoned (s.poolH q) a 8 then none
    else if link = 0xFFFFFFFF then
      (if left = 0 then some (b, ((s.takeBuf q b).wf (POOL_HEAD.V q) link).wf (POOL_STS.FREE q) 0) else none)
    else if s.bufCount q ≤ link || s.bufUsed q link || link = b then none
    else some (b, ((s.takeBuf q b).wf (POOL_HEAD.V q) link).wf (POOL_STS.FREE q) left)
def pops (s : State) (q : Nat) : Nat → Option (List Nat × State)
  | 0 => some ([], s)
  | n + 1 =>
    match s.pops q n with
    | none => none
    | some (l, t) =>
      match t.pop q with
      | none => none
      | some (b, u) => some (l ++ [b], u)

/-- What a buffer holds when it is handed out: its link word zero, or all of it zero under CLEAR (R461). -/
def handOut (s : State) (q b : Nat) (clear : Bool) : State :=
  let a := s.bufAddr q b
  let s1 := s.putLink q b 0
  if !clear then s1
  else if s1.poolH q = 0 then s1.withMem (s1.mem.write 0 a (List.replicate (s1.bufSize q) 0))
  else s1.withMem (s1.mem.clearValid a (a + s1.bufSize q))

/-- The pool becomes BROKEN (R462): the waiting allocations end with POISON. -/
def breakPool (s : State) (q : Nat) : State :=
  let s1 := ((s.wf (POOL_STS.STATE q) 2).inc (POOL_CNT_BROKEN.V q)).report
    ⟨clREQUEST, 9, 1, stPOISON, unitCrux (q / 4), s.poolH q, bytesLE 2 q⟩
  s1.endWaits (fun w => w.pool == q) stPOISON

/-- An allocation that fits is made: the buffers' H offsets are written to the list (R465 row 4). -/
def grantBufs (s : State) (w : PoolWait) : State :=
  let q := w.pool
  match s.pops q w.n with
  | none => (s.endRun w.run stPOISON 0 [0, s.poolFree q]).breakPool q
  | some (l, t) =>
    let t1 := l.foldl (fun u b => u.handOut q b w.clear) t
    let list := l.flatMap (fun b => bytesLE 8 (t1.rf (POOL_HBASE.V q) + b * t1.bufSize q))
    let h := t1.poolH q
    let t2 := match t1.hRange h w.list (8 * w.n) with
      | some rs => (t1.memWrite h rs list).2
      | none => t1
    ((t2.setReqUsed q w.entry (t2.reqUsed q w.entry + w.n)).inc (POOL_CNT_ALLOC.V q)).endRun w.run stOK 0 [w.n, t2.poolFree q]

def floorOk (s : State) (q e : Nat) : Bool := s.rb (POOL_REQ.FLOOR_OK q e)
def poolFits (s : State) (q e n : Nat) : Bool :=
  if s.floorOk q e then decide (n ≤ s.poolFree q) else decide (n + s.rf (POOL_FLOOR.V q) ≤ s.poolFree q)
def overLimit (s : State) (q e n : Nat) : Bool := decide (s.rf (POOL_REQ.LIMIT q e) < s.reqUsed q e + n)

/-- The waiting requests of a pool are served in strict order (R466). -/
def serveWaits (q : Nat) : Nat → State → State
  | 0, s => s
  | fuel + 1, s =>
    match s.host.waits.find? (fun w => w.pool == q) with
    | none => s
    | some w =>
      let s1 := (s.withHost { s.host with waits := s.host.waits.erase w }).setWaiters q
      if s.overLimit q w.entry w.n then
        serveWaits q fuel ((s1.endRun w.run stQUOTA 0 [0, s1.poolFree q]).inc (POOL_CNT_QUOTA.V q))
      else if s.poolFits q w.entry w.n then serveWaits q fuel (s1.grantBufs w)
      else s
def servePool (s : State) (q : Nat) : State := if s.rf (POOL_STS.STATE q) = 1 then serveWaits q 257 s else s

/-- The list of a pool command lies in the harness's H space, aligned, outside the pool named (R463). -/
def listOk (s : State) (q h o n : Nat) : Bool :=
  o % 8 == 0 && (s.hRange h o (8 * n)).isSome &&
  !(decide (0 < n) && rangesMeet o (8 * n) (s.rf (POOL_HBASE.V q)) (s.rf (POOL_PAGES.V q) * 4096))
/-- A pool that takes no allocation or free: FLAT, OFF, or with its DESTROY accepted (R458, R460, R465). -/
def poolShut (s : State) (q : Nat) : Bool := !s.poolBuffers q || s.rf (POOL_STS.STATE q) == 0 || s.mem.dying.contains q

/-- POOL_ALLOC of ring pair `i`, command number `no` (R463, R465). -/
def poolAlloc (s : State) (i no : Nat) (args : List Byte) : State :=
  let q := leAt args 0 1 % 64
  let wait := leAt args 1 1 % 2 == 1
  let clear := leAt args 1 1 / 2 % 2 == 1
  let n := leAt args 2 2
  let bound := leAt args 4 4
  let list := leAt args 8 5
  let h := s.ringH i
  let e := s.reqEntry q i
  let w : PoolWait := ⟨q, no, i, n, e, clear, list, bound⟩
  let fail : Nat → State := fun st => s.endRun no st 0 [0, s.poolFree q]
  let most := if s.floorOk q e then s.bufCount q else s.bufCount q - s.rf (POOL_FLOOR.V q)
  let waiting := (s.host.waits.filter (fun x => x.pool == q)).length
  if s.poolH q != h || !s.listOk q h list n then fail stDENIED
  else if s.poolShut q || n = 0 || 256 < n || most < n then fail stREJECT
  else if s.rf (POOL_STS.STATE q) = 2 then fail stPOISON
  else if s.overLimit q e n then (fail stQUOTA).inc (POOL_CNT_QUOTA.V q)
  else if s.poolFits q e n && (waiting = 0 || s.floorOk q e) then s.grantBufs w
  else if wait && waiting < 256 then (s.withHost { s.host with waits := s.host.waits ++ [w] }).setWaiters q
  else (fail stNOMEM).inc (POOL_CNT_NOMEM.V q)

/-! ## Freeing (R461, R464, R467) -/

/-- What is wrong with the listed offsets from index `j` on: the status and the failing index. -/
def freeFault (s : State) (q : Nat) : Nat → List Nat → List Nat → Option (Nat × Nat)
  | _, _, [] => none
  | j, seen, o :: t =>
    let d := o - s.rf (POOL_HBASE.V q)
    let b := d / s.bufSize q
    if o < s.rf (POOL_HBASE.V q) || d % s.bufSize q != 0 || s.bufCount q ≤ b then some (stREJECT, j)
    else if !s.bufUsed q b || seen.contains b then some (stDOUBLE_FREE, j)
    else freeFault s q (j + 1) (b :: seen) t
/-- One buffer is freed: pushed onto the head, or only its state bit cleared in a BROKEN pool. -/
def freeOne (s : State) (q b : Nat) : State :=
  let s1 := s.freeBuf q b
  if s.rf (POOL_STS.STATE q) = 2 then s1.wf (POOL_STS.FREE q) (s1.poolFree q + 1)
  else ((s1.putLink q b (s1.rf (POOL_HEAD.V q))).wf (POOL_HEAD.V q) b).wf (POOL_STS.FREE q) (s1.poolFree q + 1)

/-- POOL_FREE of ring pair `i`, command number `no`. -/
def poolFreeCmd (s : State) (i no : Nat) (args : List Byte) : State :=
  let q := leAt args 0 1 % 64
  let n := leAt args 2 2
  let list := leAt args 8 5
  let h := s.ringH i
  if s.poolH q != h || !s.listOk q h list n then s.endRun no stDENIED 0 [0]
  else if s.poolShut q || n = 0 || 256 < n then s.endRun no stREJECT 0 [0]
  else
    let r := s.memRead h ((s.hRange h list (8 * n)).getD [])
    let s1 := r.2.2
    let l := (List.range n).map (fun j => leAt r.1 (8 * j) 8)
    match s1.freeFault q 0 [] l with
    | some (st, j) =>
      let s2 := s1.endRun no st 0 [j]
      if st = stDOUBLE_FREE then s2.inc (POOL_CNT_DOUBLE_FREE.V q) else s2
    | none =>
      let e := s1.reqEntry q i
      let s2 := l.foldl (fun t o => t.freeOne q ((o - t.rf (POOL_HBASE.V q)) / t.bufSize q)) s1
      let s3 := (s2.setReqUsed q e (s2.reqUsed q e - n)).inc (POOL_CNT_FREE.V q)
      (s3.endRun no stOK 0 [n]).servePool q

/-- POOL_QUERY of ring pair `i`, command number `no` (R463). -/
def poolQuery (s : State) (i no : Nat) (args : List Byte) : State :=
  let q := leAt args 0 1 % 64
  let e := s.reqEntry q i
  if s.poolH q != s.ringH i then s.endRun no stDENIED 0 []
  else s.endRun no stOK 0 [s.poolFree q, s.rf (POOL_STS.WAITERS q), s.reqUsed q e, s.rf (POOL_REQ.LIMIT q e), s.rf (POOL_REQ_USED.OVER q e)]

/-- Requester entry `e` is written (R464, R466, R468). -/
def writePoolReq (s : State) (q e : Nat) (v : Word) : State :=
  let s1 := s.setReg (POOL_REQ.a q e) (Word.ofN (v.field 0 43))
  (s1.setReqUsed q e (s1.reqUsed q e)).servePool q
/-- FLOOR is written (R466, R468). -/
def writePoolFloor (s : State) (q : Nat) (v : Word) : State := (s.wf (POOL_FLOOR.V q) (v.field 0 28)).servePool q
/-- A configuration word of a pool is written: only while OFF (R468). -/
def writePoolCfg (s : State) (src : Src) (q a w : Nat) (v : Word) : State :=
  if s.rf (POOL_STS.STATE q) != 0 || s.rb (POOL_CMD.BUSY q) then s.reject src a else s.setReg a (Word.ofN (v.field 0 w))

/-- The bound of the waiting allocation of command `no` has passed (R466). -/
def poolWaitOut (s : State) (no : Nat) : State :=
  if s.host.waits.any (fun w => w.run == no && w.bound != 0) then s.endWaits (fun w => w.run == no) stTIMEOUT else s

/-! ## Scrubbing and pitons (R449 to R451) -/

/-- The harness whose valid bits govern model address `a`: the pool's for H, the owner's for scratch. -/
def ownAt (s : State) (a : Nat) : Nat :=
  if a < 0x10000000000 then
    (match (List.range 64).find? (fun q => s.rf (POOL_STS.STATE q) != 0 && decide (s.poolLo q ≤ a) && decide (a < s.poolHi q)) with
     | some q => s.poolH q
     | none => 0)
  else s.ownOf a
/-- Is the scrubber of the store that holds `a` running (R449)? -/
def scrubOn (s : State) (a : Nat) : Bool :=
  if a < 0x10000000000 then s.rf (HBM_SCRUB_CFG.PERIOD_H (stackOf a)) != 0 else s.rf (CRX_MEM_CFG.SCRUB_S (sramDie a)) != 0
/-- The piton group of a line (R450): a pseudo-channel of HBM, 2 MiB of L or S; and how many pitons it has. -/
def pitonGroup (a : Nat) : Nat := if a < 0x10000000000 then pcOf a else 0x10000 + (a - 0x10000000000) / 0x200000
def pitonMax (a : Nat) : Nat := if a < 0x10000000000 then 16 else 8
/-- The index a scrubber's place is kept under: a stack, or 16 and the crux die. -/
def scrubUnit (a : Nat) : Nat := if a < 0x10000000000 then stackOf a else 16 + sramDie a

/-- A scrubber reads the word at `a`, which the array finds clean, in one-bit error, or uncorrectable (R449). A stored word is
not changed by a CE; one found uncorrectable stays so. -/
def scrub (s : State) (a : Nat) (ce ue : Bool) : State :=
  let w := a / 8 * 8
  let h := s.ownAt w
  if !s.scrubOn w || (s.power.hbmSr && decide (w < 0x10000000000)) then s
  else
    let u := scrubUnit w
    let n := (lookupKey s.mem.scrubAt u).getD 0 + 1
    let s0 := s.withMem { s.mem with scrubAt := insertKey (eraseKey s.mem.scrubAt u) u n }
    let s1 := if w < 0x10000000000 && n % 8 = 0 then s0.inc (HBM_CNT_SCRUB_LINES.V (stackOf w)) else s0
    if !s1.mem.live h w then s1
    else match s1.mem.found w with
      | .ue => s1.memEvent 2 h w
      | .unwritten => if ue then (s1.withMem { s1.mem with ue := insertNat s1.mem.ue w }).memEvent 2 h w else s1
      | .clean =>
        if ue then (s1.withMem { s1.mem with ue := insertNat s1.mem.ue w }).memEvent 2 h w
        else if ce then
          (let line := w / 64 * 64
           let k := (lookupKey s1.mem.ceHits line).getD 0 + 1
           (s1.withMem { s1.mem with ceHits := insertKey (eraseKey s1.mem.ceHits line) line k }).memEvent 1 h w)
        else s1

/-- Pitons of a group in use. -/
def pitonsIn (s : State) (g : Nat) : Nat := (s.mem.pitons.filter (fun p => p.2 == g)).length
/-- AUTO_PITON and the CE threshold of the store that holds `a` (R451). -/
def autoPiton (s : State) (a : Nat) : Bool :=
  if a < 0x10000000000 then s.rb (HBM_SCRUB_CFG.AUTO_PITON (stackOf a)) else s.rb (CRX_MEM_CFG.AUTO_PITON (sramDie a))
def pitonCe (s : State) (a : Nat) : Nat :=
  max 1 (if a < 0x10000000000 then s.rf (HBM_SCRUB_CFG.PITON_CE (stackOf a)) else s.rf (CRX_MEM_CFG.PITON_CE (sramDie a)))
/-- A piton of stack `st` is in use: PITONS_USED and PITON_FULL follow (R469). -/
def pitonSts (s : State) (a : Nat) : State :=
  if a < 0x10000000000 then
    (let st := stackOf a
     let mine := s.mem.pitons.filter (fun p => decide (p.2 < 768) && p.2 / 64 == st)
     (s.wf (HBM_STS.PITONS_USED st) mine.length).wf (HBM_STS.PITON_FULL st)
       (b2n ((List.range 64).any (fun p => decide (16 ≤ s.pitonsIn (64 * st + p))))))
  else s
/-- A spare line takes the place of the line at `a`, or a report says that no piton is free (R450, R451). -/
def pitonAt (s : State) (a : Nat) : State :=
  let line := a / 64 * 64
  let g := pitonGroup line
  let h := s.ownAt line
  let h0 := decide (line < 0x10000000000)
  if s.pitonsIn g ≥ pitonMax line then
    s.report ⟨clMEMORY, 4, 1, stOK, if h0 then unitStack (stackOf line) else unitCrux (sramDie line), h,
      bytesLE 2 (if h0 then pcOf line else sramDie line) ++ bytesLE 8 line ++ bytesLE 2 h⟩
  else
    let bad := s.mem.ue.filter (fun w => decide (line ≤ w) && decide (w < line + 64))
    let m := bad.foldl (fun m w => m.poison w (w + 8)) s.mem
    let s1 := (s.withMem { m with pitons := m.pitons ++ [(line, g)], ceHits := eraseKey m.ceHits line }).pitonSts line
    s1.inc (if h0 then HBM_CNT_PITON.V (stackOf line) else CRX_CNT_SRAM_PITON.V (sramDie line))
/-- A piton installed in service is appended to the defect list and recorded in Cairn (R451). -/
def putPiton (s : State) (a : Nat) : State :=
  let line := a / 64 * 64
  let h0 := decide (line < 0x10000000000)
  let d := if h0 then stackOf line else sramDie line
  let s1 := s.pitonAt line
  if s.pitonsIn (pitonGroup line) ≥ pitonMax line then s1
  else (s1.appendDefect (if h0 then 3 else 2) 0xFF d line).cairnRec 3 s.now (bytesLE 2 d ++ bytesLE 4 (pitonGroup line) ++ bytesLE 8 line)
/-- A piton is installed in service (R451): the line has met the CE threshold, or `readback` says that a word of it read back
uncorrectable after a full-word write. -/
def pitonInstall (s : State) (a : Nat) (readback : Bool) : State :=
  let line := a / 64 * 64
  if s.autoPiton line && !(s.mem.pitons.any (fun p => p.1 == line)) &&
      (readback || s.pitonCe line ≤ (lookupKey s.mem.ceHits line).getD 0) then s.putPiton line else s

/-- A harness table copy with an uncorrectable word is reloaded from hub 0 (R447). -/
def copyReload (s : State) (n h : Nat) : State :=
  s.report ⟨clMEMORY, 6, 1, stPOISON, unitCrux n, 0, bytesLE 2 h⟩

end State

/-- A model address of protected memory: byte `o` of HBM, of the L of core `k`, of the S of cluster `c`. -/
def memAddr (store : Fin 3) (unit : Nat) (o : Nat) : Nat :=
  match store.val with
  | 0 => o % sizeH
  | 1 => addrL (unit % 512) (o % sizeL)
  | _ => addrS (unit % 64) (o % sizeS)

/-- A scrubber reads one word; `ce`, `ue`: what the array finds beyond the bytes as stored (R449). -/
def execScrubVisit (store : Fin 3) (unit : Fin 512) (o : BitVec 40) (ce ue : Bool) (s : State) : Res :=
  unheld s (s.scrub (memAddr store unit o.toNat) ce ue)
/-- A piton is installed in service (R451). -/
def execPitonInstall (store : Fin 3) (unit : Fin 512) (o : BitVec 40) (readback : Bool) (s : State) : Res :=
  unheld s (s.pitonInstall (memAddr store unit o.toNat) readback)
/-- The copy of harness `h`'s entry on crux die `n` is reloaded (R447). -/
def execHarnessCopyReload (n : Fin 16) (h : Fin 4096) (s : State) : Res := unheld s (s.copyReload n h)
/-- POOL_CMD CREATE (R459). -/
def execPoolCreate (src : Src) (q : Fin 64) (s : State) : Res :=
  unheld s (s.guardWrite src (POOL_CMD.a q) (fun t => t.writePoolCmd src q 1))
/-- POOL_CMD DESTROY (R460). -/
def execPoolDestroy (src : Src) (q : Fin 64) (s : State) : Res :=
  unheld s (s.guardWrite src (POOL_CMD.a q) (fun t => t.writePoolCmd src q 2))
/-- POOL_CMD REBUILD (R462). -/
def execPoolRebuild (src : Src) (q : Fin 64) (s : State) : Res :=
  unheld s (s.guardWrite src (POOL_CMD.a q) (fun t => t.writePoolCmd src q 3))
/-- A write of requester entry `e`, or of FLOOR where no entry is named (R466). -/
def execPoolReqWrite (src : Src) (q : Fin 64) (e : Option (Fin 16)) (v : Word) (s : State) : Res :=
  unheld s (match e with
    | some x => s.guardWrite src (POOL_REQ.a q x) (fun t => t.writePoolReq q x v)
    | none => s.guardWrite src (POOL_FLOOR.a q) (fun t => t.writePoolFloor q v))
/-- The bound of waiting command `no` passes (R466). -/
def execPoolWaitTimeout (no : Nat) (s : State) : Res := unheld s (s.poolWaitOut no)
/-- The command executing on pool `q` finishes (R459, R460, R462). -/
def execPoolCommandComplete (q : Fin 64) (s : State) : Res := unheld s (s.poolComplete q)

end Sys2Proof.Machine
end

