-- ==== Sys2Proof/Machine/Link.lean ====
section
/-! DEFINITION. Links: belay, partners, port states, port control, MACsec, UDP (spec/02_ports_and_links.md). -/
namespace Sys2Proof.Machine

/-! ## Link prefix (R39) -/
def pfLseq (w : Word) : Nat := w.field 0 24
def pfLack (w : Word) : Nat := w.field 24 24
def pfType (w : Word) : Nat := w.field 48 3
def pfAckValid (w : Word) : Bool := w.field 51 1 == 1
def pfXoff (w : Word) : Nat := w.field 56 8
def mkPrefix (lseq lack ty xoff : Nat) (ackValid : Bool) : Word :=
  Word.ofN (lseq % 2 ^ 24 + lack % 2 ^ 24 * 2 ^ 24 + ty % 8 * 2 ^ 48 + b2n ackValid * 2 ^ 51 + xoff % 256 * 2 ^ 56)

/-- (a − b) modulo 2^24. -/
def sub24 (a b : Nat) : Nat := (a % 2 ^ 24 + 2 ^ 24 - b % 2 ^ 24) % 2 ^ 24

namespace State

/-! ## Sending link frames -/

/-- MACsec packet numbering of one transmitted link frame, with the alarm at 0xF000_0000 (R59). -/
def macsecSend (s : State) (P : Nat) : State :=
  if !s.rb (PRT_PORT_CTL.MACSEC P) then s else
  let pn := s.rf (PRT_MACSEC_PN.V P)
  let s1 := s.wf (PRT_MACSEC_PN.V P) (pn + 1)
  if pn + 1 = 0xF0000000 && !s.rb (PRT_MACSEC_CTL.XPN P) then
    s1.report ⟨clLINK, 0x03, 1, stOK, unitPortDie (portDie P), 0, bytesLE 2 P⟩
  else s1

/-- Put a link frame on the wire: its prefix carries E and the current XOFF bits, so an acknowledgement is no longer
due and an XOFF change has been carried (R42, R44). -/
def sendLink (s : State) (P lseq ty : Nat) (body : LinkBody) : State :=
  let p := s.port P
  let w := mkPrefix lseq p.rxExpect ty p.xoffTx true
  ((s.setPort P { p with ackDue := false, unacked := 0, xoffDirty := false }).macsecSend P).emit (.link P w body)

/-- A standalone ACK with LACK = E. -/
def sendAck (s : State) (P : Nat) : State := s.sendLink P 0 1 .none
/-- A NAK with LACK = E. -/
def sendNak (s : State) (P : Nat) : State := s.sendLink P 0 2 .none

/-- A FRAME or PARTNER link frame, first transmission: it takes the next LSEQ and is held (R40). -/
def sendHeld (s : State) (P cls : Nat) (body : LinkBody) : State :=
  let p := s.port P
  let ty := match body with | .partner _ => 3 | _ => 0
  (s.setPort P { p with txNext := (p.txNext + 1) % 2 ^ 24, held := p.held ++ [⟨p.txNext, cls, body⟩] }).sendLink P p.txNext ty body

/-- The words of this port's PARTNER message (R51). -/
def partnerWords (s : State) (P : Nat) : List Word :=
  let role := if isTorus P then 2 else if s.gatewayPort P then 3 else 4
  let shape := s.shapeA + s.shapeB * 256 + s.shapeC * 65536
  let num := if isTorus P then P - 768 else P
  [Word.ofN (1 + role * 65536), Config.serial, Word.ofN (s.devIndex + shape * 256 + num * 2 ^ 32), Word.ofN s.planeId,
   0, 0, 0, 0]
def sendPartner (s : State) (P : Nat) : State := s.sendHeld P 0 (.partner (s.partnerWords P))

/-! ## Port states (R53) -/

def portUnit (P : Nat) : Nat := unitPortDie (portDie P)

/-- The membership event record of R53; it is against a harness only under R516 (R510). -/
def memberEvent (s : State) (P code sev : Nat) : State :=
  s.report ⟨clMEMBER, code, sev, stOK, portUnit P, if sev = 2 then s.rf (PRT_PORT_ID.HARNESS P) else 0,
    bytesLE 2 P ++ bytesLE 8 (s.reg (PRT_PARTNER.a P 1)).toNat ++ bytesLE 4 (s.rf HUB_MEMBER_EPOCH.V)⟩

/-- Enter a port state: reported, traced, and recorded where R53 says so. `sev`: severity of the record. -/
def enterState (s : State) (P st sev : Nat) : State :=
  let s1 := (s.wf (PRT_PORT_STS.STATE P) st).trace 4 (portUnit P) 0 (bytesLE 2 P ++ bytesLE 1 st)
  let s2 := s1.wf (PRT_PORT_STS.LINK_UP P) (b2n (decide (2 ≤ st) && decide (st ≤ 5)))
  if 3 ≤ st then s2.memberEvent P st sev else s2

/-- Belay starts afresh on one port (R40, R57): sequence numbers at zero, nothing held, nothing owed. -/
def resetBelay (s : State) (P : Nat) : State :=
  let p := s.port P
  s.setPort P { p with rxExpect := 0, txNext := 0, held := [], failed := 0, replayed := false, ackDue := false,
                       unacked := 0, nak := none, xoffRx := 0, xoffDirty := false, openMsgs := [], partnerOk := false }

/-- Frames queued for a port that no longer takes them are discarded at that egress (R56); MEM requests among them are
answered (R153). -/
def flushQueue (s : State) (P : Nat) : State :=
  let gone := s.fwd.queues.filter (fun x => x.P == P)
  let s1 := (s.withFwd { s.fwd with queues := s.fwd.queues.filter (fun x => x.P != P),
                                    place := s.fwd.place.filter (fun x => x.1 != P) }).emptyPort P
  gone.foldl (fun t x => t.absent (fun a u => forwardF 2 (dieOf P) .inside true a u) P x.frame) s1

/-- The port leaves ACTIVE: messages not ended are discarded whole, an endpoint's queue is emptied, and ropes with the
endpoint as a member break (R56, R332). -/
def leaveActive (s : State) (P : Nat) : State :=
  if !s.active P then s else
  let s1 := s.setPort P { s.port P with openMsgs := [] }
  if isTorus P then s1 else (s1.retireSource P).memberGone P

/-- Severity of the record for DEPARTED by link failure: HARNESS where the port's harness is RUNNING (R516). -/
def departSev (s : State) (P : Nat) : Nat :=
  let h := s.rf (PRT_PORT_ID.HARNESS P)
  if h != 0 && s.rf (HRN_STS.STATE h) == 2 then 2 else 0

/-- One more retrain (R63, R560). -/
def noteRetrain (s : State) (P : Nat) : State := (s.satInc (PRT_PORT_STS.RETRAINS P) 1).lifeInc 11

/-- Link failure (R43, R53, R57): held frames are lost and counted, a link fault is reported, and the port goes to
DEPARTED if an admitted endpoint stood behind it, to TRAINING otherwise. -/
def linkFailure (s : State) (P : Nat) : State :=
  let p := s.port P
  let s1 := (s.count (PRT_CNT_LOST.V P) p.held.length).report
    ⟨clLINK, 0x01, 1, stOK, portUnit P, 0, bytesLE 2 P ++ bytesLE 4 p.rxExpect ++ bytesLE 4 p.txNext⟩
  let was := s.active P && !isTorus P && !s.gatewayPort P
  let sev := s.departSev P
  let s2 := (s1.leaveActive P).resetBelay P
  if was then (s2.enterState P 6 sev).flushQueue P else (s2.noteRetrain P).enterState P 1 0

/-- The part of a frame that was being received when its link failed (R88): discarded, or, where its cut-through had
begun, sent with the missing payload as 0xFF bytes and BAD set. -/
def cutShort (s : State) (P : Nat) : Option (Frame × Bool) → State
  | none => s
  | some (f, started) =>
    if !started then s.inc (FWD_CNT_BAD_DISCARD.V (dieOf P))
    else
      let g := { f with payload := padTo f.len 0xFF#8 f.payload }.setBad
      forwardF 3 (dieOf P) (if isTorus P then .torus P else .endpoint P) true g (s.inc (FWD_CNT_BAD_MARKED.V (dieOf P)))

/-! ## Belay (R41 to R44) -/

/-- Free every held frame before LACK = `l`; any advance clears the failed-replay count (R42, R43). -/
def freeBefore (s : State) (P l : Nat) : State :=
  let p := s.port P
  let keep := p.held.filter (fun h => !(decide (1 ≤ sub24 l h.lseq) && decide (sub24 l h.lseq ≤ 2 ^ 23)))
  if keep.length < p.held.length then s.setPort P { p with held := keep, failed := 0, replayed := false }
  else s

/-- What every link frame that passes its link check carries in its prefix: LACK and XOFF (R39, R42, R44). -/
def takePrefix (s : State) (P : Nat) (w : Word) : State :=
  let s1 := if pfAckValid w then s.freeBefore P (pfLack w) else s
  s1.setPort P { s1.port P with xoffRx := pfXoff w }

/-- Retransmit every held frame in order (R43). -/
def resendHeld (s : State) (P : Nat) : State :=
  let hs := (s.port P).held
  (hs.foldl (fun t h => t.sendLink P h.lseq (match h.body with | .partner _ => 3 | _ => 0) h.body) s).count
    (PRT_CNT_REPLAY.V P) hs.length

def replayLimit (s : State) (P : Nat) : Nat := max 1 (s.rf (PRT_BELAY_CFG.REPLAY_LIMIT P))
def ackTimeout (s : State) (P : Nat) : Nat := min 1000000 (max 1000 (s.rf (PRT_BELAY_CFG.ACK_TIMEOUT P)))

/-- A replay trigger (R43): every held frame again, or link failure at the trigger that finds REPLAY_LIMIT failed
replays. -/
def replayTrigger (s : State) (P : Nat) : State :=
  let p := s.port P
  if p.held.isEmpty then s else
  let n := if p.replayed then p.failed + 1 else p.failed
  if s.replayLimit P ≤ n then s.linkFailure P
  else (s.setPort P { p with failed := n, replayed := true }).resendHeld P

/-- Does belay run on the port: alignment reached and the link up (R53)? -/
def belayUp (s : State) (P : Nat) : Bool := decide (2 ≤ s.pstate P) && decide (s.pstate P ≤ 5)

/-- A link frame that fails its link check: discarded, counted, answered with one NAK (R41, R60). -/
def linkCheckFail (s : State) (P : Nat) (k : LinkCheck) : State :=
  let s1 := match k with
    | .badMacsec => s.inc (PRT_CNT_MACSEC_DROP.V P)
    | .badFec => s.inc (PRT_CNT_FEC_UNCORR.V P)
    | _ => s
  (s1.inc (PRT_CNT_LINK_ERR.V P)).sendNak P

/-- A gap: one NAK unless one has been sent for this E within ACK_TIMEOUT (R41). -/
def gapNak (s : State) (P : Nat) : State :=
  let p := s.port P
  let recent := match p.nak with
    | some (e, t) => e == p.rxExpect && decide (s.now - t < s.ackTimeout P)
    | none => false
  if recent then s
  else ((s.setPort P { p with nak := some (p.rxExpect, s.now) }).inc (PRT_CNT_NAK.V P)).sendNak P

/-- A sequenced link frame (FRAME or PARTNER) against E (R41, R42); `take` is what acceptance does. -/
def sequenced (s : State) (P : Nat) (w : Word) (take : State → State) : State :=
  let s1 := s.takePrefix P w
  let p := s1.port P
  let ahead := sub24 (pfLseq w) p.rxExpect
  if ahead = 0 then
    (let s2 := take (s1.setPort P { p with rxExpect := (p.rxExpect + 1) % 2 ^ 24, ackDue := true, unacked := p.unacked + 1,
                                           nak := none })
     if 32 ≤ (s2.port P).unacked then s2.sendAck P else s2)
  else if ahead ≤ 0x7FFFFF then s1.gapNak P
  else (s1.inc (PRT_CNT_DUP.V P)).setPort P { p with ackDue := true }

/-! ## Partner checks (R51, R52, R67) -/

def pw (s : State) (P i : Nat) : Word := s.reg (PRT_PARTNER.a P i)
def partnerRole (s : State) (P : Nat) : Nat := (s.pw P 0).field 16 8
def partnerPlane (s : State) (P : Nat) : Nat := (s.pw P 3).field 0 32

/-- The check a torus port makes after its device's COMMIT (R52). -/
def torusCheck (s : State) (P : Nat) : State :=
  if !s.rb HUB_PLANE.COMMITTED || s.partnerPlane P == 0 || !(s.port P).partnerOk then s else
  let t := P - 768
  let d := t % 24 / 4
  let back := 24 * (t / 24) + 4 * (if d % 2 = 0 then d + 1 else d - 1) + t % 4
  let shape := s.shapeA + s.shapeB * 256 + s.shapeC * 65536
  let good := s.partnerRole P == 2 && s.partnerPlane P == s.planeId && (s.pw P 2).field 8 24 == shape &&
    (s.pw P 2).field 0 6 == s.neighbour s.devIndex d && (s.pw P 2).field 32 16 == back
  if good then (if s.active P then s else s.enterState P 4 0)
  else (s.leaveActive P).enterState P 5 1

/-- The check a gateway port makes (R67). -/
def gatewayCheck (s : State) (P : Nat) : State :=
  if !(s.port P).partnerOk then s
  else if s.partnerRole P == 3 && s.partnerPlane P == 0 then s
  else
    let good := s.partnerRole P == 3 && s.partnerPlane P == s.rf (PRT_GW_PEER1.PLANE_ID P) &&
      s.partnerPlane P != s.planeId && s.rb (PRT_GW_PEER0.VALID P)
    if good then (if s.active P then s else s.enterState P 4 0)
    else (s.leaveActive P).enterState P 5 1

/-- What a port does with the PARTNER message in PRT_PARTNER0 to 7 (R51, R52, R67). -/
def actOnPartner (s : State) (P : Nat) : State :=
  let st := s.pstate P
  let role := s.partnerRole P
  if st != 2 && st != 4 then s
  else if st == 2 && (role == 0 || decide (4 < role)) then s.memberEvent P 0x08 1
  else if isTorus P then s.torusCheck P
  else if s.gatewayPort P then s.gatewayCheck P
  else if st == 4 then s
  else if role = 1 then s.enterState P 3 0 else s.enterState P 5 1

/-- Copy a PARTNER message into PRT_PARTNER0 to 7, byte 0 first. -/
def copyPartner (s : State) (P : Nat) (bs : List Byte) : State :=
  ((List.range 8).foldl (fun t i => t.setReg (PRT_PARTNER.a P i) (Word.ofN (leAt bs (8 * i) 8))) s).setPort P
    { s.port P with partnerOk := true }

/-! ## Port control (R54, R57, R62, R65, R66) -/

/-- Gateway ports of the device, a bonded pair counting once (R66). -/
def gatewayCount (s : State) : Nat :=
  ((List.range 768).filter (fun P => s.rf (PRT_PORT_CTL.MODE P) == 2 && !s.oddBonded P)).length

/-- Is a write of PRT_PORT_CTL refused (R13, R27, R62)? -/
def portCtlRefused (s : State) (P : Nat) (v : Word) : Bool :=
  let en := s.rb (PRT_PORT_CTL.ENABLE P)
  let mode := v.field 3 2
  let bond := v.field 5 1 == 1
  let mac := v.field 6 1 == 1
  let was := s.rb (PRT_PORT_CTL.BOND P)
  mode == 3 || (isTorus P && (mode == 1 || mode == 2)) || (!isTorus P && mac && mode != 2) ||
  (bond && (isTorus P || P % 2 == 1)) ||
  (bond != was && !isTorus P && (en || s.rb (PRT_PORT_CTL.ENABLE (P + 1)))) ||
  (mode == 2 && s.rf (PRT_PORT_CTL.MODE P) != 2 && decide (64 ≤ s.gatewayCount))

/-- Start training (R53): belay and the link are down until PCS alignment. -/
def train (s : State) (P : Nat) : State := ((s.leaveActive P).resetBelay P).enterState P 1 0

/-- RETRAIN (R57): frames still held are lost and counted; the port trains again. -/
def retrain (s : State) (P : Nat) : State :=
  if s.pstate P = 0 then s else
  ((s.count (PRT_CNT_LOST.V P) (s.port P).held.length).noteRetrain P).train P

/-- Camp 6 is DONE (R506, R507). -/
def campsDone (s : State) : Bool := s.rf HUB_CAMP_STS.STATE == 3

/-- ADMIT (R54, R67, R164, R507). -/
def admitPort (s : State) (src : Src) (P : Nat) : State :=
  let h := s.rf (PRT_PORT_ID.HARNESS P)
  if s.pstate P != 3 || s.gatewayPort P then s
  else if !s.campsDone then s.hacc src 0 (PRT_PORT_CTL.a P) true stNOT_READY
  else if h != 0 && (s.rf (HRN_STS.STATE h) == 0 || s.rf (HRN_STS.STATE h) == 4) then s.reject src (PRT_PORT_CTL.a P)
  else (s.wf (PRT_PORT_ID.ADMIT_EPOCH P) (s.rf HUB_MEMBER_EPOCH.V)).enterState P 4 0

/-- EVICT (R62): an ACTIVE endpoint port goes to DEPARTED. -/
def evictPort (s : State) (P : Nat) : State :=
  if isTorus P || !s.active P then s
  else (((s.count (PRT_CNT_LOST.V P) (s.port P).held.length).leaveActive P).resetBelay P |>.enterState P 6 0).flushQueue P

/-- A write of PRT_PORT_CTL takes effect. -/
def writePortCtl (s : State) (src : Src) (P : Nat) (v : Word) : State :=
  if s.portCtlRefused P v then s.reject src (PRT_PORT_CTL.a P) else
  let en := s.rb (PRT_PORT_CTL.ENABLE P)
  let v' := Word.ofN (v.field 0 2 + v.field 3 4 * 8 + v.field 8 6 * 256)
  let s1 := s.setReg (PRT_PORT_CTL.a P) v'
  let on := v.field 0 1 == 1
  let s2 := if on && !en then s1.train P
    else if !on && en then (((s1.leaveActive P).resetBelay P).enterState P 0 0).flushQueue P else s1
  let s3 := if v.field 1 1 == 1 && !isTorus P && !s.draining P then s2.flushQueue P else s2
  let s4 := if v.field 2 1 == 1 then s3.retrain P else s3
  let s5 := if v.field 16 1 == 1 then s4.admitPort src P else s4
  if v.field 17 1 == 1 then s5.evictPort P else s5

/-- A write of PRT_PORT_ID takes effect (R54). -/
def writePortId (s : State) (src : Src) (P : Nat) (v : Word) : State :=
  if s.active P then s.reject src (PRT_PORT_ID.a P)
  else (s.wf (PRT_PORT_ID.FEID P) (v.field 0 18)).wf (PRT_PORT_ID.HARNESS P) (v.field 18 12)

/-- A write of PRT_MACSEC_KSEL takes effect: LOAD installs the staged words into the SA whole (R65). -/
def writeMacsecKsel (s : State) (src : Src) (P : Nat) (v : Word) : State :=
  let load := v.field 2 1 == 1
  if load && !s.rb (PRT_PORT_CTL.MACSEC P) then s.reject src (PRT_MACSEC_KSEL.a P)
  else
    let s1 := s.wf (PRT_MACSEC_KSEL.SA P) (v.field 0 2)
    if !load then s1 else
    let p := s1.port P
    let w : Nat → Word := fun i => p.staging.getD i 0
    let sa : MacSa := ⟨p.staging.take 4, (w 4).toNat + (w 5).field 0 32 * 2 ^ 64, (w 5).field 32 32⟩
    s1.setPort P { p with sas := p.sas.set (v.field 0 2) sa }

/-- A write of one staging word (R65). -/
def writeMacsecKey (s : State) (P i : Nat) (v : Word) : State :=
  s.setPort P { s.port P with staging := (s.port P).staging.set i v }

/-- A write of PRT_GW_PEER0 or PRT_GW_HSETw takes effect (R66). -/
def writeGwPeer0 (s : State) (src : Src) (P : Nat) (v : Word) : State :=
  if v.field 32 18 < v.field 0 18 then s.reject src (PRT_GW_PEER0.a P)
  else s.setReg (PRT_GW_PEER0.a P) (Word.ofN (v.field 0 18 + v.field 32 21 * 2 ^ 32))
def writeGwHset (s : State) (src : Src) (P w : Nat) (v : Word) : State :=
  let bad0 := v.field 24 1 == 1 && decide (v.field 12 12 < v.field 0 12)
  let bad1 := v.field 56 1 == 1 && decide (v.field 44 12 < v.field 32 12)
  if bad0 || bad1 then s.reject src (PRT_GW_HSET.a P w)
  else s.setReg (PRT_GW_HSET.a P w) (Word.ofN (v.field 0 25 + v.field 32 25 * 2 ^ 32))

end State
end Sys2Proof.Machine
end

