-- ==== Sys2Proof/Machine/Ports.lean ====
section
/-! DEFINITION. The commands of spec/02_ports_and_links.md: link frames, link timers, port control. -/
namespace Sys2Proof.Machine

namespace State

/-- A link command reaches the port's belay only while its link is up and it is not the hidden half of a bonded pair. -/
def onLink (s : State) (P : Nat) (k : State → State) : State := if s.belayUp P && !s.oddBonded P then k s else s

/-- A link frame arrives: one that arrives during the exit from PORT_IDLE is discarded and counted (R475). -/
def onFrame (s : State) (P : Nat) (k : State → State) : State :=
  s.onLink P (fun t => if (t.port P).idle then t.inc (PRT_CNT_LINK_ERR.V P) else k t)

/-- PRT_PORT_CTL as it stands, for a write that changes one field (its WO bits read zero). -/
def ctlWord (s : State) (P : Nat) : Word := s.reg (PRT_PORT_CTL.a P)

/-- A write to a port's block: turned away as any access is, and refused on the odd half of a bonded pair (R62). -/
def portWrite (s : State) (src : Src) (P a : Nat) (k : State → State) : State :=
  s.guardWrite src a (fun t => if t.oddBonded P then t.reject src a else k t)

/-- A free spare lane takes the place of lane `l` of the port's die (R57, R499): entry on the defect list, margin registers. -/
def spareLane (s : State) (P l : Nat) : State :=
  let m := portDie P
  let use := if l < 96 then l else s.rf (PRT_LANE_MARGIN.USE m l)
  match [96, 97, 98, 99].find? (fun x => x != l && s.rf (PRT_LANE_MARGIN.USE m x) == 0x7F && !s.rb (PRT_LANE_MARGIN.FAILED m x)) with
  | none => s
  | some x =>
    let s1 := ((s.wf (PRT_PORT_STS.SPARE_USED P) 1).wf (PRT_LANE_MARGIN.FAILED m l) 1).wf (PRT_LANE_MARGIN.USE m l) 0x7F
    ((s1.wf (PRT_LANE_MARGIN.USE m x) use).appendDefect 5 0xFF m l).lifeInc 12

/-- The copy of a frame whose link check failed after its cut-through began: sent on with BAD set (R88). -/
def badCopy (s : State) (P : Nat) (bw started : Bool) (f : Frame) : State :=
  let n := dieOf P
  if started && s.active P && s.rb (FWD_CFG.CUT_EN n) then
    forwardF 3 n (if isTorus P then .torus P else if s.gatewayPort P then .gateway P else .endpoint P) bw
      ((if isTorus P then f else s.stamp P f).setBad) (s.inc (FWD_CNT_BAD_MARKED.V n))
  else s.inc (FWD_CNT_BAD_DISCARD.V n)

/-- A FRAME link frame (R41). -/
def frameIn (s : State) (P : Nat) (w : Word) (k : LinkCheck) (f : Frame) (bw late started : Bool) : State :=
  match k with
  | .ok => s.sequenced P w (fun t => t.ingress P bw late started f)
  | _ => (s.linkCheckFail P k).badCopy P bw started f

/-- A PARTNER link frame (R51). -/
def partnerIn (s : State) (P : Nat) (w : Word) (k : LinkCheck) (bs : List Byte) : State :=
  match k with
  | .ok => s.sequenced P w (fun t => (t.copyPartner P bs).actOnPartner P)
  | _ => s.linkCheckFail P k

/-- An ACK (R42). -/
def ackIn (s : State) (P : Nat) (w : Word) (k : LinkCheck) : State :=
  match k with
  | .ok => s.takePrefix P w
  | _ => s.linkCheckFail P k

/-- A NAK (R42, R43): the frames before LACK freed, every frame held from LACK on sent again. -/
def nakIn (s : State) (P : Nat) (w : Word) (k : LinkCheck) : State :=
  match k with
  | .ok => (s.takePrefix P w).replayTrigger P
  | _ => s.linkCheckFail P k

/-- A link frame with a reserved LTYPE (R39): discarded whole. -/
def reservedIn (s : State) (P : Nat) (k : LinkCheck) : State :=
  match k with
  | .ok => s.inc (PRT_CNT_MALFORMED.V P)
  | _ => s.linkCheckFail P k

/-- A received Ethernet frame meets the encapsulation R61 requires. -/
def udpGood (s : State) (P : Nat) (d : Datagram) : Bool :=
  d.dstMac == s.rf (PRT_UDP_CFG2.LOCAL_MAC P) &&
  (if s.rb (PRT_UDP_CFG2.VLAN_EN P) then d.vlan == some (s.rf (PRT_UDP_CFG2.VID P)) else d.vlan == none) &&
  d.etherType == 0x0800 && d.ihl == 5 && !d.fragment && d.ipCheckOk && d.protocol == 17 &&
  d.srcIp == s.rf (PRT_UDP_CFG0.PEER_IPV4 P) && d.dstIp == s.rf (PRT_UDP_CFG0.LOCAL_IPV4 P) &&
  d.dstPort == s.rf (PRT_UDP_CFG1.UDP_PORT P) && d.udpCheckOk && d.lenOk

/-- The link prefix and body of a datagram, as on a native link (R61). -/
def udpIn (s : State) (P : Nat) (d : Datagram) : State :=
  if !s.udpGood P d then s.inc (PRT_CNT_UDP_DROP.V P)
  else match pfType d.pre, d.body with
    | 0, .frame f => s.frameIn P d.pre d.check f true false false
    | 1, .none => s.ackIn P d.pre d.check
    | 2, .none => s.nakIn P d.pre d.check
    | 3, .partner ws => s.partnerIn P d.pre d.check (ws.flatMap (fun w => bytesLE 8 w.toNat))
    | 0, _ => s.inc (PRT_CNT_UDP_DROP.V P)
    | 1, _ => s.inc (PRT_CNT_UDP_DROP.V P)
    | 2, _ => s.inc (PRT_CNT_UDP_DROP.V P)
    | 3, _ => s.inc (PRT_CNT_UDP_DROP.V P)
    | _, _ => s.reservedIn P d.check

end State

/-- PCS alignment (R51, R53): PARTNERED, belay from zero, a PARTNER message at LSEQ 0. `rtt` measures the link (R122). -/
def execPcsAlign (P : Fin 1152) (rtt : Nat) (s : State) : Res :=
  unheld s (if s.pstate P == 1 && !s.oddBonded P then
    ((s.resetBelay P |>.setPort P { (s.resetBelay P).port P with delay := rtt / 2 }).enterState P 2 0).sendPartner P
  else s)

/-- A received PARTNER message (R51); 64 bytes. -/
def execPartner (P : Fin 1152) (w : Word) (k : LinkCheck) (bs : List Byte) (s : State) : Res :=
  if bs.length = 64 then unheld s (s.onFrame P (fun t => t.partnerIn P w k bs)) else .fault (.illFormed "PARTNER")

/-- A received FRAME link frame (R41); its prefix names LTYPE 0. -/
def execLinkFrameReceive (P : Fin 1152) (w : Word) (k : LinkCheck) (f : Frame) (bw late started : Bool) (s : State) : Res :=
  if pfType w = 0 then unheld s (s.onFrame P (fun t => t.frameIn P w k f bw late started))
  else .fault (.illFormed "LINK_FRAME_RECEIVE")

/-- A received ACK (R42). -/
def execAck (P : Fin 1152) (w : Word) (k : LinkCheck) (s : State) : Res := unheld s (s.onFrame P (fun t => t.ackIn P w k))

/-- A received NAK (R42, R43). -/
def execNak (P : Fin 1152) (w : Word) (k : LinkCheck) (s : State) : Res := unheld s (s.onFrame P (fun t => t.nakIn P w k))

/-- A link frame with LTYPE 4 to 7 (R39). -/
def execReservedLtype (P : Fin 1152) (w : Word) (s : State) : Res :=
  if 4 ≤ pfType w then unheld s (s.onFrame P (fun t => t.reservedIn P .ok)) else .fault (.illFormed "RESERVED_LTYPE")

/-- ACK_DELAY passes with an acknowledgement due (R42). -/
def execAckDelayExpire (P : Fin 1152) (s : State) : Res :=
  unheld s (s.onLink P (fun t => if (t.port P).ackDue then t.sendAck P else t))

/-- ACK_TIMEOUT expires for the oldest held frame (R43). `part`: a frame being received should the link fail. -/
def execAckTimeoutExpire (P : Fin 1152) (part : Option (Frame × Bool)) (s : State) : Res :=
  unheld s (s.onLink P (fun t =>
    let u := t.replayTrigger P
    if u.belayUp P then u else u.cutShort P part))

/-- PCS alignment lost for 1 µs (R43). -/
def execPcsAlignLoss (P : Fin 1152) (part : Option (Frame × Bool)) (s : State) : Res :=
  unheld s (s.onLink P (fun t => (t.linkFailure P).cutShort P part))

/-- An XOFF bit has changed and nothing has carried it for 20 ns (R44). -/
def execXoffChangeAck (P : Fin 1152) (s : State) : Res :=
  unheld s (s.onLink P (fun t => if (t.port P).xoffDirty then t.sendAck P else t))

/-- The current XOFF bits repeated after 1 µs without a link frame (R44). -/
def execXoffRepeat (P : Fin 1152) (s : State) : Res :=
  unheld s (s.onLink P (fun t =>
    let p := t.port P
    let recent := match p.xoffAt with | some a => decide (t.now - a ≤ 8000) | none => false
    if p.xoffTx != 0 || recent then t.sendAck P else t))

/-- Still TRAINING after 500 ms: FAILED (R53). -/
def execTrainingTimeout (P : Fin 1152) (s : State) : Res := unheld s (if s.pstate P = 1 then s.enterState P 7 0 else s)

/-- 1 µs in DEPARTED: TRAINING (R53). -/
def execDepartedTimeout (P : Fin 1152) (s : State) : Res := unheld s (if s.pstate P = 6 then (s.noteRetrain P).enterState P 1 0 else s)

/-- A write of PRT_PORT_CTL.ENABLE (R53, R62). -/
def execPortEnable (src : Src) (P : Fin 1152) (on : Bool) (s : State) : Res :=
  unheld s (s.portWrite src P (PRT_PORT_CTL.a P) (fun t => t.writePortCtl src P ((t.ctlWord P).withField 0 1 (b2n on))))

/-- A write of PRT_PORT_CTL.DRAIN (R57, R82). -/
def execDrain (src : Src) (P : Fin 1152) (on : Bool) (s : State) : Res :=
  unheld s (s.portWrite src P (PRT_PORT_CTL.a P) (fun t => t.writePortCtl src P ((t.ctlWord P).withField 1 1 (b2n on))))

/-- PRT_PORT_CTL.RETRAIN (R57). `spare`: the lane that training replaces by a spare, if it does. -/
def execRetrain (src : Src) (P : Fin 1152) (spare : Option (Fin 100)) (s : State) : Res :=
  unheld s (s.portWrite src P (PRT_PORT_CTL.a P) (fun t =>
    let u := t.writePortCtl src P ((t.ctlWord P).withField 2 1 1)
    match spare with
    | some l => if u.pstate P = 1 then u.spareLane P l else u
    | none => u))

/-- PRT_PORT_CTL.ADMIT (R54). -/
def execAdmit (src : Src) (P : Fin 1152) (s : State) : Res :=
  unheld s (s.portWrite src P (PRT_PORT_CTL.a P) (fun t => t.writePortCtl src P ((t.ctlWord P).withField 16 1 1)))

/-- PRT_PORT_CTL.EVICT (R62). -/
def execEvict (src : Src) (P : Fin 1152) (s : State) : Res :=
  unheld s (s.portWrite src P (PRT_PORT_CTL.a P) (fun t => t.writePortCtl src P ((t.ctlWord P).withField 17 1 1)))

/-- A write of PRT_PORT_CTL.BOND (R13, R62). -/
def execBond (src : Src) (P : Fin 1152) (on : Bool) (s : State) : Res :=
  unheld s (s.portWrite src P (PRT_PORT_CTL.a P) (fun t => t.writePortCtl src P ((t.ctlWord P).withField 5 1 (b2n on))))

/-- A write of PRT_PORT_CTL.MODE (R27, R62). -/
def execPortMode (src : Src) (P : Fin 1152) (mode : Fin 4) (s : State) : Res :=
  unheld s (s.portWrite src P (PRT_PORT_CTL.a P) (fun t => t.writePortCtl src P ((t.ctlWord P).withField 3 2 mode)))

/-- A write of PRT_PORT_ID (R54). -/
def execPortIdWrite (src : Src) (P : Fin 1152) (v : Word) (s : State) : Res :=
  unheld s (s.portWrite src P (PRT_PORT_ID.a P) (fun t => t.writePortId src P v))

/-- A write of PRT_MACSEC_KSEL (R65). -/
def execMacsecKeyLoad (src : Src) (P : Fin 1152) (v : Word) (s : State) : Res :=
  unheld s (s.portWrite src P (PRT_MACSEC_KSEL.a P) (fun t => t.writeMacsecKsel src P v))

/-- An Ethernet frame at a UDP-mode port (R61). -/
def execUdpDatagramReceive (P : Fin 1152) (d : Datagram) (s : State) : Res :=
  unheld s (if !isTorus P && s.rf (PRT_PORT_CTL.MODE P) == 1 then s.onLink P (fun t => t.udpIn P d) else s)

/-- An ARP request at a UDP-mode port (R61): answered where it asks for LOCAL_IPV4, discarded otherwise. -/
def execArpRequest (P : Fin 1152) (ip : BitVec 32) (s : State) : Res :=
  unheld s (if !isTorus P && s.rf (PRT_PORT_CTL.MODE P) == 1 then
    s.onLink P (fun t => if ip.toNat = t.rf (PRT_UDP_CFG0.LOCAL_IPV4 P) then t.emit (.arp P) else t.inc (PRT_CNT_UDP_DROP.V P))
  else s)

end Sys2Proof.Machine
end

