-- ==== Sys2Proof/Machine/Schedule.lean ====
section
/-! DEFINITION. Scheduling and plane time: the gate cycle, the scheduler of an egress port, fallback, time frames
(spec/04_traffic_scheduling.md; R40, R59, R95, R123). Times inside a decision are in hundredths of a nanosecond. -/
namespace Sys2Proof.Machine

namespace State

/-! ## The gate cycle (R109 to R112) -/
def gateWord (s : State) (b e w : Nat) : Word := sparseGet (fun _ => 0#64) s.gateTbl (b * 2048 + e * 2 + w)
def gateLen (s : State) (b : Nat) : Nat := if b = 0 then s.rf TIM_GATE_CTL.LEN_A else s.rf TIM_GATE_CTL.LEN_B
def gateDur (s : State) (b e : Nat) : Nat := (s.gateWord b e 1).field 0 24
/-- P of bank `b` (R109). -/
def gatePeriod (s : State) (b : Nat) : Nat := ((List.range (s.gateLen b)).map (s.gateDur b)).sum
def gateBank (s : State) : Nat := s.rf TIM_GATE_CTL.ACTIVE_BANK
/-- Is the active bank applied (R110)? -/
def gateOn (s : State) : Bool := s.rb TIM_GATE_CTL.MODE && s.gatePeriod s.gateBank != 0
/-- The entry of a bank that holds offset `o` of its cycle, with its start and end. -/
def entryAt (s : State) (b o : Nat) : Nat → Nat → Nat → Option (Nat × Nat × Nat)
  | 0, _, _ => none
  | k + 1, e, start =>
    let stop := start + s.gateDur b e
    if o < stop then some (e, start, stop) else entryAt s b o k (e + 1) stop
/-- The entry open at plane time `t`, with the times at which it opened and ends; none before cycle 0. -/
def openEntry (s : State) (t : Nat) : Option (Nat × Nat × Nat) :=
  let b := s.gateBank
  let p := s.gatePeriod b
  let base := s.rf TIM_GATE_BASE.V
  if !s.gateOn || decide (t < base) then none else
  let c := base + (t - base) / p * p
  (s.entryAt b (t - c) (s.gateLen b) 0 0).map (fun x => (x.1, c + x.2.1, c + x.2.2))
/-- The direction of a port in a gate entry: 0 to 5 torus, 6 endpoint. -/
def gateDir (P : Nat) : Nat := if isTorus P then (P - 768) % 24 / 4 else 6
def gateGroup (s : State) (b e d : Nat) : Nat := (s.gateWord b e 0).field (8 * d) 8
/-- The first time from `start` on at which an entry opens with a non-zero group on direction `d`; `e` opens at
`start`. -/
def nextFrom (s : State) (b d : Nat) : Nat → Nat → Nat → Option Nat
  | 0, _, _ => none
  | k + 1, e, start =>
    let e' := e % s.gateLen b
    if s.gateGroup b e' d != 0 then some start else nextFrom s b d k (e + 1) (start + s.gateDur b e')
/-- When the next pitch with a non-zero group opens on a direction after plane time `t` (R115). -/
def nextPitch (s : State) (d t : Nat) : Option Nat :=
  let b := s.gateBank
  if !s.gateOn then none else
  match s.openEntry t with
  | some x => s.nextFrom b d (s.gateLen b) (x.1 + 1) x.2.2
  | none => s.nextFrom b d (s.gateLen b) 0 (s.rf TIM_GATE_BASE.V)

/-! ## Frames and their cost (R30, R102, R104) -/
def pgroup (s : State) (P : Nat) (f : Frame) : Nat :=
  let n := dieOf P
  if s.gatewayPort P then 0
  else if f.kind = 2 || f.kind = 3 || f.kind = 4 then (s.reg (SCH_PGROUP.a n (f.ctx / 8))).field (8 * (f.ctx % 8)) 8 else 0
/-- Wire cost in bytes. -/
def wireCost (s : State) (P : Nat) (f : Frame) : Nat :=
  if !isTorus P && s.rf (PRT_PORT_CTL.MODE P) == 1 then f.len + (if s.rb (PRT_UDP_CFG2.VLAN_EN P) then 142 else 138)
  else f.len + 84 + (if s.rb (PRT_PORT_CTL.MACSEC P) then 42 else 0)
/-- Transmission time in hundredths of a nanosecond. -/
def txTime (s : State) (P : Nat) (f : Frame) : Nat := s.wireCost P f * (if s.fast P then 1 else 2)

/-- Is the port in fallback for the open entry (R120, R121)? -/
def inFallback (s : State) (P : Nat) : Bool :=
  s.gateOn && (s.time.own || s.time.stepFb || (s.port P).fallback)

/-- The longest fit the active bank gives a group on a direction, in nanoseconds (R114). -/
def longestFit (s : State) (d g : Nat) : Option Nat :=
  let b := s.gateBank
  let l := ((List.range (s.gateLen b)).filter (fun e => s.gateGroup b e d == g)).map (fun e => s.gateDur b e - s.time.guardAt)
  if l.isEmpty then none else some (l.foldl max 0)
/-- A pitched frame that no pitch can take (R114). -/
def unsched (s : State) (P : Nat) (f : Frame) : Bool :=
  let g := s.pgroup P f
  s.gateOn && g != 0 &&
  (match s.longestFit (gateDir P) g with
   | none => true
   | some m => decide (100 * m < s.txTime P f))
/-- Is a C0 frame served as unpitched (R103 rank 2, R110)? -/
def unpitched (s : State) (P : Nat) (f : Frame) : Bool :=
  !s.gateOn || s.pgroup P f == 0 || s.unsched P f

/-! ## Weighted fair queueing (R105, R106) -/
def wfqWeight (s : State) (P c : Nat) : Nat :=
  let n := dieOf P
  max 1 ((s.reg (if isTorus P then SCH_WFQ_WEIGHT_TOR.a n else SCH_WFQ_WEIGHT_EP.a n)).field (8 * (c - 1)) 8)
/-- The frame at the head of WFQ class `c`; in fallback C0 stands in class 4, the older head first (R121). -/
def wfqHead (s : State) (P c : Nat) : Option Queued :=
  let h := (s.queueOf P c).head?
  if c = 4 && s.inFallback P then
    (match (s.queueOf P 0).head?, h with
     | some a, some b => if a.time ≤ b.time then some a else some b
     | some a, none => some a
     | none, x => x)
  else h
/-- Later of two tags modulo 2^40. -/
def later40 (a b : Nat) : Nat := if (a + 2 ^ 40 - b) % 2 ^ 40 < 2 ^ 39 then a else b
/-- Give the head of class `c` its finish tag if it has none. -/
def tagHead (s : State) (P c : Nat) : State :=
  let p := s.port P
  match p.heads.getD c none, s.wfqHead P c with
  | none, some x =>
    let f := (later40 p.v (nth p.fin c) + (s.wireCost P x.frame * 256 + s.wfqWeight P c - 1) / s.wfqWeight P c) % 2 ^ 40
    s.setPort P { p with fin := p.fin.set c f, heads := p.heads.set c (some f), c7Held := p.c7Held && c != 7 }
  | _, _ => s
def tagHeads (s : State) (P : Nat) : State := (List.range 7).foldl (fun t i => t.tagHead P (i + 1)) s

/-- C7 tokens now, in quarter bytes (R108). -/
def c7Now (s : State) (P : Nat) : Nat :=
  let p := s.port P
  min 32768 (p.c7 + (s.now - p.c7Time) * (if s.fast P then 2 else 1))

/-! ## The choice of R103 -/
def xoffed (s : State) (P c : Nat) : Bool := (s.port P).xoffRx / 2 ^ c % 2 == 1
/-- A frame of other traffic ends before the next pitch opens (R115). -/
def endsBefore (s : State) (P : Nat) (f : Frame) : Bool :=
  s.inFallback P ||
  (match s.nextPitch (gateDir P) s.now with
   | none => true
   | some t => decide (100 * s.now + s.txTime P f < 100 * t))
/-- The oldest frame of the group whose pitch is open on the port, with the end of the pitch. -/
def pitchHead (s : State) (P : Nat) : Option (Queued × Nat) :=
  if s.inFallback P then none else
  match s.openEntry s.now with
  | none => none
  | some x =>
    let g := s.gateGroup s.gateBank x.1 (gateDir P)
    if g = 0 then none else
    ((s.queueOf P 0).find? (fun y => s.pgroup P y.frame == g && !s.unsched P y.frame)).map (fun y => (y, x.2.2))
/-- Does it fit (R113)? -/
def fits (s : State) (P : Nat) (f : Frame) (stop : Nat) : Bool :=
  decide (100 * s.now + s.txTime P f + 100 * s.rf TIM_GUARD.V ≤ 100 * stop)
def rank1 (s : State) (P : Nat) : Option Queued :=
  match s.pitchHead P with
  | some (x, stop) => if s.fits P x.frame stop && !s.xoffed P 0 then some x else none
  | none => none
def rank2 (s : State) (P : Nat) : Option Queued :=
  if s.inFallback P || s.xoffed P 0 then none else
  match (s.queueOf P 0).find? (fun x => s.unpitched P x.frame) with
  | some x => if s.endsBefore P x.frame then some x else none
  | none => none
/-- Is the head of class `c` eligible at rank 3? -/
def wfqReady (s : State) (P c : Nat) : Option Queued :=
  match s.wfqHead P c with
  | some x =>
    if s.xoffed P x.cls || !s.endsBefore P x.frame || (c == 7 && decide (s.c7Now P < 4 * s.wireCost P x.frame)) then none
    else some x
  | none => none
/-- The smallest tag, ties to the lower class; the tags count from V modulo 2^40. -/
def rank3 (s : State) (P : Nat) : Option (Nat × Queued) :=
  let p := s.port P
  (List.range 7).foldl (fun best i =>
    let c := i + 1
    match s.wfqReady P c, best with
    | none, b => b
    | some x, none => some (c, x)
    | some x, some (c', y) =>
      let k : Nat → Nat := fun d => (((p.heads.getD d none).getD 0) + 2 ^ 40 - p.v) % 2 ^ 40
      if k c < k c' then some (c, x) else some (c', y)) none

/-- A head of C7 that waits for tokens is counted once (R108). -/
def noteC7 (s : State) (P : Nat) : State :=
  match s.wfqHead P 7 with
  | some x =>
    if s.c7Now P < 4 * s.wireCost P x.frame && !(s.port P).c7Held then
      (s.setPort P { s.port P with c7Held := true }).inc (SCH_CNT_C7_HELD.V (dieOf P))
    else s
  | none => s
/-- The oldest pitched frame misses its pitch: counted once a pitch (R113). -/
def noteWait (s : State) (P : Nat) : State :=
  match s.pitchHead P with
  | some (x, stop) =>
    if !s.fits P x.frame stop && !(s.port P).waitMark then
      (s.setPort P { s.port P with waitMark := true }).inc (SCH_CNT_PITCH_WAIT.V (dieOf P))
    else s
  | none => s

/-! ## Starting a frame -/
def heldBytes (b : LinkBody) : Nat :=
  match b with
  | .frame f => 72 + f.len
  | _ => 72
/-- Capacity of the replay buffer (R40). -/
def replayCap (s : State) (P : Nat) : Nat := if s.fast P then 524288 else 262144
/-- May the port send anything new (R40, R53, R59, R82)? -/
def maySend (s : State) (P : Nat) : Bool :=
  s.active P && !s.draining P && !s.oddBonded P && !(s.port P).idle &&
  !(s.rb (PRT_PORT_CTL.MACSEC P) && !s.rb (PRT_MACSEC_CTL.XPN P) && decide (0xFFFFFFFF ≤ s.rf (PRT_MACSEC_PN.V P)))
def replayRoom (s : State) (P : Nat) (f : Frame) : Bool :=
  decide ((((s.port P).held.map (fun h => heldBytes h.body)).sum) + heldBytes (.frame f) ≤ s.replayCap P)

/-- The queue without `x`, its cells freed (R83, R167). -/
def dequeue (s : State) (x : Queued) : State :=
  let pl := if !x.tracked then s.fwd.place else
    (s.fwd.place.map (fun y => if y.1 == x.P && y.2.1 == x.cls && y.2.2.1 == x.frame.harness
      then (y.1, y.2.1, y.2.2.1, y.2.2.2 - x.cells) else y)).filter (fun y => y.2.2.2 != 0)
  s.withFwd { s.fwd with queues := s.fwd.queues.erase x, place := pl }

/-- Residence mark (R123). -/
def markRes (s : State) (x : Queued) : State :=
  let r := SCH_QSTAT.HWM_RES (dieOf x.P) (idxOf x.P) x.cls
  let t := min 0xFFFFFF (s.now - x.time)
  if s.rf r < t then s.wf r t else s

/-- Every queue of the port is empty. -/
def settlePort (s : State) (P : Nat) : State :=
  if s.fwd.queues.any (fun x => x.P == P) then s else s.emptyPort P

/-- Start frame `x`, chosen at rank 3 for class `c`, or at rank 1 or 2 (`c` 0). -/
def startFrame (s : State) (P c : Nat) (x : Queued) : State :=
  let n := dieOf P
  let fb := s.inFallback P
  let un := s.unsched P x.frame
  let cost := s.wireCost P x.frame
  let tok := s.c7Now P
  let s1 := (s.dequeue x).markRes x
  let p := s1.port P
  let s2 := if c = 0 then s1.setPort P { p with waitMark := p.waitMark && un }
    else if c = 7 then s1.setPort P { p with v := (p.heads.getD c none).getD p.v, heads := p.heads.set c none,
                                             c7 := tok - 4 * cost, c7Time := s.now, c7Held := false }
    else s1.setPort P { p with v := (p.heads.getD c none).getD p.v, heads := p.heads.set c none }
  let s3 := s2.settlePort P
  let s4 := ((s3.inc (PRT_CNT_TX_FRAMES.V P)).count (PRT_CNT_TX_BYTES.V P) x.frame.wireLen).count (PRT_CNT_TX_BYTES_C.V P x.cls) x.frame.wireLen
  let s5 := s4.inc (if x.cut then FWD_CNT_CUT.V n else FWD_CNT_SAF.V n)
  let s6 := if x.cls = 0 && fb then s5.inc (SCH_CNT_FALLBACK.V n)
    else if x.cls = 0 && un then s5.inc (SCH_CNT_UNSCHED.V n) else s5
  (s6.sendHeld P x.cls (.frame x.frame)).mirror 1 P x.frame x.cut

/-- The scheduler of a free port (R103). -/
def schedule (s : State) (P : Nat) : State :=
  if !s.maySend P then s else
  let s1 := ((s.tagHeads P).noteWait P).noteC7 P
  match s1.rank1 P with
  | some x => if s1.replayRoom P x.frame then s1.startFrame P 0 x else s1
  | none =>
    match s1.rank2 P with
    | some x => if s1.replayRoom P x.frame then s1.startFrame P 0 x else s1
    | none =>
      match s1.rank3 P with
      | some (c, x) => if s1.replayRoom P x.frame then s1.startFrame P c x else s1
      | none => s1

/-! ## Discipline of plane time (R116 to R118) -/

/-- This device is the time root. -/
def isRoot (s : State) : Bool := s.rf TIM_CTL.ROOT == s.devIndex
/-- The direction of the parent: the minimal route toward the root, ties in the + direction. -/
def parentDir (s : State) : Option Nat := s.minDir 0 s.devIndex (s.rf TIM_CTL.ROOT)
/-- The torus port used toward the parent: the lowest eligible one of that direction. -/
def parentPort (s : State) : Option Nat :=
  if s.isRoot then none else
  match s.parentDir with
  | some d => (s.eligiblePorts d).head?
  | none => none

/-- Apply a step of plane time. -/
def stepTime (s : State) (o : Int) : State :=
  s.setReg TIM_NOW.a (BitVec.ofInt 64 ((s.now : Int) + o))

/-- Plane time is to move by `o`: slewed below 1 µs, stepped at the next gate entry otherwise; at once where no gate
table is applied. -/
def discipline (s : State) (o : Int) : State :=
  let s1 := s.wf TIM_STS.LOCKED 1
  if o.natAbs < 1000 then s1.withTime { s1.time with slew := o, slewTicks := 0, step := none }
  else if s1.gateOn then s1.withTime { s1.time with slew := 0, slewTicks := 0, step := some o }
  else (s1.withTime { s1.time with slew := 0, slewTicks := 0, step := none }).stepTime o

/-- The time since which an estimate has been at most G/4. -/
def goodFrom (s : State) (est : Nat) (old : Option Nat) : Option Nat :=
  if 4 * est ≤ s.rf TIM_GUARD.V then (match old with | some t => some t | none => some s.now) else none

/-- TIM_OFFSET_EST takes a value (R118). -/
def setEst (s : State) (est : Nat) : State :=
  let s1 := s.wf TIM_OFFSET_EST.V (min est 0xFFFFFFFF)
  s1.withTime { s1.time with goodSince := s1.goodFrom (min est 0xFFFFFFFF) s1.time.goodSince }

/-- Half the difference of the two apparent delays: own send `t1`, partner's receipt `t2`, partner's send `t3`, own
receipt `t4`. Positive: this device is behind. -/
def halfDelay (t1 t2 t3 t4 : Nat) : Int := (((t2 : Int) - t1) - ((t4 : Int) - t3)) / 2

/-- A time frame received on torus port `t` with the sender's estimate and four stamps. -/
def timeFrame (s : State) (t est t1 t2 t3 t4 : Nat) : State :=
  let P := 768 + t
  if !s.active P then s else
  let p := s.port P
  let s1 := s.setPort P { p with pEst := est, pSeen := s.now, goodSince := s.goodFrom est p.goodSince }
  if s1.parentPort = some t then
    (let o := halfDelay t1 t2 t3 t4
     let s2 := (s1.wf TIM_STS.PARENT_PORT t).withTime { s1.time with parentSeen := s1.now }
     (s2.setEst (o.natAbs + est)).discipline o)
  else s1

/-- The time frame a torus port sends (R117); the estimate it carries is `est`. -/
def sendTimeFrame (s : State) (t : Nat) : State :=
  let P := 768 + t
  let f := FrameSpec.make
   { cls := 6, kind := 6, op := 1, dst := 0x3FFC0 + s.neighbour s.devIndex (t % 24 / 4), src := 0x3FFC0 + s.devIndex, time := s.now, checkKind := 0 }
  (s.sendHeld P 6 (.frame f)).emit (.timeFrame P (s.rf TIM_OFFSET_EST.V))

/-- The periodic exchange: the parent each INTERVAL, every other ACTIVE torus port each sixteenth. -/
def timeSync (s : State) : State :=
  let k := s.time.syncN + 1
  let s1 := s.withTime { s.time with syncN := k }
  let pp := s1.parentPort
  let s2 := match pp with
    | some t => (s1.wf TIM_STS.PARENT_PORT t).sendTimeFrame t
    | none => s1
  if k % 16 != 0 then s2 else
  ((List.range 384).filter (fun t => some t != pp && s.active (768 + t))).foldl (fun u t => u.sendTimeFrame t) s2

/-! ## The opening edge of a gate entry (R113, R117, R120) -/

/-- The pitched frames still waiting as the entry before this edge ends are counted (R113). -/
def missed (s : State) (P : Nat) : State :=
  let before := s.setReg TIM_NOW.a (Word.ofN (s.now - 1))
  match before.pitchHead P with
  | some _ =>
    if (s.port P).waitMark then s.setPort P { s.port P with waitMark := false }
    else s.inc (SCH_CNT_PITCH_WAIT.V (dieOf P))
  | none => if (s.port P).waitMark then s.setPort P { s.port P with waitMark := false } else s

/-- A pending step is applied; every port stays in fallback for one full cycle. -/
def applyStep (s : State) : State :=
  match s.time.step with
  | some o =>
    let s1 := s.stepTime o
    s1.withTime { s1.time with step := none, fallUntil := s1.now + s1.gatePeriod s1.gateBank }
  | none => s

def intervalNs (s : State) : Nat := s.rf TIM_SYNC_CFG.INTERVAL * 1000
/-- Has an estimate been good for the last 1 ms? -/
def goodLong (s : State) (since : Option Nat) : Bool :=
  match since with
  | some t => decide (t + 1000000 ≤ s.now)
  | none => false

/-- The decision for the device's own estimate and its parent. -/
def decideOwn (s : State) : State :=
  let lost := !s.isRoot && decide (8 * s.intervalNs < s.now - s.time.parentSeen)
  let bad := decide (s.rf TIM_GUARD.V < 2 * s.rf TIM_OFFSET_EST.V) || lost
  if bad then
    (let s1 := (s.withTime { s.time with own := true }).wf TIM_STS.DRIFT 1
     if s.time.own then s1 else
     s1.report ⟨clTIME, 0x01, 1, stOK, unitHub 0, 0, bytesLE 4 (s.rf TIM_OFFSET_EST.V) ++ bytesLE 2 (s.rf TIM_STS.PARENT_PORT)⟩)
  else if s.time.own && s.goodLong s.time.goodSince then s.withTime { s.time with own := false }
  else s

/-- The decision of torus port `t` for its partner. -/
def decidePartner (s : State) (t : Nat) : State :=
  let P := 768 + t
  let p := s.port P
  if !s.active P then (if p.fallback then s.setPort P { p with fallback := false } else s) else
  let silent := decide (64 * s.intervalNs < s.now - p.pSeen)
  if silent then s.setPort P { p with fallback := true, goodSince := none }
  else if decide (s.rf TIM_GUARD.V < 2 * p.pEst) then s.setPort P { p with fallback := true }
  else if p.fallback && s.goodLong p.goodSince then s.setPort P { p with fallback := false }
  else s

/-- DRIFT clears when no port remains in fallback. -/
def settleDrift (s : State) : State :=
  if s.time.own || s.time.stepFb || (List.range 384).any (fun t => (s.port (768 + t)).fallback) then s
  else s.wf TIM_STS.DRIFT 0

/-- A gate entry opens. -/
def gateEdge (s : State) : State :=
  if !s.gateOn then s else
  let s0 := ((s.fwd.queues.map (fun x => x.P)).dedup).foldl (fun u P => u.missed P) s
  let s1 := s0.applyStep
  let s2 := (s1.withTime { s1.time with stepFb := decide (s1.now < s1.time.fallUntil) }).decideOwn
  ((List.range 384).foldl (fun u t => u.decidePartner t) s2).settleDrift

/-! ## Changing the schedule (R111, R112) -/

/-- The instant of the armed switch. -/
def switchInstant (s : State) : Nat :=
  let at0 := s.rf TIM_GATE_SWITCH.V
  let p := s.gatePeriod s.gateBank
  let base := s.rf TIM_GATE_BASE.V
  if !s.gateOn then at0
  else if at0 ≤ base then base
  else base + (at0 - base + p - 1) / p * p

/-- The armed bank becomes active. -/
def gateSwitch (s : State) : State :=
  if !s.rb TIM_GATE_CTL.PENDING then s else
  let t := s.switchInstant
  let b := 1 - s.gateBank
  let s1 := (((s.wf TIM_GATE_CTL.ACTIVE_BANK b).wf TIM_GATE_CTL.PENDING 0).wf TIM_GATE_BASE.V t).wf TIM_GATE_PERIOD.V (s.gatePeriod b)
  (s1.withTime { s1.time with guardAt := s.rf TIM_GUARD.V }).trace 5 (unitHub 0) 0 (bytesLE 1 b ++ bytesLE 8 t)

/-- Is a bank, or its length, closed to writes (R111, R112)? -/
def bankClosed (s : State) (b : Nat) : Bool := b == s.gateBank || s.rb TIM_GATE_CTL.PENDING

/-- ARM and DISARM take effect. -/
def arm (s : State) (src : Src) : State :=
  if s.rb TIM_GATE_CTL.PENDING then s.reject src TIM_GATE_CTL.a else s.wf TIM_GATE_CTL.PENDING 1
def disarm (s : State) : State := s.wf TIM_GATE_CTL.PENDING 0

/-- A write of TIM_GATE_CTL takes effect. -/
def writeGateCtl (s : State) (src : Src) (v : Word) : State :=
  let closedA := s.bankClosed 0 && v.field 4 11 != s.rf TIM_GATE_CTL.LEN_A
  let closedB := s.bankClosed 1 && v.field 15 11 != s.rf TIM_GATE_CTL.LEN_B
  if closedA || closedB then s.reject src TIM_GATE_CTL.a else
  let s1 := ((s.wf TIM_GATE_CTL.MODE (v.field 0 1)).wf TIM_GATE_CTL.LEN_A (v.field 4 11)).wf TIM_GATE_CTL.LEN_B (v.field 15 11)
  let s2 := if v.field 26 1 = 1 then s1.disarm else s1
  if v.field 2 1 = 1 then s2.arm src else s2

/-- A write of TIM_GATE_SWITCH takes effect. -/
def writeGateSwitch (s : State) (src : Src) (v : Word) : State :=
  if s.rb TIM_GATE_CTL.PENDING then s.reject src TIM_GATE_SWITCH.a else s.setReg TIM_GATE_SWITCH.a v

/-- TIM_GATE_TBL_CTL advances: WORD, then INDEX. -/
def gateAdvance (s : State) : State :=
  if !s.rb TIM_GATE_TBL_CTL.AUTOINC then s
  else if s.rf TIM_GATE_TBL_CTL.WORD = 0 then s.wf TIM_GATE_TBL_CTL.WORD 1
  else (s.wf TIM_GATE_TBL_CTL.WORD 0).wf TIM_GATE_TBL_CTL.INDEX (s.rf TIM_GATE_TBL_CTL.INDEX + 1)

/-- The value a read of TIM_GATE_TBL_DATA returns. -/
def gateValue (s : State) : Word :=
  s.gateWord (s.rf TIM_GATE_TBL_CTL.BANK) (s.rf TIM_GATE_TBL_CTL.INDEX) (s.rf TIM_GATE_TBL_CTL.WORD)

/-- A write of TIM_GATE_TBL_DATA takes effect (R109, R111, R126). -/
def writeGateTbl (s : State) (src : Src) (v : Word) : State :=
  let b := s.rf TIM_GATE_TBL_CTL.BANK
  let w := s.rf TIM_GATE_TBL_CTL.WORD
  if s.bankClosed b || (w == 1 && decide (v.field 0 24 < 1000)) then s.reject src TIM_GATE_TBL_DATA.a
  else
    let k := b * 2048 + s.rf TIM_GATE_TBL_CTL.INDEX * 2 + w
    let x := Word.ofN (v.field 0 (if w = 0 then 56 else 24))
    ({ s with gateTbl := sparseSet (fun _ => 0#64) s.gateTbl k x } : State).gateAdvance

/-- TIM_GUARD and TIM_SYNC_CFG (R126). -/
def writeGuard (s : State) (src : Src) (v : Word) : State :=
  if v.field 0 10 < 16 || 1000 < v.field 0 10 then s.reject src TIM_GUARD.a else s.setReg TIM_GUARD.a (Word.ofN (v.field 0 10))
def writeSyncCfg (s : State) (src : Src) (v : Word) : State :=
  if v.field 0 10 < 1 || 1000 < v.field 0 10 then s.reject src TIM_SYNC_CFG.a else s.setReg TIM_SYNC_CFG.a (Word.ofN (v.field 0 10))

/-- A write of a weight register: heads keep the tags they were given (R106). -/
def writeWeights (s : State) (n a : Nat) (v : Word) : State :=
  (((s.fwd.queues.map (fun x => x.P)).dedup.filter (fun P => dieOf P == n)).foldl (fun u P => u.tagHeads P) s).setReg a
    (Word.ofN (v.field 0 56))

/-! ## Marks (R123) -/
def clearMark (s : State) (n q c : Nat) : State :=
  (s.wf (SCH_QSTAT.HWM_DEPTH n q c) (s.depth (portAt n q) c)).wf (SCH_QSTAT.HWM_RES n q c) 0
/-- A write of SCH_HWM_CLR takes effect. -/
def clearMarks (s : State) (n q mask : Nat) : State :=
  let qs := if q = 127 then List.range 72 else if q < 72 then [q] else []
  let cs := (List.range 8).filter (fun c => mask / 2 ^ c % 2 == 1)
  qs.foldl (fun u x => cs.foldl (fun t c => t.clearMark n x c) u) s

end State

/-- A free egress port starts its next frame (R103). -/
def execFrameStart (P : Fin 1152) (s : State) : Res := unheld s (s.schedule P)

/-- The opening edge of a gate entry (R120). -/
def execGateEntryOpen (s : State) : Res := unheld s s.gateEdge

/-- The armed bank becomes active (R111). -/
def execGateBankSwitch (s : State) : Res := unheld s s.gateSwitch

/-- TIM_GATE_CTL.ARM (R111, R112). -/
def execArm (src : Src) (s : State) : Res := unheld s (s.guardWrite src TIM_GATE_CTL.a (fun t => t.arm src))

/-- TIM_GATE_CTL.DISARM (R112). -/
def execDisarm (src : Src) (s : State) : Res := unheld s (s.guardWrite src TIM_GATE_CTL.a (fun t => t.disarm))

/-- A write of TIM_GATE_TBL_DATA (R109, R111, R126). -/
def execGateTblWrite (src : Src) (v : Word) (s : State) : Res :=
  unheld s (s.guardWrite src TIM_GATE_TBL_DATA.a (fun t => t.writeGateTbl src v))

/-- INTERVAL has passed (R117). -/
def execTimeSyncSend (s : State) : Res := unheld s s.timeSync

/-- A time frame on torus port `t` with the sender's estimate and the four stamps (R117). -/
def execTimeFrame (t : Fin 384) (est : BitVec 32) (t1 t2 t3 t4 : Word) (s : State) : Res :=
  unheld s (s.timeFrame t est.toNat t1.toNat t2.toNat t3.toNat t4.toNat)

/-- An IEEE 1588 message at the time root under SOURCE 2 (R116): `o` is the offset of the root from its master that
the ordinary clock has measured with it. -/
def execPtpMessage (o : Int) (s : State) : Res :=
  unheld s (if s.isRoot && s.rf TIM_CTL.SOURCE == 2 then s.discipline o else s)

/-- A rising edge of PPS_IN at the time root under SOURCE 3 (R116). -/
def execPpsInEdge (s : State) : Res :=
  unheld s (if s.isRoot && s.rf TIM_CTL.SOURCE == 3 then
    s.discipline ((s.rf TIM_PPS_SECONDS.V * 1000000000 : Nat) - (s.now : Int)) else s)

/-- A write of SCH_HWM_CLR (R123). -/
def execHwmClear (src : Src) (n : Fin 16) (q : Fin 128) (mask : BitVec 8) (s : State) : Res :=
  unheld s (s.guardWrite src (SCH_HWM_CLR.a n) (fun t => t.clearMarks n q mask.toNat))

end Sys2Proof.Machine
end

