-- ==== Sys2Proof/Machine/Boot.lean ====
section
/-! DEFINITION. Reset, the seven camps, the join, the lasers, JTAG tokens (spec/18_bring_up.md R489 to R509; spec/19 R524;
spec/21 R574, R580). -/
namespace Sys2Proof.Machine
namespace State

/-! ## Reset (R490, R574) -/

/-- FAULT_N is asserted, and SMB_ALERT_N with it (R492, R583). -/
def setFaultN (s : State) : State := (s.wf HUB_FAULT_STS.FAULT_N 1).withBoot { s.boot with smbAlert := true }

/-- Every block in its reset state. What stands in flash and in fuses stays, and so do the pins; SOD_QUICK survives unless
`power`. -/
def resetAll (s : State) (power : Bool) : State :=
  let quick := if power then 0 else s.rf HUB_BOOT_CTL.SOD_QUICK
  let b := { s.boot with lasers := [], committed := false, campNs := 0, bootNs := 0, jtagKeep := false }
  let c := { CairnSt.initial with log := s.cairn.log, copyA := s.cairn.copyA, copyB := s.cairn.copyB, lg := s.cairn.lg, dead := s.cairn.dead }
  let t : State := { regs := [], sticky := [], xdom := [], ports := [], fwd := FwdSt.initial, gateTbl := [], time := TimeSt.initial,
                     fault := FaultSt.initial, mem := MemSt.initial, mfb := MfbSt.initial, hrn := HrnSt.initial,
                     comp := CompSt.initial, rope := RopeSt.initial, gate := GateSt.initial, host := HostSt.initial, cairn := c,
                     power := PowerSt.initial, tel := TelSt.initial, boot := b, pending := s.pending, out := s.out, free := s.free }
  ((t.wf HUB_BOOT_CTL.SOD_QUICK quick).wf HUB_BOOT_IMAGE.MIN_SVN b.minSvn).showLg

/-- Camp 0 starts (R490): counted in the lifetime image. -/
def startCamp0 (s : State) : State :=
  let t := s.resetAll false
  (t.withBoot { t.boot with held := false }).lifeInc 3

/-- The device enters reset and stays there (R574). -/
def enterReset (s : State) (power : Bool) : State :=
  let t := s.resetAll power
  t.withBoot { t.boot with held := true }

/-- PERST_N rises: Camp 0 starts where it was low, the rails are good and no thermal trip is latched. -/
def perstRise (s : State) : State :=
  if s.boot.perst then s else
  let t := s.withBoot { s.boot with perst := true }
  if s.boot.pwrgd && !s.boot.thermTrip then t.startCamp0 else t

/-! ## Lasers (R501, R524) -/

/-- The ports of port die `m` (R12). -/
def diePorts (m : Nat) : List Nat :=
  if m % 2 = 0 then (List.range 48).map (fun q => portAt (m / 2) q) else (List.range 24).map (fun q => portAt (m / 2) (48 + q))

/-- Every laser goes off: the links of their ports fail (R43, R53). -/
def lasersOff (s : State) : State :=
  let ps := s.boot.lasers.flatMap diePorts
  let t := s.withBoot { s.boot with lasers := [] }
  ps.foldl (fun u P => if u.belayUp P then u.linkFailure P else u) t

/-- The port dies among `m` whose laser modules answer. -/
def answering (m : BitVec 32) : List Nat := (List.range 32).filter (fun i => m.getLsbD i)

/-- LASER_ON: the lasers of every port die whose modules answer, and the ports retrain (R57, R524). -/
def lasersOn (s : State) (m : BitVec 32) : State :=
  let lit := (answering m).filter (fun i => !s.boot.lasers.contains i)
  let t := s.withBoot { s.boot with lasers := lit.foldl insertNat s.boot.lasers }
  (lit.flatMap diePorts).foldl (fun u P => if u.rb (PRT_PORT_CTL.ENABLE P) && !u.oddBonded P then u.retrain P else u) t

/-- Camp 5 powers the lasers and enables the ports of the boot port map; ports of a port die without a laser module go to
FAILED at once (R501). -/
def campLasers (s : State) (l : LaserUp) : State :=
  let lit := answering l.modules
  let t := (s.withBoot { s.boot with lasers := lit, campNs := 0 }).wf HUB_CAMP_STS.STATE 0
  l.ports.foldl (fun u p =>
    let P := p.1.val
    let u1 := (u.wf (PRT_PORT_CTL.ENABLE P) 1).wf (PRT_PORT_CTL.BOND P) (b2n (p.2 && !isTorus P && P % 2 == 0))
    if lit.contains (portDie P) then u1.train P else u1.enterState P 7 0) t

/-! ## Camp reports and stops (R489, R492, R493) -/

def campNow (s : State) : Nat := s.rf HUB_CAMP_STS.CAMP
def campState (s : State) : Nat := s.rf HUB_CAMP_STS.STATE

/-- The report of camp `c` is written; from Camp 2 on it is appended to Cairn. -/
def campReport (s : State) (c status reason detail new : Nat) : State :=
  let s1 := ((s.wf (HUB_CAMP_RPT.STATUS c) status).wf (HUB_CAMP_RPT.REASON c) reason).wf (HUB_CAMP_RPT.DETAIL c) detail
  let s2 := (s1.wf (HUB_CAMP_RPT.DURATION_US c) (min 0xFFFFFF (s.boot.campNs / 1000))).wf (HUB_CAMP_RPT.NEW_DEFECTS c) (min 4095 new)
  if 2 ≤ c then s2.cairnRec 1 s2.now (bytesLE 1 c ++ bytesLE 8 (s2.reg (HUB_CAMP_RPT.a c)).toNat) else s2

/-- The running camp stops. -/
def campStop (s : State) (status reason detail new : Nat) : State :=
  let c := s.campNow
  let s1 := (((s.wf HUB_CAMP_STS.STATE 2).wf HUB_CAMP_STS.STATUS status).wf HUB_CAMP_STS.REASON reason).wf HUB_CAMP_STS.DETAIL detail
  let s2 := (s1.withBoot { s1.boot with committed := false }).setFaultN
  (s2.lifeInc 4).campReport c status reason detail new

/-- Camp `c` ends OK, and the next camp starts, or waits. -/
def campEnd (s : State) (detail new : Nat) (waits : Bool) : State :=
  let c := s.campNow
  let s1 := s.campReport c stOK 0 detail new
  ((s1.wf HUB_CAMP_STS.CAMP (c + 1)).wf HUB_CAMP_STS.STATE (b2n waits)).withBoot { s1.boot with campNs := 0 }

/-- The entries a camp appends. -/
def addDefects (s : State) (c : Nat) (l : List Defect) : State :=
  l.foldl (fun t d => t.appendDefect d.kind.val c d.die.toNat d.loc.toNat) s

/-! ## The work of the camps (R489 to R501) -/

def campOne (s : State) (w : CampWork) : State :=
  let eff : Fin 5 → Nat := fun c => if c.val = 0 && decide (w.svn.toNat < s.boot.minSvn) then 4 else c.val
  let first := if w.ptrB then eff w.causeB else eff w.causeA
  let second := if w.ptrB then eff w.causeA else eff w.causeB
  match w.fail with
  | some .flashSilent => s.campStop stTIMEOUT 4 0 0
  | _ =>
    if first != 0 && second != 0 then s.campStop stREJECT 3 (eff w.causeA + 16 * eff w.causeB) 0
    else
      let fell := first != 0
      let s1 := (s.wf HUB_BOOT_IMAGE.SLOT (b2n (w.ptrB != fell))).wf HUB_BOOT_IMAGE.FALLBACK (b2n fell)
      let s2 := (s1.wf HUB_BOOT_IMAGE.SVN w.svn.toNat).wf HUB_BOOT_IMAGE.KEY (b2n w.key)
      let s3 := if fell then s2.lifeInc 5 else s2
      let s4 := s3.withFault { s3.fault with key := [Config.imageKey 0, Config.imageKey 1, Config.imageKey 2, Config.imageKey 3] }
      ((s4.wf HUB_JTAG_STS.OPEN (b2n s4.boot.jtagKeep)).wf HUB_CAMP_STS.FW_READY 1).campEnd 0 0 false

def campTwo (s : State) (w : CampWork) : State :=
  let n := s.boot.defects.length
  let s1 := s.addDefects 2 w.defects
  let new := s1.boot.defects.length - n
  match w.fail with
  | some (.census d) => s1.campStop stREJECT 5 d.val new
  | some (.bridge d) => s1.campStop stREJECT 6 d.val new
  | _ => (s1.cairnStart w.cairn).campEnd 0 new false

/-- A device cluster that would need more than its one spare core (R199). -/
def spareShort (l : List (Fin 512)) : Option Nat :=
  (List.range 64).find? (fun c => decide (1 < (l.filter (fun k => k.val / 8 == c)).length))

def campThree (s : State) (w : CampWork) : State :=
  let n := s.boot.defects.length
  let s0 := (if w.rebuilt then (s.withBoot { s.boot with defects := [] }).wf HUB_DEFECT_STS.REBUILT 1 else s)
  let s1 := (s0.wf HUB_DEFECT_STS.ENTRIES s0.boot.defects.length).addDefects 3 w.defects
  let new := s1.boot.defects.length - (if w.rebuilt then 0 else n)
  match spareShort w.cores, w.fail with
  | some c, _ => s1.campStop stREJECT 7 c new
  | none, some (.sram d) => s1.campStop stREJECT 8 d.val new
  | none, some (.logic d) => s1.campStop stREJECT 16 d.val new
  | none, some .defectList => s1.campStop stTIMEOUT 9 3 new
  | none, _ =>
    let s2 := w.cores.foldl (fun t k =>
      (t.wf (CRX_CORE_STS.SPARE k.val) 1).wf (CRX_CLU_STS.SPARE_USED (k.val / 32) (k.val / 8 % 4)) 1) s1
    let s3 := s2.withMem (s2.mem.poison 0x10000000000 0x30000000000)
    ((w.pitons.filter (fun a => decide (0x10000000000 ≤ a))).foldl (fun t a => t.pitonAt a) s3).campEnd 0 new false

def campFour (s : State) (w : CampWork) : State :=
  let n := s.boot.defects.length
  let s1 := s.addDefects 4 w.defects
  let new := s1.boot.defects.length - n
  match w.fail with
  | some (.training i) => s1.campStop stREJECT 10 i.val new
  | some (.repair i) => s1.campStop stREJECT 11 i.val new
  | some .defectList => s1.campStop stTIMEOUT 9 4 new
  | _ =>
    let s2 := s1.withMem (s1.mem.poison 0 0x10000000000)
    let s3 := (w.pitons.filter (fun a => decide (a < 0x10000000000))).foldl (fun t a => t.pitonAt a) s2
    let s4 := s3.campEnd 0 new true
    if s4.boot.laserEn then s4.campLasers w.lasers else s4

/-- The enabled ports, a bonded pair by its even member. -/
def enabledPorts (s : State) : List Nat :=
  (List.range 1152).filter (fun P => s.rb (PRT_PORT_CTL.ENABLE P) && !s.oddBonded P)
/-- Has an enabled port come to a state that Camp 5 waits for? -/
def portSettled (s : State) (P : Nat) : Bool :=
  let st := s.pstate P
  st == 7 || (if isTorus P || s.gatewayPort P then st == 2 else st == 3)
def campFive (s : State) (w : CampWork) : State :=
  let ps := s.enabledPorts
  if !(ps.all s.portSettled) then s else
  let n := s.boot.defects.length
  let s1 := s.addDefects 5 w.defects
  s1.campEnd (ps.filter (fun P => s.pstate P != 7)).length (s1.boot.defects.length - n) true

/-- The running camp finishes its work. -/
def campComplete (s : State) (w : CampWork) : State :=
  if s.boot.held || s.campState != 0 then s else
  match s.campNow with
  | 0 =>
    (match w.fail with
     | some (.fuse b) => s.campStop stPOISON 1 b.toNat 0
     | _ => (s.wf HUB_IDENT_STS.FUSES_OK 1).campEnd 0 0 false)
  | 1 => s.campOne w
  | 2 => s.campTwo w
  | 3 => s.campThree w
  | 4 => s.campFour w
  | 5 => s.campFive w
  | _ => s

/-- A torus port that Camp 6 still waits for: enabled, of a dimension with neighbours, neither ACTIVE nor FAILED. -/
def torusWaits (s : State) : Bool :=
  (s.enabledPorts.filter isTorus).any (fun P => s.dim ((P - 768) % 24 / 8) != 1 && s.pstate P != 4 && s.pstate P != 7)

/-- A camp passes its maximum duration (R489, R493); Camp 5 never stops. -/
def campTimeout (s : State) : State :=
  let c := s.campNow
  if s.boot.held || s.campState != 0 || c = 5 || (c = 6 && !(s.boot.committed && s.torusWaits)) then s
  else s.campStop stTIMEOUT 12 c 0

/-! ## Joining the plane (R502 to R506) -/

/-- The first join field that breaks R23, by its number (R509). -/
def joinFault (s : State) : Option Nat :=
  let bad : Nat → Bool := fun x => x == 0 || decide (4 < x)
  if bad (s.rf HUB_JOIN0.A) then some 2
  else if bad (s.rf HUB_JOIN0.B) then some 3
  else if bad (s.rf HUB_JOIN0.C) then some 4
  else if s.rf HUB_JOIN0.A * s.rf HUB_JOIN0.B * s.rf HUB_JOIN0.C ≤ s.rf HUB_JOIN0.INDEX then some 5
  else if s.rf HUB_JOIN0.PLANE_ID = 0 then some 1 else none

/-- Camp 6 waits, runs or is stopped: LOCK has not completed it. -/
def atCamp6 (s : State) : Bool := s.campNow == 6 && s.campState != 3

/-- COMMIT. -/
def commit (s : State) : State :=
  if !s.atCamp6 then s else
  let s0 := (((s.wf HUB_CAMP_STS.STATE 0).wf HUB_CAMP_STS.STATUS 0).wf HUB_CAMP_STS.REASON 0).wf HUB_CAMP_STS.DETAIL 0
  let s1 := s0.withBoot { s0.boot with campNs := 0, committed := false }
  match s1.joinFault with
  | some f => s1.campStop stREJECT 13 f 0
  | none =>
    if !s1.rb HUB_JOIN1.EQUIV_ANY && s1.rf HUB_JOIN1.EQUIV_EXPECT != s1.rf HUB_EQUIV_CLASS.CODE then s1.campStop stREJECT 14 0 0
    else
      let j := s1.reg HUB_JOIN0.a
      let v := Word.ofN (j.field 0 32 + j.field 41 6 * 2 ^ 32 + j.field 32 9 * 2 ^ 38 + j.field 47 2 * 2 ^ 47 + 2 ^ 49)
      let s2 := (s1.setReg HUB_PLANE.a v).withBoot { s1.boot with committed := true }
      ((List.range 1152).filter (fun P => s2.belayUp P && (isTorus P || s2.gatewayPort P))).foldl
        (fun t P => (t.sendPartner P).actOnPartner P) s2

/-- The first condition of LOCK that does not hold, by its DETAIL (R505). -/
def lockFault (s : State) : Option Nat :=
  let ok : Nat → Bool := fun n =>
    match s.feidEntry n (s.rf HUB_JOIN1.DEVICE_FEID) with
    | some e => e.field 1 1 == 1 && e.field 3 6 == s.devIndex
    | none => false
  if !s.boot.committed then some 4
  else if !s.rb TIM_STS.LOCKED && !s.isRoot then some 1
  else if !((List.range 16).all ok) then some 2
  else if !s.rb HUB_CAMP_STS.FW_READY then some 3 else none

/-- LOCK; FAULT_N stays asserted while the device is not NORMAL (R506, R512). -/
def lockTables (s : State) : State :=
  if !s.atCamp6 then s else
  match s.lockFault with
  | some d => s.campStop stNOT_READY 15 d 0
  | none =>
    let s1 := (s.wf HUB_CAMP_STS.STATE 3).wf HUB_PLANE.LOCKED 1
    (if s1.rf HUB_FAULT_STS.DEV_STATE = 0 then s1.wf HUB_FAULT_STS.FAULT_N 0 else s1).campReport 6 stOK 0 0 0

/-- BURN_SVN (R495). -/
def burnSvn (s : State) (src : Src) : State :=
  if s.campState != 3 then s.hacc src 0 HUB_BOOT_CTL.a true stNOT_READY
  else
    let v := s.rf HUB_BOOT_IMAGE.SVN
    (s.withBoot { s.boot with minSvn := v }).wf HUB_BOOT_IMAGE.MIN_SVN v

/-- A write of HUB_BOOT_CTL: SOD_QUICK, then the commands by bit. -/
def writeBootCtl (s : State) (src : Src) (v : Word) : State :=
  let s1 := s.wf HUB_BOOT_CTL.SOD_QUICK (v.field 4 1)
  if v.field 0 1 = 1 then s1.startCamp0 else
  let s2 := if v.field 1 1 = 1 then s1.commit else s1
  let s3 := if v.field 2 1 = 1 then s2.lockTables else s2
  if v.field 3 1 = 1 then s3.burnSvn src else s3

/-- A write of HUB_JTAG_TOKEN (R496). -/
def writeJtagToken (s : State) (v : Word) : State :=
  if s.campOk 1 || s.rf HUB_JTAG_STS.TRIES = 3 then s
  else if Config.tokenOk v then s.withBoot { s.boot with jtagKeep := true }
  else s.satInc HUB_JTAG_STS.TRIES 1

/-- A row's write of one command bit: SOD_QUICK stays as it is. -/
def bootCmd (s : State) (src : Src) (bit : Nat) : State :=
  s.guardWrite src HUB_BOOT_CTL.a (fun t => t.writeBootCtl src (Word.ofN (2 ^ bit + 16 * t.rf HUB_BOOT_CTL.SOD_QUICK)))

end State

/-- PERST_N is released (R490, R574). -/
def execPerstNRelease (s : State) : Res := done s.perstRise
/-- HUB_BOOT_CTL.RESET (R490). -/
def execBootReset (src : Src) (s : State) : Res := unheld s (s.bootCmd src 0)
/-- A camp finishes its work, as `w` found it (R489). -/
def execCampComplete (w : CampWork) (s : State) : Res := unheld s (s.campComplete w)
/-- A camp passes its maximum duration (R489). -/
def execCampTimeout (s : State) : Res := unheld s s.campTimeout
/-- LASER_EN rises; Camp 5, where it waits for it, powers the lasers (R501). -/
def execLaserEnRise (l : LaserUp) (s : State) : Res :=
  let t := s.withBoot { s.boot with laserEn := true }
  done (if !s.boot.held && s.campNow == 5 && s.campState == 1 then t.campLasers l else t)
/-- LASER_EN falls, and every laser goes off (R524). -/
def execLaserEnFall (s : State) : Res := done ((s.withBoot { s.boot with laserEn := false }).lasersOff)
/-- HUB_BOOT_CTL.COMMIT (R502). -/
def execCommit (src : Src) (s : State) : Res := unheld s (s.bootCmd src 1)
/-- HUB_BOOT_CTL.LOCK (R505). -/
def execLock (src : Src) (s : State) : Res := unheld s (s.bootCmd src 2)
/-- HUB_BOOT_CTL.BURN_SVN (R495). -/
def execBurnSvn (src : Src) (s : State) : Res := unheld s (s.bootCmd src 3)
/-- A write of HUB_JTAG_TOKEN (R496). -/
def execJtagToken (src : Src) (v : Word) (s : State) : Res :=
  unheld s (s.guardWrite src HUB_JTAG_TOKEN.a (fun t => t.writeJtagToken v))

end Sys2Proof.Machine
end

