-- ==== Sys2Proof/Machine/Tensor.lean ====
section
/-! DEFINITION. Tensor operands: their elements, extents, reading and writing, and the finishing of accumulators into
them (spec/10_proit_machine.md R265 to R274; spec/08 R206 to R211; spec/09 R235). -/
namespace Sys2Proof

namespace Fmt
/-- Bytes of one addressed unit: an element, or a block of 32 of FP6 and FP4. -/
def unit (f : Fmt) : Nat := if f.mx then f.bits * 4 else f.bytes
end Fmt

namespace Tensor
def elems (t : Tensor) : Nat := t.shape.foldl (· * ·) 1
/-- Extents and strides in addressed units: the innermost extent of FP6 and FP4 counts blocks. -/
def dims (t : Tensor) : List (Nat × Int) :=
  let l := t.shape.zip t.strides
  if t.fmt.mx then l.dropLast ++ (l.getLast?.toList.map (fun p => (p.1 / 32, (t.fmt.unit : Int)))) else l
def units (t : Tensor) : Nat := (t.dims.map (fun p => p.1)).foldl (· * ·) 1
end Tensor

namespace Machine

/-- Offsets of every unit, row-major. -/
def offsets : List (Nat × Int) → List Int
  | [] => [0]
  | (n, st) :: t => (List.range n).flatMap (fun i => (offsets t).map (fun o => (i : Int) * st + o))
/-- Lowest and highest unit offset. -/
def spanOf (l : List (Nat × Int)) : Int × Int :=
  l.foldl (fun a p => (a.1 + min 0 (((p.1 : Int) - 1) * p.2), a.2 + max 0 (((p.1 : Int) - 1) * p.2))) (0, 0)

/-- Model address of byte `a` of a space as core `k` names it. -/
def spaceAddr (k : Nat) (sp : Space) (a : Nat) : Nat :=
  match sp with
  | .s => addrS (k / 8) (a - 0x1000000)
  | .lOf j => addrL j.val a
  | .sOf c => addrS c.val (a - 0x1000000)
  | _ => addrL k a

/-- An element code of `w` bits at place `j` of a packed block. -/
def blockCode (w b j : Nat) : Nat := b / 2 ^ (w * j) % 2 ^ w
/-- A packed block. -/
def packBlock (w : Nat) (l : List Nat) : Nat := ((List.range l.length).map (fun j => nth l j % 2 ^ w * 2 ^ (w * j))).sum

/-- A list cut into pieces of `n`, at most `k` of them. -/
def piecesOf {α : Type} (n : Nat) : Nat → List α → List (List α)
  | 0, _ => []
  | k + 1, l => l.take n :: piecesOf n k (l.drop n)

/-- What reading an operand gave. -/
structure Rd where
  fmt    : Fmt
  codes  : List Nat
  scales : List Nat
  bad    : Bool
  deriving DecidableEq, Repr

def Rd.vals (r : Rd) : List Val :=
  if r.fmt.mx then (r.scales.zip (piecesOf 32 r.scales.length r.codes)).flatMap (fun p => p.2.map (fun c => decodeElem r.fmt c p.1))
  else r.codes.map (fun c => decodeElem r.fmt c 0)
/-- Signed values of an integer tensor. -/
def Rd.ints (r : Rd) : List Int :=
  r.codes.map (fun c => if 2 ^ (r.fmt.bits - 1) ≤ c then (c : Int) - 2 ^ r.fmt.bits else c)
/-- NAN_IN of an operation that reads these elements as numbers. -/
def nanFlag (l : List Val) : Nat := if l.any (fun v => v == .nan) then fNanIn else 0

/-- An engine instruction as it runs: core, captured registers, options (R270). -/
structure Ctx where
  k    : Nat
  regs : List Word
  o    : Opts
  deriving DecidableEq, Repr

namespace Ctx
def reg (c : Ctx) (r : Nat) : Word := c.regs.getD r 0
def arg (c : Ctx) (a : Arg) : Nat := (State.argOf c.reg a).toNat
/-- Model addresses of the units of an L or S operand. -/
def addrs (c : Ctx) (t : Tensor) : List Nat :=
  let b : Int := (c.arg t.base : Int)
  (offsets t.dims).map (fun o => spaceAddr c.k t.sp (b + o).toNat)
/-- Model addresses of its scale bytes. -/
def scaleAddrs (c : Ctx) (t : Tensor) : List Nat :=
  match t.scale with
  | some x => (List.range t.units).map (fun i => spaceAddr c.k (if x.inS then .s else .l) (c.arg x.base + i))
  | none => []
/-- Random bits of the element at row-major place `i` of a destination (R271). -/
def bits (c : Ctx) (i : Nat) : Nat :=
  match c.o.rnd with
  | .sr n => srBits ((c.o.seed.map (fun r => (c.reg r.val).toNat)).getD 0) (c.arg c.o.tid % 2 ^ 32) ((c.arg c.o.idx + i) % 2 ^ 48) n
  | _ => 0
/-- Runs of an operand's bytes. -/
def runs (c : Ctx) (t : Tensor) : List (Nat × Nat) :=
  (c.addrs t).map (fun a => (a, t.fmt.unit)) ++ (c.scaleAddrs t).map (fun a => (a, 1))
/-- The bytes an operand's extent must keep inside its space: lowest and one past the highest (R269). -/
def extent (c : Ctx) (t : Tensor) : Space × Int × Int :=
  let p := spanOf t.dims
  let b : Int := (c.arg t.base : Int)
  (t.sp, b + p.1, b + p.2 + t.fmt.unit)
def scaleExtent (c : Ctx) (t : Tensor) : List (Space × Int × Int) :=
  match t.scale with
  | some x => [(if x.inS then .s else .l, (c.arg x.base : Int), (c.arg x.base : Int) + t.units)]
  | none => []
end Ctx

namespace State

/-- Runs read in order, each by the harness that holds it. -/
def readRunsOf (s : State) (rs : List (Nat × Nat)) : List Byte × Bool × State :=
  match rs with
  | [] => ([], false, s)
  | r :: _ => s.memRead (s.ownOf r.1) rs

/-- Read an operand: its element codes, its scales, and the state with every word that did not decode reported. -/
def rd (s : State) (c : Ctx) (t : Tensor) : Rd × State :=
  let u := t.fmt.unit
  let r := s.readRunsOf ((c.addrs t).map (fun a => (a, u)))
  let q := r.2.2.readRunsOf ((c.scaleAddrs t).map (fun a => (a, 1)))
  let us := (piecesOf u t.units r.1).map leNat
  let codes := if t.fmt.mx then us.flatMap (fun b => (List.range 32).map (fun j => blockCode t.fmt.bits b j)) else us
  (⟨t.fmt, codes, q.1.map (fun b => b.toNat), r.2.1 || q.2.1⟩, q.2.2)

/-- Read an operand's codes only, its scale array left alone. -/
def rdCodes (s : State) (c : Ctx) (t : Tensor) : Rd × State := s.rd c { t with scale := none }

end State

/-- The writes that put units into an operand's places, some of which may be left unwritten. -/
def wrUnits (c : Ctx) (t : Tensor) (us : List (Option Nat)) : List (Nat × List Byte) :=
  ((c.addrs t).zip us).filterMap (fun p => p.2.map (fun v => (p.1, bytesLE t.fmt.unit v)))
def wrScales (c : Ctx) (t : Tensor) (sc : List (Option Nat)) : List (Nat × List Byte) :=
  ((c.scaleAddrs t).zip sc).filterMap (fun p => p.2.map (fun v => (p.1, bytesLE 1 v)))
/-- Element codes as units. -/
def unitsOf (f : Fmt) (codes : List Nat) : List Nat :=
  if f.mx then (piecesOf 32 (codes.length / 32) codes).map (packBlock f.bits) else codes
/-- The writes of a whole operand. -/
def wr (c : Ctx) (t : Tensor) (codes : List Nat) : List (Nat × List Byte) :=
  wrUnits c t ((unitsOf t.fmt codes).map some)

/-- Values finished into a destination of any format: the writes and the flags of the rounding. -/
def wrExact (c : Ctx) (t : Tensor) (xs : List Exact) : List (Nat × List Byte) × Nat :=
  if t.fmt.mx then
    let bs := (List.range (xs.length / 32)).map (fun b =>
      encodeBlock t.fmt c.o.rnd ((List.range 32).map (fun j => c.bits (32 * b + j))) ((xs.drop (32 * b)).take 32))
    (wr c t (bs.flatMap (fun b => b.1)) ++ wrScales c t (bs.map (fun b => some b.2.1)),
     bs.foldl (fun f b => f ||| b.2.2) 0)
  else
    let es := (List.range xs.length).map (fun i => encodeExact t.fmt c.o.rnd c.o.ovf (c.bits i) (xs.getD i .nan))
    (wr c t (es.map (fun e => e.1)), es.foldl (fun f e => f ||| e.2) 0)

/-- Accumulators finished into a destination (R235). -/
def wrAccs (c : Ctx) (t : Tensor) (as : List Acc) : List (Nat × List Byte) × Nat :=
  let r := wrExact c t (as.map (fun a => a.exact c.o.rnd))
  (r.1, as.foldl (fun f a => f ||| a.stateFlags) r.2)
/-- Accumulators finished with WRAP not 0 (R252). -/
def wraps (as : List Acc) : Nat := (as.filter (fun a => a.wrap != 0)).length

/-- Merge a list of accumulators. -/
def mergeAll (l : List Acc) : Acc := l.foldl Acc.merge Acc.empty

end Machine
end Sys2Proof
end

