-- ==== Sys2Proof/Machine/Engines.lean ====
section
/-! DEFINITION. What the operations of the VRE, GSE, SSE, CDC and TEN compute (spec/11_proit_operations.md R290 to
R313; spec/09 R248, R249; spec/14 R389 to R397). Each reads its sources once, at its start, and gives a result that its
completion applies. -/
namespace Sys2Proof.Machine

/-- A result with writes and flags. -/
def EngRes.of (w : List (Nat × List Byte)) (flags : Nat) (bad : Bool) : EngRes :=
  { EngRes.none with writes := w, flags := flags, status := if bad then stPOISON else stOK }

/-! ## VRE (R294 to R297) -/

/-- Accumulators of the rows of a list: `n` rows of equal length. -/
def rowsOf (n : Nat) (l : List Acc) : List Acc := (piecesOf (l.length / n) n l).map mergeAll

def zipProd (ov : Ovf) (a b : List Val) : List Acc := (a.zip b).map (fun p => Acc.ofProd ov p.1 p.2)

/-- The kept set that enters and the one that is left (R297): `acc` of this instruction, the accumulators it forms. -/
def keptIn (s : State) (k : Nat) (acc : AccOpt) (n : Nat) : List Acc :=
  match acc, (s.cst k).kept with
  | .more, some x => x.accs
  | .close, some x => x.accs
  | _, _ => List.replicate n Acc.empty
def wideOf (ts : List Tensor) : Bool := ts.any (fun t => t.fmt.bits == 32)
/-- The result of a sum or a dot: kept, or finished by `fin`. -/
def vreEnd (s : State) (k : Nat) (acc : AccOpt) (wide : Bool) (as : List Acc) (bad : Bool)
    (fin : List Acc → List (Nat × List Byte) × Nat) : EngRes :=
  let n := as.length
  let all := ((keptIn s k acc n).zip as).map (fun p => p.1.merge p.2)
  let w := wide || ((s.cst k).kept.map (fun x => x.wide)).getD false
  match acc with
  | .begin => { EngRes.of [] 0 bad with kept := some (some ⟨wide, all⟩) }
  | .more => { EngRes.of [] 0 bad with kept := some (some ⟨w, all⟩) }
  | _ => (let r := fin all
          { EngRes.of r.1 r.2 bad with kept := some none, cnts := [(CRX_CNT_WRAP.V (k / 32), wraps all)] })

/-- A pair destination (R226, R227). -/
def wrPair (c : Ctx) (dh dl : Tensor) (xs : List Exact) : List (Nat × List Byte) × Nat :=
  let ps := xs.map (encodePair dh.fmt c.o.ovf)
  (wr c dh (ps.map (fun p => p.1)) ++ wr c dl (ps.map (fun p => p.2.1)), ps.foldl (fun f p => f ||| p.2.2) 0)
def wrPairAccs (c : Ctx) (dh dl : Tensor) (as : List Acc) : List (Nat × List Byte) × Nat :=
  let r := wrPair c dh dl (as.map (fun a => a.exact .rne))
  (r.1, as.foldl (fun f a => f ||| a.stateFlags) r.2)

def vreSum (s : State) (c : Ctx) (acc : AccOpt) (n : Nat) (a : Tensor) (fin : List Acc → List (Nat × List Byte) × Nat) : EngRes × State :=
  let x := s.rd c a
  (vreEnd x.2 c.k acc (wideOf [a]) (rowsOf n (x.1.vals.map (Acc.ofVal c.o.ovf))) x.1.bad fin, x.2)
def vreDot (s : State) (c : Ctx) (acc : AccOpt) (n : Nat) (a b : Tensor) (fin : List Acc → List (Nat × List Byte) × Nat) : EngRes × State :=
  let x := s.rd c a
  let y := x.2.rd c b
  (vreEnd y.2 c.k acc (wideOf [a, b]) (rowsOf n (zipProd c.o.ovf x.1.vals y.1.vals)) (x.1.bad || y.1.bad) fin, y.2)
/-- a of vre.axpy: the low 32 bits of its register. -/
def axpyScalar (c : Ctx) (r : Nat) (f : Fmt) : Val := decodeElem (if f.isInt then .int32 else .fp32) ((c.reg r).toNat % 2 ^ 32) 0
def vreAxpy (s : State) (c : Ctx) (r : Nat) (d x y : Tensor) : EngRes × State :=
  let p := s.rd c x
  let q := p.2.rd c y
  let a := axpyScalar c r x.fmt
  let as := (p.1.vals.zip q.1.vals).map (fun v => (Acc.ofProd c.o.ovf a v.1).merge (Acc.ofVal c.o.ovf v.2))
  let w := wrAccs c d as
  ({ EngRes.of w.1 w.2 (p.1.bad || q.1.bad) with kept := some none, cnts := [(CRX_CNT_WRAP.V (c.k / 32), wraps as)] }, q.2)
/-- The least or greatest element of a row, -0 below +0; the canonical NaN where one is NaN (R296). -/
def bestOf (f : Fmt) (greatest : Bool) (codes : List Nat) : Nat × Nat :=
  if codes.any (isNanCode f) then (f.canonNan, fNanIn)
  else
    match codes with
    | [] => (0, 0)
    | x :: t => (t.foldl (fun b y => if (if greatest then decide (sortKey f b < sortKey f y) else decide (sortKey f y < sortKey f b)) then y else b) x, 0)
def vreBest (s : State) (c : Ctx) (greatest : Bool) (d a : Tensor) : EngRes × State :=
  let x := s.rd c a
  let n := d.elems
  let rs := (piecesOf (x.1.codes.length / n) n x.1.codes).map (bestOf a.fmt greatest)
  ({ EngRes.of (wr c d (rs.map (fun r => r.1))) (rs.foldl (fun f r => f ||| r.2) 0) x.1.bad with kept := some none }, x.2)

/-! ## Index tensors (R273, R274) -/

/-- Where an index leads: a row or element, a zero, or nowhere. -/
inductive Sel where
  | at_ (i : Nat)
  | zero
  | skip
  deriving DecidableEq, Repr

def selOf (oob : Oob) (n : Nat) (i : Int) : Sel :=
  if 0 ≤ i && i < n then .at_ i.toNat
  else match oob with
    | .clamp => .at_ (if i < 0 then 0 else n - 1)
    | .wrap => .at_ (i % (n : Int)).toNat
    | .zero => .zero
    | _ => .skip
def outOf (n : Nat) (i : Int) : Bool := decide (i < 0) || decide ((n : Int) ≤ i)
/-- The selections made, how many indices were out of range, and the place of the first under oob=fault. -/
def planOf (oob : Oob) (n : Nat) (ix : List Int) : List Sel × Nat × Option Nat :=
  let bad := (List.range ix.length).find? (fun j => outOf n (ix.getD j 0))
  match oob, bad with
  | .fault, some j => ((ix.take (j / 64 * 64)).map (selOf oob n), 0, some j)
  | _, _ => (ix.map (selOf oob n), (ix.filter (outOf n)).length, none)
/-- What an out-of-range index under oob=fault makes of a result. -/
def EngRes.oobFault (r : EngRes) (j : Option Nat) (oob : Nat) : EngRes :=
  { r with oob := oob, fault := j.map (fun x => (stDENIED, x, 0, 0, 0)) }
/-- Rows of a table and how many there are. -/
def tableRows (m : IMode) (t : Tensor) : Nat :=
  match m with
  | .row => (t.dims.headD (1, 0)).1
  | .flat => t.units

/-! ## GSE (R298 to R300) -/

/-- A row or element at place `j` of a list of units. -/
def rowAt {α : Type} (per : Nat) (l : List α) (j : Nat) : List α := (l.drop (j * per)).take per

def gseGather (s : State) (c : Ctx) (m : IMode) (oob : Oob) (d t i : Tensor) : EngRes × State :=
  let ix := s.rd c i
  let n := tableRows m t
  let per := t.units / n
  let p := planOf oob n ix.1.ints
  let ta := c.addrs t
  let tsc := c.scaleAddrs t
  let u := t.fmt.unit
  let step : (List (Option Nat) × List (Option Nat) × Bool × State) → Sel → List (Option Nat) × List (Option Nat) × Bool × State :=
    fun acc x =>
      match x with
      | .at_ r =>
        let a := acc.2.2.2.readRunsOf ((rowAt per ta r).map (fun y => (y, u)))
        let b := a.2.2.readRunsOf ((rowAt per tsc r).map (fun y => (y, 1)))
        (acc.1 ++ ((piecesOf u per a.1).map (fun z => some (leNat z))), acc.2.1 ++ b.1.map (fun z => some z.toNat),
         acc.2.2.1 || a.2.1 || b.2.1, b.2.2)
      | .zero => (acc.1 ++ List.replicate per (some 0), acc.2.1 ++ (if tsc.isEmpty then [] else List.replicate per (some 0)), acc.2.2.1, acc.2.2.2)
      | .skip => (acc.1 ++ List.replicate per none, acc.2.1 ++ (if tsc.isEmpty then [] else List.replicate per none), acc.2.2.1, acc.2.2.2)
  let r := p.1.foldl step ([], [], ix.1.bad, ix.2)
  ((EngRes.of (wrUnits c d r.1 ++ wrScales c d r.2.1) 0 r.2.2.1).oobFault p.2.2 p.2.1, r.2.2.2)

def gseScatter (s : State) (c : Ctx) (m : IMode) (oob : Oob) (t src i : Tensor) : EngRes × State :=
  let ix := s.rd c i
  let n := tableRows m t
  let per := t.units / n
  let p := planOf oob n ix.1.ints
  let x := ix.2.readRunsOf ((c.addrs src).map (fun a => (a, t.fmt.unit)))
  let y := x.2.2.readRunsOf ((c.scaleAddrs src).map (fun a => (a, 1)))
  let us := (piecesOf t.fmt.unit src.units x.1)
  let w := (List.range p.1.length).flatMap (fun j =>
    match p.1.getD j .skip with
    | .at_ r => ((rowAt per (c.addrs t) r).zip (rowAt per us j)) ++
        ((rowAt per (c.scaleAddrs t) r).zip ((rowAt per y.1 j).map (fun b => [b])))
    | _ => [])
  ((EngRes.of w 0 (ix.1.bad || x.2.1 || y.2.1)).oobFault p.2.2 p.2.1, y.2.2)

def gseScatadd (s : State) (c : Ctx) (m : IMode) (oob : Oob) (t src i : Tensor) : EngRes × State :=
  let ix := s.rd c i
  let n := tableRows m t
  let per := t.elems / n
  let p := planOf oob n ix.1.ints
  let x := ix.2.rd c src
  let old := x.2.rd c t
  let sv := x.1.vals
  let tv := old.1.vals
  let terms : Nat → List Acc := fun e => (List.range p.1.length).filterMap (fun j =>
    match p.1.getD j .skip with
    | .at_ r => if r = e / per then some (Acc.ofVal c.o.ovf (sv.getD (j * per + e % per) .nan)) else none
    | _ => none)
  let hit : List (Nat × Acc) := (List.range t.elems).filterMap (fun e =>
    let l := terms e
    if l.isEmpty then none else some (e, mergeAll (l ++ [Acc.ofVal c.o.ovf (tv.getD e .nan)])))
  let fin : List (Nat × Nat × Nat) := hit.map (fun h => (h.1, finishAcc t.fmt c.o.rnd c.o.ovf (c.bits h.1) h.2))
  let ta := c.addrs t
  let r := EngRes.of (fin.map (fun q => (ta.getD q.1 0, bytesLE t.fmt.bytes q.2.1))) (fin.foldl (fun f q => f ||| q.2.2) 0)
    (ix.1.bad || x.1.bad || old.1.bad)
  (({ r with cnts := [(CRX_CNT_WRAP.V (c.k / 32), wraps (hit.map (fun h => h.2)))] } : EngRes).oobFault p.2.2 p.2.1, old.2)

/-! ## SSE (R301 to R305) -/

/-- Put a pair behind every pair that is not after it. -/
def insertBy (after : Nat × Nat → Nat × Nat → Bool) (x : Nat × Nat) : List (Nat × Nat) → List (Nat × Nat)
  | [] => [x]
  | y :: t => if after y x then x :: y :: t else y :: insertBy after x t
/-- Codes with their positions, stably ordered by key (R302). -/
def sortRow (f : Fmt) (desc : Bool) (codes : List Nat) : List (Nat × Nat) :=
  ((List.range codes.length).map (fun i => (nth codes i, i))).foldl (fun l x =>
    insertBy (fun y z => if desc then decide (sortKey f y.1 < sortKey f z.1) else decide (sortKey f z.1 < sortKey f y.1)) x l) []
def anyNan (f : Fmt) (l : List Nat) : Nat := if l.any (isNanCode f) then fNanIn else 0

def sseSort (s : State) (c : Ctx) (desc : Bool) (k : Nat) (dk dp key : Tensor) : EngRes × State :=
  let x := s.rd c key
  let n := key.shape.getLastD 1
  let rows := (piecesOf n (key.elems / n) x.1.codes).map (fun r => (sortRow key.fmt desc r).take k)
  let out := rows.flatMap (fun r => r)
  (EngRes.of (wr c dk (out.map (fun p => p.1)) ++ wr c dp (out.map (fun p => p.2))) (anyNan key.fmt x.1.codes) x.1.bad, x.2)

def sseSelect (s : State) (c : Ctx) (d m a b : Tensor) : EngRes × State :=
  let p := s.rd c m
  let x := p.2.rdCodes c a
  let y := x.2.rdCodes c b
  let r := (p.1.codes.zip (x.1.codes.zip y.1.codes)).map (fun q => if q.1 != 0 then q.2.1 else q.2.2)
  (EngRes.of (wr c d r) 0 (p.1.bad || x.1.bad || y.1.bad), y.2)

/-- The elements found, written from the first up; cnt= and OVERFLOW (R304). -/
def found (c : Ctx) (cnt : Option (Fin 32)) (d : Tensor) (dp : Option Tensor) (l : List (Nat × Nat)) (flags : Nat) (bad : Bool) : EngRes :=
  let m := d.elems
  let w := wrUnits c d ((l.take m).map (fun p => some p.1)) ++
    (match dp with | some t => wrUnits c t ((l.take m).map (fun p => some p.2)) | none => [])
  { EngRes.of w flags bad with status := if m < l.length then stOVERFLOW else if bad then stPOISON else stOK,
                               regs := cnt.toList.map (fun r => (r.val, Word.ofN l.length)) }
def withPos (l : List Nat) : List (Nat × Nat) := (List.range l.length).map (fun i => (nth l i, i))

def sseCompact (s : State) (c : Ctx) (cnt : Option (Fin 32)) (d a m : Tensor) : EngRes × State :=
  let x := s.rd c a
  let p := x.2.rd c m
  (found c cnt d none ((withPos x.1.codes).filter (fun q => nth p.1.codes q.2 != 0)) 0 (x.1.bad || p.1.bad), p.2)
def cmpKeys (cc : Cond) (a b : Nat) : Bool :=
  match cc with
  | .eq => a == b | .ne => a != b
  | .lt => decide (a < b) | .ltu => decide (a < b) | .le => decide (a ≤ b) | .leu => decide (a ≤ b)
  | .gt => decide (b < a) | .gtu => decide (b < a) | .ge => decide (b ≤ a) | .geu => decide (b ≤ a)
def sseFilter (s : State) (c : Ctx) (cc : Cond) (thr : Nat) (cnt : Option (Fin 32)) (d a : Tensor) : EngRes × State :=
  let x := s.rd c a
  let t := (c.reg thr).toNat % 2 ^ a.fmt.bits
  (found c cnt d none ((withPos x.1.codes).filter (fun q => cmpKeys cc (sortKey a.fmt q.1) (sortKey a.fmt t)))
    (anyNan a.fmt (t :: x.1.codes)) x.1.bad, x.2)
def firsts : List (Nat × Nat) → List (Nat × Nat) → List (Nat × Nat)
  | seen, [] => seen
  | seen, x :: t => firsts (if seen.any (fun y => y.1 == x.1) then seen else seen ++ [x]) t
def sseDedup (s : State) (c : Ctx) (cnt : Option (Fin 32)) (d dp a : Tensor) : EngRes × State :=
  let x := s.rd c a
  (found c cnt d (some dp) (firsts [] (withPos x.1.codes)) (anyNan a.fmt x.1.codes) x.1.bad, x.2)
def sseHist (s : State) (c : Ctx) (add : Bool) (oob : Oob) (d a : Tensor) : EngRes × State :=
  let x := s.rd c a
  let old := x.2.rd c d
  let b := d.elems
  let p := planOf (if oob == .zero then .skip else oob) b x.1.ints
  let cnt : Nat → Nat := fun v => (p.1.filter (fun q => q == .at_ v)).length
  let bins := (List.range b).map (fun v =>
    let from_ : Int := if add then old.1.ints.getD v 0 else 0
    from_ + (cnt v : Int))
  let top : Int := 0x7FFFFFFF
  ((EngRes.of (wr c d (bins.map (fun v => (min v top % 2 ^ 32).toNat))) (if bins.any (fun v => decide (top < v)) then fOvf else 0)
      (x.1.bad || (add && old.1.bad))).oobFault p.2.2 p.2.1, if add then old.2 else x.2)

/-! ## TEN (R306 to R309, R248, R249, R396, R397) -/

def mmaGroup (f : Fmt) : Nat :=
  match f with
  | .bf16 => 64 | .fp16 => 64 | .e3m2 => 256 | .e2m1 => 256 | _ => 128

/-- The tile mask says the stored tile of stored element (r, q) of B is present (R308). -/
def tilePresent (mask : List Byte) (cols r q : Nat) : Bool :=
  let t := r / 32 * (cols / 32) + q / 32
  ((mask.getD (t / 8) 0).toNat / 2 ^ (t % 8)) % 2 == 1

/-- Is an output's state one that leaves its column unchecked (R397)? -/
def uncheckable (a : Acc) : Bool := a.nan || a.invalid || a.pinf || a.ninf || a.ovt

/-- One output of a floating-point MMA: the accumulator before its last finish into the destination, the flags of the
group finishes, and for every group whether its column goes unchecked on account of it. -/
def mmaOut (ov : Ovf) (start : Acc) (groups : List (List Acc)) : Acc × Nat × List Bool :=
  groups.foldl (fun st g =>
    let x := st.1.merge (mergeAll g)
    let r := finishAcc .fp32 .rne ov 0 x
    (Acc.ofVal ov (decodeElem .fp32 r.1 0), st.2.1 ||| r.2, st.2.2 ++ [uncheckable x])) (start, 0, [])

def tenMma (s : State) (c : Ctx) (add ta tb : Bool) (tmask : Option Arg) (d a b : Tensor) : EngRes × State :=
  let m := d.shape.getD 0 1
  let n := d.shape.getD 1 1
  let kk := if ta then a.shape.getD 0 1 else a.shape.getD 1 1
  let x := s.rd c a
  let y := x.2.rd c b
  let z := y.2.rd c d
  let av := x.1.vals
  let bv := y.1.vals
  let cv := z.1.vals
  let cols := b.shape.getD 1 1
  let tiles := b.shape.getD 0 1 / 32 * (cols / 32)
  let mk := match tmask with
    | some p => z.2.readRunsOf [(spaceAddr c.k .s (c.arg p), (tiles + 7) / 8)]
    | none => ([], false, z.2)
  let present : Nat → Nat → Bool := fun k j =>
    tmask.isNone || (if tb then tilePresent mk.1 cols j k else tilePresent mk.1 cols k j)
  let term : Nat → Nat → Nat → Option Acc := fun i j k =>
    if present k j then
      some (Acc.ofProd c.o.ovf (av.getD (if ta then k * m + i else i * kk + k) .nan) (bv.getD (if tb then j * kk + k else k * n + j) .nan))
    else none
  let start : Nat → Nat → Acc := fun i j => if add then Acc.ofVal c.o.ovf (cv.getD (i * n + j) .nan) else Acc.empty
  let bad := x.1.bad || y.1.bad || (add && z.1.bad) || mk.2.1
  let st := if add then mk.2.2 else mk.2.2
  let die := c.k / 32
  if a.fmt.isInt then
    let as := (List.range m).flatMap (fun i => (List.range n).map (fun j =>
      (start i j).merge (mergeAll ((List.range kk).filterMap (fun k => term i j k)))))
    let w := wrAccs c d as
    let satCol : Nat → Bool := fun j => (List.range m).any (fun i =>
      let r := as.getD (i * n + j) Acc.empty
      uncheckable r || (d.fmt.isInt && (finishAcc d.fmt c.o.rnd c.o.ovf (c.bits (i * n + j)) r).2 &&& fOvf != 0))
    let skip := ((List.range n).filter satCol).length
    ({ EngRes.of w.1 w.2 bad with cnts := [(CRX_CNT_TEN_CHECK.V die, n - skip), (CRX_CNT_TEN_SKIP.V die, skip)] }, st)
  else
    let g := min (mmaGroup a.fmt) (mmaGroup b.fmt)
    let gs := (kk + g - 1) / g
    let outs := (List.range m).flatMap (fun i => (List.range n).map (fun j =>
      mmaOut c.o.ovf (start i j) ((List.range gs).map (fun q =>
        (List.range (min g (kk - q * g))).filterMap (fun r => term i j (q * g + r))))))
    let w := wrAccs c d (outs.map (fun o => o.1))
    let skips := ((List.range n).map (fun j => ((List.range gs).filter (fun q =>
      (List.range m).any (fun i => (((outs.getD (i * n + j) (Acc.empty, 0, [])).2.2).getD q false)))).length)).sum
    let last := if d.fmt == .fp32 then 0 else ((List.range n).filter (fun j =>
      (List.range m).any (fun i => uncheckable (outs.getD (i * n + j) (Acc.empty, 0, [])).1))).length
    let all := n * gs + (if d.fmt == .fp32 then 0 else n)
    ({ EngRes.of w.1 (outs.foldl (fun f o => f ||| o.2.1) w.2) bad with
         cnts := [(CRX_CNT_TEN_CHECK.V die, all - skips - last), (CRX_CNT_TEN_SKIP.V die, skips + last)] }, st)

/-! ## CDC (R310 to R313) -/

def cdcCvt (s : State) (c : Ctx) (d a : Tensor) : EngRes × State :=
  let x := s.rd c a
  let w := wrExact c d (x.1.vals.map Val.exact)
  (EngRes.of w.1 (w.2 ||| nanFlag x.1.vals) x.1.bad, x.2)
def cdcMxq (s : State) (c : Ctx) (d a : Tensor) : EngRes × State :=
  let x := s.rd c a
  let sa := c.scaleAddrs d
  let q := x.2.readRunsOf (sa.map (fun y => (y, 1)))
  let vs := x.1.vals
  let bs := (List.range d.units).map (fun b =>
    encodeScaled d.fmt c.o.rnd ((List.range 32).map (fun j => c.bits (32 * b + j))) ((q.1.getD b 0).toNat) ((vs.drop (32 * b)).take 32))
  (EngRes.of (wr c d (bs.flatMap (fun b => b.1)) ++ wrScales c d (bs.map (fun b => if b.2.1 = 0xFF then some 0xFF else none)))
    (bs.foldl (fun f b => f ||| b.2.2) 0) (x.1.bad || q.2.1), q.2.2)
/-- cdc.unpack and cdc.pack: codes moved between INT8 and FP6 or FP4, no scale array touched. -/
def cdcCodes (s : State) (c : Ctx) (d a : Tensor) : EngRes × State :=
  let x := s.rdCodes c a
  (EngRes.of (wr c d x.1.codes) 0 x.1.bad, x.2)
/-- Bit `i` of a bitmap. -/
def mapBit (l : List Byte) (i : Nat) : Bool := (l.getD (i / 8) 0).toNat / 2 ^ (i % 8) % 2 == 1
def cdcSpx (s : State) (c : Ctx) (cnt : Option (Fin 32)) (d v m : Tensor) : EngRes × State :=
  let n := d.elems
  let b := s.readRunsOf [(spaceAddr c.k m.sp (c.arg m.base), (n + 7) / 8)]
  let x := b.2.2.rdCodes c v
  let go := (List.range n).foldl (fun (st : List Nat × Nat) i =>
    if mapBit b.1 i then (st.1 ++ [if st.2 < v.elems then nth x.1.codes st.2 else 0], st.2 + 1) else (st.1 ++ [0], st.2)) ([], 0)
  ({ EngRes.of (wr c d go.1) 0 false with
       status := if v.elems < go.2 then stOVERFLOW else if b.2.1 || x.1.bad then stPOISON else stOK,
       regs := cnt.toList.map (fun r => (r.val, Word.ofN go.2)) }, x.2)
def cdcSpc (s : State) (c : Ctx) (cnt : Option (Fin 32)) (v m a : Tensor) : EngRes × State :=
  let x := s.rdCodes c a
  let n := a.elems
  let bytes := (List.range ((n + 7) / 8)).map (fun i =>
    BitVec.ofNat 8 (((List.range 8).map (fun j => if 8 * i + j < n && nth x.1.codes (8 * i + j) != 0 then 2 ^ j else 0)).sum))
  let r := found c cnt v none ((withPos x.1.codes).filter (fun q => q.1 != 0)) 0 x.1.bad
  ({ r with writes := r.writes ++ [(spaceAddr c.k m.sp (c.arg m.base), bytes)] }, x.2)
def cdcSplit (s : State) (c : Ctx) (dh dl a : Tensor) : EngRes × State :=
  let x := s.rd c a
  let w := wrPair c dh dl (x.1.vals.map Val.exact)
  (EngRes.of w.1 (w.2 ||| nanFlag x.1.vals) x.1.bad, x.2)
/-- CRC-32C over an operand's bytes, element by element (R313). -/
def crcOf (s : State) (c : Ctx) (init : Option (Fin 32)) (a : Tensor) : Nat × Bool × State :=
  let x := s.readRunsOf ((c.addrs a).map (fun y => (y, a.fmt.unit)))
  (crc32c ((init.map (fun r => (c.reg r.val).toNat % 2 ^ 32)).getD 0) x.1, x.2.1, x.2.2)
/-- The linear residue of an operand (R389): seed= and idx=. -/
def resOf (s : State) (c : Ctx) (a : Tensor) : Nat × Bool × State :=
  let x := s.rd c a
  (residueVals ((c.o.seed.map (fun r => (c.reg r.val).toNat)).getD 0) (c.arg c.o.idx) x.1.vals, x.1.bad, x.2)
def cdcValue (sd : Fin 32) (r : Nat × Bool × State) : EngRes × State :=
  ({ EngRes.of [] 0 r.2.1 with regs := [(sd.val, Word.ofN r.1)] }, r.2.2)
/-- A check that finds a mismatch faults with CHECK (R310, R398). -/
def cdcCheck (c : Ctx) (se : Fin 32) (r : Nat × Bool × State) : EngRes × State :=
  if (c.reg se.val).toNat = r.1 then (EngRes.of [] 0 r.2.1, r.2.2)
  else ({ EngRes.of [] 0 r.2.1 with fault := some (stCHECK, r.1, 8, (c.reg se.val).toNat, r.1),
                                    cnts := [(CRX_CNT_CDC_FAIL.V (c.k / 32), 1)] }, r.2.2)

/-- What an operation of these engines computes when it starts. -/
def compute (s : State) (c : Ctx) : EngOp → EngRes × State
  | .vreSum acc d a => vreSum s c acc d.elems a (wrAccs c d)
  | .vreDot acc d a b => vreDot s c acc d.elems a b (wrAccs c d)
  | .vreAxpy r d x y => vreAxpy s c r d x y
  | .vreMin d a => vreBest s c false d a
  | .vreMax d a => vreBest s c true d a
  | .vreSumPair acc dh dl a => vreSum s c acc dh.elems a (wrPairAccs c dh dl)
  | .vreDotPair acc dh dl a b => vreDot s c acc dh.elems a b (wrPairAccs c dh dl)
  | .gseGather m o d t i => gseGather s c m o d t i
  | .gseScatter m o t x i => gseScatter s c m o t x i
  | .gseScatadd m o t x i => gseScatadd s c m o t x i
  | .sseSort desc dk dp key => sseSort s c desc (key.shape.getLastD 1) dk dp key
  | .sseTopk desc k dv dp key => sseSort s c desc (c.arg k) dv dp key
  | .sseSelect d m a b => sseSelect s c d m a b
  | .sseCompact cnt d a m => sseCompact s c cnt d a m
  | .sseFilter cc thr cnt d a => sseFilter s c cc thr.val cnt d a
  | .sseDedup cnt d dp a => sseDedup s c cnt d dp a
  | .sseHist add oob d a => sseHist s c add oob d a
  | .tenMma add ta tb tm d a b => tenMma s c add ta tb tm d a b
  | .cdcCvt d a => cdcCvt s c d a
  | .cdcMxq d a => cdcMxq s c d a
  | .cdcUnpack d a => cdcCodes s c d a
  | .cdcPack d a => cdcCodes s c d a
  | .cdcSpx cnt d v m => cdcSpx s c cnt d v m
  | .cdcSpc cnt v m a => cdcSpc s c cnt v m a
  | .cdcSplit dh dl a => cdcSplit s c dh dl a
  | .cdcCrc sd init a => cdcValue sd (crcOf s c init a)
  | .cdcRes sd a => cdcValue sd (resOf s c a)
  | .cdcCrcChk init a se => cdcCheck c se (crcOf s c init a)
  | .cdcResChk a se => cdcCheck c se (resOf s c a)
  | .fdeMove _ _ _ _ _ _ _ => (EngRes.none, s)
  | .fdePut _ _ _ _ => (EngRes.none, s)
  | .fdeAmo _ _ _ _ _ _ _ _ _ _ => (EngRes.none, s)

end Sys2Proof.Machine
end

