-- ==== Sys2Proof/Machine/EngForms.lean ====
section
/-! DEFINITION. What operand forms an engine instruction may have, as Proit accepts them (spec/10_proit_machine.md R266 to
R273; spec/11_proit_operations.md R290 to R315), the registers it reads (R270), and the checks it undergoes when it
starts (R284). -/
namespace Sys2Proof

def fitsI32 (i : Int) : Bool := decide (-(2 : Int) ^ 31 ≤ i) && decide (i < (2 : Int) ^ 31)
/-- No two units of an operand share a byte (R267). -/
def destStrides (u : Nat) : List (Nat × Int) → Bool
  | [] => true
  | [(_, st)] => decide (u ≤ st.natAbs)
  | (_, st) :: (n, st') :: t => (decide (n ≤ 1) || decide (st'.natAbs * n ≤ st.natAbs)) && destStrides u ((n, st') :: t)

namespace Tensor
/-- Shape and strides of R266 and R267; FP6 and FP4 name a scale array (R268). -/
def okForm (t : Tensor) : Bool :=
  decide (1 ≤ t.shape.length) && decide (t.shape.length ≤ 4) && t.strides.length == t.shape.length &&
  t.shape.all (fun n => decide (1 ≤ n) && decide (n ≤ 16777216)) && decide (t.elems ≤ 2 ^ 32) && t.strides.all fitsI32 &&
  t.scale.isSome == t.fmt.mx &&
  (if t.fmt.mx then t.shape.getLastD 0 % 32 == 0 && t.strides.getLastD 0 == (t.fmt.unit : Int) &&
      t.strides.all (fun s => s % (t.fmt.unit : Int) == 0)
   else t.strides.all (fun s => s % (t.fmt.bytes : Int) == 0))
def inLS (t : Tensor) : Bool := t.sp == .l || t.sp == .s
/-- A source in L or S. -/
def src (t : Tensor) : Bool := t.okForm && t.inLS
/-- A destination in L or S. -/
def dst (t : Tensor) : Bool := t.okForm && t.inLS && destStrides t.fmt.unit t.dims
end Tensor

namespace Machine

/-! ## Forms that Proit accepts -/

/-- FP32, BF16 or FP16. -/
def isWideFp (f : Fmt) : Bool := f == .fp32 || f == .bf16 || f == .fp16
/-- The formats of SSE keys (R301). -/
def isKeyFmt (f : Fmt) : Bool := !f.mx
/-- Options of an operation that takes rnd, ovf, seed, idx and tid (R272): seed exactly under sr. -/
def okDone : Option FlagRef → Bool
  | some (.pf _) => false
  | _ => true
def okRnd (r : Rnd) : Bool :=
  match r with
  | .sr n => decide (1 ≤ n) && decide (n ≤ 24)
  | _ => true
def isSr (r : Rnd) : Bool :=
  match r with
  | .sr _ => true
  | _ => false
def optsFull (o : Opts) : Bool := okDone o.done && okRnd o.rnd && o.seed.isSome == isSr o.rnd
def optsNoOvf (o : Opts) : Bool := optsFull o && o.ovf == .sat
/-- An operation that takes none of them. -/
def optsNone (o : Opts) : Bool := okDone o.done && o.rnd == .rne && o.ovf == .sat && o.seed == none && o.idx == .imm 0 && o.tid == .imm 0
def optsOvf (o : Opts) : Bool := optsNone { o with ovf := .sat }
def optsRes (o : Opts) : Bool := optsNone { o with seed := none, idx := .imm 0 }

/-- A's shape is D's shape followed by 1 to 3 reduced extents; a full reduction has D of shape [1] and A of [1, n]. -/
def reduces (d a : Tensor) : Bool :=
  decide (d.shape.length < a.shape.length) && a.shape.take d.shape.length == d.shape
/-- An index tensor (R273). -/
def okIndex (i : Tensor) : Bool := i.src && (i.fmt == .int16 || i.fmt == .int32) && i.shape.length == 1
/-- Shapes of a table, the other operand and the index tensor. -/
def okSelect (m : IMode) (t x i : Tensor) : Bool :=
  match m with
  | .row => x.shape == i.shape ++ t.shape.drop 1 && (!t.fmt.mx || decide (2 ≤ t.shape.length))
  | .flat => x.shape == i.shape && !t.fmt.mx
def isInt32At (d a : Tensor) : Bool := d.fmt == .int32 && d.shape == a.shape
def wideInt (f : Fmt) : Bool := f == .int32 || isWideFp f
def fp8 (f : Fmt) : Bool := f == .e4m3 || f == .e5m2
def isS (t : Tensor) : Bool := t.sp == .s && (t.scale.map (fun x => x.inS)).getD true

/-- The formats and shapes of ten.mma (R306 to R308). -/
def okMma (add ta tb : Bool) (tmask : Option Arg) (c a b : Tensor) : Bool :=
  let m := c.shape.getD 0 0
  let n := c.shape.getD 1 0
  let k := if ta then a.shape.getD 0 0 else a.shape.getD 1 0
  let fp : Fmt → Bool := fun f => fp8 f || f.mx || f == .bf16 || f == .fp16
  c.dst && a.src && b.src && isS c && isS a && isS b && !c.fmt.mx &&
  c.shape.length == 2 && a.shape == (if ta then [k, m] else [m, k]) && b.shape == (if tb then [n, k] else [k, n]) &&
  decide (m ≤ 16384) && decide (n ≤ 16384) && decide (k ≤ 65536) &&
  ((fp a.fmt && fp b.fmt && (isWideFp c.fmt || (!add && fp8 c.fmt))) || (a.fmt == .int8 && b.fmt == .int8 && wideInt c.fmt)) &&
  (tmask.isNone || b.shape.all (fun x => x % 32 == 0))

/-- The pairings of fde.move (R314). -/
def movePair (a b : Space) : Bool :=
  let near : Space → Bool := fun x => x == .l || x == .s
  let far : Space → Bool := fun x =>
    match x with
    | .h => true | .f _ => true | .lOf _ => true | .sOf _ => true | _ => false
  let hf : Space → Bool := fun x =>
    match x with
    | .h => true | .f _ => true | _ => false
  (near a && (near b || far b)) || (far a && near b) || (a == .h && hf b) || (hf a && b == .h)
/-- Forms of an fde.move that copies (R273, R314, R315). -/
def okMove (d a : Tensor) (idx : Option FdeIdx) : Bool :=
  match idx with
  | none => d.okForm && a.okForm && destStrides d.fmt.unit d.dims && movePair d.sp a.sp && d.fmt == a.fmt && d.elems == a.elems
  | some x =>
    let t := if x.read then a else d
    let y := if x.read then d else a
    d.okForm && a.okForm && destStrides d.fmt.unit d.dims && y.inLS && movePair t.sp y.sp && d.fmt == a.fmt && okIndex x.ix && okSelect x.mode t y x.ix

/-- Does Proit accept the operation with these options? A pair form may name sr; the device refuses it (R295). An
fde.move that names a stream contributes to a rope, receives from one, arrives at a barrier (R346), or hands over a
selection record (R369). -/
def okEng (op : EngOp) (o : Opts) : Bool :=
  match op with
  | .vreSum _ d a => d.dst && a.src && reduces d a && optsFull o
  | .vreDot _ d a b => d.dst && a.src && b.src && reduces d a && b.shape == a.shape && optsFull o
  | .vreAxpy _ d x y => d.dst && x.src && y.src && d.shape == x.shape && d.shape == y.shape && optsFull o
  | .vreMin d a => d.dst && a.src && reduces d a && d.fmt == a.fmt && !d.fmt.mx && optsFull o
  | .vreMax d a => d.dst && a.src && reduces d a && d.fmt == a.fmt && !d.fmt.mx && optsFull o
  | .vreSumPair _ dh dl a => dh.dst && dl.dst && a.src && reduces dh a && dl.shape == dh.shape && dl.fmt == dh.fmt && isWideFp dh.fmt && optsFull o
  | .vreDotPair _ dh dl a b =>
    dh.dst && dl.dst && a.src && b.src && reduces dh a && b.shape == a.shape && dl.shape == dh.shape && dl.fmt == dh.fmt && isWideFp dh.fmt && optsFull o
  | .gseGather m _ d t i => d.dst && t.src && okIndex i && d.fmt == t.fmt && okSelect m t d i && optsNone o
  | .gseScatter m _ t x i => t.dst && x.src && okIndex i && x.fmt == t.fmt && okSelect m t x i && optsNone o
  | .gseScatadd m _ t x i => t.dst && x.src && okIndex i && wideInt t.fmt && okSelect m t x i && optsFull o
  | .sseSort _ dk dp key => dk.dst && dp.dst && key.src && isKeyFmt key.fmt && dk.fmt == key.fmt && dk.shape == key.shape && isInt32At dp key && optsNone o
  | .sseTopk _ _ dv dp key =>
    dv.dst && dp.dst && key.src && isKeyFmt key.fmt && dv.fmt == key.fmt && dv.shape.dropLast == key.shape.dropLast &&
    dv.shape.length == key.shape.length && isInt32At dp dv && optsNone o
  | .sseSelect d m a b =>
    d.dst && m.src && a.src && b.src && m.fmt == .int8 && m.shape == d.shape && a.shape == d.shape && b.shape == d.shape && a.fmt == d.fmt &&
    b.fmt == d.fmt && isKeyFmt d.fmt && optsNone o
  | .sseCompact _ d a m => d.dst && a.src && m.src && m.fmt == .int8 && m.shape == a.shape && d.shape.length == 1 && d.fmt == a.fmt && isKeyFmt a.fmt && optsNone o
  | .sseFilter _ _ _ d a => d.dst && a.src && d.shape.length == 1 && d.fmt == a.fmt && isKeyFmt a.fmt && optsNone o
  | .sseDedup _ d dp a => d.dst && dp.dst && a.src && d.shape.length == 1 && isInt32At dp d && d.fmt == a.fmt && isKeyFmt a.fmt && optsNone o
  | .sseHist _ _ d a => d.dst && a.src && a.fmt.isInt && d.fmt == .int32 && d.shape.length == 1 && decide (d.elems ≤ 65536) && optsNone o
  | .tenMma add ta tb tm c a b => okMma add ta tb tm c a b && optsFull o
  | .cdcCvt d a => d.dst && a.src && d.shape == a.shape && optsFull o
  | .cdcMxq d a => d.dst && a.src && d.fmt.mx && d.shape == a.shape && optsNoOvf o
  | .cdcUnpack d a => d.dst && a.src && a.fmt.mx && d.fmt == .int8 && d.shape == a.shape && optsNone o
  | .cdcPack d a => d.dst && a.src && d.fmt.mx && a.fmt == .int8 && d.shape == a.shape && optsNone o
  | .cdcSpx _ d v m => d.dst && v.src && m.src && m.fmt == .int8 && m.shape == [(d.elems + 7) / 8] && m.strides == [1] && v.shape.length == 1 && v.fmt == d.fmt && !d.fmt.mx && optsNone o
  | .cdcSpc _ v m a => v.dst && m.dst && a.src && m.fmt == .int8 && m.shape == [(a.elems + 7) / 8] && m.strides == [1] && v.shape.length == 1 && v.fmt == a.fmt && !a.fmt.mx && optsNone o
  | .cdcSplit dh dl a => dh.dst && dl.dst && a.src && dh.shape == a.shape && dl.shape == a.shape && dl.fmt == dh.fmt && isWideFp dh.fmt && optsOvf o
  | .cdcCrc _ _ a => a.src && optsNone o
  | .cdcRes _ a => a.src && optsRes o
  | .cdcCrcChk _ a _ => a.src && optsNone o
  | .cdcResChk a _ => a.src && optsRes o
  | .fdeMove p d a idx _ opw chunk =>
    optsNone o &&
    (match p, d, a with
     | none, some x, some y => opw.isNone && chunk.isNone && okMove x y idx
     | some (.rope _), none, none => opw.isSome && chunk.isNone && idx.isNone
     | some (.rope _), some x, none => opw.isSome && chunk.isSome && idx.isNone && x.dst && !x.fmt.mx
     | some (.rope _), none, some y => opw.isSome && chunk.isSome && idx.isNone && y.src && !y.fmt.mx
     | some (.gate _), none, some y =>
       opw.isNone && chunk.isNone && idx.isNone && y.src && y.sp == .s && y.fmt == .int8 && y.shape == [64] && y.strides == [1]
     | _, _, _ => false)
  | .fdePut _ _ _ _ => optsNone o
  | .fdeAmo _ _ _ b fn _ _ _ _ _ => optsNone o && b.isSome == (fn.val == 7)

/-! ## Registers an operation reads (R270) -/

/-- The tensor operands of an operation: destinations, and sources, tables and index tensors. -/
def engDsts : EngOp → List Tensor
  | .vreSum _ d _ => [d]
  | .vreDot _ d _ _ => [d]
  | .vreAxpy _ d _ _ => [d]
  | .vreMin d _ => [d]
  | .vreMax d _ => [d]
  | .vreSumPair _ dh dl _ => [dh, dl]
  | .vreDotPair _ dh dl _ _ => [dh, dl]
  | .gseGather _ _ d _ _ => [d]
  | .gseScatter _ _ t _ _ => [t]
  | .gseScatadd _ _ t _ _ => [t]
  | .sseSort _ dk dp _ => [dk, dp]
  | .sseTopk _ _ dv dp _ => [dv, dp]
  | .sseSelect d _ _ _ => [d]
  | .sseCompact _ d _ _ => [d]
  | .sseFilter _ _ _ d _ => [d]
  | .sseDedup _ d dp _ => [d, dp]
  | .sseHist _ _ d _ => [d]
  | .tenMma _ _ _ _ c _ _ => [c]
  | .cdcCvt d _ => [d]
  | .cdcMxq d _ => [d]
  | .cdcUnpack d _ => [d]
  | .cdcPack d _ => [d]
  | .cdcSpx _ d _ _ => [d]
  | .cdcSpc _ v m _ => [v, m]
  | .cdcSplit dh dl _ => [dh, dl]
  | .fdeMove _ d _ _ _ _ _ => d.toList
  | _ => []
def engSrcs : EngOp → List Tensor
  | .vreSum _ _ a => [a]
  | .vreDot _ _ a b => [a, b]
  | .vreAxpy _ _ x y => [x, y]
  | .vreMin _ a => [a]
  | .vreMax _ a => [a]
  | .vreSumPair _ _ _ a => [a]
  | .vreDotPair _ _ _ a b => [a, b]
  | .gseGather _ _ _ t i => [t, i]
  | .gseScatter _ _ _ x i => [x, i]
  | .gseScatadd _ _ _ x i => [x, i]
  | .sseSort _ _ _ key => [key]
  | .sseTopk _ _ _ _ key => [key]
  | .sseSelect _ m a b => [m, a, b]
  | .sseCompact _ _ a m => [a, m]
  | .sseFilter _ _ _ _ a => [a]
  | .sseDedup _ _ _ a => [a]
  | .sseHist _ _ _ a => [a]
  | .tenMma _ _ _ _ _ a b => [a, b]
  | .cdcCvt _ a => [a]
  | .cdcMxq _ a => [a]
  | .cdcUnpack _ a => [a]
  | .cdcPack _ a => [a]
  | .cdcSpx _ _ v m => [v, m]
  | .cdcSpc _ _ _ a => [a]
  | .cdcSplit _ _ a => [a]
  | .cdcCrc _ _ a => [a]
  | .cdcRes _ a => [a]
  | .cdcCrcChk _ a _ => [a]
  | .cdcResChk a _ => [a]
  | .fdeMove _ _ a idx _ _ _ => a.toList ++ (idx.map (fun x => x.ix)).toList
  | _ => []
/-- Scalar registers and register-based arguments of an operation beside its tensors. -/
def engScalars : EngOp → List (Fin 32)
  | .vreAxpy a _ _ _ => [a]
  | .sseFilter _ thr _ _ _ => [thr]
  | .cdcCrc _ i _ => i.toList
  | .cdcCrcChk i _ se => i.toList ++ [se]
  | .cdcResChk _ se => [se]
  | .fdeMove _ _ _ _ _ w c => w.toList ++ c.toList
  | .fdePut _ a _ _ => [a]
  | .fdeAmo _ _ a b _ _ _ _ _ _ => a :: b.toList
  | _ => []
def engArgs : EngOp → List Arg
  | .sseTopk _ k _ _ _ => [k]
  | .tenMma _ _ _ tm _ _ _ => tm.toList
  | .fdeMove p _ _ _ fl _ _ => fl :: (match p with | some (.rope c) => [c] | some (.gate c) => [c] | some (.expert c) => [c] | _ => [])
  | .fdePut x _ fl _ => [x.feid, x.off, fl]
  | .fdeAmo _ x _ _ _ _ _ _ _ fl => [x.feid, x.off, fl]
  | _ => []
def tensorArgs (t : Tensor) : List Arg :=
  t.base :: ((t.scale.map (fun x => x.base)).toList ++ (match t.sp with | .f x => [x] | _ => []))
/-- Every scalar register an instruction reads at issue. -/
def engReads (op : EngOp) (o : Opts) : List Nat :=
  ((engDsts op ++ engSrcs op).flatMap tensorArgs ++ engArgs op ++ [o.idx, o.tid]).flatMap State.argRegs ++
  (engScalars op ++ o.seed.toList).map (fun r => r.val)

/-! ## Start checks (R284) -/

/-- A value a register or an immediate gives, and the first value beyond its range. -/
def tooBig (l : List (Nat × Nat)) : Option Nat := (l.find? (fun p => decide (p.2 ≤ p.1))).map (fun p => p.1)

/-- A base that is not aligned to the operand's elements. -/
def misaligned (c : Ctx) (ts : List Tensor) : Option Nat :=
  (ts.find? (fun t => !t.fmt.mx && c.arg t.base % t.fmt.bytes != 0)).map (fun t => c.arg t.base)

/-- IEEE overflow toward a format without infinities, and stochastic rounding of a pair (R214, R295). -/
def badMode (c : Ctx) (op : EngOp) : Option Nat :=
  let rounds := match op with
    | .vreSum _ d _ => [d]
    | .vreDot _ d _ _ => [d]
    | .vreAxpy _ d _ _ => [d]
    | .vreMin d _ => [d]
    | .vreMax d _ => [d]
    | .vreSumPair _ d _ _ => [d]
    | .vreDotPair _ d _ _ _ => [d]
    | .gseScatadd _ _ d _ _ => [d]
    | .tenMma _ _ _ _ d _ _ => [d]
    | .cdcCvt d _ => [d]
    | .cdcSplit d _ _ => [d]
    | _ => []
  let pair := match op with
    | .vreSumPair _ _ _ _ => true
    | .vreDotPair _ _ _ _ _ => true
    | _ => false
  if c.o.ovf == .ieee && rounds.any (fun d => !d.fmt.hasInf && !d.fmt.isInt) then some 1
  else match pair, c.o.rnd with
    | true, .sr n => some n
    | _, _ => none

/-- A breach of the rules of kept sets (R297): the number of outputs. -/
def badKept (s : State) (k : Nat) (acc : AccOpt) (n : Nat) (ins : List Tensor) : Option Nat :=
  let kept := (s.cst k).kept
  let wide := wideOf ins || ((kept.map (fun x => x.wide)).getD false && acc != .begin)
  let cap := if wide then 64 else 128
  match acc with
  | .none => none
  | .begin => if cap < n then some n else none
  | _ => (match kept with
    | none => some n
    | some x => if x.accs.length != n || cap < n then some n else none)

/-- Order 1 of R284: the offending value. -/
def rejects (s : State) (c : Ctx) (op : EngOp) : Option Nat :=
  let ts := engDsts op ++ engSrcs op
  let feids := ts.filterMap (fun t => match t.sp with | .f x => some (c.arg x, 2 ^ 18) | _ => none)
  let offs := ts.filterMap (fun t => match t.sp with | .f _ => some (c.arg t.base, 2 ^ 52) | _ => none)
  let vals := match op with
    | .sseTopk _ k dv _ key =>
      [(c.arg k, key.shape.getLastD 1 + 1), (c.arg k, 1025), (c.arg k, dv.shape.getLastD 1 + 1)] ++
      (if c.arg k = 0 || c.arg k < dv.shape.getLastD 1 then [(c.arg k, 0)] else [])
    | .fdeMove p _ _ _ fl _ _ =>
      (c.arg fl, 2 ^ 20) :: (match p with | some (.rope x) => [(c.arg x, 2 ^ 14)] | some (.gate x) => [(c.arg x, 2 ^ 14)] | _ => [])
    | .fdePut x _ fl _ => [(c.arg x.feid, 2 ^ 18), (c.arg x.off, 2 ^ 52), (c.arg fl, 2 ^ 20)]
    | .fdeAmo _ x _ _ _ _ _ _ _ fl => [(c.arg x.feid, 2 ^ 18), (c.arg x.off, 2 ^ 52), (c.arg fl, 2 ^ 20)]
    | _ => []
  let kept := match op with
    | .vreSum acc d a => badKept s c.k acc d.elems [a]
    | .vreDot acc d a b => badKept s c.k acc d.elems [a, b]
    | .vreSumPair acc d _ a => badKept s c.k acc d.elems [a]
    | .vreDotPair acc d _ a b => badKept s c.k acc d.elems [a, b]
    | _ => none
  (misaligned c ts).or ((tooBig ([(c.arg c.o.idx, 2 ^ 48), (c.arg c.o.tid, 2 ^ 32)] ++ feids ++ offs ++ vals)).or ((badMode c op).or kept))

/-- The lowest address of an extent outside its L or S (R259, R269). -/
def outside (s : State) (k : Nat) (e : Space × Int × Int) : List Int :=
  let lo : Int := if e.1 == .s then 0x1000000 else 0
  let hi : Int := if e.1 == .s then 0x2800000 else ((s.cst k).ldata : Int)
  if e.1 == .l || e.1 == .s then (if e.2.1 < lo then [e.2.1] else if hi < e.2.2 then [max hi e.2.1] else []) else []
/-- Extents of an operand and its scale array. -/
def extents (c : Ctx) (ts : List Tensor) : List (Space × Int × Int) := ts.flatMap (fun t => c.extent t :: c.scaleExtent t)
/-- Extent of a tile mask (R308). -/
def maskExtent (c : Ctx) (op : EngOp) : List (Space × Int × Int) :=
  match op with
  | .tenMma _ _ _ (some m) _ _ b =>
    [(.s, (c.arg m : Int), (c.arg m : Int) + ((b.shape.getD 0 1 / 32 * (b.shape.getD 1 1 / 32) + 7) / 8 : Nat))]
  | _ => []
/-- An address of an extent modulo 2^64. -/
def wrapAddr (i : Int) : Nat := (i % (2 : Int) ^ 64).toNat
/-- Order 3 of R284. -/
def scratchBad (s : State) (c : Ctx) (op : EngOp) : Option Nat :=
  let l := (extents c (engDsts op ++ engSrcs op) ++ maskExtent c op).flatMap (outside s c.k)
  match l with
  | [] => none
  | x :: t => some (wrapAddr (t.foldl min x))
/-- Order 4 of R284: the first offset of an H extent that lies in no pool. -/
def hBad (s : State) (c : Ctx) (op : EngOp) : Option Nat :=
  let h := s.coreH c.k
  ((engDsts op ++ engSrcs op).filterMap (fun t =>
    if t.sp != .h then none else
    let e := c.extent t
    if e.2.1 < 0 then some (wrapAddr e.2.1)
    else
      let lo := e.2.1.toNat
      let hi := e.2.2.toNat
      if (s.hRange h lo (hi - lo)).isSome then none
      else (List.range 65).foldl (fun (x : Option Nat × Nat) _ =>
        if x.1.isSome then x else
        match s.poolOf h x.2 with
        | none => (some x.2, x.2)
        | some q => (none, s.rf (POOL_HBASE.V q) + s.rf (POOL_PAGES.V q) * 4096)) (none, lo) |>.1)).head?
/-- The start checks: status, unit and CRX_CORE_FAULT_ADDR of the first that fails. -/
def startCheck (s : State) (c : Ctx) (eng : Nat) (op : EngOp) : Option (Nat × Nat × Nat) :=
  match rejects s c op with
  | some v => some (stREJECT, 0, v)
  | none => match scratchBad s c op with
    | some a => some (stDENIED, eng, a)
    | none => (hBad s c op).map (fun a => (stDENIED, eng, a))

end Machine
end Sys2Proof
end

