-- ==== Sys2Proof/Machine/StoreBase.lean ====
section
/-! DEFINITION. How a store engine streams a block: BLOCK frames, and blocks read from the overflow tier
(spec/13_conditional_compute.md R362, R363, R380). -/
namespace Sys2Proof.Machine
namespace State

/-- The word 3 of a FETCH or BLOCK frame (R363). -/
def blockWord (block origin : Nat) : Nat := block % 2 ^ 32 + origin % 2 ^ 18 * 2 ^ 32
/-- A frame of KIND EXPERT that the store engine of crux die `die` sends in C3 (R362). -/
def storeFrame (s : State) (die ctx h op dst block origin seq frag : Nat) (first last : Bool) (status : Nat) (bs : List Byte) : State :=
  s.send die (FrameSpec.make
   { cls := 3, kind := 4, dst := dst, src := s.feidOfDevice s.devIndex, harness := h, op := op, flow := ctx * 64 % 2 ^ 20, seq := seq,
     frag := frag, first := first, last := last, ctx := ctx, addr := blockWord block origin, time := s.now, status := status, payload := bs })
/-- A block goes to ORIGIN as BLOCK frames of 4,096 bytes; `pieces`: status and bytes of each. -/
def streamBlock (s : State) (die ctx h block origin seq : Nat) (pieces : List (Nat × List Byte)) : State :=
  (List.range pieces.length).foldl (fun t i =>
    let p := pieces.getD i (0, [])
    (t.storeFrame die ctx h 4 origin block origin seq i (i == 0) (i + 1 == pieces.length) p.1 p.2).inc (CRX_CNT_STORE_BLOCK.V die)) s

/-- The answers an overflow read has so far, in order; none where one is missing. -/
def ovfAnswers (s : State) (o : OvfRead) : Option (List (Nat × List Byte)) :=
  let l := o.parts.map (fun p => (s.mfb.coreRsp.find? (fun r => r.core == 512 + o.die && r.no == p.no)).map (fun r =>
    (r.status, padTo p.len 0xFF#8 r.data)))
  if l.all (fun x => x.isSome) then some (l.filterMap (fun x => x)) else none
/-- Overflow blocks whose LOADs have all been answered are streamed (R380). -/
def pumpOvf (s : State) : State :=
  s.gate.ovf.foldl (fun t o =>
    match t.ovfAnswers o with
    | none => t
    | some ps =>
      let nos := o.parts.map (fun p => p.no)
      let t1 := t.withGate { t.gate with ovf := t.gate.ovf.erase o }
      let t2 := t1.withMfb { t1.mfb with coreRsp := t1.mfb.coreRsp.filter (fun r => !(r.core == 512 + o.die && nos.contains r.no)) }
      t2.streamBlock o.die o.ctx o.h o.block o.origin o.seq ps) s

end State
end Sys2Proof.Machine
end

