-- ==== Sys2Proof/Machine/Tables.lean ====
section
/-! DEFINITION. The commands of spec/03_forwarding.md: held frames, steering, direction maps, forwarding tables,
queue and hold limits, and the refusals of the forwarding and mirror registers. -/
namespace Sys2Proof.Machine

namespace State

/-- The RWL fields are locked (R8, R506). -/
def locked (s : State) : Bool := s.rb HUB_PLANE.LOCKED

/-! ## Forwarding tables (R72, R89, R93, R98, R99) -/

def tblSize (t : Nat) : Nat := if t = 0 then 262144 else if t = 1 then 16384 else if t = 2 then 16384 else 1536

/-- INDEX, or WORD then INDEX, advances under AUTOINC (R98). -/
def tblAdvance (s : State) (n : Nat) : State :=
  if !s.rb (FWD_TBL_CTL.AUTOINC n) then s
  else if s.rf (FWD_TBL_CTL.TABLE n) = 1 && s.rf (FWD_TBL_CTL.WORD n) = 0 then s.wf (FWD_TBL_CTL.WORD n) 1
  else (s.wf (FWD_TBL_CTL.WORD n) 0).wf (FWD_TBL_CTL.INDEX n) (s.rf (FWD_TBL_CTL.INDEX n) + 1)

/-- One crux die's copy of an entry word written. Word 0 of a group is staged; word 1 applies both (R89). -/
def tblPut (s : State) (n t i w : Nat) (v : Word) : State :=
  let f := s.fwd
  let z : Nat → Word := fun _ => 0#64
  let f1 := match t, w with
    | 0, _ => { f with feid := sparseSet z f.feid (n * 262144 + i) v }
    | 1, 0 => { f with mstage := sparseSet z f.mstage (n * 16384 + i) v }
    | 1, _ => { f with mcast0 := sparseSet z f.mcast0 (n * 16384 + i) (sparseGet z f.mstage (n * 16384 + i)),
                       mcast1 := sparseSet z f.mcast1 (n * 16384 + i) v }
    | _, _ => { f with home := sparseSet z f.home (n * 16384 + i) v }
  s.withFwd { f1 with tblBad := f1.tblBad.filter (fun k => k != tblKey t n i) }

/-- A write of FWD_TBL_DATA (R99). -/
def writeTbl (s : State) (src : Src) (n : Nat) (v : Word) : State :=
  let t := s.rf (FWD_TBL_CTL.TABLE n)
  let i := s.rf (FWD_TBL_CTL.INDEX n)
  let w := s.rf (FWD_TBL_CTL.WORD n)
  let all := s.rb (FWD_TBL_CTL.ALL n)
  if t == 3 || decide (tblSize t ≤ i) || (all && t == 1 && w == 1) then s.reject src (FWD_TBL_DATA.a n)
  else
    let s1 := if all then (List.range 16).foldl (fun u m => u.tblPut m t i w v) s else s.tblPut n t i w v
    s1.tblAdvance n

/-- The value a read of FWD_TBL_DATA returns. -/
def tblValue (s : State) (n : Nat) : Word :=
  let i := s.rf (FWD_TBL_CTL.INDEX n)
  match s.rf (FWD_TBL_CTL.TABLE n) with
  | 0 => s.feidRaw n i
  | 1 => s.mcastWord n i (s.rf (FWD_TBL_CTL.WORD n))
  | 2 => s.homeRaw n i
  | _ => Word.ofN (s.dirEntry n (i / 256) (i % 256))

/-- A read of FWD_TBL_DATA (R99). -/
def readTbl (s : State) (src : Src) (n : Nat) : State :=
  if tblSize (s.rf (FWD_TBL_CTL.TABLE n)) ≤ s.rf (FWD_TBL_CTL.INDEX n) then
    (s.hacc src 0 (FWD_TBL_DATA.a n) false stREJECT).emit (.regData 0)
  else (s.emit (.regData (s.tblValue n))).tblAdvance n

/-! ## Limits (R85, R99) -/

/-- The limits of a crux die: every queue and every hold pool (R85). -/
def limitSum (s : State) (n : Nat) : Nat :=
  ((List.range 72).map (fun q => s.rf (FWD_HOLD_CFG.HOLD_CELLS n q) +
    ((List.range 8).map (fun c => s.rf (FWD_QLIMIT.CELLS n q c))).sum)).sum

/-- A write of an RWL register, all of whose writable bits are RWL: refused with DENIED where it is locked and the
value would change (R8). -/
def rwlWrite (s : State) (src : Src) (a : Nat) (old new : Nat) (k : State → State) : State :=
  if s.locked then (if old = new then s else s.hacc src 0 a true stDENIED) else k s

def writeQlimit (s : State) (src : Src) (n q c : Nat) (v : Word) : State :=
  let x := FWD_QLIMIT.CELLS n q c
  s.rwlWrite src x.a (s.rf x) (v.field 0 20) (fun t =>
    if 393216 < t.limitSum n - t.rf x + v.field 0 20 + 18432 then t.reject src x.a else t.wf x (v.field 0 20))

def writeHoldCfg (s : State) (src : Src) (n q : Nat) (v : Word) : State :=
  let a := FWD_HOLD_CFG.a n q
  let cells := v.field 0 12
  let lim := if q < 48 then 34 else 102
  s.rwlWrite src a ((s.reg a).field 0 36) (v.field 0 36) (fun t =>
    if v.field 24 12 < v.field 12 12 && decide (v.field 12 12 + lim < cells) &&
       decide (t.limitSum n - t.rf (FWD_HOLD_CFG.HOLD_CELLS n q) + cells + 18432 ≤ 393216)
    then t.setReg a (Word.ofN (v.field 0 36)) else t.reject src a)

/-- FWD_ROUTE_CFG of class `c` (R78, R98). -/
def writeRouteCfg (s : State) (src : Src) (n c : Nat) (v : Word) : State :=
  let a := FWD_ROUTE_CFG.a n c
  if v.field 0 2 == 3 || (c == 0 && v.field 0 2 != 0) then s.reject src a else s.setReg a (Word.ofN (v.field 0 10))

/-- Mirror session registers (R95, R97). Setting a session starts its counting of frames afresh. -/
def writeMirCtl (s : State) (src : Src) (m : Nat) (v : Word) : State :=
  let a := TEL_MIR_CTL.a m
  if v.field 0 2 == 3 || v.field 3 2 == 3 then s.reject src a
  else (s.setReg a (Word.ofN (v.field 0 51))).withFwd { s.fwd with mirN := eraseKey s.fwd.mirN m }
def writeMirLog2 (s : State) (src : Src) (m : Nat) (v : Word) : State :=
  let a := TEL_MIR_RING_LOG2.a m
  if v.field 0 6 < 16 || 34 < v.field 0 6 then s.reject src a else s.setReg a (Word.ofN (v.field 0 6))

/-! ## Direction maps (R77, R81) -/

/-- One die's copy after torus port `t` ceased to be eligible, or became eligible again; the entries rewritten are
counted. Entries that named other ports while the direction had no eligible port are rewritten once it has one again. -/
def rewriteDie (s : State) (t n : Nat) : State :=
  let d := t % 24 / 4
  let es := s.eligiblePorts d
  let up := s.eligible (768 + t)
  let change : Nat → Option Nat := fun i =>
    if up then (if dirHome d i = t then (if s.dirEntry n d i != t then some t else none)
      else if s.eligible (768 + s.dirEntry n d i) then none else some (nth es (i % es.length)))
    else if s.dirEntry n d i = t && !es.isEmpty then some (nth es (i % es.length)) else none
  let is := (List.range 256).filter (fun i => (change i).isSome)
  let m := is.foldl (fun l i => sparseSet (fun k => dirHome (k % 1536 / 256) (k % 256)) l (n * 1536 + d * 256 + i)
    ((change i).getD t)) s.fwd.dirMap
  (s.withFwd { s.fwd with dirMap := m }).count (FWD_CNT_REROUTE.V n) is.length

/-- Frames queued for a torus port that is not eligible move to the ports their map entries now name, in order; so do the
frames held at their ingress for it. -/
def moveQueued (s : State) (t : Nat) : State :=
  if s.eligible (768 + t) then s else
  let P := 768 + t
  let n := dieOf P
  let d := t % 24 / 4
  let mv : Queued → Queued := fun x =>
    if x.P = P then { x with P := 768 + s.dirEntry n d (s.flowHash n x.frame % 256), tracked := false } else x
  let mh : HeldIn → HeldIn := fun x => { x with dests := x.dests.map (fun p =>
    if p == .port P then .port (768 + s.dirEntry n d (s.flowHash n x.frame % 256)) else p) }
  (s.withFwd { s.fwd with queues := s.fwd.queues.map mv, holds := s.fwd.holds.map mh,
                          place := s.fwd.place.filter (fun x => x.1 != P) }).emptyPort P

/-- Every crux die rewrites its maps for torus port `t`, and the queued frames move (R81). -/
def mapRewrite (s : State) (t : Nat) : State :=
  ((List.range 16).foldl (fun u n => u.rewriteDie t n) s).moveQueued t

/-! ## Held and steered frames (R86, R91, R94) -/

/-- Offer the oldest held frame of an ingress and class to the places that have not taken it. -/
def admitHeld (s : State) (P : Option Nat) (c : Nat) (bw : Bool) : State :=
  match s.fwd.holds.find? (fun x => x.P == P && x.cls == c) with
  | none => s
  | some x =>
    let n := match P with | some p => dieOf p | none => 0
    let rest := s.fwd.holds.eraseP (fun y => y.P == P && y.cls == c)
    let answer : Frame → State → State := fun a t => forwardF 2 n .inside true a t
    let s1 := s.withFwd { s.fwd with holds := rest }
    let r := offerAll answer n x.frame P bw x.cut x.dests s1
    if r.2.isEmpty then (match P with | some p => r.1.xoffClear p c | none => r.1)
    else r.1.withFwd { r.1.fwd with holds := { x with dests := r.2 } :: r.1.fwd.holds }

/-- The oldest frame of a steering or hub queue lands, its checks of R47 made first; one that fails is discarded. -/
def land (s : State) (p : Place) : State :=
  match s.fwd.steer.find? (fun x => x.place == p) with
  | none => s
  | some x =>
    let s1 := s.withFwd { s.fwd with steer := s.fwd.steer.eraseP (fun y => y.place == p) }
    if x.frame.bad then s1
    else if x.frame.checksOk then s1.withFwd { s1.fwd with inbox := s1.fwd.inbox ++ [x] }
    else s1.frameCrcFault p x.frame

end State

/-- A held frame is admitted (R86, R91); `P` none: a frame waiting in the cluster or hub that sent it. -/
def execHeldFrameAdmit (P : Option (Fin 1152)) (c : Fin 8) (bw : Bool) (s : State) : Res :=
  unheld s (s.admitHeld (P.map (fun x => x.val)) c bw)

/-- A steered frame lands in the S of a cluster (R94). -/
def execSteerLand (c : Fin 64) (s : State) : Res := unheld s (s.land (.cluster c))

/-- The direction maps follow torus port `t` (R81). -/
def execDirectionMapRewrite (t : Fin 384) (s : State) : Res := unheld s (s.mapRewrite t)

/-- A write of FWD_TBL_DATA on crux die `n` (R99). -/
def execFwdTblWrite (src : Src) (n : Fin 16) (v : Word) (s : State) : Res :=
  unheld s (s.guardWrite src (FWD_TBL_DATA.a n) (fun t => t.writeTbl src n v))

/-- A read of FWD_TBL_DATA on crux die `n` (R99). -/
def execFwdTblRead (src : Src) (n : Fin 16) (s : State) : Res :=
  unheld s (if s.boot.held then s else match s.accessFails src (FWD_TBL_DATA.a n) with
    | some st => (s.hacc src 0 (FWD_TBL_DATA.a n) false st).emit (.regData 0)
    | none => s.readTbl src n)

/-- A write of FWD_QLIMIT (R85). -/
def execQueueLimitWrite (src : Src) (n : Fin 16) (q : Fin 72) (c : Fin 8) (v : Word) (s : State) : Res :=
  unheld s (s.guardWrite src (FWD_QLIMIT.a n q c) (fun t => t.writeQlimit src n q c v))

/-- A write of FWD_HOLD_CFG (R85, R99). -/
def execHoldCfgWrite (src : Src) (n : Fin 16) (q : Fin 72) (v : Word) (s : State) : Res :=
  unheld s (s.guardWrite src (FWD_HOLD_CFG.a n q) (fun t => t.writeHoldCfg src n q v))

end Sys2Proof.Machine
end

