-- ==== Sys2Proof/Machine/Fabric.lean ====
section
/-! DEFINITION. The memory fabric: carabiners, checks, device memory, anchored requests, atomics and combining, repeat
records, responses, timeouts (spec/05_memory_fabric.md; R47, R165, R319, R444, R446, R515, R520). -/
namespace Sys2Proof.Machine

/-! ## Carabiner words (R133) -/
def carRd (w : Word) : Bool := w.field 2 1 == 1
def carWr (w : Word) : Bool := w.field 3 1 == 1
def carAt (w : Word) : Bool := w.field 4 1 == 1
def carLog2 (w : Word) : Nat := w.field 5 6
def carHarness (w : Word) : Nat := w.field 11 12
def carFeid (w : Word) : Nat := w.field 23 18
def carV (w : Word) : Nat := w.field 0 40
def carT (w : Word) : Nat := w.field 0 52
/-- Words of one region overlap another's (same HARNESS and FEID). -/
def carOverlap (a0 a1 b0 b1 : Word) : Bool :=
  carHarness a0 == carHarness b0 && carFeid a0 == carFeid b0 &&
  decide (carV a1 < carV b1 + 2 ^ (carLog2 b0 - 12)) && decide (carV b1 < carV a1 + 2 ^ (carLog2 a0 - 12))
/-- Check 1 of R135. -/
def carWellFormed (w0 w1 w2 : Word) : Bool :=
  w0.field 0 1 == 1 && decide (12 ≤ carLog2 w0) && decide (carLog2 w0 ≤ 40) &&
  carV w1 % 2 ^ (carLog2 w0 - 12) == 0 && carT w2 % 2 ^ (carLog2 w0 - 12) == 0
/-- The hash of a carabiner key (R135). -/
def carHash (seed addr lg h feid : Nat) : Nat :=
  let k0 := (addr / 4096 / 2 ^ (lg - 12)) ||| lg * 2 ^ 40 ||| h * 2 ^ 46
  crcReg seed (bytesLE 8 k0 ++ bytesLE 8 feid)

/-! ## Atomic operations (R143, R144) -/
def atFn (op : Nat) : Nat := op % 8
def atWidth (op : Nat) : Nat := if op / 8 % 2 = 1 then 64 else 32
def atSigned (op : Nat) : Bool := op / 16 % 2 == 1
def atOrdered (op : Nat) : Bool := op / 32 % 2 == 1
def isAtomic (f : Frame) : Bool := decide (0x40 ≤ f.op) && decide (f.op ≤ 0x7F)
/-- Is `a` below `b` at the width and signedness of the operation? -/
def atLess (op a b : Nat) : Bool :=
  let w := atWidth op
  if atSigned op then decide ((a + 2 ^ (w - 1)) % 2 ^ w < (b + 2 ^ (w - 1)) % 2 ^ w) else decide (a < b)
/-- The new value of R144 from memory value `m`, operand `a` and swap value `b`. -/
def atNew (op m a b : Nat) : Nat :=
  let w := atWidth op
  match atFn op with
  | 0 => (m + a) % 2 ^ w
  | 1 => if atLess op a m then a else m
  | 2 => if atLess op m a then a else m
  | 3 => m &&& a
  | 4 => m ||| a
  | 5 => m ^^^ a
  | 6 => a
  | _ => if m = a then b else m
def atOperand (f : Frame) : Nat := leAt f.payload 0 (atWidth f.op / 8)
def atSwap (f : Frame) : Nat := leAt f.payload 8 (atWidth f.op / 8)
/-- Deduplicated: ADD, XOR, SWAP, CAS, unless anchored (R142, R144). -/
def atRecorded (f : Frame) : Bool :=
  !f.anchor && (atFn f.op == 0 || atFn f.op == 5 || atFn f.op == 6 || atFn f.op == 7)

namespace State

/-! ## Lookups (R132, R135) -/

/-- This device's DEVICE FEID: the first VALID DEVICE entry that names it. -/
def deviceFeid (s : State) : Nat :=
  ((s.fwd.feid.find? (fun e => decide (e.1 < 0x3FFC0) && e.2.field 0 1 == 1 && e.2.field 1 1 == 1 && e.2.field 3 6 == s.devIndex)).map
    (fun e => e.1)).getD (0x3FFC0 + s.devIndex)

/-- The carabiner of crux die `n` that covers an address of a target for a harness; die slots are probed first. -/
def carabiner (s : State) (n h feid addr : Nat) : Option Carab :=
  let m : Carab → Bool := fun c => c.die == n && carHarness c.w0 == h && carFeid c.w0 == feid &&
    addr / 2 ^ carLog2 c.w0 == carV c.w1 * 4096 / 2 ^ carLog2 c.w0
  (s.mfb.carabs.find? (fun c => decide (c.slot < 65536) && m c)).or (s.mfb.carabs.find? m)

/-- The translated address (R133). -/
def translated (c : Carab) (addr : Nat) : Nat := carT c.w2 * 4096 + (addr - carV c.w1 * 4096)

/-- Byte count of a request. -/
def reqBytes (f : Frame) : Nat := if f.op = 1 then f.chunk % 8192 else if isAtomic f then atWidth f.op / 8 else f.len

/-- The checks of R134, with FENCED of R515: the status of the first that fails. -/
def memCheckStatus (s : State) (n : Nat) (f : Frame) : Nat :=
  let b := reqBytes f
  if f.harness != 0 && s.rf HUB_FAULT_STS.DEV_STATE == 2 then stFENCED
  else if f.op = 1 && (f.chunk % 8192 = 0 || 4096 < f.chunk % 8192) then stREJECT
  else if (if isAtomic f then f.addr % b != 0 else decide (4096 < f.addr % 4096 + b)) then stDENIED
  else match s.carabiner n f.harness f.dst f.addr with
    | none => stDENIED
    | some c =>
      if s.hrnCopy f.harness != 2 then stDENIED
      else if !(if f.op = 1 then carRd c.w0 else if isAtomic f then carAt c.w0 else carWr c.w0) then stDENIED
      else if c.w0.field 1 1 = 1 then stLOST else stOK

/-- Count and report a request that failed its checks, and answer it (R130, R134). -/
def memRefuse (s : State) (n : Nat) (f : Frame) (st : Nat) : State :=
  let s1 := if st = stLOST then s.inc (MFB_CNT_LOST.V n) else if st = stFENCED then s else s.inc (MFB_CNT_DENIED.V n)
  let s2 := if st = stDENIED then (s1.inc (HRN_CNT_DENIED.V f.harness)).reqReport 0x01 0 stDENIED (unitCrux n) f else s1
  s2.send n (s2.memAnswer f st)

/-- Is the target of a request this device itself? -/
def toDevice (s : State) (n : Nat) (f : Frame) : Bool :=
  match s.feidEntry n f.dst with
  | some e => e.field 1 1 == 1
  | none => false
/-- The endpoint port of a target. -/
def targetPort (s : State) (n : Nat) (f : Frame) : Nat := ((s.feidEntry n f.dst).map (fun e => e.field 9 10)).getD 0

/-- The device address of an H offset of a harness, where `b` bytes from it lie in its H space. -/
def hAddr (s : State) (h o b : Nat) : Option Nat :=
  match s.hRange h o b with
  | some ((a, _) :: _) => some a
  | _ => none

/-- A frame queued for an endpoint port, held where its queue cannot take it. -/
def toPort (s : State) (n P : Nat) (f : Frame) (ingress : Option Nat) : State :=
  s.admitTo (fun a t => forwardF 2 n .inside true a t) n f ingress true false [.port P]

/-- A request translated for its endpoint (R47, R132): checks first, then the address, then a fresh header check. -/
def deliverReq (s : State) (n P : Nat) (f : Frame) (addr : Nat) (ingress : Option Nat) : State :=
  let r := s.egressCheck P f
  r.1.toPort n P ({ r.2 with w3 := Word.ofN addr } : Frame).sealHeader ingress

/-- A response of the given OP to request `f`. -/
def respond (s : State) (n : Nat) (f : Frame) (op status : Nat) (data : List Byte) : State :=
  s.send n (FrameSpec.make
   { cls := 2, kind := 1, dst := f.src, src := f.dst, harness := f.harness, op := op, tag := f.tag, flow := f.flow,
     time := s.now, status := status, payload := data, checkKind := if data.isEmpty then 0 else 1 })

/-! ## Core requests (R151, R316) -/

/-- The answer to a core's request. -/
def coreAnswer (s : State) (k no status : Nat) (data : List Byte) : State :=
  s.withMfb { s.mfb with coreRsp := s.mfb.coreRsp ++ [⟨k, no, status, data⟩] }

def corePending (s : State) (k : Nat) : Nat := (s.mfb.pends.filter (fun p => p.source == 1152 + k)).length

/-- Does an earlier STORE, STORE_QUIET or ATOMIC of the source stand in its pending table (R139)? -/
def earlierWrite (s : State) (source no : Nat) : Bool :=
  s.mfb.pends.any (fun p => p.source == source && decide (p.no < no) && p.frame.op != 1)

/-- A request takes its pending entry and goes to the fabric, or waits in its anchor queue (R139, R151). -/
def take (s : State) (n source no : Nat) (f : Frame) (o : Origin) : State :=
  let wait := f.anchor && s.earlierWrite source no
  let s1 := s.withMfb { s.mfb with pends := s.mfb.pends ++ [⟨no, n, source, f, wait, s.now⟩],
                                   gone := s.mfb.gone.filter (fun g => !(g.1 == f.src && g.2.1 == f.tag)) }
  if wait then s1.inc (MFB_CNT_ANCHOR_WAIT.V n) else forwardF 3 n o true f s1

/-- A request a core makes: it takes a fresh TAG; past 1,024 pending it waits. `no` of the answer it will get. -/
def coreRequest (s : State) (k : Nat) (x : FrameSpec) : Nat × State :=
  let no := s.mfb.next
  let f := FrameSpec.make { x with cls := 1, kind := 1, src := s.deviceFeid, tag := s.mfb.tag, time := s.now }
  let s1 := s.withMfb { s.mfb with next := no + 1, tag := (s.mfb.tag + 1) % 65536 }
  (no, if s1.corePending k < 1024 then s1.take (k / 32) (1152 + k) no f .inside
       else s1.withMfb { s1.mfb with coreWait := s1.mfb.coreWait ++ [(k, no, f)] })

/-- The next waiting request of a core goes out. -/
def coreNext (s : State) (source : Nat) : State :=
  match s.mfb.coreWait.find? (fun w => 1152 + w.1 == source) with
  | some (k, no, f) =>
    (s.withMfb { s.mfb with coreWait := s.mfb.coreWait.filter (fun w => w.2.1 != no) }).take (k / 32) source no f .inside
  | none => s

/-! ## Retiring entries (R139 to R142) -/

/-- An answer the source crux die gives itself. -/
def selfAnswer (s : State) (p : Pend) (st : Nat) : State :=
  let a := s.memAnswer p.frame st
  if 1152 ≤ p.source then s.coreAnswer (p.source - 1152) p.no st a.payload
  else s.toPort p.die p.source a none

/-- Anchored requests that wait on a failed entry are answered with its status and not sent (R141). -/
def anchorFail (s : State) (source no st : Nat) : State :=
  let hit := s.mfb.pends.filter (fun p => p.source == source && p.queued && decide (no < p.no))
  let s1 := s.withMfb { s.mfb with pends := s.mfb.pends.filter (fun p => !(p.source == source && p.queued && decide (no < p.no))) }
  hit.foldl (fun t p => (t.reqReport 0x08 1 st (unitCrux p.die) p.frame).selfAnswer p st) s1

/-- An entry retires with a status. -/
def retire (s : State) (p : Pend) (st : Nat) : State :=
  let s1 := s.withMfb { s.mfb with pends := s.mfb.pends.filter (fun q => q.no != p.no) }
  let s2 := if p.frame.op != 1 && st != stOK && st != stDUPLICATE then s1.anchorFail p.source p.no st else s1
  if 1152 ≤ p.source then s2.coreNext p.source else s2

/-- A response at its source crux die (R154). -/
def response (s : State) (n : Nat) (f : Frame) : State :=
  if f.bad then s else
  match s.mfb.pends.find? (fun p => !p.queued && p.frame.src == f.dst && p.frame.tag == f.tag && p.frame.dst == f.src) with
  | some p =>
    let s1 := s.retire p f.tstatus
    if 1152 ≤ p.source then s1.coreAnswer (p.source - 1152) p.no f.tstatus f.payload
    else if p.frame.op = 3 && f.op = 0x82 && f.tstatus = stOK then s1
    else s1.toPort n p.source f none
  | none =>
    let key := (f.dst, f.tag, f.src)
    if s.mfb.gone.contains key then
      (s.inc (MFB_CNT_LATE_RSP.V n)).withMfb { s.mfb with gone := s.mfb.gone.filter (fun g => g != key) }
    else s.inc (MFB_CNT_STRAY_RSP.V n)

/-! ## Repeat records (R150) -/

def recordOf (s : State) (m : Nat) (f : Frame) : Option Repeat :=
  s.mfb.repeats.find? (fun r => r.die == m && r.src == f.src && r.tag == f.tag)
/-- A repeat answered from a record. -/
def answerRepeat (s : State) (m : Nat) (f : Frame) (a : Nat × Nat) : State :=
  (s.inc (MFB_CNT_DUP.V m)).respond m f 0xC0 (if a.1 = stOK then stDUPLICATE else a.1) (bytesLE 8 a.2)
/-- The record of an original that has begun. -/
def openRecord (s : State) (m : Nat) (f : Frame) : State :=
  if !atRecorded f then s else
  s.withMfb { s.mfb with repeats := s.mfb.repeats ++ [⟨m, f.src, f.tag, f.harness, f.dst, none, []⟩] }
/-- The original has been answered: the record holds its value, and repeats that waited are answered. -/
def closeRecord (s : State) (m src tag target : Nat) (a : Nat × Nat) : State :=
  match s.mfb.repeats.find? (fun r => r.die == m && r.src == src && r.tag == tag && r.target == target && r.answer == none) with
  | none => s
  | some r =>
    let s1 := s.withMfb { s.mfb with repeats := s.mfb.repeats.map (fun q =>
      if q == r then { q with answer := some a, waiting := [] } else q) }
    r.waiting.foldl (fun t f => t.answerRepeat m f a) s1

/-! ## Device memory (R129, R145) -/

/-- An atomic applied to device memory: status and value fetched (R130, R144). -/
def atomicApply (s : State) (h a op x y : Nat) : (Nat × Nat) × State :=
  let b := atWidth op / 8
  let r := s.memRead h [(a, b)]
  if r.2.1 then ((stPOISON, 2 ^ 64 - 1), r.2.2)
  else
    let m := leNat r.1
    ((stOK, m), (s.memWrite h [(a, b)] (bytesLE b (atNew op m x y))).2)

/-! ## Groups (R147 to R149) -/

def groupLine (g : HotGroup) : Nat := g.addr / 64
def putGroup (s : State) (g : HotGroup) : State :=
  s.withMfb { s.mfb with groups := s.mfb.groups.map (fun x => if x.no = g.no then g else x) }
def dropGroup (s : State) (no : Nat) : State :=
  s.withMfb { s.mfb with groups := s.mfb.groups.filter (fun x => x.no != no) }
/-- The open group of a line of a target on its home crux die. -/
def openGroupOf (s : State) (m : Nat) (dev : Bool) (feid addr : Nat) : Option HotGroup :=
  s.mfb.groups.find? (fun g => g.die == m && g.dev == dev && (dev || g.feid == feid) && groupLine g == addr / 64 && !g.sent)

/-- The operand that folds the members' operands. -/
def foldOperand (g : HotGroup) : Nat :=
  match g.members with
  | [] => 0
  | f :: t => t.foldl (fun v x => atNew f.op v (atOperand x) 0) (atOperand f)

/-- Send a group as one atomic, or close it where it has no member (R147). -/
def sendGroup (s : State) (g : HotGroup) : State :=
  match g.members with
  | [] => s.dropGroup g.no
  | f :: _ =>
    let s1 := s.inc (MFB_CNT_COMB_GROUP.V g.die)
    let v := foldOperand g
    if g.dev then
      (let r := s1.atomicApply f.harness g.addr f.op v 0
       r.2.putGroup { g with sent := true, answer := some r.1 })
    else
      let q := FrameSpec.make
       { cls := 1, kind := 1, dst := g.feid, src := s.deviceFeid, harness := f.harness, op := f.op, tag := g.no % 65536,
         flow := f.flow, time := s.now, payload := bytesLE 8 v }
      (s1.putGroup { g with sent := true }).toPort g.die g.port ({ q with w3 := Word.ofN g.addr } : Frame).sealHeader none

/-- A request to a line closes and sends the group open there (R147). -/
def closeLines (s : State) (m : Nat → Nat) (dev : Bool) (feid lo n : Nat) : State :=
  if n = 0 then s else
  (List.range ((lo + n - 1) / 64 - lo / 64 + 1)).foldl (fun t i =>
    let a := (lo / 64 + i) * 64
    match t.openGroupOf (m a) dev feid a with
    | some g => t.sendGroup g
    | none => t) s

/-- Open a group for a line with no members, where a group is free (R149). -/
def openGroup (s : State) (m : Nat) (dev : Bool) (port feid addr oper : Nat) : State :=
  if 4096 ≤ (s.mfb.groups.filter (fun g => g.die == m)).length then s else
  let no := s.mfb.next
  s.withMfb { s.mfb with next := no + 1, groups := s.mfb.groups ++ [⟨no, m, dev, port, feid, addr, oper, [], false, none⟩] }

/-- One atomic sent singly (R145). -/
def atomicSingle (s : State) (n m : Nat) (dev : Bool) (P : Nat) (f : Frame) (addr : Nat) (ingress : Option Nat) : State :=
  let s1 := s.openRecord m f
  if dev then
    (let r := s1.atomicApply f.harness addr f.op (atOperand f) (atSwap f)
     (r.2.respond m f 0xC0 r.1.1 (bytesLE 8 r.1.2)).closeRecord m f.src f.tag f.dst r.1)
  else s1.deliverReq n P f addr ingress

/-- An atomic at its home crux die, after R134 and R150 (R146, R147, R149). -/
def atomicHome (s : State) (n m : Nat) (dev : Bool) (P : Nat) (f : Frame) (addr : Nat) (ingress : Option Nat) (gw : Bool) : State :=
  let joins := s.rb (MFB_CFG.COMBINE_EN m) && !f.anchor && !gw && decide (atFn f.op ≤ 5)
  let oper := f.op % 64
  let places := ((s.mfb.groups.filter (fun g => g.die == m)).map (fun g => g.members.length)).sum
  match s.openGroupOf m dev f.dst addr with
    | some g =>
      if joins && g.addr == addr && g.oper == oper && decide (g.members.length < 256) then
        (if places < 65536 then
          (let g' := { g with members := g.members ++ [f] }
           let s1 := (s.openRecord m f).putGroup g'
           if g'.members.length = 256 then s1.sendGroup g' else s1)
         else ((s.sendGroup g).inc (MFB_CNT_COMB_BYPASS.V m)).atomicSingle n m dev P f addr ingress)
      else
        let s1 := (s.sendGroup g).atomicSingle n m dev P f addr ingress
        if joins then s1.openGroup m dev P f.dst addr oper else s1
    | none =>
      let full := decide (4096 ≤ (s.mfb.groups.filter (fun g => g.die == m)).length)
      let s0 := if joins && full then s.inc (MFB_CNT_COMB_BYPASS.V m) else s
      let s1 := s0.atomicSingle n m dev P f addr ingress
      if joins then s1.openGroup m dev P f.dst addr oper else s1

/-- The group's members in combined order (R148). -/
def combinedOrder (g : HotGroup) : List Frame :=
  if g.oper / 32 % 2 = 1 then g.members.mergeSort (fun a b => decide (a.src ≤ b.src)) else g.members

/-- Answer the members of a group whose response has status `st` and value `r` (R148). -/
def answerMembers (s : State) (m st : Nat) : Nat → List Frame → State
  | _, [] => s
  | v, f :: t =>
    let a := if st = stOK then (stOK, v) else (st, 2 ^ 64 - 1)
    let s1 := ((s.inc (MFB_CNT_COMB_MEMBER.V m)).respond m f 0xC0 a.1 (bytesLE 8 a.2)).closeRecord m f.src f.tag f.dst a
    answerMembers s1 m st (atNew f.op v (atOperand f) 0) t

/-- A group's response has returned. -/
def groupAnswer (s : State) (g : HotGroup) (st v : Nat) : State := (s.dropGroup g.no).answerMembers g.die st v (combinedOrder g)

/-! ## The inbox -/

/-- The landed frame at a place that equals `f`. -/
def landed (s : State) (p : Place) (f : Frame) : Option Steered := s.fwd.inbox.find? (fun x => x.place == p && x.frame == f)
def unland (s : State) (x : Steered) : State := s.withFwd { s.fwd with inbox := s.fwd.inbox.erase x }

/-- A request at its check point: `k` gets the translated request. Frames with BAD set, and frames that fail their
checks on their way into the device, are discarded (R47). -/
def atCheck (s : State) (n : Nat) (f : Frame) (k : Steered → Carab → State → State) : State :=
  match s.landed (.memCheck n) f with
  | none => s
  | some x =>
    let s1 := s.unland x
    if f.bad then s1
    else if s1.toDevice n f && !f.checksOk then s1.frameCrcFault (.memCheck n) f
    else
      let st := s1.memCheckStatus n f
      match s1.carabiner n f.harness f.dst f.addr with
      | some c =>
        if st != stOK then s1.memRefuse n f st
        else
          let s2 := if 65536 ≤ c.slot then s1.inc (MFB_CNT_SPILL_HIT.V n) else s1
          k x c s2
      | none => s1.memRefuse n f st

def fromGateway (s : State) (x : Steered) : Bool :=
  match x.ingress with
  | some P => s.gatewayPort P
  | none => false

/-- The home crux die of a line (R145). -/
def homeDie (n : Nat) (dev : Bool) (o : Nat) : Nat := if dev then o / 64 % 16 else n

/-- A LOAD (R127 to R130). -/
def doLoad (s : State) (n : Nat) (f : Frame) : State :=
  s.atCheck n f (fun x c t =>
    let o := translated c f.addr
    let b := reqBytes f
    if t.toDevice n f then
      match t.hAddr f.harness o b with
      | none => t.memRefuse n f stDENIED
      | some a =>
        let u := (t.inc (MFB_CNT_LOAD.V n)).closeLines (fun y => homeDie n true (y + o - a)) true f.dst a b
        let r := u.memRead f.harness [(a, b)]
        r.2.2.respond n f 0x81 (if r.2.1 then stPOISON else stOK) r.1
    else ((t.inc (MFB_CNT_LOAD.V n)).closeLines (fun _ => n) false f.dst o b).deliverReq n (t.targetPort n f) f o x.ingress)

/-- A STORE or STORE_QUIET. -/
def doStore (s : State) (n : Nat) (f : Frame) : State :=
  s.atCheck n f (fun x c t =>
    let o := translated c f.addr
    if t.toDevice n f then
      match t.hAddr f.harness o f.len with
      | none => t.memRefuse n f stDENIED
      | some a =>
        let u := (t.inc (MFB_CNT_STORE.V n)).closeLines (fun y => homeDie n true (y + o - a)) true f.dst a f.len
        let r := u.memWrite f.harness [(a, f.len)] f.payload
        r.2.respond n f 0x82 (if r.1 then stPOISON else stOK) []
    else ((t.inc (MFB_CNT_STORE.V n)).closeLines (fun _ => n) false f.dst o f.len).deliverReq n (t.targetPort n f) f o x.ingress)

/-- An ATOMIC (R143 to R150). -/
def doAtomic (s : State) (n : Nat) (f : Frame) : State :=
  s.atCheck n f (fun x c t =>
    let o := translated c f.addr
    let dev := t.toDevice n f
    let m := homeDie n dev o
    let go : Nat → State → State := fun a u =>
      let v := u.inc (MFB_CNT_ATOMIC.V n)
      match (if atRecorded f then v.recordOf m f else none) with
      | some r =>
        (match r.answer with
         | some q => v.answerRepeat m f q
         | none => v.withMfb { v.mfb with repeats := v.mfb.repeats.map (fun q => if q == r then { q with waiting := q.waiting ++ [f] } else q) })
      | none => v.atomicHome n m dev (v.targetPort n f) f a x.ingress (v.fromGateway x)
    if dev then
      match t.hAddr f.harness o (reqBytes f) with
      | none => t.memRefuse n f stDENIED
      | some a => go a t
    else go o t)

/-- The source crux die meets a MEM request (R139, R151). -/
def doAccept (s : State) (n : Nat) (f : Frame) : State :=
  match s.landed (.memAccept n) f with
  | none => s
  | some x =>
    if !isMemReq f then s else
    match x.ingress with
    | none => s
    | some P =>
      let s1 := s.unland x
      if s.mfb.pends.any (fun p => p.source == P && p.frame.tag == f.tag) then s1.inc (MFB_CNT_TAG_LIVE.V n)
      else if s.memRoom f.src f.anchor 0 then
        (s1.withMfb { s1.mfb with next := s1.mfb.next + 1 }).take n P s1.mfb.next f (.endpoint P)
      else
        let behind := s1.fwd.inbox.filter (fun y => y.place == .memAccept n && y.ingress == some P && y.frame.cls == f.cls && isMemReq y.frame)
        let s2 := s1.withFwd { s1.fwd with inbox := s1.fwd.inbox.filter (fun y => !behind.contains y) }
        (f :: behind.map (fun y => y.frame)).foldl (fun t g => t.hold (some P) g [.memAccept n] false) s2

/-- A LOAD_RSP or STORE_ACK at the crux die of its source. -/
def doResponse (s : State) (n : Nat) (f : Frame) : State :=
  match s.landed (.memReply n) f with
  | some x => ((s.unland x).response n f).pumpOvf
  | none => s

/-- Is `f` the answer to group `g`, as its endpoint gives it or as its egress gives it when the endpoint is absent (R148, R153)? -/
def answersGroup (s : State) (g : HotGroup) (f : Frame) : Bool :=
  g.sent && g.answer == none && f.op == 0xC0 && f.dst == s.deviceFeid && f.src == g.feid && f.tag == g.no % 65536 &&
  !s.mfb.pends.any (fun p => !p.queued && p.frame.src == f.dst && p.frame.tag == f.tag && p.frame.dst == f.src)
/-- Where such an answer stands. -/
def groupPlace (g : HotGroup) (x : Steered) : Bool :=
  (x.place == .memAccept g.die && x.ingress == some g.port) || (match x.place with | .memReply _ => true | _ => false)

/-- An ATOMIC_RSP: at its target's home crux die it completes the repeat record and goes on; at its source it retires
its entry. The answer to a group of this device goes to the group's members. -/
def doAtomicRsp (s : State) (n : Nat) (f : Frame) : State :=
  match s.mfb.groups.find? (fun g => s.answersGroup g f && s.fwd.inbox.any (fun x => x.frame == f && groupPlace g x)) with
  | some g => (match s.fwd.inbox.find? (fun x => x.frame == f && groupPlace g x) with
    | some x => (s.unland x).groupAnswer g f.tstatus (leAt f.payload 0 8)
    | none => s)
  | none =>
  match s.landed (.memAccept n) f, f.op == 0xC0 with
  | some x, true =>
    let s1 := (s.unland x).closeRecord n f.dst f.tag f.src (f.tstatus, leAt f.payload 0 8)
    let s2 := forwardF 3 n (match x.ingress with | some P => .endpoint P | none => .inside) true f s1
    (match s2.fwd.inbox.find? (fun y => y.frame == f && (match y.place with | .memReply _ => true | _ => false)) with
     | some y => (match y.place with | .memReply m => (s2.unland y).response m f | _ => s2)
     | none => s2)
  | _, _ => s.doResponse n f

/-- A combined group's response: from device memory, or the frame its endpoint has answered with. -/
def doGroupResponse (s : State) (no : Nat) : State :=
  match s.mfb.groups.find? (fun g => g.no == no && g.sent) with
  | none => s
  | some g =>
    match g.answer with
    | some a => s.groupAnswer g a.1 a.2
    | none =>
      match s.fwd.inbox.find? (fun x => s.answersGroup g x.frame && groupPlace g x) with
      | some x => (s.unland x).groupAnswer g x.frame.tstatus (leAt x.frame.payload 0 8)
      | none => s

/-- A released anchored request goes to the fabric (R139). -/
def doAnchorRelease (s : State) (source : Nat) : State :=
  match s.mfb.pends.find? (fun p => p.source == source && p.queued) with
  | none => s
  | some p =>
    if s.earlierWrite source p.no then s else
    forwardF 3 p.die (if source < 1152 then .endpoint source else .inside) true p.frame
      (s.withMfb { s.mfb with pends := s.mfb.pends.map (fun q => if q.no = p.no then { q with queued := false } else q) })

/-- A pending entry reaches its bound (R152). -/
def doTimeout (s : State) (source tag : Nat) : State :=
  match s.mfb.pends.find? (fun p => p.source == source && p.frame.tag == tag) with
  | none => s
  | some p =>
    let s1 := ((s.inc (MFB_CNT_TIMEOUT.V p.die)).reqReport 0x06 1 stTIMEOUT (unitCrux p.die) p.frame).selfAnswer p stTIMEOUT
    (s1.withMfb { s1.mfb with gone := if p.queued then s1.mfb.gone else s1.mfb.gone ++ [(p.frame.src, p.frame.tag, p.frame.dst)] }).retire p stTIMEOUT

/-! ## Carabiner commands (R135, R136, R155) -/

/-- The die set and the spill set of a key on crux die `n`. -/
def carSets (s : State) (n : Nat) (w0 w1 : Word) : Nat × Nat :=
  let h := carHash (s.rf (FWD_CFG.HASH_SEED n)) (carV w1 * 4096) (carLog2 w0) (carHarness w0) (carFeid w0)
  (h % 8192, h / 4096 % 2 ^ s.rf (MFB_CAR_SPILL.LOG2_SETS n))
/-- The slot an insertion takes on crux die `n`. -/
def carFree (s : State) (n : Nat) (w0 w1 : Word) : Option Nat :=
  let x := s.carSets n w0 w1
  let taken : Nat → Bool := fun i => s.mfb.carabs.any (fun c => c.die == n && c.slot == i)
  let die := ((List.range 8).map (fun w => x.1 * 8 + w)).find? (fun i => !taken i)
  let spill := if s.rf (MFB_CAR_SPILL.LOG2_SETS n) = 0 then none else
    ((List.range 8).map (fun w => 65536 + x.2 * 8 + w)).find? (fun i => !taken i)
  die.or spill

/-- Check 2 and check 3 of R135 on one crux die. -/
def carClash (s : State) (n : Nat) (w0 w1 : Word) : Bool :=
  let l := s.mfb.carabs.filter (fun c => c.die == n)
  let used := (l.map (fun c => carLog2 c.w0)).dedup
  l.any (fun c => carOverlap c.w0 c.w1 w0 w1) || (!used.contains (carLog2 w0) && decide (4 ≤ used.length))

/-- The crux dies a command addresses. -/
def carDies (s : State) (n : Nat) : List Nat := if s.rb (MFB_CAR_CMD.ALL n) then List.range 16 else [n]

/-- The status an insertion has (R135, R162). -/
def insertStatus (s : State) (ds : List Nat) (w0 w1 w2 : Word) : Nat :=
  let h := carHarness w0
  if !carWellFormed w0 w1 w2 || ds.any (fun d => s.carClash d w0 w1) || !s.grantable h then stREJECT
  else if !s.quotaOk .carab h 1 then stQUOTA
  else if ds.any (fun d => (s.carFree d w0 w1).isNone) then stNOMEM else stOK

def spillUsed (s : State) (n : Nat) : State :=
  s.wf (MFB_SPILL_USED.V n) (min 0x1FFFF (s.mfb.carabs.filter (fun c => c.die == n && decide (65536 ≤ c.slot))).length)

/-- Begin a command: BUSY, and the status it will complete with. -/
def carBegin (s : State) (n st : Nat) : State :=
  (s.withMfb { s.mfb with carRes := sparseSet (fun _ => 0xFFFF) s.mfb.carRes n st }).wf (MFB_CAR_CMD.BUSY n) 1

/-- Insert (R135); the device sets LOST where a running fill has yet to write what it touches (R520). -/
def carInsert (s : State) (n : Nat) : State :=
  let w0 := s.reg (MFB_CAR_W0.a n)
  let w1 := s.reg (MFB_CAR_W1.a n)
  let w2 := s.reg (MFB_CAR_W2.a n)
  let ds := s.carDies n
  let st := s.insertStatus ds w0 w1 w2
  if st != stOK then s.carBegin n st
  else
    let w0' := if s.fillTouches w0 w2 then w0.withField 1 1 1 else w0
    let new := ds.filterMap (fun d => (s.carFree d w0 w1).map (fun i => Carab.mk d i w0' w1 w2 s.mfb.ins))
    let s1 := (s.withMfb { s.mfb with carabs := s.mfb.carabs ++ new, ins := s.mfb.ins + 1 }).quotaTake .carab (carHarness w0) 1
    (ds.foldl (fun t d => t.spillUsed d) s1).carBegin n stOK

/-- Entries removed; the quota unit of an insertion goes back with its last copy (R162). -/
def carDelete (s : State) (p : Carab → Bool) : State :=
  let out := s.mfb.carabs.filter p
  let left := s.mfb.carabs.filter (fun c => !p c)
  let s1 := s.withMfb { s.mfb with carabs := left }
  let ended := (out.filter (fun c => !left.any (fun d => d.ins == c.ins)))
  let s2 := (ended.map (fun c => (c.ins, carHarness c.w0))).dedup.foldl (fun t e => t.quotaGive .carab e.2 1) s1
  (out.map (fun c => c.die)).dedup.foldl (fun t d => t.spillUsed d) s2

def carRemove (s : State) (n : Nat) : State :=
  let w0 := s.reg (MFB_CAR_W0.a n)
  let w1 := s.reg (MFB_CAR_W1.a n)
  let ds := s.carDies n
  let hit : Carab → Bool := fun c => ds.contains c.die && carHarness c.w0 == carHarness w0 && carFeid c.w0 == carFeid w0 &&
    carLog2 c.w0 == carLog2 w0 && carV c.w1 == carV w1
  if s.mfb.carabs.any hit then (s.carDelete hit).carBegin n stOK else s.carBegin n stREJECT

/-- Read a die slot into W0 to W2; a free slot reads zero. -/
def carRead (s : State) (n : Nat) : State :=
  let i := s.rf (MFB_CAR_CMD.SLOT n)
  let w := match s.mfb.carabs.find? (fun c => c.die == n && c.slot == i) with
    | some c => (c.w0, c.w1, c.w2)
    | none => (0, 0, 0)
  (((s.setReg (MFB_CAR_W0.a n) w.1).setReg (MFB_CAR_W1.a n) w.2.1).setReg (MFB_CAR_W2.a n) w.2.2).carBegin n stOK

/-- A write of MFB_CAR_CMD takes effect. -/
def writeCarCmd (s : State) (src : Src) (n : Nat) (v : Word) : State :=
  if s.rb (MFB_CAR_CMD.BUSY n) then s.reject src (MFB_CAR_CMD.a n) else
  let s1 := (s.wf (MFB_CAR_CMD.SLOT n) (v.field 2 16)).wf (MFB_CAR_CMD.ALL n) (v.field 18 1)
  match v.field 0 2 with
  | 1 => s1.carInsert n
  | 2 => s1.carRemove n
  | 3 => s1.carRead n
  | _ => s1

/-- A command finishes. -/
def carDone (s : State) (n : Nat) : State :=
  match lookupKey s.mfb.carRes n with
  | some st => ((s.withMfb { s.mfb with carRes := eraseKey s.mfb.carRes n }).wf (MFB_CAR_CMD.STATUS n) st).wf (MFB_CAR_CMD.BUSY n) 0
  | none => s

/-- MFB_CFG, MFB_CAR_W0 to W2 and MFB_CAR_SPILL (R155). -/
def writeMfbCfg (s : State) (src : Src) (n : Nat) (v : Word) : State :=
  if v.field 1 12 < 16 || v.field 13 14 < 1 || 10000 < v.field 13 14 then s.reject src (MFB_CFG.a n)
  else s.setReg (MFB_CFG.a n) (Word.ofN (v.field 0 27))
def writeCarWord (s : State) (src : Src) (n a : Nat) (v : Word) : State :=
  if s.rb (MFB_CAR_CMD.BUSY n) then s.reject src a else s.setReg a v
def writeCarSpill (s : State) (src : Src) (n : Nat) (v : Word) : State :=
  let a := MFB_CAR_SPILL.a n
  let lg := v.field 40 5
  let used := s.mfb.carabs.any (fun c => c.die == n && decide (65536 ≤ c.slot))
  if !(lg == 0 || (decide (10 ≤ lg) && decide (lg ≤ 20))) || (used && v.field 0 45 != (s.reg a).field 0 45) then s.reject src a
  else s.setReg a (Word.ofN (v.field 0 45))

end State

/-- A MEM request at its source crux die `n` (R151). -/
def execMemRequestAccept (n : Fin 16) (f : Frame) (s : State) : Res := unheld s (s.doAccept n f)

/-- A LOAD at check point `n`. -/
def execLoad (n : Fin 16) (f : Frame) (s : State) : Res :=
  if f.kind = 1 ∧ f.op = 1 then unheld s (s.doLoad n f) else .fault (.illFormed "LOAD")

/-- A STORE. -/
def execStore (n : Fin 16) (f : Frame) (s : State) : Res :=
  if f.kind = 1 ∧ f.op = 2 then unheld s (s.doStore n f) else .fault (.illFormed "STORE")

/-- A STORE_QUIET. -/
def execStoreQuiet (n : Fin 16) (f : Frame) (s : State) : Res :=
  if f.kind = 1 ∧ f.op = 3 then unheld s (s.doStore n f) else .fault (.illFormed "STORE_QUIET")

/-- An ATOMIC. -/
def execAtomic (n : Fin 16) (f : Frame) (s : State) : Res :=
  if f.kind = 1 ∧ isAtomic f then unheld s (s.doAtomic n f) else .fault (.illFormed "ATOMIC")

/-- The window of group number `g` expires (R147). -/
def execCombineWindowEnd (g : Nat) (s : State) : Res :=
  unheld s (match s.mfb.groups.find? (fun x => x.no == g && !x.sent) with
    | some x => s.sendGroup x
    | none => s)

/-- The response of group number `g` returns (R148). -/
def execGroupResponse (g : Nat) (s : State) : Res := unheld s (s.doGroupResponse g)

/-- A LOAD_RSP at crux die `n`. -/
def execLoadRsp (n : Fin 16) (f : Frame) (s : State) : Res :=
  if f.kind = 1 ∧ f.op = 0x81 then unheld s (s.doResponse n f) else .fault (.illFormed "LOAD_RSP")

/-- A STORE_ACK at crux die `n`. -/
def execStoreAck (n : Fin 16) (f : Frame) (s : State) : Res :=
  if f.kind = 1 ∧ f.op = 0x82 then unheld s (s.doResponse n f) else .fault (.illFormed "STORE_ACK")

/-- An ATOMIC_RSP at crux die `n`. -/
def execAtomicRsp (n : Fin 16) (f : Frame) (s : State) : Res :=
  if f.kind = 1 ∧ f.op = 0xC0 then unheld s (s.doAtomicRsp n f) else .fault (.illFormed "ATOMIC_RSP")

/-- The oldest anchored request of a source (ports 0 to 1,151, cores, store engines) is released if nothing holds it (R139). -/
def execAnchorRelease (source : Fin 1680) (s : State) : Res := unheld s (s.doAnchorRelease source)

/-- The pending entry of a source with a TAG reaches TIMEOUT_US (R152). -/
def execMemTimeout (source : Fin 1680) (tag : BitVec 16) (s : State) : Res := unheld s (s.doTimeout source tag.toNat).pumpOvf

/-- MFB_CAR_CMD OP 1 on crux die `n` (R135). -/
def execCarabinerInsert (src : Src) (n : Fin 16) (all : Bool) (s : State) : Res :=
  unheld s (s.guardWrite src (MFB_CAR_CMD.a n) (fun t =>
    t.writeCarCmd src n (((t.reg (MFB_CAR_CMD.a n)).withField 18 1 (b2n all)).withField 0 2 1)))

/-- MFB_CAR_CMD OP 2 (R155). -/
def execCarabinerRemove (src : Src) (n : Fin 16) (all : Bool) (s : State) : Res :=
  unheld s (s.guardWrite src (MFB_CAR_CMD.a n) (fun t =>
    t.writeCarCmd src n (((t.reg (MFB_CAR_CMD.a n)).withField 18 1 (b2n all)).withField 0 2 2)))

/-- MFB_CAR_CMD OP 3 (R155). -/
def execCarabinerRead (src : Src) (n : Fin 16) (slot : BitVec 16) (s : State) : Res :=
  unheld s (s.guardWrite src (MFB_CAR_CMD.a n) (fun t =>
    t.writeCarCmd src n (((t.reg (MFB_CAR_CMD.a n)).withField 2 16 slot.toNat).withField 0 2 3)))

/-- The carabiner command of crux die `n` finishes (R155). -/
def execCarabinerCommandComplete (n : Fin 16) (s : State) : Res := unheld s (s.carDone n)

/-- A repeat record is dropped (R150). -/
def execRepeatRecordExpire (n : Fin 16) (feid : BitVec 18) (tag : BitVec 16) (s : State) : Res :=
  unheld s (s.withMfb { s.mfb with repeats := s.mfb.repeats.filter (fun r =>
    !(r.die == n.val && r.src == feid.toNat && r.tag == tag.toNat && r.answer.isSome)) })

end Sys2Proof.Machine
end

