-- ==== Sys2Proof/Machine/Rope.lean ====
section
/-! DEFINITION. Rope contexts: their commands, the geometry of operations, contributions, partials, results,
settlement, summaries, witness records, all-to-all exchange, watchdog and aborts (spec/12_ropes_and_collectives.md R320
to R356; spec/14_verification.md R393 to R403). -/
namespace Sys2Proof.Machine

/-! ## Geometry of an operation (R335, R338, R339) -/

namespace RopeCtx

/-- Is the operation a SUM? -/
def isSum (_c : RopeCtx) (w : Nat) : Bool := decide (1 ≤ opColl w) && decide (opColl w ≤ 3) && opRed w == 0
/-- Are its chunks merged (R341)? -/
def merging (_c : RopeCtx) (w : Nat) : Bool := opColl w == 1 || opColl w == 2 || opColl w == 3 || opColl w == 6
def a2a (_c : RopeCtx) (w : Nat) : Bool := opColl w == 7 || opColl w == 8
/-- Elements of result chunk `k`. -/
def lenOf (c : RopeCtx) (w k : Nat) : Nat :=
  match opColl w with
  | 3 => c.e
  | 4 => min c.e (opCount w - k % c.perRank w * c.e)
  | 6 => 0
  | _ => min c.e (opCount w - k * c.e)
/-- Index in the result vector of its first element. -/
def baseOf (c : RopeCtx) (w k : Nat) : Nat :=
  if opColl w = 4 then k / c.perRank w * opCount w + k % c.perRank w * c.e else k * c.e
/-- Format of its result. -/
def downFmt (c : RopeCtx) (w : Nat) : Fmt := if c.isSum w then c.outFmt else c.inFmt
/-- Elements of a full frame of a format. -/
def perFrame (c : RopeCtx) (f : Fmt) : Nat := min c.e (4096 / f.bytes)
/-- Chunks that rank `r` sends. -/
def sendsOf (c : RopeCtx) (w r : Nat) : Nat :=
  match opColl w with
  | 4 => c.perRank w
  | 5 => if r = opRoot w then c.perRank w else 0
  | _ => c.chunksOf w
/-- The result chunk that chunk `i` of rank `r` enters. -/
def enters (c : RopeCtx) (w r i : Nat) : Nat := if opColl w = 4 then r * c.perRank w + i else i
/-- Does rank `r` receive result chunk `k`? -/
def receives (c : RopeCtx) (w k r : Nat) : Bool :=
  match opColl w with
  | 2 => r == opRoot w
  | 3 => k / (opCount w / c.e) == r
  | _ => true
/-- Operation words that break a rope (R338, R343, R353). -/
def wordBad (c : RopeCtx) (w : Nat) : Bool :=
  let coll := opColl w
  coll == 0 || decide (9 ≤ coll) || opRed w == 3 || (opRed w != 0 && decide (3 < coll)) ||
  (c.isSum w && c.mode == 0) || (coll == 3 && opCount w % c.e != 0) || ((coll == 6 || coll == 8) && opCount w != 0) ||
  ((coll == 3 || coll == 4 || coll == 7) && decide (2 ^ 24 < opCount w * c.inFmt.bytes)) ||
  ((coll == 2 || coll == 5) && decide (c.ranks ≤ opRoot w)) ||
  (c.fed && !(coll == 1 || coll == 2 || coll == 5 || coll == 6)) ||
  (c.a2a w && c.members.any (fun m => m.core))
/-- Does the device carry sums up as RP64 (R246)? -/
def exactUp (c : RopeCtx) : Bool := c.mode == 1 || c.inFmt.isInt

def op? (c : RopeCtx) (opno : Nat) : Option RopeOp := c.ops.find? (fun o => o.opno == opno)
def putOp (c : RopeCtx) (o : RopeOp) : RopeCtx := { c with ops := c.ops.map (fun x => if x.opno = o.opno then o else x) }
/-- Unsettled chunks of local contributor `r` (R340). -/
def unsettled (c : RopeCtx) (r : Nat) : Nat := sparseGet (fun _ => 0) c.begun r
def setUnsettled (c : RopeCtx) (r n : Nat) : RopeCtx := { c with begun := sparseSet (fun _ => 0) c.begun r n }
def slotsUsed (c : RopeCtx) : Nat := ((c.ops.filter (fun o => c.merging o.word)).map (fun o => o.chunks.length)).sum
/-- BYTES of R324 with `l` local members. -/
def bytesOf (c : RopeCtx) (l : Nat) : Nat := (c.slots * c.e * 64 + 8 * l + 4096 + 4095) / 4096 * 4096
/-- NOTIFY_CCH, where NOTIFY_EN is set. -/
def notify (c : RopeCtx) : Option Nat := if (c.word 5).field 48 1 = 1 then some ((c.word 5).field 32 16) else none

end RopeCtx

/-- A newly opened operation. -/
def RopeOp.fresh (opno word phase now : Nat) : RopeOp :=
  { opno := opno, opened := now, word := word, chunks := [], begun := [], freed := [], local_ := Summary.empty, kids := [], told := false,
    fin := [], hopF := 0,
    a2a := { phase := phase, vecs := [], counts := [], lasts := [], arrived := [], got := [], sent := [], ended := [] } }
def RopeOp.chunk? (o : RopeOp) (k : Nat) : Option RopeChunk := o.chunks.find? (fun x => x.c == k)
def RopeOp.insertChunk (o : RopeOp) (x : RopeChunk) : RopeOp :=
  { o with chunks := o.chunks.filter (fun y => decide (y.c < x.c)) ++ [x] ++ o.chunks.filter (fun y => decide (x.c < y.c)) }
/-- The chunk after the last that local contributor `r` has begun. -/
def RopeOp.begunBy (o : RopeOp) (r : Nat) : Nat := sparseGet (fun _ => 0) o.begun r

/-- Elements one input brings. -/
def RopeIn.size (x : RopeIn) : Nat := max x.accs.length x.codes.length
/-- Elements a source has brought to a chunk. -/
def RopeChunk.covered (x : RopeChunk) (src : Nat) : Nat := ((x.ins.filter (fun i => i.src == src)).map RopeIn.size).sum
def RopeChunk.has (x : RopeChunk) (src : Nat) : Bool := x.ins.any (fun i => i.src == src)

namespace State

/-! ## Members and devices -/

/-- The device a DEVICE FEID names. -/
def devOfFeid (s : State) (n f : Nat) : Option Nat :=
  match s.feidEntry n f with
  | some e => if e.field 1 1 = 1 && e.field 2 1 = 0 then some (e.field 3 6) else none
  | none => none
/-- The rank of the local endpoint member a frame comes from. -/
def localRank (s : State) (c : RopeCtx) (f : Nat) : Option Nat :=
  (s.localRanks c).find? (fun r => !(c.member r).core && (c.member r).id == f)
/-- The rank of any endpoint member. -/
def rankOf (_s : State) (c : RopeCtx) (f : Nat) : Option Nat :=
  (List.range c.ranks).find? (fun r => !(c.member r).core && (c.member r).id == f)
/-- Other planes of the federation that hold members. -/
def fedPlanes (_s : State) (c : RopeCtx) : List Nat := (List.range 4).filter (fun p => c.members.any (fun m => m.dev == 64 + p))
/-- The plane of a FEID that lies across a gateway. -/
def planeOfFeid (s : State) (n f : Nat) : Option Nat :=
  match s.feidEntry n f with
  | some e => if e.field 2 1 = 1 then some (e.field 19 2) else none
  | none => none

/-! ## Life of a context (R327 to R332) -/

/-- The member list of a descriptor (R323): none where it cannot be read or an entry is malformed. -/
def readMembers (s : State) (n : Nat) (desc : List Word) : Option (List Member) :=
  let w4 := desc.getD 4 0
  let count := w4.field 0 16
  match s.hRange 0 (w4.field 16 40) (4 * count) with
  | none => none
  | some rs =>
    let r := s.memRead 0 rs
    if r.2.1 then none else
    let es := (List.range count).map (fun i =>
      let e := leAt r.1 (4 * i) 4
      if 2 ^ 31 ≤ e then
        (let v := e - 2 ^ 31
         if 2 ^ 15 ≤ v || s.planeSize ≤ v / 512 then none else some ⟨true, v % 512, v / 512⟩)
      else if 2 ^ 18 ≤ e then none
      else match s.feidEntry n e with
        | none => none
        | some x => if x.field 1 1 = 1 then none
          else if x.field 2 1 = 1 then some ⟨false, e, 64 + x.field 19 2⟩ else some ⟨false, e, x.field 3 6⟩)
    if es.any (fun e => e.isNone) then none else
    let ms := es.filterMap (fun e => e)
    if ms.dedup.length = ms.length then some ms else none

/-- Fields of a descriptor within their ranges (R321, R322, R329 order 2). -/
def descOk (s : State) (d : List Word) : Bool :=
  let w : Nat → Word := fun i => d.getD i 0
  let mode := (w 0).field 12 2
  let out := fmtCode ((w 0).field 18 4)
  let lg := (w 0).field 28 4
  let slots := (w 0).field 32 6
  mode != 3 && (fmtCode ((w 0).field 14 4)).isSome && out.isSome && decide ((w 0).field 22 5 ≤ 27) && decide (7 ≤ lg) && decide (lg ≤ 12) &&
  decide (1 ≤ slots) && decide (slots ≤ 32) && (w 0).field 57 7 == 0 && decide ((w 2).field 32 6 < s.planeSize) &&
  decide (1 ≤ (w 2).field 38 16) && (w 2).field 54 10 == 0 && decide (1 ≤ (w 4).field 0 16) && decide ((w 4).field 0 16 ≤ 49152) &&
  (w 4).field 16 40 % 4096 == 0 && (w 4).field 56 8 == 0 && (w 5).field 49 15 == 0 && (w 6).field 9 55 == 0 && (w 7) == 0 &&
  !((w 6).field 0 1 == 1 && mode == 1) &&
  !(mode != 0 && (w 0).field 27 1 == 1 && !((out.map Fmt.hasInf).getD true))

/-- The descriptor as a context homed on crux die `n`, its members read or none. -/
def newCtx (n ctx : Nat) (d : List Word) (ms : List Member) : RopeCtx :=
  { ctx := ctx, die := n, cluster := 4 * n + (d.getD 0 0).field 39 2, desc := d, broken := false, cause := 0, members := ms, bytes := 0,
    nextOp := 0, ops := [], begun := [], owed := 0, held := [] }

/-- Order 6 of R329: members of this device, and the tree rule of R326. -/
def membersOk (s : State) (c : RopeCtx) : Bool :=
  (s.localRanks c).all (fun r =>
    let m := c.member r
    if m.core then s.boundCore m.id && s.coreH m.id == c.harness
    else match s.feidEntry c.die m.id with
      | some e => s.active (e.field 9 10) && decide (s.rf (PRT_PORT_ID.ADMIT_EPOCH (e.field 9 10)) ≤ c.planeEpoch)
      | none => false) &&
  c.members.all (fun m => decide (m.dev < 64) || c.fed) &&
  (c.desc.getD 3 0).toNat / 2 ^ s.devIndex % 2 == 1 &&
  (if c.stripe then c.devs else [c.summit]).all (fun x => (s.treeOf c x).all (fun d => (c.desc.getD 3 0).toNat / 2 ^ d % 2 == 1))

/-- The largest s footprint loaded on the cores of a cluster. -/
def maxFoot (s : State) (clu : Nat) : Nat :=
  ((List.range 8).map (fun i => if s.boundCore (8 * clu + i) then (s.cst (8 * clu + i)).sFoot else 0)).foldl max 0

/-- S released or taken at the top of a cluster: CRX_CLU_SRES follows, and a cluster left with nothing is unowned. -/
def setSres (s : State) (clu h bytes : Nat) : State :=
  let n := clu / 4
  let c := clu % 4
  let s1 := s.wf (CRX_CLU_SRES.BYTES n c) bytes
  if s1.rb (CRX_CLU_STS.OWNED n c) then s1
  else s1.wf (CRX_CLU_STS.HARNESS n c) (if bytes = 0 then 0 else h)

/-- CREATE or REFORM (R329): the status, and the state where it is OK. -/
def ropeMake (s : State) (n ctx : Nat) (d : List Word) (old : Option RopeCtx) : Nat × State :=
  let h := (d.getD 0 0).field 0 12
  let ms := s.readMembers n d
  let c0 := newCtx n ctx d (ms.getD [])
  let clu := c0.cluster
  let bytes := c0.bytesOf (s.localRanks c0).length
  let had := (old.map (fun x => if x.cluster = clu then x.bytes else 0)).getD 0
  let sres := s.rf (CRX_CLU_SRES.BYTES n (clu % 4))
  let free := match s.cluOwner clu with
    | none => true
    | some o => o == h || (!s.rb (CRX_CLU_STS.OWNED n (clu % 4)) && sres == had)
  if !s.grantable h then (stREJECT, s)
  else if !s.descOk d then (stREJECT, s)
  else if old.isNone && !s.quotaOk .ctx h 1 then (stQUOTA, s)
  else if !free then (stCONFLICT, s)
  else if 0x1800000 - s.maxFoot clu < sres - had + bytes then (stNOMEM, s)
  else if ms.isNone || !s.membersOk c0 then (stREJECT, s)
  else
    let s1 := match old with
      | none => s.quotaTake .ctx h 1
      | some x =>
        let t := s.setSres x.cluster x.harness (s.rf (CRX_CLU_SRES.BYTES (x.cluster / 4) (x.cluster % 4)) - x.bytes)
        (if x.harness = h then t else (t.quotaGive .ctx x.harness 1).quotaTake .ctx h 1).withRope
          { s.rope with ctxs := s.rope.ctxs.filter (fun y => y.ctx != ctx) }
    let top := s1.rf (CRX_CLU_SRES.BYTES n (clu % 4))
    let s2 := (s1.setSres clu h (top + bytes)).withMem (s1.mem.clearValid (addrS clu (sizeS - top - bytes)) (addrS clu (sizeS - top)))
    (stOK, s2.withRope { s2.rope with ctxs := s2.rope.ctxs ++ [{ c0 with bytes := bytes }] })

/-- DESTROY (R328). -/
def ropeDestroy (s : State) (c : RopeCtx) : State :=
  let s1 := s.setSres c.cluster c.harness (s.rf (CRX_CLU_SRES.BYTES (c.cluster / 4) (c.cluster % 4)) - c.bytes)
  (s1.quotaGive .ctx c.harness 1).withRope { s1.rope with ctxs := s1.rope.ctxs.filter (fun x => x.ctx != c.ctx) }

/-- What a command does to its context, and its status (R328). -/
def ropeCmd (s : State) (n ctx op : Nat) : Nat × State :=
  let d := (List.range 8).map (fun w => s.reg (CRX_ROPE_D.a n w))
  if s.mpStopped && (op == 1 || op == 2) then (stREJECT, s) else
  match s.findRope ctx, op with
  | none, 1 => s.ropeMake n ctx d none
  | some c, 2 =>
    if c.die = n && (c.broken || c.ops.isEmpty) && (d.getD 0 0).field 41 16 != c.epoch then s.ropeMake n ctx d (some c) else (stREJECT, s)
  | some c, 3 => if c.die = n && !c.broken then (stOK, s.breakRope ctx stFLUSHED false none) else (stREJECT, s)
  | some c, 4 => if c.die = n && (c.broken || c.ops.isEmpty) then (stOK, s.ropeDestroy c) else (stREJECT, s)
  | _, _ => (stREJECT, s)

/-- A write of CRX_ROPE_CMD of crux die `n` (R354): the command executes from the moment it is accepted. -/
def writeRopeCmd (s : State) (src : Src) (n ctx op : Nat) : State :=
  if s.rb (CRX_ROPE_CMD.BUSY n) then s.reject src (CRX_ROPE_CMD.a n)
  else
    let s1 := s.wf (CRX_ROPE_CMD.CTX n) ctx
    if op = 0 then s1 else
    let r := s1.ropeCmd n ctx op
    (r.2.withRope { r.2.rope with cmds := insertKey (eraseKey r.2.rope.cmds n) n r.1 }).wf (CRX_ROPE_CMD.BUSY n) 1
/-- A write of a descriptor word. -/
def writeRopeD (s : State) (src : Src) (n w : Nat) (v : Word) : State :=
  if s.rb (CRX_ROPE_CMD.BUSY n) then s.reject src (CRX_ROPE_D.a n w) else s.setReg (CRX_ROPE_D.a n w) v
/-- The command of crux die `n` finishes. -/
def ropeCmdDone (s : State) (n : Nat) : State :=
  match lookupKey s.rope.cmds n with
  | none => s
  | some st => ((s.withRope { s.rope with cmds := eraseKey s.rope.cmds n }).wf (CRX_ROPE_CMD.STATUS n) st).wf (CRX_ROPE_CMD.BUSY n) 0
/-- CRX_ROPE_STS of crux die `n` (R355). -/
def ropeSts (s : State) (n : Nat) : Word :=
  match s.findRope (s.rf (CRX_ROPE_SEL.CTX n)) with
  | none => 0
  | some c =>
    if c.die != n then 0 else
    let st := if c.broken then 3 else if c.ops.isEmpty then 1 else 2
    Word.ofN (st + b2n (c.summit == s.devIndex) * 8 + c.ops.length * 16 + c.nextOp * 2 ^ 11 + c.epoch * 2 ^ 19 + c.cause * 2 ^ 35 +
      c.slotsUsed * 2 ^ 43)

end State
end Sys2Proof.Machine
end

