-- ==== Sys2Proof/Machine/RopeOps.lean ====
section
/-! DEFINITION. What a rope context does with frames: contributions, partials, results, credits, summaries, counts, blocks
(spec/12_ropes_and_collectives.md R331 to R353; spec/14_verification.md R393 to R403). -/
namespace Sys2Proof.Machine
namespace State

/-! ## Opening an operation (R334, R337, R341) -/

/-- NEXT_OPNO past every operation that is open. -/
def nextOpno (ops : List RopeOp) : Nat → Nat → Nat
  | 0, n => n
  | k + 1, n => if ops.any (fun o => o.opno == n) then nextOpno ops k ((n + 1) % 256) else n
/-- The context with the operation open, or the status the rope breaks with. A member opens operations in order; a frame
of a neighbour may overtake. -/
def openOp (s : State) (c : RopeCtx) (member : Bool) (opno word : Nat) : RopeCtx ⊕ Nat :=
  match c.op? opno with
  | some o => if o.word = word then .inl c else .inr stREJECT
  | none =>
    if s.mpStopped then .inr stNOT_READY
    else if (member && opno != c.nextOp) || c.wordBad word then .inr stREJECT
    else if 64 ≤ c.ops.length then .inr stOVERFLOW
    else
      let phase := if opColl word = 8 then (if (s.localRanks c).isEmpty then 2 else 0) else 4
      let ops := c.ops ++ [RopeOp.fresh opno word phase s.now]
      .inl { c with ops := ops, nextOp := nextOpno ops 65 c.nextOp }

/-! ## Trees of one operation -/

/-- Children whose subtree holds a receiver of chunk `k`. -/
def kidsTaking (s : State) (c : RopeCtx) (w k : Nat) : List Nat :=
  let x := s.summitOf c w k
  (s.childrenOf c x s.devIndex).filter (fun d => (List.range c.ranks).any (fun r =>
    c.receives w k r && decide ((c.member r).dev < 64) && (s.treeRoute x (c.member r).dev).contains d))
def kidsIdle (s : State) (c : RopeCtx) (w k : Nat) : List Nat :=
  let t := s.kidsTaking c w k
  (s.childrenOf c (s.summitOf c w k) s.devIndex).filter (fun d => !t.contains d)
/-- Where partials of a chunk go, and where its result comes from. -/
def upFeid (s : State) (c : RopeCtx) (w k : Nat) : Nat :=
  if s.isSummit c w k then (Config.fedFeid ((c.word 6).field 1 2) ((c.word 6).field 3 6)).toNat
  else s.feidOfDevice (s.parentOf (s.summitOf c w k) s.devIndex)
/-- Sources a merged chunk waits for: ranks, children, other planes. -/
def sources (s : State) (c : RopeCtx) (w k : Nat) : List Nat :=
  s.localRanks c ++ (s.childrenOf c (s.summitOf c w k) s.devIndex).map (fun d => 65536 + d) ++
  (if c.fed && s.isTop c w k then (s.fedPlanes c).map (fun p => 65600 + p) else [])
/-- Has every source of a chunk brought every element? -/
def chunkFull (s : State) (c : RopeCtx) (o : RopeOp) (x : RopeChunk) : Bool :=
  (s.sources c o.word x.c).all (fun src => if c.lenOf o.word x.c = 0 then x.has src else decide (c.lenOf o.word x.c ≤ x.covered src))

/-! ## Results at members (R339, R346) -/

/-- Elements of a receive stream's destination before chunk `k`. -/
def before (c : RopeCtx) (w first k : Nat) : Nat := ((List.range (k - first)).map (fun i => c.lenOf w (first + i))).sum

/-- Part of a result chunk lands in the receive transfer of a core member that waits for it, or is held. -/
def landPiece (s : State) (ctx r opno k off : Nat) (bytes : List Byte) : State :=
  match s.findRope ctx with
  | none => s
  | some c =>
    let word := ((c.op? opno).map (fun o => o.word)).getD 0
    let m := c.member r
    let per := (c.downFmt word).bytes
    let takes : Flight → Bool := fun f => f.core == m.id && f.started &&
      (match f.stream, f.op with
       | some x, .fdeMove _ (some _) none _ _ _ _ => x.ctx == ctx && x.ended == none && x.opw / 2 ^ 52 % 256 == opno && decide (x.first ≤ k)
       | _, _ => false)
    match s.comp.flights.find? takes with
    | none => s.putRope { c with held := c.held ++ [(r, opno, k, off, bytes)] }
    | some f =>
      match f.op, f.stream with
      | .fdeMove _ (some d) none _ _ _ _, some x =>
        let at_ := before c word x.first k + off
        let n := min (bytes.length / per) (d.elems - at_)
        let cx : Ctx := ⟨f.core, f.sregs, f.opts⟩
        let rs := (((cx.addrs d).drop at_).take n).map (fun a => (a, d.fmt.bytes))
        let s1 := if n = 0 then s else (s.memWrite (s.ownOf (rs.headD (0, 0)).1) rs bytes).2
        let l := x.landed ++ [(k, at_, n)]
        let end_ := if d.elems ≤ (l.map (fun p => p.2.2)).sum then some stOK else none
        let s2 := s1.withComp { s1.comp with flights := s1.comp.flights.map (fun g =>
          if g.no = f.no then { g with stream := some { x with landed := l, ended := end_ } } else g) }
        let whole := decide (c.lenOf word k ≤ ((l.filter (fun p => p.1 == k)).map (fun p => p.2.2)).sum)
        (match c.notify, whole && d.sp == .s with
         | some g, true =>
           (match (if s2.cchH g == some c.harness then s2.creditReturn g 1 else none) with
            | some s3 => s3
            | none => s2.breakRope ctx stOVERFLOW false none)
         | _, _ => s2)
      | _, _ => s

/-- A barrier release reaches a core member: one credit, where NOTIFY_EN is set. -/
def releaseCore (s : State) (c : RopeCtx) : State :=
  match c.notify with
  | some g => (match (if s.cchH g == some c.harness then s.creditReturn g 1 else none) with
    | some t => t
    | none => s.breakRope c.ctx stOVERFLOW false none)
  | none => s

/-- One frame of a result goes down: to every child with a receiver below it, and to every local receiver. -/
def passDown (s : State) (c : RopeCtx) (o : RopeOp) (k frag off : Nat) (first last : Bool) (payload : List Byte) : State :=
  let s1 := (s.kidsTaking c o.word k).foldl (fun t d =>
    t.ropeFrame c 3 (t.feidOfDevice d) o.opno o.word k frag first last stOK 1 0 payload) s
  let s2 := if c.fed && s.isTop c o.word k then (s.fedPlanes c).foldl (fun t p =>
      t.ropeFrame c 3 (Config.fedFeid p c.summit).toNat o.opno o.word k frag first last stOK 1 0 payload) s1 else s1
  ((s.localRanks c).filter (c.receives o.word k)).foldl (fun t r =>
    if (c.member r).core then
      (if opColl o.word = 6 then t.releaseCore c else t.landPiece c.ctx r o.opno k off payload)
    else t.ropeFrame c 3 (c.member r).id o.opno o.word k frag first last stOK 1 0 payload) s2

/-- Byte runs of a chunk as frames of whole elements: frame number, first element, payload. -/
def elemFrames (per size : Nat) (bytes : List Byte) : List (Nat × Nat × List Byte) :=
  if bytes.isEmpty then [(0, 0, [])]
  else (List.range ((bytes.length + per * size - 1) / (per * size))).map (fun i => (i, i * per, (bytes.drop (i * per * size)).take (per * size)))

/-- CREDITs that settle a chunk: to the children and the local contributors that get no RESULT (R340). -/
def sendCredits (s : State) (c : RopeCtx) (o : RopeOp) (k : Nat) (all : Bool) : State :=
  let kids := if all then s.childrenOf c (s.summitOf c o.word k) s.devIndex else s.kidsIdle c o.word k
  let s1 := kids.foldl (fun t d => t.ropeFrame c 4 (t.feidOfDevice d) o.opno o.word k 0 true true stOK 1 0 []) s
  ((s.localRanks c).filter (fun r => (all || !c.receives o.word k r) && !(c.member r).core)).foldl (fun t r =>
    t.ropeFrame c 4 (c.member r).id o.opno o.word k 0 true true stOK 1 0 []) s1

/-- A chunk is freed: its local contributors' windows open. -/
def freeChunk (s : State) (ctx opno k : Nat) : State :=
  match s.findRope ctx with
  | none => s
  | some c =>
    match c.op? opno with
    | none => s
    | some o =>
      let senders := if c.merging o.word then s.localRanks c
        else if opColl o.word = 4 then (s.localRanks c).filter (fun r => r == k / c.perRank o.word)
        else (s.localRanks c).filter (fun r => r == opRoot o.word)
      let c1 := senders.foldl (fun x r => x.setUnsettled r (x.unsettled r - 1)) c
      s.putRope (c1.putOp { o with chunks := o.chunks.filter (fun x => x.c != k), freed := o.freed ++ [k] })

/-! ## Merging, checking and finishing (R243 to R246, R393 to R395) -/

/-- The lane accumulators of a chunk of a SUM. -/
def laneAccs (c : RopeCtx) (o : RopeOp) (x : RopeChunk) : List Acc :=
  (List.range (c.lenOf o.word x.c)).map (fun j =>
    mergeAll (x.ins.filterMap (fun i => if i.first ≤ j then i.accs[j - i.first]? else none)))
/-- The merged codes of a MIN or MAX, with their flags. -/
def laneCodes (c : RopeCtx) (o : RopeOp) (x : RopeChunk) : List (Nat × Nat) :=
  (List.range (c.lenOf o.word x.c)).map (fun j =>
    bestOf c.inFmt (opRed o.word == 2) (x.ins.filterMap (fun i => if i.first ≤ j then i.codes[j - i.first]? else none)))

/-- Blocks packed into frames (R335): up to 15 RP64 blocks to a frame, an escaped block alone; first block, count, bytes. -/
def packFrames : Nat → List (Nat × List Byte × Bool) → List (Nat × Nat × List Byte)
  | 0, _ => []
  | fuel + 1, l =>
    match l with
    | [] => []
    | (i, b, true) :: t => (i, 1, b) :: packFrames fuel t
    | (i, _, false) :: _ =>
      let run := (l.takeWhile (fun x => !x.2.2)).take 15
      (i, run.length, run.flatMap (fun x => x.2.1)) :: packFrames fuel (l.drop run.length)

/-- The partial of a full chunk goes up (R335, R393). -/
def sendPartial (s : State) (c : RopeCtx) (o : RopeOp) (k : Nat) (accs : List Acc) (codes : List Nat) : State :=
  let dst := s.upFeid c o.word k
  let base := c.baseOf o.word k
  let out : State → List (Nat × List Byte × Nat × Nat) → State := fun t fs =>
    (List.range fs.length).foldl (fun u i =>
      let f := fs.getD i (0, [], 0, 0)
      u.ropeFrame c 2 dst o.opno o.word k f.1 (i == 0) (i + 1 == fs.length) stOK f.2.2.1 f.2.2.2 f.2.1) t
  let s1 := s.inc (CRX_CNT_ROPE_PART.V c.die)
  if !c.isSum o.word then
    out s1 ((elemFrames (c.perFrame c.inFmt) c.inFmt.bytes (codes.flatMap (bytesLE c.inFmt.bytes))).map (fun f => (f.1, f.2.2, 1, 0)))
  else if c.exactUp && !(c.fed && s.isSummit c o.word k) then
    let n := accs.length
    let bs := (List.range ((n + 31) / 32)).map (fun i => (i, encodeRp (s.rb (CRX_RIDGE_CFG.FORCE_RPX c.die)) ((accs.drop (32 * i)).take 32)))
    let esc := (bs.filter (fun b => b.2.2)).length
    let s2 := (s1.count (CRX_CNT_RP64_ENC.V c.die) (bs.length - esc)).count (CRX_CNT_RPX_ESC.V c.die) esc
    out s2 ((packFrames (bs.length + 1) bs).map (fun f =>
      (f.1, f.2.2, 2, residue c.seed ((base + 32 * f.1) % 2 ^ 48) ((accs.drop (32 * f.1)).take (32 * f.2.1)))))
  else
    out s1 ((elemFrames (c.perFrame .fp32) 4 (codes.flatMap (bytesLE 4))).map (fun f =>
      (f.1, f.2.2, 2, residueVals c.seed ((base + f.2.1) % 2 ^ 48) (((codes.drop f.2.1).take (f.2.2.length / 4)).map (fun x => decodeElem .fp32 x 0)))))

/-- A disagreement of the two rounding units (R395). -/
def dualFault (s : State) (c : RopeCtx) (opno k : Nat) : State :=
  let a := s.freeW
  let b := a.2.freeW
  (b.2.inc (CRX_CNT_DUAL_FAIL.V c.die)).ropeCheck c 0x04 opno k a.1.toNat b.1.toNat

/-- A full chunk leaves: its partial toward the parent, or its result from the summit. -/
def leave (s : State) (c : RopeCtx) (o : RopeOp) (x : RopeChunk) (hw : HwCheck) : State :=
  let k := x.c
  let sum := c.isSum o.word
  let accs := if sum then laneAccs c o x else []
  let base := c.baseOf o.word k
  let got := residue c.seed base accs
  let want := x.sum % resP
  let s0 := if sum then s.inc (CRX_CNT_RES_VERIFY.V c.die) else s
  if sum && (hw == .mergeRes || got != want || accs.any (fun a => decide (127 ≤ a.wrap) || decide (a.wrap ≤ -127))) then
    let fr := s0.freeW
    let g := if hw == .mergeRes && got == want then fr.1.toNat % 2 ^ 61 else got
    ((if hw == .mergeRes then fr.2 else s0).inc (CRX_CNT_RES_FAIL.V c.die)).ropeCheck c 0x03 o.opno k want g
  else if s.isTop c o.word k then
    if sum && hw == .dual then s0.dualFault c o.opno k else
    let f := c.downFmt o.word
    let rs := if sum then (List.range accs.length).map (fun j =>
        let r := match c.rnd with
          | .sr n => srBits c.seed c.tid ((base + j) % 2 ^ 48) n
          | _ => 0
        finishAcc f c.rnd c.ovf r (accs.getD j Acc.empty))
      else laneCodes c o x
    let codes := rs.map (fun r => r.1)
    let bytes := codes.flatMap (bytesLE f.bytes)
    let s1 := (if sum then s0.count (CRX_CNT_WRAP.V c.die) (wraps accs) else s0).inc (CRX_CNT_ROPE_CHUNK.V c.die)
    let fin : Finished := ⟨k, bytes, if sum then got else 0,
      if sum then residueVals c.seed base (codes.map (fun v => decodeElem f v 0)) else 0, rs.foldl (fun a r => a ||| r.2) 0⟩
    let s2 := s1.putRope (c.putOp { o with fin := o.fin.filter (fun y => decide (y.c < k)) ++ [fin] ++ o.fin.filter (fun y => decide (k < y.c)) })
    let fs := elemFrames (c.perFrame f) f.bytes bytes
    let s3 := (List.range fs.length).foldl (fun t i =>
      let fr := fs.getD i (0, 0, [])
      match t.findRope c.ctx with
      | some c' => (match c'.op? o.opno with
        | some o' => t.passDown c' o' k fr.1 fr.2.1 (i == 0) (i + 1 == fs.length) fr.2.2
        | none => t)
      | none => t) s2
    (match s3.findRope c.ctx with
     | some c' => if c'.broken then s3 else (s3.sendCredits c' o k false).freeChunk c.ctx o.opno k
     | none => s3)
  else
    -- a hop rounds floating-point sums under MODE 2, and at a plane summit (R245, R353)
    let hop := sum && (!c.exactUp || (c.fed && s.isSummit c o.word k))
    if hop && hw == .dual then s0.dualFault c o.opno k else
    let hops := accs.map (fun a => finishAcc .fp32 .rne c.ovf 0 a)
    let codes := if hop then hops.map (fun r => r.1) else if sum then [] else (laneCodes c o x).map (fun r => r.1)
    let s1 := if hop then (s0.count (CRX_CNT_HOP_ROUND.V c.die) accs.length).count (CRX_CNT_WRAP.V c.die) (wraps accs) else s0
    let hf := if hop then hops.foldl (fun a r => a ||| r.2) 0 else 0
    let o1 := { o with hopF := o.hopF ||| hf, chunks := o.chunks.map (fun y => if y.c = k then { y with up := true, ins := [] } else y) }
    (s1.putRope { c.putOp o1 with owed := c.owed + 1 }).sendPartial c o k accs codes

/-- The first chunk that may leave. -/
def ready (s : State) (c : RopeCtx) : Option (RopeOp × RopeChunk) :=
  (c.ops.filter (fun o => c.merging o.word)).findSome? (fun o =>
    (o.chunks.find? (fun x => !x.up && s.chunkFull c o x && (s.isTop c o.word x.c || decide (c.owed < c.slots)))).map (fun x => (o, x)))
/-! ## Summaries, records and closing (R336, R341, R400, R403) -/

/-- The chunks this device owes upward. -/
def owesUp (s : State) (c : RopeCtx) (w : Nat) : List Nat :=
  (s.handled c w).filter (fun k => !s.isTop c w k &&
    (opColl w != 4 || (s.treeRoute (s.summitOf c w k) (c.member (k / c.perRank w)).dev).contains s.devIndex) && opColl w != 5)
/-- Is the partial of chunk `k` sent? -/
def sentUp (o : RopeOp) (k : Nat) : Bool := o.freed.contains k || ((o.chunk? k).map (fun x => x.up)).getD false
/-- Have the blocks of every local sender been forwarded (R344)? -/
def a2aSent (s : State) (c : RopeCtx) (o : RopeOp) : Bool :=
  (s.localRanks c).all (fun r => (List.range c.ranks).all (fun j =>
    let due := if opColl o.word = 7 then opCount o.word
      else ((o.a2a.vecs.filter (fun v => v.1 == r)).findSome? (fun v => if 1024 * v.2.1 ≤ j then v.2.2[j - 1024 * v.2.1]? else none)).getD 0
    decide (due ≤ ((o.a2a.sent.filter (fun t => t.1 == r && t.2.1 == j)).map (fun t => t.2.2)).sum)))
/-- Is everything this device owes toward its parent sent, but for its SUMMARY? -/
def upDone (s : State) (c : RopeCtx) (o : RopeOp) : Bool :=
  if opColl o.word = 7 then s.a2aSent c o
  else if opColl o.word = 8 then o.a2a.arrived.contains 131072
  else (s.owesUp c o.word).all (sentUp o)

/-- One thing that an operation's end still asks for: its SUMMARY, its record, its closing. -/
def settleOp (s : State) (c : RopeCtx) (o : RopeOp) : Option State :=
  let w := o.word
  let top0 := s.isTop c w 0
  let x0 := s.summitOf c w 0
  let kids := s.childrenOf c x0 s.devIndex ++ (if c.fed && top0 then (s.fedPlanes c).map (fun p => 64 + p) else [])
  let sm := (kids.filterMap (fun d => (o.kids.find? (fun y => y.1 == d)).map (fun y => y.2))).foldl Summary.join o.local_
  let heard := kids.all (fun d => o.kids.any (fun y => y.1 == d))
  let ms := s.mine c w
  let finished := ms.all (fun k => o.freed.contains k)
  let a2aDone := !c.a2a w || ((s.localRanks c).all (fun r => o.a2a.ended.contains r) && s.a2aSent c o &&
    (opColl w != 8 || decide (3 ≤ o.a2a.phase)))
  if !o.told && top0 && heard && finished && a2aDone then
    some ((s.ropeRecord c o true sm none).putRope (c.putOp { o with told := true, fin := [] }))
  else if !o.told && !top0 && s.inTree c w 0 && heard && s.upDone c o then
    let dst := if s.isSummit c w 0 then s.upFeid c w 0 else s.feidOfDevice (s.parentOf x0 s.devIndex)
    some ((s.putRope (c.putOp { o with told := true })).ropeFrame c 5 dst o.opno w 0 0 true true stOK 1 0
      ({ sm with flags := sm.flags ||| o.hopF } : Summary).bytes)
  else if !top0 && !o.fin.isEmpty && finished then
    some ((s.ropeRecord c o false sm none).putRope (c.putOp { o with fin := [] }))
  else if (o.told || !s.inTree c w 0) && o.fin.isEmpty && a2aDone && (s.handled c w).all (fun k => o.freed.contains k) then
    some ((s.putRope { c with ops := c.ops.filter (fun y => y.opno != o.opno) }).trace 2 (unitCrux c.die) c.harness
      (bytesLE 2 c.ctx ++ bytesLE 1 o.opno ++ bytesLE 8 (s.now - o.opened)))
  else none
/-! ## Contributions (R331, R335 to R337, R342, R346) -/

/-- A member's part in the summary of its operation: a contribution at this moment, its last or not. -/
def noteMember (s : State) (o : RopeOp) (r : Nat) (last : Bool) : RopeOp :=
  let l := o.local_
  { o with local_ := ⟨min l.first s.now, if last then s.now else l.last, if last then r else l.rank, l.merged + b2n last, l.flags⟩ }

/-- One frame of a copying collective moves on (R342): up, or down from the summit. -/
def forwardCopy (s : State) (c : RopeCtx) (o : RopeOp) (k src frag off : Nat) (first last : Bool) (payload : List Byte) : State :=
  let n := c.lenOf o.word k
  let per := c.inFmt.bytes
  if s.isTop c o.word k then
    let x : RopeChunk := (o.chunk? k).getD ⟨k, [], 0, true, []⟩
    let x1 : RopeChunk := { x with ins := x.ins ++ [⟨src, off, [], payload.map (fun b => b.toNat)⟩], down := x.down ++ [off] }
    let s1 := (s.putRope (c.putOp (o.insertChunk x1))).passDown c (o.insertChunk x1) k frag off first last payload
    match s1.findRope c.ctx with
    | none => s1
    | some c1 =>
      if c1.broken || (x1.ins.map (fun i => i.codes.length)).sum < n * per then s1 else
      (match c1.op? o.opno with
       | none => s1
       | some o1 =>
         let ordered := (List.range (n + 1)).flatMap (fun j => (x1.ins.filter (fun i => i.first == j)).flatMap (fun i => i.codes))
         let fin : Finished := ⟨k, ordered.map (fun v => BitVec.ofNat 8 v), 0, 0, 0⟩
         ((s1.inc (CRX_CNT_ROPE_CHUNK.V c.die)).putRope (c1.putOp { o1 with
            fin := o1.fin.filter (fun y => decide (y.c < k)) ++ [fin] ++ o1.fin.filter (fun y => decide (k < y.c)) })).freeChunk c.ctx o.opno k)
  else
    let x : RopeChunk := (o.chunk? k).getD ⟨k, [], 0, false, []⟩
    let x1 : RopeChunk := { x with ins := x.ins ++ [⟨src, off, [], List.replicate (payload.length / per) 0⟩] }
    let x2 : RopeChunk := { x1 with up := decide (n ≤ (x1.ins.map RopeIn.size).sum) }
    let s1 := if x2.up then s.inc (CRX_CNT_ROPE_PART.V c.die) else s
    (s1.putRope (c.putOp (o.insertChunk x2))).ropeFrame c 2 (s.upFeid c o.word k) o.opno o.word k frag first last stOK 1 0 payload

/-- A frame of chunk `i` of rank `r`, elements from `frag` frames on, enters the context. -/
def contribute (s : State) (ctx r opno word i frag : Nat) (first last : Bool) (payload : List Byte) : State :=
  match s.findRope ctx with
  | none => s
  | some c0 =>
    match s.openOp c0 true opno word with
    | .inr st => s.breakRope ctx st false none
    | .inl c =>
      match c.op? opno with
      | none => s
      | some o =>
        let k := c.enters word r i
        let begun := o.begunBy r
        let n := c.lenOf word k
        let per := c.perFrame c.inFmt
        let off := frag * per
        let want := min per (n - off) * c.inFmt.bytes
        let x? := o.chunk? k
        let dup := (x?.map (fun x => x.ins.any (fun y => y.src == r && y.first == off))).getD false
        let opens := decide (begun ≤ i)
        if c.a2a word || c.sendsOf word r ≤ i || (n ≤ off && !(n = 0 && frag = 0)) || payload.length != want || dup ||
            (!opens && !(x?.map (fun x => x.has r && !(x.up && c.merging word))).getD false) then s.breakRope ctx stREJECT false none
        else if opens && c.slots ≤ c.unsettled r then s.breakRope ctx stOVERFLOW false none
        else if c.merging word && x?.isNone && c.slots ≤ c.slotsUsed then s.breakRope ctx stOVERFLOW false none
        else
          let c1 := if opens then c.setUnsettled r (c.unsettled r + 1) else c
          let o1 := if opens then { o with begun := sparseSet (fun _ => 0) o.begun r (i + 1) } else o
          let got := ((x?.map (fun x => x.covered r)).getD 0) + payload.length / c.inFmt.bytes
          let o2 := s.noteMember o1 r (decide (i + 1 = c.sendsOf word r) && decide (n ≤ got))
          if c.merging word then
            let codes := (piecesOf c.inFmt.bytes (payload.length / c.inFmt.bytes) payload).map leNat
            let vals := codes.map (fun v => decodeElem c.inFmt v 0)
            let sum := c.isSum word
            let x : RopeChunk := x?.getD ⟨k, [], 0, false, []⟩
            let y : RopeIn := ⟨r, off, if sum then vals.map (Acc.ofVal c.ovf) else [], if sum then [] else codes⟩
            let res : Nat := if sum then x.sum + residueVals c.seed ((c.baseOf word k + off) % 2 ^ 48) vals else 0
            s.putRope (c1.putOp (o2.insertChunk { x with ins := x.ins ++ [y], sum := res }))
          else (s.putRope (c1.putOp o2)).forwardCopy (c1.putOp o2) o2 k r frag off first last payload

/-- The next chunk a core's transfer hands over, where its window is open (R346). -/
def ropeHand (s : State) (c : RopeCtx) : Option (Flight × Nat) :=
  s.comp.flights.findSome? (fun f =>
    match f.stream, f.op with
    | some x, .fdeMove _ none _ _ _ _ _ =>
      if f.started && x.ctx == c.ctx && x.ended == none then
        ((s.localRanks c).find? (fun r => (c.member r).core && (c.member r).id == f.core && decide (c.unsettled r < c.slots))).map (fun r => (f, r))
      else none
    | _, _ => none)
/-- A core's transfer hands over its next chunk. -/
def handOver (s : State) (c : RopeCtx) (f : Flight) (r : Nat) : State :=
  match f.stream with
  | none => s
  | some x =>
    let word := x.opw % 2 ^ 52
    let len := c.lenOf word (c.enters word r x.chunk) * c.inFmt.bytes
    let rest := f.data.drop len
    let fs := elemFrames (c.perFrame c.inFmt) c.inFmt.bytes (f.data.take len)
    let s1 := s.withComp { s.comp with flights := s.comp.flights.map (fun g =>
      if g.no = f.no then { g with data := rest, stream := some { x with chunk := x.chunk + 1 } } else g) }
    let s2 := fs.foldl (fun t fr => t.contribute c.ctx r (x.opw / 2 ^ 52 % 256) word x.chunk fr.1 (fr.1 == 0) (fr.1 + 1 == fs.length) fr.2.2) s1
    if rest.isEmpty then
      s2.withComp { s2.comp with flights := s2.comp.flights.map (fun g =>
        if g.no = f.no then { g with stream := g.stream.map (fun y => if y.ended == none then { y with ended := some stOK } else y) } else g) }
    else s2

/-- One thing the context may do now: a chunk leaves, a core hands over a chunk, an operation's end goes on. -/
def pumpLoop : Nat → State → Nat → HwCheck → State
  | 0, s, _, _ => s
  | fuel + 1, s, ctx, hw =>
    match s.findRope ctx with
    | none => s
    | some c =>
      if c.broken then s else
      match s.ready c with
      | some (o, x) => pumpLoop fuel (s.leave c o x hw) ctx .none
      | none =>
        match s.ropeHand c with
        | some (f, r) => pumpLoop fuel (s.handOver c f r) ctx hw
        | none =>
          match c.ops.findSome? (fun o => s.settleOp c o) with
          | some t => pumpLoop fuel t ctx hw
          | none => s
/-- Everything a context may do now, it does. -/
def pumpRope (s : State) (ctx : Nat) (hw : HwCheck) : State :=
  match s.findRope ctx with
  | none => s
  | some c =>
    let work := (c.ops.map (fun o => o.chunks.length)).sum + (s.comp.flights.map (fun f => f.data.length + 1)).sum + c.ops.length
    pumpLoop (8 * (work + 8)) s ctx hw

end State
end Sys2Proof.Machine
end

