-- ==== Sys2Proof/Machine/Fde.lean ====
section
/-! DEFINITION. The fabric DMA engine: what a transfer does when it starts, and what its answers come to
(spec/11_proit_operations.md R314 to R319; spec/12 R346; spec/13 R369; spec/16 R446, R452). -/
namespace Sys2Proof.Machine

def isF : Space → Bool
  | .f _ => true
  | _ => false
def isFT (t : Tensor) : Bool := isF t.sp

/-- Adjacent writes joined. -/
def joinWrites : List (Nat × List Byte) → List (Nat × List Byte)
  | [] => []
  | (a, b) :: t =>
    match joinWrites t with
    | [] => [(a, b)]
    | (a', b') :: t' => if a + b.length = a' then (a, b ++ b') :: t' else (a, b) :: (a', b') :: t'

/-- Runs of F bytes in element order, contiguous ones joined (R316). -/
def joinRuns : List (Nat × Nat) → List (Nat × Nat)
  | [] => []
  | (a, n) :: t =>
    match joinRuns t with
    | [] => [(a, n)]
    | (a', n') :: t' => if a + n = a' then (a, n + n') :: t' else (a, n) :: (a', n') :: t'
/-- A run cut at every 4 KiB boundary. -/
def cutRun : Nat → Nat → Nat → List (Nat × Nat)
  | 0, _, _ => []
  | fuel + 1, a, n =>
    if n = 0 then [] else
    let k := min n (4096 - a % 4096)
    (a, k) :: cutRun fuel (a + k) (n - k)
/-- The pieces of a transfer (R316). -/
def fPieces (l : List (Nat × Nat)) : List (Nat × Nat) := (joinRuns l).flatMap (fun r => cutRun (r.2 / 4096 + 2) r.1 r.2)

namespace State

/-- The harness by which core `k` reads or writes model address `a`: its own in H. -/
def ownFde (s : State) (k a : Nat) : Nat := if a < 0x10000000000 then s.coreH k else s.ownOf a

/-- Where `n` bytes at address `o` of a space other than F lie. -/
def locate (s : State) (k : Nat) (sp : Space) (o : Int) (n : Nat) : List (Nat × Nat) :=
  match sp with
  | .h => (s.hRange (s.coreH k) o.toNat n).getD []
  | .f _ => []
  | _ => [(spaceAddr k sp o.toNat, n)]
/-- Runs of every unit of an operand, in row-major order. -/
def unitRuns (s : State) (c : Ctx) (t : Tensor) : List (List (Nat × Nat)) :=
  let b : Int := (c.arg t.base : Int)
  (offsets t.dims).map (fun o => s.locate c.k t.sp (b + o) t.fmt.unit)
/-- Every byte of an operand and its scale array. -/
def opRuns (s : State) (c : Ctx) (t : Tensor) : List (Nat × Nat) :=
  (s.unitRuns c t).flatMap (fun r => r) ++ (c.scaleAddrs t).map (fun a => (a, 1))
/-- Runs read by core `k`. -/
def readAs (s : State) (k : Nat) (rs : List (Nat × Nat)) : List Byte × Bool × State :=
  match rs with
  | [] => ([], false, s)
  | r :: _ => s.memRead (s.ownFde k r.1) rs
/-- Writes made by core `k`, in order; whether some merge failed. -/
def writeAs (s : State) (k : Nat) (ws : List (Nat × List Byte)) : Bool × State :=
  (joinWrites ws).foldl (fun (t : Bool × State) w =>
    let r := t.2.memWrite (t.2.ownFde k w.1) [(w.1, w.2.length)] w.2
    (t.1 || r.1, r.2)) (false, s)

/-- The check of a target in another core's L or another cluster's S (R315). -/
def targetOk (s : State) (c : Ctx) (t : Tensor) : Bool :=
  let e := c.extent t
  match t.sp with
  | .lOf j => s.boundCore j && s.coreH j == s.coreH c.k && decide (0 ≤ e.2.1) && decide (e.2.2 ≤ ((s.cst j).ldata : Int))
  | .sOf x => s.cluOwner x == some (s.coreH c.k) && decide (0x1000000 ≤ e.2.1) && decide (e.2.2 ≤ 0x2800000)
  | _ => true

/-- The units moved: source unit (none: zeros) and destination unit; out-of-range indices; the place of a faulting one;
whether the index tensor read poison (R273, R274). -/
def movePlan (s : State) (c : Ctx) (d a : Tensor) (idx : Option FdeIdx) : List (Option Nat × Nat) × Nat × Option Nat × Bool × State :=
  match idx with
  | none => ((List.range a.units).map (fun j => (some j, j)), 0, none, false, s)
  | some x =>
    let t := if x.read then a else d
    let ix := s.rd c x.ix
    let n := tableRows x.mode t
    let per := t.units / n
    let p := planOf x.oob n ix.1.ints
    let each : Nat → Sel → List (Option Nat × Nat) := fun j y =>
      match y, x.read with
      | .at_ r, true => (List.range per).map (fun q => (some (r * per + q), j * per + q))
      | .at_ r, false => (List.range per).map (fun q => (some (j * per + q), r * per + q))
      | .zero, true => (List.range per).map (fun q => (none, j * per + q))
      | _, _ => []
    ((List.range p.1.length).flatMap (fun j => each j (p.1.getD j .skip)), p.2.1, p.2.2, ix.1.bad, ix.2)

/-- Requests of a transfer, in element order: the pieces, each with the bytes a STORE carries (none: LOADs). -/
def fRequests (s : State) (k feid flow : Nat) (pieces : List (Nat × Nat)) (data : Option (List Byte)) : List Part × State :=
  let r := pieces.foldl (fun (t : List Part × Nat × State) p =>
    let bytes := match data with
      | some b => (b.drop t.2.1).take p.2
      | none => []
    let q := t.2.2.coreRequest k
      { harness := s.coreH k, dst := feid, op := if data.isSome then 2 else 1, flow := flow, addr := p.1, payload := bytes,
        chunk := if data.isSome then 0 else p.2, checkKind := if data.isSome then 1 else 0 }
    (t.1 ++ [⟨q.1, t.2.1, p.2, none⟩], t.2.1 + p.2, q.2)) ([], 0, s)
  (r.1, r.2.2)

/-- A copying fde.move starts (R314 to R317). -/
def moveStart (s : State) (f : Flight) (d a : Tensor) (idx : Option FdeIdx) (flow : Arg) : Flight × State :=
  let c : Ctx := ⟨f.core, f.sregs, f.opts⟩
  let k := f.core
  if !s.targetOk c d || !s.targetOk c a then ({ f with res := { EngRes.none with status := stDENIED } }, s)
  else
    let p := s.movePlan c d a idx
    let u := a.fmt.unit
    let su := s.unitRuns c a
    let du := s.unitRuns c d
    let fo : Tensor → List Nat := fun t => (offsets t.dims).map (fun o => (((c.arg t.base : Int) + o) % (2 : Int) ^ 52).toNat)
    let feid : Tensor → Nat := fun t => match t.sp with | .f x => c.arg x | _ => 0
    -- scale bytes go with their blocks
    let sa := c.scaleAddrs a
    let da := c.scaleAddrs d
    let sc := p.2.2.2.2.readAs k (p.1.filterMap (fun x => x.1.bind (fun j => sa[j]?.map (fun y => (y, 1)))))
    let scw := (p.1.foldl (fun (t : List (Nat × List Byte) × List Byte) x =>
      match da[x.2]?, x.1 with
      | some y, some _ => (t.1 ++ [(y, t.2.take 1)], t.2.drop 1)
      | some y, none => (t.1 ++ [(y, [0#8])], t.2)
      | none, _ => t) ([], sc.1)).1
    let base : EngRes := { EngRes.none with status := if p.2.2.2.1 || sc.2.1 then stPOISON else stOK }
    let res := base.oobFault p.2.2.1 p.2.1
    if isFT a then
      let live := p.1.filterMap (fun x => x.1.map (fun j => (j, x.2)))
      let offs := fo a
      let rq := sc.2.2.fRequests k (feid a) (c.arg flow) (fPieces (live.map (fun x => (nth offs x.1, u)))) none
      let zeros := (p.1.filter (fun x => x.1.isNone)).flatMap (fun x => (du.getD x.2 []).map (fun r => (r.1, List.replicate r.2 (0#8 : Byte))))
      ({ f with res := { res with writes := zeros ++ scw }, parts := rq.1, fill := live.flatMap (fun x => du.getD x.2 []) }, rq.2)
    else
      let src := sc.2.2.readAs k (p.1.flatMap (fun x => (x.1.map (fun j => su.getD j [])).getD []))
      let us := (p.1.foldl (fun (t : List (List Byte) × List Byte) x =>
        match x.1 with
        | some _ => (t.1 ++ [t.2.take u], t.2.drop u)
        | none => (t.1 ++ [List.replicate u 0#8], t.2)) ([], src.1)).1
      let res1 := if src.2.1 then { res with status := stPOISON } else res
      if isFT d then
        let offs := fo d
        let rq := src.2.2.fRequests k (feid d) (c.arg flow) (fPieces (p.1.map (fun x => (nth offs x.2, u)))) (some us.flatten)
        ({ f with res := { res1 with writes := scw }, parts := rq.1 }, rq.2)
      else
        let ws := (p.1.zip us).flatMap (fun x =>
          ((du.getD x.1.2 []).foldl (fun (t : List (Nat × List Byte) × List Byte) r => (t.1 ++ [(r.1, t.2.take r.2)], t.2.drop r.2)) ([], x.2)).1)
        let l := p.1.map (fun x => x.2)
        let twice := (l.filter (fun y => decide (2 ≤ (l.filter (fun z => z == y)).length))).dedup
        ({ f with res := { res1 with writes := ws ++ scw }, undef := twice.flatMap (fun y => du.getD y [] ++ (da[y]?.map (fun z => (z, 1))).toList) }, src.2.2)

/-- The context of a rope stream and how it answers the core: none, or the status the transfer ends with at once. -/
def streamEnds (s : State) (k ctx : Nat) : Option Nat :=
  match s.findRope ctx with
  | none => some stDENIED
  | some c =>
    if c.harness != s.coreH k || !((s.localRanks c).any (fun r => (c.member r).core && (c.member r).id == k)) then some stDENIED
    else if c.broken then some c.cause else none

/-- An FDE operation starts, after its checks. -/
def fdeStart (s : State) (f : Flight) : Flight × State :=
  let c : Ctx := ⟨f.core, f.sregs, f.opts⟩
  let k := f.core
  match f.op with
  | .fdeMove none (some d) (some a) idx flow _ _ => s.moveStart f d a idx flow
  | .fdeMove (some (.rope x)) d a _ _ w ch =>
    let ctx := c.arg x
    let first := (ch.map (fun r => (c.reg r.val).toNat)).getD 0
    let r := match a with
      | some t => s.readAs k ((s.unitRuns c t).flatMap (fun y => y))
      | none => ([], false, s)
    let _ := d
    ({ f with data := r.1, res := { EngRes.none with status := if r.2.1 then stPOISON else stOK },
              stream := some ⟨ctx, (w.map (fun q => (c.reg q.val).toNat)).getD 0, first, first, [], s.streamEnds k ctx⟩ }, r.2.2)
  | .fdeMove (some (.gate x)) _ (some a) _ _ _ _ =>
    let r := s.readAs k ((s.unitRuns c a).flatMap (fun y => y))
    ({ f with res := { EngRes.none with status := if r.2.1 then stPOISON else stOK } },
     r.2.2.withGate { r.2.2.gate with recs := r.2.2.gate.recs ++ [⟨c.arg x, r.1⟩] })
  | .fdePut x a fl anchor =>
    if c.arg x.off % 8 != 0 then ({ f with res := { EngRes.none with status := stDENIED } }, s)
    else
      let q := s.coreRequest k
        { harness := s.coreH k, dst := c.arg x.feid, op := 2, flow := c.arg fl, addr := c.arg x.off, anchor := anchor,
          payload := bytesLE 8 (c.reg a.val).toNat }
      ({ f with parts := [⟨q.1, 0, 8, none⟩] }, q.2)
  | .fdeAmo _ x a b fn w64 signed ordered anchor fl =>
    let n := if w64 then 8 else 4
    let lo := bytesLE 8 ((c.reg a.val).toNat % 2 ^ (8 * n))
    let hi := match b with
      | some r => bytesLE 8 ((c.reg r.val).toNat % 2 ^ (8 * n))
      | none => []
    let q := s.coreRequest k
      { harness := s.coreH k, dst := c.arg x.feid, flow := c.arg fl, addr := c.arg x.off, anchor := anchor,
        op := 0x40 + fn.val + 8 * b2n w64 + 16 * b2n signed + 32 * b2n ordered, payload := lo ++ hi }
    ({ f with parts := [⟨q.1, 0, 8, none⟩] }, q.2)
  | _ => (f, s)

/-- What follows once a stream's transfer stands among those in progress: results that waited for it land, and the
context does what it may (R346). -/
def fdeAfter (s : State) (f : Flight) : State :=
  match f.stream with
  | none => s
  | some x =>
    match x.ended, s.findRope x.ctx with
    | none, some c =>
      let mine := c.held.filter (fun y => (c.member y.1).core && (c.member y.1).id == f.core && y.2.1 == x.opw / 2 ^ 52 % 256 && decide (x.first ≤ y.2.2.1))
      let s1 := if (engDsts f.op).isEmpty then s else
        mine.foldl (fun t y => t.landPiece x.ctx y.1 y.2.1 y.2.2.1 y.2.2.2.1 y.2.2.2.2) (s.putRope { c with held := c.held.filter (fun y => !mine.contains y) })
      s1.pumpRope x.ctx .none
    | _, _ => s

/-- The answers to a transfer's requests, in element order: none while one is missing. -/
def partAnswers (s : State) (f : Flight) : Option (List (Nat × List Byte)) :=
  let l := f.parts.map (fun p => (s.mfb.coreRsp.find? (fun r => r.core == f.core && r.no == p.no)).map (fun r => (r.status, r.data)))
  if l.any (fun x => x.isNone) then none else some (l.filterMap (fun x => x))
/-- May an FDE operation complete? -/
def fdeReady (s : State) (f : Flight) : Bool :=
  (s.partAnswers f).isSome && ((f.stream.map (fun x => x.ended.isSome)).getD true)
/-- An FDE operation with its answers taken in: its writes, registers and status. -/
def fdeEnd (s : State) (f : Flight) : Flight × State :=
  let as := (s.partAnswers f).getD []
  let s1 := s.withMfb { s.mfb with coreRsp := s.mfb.coreRsp.filter (fun r => !(f.parts.any (fun p => p.no == r.no))) }
  let bad := as.find? (fun x => x.1 != stOK && x.1 != stDUPLICATE)
  let loaded := ((f.parts.zip as).map (fun x => padTo x.1.len 0xFF#8 x.2.2)).flatten
  let ws := (f.fill.foldl (fun (t : List (Nat × List Byte) × List Byte) r => (t.1 ++ [(r.1, t.2.take r.2)], t.2.drop r.2)) ([], loaded)).1
  let regs := match f.op with
    | .fdeAmo sd _ _ _ _ _ _ _ _ _ =>
      [(sd.val, match as.head? with
        | some (st, b) => if st = stOK || st = stDUPLICATE then Word.ofN (leNat (b.take 8)) else BitVec.allOnes 64
        | none => BitVec.allOnes 64)]
    | _ => []
  let st := match (f.stream.bind (fun x => x.ended)) with
    | some e => if e != stOK then e else f.res.status
    | none => (match bad with
      | some x => x.1
      | none => f.res.status)
  ({ f with res := { f.res with writes := f.res.writes ++ ws, regs := regs, status := st } }, s1)

end State
end Sys2Proof.Machine
end

