-- ==== Sys2Proof/Machine/Seq.lean ====
section
/-! DEFINITION. The instructions the sequencer executes itself: scalar, control, flags, credit channels, jumar counters
(spec/10_proit_machine.md R278 to R286; spec/07 R186 to R192). Core `k` executes one at its CRX_CORE_PC while it is
RUNNING; branch operands are instruction indexes (R258). -/
namespace Sys2Proof.Machine
namespace State

/-- Does a relation hold (R278)? -/
def condHolds (c : Cond) (a b : Word) : Bool :=
  match c with
  | .eq => a == b | .ne => a != b | .lt => a.slt b | .le => a.sle b | .gt => b.slt a | .ge => b.sle a
  | .ltu => a.ult b | .leu => a.ule b | .gtu => b.ult a | .geu => b.ule a

/-- sD = f sA b, for two operands. -/
def alu (s : State) (k d a : Nat) (b : Opd) (f : Word → Word → Word) : State :=
  s.seqStep k (a :: opdRegs b) (fun t => (t.setSreg k d (f (t.sreg k a) (opdOf (t.sreg k) b))).nextPc k)

/-- ld and st need an aligned word inside the data region (R278). -/
def wordOk (s : State) (k v : Nat) : Bool := v % 8 == 0 && decide (v + 8 ≤ (s.cst k).ldata)
/-- Does an engine instruction in progress write any of these bytes (R184)? -/
def raced (s : State) (rs : List (Nat × Nat)) : Bool := s.comp.flights.any (fun f => f.started && overlap f.dsts rs)

def ld (s : State) (k d : Nat) (b : Arg) : State :=
  s.seqStep k (argRegs b) (fun t =>
    let v := (argOf (t.sreg k) b).toNat
    if !t.wordOk k v then t.seqFault k stDENIED v
    else
      let rs := [(addrL k v, 8)]
      if t.raced rs then (let w := t.freeW; (w.2.setSreg k d w.1).nextPc k)
      else
        let r := t.memRead (t.ownL k) rs
        (r.2.2.setSreg k d (Word.ofN (leNat r.1))).nextPc k)

def st (s : State) (k a : Nat) (b : Arg) : State :=
  s.seqStep k (a :: argRegs b) (fun t =>
    let v := (argOf (t.sreg k) b).toNat
    if !t.wordOk k v then t.seqFault k stDENIED v
    else ((t.memWrite (t.ownL k) [(addrL k v, 8)] (bytesLE 8 (t.sreg k a).toNat)).2).nextPc k)

def setDepth (s : State) (k : Nat) (l : List Nat) : State :=
  (s.setCst k { s.cst k with stack := l }).wf (CRX_CORE_PC.DEPTH k) l.length

def call (s : State) (k l : Nat) : State :=
  s.seqStep k [] (fun t =>
    let st := (t.cst k).stack
    if 16 ≤ st.length then t.seqFault k stOVERFLOW 0 else ((t.setDepth k ((t.pc k + 1) :: st)).setPc k l))
def ret (s : State) (k : Nat) : State :=
  s.seqStep k [] (fun t =>
    match (t.cst k).stack with
    | [] => t.seqFault k stUNDERFLOW 0
    | p :: rest => (t.setDepth k rest).setPc k p)

/-- idle: wait until nothing the core has issued is left. -/
def idle (s : State) (k : Nat) : State :=
  s.seqStep k [] (fun t => if (t.flightsOf k).isEmpty then t.nextPc k else t.block k .drain)
/-- halt sA, with the flag it sets where it names one. -/
def halt (s : State) (k a : Nat) (f : Option FlagRef) : State :=
  if !s.running k then s else
  let go : Option Nat → State := fun key =>
    if (s.flightsOf k).isEmpty then s.haltDone k a key else s.block k (.halt a key)
  match f with
  | none => go none
  | some x =>
    if s.hazard k (flagRegs x) then s else
    match s.flagKey k x with
    | .inl key => go (some key)
    | .inr e => s.seqFault k e.1 e.2

/-- An instruction on a flag: `g` gets the flag's key. -/
def onFlag (s : State) (k : Nat) (f : FlagRef) (g : Nat → State → State) : State :=
  s.seqStep k (flagRegs f) (fun t =>
    match t.flagKey k f with
    | .inl key => g key t
    | .inr e => t.seqFault k e.1 e.2)

/-- An instruction on a credit channel with a count (R281): `g` gets the channel and the count. -/
def onCch (s : State) (k : Nat) (c : Arg) (n : Opd64) (g : Nat → Nat → State → State) : State :=
  s.seqStep k (argRegs c ++ opd64Regs n) (fun t =>
    let ch := (argOf (t.sreg k) c).toNat
    let m := (opd64Of (t.sreg k) n).toNat
    if 65536 ≤ ch then t.seqFault k stREJECT ch
    else if m = 0 || 65535 < m then t.seqFault k stREJECT m
    else if t.cchH ch != some (t.coreH k) then t.seqFault k stDENIED ch
    else g ch m t)
def waitsOnCch (s : State) (g : Nat) : Bool :=
  s.comp.waits.any (fun w => match w.op with | .credit g' _ => g' == g && !w.met | _ => false)
def cchTake (s : State) (g n : Nat) : State := s.setCch g ((s.cchOf g).withField 32 16 (s.cchCount g - n))

/-- An instruction on a jumar counter. -/
def onJumar (s : State) (k : Nat) (j : Arg) (rs : List Nat) (g : Nat → State → State) : State :=
  s.seqStep k (argRegs j ++ rs) (fun t =>
    let n := (argOf (t.sreg k) j).toNat
    if 1024 ≤ n then t.seqFault k stREJECT n
    else if t.jumarH n != some (t.coreH k) then t.seqFault k stDENIED n
    else g n t)

/-- The additions that pass the checks of their own operands: core, counter, value. The others fault or are not made. -/
def jaddSift : List JAdd → State → List (Nat × Nat × Nat) × State
  | [], s => ([], s)
  | x :: t, s =>
    let k := x.core.val
    let j := (argOf (s.sreg k) x.j).toNat
    let v := (opd64Of (s.sreg k) x.v).toNat
    if !s.running k || s.hazard k (argRegs x.j ++ opd64Regs x.v) then jaddSift t s
    else if 1024 ≤ j then jaddSift t (s.seqFault k stREJECT j)
    else if v = 0 || 2 ^ 32 ≤ v then jaddSift t (s.seqFault k stREJECT v)
    else if s.jumarH j != some (s.coreH k) then jaddSift t (s.seqFault k stDENIED j)
    else (let r := jaddSift t s; ((k, j, v) :: r.1, r.2))
/-- Additions to one pair that arrive together are checked once, on the combined result (R192). -/
def jaddPair (s : State) (p : Nat) (l : List (Nat × Nat × Nat)) : State :=
  let e := s.jumar (2 * p) + ((l.filter (fun x => x.2.1 == 2 * p)).map (fun x => x.2.2)).sum
  let o := s.jumar (2 * p + 1) + ((l.filter (fun x => x.2.1 == 2 * p + 1)).map (fun x => x.2.2)).sum
  let bad := if e < o then some stUNDERFLOW
    else if s.rf (CRX_JUMAR_CFG.LIMIT (p / 32) (p % 32)) < e - o then some stOVERFLOW
    else if 2 ^ 64 ≤ e || 2 ^ 64 ≤ o then some stOVERFLOW else none
  match bad with
  | some st => l.foldl (fun t x => t.seqFault x.1 st x.2.1) s
  | none => l.foldl (fun t x => t.nextPc x.1) ((s.setJumar (2 * p) e).setJumar (2 * p + 1) o)
def jadd (s : State) (l : List JAdd) : State :=
  let r := jaddSift l s
  ((r.1.map (fun x => x.2.1 / 2)).dedup).foldl (fun t p => t.jaddPair p (r.1.filter (fun x => x.2.1 / 2 == p))) r.2

end State

/-- mov sD, imm64 or sA. -/
def execMov (k : Fin 512) (d : Fin 32) (a : Opd64) (s : State) : Res :=
  unheld s (s.seqStep k (State.opd64Regs a) (fun t => (t.setSreg k d (State.opd64Of (t.sreg k) a)).nextPc k))
def execAdd (k : Fin 512) (d a : Fin 32) (b : Opd) (s : State) : Res := unheld s (s.alu k d a b (fun x y => x + y))
def execSub (k : Fin 512) (d a : Fin 32) (b : Opd) (s : State) : Res := unheld s (s.alu k d a b (fun x y => x - y))
def execMul (k : Fin 512) (d a : Fin 32) (b : Opd) (s : State) : Res := unheld s (s.alu k d a b (fun x y => x * y))
def execAnd (k : Fin 512) (d a : Fin 32) (b : Opd) (s : State) : Res := unheld s (s.alu k d a b (fun x y => x &&& y))
def execOr (k : Fin 512) (d a : Fin 32) (b : Opd) (s : State) : Res := unheld s (s.alu k d a b (fun x y => x ||| y))
def execXor (k : Fin 512) (d a : Fin 32) (b : Opd) (s : State) : Res := unheld s (s.alu k d a b (fun x y => x ^^^ y))
/-- Shift counts use bits [5:0]. -/
def execShl (k : Fin 512) (d a : Fin 32) (b : Opd) (s : State) : Res := unheld s (s.alu k d a b (fun x y => x <<< (y.toNat % 64)))
def execShr (k : Fin 512) (d a : Fin 32) (b : Opd) (s : State) : Res := unheld s (s.alu k d a b (fun x y => x >>> (y.toNat % 64)))
def execSar (k : Fin 512) (d a : Fin 32) (b : Opd) (s : State) : Res := unheld s (s.alu k d a b (fun x y => x.sshiftRight (y.toNat % 64)))
def execMin (k : Fin 512) (d a : Fin 32) (b : Opd) (s : State) : Res := unheld s (s.alu k d a b (fun x y => if x.slt y then x else y))
def execMax (k : Fin 512) (d a : Fin 32) (b : Opd) (s : State) : Res := unheld s (s.alu k d a b (fun x y => if x.slt y then y else x))
def execMinu (k : Fin 512) (d a : Fin 32) (b : Opd) (s : State) : Res := unheld s (s.alu k d a b (fun x y => if x.ult y then x else y))
def execMaxu (k : Fin 512) (d a : Fin 32) (b : Opd) (s : State) : Res := unheld s (s.alu k d a b (fun x y => if x.ult y then y else x))
/-- cmp.cc sD, sA, b. -/
def execCmp (k : Fin 512) (c : Cond) (d a : Fin 32) (b : Opd) (s : State) : Res :=
  unheld s (s.alu k d a b (fun x y => if State.condHolds c x y then 1 else 0))
/-- ld sD, L:base. -/
def execLd (k : Fin 512) (d : Fin 32) (b : Arg) (s : State) : Res := unheld s (s.ld k d b)
/-- st L:base, sA. -/
def execSt (k : Fin 512) (b : Arg) (a : Fin 32) (s : State) : Res := unheld s (s.st k a b)
/-- time sD: plane time; `d` is by how much the value read differs from it, at most 100 ns. -/
def execTime (k : Fin 512) (r : Fin 32) (d : Int) (s : State) : Res :=
  unheld s (s.seqStep k [] (fun t => (t.setSreg k r (BitVec.ofInt 64 (t.now + max (-100) (min 100 d)))).nextPc k))
def execJmp (k : Fin 512) (l : Fin 1048576) (s : State) : Res := unheld s (s.seqStep k [] (fun t => t.setPc k l))
def execBr (k : Fin 512) (a : Fin 32) (l : Fin 1048576) (s : State) : Res :=
  unheld s (s.seqStep k [a.val] (fun t => if t.sreg k a != 0 then t.setPc k l else t.nextPc k))
def execBrz (k : Fin 512) (a : Fin 32) (l : Fin 1048576) (s : State) : Res :=
  unheld s (s.seqStep k [a.val] (fun t => if t.sreg k a == 0 then t.setPc k l else t.nextPc k))
/-- loop sA: sA - 1, branch while it is not 0. -/
def execLoop (k : Fin 512) (a : Fin 32) (l : Fin 1048576) (s : State) : Res :=
  unheld s (s.seqStep k [a.val] (fun t =>
    let v := t.sreg k a - 1
    if v != 0 then (t.setSreg k a v).setPc k l else (t.setSreg k a v).nextPc k))
def execCall (k : Fin 512) (l : Fin 1048576) (s : State) : Res := unheld s (s.call k l)
def execRet (k : Fin 512) (s : State) : Res := unheld s (s.ret k)
def execIdle (k : Fin 512) (s : State) : Res := unheld s (s.idle k)
def execHalt (k : Fin 512) (a : Fin 32) (f : Option FlagRef) (s : State) : Res := unheld s (s.halt k a f)
def execNop (k : Fin 512) (s : State) : Res := unheld s (s.seqStep k [] (fun t => t.nextPc k))

/-- fset F. -/
def execFset (k : Fin 512) (f : FlagRef) (s : State) : Res := unheld s (s.onFlag k f (fun key t => (t.writeFlag key true).nextPc k))
/-- fclr F. -/
def execFclr (k : Fin 512) (f : FlagRef) (s : State) : Res := unheld s (s.onFlag k f (fun key t => (t.writeFlag key false).nextPc k))
/-- ftest sD, F. -/
def execFtest (k : Fin 512) (d : Fin 32) (f : FlagRef) (s : State) : Res :=
  unheld s (s.onFlag k f (fun key t => (t.setSreg k d (Word.ofN (b2n (t.flagOf key)))).nextPc k))
/-- fwait F, v. -/
def execFwait (k : Fin 512) (f : FlagRef) (v : Bool) (s : State) : Res :=
  unheld s (s.onFlag k f (fun key t => if t.flagOf key == v then t.nextPc k else t.block k (.flag key v false)))
/-- fwait.clr F. -/
def execFwaitClr (k : Fin 512) (f : FlagRef) (s : State) : Res :=
  unheld s (s.onFlag k f (fun key t => if t.flagOf key then (t.writeFlag key false).nextPc k else t.block k (.flag key true true)))

/-- ctake cc, n: a later take never overtakes one that waits. -/
def execCtake (k : Fin 512) (c : Arg) (n : Opd64) (s : State) : Res :=
  unheld s (s.onCch k c n (fun g m t =>
    if t.cchCap g < m then t.seqFault k stUNDERFLOW g
    else if m ≤ t.cchCount g && !t.waitsOnCch g then (t.cchTake g m).nextPc k
    else t.block k (.credit g m)))
/-- ctake.nw cc, n. -/
def execCtakeNw (k : Fin 512) (c : Arg) (n : Opd64) (s : State) : Res :=
  unheld s (s.onCch k c n (fun g m t =>
    if m ≤ t.cchCount g then (t.cchTake g m).nextPc k else t.seqFault k stUNDERFLOW g))
/-- cret cc, n. -/
def execCret (k : Fin 512) (c : Arg) (n : Opd64) (s : State) : Res :=
  unheld s (s.onCch k c n (fun g m t =>
    match t.creditReturn g m with
    | some u => u.nextPc k
    | none => t.seqFault k stOVERFLOW g))
/-- cread sD, cc. -/
def execCread (k : Fin 512) (d : Fin 32) (c : Arg) (s : State) : Res :=
  unheld s (s.onCch k c (.imm 1) (fun g _ t => (t.setSreg k d (Word.ofN (t.cchCount g))).nextPc k))

/-- The additions of jadd that reach their homes in one CORE cycle (R192, R282). -/
def execJadd (l : List JAdd) (s : State) : Res := unheld s (s.jadd l)
/-- jread sD, j. -/
def execJread (k : Fin 512) (d : Fin 32) (j : Arg) (s : State) : Res :=
  unheld s (s.onJumar k j [] (fun n t => (t.setSreg k d (Word.ofN (t.jumar n))).nextPc k))
/-- jwait j, sA: until the counter is at least sA. -/
def execJwait (k : Fin 512) (j : Arg) (a : Fin 32) (s : State) : Res :=
  unheld s (s.onJumar k j [a.val] (fun n t =>
    if (t.sreg k a).toNat ≤ t.jumar n then t.nextPc k else t.block k (.jumar n (t.sreg k a).toNat)))

end Sys2Proof.Machine
end

