-- ==== Sys2Proof/Machine/EngIssue.lean ====
section
/-! DEFINITION. Issue, start and completion of engine and TEN instructions (spec/07_compute_model.md R182 to R185;
spec/10_proit_machine.md R270, R275 to R277, R284, R285; spec/11 R291, R292). -/
namespace Sys2Proof.Machine

/-- The engine of an operation, as CRX_CORE_FAULT.UNIT numbers it (R202). -/
def engOf : EngOp → Nat
  | .vreSum _ _ _ => 1
  | .vreDot _ _ _ _ => 1
  | .vreAxpy _ _ _ _ => 1
  | .vreMin _ _ => 1
  | .vreMax _ _ => 1
  | .vreSumPair _ _ _ _ => 1
  | .vreDotPair _ _ _ _ _ => 1
  | .gseGather _ _ _ _ _ => 2
  | .gseScatter _ _ _ _ _ => 2
  | .gseScatadd _ _ _ _ _ => 2
  | .sseSort _ _ _ _ => 3
  | .sseTopk _ _ _ _ _ => 3
  | .sseSelect _ _ _ _ => 3
  | .sseCompact _ _ _ _ => 3
  | .sseFilter _ _ _ _ _ => 3
  | .sseDedup _ _ _ _ => 3
  | .sseHist _ _ _ _ => 3
  | .tenMma _ _ _ _ _ _ _ => 6
  | .fdeMove _ _ _ _ _ _ _ => 5
  | .fdePut _ _ _ _ => 5
  | .fdeAmo _ _ _ _ _ _ _ _ _ _ => 5
  | _ => 4
/-- Places of an engine's queue for one core (R182). -/
def queueCap (eng : Nat) : Nat := if eng = 6 then 2 else if eng = 5 then 16 else 8

/-- Arithmetic flags an operation may set (R293). -/
def flagMask : EngOp → Nat
  | .gseGather _ _ _ _ _ => 0
  | .gseScatter _ _ _ _ _ => 0
  | .sseSort _ _ _ _ => fNanIn
  | .sseTopk _ _ _ _ _ => fNanIn
  | .sseFilter _ _ _ _ _ => fNanIn
  | .sseDedup _ _ _ _ => fNanIn
  | .sseHist _ _ _ _ => fOvf
  | .sseSelect _ _ _ _ => 0
  | .sseCompact _ _ _ _ => 0
  | .vreMin _ _ => fNanIn
  | .vreMax _ _ => fNanIn
  | .cdcUnpack _ _ => 0
  | .cdcPack _ _ => 0
  | .cdcSpx _ _ _ _ => 0
  | .cdcSpc _ _ _ _ => 0
  | .cdcCrc _ _ _ => 0
  | .cdcRes _ _ => 0
  | .cdcCrcChk _ _ _ => 0
  | .cdcResChk _ _ => 0
  | .fdeMove _ _ _ _ _ _ _ => 0
  | .fdePut _ _ _ _ => 0
  | .fdeAmo _ _ _ _ _ _ _ _ _ _ => 0
  | _ => 31
/-- Index count of an operation that takes an index tensor, and whether an out-of-range index faults. -/
def indexOf : EngOp → Option (Oob × Nat)
  | .gseGather _ o _ _ i => some (o, i.elems)
  | .gseScatter _ o _ _ i => some (o, i.elems)
  | .gseScatadd _ o _ _ i => some (o, i.elems)
  | .sseHist _ o _ a => some (o, a.elems)
  | .fdeMove _ _ _ (some x) _ _ _ => some (x.oob, x.ix.elems)
  | _ => none
/-- Elements that an operation with a count may find. -/
def countMax : EngOp → Option Nat
  | .sseCompact _ _ a _ => some a.elems
  | .sseFilter _ _ _ _ a => some a.elems
  | .sseDedup _ _ _ a => some a.elems
  | .cdcSpx _ d _ _ => some d.elems
  | .cdcSpc _ _ _ a => some a.elems
  | _ => none

namespace State

def mapFlight (s : State) (no : Nat) (g : Flight → Flight) : State :=
  s.withComp { s.comp with flights := s.comp.flights.map (fun f => if f.no = no then g f else f) }

/-! ## Overlap (R184, R292) -/

/-- Is a source read in place by this destination (R292)? -/
def inPlace (c : Ctx) (op : EngOp) (d x : Tensor) : Bool :=
  (match op with
   | .vreAxpy _ _ _ _ => true
   | .sseSelect _ _ _ _ => true
   | .cdcCvt _ _ => true
   | _ => false) &&
  d.sp == x.sp && c.arg d.base == c.arg x.base && d.shape == x.shape && d.strides == x.strides && d.fmt.bits == x.fmt.bits &&
  (d.scale.map (fun y => (y.inS, c.arg y.base))) == (x.scale.map (fun y => (y.inS, c.arg y.base)))
/-- Runs of a tile mask. -/
def maskRuns (c : Ctx) (op : EngOp) : List (Nat × Nat) :=
  (maskExtent c op).map (fun e => (spaceAddr c.k .s e.2.1.toNat, (e.2.2 - e.2.1).toNat))
/-- Runs of the destinations that share a byte with something else of their own instruction. -/
def selfOverlap (s : State) (c : Ctx) (op : EngOp) : List (Nat × Nat) :=
  let ds := engDsts op
  (List.range ds.length).flatMap (fun i =>
    match ds[i]? with
    | none => []
    | some d =>
      let mine := (s.unitRuns c d).flatten
      let sc := (c.scaleAddrs d).map (fun a => (a, 1))
      let others := ((engSrcs op).filter (fun x => !inPlace c op d x)).flatMap (s.opRuns c) ++ maskRuns c op ++
        (List.range ds.length).flatMap (fun j => if j = i then [] else (ds[j]?.map (s.opRuns c)).getD [])
      if overlap mine (others ++ sc) || overlap sc others then mine ++ sc else [])

/-- Bytes an instruction reads. The table of a gather counts by the rows selected. -/
def readRuns (s : State) (c : Ctx) (op : EngOp) : List (Nat × Nat) :=
  match op with
  | .gseGather m oob _ t i =>
    let n := tableRows m t
    let p := planOf oob n (s.rd c i).1.ints
    let per := t.units / n
    let us := s.unitRuns c t
    let sc := c.scaleAddrs t
    s.opRuns c i ++ (p.1.filterMap (fun x => match x with | .at_ r => some r | _ => none)).flatMap (fun r =>
      (rowAt per us r).flatten ++ (rowAt per sc r).map (fun a => (a, 1)))
  | .fdeMove _ _ (some a) (some x) _ _ _ =>
    if x.read then
      (let us := s.unitRuns c a
       s.opRuns c x.ix ++ (s.movePlan c a a (some x)).1.flatMap (fun y => (y.1.map (fun j => us.getD j [])).getD []))
    else s.opRuns c a ++ s.opRuns c x.ix
  | _ => (engSrcs op).flatMap (s.opRuns c) ++ maskRuns c op
/-- Bytes an instruction writes: all of its destinations, but for a table only what its indices select. -/
def writtenRuns (s : State) (c : Ctx) (f : Flight) : List (Nat × Nat) :=
  let w := f.res.writes.map (fun x => (x.1, x.2.length)) ++ f.fill
  match f.op with
  | .gseScatter _ _ _ _ _ => w
  | .gseScatadd _ _ _ _ _ => w
  | .fdeMove _ _ _ (some x) _ _ _ => if x.read then (engDsts f.op).flatMap (s.opRuns c) else w
  | op => (engDsts op).flatMap (s.opRuns c)

/-! ## Start -/

/-- A queued instruction starts: its checks, its reads and its result (R284). -/
def startFlight (s : State) (f : Flight) : State :=
  let c : Ctx := ⟨f.core, f.sregs, f.opts⟩
  match startCheck s c f.eng f.op with
  | some e => s.coreFault f.core e.1 e.2.1 f.pc e.2.2 0 0 0
  | none =>
    let srcs := s.readRuns c f.op
    let und := s.selfOverlap c f.op
    let r := if f.eng = 5 then s.fdeStart f else (let x := compute s c f.op; ({ f with res := x.1 }, x.2))
    let g := r.1
    let dsts := s.writtenRuns c g
    let others := r.2.comp.flights.filter (fun x => x.started && x.no != f.no)
    let hit := others.any (fun x => overlap x.dsts (srcs ++ dsts))
    let g1 := { g with started := true, srcs := srcs, dsts := dsts, taint := hit, undef := g.undef ++ und }
    let s1 := r.2.withComp { r.2.comp with flights := r.2.comp.flights.map (fun x =>
      if x.no = f.no then g1
      else if x.started && (overlap dsts x.srcs || overlap dsts x.dsts) then { x with taint := true } else x) }
    (if f.eng = 6 then s1.wakeTen (f.core / 8) else s1).fdeAfter g1

/-- The head of a core's queue starts where its engine can take it (R182, R183). -/
def pumpCore (s : State) (k eng : Nat) : State :=
  let mine := s.comp.flights.filter (fun f => f.core == k && f.eng == eng)
  let room := if eng = 5 then 16 else 1
  if (mine.filter (fun f => f.started)).length < room then
    (match mine.find? (fun f => !f.started) with
     | some f => s.startFlight f
     | none => s)
  else s
/-- The core a TEN serves next: the first after the last in ascending order that has a request waiting (R185). -/
def tenNext (s : State) (clu : Nat) : Option Nat :=
  let last := sparseGet (fun _ => 7) s.comp.tenLast clu
  ((List.range 8).map (fun i => 8 * clu + (last + 1 + i) % 8)).find? (fun k =>
    s.comp.flights.any (fun f => f.core == k && f.eng == 6 && !f.started))
/-- A TEN that is free takes its next request; one whose checks fail leaves it free. -/
def pumpTen : Nat → State → Nat → State
  | 0, s, _ => s
  | fuel + 1, s, clu =>
    if s.comp.flights.any (fun f => f.eng == 6 && f.core / 8 == clu && f.started) then s else
    match s.tenNext clu with
    | none => s
    | some k =>
      match s.comp.flights.find? (fun f => f.core == k && f.eng == 6) with
      | none => s
      | some f =>
        pumpTen fuel ((s.withComp { s.comp with tenLast := sparseSet (fun _ => 7) s.comp.tenLast clu (k % 8) }).startFlight f) clu
def pumpEng (s : State) (k eng : Nat) : State := if eng = 6 then pumpTen 17 s (k / 8) else s.pumpCore k eng

/-! ## Issue (R182, R270) -/

def queueFull (s : State) (k eng : Nat) : Bool :=
  decide (queueCap eng ≤ (s.comp.flights.filter (fun f => f.core == k && f.eng == eng && !f.started)).length)

/-- Core `k` issues an engine instruction; a full queue stalls the SEQ before it. -/
def issue (s : State) (k : Nat) (op : EngOp) (o : Opts) : State :=
  s.seqStep k (engReads op o) (fun t =>
    let e := engOf op
    if t.queueFull k e then t.block k (.queue e)
    else
      let f : Flight := { no := t.comp.next, core := k, eng := e, op := op, opts := o, sregs := (t.cst k).sregs, pc := t.pc k,
                          started := false, srcs := [], dsts := [], taint := false, res := EngRes.none, data := [], parts := [],
                          fill := [], undef := [], stream := none }
      ((t.withComp { t.comp with flights := t.comp.flights ++ [f], next := t.comp.next + 1 }).nextPc k).pumpEng k e)

/-- A place is free: the SEQ that stalled goes on to issue its instruction. -/
def unqueue (s : State) (k eng : Nat) : State :=
  match s.waitOf k with
  | some w => if w.op == .queue eng && !s.queueFull k eng && s.cstate k == 3 then (s.dropWait k).wf (CRX_CORE_STS.STATE k) 2 else s
  | none => s

/-! ## Completion (R275 to R277, R291) -/

/-- A free accumulator. -/
def freeAcc (s : State) : Acc × State :=
  let a := s.freeB 61
  let b := (a.1.getLastD 0).toNat
  let bit : Nat → Bool := fun i => b / 2 ^ i % 2 == 1
  ({ v := (leNat (a.1.take 60) : Int) - 2 ^ 479, wrap := 0, nan := bit 0, invalid := bit 1, pinf := bit 2, ninf := bit 3, ovt := bit 4,
     nonempty := bit 5, nz := bit 6, pz := bit 7 }, a.2)
def freeAccs : Nat → State → List Acc × State
  | 0, s => ([], s)
  | n + 1, s => (let a := s.freeAcc; let r := freeAccs n a.2; (a.1 :: r.1, r.2))

/-- The result of an instruction whose operands other units wrote or read under it (R184): every value it takes from them
is free. Answers of MEM requests keep their status. -/
def blur (s : State) (f : Flight) : EngRes × State :=
  let a := s.freeW
  let b := a.2.freeW
  let d := b.2.freeW
  let regs := f.res.regs.foldl (fun (t : List (Nat × Word) × State) r =>
    match f.op with
    | .fdeAmo _ _ _ _ _ _ _ _ _ _ => (t.1 ++ [r], t.2)
    | op => (let w := t.2.freeW
             (t.1 ++ [(r.1, match countMax op with
                | some n => Word.ofN (w.1.toNat % (n + 1))
                | none => w.1)], w.2))) ([], d.2)
  let kept := match f.res.kept with
    | some (some x) => (let r := freeAccs x.accs.length regs.2; (some (some { x with accs := r.1 }), r.2))
    | x => (x, regs.2)
  let pick := b.1.toNat % 3
  let status := if f.eng = 5 && f.res.status != stOK then f.res.status
    else if pick = 0 then stOK else if pick = 2 && (countMax f.op).isSome then stOVERFLOW else stPOISON
  let chk := match f.op with
    | .cdcCrcChk _ _ _ => true
    | .cdcResChk _ _ => true
    | _ => false
  let want := match f.res.fault with
    | some x => x.2.2.2.1
    | none => 0
  let fault := if chk then (if d.1.toNat % 2 = 0 then none else some (stCHECK, a.1.toNat, 8, want, a.1.toNat))
    else match indexOf f.op with
      | some (.fault, n) => if d.1.toNat % 2 = 0 then none else some (stDENIED, a.1.toNat % n, 0, 0, 0)
      | _ => none
  let oob := match indexOf f.op with
    | some (.fault, _) => 0
    | some (_, n) => d.1.toNat % (n + 1)
    | none => 0
  ({ f.res with regs := regs.1, kept := kept.1, status := status, fault := fault, oob := oob,
                flags := a.1.toNat / 2 ^ 59 &&& flagMask f.op }, kept.2)

/-- Registers are written in order: result, count, status word (R291). -/
def writeRegs (s : State) (k : Nat) (l : List (Nat × Word)) : State := l.foldl (fun t r => t.setSreg k r.1 r.2) s

/-- What a completion does to memory. -/
def applyWrites (s : State) (f : Flight) (r : EngRes) : Bool × State :=
  let c : Ctx := ⟨f.core, f.sregs, f.opts⟩
  let w := s.writeAs f.core r.writes
  let free := (if f.taint then (engDsts f.op).flatMap (s.opRuns c) ++ f.dsts else []) ++ f.undef
  let t := free.foldl (fun (u : State) x =>
    let b := u.freeB x.2
    (b.2.memWrite (b.2.ownFde f.core x.1) [x] b.1).2) w.2
  (w.1, t)

/-- An instruction in progress completes, or faults as it ends. -/
def complete (s : State) (f0 : Flight) (err : EngErr) : State :=
  let k := f0.core
  let e := f0.eng
  match err with
  | .state => (s.coreFault k stPOISON e f0.pc 0 0 0 0).pumpEng k e
  | .column want got =>
    if e = 6 then ((s.inc (CRX_CNT_TEN_FAIL.V (k / 32))).coreFault k stCHECK e f0.pc got.toNat 7 want.toNat got.toNat).pumpEng k e else s
  | .none =>
    let q := if e = 5 then s.fdeEnd f0 else (f0, s)
    let f := q.1
    let b := if f.taint then q.2.blur f else (f.res, q.2)
    let r := b.1
    let s1 := b.2.withComp { b.2.comp with flights := b.2.comp.flights.filter (fun x => x.no != f.no) }
    let w := s1.applyWrites f r
    let s2 := r.cnts.foldl (fun t x => t.count x.1 x.2) w.2
    match r.fault with
    | some x => (s2.coreFault k x.1 e f.pc x.2.1 x.2.2.1 x.2.2.2.1 x.2.2.2.2).pumpEng k e
    | none =>
      let st := if e = 5 && w.1 && r.status = stOK then stPOISON else r.status
      let c := s2.cst k
      let s3 := s2.setCst k { c with arith := c.arith ||| r.flags, kept := r.kept.getD c.kept }
      let s4 := s3.setReg (CRX_CORE_ARITH.a k) (Word.ofN ((s3.reg (CRX_CORE_ARITH.a k)).toNat ||| r.flags))
      let s5 := s4.writeRegs k (r.regs ++ f.opts.st.toList.map (fun x => (x.val, Word.ofN (statusWord st r.flags r.oob))))
      let regs : Nat → Word := fun i => f.sregs.getD i 0
      let s6 := match f.opts.done with
        | some d => s5.writeFlag (doneKey k regs d) true
        | none => s5
      ((s6.pumpEng k e).unqueue k e).drained k

/-- The `i`-th instruction in progress on an engine of core `k` completes; an FDE transfer only once every request is
answered and its stream has ended. -/
def engineComplete (s : State) (k eng i : Nat) (err : EngErr) : State :=
  match (s.comp.flights.filter (fun f => f.core == k && f.eng == eng && f.started))[i]? with
  | none => s
  | some f => if eng = 5 && err == .none && !s.fdeReady f then s else s.complete f err

/-- CRX_CORE_CTL.HALT (R161, R200). -/
def halted (s : State) (k : Nat) : State := pumpTen 17 (s.haltCore k) (k / 8)

end State

/-- An engine instruction of core `k`, where Proit accepts its form. -/
def issueRow (name : String) (k : Nat) (op : EngOp) (o : Opts) (s : State) : Res :=
  if okEng op o then unheld s (s.issue k op o) else .fault (.illFormed name)

/-! ## Vector reduce engine (R294 to R297) -/
def execVreSum (k : Fin 512) (acc : AccOpt) (d a : Tensor) (o : Opts) (s : State) : Res := issueRow "VRE_SUM" k (.vreSum acc d a) o s
def execVreDot (k : Fin 512) (acc : AccOpt) (d a b : Tensor) (o : Opts) (s : State) : Res := issueRow "VRE_DOT" k (.vreDot acc d a b) o s
def execVreAxpy (k : Fin 512) (r : Fin 32) (d x y : Tensor) (o : Opts) (s : State) : Res := issueRow "VRE_AXPY" k (.vreAxpy r d x y) o s
def execVreMin (k : Fin 512) (d a : Tensor) (o : Opts) (s : State) : Res := issueRow "VRE_MIN" k (.vreMin d a) o s
def execVreMax (k : Fin 512) (d a : Tensor) (o : Opts) (s : State) : Res := issueRow "VRE_MAX" k (.vreMax d a) o s
def execVreSumPair (k : Fin 512) (acc : AccOpt) (dh dl a : Tensor) (o : Opts) (s : State) : Res :=
  issueRow "VRE_SUM_PAIR" k (.vreSumPair acc dh dl a) o s
def execVreDotPair (k : Fin 512) (acc : AccOpt) (dh dl a b : Tensor) (o : Opts) (s : State) : Res :=
  issueRow "VRE_DOT_PAIR" k (.vreDotPair acc dh dl a b) o s

/-! ## Gather and scatter engine (R298 to R300) -/
def execGseGather (k : Fin 512) (m : IMode) (oob : Oob) (d t i : Tensor) (o : Opts) (s : State) : Res :=
  issueRow "GSE_GATHER" k (.gseGather m oob d t i) o s
def execGseScatter (k : Fin 512) (m : IMode) (oob : Oob) (t x i : Tensor) (o : Opts) (s : State) : Res :=
  issueRow "GSE_SCATTER" k (.gseScatter m oob t x i) o s
def execGseScatadd (k : Fin 512) (m : IMode) (oob : Oob) (t x i : Tensor) (o : Opts) (s : State) : Res :=
  issueRow "GSE_SCATADD" k (.gseScatadd m oob t x i) o s

/-! ## Sort and select engine (R301 to R305) -/
def execSseSort (k : Fin 512) (desc : Bool) (dk dp key : Tensor) (o : Opts) (s : State) : Res :=
  issueRow "SSE_SORT" k (.sseSort desc dk dp key) o s
def execSseTopk (k : Fin 512) (desc : Bool) (n : Arg) (dv dp key : Tensor) (o : Opts) (s : State) : Res :=
  issueRow "SSE_TOPK" k (.sseTopk desc n dv dp key) o s
def execSseSelect (k : Fin 512) (d m a b : Tensor) (o : Opts) (s : State) : Res := issueRow "SSE_SELECT" k (.sseSelect d m a b) o s
def execSseCompact (k : Fin 512) (cnt : Option (Fin 32)) (d a m : Tensor) (o : Opts) (s : State) : Res :=
  issueRow "SSE_COMPACT" k (.sseCompact cnt d a m) o s
def execSseFilter (k : Fin 512) (cmp : Cond) (thr : Fin 32) (cnt : Option (Fin 32)) (d a : Tensor) (o : Opts) (s : State) : Res :=
  issueRow "SSE_FILTER" k (.sseFilter cmp thr cnt d a) o s
def execSseDedup (k : Fin 512) (cnt : Option (Fin 32)) (d dp a : Tensor) (o : Opts) (s : State) : Res :=
  issueRow "SSE_DEDUP" k (.sseDedup cnt d dp a) o s
def execSseHist (k : Fin 512) (add : Bool) (oob : Oob) (d a : Tensor) (o : Opts) (s : State) : Res :=
  issueRow "SSE_HIST" k (.sseHist add oob d a) o s

/-! ## Tensor engine (R306 to R309) -/
def execTenMma (k : Fin 512) (add ta tb : Bool) (tmask : Option Arg) (c a b : Tensor) (o : Opts) (s : State) : Res :=
  issueRow "TEN_MMA" k (.tenMma add ta tb tmask c a b) o s

/-! ## Codec engine (R310 to R313) -/
def execCdcCvt (k : Fin 512) (d a : Tensor) (o : Opts) (s : State) : Res := issueRow "CDC_CVT" k (.cdcCvt d a) o s
def execCdcMxq (k : Fin 512) (d a : Tensor) (o : Opts) (s : State) : Res := issueRow "CDC_MXQ" k (.cdcMxq d a) o s
def execCdcUnpack (k : Fin 512) (d a : Tensor) (o : Opts) (s : State) : Res := issueRow "CDC_UNPACK" k (.cdcUnpack d a) o s
def execCdcPack (k : Fin 512) (d a : Tensor) (o : Opts) (s : State) : Res := issueRow "CDC_PACK" k (.cdcPack d a) o s
def execCdcSpx (k : Fin 512) (cnt : Option (Fin 32)) (d v m : Tensor) (o : Opts) (s : State) : Res :=
  issueRow "CDC_SPX" k (.cdcSpx cnt d v m) o s
def execCdcSpc (k : Fin 512) (cnt : Option (Fin 32)) (v m a : Tensor) (o : Opts) (s : State) : Res :=
  issueRow "CDC_SPC" k (.cdcSpc cnt v m a) o s
def execCdcSplit (k : Fin 512) (dh dl a : Tensor) (o : Opts) (s : State) : Res := issueRow "CDC_SPLIT" k (.cdcSplit dh dl a) o s
def execCdcCrc (k : Fin 512) (sd : Fin 32) (init : Option (Fin 32)) (a : Tensor) (o : Opts) (s : State) : Res :=
  issueRow "CDC_CRC" k (.cdcCrc sd init a) o s
def execCdcRes (k : Fin 512) (sd : Fin 32) (a : Tensor) (o : Opts) (s : State) : Res := issueRow "CDC_RES" k (.cdcRes sd a) o s
def execCdcCrcChk (k : Fin 512) (init : Option (Fin 32)) (a : Tensor) (se : Fin 32) (o : Opts) (s : State) : Res :=
  issueRow "CDC_CRC_CHK" k (.cdcCrcChk init a se) o s
def execCdcResChk (k : Fin 512) (a : Tensor) (se : Fin 32) (o : Opts) (s : State) : Res := issueRow "CDC_RES_CHK" k (.cdcResChk a se) o s

/-! ## Fabric DMA engine (R314 to R319) -/
def execFdeMove (k : Fin 512) (p : Option Space) (d a : Option Tensor) (idx : Option FdeIdx) (flow : Arg) (opw chunk : Option (Fin 32))
    (o : Opts) (s : State) : Res := issueRow "FDE_MOVE" k (.fdeMove p d a idx flow opw chunk) o s
def execFdePut (k : Fin 512) (x : FLoc) (a : Fin 32) (flow : Arg) (anchor : Bool) (o : Opts) (s : State) : Res :=
  issueRow "FDE_PUT" k (.fdePut x a flow anchor) o s
def execFdeAmo (k : Fin 512) (sd : Fin 32) (x : FLoc) (a : Fin 32) (b : Option (Fin 32)) (fn : Fin 8) (w64 signed ordered anchor : Bool)
    (flow : Arg) (o : Opts) (s : State) : Res := issueRow "FDE_AMO" k (.fdeAmo sd x a b fn w64 signed ordered anchor flow) o s

/-- An engine or TEN instruction of core `k` completes: engine 1 VRE, 2 GSE, 3 SSE, 4 CDC, 5 FDE, 6 TEN; `i` counts those
in progress; `err`: what its checks found (R275). -/
def execEngineComplete (k : Fin 512) (eng : Fin 7) (i : Fin 16) (err : EngErr) (s : State) : Res := unheld s (s.engineComplete k eng i err)
/-- CRX_CORE_CTL.HALT of core `k` (R161). -/
def execCoreHalt (src : Src) (k : Fin 512) (s : State) : Res := unheld s (s.guardWrite src (CRX_CORE_CTL.a k) (fun t => t.halted k))

end Sys2Proof.Machine
end

