-- ==== Sys2Proof/Machine/Power.lean ====
section
/-! DEFINITION. Power: the crampon, the clock, calibration, droop, voltage trims, low-power states and energy accounts
(spec/17_power.md R471 to R488; spec/21 R570; spec/06 R173). -/
namespace Sys2Proof.Machine

/-- The smallest integer not below `a` / `b`, for `b` > 0. -/
def ceilDiv (a b : Int) : Int := -((-a) / b)

namespace State

/-- Hub 2, which holds the crampon, answers the crossbar (R518); out of reset. -/
def crampon (s : State) : Bool := !s.boot.held && !s.fault.outUnits.contains (unitHub 2)

/-! ## The CORE clock (R477, R480) -/

/-- The crampon's ceiling on the CORE clock. -/
def ceilingMhz (s : State) : Nat := gradeMhz - 100 * s.power.steps
/-- The clock in force follows CORE_MHZ and the ceiling. -/
def setClock (s : State) : State :=
  (s.wf PWR_STS.CORE_MHZ_ACT (min (s.rf PWR_CTL.CORE_MHZ) s.ceilingMhz)).wf PWR_STS.CEILING (b2n (decide (s.ceilingMhz < s.rf PWR_CTL.CORE_MHZ)))

/-- A write of PWR_CTL: each field within its range, or the whole write is refused (R477, R478). -/
def writePwrCtl (s : State) (src : Src) (v : Word) : State :=
  let mhz := v.field 0 11
  let cap := v.field 11 12
  if mhz < 800 || gradeMhz < mhz || mhz % 100 != 0 || cap < 1500 || gradeW < cap then s.reject src PWR_CTL.a
  else ((s.wf PWR_CTL.CORE_MHZ mhz).wf PWR_CTL.CAP_W cap).setClock

/-! ## Energy accounts (R173, R486) -/

/-- The harness an energy is charged to: harness 0 in place of one that is FREE. -/
def payer (s : State) (e : EnergyOf) : Nat :=
  let h := match e with
    | .core k => if s.boundCore k.val then s.coreH k.val else 0
    | .cluster c => (s.cluOwner c.val).getD 0
    | .context h => h.val
    | .frame h => h.val
    | .port P => s.rf (PRT_PORT_ID.HARNESS P.val)
    | .pool q => if s.poolHeld q.val then s.rf (POOL_CFG.HARNESS q.val) else 0
    | .system => 0
  if s.hrnState h = 0 then 0 else h

/-- `n` nJ charged to harness `h`; whole microjoules reach its account, and the alarm is raised as the account crosses
HRN_ENERGY_ALARM from below. -/
def charge (s : State) (h n : Nat) : State :=
  let t := (lookupKey s.power.frac h).getD 0 + n
  let s1 := s.withPower { s.power with frac := sparseSet (fun _ => 0) s.power.frac h (t % 1000) }
  if t < 1000 then s1 else
  let old := s1.rf (HRN_ENERGY_UJ.V h)
  let lim := s1.rf (HRN_ENERGY_ALARM.V h)
  let s2 := s1.count (HRN_ENERGY_UJ.V h) (t / 1000)
  if lim != 0 && decide (old < lim) && decide (lim ≤ old + t / 1000) then
    s2.report ⟨clPOWER, 0x03, 1, stOK, unitHub 2, h, bytesLE 8 (s2.rf (HRN_ENERGY_UJ.V h))⟩
  else s2

/-- The energy of an interval, `total` nJ, charged by its shares; the remainder goes to harness 0. -/
def chargeAll (s : State) (total : Nat) (shares : List (EnergyOf × BitVec 32)) : State :=
  let s1 := shares.foldl (fun t x => t.charge (t.payer x.1) x.2.toNat) s
  s1.charge 0 (total - (shares.map (fun x => x.2.toNat)).sum)

/-- Package energy in whole joules (R560). -/
def countJoules (s : State) (n : Nat) : State :=
  let t := s.cairn.joule + n
  let s1 := s.withCairn { s.cairn with joule := t % 1000000000 }
  if t < 1000000000 then s1 else s1.count (CRN_LIFE.V 16) (t / 1000000000)

/-! ## The interval (R478 to R481) -/

/-- DETAIL of a POWER record: EST_W and K (R511). -/
def powerDetail (s : State) : List Byte := bytesLE 2 (s.rf PWR_STS.EST_W) ++ bytesLE 2 (s.rf PWR_CAL.K)

/-- b of the next interval in 64ths: b + x / P_full rounded up to a 64th and held within 0 to 56, from P and the
CORE-domain dynamic part at bubble fraction `b`, both in 2^-14 mW (R479). -/
def nextBubble (p pcd cap b : Nat) : Nat :=
  let x : Int := (p : Int) - (cap : Int) * 1000 * 16384
  let n : Int := (b : Int) + ceilDiv (x * (64 - (b : Int))) (pcd : Int)
  (max 0 (min 56 n)).toNat

/-- The boundary of a 1 µs interval. `dyn` and `cd`: dynamic power of all blocks and of the CORE domain before K, in mW;
`leak`: leakage, in mW; `lent`: LENT_W; `dies`: the measured voltage and temperature of crux dies; `shares`: energies by
consumer, in nJ. -/
def interval (s : State) (dyn cd leak : Nat) (lent : Nat) (dies : List (Fin 16 × DieRead)) (shares : List (EnergyOf × BitVec 32)) :
    State :=
  if !s.crampon then s else
  let k := s.rf PWR_CAL.K
  let b := s.rf PWR_STS.BUBBLE
  let p := k * dyn + leak * 16384
  let pcd := k * cd
  let s0 := dies.foldl (fun t d => (t.wf (PWR_DIE_STS.VMEAS_MV d.1.val) d.2.vmeas.toNat).wf (PWR_DIE_STS.TJ_C d.1.val) d.2.tj.toNat) s
  let s1 := s0.count PWR_CNT_BUBBLE.V (s0.rf PWR_STS.CORE_MHZ_ACT * b / 4)
  let w := p / 16384
  let s2 := (s1.wf PWR_STS.EST_W (min 4095 (w / 1000))).wf PWR_STS.LENT_W lent
  let s3 := s2.withPower { s2.power with est := p, sum := s2.power.sum + p }
  let s4 := if pcd = 0 then (s3.freeW.2).wf PWR_STS.BUBBLE (s3.freeW.1.toNat % 57)
    else s3.wf PWR_STS.BUBBLE (nextBubble p pcd (s3.rf PWR_CTL.CAP_W) b)
  (s4.chargeAll w shares).countJoules w

/-- P exceeds CAP_W. -/
def overCap (s : State) : Bool := decide (s.rf PWR_CTL.CAP_W * 1000 * 16384 < s.power.est)

/-- 1 ms with b at 56/64 and P above the cap lowers the ceiling by 100 MHz, not below 800; 1 ms with b below 32/64 raises
it, not above the grade limit (R480). -/
def ceilingStep (s : State) : State :=
  if !s.crampon then s else
  let b := s.rf PWR_STS.BUBBLE
  let go : State → Nat → State := fun t n =>
    let u := (t.withPower { t.power with steps := n }).setClock
    u.trace 6 (unitHub 2) 0 (bytesLE 2 u.ceilingMhz)
  if b = 56 && s.overCap && decide (800 < s.ceilingMhz) then (go s (s.power.steps + 1)).inc PWR_CNT_STEPDOWN.V
  else if b < 32 && s.power.steps != 0 then go s (s.power.steps - 1) else s

/-- 10 ms at a ceiling of 800 MHz with P above the cap (R480). -/
def powerCap (s : State) : State :=
  if s.crampon && s.ceilingMhz == 800 && s.overCap then s.report ⟨clPOWER, 0x01, 1, stOK, unitHub 2, 0, s.powerDetail⟩ else s

/-! ## Calibration (R482) -/

def calFault (s : State) : State :=
  let s1 := s.withPower { s.power with good := 0 }
  (s1.wf PWR_STS.CAL_FAULT 1).report ⟨clPOWER, 0x02, 1, stOK, unitHub 2, 0, s1.powerDetail⟩

/-- A calibration whose ratio keeps K within 0.80 to 1.25. -/
def calGood (s : State) (k : Nat) : State :=
  let n := s.power.good + 1
  let s1 := (s.wf PWR_CAL.K k).withPower { s.power with good := n }
  if 100 ≤ n then s1.wf PWR_STS.CAL_FAULT 0 else s1

/-- The calibration of a millisecond; `m`: the energy measured on the rails, in nJ. -/
def calibrate (s : State) (m : Option (BitVec 40)) : State :=
  if !s.crampon then s else
  let e := s.power.sum
  let s0 := s.withPower { s.power with sum := 0 }
  match m with
  | none =>
    let n := s0.power.miss + 1
    let s1 := s0.withPower { s0.power with miss := n, good := 0 }
    if n % 10 = 0 then s1.calFault else s1
  | some v =>
    let s1 := (s0.withPower { s0.power with miss := 0 }).wf PWR_CAL.RAIL_W (min 4095 (v.toNat / 1000000))
    let a := s1.rf PWR_CAL.K * v.toNat * 16384
    if e = 0 then
      (if v.toNat = 0 then (s1.freeW.2).calGood (13108 + s1.freeW.1.toNat % 7373) else (s1.wf PWR_CAL.K 20480).calFault)
    else if 10 * a < 131072 * e then (s1.wf PWR_CAL.K 13108).calFault
    else if 20480 * e < a then (s1.wf PWR_CAL.K 20480).calFault
    else
      let up := if a % e = 0 then 0 else s1.freeW.1.toNat % 2
      (s1.freeW.2).calGood (max 13108 (min 20480 (a / e + up)))

/-! ## Droop and trims (R484, R485, R530, R570) -/

def droopTrip (s : State) (n : Nat) : State :=
  if s.boot.held || s.rb (PWR_DIE_STS.DROOP n) then s else
  let s1 := (s.wf (PWR_DIE_STS.DROOP n) 1).inc PWR_CNT_DROOP.V
  s1.withPower { s1.power with trips := sparseSet (fun _ => 0) s1.power.trips n ((lookupKey s1.power.trips n).getD 0 + 1) }

/-- A MARGIN record of crux die `n` (R530); its count of droop trips starts afresh. -/
def marginCrux (s : State) (n sev : Nat) : State :=
  let d := bytesLE 2 (s.rf (PWR_DIE_STS.VSET_MV n)) ++ bytesLE 2 (s.rf (PWR_DIE_STS.VMEAS_MV n)) ++
    bytesLE 2 (s.rf (PWR_DIE_STS.SLACK_PS n)) ++ bytesLE 2 (s.rf (PWR_DIE_STS.TJ_C n)) ++ bytesLE 4 ((lookupKey s.power.trips n).getD 0)
  (s.withPower { s.power with trips := eraseKey s.power.trips n }).report ⟨clMARGIN, 0x01, sev, stOK, unitCrux n, 0, d⟩

/-- A trim of crux die `n` to `v` mV: counted, and recorded in Cairn with the die, the old and new voltages, the slack and
the temperature. -/
def trimTo (s : State) (n v slack tj : Nat) : State :=
  let old := s.rf (PWR_DIE_STS.VSET_MV n)
  if v = old then s else
  (((s.wf (PWR_DIE_STS.VSET_MV n) v).inc PWR_CNT_TRIM.V).lifeInc 13).cairnRec 2 s.now
    (bytesLE 1 n ++ bytesLE 2 old ++ bytesLE 2 v ++ bytesLE 2 slack ++ bytesLE 1 tj)

/-- The regulator of crux die `n` answers, or has failed three transactions, which is recorded once (R570). -/
def regulator (s : State) (n : Nat) (answers : Bool) : State :=
  if answers then s.withPower { s.power with noAvs := s.power.noAvs.filter (fun x => x != n) }
  else if s.power.noAvs.contains n then s
  else (s.withPower { s.power with noAvs := insertNat s.power.noAvs n }).report ⟨clPOWER, 0x04, 1, stOK, unitCrux n, 0, s.powerDetail⟩

/-- The slack of crux die `n` is read and its set voltage trimmed (R485). -/
def trimDie (s : State) (n : Nat) (r : DieRead) : State :=
  let s0 := ((s.wf (PWR_DIE_STS.VMEAS_MV n) r.vmeas.toNat).wf (PWR_DIE_STS.SLACK_PS n) (min 255 r.slack)).wf (PWR_DIE_STS.TJ_C n) r.tj.toNat
  if !s0.rb PWR_TRIM_CFG.AUTO then s0 else
  let s1 := s0.regulator n r.avs
  let v := s1.rf (PWR_DIE_STS.VSET_MV n)
  let step := s1.rf PWR_TRIM_CFG.STEP_MV
  if !r.avs then s1
  else if Config.guardUp n < r.slack then s1.trimTo n (min v (max (Config.vFloorMv n) (v - step))) r.slack r.tj.toNat
  else if r.slack < Config.guardLow n then
    (if 850 ≤ v then s1.marginCrux n 1 else s1.trimTo n (min 850 (v + step)) r.slack r.tj.toNat)
  else s1

/-- The periodic trim of every crux die in service. -/
def trimAll (s : State) (rs : List DieRead) : State :=
  if !s.crampon || s.rf PWR_TRIM_CFG.PERIOD_S == 0 then s else
  (List.range 16).foldl (fun t n =>
    match rs[n]? with
    | some r => if t.fault.outUnits.contains (unitCrux n) then t else t.trimDie n r
    | none => t) s

/-- Slack of crux die `n` below the alarm level (R485). -/
def alarmTrim (s : State) (n : Nat) (r : DieRead) : State :=
  if !s.crampon || s.fault.outUnits.contains (unitCrux n) || Config.slackAlarm n ≤ r.slack then s else
  let s0 := ((s.wf (PWR_DIE_STS.VMEAS_MV n) r.vmeas.toNat).wf (PWR_DIE_STS.SLACK_PS n) (min 255 r.slack)).wf (PWR_DIE_STS.TJ_C n) r.tj.toNat
  if !s0.rb PWR_TRIM_CFG.AUTO then s0 else
  let s1 := s0.regulator n r.avs
  let v := s1.rf (PWR_DIE_STS.VSET_MV n)
  let s2 := if r.avs then s1.trimTo n (min (max v 850) (v + 2 * s1.rf PWR_TRIM_CFG.STEP_MV)) r.slack r.tj.toNat else s1
  s2.marginCrux n 0

/-! ## Low-power states (R471 to R476) -/

/-- A torus port of a dimension of size 1 (R24). -/
def loneTorus (s : State) (P : Nat) : Bool := isTorus P && s.dim ((P - 768) % 24 / 8) == 1

/-- The tolerance that governs a port, a cluster's tensor engine, and the stacks (R473). -/
def tolPort (s : State) (P : Nat) : Nat :=
  if isTorus P then s.rf PWR_SYS_WAKE.TORUS else (s.reg (HRN_WAKE.a (s.rf (PRT_PORT_ID.HARNESS P)))).field 32 16
def tolTen (s : State) (c : Nat) : Nat :=
  let moe := s.gate.ctxs.any (fun g => (lookupKey g.bytes c).isSome && (g.desc.getD 0 0).field 12 1 == 0)
  if s.rb (CRX_CLU_STS.OWNED (c / 4) (c % 4)) && !moe then
    (s.reg (HRN_WAKE.a (s.rf (CRX_CLU_STS.HARNESS (c / 4) (c % 4))))).field 16 16
  else s.rf PWR_SYS_WAKE.FREE_CLUSTER
def tolHbm (s : State) : Nat :=
  ((List.range 64).filter (fun q => s.poolHeld q)).foldl (fun m q => min m ((s.reg (HRN_WAKE.a (s.rf (POOL_CFG.HARNESS q)))).field 48 16))
    (s.rf PWR_SYS_WAKE.HBM)

/-- Nothing queued to transmit and the replay buffer empty (R62). -/
def portEmpty (s : State) (P : Nat) : Bool := (s.port P).held.isEmpty && !s.fwd.queues.any (fun x => x.P == P)

/-- A gate entry that opens a non-zero group on the port's direction begins within 2 µs (R474). -/
def pitchSoon (s : State) (P : Nat) : Bool :=
  match s.nextPitch (gateDir P) s.now with
  | some t => decide (t ≤ s.now + 2000)
  | none => false

/-- May port `P` enter PORT_IDLE after PORT_IDLE_US of idleness (R473, R474)? -/
def mayIdle (s : State) (P : Nat) : Bool :=
  s.loneTorus P ||
  (s.active P && !s.draining P && s.portEmpty P && s.rf PWR_IDLE_CFG.PORT_IDLE_US != 0 && decide (2000 ≤ s.tolPort P) && !s.pitchSoon P)

def idlePort (s : State) (P : Nat) : State :=
  if s.boot.held || (s.port P).idle || !s.mayIdle P then s
  else (s.setPort P { s.port P with idle := true }).inc PWR_CNT_PORT_IDLE.V

/-- Is the tensor engine of device cluster `c` at work? -/
def tenBusy (s : State) (c : Nat) : Bool := s.comp.flights.any (fun f => f.eng == 6 && f.core / 8 == c)
def reservedS (s : State) (c : Nat) : Bool := s.rf (CRX_CLU_SRES.BYTES (c / 4) (c % 4)) != 0
def setTen (s : State) (c v : Nat) : State := s.withPower { s.power with ten := sparseSet (fun _ => 0) s.power.ten c v }

def tenLight (s : State) (c : Nat) : State :=
  if s.boot.held || s.tenBusy c || (lookupKey s.power.ten c).isSome || s.tolTen c < 100 then s else s.setTen c 1
/-- May cluster `c` be in DEEP: never while it holds a context's reservation and has no owner. -/
def mayDeep (s : State) (c : Nat) : Bool :=
  let owned := s.rb (CRX_CLU_STS.OWNED (c / 4) (c % 4))
  decide (20000 ≤ s.tolTen c) && (if owned then s.rf PWR_IDLE_CFG.TEN_DEEP_US != 0 else !s.reservedS c)
def tenDeep (s : State) (c : Nat) : State :=
  if s.boot.held || s.tenBusy c || lookupKey s.power.ten c = some 2 || !s.mayDeep c then s else (s.setTen c 2).inc PWR_CNT_DEEP.V

def selfRefresh (s : State) : State :=
  if s.boot.held || s.power.hbmSr || s.rf PWR_IDLE_CFG.HBM_SR_US = 0 || s.tolHbm < 10000 then s
  else (s.withPower { s.power with hbmSr := true }).inc PWR_CNT_HBM_SR.V

/-- Every block whose state its tolerance no longer permits leaves it (R473). -/
def wakeBlocks (s : State) : State :=
  let s1 := (List.range 512).foldl (fun t k =>
    if t.cstate k = 4 && decide ((t.reg (HRN_WAKE.a (t.coreH k))).field 0 16 < 100) then t.wf (CRX_CORE_STS.STATE k) 3 else t) s
  let s2 := s1.withPower { s1.power with ten := s1.power.ten.filter (fun x => decide ((if x.2 = 2 then 20000 else 100) ≤ s1.tolTen x.1)),
                                         hbmSr := s1.power.hbmSr && decide (10000 ≤ s1.tolHbm) }
  (s2.ports.map (fun x => x.1)).foldl (fun t P =>
    if (t.port P).idle && !t.loneTorus P && decide (t.tolPort P < 2000) then t.setPort P { t.port P with idle := false } else t) s2

/-- Writes of HRN_WAKE and PWR_SYS_WAKE (R472, R473). -/
def writeHrnWake (s : State) (h : Nat) (v : Word) : State := (s.setReg (HRN_WAKE.a h) v).wakeBlocks
def writeSysWake (s : State) (v : Word) : State := (s.setReg PWR_SYS_WAKE.a (Word.ofN (v.field 0 48))).wakeBlocks
/-- Writes of PWR_DROOP_CFG and PWR_TRIM_CFG (R487). -/
def writeDroopCfg (s : State) (src : Src) (v : Word) : State :=
  if v.field 0 8 < 10 || 100 < v.field 0 8 then s.reject src PWR_DROOP_CFG.a else s.setReg PWR_DROOP_CFG.a (Word.ofN (v.field 0 16))
def writeTrimCfg (s : State) (src : Src) (v : Word) : State :=
  if v.field 16 8 < 1 || 10 < v.field 16 8 then s.reject src PWR_TRIM_CFG.a else s.setReg PWR_TRIM_CFG.a (Word.ofN (v.field 0 25))

end State

/-- A 1 µs boundary at the crampon (R479). -/
def execCramponInterval (dyn cd leak : BitVec 32) (lent : BitVec 12) (dies : List (Fin 16 × DieRead))
    (shares : List (EnergyOf × BitVec 32)) (s : State) : Res :=
  unheld s (s.interval dyn.toNat cd.toNat leak.toNat lent.toNat dies shares)
/-- The clock ceiling steps (R480). -/
def execCeilingStep (s : State) : Res := unheld s s.ceilingStep
/-- Power still exceeds the cap 10 ms after the ceiling reached 800 MHz (R480). -/
def execPowerCap (s : State) : Res := unheld s s.powerCap
/-- K is calibrated against the rails (R482). -/
def execCalibration (m : Option (BitVec 40)) (s : State) : Res := unheld s (s.calibrate m)
/-- Crux die `n` enters droop response (R484). -/
def execDroopTrip (n : Fin 16) (s : State) : Res := unheld s (s.droopTrip n)
/-- The droop response of crux die `n` ends (R484). -/
def execDroopRelease (n : Fin 16) (s : State) : Res := unheld s (s.wf (PWR_DIE_STS.DROOP n) 0)
/-- PERIOD_S has passed; `rs`: the readings of crux dies 0 to 15 (R485). -/
def execVoltageTrim (rs : List DieRead) (s : State) : Res :=
  if rs.length = 16 then unheld s (s.trimAll rs) else .fault (.illFormed "VOLTAGE_TRIM")
/-- The slack of crux die `n` is below the alarm level (R485). -/
def execMarginAlarmTrim (n : Fin 16) (r : DieRead) (s : State) : Res := unheld s (s.alarmTrim n r)
/-- A port has been idle for PORT_IDLE_US (R474). -/
def execPortIdleEnter (P : Fin 1152) (s : State) : Res := unheld s (s.idlePort P)
/-- A port leaves PORT_IDLE (R475). -/
def execPortIdleExit (P : Fin 1152) (s : State) : Res :=
  unheld s (if (s.port P).idle && !s.loneTorus P then s.setPort P { s.port P with idle := false } else s)
/-- The tensor engine of device cluster `c` has been idle for 1 µs (R471). -/
def execTenLightEnter (c : Fin 64) (s : State) : Res := unheld s (s.tenLight c)
/-- The tensor engine of device cluster `c` has been idle for TEN_DEEP_US, or the cluster has no owner (R471). -/
def execDeepEnter (c : Fin 64) (s : State) : Res := unheld s (s.tenDeep c)
/-- HBM_SR_US without an access (R476). -/
def execHbmSelfRefresh (s : State) : Res := unheld s s.selfRefresh
/-- A write of HRN_WAKE of harness `h`, or of PWR_SYS_WAKE (R473). -/
def execWakeToleranceWrite (src : Src) (h : Option (Fin 4096)) (v : Word) (s : State) : Res :=
  match h with
  | some i => unheld s (s.guardWrite src (HRN_WAKE.a i) (fun t => t.writeHrnWake i v))
  | none => unheld s (s.guardWrite src PWR_SYS_WAKE.a (fun t => t.writeSysWake v))
/-- A write of PWR_CTL.CORE_MHZ (R477). -/
def execCoreMhzSet (src : Src) (v : BitVec 11) (s : State) : Res :=
  unheld s (s.guardWrite src PWR_CTL.a (fun t => t.writePwrCtl src ((t.reg PWR_CTL.a).withField 0 11 v.toNat)))
/-- A write of PWR_CTL.CAP_W (R478). -/
def execCapWSet (src : Src) (v : BitVec 12) (s : State) : Res :=
  unheld s (s.guardWrite src PWR_CTL.a (fun t => t.writePwrCtl src ((t.reg PWR_CTL.a).withField 11 12 v.toNat)))

end Sys2Proof.Machine
end

