-- ==== Sys2Proof/Machine/Store.lean ====
section
/-! DEFINITION. Expert stores: placement, directory, fetches, and the refilling of a spare
(spec/13_conditional_compute.md R377 to R380, R385, R387; spec/19_faults_and_recovery.md R519 to R522). -/
namespace Sys2Proof.Machine

/-- Put a pair before the first with a smaller key: keys descending, equal keys in order of arrival. -/
def insertDesc {α : Type} (k : Int) (x : α) : List (Int × α) → List (Int × α)
  | [] => [(k, x)]
  | p :: t => if p.1 < k then (k, x) :: p :: t else p :: insertDesc k x t
/-- A list by descending key, ties in order. -/
def sortDesc {α : Type} (f : α → Int) (l : List α) : List α := (l.foldl (fun acc x => insertDesc (f x) x acc) []).map (fun p => p.2)

/-- The free runs below a limit beside occupied runs given in rising order. -/
def gapsFrom (limit : Nat) : Nat → List (Nat × Nat) → List (Nat × Nat)
  | at_, [] => if at_ < limit then [(at_, limit - at_)] else []
  | at_, (lo, n) :: t => (if at_ < lo then [(at_, lo - at_)] else []) ++ gapsFrom limit (max at_ (lo + n)) t
/-- A start for `n` units in one of the runs, picked by a free number. -/
def pickIn (gaps : List (Nat × Nat)) (n pick : Nat) : Option Nat :=
  let g := gaps.filter (fun r => decide (n ≤ r.2))
  match g[pick % g.length]? with
  | some r => some (r.1 + pick / 64 % (r.2 - n + 1))
  | none => none

/-- One manifest entry (R379). -/
structure Manifest where
  g     : Nat
  heat  : Nat
  nblk  : Nat
  form  : Nat
  train : Bool
  deriving DecidableEq, Repr

/-- A placement as it grows: next free offset by device, overflow bytes, directory entries (index, word 0, word 1) with offsets
from the start of the grant. -/
structure Placing where
  next    : List (Nat × Nat)
  ovf     : Nat
  entries : List (Nat × Nat × Nat)
  deriving DecidableEq, Repr

namespace Store
def size (x : Store) : Nat := 2 ^ x.lg
def dirBytes (x : Store) : Nat := (x.layers * x.experts * x.blocks * 16 + 4095) / 4096 * 4096
def devs (x : Store) : List Nat := (List.range 64).filter (fun d => x.mask / 2 ^ d % 2 == 1)
/-- Index of a BLOCK_ID in the directory, where it is within the store (R377, R378). -/
def index (x : Store) (b : Nat) : Option Nat :=
  let layer := b / 2 ^ 20
  let expert := b / 2 ^ 8 % 4096
  let blk := b % 256
  if layer < x.layers && expert < x.experts && blk < x.blocks then some ((layer * x.experts + expert) * x.blocks + blk) else none
/-- The BLOCK_ID of a directory index. -/
def blockId (x : Store) (i : Nat) : Nat :=
  i / x.blocks / x.experts * 2 ^ 20 + i / x.blocks % x.experts * 2 ^ 8 + i % x.blocks

/-- The copies of an expert's blocks: block, copy, device (R379). -/
def copies (x : Store) (m : Manifest) : List (Nat × Nat × Nat) :=
  let d := x.devs.length
  (List.range m.nblk).flatMap (fun i =>
    (i, 0, x.devs.getD ((m.g + i) % d) 0) :: (if x.repl = 2 then [(i, 1, x.devs.getD ((m.g + i + (d + 1) / 2) % d) 0)] else []))
/-- Do all copies of an expert fit beside what is placed? -/
def fits (x : Store) (p : Placing) (cs : List (Nat × Nat × Nat)) : Bool :=
  x.devs.all (fun v => decide ((lookupKey p.next v).getD 0 + (cs.filter (fun c => c.2.2 == v)).length * x.size ≤ x.pages * 4096))
/-- Each copy in order takes the next free offset of its device. -/
def assign (x : Store) : List (Nat × Nat × Nat) → List (Nat × Nat) → List (Nat × Nat × Nat × Nat) × List (Nat × Nat)
  | [], nx => ([], nx)
  | (i, c, v) :: t, nx =>
    let o := (lookupKey nx v).getD 0
    let r := assign x t (insertKey (eraseKey nx v) v (o + x.size))
    ((i, c, v, o) :: r.1, r.2)
/-- Place one expert. `base`: H offset of the grant; `ovfBase`: the F offset of the overflow tier. -/
def placeOne (x : Store) (base ovfBase : Nat) (p : Placing) (m : Manifest) : Placing :=
  let w : Nat := 1 + m.form * 2 ^ 4 + b2n m.train * 2 ^ 6
  let cs := x.copies m
  if x.fits p cs then
    (let r := x.assign cs p.next
     let es := (List.range m.nblk).map (fun i =>
       let a := (r.1.find? (fun q => q.1 == i && q.2.1 == 0)).getD (0, 0, 0, 0)
       let b := r.1.find? (fun q => q.1 == i && q.2.1 == 1)
       let w0 := w + a.2.2.1 * 2 ^ 7 + (b.map (fun q => q.2.2.1)).getD 0 * 2 ^ 13 + (base + a.2.2.2) % 2 ^ 40 * 2 ^ 19
       (m.g * x.blocks + i, w0, (b.map (fun q => base + q.2.2.2)).getD 0))
     { p with next := r.2, entries := p.entries ++ es })
  else
    { p with ovf := p.ovf + m.nblk * x.size,
             entries := p.entries ++ (List.range m.nblk).map (fun i => (m.g * x.blocks + i, w + 2, ovfBase + p.ovf + i * x.size)) }
/-- The whole placement, hottest expert first (R379). -/
def place (x : Store) (base ovfBase : Nat) (ms : List Manifest) : Placing :=
  (sortDesc (fun m => (m.heat : Int)) (ms.filter (fun m => m.nblk != 0))).foldl (x.placeOne base ovfBase)
    ⟨x.devs.map (fun v => (v, x.dirBytes)), 0, []⟩
end Store

namespace State

def findStore (s : State) (n : Nat) : Option Store := s.gate.stores.find? (fun x => x.die == n)
/-- The store of crux die `n` while it is created (R387, R519). -/
def liveStore (s : State) (n : Nat) : Option Store :=
  match s.findStore n with
  | some x => if s.rf (CRX_STORE_DIR.STATE n) = 1 && !s.gate.scmds.any (fun c => c.1 == n && c.2.1 == 2) then some x else none
  | none => none
/-- A directory entry, its reading reported (R378). -/
def storeEntry (s : State) (x : Store) (i : Nat) : Word × Word × State :=
  match s.hRange x.h (x.dir + 16 * i) 16 with
  | none => (0, 0, s)
  | some rs =>
    let r := s.memRead x.h rs
    (Word.ofN (leAt r.1 0 8), Word.ofN (leAt r.1 8 8), r.2.2)
def putDir (s : State) (x : Store) (i : Nat) (w0 : Word) : State :=
  match s.hRange x.h (x.dir + 16 * i) 8 with
  | some rs => (s.memWrite x.h rs (bytesLE 8 w0.toNat)).2
  | none => s
/-- Device and H offset of copy `c` of an entry. -/
def copyDev (w0 : Word) (c : Nat) : Nat := if c = 0 then w0.field 7 6 else w0.field 13 6
def copyOff (w0 w1 : Word) (c : Nat) : Nat := if c = 0 then w0.field 19 40 else w1.field 0 40

/-! ## Fetches (R380) -/

/-- The block at H offset `o` streams to ORIGIN; a frame with a word that does not decode carries POISON (R444, R520). -/
def streamCopy (s : State) (x : Store) (block origin seq o : Nat) : State :=
  let n := (x.size + 4095) / 4096
  let r := (List.range n).foldl (fun (acc : List (Nat × List Byte) × State) i =>
    match acc.2.hRange x.h (o + 4096 * i) (min 4096 x.size) with
    | some rs => (let m := acc.2.memRead x.h rs; (acc.1 ++ [(if m.2.1 then stPOISON else stOK, m.1)], m.2.2))
    | none => (acc.1 ++ [(stPOISON, allOnes (min 4096 x.size))], acc.2)) ([], s)
  r.2.streamBlock x.die x.ctx x.h block origin seq r.1
/-- A request or FETCH served on the requester's own device. -/
def serveFetch (s : State) (x : Store) (block origin seq : Nat) : State :=
  let s1 := s.inc (CRX_CNT_STORE_FETCH.V x.die)
  let refuse : Nat → State → State := fun st t => t.streamBlock x.die x.ctx x.h block origin seq [(st, [])]
  match x.index block with
  | none => refuse stREJECT s1
  | some i =>
    let e := s1.storeEntry x i
    let s2 := e.2.2
    if e.1.field 0 1 = 0 then refuse stREJECT s2
    else if e.1.field 1 1 = 1 then
      (let n := (x.size + 4095) / 4096
       let s3 := s2.inc (CRX_CNT_STORE_OVF.V x.die)
       let r := (List.range n).foldl (fun (acc : List Part × State) k =>
         let t := acc.2
         let no := t.mfb.next
         let f := FrameSpec.make { cls := 1, kind := 1, src := t.deviceFeid, tag := t.mfb.tag, time := t.now, harness := x.h, dst := x.ovfFeid, op := 1,
                                   flow := x.ctx * 64 % 2 ^ 20, addr := e.2.1.field 0 52 + 4096 * k, chunk := min 4096 x.size, checkKind := 0 }
         let t1 := (t.withMfb { t.mfb with next := no + 1, tag := (t.mfb.tag + 1) % 65536 }).take x.die (1664 + x.die) no f .inside
         (acc.1 ++ [⟨no, 4096 * k, min 4096 x.size, none⟩], t1)) ([], s3)
       (r.2.withGate { r.2.gate with ovf := r.2.gate.ovf ++ [⟨x.die, x.ctx, x.h, block, origin, seq, r.1⟩] }).pumpOvf)
    else
      let lost : Nat → Bool := fun c => e.1.field (2 + c) 1 == 1
      let c0 := if x.repl = 2 then (origin ^^^ block % 256) % 2 else 0
      let c := if lost c0 && x.repl = 2 then 1 - c0 else c0
      if lost c then refuse stLOST (s2.inc (CRX_CNT_STORE_LOST.V x.die))
      else if copyDev e.1 c = s2.devIndex then s2.streamCopy x block origin seq (copyOff e.1 e.2.1 c)
      else s2.storeFrame x.die x.ctx x.h 3 (s2.feidOfDevice (copyDev e.1 c)) block origin seq 0 true true stOK []
/-- A FETCH that another device has sent on, or that a fill sends: the copy this device holds is streamed. -/
def serveHeld (s : State) (x : Store) (block origin seq : Nat) : State :=
  let refuse : Nat → State → State := fun st t => t.streamBlock x.die x.ctx x.h block origin seq [(st, [])]
  match x.index block with
  | none => refuse stREJECT s
  | some i =>
    let e := s.storeEntry x i
    let mine := (List.range x.repl).filter (fun c => copyDev e.1 c == e.2.2.devIndex)
    if e.1.field 0 1 = 0 || e.1.field 1 1 = 1 || mine.isEmpty then refuse stREJECT e.2.2
    else match mine.find? (fun c => e.1.field (2 + c) 1 == 0) with
      | some c => e.2.2.streamCopy x block origin seq (copyOff e.1 e.2.1 c)
      | none => refuse stLOST (e.2.2.inc (CRX_CNT_STORE_LOST.V x.die))
/-- A FETCH frame at cluster `clu`. -/
def fetchIn (s : State) (clu : Nat) (f : Frame) : State :=
  match s.landed (.cluster clu) f with
  | none => s
  | some y =>
    let s1 := s.unland y
    let block := f.addr % 2 ^ 32
    let origin := f.addr / 2 ^ 32 % 2 ^ 18
    match s1.liveStore (clu / 4) with
    | some x =>
      if x.ctx != f.ctx then s1
      else if (y.ingress.map isTorus).getD false then s1.serveHeld x block origin f.seq
      else s1.serveFetch x block origin f.seq
    | none => s1.streamBlock (clu / 4) f.ctx f.harness block origin f.seq [(stREJECT, [])]

/-! ## CREATE and DESTROY (R379, R387) -/

/-- The store the registers of crux die `n` describe. -/
def storeOf (s : State) (n ctx : Nat) : Store :=
  { die := n, ctx := ctx, h := s.rf (CRX_STORE_D0.HARNESS n), repl := s.rf (CRX_STORE_D0.REPL n), lg := s.rf (CRX_STORE_D0.BLOCK_LOG2 n),
    layers := s.rf (CRX_STORE_D0.LAYERS n), experts := s.rf (CRX_STORE_D0.EXPERTS n), blocks := s.rf (CRX_STORE_D0.BLOCKS n),
    mask := (s.reg (CRX_STORE_DEV_MASK.a n)).toNat, ovfFeid := s.rf (CRX_STORE_BUDGET.OVF_FEID n), pages := s.rf (CRX_STORE_BUDGET.V n),
    dir := 0, pool := 0 }
/-- The manifest's entries, where it lies in the harness's pools. -/
def manifestOf (s : State) (n : Nat) (x : Store) : Option (List Manifest × State) :=
  match s.hRange x.h (s.rf (CRX_STORE_MANIFEST.V n)) (8 * x.layers * x.experts) with
  | none => none
  | some rs =>
    let r := s.memRead x.h rs
    some ((List.range (x.layers * x.experts)).map (fun g =>
      let e := leAt r.1 (8 * g) 8
      ⟨g, e % 2 ^ 32, e / 2 ^ 32 % 256, e / 2 ^ 40 % 4, e / 2 ^ 42 % 2 == 1⟩), r.2.2)
/-- Fields in range; REPL 2 with two devices; no manifest entry malformed or against R385. -/
def storeFieldsOk (s : State) (x : Store) (ms : Option (List Manifest)) : Bool :=
  (x.repl == 1 || (x.repl == 2 && decide (2 ≤ x.devs.length))) && decide (16 ≤ x.lg) && decide (x.lg ≤ 22) && decide (1 ≤ x.layers) &&
  decide (1 ≤ x.experts) && decide (x.experts ≤ 4096) && decide (1 ≤ x.blocks) && x.devs.contains s.devIndex &&
  x.devs.all (fun d => decide (d < s.planeSize)) && decide (1 ≤ x.pages) &&
  (match ms with
   | some l => l.all (fun m => decide (m.nblk ≤ x.blocks) && m.form != 3 && !(m.train && m.form == 2))
   | none => true)
/-- The harness holds carabiners over the whole overflow tier. -/
def ovfHeld (s : State) (n : Nat) (x : Store) : Bool :=
  let p0 := s.rf (CRX_STORE_OVF_BASE.V n) / 4096
  (List.range (s.rf (CRX_STORE_OVF_PAGES.V n))).all (fun p => s.mfb.carabs.any (fun c =>
    carHarness c.w0 == x.h && carFeid c.w0 == x.ovfFeid && decide (carV c.w1 ≤ p0 + p) && decide (p0 + p < carV c.w1 + 2 ^ (carLog2 c.w0 - 12))))
/-- Runs of device pages, and of the H space of harness `h` in pages, that no pool holds. -/
def pageGaps (s : State) : List (Nat × Nat) :=
  gapsFrom 0x8FECE00 0 (((List.range 64).filter (fun q => s.poolPagesHeld q)).foldl (fun l q => insertKey l (s.rf (POOL_PBASE.V q)) (s.rf (POOL_PAGES.V q))) [])
def hGaps (s : State) (h : Nat) : List (Nat × Nat) :=
  gapsFrom (2 ^ 28) 0 (((List.range 64).filter (fun q => s.poolHTaken q && s.poolH q == h)).foldl (fun l q =>
    insertKey l (s.rf (POOL_HBASE.V q) / 4096) (s.rf (POOL_PAGES.V q))) [])
/-- What CREATE comes to: status, bytes lacking, and where it succeeds the state with grant, pool and directory made. -/
def storeMake (s : State) (n ctx : Nat) : Nat × Nat × State :=
  let x := s.storeOf n ctx
  let mf := s.manifestOf n x
  if !s.grantable x.h then (stREJECT, 0, s)
  else if (s.findStore n).isSome || !s.storeFieldsOk x (mf.map (fun m => m.1)) then (stREJECT, 0, s)
  else if !s.quotaOk .hbm x.h x.pages then (stQUOTA, 0, s)
  else match mf with
    | none => (stDENIED, 0, s)
    | some (ms, s0) =>
      if !s0.ovfHeld n x then (stDENIED, 0, s0) else
      let words := [s0.reg (CRX_STORE_D0.a n), s0.reg (CRX_STORE_DEV_MASK.a n), s0.reg (CRX_STORE_BUDGET.a n)]
      let fw := s0.freeW
      let s1 := fw.2
      let offs := (List.range 64).filter (fun q => s1.rf (POOL_STS.STATE q) == 0 && !s1.mem.pcmds.any (fun c => c.1 == q))
      match offs[fw.1.toNat % offs.length]?, pickIn s1.pageGaps x.pages (fw.1.toNat / 64), pickIn (s1.hGaps x.h) x.pages (Config.storePick words) with
      | some q, some pb, some hb =>
        let base := hb * 4096
        let pl := x.place base (s1.rf (CRX_STORE_OVF_BASE.V n)) ms
        let room := s1.rf (CRX_STORE_OVF_PAGES.V n) * 4096
        if room < pl.ovf then (stNOMEM, pl.ovf - room, s0)
        else if x.pages * 4096 < x.dirBytes then (stNOMEM, x.dirBytes - x.pages * 4096, s0)
        else
          let s2 := s1.quotaTake .hbm x.h x.pages
          let s3 := (((s2.setReg (POOL_CFG.a q) (Word.ofN x.h)).setReg (POOL_PBASE.a q) (Word.ofN pb)).setReg (POOL_PAGES.a q) (Word.ofN x.pages)).setReg
            (POOL_HBASE.a q) (Word.ofN base)
          let s4 := s3.poolMade q
          let s5 := (s4.memWrite x.h ((s4.hRange x.h base x.dirBytes).getD []) (List.replicate x.dirBytes 0)).2
          let s6 := pl.entries.foldl (fun t e =>
            (t.memWrite x.h ((t.hRange x.h (base + 16 * e.1) 16).getD []) (bytesLE 8 e.2.1 ++ bytesLE 8 e.2.2)).2) s5
          (stOK, 0, s6.withGate { s6.gate with stores := s6.gate.stores ++ [{ x with dir := base, pool := q }] })
      | _, _, _ => (stNOMEM, 0, s0)

/-- A write of CRX_STORE_CMD (R387). -/
def writeStoreCmd (s : State) (src : Src) (n ctx op : Nat) : State :=
  if s.rb (CRX_STORE_CMD.BUSY n) then s.reject src (CRX_STORE_CMD.a n)
  else
    let s1 := s.wf (CRX_STORE_CMD.CTX n) ctx
    let begin_ : Nat → State → State := fun st t =>
      (t.withGate { t.gate with scmds := t.gate.scmds ++ [(n, op, st)] }).wf (CRX_STORE_CMD.BUSY n) 1
    match op with
    | 0 => s1
    | 1 =>
      let r := s1.storeMake n ctx
      begin_ r.1 (if r.1 = stNOMEM then r.2.2.setReg (CRX_STORE_SHORT.a n) (Word.ofN r.2.1) else r.2.2)
    | 2 => begin_ (match s1.liveStore n with | some x => if x.ctx = ctx then stOK else stREJECT | none => stREJECT) s1
    | _ => begin_ stREJECT s1
/-- A write of another store register, refused while BUSY. -/
def writeStoreD (s : State) (src : Src) (n a : Nat) (mask v : Word) : State :=
  if s.rb (CRX_STORE_CMD.BUSY n) then s.reject src a else s.setReg a (v &&& mask)
/-- The store command of crux die `n` finishes. -/
def storeDone (s : State) (n : Nat) : State :=
  match s.gate.scmds.find? (fun c => c.1 == n) with
  | none => s
  | some c =>
    let s1 := ((s.withGate { s.gate with scmds := s.gate.scmds.erase c }).wf (CRX_STORE_CMD.STATUS n) c.2.2).wf (CRX_STORE_CMD.BUSY n) 0
    if c.2.2 != stOK then s1
    else match s1.findStore n with
      | none => s1
      | some x =>
        if c.2.1 = 1 then (s1.wf (CRX_STORE_DIR.V n) x.dir).wf (CRX_STORE_DIR.STATE n) 1
        else
          let s2 := s1.withGate { s1.gate with stores := s1.gate.stores.filter (fun y => y.die != n) }
          ((s2.poolGone x.pool).wf (CRX_STORE_DIR.V n) 0).wf (CRX_STORE_DIR.STATE n) 0

/-! ## Fills (R519, R520) -/

/-- Does a carabiner's H range touch a copy? -/
def carTouches (s : State) (f : Fill) (c : Carab) (x : FillCopy) : Bool :=
  let here := match s.feidEntry c.die (carFeid c.w0) with
    | some e => e.field 1 1 == 1 && e.field 3 6 == s.devIndex
    | none => false
  let t := c.w2.field 0 28 * 4096
  here && carHarness c.w0 == f.h && decide (x.off < t + 2 ^ carLog2 c.w0) && decide (t < x.off + f.size)
/-- The fill ends (R520): its status, counts and record. -/
def fillEnd (s : State) (f : Fill) : State :=
  let bad := f.copies.filter (fun c => c.st != 2)
  let st := (bad.head?.map (fun c => c.status)).getD stOK
  let wrote := f.copies.length - bad.length
  let cars := (s.mfb.carabs.filter (fun c => c.w0.field 1 1 == 1 && f.copies.any (fun x => s.carTouches f c x))).length
  let s1 := ((s.withGate { s.gate with fill := none }).wf HUB_FILL_STS.LOST bad.length).wf HUB_FILL_STS.WRITTEN wrote
  ((s1.wf HUB_FILL_CTL.STATUS st).wf HUB_FILL_CTL.BUSY 0).report
    ⟨clMEMORY, 5, 1, st, unitCrux f.die, f.h, bytesLE 4 wrote ++ bytesLE 4 bad.length ++ bytesLE 4 cars⟩
/-- FETCHes go out while fewer than 16 are outstanding; a fill with nothing outstanding ends. -/
def fillNext (x : Store) : Nat → State → State
  | 0, s => s
  | fuel + 1, s =>
    match s.gate.fill with
    | none => s
    | some f =>
      let out := (f.copies.filter (fun c => c.st == 1)).length
      match f.copies.find? (fun c => c.st == 0) with
      | some c =>
        if 16 ≤ out then s
        else
          let me := s.feidOfDevice s.devIndex
          let s1 := s.withGate { s.gate with fill := some { f with copies := f.copies.map (fun y => if y.entry = c.entry && y.c = c.c then { y with st := 1 } else y) } }
          fillNext x fuel (s1.storeFrame x.die x.ctx x.h 3 (s1.feidOfDevice c.dev) (x.blockId c.entry) me (c.entry % 2 ^ 24) 0 true true stOK [])
      | none => if out = 0 then s.fillEnd f else s
/-- HUB_FILL_CTL OP 1 (R519). -/
def fillStart (s : State) (n : Nat) : State :=
  match s.liveStore n with
  | none => s.wf HUB_FILL_CTL.STATUS stREJECT
  | some x =>
    if s.gate.fill.isSome || s.hrnState x.h = 0 then s.wf HUB_FILL_CTL.STATUS stREJECT
    else
      let es := (List.range (x.layers * x.experts * x.blocks)).map (fun i => (i, s.storeEntry x i))
      let raw := es.flatMap (fun e => (List.range x.repl).filterMap (fun c =>
        let w0 := e.2.1
        if w0.field 0 1 = 1 && w0.field 1 1 = 0 && copyDev w0 c = s.devIndex then
          (let gone := x.repl = 1 || w0.field (3 - c) 1 == 1
           some (FillCopy.mk e.1 c (copyOff w0 e.2.2.1 c) (copyDev w0 (1 - c)) (if gone then 3 else 0) (if gone then stLOST else stOK) []))
        else none))
      let f : Fill := ⟨n, x.h, x.size, sortDesc (fun c => -(c.off : Int)) raw⟩
      let s1 := f.copies.foldl (fun t c => t.putDir x c.entry ((t.storeEntry x c.entry).1.withField (2 + c.c) 1 1)) s
      let s2 := s1.withMfb { s1.mfb with carabs := s1.mfb.carabs.map (fun c => if f.copies.any (fun y => s1.carTouches f c y) then { c with w0 := c.w0.withField 1 1 1 } else c) }
      let s3 := ((s2.withGate { s2.gate with fill := some f }).setReg HUB_FILL_STS.a 0).wf HUB_FILL_CTL.BUSY 1
      fillNext x (f.copies.length + 1) s3
/-- Copies of a running fill change; those for which `p` holds stay LOST with a status. -/
def fillLose (s : State) (p : FillCopy → Bool) (st : Nat) : State :=
  match s.gate.fill with
  | some f => s.withGate { s.gate with fill := some { f with copies := f.copies.map (fun c => if p c then { c with st := 3, status := st } else c) } }
  | none => s
def fillGo (s : State) : State :=
  match s.gate.fill with
  | none => s
  | some f =>
    match s.findStore f.die with
    | some x => fillNext x (f.copies.length + 1) s
    | none => s.fillEnd f
/-- A copy fails: the copies that wait on its device are not asked for. -/
def fillFail (s : State) (c : FillCopy) (st : Nat) : State :=
  (s.fillLose (fun y => (y.entry == c.entry && y.c == c.c) || (y.dev == c.dev && (y.st == 0 || y.st == 1))) st).fillGo
/-- Words of a poisoned frame that came as all ones. -/
def onesWords (bs : List Byte) : List Nat :=
  (List.range (bs.length / 8)).filter (fun i => (bs.drop (8 * i)).take 8 == allOnes 8)
/-- A whole copy has come: written at its offset, its LOST cleared, and that of every carabiner whose copies are all written. -/
def fillWrite (s : State) (x : Store) (f : Fill) (c : FillCopy) : State :=
  let s1 := (List.range c.got.length).foldl (fun t i =>
    match c.got.find? (fun g => g.1 == i) with
    | some g =>
      (match t.hRange x.h (c.off + 4096 * i) g.2.2.length with
       | some [(a, n)] =>
         let t1 := (t.memWrite x.h [(a, n)] g.2.2).2
         if g.2.1 then t1.withMem ((onesWords g.2.2).foldl (fun m w => m.poison (a + 8 * w) (a + 8 * w + 8)) t1.mem) else t1
       | some rs => (t.memWrite x.h rs g.2.2).2
       | none => t)
    | none => t) s
  let s2 := s1.putDir x c.entry ((s1.storeEntry x c.entry).1.withField (2 + c.c) 1 0)
  let f2 : Fill := { f with copies := f.copies.map (fun y => if y.entry = c.entry && y.c = c.c then { y with st := 2, got := [] } else y) }
  let s3 := (s2.withGate { s2.gate with fill := some f2 }).wf HUB_FILL_STS.WRITTEN (s2.rf HUB_FILL_STS.WRITTEN + 1)
  (s3.withMfb { s3.mfb with carabs := s3.mfb.carabs.map (fun k =>
    if f2.copies.any (fun y => s3.carTouches f2 k y) && f2.copies.all (fun y => y.st == 2 || !s3.carTouches f2 k y) then
      { k with w0 := k.w0.withField 1 1 0 } else k) }).fillGo
/-- A BLOCK frame of a running fill. -/
def fillBlock (s : State) (x : Store) (f : Fill) (fr : Frame) : State :=
  match f.copies.find? (fun c => c.st == 1 && x.blockId c.entry == fr.addr % 2 ^ 32) with
  | none => s
  | some c =>
    if !(fr.tstatus == stOK || fr.tstatus == stPOISON) then s.fillFail c fr.tstatus
    else
      let c2 := { c with got := c.got.filter (fun g => g.1 != fr.frag) ++ [(fr.frag, fr.tstatus == stPOISON, fr.payload)] }
      let whole := decide ((c2.got.map (fun g => g.2.2.length)).sum = f.size)
      if whole then s.fillWrite x f c2
      else s.withGate { s.gate with fill := some { f with copies := f.copies.map (fun y => if y.entry = c.entry && y.c = c.c then c2 else y) } }
/-- A BLOCK frame at cluster `clu`: written by a fill, or passed on to its requester (R380, R519). -/
def blockIn (s : State) (clu : Nat) (fr : Frame) : State :=
  match s.landed (.cluster clu) fr with
  | none => s
  | some y =>
    let s1 := s.unland y
    let origin := fr.addr / 2 ^ 32 % 2 ^ 18
    match s1.gate.fill with
    | some f =>
      if f.die = clu / 4 && origin = fr.dst then (match s1.findStore f.die with | some x => s1.fillBlock x f fr | none => s1)
      else if origin = fr.dst then s1 else s1.send (clu / 4) ({ fr with w0 := fr.w0.withField 10 18 origin } : Frame).sealHeader
    | none => if origin = fr.dst then s1 else s1.send (clu / 4) ({ fr with w0 := fr.w0.withField 10 18 origin } : Frame).sealHeader
/-- HUB_FILL_CTL OP 2 (R520). -/
def fillAbort (s : State) : State :=
  match (s.fillLose (fun c => c.st == 0 || c.st == 1) stFLUSHED).gate.fill with
  | some f => (s.fillLose (fun c => c.st == 0 || c.st == 1) stFLUSHED).fillEnd f
  | none => s
/-- A write of HUB_FILL_CTL: OP 2 acts while a fill runs; any other write is then refused (R519, R520, R532). -/
def writeFillCtl (s : State) (src : Src) (v : Word) : State :=
  let op := v.field 4 2
  if s.rb HUB_FILL_CTL.BUSY then (if op = 2 then s.fillAbort else s.reject src HUB_FILL_CTL.a)
  else
    let s1 := (s.wf HUB_FILL_CTL.DIE (v.field 0 4)).wf HUB_FILL_CTL.TIMEOUT_MS (v.field 15 16)
    match op with
    | 0 => s1
    | 1 => s1.fillStart (v.field 0 4)
    | _ => s1.wf HUB_FILL_CTL.STATUS stREJECT
/-- The bound of the requested copy at directory index `i` passes (R520). -/
def fillTimeout (s : State) (i : Nat) : State :=
  match s.gate.fill with
  | some f => (match f.copies.find? (fun c => c.st == 1 && c.entry == i) with
    | some c => s.fillFail c stTIMEOUT
    | none => s)
  | none => s

/-! ## MARK (R522) -/

/-- A write of HUB_MARK_CTL. -/
def writeMarkCtl (s : State) (src : Src) (v : Word) : State :=
  if s.rb HUB_MARK_CTL.BUSY then s.reject src HUB_MARK_CTL.a
  else
    let n := v.field 0 4
    let s1 := ((s.wf HUB_MARK_CTL.DIE n).wf HUB_MARK_CTL.DEV (v.field 4 6)).wf HUB_MARK_CTL.SET (v.field 10 1)
    if v.field 11 1 = 0 then s1
    else match s1.liveStore n with
      | none => s1.wf HUB_MARK_CTL.STATUS stREJECT
      | some x =>
        let s2 := (List.range (x.layers * x.experts * x.blocks)).foldl (fun t i =>
          let e := t.storeEntry x i
          let hit := (List.range x.repl).filter (fun c => e.1.field 0 1 == 1 && e.1.field 1 1 == 0 && copyDev e.1 c == v.field 4 6)
          if hit.isEmpty then t else t.putDir x i (hit.foldl (fun w c => w.withField (2 + c) 1 (v.field 10 1)) e.1)) s1
        (s2.wf HUB_MARK_CTL.STATUS stOK).wf HUB_MARK_CTL.BUSY 1

end State

/-- A FETCH at cluster `c` (R380). -/
def execFetch (c : Fin 64) (f : Frame) (s : State) : Res :=
  if f.kind = 4 ∧ f.op = 3 then unheld s (s.fetchIn c f) else .fault (.illFormed "FETCH")
/-- A BLOCK at cluster `c` (R380). -/
def execBlock (c : Fin 64) (f : Frame) (s : State) : Res :=
  if f.kind = 4 ∧ f.op = 4 then unheld s (s.blockIn c f) else .fault (.illFormed "BLOCK")
/-- CRX_STORE_CMD CREATE (R379). -/
def execStoreCreate (src : Src) (n : Fin 16) (ctx : BitVec 14) (s : State) : Res :=
  unheld s (s.guardWrite src (CRX_STORE_CMD.a n) (fun t => t.writeStoreCmd src n ctx.toNat 1))
/-- CRX_STORE_CMD DESTROY (R387). -/
def execStoreDestroy (src : Src) (n : Fin 16) (ctx : BitVec 14) (s : State) : Res :=
  unheld s (s.guardWrite src (CRX_STORE_CMD.a n) (fun t => t.writeStoreCmd src n ctx.toNat 2))
/-- The store command of crux die `n` finishes (R387). -/
def execStoreCommandComplete (n : Fin 16) (s : State) : Res := unheld s (s.storeDone n)
/-- HUB_FILL_CTL OP 1 for the store of crux die `n` (R519). -/
def execFillStart (src : Src) (n : Fin 16) (s : State) : Res :=
  unheld s (s.guardWrite src HUB_FILL_CTL.a (fun t => t.writeFillCtl src (((t.reg HUB_FILL_CTL.a).withField 0 4 n).withField 4 2 1)))
/-- HUB_FILL_CTL OP 2 (R520). -/
def execFillAbort (src : Src) (s : State) : Res :=
  unheld s (s.guardWrite src HUB_FILL_CTL.a (fun t => t.writeFillCtl src ((t.reg HUB_FILL_CTL.a).withField 4 2 2)))
/-- A requested copy of a fill has had no complete answer within TIMEOUT_MS (R520). -/
def execFillCopyTimeout (i : Nat) (s : State) : Res := unheld s (s.fillTimeout i)
/-- HUB_MARK_CTL.GO (R522). -/
def execMark (src : Src) (n : Fin 16) (dev : Fin 64) (on : Bool) (s : State) : Res :=
  unheld s (s.guardWrite src HUB_MARK_CTL.a (fun t =>
    t.writeMarkCtl src ((((Word.ofN n.val).withField 4 6 dev).withField 10 1 (b2n on)).withField 11 1 1)))
/-- The MARK finishes (R522). -/
def execMarkComplete (s : State) : Res := unheld s (s.wf HUB_MARK_CTL.BUSY 0)

end Sys2Proof.Machine
end

