-- ==== Sys2Proof/Machine/Gate.lean ====
section
/-! DEFINITION. Gate contexts: gating, dispatch, combine, results, prediction (spec/13_conditional_compute.md R357 to R376,
R381 to R383, R386). -/
namespace Sys2Proof.Machine

/-! ## Arithmetic of gate values (R368) -/

/-- A sum of FP32 codes formed exactly and rounded once. -/
def fpSum (l : List Nat) : Nat :=
  (finishAcc .fp32 .rne .sat 0 (l.foldl (fun a c => a.merge (Acc.ofVal .sat (decodeElem .fp32 c 0))) Acc.empty)).1
def fpNeg (c : Nat) : Nat := c ^^^ 0x80000000
/-- Terms of the exponential series in units of 2^-400: the `k`-th from the one before. -/
def expTerms (y : Int) : Nat → Nat → Int → Int → Int
  | 0, _, _, acc => acc
  | n + 1, k, t, acc =>
    let u := t * y / (2 ^ 400 * (k : Int))
    expTerms y n (k + 1) u (acc + u)
def squares : Nat → Int → Int
  | 0, z => z
  | n + 1, z => squares n (z * z / 2 ^ 400)
/-- The exponential of `v` units of 2^-149, in units of 2^-400, for |v| below 104 units of 1: the series at v/2^10, squared ten
times. -/
def expFix (v : Int) : Int := squares 10 (expTerms (v * 2 ^ 241) 60 1 (2 ^ 400) (2 ^ 400))
/-- The exponential correctly rounded to FP32 under RNE; above the range the largest finite value, as SAT gives. -/
def expRn (c : Nat) : Nat :=
  match decodeElem .fp32 c 0 with
  | .nan => 0x7FC00000
  | .inf neg => if neg then 0 else 0x7F7FFFFF
  | .zero _ => 0x3F800000
  | .fin v =>
    if 89 * 2 ^ 149 < v then 0x7F7FFFFF
    else if v < -104 * 2 ^ 149 then 0
    else encodeRounded .fp32 false (roundMag .fp32 .rne .sat false (expFix v).toNat (-400) 0).1
/-- The quotient of two values at or above zero, correctly rounded to FP32 under RNE. -/
def divRn (a b : Nat) : Nat :=
  match decodeElem .fp32 a 0, decodeElem .fp32 b 0 with
  | .fin x, .fin y =>
    let q := x.natAbs * 2 ^ 200 / y.natAbs
    let odd := if x.natAbs * 2 ^ 200 % y.natAbs = 0 then 0 else 1
    encodeRounded .fp32 false (roundMag .fp32 .rne .sat false (2 * q + odd) (-201) 0).1
  | .zero _, .fin _ => 0
  | _, _ => 0x7FC00000
/-- The rank key of a logit: its value, zeros equal (R367). -/
def rankKey (c : Nat) : Int :=
  match decodeElem .fp32 c 0 with
  | .fin v => v
  | .inf neg => if neg then -(2 ^ 400) else 2 ^ 400
  | _ => 0
/-- Gate values of the chosen logits; `all`: every logit taking part (R368). -/
def gateValues (norm : Nat) (chosen all : List Nat) : List Nat :=
  match norm with
  | 0 => chosen
  | 1 =>
    let m := chosen.headD 0
    let t := chosen.map (fun l => expRn (fpSum [l, fpNeg m]))
    t.map (fun x => divRn x (fpSum t))
  | 2 =>
    let m := (sortDesc rankKey all).headD 0
    let e : Nat → Nat := fun l => expRn (fpSum [l, fpNeg m])
    let sum := fpSum (all.map e)
    chosen.map (fun l => divRn (e l) sum)
  | _ => chosen.map (fun l => divRn 0x3F800000 (fpSum [0x3F800000, expRn (fpNeg l)]))

/-! ## The descriptor (R358, R359) -/

namespace GateCtx
def word (c : GateCtx) (w : Nat) : Word := c.desc.getD w 0
def harness (c : GateCtx) : Nat := (c.word 0).field 0 12
def program (c : GateCtx) : Bool := (c.word 0).field 12 1 == 1
def tokFmt (c : GateCtx) : Fmt := (fmtCode ((c.word 0).field 13 4)).getD .bf16
def outFmt (c : GateCtx) : Fmt := (fmtCode ((c.word 0).field 17 4)).getD .fp32
def resFmt (c : GateCtx) : Fmt := (fmtCode ((c.word 0).field 21 4)).getD .fp32
def rnd (c : GateCtx) : Rnd := rndCode ((c.word 0).field 25 5)
def ovf (c : GateCtx) : Ovf := if (c.word 0).field 30 1 = 1 then .ieee else .sat
def pair (c : GateCtx) : Bool := (c.word 0).field 31 1 == 1
def k (c : GateCtx) : Nat := (c.word 0).field 32 4
def norm (c : GateCtx) : Nat := (c.word 0).field 36 2
def byMask (c : GateCtx) : Bool := (c.word 0).field 38 1 == 1
def overflow (c : GateCtx) : Nat := (c.word 0).field 39 2
def epoch (c : GateCtx) : Nat := (c.word 0).field 41 16
def h (c : GateCtx) : Nat := (c.word 1).field 0 15
def e (c : GateCtx) : Nat := (c.word 1).field 16 13
def slots (c : GateCtx) : Nat := (c.word 1).field 32 8
def capacity (c : GateCtx) : Nat := (c.word 1).field 40 12
def notify (c : GateCtx) : Nat := (c.word 1).field 52 12
def passes (c : GateCtx) : Nat := (c.e + 511) / 512
def cluster (c : GateCtx) (p : Nat) : Nat := (c.word 2).field (8 * p) 8
def tid (c : GateCtx) : Nat := (c.word 3).field 40 24
def predOn (c : GateCtx) : Bool := (c.word 6).field 0 1 == 1
def predP (c : GateCtx) : Nat := (c.word 6).field 1 12
def predNB (c : GateCtx) : Nat := (c.word 6).field 13 16
def predMax (c : GateCtx) : Nat := (c.word 6).field 29 6
def predLayer (c : GateCtx) : Nat := (c.word 6).field 35 12
def layer (c : GateCtx) : Nat := (c.word 6).field 47 12
def storeDie (c : GateCtx) : Nat := (c.word 6).field 59 4
def prefetch (c : GateCtx) : Bool := (c.word 6).field 63 1 == 1
def seed (c : GateCtx) : Nat := (c.word 7).toNat
/-- Bytes of a token, of a slot's token, of an output, of a result. -/
def tokBytes (c : GateCtx) : Nat := c.h * c.tokFmt.bytes
def slotTok (c : GateCtx) : Nat := (c.tokBytes + 63) / 64 * 64
def outBytes (c : GateCtx) : Nat := c.h * c.outFmt.bytes
def resBytes (c : GateCtx) : Nat := c.h * c.resFmt.bytes
/-- Slot pitch of R369, as R359 counts it. -/
def pitch (c : GateCtx) : Nat := c.slotTok + c.k * c.outBytes + 64
/-- Experts of pass `p`, and bytes of its weights. -/
def ep (c : GateCtx) (p : Nat) : Nat := min c.e (512 * p + 512) - 512 * p
def weightBytes (c : GateCtx) (p : Nat) : Nat := c.h * c.ep p * c.tokFmt.bytes * (if c.pair then 2 else 1)
def allWeights (c : GateCtx) : Nat := ((List.range c.passes).map c.weightBytes).sum
def predBytes (c : GateCtx) : Nat := if c.predOn then 2 * (c.h * c.predP + c.predP * c.predNB) else 0
/-- S reserved on the cluster of pass `p`. -/
def reserve (c : GateCtx) (p : Nat) : Nat :=
  let n := if p = 0 then c.weightBytes 0 + c.slots * c.pitch + 4 * c.e + 4352 + c.predBytes else c.weightBytes p + 4 * c.slotTok + 4096
  (n + 4095) / 4096 * 4096
/-- FEID of the host of expert `x`, where its entry is VALID. -/
def host (c : GateCtx) (x : Nat) : Option Nat :=
  let v := c.hosts.getD x 0
  if v / 2 ^ 31 % 2 = 1 then some (v % 2 ^ 18) else none

/-- The value of a weight element at a byte offset. -/
def weight (c : GateCtx) (o : Nat) : Val := decodeElem c.tokFmt (leAt c.weights o c.tokFmt.bytes) 0
/-- Logit of expert `x` (R365): the code of the FP32 result. -/
def logit (c : GateCtx) (tok : List Val) (x : Nat) : Nat :=
  let p := x / 512
  let sz := c.tokFmt.bytes
  let base := ((List.range p).map c.weightBytes).sum
  let row : Nat → List Acc := fun o => (List.range c.h).map (fun k => Acc.ofProd .sat (tok.getD k .nan) (c.weight (o + (x % 512 * c.h + k) * sz)))
  let terms := row base ++ (if c.pair then row (base + c.ep p * c.h * sz) else [])
  let g := mmaGroup c.tokFmt
  (finishAcc .fp32 .rne .sat 0 (mmaOut .sat Acc.empty (piecesOf g ((terms.length + g - 1) / g) terms)).1).1
/-- Blocks the predictor keeps for a token, best first (R381). -/
def predict (c : GateCtx) (tok : List Val) : List Nat :=
  let w : Nat → Val := fun i => decodeElem .bf16 (leAt c.pred (2 * i) 2) 0
  let g := min (mmaGroup c.tokFmt) 64
  let mma : Nat → List Acc → Acc := fun g l => (mmaOut .sat Acc.empty (piecesOf g ((l.length + g - 1) / g) l)).1
  let z := (List.range c.predP).map (fun j =>
    let r := (finishAcc .bf16 .rne .sat 0 (mma g ((List.range c.h).map (fun k => Acc.ofProd .sat (tok.getD k .nan) (w (k * c.predP + j)))))).1
    let v := decodeElem .bf16 r 0
    match v with
    | .fin x => if 0 < x then v else .zero false
    | .inf false => v
    | _ => .zero false)
  let score := (List.range c.predNB).map (fun b =>
    (b, (finishAcc .fp32 .rne .sat 0 (mma 64 ((List.range c.predP).map (fun j => Acc.ofProd .sat (z.getD j .nan) (w (c.h * c.predP + j * c.predNB + b)))))).1))
  let act := score.filter (fun p => decide (0 < rankKey p.2))
  ((sortDesc (fun p => rankKey p.2) act).take c.predMax).map (fun p => p.1)
/-- Tokens dispatched to an expert whose OUTPUT has not landed (R373). -/
def outstanding (c : GateCtx) (x : Nat) : Nat :=
  ((c.tokens.filter (fun t => t.phase == 3)).map (fun t => (t.chosen.filter (fun y => y.e == x && !y.done)).length)).sum
def full (c : GateCtx) (x : Nat) : Bool := c.overflow != 0 && decide (c.capacity ≤ c.outstanding x)
def putToken (c : GateCtx) (t : Token) : GateCtx := { c with tokens := c.tokens.map (fun y => if y.slot = t.slot then t else y) }
def token? (c : GateCtx) (slot : Nat) : Option Token := c.tokens.find? (fun t => t.slot == slot)
end GateCtx

namespace Token
/-- The bytes of a landed message, in frame order. -/
def bytes (t : Token) : List Byte :=
  (List.range t.frames.length).flatMap (fun i => ((t.frames.find? (fun f => f.1 == i)).map (fun f => f.2)).getD [])
end Token

/-- The token word of R363. -/
def tokenWord (origin dev expert rank dropped slot : Nat) : Nat :=
  origin % 2 ^ 18 + dev % 64 * 2 ^ 18 + expert % 4096 * 2 ^ 24 + rank % 8 * 2 ^ 36 + dropped % 16 * 2 ^ 39 + slot % 256 * 2 ^ 43
/-- A dispatch record (R371): the named entries are expert, rank, gate value. -/
def dispatchRecord (origin dev seq slot : Nat) (es : List (Nat × Nat × Nat)) : List Byte :=
  bytesLE 4 (origin + dev * 2 ^ 18) ++ bytesLE 4 seq ++ bytesLE 1 slot ++ bytesLE 1 es.length ++ bytesLE 2 0 ++
  padTo 16 0 (es.flatMap (fun x => bytesLE 2 (x.1 + x.2.1 * 2 ^ 12))) ++ padTo 32 0 (es.flatMap (fun x => bytesLE 4 x.2.2)) ++ bytesLE 4 0

namespace State

/-! ## Frames a context sends (R362) -/

def gateFrame (s : State) (c : GateCtx) (kind op dst seq frag : Nat) (first last : Bool) (status word : Nat) (bs : List Byte) : State :=
  s.send c.die (FrameSpec.make
   { cls := 0, kind := kind, dst := dst, src := s.feidOfDevice s.devIndex, harness := c.harness, op := op, flow := c.ctx * 64 % 2 ^ 20,
     seq := seq, frag := frag, first := first, last := last, ctx := c.ctx, addr := word, epoch := if kind = 3 then c.epoch else 0,
     time := s.now, status := status, payload := bs })
/-- A message of 4,096-byte frames whose first has FRAG `at_`; `begun`: a frame of it has gone before. -/
def gateMessage (s : State) (c : GateCtx) (kind op dst seq at_ status word : Nat) (begun : Bool) (bs : List Byte) : State :=
  let n := max 1 ((bs.length + 4095) / 4096)
  (List.range n).foldl (fun t i =>
    t.gateFrame c kind op dst seq (at_ + i) (!begun && i == 0) (i + 1 == n) status word ((bs.drop (4096 * i)).take 4096)) s
/-- A RESULT of a token that took no slot (R364). -/
def refuseToken (s : State) (c : GateCtx) (f : Frame) (st : Nat) : State :=
  s.gateFrame c 3 2 f.src f.seq 0 true true st (tokenWord f.src s.devIndex 0 0 0 0) []

/-- A token is answered: its RESULT goes, its slot frees, and the tally grows, with a witness record after 65,536 (R364, R374,
R400, R405). -/
def answerToken (s : State) (ctx slot st : Nat) (bs : List Byte) (tally : GateTally → GateTally) : State :=
  match s.findGate ctx with
  | none => s
  | some c =>
    match c.token? slot with
    | none => s
    | some t =>
      let s1 := s.gateMessage c 3 2 t.src t.seq 0 st (tokenWord t.src s.devIndex 0 0 t.dropped slot) false bs
      let g := tally { c.tally with tokens := c.tally.tokens + 1, dropped := c.tally.dropped + t.dropped }
      let c1 := { c with tokens := c.tokens.filter (fun y => y.slot != slot), tally := g }
      let s2 := s1.putGate c1
      if 65536 ≤ g.tokens then s2.gateWitness c1 else s2
/-- A token answered in failure: an all-ones payload (R375). -/
def failToken (s : State) (ctx slot st : Nat) : State :=
  match s.findGate ctx with
  | none => s
  | some c =>
    s.answerToken ctx slot st (allOnes c.resBytes) (fun g =>
      if st = stPOISON then { g with poisoned := g.poisoned + 1 } else if st = stTIMEOUT then { g with timeouts := g.timeouts + 1 } else g)
/-- A poisoned token (R366). -/
def poisonToken (s : State) (ctx slot die : Nat) : State := (s.inc (CRX_CNT_GATE_POISON.V die)).failToken ctx slot stPOISON

/-! ## Prediction and prefetch (R381 to R383) -/

/-- A block is requested for an endpoint, unless it was within STREAM_WINDOW_US (R382). -/
def requestBlock (s : State) (ctx origin block seq : Nat) : State :=
  match s.findGate ctx with
  | none => s
  | some c =>
    let win := (c.word 5).field 40 16 * 1000
    if win != 0 && c.recent.any (fun r => r.1 == origin && r.2.1 == block && decide (s.now - r.2.2 < win)) then s.inc (CRX_CNT_GATE_FILTER.V c.die)
    else
      let kept := if 4096 ≤ c.recent.length then c.recent.drop 1 else c.recent
      let s1 := (s.putGate { c with recent := kept ++ [(origin, block, s.now)] }).inc (CRX_CNT_GATE_STREAM.V c.die)
      match s1.liveStore c.storeDie with
      | some x => s1.serveFetch x block origin seq
      | none => s1
/-- Every block of the experts named for host `f` is requested for it (R383). -/
def prefetchFor (s : State) (c : GateCtx) (f seq : Nat) (es : List Nat) : State :=
  if !c.prefetch then s else
  match s.liveStore c.storeDie with
  | none => s
  | some x => es.foldl (fun t e => (List.range x.blocks).foldl (fun u b =>
      let id := c.layer * 2 ^ 20 + e * 2 ^ 8 + b
      match x.index id with
      | some i => if (u.storeEntry x i).1.field 0 1 = 1 then u.requestBlock c.ctx f id seq else u
      | none => u) t) s

/-! ## Dispatch (R370 to R373) -/

/-- Endpoint device of a FEID, where it is an endpoint of this plane. -/
def hostDevice (s : State) (n f : Nat) : Option Nat :=
  match s.feidEntry n f with
  | some e => if e.field 1 1 = 0 && e.field 2 1 = 0 then some (e.field 3 6) else none
  | none => none
/-- One DISPATCH message: its record and the token. -/
def dispatchTo (s : State) (c : GateCtx) (t : Token) (dst : Nat) (es : List (Nat × Nat × Nat)) : State :=
  let word := tokenWord t.src s.devIndex 0 0 0 t.slot
  (s.gateFrame c 4 1 dst t.seq 0 true false stOK word (dispatchRecord t.src s.devIndex t.seq t.slot es)).gateMessage
    c 4 1 dst t.seq 1 stOK word true t.bytes
/-- The token goes to its hosts (R370). -/
def dispatchToken (s : State) (c : GateCtx) (t : Token) : State :=
  let es := t.chosen.map (fun x => (x.e, x.rank, x.g))
  let hostOf : (Nat × Nat × Nat) → Nat := fun x => (c.host x.1).getD 0
  let hosts := (es.map hostOf).dedup
  let far : Nat → Option Nat := fun f => match s.hostDevice c.die f with
    | some d => if c.byMask && d != s.devIndex then some d else none
    | none => none
  let devs := (hosts.filterMap far).dedup
  let s1 := (hosts.filter (fun f => (far f).isNone)).foldl (fun u f => u.dispatchTo c t f (es.filter (fun x => hostOf x == f))) s
  let s2 := devs.foldl (fun u d => u.dispatchTo c t (u.feidOfDevice d) (es.filter (fun x => far (hostOf x) == some d))) s1
  let heat := es.foldl (fun l x => insertKey (eraseKey l x.1) x.1 (min 0xFFFFFFFF ((lookupKey l x.1).getD 0 + 1))) c.heat
  let s3 := s2.putGate { c with heat := heat, tokens := c.tokens.map (fun y => if y.slot = t.slot then { t with phase := 3 } else y) }
  hosts.foldl (fun u f => u.prefetchFor c f t.seq ((es.filter (fun x => hostOf x == f)).map (fun x => x.1))) s3

/-- Replace experts at capacity by the next of the ranking (R373 OVERFLOW 3): what is chosen then, and how many were replaced. -/
def replaceFull (c : GateCtx) (pool : List (Nat × Nat)) : List Chosen → List Nat → List (Option Chosen) × Nat
  | [], _ => ([], 0)
  | x :: t, used =>
    if !c.full x.e then (let r := replaceFull c pool t used; (some x :: r.1, r.2))
    else match pool.find? (fun p => !used.contains p.1 && !c.full p.1) with
      | some p => (let r := replaceFull c pool t (p.1 :: used); (some { x with e := p.1 } :: r.1, r.2 + 1))
      | none => (let r := replaceFull c pool t used; (none :: r.1, r.2))

/-- A chosen token is dispatched under its OVERFLOW mode, or waits; true where it waits (R373). -/
def tryDispatch (s : State) (c : GateCtx) (t : Token) : Bool × State :=
  let hit := t.chosen.filter (fun x => c.full x.e)
  if hit.isEmpty then (false, s.dispatchToken c t)
  else if c.overflow = 1 then
    (true, if t.phase = 4 then s else (s.putGate (c.putToken { t with phase := 4 })).inc (CRX_CNT_GATE_WAIT.V c.die))
  else
    let r := if c.overflow = 3 then replaceFull c (t.ranking.take (2 * c.k)) t.chosen (t.chosen.map (fun x => x.e))
      else (t.chosen.map (fun x => if c.full x.e then none else some x), 0)
    let kept := r.1.filterMap (fun x => x)
    let lost := r.1.length - kept.length
    let lg : Nat → Nat := fun e => (lookupKey t.ranking e).getD 0
    let gs := gateValues c.norm (kept.map (fun x => lg x.e)) (t.ranking.map (fun p => p.2))
    let final := if r.2 = 0 then kept else (List.range kept.length).map (fun i => { kept.getD i ⟨0, 0, 0, [], false⟩ with g := gs.getD i 0 })
    let t1 := { t with chosen := final, dropped := t.dropped + lost }
    let s1 := (s.count (CRX_CNT_GATE_DROP.V c.die) lost).count (CRX_CNT_GATE_NEXT.V c.die) r.2
    let s2 := s1.putGate (c.putToken t1)
    if final.isEmpty then
      (let z := (finishAcc c.resFmt c.rnd c.ovf 0 Acc.empty).1
       (false, s2.answerToken c.ctx t.slot stOK ((List.range c.h).flatMap (fun _ => bytesLE c.resFmt.bytes z)) (fun g => g)))
    else (false, s2.dispatchToken (c.putToken t1) t1)
/-- Tokens are dispatched in landing order, until one waits or has not been chosen for (R373). -/
def gateMove (ctx : Nat) : Nat → State → State
  | 0, s => s
  | fuel + 1, s =>
    match s.findGate ctx with
    | none => s
    | some c =>
      match c.tokens.find? (fun t => t.phase == 1 || t.phase == 2 || t.phase == 4) with
      | none => s
      | some t => if t.phase = 1 then s else (let r := s.tryDispatch c t; if r.1 then r.2 else gateMove ctx fuel r.2)
def advanceGate (s : State) (ctx : Nat) : State := gateMove ctx 257 s

/-! ## Tokens (R364 to R369) -/

/-- A whole token has landed: gated, or handed to the program (R365 to R369, R381). -/
def gateToken (s : State) (c : GateCtx) (t : Token) : State :=
  if c.program then
    (let clu := c.cluster 0
     let n := c.landed % 256
     let w := (s.memWrite c.harness [(addrS clu (c.base + t.slot * c.pitch), c.tokBytes)] t.bytes).2
     let w2 := (w.memWrite c.harness [(addrS clu (c.ring + n), 1)] (bytesLE 1 t.slot)).2
     let w3 := w2.putGate { c.putToken { t with phase := 1 } with landed := c.landed + 1 }
     (w3.creditReturn (4096 * c.die + c.notify) 1).getD w3)
  else
    let vals := (piecesOf c.tokFmt.bytes c.h t.bytes).map (fun b => decodeElem c.tokFmt (leNat b) 0)
    let logits := (List.range c.e).map (fun x => (x, c.logit vals x))
    if logits.any (fun p => isNanCode .fp32 p.2) then (s.putGate (c.putToken { t with phase := 2 })).poisonToken c.ctx t.slot c.die
    else
      let ranking := sortDesc (fun p => rankKey p.2) (logits.filter (fun p => (c.host p.1).isSome))
      let top := ranking.take c.k
      let gs := gateValues c.norm (top.map (fun p => p.2)) (ranking.map (fun p => p.2))
      let chosen := (List.range top.length).map (fun i => Chosen.mk i (top.getD i (0, 0)).1 (gs.getD i 0) [] false)
      let s1 := if c.predOn then
          (match s.liveStore c.storeDie with
           | some x => (c.predict vals).foldl (fun u b =>
               u.requestBlock c.ctx t.src (c.predLayer * 2 ^ 20 + b / x.blocks * 2 ^ 8 + b % x.blocks) t.seq) s
           | none => s)
        else s
      match s1.findGate c.ctx with
      | none => s1
      | some c1 =>
        let s2 := s1.putGate (c1.putToken { t with phase := 2, ranking := ranking, chosen := chosen })
        if chosen.isEmpty then
          (let z := (finishAcc c.resFmt c.rnd c.ovf 0 Acc.empty).1
           s2.answerToken c.ctx t.slot stOK ((List.range c.h).flatMap (fun _ => bytesLE c.resFmt.bytes z)) (fun g => g))
        else s2.advanceGate c.ctx

/-- The context a landed frame of cluster `clu` belongs to. -/
def takeGate (s : State) (clu : Nat) (f : Frame) (k : State → GateCtx → State) : State :=
  match s.landed (.cluster clu) f with
  | none => s
  | some y =>
    let s1 := s.unland y
    match s1.findGate f.ctx with
    | none => s1.inc (CRX_CNT_GATE_STALE.V (clu / 4))
    | some c => if c.cluster 0 != clu || c.broken then s1.inc (CRX_CNT_GATE_STALE.V (clu / 4)) else k s1 c
/-- The slot a new token takes: the lowest free. -/
def freeSlot (c : GateCtx) : Option Nat := (List.range c.slots).find? (fun i => (c.token? i).isNone)
/-- One frame joins its token; the last one lands it (R364). -/
def tokenFrame (s : State) (c : GateCtx) (t : Token) (f : Frame) : State :=
  let t1 := { t with frames := t.frames ++ [(f.frag, f.payload)], poison := t.poison || f.tstatus == stPOISON,
                     last := if f.last then some f.frag else t.last }
  if !f.last then s.putGate (c.putToken t1)
  else if t1.bytes.length != c.tokBytes || (t1.frames.map (fun x => x.2.length)).sum != c.tokBytes then
    (s.putGate { c with tokens := c.tokens.filter (fun y => y.slot != t.slot) }).refuseToken c f stREJECT
  else
    let t2 := { t1 with landed := s.now }
    let c2 := { c with tokens := c.tokens.filter (fun y => y.slot != t.slot) ++ [t2] }
    let s1 := (s.inc (CRX_CNT_GATE_TOKEN.V c.die)).putGate c2
    if t2.poison then (s1.putGate (c2.putToken { t2 with phase := 2 })).poisonToken c.ctx t.slot c.die else s1.gateToken c2 t2
/-- A TOKEN frame at cluster `clu` (R364). One that finds every slot in use stays where it landed. -/
def tokenIn (s : State) (clu : Nat) (f : Frame) : State :=
  let busy := match s.findGate f.ctx with
    | some c => f.first && c.cluster 0 == clu && !c.broken && f.epoch == c.epoch && (freeSlot c).isNone &&
        !(f.last && f.len != c.tokBytes) && !(c.tokens.any (fun t => t.src == f.src && t.seq == f.seq))
    | none => false
  if busy then s
  else s.takeGate clu f (fun s1 c =>
    if f.epoch != c.epoch then s1.inc (CRX_CNT_GATE_STALE.V c.die)
    else
      let mine := c.tokens.find? (fun t => t.src == f.src && t.seq == f.seq)
      if !f.first then
        (match mine with
         | some t => if t.phase = 0 then s1.tokenFrame c t f else s1
         | none => s1)
      else if f.last && f.len != c.tokBytes then s1.refuseToken c f stREJECT
      else if mine.isSome then s1.refuseToken c f stDUPLICATE
      else match freeSlot c with
        | none => s1
        | some i =>
          let t : Token := ⟨i, f.src, f.seq, [], none, false, 0, [], [], 0, 0⟩
          let c1 := { c with tokens := c.tokens ++ [t] }
          (s1.putGate c1).tokenFrame c1 t f)

/-- A selection record handed over for context `ctx` (R369). -/
def selection (s : State) (ctx : Nat) : State :=
  match s.gate.recs.find? (fun r => r.ctx == ctx) with
  | none => s
  | some r =>
    let s1 := s.withGate { s.gate with recs := s.gate.recs.erase r }
    match s1.findGate ctx with
    | none => s1
    | some c =>
      if c.broken || !c.program then s1.inc (CRX_CNT_GATE_STALE.V c.die) else
      let slot := leAt r.bytes 0 1
      let n := leAt r.bytes 1 1
      let es := (List.range n).map (fun i => (leAt r.bytes (2 * i + 4) 2 % 4096, leAt r.bytes (4 * i + 20) 4))
      match c.token? slot with
      | none => s1.inc (CRX_CNT_GATE_STALE.V c.die)
      | some t =>
        if t.phase != 1 then (s1.inc (CRX_CNT_GATE_STALE.V c.die)).failToken ctx slot stREJECT
        else if n = 0 then (s1.poisonToken ctx slot c.die).advanceGate ctx
        else if c.k < n || es.any (fun x => c.e ≤ x.1 || (c.host x.1).isNone) then
          ((s1.inc (CRX_CNT_GATE_STALE.V c.die)).failToken ctx slot stREJECT).advanceGate ctx
        else
          let chosen := (List.range n).map (fun i => Chosen.mk i (es.getD i (0, 0)).1 (es.getD i (0, 0)).2 [] false)
          (s1.putGate (c.putToken { t with phase := 2, chosen := chosen })).advanceGate ctx

/-! ## Mask DISPATCH at a host's device (R370) -/

/-- The endpoints of this device that a received record names, each with its entries. -/
def maskHosts (s : State) (c : GateCtx) (rec_ : List Byte) : List (Nat × List (Nat × Nat × Nat)) :=
  let es := (List.range (min 8 (leAt rec_ 9 1))).map (fun i =>
    let w := leAt rec_ (2 * i + 12) 2
    (w % 4096, w / 2 ^ 12 % 8, leAt rec_ (4 * i + 28) 4))
  let here : Nat → Option Nat := fun e => match c.host e with
    | some f => if s.hostDevice c.die f = some s.devIndex then some f else none
    | none => none
  ((es.filterMap (fun x => here x.1)).dedup).map (fun f => (f, es.filter (fun x => here x.1 == some f)))
/-- A DISPATCH frame at cluster `clu`: passed to each host named, the record cut to it. -/
def dispatchIn (s : State) (clu : Nat) (f : Frame) : State :=
  s.takeGate clu f (fun s1 c =>
    let origin := f.addr % 2 ^ 18
    let copy : State → Nat → List Byte → State := fun u d bs =>
      u.send c.die ({ f with w0 := f.w0.withField 10 18 d, payload := bs, t0 := Word.ofN (crc32c 0 bs) } : Frame).sealHeader
    if f.frag = 0 then
      (let hs := s1.maskHosts c f.payload
       let w := leAt f.payload 0 4
       let s2 := hs.foldl (fun u p => copy u p.1 (dispatchRecord (w % 2 ^ 18) (w / 2 ^ 18 % 64) (leAt f.payload 4 4) (leAt f.payload 8 1) p.2)) s1
       s2.putGate { c with masks := c.masks.filter (fun m => !(m.1 == origin && m.2.1 == f.seq)) ++ (if f.last then [] else [(origin, f.seq, hs.map (fun p => p.1))]) })
    else match c.masks.find? (fun m => m.1 == origin && m.2.1 == f.seq) with
      | none => s1.inc (CRX_CNT_GATE_STALE.V c.die)
      | some m =>
        let s2 := m.2.2.foldl (fun u d => copy u d f.payload) s1
        if f.last then s2.putGate { c with masks := c.masks.erase m } else s2)

/-! ## Combine (R374, R375) -/

/-- Every OUTPUT has landed: combine and answer. `k`: what the dual rounding of the combine found (R395). -/
def combine (s : State) (c : GateCtx) (t : Token) (k : HwCheck) : State :=
  let outs := t.chosen.map (fun x =>
    (decodeElem .fp32 x.g 0, (piecesOf c.outFmt.bytes c.h (({ t with frames := x.got } : Token).bytes)).map (fun b => decodeElem c.outFmt (leNat b) 0)))
  let accs := (List.range c.h).map (fun i => outs.foldl (fun a o => a.merge (Acc.ofProd c.ovf o.1 (o.2.getD i .nan))) Acc.empty)
  let base := (t.src * 2 ^ 24 + t.seq) * c.h
  let bits : Nat → Nat := fun i => match c.rnd with
    | .sr n => srBits c.seed c.tid ((base + i) % 2 ^ 48) n
    | _ => 0
  let rs := (List.range c.h).map (fun i => finishAcc c.resFmt c.rnd c.ovf (bits i) (accs.getD i Acc.empty))
  if k = .dual then
    ((s.inc (CRX_CNT_DUAL_FAIL.V c.die)).checkFault 6 c.harness c.die
      (bytesLE 2 c.ctx ++ bytesLE 2 c.epoch ++ bytesLE 1 t.slot)).failToken c.ctx t.slot stCHECK
  else
    let vin := residue c.seed (base % 2 ^ 48) accs
    let vout := residueVals c.seed (base % 2 ^ 48) (rs.map (fun r => decodeElem c.resFmt r.1 0))
    let fl := rs.foldl (fun m r => m ||| r.2) 0
    s.answerToken c.ctx t.slot stOK (rs.flatMap (fun r => bytesLE c.resFmt.bytes r.1)) (fun g =>
      { g with resIn := (g.resIn + vin) % resP, resOut := (g.resOut + vout) % resP, flags := g.flags ||| fl })
/-- An OUTPUT frame at cluster `clu` (R375). -/
def outputIn (s : State) (clu : Nat) (f : Frame) (k : HwCheck) : State :=
  s.takeGate clu f (fun s1 c =>
    let slot := f.addr / 2 ^ 43 % 256
    let e := f.addr / 2 ^ 24 % 4096
    let rank := f.addr / 2 ^ 36 % 8
    let stale := s1.inc (CRX_CNT_GATE_STALE.V c.die)
    match c.token? slot with
    | none => stale
    | some t =>
      match t.chosen.find? (fun x => x.rank == rank && x.e == e && !x.done) with
      | none => stale
      | some x =>
        if t.phase != 3 || t.src != f.addr % 2 ^ 18 || t.seq != f.seq || (!f.first && x.got.isEmpty) then stale
        else
          let got := (if f.first then [] else x.got) ++ [(f.frag, f.payload)]
          let whole := decide ((({ t with frames := got } : Token).bytes).length = c.outBytes)
          let x1 := if !f.last then { x with got := got } else if whole then { x with got := got, done := true } else { x with got := [] }
          let t1 := { t with chosen := t.chosen.map (fun y => if y.rank = rank then x1 else y) }
          let s2 := s1.putGate (c.putToken t1)
          if !f.last then s2
          else if !whole then s2.inc (CRX_CNT_GATE_STALE.V c.die)
          else (if t1.chosen.all (fun y => y.done) then s2.combine (c.putToken t1) t1 k else s2).advanceGate c.ctx)
/-- TIMEOUT_US has passed since the token of a slot landed (R375). -/
def gateTimeout (s : State) (ctx slot : Nat) : State :=
  match s.findGate ctx with
  | none => s
  | some c =>
    match c.token? slot with
    | none => s
    | some t =>
      if t.phase = 0 then s
      else
        let miss := t.chosen.find? (fun x => !x.done)
        let feid := (miss.bind (fun x => c.host x.e)).getD 0
        let s1 := (s.inc (CRX_CNT_GATE_TIMEOUT.V c.die)).report
          ⟨clHARNESS, 3, 2, stTIMEOUT, unitCrux c.die, c.harness, bytesLE 2 ctx ++ bytesLE 1 slot ++ bytesLE 1 ((miss.map (fun x => x.rank)).getD 0) ++ bytesLE 4 feid⟩
        (s1.failToken ctx slot stTIMEOUT).advanceGate ctx

/-! ## Commands (R360, R361, R386) -/

/-- Fields of a descriptor within their ranges (R358, R361 order 2). -/
def gateFieldsOk (s : State) (n : Nat) (c : GateCtx) : Bool :=
  let w := c.word
  let clus := (List.range c.passes).map c.cluster
  let tok := (w 0).field 13 4
  decide (1 ≤ tok) && decide (tok ≤ 4) && decide ((w 0).field 17 4 ≤ 4) && decide ((w 0).field 21 4 ≤ 2) && decide ((w 0).field 25 5 ≤ 27) &&
  (!c.pair || tok == 1) && decide (1 ≤ c.k) && decide (c.k ≤ 8) && (w 0).field 57 7 == 0 && decide (32 ≤ c.h) && decide (c.h ≤ 16384) &&
  c.h % 32 == 0 && decide (1 ≤ c.e) && decide (c.e ≤ 4096) && decide (1 ≤ c.slots) && (c.overflow == 0 || decide (1 ≤ c.capacity)) &&
  clus.all (fun k => decide (k < 64)) && clus.dedup.length == clus.length && c.cluster 0 / 4 == n && decide (1 ≤ (w 4).field 40 16) &&
  (w 4).field 56 8 == 0 && (w 5).field 56 8 == 0 &&
  (!c.predOn || (decide (1 ≤ c.predP) && decide (1 ≤ c.predNB) && decide (1 ≤ c.predMax))) &&
  (!(c.predOn || c.prefetch) || (match s.liveStore c.storeDie with
    | some x => x.h == c.harness && (!c.predOn || decide (c.predNB ≤ x.experts * x.blocks))
    | none => false))
/-- The S a context already holds on a cluster. -/
def gateHas (old : Option GateCtx) (clu : Nat) : Nat := ((old.bind (fun c => lookupKey c.bytes clu)).getD 0)
/-- A context's S is released. -/
def gateRelease (s : State) (c : GateCtx) : State :=
  c.bytes.foldl (fun t b => t.setSres b.1 c.harness (t.rf (CRX_CLU_SRES.BYTES (b.1 / 4) (b.1 % 4)) - b.2)) s
/-- CREATE or REFORM: its status, and the state where it is OK. -/
def gateMake (s : State) (n ctx : Nat) (d : List Word) (old : Option GateCtx) : Nat × State :=
  let c0 : GateCtx := { ctx := ctx, die := n, desc := d, broken := false, cause := 0, weights := [], pred := [], hosts := [], masks := [], bytes := [],
                        base := 0, ring := 0, tokens := [], landed := 0, heat := [], recent := [], tally := GateTally.zero }
  let h := c0.harness
  let ps := (List.range c0.passes).map (fun p => (c0.cluster p, c0.reserve p))
  let own : Nat → Bool := fun clu => match s.cluOwner clu with
    | none => true
    | some o => o == h || (!s.rb (CRX_CLU_STS.OWNED (clu / 4) (clu % 4)) && s.rf (CRX_CLU_SRES.BYTES (clu / 4) (clu % 4)) == gateHas old clu)
  let wr := s.hRange h ((c0.word 3).field 0 40) c0.allWeights
  let hr := s.hRange h ((c0.word 4).field 0 40) (4 * c0.e)
  let pr := if c0.predOn then s.hRange h ((c0.word 5).field 0 40) c0.predBytes else some []
  if !s.grantable h then (stREJECT, s)
  else if !s.gateFieldsOk n c0 then (stREJECT, s)
  else if old.isNone && !s.quotaOk .ctx h 1 then (stQUOTA, s)
  else if ps.any (fun p => !own p.1 || (!c0.program && s.boundIn p.1 != 0)) then (stCONFLICT, s)
  else if ps.any (fun p => decide (sizeS - s.maxFoot p.1 < s.rf (CRX_CLU_SRES.BYTES (p.1 / 4) (p.1 % 4)) - gateHas old p.1 + p.2)) then (stNOMEM, s)
  else match wr, hr, pr with
    | some a, some b, some e =>
      let s1 := match old with
        | none => s.quotaTake .ctx h 1
        | some x =>
          let t := s.gateRelease x
          (if x.harness = h then t else (t.quotaGive .ctx x.harness 1).quotaTake .ctx h 1).withGate { t.gate with ctxs := t.gate.ctxs.filter (fun y => y.ctx != ctx) }
      let mw := s1.memRead h a
      let mh := mw.2.2.memRead h b
      let mp := mh.2.2.memRead h e
      let fw := mp.2.2.freeW
      let top := fw.2.rf (CRX_CLU_SRES.BYTES (c0.cluster 0 / 4) (c0.cluster 0 % 4))
      let lo := sizeS - top - c0.reserve 0
      let slack := c0.reserve 0 - c0.slots * c0.pitch - 256
      let first := lo + fw.1.toNat / 2 % (slack + 1)
      let s2 := ps.foldl (fun t p =>
        let up := t.rf (CRX_CLU_SRES.BYTES (p.1 / 4) (p.1 % 4))
        (t.setSres p.1 h (up + p.2)).withMem (t.mem.clearValid (addrS p.1 (sizeS - up - p.2)) (addrS p.1 (sizeS - up)))) fw.2
      let c1 := { c0 with weights := mw.1, hosts := (List.range c0.e).map (fun i => leAt mh.1 (4 * i) 4), pred := mp.1, bytes := ps,
                          base := if fw.1.toNat % 2 = 0 then first else first + 256,
                          ring := if fw.1.toNat % 2 = 0 then first + c0.slots * c0.pitch else first,
                          landed := (old.map (fun x => x.landed)).getD 0, heat := (old.map (fun x => x.heat)).getD [] }
      (stOK, s2.withGate { s2.gate with ctxs := s2.gate.ctxs ++ [c1] })
    | _, _, _ => (stDENIED, s)
/-- The harness of a context that ends its tokens with a status, and writes its witness record (R360, R400). -/
def gateEnd (s : State) (c : GateCtx) (st : Nat) : State :=
  let s1 := c.tokens.foldl (fun t x => t.failToken c.ctx x.slot st) s
  match s1.findGate c.ctx with
  | some c1 => s1.gateWitness c1
  | none => s1
/-- What a command does to its context, and its status. -/
def gateCmd (s : State) (n ctx op : Nat) : Nat × State :=
  let d := (List.range 8).map (fun w => s.reg (CRX_GATE_D.a n w))
  if s.mpStopped && (op == 1 || op == 2) then (stREJECT, s) else
  match s.findGate ctx, op with
  | none, 1 => s.gateMake n ctx d none
  | some c, 2 =>
    if c.die = n && (d.getD 0 0).field 41 16 != c.epoch then
      (let r := s.gateMake n ctx d (some c)
       if r.1 = stOK then (let s1 := s.gateEnd c stFLUSHED; s1.gateMake n ctx d (s1.findGate ctx)) else (r.1, s))
    else (stREJECT, s)
  | some c, 3 =>
    if c.die = n then
      (let s1 := s.gateWitness c
       ((stOK, ((s1.gateRelease c).quotaGive .ctx c.harness 1).withGate { s1.gate with ctxs := s1.gate.ctxs.filter (fun x => x.ctx != ctx) })))
    else (stREJECT, s)
  | _, _ => (stREJECT, s)
/-- A write of CRX_GATE_CMD of crux die `n`: the command executes from the moment it is accepted. -/
def writeGateCmd (s : State) (src : Src) (n ctx op : Nat) : State :=
  if s.rb (CRX_GATE_CMD.BUSY n) then s.reject src (CRX_GATE_CMD.a n)
  else
    let s1 := s.wf (CRX_GATE_CMD.CTX n) ctx
    if op = 0 then s1 else
    let r := s1.gateCmd n ctx op
    let r2 := if r.1 != stOK then r.2
      else r.2.trace 3 (unitCrux n) (((r.2.findGate ctx).map (fun c => c.harness)).getD 0) (bytesLE 2 ctx ++ bytesLE 1 (if op = 3 then 0 else 1) ++ bytesLE 1 0)
    (r2.withGate { r2.gate with cmds := insertKey (eraseKey r2.gate.cmds n) n r.1 }).wf (CRX_GATE_CMD.BUSY n) 1
def writeGateD (s : State) (src : Src) (n w : Nat) (v : Word) : State :=
  if s.rb (CRX_GATE_CMD.BUSY n) then s.reject src (CRX_GATE_D.a n w) else s.setReg (CRX_GATE_D.a n w) v
/-- The gate command of crux die `n` finishes. -/
def gateCmdDone (s : State) (n : Nat) : State :=
  match lookupKey s.gate.cmds n with
  | none => s
  | some st => ((s.withGate { s.gate with cmds := eraseKey s.gate.cmds n }).wf (CRX_GATE_CMD.STATUS n) st).wf (CRX_GATE_CMD.BUSY n) 0

/-! ## Reported registers (R386) -/

/-- The context CRX_GATE_SEL of crux die `n` selects, where its pass 0 cluster is there. -/
def gateSel (s : State) (n : Nat) : Option GateCtx :=
  match s.findGate (s.rf (CRX_GATE_SEL.CTX n)) with
  | some c => if c.die = n then some c else none
  | none => none
def gateSts (s : State) (n : Nat) : Word :=
  match s.gateSel n with
  | some c => Word.ofN ((if c.broken then 2 else 1) + c.epoch * 2 ^ 2 + c.tokens.length * 2 ^ 18 + c.cause * 2 ^ 26)
  | none => 0
def gateSlots (s : State) (n : Nat) : Word :=
  match s.gateSel n with | some c => Word.ofN (c.base + c.pitch * 2 ^ 25) | none => 0
def gateRing (s : State) (n : Nat) : Word :=
  match s.gateSel n with | some c => Word.ofN c.ring | none => 0
def gateHeat (s : State) (n : Nat) : Word :=
  match s.gateSel n with
  | some c => Word.ofN ((lookupKey c.heat (s.rf (CRX_GATE_HEAT_CTL.EXPERT n))).getD 0)
  | none => 0
/-- A read of CRX_GATE_HEAT advances EXPERT under AUTOINC. -/
def heatAdvance (s : State) (n : Nat) : State :=
  if s.rb (CRX_GATE_HEAT_CTL.AUTOINC n) then s.wf (CRX_GATE_HEAT_CTL.EXPERT n) (s.rf (CRX_GATE_HEAT_CTL.EXPERT n) + 1) else s
def readHeat (s : State) (n : Nat) : State := (s.emit (.regData (s.gateHeat n))).heatAdvance n
/-- A write of CRX_GATE_HEAT_CTL. -/
def writeHeatCtl (s : State) (n : Nat) (v : Word) : State :=
  let s1 := (s.wf (CRX_GATE_HEAT_CTL.EXPERT n) (v.field 0 12)).wf (CRX_GATE_HEAT_CTL.AUTOINC n) (v.field 12 1)
  if v.field 13 1 = 0 then s1
  else match s1.gateSel n with
    | some c => s1.putGate { c with heat := [] }
    | none => s1
/-- A register read that an access check turns away returns zero (R491, R591). -/
def guardRead (s : State) (src : Src) (a : Nat) (k : State → State) : State :=
  if s.boot.held then s else
  match s.accessFails src a with
  | some st => (s.hacc src 0 a false st).emit (.regData 0)
  | none => k s

end State

/-- The oldest selection record handed over for context `ctx` (R369). -/
def execSelectionRecord (ctx : BitVec 14) (s : State) : Res := unheld s (s.selection ctx.toNat)
/-- CRX_GATE_CMD CREATE (R361). -/
def execGateCreate (src : Src) (n : Fin 16) (ctx : BitVec 14) (s : State) : Res :=
  unheld s (s.guardWrite src (CRX_GATE_CMD.a n) (fun t => t.writeGateCmd src n ctx.toNat 1))
/-- CRX_GATE_CMD REFORM (R360). -/
def execGateReform (src : Src) (n : Fin 16) (ctx : BitVec 14) (s : State) : Res :=
  unheld s (s.guardWrite src (CRX_GATE_CMD.a n) (fun t => t.writeGateCmd src n ctx.toNat 2))
/-- CRX_GATE_CMD DESTROY (R360). -/
def execGateDestroy (src : Src) (n : Fin 16) (ctx : BitVec 14) (s : State) : Res :=
  unheld s (s.guardWrite src (CRX_GATE_CMD.a n) (fun t => t.writeGateCmd src n ctx.toNat 3))
/-- A TOKEN frame at cluster `c` (R364). -/
def execToken (c : Fin 64) (f : Frame) (s : State) : Res :=
  if f.kind = 3 ∧ f.op = 1 then unheld s (s.tokenIn c f) else .fault (.illFormed "TOKEN")
/-- A mask DISPATCH frame at cluster `c` (R370). -/
def execDispatch (c : Fin 64) (f : Frame) (s : State) : Res :=
  if f.kind = 4 ∧ f.op = 1 then unheld s (s.dispatchIn c f) else .fault (.illFormed "DISPATCH")
/-- An OUTPUT frame at cluster `c` (R375); `k`: what the dual rounding of the combine found (R395). -/
def execOutput (c : Fin 64) (f : Frame) (k : HwCheck) (s : State) : Res :=
  if f.kind = 4 ∧ f.op = 2 then unheld s (s.outputIn c f k) else .fault (.illFormed "OUTPUT")
/-- TIMEOUT_US passes for the token of a slot (R375). -/
def execGateTimeout (ctx : BitVec 14) (slot : Fin 256) (s : State) : Res := unheld s (s.gateTimeout ctx.toNat slot)
/-- CRX_GATE_HEAT_CTL.CLEAR (R386). -/
def execHeatClear (src : Src) (n : Fin 16) (s : State) : Res :=
  unheld s (s.guardWrite src (CRX_GATE_HEAT_CTL.a n) (fun t => t.writeHeatCtl n ((t.reg (CRX_GATE_HEAT_CTL.a n)).withField 13 1 1)))
/-- A read of CRX_GATE_HEAT (R386). -/
def execHeatRead (src : Src) (n : Fin 16) (s : State) : Res :=
  unheld s (s.guardRead src (CRX_GATE_HEAT.a n) (fun t => t.readHeat n))
/-- The gate command of crux die `n` finishes (R361). -/
def execGateCommandComplete (n : Fin 16) (s : State) : Res := unheld s (s.gateCmdDone n)

end Sys2Proof.Machine
end

