-- ==== Sys2Proof/Machine/Rings.lean ====
section
/-! DEFINITION. The host interface: PCIe ports, ring pairs, ring commands, completions, interrupts, RING frames, the BAR4
window (spec/15_host_interface.md R412 to R442). -/
namespace Sys2Proof.Machine

/-- Bytes of a segment. -/
def segLen : HostSeg → Nat
  | .ok b => b.length
  | .denied n => n
  | .poison n => n
  | .timeout n => n

/-- What stands at a submission head (R421): nothing whole yet; an orphan continuation; a command of some entries. -/
inductive Peek where
  | none
  | orphan
  | cmd (es : List (List Byte)) (ok : Bool)
  deriving DecidableEq, Repr

/-- Entries an opcode takes, where it has a meaning (R422). -/
def opEntries (c : Nat) : Option Nat :=
  if c = 0x10 then some 2
  else if c = 0x00 || c = 0x01 || c = 0x02 || c = 0x11 || c = 0x12 || c = 0x21 || c = 0x22 || c = 0x30 || c = 0x31 || c = 0x32 then some 1
  else none
def entOp (e : List Byte) : Nat := leAt e 0 1
def entCont (e : List Byte) : Bool := leAt e 1 1 % 2 == 1
/-- A chain is what its opcode takes (R421). -/
def chainOk (es : List (List Byte)) (closed : Bool) : Bool :=
  closed && (match opEntries (entOp (es.headD [])) with | some n => n == es.length | none => false) &&
  es.tail.all (fun e => entOp e == 0xFF)

namespace State

/-! ## Shape of a ring pair (R418, R419) -/

def sqSize (s : State) (i : Nat) : Nat := 2 ^ s.rf (RING_CFG.SQ_LOG2 i)
def cqSize (s : State) (i : Nat) : Nat := 2 ^ s.rf (RING_CFG.CQ_LOG2 i)
def sqHead (s : State) (i : Nat) : Nat := s.rf (RING_STS.SQ_HEAD i)
def sqTail (s : State) (i : Nat) : Nat := s.rf (RING_STS.SQ_TAIL i)
/-- Entries between the submission head and tail. -/
def sqWait (s : State) (i : Nat) : Nat := (s.sqTail i + s.sqSize i - s.sqHead i) % s.sqSize i
def cqUsed (s : State) (i : Nat) : Nat := (lookupKey s.host.used i).getD 0
def setCqUsed (s : State) (i n : Nat) : State := s.withHost { s.host with used := sparseSet (fun _ => 0) s.host.used i n }
/-- The completion ring has an entry for every command in progress and `n` more (R425). -/
def cqRoom (s : State) (i n : Nat) : Bool := decide (s.cqUsed i + (s.runsOf i).length + n ≤ s.cqSize i)
def setInFlight (s : State) (i : Nat) : State := s.wf (RING_STS2.IN_FLIGHT i) (min 64 (s.runsOf i).length)
/-- The FEID a hub puts on the frames it originates (R504). -/
def hubFeid (s : State) : Nat := s.rf HUB_JOIN1.DEVICE_FEID
/-- The ring pair a doorbell page belongs to: page i of the PF, or the enabled pair of a VF with that slot (R417, R428). -/
def pageRing (s : State) (v page : Nat) : Option Nat :=
  s.host.opened.find? (fun i => if v = 0 then i == page else s.rf (RING_CFG.VF i) == v && s.rf (RING_CFG.VSLOT i) == page)
/-- Submission entry `x`: fetched from host memory, or read from H; all ones where there is nothing to read. -/
def sqEntry (s : State) (i x : Nat) : List Byte :=
  if s.rf (RING_CFG.SQ_LOC i) = 0 then (lookupKey s.host.cache (65536 * i + x)).getD (allOnes 64)
  else match s.hRange (s.ringH i) (s.rf (RING_SQ_BASE.V i) + 64 * x) 64 with
    | some rs => s.mem.readRuns (s.ringH i) rs
    | none => allOnes 64
/-- The chain that starts at entry `x`, of at most `n` entries: its entries, and whether CONT is clear on the last. -/
def chain (s : State) (i : Nat) : Nat → Nat → List (List Byte) × Bool
  | _, 0 => ([], false)
  | x, n + 1 =>
    let e := s.sqEntry i x
    if entCont e then (let r := chain s i ((x + 1) % s.sqSize i) n; (e :: r.1, r.2)) else ([e], true)

/-! ## Completion entries, slots and interrupts (R426, R429, R430) -/

/-- The vector of a ring's function is sent, or pends where it is masked. -/
def irqSend (s : State) (i : Nat) : State :=
  if s.rb HUB_HOST_CTL.NONE then s else
  let fn := s.rf (RING_CFG.VF i)
  let vec := s.rf (RING_IRQ.VECTOR i)
  let s1 := s.withHost { s.host with unsig := eraseKey s.host.unsig i }
  let ctl : Word := sparseGet (fun _ => 0#64) s.host.msix (128 * fn + 2 * (vec % 64) + 1)
  let hidden := fn != 0 && ctl.field 32 1 == 1
  if hidden then s1.withHost { s1.host with pendV := if s1.host.pendV.contains (fn, vec) then s1.host.pendV else s1.host.pendV ++ [(fn, vec)] }
  else s1.emit (.msix fn vec)
/-- One more entry is unsignalled. -/
def irqEntry (s : State) (i : Nat) : State :=
  if !s.rb (RING_IRQ.IRQ_EN i) then s else
  let n := (lookupKey s.host.unsig i).getD 0 + 1
  let s1 := s.withHost { s.host with unsig := sparseSet (fun _ => 0) s.host.unsig i n }
  if s1.rf (RING_IRQ.COAL_COUNT i) ≤ n then s1.irqSend i else s1

/-- A completion entry is written at the completion tail (R426, R427, R431). -/
def writeCqe (s : State) (i user status opc reason : Nat) (lost : Bool) (vals : List Nat) : State :=
  let x := s.rf (RING_STS.CQ_TAIL i)
  let phase := s.rf (RING_STS2.CQ_PHASE i)
  let e := bytesLE 8 user ++ bytesLE 2 i ++ bytesLE 2 (s.sqHead i) ++ bytesLE 1 status ++ bytesLE 1 opc ++ bytesLE 1 reason ++
    bytesLE 1 (b2n lost) ++ (List.range 5).flatMap (fun k => bytesLE 8 (nth vals k)) ++ List.replicate 7 0 ++ bytesLE 1 (128 * phase)
  let at_ := s.rf (RING_CQ_BASE.V i) + 64 * x
  let h := s.ringH i
  let s1 := match s.rf (RING_CFG.CQ_LOC i) with
    | 0 => s.emit (.hostWrite at_ e)
    | 1 => (match s.hRange h at_ 64 with | some rs => (s.memWrite h rs e).2 | none => s)
    | _ => s.send 0 (FrameSpec.make
     { cls := 2, kind := 5, dst := s.rf (RING_IRQ.CQ_FEID i), src := s.hubFeid, harness := h, op := 4, ctx := i, time := s.now, payload := e })
  let nx := (x + 1) % s1.cqSize i
  let s2 := (s1.wf (RING_STS.CQ_TAIL i) nx).setCqUsed i (s1.cqUsed i + 1)
  (if nx = 0 then s2.wf (RING_STS2.CQ_PHASE i) (1 - phase) else s2).irqEntry i

/-- A command of a ring completes: its slot, its entry (R422, R430). -/
def finishRun (s : State) (r : RingRun) (e : RingEnd) : State :=
  let i := r.ring
  let key := 64 * i + r.slot
  let named := r.flags / 4 % 2 == 1
  let armed := (sparseGet (fun _ => RingSlot.idle) s.host.slots key).armed
  let s1 := if named && armed then
      s.withHost { s.host with slots := sparseSet (fun _ => RingSlot.idle) s.host.slots key ⟨e.status, false, r.sq, nth e.vals 0⟩ }
    else s
  let lost := named && !armed
  let s2 := if r.flags / 8 % 2 == 1 && e.status = stOK && !lost then s1 else s1.writeCqe i r.user e.status r.opc e.reason lost e.vals
  if r.opc = 0xFF && e.status = stOVERFLOW then s2 else s2.inc RING_CNT_CMD.V

/-! ## Starting commands (R421, R425) -/

/-- What stands at the submission head. -/
def peek (s : State) (i : Nat) : Peek :=
  let n := s.sqWait i
  if n = 0 then .none
  else if s.host.cut.contains i && entOp (s.sqEntry i (s.sqHead i)) = 0xFF then .orphan
  else
    let r := s.chain i (s.sqHead i) (min 64 n)
    if r.2 || r.1.length = 64 then .cmd r.1 (chainOk r.1 r.2) else .none
/-- The submission head moves past `n` entries; a read of them from H is reported where it finds no word (R448). -/
def consume (s : State) (i n : Nat) : State :=
  let x := s.sqHead i
  let idx := (List.range n).map (fun k => (x + k) % s.sqSize i)
  let s1 := if s.rf (RING_CFG.SQ_LOC i) = 0 then
      s.withHost { s.host with cache := s.host.cache.filter (fun c => !(c.1 / 65536 == i && idx.contains (c.1 % 65536))) }
    else idx.foldl (fun t k => match t.hRange (t.ringH i) (t.rf (RING_SQ_BASE.V i) + 64 * k) 64 with
      | some rs => (t.memRead (t.ringH i) rs).2.2
      | none => t) s
  s1.wf (RING_STS.SQ_HEAD i) ((x + n) % s1.sqSize i)
/-- The run of a command, from its entries. -/
def makeRun (no i x : Nat) (es : List (List Byte)) (e : Option RingEnd) : RingRun :=
  let h := es.headD []
  ⟨no, i, x, entOp h, leAt h 1 1, leAt h 2 1 % 64, leAt h 8 8, h.drop 16, (es.getD 1 []).drop 8, e⟩
/-- A command starts; `e`: how it ends, where that is known at once. -/
def startRun (s : State) (i : Nat) (es : List (List Byte)) (e : Option RingEnd) : State :=
  let r := makeRun s.host.next i (s.sqHead i) es e
  let s1 := s.withHost { s.host with runs := s.host.runs ++ [r], next := s.host.next + 1, cut := s.host.cut.filter (fun c => c != i) }
  (s1.consume i es.length).setInFlight i
def fenceOk (s : State) (i : Nat) (es : List (List Byte)) : Bool := leAt (es.headD []) 1 1 / 2 % 2 == 0 || (s.runsOf i).isEmpty
/-- Starting stops on a FENCED device, but for harness 0, and while the processor is EXPIRED or RETURNED (R515, R523). -/
def ringStopped (s : State) (i : Nat) : Bool := s.mpStopped || (s.ringH i != 0 && s.rf HUB_FAULT_STS.DEV_STATE == 2)
/-- May the command at the head start (R418, R425)? -/
def canStart (s : State) (i : Nat) (es : List (List Byte)) : Bool :=
  s.ringState i == 1 && !s.ringStopped i && decide ((s.runsOf i).length < 64) && s.cqRoom i 1 && s.fenceOk i es
/-- A ring that stops for a full completion ring is counted once (R425). -/
def noteFull (s : State) (i : Nat) : State :=
  if s.cqRoom i 1 || s.host.full.contains i then s
  else (s.withHost { s.host with full := s.host.full ++ [i] }).inc RING_CNT_CQ_FULL.V
/-- Orphans are discarded and malformed commands start and end with REJECT, until a command with a meaning is at the head
(R421). -/
def ringAdvance (i : Nat) : Nat → State → State
  | 0, s => s
  | fuel + 1, s =>
    if s.ringState i != 1 then s else
    match s.peek i with
    | .none => s
    | .orphan =>
      let more := entCont (s.sqEntry i (s.sqHead i))
      let s1 := (s.consume i 1).inc RING_CNT_ORPHAN.V
      ringAdvance i fuel (if more then s1 else s1.withHost { s1.host with cut := s1.host.cut.filter (fun c => c != i) })
    | .cmd es ok =>
      if ok then s.noteFull i
      else if s.canStart i es then ringAdvance i fuel (s.startRun i es (some ⟨stREJECT, 0, []⟩))
      else s.noteFull i
def advance (s : State) (i : Nat) : State := ringAdvance i 65536 s

/-- The command at the head of ring pair `i` starts where it has opcode `opc` and may; `k` gets its run. -/
def ringOp (s0 : State) (i opc : Nat) (k : State → RingRun → State) : State :=
  let s := s0.advance i
  match s.peek i with
  | .cmd es true =>
    if entOp (es.headD []) = opc && s.canStart i es then
      (let r := makeRun s.host.next i (s.sqHead i) es none
       (k (s.startRun i es none) r).advance i)
    else s
  | _ => s

/-! ## Doorbells (R427, R428) -/

/-- Entries fetched from host memory up to a new tail; free bytes where none were given. -/
def fetchTo (s : State) (i t : Nat) (fetched : List (List Byte)) : State :=
  if s.rf (RING_CFG.SQ_LOC i) != 0 then s else
  let old := s.sqTail i
  let n := (t + s.sqSize i - s.sqHead i) % s.sqSize i - s.sqWait i
  let s1 := if fetched.length < n then { s with free := s.free + 1 } else s
  let es := (List.range n).map (fun k => (65536 * i + (old + k) % s.sqSize i,
    padTo 64 0 ((fetched[k]?).getD ((List.range 64).map (fun b => Config.freeByte s.free (64 * k + b))))))
  s1.withHost { s1.host with cache := es.foldl (fun c e => insertKey (eraseKey c e.1) e.1 e.2) s1.host.cache }
/-- A submission doorbell. -/
def doorSq (s : State) (i t : Nat) (fetched : List (List Byte)) : State :=
  if s.sqSize i ≤ t then s.ringError i stREJECT
  else ((s.fetchTo i t fetched).wf (RING_STS.SQ_TAIL i) t).advance i
/-- A completion doorbell. -/
def doorCq (s : State) (i h : Nat) : State :=
  let old := s.rf (RING_STS2.CQ_HEAD i)
  let n := (h + s.cqSize i - old) % s.cqSize i
  if s.cqSize i ≤ h || s.cqUsed i < n then s.ringError i stREJECT
  else
    let s1 := (s.wf (RING_STS2.CQ_HEAD i) h).setCqUsed i (s.cqUsed i - n)
    (s1.withHost { s1.host with full := s1.host.full.filter (fun x => x != i) }).advance i
/-- Result slots are armed (R430). -/
def doorArm (s : State) (i : Nat) (mask : Word) : State :=
  (List.range 64).foldl (fun t j =>
    if mask.field j 1 = 1 then
      (let key := 64 * i + j
       let old := sparseGet (fun _ => RingSlot.idle) t.host.slots key
       t.withHost { t.host with slots := sparseSet (fun _ => RingSlot.idle) t.host.slots key { old with status := stNOT_READY, armed := true } })
    else t) s
/-- A doorbell of a page; counted where no enabled ring has it. -/
def doorbell (s : State) (v page : Nat) (k : Nat → State → State) : State :=
  match s.pageRing v page with
  | some i => k i s
  | none => s.inc RING_CNT_DB_NONE.V

/-! ## ENABLE, FLUSH, DISABLE (R420, R433, R441) -/

def ringCmdDone (s : State) (st : Nat) : State := (s.wf RING_CMD.STATUS st).wf RING_CMD.BUSY 0
def alignedBase (s : State) (i loc : Nat) (base : Rf) (lg : Nat) : Bool :=
  match loc with
  | 0 => s.rf base % 4096 == 0 && !s.rb HUB_HOST_CTL.NONE
  | 1 => s.rf base % 4096 == 0 && (s.hRange (s.ringH i) (s.rf base) (64 * 2 ^ lg)).isSome
  | 2 => true
  | _ => false
/-- The checks of ENABLE in order (R420); NOT_READY before DONE, but for harness 0 (R507). -/
def enableStatus (s : State) (i : Nat) : Nat :=
  let h := s.ringH i
  let v := s.rf (RING_CFG.VF i)
  let lq := s.rf (RING_CFG.SQ_LOG2 i)
  let lc := s.rf (RING_CFG.CQ_LOG2 i)
  if h != 0 && s.rf HUB_CAMP_STS.STATE != 3 then stNOT_READY
  else if s.ringState i != 0 || !s.grantable h then stREJECT
  else if lq < 6 || 16 < lq || lc < 6 || 16 < lc || !s.alignedBase i (s.rf (RING_CFG.SQ_LOC i)) (RING_SQ_BASE.V i) lq ||
      !s.alignedBase i (s.rf (RING_CFG.CQ_LOC i)) (RING_CQ_BASE.V i) lc then stREJECT
  else if v != 0 && !(s.rb (HUB_VF_BIND.VALID v) && s.rf (HUB_VF_BIND.HARNESS v) == h) then stREJECT
  else if v != 0 && s.host.opened.any (fun j => j != i && s.rf (RING_CFG.VF j) == v && s.rf (RING_CFG.VSLOT j) == s.rf (RING_CFG.VSLOT i)) then stCONFLICT
  else if !s.quotaOk .rings h 1 then stQUOTA else stOK
/-- What a ring pair leaves behind when it becomes OFF, or starts anew. -/
def ringClear (s : State) (i : Nat) : State :=
  let gone := (s.runsOf i).map (fun r => r.no)
  let s1 := s.withComp { s.comp with waits := s.comp.waits.filter (fun w => !(decide (1000000 ≤ w.core) && gone.contains (w.core - 1000000))) }
  let h := s1.host
  (s1.withHost { h with runs := h.runs.filter (fun r => r.ring != i), used := eraseKey h.used i, unsig := eraseKey h.unsig i,
                        cut := h.cut.filter (fun c => c != i), disable := h.disable.filter (fun c => c != i),
                        full := h.full.filter (fun c => c != i), cache := h.cache.filter (fun c => c.1 / 65536 != i),
                        submits := h.submits.filter (fun m => m.ring != i), remote := h.remote.filter (fun r => !gone.contains r.1) }).setInFlight i
def ringEnable (s : State) (i : Nat) : State :=
  let st := s.enableStatus i
  if st != stOK then s.ringCmdDone st
  else
    let s1 := (s.ringClear i).quotaTake .rings (s.ringH i) 1
    let s2 := ((s1.setReg (RING_STS.a i) 0).setReg (RING_STS2.a i) 0).wf (RING_STS2.CQ_PHASE i) 1
    let s3 := (s2.withHost { s2.host with opened := insertNat s2.host.opened i }).wf (RING_STS.STATE i) 1
    s3.ringPauses.ringCmdDone stOK
/-- A ring pair becomes OFF and its quota unit goes back. -/
def ringOff (s : State) (i : Nat) : State :=
  let s1 := (s.setRing i 0).ringClear i
  (s1.withHost { s1.host with opened := s1.host.opened.filter (fun x => x != i) }).quotaGive .rings (s1.ringH i) 1
/-- A FLUSHING ring in which no started command remains goes on (R433). -/
def endFlush (s : State) (i : Nat) : State :=
  if s.ringState i = 2 && (s.runsOf i).isEmpty then
    (let s1 := if s.host.disable.contains i then s.ringOff i else (s.setRing i 1).ringPauses.advance i
     if s1.rb RING_CMD.BUSY && s1.rf RING_CMD.RING = i then s1.ringCmdDone stOK else s1)
  else s
/-- A ring pair is disabled without completions (R163, R434). -/
def ringKill (s : State) (i : Nat) : State :=
  let s1 := s.ringOff i
  if s1.rb RING_CMD.BUSY && s1.rf RING_CMD.RING = i then s1.ringCmdDone stOK else s1

/-- The commands between the submission head and tail at a flush: index and entries of each, the orphans among them, and whether
the flush point cuts the last chain. -/
def flushList (s : State) (i : Nat) : Nat → Nat → Nat → Bool → List (Nat × List (List Byte)) × Nat × Bool
  | 0, _, _, cut => ([], 0, cut)
  | fuel + 1, x, n, cut =>
    if n = 0 then ([], 0, cut)
    else
      let e := s.sqEntry i x
      if cut && entOp e = 0xFF then
        (let r := flushList s i fuel ((x + 1) % s.sqSize i) (n - 1) (entCont e); (r.1, r.2.1 + 1, r.2.2))
      else
        let c := s.chain i x (min 64 n)
        let k := c.1.length
        let r := flushList s i fuel ((x + k) % s.sqSize i) (n - k) (!c.2 && decide (k < 64))
        ((x, c.1) :: r.1, r.2.1, r.2.2)
/-- A command that ends without having started: its entry is written at once while the completion ring has room, else it waits
among the commands in progress. -/
def endUnstarted (s : State) (r : RingRun) (e : RingEnd) : State :=
  if s.cqRoom r.ring 1 then s.finishRun r e
  else
    (s.withHost { s.host with runs := s.host.runs ++ [{ r with no := s.host.next, ended := some e }], next := s.host.next + 1 }).setInFlight r.ring
/-- FLUSH of a ring pair that is not OFF; `off`: DISABLE (R433). -/
def ringFlush (s : State) (i : Nat) (off : Bool) : State :=
  if s.ringState i = 0 then s.ringCmdDone stREJECT
  else
    let l := s.flushList i 65536 (s.sqHead i) (s.sqWait i) (s.host.cut.contains i)
    let s1 := ((s.setRing i 2).consume i (s.sqWait i)).wf RING_CMD.BUSY 1
    let msgs := (s1.host.submits.filter (fun m => m.ring == i)).length
    let h := s1.host
    let s2 := s1.withHost { h with submits := h.submits.filter (fun m => m.ring != i),
                                   cut := h.cut.filter (fun c => c != i) ++ (if l.2.2 then [i] else []),
                                   disable := if off then h.disable ++ [i] else h.disable }
    let s3 := (s2.count RING_CNT_FLUSH_MSG.V msgs).count RING_CNT_ORPHAN.V l.2.1
    (l.1.foldl (fun t p => t.endUnstarted (makeRun 0 i p.1 p.2 none) ⟨stFLUSHED, 0, []⟩) s3).endFlush i
/-- A write of RING_CMD (R441). -/
def writeRingCmd (s : State) (src : Src) (i op : Nat) : State :=
  if s.rb RING_CMD.BUSY then s.reject src RING_CMD.a
  else
    let s1 := s.wf RING_CMD.RING i
    match op with
    | 0 => s1
    | 1 => s1.ringEnable i
    | 2 => s1.ringFlush i false
    | 3 => s1.ringFlush i true
    | _ => s1.ringCmdDone stREJECT

/-! ## Ring commands (R422 to R424, R437, R438) -/

/-- DMA_TO_DEV and DMA_FROM_DEV: what can be told at the start (R422, R438). -/
def dmaStart (s : State) (r : RingRun) : State :=
  let n := leAt r.args 16 4
  if n = 0 then s.endRun r.no stREJECT 0 []
  else if (s.hRange (s.ringH r.ring) (leAt r.args 8 5) n).isNone then s.endRun r.no stDENIED 0 []
  else s
/-- Bytes of H written for one segment at H offset `o`: whether a merge failed. -/
def dmaPut (s : State) (h o : Nat) (bs : List Byte) : Bool × State :=
  match s.hRange h o bs.length with
  | some rs => s.memWrite h rs bs
  | none => (false, s)
/-- Segments of a host read, in address order: the first failing status, the bytes moved, the state. -/
def dmaIn (h base len : Nat) : Nat → List HostSeg → Nat × Nat → State → (Nat × Nat) × State
  | _, [], r, s => (r, s)
  | o, g :: t, r, s =>
    let fst : Nat → Nat := fun st => if r.1 = stOK then st else r.1
    match g with
    | .ok bs =>
      let w := s.dmaPut h o bs
      dmaIn h base len (o + bs.length) t (if w.1 then fst stPOISON else r.1, r.2 + bs.length) w.2
    | .denied n => dmaIn h base len (o + n) t (fst stDENIED, r.2) s
    | .timeout n => dmaIn h base len (o + n) t (fst stTIMEOUT, r.2) s
    | .poison n =>
      let lo := max base (o / 8 * 8)
      let hi := min (base + len) ((o + n + 7) / 8 * 8)
      let q := dmaIn h base len (o + n) t (fst stPOISON, r.2) s
      (q.1, (q.2.dmaPut h lo (allOnes (hi - lo))).2)
/-- Segments of a host write: what was sent, its status and bytes. -/
def dmaOut (addr : Nat) : List HostSeg → List Byte → Nat × Nat → State → (Nat × Nat) × State
  | [], _, r, s => (r, s)
  | g :: t, bs, r, s =>
    let n := segLen g
    let st := match g with | .ok _ => stOK | .denied _ => stDENIED | .poison _ => stPOISON | .timeout _ => stTIMEOUT
    let s1 := if st = stOK then s.emit (.hostWrite addr (bs.take n)) else s
    dmaOut (addr + n) t (bs.drop n) (if r.1 = stOK then st else r.1, if st = stOK then r.2 + n else r.2) s1
/-- A DMA command moves its data (R438): the host answered with these segments; without an active port it ends with TIMEOUT
(R434). -/
def dmaRun (s : State) (r : RingRun) (segs : List HostSeg) : State :=
  let h := s.ringH r.ring
  let addr := leAt r.args 0 8
  let o := leAt r.args 8 5
  let n := leAt r.args 16 4
  if s.rb HUB_HOST_CTL.NONE then s.endRun r.no stTIMEOUT 0 [0]
  else if (segs.map segLen).sum != n then s
  else match s.hRange h o n with
    | none => s.endRun r.no stDENIED 0 [0]
    | some rs =>
      if r.opc = 1 then
        (let q := dmaIn h o n o segs (stOK, 0) s
         (q.2.count RING_CNT_DMA_BYTES.V q.1.2).endRun r.no q.1.1 0 [q.1.2])
      else
        let m := s.memRead h rs
        let q := dmaOut addr segs m.1 (stOK, 0) m.2.2
        (q.2.count RING_CNT_DMA_BYTES.V q.1.2).endRun r.no (if q.1.1 = stOK && m.2.1 then stPOISON else q.1.1) 0 [q.1.2]

/-- The cores a ring command names, where every one is bound to the ring's harness (R422). -/
def ringCores (s : State) (r : RingRun) (die mask : Nat) : Option (List Nat) :=
  let l := maskCores (die % 16) mask
  if l.all (fun k => s.boundCore k && s.coreH k == s.ringH r.ring) then some l else none
/-- LOAD (R423, R424). -/
def ringLoad (s : State) (r : RingRun) (img : Image) : State :=
  let a := r.args
  let die := leAt a 0 1 % 16
  let op := leAt a 1 1
  let h := s.ringH r.ring
  match s.ringCores r die (leAt a 2 4) with
  | none => s.endRun r.no stDENIED 0 []
  | some cores =>
    let c := s.loadCheck cores op h (leAt a 6 5) (leAt a 11 3) img
    if c.1 != stOK then
      (let sh := if c.2 = 1 then s.shortfalls cores h img else []
       s.endRun r.no c.1 c.2 [nth sh 0, nth sh 1, nth sh 2,
         min 0xFFFF (nth sh 3) + min 0xFFFF (nth sh 4) * 2 ^ 16 + min 0xFFFF (nth sh 5) * 2 ^ 32 + min 0xFFFF (nth sh 6) * 2 ^ 48])
    else
      let args := (List.range 4).map (fun k => Word.ofN (leAt a (14 + 8 * k) 8)) ++ (List.range 4).map (fun k => Word.ofN (leAt r.cont (8 * k) 8))
      s.withComp { s.comp with loads := s.comp.loads ++ [⟨die, cores, op == 2, h, img, args, some r.no, false⟩] }
/-- GO and HALT: `f` acts on each core of the mask. -/
def ringMask (s : State) (r : RingRun) (f : Nat → State → State) : State :=
  match s.ringCores r (leAt r.args 0 1) (leAt r.args 2 4) with
  | none => s.endRun r.no stDENIED 0 []
  | some l => (l.foldl (fun t k => f k t) s).endRun r.no stOK 0 []
/-- WAIT_FLAG (R422). -/
def ringWait (s : State) (r : RingRun) : State :=
  let f := leAt r.args 0 2 % 4096
  let v := leAt r.args 2 1 % 2 == 1
  if s.pflagH f != some (s.ringH r.ring) then s.endRun r.no stDENIED 0 []
  else if leAt r.args 3 4 = 0 then s.endRun r.no stREJECT 0 []
  else if s.flagOf (pfKey f) = v then s.endRun r.no stOK 0 [s.now]
  else s.withComp { s.comp with waits := s.comp.waits ++ [⟨1000000 + r.no, .flag (pfKey f) v false, false, 0⟩] }
/-- REMOTE_REG (R437); `write`: what the first access of the list is, `mixed`: some other access differs from it. -/
def remoteReg (s : State) (r : RingRun) (write mixed : Bool) : State :=
  let dev := leAt r.args 0 1 % 64
  let n := leAt r.args 1 1
  let o := leAt r.args 2 5
  if s.ringH r.ring != 0 then s.endRun r.no stDENIED 0 []
  else if n = 0 || mixed then s.endRun r.no stREJECT 0 []
  else match s.hRange 0 o (16 * n) with
    | none => s.endRun r.no stDENIED 0 []
    | some rs =>
      let m := s.memRead 0 rs
      let s1 := m.2.2
      let tag := s1.host.tag
      let s2 := s1.withHost { s1.host with tag := (tag + 1) % 65536, remote := s1.host.remote ++ [(r.no, tag, dev)] }
      s2.send 0 (FrameSpec.make
       { cls := 6, kind := 6, dst := 0x3FFC0 + dev, src := s2.hubFeid, op := if write then 0x11 else 0x10, tag := tag, time := s2.now,
         payload := m.1, checkKind := 0 })

/-- In-band management is held while the processor is down (R523). -/
def mgmtHeld (s : State) : Bool := s.rf HUB_FAULT_STS.MP_STATE == 1 || s.rf HUB_FAULT_STS.MP_STATE == 2
/-- The frame at the front of a hub queue (R92), taken from it where `p` holds of it. -/
def takeHub (s : State) (at_ : Place) (p : Frame → Bool) : Option (Steered × State) :=
  match s.fwd.steer.find? (fun x => x.place == at_) with
  | some x => if p x.frame then some (x, s.withFwd { s.fwd with steer := s.fwd.steer.erase x }) else none
  | none => none
/-- A REG_RSP at the management processor (R437). -/
def regRsp (s : State) : State :=
  if s.mgmtHeld then s else
  match s.takeHub .mgmt (fun f => f.op == 0x12) with
  | none => s
  | some (x, s1) =>
    match s1.host.remote.find? (fun r => r.2.1 == x.frame.tag) with
    | none => s1
    | some (no, tag, dev) =>
      let s2 := s1.withHost { s1.host with remote := s1.host.remote.erase (no, tag, dev) }
      match s2.findRun no with
      | none => s2
      | some r =>
        let n := leAt r.args 1 1
        let bs := x.frame.payload.take (16 * n)
        let bad := ((List.range n).find? (fun k => leAt bs (16 * k + 4) 1 != stOK)).getD 0xFFFFFFFFFFFFFFFF
        let s3 := match s2.hRange 0 (leAt r.args 2 5) bs.length with
          | some rs => (s2.memWrite 0 rs bs).2
          | none => s2
        s3.endRun no stOK 0 [bad]

/-- What a command in progress has come to by now (R422, R438). -/
def resolve (s : State) (r : RingRun) (segs : List HostSeg) : State :=
  if r.ended.isSome then s
  else if r.opc = 1 || r.opc = 2 then s.dmaRun r segs
  else match s.comp.waits.find? (fun w => w.core == 1000000 + r.no && w.met) with
    | some w => (s.withComp { s.comp with waits := s.comp.waits.erase w }).endRun r.no stOK 0 [w.time]
    | none => s
/-- The `j`-th command in progress of ring pair `i` completes (R425, R426, R433). A ring that is PAUSED or in ERROR completes
nothing. -/
def ringComplete (s : State) (i j : Nat) (segs : List HostSeg) : State :=
  match (s.runsOf i)[j]? with
  | none => s
  | some r0 =>
    let s1 := s.resolve r0 segs
    match s1.findRun r0.no with
    | none => s1
    | some r =>
      match r.ended with
      | none => s1
      | some e =>
        if !(s1.ringState i == 1 || s1.ringState i == 2) || (s1.rf (RING_CFG.CQ_LOC i) == 0 && s1.rb HUB_HOST_CTL.NONE) ||
            decide (s1.cqSize i ≤ s1.cqUsed i) then s1
        else
          let s2 := (s1.withHost { s1.host with runs := s1.host.runs.filter (fun x => x.no != r.no) }).finishRun r e
          let s3 := (s2.setInFlight i).endFlush i
          if s3.ringState i = 1 then s3.advance i else s3
/-- A bound passes: WAIT_FLAG, or REMOTE_REG, ends with TIMEOUT (R422, R437). -/
def ringTimeout (s : State) (i j opc : Nat) : State :=
  match (s.runsOf i)[j]? with
  | none => s
  | some r =>
    let met := s.comp.waits.any (fun w => w.core == 1000000 + r.no && w.met)
    if r.opc != opc || r.ended.isSome || met then s
    else
      let s1 := s.withComp { s.comp with waits := s.comp.waits.filter (fun w => w.core != 1000000 + r.no) }
      (s1.withHost { s1.host with remote := s1.host.remote.filter (fun x => x.1 != r.no) }).endRun r.no stTIMEOUT 0 []

/-! ## RING frames (R431, R432) -/

/-- Is a RING frame accepted? -/
def ringAccepts (s : State) (f : Frame) : Bool :=
  let i := f.ctx
  decide (i < 8192) && s.ringState i != 0 && f.harness == s.ringH i &&
  (if s.rb (RING_CFG.DB_FEID_EN i) then f.src == s.rf (RING_CFG.DB_FEID i) else s.rb (RING_CFG.DB_ANY i)) &&
  (f.op != 3 || s.rf (RING_CFG.SQ_LOC i) == 1)
/-- The frame at the ring block, where it has the given OP, is accepted and acts, or is discarded, counted and reported. -/
def ringFrame (s : State) (op : Nat) (k : Frame → State → State) : State :=
  match s.takeHub .ring (fun f => f.op == op || !(f.op == 1 || f.op == 2 || f.op == 3)) with
  | none => s
  | some (x, s1) =>
    if x.frame.op != op then s1
    else if s1.ringAccepts x.frame then k x.frame s1
    else (s1.inc RING_CNT_DB_DENIED.V).reqReport 0x05 0 stDENIED (unitHub 0) x.frame
/-- Whole entries appended at the submission tail, or one OVERFLOW entry (R432). -/
def submitEnd (s : State) (i : Nat) (bs : List Byte) : State :=
  let n := bs.length / 64
  let size := s.sqSize i
  if size - 1 < s.sqWait i + n then
    (let r : RingRun := ⟨s.host.next, i, s.sqTail i, 0xFF, 0, 0, 0, [], [], some ⟨stOVERFLOW, 0, []⟩⟩
     (s.endUnstarted r ⟨stOVERFLOW, 0, []⟩))
  else
    let h := s.ringH i
    let t0 := s.sqTail i
    let s1 := (List.range n).foldl (fun t k =>
      (t.dmaPut h (t.rf (RING_SQ_BASE.V i) + 64 * ((t0 + k) % size)) ((bs.drop (64 * k)).take 64)).2) s
    (s1.wf (RING_STS.SQ_TAIL i) ((t0 + n) % size)).advance i
/-- A frame of a SUBMIT message (R432): the message is held until its LAST frame. -/
def submitFrame (s : State) (f : Frame) : State :=
  let i := f.ctx
  let mine : Submit → Bool := fun m => m.ring == i && m.src == f.src && m.seq == f.seq
  let old := s.host.submits.find? mine
  if !f.first && old.isNone then s
  else
    let bs := (if f.first then [] else (old.map (fun m => m.bytes)).getD []) ++ f.payload
    let rest := s.host.submits.filter (fun m => !mine m)
    if !f.last then s.withHost { s.host with submits := rest ++ [⟨i, f.src, f.seq, bs⟩] }
    else
      let s1 := s.withHost { s.host with submits := rest }
      if bs.length % 64 != 0 || bs.isEmpty || 16384 < bs.length then s1.inc RING_CNT_DB_DENIED.V else s1.submitEnd i bs

/-! ## PCIe ports and functions (R412, R416, R434, R439) -/

def upBit (p : Nat) : Rf := if p = 0 then HUB_HOST_CTL.UP0 else HUB_HOST_CTL.UP1
def portUp (s : State) (p : Nat) : State :=
  let s1 := s.wf (upBit p) 1
  (if s1.rb HUB_HOST_CTL.NONE then (s1.wf HUB_HOST_CTL.ACTIVE p).wf HUB_HOST_CTL.NONE 0 else s1).ringPauses
def portDown (s : State) (p : Nat) : State :=
  let s1 := s.wf (upBit p) 0
  if !s1.rb HUB_HOST_CTL.UP0 && !s1.rb HUB_HOST_CTL.UP1 then (s1.wf HUB_HOST_CTL.NONE 1).ringPauses else s1
/-- The host role moves to port `p`. -/
def roleMoves (s : State) (p : Nat) : State :=
  ((s.wf HUB_HOST_CTL.ACTIVE p).satInc HUB_HOST_CTL.TAKEOVERS 1).report
    ⟨clMGMT, 1, 1, stOK, unitHub 0, 0, bytesLE 1 p ++ bytesLE 1 (s.rf HUB_FAULT_STS.MP_STATE)⟩
def failover (s : State) : State :=
  let p := s.rf HUB_HOST_CTL.ACTIVE
  if !s.rb HUB_HOST_CTL.NONE && !s.rb (upBit p) && s.rb (upBit (1 - p)) then s.roleMoves (1 - p) else s
/-- A write of HUB_HOST_CTL. -/
def writeHostCtl (s : State) (src : Src) (v : Word) : State :=
  let s1 := s.wf HUB_HOST_CTL.FAILOVER_MS (v.field 5 15)
  if v.field 4 1 = 1 && s1.standby src then s1.roleMoves (srcCode src) else s1

/-- The enabled ring pairs of VF `v`. -/
def vfRings (s : State) (v : Nat) : List Nat := s.host.opened.filter (fun i => s.rf (RING_CFG.VF i) == v)
def vfReset (s : State) (v : Nat) : State :=
  let s1 := (s.vfRings v).foldl (fun t i => t.ringKill i) s
  s1.withHost { s1.host with msix := s1.host.msix.filter (fun m => m.1 / 128 != v), pendV := s1.host.pendV.filter (fun x => x.1 != v) }
def pfReset (s : State) : State :=
  let s1 := s.host.opened.foldl (fun t i => t.ringKill i) s
  s1.withHost { s1.host with msix := [], pendV := [] }
/-- A write of HUB_VF_BIND of VF `v` (R439). -/
def writeVfBind (s : State) (v : Nat) (w : Word) : State :=
  let was := s.rb (HUB_VF_BIND.VALID v)
  let s1 := s.setReg (HUB_VF_BIND.a v) (Word.ofN (w.field 0 13))
  if was && w.field 12 1 = 0 then (s1.vfRings v).foldl (fun t i => t.ringKill i) s1 else s1
/-- A write of a word of a VF's MSI-X table (R429, R598): a vector unmasked while its pending bit is set is sent. -/
def writeMsix (s : State) (v x : Nat) (w : Word) : State :=
  let s1 := s.withHost { s.host with msix := sparseSet (fun _ => 0#64) s.host.msix (128 * v + x) w }
  let vec := x / 2
  if x % 2 = 1 && w.field 32 1 = 0 && s1.host.pendV.contains (v, vec) then
    (s1.withHost { s1.host with pendV := s1.host.pendV.filter (fun p => p != (v, vec)) }).emit (.msix v vec)
  else s1

/-! ## The BAR4 window (R415) -/

/-- How a BAR4 access of `n` bytes fails before any memory is touched: malformed REJECT, standby port or outside DENIED, before
HBM is up NOT_READY. -/
def bar4Fails (s : State) (src : Src) (o n : Nat) : Option Nat :=
  let h := s.rf HUB_BAR4_CFG.HARNESS
  if n = 0 || 4096 < o % 4096 + n then some stREJECT
  else if s.standby src then some stDENIED
  else if !s.campOk 4 then some stNOT_READY
  else if s.hrnState h = 0 || (s.hRange h (s.rf HUB_BAR4_CFG.BASE + o) n).isNone then some stDENIED
  else none
def bar4Read (s : State) (src : Src) (o n : Nat) : State :=
  let h := s.rf HUB_BAR4_CFG.HARNESS
  match s.bar4Fails src o n with
  | some st =>
    let s1 := s.haccCode 2 src 0 o false st
    if st = stREJECT then s1 else s1.emit (.readData (allOnes n) false)
  | none =>
    let r := s.memRead h ((s.hRange h (s.rf HUB_BAR4_CFG.BASE + o) n).getD [])
    r.2.2.emit (.readData r.1 r.2.1)
def bar4Write (s : State) (src : Src) (o : Nat) (bs : List Byte) : State :=
  let h := s.rf HUB_BAR4_CFG.HARNESS
  match s.bar4Fails src o bs.length with
  | some st => s.haccCode 2 src 0 o true st
  | none => (s.dmaPut h (s.rf HUB_BAR4_CFG.BASE + o) bs).2

end State

/-- SQ_TAIL of a doorbell page of function `v` (0 the PF) is written; `fetched`: the entries host memory holds from the old tail
on, for a ring that lies there (R428). -/
def execSqTail (v : Fin 256) (page : Fin 8192) (t : BitVec 16) (fetched : List (List Byte)) (s : State) : Res :=
  unheld s (s.doorbell v page (fun i u => u.doorSq i t.toNat fetched))
/-- CQ_HEAD of a doorbell page is written (R428). -/
def execCqHead (v : Fin 256) (page : Fin 8192) (h : BitVec 16) (s : State) : Res :=
  unheld s (s.doorbell v page (fun i u => u.doorCq i h.toNat))
/-- SLOT_ARM of a doorbell page is written (R430). -/
def execSlotArm (v : Fin 256) (page : Fin 8192) (mask : Word) (s : State) : Res :=
  unheld s (s.doorbell v page (fun i u => u.doorArm i mask))
/-- RING_CMD ENABLE (R420). -/
def execRingEnable (src : Src) (i : Fin 8192) (s : State) : Res :=
  unheld s (s.guardWrite src RING_CMD.a (fun t => t.writeRingCmd src i 1))
/-- RING_CMD FLUSH (R433). -/
def execFlush (src : Src) (i : Fin 8192) (s : State) : Res :=
  unheld s (s.guardWrite src RING_CMD.a (fun t => t.writeRingCmd src i 2))
/-- RING_CMD DISABLE (R433). -/
def execRingDisable (src : Src) (i : Fin 8192) (s : State) : Res :=
  unheld s (s.guardWrite src RING_CMD.a (fun t => t.writeRingCmd src i 3))
/-- The NOP at the head of ring pair `i` (R422). -/
def execRingNop (i : Fin 8192) (s : State) : Res := unheld s (s.ringOp i 0x00 (fun t r => t.endRun r.no stOK 0 []))
/-- The DMA_TO_DEV at the head of ring pair `i` starts (R438). -/
def execDmaToDev (i : Fin 8192) (s : State) : Res := unheld s (s.ringOp i 0x01 (fun t r => t.dmaStart r))
/-- The DMA_FROM_DEV at the head of ring pair `i` starts (R438). -/
def execDmaFromDev (i : Fin 8192) (s : State) : Res := unheld s (s.ringOp i 0x02 (fun t r => t.dmaStart r))
/-- The LOAD at the head of ring pair `i` (R423); `img`: what the loader reads from the image. -/
def execRingLoad (i : Fin 8192) (img : Image) (s : State) : Res := unheld s (s.ringOp i 0x10 (fun t r => t.ringLoad r img))
/-- The GO at the head of ring pair `i` (R422, R424). -/
def execRingGo (i : Fin 8192) (s : State) : Res := unheld s (s.ringOp i 0x11 (fun t r => if t.mpStopped then t.endRun r.no stREJECT 0 [] else t.ringMask r (fun k u => u.go k)))
/-- The HALT at the head of ring pair `i` (R422). -/
def execRingHalt (i : Fin 8192) (s : State) : Res := unheld s (s.ringOp i 0x12 (fun t r => t.ringMask r (fun k u => u.haltCore k)))
/-- The WAIT_FLAG at the head of ring pair `i` (R422). -/
def execWaitFlag (i : Fin 8192) (s : State) : Res := unheld s (s.ringOp i 0x21 (fun t r => t.ringWait r))
/-- The bound of a WAIT_FLAG, the `j`-th command in progress of ring pair `i`, passes. -/
def execWaitFlagTimeout (i : Fin 8192) (j : Fin 64) (s : State) : Res := unheld s (s.ringTimeout i j 0x21)
/-- The REMOTE_REG at the head of ring pair `i` (R437). -/
def execRemoteReg (i : Fin 8192) (write mixed : Bool) (s : State) : Res := unheld s (s.ringOp i 0x22 (fun t r => t.remoteReg r write mixed))
/-- TIMEOUT_US of crux die 0 passes without the response to a REMOTE_REG. -/
def execRemoteRegTimeout (i : Fin 8192) (j : Fin 64) (s : State) : Res := unheld s (s.ringTimeout i j 0x22)
/-- The REG_RSP at the front of the management queue (R437). -/
def execRegRsp (s : State) : Res := unheld s s.regRsp
/-- The POOL_ALLOC at the head of ring pair `i` (R465). -/
def execPoolAlloc (i : Fin 8192) (s : State) : Res := unheld s (s.ringOp i 0x30 (fun t r => t.poolAlloc i r.no r.args))
/-- The POOL_FREE at the head of ring pair `i` (R467). -/
def execPoolFree (i : Fin 8192) (s : State) : Res := unheld s (s.ringOp i 0x31 (fun t r => t.poolFreeCmd i r.no r.args))
/-- The POOL_QUERY at the head of ring pair `i` (R463). -/
def execPoolQuery (i : Fin 8192) (s : State) : Res := unheld s (s.ringOp i 0x32 (fun t r => t.poolQuery i r.no r.args))
/-- The `j`-th command in progress of ring pair `i` completes (R426); `segs`: how the host answered a DMA. -/
def execRingCommandComplete (i : Fin 8192) (j : Fin 64) (segs : List HostSeg) (s : State) : Res := unheld s (s.ringComplete i j segs)
/-- COAL_NS passes after the first unsignalled entry of ring pair `i` (R429). -/
def execIrqCoalExpire (i : Fin 8192) (s : State) : Res :=
  unheld s (if s.rb (RING_IRQ.IRQ_EN i) && (lookupKey s.host.unsig i).isSome then s.irqSend i else s)
/-- The SQ_DB frame at the ring block (R431). -/
def execSqDb (fetched : List (List Byte)) (s : State) : Res :=
  unheld s (s.ringFrame 1 (fun f t => t.doorSq f.ctx (leAt f.payload 0 2) fetched))
/-- The CQ_DB frame at the ring block. -/
def execCqDb (s : State) : Res := unheld s (s.ringFrame 2 (fun f t => t.doorCq f.ctx (leAt f.payload 0 2)))
/-- The SUBMIT frame at the ring block (R432). -/
def execSubmit (s : State) : Res := unheld s (s.ringFrame 3 (fun f t => t.submitFrame f))
/-- The active port's link has been down for FAILOVER_MS (R434). -/
def execFailover (s : State) : Res := unheld s s.failover
/-- HUB_HOST_CTL.TAKEOVER (R434). -/
def execTakeover (src : Src) (s : State) : Res :=
  unheld s (s.guardWrite src HUB_HOST_CTL.a (fun t => t.writeHostCtl src ((t.reg HUB_HOST_CTL.a).withField 4 1 1)))
/-- The link of PCIe port `p` goes down. -/
def execPcieLinkDown (p : Fin 2) (s : State) : Res := unheld s (s.portDown p)
/-- The link of PCIe port `p` comes up. -/
def execPcieLinkUp (p : Fin 2) (s : State) : Res := unheld s (s.portUp p)
/-- An FLR of the PF (R434). -/
def execPfFlr (s : State) : Res := unheld s s.pfReset
/-- An FLR of VF `v` (R434). -/
def execVfFlr (v : Fin 255) (s : State) : Res := unheld s (s.vfReset (v.val + 1))
/-- HUB_VF_BIND of VF `v` + 1 is written (R439). -/
def execVfBind (src : Src) (v : Fin 255) (w : Word) (s : State) : Res :=
  unheld s (s.guardWrite src (HUB_VF_BIND.a (v.val + 1)) (fun t => t.writeVfBind (v.val + 1) w))
/-- A BAR4 read of `n` bytes at offset `o` (R415). -/
def execBar4Read (src : Src) (o : BitVec 36) (n : Fin 8192) (s : State) : Res := unheld s (s.bar4Read src o.toNat n)
/-- A BAR4 write (R415). -/
def execBar4Write (src : Src) (o : BitVec 36) (bs : List Byte) (s : State) : Res := unheld s (s.bar4Write src o.toNat bs)

end Sys2Proof.Machine
end

