-- ==== Sys2Proof/Machine/Unbind.lean ====
section
/-! DEFINITION. HRN_CMD UNBIND, which takes back everything a harness holds, and the in-service self-check of a core
(spec/06_harnesses.md R160, R162, R163; spec/07_compute_model.md R198). -/
namespace Sys2Proof.Machine
namespace State

/-- The pools of harness `h` that are not OFF. -/
def poolsOf (s : State) (h : Nat) : List Nat :=
  (List.range 64).filter (fun q => s.rf (POOL_STS.STATE q) != 0 && s.poolH q == h)
/-- An endpoint port of harness `h` is ACTIVE (R163). -/
def portNamed (s : State) (h : Nat) : Bool :=
  (List.range 768).any (fun P => s.active P && !s.gatewayPort P && s.rf (PRT_PORT_ID.HARNESS P) == h)

/-- Contexts and stores of harness `h` go: their witness records are written, their scratch and quota units go back. -/
def dropContexts (s : State) (h : Nat) : State :=
  let s1 := (s.rope.ctxs.filter (fun c => c.harness == h)).foldl (fun t c => (t.breakRope c.ctx stFLUSHED true none).ropeDestroy c) s
  let s2 := (s1.gate.ctxs.filter (fun c => c.harness == h)).foldl (fun t c =>
    let u := t.gateWitness c
    ((u.gateRelease c).quotaGive .ctx h 1).withGate { u.gate with ctxs := u.gate.ctxs.filter (fun x => x.ctx != c.ctx) }) s1
  let gone := s2.gate.stores.filter (fun x => x.h == h)
  let s3 := s2.withGate { s2.gate with stores := s2.gate.stores.filter (fun x => x.h != h) }
  gone.foldl (fun t x => (t.wf (CRX_STORE_DIR.V x.die) 0).wf (CRX_STORE_DIR.STATE x.die) 0) s3

/-- UNBIND of harness `h`: everything but its pools is released at once; the pools are being destroyed, and BUSY is set. -/
def unbindHarness (s : State) (h : Nat) : State :=
  if (s.hrnState h != 1 && s.hrnState h != 4) || s.portNamed h then s.hrnStatus stREJECT
  else
    let s1 := (s.coresOf h).foldl (fun t k => t.unbindCore k) s
    let s2 := s1.dropContexts h
    let s3 := (s2.host.opened.filter (fun i => s2.ringH i == h)).foldl (fun t i => t.ringKill i) s2
    let s4 := s3.carDelete (fun c => carHarness c.w0 == h)
    let qs := s4.poolsOf h
    let s5 := s4.endWaits (fun w => qs.contains w.pool) stFLUSHED
    let s6 := s5.withMem { s5.mem with dying := s5.mem.dying ++ qs.filter (fun q => !s5.mem.dying.contains q) }
    ((s6.withHrn { s6.hrn with unbinding := some h }).wf HRN_CMD.BUSY 1).wf (HRN_STS.BUSY h) 1

/-- The UNBIND in progress ends: its pools are OFF and the harness is FREE. -/
def unbindDone (s : State) : State :=
  match s.hrn.unbinding with
  | none => s
  | some h =>
    let s1 := (s.poolsOf h).foldl (fun t q => t.poolGone q) s
    let s2 := (s1.wf (HRN_WIT_CFG.MODE h) 0).setHrn h 0
    let s3 := s2.withHrn { s2.hrn with unbinding := none, started := eraseKey s2.hrn.started h }
    ((s3.wf HRN_CMD.BUSY 0).wf (HRN_STS.BUSY h) 0).hrnStatus stOK

/-- Core `k` fails its self-check in service (R198): FAILED, and out of use until the next Camp 3. -/
def coreFails (s : State) (k : Nat) : State :=
  if s.cstate k = 6 then s else
  let s1 := (s.stopCore k 6).trace 1 (unitCrux (k / 32)) (s.coreH k) (bytesLE 2 k ++ bytesLE 1 stCHECK ++ bytesLE 4 (s.pc k))
  if s.boundCore k then s1.memberLost true k else s1

end State

/-- HRN_CMD UNBIND (R160, R163). -/
def execUnbind (src : Src) (h : Fin 4096) (s : State) : Res :=
  unheld s (s.guardWrite src HRN_CMD.a (fun t => t.hrnCmd src h 5 (fun u => u.unbindHarness h)))
/-- The UNBIND in progress finishes (R163). -/
def execUnbindComplete (s : State) : Res := unheld s s.unbindDone
/-- A failure found by the in-service self-check of core `k` (R198). -/
def execInServiceSelfCheck (k : Fin 512) (s : State) : Res := unheld s (s.coreFails k)

end Sys2Proof.Machine
end

