-- ==== Sys2Proof/Machine/Fault.lean ====
section
/-! DEFINITION. The device's own state, units out of service, the management processor, avalanche windows, the fault
channel's acknowledgements, margin reports (spec/19_faults_and_recovery.md R511 to R534; spec/20 R550 to R555). -/
namespace Sys2Proof.Machine
namespace State

/-! ## DEV_STATE (R513 to R515) -/

def devState (s : State) : Nat := s.rf HUB_FAULT_STS.DEV_STATE
/-- Some harness other than 0 is RECOVERING. -/
def anyRecovering (s : State) : Bool :=
  s.regs.any (fun p => decide (HRN_STS.a 1 ≤ p.1) && decide (p.1 < HRN_STS.a 4096) && (p.1 - HRN_STS.a 0) % 0x80 == 0 && p.2.field 0 3 == 3)

/-- Commands of ring pair `i` that have not started end with FENCED (R515). -/
def fenceRing (s : State) (i : Nat) : State :=
  let l := s.flushList i 65536 (s.sqHead i) (s.sqWait i) (s.host.cut.contains i)
  let s1 := s.consume i (s.sqWait i)
  let s2 := s1.withHost { s1.host with cut := s1.host.cut.filter (fun c => c != i) ++ (if l.2.2 then [i] else []) }
  l.1.foldl (fun t p => t.endUnstarted (makeRun 0 i p.1 p.2 none) ⟨stFENCED, 0, []⟩) (s2.count RING_CNT_ORPHAN.V l.2.1)

/-- The device enters FENCED: contexts of tenants break, their cores halt, their rings stop. -/
def enterFenced (s : State) : State :=
  if s.devState = 2 then s else
  let s1 := (s.wf HUB_FAULT_STS.DEV_STATE 2).lifeInc 7
  let hs := (s1.rope.ctxs.map (fun c => c.harness) ++ s1.gate.ctxs.map (fun c => c.harness)).dedup.filter (fun h => h != 0)
  let s2 := hs.foldl (fun t h => t.breakContexts h stFENCED false) s1
  let s3 := ((List.range 512).filter (fun k => s2.boundCore k && s2.coreH k != 0)).foldl (fun t k => t.haltCore k) s2
  let s4 := s3.withComp { s3.comp with loads := s3.comp.loads.map (fun l => if l.h = 0 then l else { l with halt := true }) }
  (s4.host.opened.filter (fun i => s4.ringH i != 0)).foldl (fun t i => t.fenceRing i) s4

/-- FAULT_N is released where the device is NORMAL, unless a camp has stopped (R492, R512). -/
def releaseFaultN (s : State) : State :=
  if s.devState = 0 && s.campState != 2 then s.wf HUB_FAULT_STS.FAULT_N 0 else s

/-- A fault of severity DEVICE that occurred at plane time `t`. -/
def deviceFault (s : State) (r : FaultRec) (t : Nat) : State :=
  let s1 := (s.occur r t).setFaultN
  if s1.devState = 2 then s1
  else if s1.anyRecovering then s1.enterFenced
  else s1.wf HUB_FAULT_STS.DEV_STATE 1

/-- The next fault, where it is a DEVICE fault, is applied. -/
def applyDeviceFault (s : State) : State :=
  match s.nextRaised with
  | some r =>
    if r.what.sev = 3 then (s.withFault { s.fault with raised := s.fault.raised.erase r }).deviceFault r.what r.time else s
  | none => s

/-- A word of entry `i` of table `tbl` of crux die `n` is found uncorrectable (R447): 0 FEID, 1 multicast, 2 context home,
3 direction map. -/
def tableUe (s : State) (tbl n i : Nat) : State :=
  (s.withFwd { s.fwd with tblBad := insertNat s.fwd.tblBad (tblKey tbl n i) }).report
    ⟨clDEVICE, 0x01, 3, stPOISON, unitCrux n, 0, bytesLE 1 tbl ++ bytesLE 4 i⟩

/-! ## The management processor (R523) -/

/-- MP_STATE changes: recorded, and logged in Cairn. `cause`: 1 watchdog, 2 exception, 3 the processor starts, 4 the headless
interval passes, 5 RESUME. -/
def mpChange (s : State) (new cause : Nat) : State :=
  let old := s.rf HUB_FAULT_STS.MP_STATE
  let s1 := (s.wf HUB_FAULT_STS.MP_STATE new).report ⟨clMGMT, 0x02, 1, stOK, unitHub 0, 0, bytesLE 1 cause ++ bytesLE 1 new⟩
  s1.cairnRec 6 s1.now (bytesLE 1 old ++ bytesLE 1 new ++ bytesLE 1 cause)
/-- Records held while the processor was down are sent. -/
def sendHeldEvents (s : State) : State := sendEvents (s.fault.hold.length + 1) s
/-- A restart begins. -/
def mpRestart (s : State) (cause : Nat) : State :=
  let m := s.rf HUB_FAULT_STS.MP_STATE
  if s.boot.held || !s.campOk 1 || m = 1 || m = 2 then s
  else ((s.lifeInc 6).wf HUB_CAMP_STS.FW_READY 0).mpChange 1 cause
/-- The restarted processor has read the boot image; it starts only where the digest is the one verified at Camp 1. -/
def mpStart (s : State) (same : Bool) : State :=
  let m := s.rf HUB_FAULT_STS.MP_STATE
  if !same || (m != 1 && m != 2) then s
  else ((s.wf HUB_CAMP_STS.FW_READY 1).mpChange (if m = 1 then 0 else 3) 3).sendHeldEvents
def headlessExpire (s : State) : State := if s.rf HUB_FAULT_STS.MP_STATE = 1 then s.mpChange 2 4 else s
/-- RESUME. -/
def mpResume (s : State) (src : Src) : State :=
  if s.rf HUB_FAULT_STS.MP_STATE != 3 then s.reject src HUB_FAULT_CTL.a
  else
    let s1 := s.mpChange 0 5
    s1.host.opened.foldl (fun t i => t.advance i) s1

/-- CLEAR. -/
def clearDev (s : State) (src : Src) : State :=
  if s.devState = 2 then s.reject src HUB_FAULT_CTL.a
  else if s.devState = 1 then (s.wf HUB_FAULT_STS.DEV_STATE 0).releaseFaultN else s

/-- A write of HUB_FAULT_CTL: its settings, then its commands by bit; `m`: the laser modules that answer a LASER_ON. -/
def writeFaultCtl (s : State) (src : Src) (v : Word) (m : BitVec 32) : State :=
  let s1 := (s.wf HUB_FAULT_CTL.HEADLESS_S (v.field 5 8)).wf HUB_FAULT_CTL.MP_WDOG_MS (v.field 13 12)
  let s2 := if v.field 0 1 = 1 then s1.enterFenced else s1
  let s3 := if v.field 1 1 = 1 then s2.clearDev src else s2
  let s4 := if v.field 2 1 = 1 then s3.mpResume src else s3
  let s5 := if v.field 3 1 = 1 then s4.lasersOff else s4
  if v.field 4 1 = 1 && s5.boot.laserEn then s5.lasersOn m else s5
/-- A row's write of one command bit: the settings stay as they are. -/
def faultCmd (s : State) (src : Src) (bit : Nat) (m : BitVec 32) : State :=
  s.guardWrite src HUB_FAULT_CTL.a (fun t => t.writeFaultCtl src ((t.reg HUB_FAULT_CTL.a).withField bit 1 1) m)

/-! ## Units out of service, neighbours lost (R517, R518) -/

def unitCode : DevUnit → Nat
  | .crux n => unitCrux n.val
  | .port m => unitPortDie m.val
  | .hub i => unitHub i.val
  | .stack i => unitStack i.val

/-- A port goes to FAILED with its unit. -/
def portFails (s : State) (P : Nat) : State :=
  if s.pstate P = 0 || s.pstate P = 7 then s
  else (((s.leaveActive P).resetBelay P).enterState P 7 0).flushQueue P

/-- Harnesses that take a fault where a unit is out of service. -/
def unitHarnesses (s : State) (u : DevUnit) : List Nat :=
  let ports : List Nat → List Nat := fun l => (l.filter (fun P => s.active P && !isTorus P)).map (fun P => s.rf (PRT_PORT_ID.HARNESS P))
  let hs : List Nat := match u with
   | .crux n =>
     ((List.range 32).map (fun q => 32 * n.val + q)).filterMap (fun k => if s.boundCore k then some (s.coreH k) else none) ++
     (s.rope.ctxs.filter (fun c => c.die == n.val)).map (fun c => c.harness) ++
     (s.gate.ctxs.filter (fun c => c.die == n.val)).map (fun c => c.harness) ++
     (s.gate.stores.filter (fun c => c.die == n.val)).map (fun c => c.h) ++
     ports ((List.range 48).map (fun q => portAt n.val q)) ++
     (s.mfb.carabs.filter (fun c => c.die == n.val)).map (fun c => carHarness c.w0)
   | .port m => ports (diePorts m.val)
   | .stack _ => ((List.range 64).filter (fun q => s.poolHeld q)).map (fun q => s.poolH q)
   | .hub _ => []
  hs.dedup

/-- What is lost with a unit. -/
def unitLost (s : State) (u : DevUnit) : State :=
  match u with
  | .crux n =>
    let s1 := ((List.range 72).map (fun q => portAt n.val q)).foldl (fun t P => t.portFails P) s
    let s2 := ((List.range 32).map (fun q => 32 * n.val + q)).foldl (fun t k => t.coreFails k) s1
    let s3 := (s2.rope.ctxs.filter (fun c => c.die == n.val)).foldl (fun t c => t.breakRope c.ctx stLOST false none) s2
    let s4 := (s3.gate.ctxs.filter (fun c => c.die == n.val)).foldl (fun t c => t.breakGate c.ctx stLOST) s3
    s4.withFwd { s4.fwd with steer := s4.fwd.steer.filter (fun x => placeUnit x.place != some (unitCrux n.val)),
                             inbox := s4.fwd.inbox.filter (fun x => placeUnit x.place != some (unitCrux n.val)) }
  | .port m => (diePorts m.val).foldl (fun t P => t.portFails P) s
  | .hub i => if i.val = 1 then s.portDown 1 else s
  | .stack i => s.withMem { s.mem with dead := insertNat s.mem.dead i.val }

/-- A unit is out of service; hub 0 is not among the units (R518). -/
def unitOut (s : State) (u : DevUnit) : State :=
  let c := unitCode u
  if s.boot.held || c = unitHub 0 || s.fault.outUnits.contains c then s else
  let hs := s.unitHarnesses u
  let s1 := (s.withFault { s.fault with outUnits := insertNat s.fault.outUnits c }).report ⟨clDEVICE, 0x02, 3, stLOST, c, 0, bytesLE 1 c⟩
  hs.foldl (fun t h => t.report ⟨clDEVICE, 0x02, 2, stLOST, c, h, bytesLE 1 c⟩) (s1.unitLost u)

/-- Every torus port toward the neighbour in direction `d` has been out of ACTIVE for 1 ms (R517). -/
def neighbourLost (s : State) (d : Nat) : State :=
  if !s.rb HUB_PLANE.COMMITTED || s.dim (d / 2) ≤ 1 then s else
  let nb := s.neighbour s.devIndex d
  let ps := ((List.range 384).filter (fun t => s.dim (t % 24 / 8) != 1 && s.neighbour s.devIndex (t % 24 / 4) == nb)).map (fun t => 768 + t)
  if ps.any s.active then s
  else s.report ⟨clLINK, 0x10, 1, stLOST, unitDevice, 0, bytesLE 2 (ps.headD 0) ++ bytesLE 1 nb⟩

/-! ## Avalanche windows, whiteout (R550, R554, R555) -/

/-- WINDOW_MS passes for the entry in slot `i`: what has accumulated is sent, or the entry closes. -/
def avalWindow (s : State) (i : Nat) : State :=
  match s.fault.aval.find? (fun e => e.slot == i) with
  | none => s
  | some e =>
    if e.count = 0 then
      let l := s.fault.aval.filter (fun x => x.slot != i)
      (s.withFault { s.fault with aval := l }).wf HUB_AVAL_STS.USED l.length
    else
      (s.withFault { s.fault with aval := s.fault.aval.map (fun x => if x.slot = i then { x with count := 0 } else x) }).sendRecord
        e.what e.count e.first e.last

/-- Path `p` leaves whiteout. -/
def woExit (s : State) (p : Nat) : State :=
  let w := s.woOf p
  if !s.rb (TEL_WO_STS.ACTIVE p) || woCap p < 4 * s.rf (TEL_WO_STS.OCC p) || s.now < w.lastDrop + 1000000 then s
  else
    let s1 := (s.wf (TEL_WO_STS.ACTIVE p) 0).inc HUB_FAULT_CNT.V
    s1.sendRecord ⟨clLOG, 0x20, 1, stOK, if p = 0 then unitHub 3 else unitHub 0, 0,
      bytesLE 1 p ++ bytesLE 3 0 ++ w.drops.flatMap (fun n => bytesLE 4 (min 0xFFFFFFFF n))⟩ 1 s1.now s1.now

/-! ## The fault channel: EVENT and ACK (R525, R526) -/

/-- A datagram of the fault channel. -/
def fmSeq (b : List Byte) : Nat := leAt b 8 8
def fmType (b : List Byte) : Nat := leAt b 1 1
def fmLen (b : List Byte) : Nat := leAt b 2 2
def fmPayload (b : List Byte) : List Byte := (b.drop 16).take (fmLen b)
/-- The key in use, as 32 bytes. -/
def fmKey (s : State) : List Byte := s.fault.key.flatMap (fun w => bytesLE 8 w.toNat)
/-- Is a datagram accepted: version, zero fields, length, a key that is not zero, and its tag? -/
def fmOk (s : State) (b : List Byte) : Bool :=
  leAt b 0 1 == 1 && leAt b 4 4 == 0 && b.length == 32 + fmLen b && s.fault.key != [0, 0, 0, 0] &&
  (hmac256 s.fmKey (b.take (16 + fmLen b))).take 16 == b.drop (16 + fmLen b)
/-- A datagram that is refused. -/
def fmBad (s : State) (from_ : Nat) : State :=
  (s.inc HUB_FM_CNT_BAD.V).report ⟨clMGMT, 0x03, 1, stDENIED, unitHub 0, 0, bytesLE 1 0 ++ bytesLE 1 (s.rf HUB_FAULT_STS.MP_STATE) ++ bytesLE 4 from_⟩
/-- The channel runs: Camp 1 has ended and the processor serves it (R523, R525). -/
def fmRuns (s : State) : Bool :=
  !s.boot.held && s.campOk 1 && (s.rf HUB_FAULT_STS.MP_STATE == 0 || s.rf HUB_FAULT_STS.MP_STATE == 3)

/-- An ACK: every EVENT up to its SEQ is acknowledged. -/
def fmAck (s : State) (b : List Byte) (from_ : Nat) : State :=
  if !s.fmRuns then s
  else if !s.fmOk b || fmType b != 4 || fmLen b != 0 then s.fmBad from_
  else (s.withFault { s.fault with hold := s.fault.hold.filter (fun i => i.tag == 0 || decide (fmSeq b < i.tag)) }).woSettle 1

/-- Unacknowledged EVENTs are sent again in SEQ order. -/
def eventResend (s : State) : State :=
  if !s.fmUp then s else
  let seqs := ((s.fault.hold.map (fun i => i.tag)).filter (fun t => t != 0)).dedup
  seqs.foldl (fun t q => (t.emit (.event t.eventTo q ((t.fault.hold.filter (fun i => i.tag == q)).map (fun i => i.bytes)))).inc HUB_FM_CNT_RESEND.V) s

/-! ## Margins (R529 to R534) -/

/-- How much a counter has advanced since its last report, kept under key `k`. -/
def sinceMark (s : State) (k v : Nat) : Nat := v - (lookupKey s.fault.marks k).getD 0
def setMark (s : State) (k v : Nat) : State := s.withFault { s.fault with marks := sparseSet (fun _ => 0) s.fault.marks k v }

/-- The port that logical lane `l` of port die `m` serves. -/
def lanePort (m l : Nat) : Nat := if m % 2 = 0 then 48 * (m / 2) + l / 2 else 768 + 24 * (m / 2) + l / 4

/-- A MARGIN record of port die `m`. -/
def marginPort (s : State) (m : Nat) : State :=
  let used := (List.range 100).filter (fun l => s.rf (PRT_LANE_MARGIN.USE m l) != 0x7F)
  let worst := used.foldl (fun b l => match b with
    | none => some l
    | some x => if s.rf (PRT_LANE_MARGIN.EYE_V m l) < s.rf (PRT_LANE_MARGIN.EYE_V m x) then some l else some x) (none : Option Nat)
  let w := worst.getD 0
  let P := lanePort m (s.rf (PRT_LANE_MARGIN.USE m w) % 96)
  let spare := ([96, 97, 98, 99].filter (fun l => s.rf (PRT_LANE_MARGIN.USE m l) == 0x7F && !s.rb (PRT_LANE_MARGIN.FAILED m l))).length
  let signed : Nat → Int := fun n => (BitVec.ofNat 16 n).toInt
  let low := used.any (fun l => decide (s.rf (PRT_LANE_MARGIN.EYE_V m l) < s.rf HUB_MARGIN_CFG.EYE_MIN_MV) ||
    decide (signed (s.rf (PRT_LANE_MARGIN.RX_PWR m l)) < signed (s.rf HUB_MARGIN_CFG.RXP_MIN)))
  let c := s.rf (PRT_CNT_FEC_CORR.V P)
  let d := bytesLE 1 w ++ bytesLE 1 spare ++ bytesLE 2 (s.rf (PRT_LANE_MARGIN.RX_PWR m w)) ++ bytesLE 2 (s.rf (PRT_LANE_MARGIN.EYE_V m w)) ++
    bytesLE 2 (s.rf (PRT_LANE_MARGIN.EYE_H m w)) ++ bytesLE 8 (s.sinceMark (4096 + P) c)
  (s.setMark (4096 + P) c).report ⟨clMARGIN, 0x02, b2n low, stOK, unitPortDie m, 0, d⟩

/-- A MARGIN record of stack `i` at temperature `tj`. -/
def marginStack (s : State) (i tj : Nat) : State :=
  let c := s.rf (HBM_CNT_CE.V i)
  let full := (List.range 64).any (fun p => decide (16 ≤ s.pitonsIn (64 * i + p)))
  let used := (s.mem.pitons.filter (fun p => decide (p.2 < 768) && p.2 / 64 == i)).length
  (s.setMark (unitStack i) c).report ⟨clMARGIN, 0x03, b2n full, stOK, unitStack i, 0,
    bytesLE 1 tj ++ bytesLE 1 0 ++ bytesLE 2 used ++ bytesLE 8 (s.sinceMark (unitStack i) c)⟩

/-- One set of MARGIN records; `temps`: temperatures of the stacks. -/
def marginSet (s : State) (temps : List (BitVec 8)) : State :=
  let live : Nat → Bool := fun u => !s.fault.outUnits.contains u
  let s1 := ((List.range 16).filter (fun n => live (unitCrux n))).foldl (fun t n => t.marginCrux n 0) s
  let s2 := ((List.range 32).filter (fun m => live (unitPortDie m))).foldl (fun t m => t.marginPort m) s1
  ((List.range 12).filter (fun i => live (unitStack i))).foldl (fun t i => t.marginStack i (temps.getD i 0).toNat) s2

/-- A write of HUB_MARGIN_CFG; NOW produces one set. -/
def writeMarginCfg (s : State) (v : Word) (temps : List (BitVec 8)) : State :=
  let s1 := s.setReg HUB_MARGIN_CFG.a (Word.ofN (v.field 0 16 + v.field 17 28 * 2 ^ 17))
  if v.field 16 1 = 1 then s1.marginSet temps else s1

/-- The lanes of port die `m` are measured (R534). -/
def laneRefresh (s : State) (m : Nat) (rs : List LaneRead) : State :=
  (List.range 100).foldl (fun t l =>
    match rs[l]? with
    | none => t
    | some r =>
      let t1 := ((t.wf (PRT_LANE_MARGIN.RX_PWR m l) r.rxPwr.toNat).wf (PRT_LANE_MARGIN.EYE_V m l) r.eyeV.toNat).wf (PRT_LANE_MARGIN.EYE_H m l) r.eyeH.toNat
      if l < 96 && !t1.rb (PRT_LANE_MARGIN.FAILED m l) then t1.wf (PRT_LANE_MARGIN.USE m l) l else t1) s

/-- A write of HUB_FAULT_RING (R532). -/
def writeFaultRing (s : State) (src : Src) (v : Word) : State :=
  let lg := v.field 40 5
  if lg < 12 || 30 < lg || v.field 0 40 % 2 ^ lg != 0 then s.reject src HUB_FAULT_RING.a
  else (s.setReg HUB_FAULT_RING.a (Word.ofN (v.field 0 46))).wf HUB_FAULT_STS.RING_SKIP 0

end State

/-- The next fault, where it is of severity DEVICE, is applied at hub 0 (R513); `ue`: a table entry found uncorrectable at
this moment (R447). -/
def execDeviceFault (ue : Option (Fin 4 × Fin 16 × Fin 262144)) (s : State) : Res :=
  match ue with
  | some x => unheld s (s.tableUe x.1.val x.2.1.val x.2.2.val).applyDeviceFault
  | none => unheld s s.applyDeviceFault
/-- HUB_FAULT_CTL.FENCE (R513). -/
def execFence (src : Src) (s : State) : Res := unheld s (s.faultCmd src 0 0)
/-- HUB_FAULT_CTL.CLEAR (R513). -/
def execClear (src : Src) (s : State) : Res := unheld s (s.faultCmd src 1 0)
/-- A unit fails to answer the crossbar for 10 µs (R518). -/
def execUnitOutOfService (u : DevUnit) (s : State) : Res := unheld s (s.unitOut u)
/-- Every torus port toward the neighbour in a direction has left ACTIVE for 1 ms (R517). -/
def execNeighbourLost (d : Fin 6) (s : State) : Res := unheld s (s.neighbourLost d)
/-- The watchdog restarts the management processor (R523). -/
def execMpWatchdog (s : State) : Res := unheld s (s.mpRestart 1)
/-- An exception restarts the management processor (R523). -/
def execMpException (s : State) : Res := unheld s (s.mpRestart 2)
/-- The restarted processor starts; `same`: its image has the digest verified at Camp 1 (R523). -/
def execMpStart (same : Bool) (s : State) : Res := unheld s (s.mpStart same)
/-- HEADLESS_S passes (R523). -/
def execHeadlessExpire (s : State) : Res := unheld s s.headlessExpire
/-- HUB_FAULT_CTL.RESUME (R523). -/
def execResume (src : Src) (s : State) : Res := unheld s (s.faultCmd src 2 0)
/-- HUB_FAULT_CTL.LASER_OFF (R524). -/
def execLaserOff (src : Src) (s : State) : Res := unheld s (s.faultCmd src 3 0)
/-- HUB_FAULT_CTL.LASER_ON; `m`: the laser modules that answer (R524). -/
def execLaserOn (src : Src) (m : BitVec 32) (s : State) : Res := unheld s (s.faultCmd src 4 m)
/-- WINDOW_MS passes for an entry of the coalescing table (R550). -/
def execAvalancheWindow (slot : Fin 256) (s : State) : Res := unheld s (s.avalWindow slot)
/-- An ACK datagram from `from_` (R526). -/
def execFmAck (b : List Byte) (from_ : BitVec 32) (s : State) : Res := unheld s (s.fmAck b from_.toNat)
/-- 100 ms have passed: unacknowledged EVENTs are sent again (R526). -/
def execEventResend (s : State) : Res := unheld s s.eventResend
/-- PERIOD_S has passed (R529). -/
def execMarginReport (temps : List (BitVec 8)) (s : State) : Res :=
  if temps.length = 12 then unheld s (if s.boot.held || s.rf HUB_MARGIN_CFG.PERIOD_S == 0 then s else s.marginSet temps)
  else .fault (.illFormed "MARGIN_REPORT")
/-- HUB_MARGIN_CFG.NOW (R529). -/
def execMarginNow (src : Src) (temps : List (BitVec 8)) (s : State) : Res :=
  if temps.length = 12 then
    unheld s (s.guardWrite src HUB_MARGIN_CFG.a (fun t => t.writeMarginCfg ((t.reg HUB_MARGIN_CFG.a).withField 16 1 1) temps))
  else .fault (.illFormed "MARGIN_NOW")
/-- The lanes of port die `m` are measured (R534). -/
def execLaneMarginRefresh (m : Fin 32) (rs : List LaneRead) (s : State) : Res :=
  if rs.length = 100 then unheld s (if s.boot.held then s else s.laneRefresh m rs) else .fault (.illFormed "LANE_MARGIN_REFRESH")
/-- A write of HUB_FAULT_RING (R532). -/
def execFaultRingWrite (src : Src) (v : Word) (s : State) : Res :=
  unheld s (s.guardWrite src HUB_FAULT_RING.a (fun t => t.writeFaultRing src v))
/-- A path leaves whiteout (R554). -/
def execWhiteoutExit (p : Fin 2) (s : State) : Res := unheld s (s.woExit p)

end Sys2Proof.Machine
end

