-- ==== Sys2Proof/Machine/RegRead.lean ====
section
/-! DEFINITION. What a read of BAR0 returns, and what it does beside (R7 to R9, R34, R412, R491, R538, R590 to R598):
registers that report what the machine holds elsewhere, data ports that step on, and the functions' own BAR0. -/
namespace Sys2Proof.Machine
namespace State

/-- A staged write of a group has not taken effect (R35). -/
def xbusy (s : State) (g : Group) : Bool := s.xdom.any (fun x => x.grp == g)
/-- HUB_XDOM_FENCE (R35). -/
def fenceWord (s : State) : Word :=
  Word.ofN (b2n (s.xbusy .crux) + b2n (s.xbusy .port) * 2 + b2n (s.xbusy .hbm) * 4 + b2n (s.xbusy .time) * 8 +
    b2n (s.xbusy .power) * 16 + b2n (s.xbusy .harness || !s.hrn.old.isEmpty) * 32)
/-- HRN_COUNT (R175). -/
def countWord (s : State) : Word :=
  let n : Nat → Nat := fun st => ((List.range 4095).filter (fun i => s.hrnState (i + 1) == st)).length
  Word.ofN (n 2 + n 3 * 2 ^ 16 + n 4 * 2 ^ 32)
/-- PRT_PORT_STS: EMPTY, RX_EXPECT and TX_OLDEST follow the port (R63); TX_OLDEST is free while no frame is held. -/
def portStsWord (s : State) (P : Nat) : Word × State :=
  let p := s.port P
  let w := ((s.reg (PRT_PORT_STS.a P)).withField 5 1 (b2n (s.portEmpty P))).withField 8 24 p.rxExpect
  match p.held with
  | x :: _ => (w.withField 32 24 x.lseq, s)
  | [] => (w.withField 32 24 (s.freeW.1.field 0 24), s.freeW.2)
/-- FWD_BUF_USED: cells of queues, hold pools and steering queues of crux die `n` (R85, R100). -/
def bufWord (s : State) (n : Nat) : Word :=
  let q := ((s.fwd.queues.filter (fun x => dieOf x.P == n)).map (fun x => x.cells)).sum
  let h := ((s.fwd.holds.filter (fun x => x.P.map dieOf == some n)).map (fun x => x.cells)).sum
  let t := ((s.fwd.steer.filter (fun x => match x.place with
    | .cluster c => c / 4 == n
    | _ => n == 0)).map (fun x => cellsOf x.frame)).sum
  Word.ofN (q + h + t)
/-- SCH_QSTAT: DEPTH follows the queue (R123). -/
def qstatWord (s : State) (n q c : Nat) : Word := (s.reg (SCH_QSTAT.a n q c)).withField 0 20 (s.depth (portAt n q) c)
/-- HBM_PITON_DATA of the selected piton (R469). -/
def pitonWord (s : State) (st : Nat) : Word :=
  let i := s.rf (HBM_PITON_SEL.V st)
  match (s.mem.pitons.filter (fun p => p.2 == 64 * st + i / 16))[i % 16]? with
  | some p => Word.ofN (1 + (p.1 / 256 / 768 * 4 + p.1 % 256 / 64) * 2)
  | none => 0
/-- The identity registers read zero until the fuses are in (R489, R596). -/
def identWord (s : State) (a : Nat) : Word := if s.campOk 0 then s.reg a else 0

/-- A read of a register of a crux die's window, at offset `o` of the window. -/
def readCrux (s : State) (src : Src) (n o a : Nat) : Word × State :=
  if o = 0x80018 then
    (if tblSize (s.rf (FWD_TBL_CTL.TABLE n)) ≤ s.rf (FWD_TBL_CTL.INDEX n) then (0, s.hacc src 0 a false stREJECT)
     else (s.tblValue n, s.tblAdvance n))
  else if o = 0x18 then (s.cchOf (s.cchSel n), s.cchAdvance n)
  else if o = 0x40050 then (s.ropeSts n, s)
  else if o = 0x50050 then (s.gateSts n, s)
  else if o = 0x50058 then (s.gateSlots n, s)
  else if o = 0x50060 then (s.gateRing n, s)
  else if o = 0x50070 then (s.gateHeat n, s.heatAdvance n)
  else if o = 0x82068 then (s.bufWord n, s)
  else if 0x94000 ≤ o && o < 0x94000 + 72 * 64 then (s.qstatWord n ((o - 0x94000) / 64) ((o - 0x94000) / 8 % 8), s)
  else (s.reg a, s)

/-- A read of a register, by offset: its value, and the state it leaves. -/
def readReg (s : State) (src : Src) (a : Nat) : Word × State :=
  if (regRow a).isNone then (0, s)
  else if a < 0x20 then (s.identWord a, s)
  else if a = HUB_IDENT_STS.a then ((s.reg a).withField 1 1 (b2n (s.standby src)), s)
  else if a = HUB_XDOM_FENCE.a then (s.fenceWord, s)
  else if a = HUB_EQUIV_CLASS.a then (if s.campOk 1 then s.reg a else 0, s)
  else if a = HUB_BOOT_TIME.a then (Word.ofN (s.boot.bootNs / 1000), s)
  else if a = HRN_STS.a 0 then ((s.reg a).withField 0 3 2, s)
  else if a = HRN_COUNT.a then (s.countWord, s)
  else if a = CRN_LIFE.a 0x3FFF then
    (Word.ofN (crc32c 0 ((List.range 0x3FFF).flatMap (fun i => bytesLE 8 (s.reg (CRN_LIFE.a i)).toNat))), s)
  else if a = TIM_GATE_TBL_DATA.a then (s.gateValue, s.gateAdvance)
  else if 0x01000000 ≤ a && a < 0x02000000 then s.readCrux src ((a - 0x01000000) / 0x100000) (a % 0x100000) a
  else if 0x02000000 ≤ a && a < 0x03000000 && a % 0x80000 < 0x8000 && a % 0x200 = 8 then
    (let m := (a - 0x02000000) / 0x80000
     let q := (a % 0x80000 - 0x1000) / 0x200
     s.portStsWord (portAt (m / 2) (if m % 2 = 0 then q else 48 + q)))
  else if 0x03000000 ≤ a && a % 0x10000 = 0x20 then (s.pitonWord ((a - 0x03000000) / 0x10000), s)
  else (s.reg a, s)

/-- A read of BAR0 by the physical function's owner; nothing answers while the device is held in reset (R574). -/
def regRead (s : State) (src : Src) (a : Nat) : Word × State :=
  if s.boot.held then (0, s) else
  match s.accessFails src a with
  | some st => (0, s.hacc src 0 a false st)
  | none => s.readReg src a

/-- A read of the BAR0 of VF `v` (R598): its MSI-X table, its pending bits, VF_STS; zero elsewhere. -/
def vfRead (s : State) (v o : Nat) : Word :=
  if o < 0x400 then sparseGet (fun _ => 0#64) s.host.msix (128 * v + o / 8)
  else if o = 0x2000 then
    Word.ofN (((List.range 64).map (fun i => if s.host.pendV.contains (v, i) then 2 ^ i else 0)).sum)
  else if o = 0x3000 then
    Word.ofN (s.rf (HUB_VF_BIND.VALID v) + s.rf (HUB_VF_BIND.HARNESS v) * 2 + (s.vfRings v).length % 4096 * 2 ^ 13)
  else 0

end State
end Sys2Proof.Machine
end

