-- ==== Sys2Proof/Machine/Telemetry.lean ====
section
/-! DEFINITION. The commands of spec/20_telemetry_and_cairn.md on hub 3 and the shared pins: snapshots, histograms, summary
lists, the collector, resource ownership, SYNC_IO (R535 to R548, R556 to R558, R582). -/
namespace Sys2Proof.Machine
namespace State

/-- Hub 3 is running. -/
def telUp (s : State) : Bool := !s.boot.held && !s.fault.outUnits.contains (unitHub 3)

/-! ## Ownership (R556, R557) -/

def ownCode : Src → Nat
  | .pcie0 => 5
  | .pcie1 => 5
  | .inband => 6
  | .faultCh => 7
/-- INSTANCE of a claim of an engine by a source: its PCIe port, else 0. -/
def ownInst : Src → Nat
  | .pcie1 => 1
  | _ => 0
def owner (s : State) (r : Nat) : Nat := s.rf (HUB_OWN.OWNER r)
def setOwner (s : State) (r o i : Nat) : State := (s.wf (HUB_OWN.OWNER r) o).wf (HUB_OWN.INSTANCE r) i
def freeOwner (s : State) (r : Nat) : State := s.setOwner r 0 0
/-- May claimant `o` take resource `r`: it is free, or its own? Engines that a pin holds are its own to that pin only. -/
def mayClaim (s : State) (r o i : Nat) : Bool :=
  s.owner r == 0 || (s.owner r == o && (o != 3 || decide (r < 6) || s.rf (HUB_OWN.INSTANCE r) == i))
def conflict (s : State) (src : Src) (a : Nat) : State := s.hacc src 0 a true stCONFLICT

/-! ## What a snapshot latches (R537 to R542) -/

/-- The block of R590 that holds offset `a`, by its base. -/
def blockBase (a : Nat) : Nat :=
  if a < 0x300000 then a / 0x100000 * 0x100000
  else if a < 0x400000 then a / 0x40000 * 0x40000
  else if a < 0x1000000 then 0x400000
  else if a < 0x2000000 then a / 0x100000 * 0x100000
  else if a < 0x3000000 then a / 0x80000 * 0x80000
  else if a < 0x30C0000 then a / 0x10000 * 0x10000
  else 0x30C0000
/-- May `n` registers from `base` be latched (R539)? -/
def snapOk (base n : Nat) : Bool :=
  let last := base + 8 * n - 1
  base % 8 == 0 && decide (1 ≤ n) && decide (n ≤ 512) && decide (last < 0x4000000) && blockBase base == blockBase last &&
  !(decide (base < 0x386000) && decide (0x382000 ≤ last)) && !(decide (base < 0x386100) && decide (0x386000 ≤ last))

/-- One register latched: its value as a read gives it, and its sticky where it has one. -/
def latch1 (s : State) (ack : Bool) (a : Nat) : Word × Bool × State :=
  if reservedRange a || !s.campOk (reachCamp a) then (0, false, s) else
  let blind := decide (0x01000000 ≤ a) && decide (a < 0x02000000) && a % 0x100000 == 0x80018 &&
    decide (tblSize (s.rf (FWD_TBL_CTL.TABLE ((a - 0x01000000) / 0x100000))) ≤ s.rf (FWD_TBL_CTL.INDEX ((a - 0x01000000) / 0x100000)))
  let r := if blind then (0, s) else s.readReg .inband a
  match regRow a with
  | some row =>
    if row.ctr then (r.1, s.sticky.contains a, if ack then { r.2 with sticky := r.2.sticky.filter (fun x => x != a) } else r.2)
    else (r.1, false, r.2)
  | none => (0, false, s)
/-- `n` registers latched in order. -/
def latchN (ack : Bool) : Nat → Nat → State → List Word × List Bool × State
  | 0, _, s => ([], [], s)
  | n + 1, a, s =>
    let x := s.latch1 ack a
    let y := latchN ack n (a + 8) x.2.2
    (x.1 :: y.1, x.2.1 :: y.2.1, y.2.2)

/-- The setting of unit `u` in force (R542): TEL_HIST_CFG (`w` 0), TEL_HIST_SAMPLE (1). -/
def histCfg (s : State) (u w : Nat) : Word := (lookupKey s.tel.hist (2 * u + w)).getD (if w = 0 then 0#64 else 0x3E8#64)
/-- The staged setting of unit `u` takes effect: bins zero, stickies clear. -/
def histBoundary (s : State) (u : Nat) : State :=
  if !s.rb (TEL_HIST_STS.PENDING u) then s else
  let bins := (List.range 64).map (fun b => TEL_HIST_BIN.a u b)
  let s1 := bins.foldl (fun t a => t.setReg a 0) s
  let h := insertKey (eraseKey s.tel.hist (2 * u)) (2 * u) (s.reg (TEL_HIST_CFG.a u))
  let h1 := insertKey (eraseKey h (2 * u + 1)) (2 * u + 1) (s.reg (TEL_HIST_SAMPLE.a u))
  ({ s1.withTel { s1.tel with hist := h1 } with sticky := s1.sticky.filter (fun x => !bins.contains x) } : State).wf (TEL_HIST_STS.PENDING u) 0
/-- Units all of whose bins lie in a range that has been latched. -/
def histBoundaries (s : State) (base n : Nat) : State :=
  ((List.range 64).filter (fun u => decide (base ≤ TEL_HIST_BIN.a u 0) && decide (TEL_HIST_BIN.a u 0 + 512 ≤ base + 8 * n))).foldl
    (fun t u => t.histBoundary u) s
/-- A range latched in one act. -/
def latchRange (s : State) (ack : Bool) (base n : Nat) : List Word × List Bool × State :=
  let r := latchN ack n base s
  (r.1, r.2.1, r.2.2.histBoundaries base n)

/-! ## Snapshot engines (R539 to R543) -/

/-- A GO of engine `e` that its owner has claimed. -/
def snapGo (s : State) (e : Nat) : State :=
  let base := s.rf (TEL_SNAP_CTL.BASE e)
  let n := s.rf (TEL_SNAP_CTL.COUNT e)
  if !snapOk base n then s.wf (TEL_SNAP_CTL.STATUS e) stREJECT
  else
    let r := s.latchRange (s.rb (TEL_SNAP_CTL.ACK_OVF e)) base n
    (r.2.2.withTel { r.2.2.tel with snaps := r.2.2.tel.snaps ++ [⟨e, r.1, r.2.1, s.now⟩] }).wf (TEL_SNAP_CTL.BUSY e) 1
/-- RELEASE by a source. -/
def snapRelease (s : State) (src : Src) (e : Nat) : State :=
  if s.owner (6 + e) = ownCode src then s.freeOwner (6 + e) else s.conflict src (TEL_SNAP_CTL.a e)
/-- A write of TEL_SNAP_CTL. -/
def writeSnapCtl (s : State) (src : Src) (e : Nat) (v : Word) : State :=
  let a := TEL_SNAP_CTL.a e
  let set : State → State := fun t =>
    ((t.wf (TEL_SNAP_CTL.BASE e) (v.field 0 26)).wf (TEL_SNAP_CTL.COUNT e) (v.field 26 10)).wf (TEL_SNAP_CTL.ACK_OVF e) (v.field 36 1)
  if v.field 37 1 = 1 && s.rb (TEL_SNAP_CTL.BUSY e) then s.reject src a
  else if v.field 37 1 = 1 && !s.mayClaim (6 + e) (ownCode src) 0 then s.conflict src a
  else
    let s1 := set s
    let s2 := if v.field 37 1 = 1 then (s1.setOwner (6 + e) (ownCode src) (ownInst src)).snapGo e else s1
    if v.field 38 1 = 1 then s2.snapRelease src e else s2
/-- The words of a list of stickies, 64 to a word. -/
def ovfWord (l : List Bool) (j : Nat) : Word :=
  Word.ofN (((List.range 64).map (fun k => if l.getD (64 * j + k) false then 2 ^ k else 0)).sum)
/-- The latches of engine `e` finish: data, stickies, times and STATUS change together (R540). -/
def snapDone (s : State) (e : Nat) : State :=
  match s.tel.snaps.find? (fun x => x.eng == e) with
  | none => s
  | some x =>
    let s1 := s.withTel { s.tel with snaps := s.tel.snaps.filter (fun y => y.eng != e) }
    let s2 := (List.range x.words.length).foldl (fun t i => t.setReg (TEL_SNAP_DATA.a e i) (x.words.getD i 0)) s1
    let s3 := (List.range 8).foldl (fun t j => t.setReg (TEL_SNAP_OVF.a e j) (ovfWord x.ovf j)) s2
    (((s3.wf (TEL_SNAP_TIME0.V e) x.time).wf (TEL_SNAP_TIME1.V e) x.time).wf (TEL_SNAP_CTL.STATUS e) stOK).wf (TEL_SNAP_CTL.BUSY e) 0

/-! ## Histograms (R544 to R546) -/

/-- The bin of a value (R545). -/
def histBin (cfg : Word) (v : Nat) : Nat :=
  let base := cfg.field 38 26
  let u := if v < base then 0 else (v - base) >>> cfg.field 32 6
  if cfg.field 31 1 = 0 then min 63 u else if u = 0 then 0 else min 63 (u.log2 + 1)
/-- A value falls into bin `b` of unit `u`: a full bin stays full and its sticky is set (R535). -/
def histAdd (s : State) (u b : Nat) : State :=
  let s1 := s.inc (TEL_HIST_N.V u)
  if s1.rf (TEL_HIST_BIN.V u b) = 0xFFFFFFFF then { s1 with sticky := insertNat s1.sticky (TEL_HIST_BIN.a u b) }
  else s1.wf (TEL_HIST_BIN.V u b) (s1.rf (TEL_HIST_BIN.V u b) + 1)
/-- Unit `u` takes a value of its source: for sources 2 to 5 the value measured, of an event of harness `h`. -/
def histSample (s : State) (u v h : Nat) : State :=
  let cfg := s.histCfg u 0
  let take : Nat → State := fun x => s.histAdd u (histBin cfg x)
  let mine := cfg.field 30 1 == 0 || cfg.field 18 12 == h
  if !s.telUp || !s.campOk 1 then s else
  match cfg.field 0 4 with
  | 1 => take (s.depth (portAt (cfg.field 4 4) (cfg.field 8 7)) (cfg.field 15 3))
  | 2 => take v
  | 3 => if mine then take v else s
  | 4 => if mine then take v else s
  | 5 => if mine then take v else s
  | 6 => take (s.rf PWR_STS.EST_W)
  | 7 => take (s.rf (PWR_DIE_STS.TJ_C (cfg.field 4 4)))
  | _ => s
/-- Writes of the settings of a unit are staged (R542, R544). -/
def writeHistCfg (s : State) (src : Src) (u : Nat) (v : Word) : State :=
  if 8 ≤ v.field 0 4 || ((v.field 0 4 == 1 || v.field 0 4 == 2) && decide (71 < v.field 8 7)) then s.reject src (TEL_HIST_CFG.a u)
  else (s.setReg (TEL_HIST_CFG.a u) v).wf (TEL_HIST_STS.PENDING u) 1
def writeHistSample (s : State) (u : Nat) (v : Word) : State :=
  (s.setReg (TEL_HIST_SAMPLE.a u) (Word.ofN (v.field 0 16))).wf (TEL_HIST_STS.PENDING u) 1

/-! ## Summaries and the collector (R547, R548) -/

/-- The sum of the SCH_CNT_LATE counters in a range. -/
def lateSum (s : State) (base n : Nat) : Nat :=
  (((List.range 16).filter (fun d => decide (base ≤ SCH_CNT_LATE.a d) && decide (SCH_CNT_LATE.a d < base + 8 * n))).map
    (fun d => s.rf (SCH_CNT_LATE.V d))).sum
/-- The stickies as bytes. -/
def ovfBytes (l : List Bool) : List Byte :=
  (List.range ((l.length + 7) / 8)).map (fun j =>
    BitVec.ofNat 8 (((List.range 8).map (fun k => if l.getD (8 * j + k) false then 2 ^ k else 0)).sum))
/-- The period of list `l` has passed. -/
def summary (s : State) (l : Nat) : State :=
  let base := s.rf (TEL_SUM_CFG.BASE l)
  let n := s.rf (TEL_SUM_CFG.COUNT l)
  if !s.telUp || s.rf (TEL_SUM_CFG.PERIOD_MS l) = 0 then s
  else if !snapOk base n then s.wf (TEL_SUM_STS.STATUS l) stREJECT
  else
    let late := s.lateSum base n
    let r := s.latchRange (s.rb (TEL_SUM_CFG.ACK_OVF l)) base n
    let s1 := r.2.2.wf (TEL_SUM_STS.STATUS l) stOK
    if s1.rf TEL_COLLECT.MODE = 0 then s1 else
    let seq := (lookupKey s1.fault.sumSeq l).getD 0 + 1
    let old := (lookupKey s1.fault.sumLate l).getD 0
    let s2 := s1.withFault { s1.fault with sumSeq := insertKey (eraseKey s1.fault.sumSeq l) l seq,
                                           sumLate := insertKey (eraseKey s1.fault.sumLate l) l late }
    s2.offer 0 ⟨3, 3, bytesLE 1 l ++ bytesLE 1 (if old = late then stOK else stLATE) ++ bytesLE 2 n ++ bytesLE 4 0 ++ bytesLE 8 s.now ++
      bytesLE 8 s.now ++ bytesLE 8 seq ++ r.1.flatMap (fun w => bytesLE 8 w.toNat) ++ ovfBytes r.2.1⟩
def writeCollect (s : State) (src : Src) (v : Word) : State :=
  if v.field 0 2 = 3 then s.reject src TEL_COLLECT.a else s.setReg TEL_COLLECT.a (Word.ofN (v.field 0 22))

/-! ## SYNC_IO, PPS_IN and PPS_OUT (R116, R556 to R558, R582) -/

/-- The functions a pin may have. -/
def pinFunc (n f : Nat) : Bool :=
  f == 0 || (if n < 4 then f == 2 || f == 3 || f == 4 else if n = 4 then f == 3 || f == 4 else f == 1 || f == 2)
/-- A pin's function ends: the pin, and the engine it named, are free. -/
def pinFree (s : State) (n : Nat) : State :=
  let f := s.rf (HUB_SYNC_CFG.FUNC n)
  let s1 := if f = 3 then s.freeOwner (6 + s.rf (HUB_SYNC_CFG.ARG n)) else s
  if f = 0 then s1 else s1.freeOwner n
/-- A write of HUB_SYNC_CFG. -/
def writeSync (s : State) (src : Src) (n : Nat) (v : Word) : State :=
  let a := HUB_SYNC_CFG.a n
  let f := v.field 0 3
  let e := 6 + v.field 3 2
  let w := Word.ofN (v.field 0 16)
  if !pinFunc n f then s.reject src a
  else if f = 0 then (s.pinFree n).setReg a w
  else if !s.mayClaim n f n || (f == 3 && !s.mayClaim e 3 n) then s.conflict src a
  else
    let s1 := ((s.pinFree n).setReg a w).setOwner n f 0
    if f = 3 then s1.setOwner e 3 n else s1
/-- TIM_CTL takes a value (RWL): SOURCE 3 claims PPS_IN for TIME, another SOURCE gives it up. -/
def writeTimCtl (s : State) (src : Src) (v : Word) : State :=
  s.rwlWrite src TIM_CTL.a ((s.reg TIM_CTL.a).field 0 8) (v.field 0 8) (fun t =>
    if v.field 0 2 = 3 && !t.mayClaim 4 1 4 then t.conflict src TIM_CTL.a
    else
      let t1 := if v.field 0 2 = 3 then t.setOwner 4 1 0 else if t.owner 4 = 1 then t.freeOwner 4 else t
      t1.setReg TIM_CTL.a (Word.ofN (v.field 0 8)))
/-- A write of HUB_OWN_CTL for resource `r`; it gives up an engine of the writer, FORCE any resource but TIME's PPS_IN. -/
def writeOwnCtl (s : State) (src : Src) (r : Nat) (force : Bool) : State :=
  if 10 ≤ r then s
  else if force then
    (if r = 4 && s.owner 4 = 1 then s.reject src HUB_OWN_CTL.a
     else
      let pin := if r < 6 then r else s.rf (HUB_OWN.INSTANCE r)
      if r < 6 || s.owner r = 3 then ((s.pinFree pin).wf (HUB_SYNC_CFG.FUNC pin) 0).freeOwner r else s.freeOwner r)
  else if 6 ≤ r && s.owner r = ownCode src then s.freeOwner r
  else s.conflict src HUB_OWN_CTL.a

/-- A recognised edge on a pin (R582): its SNAP_TRIG or TRACE_TRIG function. -/
def pinEdge (s : State) (n : Nat) : State :=
  if !s.telUp then s else
  match s.rf (HUB_SYNC_CFG.FUNC n) with
  | 3 =>
    let e := s.rf (HUB_SYNC_CFG.ARG n)
    if s.rb (TEL_SNAP_CTL.BUSY e) then s else s.snapGo e
  | 4 => s.trace 7 (unitHub 0) 0 (bytesLE 1 n)
  | _ => s

end State

/-- TEL_SNAP_CTL.GO (R539). -/
def execSnapshotGo (src : Src) (e : Fin 4) (base : BitVec 26) (count : BitVec 10) (ack : Bool) (s : State) : Res :=
  unheld s (s.guardWrite src (TEL_SNAP_CTL.a e) (fun t =>
    t.writeSnapCtl src e (Word.ofN (base.toNat + count.toNat * 2 ^ 26 + b2n ack * 2 ^ 36 + 2 ^ 37))))
/-- A snapshot's latches finish (R540). -/
def execSnapshotComplete (e : Fin 4) (s : State) : Res := unheld s (s.snapDone e)
/-- TEL_SNAP_CTL.RELEASE (R557). -/
def execSnapshotRelease (src : Src) (e : Fin 4) (s : State) : Res :=
  unheld s (s.guardWrite src (TEL_SNAP_CTL.a e) (fun t => t.snapRelease src e))
/-- Histogram unit `u` takes a value (R544, R545). -/
def execHistSample (u : Fin 64) (v : Word) (h : Fin 4096) (s : State) : Res := unheld s (s.histSample u v.toNat h)
/-- PERIOD_MS of summary list `l` has passed (R547, R548). -/
def execSummaryPeriod (l : Fin 16) (s : State) : Res := unheld s (s.summary l)
/-- A write of HUB_OWN_CTL (R557). -/
def execOwnRelease (src : Src) (r : Fin 16) (force : Bool) (s : State) : Res :=
  unheld s (s.guardWrite src HUB_OWN_CTL.a (fun t => t.writeOwnCtl src r force))
/-- A write of HUB_SYNC_CFG (R556 to R558). -/
def execSyncCfgWrite (src : Src) (n : Fin 6) (v : Word) (s : State) : Res :=
  unheld s (s.guardWrite src (HUB_SYNC_CFG.a n) (fun t => t.writeSync src n v))
/-- A recognised edge on SYNC_IO 0 to 3 or PPS_IN (R582). -/
def execSyncIoEdge (n : Fin 5) (s : State) : Res := unheld s (s.pinEdge n)
/-- An output pin pulses: a whole second, or entry 0 of the active bank (R556, R582). -/
def execPpsOutPulse (n : Fin 6) (s : State) : Res :=
  unheld s (if (s.rf (HUB_SYNC_CFG.FUNC n) = 1 ∨ s.rf (HUB_SYNC_CFG.FUNC n) = 2) ∧ !s.boot.held then s.emit (.ppsOut n) else s)

end Sys2Proof.Machine
end

