-- ==== Sys2Proof/Machine/RegWrite.lean ====
section
/-! DEFINITION. Writes of BAR0 by offset: by the access type of each field (R8, R9), with the effect its own rule gives a
register, and the way of a write to another clock domain (R10, R32 to R35). -/
namespace Sys2Proof.Machine
namespace State

/-- The group of R35 whose domain the register at `a` belongs to; none: the HUB domain, where writes apply at once. -/
def groupOf (a : Nat) : Option Group :=
  if a < 0x100000 then none
  else if a < 0x200000 then (if a = HRN_CMD.a then none else some .harness)
  else if a < 0x300000 then none
  else if a < 0x340000 then some .power
  else if a < 0x3C0000 then none
  else if a < 0x400000 then some .time
  else if a < 0x1000000 then none
  else if a < 0x2000000 then some .crux
  else if a < 0x3000000 then some .port
  else some .hbm

/-- A write by field access types alone (R8, R9): RW, RWL until the tables are locked, RW1C. -/
def plainWrite (s : State) (src : Src) (r : RegRow) (a : Nat) (v : Word) : State :=
  let m : Nat → Word := Word.ofN
  let old := s.reg a
  let locked := s.locked
  let open_ := if locked then m r.rw &&& ~~~ m r.rwl else m r.rw
  let new := ((old &&& ~~~ open_) ||| (v &&& open_)) &&& ~~~ (v &&& m r.w1c)
  let s1 := s.setReg a new
  if locked && (v &&& m r.rwl) != (old &&& m r.rwl) then s1.hacc src 0 a true stDENIED else s1

/-- HBM_SHARE (R469). -/
def writeShare (s : State) (src : Src) (a : Nat) (v : Word) : State :=
  let ok : Nat → Bool := fun c => decide (1 ≤ c) && decide (c ≤ 100)
  if ok (v.field 40 7) && ok (v.field 47 7) then s.setReg a (Word.ofN (v.field 0 54)) else s.reject src a
/-- The facts of the image that the load registers of crux die `n` name. -/
def imageAt (n : Nat) (s : State) : Image :=
  let h := s.rf (CRX_LOAD_SRC.HARNESS n)
  match s.hRange h (s.rf (CRX_LOAD_SRC.V n)) (s.rf (CRX_LOAD_LEN.V n)) with
  | some rs =>
    let r := s.memRead h rs
    let i := Config.image r.1
    { i with ok := i.ok && !r.2.1 }
  | none => Config.image []

/-- A write in the hub global block. -/
def applyHub (s : State) (src : Src) (r : RegRow) (a : Nat) (v : Word) : State :=
  if a = HUB_HOST_CTL.a then s.writeHostCtl src v
  else if 0x800 ≤ a && a < 0x1000 then (if a = 0x800 then s else s.writeVfBind ((a - 0x800) / 8) v)
  else if a = HUB_BOOT_CTL.a then s.writeBootCtl src v
  else if a = HUB_JTAG_TOKEN.a then s.writeJtagToken v
  else if a = HUB_FAULT_CTL.a then
    (if v.field 4 1 = 1 then s.freeW.2.writeFaultCtl src v (BitVec.ofNat 32 s.freeW.1.toNat) else s.writeFaultCtl src v 0)
  else if a = HUB_FAULT_RING.a then s.writeFaultRing src v
  else if a = HUB_FILL_CTL.a then s.writeFillCtl src v
  else if a = HUB_MARK_CTL.a then s.writeMarkCtl src v
  else if 0x680 ≤ a && a < 0x6A0 then s.withFault { s.fault with key := s.fault.key.set ((a - 0x680) / 8) v }
  else if a = HUB_MARGIN_CFG.a then
    (if v.field 16 1 = 1 then (s.freeB 12).2.writeMarginCfg v (s.freeB 12).1 else s.writeMarginCfg v [])
  else if a = HUB_OWN_CTL.a then s.writeOwnCtl src (v.field 0 4) (v.field 4 1 == 1)
  else if 0x1100 ≤ a && a < 0x1130 then s.writeSync src ((a - 0x1100) / 8) v
  else s.plainWrite src r a v
/-- A write in the harness block. -/
def applyHarness (s : State) (src : Src) (r : RegRow) (a : Nat) (v : Word) : State :=
  let h := (a - 0x100000) / 0x80
  if a = HRN_CMD.a then s.hrnCmd src (v.field 0 12) (v.field 12 4) (fun u => u.unbindHarness (v.field 0 12))
  else if a < 0x180000 then
    (match a % 0x80 with
     | 0x10 => s.writeLimit src .cores h (v.field 0 10)
     | 0x18 => s.writeLimit src .rings h (v.field 0 14)
     | 0x20 => s.writeLimit src .ctx h (v.field 0 15)
     | 0x28 => s.writeLimit src .carab h (v.field 0 21)
     | 0x30 => s.writeLimit src .hbm h (v.field 0 28)
     | 0x40 => s.writeHrnWake h v
     | _ => s.plainWrite src r a v)
  else if 0x188000 ≤ a && a % 0x20 = 0 then s.writeWitCfg src ((a - 0x188000) / 0x20) v
  else s.plainWrite src r a v
/-- A write in the ring block: a ring pair's registers but RING_IRQ only while it is OFF (R440). -/
def applyRing (s : State) (src : Src) (r : RegRow) (a : Nat) (v : Word) : State :=
  if a = RING_CMD.a then s.writeRingCmd src (v.field 0 13) (v.field 13 3)
  else if a < 0x280000 && a % 0x40 != 0x18 && s.ringState ((a - 0x200000) / 0x40) != 0 then s.reject src a
  else s.plainWrite src r a v
/-- A write in the power, Cairn, telemetry and time blocks. -/
def applySystem (s : State) (src : Src) (r : RegRow) (a : Nat) (v : Word) : State :=
  if a = PWR_CTL.a then s.writePwrCtl src v
  else if a = PWR_SYS_WAKE.a then s.writeSysWake v
  else if a = PWR_DROOP_CFG.a then s.writeDroopCfg src v
  else if a = PWR_TRIM_CFG.a then s.writeTrimCfg src v
  else if a = CRN_CMD.a then s.writeCrnCmd v none
  else if 0x380000 ≤ a && a < 0x380100 && a % 0x40 = 0 then s.writeSnapCtl src ((a - 0x380000) / 0x40) v
  else if 0x381000 ≤ a && a < 0x381400 && a % 0x40 = 0 then s.writeMirCtl src ((a - 0x381000) / 0x40) v
  else if 0x381000 ≤ a && a < 0x381400 && a % 0x40 = 0x18 then s.writeMirLog2 src ((a - 0x381000) / 0x40) v
  else if 0x388000 ≤ a && a < 0x398000 && a % 0x400 = 0 then s.writeHistCfg src ((a - 0x388000) / 0x400) v
  else if 0x388000 ≤ a && a < 0x398000 && a % 0x400 = 8 then s.writeHistSample ((a - 0x388000) / 0x400) v
  else if a = TEL_COLLECT.a then s.writeCollect src v
  else if a = TIM_CTL.a then s.writeTimCtl src v
  else if a = TIM_GUARD.a then s.writeGuard src v
  else if a = TIM_SYNC_CFG.a then s.writeSyncCfg src v
  else if a = TIM_GATE_CTL.a then s.writeGateCtl src v
  else if a = TIM_GATE_SWITCH.a then s.writeGateSwitch src v
  else if a = TIM_GATE_TBL_DATA.a then s.writeGateTbl src v
  else s.plainWrite src r a v
/-- A write in the lower half of crux die `n`'s window, at offset `o`: cores, loads, ropes, gates, store. -/
def applyCores (s : State) (src : Src) (r : RegRow) (n o a : Nat) (v : Word) : State :=
  if o = 0 then s.writeBindCmd src n (v.field 0 5) (v.field 5 12) (v.field 17 2)
  else if o = 0x18 then s.writeCch src n v
  else if 0x400 ≤ o && o < 0x420 then s.writePflag n ((o - 0x400) / 8) (v.field 0 12) (v.field 12 1 == 1)
  else if 0x800 ≤ o && o < 0xC00 && o % 0x20 = 0 then s.writeJumar n ((o - 0x800) / 0x20) v
  else if 0x10000 ≤ o && o < 0x12000 && o % 0x100 = 8 then
    (let k := 32 * n + (o - 0x10000) / 0x100
     let s1 := if v.field 0 1 = 1 then s.go k else s
     if v.field 1 1 = 1 then s1.halted k else s1)
  else if o = 0x30000 then s.writeLoadCmd src n (v.field 0 32) (v.field 32 2) (imageAt n)
  else if o = 0x40000 then s.writeRopeCmd src n (v.field 0 14) (v.field 14 4)
  else if 0x40008 ≤ o && o < 0x40048 then s.writeRopeD src n ((o - 0x40008) / 8) v
  else if o = 0x50000 then s.writeGateCmd src n (v.field 0 14) (v.field 14 4)
  else if 0x50008 ≤ o && o < 0x50048 then s.writeGateD src n ((o - 0x50008) / 8) v
  else if o = 0x50068 then s.writeHeatCtl n v
  else if o = 0x60000 then s.writeStoreCmd src n (v.field 0 14) (v.field 14 2)
  else if 0x60008 ≤ o && o < 0x60038 then s.writeStoreD src n a (Word.ofN r.rw) v
  else s.plainWrite src r a v
/-- A write in the rest of the window: pools, forwarding, scheduling, memory fabric. -/
def applyFabric (s : State) (src : Src) (r : RegRow) (n o a : Nat) (v : Word) : State :=
  if o < 0x80000 then
    (let q := 4 * n + (o - 0x70000) / 0x1000
     match o % 0x1000 with
     | 0 => s.writePoolCmd src q (v.field 0 2)
     | 0x8 => s.writePoolCfg src q a 18 v
     | 0x10 => s.writePoolCfg src q a 28 v
     | 0x18 => s.writePoolCfg src q a 28 v
     | 0x20 => s.writePoolCfg src q a 40 v
     | 0x28 => s.writePoolFloor q v
     | x => if 0x100 ≤ x && x < 0x200 && x % 16 = 0 then s.writePoolReq q ((x - 0x100) / 16) v else s.plainWrite src r a v)
  else if o = 0x80018 then s.writeTbl src n v
  else if 0x80040 ≤ o && o < 0x80080 then s.writeRouteCfg src n ((o - 0x80040) / 8) v
  else if 0x80100 ≤ o && o < 0x80340 then s.writeHoldCfg src n ((o - 0x80100) / 8) v
  else if 0x80400 ≤ o && o < 0x81600 then s.writeQlimit src n ((o - 0x80400) / 64) ((o - 0x80400) / 8 % 8) v
  else if o = 0x90000 || o = 0x90008 then s.writeWeights n a v
  else if o = 0x90020 then s.clearMarks n (v.field 0 7) (v.field 7 8)
  else if o = 0xA0000 then s.writeMfbCfg src n v
  else if o = 0xA0010 then s.writeCarCmd src n v
  else if 0xA0018 ≤ o && o < 0xA0030 then s.writeCarWord src n a v
  else if o = 0xA0030 then s.writeCarSpill src n v
  else s.plainWrite src r a v
/-- A write in the block of port `P`, at offset `x` of the block. -/
def applyPort (s : State) (src : Src) (r : RegRow) (P x a : Nat) (v : Word) : State :=
  if s.oddBonded P then s.reject src a
  else if x = 0 then s.writePortCtl src P v
  else if x = 0x10 then s.writePortId src P v
  else if x = 0x90 then s.writeMacsecKsel src P v
  else if 0x98 ≤ x && x < 0xC8 then s.writeMacsecKey P ((x - 0x98) / 8) v
  else if x = 0xC8 then s.writeGwPeer0 src P v
  else if 0xD8 ≤ x && x < 0xF8 then s.writeGwHset src P ((x - 0xD8) / 8) v
  else s.plainWrite src r a v
/-- A write takes effect. An offset that names no register is passed over in silence (R591). -/
def applyWrite (s : State) (src : Src) (a : Nat) (v : Word) : State :=
  match regRow a with
  | none => s
  | some r =>
    if a < 0x100000 then s.applyHub src r a v
    else if a < 0x200000 then s.applyHarness src r a v
    else if a < 0x300000 then s.applyRing src r a v
    else if a < 0x1000000 then s.applySystem src r a v
    else if a < 0x2000000 then
      (let n := (a - 0x1000000) / 0x100000
       let o := a % 0x100000
       if o < 0x70000 then s.applyCores src r n o a v else s.applyFabric src r n o a v)
    else if a < 0x3000000 then
      (let m := (a - 0x2000000) / 0x80000
       let o := a % 0x80000
       if o < 0x8000 then
         s.applyPort src r (portAt (m / 2) (if m % 2 = 0 then (o - 0x1000) / 0x200 else 48 + (o - 0x1000) / 0x200)) ((o - 0x1000) % 0x200) a v
       else s.plainWrite src r a v)
    else if a % 0x10000 = 0x10 then s.writeShare src a v
    else s.plainWrite src r a v

/-- A write of BAR0: turned away (R7, R412, R491, R591), applied, or staged for its domain (R32, R35). Function 0 is the PF; a VF's
BAR0 holds its MSI-X table alone (R598). -/
def regWrite (s : State) (src : Src) (fn a : Nat) (v : Word) : State :=
  if s.boot.held then s
  else if fn != 0 then
    (if a % 8 != 0 then s.hacc src fn a true stREJECT
     else if a < 0x400 then s.writeMsix fn (a / 8) v else s)
  else if a % 8 != 0 then s.hacc src 0 a true stREJECT
  else match s.accessFails src a with
    | some st => s.hacc src 0 a true st
    | none =>
      if (regRow a).isNone then s else
      match groupOf a with
      | some g => { s with xdom := s.xdom ++ [⟨g, src, fn, a, v⟩] }
      | none => s.applyWrite src a v

/-- The oldest staged write of a group takes effect (R33, R35). -/
def xdomEffect (s : State) (g : Group) : State :=
  match s.xdom.find? (fun x => x.grp == g) with
  | none => s
  | some x => ({ s with xdom := s.xdom.eraseP (fun y => y.grp == g) } : State).applyWrite x.src x.addr x.val

end State

/-- A write of a register by function `fn` (R8). -/
def execRegisterWrite (src : Src) (fn : BitVec 8) (a : BitVec 26) (v : Word) (s : State) : Res := unheld s (s.regWrite src fn.toNat a.toNat v)
/-- A BAR0 access that is not 64 bits wide or not aligned (R7). -/
def execMalformedAccess (src : Src) (fn : BitVec 8) (a : BitVec 26) (write : Bool) (s : State) : Res :=
  unheld s (if s.boot.held then s else
    let t := s.hacc src fn.toNat a.toNat write stREJECT
    if write then t else t.emit (.regData 0))
/-- The oldest write on its way to a group's domain takes effect (R33, R35). -/
def execCrossDomainWriteEffect (g : Group) (s : State) : Res := unheld s (s.xdomEffect g)

end Sys2Proof.Machine
end

