-- ==== Sys2Proof/Machine/Inband.lean ====
section
/-! DEFINITION. Register access in frames and datagrams: in band (spec/15_host_interface.md R436, R504) and over the fault
channel (spec/19_faults_and_recovery.md R525 to R527). -/
namespace Sys2Proof.Machine
namespace State

/-- Every staged write of a group takes effect, oldest first. -/
def flushGroup (g : Group) : Nat → State → State
  | 0, s => s
  | n + 1, s => if s.xbusy g then flushGroup g n (s.xdomEffect g) else s
/-- A write whose outcome is reported: it takes effect at once, after the writes of its group that came before it (R32, R33). -/
def regWriteNow (s : State) (src : Src) (a : Nat) (v : Word) : State :=
  let t := s.regWrite src 0 a v
  match groupOf a with
  | some g => if s.xdom.length < t.xdom.length then flushGroup g t.xdom.length t else t
  | none => t
/-- A read whose outcome is reported (R7). -/
def regReadNow (s : State) (src : Src) (a : Nat) : Word × State :=
  if a % 8 != 0 then (0, s.hacc src 0 a false stREJECT) else s.regRead src a
/-- One access: its status, the data read, and the state it leaves. The status is what HUB_HACC_ERR latches of it. -/
def access (s : State) (src : Src) (a : Nat) (write : Bool) (v : Word) : Nat × Word × State :=
  let clear := s.wf HUB_HACC_ERR.VALID 0
  let st : State → Nat := fun t => if t.rb HUB_HACC_ERR.VALID then t.rf HUB_HACC_ERR.STATUS else stOK
  if write then (st (clear.regWriteNow src a v), v, s.regWriteNow src a v)
  else (st (clear.regReadNow src a).2, (s.regReadNow src a).1, (s.regReadNow src a).2)
/-- Accesses of 16 bytes applied in order; `write`: what access `l` is. The accesses with their statuses and data. -/
def accesses (src : Src) (write : List Byte → Bool) : List (List Byte) → State → List Byte × State
  | [], s => ([], s)
  | l :: t, s =>
    let r := s.access src (leAt l 0 4) (write l) (Word.ofN (leAt l 8 8))
    let u := accesses src write t r.2.2
    (l.take 4 ++ bytesLE 1 r.1 ++ (l.drop 5).take 3 ++ bytesLE 8 r.2.1.toNat ++ u.1, u.2)
/-- `n` pieces of 16 bytes. -/
def sixteens : Nat → List Byte → List (List Byte)
  | 0, _ => []
  | n + 1, l => padTo 16 0 (l.take 16) :: sixteens n (l.drop 16)

/-! ## In band (R436, R504) -/

/-- Is a request of the plane master's, on a torus port, in harness 0, with 1 to 255 accesses? -/
def inbandOk (s : State) (x : Steered) : Bool :=
  (match x.ingress with | some P => isTorus P | none => false) && x.frame.harness == 0 && s.rb HUB_MGMT_MASTER.VALID &&
  x.frame.src == s.rf HUB_MGMT_MASTER.FEID && x.frame.len % 16 == 0 && decide (16 ≤ x.frame.len) && decide (x.frame.len ≤ 4080)
/-- A REG_READ or REG_WRITE at the management processor. -/
def regFrame (s : State) (op : Nat) (mine : Frame → Bool) : State :=
  if s.mgmtHeld then s else
  match s.takeHub .mgmt mine with
  | none => s
  | some (x, s1) =>
    if x.frame.op != op || !s1.inbandOk x then s1.inc RING_CNT_MGMT_DENIED.V
    else
      let r := accesses .inband (fun _ => op == 0x11) (sixteens (x.frame.len / 16) x.frame.payload) s1
      let dst := if 0x3FFC0 ≤ x.frame.dst then 0x3FFC0 + s1.rf HUB_MGMT_MASTER.INDEX else x.frame.src
      if !r.2.campOk 1 then r.2
      else r.2.send 0 (FrameSpec.make
       { cls := 6, kind := 6, dst := dst, src := r.2.hubFeid, op := 0x12, tag := x.frame.tag, time := r.2.now, payload := r.1, checkKind := 0 })

/-! ## The fault channel (R525 to R527) -/

/-- A REQUEST datagram from an IPv4 address. -/
def fmRequest (s : State) (b : List Byte) (from_ : Nat) : State :=
  if !s.fmRuns then s
  else if !s.fmOk b || fmType b != 1 || fmLen b % 16 != 0 || fmLen b < 16 || 1024 < fmLen b then s.fmBad from_
  else
    let last := s.fault.reqSeq
    let ls := sixteens (fmLen b / 16) (fmPayload b)
    if last < fmSeq b then
      (let s1 := (s.withFault { s.fault with reqSeq := fmSeq b, reqAny := true, reqFrom := from_ }).inc HUB_FM_CNT_RX.V
       let r := accesses .faultCh (fun l => leAt l 5 1 % 2 == 1) ls s1
       if !r.2.fmRuns then r.2 else
       (r.2.withFault { r.2.fault with saved := r.1 }).emit (.response from_ (fmSeq b) r.1))
    else if s.fault.reqAny && fmSeq b = last then s.emit (.response from_ last s.fault.saved)
    else s.emit (.response from_ last (ls.flatMap (fun l => l.take 4 ++ bytesLE 1 stREJECT ++ l.drop 5)))

end State

/-- A REG_READ frame at the front of the management processor's queue (R436); a frame with no OP of R436 is discarded here. -/
def execRegRead (s : State) : Res := unheld s (s.regFrame 0x10 (fun f => !(f.op == 0x11 || f.op == 0x12)))
/-- A REG_WRITE frame at the front of the management processor's queue (R436). -/
def execRegWrite (s : State) : Res := unheld s (s.regFrame 0x11 (fun f => f.op == 0x11))
/-- A REQUEST datagram on the fault channel, from an IPv4 address (R526, R527). -/
def execFmRequest (b : List Byte) (from_ : BitVec 32) (s : State) : Res := unheld s (s.fmRequest b from_.toNat)

end Sys2Proof.Machine
end

