-- ==== Sys2Proof/Machine/Package.lean ====
section
/-! DEFINITION. Pins, clocks, thermal protection, the sideband and JTAG (spec/21_package_and_electrical.md R574, R576, R583,
R584, R589). -/
namespace Sys2Proof.Machine
namespace State

/-- PWRGD falls: reset, and every laser goes off (R574). -/
def pwrgdFall (s : State) : State :=
  if !s.boot.pwrgd then s else
  let t := s.enterReset true
  t.withBoot { t.boot with pwrgd := false }
/-- PERST_N falls. -/
def perstFall (s : State) : State :=
  if !s.boot.perst then s else
  let t := s.enterReset false
  t.withBoot { t.boot with perst := false }
/-- A rail drops while PWRGD is high: the device is held as it is by a fall of PWRGD, until PERST_N is taken low and released. -/
def railDrop (s : State) : State := if s.boot.pwrgd then s.enterReset true else s
/-- REFCLK_156P25 is lost while PWRGD is high (R576). -/
def refclkLoss (s : State) : State := if s.boot.pwrgd then (s.enterReset true).setFaultN else s

/-- A sensor of unit `u` reads `tj` °C; `cooled`: since the last alarm the sensors have fallen below 100 °C (R589). A device held in
reset asserts SMB_ALERT_N and records nothing. -/
def thermalAlarm (s : State) (u : DevUnit) (tj : Nat) (cooled : Bool) : State :=
  let s0 := if cooled then s.withBoot { s.boot with hot := false } else s
  let s1 := match u with
    | .crux n => if s0.boot.held then s0 else s0.wf (PWR_DIE_STS.TJ_C n) tj
    | _ => s0
  if tj < 105 then s1 else
  let s2 := s1.withBoot { s1.boot with smbAlert := true }
  if s2.boot.held || s2.boot.hot then s2
  else (s2.withBoot { s2.boot with hot := true }).report ⟨clPOWER, 0x05, 1, stOK, unitCode u, 0, s2.powerDetail⟩

/-- A sensor at 118 °C for 1 µs; `rail`: VDD_HUB remains for the last-gasp entry, whose CAUSE and offset are free (R564, R589). -/
def thermTrip (s : State) (rail : Bool) : State :=
  let s1 := if rail && !s.boot.held then
      (let c := s.freeW
       let o := c.2.freeW
       o.2.lastGasp (c.1.field 0 8) (o.1.field 0 32))
    else s
  let t := s1.enterReset false
  t.withBoot { t.boot with thermTrip := true }
/-- VDD_AON is removed, and every other rail with it. -/
def aonRemoved (s : State) : State :=
  let t := s.enterReset true
  t.withBoot { t.boot with thermTrip := false, pwrgd := false, hot := false, smbAlert := false, jtag := .idcode }

/-! ## The sideband and JTAG (R583, R584) -/

/-- Offsets the sideband reads from PWRGD on, and those it reads once Camp 1 has ended. -/
def sideOpen (a : Nat) : Bool :=
  a % 8 == 0 && (decide (a < 0x30) || a == 0x200 || (decide (0x210 ≤ a) && decide (a < 0x248)) || a == 0x278 || a == 0x600)
def sideCamp1 (a : Nat) : Bool := a % 8 == 0 && (a == PWR_STS.a || (decide (PWR_DIE_STS.a 0 ≤ a) && decide (a < PWR_DIE_STS.a 16)))
/-- One transaction: 8 bytes, and the NACK of the PEC byte. -/
def sideband (s : State) (a : Nat) : State :=
  if !s.boot.pwrgd then s
  else if sideOpen a || (sideCamp1 a && s.campOk 1) then s.emit (.sideband (s.readReg .faultCh a).1 false)
  else s.emit (.sideband 0 true)
/-- An SMBus Alert Response; `tj`: the hottest sensor. -/
def alertResponse (s : State) (tj : Nat) : State :=
  if !s.boot.pwrgd || !s.boot.smbAlert then s else
  let s1 := s.emit .alertResponse
  if s1.rb HUB_FAULT_STS.FAULT_N || 105 ≤ tj then s1 else s1.withBoot { s1.boot with smbAlert := false }
def jtagSelect (s : State) (ir : JtagIr) : State :=
  let ir' := match ir with
    | .other _ => if s.rb HUB_JTAG_STS.OPEN then ir else .bypass
    | x => x
  s.withBoot { s.boot with jtag := ir' }

end State

/-- PWRGD falls (R574). -/
def execPwrgdFall (s : State) : Res := done s.pwrgdFall
/-- PERST_N falls (R574). -/
def execPerstNAssert (s : State) : Res := done s.perstFall
/-- A rail below 90 % for 5 µs (R574). -/
def execRailDrop (s : State) : Res := done s.railDrop
/-- REFCLK_156P25 absent or off frequency (R576). -/
def execRefclkLoss (s : State) : Res := done s.refclkLoss
/-- PCIE0_PERST_N or PCIE1_PERST_N falls: its port is down (R434, R574). -/
def execPciePerst (p : Fin 2) (s : State) : Res := unheld s (if s.boot.held then s else s.portDown p)
/-- A die sensor reaches 105 °C (R589). -/
def execThermalAlarm (u : DevUnit) (tj : BitVec 8) (cooled : Bool) (s : State) : Res := done (s.thermalAlarm u tj.toNat cooled)
/-- A die sensor at 118 °C (R589). -/
def execThermtrip (rail : Bool) (s : State) : Res := done (s.thermTrip rail)
/-- A sideband read of offset `a` (R583). -/
def execSidebandRead (a : BitVec 32) (s : State) : Res := done (s.sideband a.toNat)
/-- An SMBus Alert Response (R583). -/
def execAlertResponse (tj : BitVec 8) (s : State) : Res := done (s.alertResponse tj.toNat)
/-- A JTAG instruction is selected (R584). -/
def execJtagInstruction (ir : JtagIr) (s : State) : Res := done (s.jtagSelect ir)
/-- PWRGD rises (R574, R583). -/
def execPwrgdRise (s : State) : Res := done (s.withBoot { s.boot with pwrgd := true })
/-- VDD_AON is removed (R589). -/
def execVddAonRemoval (s : State) : Res := done s.aonRemoved

end Sys2Proof.Machine
end

