-- ==== Sys2Proof/Machine/RopeFrames.lean ====
section
/-! DEFINITION. The frames of a rope as they reach its home cluster, and its commands
(spec/12_ropes_and_collectives.md R327 to R356). -/
namespace Sys2Proof.Machine
namespace State

/-- A frame refused under R331 or R337 by the context, without a break. -/
def ropeBad (s : State) (c : RopeCtx) : State := s.inc (CRX_CNT_ROPE_BAD.V c.die)
/-- A refused contribution (R331). -/
def ropeDenied (s : State) (c : RopeCtx) (f : Frame) : State := (s.ropeBad c).reqReport 0x04 0 stDENIED (unitCrux c.die) f
def opnoOf (f : Frame) : Nat := f.chunk / 2 ^ 24
def chunkOf (f : Frame) : Nat := f.chunk % 2 ^ 24
/-- The local member a frame of a member comes from, its port admitted when the list was committed. -/
def memberOf (s : State) (c : RopeCtx) (ingress : Option Nat) (f : Frame) : Option Nat :=
  match s.localRank c f.src with
  | some r => if (ingress.map (fun P => decide (s.rf (PRT_PORT_ID.ADMIT_EPOCH P) ≤ c.planeEpoch))).getD true then some r else none
  | none => none

/-- Does a frame come from a member the context admits, or from a device (R331)? -/
def ropeSender (s : State) (c : RopeCtx) (ingress : Option Nat) (f : Frame) : Bool :=
  (s.memberOf c ingress f).isSome || (s.devOfFeid c.die f.src).isSome || (s.planeOfFeid c.die f.src).isSome
/-- Does a frame carry the check of R336? CREDIT and ABORT are not verified; the residue of a PARTIAL of a SUM is verified with its
elements. -/
def kindOk (c : RopeCtx) (f : Frame) : Bool :=
  f.op == 4 || f.op == 8 || (f.op == 2 && c.isSum f.addr) || f.checkKind == 1
/-- A landed frame of a context homed on cluster `clu`, where the context takes it (R327, R331). -/
def takeRope (s : State) (clu : Nat) (f : Frame) (k : State → RopeCtx → Option Nat → State) : State :=
  match s.landed (.cluster clu) f with
  | none => s
  | some x =>
    let s1 := s.unland x
    match s1.findRope f.ctx with
    | none => s1.inc (CRX_CNT_ROPE_BAD.V (clu / 4))
    | some c =>
      if c.cluster != clu then s1.inc (CRX_CNT_ROPE_BAD.V (clu / 4))
      else if c.broken || c.epoch != f.epoch then s1.inc (CRX_CNT_ROPE_STALE.V (clu / 4))
      else if s1.ropeSender c x.ingress f && !kindOk c f then s1.ropeCheck c 0x01 (opnoOf f) (chunkOf f) f.check (crc32c 0 f.payload)
      else k s1 c x.ingress

/-! ## All-to-all (R343 to R345) -/

/-- Elements due from rank `r` to rank `j`, as its device holds them. -/
def sendDue (o : RopeOp) (r j : Nat) : Nat :=
  if opColl o.word = 7 then opCount o.word
  else ((o.a2a.vecs.filter (fun v => v.1 == r)).findSome? (fun v => if 1024 * v.2.1 ≤ j then v.2.2[j - 1024 * v.2.1]? else none)).getD 0
/-- Elements due to local rank `j` from rank `r`. -/
def recvDue (o : RopeOp) (r j : Nat) : Nat :=
  if opColl o.word = 7 then opCount o.word else ((o.a2a.counts.filter (fun t => t.1 == r && t.2.1 == j)).map (fun t => t.2.2)).sum
def allDue (c : RopeCtx) (o : RopeOp) (j : Nat) : Nat := ((List.range c.ranks).map (fun r => recvDue o r j)).sum
/-- Change an open operation. -/
def onOp (s : State) (ctx opno : Nat) (g : RopeOp → RopeOp) : State :=
  match s.findRope ctx with
  | some c => (match c.op? opno with
    | some o => s.putRope (c.putOp (g o))
    | none => s)
  | none => s
def opOf (s : State) (ctx opno : Nat) : Option (RopeCtx × RopeOp) :=
  (s.findRope ctx).bind (fun c => (c.op? opno).map (fun o => (c, o)))

/-- Local receivers that have everything due to them are completed (R343). -/
def completeRecv (s : State) (ctx opno : Nat) : State :=
  match s.opOf ctx opno with
  | none => s
  | some (c, o) =>
    ((s.localRanks c).filter (fun j => !o.a2a.ended.contains j &&
      decide (allDue c o j ≤ ((o.a2a.got.filter (fun t => t.2.1 == j)).map (fun t => t.2.2)).sum))).foldl
      (fun t j => (t.ropeFrame c 3 (c.member j).id opno o.word 0 0 true true stOK 1 0 []).onOp ctx opno (fun x =>
        { x with a2a := { x.a2a with ended := x.a2a.ended ++ [j] } })) s

/-- COUNTS frames of 64-bit entries to a device; the last carries LAST where `final`. -/
def sendEntries (s : State) (c : RopeCtx) (o : RopeOp) (d : Nat) (es : List (Nat × Nat × Nat)) (begun final : Bool) : State :=
  let n := max (if final then 1 else 0) ((es.length + 510) / 511)
  (List.range n).foldl (fun t i =>
    let l := (es.drop (511 * i)).take 511
    t.ropeFrame c 6 (t.feidOfDevice d) o.opno o.word 0 i (!begun && i == 0) (final && i + 1 == n) stOK 1 0
      (l.flatMap (fun e => bytesLE 2 e.1 ++ bytesLE 2 e.2.1 ++ bytesLE 4 e.2.2))) s
/-- The receive vector of local rank `j` goes to it. -/
def sendVector (s : State) (c : RopeCtx) (o : RopeOp) (j : Nat) : State :=
  let n := (c.ranks + 1023) / 1024
  (List.range n).foldl (fun t i =>
    let l := ((List.range c.ranks).drop (1024 * i)).take 1024
    t.ropeFrame c 6 (c.member j).id o.opno o.word 0 i (i == 0) (i + 1 == n) stOK 1 0 (l.flatMap (fun r => bytesLE 4 (recvDue o r j)))) s

/-- Is the send vector of rank `r` complete? -/
def vecDone (c : RopeCtx) (o : RopeOp) (r : Nat) : Bool :=
  decide ((c.ranks + 1023) / 1024 ≤ (o.a2a.vecs.filter (fun v => v.1 == r)).length)

/-- The barrier of an ALLTOALLV is released here: down the tree, then every receive vector, then data. -/
def a2aRelease (s : State) (c : RopeCtx) (o : RopeOp) : State :=
  let s1 := (s.childrenOf c (s.summitOf c o.word 0) s.devIndex).foldl (fun t d =>
    t.ropeFrame c 3 (t.feidOfDevice d) o.opno o.word 0 0 true true stOK 1 0 []) s
  let s2 := (s.localRanks c).foldl (fun t j => t.sendVector c o j) s1
  (s2.onOp c.ctx o.opno (fun x => { x with a2a := { x.a2a with phase := 4 } })).completeRecv c.ctx o.opno

/-- The states of R344, as far as they go now. -/
def a2aAdvance : Nat → State → Nat → Nat → State
  | 0, s, _, _ => s
  | fuel + 1, s, ctx, opno =>
    match s.opOf ctx opno with
    | none => s
    | some (c, o) =>
      let me := 65536 + s.devIndex
      match o.a2a.phase with
      | 0 => if (s.localRanks c).all (vecDone c o) then
               a2aAdvance fuel (s.onOp ctx opno (fun x => { x with a2a := { x.a2a with phase := 1 } })) ctx opno else s
      | 1 => if (c.devs.filter (fun d => d != s.devIndex)).all (fun d => o.a2a.lasts.contains d) then
               a2aAdvance fuel (s.onOp ctx opno (fun x => { x with a2a := { x.a2a with phase := 2, arrived := x.a2a.arrived ++ [me] } })) ctx opno
             else s
      | 2 =>
        let kids := s.childrenOf c (s.summitOf c o.word 0) s.devIndex
        if !o.a2a.arrived.contains 131072 && kids.all (fun d => o.a2a.arrived.contains (65536 + d)) &&
            ((s.localRanks c).isEmpty || o.a2a.arrived.contains me) then
          let s1 := s.onOp ctx opno (fun x => { x with a2a := { x.a2a with arrived := x.a2a.arrived ++ [131072] } })
          if s.isTop c o.word 0 then (match s1.opOf ctx opno with
            | some (c', o') => s1.a2aRelease c' o'
            | none => s1)
          else s1.ropeFrame c 1 (s.upFeid c o.word 0) opno o.word 0 0 true true stOK 1 0 []
        else s
      | _ => s

/-- A COUNTS frame (R344, R345). -/
def countsIn (s : State) (c0 : RopeCtx) (ingress : Option Nat) (f : Frame) : State :=
  let ctx := c0.ctx
  let opno := opnoOf f
  match s.memberOf c0 ingress f with
  | some r =>
    (match s.openOp c0 true opno f.addr with
     | .inr st => s.breakRope ctx st false none
     | .inl c =>
       match c.op? opno with
       | none => s
       | some o =>
         let want := min 1024 (c.ranks - 1024 * f.frag)
         let l := (piecesOf 4 (f.len / 4) f.payload).map leNat
         if opColl f.addr != 8 || o.a2a.phase != 0 || c.ranks ≤ 1024 * f.frag || f.len != 4 * want ||
             o.a2a.vecs.any (fun v => v.1 == r && v.2.1 == f.frag) || l.any (fun n => decide (2 ^ 24 < n * c.inFmt.bytes)) then
           s.breakRope ctx stREJECT false none
         else
           let o1 := { o with a2a := { o.a2a with vecs := o.a2a.vecs ++ [(r, f.frag, l)] } }
           let whole := vecDone c o1 r
           let o2 := s.noteMember o1 r whole
           let s1 := s.putRope (c.putOp o2)
           if !whole then s1 else
           let final := (s.localRanks c).all (vecDone c o2)
           let begun := (s.localRanks c).any (fun q => q != r && vecDone c o2 q)
           let es := (List.range c.ranks).filterMap (fun j => let n := sendDue o2 r j; if n = 0 then none else some (r, j, n))
           let at_ : Nat → List (Nat × Nat × Nat) := fun d => es.filter (fun e => (c.member e.2.1).dev == d)
           let s2 := s1.onOp ctx opno (fun x => { x with a2a := { x.a2a with counts := x.a2a.counts ++ at_ s.devIndex } })
           let s3 := (c.devs.filter (fun d => d != s.devIndex)).foldl (fun t d => t.sendEntries c o2 d (at_ d) begun final) s2
           a2aAdvance 4 s3 ctx opno)
  | none =>
    match s.devOfFeid c0.die f.src with
    | none => s.ropeDenied c0 f
    | some d =>
      if !c0.devs.contains d || opColl f.addr != 8 then s.ropeBad c0 else
      match s.openOp c0 false opno f.addr with
      | .inr st => s.breakRope ctx st false none
      | .inl c =>
        let es := (piecesOf 8 (f.len / 8) f.payload).map (fun b => (leAt b 0 2, leAt b 2 2, leAt b 4 4))
        let s1 := (s.putRope c).onOp ctx opno (fun x => { x with a2a := { x.a2a with
          counts := x.a2a.counts ++ es.filter (fun e => (c.member e.2.1).dev == s.devIndex),
          lasts := if f.last then insertNat x.a2a.lasts d else x.a2a.lasts } })
        a2aAdvance 4 s1 ctx opno

/-- An A2A frame on its way: to a device, or to its receiver with the sender's rank. -/
def a2aFrame (s : State) (c : RopeCtx) (f : Frame) (dst chunk : Nat) : State :=
  s.send c.die (FrameSpec.make
   { cls := 0, kind := 2, dst := dst, src := f.src, harness := c.harness, op := 7,
     flow := (c.ctx * 64 + chunk % 64) % 2 ^ 20, frag := f.frag, first := f.first, last := f.last, ctx := c.ctx,
     addr := f.addr, epoch := c.epoch, chunk := opnoOf f * 2 ^ 24 + chunk, time := f.ingressTime, payload := f.payload })
/-- Deliver a block's frame to local rank `j` from rank `r`. -/
def a2aDeliver (s : State) (c : RopeCtx) (f : Frame) (r j : Nat) : State :=
  ((s.a2aFrame c f (c.member j).id r).onOp c.ctx (opnoOf f) (fun x =>
    { x with a2a := { x.a2a with got := x.a2a.got ++ [(r, j, f.len / c.inFmt.bytes)] } })).completeRecv c.ctx (opnoOf f)

/-- An A2A frame (R343). -/
def a2aIn (s : State) (c0 : RopeCtx) (ingress : Option Nat) (f : Frame) : State :=
  let ctx := c0.ctx
  let j := chunkOf f
  match s.rankOf c0 f.src with
  | none => s.ropeDenied c0 f
  | some r =>
    if (c0.member r).dev = s.devIndex then
      if (s.memberOf c0 ingress f).isNone then s.ropeDenied c0 f else
      match s.openOp c0 true (opnoOf f) f.addr with
      | .inr st => s.breakRope ctx st false none
      | .inl c =>
        match c.op? (opnoOf f) with
        | none => s
        | some o =>
          let size := c.inFmt.bytes
          let due := sendDue o r j
          let gone := ((o.a2a.sent.filter (fun t => t.1 == r && t.2.1 == j)).map (fun t => t.2.2)).sum
          if !c.a2a f.addr || o.a2a.phase != 4 || c.ranks ≤ j || due * size ≤ 4096 * f.frag || f.len != min 4096 (due * size - 4096 * f.frag) ||
              due < gone + f.len / size then s.breakRope ctx stREJECT false none
          else
            let o1 := { o with a2a := { o.a2a with sent := o.a2a.sent ++ [(r, j, f.len / size)] } }
            let all := (List.range c.ranks).all (fun q => decide (sendDue o1 r q ≤ ((o1.a2a.sent.filter (fun t => t.1 == r && t.2.1 == q)).map (fun t => t.2.2)).sum))
            let o2 := if opColl f.addr = 7 then s.noteMember o1 r all else o1
            let s1 := s.putRope (c.putOp o2)
            if (c.member j).dev = s.devIndex then s1.a2aDeliver c f r j else s1.a2aFrame c f (s.feidOfDevice (c.member j).dev) j
    else
      match s.openOp c0 false (opnoOf f) f.addr with
      | .inr st => s.breakRope ctx st false none
      | .inl c => if (c.member j).dev = s.devIndex && c.a2a f.addr && !(c.member j).core then (s.putRope c).a2aDeliver c f r j else s.ropeBad c0

/-! ## Merging and copying frames -/

/-- The blocks of a payload (R239, R241): none where one is malformed. -/
def decodeBlocks : Nat → List Byte → Option (List Acc)
  | 0, _ => none
  | fuel + 1, l =>
    if l.isEmpty then some []
    else match decodeRp l with
      | none => none
      | some (as, t) => (decodeBlocks fuel t).map (fun r => as ++ r)

/-- The source a PARTIAL comes from: a child, or another plane at the federation's summit. -/
def partialSrc (s : State) (c : RopeCtx) (f : Frame) : Option Nat :=
  match s.devOfFeid c.die f.src with
  | some d => if (s.childrenOf c (s.summitOf c f.addr (chunkOf f)) s.devIndex).contains d then some (65536 + d) else none
  | none =>
    match s.planeOfFeid c.die f.src with
    | some p => if c.fed && s.isTop c f.addr (chunkOf f) && (s.fedPlanes c).contains p then some (65600 + p) else none
    | none => none

/-- A barrier arrival or a PARTIAL of a child enters its chunk. -/
def partialIn (s : State) (c0 : RopeCtx) (f : Frame) : State :=
  let ctx := c0.ctx
  let opno := opnoOf f
  let k := chunkOf f
  let w := f.addr
  match s.partialSrc c0 f with
  | none => s.ropeBad c0
  | some src =>
    match s.openOp c0 false opno w with
    | .inr st => s.breakRope ctx st false none
    | .inl c =>
      match c.op? opno with
      | none => s
      | some o =>
        if opColl w = 8 then
          a2aAdvance 4 ((s.putRope c).onOp ctx opno (fun x => { x with a2a := { x.a2a with arrived := insertNat x.a2a.arrived src } })) ctx opno
        else
        let n := c.lenOf w k
        let sum := c.isSum w
        let blocks := sum && c.exactUp && decide (src < 65600)
        let fmt := if sum then Fmt.fp32 else c.inFmt
        let off := if blocks then 32 * f.frag else f.frag * c.perFrame fmt
        let x? := o.chunk? k
        let want := min (c.perFrame fmt) (n - off) * fmt.bytes
        if c.chunksOf w ≤ k || (n ≤ off && !(n = 0 && off = 0)) || (!blocks && f.len != want) then s.breakRope ctx stREJECT false none
        else if (x?.map (fun x => x.up && c.merging w)).getD false || o.freed.contains k ||
            (x?.map (fun x => x.ins.any (fun y => y.src == src && y.first == off))).getD false then s.ropeBad c0
        else if c.merging w && x?.isNone && c.slots ≤ c.slotsUsed then s.breakRope ctx stOVERFLOW false none
        else if !c.merging w then (s.putRope c).forwardCopy c o k src f.frag off f.first f.last f.payload
        else
          let x : RopeChunk := x?.getD ⟨k, [], 0, false, []⟩
          let base := (c.baseOf w k + off) % 2 ^ 48
          if !sum then
            let y : RopeIn := ⟨src, off, [], (piecesOf fmt.bytes (f.len / fmt.bytes) f.payload).map leNat⟩
            s.putRope (c.putOp (o.insertChunk { x with ins := x.ins ++ [y] }))
          else
            match (if blocks then (decodeBlocks (f.len / 258 + 1) f.payload).map (fun l => l.take (n - off))
                   else some ((piecesOf 4 (f.len / 4) f.payload).map (fun b => Acc.ofVal c.ovf (decodeElem .fp32 (leNat b) 0)))) with
            | none => (s.inc (CRX_CNT_RP_BAD.V c.die)).ropeCheck c 0x05 opno k f.check 0
            | some accs =>
              let got := if blocks then residue c.seed base accs
                else residueVals c.seed base ((piecesOf 4 (f.len / 4) f.payload).map (fun b => decodeElem .fp32 (leNat b) 0))
              let s1 := s.inc (CRX_CNT_RES_VERIFY.V c.die)
              if f.checkKind != 2 || f.check % 2 ^ 61 != got then
                (s1.inc (CRX_CNT_RES_FAIL.V c.die)).ropeCheck c 0x02 opno k (f.check % 2 ^ 61) got
              else
                let y : RopeIn := ⟨src, off, accs, []⟩
                s1.putRope (c.putOp (o.insertChunk { x with ins := x.ins ++ [y], sum := x.sum + got }))

/-- A CONTRIB frame (R331, R336). -/
def contribIn (s : State) (c : RopeCtx) (ingress : Option Nat) (f : Frame) : State :=
  match s.memberOf c ingress f with
  | some r => s.contribute c.ctx r (opnoOf f) f.addr (chunkOf f) f.frag f.first f.last f.payload
  | none =>
    if f.len = 0 && (opColl f.addr = 6 || opColl f.addr = 8) && (s.partialSrc c f).isSome then s.partialIn c f else s.ropeDenied c f

/-- A chunk's partial is settled (R340). -/
def settled (s : State) (ctx : Nat) : State :=
  match s.findRope ctx with
  | some c => s.putRope { c with owed := c.owed - 1 }
  | none => s

/-- A RESULT frame from the parent (R340, R342, R344). -/
def resultIn (s : State) (c0 : RopeCtx) (f : Frame) : State :=
  let ctx := c0.ctx
  let opno := opnoOf f
  let k := chunkOf f
  let w := f.addr
  if s.isTop c0 w k || s.upFeid c0 w k != f.src then s.ropeBad c0 else
  match s.openOp c0 false opno w with
  | .inr st => s.breakRope ctx st false none
  | .inl c =>
    match c.op? opno with
    | none => s
    | some o =>
      if opColl w = 8 then
        (if o.a2a.phase = 2 && o.a2a.arrived.contains 131072 then (s.putRope c).a2aRelease c o else s.ropeBad c0)
      else if opColl w = 7 then s.ropeBad c0
      else
        let fmt := c.downFmt w
        let n := c.lenOf w k
        let off := f.frag * c.perFrame fmt
        let up := ((o.chunk? k).map (fun x => x.up)).getD false
        let dup := ((o.chunk? k).map (fun x => x.down.contains off)).getD false
        if c.chunksOf w ≤ k || (n ≤ off && !(n = 0 && off = 0)) || (c.merging w && !up) || dup || o.freed.contains k then s.ropeBad c0
        else
          let x : RopeChunk := (o.chunk? k).getD ⟨k, [], 0, false, []⟩
          let x1 := { x with down := x.down ++ [off] }
          let o1 := o.insertChunk x1
          let s1 := (s.putRope (c.putOp o1)).passDown (c.putOp o1) o1 k f.frag off f.first f.last f.payload
          let all := (x1.down.map (fun i => min (c.perFrame fmt) (n - i))).sum
          if all < n then s1
          else
            match s1.findRope ctx with
            | none => s1
            | some c1 =>
              if c1.broken then s1
              else if c.merging w then ((s1.settled ctx).sendCredits c1 o1 k false).freeChunk ctx opno k
              else s1.freeChunk ctx opno k

/-- A CREDIT from the parent (R340). -/
def creditIn (s : State) (c : RopeCtx) (f : Frame) : State :=
  let k := chunkOf f
  match c.op? (opnoOf f) with
  | none => s.ropeBad c
  | some o =>
    if o.word != f.addr then s.breakRope c.ctx stREJECT false none
    else if s.isTop c o.word k || s.upFeid c o.word k != f.src || !c.merging o.word || !((o.chunk? k).map (fun x => x.up)).getD false then s.ropeBad c
    else ((s.settled c.ctx).sendCredits c o k true).freeChunk c.ctx o.opno k

/-- A SUMMARY from a child, or from another plane's summit (R336). -/
def summaryIn (s : State) (c0 : RopeCtx) (f : Frame) : State :=
  let src := match s.devOfFeid c0.die f.src with
    | some d => if (s.childrenOf c0 (s.summitOf c0 f.addr 0) s.devIndex).contains d then some d else none
    | none => (s.planeOfFeid c0.die f.src).bind (fun p => if c0.fed && s.isTop c0 f.addr 0 && (s.fedPlanes c0).contains p then some (64 + p) else none)
  match src with
  | none => s.ropeBad c0
  | some d =>
    match s.openOp c0 false (opnoOf f) f.addr with
    | .inr st => s.breakRope c0.ctx st false none
    | .inl c =>
      (s.putRope c).onOp c0.ctx (opnoOf f) (fun o =>
        if o.kids.any (fun y => y.1 == d) then o else { o with kids := o.kids ++ [(d, Summary.ofBytes f.payload)] })

/-- An ABORT of the context's epoch (R350). -/
def abortIn (s : State) (c : RopeCtx) (f : Frame) : State :=
  let from_ := match s.devOfFeid c.die f.src with
    | some d => some (65536 + d)
    | none => s.localRank c f.src
  s.breakRope c.ctx f.tstatus false from_

/-- Who still owes input to an open chunk: the lowest rank, else a child device; nobody where its partial has gone up. -/
def owing (s : State) (c : RopeCtx) (o : RopeOp) (x : RopeChunk) : Option Nat :=
  let w := o.word
  let n := c.lenOf w x.c
  if c.merging w then
    (if x.up then none
     else (s.sources c w x.c).find? (fun src => if n = 0 then !x.has src else decide (x.covered src < n)))
  else
    -- a copied chunk comes from one member, or from the child below which it lies
    let r := if opColl w = 4 then x.c / c.perRank w else opRoot w
    let top := s.summitOf c w x.c
    let from_ := if (c.member r).dev = s.devIndex then some r
      else ((s.childrenOf c top s.devIndex).find? (fun d => (s.treeRoute top (c.member r).dev).contains d)).map (fun d => 65536 + d)
    let per := if s.isTop c w x.c then c.inFmt.bytes else 1
    from_.bind (fun src => if x.covered src / per < n then some src else none)

/-- WATCHDOG_MS passes without progress (R349): the fault names the lowest rank or the child device that still owes input to
the oldest open chunk. -/
def watchdog (s : State) (ctx : Nat) : State :=
  match s.findRope ctx with
  | none => s
  | some c =>
    match c.broken, c.ops.head? with
    | false, some o =>
      let owes : Nat := ((o.chunks.head?.bind (s.owing c o)).getD 0xFFFFFFFF)
      ((s.inc (CRX_CNT_ROPE_WDOG.V c.die)).breakRope ctx stTIMEOUT false none).report
        ⟨clHARNESS, 0x02, 2, stTIMEOUT, unitCrux c.die, c.harness, bytesLE 2 ctx ++ bytesLE 1 o.opno ++ bytesLE 4 owes⟩
    | _, _ => s

end State

/-- A rope frame of the given OP at cluster `c`. -/
def onRope (c : Nat) (f : Frame) (op : Nat) (name : String) (hw : HwCheck) (k : State → RopeCtx → Option Nat → State) (s : State) : Res :=
  if f.kind = 2 ∧ f.op = op then unheld s ((s.takeRope c f k).pumpRope f.ctx hw) else .fault (.illFormed name)

/-- CRX_ROPE_CMD CREATE (R329). -/
def execRopeCreate (src : Src) (n : Fin 16) (ctx : Fin 16384) (s : State) : Res :=
  unheld s (s.guardWrite src (CRX_ROPE_CMD.a n) (fun t => t.writeRopeCmd src n ctx 1))
/-- CRX_ROPE_CMD REFORM (R328). -/
def execRopeReform (src : Src) (n : Fin 16) (ctx : Fin 16384) (s : State) : Res :=
  unheld s (s.guardWrite src (CRX_ROPE_CMD.a n) (fun t => t.writeRopeCmd src n ctx 2))
/-- CRX_ROPE_CMD ABORT (R350). -/
def execRopeAbort (src : Src) (n : Fin 16) (ctx : Fin 16384) (s : State) : Res :=
  unheld s (s.guardWrite src (CRX_ROPE_CMD.a n) (fun t => t.writeRopeCmd src n ctx 3))
/-- CRX_ROPE_CMD DESTROY (R328). -/
def execRopeDestroy (src : Src) (n : Fin 16) (ctx : Fin 16384) (s : State) : Res :=
  unheld s (s.guardWrite src (CRX_ROPE_CMD.a n) (fun t => t.writeRopeCmd src n ctx 4))
/-- The rope command of crux die `n` finishes (R329). -/
def execRopeCommandComplete (n : Fin 16) (s : State) : Res := unheld s (s.ropeCmdDone n)
/-- A CONTRIB at cluster `c`; `hw`: what a check unit found on a chunk that leaves (R336, R393, R395). -/
def execContrib (c : Fin 64) (f : Frame) (hw : HwCheck) (s : State) : Res :=
  onRope c f 1 "CONTRIB" hw (fun t x i => t.contribIn x i f) s
/-- A PARTIAL (R393). -/
def execPartial (c : Fin 64) (f : Frame) (hw : HwCheck) (s : State) : Res :=
  onRope c f 2 "PARTIAL" hw (fun t x _ => t.partialIn x f) s
/-- A RESULT (R340). -/
def execRopeResult (c : Fin 64) (f : Frame) (hw : HwCheck) (s : State) : Res :=
  onRope c f 3 "ROPE_RESULT" hw (fun t x _ => t.resultIn x f) s
/-- A CREDIT (R340). -/
def execCredit (c : Fin 64) (f : Frame) (hw : HwCheck) (s : State) : Res :=
  onRope c f 4 "CREDIT" hw (fun t x _ => t.creditIn x f) s
/-- A SUMMARY (R336). -/
def execSummary (c : Fin 64) (f : Frame) (s : State) : Res :=
  onRope c f 5 "SUMMARY" .none (fun t x _ => t.summaryIn x f) s
/-- A COUNTS frame (R344). -/
def execCounts (c : Fin 64) (f : Frame) (s : State) : Res :=
  onRope c f 6 "COUNTS" .none (fun t x i => t.countsIn x i f) s
/-- An A2A frame (R343). -/
def execA2a (c : Fin 64) (f : Frame) (s : State) : Res :=
  onRope c f 7 "A2A" .none (fun t x i => t.a2aIn x i f) s
/-- A received ABORT (R350). -/
def execRopeAbortFrame (c : Fin 64) (f : Frame) (s : State) : Res :=
  onRope c f 8 "ROPE_ABORT_FRAME" .none (fun t x _ => t.abortIn x f) s
/-- The watchdog of a context expires (R349). -/
def execRopeWatchdog (ctx : Fin 16384) (s : State) : Res := unheld s (s.watchdog ctx)

end Sys2Proof.Machine
end

