-- ==== Sys2Proof/Machine/Dispatch.lean ====
section
/-! DEFINITION. One arm for every command: a direct call of its meaning. -/
namespace Sys2Proof.Machine

def exec (i : Instr) (s : State) : Host.Outcome State Fault Refusal :=
  match i with
  | .registerWrite src fn a v => Sys2Proof.Machine.execRegisterWrite src fn a v s
  | .malformedAccess src fn a write => Sys2Proof.Machine.execMalformedAccess src fn a write s
  | .crossDomainWriteEffect g => Sys2Proof.Machine.execCrossDomainWriteEffect g s
  | .pcsAlign P rtt => Sys2Proof.Machine.execPcsAlign P rtt s
  | .partner P w k bs => Sys2Proof.Machine.execPartner P w k bs s
  | .linkFrameReceive P w k f bw late started => Sys2Proof.Machine.execLinkFrameReceive P w k f bw late started s
  | .ack P w k => Sys2Proof.Machine.execAck P w k s
  | .nak P w k => Sys2Proof.Machine.execNak P w k s
  | .reservedLtype P w => Sys2Proof.Machine.execReservedLtype P w s
  | .ackDelayExpire P => Sys2Proof.Machine.execAckDelayExpire P s
  | .ackTimeoutExpire P part => Sys2Proof.Machine.execAckTimeoutExpire P part s
  | .pcsAlignLoss P part => Sys2Proof.Machine.execPcsAlignLoss P part s
  | .xoffChangeAck P => Sys2Proof.Machine.execXoffChangeAck P s
  | .xoffRepeat P => Sys2Proof.Machine.execXoffRepeat P s
  | .trainingTimeout P => Sys2Proof.Machine.execTrainingTimeout P s
  | .departedTimeout P => Sys2Proof.Machine.execDepartedTimeout P s
  | .portEnable src P on => Sys2Proof.Machine.execPortEnable src P on s
  | .drain src P on => Sys2Proof.Machine.execDrain src P on s
  | .retrain src P spare => Sys2Proof.Machine.execRetrain src P spare s
  | .portAdmit src P => Sys2Proof.Machine.execAdmit src P s
  | .evict src P => Sys2Proof.Machine.execEvict src P s
  | .bond src P on => Sys2Proof.Machine.execBond src P on s
  | .portMode src P mode => Sys2Proof.Machine.execPortMode src P mode s
  | .portIdWrite src P v => Sys2Proof.Machine.execPortIdWrite src P v s
  | .macsecKeyLoad src P v => Sys2Proof.Machine.execMacsecKeyLoad src P v s
  | .udpDatagramReceive P d => Sys2Proof.Machine.execUdpDatagramReceive P d s
  | .arpRequest P ip => Sys2Proof.Machine.execArpRequest P ip s
  | .heldFrameAdmit P c bw => Sys2Proof.Machine.execHeldFrameAdmit P c bw s
  | .steerLand c => Sys2Proof.Machine.execSteerLand c s
  | .directionMapRewrite t => Sys2Proof.Machine.execDirectionMapRewrite t s
  | .fwdTblWrite src n v => Sys2Proof.Machine.execFwdTblWrite src n v s
  | .fwdTblRead src n => Sys2Proof.Machine.execFwdTblRead src n s
  | .queueLimitWrite src n q c v => Sys2Proof.Machine.execQueueLimitWrite src n q c v s
  | .holdCfgWrite src n q v => Sys2Proof.Machine.execHoldCfgWrite src n q v s
  | .frameStart P => Sys2Proof.Machine.execFrameStart P s
  | .gateEntryOpen => Sys2Proof.Machine.execGateEntryOpen s
  | .gateBankSwitch => Sys2Proof.Machine.execGateBankSwitch s
  | .arm src => Sys2Proof.Machine.execArm src s
  | .disarm src => Sys2Proof.Machine.execDisarm src s
  | .gateTblWrite src v => Sys2Proof.Machine.execGateTblWrite src v s
  | .timeSyncSend => Sys2Proof.Machine.execTimeSyncSend s
  | .timeFrame t est t1 t2 t3 t4 => Sys2Proof.Machine.execTimeFrame t est t1 t2 t3 t4 s
  | .ptpMessage o => Sys2Proof.Machine.execPtpMessage o s
  | .ppsInEdge => Sys2Proof.Machine.execPpsInEdge s
  | .hwmClear src n q mask => Sys2Proof.Machine.execHwmClear src n q mask s
  | .memRequestAccept n f => Sys2Proof.Machine.execMemRequestAccept n f s
  | .load n f => Sys2Proof.Machine.execLoad n f s
  | .store n f => Sys2Proof.Machine.execStore n f s
  | .storeQuiet n f => Sys2Proof.Machine.execStoreQuiet n f s
  | .atomic n f => Sys2Proof.Machine.execAtomic n f s
  | .combineWindowEnd g => Sys2Proof.Machine.execCombineWindowEnd g s
  | .groupResponse g => Sys2Proof.Machine.execGroupResponse g s
  | .loadRsp n f => Sys2Proof.Machine.execLoadRsp n f s
  | .storeAck n f => Sys2Proof.Machine.execStoreAck n f s
  | .atomicRsp n f => Sys2Proof.Machine.execAtomicRsp n f s
  | .anchorRelease source => Sys2Proof.Machine.execAnchorRelease source s
  | .memTimeout source tag => Sys2Proof.Machine.execMemTimeout source tag s
  | .carabinerInsert src n all => Sys2Proof.Machine.execCarabinerInsert src n all s
  | .carabinerRemove src n all => Sys2Proof.Machine.execCarabinerRemove src n all s
  | .carabinerRead src n slot => Sys2Proof.Machine.execCarabinerRead src n slot s
  | .bind src h => Sys2Proof.Machine.execBind src h s
  | .start src h => Sys2Proof.Machine.execStart src h s
  | .stop src h => Sys2Proof.Machine.execStop src h s
  | .recover src h => Sys2Proof.Machine.execRecover src h s
  | .unbind src h => Sys2Proof.Machine.execUnbind src h s
  | .quarantine src h => Sys2Proof.Machine.execQuarantine src h s
  | .harnessFault => Sys2Proof.Machine.execHarnessFault s
  | .stableExpire h => Sys2Proof.Machine.execStableExpire h s
  | .harnessStatePropagate h => Sys2Proof.Machine.execHarnessStatePropagate h s
  | .unbindComplete => Sys2Proof.Machine.execUnbindComplete s
  | .quotaLimitWrite src k h v => Sys2Proof.Machine.execQuotaLimitWrite src k h v s
  | .coreBind src k h => Sys2Proof.Machine.execCoreBind src k h s
  | .coreBindComplete n => Sys2Proof.Machine.execCoreBindComplete n s
  | .coreUnbind src k => Sys2Proof.Machine.execCoreUnbind src k s
  | .go src k => Sys2Proof.Machine.execGo src k s
  | .coreHalt src k => Sys2Proof.Machine.execCoreHalt src k s
  | .pflagBind src b h => Sys2Proof.Machine.execPflagBind src b h s
  | .cchWrite src n v => Sys2Proof.Machine.execCchWrite src n v s
  | .jumarCfgWrite src n j v => Sys2Proof.Machine.execJumarCfgWrite src n j v s
  | .jumarReset src n j => Sys2Proof.Machine.execJumarReset src n j s
  | .bivouacEnter k => Sys2Proof.Machine.execBivouacEnter k s
  | .bivouacExit k => Sys2Proof.Machine.execBivouacExit k s
  | .waitLimitExpire k => Sys2Proof.Machine.execWaitLimitExpire k s
  | .coreLoad src n mask img => Sys2Proof.Machine.execCoreLoad src n mask img s
  | .loadLaunch src n mask img => Sys2Proof.Machine.execLoadLaunch src n mask img s
  | .loadComplete n => Sys2Proof.Machine.execLoadComplete n s
  | .mov k d a => Sys2Proof.Machine.execMov k d a s
  | .add k d a b => Sys2Proof.Machine.execAdd k d a b s
  | .sub k d a b => Sys2Proof.Machine.execSub k d a b s
  | .mul k d a b => Sys2Proof.Machine.execMul k d a b s
  | .and k d a b => Sys2Proof.Machine.execAnd k d a b s
  | .or k d a b => Sys2Proof.Machine.execOr k d a b s
  | .xor k d a b => Sys2Proof.Machine.execXor k d a b s
  | .shl k d a b => Sys2Proof.Machine.execShl k d a b s
  | .shr k d a b => Sys2Proof.Machine.execShr k d a b s
  | .sar k d a b => Sys2Proof.Machine.execSar k d a b s
  | .min k d a b => Sys2Proof.Machine.execMin k d a b s
  | .max k d a b => Sys2Proof.Machine.execMax k d a b s
  | .minu k d a b => Sys2Proof.Machine.execMinu k d a b s
  | .maxu k d a b => Sys2Proof.Machine.execMaxu k d a b s
  | .cmp k c d a b => Sys2Proof.Machine.execCmp k c d a b s
  | .ld k d b => Sys2Proof.Machine.execLd k d b s
  | .st k b a => Sys2Proof.Machine.execSt k b a s
  | .time k r d => Sys2Proof.Machine.execTime k r d s
  | .jmp k l => Sys2Proof.Machine.execJmp k l s
  | .br k a l => Sys2Proof.Machine.execBr k a l s
  | .brz k a l => Sys2Proof.Machine.execBrz k a l s
  | .loop k a l => Sys2Proof.Machine.execLoop k a l s
  | .call k l => Sys2Proof.Machine.execCall k l s
  | .ret k => Sys2Proof.Machine.execRet k s
  | .idle k => Sys2Proof.Machine.execIdle k s
  | .halt k a f => Sys2Proof.Machine.execHalt k a f s
  | .nop k => Sys2Proof.Machine.execNop k s
  | .fset k f => Sys2Proof.Machine.execFset k f s
  | .fclr k f => Sys2Proof.Machine.execFclr k f s
  | .ftest k d f => Sys2Proof.Machine.execFtest k d f s
  | .fwait k f v => Sys2Proof.Machine.execFwait k f v s
  | .fwaitClr k f => Sys2Proof.Machine.execFwaitClr k f s
  | .flagWaitSatisfied k => Sys2Proof.Machine.execFlagWaitSatisfied k s
  | .ctake k c n => Sys2Proof.Machine.execCtake k c n s
  | .ctakeNw k c n => Sys2Proof.Machine.execCtakeNw k c n s
  | .creditTakeServed k => Sys2Proof.Machine.execCreditTakeServed k s
  | .cret k c n => Sys2Proof.Machine.execCret k c n s
  | .cread k d c => Sys2Proof.Machine.execCread k d c s
  | .jadd l => Sys2Proof.Machine.execJadd l s
  | .jread k d j => Sys2Proof.Machine.execJread k d j s
  | .jwait k j a => Sys2Proof.Machine.execJwait k j a s
  | .jumarWaitSatisfied k => Sys2Proof.Machine.execJumarWaitSatisfied k s
  | .vreSum k acc d a o => Sys2Proof.Machine.execVreSum k acc d a o s
  | .vreDot k acc d a b o => Sys2Proof.Machine.execVreDot k acc d a b o s
  | .vreAxpy k r d x y o => Sys2Proof.Machine.execVreAxpy k r d x y o s
  | .vreMin k d a o => Sys2Proof.Machine.execVreMin k d a o s
  | .vreMax k d a o => Sys2Proof.Machine.execVreMax k d a o s
  | .vreSumPair k acc dh dl a o => Sys2Proof.Machine.execVreSumPair k acc dh dl a o s
  | .vreDotPair k acc dh dl a b o => Sys2Proof.Machine.execVreDotPair k acc dh dl a b o s
  | .gseGather k m oob d t j o => Sys2Proof.Machine.execGseGather k m oob d t j o s
  | .gseScatter k m oob t x j o => Sys2Proof.Machine.execGseScatter k m oob t x j o s
  | .gseScatadd k m oob t x j o => Sys2Proof.Machine.execGseScatadd k m oob t x j o s
  | .sseSort k desc dk dp key o => Sys2Proof.Machine.execSseSort k desc dk dp key o s
  | .sseTopk k desc n dv dp key o => Sys2Proof.Machine.execSseTopk k desc n dv dp key o s
  | .sseSelect k d m a b o => Sys2Proof.Machine.execSseSelect k d m a b o s
  | .sseCompact k cnt d a m o => Sys2Proof.Machine.execSseCompact k cnt d a m o s
  | .sseFilter k cmp thr cnt d a o => Sys2Proof.Machine.execSseFilter k cmp thr cnt d a o s
  | .sseDedup k cnt d dp a o => Sys2Proof.Machine.execSseDedup k cnt d dp a o s
  | .sseHist k add oob d a o => Sys2Proof.Machine.execSseHist k add oob d a o s
  | .tenMma k add ta tb tmask c a b o => Sys2Proof.Machine.execTenMma k add ta tb tmask c a b o s
  | .cdcCvt k d a o => Sys2Proof.Machine.execCdcCvt k d a o s
  | .cdcMxq k d a o => Sys2Proof.Machine.execCdcMxq k d a o s
  | .cdcUnpack k d a o => Sys2Proof.Machine.execCdcUnpack k d a o s
  | .cdcPack k d a o => Sys2Proof.Machine.execCdcPack k d a o s
  | .cdcSpx k cnt d v m o => Sys2Proof.Machine.execCdcSpx k cnt d v m o s
  | .cdcSpc k cnt v m a o => Sys2Proof.Machine.execCdcSpc k cnt v m a o s
  | .cdcSplit k dh dl a o => Sys2Proof.Machine.execCdcSplit k dh dl a o s
  | .cdcCrc k sd init a o => Sys2Proof.Machine.execCdcCrc k sd init a o s
  | .cdcRes k sd a o => Sys2Proof.Machine.execCdcRes k sd a o s
  | .cdcCrcChk k init a se o => Sys2Proof.Machine.execCdcCrcChk k init a se o s
  | .cdcResChk k a se o => Sys2Proof.Machine.execCdcResChk k a se o s
  | .fdeMove k p d a idx flow opw chunk o => Sys2Proof.Machine.execFdeMove k p d a idx flow opw chunk o s
  | .fdePut k x a flow anchor o => Sys2Proof.Machine.execFdePut k x a flow anchor o s
  | .fdeAmo k sd x a b fn w64 signed ordered anchor flow o => Sys2Proof.Machine.execFdeAmo k sd x a b fn w64 signed ordered anchor flow o s
  | .selectionRecord ctx => Sys2Proof.Machine.execSelectionRecord ctx s
  | .engineComplete k eng j err => Sys2Proof.Machine.execEngineComplete k eng j err s
  | .ropeCreate src n ctx => Sys2Proof.Machine.execRopeCreate src n ctx s
  | .ropeReform src n ctx => Sys2Proof.Machine.execRopeReform src n ctx s
  | .ropeAbort src n ctx => Sys2Proof.Machine.execRopeAbort src n ctx s
  | .ropeDestroy src n ctx => Sys2Proof.Machine.execRopeDestroy src n ctx s
  | .contrib c f hw => Sys2Proof.Machine.execContrib c f hw s
  | .ropePartial c f hw => Sys2Proof.Machine.execPartial c f hw s
  | .ropeResult c f hw => Sys2Proof.Machine.execRopeResult c f hw s
  | .credit c f hw => Sys2Proof.Machine.execCredit c f hw s
  | .summary c f => Sys2Proof.Machine.execSummary c f s
  | .counts c f => Sys2Proof.Machine.execCounts c f s
  | .a2a c f => Sys2Proof.Machine.execA2a c f s
  | .ropeAbortFrame c f => Sys2Proof.Machine.execRopeAbortFrame c f s
  | .ropeWatchdog ctx => Sys2Proof.Machine.execRopeWatchdog ctx s
  | .gateCreate src n ctx => Sys2Proof.Machine.execGateCreate src n ctx s
  | .gateReform src n ctx => Sys2Proof.Machine.execGateReform src n ctx s
  | .gateDestroy src n ctx => Sys2Proof.Machine.execGateDestroy src n ctx s
  | .token c f => Sys2Proof.Machine.execToken c f s
  | .dispatch c f => Sys2Proof.Machine.execDispatch c f s
  | .output c f k => Sys2Proof.Machine.execOutput c f k s
  | .gateTimeout ctx slot => Sys2Proof.Machine.execGateTimeout ctx slot s
  | .fetch c f => Sys2Proof.Machine.execFetch c f s
  | .block c f => Sys2Proof.Machine.execBlock c f s
  | .storeCreate src n ctx => Sys2Proof.Machine.execStoreCreate src n ctx s
  | .storeDestroy src n ctx => Sys2Proof.Machine.execStoreDestroy src n ctx s
  | .heatClear src n => Sys2Proof.Machine.execHeatClear src n s
  | .heatRead src n => Sys2Proof.Machine.execHeatRead src n s
  | .witnessCfgWrite src h v => Sys2Proof.Machine.execWitnessCfgWrite src h v s
  | .sqTail v page t fetched => Sys2Proof.Machine.execSqTail v page t fetched s
  | .cqHead v page h => Sys2Proof.Machine.execCqHead v page h s
  | .slotArm v page mask => Sys2Proof.Machine.execSlotArm v page mask s
  | .ringEnable src j => Sys2Proof.Machine.execRingEnable src j s
  | .flush src j => Sys2Proof.Machine.execFlush src j s
  | .ringDisable src j => Sys2Proof.Machine.execRingDisable src j s
  | .ringNop j => Sys2Proof.Machine.execRingNop j s
  | .dmaToDev j => Sys2Proof.Machine.execDmaToDev j s
  | .dmaFromDev j => Sys2Proof.Machine.execDmaFromDev j s
  | .ringLoad j img => Sys2Proof.Machine.execRingLoad j img s
  | .ringGo j => Sys2Proof.Machine.execRingGo j s
  | .ringHalt j => Sys2Proof.Machine.execRingHalt j s
  | .waitFlag j => Sys2Proof.Machine.execWaitFlag j s
  | .waitFlagTimeout q j => Sys2Proof.Machine.execWaitFlagTimeout q j s
  | .remoteReg j write mixed => Sys2Proof.Machine.execRemoteReg j write mixed s
  | .remoteRegTimeout q j => Sys2Proof.Machine.execRemoteRegTimeout q j s
  | .regRsp => Sys2Proof.Machine.execRegRsp s
  | .poolAlloc j => Sys2Proof.Machine.execPoolAlloc j s
  | .poolFree j => Sys2Proof.Machine.execPoolFree j s
  | .poolQuery j => Sys2Proof.Machine.execPoolQuery j s
  | .ringCommandComplete q j segs => Sys2Proof.Machine.execRingCommandComplete q j segs s
  | .irqCoalExpire j => Sys2Proof.Machine.execIrqCoalExpire j s
  | .sqDb fetched => Sys2Proof.Machine.execSqDb fetched s
  | .cqDb => Sys2Proof.Machine.execCqDb s
  | .submit => Sys2Proof.Machine.execSubmit s
  | .failover => Sys2Proof.Machine.execFailover s
  | .takeover src => Sys2Proof.Machine.execTakeover src s
  | .pcieLinkDown p => Sys2Proof.Machine.execPcieLinkDown p s
  | .pfFlr => Sys2Proof.Machine.execPfFlr s
  | .vfFlr v => Sys2Proof.Machine.execVfFlr v s
  | .vfBind src v w => Sys2Proof.Machine.execVfBind src v w s
  | .regRead => Sys2Proof.Machine.execRegRead s
  | .regWrite => Sys2Proof.Machine.execRegWrite s
  | .bar4Read src o n => Sys2Proof.Machine.execBar4Read src o n s
  | .bar4Write src o bs => Sys2Proof.Machine.execBar4Write src o bs s
  | .scrubVisit store unit o ce ue => Sys2Proof.Machine.execScrubVisit store unit o ce ue s
  | .pitonInstall store unit o readback => Sys2Proof.Machine.execPitonInstall store unit o readback s
  | .harnessCopyReload n h => Sys2Proof.Machine.execHarnessCopyReload n h s
  | .poolCreate src q => Sys2Proof.Machine.execPoolCreate src q s
  | .poolDestroy src q => Sys2Proof.Machine.execPoolDestroy src q s
  | .poolRebuild src q => Sys2Proof.Machine.execPoolRebuild src q s
  | .poolReqWrite src q e v => Sys2Proof.Machine.execPoolReqWrite src q e v s
  | .poolWaitTimeout no => Sys2Proof.Machine.execPoolWaitTimeout no s
  | .cramponInterval dyn cd leak lent dies shares => Sys2Proof.Machine.execCramponInterval dyn cd leak lent dies shares s
  | .ceilingStep => Sys2Proof.Machine.execCeilingStep s
  | .powerCap => Sys2Proof.Machine.execPowerCap s
  | .calibration m => Sys2Proof.Machine.execCalibration m s
  | .droopTrip n => Sys2Proof.Machine.execDroopTrip n s
  | .droopRelease n => Sys2Proof.Machine.execDroopRelease n s
  | .voltageTrim rs => Sys2Proof.Machine.execVoltageTrim rs s
  | .marginAlarmTrim n r => Sys2Proof.Machine.execMarginAlarmTrim n r s
  | .portIdleEnter P => Sys2Proof.Machine.execPortIdleEnter P s
  | .portIdleExit P => Sys2Proof.Machine.execPortIdleExit P s
  | .tenLightEnter c => Sys2Proof.Machine.execTenLightEnter c s
  | .deepEnter c => Sys2Proof.Machine.execDeepEnter c s
  | .hbmSelfRefresh => Sys2Proof.Machine.execHbmSelfRefresh s
  | .wakeToleranceWrite src h v => Sys2Proof.Machine.execWakeToleranceWrite src h v s
  | .coreMhzSet src v => Sys2Proof.Machine.execCoreMhzSet src v s
  | .capWSet src v => Sys2Proof.Machine.execCapWSet src v s
  | .perstNRelease => Sys2Proof.Machine.execPerstNRelease s
  | .bootReset src => Sys2Proof.Machine.execBootReset src s
  | .campComplete w => Sys2Proof.Machine.execCampComplete w s
  | .campTimeout => Sys2Proof.Machine.execCampTimeout s
  | .laserEnRise l => Sys2Proof.Machine.execLaserEnRise l s
  | .laserEnFall => Sys2Proof.Machine.execLaserEnFall s
  | .commit src => Sys2Proof.Machine.execCommit src s
  | .lock src => Sys2Proof.Machine.execLock src s
  | .burnSvn src => Sys2Proof.Machine.execBurnSvn src s
  | .jtagToken src v => Sys2Proof.Machine.execJtagToken src v s
  | .deviceFault ue => Sys2Proof.Machine.execDeviceFault ue s
  | .fence src => Sys2Proof.Machine.execFence src s
  | .clear src => Sys2Proof.Machine.execClear src s
  | .unitOutOfService u => Sys2Proof.Machine.execUnitOutOfService u s
  | .neighbourLost d => Sys2Proof.Machine.execNeighbourLost d s
  | .mpWatchdog => Sys2Proof.Machine.execMpWatchdog s
  | .mpStart same => Sys2Proof.Machine.execMpStart same s
  | .headlessExpire => Sys2Proof.Machine.execHeadlessExpire s
  | .resume src => Sys2Proof.Machine.execResume src s
  | .laserOff src => Sys2Proof.Machine.execLaserOff src s
  | .laserOn src m => Sys2Proof.Machine.execLaserOn src m s
  | .avalancheWindow slot => Sys2Proof.Machine.execAvalancheWindow slot s
  | .fmRequest b from_ => Sys2Proof.Machine.execFmRequest b from_ s
  | .fmAck b from_ => Sys2Proof.Machine.execFmAck b from_ s
  | .eventResend => Sys2Proof.Machine.execEventResend s
  | .fillStart src n => Sys2Proof.Machine.execFillStart src n s
  | .fillAbort src => Sys2Proof.Machine.execFillAbort src s
  | .fillCopyTimeout j => Sys2Proof.Machine.execFillCopyTimeout j s
  | .mark src n dev on => Sys2Proof.Machine.execMark src n dev on s
  | .marginReport temps => Sys2Proof.Machine.execMarginReport temps s
  | .marginNow src temps => Sys2Proof.Machine.execMarginNow src temps s
  | .laneMarginRefresh m rs => Sys2Proof.Machine.execLaneMarginRefresh m rs s
  | .faultRingWrite src v => Sys2Proof.Machine.execFaultRingWrite src v s
  | .snapshotGo src e base count ack => Sys2Proof.Machine.execSnapshotGo src e base count ack s
  | .snapshotComplete e => Sys2Proof.Machine.execSnapshotComplete e s
  | .snapshotRelease src e => Sys2Proof.Machine.execSnapshotRelease src e s
  | .histSample u v h => Sys2Proof.Machine.execHistSample u v h s
  | .summaryPeriod l => Sys2Proof.Machine.execSummaryPeriod l s
  | .whiteoutExit p => Sys2Proof.Machine.execWhiteoutExit p s
  | .ownRelease src r force => Sys2Proof.Machine.execOwnRelease src r force s
  | .syncCfgWrite src n v => Sys2Proof.Machine.execSyncCfgWrite src n v s
  | .syncIoEdge n => Sys2Proof.Machine.execSyncIoEdge n s
  | .ppsOutPulse n => Sys2Proof.Machine.execPpsOutPulse n s
  | .cairnCheckpoint bad => Sys2Proof.Machine.execCairnCheckpoint bad s
  | .ckpt src bad => Sys2Proof.Machine.execCkpt src bad s
  | .rd src => Sys2Proof.Machine.execRd src s
  | .format src bad => Sys2Proof.Machine.execFormat src bad s
  | .cairnProgram bad => Sys2Proof.Machine.execCairnProgram bad s
  | .lifetimeSample temps => Sys2Proof.Machine.execLifetimeSample temps s
  | .pwrgdFall => Sys2Proof.Machine.execPwrgdFall s
  | .perstNAssert => Sys2Proof.Machine.execPerstNAssert s
  | .railDrop => Sys2Proof.Machine.execRailDrop s
  | .refclkLoss => Sys2Proof.Machine.execRefclkLoss s
  | .pciePerst p => Sys2Proof.Machine.execPciePerst p s
  | .thermalAlarm u tj cooled => Sys2Proof.Machine.execThermalAlarm u tj cooled s
  | .thermtrip rail => Sys2Proof.Machine.execThermtrip rail s
  | .sidebandRead a => Sys2Proof.Machine.execSidebandRead a s
  | .alertResponse tj => Sys2Proof.Machine.execAlertResponse tj s
  | .jtagInstruction ir => Sys2Proof.Machine.execJtagInstruction ir s
  | .pcieLinkUp p => Sys2Proof.Machine.execPcieLinkUp p s
  | .pwrgdRise => Sys2Proof.Machine.execPwrgdRise s
  | .vddAonRemoval => Sys2Proof.Machine.execVddAonRemoval s
  | .mpException => Sys2Proof.Machine.execMpException s
  | .inServiceSelfCheck k => Sys2Proof.Machine.execInServiceSelfCheck k s
  | .repeatRecordExpire n feid tag => Sys2Proof.Machine.execRepeatRecordExpire n feid tag s
  | .ropeCommandComplete n => Sys2Proof.Machine.execRopeCommandComplete n s
  | .gateCommandComplete n => Sys2Proof.Machine.execGateCommandComplete n s
  | .poolCommandComplete q => Sys2Proof.Machine.execPoolCommandComplete q s
  | .storeCommandComplete n => Sys2Proof.Machine.execStoreCommandComplete n s
  | .carabinerCommandComplete n => Sys2Proof.Machine.execCarabinerCommandComplete n s
  | .markComplete => Sys2Proof.Machine.execMarkComplete s

end Sys2Proof.Machine
end

