-- ==== Sys2Proof/Machine/Tick.lean ====
section
/-! DEFINITION. One nanosecond with no command waiting: plane time, camp time, the cycle counters of the ports, and what hub 3
sends (DESIGN CHOICE: the table of commands has no row for time that passes; R116, R117, R489, R509, R536, R547, R548). -/
namespace Sys2Proof.Machine
namespace State

/-- Plane time goes on by 1 ns, and by 1 ns more or less each 10,000 ns while an offset is slewed away (R117). -/
def tickTime (s : State) : State :=
  let k := s.time.slewTicks + 1
  if s.time.slew = 0 then s.setReg TIM_NOW.a (Word.ofN (s.now + 1))
  else if k < 10000 then (s.setReg TIM_NOW.a (Word.ofN (s.now + 1))).withTime { s.time with slewTicks := k }
  else
    let d : Int := if 0 < s.time.slew then 1 else -1
    (s.setReg TIM_NOW.a (BitVec.ofInt 64 ((s.now : Int) + 1 + d))).withTime { s.time with slew := s.time.slew - d, slewTicks := 0 }
/-- Time since Camp 0 began, and time of the running camp, waits apart (R489, R509). -/
def tickBoot (s : State) : State :=
  let run := s.rf HUB_CAMP_STS.STATE == 0
  s.withBoot { s.boot with bootNs := s.boot.bootNs + 1, campNs := s.boot.campNs + b2n run }
/-- The stall counters of a port with frames queued (R536). -/
def tickQueue (s : State) (P : Nat) : State :=
  let heads := (List.range 8).filterMap (fun c => (s.queueOf P c).head?.map (fun x => (c, x.frame)))
  let s1 := if heads.all (fun h => s.xoffed P h.1) then s.inc (PRT_CNT_STALL_XOFF.V P) else s
  if heads.any (fun h => !s.xoffed P h.1 && !s.replayRoom P h.2) then s1.inc (PRT_CNT_STALL_REPLAY.V P) else s1
/-- The cycle counters of every port. -/
def tickPorts (s : State) : State :=
  let s1 := ((s.fwd.queues.map (fun x => x.P)).dedup).foldl (fun t P => t.tickQueue P) s
  let s2 := ((s.fwd.holds.filterMap (fun x => x.P)).dedup).foldl (fun t P => t.inc (PRT_CNT_STALL_HOLD.V P)) s1
  (s.ports.filter (fun p => p.2.idle)).foldl (fun t p => t.inc (PRT_CNT_IDLE_NS.V p.1)) s2

/-- One TELE message: its bytes in frames of 4,096. -/
def sendTele (s : State) (op total : Nat) : Nat → List Byte → Nat → State
  | 0, _, _ => s
  | fuel + 1, bs, i =>
    let f := FrameSpec.make
      { cls := 7, kind := 7, dst := s.rf TEL_COLLECT.FEID, src := s.rf HUB_JOIN1.DEVICE_FEID, op := op, frag := i, first := i == 0,
        last := i + 1 == total, time := s.now, payload := bs.take 4096 }
    if bs.isEmpty && i != 0 then s else (s.send 0 f).sendTele op total fuel (bs.drop 4096) (i + 1)
/-- The oldest item of the collector queue is sent (R547, R548). -/
def tickCollector (s : State) : State :=
  match s.fault.coll with
  | [] => s
  | x :: rest =>
    if s.rf TEL_COLLECT.MODE = 0 || s.fault.outUnits.contains (unitHub 3) then s
    else
      let s1 := (s.withFault { s.fault with coll := rest }).woSettle 0
      if s.rf TEL_COLLECT.MODE = 1 then s1.sendTele x.tag ((x.bytes.length + 4095) / 4096) ((x.bytes.length + 4095) / 4096) x.bytes 0
      else s1.emit (.datagram x.tag (bytesLE 1 x.tag ++ bytesLE 1 s.devIndex ++ bytesLE 2 x.bytes.length ++ bytesLE 4 s.planeId ++ x.bytes))
/-- A TELE frame addressed to this device ends at hub 3 (R92). -/
def tickTele (s : State) : State :=
  match s.fwd.steer.find? (fun x => x.place == .tele) with
  | some x => s.withFwd { s.fwd with steer := s.fwd.steer.erase x }
  | none => s
/-- A nanosecond passes; nothing moves while the device is held in reset (R574). -/
def tick (s : State) : State := if s.boot.held then s else s.tickPorts.tickCollector.tickTele.tickTime.tickBoot

end State
end Sys2Proof.Machine
end

