-- ==== Sys2Proof/WellFormed.lean ====
section
/-! DEFINITION. Which commands are well formed: a frame command carries the OP and class of its name, a list has the length
its rule gives, an engine operation has a form Proit accepts. Every other command is well formed as its operands' types say. -/
namespace Sys2Proof
open Machine

/-- The command can occur: R39, R41 and R51 (link frames), R127 (memory frames), R331 (rope frames), R364, R370, R375, R380 (gate
and store frames), R265 to R319 (engine forms), R485, R529, R534, R560 (lists of measurements). -/
def Instr.wf : Instr → Bool
  | .registerWrite _ _ _ _ => true
  | .malformedAccess _ _ _ _ => true
  | .crossDomainWriteEffect _ => true
  | .pcsAlign _ _ => true
  | .partner _ _ _ bs => bs.length == 64
  | .linkFrameReceive _ w _ _ _ _ _ => pfType w == 0
  | .ack _ _ _ => true
  | .nak _ _ _ => true
  | .reservedLtype _ w => decide (4 ≤ pfType w)
  | .ackDelayExpire _ => true
  | .ackTimeoutExpire _ _ => true
  | .pcsAlignLoss _ _ => true
  | .xoffChangeAck _ => true
  | .xoffRepeat _ => true
  | .trainingTimeout _ => true
  | .departedTimeout _ => true
  | .portEnable _ _ _ => true
  | .drain _ _ _ => true
  | .retrain _ _ _ => true
  | .portAdmit _ _ => true
  | .evict _ _ => true
  | .bond _ _ _ => true
  | .portMode _ _ _ => true
  | .portIdWrite _ _ _ => true
  | .macsecKeyLoad _ _ _ => true
  | .udpDatagramReceive _ _ => true
  | .arpRequest _ _ => true
  | .heldFrameAdmit _ _ _ => true
  | .steerLand _ => true
  | .directionMapRewrite _ => true
  | .fwdTblWrite _ _ _ => true
  | .fwdTblRead _ _ => true
  | .queueLimitWrite _ _ _ _ _ => true
  | .holdCfgWrite _ _ _ _ => true
  | .frameStart _ => true
  | .gateEntryOpen => true
  | .gateBankSwitch => true
  | .arm _ => true
  | .disarm _ => true
  | .gateTblWrite _ _ => true
  | .timeSyncSend => true
  | .timeFrame _ _ _ _ _ _ => true
  | .ptpMessage _ => true
  | .ppsInEdge => true
  | .hwmClear _ _ _ _ => true
  | .memRequestAccept _ _ => true
  | .load _ f => f.kind == 1 && f.op == 1
  | .store _ f => f.kind == 1 && f.op == 2
  | .storeQuiet _ f => f.kind == 1 && f.op == 3
  | .atomic _ f => f.kind == 1 && isAtomic f
  | .combineWindowEnd _ => true
  | .groupResponse _ => true
  | .loadRsp _ f => f.kind == 1 && f.op == 129
  | .storeAck _ f => f.kind == 1 && f.op == 130
  | .atomicRsp _ f => f.kind == 1 && f.op == 192
  | .anchorRelease _ => true
  | .memTimeout _ _ => true
  | .carabinerInsert _ _ _ => true
  | .carabinerRemove _ _ _ => true
  | .carabinerRead _ _ _ => true
  | .bind _ _ => true
  | .start _ _ => true
  | .stop _ _ => true
  | .recover _ _ => true
  | .unbind _ _ => true
  | .quarantine _ _ => true
  | .harnessFault => true
  | .stableExpire _ => true
  | .harnessStatePropagate _ => true
  | .unbindComplete => true
  | .quotaLimitWrite _ _ _ _ => true
  | .coreBind _ _ _ => true
  | .coreBindComplete _ => true
  | .coreUnbind _ _ => true
  | .go _ _ => true
  | .coreHalt _ _ => true
  | .pflagBind _ _ _ => true
  | .cchWrite _ _ _ => true
  | .jumarCfgWrite _ _ _ _ => true
  | .jumarReset _ _ _ => true
  | .bivouacEnter _ => true
  | .bivouacExit _ => true
  | .waitLimitExpire _ => true
  | .coreLoad _ _ _ _ => true
  | .loadLaunch _ _ _ _ => true
  | .loadComplete _ => true
  | .mov _ _ _ => true
  | .add _ _ _ _ => true
  | .sub _ _ _ _ => true
  | .mul _ _ _ _ => true
  | .and _ _ _ _ => true
  | .or _ _ _ _ => true
  | .xor _ _ _ _ => true
  | .shl _ _ _ _ => true
  | .shr _ _ _ _ => true
  | .sar _ _ _ _ => true
  | .min _ _ _ _ => true
  | .max _ _ _ _ => true
  | .minu _ _ _ _ => true
  | .maxu _ _ _ _ => true
  | .cmp _ _ _ _ _ => true
  | .ld _ _ _ => true
  | .st _ _ _ => true
  | .time _ _ _ => true
  | .jmp _ _ => true
  | .br _ _ _ => true
  | .brz _ _ _ => true
  | .loop _ _ _ => true
  | .call _ _ => true
  | .ret _ => true
  | .idle _ => true
  | .halt _ _ _ => true
  | .nop _ => true
  | .fset _ _ => true
  | .fclr _ _ => true
  | .ftest _ _ _ => true
  | .fwait _ _ _ => true
  | .fwaitClr _ _ => true
  | .flagWaitSatisfied _ => true
  | .ctake _ _ _ => true
  | .ctakeNw _ _ _ => true
  | .creditTakeServed _ => true
  | .cret _ _ _ => true
  | .cread _ _ _ => true
  | .jadd _ => true
  | .jread _ _ _ => true
  | .jwait _ _ _ => true
  | .jumarWaitSatisfied _ => true
  | .vreSum _ acc d a o => okEng (.vreSum acc d a) o
  | .vreDot _ acc d a b o => okEng (.vreDot acc d a b) o
  | .vreAxpy _ r d x y o => okEng (.vreAxpy r d x y) o
  | .vreMin _ d a o => okEng (.vreMin d a) o
  | .vreMax _ d a o => okEng (.vreMax d a) o
  | .vreSumPair _ acc dh dl a o => okEng (.vreSumPair acc dh dl a) o
  | .vreDotPair _ acc dh dl a b o => okEng (.vreDotPair acc dh dl a b) o
  | .gseGather _ m oob d t i o => okEng (.gseGather m oob d t i) o
  | .gseScatter _ m oob t x i o => okEng (.gseScatter m oob t x i) o
  | .gseScatadd _ m oob t x i o => okEng (.gseScatadd m oob t x i) o
  | .sseSort _ desc dk dp key o => okEng (.sseSort desc dk dp key) o
  | .sseTopk _ desc n dv dp key o => okEng (.sseTopk desc n dv dp key) o
  | .sseSelect _ d m a b o => okEng (.sseSelect d m a b) o
  | .sseCompact _ cnt d a m o => okEng (.sseCompact cnt d a m) o
  | .sseFilter _ cc thr cnt d a o => okEng (.sseFilter cc thr cnt d a) o
  | .sseDedup _ cnt d dp a o => okEng (.sseDedup cnt d dp a) o
  | .sseHist _ acc oob d a o => okEng (.sseHist acc oob d a) o
  | .tenMma _ acc ta tb tmask c a b o => okEng (.tenMma acc ta tb tmask c a b) o
  | .cdcCvt _ d a o => okEng (.cdcCvt d a) o
  | .cdcMxq _ d a o => okEng (.cdcMxq d a) o
  | .cdcUnpack _ d a o => okEng (.cdcUnpack d a) o
  | .cdcPack _ d a o => okEng (.cdcPack d a) o
  | .cdcSpx _ cnt d v m o => okEng (.cdcSpx cnt d v m) o
  | .cdcSpc _ cnt v m a o => okEng (.cdcSpc cnt v m a) o
  | .cdcSplit _ dh dl a o => okEng (.cdcSplit dh dl a) o
  | .cdcCrc _ sd init a o => okEng (.cdcCrc sd init a) o
  | .cdcRes _ sd a o => okEng (.cdcRes sd a) o
  | .cdcCrcChk _ init a se o => okEng (.cdcCrcChk init a se) o
  | .cdcResChk _ a se o => okEng (.cdcResChk a se) o
  | .fdeMove _ p d a idx flow opw chunk o => okEng (.fdeMove p d a idx flow opw chunk) o
  | .fdePut _ x a flow anchor o => okEng (.fdePut x a flow anchor) o
  | .fdeAmo _ sd x a b fn w64 signed ordered anchor flow o => okEng (.fdeAmo sd x a b fn w64 signed ordered anchor flow) o
  | .selectionRecord _ => true
  | .engineComplete _ _ _ _ => true
  | .ropeCreate _ _ _ => true
  | .ropeReform _ _ _ => true
  | .ropeAbort _ _ _ => true
  | .ropeDestroy _ _ _ => true
  | .contrib _ f _ => f.kind == 2 && f.op == 1
  | .ropePartial _ f _ => f.kind == 2 && f.op == 2
  | .ropeResult _ f _ => f.kind == 2 && f.op == 3
  | .credit _ f _ => f.kind == 2 && f.op == 4
  | .summary _ f => f.kind == 2 && f.op == 5
  | .counts _ f => f.kind == 2 && f.op == 6
  | .a2a _ f => f.kind == 2 && f.op == 7
  | .ropeAbortFrame _ f => f.kind == 2 && f.op == 8
  | .ropeWatchdog _ => true
  | .gateCreate _ _ _ => true
  | .gateReform _ _ _ => true
  | .gateDestroy _ _ _ => true
  | .token _ f => f.kind == 3 && f.op == 1
  | .dispatch _ f => f.kind == 4 && f.op == 1
  | .output _ f _ => f.kind == 4 && f.op == 2
  | .gateTimeout _ _ => true
  | .fetch _ f => f.kind == 4 && f.op == 3
  | .block _ f => f.kind == 4 && f.op == 4
  | .storeCreate _ _ _ => true
  | .storeDestroy _ _ _ => true
  | .heatClear _ _ => true
  | .heatRead _ _ => true
  | .witnessCfgWrite _ _ _ => true
  | .sqTail _ _ _ _ => true
  | .cqHead _ _ _ => true
  | .slotArm _ _ _ => true
  | .ringEnable _ _ => true
  | .flush _ _ => true
  | .ringDisable _ _ => true
  | .ringNop _ => true
  | .dmaToDev _ => true
  | .dmaFromDev _ => true
  | .ringLoad _ _ => true
  | .ringGo _ => true
  | .ringHalt _ => true
  | .waitFlag _ => true
  | .waitFlagTimeout _ _ => true
  | .remoteReg _ _ _ => true
  | .remoteRegTimeout _ _ => true
  | .regRsp => true
  | .poolAlloc _ => true
  | .poolFree _ => true
  | .poolQuery _ => true
  | .ringCommandComplete _ _ _ => true
  | .irqCoalExpire _ => true
  | .sqDb _ => true
  | .cqDb => true
  | .submit => true
  | .failover => true
  | .takeover _ => true
  | .pcieLinkDown _ => true
  | .pfFlr => true
  | .vfFlr _ => true
  | .vfBind _ _ _ => true
  | .regRead => true
  | .regWrite => true
  | .bar4Read _ _ _ => true
  | .bar4Write _ _ _ => true
  | .scrubVisit _ _ _ _ _ => true
  | .pitonInstall _ _ _ _ => true
  | .harnessCopyReload _ _ => true
  | .poolCreate _ _ => true
  | .poolDestroy _ _ => true
  | .poolRebuild _ _ => true
  | .poolReqWrite _ _ _ _ => true
  | .poolWaitTimeout _ => true
  | .cramponInterval _ _ _ _ _ _ => true
  | .ceilingStep => true
  | .powerCap => true
  | .calibration _ => true
  | .droopTrip _ => true
  | .droopRelease _ => true
  | .voltageTrim rs => rs.length == 16
  | .marginAlarmTrim _ _ => true
  | .portIdleEnter _ => true
  | .portIdleExit _ => true
  | .tenLightEnter _ => true
  | .deepEnter _ => true
  | .hbmSelfRefresh => true
  | .wakeToleranceWrite _ _ _ => true
  | .coreMhzSet _ _ => true
  | .capWSet _ _ => true
  | .perstNRelease => true
  | .bootReset _ => true
  | .campComplete _ => true
  | .campTimeout => true
  | .laserEnRise _ => true
  | .laserEnFall => true
  | .commit _ => true
  | .lock _ => true
  | .burnSvn _ => true
  | .jtagToken _ _ => true
  | .deviceFault _ => true
  | .fence _ => true
  | .clear _ => true
  | .unitOutOfService _ => true
  | .neighbourLost _ => true
  | .mpWatchdog => true
  | .mpStart _ => true
  | .headlessExpire => true
  | .resume _ => true
  | .laserOff _ => true
  | .laserOn _ _ => true
  | .avalancheWindow _ => true
  | .fmRequest _ _ => true
  | .fmAck _ _ => true
  | .eventResend => true
  | .fillStart _ _ => true
  | .fillAbort _ => true
  | .fillCopyTimeout _ => true
  | .mark _ _ _ _ => true
  | .marginReport temps => temps.length == 12
  | .marginNow _ temps => temps.length == 12
  | .laneMarginRefresh _ rs => rs.length == 100
  | .faultRingWrite _ _ => true
  | .snapshotGo _ _ _ _ _ => true
  | .snapshotComplete _ => true
  | .snapshotRelease _ _ => true
  | .histSample _ _ _ => true
  | .summaryPeriod _ => true
  | .whiteoutExit _ => true
  | .ownRelease _ _ _ => true
  | .syncCfgWrite _ _ _ => true
  | .syncIoEdge _ => true
  | .ppsOutPulse _ => true
  | .cairnCheckpoint _ => true
  | .ckpt _ _ => true
  | .rd _ => true
  | .format _ _ => true
  | .cairnProgram _ => true
  | .lifetimeSample temps => temps.length == 12
  | .pwrgdFall => true
  | .perstNAssert => true
  | .railDrop => true
  | .refclkLoss => true
  | .pciePerst _ => true
  | .thermalAlarm _ _ _ => true
  | .thermtrip _ => true
  | .sidebandRead _ => true
  | .alertResponse _ => true
  | .jtagInstruction _ => true
  | .pcieLinkUp _ => true
  | .pwrgdRise => true
  | .vddAonRemoval => true
  | .mpException => true
  | .inServiceSelfCheck _ => true
  | .repeatRecordExpire _ _ _ => true
  | .ropeCommandComplete _ => true
  | .gateCommandComplete _ => true
  | .poolCommandComplete _ => true
  | .storeCommandComplete _ => true
  | .carabinerCommandComplete _ => true
  | .markComplete => true

/-- Rows whose operands a rule gives a shape beyond their types; a term of any other row is well formed. -/
def Instr.shaped : Instr → Bool
  | .partner .. => true
  | .linkFrameReceive .. => true
  | .reservedLtype .. => true
  | .load .. => true
  | .store .. => true
  | .storeQuiet .. => true
  | .atomic .. => true
  | .loadRsp .. => true
  | .storeAck .. => true
  | .atomicRsp .. => true
  | .vreSum .. => true
  | .vreDot .. => true
  | .vreAxpy .. => true
  | .vreMin .. => true
  | .vreMax .. => true
  | .vreSumPair .. => true
  | .vreDotPair .. => true
  | .gseGather .. => true
  | .gseScatter .. => true
  | .gseScatadd .. => true
  | .sseSort .. => true
  | .sseTopk .. => true
  | .sseSelect .. => true
  | .sseCompact .. => true
  | .sseFilter .. => true
  | .sseDedup .. => true
  | .sseHist .. => true
  | .tenMma .. => true
  | .cdcCvt .. => true
  | .cdcMxq .. => true
  | .cdcUnpack .. => true
  | .cdcPack .. => true
  | .cdcSpx .. => true
  | .cdcSpc .. => true
  | .cdcSplit .. => true
  | .cdcCrc .. => true
  | .cdcRes .. => true
  | .cdcCrcChk .. => true
  | .cdcResChk .. => true
  | .fdeMove .. => true
  | .fdePut .. => true
  | .fdeAmo .. => true
  | .contrib .. => true
  | .ropePartial .. => true
  | .ropeResult .. => true
  | .credit .. => true
  | .summary .. => true
  | .counts .. => true
  | .a2a .. => true
  | .ropeAbortFrame .. => true
  | .token .. => true
  | .dispatch .. => true
  | .output .. => true
  | .fetch .. => true
  | .block .. => true
  | .voltageTrim .. => true
  | .marginReport .. => true
  | .marginNow .. => true
  | .laneMarginRefresh .. => true
  | .lifetimeSample .. => true
  | _ => false

end Sys2Proof
end

