-- ==== Sys2Proof/Safety.lean ====
section
/-! DEFINITION. What claims mean by a state in good form and by a device that holds still in reset. -/
namespace Sys2Proof
open Machine

/-- The pin rows: the commands that act while the device is held in reset, because they are events of pins, of VDD_AON, of the
sideband or of JTAG (R574, R576, R583, R584, R589). -/
def Instr.pin : Instr → Bool
  | .perstNRelease => true
  | .perstNAssert => true
  | .pwrgdRise => true
  | .pwrgdFall => true
  | .railDrop => true
  | .refclkLoss => true
  | .thermalAlarm .. => true
  | .thermtrip .. => true
  | .vddAonRemoval => true
  | .sidebandRead .. => true
  | .alertResponse .. => true
  | .jtagInstruction .. => true
  | .laserEnRise .. => true
  | .laserEnFall => true
  | _ => false

/-- The core, the operation and the options of an engine instruction. -/
def Instr.engineOp : Instr → Option (Fin 512 × EngOp × Opts)
  | .vreSum k acc d a o => some (k, .vreSum acc d a, o)
  | .vreDot k acc d a b o => some (k, .vreDot acc d a b, o)
  | .vreAxpy k r d x y o => some (k, .vreAxpy r d x y, o)
  | .vreMin k d a o => some (k, .vreMin d a, o)
  | .vreMax k d a o => some (k, .vreMax d a, o)
  | .vreSumPair k acc dh dl a o => some (k, .vreSumPair acc dh dl a, o)
  | .vreDotPair k acc dh dl a b o => some (k, .vreDotPair acc dh dl a b, o)
  | .gseGather k m oob d t i o => some (k, .gseGather m oob d t i, o)
  | .gseScatter k m oob t x i o => some (k, .gseScatter m oob t x i, o)
  | .gseScatadd k m oob t x i o => some (k, .gseScatadd m oob t x i, o)
  | .sseSort k desc dk dp key o => some (k, .sseSort desc dk dp key, o)
  | .sseTopk k desc n dv dp key o => some (k, .sseTopk desc n dv dp key, o)
  | .sseSelect k d m a b o => some (k, .sseSelect d m a b, o)
  | .sseCompact k cnt d a m o => some (k, .sseCompact cnt d a m, o)
  | .sseFilter k cc thr cnt d a o => some (k, .sseFilter cc thr cnt d a, o)
  | .sseDedup k cnt d dp a o => some (k, .sseDedup cnt d dp a, o)
  | .sseHist k ad oob d a o => some (k, .sseHist ad oob d a, o)
  | .tenMma k ad ta tb tmask c a b o => some (k, .tenMma ad ta tb tmask c a b, o)
  | .cdcCvt k d a o => some (k, .cdcCvt d a, o)
  | .cdcMxq k d a o => some (k, .cdcMxq d a, o)
  | .cdcUnpack k d a o => some (k, .cdcUnpack d a, o)
  | .cdcPack k d a o => some (k, .cdcPack d a, o)
  | .cdcSpx k cnt d v m o => some (k, .cdcSpx cnt d v m, o)
  | .cdcSpc k cnt v m a o => some (k, .cdcSpc cnt v m a, o)
  | .cdcSplit k dh dl a o => some (k, .cdcSplit dh dl a, o)
  | .cdcCrc k sd init a o => some (k, .cdcCrc sd init a, o)
  | .cdcRes k sd a o => some (k, .cdcRes sd a, o)
  | .cdcCrcChk k init a se o => some (k, .cdcCrcChk init a se, o)
  | .cdcResChk k a se o => some (k, .cdcResChk a se, o)
  | .fdeMove k p d a idx flow opw chunk o => some (k, .fdeMove p d a idx flow opw chunk, o)
  | .fdePut k x a flow anchor o => some (k, .fdePut x a flow anchor, o)
  | .fdeAmo k sd x a b fn w64 signed ordered anchor flow o => some (k, .fdeAmo sd x a b fn w64 signed ordered anchor flow, o)
  | _ => none

namespace Machine

/-- The command runs: `exec` answers a next state, and `Q` holds of it. -/
def runs (c : Instr) (s : State) (Q : State → Prop) : Prop := ∃ t, exec c s = .next t ∧ Q t

/-- The device is not held in reset (R574). -/
abbrev awake (s : State) : Prop := s.boot.held = false

end Machine

namespace Machine.State

/-- The registers list no key twice, in rising order, and memory is canonical. -/
abbrev canon (s : State) : Prop := rising s.regs = true ∧ rising s.ports = true ∧ Memory.wf s.mem.cells = true

/-- The components of a state beside its registers and its queue of commands. -/
inductive Part where
  | sticky | xdom | ports | fwd | gateTbl | time | fault | mem | mfb | hrn | comp | rope | gate | host | cairn | power | tel | boot
  | out | free
  deriving DecidableEq, Repr

/-- Two states agree in a component. -/
def agree (s t : State) : Part → Prop
  | .sticky => t.sticky = s.sticky
  | .xdom => t.xdom = s.xdom
  | .ports => t.ports = s.ports
  | .fwd => t.fwd = s.fwd
  | .gateTbl => t.gateTbl = s.gateTbl
  | .time => t.time = s.time
  | .fault => t.fault = s.fault
  | .mem => t.mem = s.mem
  | .mfb => t.mfb = s.mfb
  | .hrn => t.hrn = s.hrn
  | .comp => t.comp = s.comp
  | .rope => t.rope = s.rope
  | .gate => t.gate = s.gate
  | .host => t.host = s.host
  | .cairn => t.cairn = s.cairn
  | .power => t.power = s.power
  | .tel => t.tel = s.tel
  | .boot => t.boot = s.boot
  | .out => t.out = s.out
  | .free => t.free = s.free

/-- The frame of a command: from `s` to `t` only the components of `changed` and the registers for which `regs` holds may
change; the queue of commands stays. -/
def frame (s t : State) (changed : List Part) (regs : Nat → Prop) : Prop :=
  (∀ p, p ∉ changed → agree s t p) ∧ (∀ a, ¬ regs a → t.reg a = s.reg a) ∧ t.pending = s.pending

/-- What a record on its way to its readers may touch beside the thing it reports: counters' stickies, the fault paths, the fault
ring in memory, Cairn, datagrams (R510 to R512, R549 to R555, R561). -/
def recordParts : List Part := [.sticky, .fault, .mem, .cairn, .out]
/-- The registers it may touch: the hub block's, Cairn's and the telemetry block's. -/
def recordReg (a : Nat) : Prop := a < 0x100000 ∨ (0x340000 ≤ a ∧ a < 0x3C0000)

/-- The access to the register at `a` by path `src` reaches it: R412, R491 and R591 do not turn it away. -/
abbrev opens (s : State) (src : Src) (a : Nat) : Prop := s.accessFails src a = none

/-- The write-only command bits of PRT_PORT_CTL read zero, as R62 has them. -/
abbrev cmdClear (s : State) (P : Nat) : Prop :=
  s.rb (PRT_PORT_CTL.RETRAIN P) = false ∧ s.rb (PRT_PORT_CTL.ADMIT P) = false ∧ s.rb (PRT_PORT_CTL.EVICT P) = false

/-- On crux die `m` the FEID `f` is an endpoint of this plane behind endpoint port `P` of this device (R72, R92). -/
abbrev homePort (s : State) (m f P : Nat) : Prop :=
  ∃ e, s.feidEntry m f = some e ∧ e.field 1 1 = 0 ∧ e.field 2 1 = 0 ∧ e.field 3 6 = s.devIndex ∧ e.field 9 10 = P
/-- On crux die `m` the FEID `f` is this device's own (R72). -/
abbrev homeDevice (s : State) (m f : Nat) : Prop :=
  ∃ e, s.feidEntry m f = some e ∧ e.field 1 1 = 1 ∧ e.field 3 6 = s.devIndex

/-- Core `k` runs, and no instruction in flight is still to write one of its scalar registers (R183). -/
abbrev able (s : State) (k : Nat) : Prop := s.running k = true ∧ s.hazard k (List.range 32) = false
/-- From `s` to `t` core `k` has executed one sequencer instruction that leaves it holding `c` beside its registers, and goes on at
instruction `l`; no other core's scalar registers and no instruction in flight have changed. -/
def stepped (s t : State) (k : Nat) (c : CoreSt) (l : Nat) : Prop :=
  t.cst k = c ∧ t.pc k = l % 2 ^ 32 ∧ t.cstate k = 2 ∧ (∀ j, j ≠ k → t.cst j = s.cst j) ∧ t.comp.flights = s.comp.flights
/-- From `s` to `t` core `k` has faulted at the instruction its SEQ executed (R196, R286): state, status and address; the core keeps
its scalar registers; a harness fault is on its way to hub 0. -/
def faulted (s t : State) (k status addr : Nat) : Prop :=
  t.cstate k = 5 ∧ t.rf (CRX_CORE_FAULT.STATUS k) = status ∧ t.rf (CRX_CORE_FAULT.UNIT k) = 0 ∧
  t.rf (CRX_CORE_FAULT.INSTR k) = s.pc k ∧ t.rf (CRX_CORE_FAULT_ADDR.V k) = addr % 2 ^ 64 ∧ t.pc k = s.pc k ∧
  (t.cst k).sregs = (s.cst k).sregs ∧
  ∃ r, t.fault.raised = s.fault.raised ++ [r] ∧ r.what.sev = 2 ∧ r.what.status = status ∧ r.what.harness = s.coreH k

/-- A rope frame that has landed at device cluster `clu` and whose context takes it: `c`, homed there, not broken, of the frame's
epoch, and which carries a CRC (R327, R331, R336). -/
abbrev ropeTakes (s : State) (clu : Nat) (f : Frame) (c : RopeCtx) (x : Steered) : Prop :=
  s.landed (.cluster clu) f = some x ∧ s.findRope f.ctx = some c ∧ c.cluster = clu ∧ c.broken = false ∧ c.epoch = f.epoch ∧ f.kind = 2 ∧
  f.checkKind = 1
/-- In `t` the context `ctx` has operation `opno` open, as `o`. -/
def opIs (t : State) (ctx opno : Nat) (o : RopeOp) : Prop :=
  ∃ c, t.findRope ctx = some c ∧ c.broken = false ∧ c.op? opno = some o

/-- A frame of class `cls` and harness `h` that crux die `n` sends to FEID `dst` is taken by the queue of endpoint port `P`: the port is
ACTIVE and not draining, serves the harness, and has room (R56, R72, R85, R168, R515). -/
def reaches (s : State) (n h cls dst P : Nat) : Prop :=
  s.homePort n dst P ∧ P < 768 ∧ s.active P = true ∧ s.draining P = false ∧ s.gatewayPort P = false ∧
  (h = 0 ∨ s.rf (PRT_PORT_ID.HARNESS P) = h) ∧ s.rf HUB_FAULT_STS.DEV_STATE ≠ 2 ∧
  ∀ f : Frame, f.cls = cls → f.harness = h → s.takes P f true = true
/-- From `s` to `t` the egress queues gain one frame, at port `P`, of which `Q` holds. -/
def queued (s t : State) (P : Nat) (Q : Frame → Prop) : Prop :=
  ∃ q, t.fwd.queues = s.fwd.queues ++ [q] ∧ q.P = P ∧ Q q.frame

/-- A gate frame that has landed at device cluster `clu` and whose context takes it: `c`, homed there and not broken (R362). -/
abbrev gateTakes (s : State) (clu : Nat) (f : Frame) (c : GateCtx) (x : Steered) : Prop :=
  s.landed (.cluster clu) f = some x ∧ s.findGate f.ctx = some c ∧ c.ctx = f.ctx ∧ c.cluster 0 = clu ∧ c.broken = false
/-- A gate descriptor passes the checks of R361 on crux die `n`, in its order; `old`: the context it would replace. -/
abbrev gateFits (s : State) (n : Nat) (c : GateCtx) (old : Option GateCtx) : Prop :=
  s.grantable c.harness = true ∧ s.gateFieldsOk n c = true ∧ (old = none → s.quotaOk .ctx c.harness 1 = true) ∧
  (∀ p, p < c.passes → (s.cluOwner (c.cluster p) = none ∨ s.cluOwner (c.cluster p) = some c.harness) ∧
    (c.program = true ∨ s.boundIn (c.cluster p) = 0) ∧
    s.rf (CRX_CLU_SRES.BYTES (c.cluster p / 4) (c.cluster p % 4)) - State.gateHas old (c.cluster p) + c.reserve p + s.maxFoot (c.cluster p) ≤ sizeS) ∧
  s.hRange c.harness ((c.word 3).field 0 40) c.allWeights ≠ none ∧ s.hRange c.harness ((c.word 4).field 0 40) (4 * c.e) ≠ none ∧
  (c.predOn = true → s.hRange c.harness ((c.word 5).field 0 40) c.predBytes ≠ none)

/-- From `s` to `t` one NOTE or ALARM has been recorded (R510, R550), where the avalanche table was empty: counted, numbered, and kept
under its key while WINDOW_MS is not 0. -/
def noted (s t : State) (cls code sev st : Nat) : Prop :=
  s.fault.aval = [] →
    t.reg HUB_FAULT_CNT.a = Word.ofN ((s.reg HUB_FAULT_CNT.a).toNat + 1) ∧ t.fault.seqno = s.fault.seqno + 1 ∧
    (s.rf HUB_AVAL_CFG.WINDOW_MS ≠ 0 →
      ∃ e, t.fault.aval = [e] ∧ e.what.cls = cls ∧ e.what.code = code ∧ e.what.sev = sev ∧ e.what.status = st)

/-- The command of entries `es`, with opcode `opc`, stands alone at the submission head of ring pair `i` and may start (R418, R421,
R425); no word of an entry read from H fails to decode. -/
abbrev heads (s : State) (i opc : Nat) (es : List (List Byte)) : Prop :=
  s.ringState i = 1 ∧ s.peek i = .cmd es true ∧ entOp (es.headD []) = opc ∧ s.canStart i es = true ∧ s.sqWait i = es.length ∧
  (∀ r ∈ s.host.runs, r.no < s.host.next) ∧
  (s.rf (RING_CFG.SQ_LOC i) = 0 ∨ ∀ x rs, s.hRange (s.ringH i) (s.rf (RING_SQ_BASE.V i) + 64 * x) 64 = some rs →
    rs.flatMap (fun r => s.mem.badWords (s.ringH i) r.1 r.2) = [])
/-- The commands in progress of `s`, and the one that has just started at the head of ring pair `i`, ended as `e` says. -/
def begun (s : State) (i : Nat) (es : List (List Byte)) (e : Option RingEnd) : List RingRun :=
  s.host.runs ++ [State.makeRun s.host.next i (s.sqHead i) es e]
/-- The registers that show a ring pair's progress. -/
def ringReg (i a : Nat) : Prop := a = RING_STS.a i ∨ a = RING_STS2.a i

/-- From `s` to `t` the running camp has stopped (R489, R492): its state, its report, FAULT_N and SMB_ALERT_N; the commit is undone. -/
def stopped (s t : State) (status reason detail : Nat) : Prop :=
  t.campNow = s.campNow ∧ t.campState = 2 ∧ t.rf HUB_CAMP_STS.STATUS = status ∧ t.rf HUB_CAMP_STS.REASON = reason ∧
  t.rf HUB_CAMP_STS.DETAIL = detail ∧ t.rf (HUB_CAMP_RPT.STATUS s.campNow) = status ∧ t.rf (HUB_CAMP_RPT.REASON s.campNow) = reason ∧
  t.rf (HUB_CAMP_RPT.DETAIL s.campNow) = detail ∧ t.rf HUB_FAULT_STS.FAULT_N = 1 ∧ t.boot.smbAlert = true ∧ t.boot.committed = false
/-- From `s` to `t` the running camp has ended OK, and the next camp is in state `st` (0 running, 1 waiting). -/
def campPassed (s t : State) (st : Nat) : Prop :=
  t.campNow = s.campNow + 1 ∧ t.campState = st ∧ t.boot.campNs = 0 ∧ t.rf (HUB_CAMP_RPT.STATUS s.campNow) = 0 ∧
  t.rf (HUB_CAMP_RPT.REASON s.campNow) = 0 ∧ t.rf (HUB_CAMP_RPT.DURATION_US s.campNow) = min 0xFFFFFF (s.boot.campNs / 1000) ∧
  t.rf HUB_FAULT_STS.FAULT_N = s.rf HUB_FAULT_STS.FAULT_N
/-- The work of a camp that found nothing amiss and no new defect. -/
abbrev cleanWork (w : CampWork) : Prop :=
  w.fail = none ∧ w.defects = [] ∧ w.cairn = none ∧ w.rebuilt = false ∧ w.cores = [] ∧ w.pitons = []

/-- Crux die `n` has a created store `y` of one block and one copy, whose directory entry lies whole at model address `a` and decodes; its
first word is `w0`, valid and not in overflow (R378, R379). -/
abbrev soleEntry (s : State) (n : Nat) (y : Store) (a : Nat) (w0 : Word) : Prop :=
  s.liveStore n = some y ∧ y.repl = 1 ∧ y.layers * y.experts * y.blocks = 1 ∧ a % 8 = 0 ∧
  s.hRange y.h y.dir 16 = some [(a, 16)] ∧ s.hRange y.h y.dir 8 = some [(a, 8)] ∧ s.mem.badWords y.h a 16 = [] ∧
  w0 = Word.ofN (leAt (s.mem.read y.h a 16) 0 8) ∧ w0.field 0 1 = 1 ∧ w0.field 1 1 = 0 ∧ s.rb HUB_FAULT_RING.EN = false
/-- The command bits of HUB_FAULT_CTL read zero, as R532 has them. -/
abbrev faultBitsClear (s : State) : Prop := (s.reg HUB_FAULT_CTL.a).field 0 5 = 0
/-- Units that give a MARGIN record (R529): the crux dies, port dies and stacks in service. -/
def marginUnits (s : State) : List Nat := ((List.range 64).filter (fun u => decide (u < 48 ∨ 52 ≤ u))).filter (fun u => !s.fault.outUnits.contains u)
/-- From `s` to `t` the fault records have been counted and numbered `k` times, where the avalanche table was empty (R510, R550). -/
def recordedTimes (s t : State) (k : Nat) : Prop :=
  s.fault.aval = [] →
    t.reg HUB_FAULT_CNT.a = Word.ofN ((s.reg HUB_FAULT_CNT.a).toNat + k) ∧ t.fault.seqno = s.fault.seqno + k

/-- Held in reset with no pin event waiting: nothing the queue holds can start the device (R574). -/
abbrev asleep (s : State) : Prop := s.boot.held = true ∧ ∀ c ∈ s.pending, c.pin = false

end Machine.State

/-- The write of the register at `a` by path `src` is not applied: a host-access error with status `st`, counted, latched where
nothing is latched, and reported; nothing but what records touch changes (R528). -/
def Machine.turnedAway (c : Instr) (s : Machine.State) (src : Src) (a st : Nat) : Prop :=
  runs c s (fun t =>
    t.reg HUB_HACC_CNT.a = Word.ofN ((s.reg HUB_HACC_CNT.a).toNat + 1) ∧
    (s.rb HUB_HACC_ERR.VALID = false →
      t.rb HUB_HACC_ERR.VALID = true ∧ t.rf HUB_HACC_ERR.OFFSET = a ∧ t.rf HUB_HACC_ERR.STATUS = st ∧
      t.rb HUB_HACC_ERR.WRITE = true ∧ t.rf HUB_HACC_ERR.SOURCE = Machine.State.srcCode src) ∧
    s.frame t Machine.State.recordParts Machine.State.recordReg)

end Sys2Proof
end

