-- ==== Sys2Proof/Certificates/Slice0/Obligations.lean ====
section
/-! DEFINITION. The statements for the provers. -/
open Sys2Proof Sys2Proof.Machine

/-- The model's own step (notes/assumptions 1): the command at the front of the queue is taken and run on the state with the queue's rest; on
an empty queue a nanosecond passes, which leaves the queue empty. -/
def Obligations.StepRunsFront : Prop :=
  (∀ (s : State) (c : Instr) (r : List Instr), step { s with pending := c :: r } = exec c { s with pending := r }) ∧
  (∀ s : State, s.pending = [] → step s = .next s.tick)

/-- R574: while the device is held in reset every command but an event of a pin leaves it exactly as it is. -/
def Obligations.HeldInReset : Prop :=
  ∀ (c : Instr) (s : State), s.boot.held = true → c.pin = false → c.wf = true → exec c s = .next s

/-- R574: a device held in reset, none of whose waiting commands is an event of a pin, stays so. -/
def Obligations.AsleepKept : Prop := ∀ (s t : State), s.asleep → step s = .next t → t.asleep

/-- Every command that can occur is run to a next state, whatever the state; a command whose operands no interface can bring is a fault by
its name, and none is refused. -/
def Obligations.EveryCommandRuns : Prop :=
  ∀ (c : Instr) (s : State),
    (c.wf = true → ∃ t, exec c s = .next t) ∧ (c.wf = false → ∃ m, exec c s = .fault (.illFormed m)) ∧ ∀ r, exec c s ≠ .refused r

/-- R444, R590 (in the sparse form of notes/assumptions 3, the model's): every step keeps the tables of registers and ports and memory in their
canonical form, keys strictly rising. -/
def Obligations.CanonicalFormKept : Prop := ∀ (s t : State), s.canon → step s = .next t → t.canon

/-- R62, R160, R459, R490, R509, R532, R543, R548, R552, R565: what reset leaves. Camp 0 runs, no camp has ended, the device is NORMAL, its
processor up, no port enabled, every harness FREE, every pool OFF, no core bound; the settings stand at the defaults of their tables; no
memory is written, nothing waits, and the state is in canonical form. -/
def Obligations.ResetLeaves : Prop :=
  let s := State.reset
  s.canon ∧ s.pending = [] ∧ s.mem.cells = [] ∧ s.fwd = FwdSt.initial ∧ s.boot.held = false ∧ s.boot.lasers = [] ∧
  s.campNow = 0 ∧ s.campState = 0 ∧ (∀ c, c < 7 → s.rf (HUB_CAMP_RPT.STATUS c) = 0x01) ∧ s.rf HUB_PLANE.LOCKED = 0 ∧
  s.devState = 0 ∧ s.rf HUB_FAULT_STS.MP_STATE = 0 ∧ s.rf HUB_FAULT_CTL.HEADLESS_S = 30 ∧ s.rf HUB_FAULT_CTL.MP_WDOG_MS = 1000 ∧
  s.rf HUB_FAULT_RING.LOG2 = 12 ∧ s.rf HUB_FILL_CTL.TIMEOUT_MS = 10 ∧ s.rf HUB_AVAL_CFG.WINDOW_MS = 100 ∧ s.rf TEL_COLLECT.MODE = 0 ∧
  s.rf CRN_STS.STATE = 0 ∧ s.rf CRN_CFG.CKPT_MIN = 60 ∧ s.rf CRN_CFG.REC_SEV = 1 ∧ s.rf CRN_CFG.REC_RATE = 64 ∧
  (∀ P, P < 1152 → s.pstate P = 0 ∧ s.rf (PRT_PORT_CTL.ENABLE P) = 0) ∧ (∀ h, 1 ≤ h → h < 4096 → s.hrnState h = 0) ∧
  (∀ q, q < 64 → s.rf (POOL_STS.STATE q) = 0) ∧ (∀ k, k < 512 → s.boundCore k = false)

/-- R7: an access to BAR0 that is not 64 bits wide, or not aligned to 64 bits, is not applied: a read completes with zero, a write is
discarded, and both are host-access errors with status REJECT. -/
def Obligations.MalformedAccesses : Prop :=
  ∀ (s : State) (src : Src) (fn : BitVec 8) (a : BitVec 26) (v : Word) (w : Bool) (c : Instr), awake s →
    (c = .malformedAccess src fn a w ∨ (c = .registerWrite src fn a v ∧ w = true ∧ a.toNat % 8 ≠ 0)) →
    runs c s (fun t =>
      t.reg HUB_HACC_CNT.a = Word.ofN ((s.reg HUB_HACC_CNT.a).toNat + 1) ∧
      (s.rb HUB_HACC_ERR.VALID = false →
        t.rb HUB_HACC_ERR.VALID = true ∧ t.rf HUB_HACC_ERR.OFFSET = a.toNat ∧ t.rf HUB_HACC_ERR.STATUS = 0x0E ∧
        t.rb HUB_HACC_ERR.WRITE = w ∧ t.rf HUB_HACC_ERR.FUNC = fn.toNat ∧ t.rf HUB_HACC_ERR.SOURCE = State.srcCode src) ∧
      (w = false → t.out.getLast? = some (.regData 0)) ∧
      s.frame t State.recordParts State.recordReg)

/-- R545: the bin of a value, linear and logarithmic, and its increment. -/
def Obligations.HistogramBins : Prop :=
  ∀ (s : State) (u : Fin 64) (v : Word) (h : Fin 4096) (cfg : Word) (base shift x b : Nat), awake s → s.telUp = true → s.campOk 1 = true →
    cfg = s.histCfg u 0 → cfg.field 0 4 = 2 → base = cfg.field 38 26 → shift = cfg.field 32 6 →
    x = (if v.toNat < base then 0 else (v.toNat - base) / 2 ^ shift) →
    b = (if cfg.field 31 1 = 0 then (if v.toNat < base then 0 else min 63 x) else if x = 0 then 0 else min 63 (Nat.log2 x + 1)) →
    b < 64 ∧
    runs (.histSample u v h) s (fun t =>
      t.reg (TEL_HIST_N.a u) = Word.ofN ((s.reg (TEL_HIST_N.a u)).toNat + 1) ∧
      t.rf (TEL_HIST_BIN.V u b) = min 0xFFFFFFFF (s.rf (TEL_HIST_BIN.V u b) + 1) ∧
      (s.rf (TEL_HIST_BIN.V u b) = 0xFFFFFFFF → TEL_HIST_BIN.a u b ∈ t.sticky) ∧
      (∀ c, c < 64 → c ≠ b → t.reg (TEL_HIST_BIN.a u c) = s.reg (TEL_HIST_BIN.a u c)) ∧
      s.frame t [.sticky] (fun a => a = TEL_HIST_N.a u ∨ a = TEL_HIST_BIN.a u b))

/-- R39, R42: an ACK that passes its link check frees every held frame before LACK where ACK_VALID is set, sets the failed-replay
count to zero where LACK advances, and takes the XOFF bits; no other port, register or component changes.
R41 to R44: the timers that send a standalone ACK with LACK = E, ACK_VALID and the current XOFF bits: an acknowledgement due
for ACK_DELAY, a changed XOFF bit not carried for 20 ns, and XOFF bits repeated while any is set. A port without MACsec.
R42, R43: a NAK, or ACK_TIMEOUT for the oldest held frame, makes a replay while REPLAY_LIMIT is not reached: every frame still
held is sent again in order with its own LSEQ, and the replays are counted. A port without MACsec; the NAK frees nothing. -/
def Obligations.LinkAcknowledgements : Prop :=
  (∀ (s : State) (P : Fin 1152) (w : Word), awake s → s.belayUp P = true → s.oddBonded P = false → (s.port P).idle = false →
    runs (.ack P w .ok) s (fun t =>
      (t.port P).held = (if pfAckValid w then (s.port P).held.filter (fun x =>
          !(decide (1 ≤ (pfLack w + 2 ^ 24 - x.lseq % 2 ^ 24) % 2 ^ 24) && decide ((pfLack w + 2 ^ 24 - x.lseq % 2 ^ 24) % 2 ^ 24 ≤ 2 ^ 23)))
        else (s.port P).held) ∧
      ((t.port P).held.length < (s.port P).held.length → (t.port P).failed = 0 ∧ (t.port P).replayed = false) ∧
      ((t.port P).held.length = (s.port P).held.length → (t.port P).failed = (s.port P).failed) ∧
      (t.port P).xoffRx = pfXoff w ∧ (t.port P).rxExpect = (s.port P).rxExpect ∧ (t.port P).txNext = (s.port P).txNext ∧
      (∀ Q, Q ≠ P.val → t.port Q = s.port Q) ∧ s.frame t [.ports] (fun _ => False))) ∧
  (∀ (s : State) (P : Fin 1152) (c : Instr), awake s → s.belayUp P = true → s.oddBonded P = false →
    s.rb (PRT_PORT_CTL.MACSEC P) = false →
    (c = .ackDelayExpire P ∧ (s.port P).ackDue = true ∨ c = .xoffChangeAck P ∧ (s.port P).xoffDirty = true ∨
      c = .xoffRepeat P ∧ (s.port P).xoffTx ≠ 0) →
    runs c s (fun t =>
      t.out = s.out ++ [.link P (mkPrefix 0 (s.port P).rxExpect 1 (s.port P).xoffTx true) .none] ∧
      t.port P = { s.port P with ackDue := false, unacked := 0, xoffDirty := false } ∧
      (∀ Q, Q ≠ P.val → t.port Q = s.port Q) ∧ s.frame t [.ports, .out] (fun _ => False))) ∧
  (∀ (s : State) (P : Fin 1152) (w : Word) (c : Instr), awake s → s.belayUp P = true → s.oddBonded P = false →
    (s.port P).idle = false → s.rb (PRT_PORT_CTL.MACSEC P) = false → pfAckValid w = false → (s.port P).held ≠ [] →
    (s.port P).failed + 1 < max 1 (s.rf (PRT_BELAY_CFG.REPLAY_LIMIT P)) →
    (c = .nak P w .ok ∨ c = .ackTimeoutExpire P none) →
    runs c s (fun t =>
      t.out = s.out ++ (s.port P).held.map (fun x =>
        .link P (mkPrefix x.lseq (s.port P).rxExpect (match x.body with | .partner _ => 3 | _ => 0) (s.port P).xoffTx true) x.body) ∧
      (t.port P).held = (s.port P).held ∧ (t.port P).replayed = true ∧
      (t.port P).failed = (s.port P).failed + (if (s.port P).replayed then 1 else 0) ∧
      t.reg (PRT_CNT_REPLAY.V P).a = Word.ofN ((s.reg (PRT_CNT_REPLAY.V P).a).toNat + (s.port P).held.length) ∧
      s.frame t [.ports, .out, .sticky] (fun a => a = (PRT_CNT_REPLAY.V P).a)))

/-- R41, R42: a FRAME link frame whose link check passes is compared with E. Equal: it is accepted, E advances by one modulo 2^24 and
an acknowledgement falls due (here on a torus port that is not ACTIVE, which carries no frame on). Ahead: discarded, counted in
PRT_CNT_NAK, one NAK with LACK = E, none within ACK_TIMEOUT of the last for this E. Behind: discarded, counted in PRT_CNT_DUP, an
acknowledgement falls due.
R41, R60: a link frame of any type whose link CRC is wrong is counted in PRT_CNT_LINK_ERR and answered with one NAK with
LACK = E; an ACK, a NAK and a PARTNER message are not acted on. -/
def Obligations.LinkReception : Prop :=
  (∀ (s : State) (P : Fin 1152) (w : Word) (f : Frame) (bw late started : Bool), awake s → s.belayUp P = true →
    s.oddBonded P = false → (s.port P).idle = false → pfType w = 0 → pfAckValid w = false → s.rb (PRT_PORT_CTL.MACSEC P) = false →
    ((pfLseq w = (s.port P).rxExpect → s.active P = false → isTorus P = true → (s.port P).unacked < 31 →
      runs (.linkFrameReceive P w .ok f bw late started) s (fun t =>
        (t.port P).rxExpect = ((s.port P).rxExpect + 1) % 2 ^ 24 ∧ (t.port P).ackDue = true ∧
        (t.port P).unacked = (s.port P).unacked + 1 ∧ t.out = s.out ∧
        t.reg (PRT_CNT_RX_FRAMES.V P).a = Word.ofN ((s.reg (PRT_CNT_RX_FRAMES.V P).a).toNat + 1) ∧ t.fwd = s.fwd)) ∧
     ((s.port P).rxExpect < 2 ^ 24 → 1 ≤ (pfLseq w + 2 ^ 24 - (s.port P).rxExpect) % 2 ^ 24 →
        (pfLseq w + 2 ^ 24 - (s.port P).rxExpect) % 2 ^ 24 ≤ 0x7FFFFF → (s.port P).nak = none →
      runs (.linkFrameReceive P w .ok f bw late started) s (fun t =>
        (t.port P).rxExpect = (s.port P).rxExpect ∧ (t.port P).nak = some ((s.port P).rxExpect, s.now) ∧
        t.out = s.out ++ [.link P (mkPrefix 0 (s.port P).rxExpect 2 (s.port P).xoffTx true) .none] ∧
        t.reg (PRT_CNT_NAK.V P).a = Word.ofN ((s.reg (PRT_CNT_NAK.V P).a).toNat + 1) ∧
        s.frame t [.ports, .out, .sticky] (fun a => a = (PRT_CNT_NAK.V P).a))) ∧
     ((s.port P).rxExpect < 2 ^ 24 → 0x7FFFFF < (pfLseq w + 2 ^ 24 - (s.port P).rxExpect) % 2 ^ 24 →
      runs (.linkFrameReceive P w .ok f bw late started) s (fun t =>
        (t.port P).rxExpect = (s.port P).rxExpect ∧ (t.port P).ackDue = true ∧
        t.reg (PRT_CNT_DUP.V P).a = Word.ofN ((s.reg (PRT_CNT_DUP.V P).a).toNat + 1) ∧
        s.frame t [.ports, .sticky] (fun a => a = (PRT_CNT_DUP.V P).a))))) ∧
  (∀ (s : State) (P : Fin 1152) (w : Word) (bs : List Byte) (c : Instr), awake s → s.belayUp P = true → s.oddBonded P = false →
    (s.port P).idle = false → s.rb (PRT_PORT_CTL.MACSEC P) = false → bs.length = 64 →
    (c = .ack P w .badCrc ∨ c = .nak P w .badCrc ∨ c = .partner P w .badCrc bs) →
    runs c s (fun t =>
      t.out = s.out ++ [.link P (mkPrefix 0 (s.port P).rxExpect 2 (s.port P).xoffTx true) .none] ∧
      (t.port P).held = (s.port P).held ∧ (t.port P).rxExpect = (s.port P).rxExpect ∧
      t.reg (PRT_CNT_LINK_ERR.V P).a = Word.ofN ((s.reg (PRT_CNT_LINK_ERR.V P).a).toNat + 1) ∧
      s.frame t [.ports, .out, .sticky] (fun a => a = (PRT_CNT_LINK_ERR.V P).a)))

/-- R39, R61: a link frame of LTYPE 4 to 7 is discarded and counted in PRT_CNT_MALFORMED; at a UDP-mode port an ARP request for another
address, and a datagram with a wrong IPv4 header checksum, are discarded and counted in PRT_CNT_UDP_DROP; an ARP request for
LOCAL_IPV4 is answered.
R51: a PARTNER message accepted at an endpoint port in PARTNERED that is not in gateway mode is copied into PRT_PARTNER0 to
PRT_PARTNER7; ROLE 1 takes the port to ADMIT_WAIT, ROLE 2, 3 or 4 to MISWIRED, any other leaves it in PARTNERED. -/
def Obligations.LinkDiscardsAndPartners : Prop :=
  (∀ (s : State) (P : Fin 1152), awake s → s.belayUp P = true → s.oddBonded P = false →
    (∀ w : Word, 4 ≤ pfType w → (s.port P).idle = false →
      runs (.reservedLtype P w) s (fun t =>
        t.reg (PRT_CNT_MALFORMED.V P).a = Word.ofN ((s.reg (PRT_CNT_MALFORMED.V P).a).toNat + 1) ∧
        s.frame t [.sticky] (fun a => a = (PRT_CNT_MALFORMED.V P).a))) ∧
    (isTorus P = false → s.rf (PRT_PORT_CTL.MODE P) = 1 →
      (∀ ip : BitVec 32, ip.toNat = s.rf (PRT_UDP_CFG0.LOCAL_IPV4 P) →
        runs (.arpRequest P ip) s (fun t => t.out = s.out ++ [.arp P] ∧ s.frame t [.out] (fun _ => False))) ∧
      (∀ ip : BitVec 32, ip.toNat ≠ s.rf (PRT_UDP_CFG0.LOCAL_IPV4 P) →
        runs (.arpRequest P ip) s (fun t =>
          t.reg (PRT_CNT_UDP_DROP.V P).a = Word.ofN ((s.reg (PRT_CNT_UDP_DROP.V P).a).toNat + 1) ∧
          s.frame t [.sticky] (fun a => a = (PRT_CNT_UDP_DROP.V P).a))) ∧
      (∀ d : Datagram, d.ipCheckOk = false →
        runs (.udpDatagramReceive P d) s (fun t =>
          t.reg (PRT_CNT_UDP_DROP.V P).a = Word.ofN ((s.reg (PRT_CNT_UDP_DROP.V P).a).toNat + 1) ∧
          s.frame t [.sticky] (fun a => a = (PRT_CNT_UDP_DROP.V P).a))) ∧
      (∀ d : Datagram, s.udpGood P d = true → pfType d.pre = 1 → d.body = .none → d.check = .ok → pfAckValid d.pre = false →
        runs (.udpDatagramReceive P d) s (fun t =>
          t.port P = { s.port P with xoffRx := pfXoff d.pre } ∧ s.frame t [.ports] (fun _ => False))))) ∧
  (∀ (s : State) (P : Fin 1152) (w : Word) (bs : List Byte), awake s → isTorus P = false → s.oddBonded P = false →
    s.rf (PRT_PORT_CTL.MODE P) ≠ 2 → (s.port P).idle = false → s.pstate P = 2 → pfLseq w = (s.port P).rxExpect →
    pfAckValid w = false → (s.port P).unacked < 31 → bs.length = 64 →
    runs (.partner P w .ok bs) s (fun t =>
      (∀ i, i < 8 → t.reg (PRT_PARTNER.a P i) = Word.ofN (leAt bs (8 * i) 8)) ∧
      (t.port P).rxExpect = ((s.port P).rxExpect + 1) % 2 ^ 24 ∧ (t.port P).ackDue = true ∧
      t.pstate P = (if (bs.getD 2 0).toNat = 1 then 3
        else if 2 ≤ (bs.getD 2 0).toNat ∧ (bs.getD 2 0).toNat ≤ 4 then 5 else 2) ∧
      s.frame t (.ports :: State.recordParts)
        (fun a => a = PRT_PORT_STS.a P ∨ (∃ i, i < 8 ∧ a = PRT_PARTNER.a P i) ∨ State.recordReg a)))

/-- R51, R53, R55: PCS alignment in TRAINING takes the port to PARTNERED with belay from zero and one PARTNER message held and sent at
LSEQ 0; 500 ms of TRAINING end in FAILED; 1 µs of DEPARTED ends in TRAINING; loss of alignment on a torus port is a link failure:
the frames held are lost and counted, and the port goes to TRAINING. A port without MACsec. -/
def Obligations.PortStateTimers : Prop :=
  ∀ (s : State) (P : Fin 1152) (rtt : Nat), awake s → s.oddBonded P = false → s.rb (PRT_PORT_CTL.MACSEC P) = false →
    (s.pstate P = 1 →
      runs (.pcsAlign P rtt) s (fun t =>
        t.pstate P = 2 ∧ t.rb (PRT_PORT_STS.LINK_UP P) = true ∧ (t.port P).rxExpect = 0 ∧ (t.port P).txNext = 1 ∧
        (t.port P).held = [⟨0, 0, .partner (s.partnerWords P)⟩] ∧ (t.port P).delay = rtt / 2 ∧
        t.out = s.out ++ [.link P (mkPrefix 0 0 3 (s.port P).xoffTx true) (.partner (s.partnerWords P))] ∧
        s.frame t (.ports :: State.recordParts) (fun a => a = PRT_PORT_STS.a P ∨ State.recordReg a)) ∧
      runs (.trainingTimeout P) s (fun t =>
        t.pstate P = 7 ∧ t.rb (PRT_PORT_STS.LINK_UP P) = false ∧
        s.frame t State.recordParts (fun a => a = PRT_PORT_STS.a P ∨ State.recordReg a))) ∧
    (s.pstate P = 6 →
      runs (.departedTimeout P) s (fun t =>
        t.pstate P = 1 ∧ s.frame t State.recordParts (fun a => a = PRT_PORT_STS.a P ∨ State.recordReg a))) ∧
    (s.belayUp P = true → isTorus P = true →
      runs (.pcsAlignLoss P none) s (fun t =>
        t.pstate P = 1 ∧ t.rb (PRT_PORT_STS.LINK_UP P) = false ∧ (t.port P).held = [] ∧ (t.port P).rxExpect = 0 ∧
        (t.port P).txNext = 0 ∧
        t.reg (PRT_CNT_LOST.V P).a = Word.ofN ((s.reg (PRT_CNT_LOST.V P).a).toNat + (s.port P).held.length) ∧
        s.frame t (.ports :: State.recordParts)
          (fun a => a = PRT_PORT_STS.a P ∨ a = (PRT_CNT_LOST.V P).a ∨ State.recordReg a)))

/-- R53, R54, R57, R62: the port control rows where the write is not refused. ENABLE set in DISABLED starts training with belay from
zero, and cleared on a torus port with nothing queued ends in DISABLED; DRAIN is set and cleared on a torus port; RETRAIN of a torus
port that is not ACTIVE trains again, counts the frames held as lost and adds one to RETRAINS up to 255; ADMIT in ADMIT_WAIT after
Camp 6 makes the port ACTIVE and latches HUB_MEMBER_EPOCH.
R54, R62, R65: EVICT takes an ACTIVE endpoint port to DEPARTED and counts the frames held as lost (no frame queued, no request
pending, no rope or gate); BOND on an even port joins the pair while neither is enabled, and on an odd port is refused; MODE 1, and
MODE 2 below 64 gateway ports, are applied and MODE 3 is refused; PRT_PORT_ID is written unless the port is ACTIVE;
PRT_MACSEC_KSEL.LOAD installs the staged words in the selected SA as a whole, and is refused without MACSEC. -/
def Obligations.PortControl : Prop :=
  (∀ (s : State) (src : Src) (P : Fin 1152), awake s → s.opens src (PRT_PORT_CTL.a P) → s.oddBonded P = false →
    s.cmdClear P → s.rf (PRT_PORT_CTL.MODE P) = 0 → s.rb (PRT_PORT_CTL.MACSEC P) = false → s.rb (PRT_PORT_CTL.BOND P) = false →
    (s.rb (PRT_PORT_CTL.ENABLE P) = false → s.pstate P = 0 → s.rb (PRT_PORT_CTL.DRAIN P) = false →
      runs (.portEnable src P true) s (fun t =>
        t.pstate P = 1 ∧ t.rb (PRT_PORT_CTL.ENABLE P) = true ∧ (t.port P).rxExpect = 0 ∧ (t.port P).txNext = 0 ∧
        (t.port P).held = [] ∧
        s.frame t (.ports :: State.recordParts)
          (fun a => a = PRT_PORT_STS.a P ∨ a = PRT_PORT_CTL.a P ∨ State.recordReg a))) ∧
    (isTorus P = true → s.rb (PRT_PORT_CTL.ENABLE P) = true → (∀ x ∈ s.fwd.queues, x.P ≠ P.val) →
      runs (.portEnable src P false) s (fun t =>
        t.pstate P = 0 ∧ t.rb (PRT_PORT_STS.LINK_UP P) = false ∧ t.rb (PRT_PORT_CTL.ENABLE P) = false ∧ (t.port P).held = [])) ∧
    (isTorus P = true → ∀ on : Bool,
      runs (.drain src P on) s (fun t =>
        t.rb (PRT_PORT_CTL.DRAIN P) = on ∧ t.rb (PRT_PORT_CTL.ENABLE P) = s.rb (PRT_PORT_CTL.ENABLE P) ∧
        t.rf (PRT_PORT_CTL.MODE P) = 0 ∧ s.frame t [] (fun a => a = PRT_PORT_CTL.a P))) ∧
    (isTorus P = true → s.pstate P ≠ 0 → s.active P = false →
      runs (.retrain src P none) s (fun t =>
        t.pstate P = 1 ∧ (t.port P).held = [] ∧
        t.rf (PRT_PORT_STS.RETRAINS P) = min 255 (s.rf (PRT_PORT_STS.RETRAINS P) + 1) ∧
        t.reg (PRT_CNT_LOST.V P).a = Word.ofN ((s.reg (PRT_CNT_LOST.V P).a).toNat + (s.port P).held.length))) ∧
    (isTorus P = false → s.pstate P = 3 → s.campsDone = true →
      (s.rf (PRT_PORT_ID.HARNESS P) = 0 ∨
        s.rf (HRN_STS.STATE (s.rf (PRT_PORT_ID.HARNESS P))) ≠ 0 ∧ s.rf (HRN_STS.STATE (s.rf (PRT_PORT_ID.HARNESS P))) ≠ 4) →
      runs (.portAdmit src P) s (fun t =>
        t.pstate P = 4 ∧ t.rf (PRT_PORT_ID.ADMIT_EPOCH P) = s.rf HUB_MEMBER_EPOCH.V ∧ t.ports = s.ports ∧
        s.frame t State.recordParts
          (fun a => a = PRT_PORT_STS.a P ∨ a = PRT_PORT_CTL.a P ∨ a = PRT_PORT_ID.a P ∨ State.recordReg a)))) ∧
  (∀ (s : State) (src : Src) (P : Fin 1152), awake s → s.oddBonded P = false → s.cmdClear P →
    (s.opens src (PRT_PORT_CTL.a P) → isTorus P = false → s.rb (PRT_PORT_CTL.MACSEC P) = false →
      (s.active P = true → s.rf (PRT_PORT_CTL.MODE P) = 0 → (∀ x ∈ s.fwd.queues, x.P ≠ P.val) → s.mfb.pends = [] →
        s.rope.ctxs = [] → s.gate.ctxs = [] →
        runs (.evict src P) s (fun t =>
          t.pstate P = 6 ∧ (t.port P).held = [] ∧
          t.reg (PRT_CNT_LOST.V P).a = Word.ofN ((s.reg (PRT_CNT_LOST.V P).a).toNat + (s.port P).held.length))) ∧
      (P.val % 2 = 0 → s.rf (PRT_PORT_CTL.MODE P) = 0 → s.rb (PRT_PORT_CTL.ENABLE P) = false →
        s.rb (PRT_PORT_CTL.ENABLE (P.val + 1)) = false → s.rb (PRT_PORT_CTL.DRAIN P) = false →
        runs (.bond src P true) s (fun t =>
          t.rb (PRT_PORT_CTL.BOND P) = true ∧ t.rf (PRT_PORT_CTL.CLASS_MASK P) % 64 = s.rf (PRT_PORT_CTL.CLASS_MASK P) % 64 ∧
          s.frame t [] (fun a => a = PRT_PORT_CTL.a P))) ∧
      (P.val % 2 = 1 → turnedAway (.bond src P true) s src (PRT_PORT_CTL.a P) 0x0E) ∧
      (∀ m : Fin 4, m.val ≠ 3 → (m.val = 2 → s.gatewayCount < 64) → s.rb (PRT_PORT_CTL.DRAIN P) = false →
        s.rb (PRT_PORT_CTL.BOND P) = false →
        runs (.portMode src P m) s (fun t =>
          t.rf (PRT_PORT_CTL.MODE P) = m.val ∧ t.rb (PRT_PORT_CTL.ENABLE P) = s.rb (PRT_PORT_CTL.ENABLE P) ∧
          s.frame t [] (fun a => a = PRT_PORT_CTL.a P))) ∧
      turnedAway (.portMode src P 3) s src (PRT_PORT_CTL.a P) 0x0E) ∧
    (s.opens src (PRT_PORT_ID.a P) → ∀ v : Word,
      (s.active P = false →
        runs (.portIdWrite src P v) s (fun t =>
          t.rf (PRT_PORT_ID.FEID P) = v.field 0 18 ∧ t.rf (PRT_PORT_ID.HARNESS P) = v.field 18 12 ∧
          t.rf (PRT_PORT_ID.ADMIT_EPOCH P) = s.rf (PRT_PORT_ID.ADMIT_EPOCH P) ∧ s.frame t [] (fun a => a = PRT_PORT_ID.a P))) ∧
      (s.active P = true → turnedAway (.portIdWrite src P v) s src (PRT_PORT_ID.a P) 0x0E)) ∧
    (s.opens src (PRT_MACSEC_KSEL.a P) → ∀ v : Word, v.field 2 1 = 1 →
      (s.rb (PRT_PORT_CTL.MACSEC P) = true → (s.port P).sas.length = 4 →
        runs (.macsecKeyLoad src P v) s (fun t =>
          ((t.port P).sas.getD (v.field 0 2) ⟨[], 0, 0⟩).key = (s.port P).staging.take 4 ∧
          ((t.port P).sas.getD (v.field 0 2) ⟨[], 0, 0⟩).ssci = ((s.port P).staging.getD 5 0).field 32 32 ∧
          t.rf (PRT_MACSEC_KSEL.SA P) = v.field 0 2 ∧ s.frame t [.ports] (fun a => a = PRT_MACSEC_KSEL.a P))) ∧
      (s.rb (PRT_PORT_CTL.MACSEC P) = false → turnedAway (.macsecKeyLoad src P v) s src (PRT_MACSEC_KSEL.a P) 0x0E)))

/-- R72, R89, R93, R98, R99: a write of FWD_TBL_DATA writes the selected entry of this crux die alone, or of all sixteen under ALL; word 0
of a multicast group is staged and takes effect with word 1; INDEX advances under AUTOINC, WORD before INDEX for a group; a write to
the direction map, outside the table, or of word 1 under ALL is refused.
R98, R99: a read of FWD_TBL_DATA returns this crux die's copy of the selected entry and, without AUTOINC, changes nothing else.
R85, R98, R99: before LOCK, FWD_QLIMIT takes a limit that keeps the limits, pools and scratch of the crux die within 393,216 cells,
and is refused otherwise; FWD_HOLD_CFG takes XOFF_OFF < XOFF_ON < HOLD_CELLS less 34 on an endpoint port (102 on a torus port), and is
refused otherwise; after LOCK a write that would change either is refused with DENIED.
R81: when torus port t is not eligible, every map entry of its direction that names it, on every crux die, comes to name
E[i mod |E|], E the eligible ports of the direction in ascending order; every other entry stays.
R86, R94: the oldest held frame of an ingress port and class, where its one egress queue (here a torus port's) takes it, joins the
end of that queue, and XOFF of the class is clear once the held cells are at XOFF_OFF or below; the oldest steered frame of a cluster
lands where its checks of R47 pass and BAD is clear, and is discarded where BAD is set. -/
def Obligations.ForwardingTables : Prop :=
  (∀ (s : State) (src : Src) (n : Fin 16) (v : Word), awake s → s.opens src (FWD_TBL_DATA.a n) →
    (s.rf (FWD_TBL_CTL.TABLE n) = 0 → s.rf (FWD_TBL_CTL.INDEX n) < 262144 → s.rb (FWD_TBL_CTL.ALL n) = false →
      runs (.fwdTblWrite src n v) s (fun t =>
        t.feidRaw n (s.rf (FWD_TBL_CTL.INDEX n)) = v ∧
        (∀ m f, f < 262144 → (m ≠ n.val ∨ f ≠ s.rf (FWD_TBL_CTL.INDEX n)) → t.feidRaw m f = s.feidRaw m f) ∧
        t.rf (FWD_TBL_CTL.INDEX n) = (s.rf (FWD_TBL_CTL.INDEX n) + (if s.rb (FWD_TBL_CTL.AUTOINC n) then 1 else 0)) % 2 ^ 20 ∧
        s.frame t [.fwd] (fun a => a = FWD_TBL_CTL.a n))) ∧
    (s.rf (FWD_TBL_CTL.TABLE n) = 0 → s.rf (FWD_TBL_CTL.INDEX n) < 262144 → s.rb (FWD_TBL_CTL.ALL n) = true →
      runs (.fwdTblWrite src n v) s (fun t => ∀ m, m < 16 → t.feidRaw m (s.rf (FWD_TBL_CTL.INDEX n)) = v)) ∧
    (s.rf (FWD_TBL_CTL.TABLE n) = 1 → s.rf (FWD_TBL_CTL.INDEX n) < 16384 → s.rb (FWD_TBL_CTL.ALL n) = false →
      runs (.fwdTblWrite src n v) s (fun t =>
        (s.rf (FWD_TBL_CTL.WORD n) = 0 → ∀ g w, t.mcastWord n g w = s.mcastWord n g w) ∧
        (s.rf (FWD_TBL_CTL.WORD n) = 1 →
          t.mcastWord n (s.rf (FWD_TBL_CTL.INDEX n)) 1 = v ∧
          t.mcastWord n (s.rf (FWD_TBL_CTL.INDEX n)) 0 =
            sparseGet (fun _ => 0#64) s.fwd.mstage (n * 16384 + s.rf (FWD_TBL_CTL.INDEX n))) ∧
        (s.rb (FWD_TBL_CTL.AUTOINC n) = true → s.rf (FWD_TBL_CTL.WORD n) = 0 →
          t.rf (FWD_TBL_CTL.WORD n) = 1 ∧ t.rf (FWD_TBL_CTL.INDEX n) = s.rf (FWD_TBL_CTL.INDEX n)))) ∧
    (s.rf (FWD_TBL_CTL.TABLE n) = 2 → s.rf (FWD_TBL_CTL.INDEX n) < 16384 → s.rb (FWD_TBL_CTL.ALL n) = false →
      runs (.fwdTblWrite src n v) s (fun t => t.homeRaw n (s.rf (FWD_TBL_CTL.INDEX n)) = v)) ∧
    ((s.rf (FWD_TBL_CTL.TABLE n) = 3 ∨ s.rf (FWD_TBL_CTL.TABLE n) = 0 ∧ 262144 ≤ s.rf (FWD_TBL_CTL.INDEX n) ∨
        s.rf (FWD_TBL_CTL.TABLE n) = 1 ∧ s.rf (FWD_TBL_CTL.WORD n) = 1 ∧ s.rb (FWD_TBL_CTL.ALL n) = true) →
      turnedAway (.fwdTblWrite src n v) s src (FWD_TBL_DATA.a n) 0x0E)) ∧
  (∀ (s : State) (src : Src) (n : Fin 16), awake s → s.opens src (FWD_TBL_DATA.a n) → s.rf (FWD_TBL_CTL.INDEX n) < 1536 →
    runs (.fwdTblRead src n) s (fun t =>
      t.out = s.out ++ [.regData (
        if s.rf (FWD_TBL_CTL.TABLE n) = 0 then s.feidRaw n (s.rf (FWD_TBL_CTL.INDEX n))
        else if s.rf (FWD_TBL_CTL.TABLE n) = 1 then s.mcastWord n (s.rf (FWD_TBL_CTL.INDEX n)) (s.rf (FWD_TBL_CTL.WORD n))
        else if s.rf (FWD_TBL_CTL.TABLE n) = 2 then s.homeRaw n (s.rf (FWD_TBL_CTL.INDEX n))
        else Word.ofN (s.dirEntry n (s.rf (FWD_TBL_CTL.INDEX n) / 256) (s.rf (FWD_TBL_CTL.INDEX n) % 256)))] ∧
      s.frame t [.out] (fun a => s.rb (FWD_TBL_CTL.AUTOINC n) = true ∧ a = FWD_TBL_CTL.a n) ∧
      (s.rb (FWD_TBL_CTL.AUTOINC n) = true → s.rf (FWD_TBL_CTL.TABLE n) ≠ 1 →
        t.rf (FWD_TBL_CTL.INDEX n) = s.rf (FWD_TBL_CTL.INDEX n) + 1))) ∧
  (∀ (s : State) (src : Src) (n : Fin 16) (q : Fin 72) (c : Fin 8) (v : Word), awake s →
    (s.opens src (FWD_QLIMIT.a n q c) →
      (s.locked = false →
        s.limitSum n - s.rf (FWD_QLIMIT.CELLS n q c) + v.field 0 20 + 18432 ≤ 393216 →
        runs (.queueLimitWrite src n q c v) s (fun t =>
          t.rf (FWD_QLIMIT.CELLS n q c) = v.field 0 20 ∧ s.frame t [] (fun a => a = FWD_QLIMIT.a n q c))) ∧
      (s.locked = false →
        393216 < s.limitSum n - s.rf (FWD_QLIMIT.CELLS n q c) + v.field 0 20 + 18432 →
        turnedAway (.queueLimitWrite src n q c v) s src (FWD_QLIMIT.a n q c) 0x0E) ∧
      (s.locked = true → s.rf (FWD_QLIMIT.CELLS n q c) ≠ v.field 0 20 →
        turnedAway (.queueLimitWrite src n q c v) s src (FWD_QLIMIT.a n q c) 0x08)) ∧
    (s.opens src (FWD_HOLD_CFG.a n q) →
      (s.locked = false → v.field 24 12 < v.field 12 12 → v.field 12 12 + (if q.val < 48 then 34 else 102) < v.field 0 12 →
        s.limitSum n - s.rf (FWD_HOLD_CFG.HOLD_CELLS n q) + v.field 0 12 + 18432 ≤ 393216 →
        runs (.holdCfgWrite src n q v) s (fun t =>
          t.rf (FWD_HOLD_CFG.HOLD_CELLS n q) = v.field 0 12 ∧ t.rf (FWD_HOLD_CFG.XOFF_ON n q) = v.field 12 12 ∧
          t.rf (FWD_HOLD_CFG.XOFF_OFF n q) = v.field 24 12 ∧ s.frame t [] (fun a => a = FWD_HOLD_CFG.a n q))) ∧
      (s.locked = false → v.field 12 12 ≤ v.field 24 12 →
        turnedAway (.holdCfgWrite src n q v) s src (FWD_HOLD_CFG.a n q) 0x0E) ∧
      (s.locked = true → (s.reg (FWD_HOLD_CFG.a n q)).field 0 36 ≠ v.field 0 36 →
        turnedAway (.holdCfgWrite src n q v) s src (FWD_HOLD_CFG.a n q) 0x08))) ∧
  (∀ (s : State) (t : Fin 384), awake s → s.eligible (768 + t.val) = false →
    s.eligiblePorts (t.val % 24 / 4) ≠ [] →
    runs (.directionMapRewrite t) s (fun u =>
      (∀ n i, n < 16 → i < 256 →
        u.dirEntry n (t.val % 24 / 4) i =
          if s.dirEntry n (t.val % 24 / 4) i = t.val
          then (s.eligiblePorts (t.val % 24 / 4)).getD (i % (s.eligiblePorts (t.val % 24 / 4)).length) 0
          else s.dirEntry n (t.val % 24 / 4) i) ∧
      (∀ n d i, n < 16 → d < 6 → i < 256 → d ≠ t.val % 24 / 4 → u.dirEntry n d i = s.dirEntry n d i) ∧
      s.frame u [.fwd, .ports, .sticky] (fun a => ∃ n, n < 16 ∧ a = (FWD_CNT_REROUTE.V n).a))) ∧
  ((∀ (s : State) (P : Fin 1152) (c : Fin 8) (x : HeldIn) (Q : Nat), awake s →
    s.fwd.holds.find? (fun y => y.P == some P.val && y.cls == c.val) = some x → x.dests = [.port Q] → isTorus Q = true →
    s.takes Q x.frame true = true →
    runs (.heldFrameAdmit (some P) c true) s (fun t =>
      t.fwd.holds = s.fwd.holds.eraseP (fun y => y.P == some P.val && y.cls == c.val) ∧
      (∃ tr, t.fwd.queues = s.fwd.queues ++ [⟨Q, x.frame.cls, x.frame, State.cellsOf x.frame, some P.val, s.now, tr, x.cut⟩]) ∧
      (t.heldCells P c ≤ t.rf (FWD_HOLD_CFG.XOFF_OFF (dieOf P) (idxOf P)) → (t.port P).xoffTx / 2 ^ c.val % 2 = 0) ∧
      s.frame t [.fwd, .ports] (fun a => a = SCH_QSTAT.a (dieOf Q) (idxOf Q) x.frame.cls))) ∧
  (∀ (s : State) (c : Fin 64) (x : Steered), awake s →
    s.fwd.steer.find? (fun y => y.place == .cluster c.val) = some x →
    (x.frame.bad = false → x.frame.checksOk = true →
      runs (.steerLand c) s (fun t =>
        t.fwd.inbox = s.fwd.inbox ++ [x] ∧ t.fwd.steer = s.fwd.steer.eraseP (fun y => y.place == .cluster c.val) ∧
        t.fwd.queues = s.fwd.queues ∧ s.frame t [.fwd] (fun _ => False))) ∧
    (x.frame.bad = true →
      runs (.steerLand c) s (fun t =>
        t.fwd.inbox = s.fwd.inbox ∧ t.fwd.steer = s.fwd.steer.eraseP (fun y => y.place == .cluster c.val) ∧
        s.frame t [.fwd] (fun _ => False)))))

/-- R40, R83, R103, R105: a port that may send, with no gate schedule applied and the XOFF bit of the class clear, starts the oldest C0
frame where it has one, and the head of the one other class with frames where it has none: the frame leaves its queue, takes the next
LSEQ, is held for replay and goes out. A port without MACsec and with room in its replay buffer. -/
def Obligations.FrameStarts : Prop :=
  ∀ (s : State) (P : Fin 1152) (x : Queued), awake s → s.maySend P = true → s.gateOn = false →
    s.rb (PRT_PORT_CTL.MACSEC P) = false → s.replayRoom P x.frame = true → s.xoffed P x.cls = false → x.P = P.val →
    (x.cls = 0 ∧ (s.queueOf P 0).head? = some x ∨
      1 ≤ x.cls ∧ x.cls ≤ 6 ∧ (s.queueOf P x.cls).head? = some x ∧ (∀ y ∈ s.fwd.queues, y.P = P.val → y.cls = x.cls)) →
    runs (.frameStart P) s (fun t =>
      t.fwd.queues = s.fwd.queues.erase x ∧
      (t.port P).held = (s.port P).held ++ [⟨(s.port P).txNext, x.cls, .frame x.frame⟩] ∧
      (t.port P).txNext = ((s.port P).txNext + 1) % 2 ^ 24 ∧
      t.out = s.out ++ [.link P (mkPrefix (s.port P).txNext (s.port P).rxExpect 0 (s.port P).xoffTx true) (.frame x.frame)] ∧
      t.reg (PRT_CNT_TX_FRAMES.V P).a = Word.ofN ((s.reg (PRT_CNT_TX_FRAMES.V P).a).toNat + 1))

/-- R117, R120: at the opening edge of a gate entry a device whose estimate is above half of TIM_GUARD puts every port in fallback and sets
DRIFT; a torus port whose ACTIVE partner reported an estimate above half of TIM_GUARD, and has been heard of within 64 intervals, goes
into fallback; a pending step moves plane time and keeps every port in fallback.
R111, R112: an armed switch makes the inactive bank active, clears PENDING, and sets TIM_GATE_BASE to TIM_GATE_SWITCH where no schedule
is applied, and otherwise to the first cycle boundary of the active bank at or after it; without one nothing changes. ARM sets PENDING,
and is refused while it is set; DISARM clears it. -/
def Obligations.GateEdgesAndBanks : Prop :=
  (∀ (s : State), awake s → s.gateOn = true → s.fwd.queues = [] →
    (s.time.step = none → s.rf TIM_GUARD.V < 2 * s.rf TIM_OFFSET_EST.V →
      runs .gateEntryOpen s (fun t => t.time.own = true ∧ t.rb TIM_STS.DRIFT = true ∧ t.now = s.now ∧ t.fwd = s.fwd)) ∧
    (∀ p : Fin 384, s.time.step = none → s.active (768 + p.val) = true → s.rf TIM_GUARD.V < 2 * (s.port (768 + p.val)).pEst →
      s.now - (s.port (768 + p.val)).pSeen ≤ 64 * (s.rf TIM_SYNC_CFG.INTERVAL * 1000) →
      runs .gateEntryOpen s (fun t => (t.port (768 + p.val)).fallback = true)) ∧
    (∀ o : Nat, s.time.step = some (o : Int) → s.now + o < 2 ^ 64 →
      runs .gateEntryOpen s (fun t => t.now = s.now + o ∧ t.time.step = none ∧ t.time.stepFb = true))) ∧
  (∀ (s : State), awake s →
    (s.rb TIM_GATE_CTL.PENDING = true →
      runs .gateBankSwitch s (fun t =>
        t.rf TIM_GATE_CTL.ACTIVE_BANK = 1 - s.rf TIM_GATE_CTL.ACTIVE_BANK ∧ t.rb TIM_GATE_CTL.PENDING = false ∧
        t.time.guardAt = s.rf TIM_GUARD.V ∧ t.gateTbl = s.gateTbl ∧
        (s.gateOn = false → t.rf TIM_GATE_BASE.V = s.rf TIM_GATE_SWITCH.V) ∧
        (s.gateOn = true → s.rf TIM_GATE_BASE.V < s.rf TIM_GATE_SWITCH.V →
          s.rf TIM_GATE_SWITCH.V + s.gatePeriod s.gateBank < 2 ^ 64 →
          (∃ k, t.rf TIM_GATE_BASE.V = s.rf TIM_GATE_BASE.V + k * s.gatePeriod s.gateBank) ∧
          s.rf TIM_GATE_SWITCH.V ≤ t.rf TIM_GATE_BASE.V ∧
          t.rf TIM_GATE_BASE.V < s.rf TIM_GATE_SWITCH.V + s.gatePeriod s.gateBank))) ∧
    (s.rb TIM_GATE_CTL.PENDING = false → runs .gateBankSwitch s (fun t => t = s)) ∧
    (∀ src : Src, s.opens src TIM_GATE_CTL.a →
      (s.rb TIM_GATE_CTL.PENDING = false →
        runs (.arm src) s (fun t => t.rb TIM_GATE_CTL.PENDING = true ∧
          t.rf TIM_GATE_CTL.ACTIVE_BANK = s.rf TIM_GATE_CTL.ACTIVE_BANK ∧ s.frame t [] (fun a => a = TIM_GATE_CTL.a))) ∧
      (s.rb TIM_GATE_CTL.PENDING = true → turnedAway (.arm src) s src TIM_GATE_CTL.a 0x0E) ∧
      runs (.disarm src) s (fun t => t.rb TIM_GATE_CTL.PENDING = false ∧
        t.rf TIM_GATE_CTL.ACTIVE_BANK = s.rf TIM_GATE_CTL.ACTIVE_BANK ∧ s.frame t [] (fun a => a = TIM_GATE_CTL.a))))

/-- R109, R111, R126: a write of TIM_GATE_TBL_DATA writes the selected word of an entry of the inactive bank and advances WORD, then INDEX,
under AUTOINC; it is refused for the active bank, while a switch is pending, and for a DURATION below 1,000 ns. R123: a write of
SCH_HWM_CLR sets the depth mark of a selected queue to its present depth and its residence mark to zero. -/
def Obligations.GateTables : Prop :=
  ∀ (s : State) (src : Src) (v : Word), awake s →
    (s.opens src TIM_GATE_TBL_DATA.a →
      (s.rf TIM_GATE_TBL_CTL.BANK ≠ s.rf TIM_GATE_CTL.ACTIVE_BANK → s.rb TIM_GATE_CTL.PENDING = false →
        (s.rf TIM_GATE_TBL_CTL.WORD = 1 → 1000 ≤ v.field 0 24) →
        runs (.gateTblWrite src v) s (fun t =>
          t.gateWord (s.rf TIM_GATE_TBL_CTL.BANK) (s.rf TIM_GATE_TBL_CTL.INDEX) (s.rf TIM_GATE_TBL_CTL.WORD) =
            Word.ofN (v.field 0 (if s.rf TIM_GATE_TBL_CTL.WORD = 0 then 56 else 24)) ∧
          (∀ b e w, e < 1024 → w < 2 → (b, e, w) ≠ (s.rf TIM_GATE_TBL_CTL.BANK, s.rf TIM_GATE_TBL_CTL.INDEX, s.rf TIM_GATE_TBL_CTL.WORD) →
            t.gateWord b e w = s.gateWord b e w) ∧
          (s.rb TIM_GATE_TBL_CTL.AUTOINC = true → s.rf TIM_GATE_TBL_CTL.WORD = 0 → t.rf TIM_GATE_TBL_CTL.WORD = 1) ∧
          s.frame t [.gateTbl] (fun a => a = TIM_GATE_TBL_CTL.a))) ∧
      (s.rf TIM_GATE_TBL_CTL.BANK = s.rf TIM_GATE_CTL.ACTIVE_BANK ∨ s.rb TIM_GATE_CTL.PENDING = true ∨
          s.rf TIM_GATE_TBL_CTL.WORD = 1 ∧ v.field 0 24 < 1000 →
        turnedAway (.gateTblWrite src v) s src TIM_GATE_TBL_DATA.a 0x0E)) ∧
    (∀ (n : Fin 16) (q : Fin 128) (mask : BitVec 8), s.opens src (SCH_HWM_CLR.a n) → q.val < 72 →
      runs (.hwmClear src n q mask) s (fun t =>
        (∀ c, c < 8 → mask.toNat / 2 ^ c % 2 = 1 →
          t.rf (SCH_QSTAT.HWM_DEPTH n q c) = s.depth (portAt n q) c % 2 ^ 20 ∧ t.rf (SCH_QSTAT.HWM_RES n q c) = 0) ∧
        s.frame t [] (fun a => ∃ c, c < 8 ∧ mask.toNat / 2 ^ c % 2 = 1 ∧ a = SCH_QSTAT.a n q c)))

/-- R116, R117, R118: a time frame from the parent takes the offset of half the difference of the two apparent delays, slewed where it is
below 1 µs, and the estimate of the offset plus the sender's; one from another partner only keeps its estimate; INTERVAL sends a time
frame to the parent; the root moves by the offset its PTP master or the PPS edge gives under SOURCE 2 and 3. Ports without MACsec. -/
def Obligations.PlaneTimeDiscipline : Prop :=
  ∀ (s : State), awake s →
    (∀ (p : Fin 384) (est : BitVec 32) (t1 t2 t3 t4 : Word), s.active (768 + p.val) = true →
      (s.parentPort = some p.val → (State.halfDelay t1.toNat t2.toNat t3.toNat t4.toNat).natAbs < 1000 →
        runs (.timeFrame p est t1 t2 t3 t4) s (fun t =>
          t.rf TIM_STS.PARENT_PORT = p.val ∧ t.rb TIM_STS.LOCKED = true ∧
          t.time.slew = State.halfDelay t1.toNat t2.toNat t3.toNat t4.toNat ∧ t.time.parentSeen = s.now ∧
          t.rf TIM_OFFSET_EST.V = min ((State.halfDelay t1.toNat t2.toNat t3.toNat t4.toNat).natAbs + est.toNat) 0xFFFFFFFF ∧
          s.frame t [.ports, .time] (fun a => a = TIM_STS.a ∨ a = TIM_OFFSET_EST.a))) ∧
      (s.parentPort ≠ some p.val →
        runs (.timeFrame p est t1 t2 t3 t4) s (fun t =>
          (t.port (768 + p.val)).pEst = est.toNat ∧ (t.port (768 + p.val)).pSeen = s.now ∧ s.frame t [.ports] (fun _ => False)))) ∧
    (∀ p : Nat, s.parentPort = some p → p < 384 → (s.time.syncN + 1) % 16 ≠ 0 → s.rb (PRT_PORT_CTL.MACSEC (768 + p)) = false →
      runs .timeSyncSend s (fun t =>
        t.rf TIM_STS.PARENT_PORT = p ∧ t.time.syncN = s.time.syncN + 1 ∧
        t.out.drop (s.out.length + 1) = [.timeFrame (768 + p) (s.rf TIM_OFFSET_EST.V)] ∧
        (t.port (768 + p)).txNext = ((s.port (768 + p)).txNext + 1) % 2 ^ 24)) ∧
    (s.isRoot = true → ∀ o : Int, s.rf TIM_CTL.SOURCE = 2 → o.natAbs < 1000 →
      runs (.ptpMessage o) s (fun t => t.time.slew = o ∧ t.rb TIM_STS.LOCKED = true ∧ s.frame t [.time] (fun a => a = TIM_STS.a))) ∧
    (s.isRoot = true → s.rf TIM_CTL.SOURCE = 3 →
      ((s.rf TIM_PPS_SECONDS.V * 1000000000 : Nat) - (s.now : Int)).natAbs < 1000 →
      runs .ppsInEdge s (fun t => t.time.slew = (s.rf TIM_PPS_SECONDS.V * 1000000000 : Nat) - (s.now : Int) ∧
        t.rb TIM_STS.LOCKED = true ∧ s.frame t [.time] (fun a => a = TIM_STS.a)))

/-- R127, R128, R129, R134, R171: a STORE or STORE_QUIET to device memory that passes its checks writes its bytes at the State.translated device
address, leaves every other byte its harness can read, and is answered by a STORE_ACK with status OK, the request's TAG and FLOW. The
source is an endpoint of this device; no combining group is open; no partial word fails to decode.
R127, R128, R130, R134: a LOAD of device memory that passes its checks, no word of which is poison, is answered by a LOAD_RSP with
status OK, the bytes at the State.translated device address, the request's TAG and FLOW; memory does not change. -/
def Obligations.DeviceMemoryAccess : Prop :=
  (∀ (s : State) (n : Fin 16) (f : Frame) (c : Instr) (x : Steered) (k : Carab) (P a : Nat), awake s →
    (c = .store n f ∧ f.op = 2 ∨ c = .storeQuiet n f ∧ f.op = 3) → f.kind = 1 →
    s.landed (.memCheck n) f = some x → f.bad = false → f.checksOk = true → s.toDevice n f = true →
    s.memCheckStatus n f = 0 → s.carabiner n f.harness f.dst f.addr = some k → k.slot < 65536 →
    s.hAddr f.harness (State.translated k f.addr) f.len = some a → f.payload.length = f.len → f.harness ≠ 0 →
    s.mfb.groups = [] → s.fault.outUnits = [] → s.homePort n f.src P → s.mem.dead = [] →
    s.mem.mergeFails f.harness a f.len = [] →
    runs c s (fun t =>
      (∀ b, t.mem.readByte f.harness b =
        if a ≤ b ∧ b < a + f.len then f.payload.getD (b - a) 0 else s.mem.readByte f.harness b) ∧
      t.fwd.inbox = s.fwd.inbox.erase x ++ [⟨.memReply (dieOf P), FrameSpec.make
        { cls := 2, kind := 1, dst := f.src, src := f.dst, harness := f.harness, op := 0x82, tag := f.tag, flow := f.flow,
          time := s.now, status := 0, checkKind := 0 }, none⟩] ∧
      t.reg (MFB_CNT_STORE.V n).a = Word.ofN ((s.reg (MFB_CNT_STORE.V n).a).toNat + 1) ∧
      s.frame t [.mem, .fwd, .comp, .power, .sticky] (fun b => b = (MFB_CNT_STORE.V n).a ∨ b = (FWD_CNT_FRAMES.V n).a))) ∧
  (∀ (s : State) (n : Fin 16) (f : Frame) (x : Steered) (k : Carab) (P a : Nat), awake s → f.kind = 1 → f.op = 1 →
    s.landed (.memCheck n) f = some x → f.bad = false → f.checksOk = true → s.toDevice n f = true →
    s.memCheckStatus n f = 0 → s.carabiner n f.harness f.dst f.addr = some k → k.slot < 65536 →
    s.hAddr f.harness (State.translated k f.addr) (f.chunk % 8192) = some a →
    s.mfb.groups = [] → s.fault.outUnits = [] → s.homePort n f.src P →
    s.mem.badWords f.harness a (f.chunk % 8192) = [] →
    runs (.load n f) s (fun t =>
      t.fwd.inbox = s.fwd.inbox.erase x ++ [⟨.memReply (dieOf P), FrameSpec.make
        { cls := 2, kind := 1, dst := f.src, src := f.dst, harness := f.harness, op := 0x81, tag := f.tag, flow := f.flow,
          time := s.now, status := 0, payload := s.mem.read f.harness a (f.chunk % 8192) }, none⟩] ∧
      t.reg (MFB_CNT_LOAD.V n).a = Word.ofN ((s.reg (MFB_CNT_LOAD.V n).a).toNat + 1) ∧
      s.frame t [.fwd, .power, .sticky] (fun b => b = (MFB_CNT_LOAD.V n).a ∨ b = (FWD_CNT_FRAMES.V n).a)))

/-- R127, R143, R144, R145, R150: an ATOMIC on device memory with combining off and no group left open takes the value m in memory, writes the new value of its
function, leaves every other byte its harness can read, and is answered with m; ADD, XOR, SWAP and CAS leave a repeat record that holds
the answer.
R147, R148, R150: when its window ends a group of a line of device memory is sent as one atomic: memory takes the new value, the group
keeps the value fetched; a group with no member closes. When its response is there, its member is answered with the value and the group
closes. A repeat record is dropped when its time is over. -/
def Obligations.DeviceMemoryAtomics : Prop :=
  (∀ (s : State) (n m : Fin 16) (f : Frame) (x : Steered) (k : Carab) (P a : Nat), awake s → f.kind = 1 → isAtomic f = true →
    s.landed (.memCheck n) f = some x → f.bad = false → f.checksOk = true → s.toDevice n f = true →
    s.memCheckStatus n f = 0 → s.carabiner n f.harness f.dst f.addr = some k → k.slot < 65536 →
    s.hAddr f.harness (State.translated k f.addr) (atWidth f.op / 8) = some a → m.val = State.translated k f.addr / 64 % 16 →
    s.rb (MFB_CFG.COMBINE_EN m) = false → s.mfb.groups = [] → s.mfb.repeats = [] → s.fault.outUnits = [] → s.homePort m f.src P →
    s.mem.dead = [] → f.harness ≠ 0 → s.mem.badWords f.harness a (atWidth f.op / 8) = [] →
    runs (.atomic n f) s (fun t =>
      (∀ b, t.mem.readByte f.harness b =
        if a ≤ b ∧ b < a + atWidth f.op / 8
        then (bytesLE 8 (atNew f.op (leNat (s.mem.read f.harness a (atWidth f.op / 8))) (atOperand f) (atSwap f))).getD (b - a) 0
        else s.mem.readByte f.harness b) ∧
      t.fwd.inbox = s.fwd.inbox.erase x ++ [⟨.memReply (dieOf P), FrameSpec.make
        { cls := 2, kind := 1, dst := f.src, src := f.dst, harness := f.harness, op := 0xC0, tag := f.tag, flow := f.flow,
          time := s.now, status := 0, payload := bytesLE 8 (leNat (s.mem.read f.harness a (atWidth f.op / 8))) }, none⟩] ∧
      t.mfb.repeats = (if atRecorded f then [⟨m, f.src, f.tag, f.harness, f.dst,
        some (0, leNat (s.mem.read f.harness a (atWidth f.op / 8))), []⟩] else []))) ∧
  ((∀ (s : State) (g : HotGroup), awake s → s.mfb.groups = [g] → g.sent = false →
    (g.members = [] → runs (.combineWindowEnd g.no) s (fun t => t.mfb.groups = [] ∧ s.frame t [.mfb] (fun _ => False))) ∧
    (∀ f : Frame, g.members = [f] → g.dev = true → s.mem.badWords f.harness g.addr (atWidth f.op / 8) = [] →
      runs (.combineWindowEnd g.no) s (fun t =>
        t.mfb.groups = [{ g with sent := true, answer := some (0, leNat (s.mem.read f.harness g.addr (atWidth f.op / 8))) }] ∧
        t.reg (MFB_CNT_COMB_GROUP.V g.die).a = Word.ofN ((s.reg (MFB_CNT_COMB_GROUP.V g.die).a).toNat + 1) ∧
        t.mem = s.mem.write f.harness g.addr (bytesLE (atWidth f.op / 8)
          (atNew f.op (leNat (s.mem.read f.harness g.addr (atWidth f.op / 8))) (atOperand f) 0))))) ∧
  (∀ (s : State) (g : HotGroup) (f : Frame) (v P : Nat), awake s → s.mfb.groups = [g] → g.sent = true → g.answer = some (0, v) →
    g.members = [f] → s.mfb.repeats = [] → s.fault.outUnits = [] → s.homePort g.die f.src P →
    runs (.groupResponse g.no) s (fun t =>
      t.mfb.groups = [] ∧ t.mem = s.mem ∧
      t.fwd.inbox = s.fwd.inbox ++ [⟨.memReply (dieOf P), FrameSpec.make
        { cls := 2, kind := 1, dst := f.src, src := f.dst, harness := f.harness, op := 0xC0, tag := f.tag, flow := f.flow,
          time := s.now, status := 0, payload := bytesLE 8 v }, none⟩] ∧
      t.reg (MFB_CNT_COMB_MEMBER.V g.die).a = Word.ofN ((s.reg (MFB_CNT_COMB_MEMBER.V g.die).a).toNat + 1))) ∧
  (∀ (s : State) (n : Fin 16) (feid : BitVec 18) (tag : BitVec 16), awake s →
    runs (.repeatRecordExpire n feid tag) s (fun t =>
      (∀ r, r ∈ t.mfb.repeats ↔ r ∈ s.mfb.repeats ∧
        ¬(r.die = n.val ∧ r.src = feid.toNat ∧ r.tag = tag.toNat ∧ r.answer.isSome = true)) ∧
      s.frame t [.mfb] (fun _ => False))))

/-- R130, R134: a LOAD, STORE, STORE_QUIET or ATOMIC with no matching carabiner is not applied: it is answered with status DENIED, counted
in MFB_CNT_DENIED and HRN_CNT_DENIED and reported; neither memory of any harness nor a pending entry changes. The LOAD asks for 1 to 4,096
bytes; the fault ring is off.
R135, R155, R162: on one crux die, an insertion that passes the checks puts the carabiner of W0 to W2 in a free slot, takes one unit of
its harness's quota and will complete with OK, one that fails them will complete with the status of the first check and inserts nothing;
a removal removes every entry of the key, or will complete with REJECT where there is none; a read gives W0 to W2 the words of the slot,
or zeros; completion sets STATUS and clears BUSY; a command while BUSY is refused. -/
def Obligations.CarabinersGuardMemory : Prop :=
  (∀ (s : State) (n : Fin 16) (f : Frame) (c : Instr) (x : Steered) (P : Nat), awake s → f.kind = 1 →
    (c = .load n f ∧ f.op = 1 ∧ 1 ≤ f.chunk ∧ f.chunk ≤ 4096 ∨ c = .store n f ∧ f.op = 2 ∨ c = .storeQuiet n f ∧ f.op = 3 ∨
      c = .atomic n f ∧ isAtomic f = true) →
    s.landed (.memCheck n) f = some x → f.bad = false → f.checksOk = true → f.harness ≠ 0 →
    s.rf HUB_FAULT_STS.DEV_STATE ≠ 2 → s.carabiner n f.harness f.dst f.addr = none →
    s.fault.outUnits = [] → s.homePort n f.src P → s.rb HUB_FAULT_RING.EN = false →
    runs c s (fun t =>
      t.mem = s.mem ∧ t.mfb = s.mfb ∧
      t.reg (MFB_CNT_DENIED.V n).a = Word.ofN ((s.reg (MFB_CNT_DENIED.V n).a).toNat + 1) ∧
      t.reg (HRN_CNT_DENIED.V f.harness).a = Word.ofN ((s.reg (HRN_CNT_DENIED.V f.harness).a).toNat + 1) ∧
      (∃ g, t.fwd.inbox = s.fwd.inbox.erase x ++ [⟨.memReply (dieOf P), g, none⟩] ∧ g.tstatus = 0x08 ∧ g.tag = f.tag ∧
        g.dst = f.src ∧ g.op = (if f.op = 1 then 0x81 else if isAtomic f then 0xC0 else 0x82)))) ∧
  (∀ (s : State) (src : Src) (n : Fin 16) (slot : BitVec 16), awake s → s.opens src (MFB_CAR_CMD.a n) →
    (s.rb (MFB_CAR_CMD.BUSY n) = true →
      turnedAway (.carabinerInsert src n false) s src (MFB_CAR_CMD.a n) 0x0E ∧
      turnedAway (.carabinerRemove src n false) s src (MFB_CAR_CMD.a n) 0x0E ∧
      turnedAway (.carabinerRead src n slot) s src (MFB_CAR_CMD.a n) 0x0E ∧
      (∀ st : Nat, st < 256 → lookupKey s.mfb.carRes n.val = some st →
        runs (.carabinerCommandComplete n) s (fun t =>
          t.rf (MFB_CAR_CMD.STATUS n) = st ∧ t.rb (MFB_CAR_CMD.BUSY n) = false ∧ t.mfb.carabs = s.mfb.carabs ∧
          lookupKey t.mfb.carRes n.val = none ∧ s.frame t [.mfb] (fun a => a = MFB_CAR_CMD.a n)))) ∧
    (s.rb (MFB_CAR_CMD.BUSY n) = false →
      (∀ i, s.insertStatus [n.val] (s.reg (MFB_CAR_W0.a n)) (s.reg (MFB_CAR_W1.a n)) (s.reg (MFB_CAR_W2.a n)) = 0 →
        s.carFree n (s.reg (MFB_CAR_W0.a n)) (s.reg (MFB_CAR_W1.a n)) = some i → s.gate.fill = none →
        carHarness (s.reg (MFB_CAR_W0.a n)) = 0 →
        runs (.carabinerInsert src n false) s (fun t =>
          t.mfb.carabs = s.mfb.carabs ++ [⟨n, i, s.reg (MFB_CAR_W0.a n), s.reg (MFB_CAR_W1.a n), s.reg (MFB_CAR_W2.a n), s.mfb.ins⟩] ∧
          t.mfb.ins = s.mfb.ins + 1 ∧ t.rb (MFB_CAR_CMD.BUSY n) = true ∧ lookupKey t.mfb.carRes n.val = some 0)) ∧
      (∀ st, st ≠ 0 → s.insertStatus [n.val] (s.reg (MFB_CAR_W0.a n)) (s.reg (MFB_CAR_W1.a n)) (s.reg (MFB_CAR_W2.a n)) = st →
        runs (.carabinerInsert src n false) s (fun t =>
          t.mfb.carabs = s.mfb.carabs ∧ t.rb (MFB_CAR_CMD.BUSY n) = true ∧
          (st ≠ 0xFFFF → lookupKey t.mfb.carRes n.val = some st))) ∧
      runs (.carabinerRemove src n false) s (fun t =>
        t.rb (MFB_CAR_CMD.BUSY n) = true ∧
        (∀ c, c ∈ t.mfb.carabs ↔ c ∈ s.mfb.carabs ∧
          ¬(c.die = n.val ∧ carHarness c.w0 = carHarness (s.reg (MFB_CAR_W0.a n)) ∧ carFeid c.w0 = carFeid (s.reg (MFB_CAR_W0.a n)) ∧
            carLog2 c.w0 = carLog2 (s.reg (MFB_CAR_W0.a n)) ∧ carV c.w1 = carV (s.reg (MFB_CAR_W1.a n)))) ∧
        lookupKey t.mfb.carRes n.val = some (if t.mfb.carabs.length = s.mfb.carabs.length then 0x0E else 0)) ∧
      runs (.carabinerRead src n slot) s (fun t =>
        t.rb (MFB_CAR_CMD.BUSY n) = true ∧ t.mfb.carabs = s.mfb.carabs ∧
        (s.mfb.carabs.find? (fun c => c.die == n.val && c.slot == slot.toNat) = none →
          t.reg (MFB_CAR_W0.a n) = 0 ∧ t.reg (MFB_CAR_W1.a n) = 0 ∧ t.reg (MFB_CAR_W2.a n) = 0) ∧
        (∀ c, s.mfb.carabs.find? (fun c => c.die == n.val && c.slot == slot.toNat) = some c →
          t.reg (MFB_CAR_W0.a n) = c.w0 ∧ t.reg (MFB_CAR_W1.a n) = c.w1 ∧ t.reg (MFB_CAR_W2.a n) = c.w2) ∧
        s.frame t [.mfb] (fun a => a = MFB_CAR_CMD.a n ∨ a = MFB_CAR_W0.a n ∨ a = MFB_CAR_W1.a n ∨ a = MFB_CAR_W2.a n))))

/-- R139, R142, R151: at its source crux die a MEM request whose TAG is live is discarded and counted in MFB_CNT_TAG_LIVE; one that finds
room takes a pending entry and goes on to its check point (here on this crux die); an anchored one behind an earlier store or atomic of
its source waits in the anchor queue and is counted in MFB_CNT_ANCHOR_WAIT; a released one goes on.
R127, R139, R152, R154: a response that matches a pending entry of a core retires it and gives the core its status and data; a
STORE_ACK with status OK of an endpoint's STORE_QUIET is consumed; a response that matches nothing is counted in MFB_CNT_STRAY_RSP; an
entry that reaches its bound is answered TIMEOUT and counted. No overflow read waits; the core has no request waiting. -/
def Obligations.PendingRequests : Prop :=
  ((∀ (s : State) (n : Fin 16) (f : Frame) (x : Steered) (P : Nat), awake s → State.isMemReq f = true →
    s.landed (.memAccept n) f = some x → x.ingress = some P →
    (s.mfb.pends.any (fun p => p.source == P && p.frame.tag == f.tag) = true →
      runs (.memRequestAccept n f) s (fun t =>
        t.mfb = s.mfb ∧ t.fwd.inbox = s.fwd.inbox.erase x ∧
        t.reg (MFB_CNT_TAG_LIVE.V n).a = Word.ofN ((s.reg (MFB_CNT_TAG_LIVE.V n).a).toNat + 1))) ∧
    (s.mfb.pends.any (fun p => p.source == P && p.frame.tag == f.tag) = false → s.memRoom f.src f.anchor 0 = true →
      f.anchor = true → s.earlierWrite P s.mfb.next = true →
      runs (.memRequestAccept n f) s (fun t =>
        t.mfb.pends = s.mfb.pends ++ [⟨s.mfb.next, n, P, f, true, s.now⟩] ∧ t.mfb.next = s.mfb.next + 1 ∧
        t.fwd.inbox = s.fwd.inbox.erase x ∧
        t.reg (MFB_CNT_ANCHOR_WAIT.V n).a = Word.ofN ((s.reg (MFB_CNT_ANCHOR_WAIT.V n).a).toNat + 1))) ∧
    (s.mfb.pends.any (fun p => p.source == P && p.frame.tag == f.tag) = false → s.memRoom f.src f.anchor 0 = true →
      f.anchor = false → f.mcast = false → f.trav = false → s.homeDevice n f.dst → s.fault.outUnits = [] → s.fwd.holds = [] →
      runs (.memRequestAccept n f) s (fun t =>
        t.mfb.pends = s.mfb.pends ++ [⟨s.mfb.next, n, P, f, false, s.now⟩] ∧ t.mfb.next = s.mfb.next + 1 ∧
        t.fwd.inbox = s.fwd.inbox.erase x ++ [⟨.memCheck n, f, some P⟩]))) ∧
  (∀ (s : State) (source : Fin 1680) (p : Pend), awake s → source.val < 1152 →
    s.mfb.pends.find? (fun q => q.source == source.val && q.queued) = some p → s.earlierWrite source p.no = false →
    State.isMemReq p.frame = true → p.frame.mcast = false → p.frame.trav = false → s.homeDevice p.die p.frame.dst →
    s.fault.outUnits = [] → s.fwd.holds = [] →
    runs (.anchorRelease source) s (fun t =>
      t.mfb.pends = s.mfb.pends.map (fun q => if q.no = p.no then { q with queued := false } else q) ∧
      t.fwd.inbox = s.fwd.inbox ++ [⟨.memCheck p.die, p.frame, some source.val⟩]))) ∧
  (∀ (s : State), awake s → s.gate.ovf = [] →
    (∀ (n : Fin 16) (f : Frame) (c : Instr) (x : Steered) (p : Pend) (k : Nat),
      (c = .loadRsp n f ∧ f.op = 0x81 ∧ p.frame.op = 1 ∨ c = .storeAck n f ∧ f.op = 0x82 ∧ p.frame.op = 2 ∧ f.tstatus = 0 ∨
        c = .atomicRsp n f ∧ f.op = 0xC0 ∧ p.frame.op = 0x48 ∧ f.tstatus = 0 ∧ s.landed (.memAccept n) f = none) →
      f.kind = 1 → s.landed (.memReply n) f = some x → f.bad = false → s.mfb.coreWait = [] → p.source = 1152 + k →
      s.mfb.pends.find? (fun q => !q.queued && q.frame.src == f.dst && q.frame.tag == f.tag && q.frame.dst == f.src) = some p →
      runs c s (fun t =>
        t.mfb.pends = s.mfb.pends.filter (fun q => q.no != p.no) ∧
        t.mfb.coreRsp = s.mfb.coreRsp ++ [⟨k, p.no, f.tstatus, f.payload⟩] ∧ t.fwd.inbox = s.fwd.inbox.erase x ∧
        s.frame t [.mfb, .fwd] (fun _ => False))) ∧
    (∀ (n : Fin 16) (f : Frame) (x : Steered) (p : Pend), f.kind = 1 → f.op = 0x82 → f.tstatus = 0 → f.bad = false →
      s.landed (.memReply n) f = some x → p.source < 1152 → p.frame.op = 3 →
      s.mfb.pends.find? (fun q => !q.queued && q.frame.src == f.dst && q.frame.tag == f.tag && q.frame.dst == f.src) = some p →
      runs (.storeAck n f) s (fun t =>
        t.mfb.pends = s.mfb.pends.filter (fun q => q.no != p.no) ∧ t.fwd.queues = s.fwd.queues ∧
        s.frame t [.mfb, .fwd] (fun _ => False))) ∧
    (∀ (n : Fin 16) (f : Frame) (x : Steered), f.kind = 1 → f.op = 0x81 → f.bad = false → s.landed (.memReply n) f = some x →
      s.mfb.pends = [] → s.mfb.gone = [] →
      runs (.loadRsp n f) s (fun t =>
        t.reg (MFB_CNT_STRAY_RSP.V n).a = Word.ofN ((s.reg (MFB_CNT_STRAY_RSP.V n).a).toNat + 1) ∧ t.mfb = s.mfb)) ∧
    (∀ (source : Fin 1680) (tag : BitVec 16) (p : Pend) (k : Nat), k < 512 → source.val = 1152 + k → p.source = source.val →
      s.mfb.pends.find? (fun q => q.source == source.val && q.frame.tag == tag.toNat) = some p → p.frame.op = 1 →
      p.queued = false → s.mfb.coreWait = [] → p.die < 16 →
      runs (.memTimeout source tag) s (fun t =>
        t.mfb.pends = s.mfb.pends.filter (fun q => q.no != p.no) ∧
        t.mfb.coreRsp = s.mfb.coreRsp ++ [⟨k, p.no, 0x07, allOnes (min (p.frame.chunk % 8192) 4096)⟩] ∧
        t.mfb.gone = s.mfb.gone ++ [(p.frame.src, p.frame.tag, p.frame.dst)] ∧
        t.reg (MFB_CNT_TIMEOUT.V p.die).a = Word.ofN ((s.reg (MFB_CNT_TIMEOUT.V p.die).a).toNat + 1))))

/-- R7, R8, R32, R35, R412, R491, R528, R591, R598: a misaligned write, and one that reachability, a reserved range or the standby port
turns away, is a host-access error and applies nothing; a write to an offset that names no register is discarded in silence; a write
to another clock domain is staged behind the writes before it; the oldest staged write of a group takes effect when its synchronizer
delivers it (here CRX_CORE_CFG, whose low 32 bits are RW); a write in the HUB domain takes effect at once (here HUB_AVAL_CFG, whose
low 16 bits are RW); a VF writes its MSI-X table word; an access that is not 64 bits wide is a host-access error with status REJECT, and
a read of that kind returns zero. -/
def Obligations.RegisterWritePaths : Prop :=
  ∀ (s : State) (src : Src) (a : BitVec 26) (v : Word), awake s →
    (a.toNat % 8 ≠ 0 → turnedAway (.registerWrite src 0 a v) s src a.toNat 0x0E) ∧
    (∀ st : Nat, a.toNat % 8 = 0 → s.accessFails src a.toNat = some st → turnedAway (.registerWrite src 0 a v) s src a.toNat st) ∧
    (a.toNat % 8 = 0 → s.opens src a.toNat → regRow a.toNat = none → runs (.registerWrite src 0 a v) s (fun t => t = s)) ∧
    (∀ (r : RegRow) (g : Group), a.toNat % 8 = 0 → s.opens src a.toNat → regRow a.toNat = some r → State.groupOf a.toNat = some g →
      runs (.registerWrite src 0 a v) s (fun t =>
        t.xdom = s.xdom ++ [⟨g, src, 0, a.toNat, v⟩] ∧ s.frame t [.xdom] (fun _ => False))) ∧
    (a.toNat = HUB_AVAL_CFG.a → s.opens src HUB_AVAL_CFG.a →
      runs (.registerWrite src 0 a v) s (fun t =>
        (t.reg HUB_AVAL_CFG.a).toNat = (s.reg HUB_AVAL_CFG.a).toNat / 2 ^ 16 * 2 ^ 16 + v.toNat % 2 ^ 16 ∧
        s.frame t [] (fun b => b = HUB_AVAL_CFG.a))) ∧
    (∀ (g : Group) (k : Fin 512), s.xdom.find? (fun x => x.grp == g) = some ⟨g, src, 0, CRX_CORE_CFG.a k, v⟩ →
      runs (.crossDomainWriteEffect g) s (fun t =>
        t.xdom = s.xdom.eraseP (fun x => x.grp == g) ∧
        (t.reg (CRX_CORE_CFG.a k)).toNat = (s.reg (CRX_CORE_CFG.a k)).toNat / 2 ^ 32 * 2 ^ 32 + v.toNat % 2 ^ 32 ∧
        s.frame t [.xdom] (fun b => b = CRX_CORE_CFG.a k))) ∧
    (∀ fn : BitVec 8, fn ≠ 0 → a.toNat % 8 = 0 → a.toNat < 0x400 → s.host.pendV = [] →
      runs (.registerWrite src fn a v) s (fun t =>
        t.vfRead fn.toNat a.toNat = v ∧ s.frame t [.host] (fun _ => False))) ∧
    (∀ fn : BitVec 8,
      runs (.malformedAccess src fn a true) s (fun t =>
        t.reg HUB_HACC_CNT.a = Word.ofN ((s.reg HUB_HACC_CNT.a).toNat + 1) ∧ s.frame t State.recordParts State.recordReg) ∧
      runs (.malformedAccess src fn a false) s (fun t =>
        t.reg HUB_HACC_CNT.a = Word.ofN ((s.reg HUB_HACC_CNT.a).toNat + 1) ∧ t.out.getLast? = some (.regData 0) ∧
        s.frame t State.recordParts State.recordReg))

/-- R157, R160, R161, R163, R165, R175: the HRN_CMD transitions. A command in a state of its row takes harness h to its new state and ends
with OK, and the copies hold the old state until it is propagated; in any other state it ends with REJECT and changes no state; a
command while BUSY is set, or naming harness 0, is refused. BIND zeroes FAIL_CNT, the account, the counters and the USED fields; before
the end of Camp 6 it ends with NOT_READY. UNBIND of a harness with no cores, contexts, stores or ring pairs releases its carabiners
and starts to destroy its pools; when it completes with no pool left the harness is FREE. No earlier change of h is still on its way;
no ring pair is open. -/
def Obligations.HarnessCommands : Prop :=
  ∀ (s : State) (src : Src) (h : Fin 4096) (c : Instr), awake s → s.opens src HRN_CMD.a →
    ((s.rb HRN_CMD.BUSY = true ∨ h = 0) →
      (c = .bind src h ∨ c = .start src h ∨ c = .stop src h ∨ c = .recover src h ∨ c = .unbind src h ∨ c = .quarantine src h) →
      turnedAway c s src HRN_CMD.a 0x0E) ∧
    (s.rb HRN_CMD.BUSY = false → h ≠ 0 →
      (c = .bind src h ∧ s.hrnState h ≠ 0 ∧ s.campOk 6 = true ∨ c = .start src h ∧ s.hrnState h ≠ 1 ∧ s.hrnState h ≠ 3 ∨
        (c = .stop src h ∨ c = .recover src h) ∧ s.hrnState h ≠ 2 ∨ c = .unbind src h ∧ s.hrnState h ≠ 1 ∧ s.hrnState h ≠ 4 ∨
        c = .quarantine src h ∧ s.hrnState h = 0) →
      runs c s (fun t =>
        t.rf HRN_CMD.STATUS = 0x0E ∧ t.rf HRN_CMD.HARNESS = h ∧ s.frame t [] (fun a => a = HRN_CMD.a))) ∧
    (s.rb HRN_CMD.BUSY = false → h ≠ 0 → lookupKey s.hrn.old h.val = none → s.host.opened = [] →
      (∀ new : Nat, (c = .start src h ∧ (s.hrnState h = 1 ∨ s.hrnState h = 3) ∧ s.rf HUB_FAULT_STS.DEV_STATE ≠ 2 ∧
            s.mpStopped = false ∧ new = 2 ∨
          c = .stop src h ∧ s.hrnState h = 2 ∧ new = 1 ∨ c = .recover src h ∧ s.hrnState h = 2 ∧ new = 3 ∨
          c = .quarantine src h ∧ s.hrnState h ≠ 0 ∧ new = 4) →
        runs c s (fun t =>
          t.hrnState h = new ∧ t.hrnCopy h = s.hrnState h ∧ t.rf HRN_CMD.STATUS = 0 ∧
          t.rf (HRN_STS.FAIL_CNT h) = s.rf (HRN_STS.FAIL_CNT h) ∧
          (c = .start src h → s.hrnState h = 3 → lookupKey t.hrn.started h.val = some s.now) ∧
          s.frame t (.hrn :: State.recordParts) (fun a => a = HRN_CMD.a ∨ a = HRN_STS.a h ∨ State.recordReg a))) ∧
      (s.campOk 6 = false →
        runs (.bind src h) s (fun t => t.rf HRN_CMD.STATUS = 0x01 ∧ s.frame t [] (fun a => a = HRN_CMD.a))) ∧
      (s.campOk 6 = true → s.hrnState h = 0 →
        runs (.bind src h) s (fun t =>
          t.hrnState h = 1 ∧ t.rf HRN_CMD.STATUS = 0 ∧ t.rf (HRN_STS.FAIL_CNT h) = 0 ∧ t.reg (HRN_ENERGY_UJ.a h) = 0 ∧
          t.reg (HRN_CNT_DENIED.a h) = 0 ∧ t.reg (HRN_CNT_FAULTS.a h) = 0 ∧
          (∀ k : QKind, t.rf (k.used h) = 0 ∧ t.rf (k.limit h) = s.rf (k.limit h) ∧ t.rb (k.over h) = false) ∧
          lookupKey t.hrn.started h.val = none)) ∧
      ((s.hrnState h = 1 ∨ s.hrnState h = 4) → s.portNamed h = false → s.coresOf h = [] → s.rope.ctxs = [] → s.gate.ctxs = [] →
        s.gate.stores = [] → s.host.waits = [] →
        runs (.unbind src h) s (fun t =>
          t.rb HRN_CMD.BUSY = true ∧ t.rb (HRN_STS.BUSY h) = true ∧ t.hrn.unbinding = some h.val ∧ t.hrnState h = s.hrnState h ∧
          t.mfb.carabs = s.mfb.carabs.filter (fun x => !(carHarness x.w0 == h.val)) ∧
          (∀ q, q ∈ t.mem.dying ↔ q ∈ s.mem.dying ∨ q < 64 ∧ s.rf (POOL_STS.STATE q) ≠ 0 ∧ s.rf (POOL_CFG.HARNESS q) = h))) ) ∧
    (h ≠ 0 → s.hrn.unbinding = some h.val → s.poolsOf h = [] → lookupKey s.hrn.old h.val = none → s.host.opened = [] →
      runs .unbindComplete s (fun t =>
        t.hrnState h = 0 ∧ t.rb HRN_CMD.BUSY = false ∧ t.rb (HRN_STS.BUSY h) = false ∧ t.rf HRN_CMD.STATUS = 0 ∧
        t.hrn.unbinding = none ∧ t.rf (HRN_WIT_CFG.MODE h) = 0 ∧
        s.frame t (.hrn :: State.recordParts)
          (fun a => a = HRN_CMD.a ∨ a = HRN_STS.a h ∨ a = HRN_WIT_CFG.a h ∨ State.recordReg a)))

/-- R157, R160, R161, R512, R514: the next fault at hub 0 is a harness fault. It is counted in HRN_CNT_FAULTS; a RUNNING harness goes to
RECOVERING, with FAIL_CNT one more where the fault comes before STABLE_MS since a START from RECOVERING; a RECOVERING one counts in
FAIL_CNT and at 3 goes to QUARANTINED; a BOUND or QUARANTINED one, and harness 0, keep their state; against a FREE harness it counts
against harness 0. No earlier change of h is on its way; no ring pair is open.
R22, R160, R161, R165, R174, R402, R410: STABLE_MS without a fault sets FAIL_CNT of a RUNNING harness to 0; a change of state in force
at every copy leaves the copies equal to hub 0 and, where the harness was RUNNING and is no longer, halts its running cores (here with
no context and no instruction in flight); a LIMIT takes its value and OVER says whether USED is above it, and one above the device
total is refused; HRN_WIT_CFG takes a legal ring and zeroes its pointers, and an illegal one is refused. -/
def Obligations.HarnessFaultsAndSettings : Prop :=
  (∀ (s : State) (r : Raised), awake s → s.nextRaised = some r → r.what.sev = 2 → r.what.harness < 4096 →
    lookupKey s.hrn.old r.what.harness = none → s.host.opened = [] →
    runs .harnessFault s (fun t =>
      t.fault.raised = s.fault.raised.erase r ∧
      ((r.what.harness = 0 ∨ s.hrnState r.what.harness = 0) →
        t.reg (HRN_CNT_FAULTS.a 0) = Word.ofN ((s.reg (HRN_CNT_FAULTS.a 0)).toNat + 1) ∧ t.hrn = s.hrn) ∧
      (r.what.harness ≠ 0 → s.hrnState r.what.harness ≠ 0 →
        t.reg (HRN_CNT_FAULTS.a r.what.harness) = Word.ofN ((s.reg (HRN_CNT_FAULTS.a r.what.harness)).toNat + 1)) ∧
      ((s.hrnState r.what.harness = 1 ∨ s.hrnState r.what.harness = 4) → t.hrn = s.hrn) ∧
      (r.what.harness ≠ 0 → s.hrnState r.what.harness = 2 → lookupKey s.hrn.started r.what.harness = none →
        t.hrnState r.what.harness = 3 ∧ t.rf (HRN_STS.FAIL_CNT r.what.harness) = s.rf (HRN_STS.FAIL_CNT r.what.harness) ∧
        t.hrnCopy r.what.harness = 2) ∧
      (∀ t0, r.what.harness ≠ 0 → s.hrnState r.what.harness = 2 → lookupKey s.hrn.started r.what.harness = some t0 →
        s.now - t0 < max 1 (s.rf HRN_GCFG.STABLE_MS) * 1000000 → s.rf (HRN_STS.FAIL_CNT r.what.harness) < 2 →
        t.hrnState r.what.harness = 3 ∧ t.rf (HRN_STS.FAIL_CNT r.what.harness) = s.rf (HRN_STS.FAIL_CNT r.what.harness) + 1) ∧
      (s.hrnState r.what.harness = 3 →
        (s.rf (HRN_STS.FAIL_CNT r.what.harness) < 2 →
          t.hrnState r.what.harness = 3 ∧ t.rf (HRN_STS.FAIL_CNT r.what.harness) = s.rf (HRN_STS.FAIL_CNT r.what.harness) + 1) ∧
        (2 ≤ s.rf (HRN_STS.FAIL_CNT r.what.harness) →
          t.hrnState r.what.harness = 4 ∧ t.rf (HRN_STS.FAIL_CNT r.what.harness) = 3)) ∧
      s.frame t (.hrn :: State.recordParts)
        (fun a => a = HRN_STS.a r.what.harness ∨ a = HRN_CNT_FAULTS.a r.what.harness ∨ a = HRN_CNT_FAULTS.a 0 ∨ State.recordReg a))) ∧
  (∀ (s : State) (src : Src) (h : Fin 4096), awake s →
    (h ≠ 0 → s.hrnState h = 2 →
      runs (.stableExpire h) s (fun t =>
        t.rf (HRN_STS.FAIL_CNT h) = 0 ∧ t.hrnState h = 2 ∧
        s.frame t State.recordParts (fun a => a = HRN_STS.a h ∨ State.recordReg a))) ∧
    (∀ o : Nat, lookupKey s.hrn.old h.val = some o →
      ((o ≠ 2 ∨ s.hrnState h = 2) →
        runs (.harnessStatePropagate h) s (fun t =>
          t.hrnCopy h = s.hrnState h ∧ t.hrnState h = s.hrnState h ∧ s.frame t [.hrn] (fun _ => False))) ∧
      (o = 2 → s.hrnState h ≠ 2 → s.rope.ctxs = [] → s.gate.ctxs = [] → s.comp.flights = [] →
        runs (.harnessStatePropagate h) s (fun t =>
          t.hrnCopy h = s.hrnState h ∧
          (∀ k, k < 512 → s.boundCore k = true → s.coreH k = h → (s.cstate k = 2 ∨ s.cstate k = 3 ∨ s.cstate k = 4) → t.cstate k = 1) ∧
          (∀ k, k < 512 → (s.boundCore k = false ∨ s.coreH k ≠ h) → t.cstate k = s.cstate k) ∧
          t.mem = s.mem ∧ t.out = s.out))) ∧
    (∀ (k : Fin 5) (v : BitVec 32), s.opens src ((State.qkind k).limit h).a →
      (v.toNat ≤ (State.qkind k).total →
        runs (.quotaLimitWrite src k h v) s (fun t =>
          t.rf ((State.qkind k).limit h) = v.toNat ∧ t.rf ((State.qkind k).used h) = s.rf ((State.qkind k).used h) ∧
          t.rb ((State.qkind k).over h) = decide (v.toNat < s.rf ((State.qkind k).used h)) ∧
          s.frame t [] (fun a => a = ((State.qkind k).limit h).a ∨ a = HRN_STS.a h))) ∧
      ((State.qkind k).total < v.toNat → turnedAway (.quotaLimitWrite src k h v) s src ((State.qkind k).limit h).a 0x0E)) ∧
    (∀ v : Word, s.opens src (HRN_WIT_CFG.a h) →
      (12 ≤ v.field 40 5 → v.field 40 5 ≤ 30 → v.field 45 2 ≠ 3 → v.field 0 40 % 2 ^ v.field 40 5 = 0 →
        runs (.witnessCfgWrite src h v) s (fun t =>
          (t.reg (HRN_WIT_CFG.a h)).toNat = v.toNat % 2 ^ 47 ∧ t.reg (HRN_WIT_WPTR.a h) = 0 ∧ t.reg (HRN_WIT_RPTR.a h) = 0 ∧
          s.frame t [] (fun a => a = HRN_WIT_CFG.a h ∨ a = HRN_WIT_WPTR.a h ∨ a = HRN_WIT_RPTR.a h))) ∧
      ((v.field 40 5 < 12 ∨ 30 < v.field 40 5 ∨ v.field 45 2 = 3 ∨ v.field 0 40 % 2 ^ v.field 40 5 ≠ 0) →
        turnedAway (.witnessCfgWrite src h v) s src (HRN_WIT_CFG.a h) 0x0E)))

/-- R163, R165, R170, R197, R445: CRX_BIND_CMD on core k of crux die n. While BUSY is set it is refused. A bind that passes the checks
takes a unit of the quota and executes; one that fails them ends with the status of the first check and binds nothing. When clearing
finishes the core is HALTED, counted in its cluster, owned by its harness, its local flags are 0 and a tenant's L reads zero. An unbind
of a HALTED core whose harness is not RUNNING releases it and leaves a tenant's L holding poison; an unbind of a core that is not bound,
or whose harness is RUNNING, ends with REJECT. No load is executing on the core.
R188, R190, R191, R200, R201: what harness 0 writes. A package flag block bound to h has its 64 flags 0 and answers to h. A credit
channel made valid holds CAPACITY credits; a write of a valid channel that sets VALID, or one with CAPACITY 0, is refused; a channel
made invalid faults a core whose take waits on it with DENIED (here one core, nothing in flight, no rope). A jumar pair takes harness
and limit; RESET zeroes both counters and leaves the pair bound as it was. -/
def Obligations.CoreBindingAndSharedUnits : Prop :=
  (∀ (s : State) (src : Src) (k : Fin 512) (n : Fin 16) (h : Fin 4096), awake s → n.val = k.val / 32 → s.opens src (CRX_BIND_CMD.a n) →
    (s.rb (CRX_BIND_CMD.BUSY n) = true →
      turnedAway (.coreBind src k h) s src (CRX_BIND_CMD.a n) 0x0E ∧ turnedAway (.coreUnbind src k) s src (CRX_BIND_CMD.a n) 0x0E) ∧
    (s.rb (CRX_BIND_CMD.BUSY n) = false → s.loading k = false →
      (s.bindStatus k h = 0 →
        runs (.coreBind src k h) s (fun t =>
          t.comp.binds = s.comp.binds.filter (fun b => b.die != n.val) ++ [⟨n, k, h, true, false⟩] ∧
          t.rb (CRX_BIND_CMD.BUSY n) = true ∧ t.cstate k = s.cstate k ∧
          (h ≠ 0 → s.rf (HRN_Q_CORES.USED h) < 512 → t.rf (HRN_Q_CORES.USED h) = s.rf (HRN_Q_CORES.USED h) + 1) ∧
          s.frame t [.comp] (fun a => a = CRX_BIND_CMD.a n ∨ a = HRN_Q_CORES.a h ∨ a = HRN_STS.a h))) ∧
      (∀ st, s.bindStatus k h = st → st ≠ 0 → st < 256 →
        runs (.coreBind src k h) s (fun t =>
          t.rf (CRX_BIND_CMD.STATUS n) = st ∧ t.rb (CRX_BIND_CMD.BUSY n) = false ∧ t.comp.cores = s.comp.cores ∧
          s.frame t [.comp] (fun a => a = CRX_BIND_CMD.a n))) ∧
      ((s.boundCore k = false ∨ s.hrnState (s.coreH k) = 2) →
        runs (.coreUnbind src k) s (fun t =>
          t.rf (CRX_BIND_CMD.STATUS n) = 0x0E ∧ t.rb (CRX_BIND_CMD.BUSY n) = false ∧ t.comp.cores = s.comp.cores ∧
          s.frame t [.comp] (fun a => a = CRX_BIND_CMD.a n))) ∧
      (s.boundCore k = true → s.hrnState (s.coreH k) ≠ 2 → s.cstate k = 1 →
        runs (.coreUnbind src k) s (fun t =>
          t.rf (CRX_BIND_CMD.STATUS n) = 0 ∧ t.rb (CRX_BIND_CMD.BUSY n) = false ∧ t.boundCore k = false ∧ t.cstate k = 0 ∧
          t.rf (CRX_CLU_STS.BOUND n (k.val / 8 % 4)) = s.rf (CRX_CLU_STS.BOUND n (k.val / 8 % 4)) - 1 ∧
          (s.coreH k ≠ 0 → ∀ o, o < sizeL → t.mem.readByte 0 (addrL k o) = 0xFF) ∧
          (∀ j, j < 512 → j ≠ k.val → t.boundCore j = s.boundCore j ∧ t.cstate j = s.cstate j)))) ∧
    (s.comp.binds.find? (fun b => b.die == n.val && b.bind && !b.waits) = some ⟨n, k, h, true, false⟩ →
      s.rf (CRX_CLU_STS.BOUND n (k.val / 8 % 4)) < 8 →
      runs (.coreBindComplete n) s (fun t =>
        t.cstate k = 1 ∧ t.coreH k = h ∧ t.boundCore k = true ∧
        t.rf (CRX_CLU_STS.BOUND n (k.val / 8 % 4)) = s.rf (CRX_CLU_STS.BOUND n (k.val / 8 % 4)) + 1 ∧
        t.rb (CRX_CLU_STS.OWNED n (k.val / 8 % 4)) = true ∧ t.rf (CRX_CLU_STS.HARNESS n (k.val / 8 % 4)) = h ∧
        (∀ i, i < 256 → t.flagOf (lfKey k i) = false) ∧ (h ≠ 0 → ∀ o, o < sizeL → t.mem.readByte h (addrL k o) = 0) ∧
        t.rf (CRX_BIND_CMD.STATUS n) = 0 ∧ t.rb (CRX_BIND_CMD.BUSY n) = false ∧
        t.comp.binds = s.comp.binds.filter (fun b => b.die != n.val)))) ∧
  (∀ (s : State) (src : Src), awake s →
    (∀ (b : Fin 64) (h : Fin 4096), s.opens src (CRX_PFLAG_BIND.a (b.val / 4) (b.val % 4)) → s.comp.waits = [] →
      runs (.pflagBind src b h) s (fun t =>
        (∀ i, i < 64 → t.pflagH (64 * b.val + i) = some h.val ∧ t.flagOf (pfKey (64 * b.val + i)) = false) ∧
        (∀ key, (key < pfKey (64 * b.val) ∨ pfKey (64 * b.val + 64) ≤ key) → t.flagOf key = s.flagOf key) ∧
        s.frame t [.comp] (fun a => a = CRX_PFLAG_BIND.a (b.val / 4) (b.val % 4)))) ∧
    (∀ (n : Fin 16) (v : Word), s.opens src (CRX_CCH_DATA.a n) →
      (v.field 0 1 = 1 → ((s.cchOf (s.cchSel n)).field 0 1 = 1 ∨ v.field 16 16 = 0) →
        turnedAway (.cchWrite src n v) s src (CRX_CCH_DATA.a n) 0x0E) ∧
      (v.field 0 1 = 1 → (s.cchOf (s.cchSel n)).field 0 1 = 0 → v.field 16 16 ≠ 0 →
        runs (.cchWrite src n v) s (fun t =>
          t.cchH (s.cchSel n) = some (v.field 1 12) ∧ t.cchCap (s.cchSel n) = v.field 16 16 ∧
          t.cchCount (s.cchSel n) = v.field 16 16 ∧ (∀ g, g ≠ s.cchSel n → t.cchOf g = s.cchOf g) ∧
          t.comp.waits = s.comp.waits ∧
          t.rf (CRX_CCH_CTL.INDEX n) = (s.rf (CRX_CCH_CTL.INDEX n) + (if s.rb (CRX_CCH_CTL.AUTOINC n) then 1 else 0)) % 4096 ∧
          s.frame t [.comp] (fun a => a = CRX_CCH_CTL.a n))) ∧
      (∀ k : Fin 512, v.field 0 1 = 0 → (s.cchOf (s.cchSel n)).field 0 1 = 1 → s.comp.flights = [] → s.rope.ctxs = [] →
        (∃ m, s.comp.waits = [⟨k, .credit (s.cchSel n) m, false, 0⟩]) →
        runs (.cchWrite src n v) s (fun t =>
          t.cchH (s.cchSel n) = none ∧ t.cstate k = 5 ∧ t.rf (CRX_CORE_FAULT.STATUS k) = 0x08 ∧
          t.rf (CRX_CORE_FAULT_ADDR.V k) = s.cchSel n ∧ t.comp.waits = []))) ∧
    (∀ (n : Fin 16) (i : Fin 32) (v : Word), s.opens src (CRX_JUMAR_CFG.a n i) →
      runs (.jumarCfgWrite src n i v) s (fun t =>
        t.rf (CRX_JUMAR_CFG.VALID n i) = v.field 0 1 ∧ t.rf (CRX_JUMAR_CFG.HARNESS n i) = v.field 1 12 ∧
        t.rf (CRX_JUMAR_CFG.LIMIT n i) = v.field 32 32 ∧ t.rf (CRX_JUMAR_CFG.RESET n i) = 0 ∧
        (v.field 13 1 = 0 → s.frame t [] (fun a => a = CRX_JUMAR_CFG.a n i)) ∧
        (v.field 13 1 = 1 → t.jumar (64 * n.val + 2 * i.val) = 0 ∧ t.jumar (64 * n.val + 2 * i.val + 1) = 0)) ∧
      runs (.jumarReset src n i) s (fun t =>
        t.jumar (64 * n.val + 2 * i.val) = 0 ∧ t.jumar (64 * n.val + 2 * i.val + 1) = 0 ∧
        t.jumarH (64 * n.val + 2 * i.val) = s.jumarH (64 * n.val + 2 * i.val) ∧
        t.rf (CRX_JUMAR_CFG.LIMIT n i) = s.rf (CRX_JUMAR_CFG.LIMIT n i) ∧
        s.frame t [] (fun a => a = CRX_JUMAR_CFG.a n i ∨ a = CRX_JUMAR_EVEN.a n i ∨ a = CRX_JUMAR_ODD.a n i))))

/-- R158, R161, R196, R198, R515, R523: GO starts a HALTED or FAULTED core of a RUNNING harness at its entry and clears its fault
registers; any other GO changes no core and counts in HRN_CNT_FAULTS of harness 0. HALT takes a core that runs or waits to HALTED, its
wait ended and what it had issued gone. A failed self-check takes a core to FAILED. No rope context is held here; every engine
instruction in flight is the core's own and not started.
R187, R189, R193, R194, R195, R196, R282: a core whose wait has become true goes on at the next instruction, from WAITING or from
BIVOUAC; a WAITING core with its queues empty and tolerance of at least 100 µs enters BIVOUAC; a wait that outlasts WAIT_LIMIT_US faults
with TIMEOUT (no rope context is held here, nothing is in flight). -/
def Obligations.CoreControlAndWaits : Prop :=
  (∀ (s : State) (src : Src) (k : Fin 512), awake s →
    (s.opens src (CRX_CORE_CTL.a k) →
      ((s.cstate k = 1 ∨ s.cstate k = 5) → s.mayRun (s.coreH k) = true →
        runs (.go src k) s (fun t =>
          t.cstate k = 2 ∧ t.pc k = (s.cst k).entry % 2 ^ 32 ∧
          (s.cstate k = 5 → t.reg (CRX_CORE_FAULT.a k) = 0 ∧ t.reg (CRX_CORE_FAULT_ADDR.a k) = 0) ∧
          s.frame t [] (fun a => a = CRX_CORE_STS.a k ∨ a = CRX_CORE_PC.a k ∨ a = CRX_CORE_FAULT.a k ∨ a = CRX_CORE_FAULT_ADDR.a k))) ∧
      ((s.cstate k ≠ 1 ∧ s.cstate k ≠ 5 ∨ s.mayRun (s.coreH k) = false) →
        runs (.go src k) s (fun t =>
          t.reg (HRN_CNT_FAULTS.a 0) = Word.ofN ((s.reg (HRN_CNT_FAULTS.a 0)).toNat + 1) ∧
          s.frame t [.sticky] (fun a => a = HRN_CNT_FAULTS.a 0))) ∧
      (s.rope.ctxs = [] → (∀ f ∈ s.comp.flights, f.core = k.val ∧ f.started = false) →
        (s.cstate k = 2 ∨ s.cstate k = 3 ∨ s.cstate k = 4) →
        runs (.coreHalt src k) s (fun t =>
          t.cstate k = 1 ∧ t.comp.flights = [] ∧ t.waitOf k = none ∧ t.pc k = s.pc k ∧
          s.frame t [.comp, .mfb] (fun a => a = CRX_CORE_STS.a k))) ∧
      ((s.cstate k = 0 ∨ s.cstate k = 1 ∨ s.cstate k = 5 ∨ s.cstate k = 6) → s.comp.flights = [] →
        runs (.coreHalt src k) s (fun t => t.cstate k = s.cstate k ∧ s.frame t [.comp] (fun _ => False)))) ∧
    (s.rope.ctxs = [] → s.cstate k ≠ 6 → (∀ f ∈ s.comp.flights, f.core = k.val ∧ f.started = false) →
      runs (.inServiceSelfCheck k) s (fun t =>
        t.cstate k = 6 ∧ t.boundCore k = s.boundCore k ∧ t.comp.flights = [] ∧
        s.frame t (.comp :: .mfb :: State.recordParts) (fun a => a = CRX_CORE_STS.a k ∨ State.recordReg a)))) ∧
  (∀ (s : State) (k : Fin 512) (w : Wait), awake s → s.waitOf k = some w →
    (∀ c : Instr, w.met = true →
      (c = .bivouacExit k ∧ s.cstate k = 4 ∨ c = .flagWaitSatisfied k ∧ s.cstate k = 3 ∧ (∃ key v clr, w.op = .flag key v clr) ∨
        c = .creditTakeServed k ∧ s.cstate k = 3 ∧ (∃ g m, w.op = .credit g m) ∨
        c = .jumarWaitSatisfied k ∧ s.cstate k = 3 ∧ (∃ j v, w.op = .jumar j v)) →
      runs c s (fun t =>
        t.cstate k = 2 ∧ t.pc k = (s.pc k + 1) % 2 ^ 32 ∧ t.waitOf k = none ∧
        (∀ j, j ≠ k.val → t.waitOf j = s.waitOf j) ∧ (∀ j r, t.sreg j r = s.sreg j r) ∧
        s.frame t [.comp] (fun a => a = CRX_CORE_STS.a k ∨ a = CRX_CORE_PC.a k))) ∧
    (s.cstate k = 3 → 1 ≤ s.rf (CRX_CORE_STS.WAIT_KIND k) → s.rf (CRX_CORE_STS.WAIT_KIND k) ≤ 5 → s.flightsOf k = [] →
      s.rf (CRX_CORE_CFG.BIVOUAC_US k) ≠ 0 → 100 ≤ (s.reg (HRN_WAKE.a (s.coreH k))).field 0 16 →
      runs (.bivouacEnter k) s (fun t =>
        t.cstate k = 4 ∧ t.waitOf k = some w ∧
        t.reg (CRX_CNT_BIVOUAC.V k).a = Word.ofN ((s.reg (CRX_CNT_BIVOUAC.V k).a).toNat + 1) ∧
        s.frame t [.sticky] (fun a => a = CRX_CORE_STS.a k ∨ a = (CRX_CNT_BIVOUAC.V k).a))) ∧
    (w.met = false → (s.cstate k = 3 ∨ s.cstate k = 4) → s.rf (CRX_CORE_CFG.WAIT_LIMIT_US k) ≠ 0 → s.rope.ctxs = [] →
      s.comp.flights = [] →
      runs (.waitLimitExpire k) s (fun t =>
        t.cstate k = 5 ∧ t.rf (CRX_CORE_FAULT.STATUS k) = 0x07 ∧ t.rf (CRX_CORE_FAULT.UNIT k) = 0 ∧
        t.rf (CRX_CORE_FAULT.INSTR k) = s.pc k ∧ t.waitOf k = none ∧
        (∃ r, t.fault.raised = s.fault.raised ++ [r] ∧ r.what.sev = 2 ∧ r.what.harness = s.coreH k))))

/-- R261, R262, R263, R264, R287: a load or load-and-launch while BUSY is refused; one that fails the checks ends with the status and REASON
of the first that fails and changes no core; one that passes executes. When it completes, every core of its mask holds the image's
identifier, entry and arguments and is HALTED, or RUNNING at the entry where it is to launch and its harness may run; STATUS is OK. For
one core of a tenant whose image has one L segment at 0 of whole words, L holds the segment. No bind command waits for the load. -/
def Obligations.ProgramLoads : Prop :=
  ∀ (s : State) (src : Src) (n : Fin 16) (mask : BitVec 32) (img : Image) (c : Instr) (op : Nat), awake s →
    (s.opens src (CRX_LOAD_CMD.a n) → (c = .coreLoad src n mask img ∧ op = 1 ∨ c = .loadLaunch src n mask img ∧ op = 2) →
      (s.rb (CRX_LOAD_CMD.BUSY n) = true → turnedAway c s src (CRX_LOAD_CMD.a n) 0x0E) ∧
      (s.rb (CRX_LOAD_CMD.BUSY n) = false →
        (∀ st why, s.loadCheck (State.maskCores n mask.toNat) op (s.rf (CRX_LOAD_SRC.HARNESS n)) (s.rf (CRX_LOAD_SRC.V n))
            (s.rf (CRX_LOAD_LEN.V n)) img = (st, why) → st ≠ 0 → st < 256 → why < 16 →
          runs c s (fun t =>
            t.rf (CRX_LOAD_CMD.STATUS n) = st ∧ t.rb (CRX_LOAD_CMD.BUSY n) = false ∧ t.rf (CRX_LOAD_REASON.V n) = why ∧
            s.frame t [] (fun a => a = CRX_LOAD_CMD.a n ∨ a = CRX_LOAD_REASON.a n ∨ a = CRX_LOAD_SHORT_L.a n ∨
              a = CRX_LOAD_SHORT_S.a n ∨ a = CRX_LOAD_SHORT_H.a n ∨ a = CRX_LOAD_SHORT_RES.a n))) ∧
        (s.loadCheck (State.maskCores n mask.toNat) op (s.rf (CRX_LOAD_SRC.HARNESS n)) (s.rf (CRX_LOAD_SRC.V n))
            (s.rf (CRX_LOAD_LEN.V n)) img = (0, 0) →
          runs c s (fun t =>
            t.comp.loads = s.comp.loads ++ [⟨n, State.maskCores n mask.toNat, op == 2,
              s.coreH ((State.maskCores n mask.toNat).headD 0), img, (List.range 8).map (fun a => s.reg (CRX_LOAD_ARG.a n a)), none, false⟩] ∧
            t.rb (CRX_LOAD_CMD.BUSY n) = true ∧ s.frame t [.comp] (fun a => a = CRX_LOAD_CMD.a n))))) ∧
    (∀ l : Load, s.comp.loads.find? (fun x => x.die == n.val) = some l → l.run = none → l.args.length = 8 → s.comp.binds = [] →
      (∀ k ∈ l.cores, k < 512) →
      runs (.loadComplete n) s (fun t =>
        t.comp.loads = s.comp.loads.erase l ∧ t.rb (CRX_LOAD_CMD.BUSY n) = false ∧
        t.rf (CRX_LOAD_CMD.STATUS n) = (if l.launch && !(s.mayRun l.h && !l.halt) then 0x0E else 0) ∧
        (∀ k ∈ l.cores,
          t.cstate k = (if l.launch && (s.mayRun l.h && !l.halt) then 2 else 1) ∧ t.pc k = l.img.entry % 2 ^ 32 ∧
          t.reg (CRX_CORE_IMAGE.a k) = l.img.ident ∧ (t.cst k).stack = [] ∧
          (∀ r, r < 8 → t.sreg k r = l.args.getD r 0) ∧ (∀ r, 8 ≤ r → r < 32 → t.sreg k r = 0)) ∧
        (∀ k bs m, l.cores = [k] → s.coreH k ≠ 0 → l.img.data = [(0, bs)] → bs.length = 8 * m → 8 * m + l.img.code ≤ sizeL →
          ∀ i, i < 8 * m → t.mem.readByte (s.coreH k) (addrL k i) = bs.getD i 0)))

/-- R183, R184, R278: the scalar and memory instructions of the sequencer of core k, which runs and has no register still to be written.
Arithmetic, logic, shifts, comparisons, mov and time write sD; ld reads an aligned word of L inside the data region that is not poison
and that no instruction in flight writes; st writes one, and no other byte its harness can read changes (nothing is in flight); an
unaligned word or one outside the data region faults with DENIED (nothing is in flight, no rope context held). The core goes on at the
next instruction; time reads plane time within 100 ns. -/
def Obligations.SequencerArithmetic : Prop :=
  ∀ (s : State) (k : Fin 512) (d a : Fin 32) (b : Opd) (c : Instr), awake s → s.able k →
    (∀ v : Word,
      (c = .add k d a b ∧ v = s.sreg k a + State.opdOf (s.sreg k) b ∨ c = .sub k d a b ∧ v = s.sreg k a - State.opdOf (s.sreg k) b ∨
        c = .mul k d a b ∧ v = s.sreg k a * State.opdOf (s.sreg k) b ∨
        c = .and k d a b ∧ v = s.sreg k a &&& State.opdOf (s.sreg k) b ∨
        c = .or k d a b ∧ v = s.sreg k a ||| State.opdOf (s.sreg k) b ∨
        c = .xor k d a b ∧ v = s.sreg k a ^^^ State.opdOf (s.sreg k) b ∨
        c = .shl k d a b ∧ v = Word.ofN ((s.sreg k a).toNat * 2 ^ ((State.opdOf (s.sreg k) b).toNat % 64)) ∨
        c = .shr k d a b ∧ v = Word.ofN ((s.sreg k a).toNat / 2 ^ ((State.opdOf (s.sreg k) b).toNat % 64)) ∨
        c = .sar k d a b ∧ v = BitVec.ofInt 64 ((s.sreg k a).toInt / 2 ^ ((State.opdOf (s.sreg k) b).toNat % 64)) ∨
        c = .min k d a b ∧ v.toInt = Min.min (s.sreg k a).toInt (State.opdOf (s.sreg k) b).toInt ∨
        c = .max k d a b ∧ v.toInt = Max.max (s.sreg k a).toInt (State.opdOf (s.sreg k) b).toInt ∨
        c = .minu k d a b ∧ v.toNat = Min.min (s.sreg k a).toNat (State.opdOf (s.sreg k) b).toNat ∨
        c = .maxu k d a b ∧ v.toNat = Max.max (s.sreg k a).toNat (State.opdOf (s.sreg k) b).toNat ∨
        (∃ cc, c = .cmp k cc d a b ∧ v = if State.condHolds cc (s.sreg k a) (State.opdOf (s.sreg k) b) then 1 else 0) ∨
        c = .mov k d (.imm v) ∨ c = .mov k d (.reg a) ∧ v = s.sreg k a ∨
        (∃ δ : Int, c = .time k d δ ∧ -100 ≤ δ ∧ δ ≤ 100 ∧ v = BitVec.ofInt 64 (s.now + δ))) →
      runs c s (fun t =>
        s.stepped t k { s.cst k with sregs := (s.cst k).sregs.set d v } (s.pc k + 1) ∧
        t.comp.flags = s.comp.flags ∧ t.comp.waits = s.comp.waits ∧ t.comp.cch = s.comp.cch ∧
        s.frame t [.comp] (fun x => x = CRX_CORE_PC.a k))) ∧
    (∀ (base : Arg) (v : Nat), v = (State.argOf (s.sreg k) base).toNat →
      (s.wordOk k v = true →
        (s.raced [(addrL k v, 8)] = false → s.mem.badWords (s.coreH k) (addrL k v) 8 = [] →
          runs (.ld k d base) s (fun t =>
            s.stepped t k { s.cst k with sregs := (s.cst k).sregs.set d (Word.ofN (leNat (s.mem.read (s.coreH k) (addrL k v) 8))) }
              (s.pc k + 1) ∧
            s.frame t [.comp] (fun x => x = CRX_CORE_PC.a k))) ∧
        (s.comp.flights = [] →
          runs (.st k base a) s (fun t =>
            s.stepped t k (s.cst k) (s.pc k + 1) ∧
            (∀ x, t.mem.readByte (s.coreH k) x =
              if addrL k v ≤ x ∧ x < addrL k v + 8 then (bytesLE 8 (s.sreg k a).toNat).getD (x - addrL k v) 0
              else s.mem.readByte (s.coreH k) x) ∧
            s.frame t [.mem] (fun x => x = CRX_CORE_PC.a k)))) ∧
      (s.wordOk k v = false → s.rope.ctxs = [] → s.comp.flights = [] →
        runs (.ld k d base) s (fun t => s.faulted t k 0x08 v) ∧ runs (.st k base a) s (fun t => s.faulted t k 0x08 v)))

/-- R258, R278, R286, R400: the control instructions. jmp, br, brz and loop branch to an instruction index or go on; call pushes the next
index and faults with OVERFLOW at 16 levels; ret pops and faults with UNDERFLOW on an empty stack; nop goes on; idle goes on once nothing
issued is left, and waits before; halt, once drained, leaves the core HALTED with sA in CRX_CORE_EXIT and the flag it names set. In a
fault nothing is in flight and no rope context is held.
R186 to R192, R256, R279 to R282: flags, credit channels and jumar counters. An instruction on a flag, channel or counter the core's
harness holds has its effect and the core goes on, or the core waits; the faults of a bad number, a bad count, a channel without credits
or capacity, and a pair whose odd counter would pass its even one or fall behind by more than LIMIT. One core acts; no other wait exists;
in a fault nothing is in flight and no rope context is held. -/
def Obligations.SequencerControl : Prop :=
  (∀ (s : State) (k : Fin 512) (a : Fin 32) (l : Fin 1048576), awake s → s.able k →
    (∀ (c : Instr) (x : Nat) (st : CoreSt),
      (c = .jmp k l ∧ x = l ∧ st = s.cst k ∨ c = .nop k ∧ x = s.pc k + 1 ∧ st = s.cst k ∨
        c = .br k a l ∧ x = (if s.sreg k a = 0 then s.pc k + 1 else l.val) ∧ st = s.cst k ∨
        c = .brz k a l ∧ x = (if s.sreg k a = 0 then l.val else s.pc k + 1) ∧ st = s.cst k ∨
        c = .loop k a l ∧ x = (if s.sreg k a = 1 then s.pc k + 1 else l.val) ∧
          st = { s.cst k with sregs := (s.cst k).sregs.set a (s.sreg k a - 1) } ∨
        c = .idle k ∧ s.flightsOf k = [] ∧ x = s.pc k + 1 ∧ st = s.cst k) →
      runs c s (fun t => s.stepped t k st x ∧ t.comp.flags = s.comp.flags ∧ t.comp.waits = s.comp.waits ∧
        s.frame t [.comp] (fun x => x = CRX_CORE_PC.a k))) ∧
    ((s.cst k).stack.length < 16 →
      runs (.call k l) s (fun t =>
        s.stepped t k { s.cst k with stack := (s.pc k + 1) :: (s.cst k).stack } l ∧
        t.rf (CRX_CORE_PC.DEPTH k) = (s.cst k).stack.length + 1 ∧ s.frame t [.comp] (fun x => x = CRX_CORE_PC.a k))) ∧
    (∀ p rest, (s.cst k).stack = p :: rest → rest.length < 32 →
      runs (.ret k) s (fun t =>
        s.stepped t k { s.cst k with stack := rest } p ∧ t.rf (CRX_CORE_PC.DEPTH k) = rest.length ∧
        s.frame t [.comp] (fun x => x = CRX_CORE_PC.a k))) ∧
    (s.rope.ctxs = [] → s.comp.flights = [] →
      (16 ≤ (s.cst k).stack.length → runs (.call k l) s (fun t => s.faulted t k 0x0D 0)) ∧
      ((s.cst k).stack = [] → runs (.ret k) s (fun t => s.faulted t k 0x0C 0))) ∧
    (s.flightsOf k ≠ [] →
      runs (.idle k) s (fun t => t.cstate k = 3 ∧ t.rf (CRX_CORE_STS.WAIT_KIND k) = 6 ∧ t.pc k = s.pc k ∧
        s.frame t [.comp] (fun x => x = CRX_CORE_STS.a k)) ∧
      runs (.halt k a none) s (fun t => t.cstate k = 3 ∧ t.rf (CRX_CORE_STS.WAIT_KIND k) = 6 ∧ t.pc k = s.pc k ∧
        s.frame t [.comp] (fun x => x = CRX_CORE_STS.a k))) ∧
    (s.flightsOf k = [] →
      runs (.halt k a none) s (fun t =>
        t.cstate k = 1 ∧ t.reg (CRX_CORE_EXIT.a k) = s.sreg k a ∧ t.pc k = (s.pc k + 1) % 2 ^ 32 ∧
        (t.cst k).sregs = (s.cst k).sregs ∧ t.comp.flags = s.comp.flags) ∧
      (∀ n : Fin 256, s.comp.waits = [] →
        runs (.halt k a (some (.lf n))) s (fun t =>
          t.cstate k = 1 ∧ t.reg (CRX_CORE_EXIT.a k) = s.sreg k a ∧ t.flagOf (lfKey k n) = true)))) ∧
  (∀ (s : State) (k : Fin 512) (d a : Fin 32), awake s → s.able k → s.comp.waits = [] →
    (∀ (f : FlagRef) (key : Nat), s.flagKey k f = .inl key →
      runs (.fset k f) s (fun t => s.stepped t k (s.cst k) (s.pc k + 1) ∧ (∀ x, t.flagOf x = (x == key || s.flagOf x)) ∧
        s.frame t [.comp] (fun x => x = CRX_CORE_PC.a k)) ∧
      runs (.fclr k f) s (fun t => s.stepped t k (s.cst k) (s.pc k + 1) ∧ (∀ x, t.flagOf x = (x != key && s.flagOf x)) ∧
        s.frame t [.comp] (fun x => x = CRX_CORE_PC.a k)) ∧
      runs (.ftest k d f) s (fun t =>
        s.stepped t k { s.cst k with sregs := (s.cst k).sregs.set d (if s.flagOf key then 1 else 0) } (s.pc k + 1) ∧
        t.comp.flags = s.comp.flags ∧ s.frame t [.comp] (fun x => x = CRX_CORE_PC.a k)) ∧
      (∀ v : Bool,
        (s.flagOf key = v → runs (.fwait k f v) s (fun t => s.stepped t k (s.cst k) (s.pc k + 1) ∧ t.comp.flags = s.comp.flags)) ∧
        (s.flagOf key ≠ v → runs (.fwait k f v) s (fun t => t.cstate k = 3 ∧ t.waitOf k = some ⟨k, .flag key v false, false, 0⟩ ∧
          t.comp.flags = s.comp.flags ∧ s.frame t [.comp] (fun x => x = CRX_CORE_STS.a k)))) ∧
      (s.flagOf key = true → runs (.fwaitClr k f) s (fun t => s.stepped t k (s.cst k) (s.pc k + 1) ∧
        (∀ x, t.flagOf x = (x != key && s.flagOf x)))) ∧
      (s.flagOf key = false → runs (.fwaitClr k f) s (fun t => t.cstate k = 3 ∧ t.comp.flags = s.comp.flags))) ∧
    (∀ (f : FlagRef) (st v : Nat), s.flagKey k f = .inr (st, v) → s.rope.ctxs = [] → s.comp.flights = [] →
      runs (.fset k f) s (fun t => s.faulted t k st v) ∧ runs (.fwaitClr k f) s (fun t => s.faulted t k st v)) ∧
    (∀ (cc : Arg) (n : Opd64) (g m : Nat), g = (State.argOf (s.sreg k) cc).toNat → m = (State.opd64Of (s.sreg k) n).toNat →
      (g < 65536 → 1 ≤ m → m ≤ 65535 → s.cchH g = some (s.coreH k) →
        (m ≤ s.cchCount g → ∀ c : Instr, (c = .ctake k cc n ∧ m ≤ s.cchCap g ∨ c = .ctakeNw k cc n) →
          runs c s (fun t => s.stepped t k (s.cst k) (s.pc k + 1) ∧ t.cchCount g = s.cchCount g - m ∧ t.cchCap g = s.cchCap g ∧
            (∀ x, x ≠ g → t.cchOf x = s.cchOf x) ∧ s.frame t [.comp] (fun x => x = CRX_CORE_PC.a k))) ∧
        (s.cchCount g < m → m ≤ s.cchCap g →
          runs (.ctake k cc n) s (fun t => t.cstate k = 3 ∧ t.waitOf k = some ⟨k, .credit g m, false, 0⟩ ∧ t.cchOf g = s.cchOf g)) ∧
        (s.cchCount g + m ≤ s.cchCap g →
          runs (.cret k cc n) s (fun t => s.stepped t k (s.cst k) (s.pc k + 1) ∧ t.cchCount g = s.cchCount g + m ∧
            (∀ x, x ≠ g → t.cchOf x = s.cchOf x) ∧ s.frame t [.comp] (fun x => x = CRX_CORE_PC.a k))) ∧
        runs (.cread k d cc) s (fun t =>
          s.stepped t k { s.cst k with sregs := (s.cst k).sregs.set d (Word.ofN (s.cchCount g)) } (s.pc k + 1) ∧
          t.comp.cch = s.comp.cch ∧ s.frame t [.comp] (fun x => x = CRX_CORE_PC.a k))) ∧
      (s.rope.ctxs = [] → s.comp.flights = [] →
        (65536 ≤ g → runs (.ctake k cc n) s (fun t => s.faulted t k 0x0E g)) ∧
        (g < 65536 → (m = 0 ∨ 65535 < m) → runs (.cret k cc n) s (fun t => s.faulted t k 0x0E m)) ∧
        (g < 65536 → 1 ≤ m → m ≤ 65535 → s.cchH g ≠ some (s.coreH k) → runs (.ctake k cc n) s (fun t => s.faulted t k 0x08 g)) ∧
        (g < 65536 → 1 ≤ m → m ≤ 65535 → s.cchH g = some (s.coreH k) →
          (s.cchCap g < m → runs (.ctake k cc n) s (fun t => s.faulted t k 0x0C g)) ∧
          (s.cchCount g < m → runs (.ctakeNw k cc n) s (fun t => s.faulted t k 0x0C g)) ∧
          (s.cchCap g < s.cchCount g + m → runs (.cret k cc n) s (fun t => s.faulted t k 0x0D g))))) ∧
    (∀ (j : Arg) (n : Nat), n = (State.argOf (s.sreg k) j).toNat → n < 1024 → s.jumarH n = some (s.coreH k) →
      runs (.jread k d j) s (fun t =>
        s.stepped t k { s.cst k with sregs := (s.cst k).sregs.set d (Word.ofN (s.jumar n)) } (s.pc k + 1) ∧
        s.frame t [.comp] (fun x => x = CRX_CORE_PC.a k)) ∧
      ((s.sreg k a).toNat ≤ s.jumar n → runs (.jwait k j a) s (fun t => s.stepped t k (s.cst k) (s.pc k + 1))) ∧
      (s.jumar n < (s.sreg k a).toNat → runs (.jwait k j a) s (fun t =>
        t.cstate k = 3 ∧ t.rf (CRX_CORE_STS.WAIT_KIND k) = 5 ∧ s.frame t [.comp] (fun x => x = CRX_CORE_STS.a k))) ∧
      (∀ (v : Opd64) (m e o : Nat), m = (State.opd64Of (s.sreg k) v).toNat → 1 ≤ m → m < 2 ^ 32 →
        e = s.jumar (n / 2 * 2) + (if n % 2 = 0 then m else 0) → o = s.jumar (n / 2 * 2 + 1) + (if n % 2 = 1 then m else 0) →
        (o ≤ e → e - o ≤ s.rf (CRX_JUMAR_CFG.LIMIT (n / 64) (n % 64 / 2)) → e < 2 ^ 64 →
          runs (.jadd [⟨k, j, v⟩]) s (fun t =>
            s.stepped t k (s.cst k) (s.pc k + 1) ∧ t.jumar (n / 2 * 2) = e ∧ t.jumar (n / 2 * 2 + 1) = o ∧
            s.frame t [.comp] (fun x => x = CRX_CORE_PC.a k ∨ x = CRX_JUMAR_EVEN.a (n / 64) (n % 64 / 2) ∨
              x = CRX_JUMAR_ODD.a (n / 64) (n % 64 / 2)))) ∧
        (s.rope.ctxs = [] → s.comp.flights = [] → e < o → runs (.jadd [⟨k, j, v⟩]) s (fun t => s.faulted t k 0x0C n)) ∧
        (s.rope.ctxs = [] → s.comp.flights = [] → o ≤ e → s.rf (CRX_JUMAR_CFG.LIMIT (n / 64) (n % 64 / 2)) < e - o →
          runs (.jadd [⟨k, j, v⟩]) s (fun t => s.faulted t k 0x0D n)))))

/-- R182, R183, R196, R270, R284: every engine and TEN instruction whose form Proit accepts, on a core that runs and has no register it
reads still to be written. A full queue stalls the SEQ before it. Where its engine is busy it is queued with the scalar registers it
captured, and the core goes on. Where its engine is free and nothing of its queue waits, its checks are made: one that fails faults the
core; where they pass, it is in progress with the result of its operation (VRE, GSE, SSE and CDC). In a fault no rope context is held. -/
def Obligations.EngineInstructionsIssue : Prop :=
  ∀ (s : State) (c : Instr) (k : Fin 512) (op : EngOp) (o : Opts) (f : Flight), awake s → c.engineOp = some (k, op, o) →
    okEng op o = true → s.running k = true → s.hazard k (engReads op o) = false →
    f = { no := s.comp.next, core := k, eng := engOf op, op := op, opts := o, sregs := (s.cst k).sregs, pc := s.pc k, started := false,
          srcs := [], dsts := [], taint := false, res := EngRes.none, data := [], parts := [], fill := [], undef := [],
          stream := none } →
    (s.queueFull k (engOf op) = true →
      runs c s (fun t => t.cstate k = 3 ∧ t.rf (CRX_CORE_STS.WAIT_KIND k) = 6 ∧ t.pc k = s.pc k ∧ t.comp.flights = s.comp.flights ∧
        s.frame t [.comp] (fun a => a = CRX_CORE_STS.a k))) ∧
    (s.queueFull k (engOf op) = false →
      (engOf op ≤ 4 ∧ (∃ x ∈ s.comp.flights, x.core = k.val ∧ x.eng = engOf op ∧ x.started = true) ∨
        engOf op = 5 ∧ 16 ≤ (s.comp.flights.filter (fun x => x.core == k.val && x.eng == 5 && x.started)).length ∨
        engOf op = 6 ∧ (∃ x ∈ s.comp.flights, x.core / 8 = k.val / 8 ∧ x.eng = 6 ∧ x.started = true)) →
      runs c s (fun t =>
        t.cst k = s.cst k ∧ t.pc k = (s.pc k + 1) % 2 ^ 32 ∧ t.cstate k = 2 ∧ t.comp.flights = s.comp.flights ++ [f] ∧
        t.comp.next = s.comp.next + 1 ∧ s.frame t [.comp] (fun a => a = CRX_CORE_PC.a k))) ∧
    (s.queueFull k (engOf op) = false → engOf op ≤ 4 → (∀ x ∈ s.comp.flights, x.core = k.val → x.eng ≠ engOf op) →
      ∀ u : State, u = (s.withComp { s.comp with flights := s.comp.flights ++ [f], next := s.comp.next + 1 }).nextPc k →
        (startCheck u ⟨k, f.sregs, o⟩ (engOf op) op = none →
          runs c s (fun t =>
            t.pc k = (s.pc k + 1) % 2 ^ 32 ∧ t.cstate k = 2 ∧ t.cst k = s.cst k ∧
            ∃ g ∈ t.comp.flights, g.no = f.no ∧ g.core = k.val ∧ g.op = op ∧ g.started = true ∧
              g.res = (compute u ⟨k, f.sregs, o⟩ op).1)) ∧
        (∀ st un ad, startCheck u ⟨k, f.sregs, o⟩ (engOf op) op = some (st, un, ad) → s.rope.ctxs = [] →
          (∀ x ∈ s.comp.flights, x.core ≠ k.val) →
          runs c s (fun t =>
            t.cstate k = 5 ∧ t.rf (CRX_CORE_FAULT.STATUS k) = st ∧ t.rf (CRX_CORE_FAULT.UNIT k) = un ∧
            t.rf (CRX_CORE_FAULT.INSTR k) = s.pc k ∧ t.rf (CRX_CORE_FAULT_ADDR.V k) = ad % 2 ^ 64)))

/-- R184, R196, R275, R276, R277, R291, R293, R310, R396, R398: an instruction in progress, alone in flight and read or written by no
other unit, completes on its engine (for the FDE, an fde.amo whose one request is answered). Its writes, one run of L or S that merges
with no poison, reach memory; its registers, its status word, its flags and then its done flag are set; the core has nothing in flight.
An operation whose check or index faulted, an uncorrectable state of the core and a failed TEN column fault the core instead. No rope
context is held; nothing waits. -/
def Obligations.EngineCompletion : Prop :=
  ∀ (s : State) (k : Fin 512) (e : Fin 7) (f : Flight), awake s → s.comp.flights = [f] → f.core = k.val → f.eng = e.val →
    f.started = true → s.comp.waits = [] → s.rope.ctxs = [] →
    (e.val ≠ 5 → f.taint = false → f.undef = [] → f.res.fault = none → f.res.cnts = [] → f.opts.done = none →
      (f.res.writes = [] ∨
        ∃ a bs, f.res.writes = [(a, bs)] ∧ 0x10000000000 ≤ a ∧ s.mem.mergeFails (s.ownOf a) a bs.length = []) →
      runs (.engineComplete k e 0 .none) s (fun t =>
        t.comp.flights = [] ∧
        (∀ a bs, f.res.writes = [(a, bs)] → t.mem = s.mem.write (s.ownOf a) a bs) ∧ (f.res.writes = [] → t.mem = s.mem) ∧
        t.cst k = { s.cst k with
          sregs := (f.res.regs ++ f.opts.st.toList.map (fun x =>
            (x.val, Word.ofN (statusWord f.res.status f.res.flags f.res.oob)))).foldl (fun l x => l.set x.1 x.2) (s.cst k).sregs,
          arith := (s.cst k).arith ||| f.res.flags, kept := f.res.kept.getD (s.cst k).kept } ∧
        t.reg (CRX_CORE_ARITH.a k) = Word.ofN ((s.reg (CRX_CORE_ARITH.a k)).toNat ||| f.res.flags) ∧
        s.frame t [.mem, .comp] (fun a => a = CRX_CORE_ARITH.a k))) ∧
    (∀ n : Fin 256, e.val ≠ 5 → f.taint = false → f.undef = [] → f.res.fault = none → f.opts.done = some (.lf n) →
      runs (.engineComplete k e 0 .none) s (fun t => t.flagOf (lfKey k n) = true ∧ t.comp.flights = [])) ∧
    (∀ sd x a b fn w64 sg od an fl no v data, e.val = 5 → f.op = .fdeAmo sd x a b fn w64 sg od an fl → f.opts.done = none → f.opts.st = none →
      f.taint = false → f.undef = [] → f.fill = [] → f.stream = none → f.res = EngRes.none → f.parts = [⟨no, 0, 8, v⟩] →
      s.mfb.coreRsp = [⟨k, no, 0, data⟩] →
      runs (.engineComplete k e 0 .none) s (fun t =>
        t.comp.flights = [] ∧ t.mfb.coreRsp = [] ∧ (t.cst k).sregs = (s.cst k).sregs.set sd (Word.ofN (leNat (data.take 8))) ∧
        t.mem = s.mem)) ∧
    (∀ st ad want got, e.val ≠ 5 → f.taint = false → f.undef = [] → f.res.fault = some (st, ad, 0, want, got) → st ≠ 6 → st < 256 →
      f.res.writes = [] → f.res.cnts = [] →
      runs (.engineComplete k e 0 .none) s (fun t =>
        t.cstate k = 5 ∧ t.rf (CRX_CORE_FAULT.STATUS k) = st ∧ t.rf (CRX_CORE_FAULT.UNIT k) = e ∧
        t.rf (CRX_CORE_FAULT_ADDR.V k) = ad % 2 ^ 64 ∧ (t.cst k).sregs = (s.cst k).sregs ∧ t.comp.flights = [])) ∧
    runs (.engineComplete k e 0 .state) s (fun t =>
      t.cstate k = 6 ∧ t.rf (CRX_CORE_FAULT.STATUS k) = 0x06 ∧ t.rf (CRX_CORE_FAULT.UNIT k) = e ∧ t.comp.flights = []) ∧
    (∀ want got : Word, e.val = 6 →
      runs (.engineComplete k e 0 (.column want got)) s (fun t =>
        t.cstate k = 5 ∧ t.rf (CRX_CORE_FAULT.STATUS k) = 0x0A ∧ t.rf (CRX_CORE_FAULT_ADDR.V k) = got.toNat ∧
        t.reg (CRX_CNT_TEN_FAIL.V (k.val / 32)).a = Word.ofN ((s.reg (CRX_CNT_TEN_FAIL.V (k.val / 32)).a).toNat + 1)))

/-- R229, R230, R233: merge is commutative and, short of saturation, associative; so the accumulator of a list of terms whose magnitudes
together stay below 126 · 2^480 does not depend on their order, and its exact value is their sum. -/
def Obligations.AccumulatorsMergeInAnyOrder : Prop :=
  (∀ a b : Acc, Acc.merge a b = Acc.merge b a) ∧
  (∀ l m : List Acc, l.Perm m → (∀ a ∈ l, -(2 ^ 479) ≤ a.v ∧ a.v < 2 ^ 479 ∧ a.wrap = 0) →
    (l.map (fun a => a.v.natAbs)).sum < 126 * 2 ^ 480 →
    mergeAll l = mergeAll m ∧ (mergeAll l).x = (l.map (fun a => a.v)).sum)

/-- R301, R302: the order in which sse.sort and sse.topk take the elements of a row is a rearrangement of all of them with their positions,
ascending or descending by key, and elements with equal keys stand in order of position. -/
def Obligations.SortsAreStable : Prop :=
  ∀ (f : Fmt) (desc : Bool) (codes : List Nat),
    (sortRow f desc codes).Perm (withPos codes) ∧
    (sortRow f desc codes).Pairwise (fun x y =>
      (if desc then sortKey f y.1 < sortKey f x.1 else sortKey f x.1 < sortKey f y.1) ∨
        sortKey f x.1 = sortKey f y.1 ∧ x.2 < y.2)

/-- R324, R327, R328, R329, R349, R350, R354: the commands of a rope context on crux die n, and its watchdog. A command while BUSY is
refused. CREATE of a free number by a descriptor that passes the checks makes a READY context with the descriptor and its members and
takes a unit of the quota and the scratch of R324; REFORM of an idle context by a descriptor of another epoch remakes it; ABORT breaks
a context with cause FLUSHED; DESTROY of an idle context removes it and returns its unit; each sets BUSY and will complete with OK. A
command the state of the context does not permit will complete with REJECT and changes no context. Completion sets STATUS. The watchdog
breaks a context with an open operation with cause TIMEOUT, and a harness fault is on its way. -/
def Obligations.RopeContextCommands : Prop :=
  ∀ (s : State) (src : Src) (n : Fin 16) (ctx : Fin 16384) (d : List Word) (ms : List Member) (c0 : RopeCtx) (bytes : Nat), awake s →
    d = (List.range 8).map (fun w => s.reg (CRX_ROPE_D.a n w)) → c0 = State.newCtx n ctx d ms →
    bytes = c0.bytesOf (s.localRanks c0).length →
    (s.opens src (CRX_ROPE_CMD.a n) →
      (s.rb (CRX_ROPE_CMD.BUSY n) = true →
        turnedAway (.ropeCreate src n ctx) s src (CRX_ROPE_CMD.a n) 0x0E ∧ turnedAway (.ropeReform src n ctx) s src (CRX_ROPE_CMD.a n) 0x0E ∧
        turnedAway (.ropeAbort src n ctx) s src (CRX_ROPE_CMD.a n) 0x0E ∧ turnedAway (.ropeDestroy src n ctx) s src (CRX_ROPE_CMD.a n) 0x0E) ∧
      (s.rb (CRX_ROPE_CMD.BUSY n) = false → s.mpStopped = false →
        (s.findRope ctx = none → s.grantable c0.harness = true → s.descOk d = true → s.quotaOk .ctx c0.harness 1 = true →
          s.cluOwner c0.cluster = none → s.maxFoot c0.cluster + s.rf (CRX_CLU_SRES.BYTES n (c0.cluster % 4)) + bytes ≤ 0x1800000 →
          s.readMembers n d = some ms → s.membersOk c0 = true →
          runs (.ropeCreate src n ctx) s (fun t =>
            t.findRope ctx = some { c0 with bytes := bytes } ∧ t.rb (CRX_ROPE_CMD.BUSY n) = true ∧ lookupKey t.rope.cmds n.val = some 0 ∧
            t.rf (CRX_CLU_SRES.BYTES n (c0.cluster % 4)) = s.rf (CRX_CLU_SRES.BYTES n (c0.cluster % 4)) + bytes ∧
            (c0.harness ≠ 0 → s.rf (HRN_Q_CTX.USED c0.harness) < 16384 →
              t.rf (HRN_Q_CTX.USED c0.harness) = s.rf (HRN_Q_CTX.USED c0.harness) + 1))) ∧
        (∀ c, s.findRope ctx = some c → c.die = n.val →
          ((c.broken = true ∨ c.ops = []) → c0.epoch ≠ c.epoch → s.grantable c0.harness = true → s.descOk d = true →
            c.cluster = c0.cluster → c.harness = c0.harness → s.cluOwner c0.cluster = some c0.harness →
            s.maxFoot c0.cluster + (s.rf (CRX_CLU_SRES.BYTES n (c0.cluster % 4)) - c.bytes) + bytes ≤ 0x1800000 →
            s.readMembers n d = some ms → s.membersOk c0 = true →
            runs (.ropeReform src n ctx) s (fun t =>
              t.findRope ctx = some { c0 with bytes := bytes } ∧ t.rb (CRX_ROPE_CMD.BUSY n) = true ∧
              lookupKey t.rope.cmds n.val = some 0)) ∧
          (c.broken = false → c.ctx = ctx.val →
            runs (.ropeAbort src n ctx) s (fun t =>
              (∃ c', t.findRope ctx = some c' ∧ c'.broken = true ∧ c'.cause = 0x02 ∧ c'.ops = [] ∧ c'.desc = c.desc) ∧
              t.rb (CRX_ROPE_CMD.BUSY n) = true ∧ lookupKey t.rope.cmds n.val = some 0)) ∧
          ((c.broken = true ∨ c.ops = []) →
            runs (.ropeDestroy src n ctx) s (fun t =>
              t.findRope ctx = none ∧ t.rb (CRX_ROPE_CMD.BUSY n) = true ∧ lookupKey t.rope.cmds n.val = some 0 ∧
              (c.harness ≠ 0 → s.hrnState c.harness ≠ 0 →
                t.rf (HRN_Q_CTX.USED c.harness) = s.rf (HRN_Q_CTX.USED c.harness) - 1)))) ∧
        (∀ i : Instr, (i = .ropeCreate src n ctx ∧ (s.findRope ctx).isSome = true ∨
            (i = .ropeReform src n ctx ∨ i = .ropeAbort src n ctx ∨ i = .ropeDestroy src n ctx) ∧ s.findRope ctx = none) →
          runs i s (fun t =>
            t.rope.ctxs = s.rope.ctxs ∧ t.rb (CRX_ROPE_CMD.BUSY n) = true ∧ lookupKey t.rope.cmds n.val = some 0x0E ∧
            s.frame t [.rope] (fun a => a = CRX_ROPE_CMD.a n))))) ∧
    (∀ st : Nat, st < 256 → lookupKey s.rope.cmds n.val = some st →
      runs (.ropeCommandComplete n) s (fun t =>
        t.rf (CRX_ROPE_CMD.STATUS n) = st ∧ t.rb (CRX_ROPE_CMD.BUSY n) = false ∧ t.rope.ctxs = s.rope.ctxs ∧
        lookupKey t.rope.cmds n.val = none ∧ s.frame t [.rope] (fun a => a = CRX_ROPE_CMD.a n))) ∧
    (∀ c o rest, s.findRope ctx = some c → c.ctx = ctx.val → c.broken = false → c.ops = o :: rest →
      runs (.ropeWatchdog ctx) s (fun t =>
        (∃ c', t.findRope ctx = some c' ∧ c'.broken = true ∧ c'.cause = 0x07 ∧ c'.ops = []) ∧
        (∃ r, t.fault.raised.getLast? = some r ∧ r.what.cls = 0x07 ∧ r.what.code = 0x02 ∧ r.what.sev = 2 ∧
          r.what.harness = c.harness)))

/-- R327, R331, R335, R336, R340, R341, R343, R344, R350: rope frames at their home cluster. A frame of a context that is not homed there
is counted in CRX_CNT_ROPE_BAD, one of a broken context or another epoch in CRX_CNT_ROPE_STALE; neither has any other effect. What one
frame of each OP does in an open operation that nothing else can finish: a CONTRIB of a SUM enters its chunk with its residue and the
contributor's window; a PARTIAL of a MIN or MAX from a child enters its chunk; a RESULT frame that is not its chunk's last is held for
the core that receives it; a CREDIT settles a chunk that was sent up and frees it; a SUMMARY of a child is kept; a COUNTS frame of a
device is kept and its LAST noted; an A2A block frame from another device counts toward its receiver; an ABORT breaks the context with
its status. A CONTRIB of a member that carries no CRC breaks the context with CHECK. -/
def Obligations.RopeFramesAtTheirHome : Prop :=
  (∀ (s : State) (clu : Fin 64) (f : Frame) (x : Steered) (i : Instr), awake s → f.kind = 2 → s.landed (.cluster clu) f = some x →
    (i = .contrib clu f .none ∧ f.op = 1 ∨ i = .ropePartial clu f .none ∧ f.op = 2 ∨ i = .ropeResult clu f .none ∧ f.op = 3 ∨
      i = .credit clu f .none ∧ f.op = 4 ∨ i = .summary clu f ∧ f.op = 5 ∨ i = .counts clu f ∧ f.op = 6 ∨ i = .a2a clu f ∧ f.op = 7 ∨
      i = .ropeAbortFrame clu f ∧ f.op = 8) →
    (s.findRope f.ctx = none →
      runs i s (fun t => t.fwd.inbox = s.fwd.inbox.erase x ∧
        t.reg (CRX_CNT_ROPE_BAD.V (clu.val / 4)).a = Word.ofN ((s.reg (CRX_CNT_ROPE_BAD.V (clu.val / 4)).a).toNat + 1) ∧
        s.frame t [.fwd, .sticky] (fun a => a = (CRX_CNT_ROPE_BAD.V (clu.val / 4)).a))) ∧
    (∀ c, s.findRope f.ctx = some c → c.cluster = clu.val → c.broken = true →
      runs i s (fun t => t.fwd.inbox = s.fwd.inbox.erase x ∧
        t.reg (CRX_CNT_ROPE_STALE.V (clu.val / 4)).a = Word.ofN ((s.reg (CRX_CNT_ROPE_STALE.V (clu.val / 4)).a).toNat + 1) ∧
        s.frame t [.fwd, .sticky] (fun a => a = (CRX_CNT_ROPE_STALE.V (clu.val / 4)).a)))) ∧
  (∀ (s : State) (clu : Fin 64) (f : Frame) (c : RopeCtx) (x : Steered) (o : RopeOp) (k : Nat), awake s → s.ropeTakes clu f c x →
    c.ctx = f.ctx → (∀ c' ∈ s.rope.ctxs, c'.ctx = c.ctx → c' = c) → c.ops = [o] → o.opno = State.opnoOf f → o.word = f.addr →
    o.fin = [] → o.freed = [] → s.comp.flights = [] →
    -- CONTRIB
    (∀ r, f.op = 1 → s.memberOf c x.ingress f = some r → c.isSum f.addr = true → k = c.enters f.addr r (State.chunkOf f) →
      o.begunBy r = State.chunkOf f → State.chunkOf f < c.sendsOf f.addr r → f.frag = 0 → 0 < c.lenOf f.addr k →
      f.payload.length = Min.min (c.perFrame c.inFmt) (c.lenOf f.addr k) * c.inFmt.bytes → c.unsettled r < c.slots → o.chunks = [] →
      s.isTop c f.addr 0 = true → s.inTree c f.addr 0 = true → 1 ≤ c.chunksOf f.addr → (∃ q ∈ s.sources c f.addr k, q ≠ r) →
      runs (.contrib clu f .none) s (fun t => t.fwd.inbox = s.fwd.inbox.erase x ∧
        (∃ o' y, t.opIs f.ctx o.opno o' ∧ o'.begunBy r = State.chunkOf f + 1 ∧ o'.chunk? k = some y ∧
          y.ins = [⟨r, 0, ((piecesOf c.inFmt.bytes (f.payload.length / c.inFmt.bytes) f.payload).map (fun b =>
            Acc.ofVal c.ovf (decodeElem c.inFmt (leNat b) 0))), []⟩] ∧
          y.sum = residueVals c.seed (c.baseOf f.addr k % 2 ^ 48)
            ((piecesOf c.inFmt.bytes (f.payload.length / c.inFmt.bytes) f.payload).map (fun b => decodeElem c.inFmt (leNat b) 0))) ∧
        (∃ c', t.findRope f.ctx = some c' ∧ c'.unsettled r = c.unsettled r + 1) ∧
        s.frame t [.fwd, .rope] (fun _ => False))) ∧
    -- PARTIAL
    (∀ from_, f.op = 2 → s.partialSrc c f = some from_ → c.merging f.addr = true → c.isSum f.addr = false → opColl f.addr ≠ 6 →
      k = State.chunkOf f → k < c.chunksOf f.addr → f.frag = 0 → 0 < c.lenOf f.addr k →
      f.len = Min.min (c.perFrame c.inFmt) (c.lenOf f.addr k) * c.inFmt.bytes → 0 < c.slots → o.chunks = [] →
      s.isTop c f.addr 0 = true → s.inTree c f.addr 0 = true → 1 ≤ c.chunksOf f.addr → (∃ q ∈ s.sources c f.addr k, q ≠ from_) →
      runs (.ropePartial clu f .none) s (fun t => t.fwd.inbox = s.fwd.inbox.erase x ∧
        (∃ o' y, t.opIs f.ctx o.opno o' ∧ o'.chunk? k = some y ∧
          y.ins = [⟨from_, 0, [], (piecesOf c.inFmt.bytes (f.len / c.inFmt.bytes) f.payload).map leNat⟩]) ∧
        s.frame t [.fwd, .rope] (fun _ => False))) ∧
    -- RESULT
    (∀ r y, f.op = 3 → s.isTop c f.addr (State.chunkOf f) = false → s.upFeid c f.addr (State.chunkOf f) = f.src →
      c.merging f.addr = true → opColl f.addr ≠ 6 → k = State.chunkOf f → k < c.chunksOf f.addr → o.chunks = [y] → y.c = k → y.up = true →
      y.down = [] → f.frag = 0 → c.perFrame (c.downFmt f.addr) < c.lenOf f.addr k → s.kidsTaking c f.addr k = [] →
      (s.localRanks c).filter (c.receives f.addr k) = [r] → (c.member r).core = true → c.fed = false → o.told = true →
      s.inTree c f.addr k = true →
      runs (.ropeResult clu f .none) s (fun t => t.fwd.inbox = s.fwd.inbox.erase x ∧
        (∃ c', t.findRope f.ctx = some c' ∧ c'.held = c.held ++ [(r, o.opno, k, 0, f.payload)]) ∧
        (∃ o' y', t.opIs f.ctx o.opno o' ∧ o'.chunk? k = some y' ∧ y'.down = [0]) ∧ s.frame t [.fwd, .rope] (fun _ => False))) ∧
    -- CREDIT
    (∀ y j, f.op = 4 → s.isTop c f.addr (State.chunkOf f) = false → s.upFeid c f.addr (State.chunkOf f) = f.src → c.merging f.addr = true →
      k = State.chunkOf f → o.chunks = [y] → y.c = k → y.up = true →
      s.childrenOf c (s.summitOf c f.addr k) s.devIndex = [] → (∀ r ∈ s.localRanks c, (c.member r).core = true) →
      s.isTop c f.addr 0 = false → o.told = true → j ∈ s.handled c f.addr → j ≠ k →
      runs (.credit clu f .none) s (fun t => t.fwd.inbox = s.fwd.inbox.erase x ∧
        (∃ c', t.findRope f.ctx = some c' ∧ c'.owed = c.owed - 1) ∧
        (∃ o', t.opIs f.ctx o.opno o' ∧ o'.chunks = [] ∧ o'.freed = [k]) ∧ s.frame t [.fwd, .rope] (fun _ => False))) ∧
    -- SUMMARY
    (∀ d e, f.op = 5 → s.devOfFeid c.die f.src = some d → d ∈ s.childrenOf c (s.summitOf c f.addr 0) s.devIndex →
      e ∈ s.childrenOf c (s.summitOf c f.addr 0) s.devIndex → e ≠ d → o.kids = [] → o.told = false → o.chunks = [] →
      s.inTree c f.addr 0 = true →
      runs (.summary clu f) s (fun t => t.fwd.inbox = s.fwd.inbox.erase x ∧
        (∃ o', t.opIs f.ctx o.opno o' ∧ o'.kids = [(d, Summary.ofBytes f.payload)] ∧ o'.told = false) ∧
        s.frame t [.fwd, .rope] (fun _ => False))) ∧
    -- COUNTS
    (∀ d r, f.op = 6 → s.memberOf c x.ingress f = none → s.devOfFeid c.die f.src = some d → d ∈ c.devs → opColl f.addr = 8 →
      o.a2a.phase = 0 → o.a2a.arrived = [] → o.a2a.ended = [] → r ∈ s.localRanks c → State.vecDone c o r = false → o.chunks = [] → o.told = false →
      s.inTree c f.addr 0 = true →
      runs (.counts clu f) s (fun t => t.fwd.inbox = s.fwd.inbox.erase x ∧
        (∃ o', t.opIs f.ctx o.opno o' ∧ o'.a2a.phase = 0 ∧
          o'.a2a.counts = o.a2a.counts ++ ((piecesOf 8 (f.len / 8) f.payload).map (fun b => (leAt b 0 2, leAt b 2 2, leAt b 4 4))).filter
            (fun e => (c.member e.2.1).dev == s.devIndex) ∧
          o'.a2a.lasts = (if f.last then insertNat o.a2a.lasts d else o.a2a.lasts)) ∧
        s.frame t [.fwd, .rope] (fun _ => False))) ∧
    -- A2A
    (∀ r, f.op = 7 → s.rankOf c f.src = some r → (c.member r).dev ≠ s.devIndex → k = State.chunkOf f → (c.member k).dev = s.devIndex →
      (c.member k).core = false → opColl f.addr = 7 → k ∈ s.localRanks c → o.a2a.ended = [] → o.a2a.got = [] → o.chunks = [] →
      f.len / c.inFmt.bytes < c.ranks * opCount f.addr → (∀ j ∈ s.localRanks c, 0 < c.ranks * opCount f.addr ∧ j = k) → o.told = true →
      s.inTree c f.addr 0 = true →
      runs (.a2a clu f) s (fun t =>
        (∃ o', t.opIs f.ctx o.opno o' ∧ o'.a2a.got = [(r, k, f.len / c.inFmt.bytes)] ∧ o'.a2a.ended = []))) ∧
    -- ABORT
    (f.op = 8 →
      runs (.ropeAbortFrame clu f) s (fun t =>
        ∃ c', t.findRope f.ctx = some c' ∧ c'.broken = true ∧ c'.cause = f.tstatus ∧ c'.ops = []))) ∧
  -- a CONTRIB without a CRC
  (∀ (s : State) (clu : Fin 64) (f : Frame) (c : RopeCtx) (x : Steered) (r : Nat), awake s → s.landed (.cluster clu) f = some x →
    s.findRope f.ctx = some c → c.cluster = clu.val → c.broken = false → c.epoch = f.epoch → f.kind = 2 → f.op = 1 → f.checkKind ≠ 1 →
    s.memberOf c x.ingress f = some r →
    runs (.contrib clu f .none) s (fun t =>
      ∃ c', t.findRope f.ctx = some c' ∧ c'.broken = true ∧ c'.cause = 0x0A ∧ c'.ops = []))

/-- R357, R360, R361: the commands of a gate context on crux die n. A command while BUSY is refused. CREATE of a free number by a
descriptor that passes the checks makes a READY context with the descriptor, no token and no heat, takes a unit of the quota, and copies
the weights and the host table (here no word of them is poison); REFORM by a descriptor of another epoch and the same harness remakes it
and keeps its heat (here it holds no token and writes no witness ring); DESTROY removes it and returns its unit. Each sets BUSY and will
complete with OK. A command the context's state does not permit will complete with REJECT and changes no context. Completion sets
STATUS. -/
def Obligations.GateContextCommands : Prop :=
  ∀ (s : State) (src : Src) (n : Fin 16) (ctx : BitVec 14) (d : List Word) (c0 : GateCtx), awake s →
    d = (List.range 8).map (fun w => s.reg (CRX_GATE_D.a n w)) →
    c0 = { ctx := ctx.toNat, die := n.val, desc := d, broken := false, cause := 0, weights := [], pred := [], hosts := [], masks := [],
           bytes := [], base := 0, ring := 0, tokens := [], landed := 0, heat := [], recent := [], tally := GateTally.zero } →
    (s.opens src (CRX_GATE_CMD.a n) →
      (s.rb (CRX_GATE_CMD.BUSY n) = true →
        turnedAway (.gateCreate src n ctx) s src (CRX_GATE_CMD.a n) 0x0E ∧ turnedAway (.gateReform src n ctx) s src (CRX_GATE_CMD.a n) 0x0E ∧
        turnedAway (.gateDestroy src n ctx) s src (CRX_GATE_CMD.a n) 0x0E) ∧
      (s.rb (CRX_GATE_CMD.BUSY n) = false → s.mpStopped = false →
        (∀ wr hr, s.findGate ctx.toNat = none → s.gateFits n c0 none →
          s.hRange c0.harness ((c0.word 3).field 0 40) c0.allWeights = some wr → s.hRange c0.harness ((c0.word 4).field 0 40) (4 * c0.e) = some hr →
          wr.flatMap (fun r => s.mem.badWords c0.harness r.1 r.2) = [] → hr.flatMap (fun r => s.mem.badWords c0.harness r.1 r.2) = [] →
          runs (.gateCreate src n ctx) s (fun t =>
            (∃ c, t.findGate ctx.toNat = some c ∧ c.die = n.val ∧ c.desc = d ∧ c.broken = false ∧ c.tokens = [] ∧ c.heat = [] ∧
              c.weights = s.mem.readRuns c0.harness wr ∧
              c.hosts = (List.range c0.e).map (fun i => leAt (s.mem.readRuns c0.harness hr) (4 * i) 4)) ∧
            t.rb (CRX_GATE_CMD.BUSY n) = true ∧ lookupKey t.gate.cmds n.val = some 0 ∧
            (c0.harness ≠ 0 → s.rf (HRN_Q_CTX.USED c0.harness) < 16384 →
              t.rf (HRN_Q_CTX.USED c0.harness) = s.rf (HRN_Q_CTX.USED c0.harness) + 1))) ∧
        (∀ c, s.findGate ctx.toNat = some c → c.die = n.val → c.ctx = ctx.toNat → s.rf (HRN_WIT_CFG.MODE c.harness) = 0 →
          (c.tokens = [] → c.epoch ≠ c0.epoch → c.harness = c0.harness → c.bytes ≠ [] → s.gateFits n c0 (some c) →
            (∀ p, p < c0.passes → s.cluOwner (c0.cluster p) ≠ none → s.rb (CRX_CLU_STS.OWNED (c0.cluster p / 4) (c0.cluster p % 4)) = false →
              (lookupKey c.bytes (c0.cluster p)).isSome = true) →
            runs (.gateReform src n ctx) s (fun t =>
              (∃ c', t.findGate ctx.toNat = some c' ∧ c'.desc = d ∧ c'.broken = false ∧ c'.tokens = [] ∧ c'.heat = c.heat ∧
                c'.landed = c.landed ∧ c'.tally = GateTally.zero) ∧
              t.rb (CRX_GATE_CMD.BUSY n) = true ∧ lookupKey t.gate.cmds n.val = some 0)) ∧
          runs (.gateDestroy src n ctx) s (fun t =>
            t.findGate ctx.toNat = none ∧ t.rb (CRX_GATE_CMD.BUSY n) = true ∧ lookupKey t.gate.cmds n.val = some 0 ∧
            (c.harness ≠ 0 → s.hrnState c.harness ≠ 0 →
              t.rf (HRN_Q_CTX.USED c.harness) = s.rf (HRN_Q_CTX.USED c.harness) - 1))) ∧
        (∀ i : Instr, (i = .gateCreate src n ctx ∧ (s.findGate ctx.toNat).isSome = true ∨
            (i = .gateReform src n ctx ∨ i = .gateDestroy src n ctx) ∧ s.findGate ctx.toNat = none) →
          runs i s (fun t =>
            t.gate.ctxs = s.gate.ctxs ∧ t.rb (CRX_GATE_CMD.BUSY n) = true ∧ lookupKey t.gate.cmds n.val = some 0x0E ∧
            s.frame t [.gate] (fun a => a = CRX_GATE_CMD.a n))))) ∧
    (∀ st : Nat, st < 256 → lookupKey s.gate.cmds n.val = some st →
      runs (.gateCommandComplete n) s (fun t =>
        t.rf (CRX_GATE_CMD.STATUS n) = st ∧ t.rb (CRX_GATE_CMD.BUSY n) = false ∧ t.gate.ctxs = s.gate.ctxs ∧
        lookupKey t.gate.cmds n.val = none ∧ s.frame t [.gate] (fun a => a = CRX_GATE_CMD.a n)))

/-- R364 to R371: a TOKEN at the gating cluster. Of no context there, of a broken one, or of another epoch it is discarded and counted in
CRX_CNT_GATE_STALE; one that finds every slot in use stays where it landed; the first frame of a longer token takes the lowest free slot;
a whole token of the wrong length is answered REJECT and one whose (endpoint, SEQ) is in flight DUPLICATE. A whole token of a program
context lands in its slot of S, its slot number in the landing ring, and one credit goes to the notify channel. One of a context that
gates itself, with no logit a NaN, is dispatched to the K best experts that have a host, with their gate values, and counts in their
heat. A poisoned one is counted and answered.
R363, R369, R370, R373 to R375: what becomes of a token. A selection record of a program context's one landed token dispatches it to
the expert it names, or answers it POISON where it names none. A mask DISPATCH's first frame goes on to each endpoint of this device it
names, with a record cut to it. An OUTPUT of nothing in flight is discarded and counted; one that is not its token's last is kept; the
last one combines, answers with status OK and the combined elements, and frees the slot; where the dual rounding differs the answer is
CHECK. TIMEOUT_US answers TIMEOUT and is a harness fault. -/
def Obligations.TokensAndTheirAnswers : Prop :=
  (∀ (s : State) (clu : Fin 64) (f : Frame) (x : Steered), awake s → f.kind = 3 → f.op = 1 →
    s.landed (.cluster clu) f = some x →
    (∀ n : Nat, (s.findGate f.ctx = none ∧ n = clu.val / 4 ∨ (∃ c, s.findGate f.ctx = some c ∧ c.broken = true ∧ n = clu.val / 4) ∨
        (∃ c, s.gateTakes clu f c x ∧ c.epoch ≠ f.epoch ∧ n = c.die)) →
      runs (.token clu f) s (fun t => t.fwd.inbox = s.fwd.inbox.erase x ∧
        t.reg (CRX_CNT_GATE_STALE.V n).a = Word.ofN ((s.reg (CRX_CNT_GATE_STALE.V n).a).toNat + 1) ∧
        s.frame t [.fwd, .sticky] (fun a => a = (CRX_CNT_GATE_STALE.V n).a))) ∧
    (∀ c, s.gateTakes clu f c x → c.epoch = f.epoch →
      (f.first = true → f.len = c.tokBytes → State.freeSlot c = none → c.tokens.any (fun t => t.src == f.src && t.seq == f.seq) = false →
        runs (.token clu f) s (fun t => t = s)) ∧
      (∀ i, f.first = true → f.last = false → State.freeSlot c = some i → c.tokens.any (fun t => t.src == f.src && t.seq == f.seq) = false →
        (∀ t ∈ c.tokens, t.slot ≠ i) →
        runs (.token clu f) s (fun t => t.fwd.inbox = s.fwd.inbox.erase x ∧
          (∃ c', t.findGate f.ctx = some c' ∧
            c'.tokens = c.tokens ++ [⟨i, f.src, f.seq, [(f.frag, f.payload)], none, f.tstatus == 0x06, 0, [], [], 0, 0⟩]) ∧
          s.frame t [.fwd, .gate] (fun _ => False))) ∧
      (∀ (P st : Nat), f.first = true → f.last = true → s.reaches c.die c.harness 0 f.src P → s.fault.outUnits = [] →
        (f.len ≠ c.tokBytes ∧ st = 0x0E ∨
          f.len = c.tokBytes ∧ c.tokens.any (fun t => t.src == f.src && t.seq == f.seq) = true ∧ st = stDUPLICATE) →
        runs (.token clu f) s (fun t => t.fwd.inbox = s.fwd.inbox.erase x ∧ t.gate = s.gate ∧
          s.queued t P (fun g => g.kind = 3 ∧ g.op = 2 ∧ g.dst = f.src ∧ g.seq = f.seq ∧ g.tstatus = st ∧ g.payload = []))) ∧
      (f.first = true → f.last = true → f.frag = 0 → f.len = c.tokBytes → f.payload.length = c.tokBytes → c.tokens = [] → 0 < c.slots →
        (f.tstatus ≠ 0x06 → c.program = true → s.comp.waits = [] → s.comp.flights = [] →
          s.cchCount (4096 * c.die + c.notify) + 1 ≤ s.cchCap (4096 * c.die + c.notify) →
          s.mem.mergeFails c.harness (addrS clu c.base) c.tokBytes = [] →
          (s.mem.writeRuns c.harness [(addrS clu c.base, c.tokBytes)] f.payload).mergeFails c.harness (addrS clu (c.ring + c.landed % 256)) 1 = [] →
          runs (.token clu f) s (fun t => t.fwd.inbox = s.fwd.inbox.erase x ∧
            (∃ c' tk, t.findGate f.ctx = some c' ∧ c'.tokens = [tk] ∧ tk.slot = 0 ∧ tk.src = f.src ∧ tk.seq = f.seq ∧ tk.phase = 1 ∧
              c'.landed = c.landed + 1) ∧
            t.cchCount (4096 * c.die + c.notify) = s.cchCount (4096 * c.die + c.notify) + 1 ∧
            t.mem = (s.mem.writeRuns c.harness [(addrS clu c.base, c.tokBytes)] f.payload).writeRuns c.harness
              [(addrS clu (c.ring + c.landed % 256), 1)] [0#8] ∧
            t.reg (CRX_CNT_GATE_TOKEN.V c.die).a = Word.ofN ((s.reg (CRX_CNT_GATE_TOKEN.V c.die).a).toNat + 1))) ∧
        (∀ (vals : List Val) (logits ranking : List (Nat × Nat)), f.tstatus ≠ 0x06 → c.program = false → c.predOn = false →
          c.prefetch = false → c.overflow = 0 → 1 ≤ c.k →
          vals = (piecesOf c.tokFmt.bytes c.h f.payload).map (fun b => decodeElem c.tokFmt (leNat b) 0) →
          logits = (List.range c.e).map (fun i => (i, c.logit vals i)) → logits.any (fun p => isNanCode .fp32 p.2) = false →
          ranking = sortDesc (fun p => rankKey p.2) (logits.filter (fun p => (c.host p.1).isSome)) → ranking ≠ [] →
          runs (.token clu f) s (fun t => t.fwd.inbox = s.fwd.inbox.erase x ∧
            (∃ c' tk, t.findGate f.ctx = some c' ∧ c'.tokens = [tk] ∧ tk.slot = 0 ∧ tk.src = f.src ∧ tk.seq = f.seq ∧ tk.phase = 3 ∧
              tk.chosen.map (fun y => y.e) = (ranking.take c.k).map (fun p => p.1) ∧
              tk.chosen.map (fun y => y.g) = gateValues c.norm ((ranking.take c.k).map (fun p => p.2)) (ranking.map (fun p => p.2)) ∧
              (∀ p ∈ ranking.take c.k, lookupKey c'.heat p.1 = some (min 0xFFFFFFFF ((lookupKey c.heat p.1).getD 0 + 1)))))) ∧
        (∀ P, f.tstatus = 0x06 → c.resBytes ≤ 4096 → c.tally.tokens + 1 < 65536 → s.reaches c.die c.harness 0 f.src P → s.fault.outUnits = [] →
          runs (.token clu f) s (fun t => t.fwd.inbox = s.fwd.inbox.erase x ∧
            (∃ c', t.findGate f.ctx = some c' ∧ c'.tokens = [] ∧ c'.tally.tokens = c.tally.tokens + 1 ∧
              c'.tally.poisoned = c.tally.poisoned + 1) ∧
            s.queued t P (fun g => g.kind = 3 ∧ g.op = 2 ∧ g.dst = f.src ∧ g.seq = f.seq ∧ g.tstatus = 0x06 ∧ g.payload = allOnes c.resBytes) ∧
            t.reg (CRX_CNT_GATE_POISON.V c.die).a = Word.ofN ((s.reg (CRX_CNT_GATE_POISON.V c.die).a).toNat + 1)))))) ∧
  ((∀ (s : State) (ctx : BitVec 14) (r : SelRec) (c : GateCtx) (tk : Token), awake s →
    s.gate.recs.find? (fun y => y.ctx == ctx.toNat) = some r → s.findGate ctx.toNat = some c → c.ctx = ctx.toNat → c.broken = false →
    c.program = true → c.tokens = [tk] → tk.slot = leAt r.bytes 0 1 → tk.phase = 1 → c.overflow = 0 → c.prefetch = false →
    s.fault.outUnits = [] →
    (leAt r.bytes 1 1 = 1 → 1 ≤ c.k → leAt r.bytes 4 2 % 4096 < c.e → (c.host (leAt r.bytes 4 2 % 4096)).isSome = true →
      runs (.selectionRecord ctx) s (fun t =>
        t.gate.recs = s.gate.recs.erase r ∧
        ∃ c', t.findGate ctx.toNat = some c' ∧
          c'.tokens = [{ tk with phase := 3, chosen := [⟨0, leAt r.bytes 4 2 % 4096, leAt r.bytes 20 4, [], false⟩] }])) ∧
    (∀ P, leAt r.bytes 1 1 = 0 → c.resBytes ≤ 4096 → c.tally.tokens + 1 < 65536 → s.reaches c.die c.harness 0 tk.src P →
      runs (.selectionRecord ctx) s (fun t =>
        t.gate.recs = s.gate.recs.erase r ∧ (∃ c', t.findGate ctx.toNat = some c' ∧ c'.tokens = []) ∧
        s.queued t P (fun g => g.kind = 3 ∧ g.op = 2 ∧ g.dst = tk.src ∧ g.tstatus = 0x06)))) ∧
  (∀ (s : State) (clu : Fin 64) (f : Frame) (c : GateCtx) (x : Steered) (P fd : Nat) (es : List (Nat × Nat × Nat)), awake s →
    f.kind = 4 → f.op = 1 → s.gateTakes clu f c x → f.frag = 0 → f.last = false → f.mcast = false → f.trav = false → c.masks = [] →
    s.maskHosts c f.payload = [(fd, es)] → s.reaches c.die f.harness f.cls fd P → s.fault.outUnits = [] →
    runs (.dispatch clu f) s (fun t =>
      t.fwd.inbox = s.fwd.inbox.erase x ∧
      (∃ c', t.findGate f.ctx = some c' ∧ c'.masks = [(f.addr % 2 ^ 18, f.seq, [fd])]) ∧
      s.queued t P (fun g => g.kind = 4 ∧ g.op = 1 ∧ g.dst = fd ∧ g.seq = f.seq ∧
        g.payload = dispatchRecord (leAt f.payload 0 4 % 2 ^ 18) (leAt f.payload 0 4 / 2 ^ 18 % 64) (leAt f.payload 4 4) (leAt f.payload 8 1) es))) ∧
  (∀ (s : State) (clu : Fin 64) (f : Frame) (k : HwCheck) (x : Steered), awake s → f.kind = 4 → f.op = 2 →
    s.landed (.cluster clu) f = some x →
    (s.findGate f.ctx = none →
      runs (.output clu f k) s (fun t => t.fwd.inbox = s.fwd.inbox.erase x ∧
        t.reg (CRX_CNT_GATE_STALE.V (clu.val / 4)).a = Word.ofN ((s.reg (CRX_CNT_GATE_STALE.V (clu.val / 4)).a).toNat + 1) ∧
        s.frame t [.fwd, .sticky] (fun a => a = (CRX_CNT_GATE_STALE.V (clu.val / 4)).a))) ∧
    (∀ (c : GateCtx) (tk : Token) (y : Chosen), s.gateTakes clu f c x → c.tokens = [tk] → tk.slot = f.addr / 2 ^ 43 % 256 → tk.phase = 3 →
      tk.src = f.addr % 2 ^ 18 → tk.seq = f.seq → y.rank = f.addr / 2 ^ 36 % 8 → y.e = f.addr / 2 ^ 24 % 4096 → y.done = false → y.got = [] →
      f.first = true → f.last = true → f.frag = 0 → f.payload.length = c.outBytes → s.fault.outUnits = [] →
      (∀ z : Chosen, tk.chosen = [y, z] → z.done = false → z.rank ≠ y.rank →
        runs (.output clu f k) s (fun t => t.fwd.inbox = s.fwd.inbox.erase x ∧
          (∃ c', t.findGate f.ctx = some c' ∧
            c'.tokens = [{ tk with chosen := [{ y with got := [(0, f.payload)], done := true }, z] }]) ∧
          s.frame t [.fwd, .gate] (fun _ => False))) ∧
      (∀ P, tk.chosen = [y] → c.resBytes ≤ 4096 → c.tally.tokens + 1 < 65536 → s.reaches c.die c.harness 0 tk.src P →
        (k ≠ .dual → (∀ n, c.rnd ≠ .sr n) →
          runs (.output clu f k) s (fun t => t.fwd.inbox = s.fwd.inbox.erase x ∧
            (∃ c', t.findGate f.ctx = some c' ∧ c'.tokens = [] ∧ c'.tally.tokens = c.tally.tokens + 1) ∧
            s.queued t P (fun g => g.kind = 3 ∧ g.op = 2 ∧ g.dst = tk.src ∧ g.seq = f.seq ∧ g.tstatus = 0 ∧
              g.payload = (List.range c.h).flatMap (fun i => bytesLE c.resFmt.bytes
                (finishAcc c.resFmt c.rnd c.ovf 0 (Acc.empty.merge (Acc.ofProd c.ovf (decodeElem .fp32 y.g 0)
                  (((piecesOf c.outFmt.bytes c.h f.payload).map (fun b => decodeElem c.outFmt (leNat b) 0)).getD i .nan)))).1)))) ∧
        (k = .dual →
          runs (.output clu f k) s (fun t => t.fwd.inbox = s.fwd.inbox.erase x ∧
            (∃ c', t.findGate f.ctx = some c' ∧ c'.tokens = []) ∧
            s.queued t P (fun g => g.kind = 3 ∧ g.op = 2 ∧ g.dst = tk.src ∧ g.seq = f.seq ∧ g.tstatus = stCHECK) ∧
            t.reg (CRX_CNT_DUAL_FAIL.V c.die).a = Word.ofN ((s.reg (CRX_CNT_DUAL_FAIL.V c.die).a).toNat + 1) ∧
            (∃ r, t.fault.raised = s.fault.raised ++ [r] ∧ r.what.sev = 2 ∧ r.what.status = stCHECK ∧ r.what.harness = c.harness)))))) ∧
  (∀ (s : State) (ctx : BitVec 14) (slot : Fin 256) (c : GateCtx) (tk : Token) (P : Nat), awake s → s.findGate ctx.toNat = some c →
    c.ctx = ctx.toNat → c.tokens = [tk] → tk.slot = slot.val → tk.phase ≠ 0 → c.resBytes ≤ 4096 → c.tally.tokens + 1 < 65536 →
    s.reaches c.die c.harness 0 tk.src P → s.fault.outUnits = [] →
    runs (.gateTimeout ctx slot) s (fun t =>
      (∃ c', t.findGate ctx.toNat = some c' ∧ c'.tokens = [] ∧ c'.tally.timeouts = c.tally.timeouts + 1) ∧
      s.queued t P (fun g => g.kind = 3 ∧ g.op = 2 ∧ g.dst = tk.src ∧ g.tstatus = 0x07 ∧ g.payload = allOnes c.resBytes) ∧
      t.reg (CRX_CNT_GATE_TIMEOUT.V c.die).a = Word.ofN ((s.reg (CRX_CNT_GATE_TIMEOUT.V c.die).a).toNat + 1) ∧
      (∃ r, t.fault.raised = s.fault.raised ++ [r] ∧ r.what.cls = 0x07 ∧ r.what.code = 3 ∧ r.what.sev = 2 ∧ r.what.harness = c.harness))))

/-- R363, R378 to R380, R386, R387: the heat of the selected context is cleared, or read with EXPERT advanced under AUTOINC. A store command
while BUSY is refused; CREATE where a store stands will complete with REJECT; CREATE of a store that passes the checks takes its pages of
the quota and stands; DESTROY of the store of its context will complete with OK; completion sets STATUS and CRX_STORE_DIR, and a DESTROY
removes the store. A FETCH where no store stands is answered by a BLOCK with status REJECT, one whose copies are all lost by a BLOCK with
status LOST; of a block held here it is counted and streamed as BLOCK frames of 4,096 bytes; one held elsewhere goes on to the device
that holds it. A BLOCK goes on to its ORIGIN. -/
def Obligations.ExpertStores : Prop :=
  ∀ (s : State) (src : Src) (n : Fin 16), awake s →
    (s.opens src (CRX_GATE_HEAT_CTL.a n) → ∀ c, s.gateSel n = some c →
      runs (.heatClear src n) s (fun t =>
        t.findGate c.ctx = some { c with heat := [] } ∧ (∀ k, k ≠ c.ctx → t.findGate k = s.findGate k) ∧
        s.frame t [.gate] (fun _ => False))) ∧
    (s.opens src (CRX_GATE_HEAT.a n) →
      runs (.heatRead src n) s (fun t =>
        t.out = s.out ++ [.regData (s.gateHeat n)] ∧
        t.rf (CRX_GATE_HEAT_CTL.EXPERT n) =
          (s.rf (CRX_GATE_HEAT_CTL.EXPERT n) + (if s.rb (CRX_GATE_HEAT_CTL.AUTOINC n) then 1 else 0)) % 4096 ∧
        s.frame t [.out] (fun a => a = CRX_GATE_HEAT_CTL.a n))) ∧
    (∀ ctx : BitVec 14, s.opens src (CRX_STORE_CMD.a n) →
      (s.rb (CRX_STORE_CMD.BUSY n) = true →
        turnedAway (.storeCreate src n ctx) s src (CRX_STORE_CMD.a n) 0x0E ∧ turnedAway (.storeDestroy src n ctx) s src (CRX_STORE_CMD.a n) 0x0E) ∧
      (s.rb (CRX_STORE_CMD.BUSY n) = false → s.gate.scmds = [] →
        ((s.findStore n).isSome = true → s.grantable (s.rf (CRX_STORE_D0.HARNESS n)) = true →
          runs (.storeCreate src n ctx) s (fun t =>
            t.gate.stores = s.gate.stores ∧ t.gate.scmds = [(n.val, 1, 0x0E)] ∧ t.rb (CRX_STORE_CMD.BUSY n) = true ∧
            s.frame t [.gate] (fun a => a = CRX_STORE_CMD.a n))) ∧
        (∀ (st : Store) (rs : List (Nat × Nat)) (ms : List Manifest), st = s.storeOf n ctx.toNat → s.findStore n = none →
          s.grantable st.h = true →
          s.hRange st.h (s.rf (CRX_STORE_MANIFEST.V n)) (8 * st.layers * st.experts) = some rs →
          rs.flatMap (fun r => s.mem.badWords st.h r.1 r.2) = [] →
          ms = (List.range (st.layers * st.experts)).map (fun g =>
            let e := leAt (s.mem.readRuns st.h rs) (8 * g) 8
            (⟨g, e % 2 ^ 32, e / 2 ^ 32 % 256, e / 2 ^ 40 % 4, e / 2 ^ 42 % 2 == 1⟩ : Manifest)) →
          s.storeFieldsOk st (some ms) = true → s.quotaOk .hbm st.h st.pages = true → s.ovfHeld n st = true → s.mem.pcmds = [] →
          (∃ q, q < 64 ∧ s.rf (POOL_STS.STATE q) = 0) → (∃ g ∈ s.pageGaps, st.pages ≤ g.2) → (∃ g ∈ s.hGaps st.h, st.pages ≤ g.2) →
          st.dirBytes ≤ st.pages * 4096 →
          (∀ b, (st.place b (s.rf (CRX_STORE_OVF_BASE.V n)) ms).ovf ≤ s.rf (CRX_STORE_OVF_PAGES.V n) * 4096) →
          runs (.storeCreate src n ctx) s (fun t =>
            (∃ y, t.findStore n = some y ∧ y.ctx = ctx.toNat ∧ y.h = st.h ∧ y.repl = st.repl ∧ y.lg = st.lg ∧ y.pages = st.pages ∧
              y.layers = st.layers ∧ y.experts = st.experts ∧ y.blocks = st.blocks ∧ y.mask = st.mask ∧
              t.rf (POOL_STS.STATE y.pool) = 1 ∧ t.rf (POOL_HBASE.V y.pool) = y.dir) ∧
            t.gate.scmds = [(n.val, 1, 0)] ∧ t.rb (CRX_STORE_CMD.BUSY n) = true)) ∧
        (∀ y, s.liveStore n = some y → y.ctx = ctx.toNat →
          runs (.storeDestroy src n ctx) s (fun t =>
            t.gate.stores = s.gate.stores ∧ t.gate.scmds = [(n.val, 2, 0)] ∧ t.rb (CRX_STORE_CMD.BUSY n) = true ∧
            s.frame t [.gate] (fun a => a = CRX_STORE_CMD.a n))))) ∧
    (∀ op st : Nat, st < 256 → s.gate.scmds = [(n.val, op, st)] →
      runs (.storeCommandComplete n) s (fun t =>
        t.gate.scmds = [] ∧ t.rf (CRX_STORE_CMD.STATUS n) = st ∧ t.rb (CRX_STORE_CMD.BUSY n) = false ∧
        (st ≠ 0 → t.gate.stores = s.gate.stores) ∧
        (∀ y, st = 0 → op = 1 → s.findStore n = some y → y.dir < 2 ^ 40 →
          t.gate.stores = s.gate.stores ∧ t.rf (CRX_STORE_DIR.V n) = y.dir ∧ t.rf (CRX_STORE_DIR.STATE n) = 1) ∧
        (∀ y, st = 0 → op = 2 → s.findStore n = some y →
          t.findStore n = none ∧ t.rf (CRX_STORE_DIR.V n) = 0 ∧ t.rf (CRX_STORE_DIR.STATE n) = 0 ∧
          (y.pool < 64 → t.rf (POOL_STS.STATE y.pool) = 0)))) ∧
    (∀ (clu : Fin 64) (f : Frame) (x : Steered), f.kind = 4 → s.landed (.cluster clu) f = some x → s.fault.outUnits = [] →
      n.val = clu.val / 4 →
      (f.op = 3 →
        (∀ P, s.liveStore n = none → s.reaches n f.harness 3 (f.addr / 2 ^ 32 % 2 ^ 18) P →
          runs (.fetch clu f) s (fun t => t.fwd.inbox = s.fwd.inbox.erase x ∧ t.gate = s.gate ∧
            s.queued t P (fun g => g.kind = 4 ∧ g.op = 4 ∧ g.dst = f.addr / 2 ^ 32 % 2 ^ 18 ∧ g.seq = f.seq ∧ g.tstatus = 0x0E))) ∧
        (∀ (y : Store) (i : Nat) (rs : List (Nat × Nat)) (w0 : Word), s.liveStore n = some y → y.die = n.val → y.ctx = f.ctx → x.ingress = none →
          y.index (f.addr % 2 ^ 32) = some i → s.hRange y.h (y.dir + 16 * i) 16 = some rs →
          rs.flatMap (fun r => s.mem.badWords y.h r.1 r.2) = [] → w0 = Word.ofN (leAt (s.mem.readRuns y.h rs) 0 8) →
          w0.field 0 1 = 1 → w0.field 1 1 = 0 →
          (∀ P, w0.field 2 1 = 1 → (y.repl = 2 → w0.field 3 1 = 1) → s.reaches n y.h 3 (f.addr / 2 ^ 32 % 2 ^ 18) P →
            runs (.fetch clu f) s (fun t => t.fwd.inbox = s.fwd.inbox.erase x ∧
              s.queued t P (fun g => g.kind = 4 ∧ g.op = 4 ∧ g.dst = f.addr / 2 ^ 32 % 2 ^ 18 ∧ g.seq = f.seq ∧ g.tstatus = stLOST) ∧
              t.reg (CRX_CNT_STORE_LOST.V n).a = Word.ofN ((s.reg (CRX_CNT_STORE_LOST.V n).a).toNat + 1))) ∧
          (y.repl = 1 → w0.field 2 1 = 0 → w0.field 7 6 = s.devIndex →
            runs (.fetch clu f) s (fun t =>
              t.reg (CRX_CNT_STORE_FETCH.V n).a = Word.ofN ((s.reg (CRX_CNT_STORE_FETCH.V n).a).toNat + 1) ∧
              t.reg (CRX_CNT_STORE_BLOCK.V n).a =
                Word.ofN ((s.reg (CRX_CNT_STORE_BLOCK.V n).a).toNat + (y.size + 4095) / 4096) ∧ t.gate = s.gate)) ∧
          (y.repl = 1 → w0.field 2 1 = 0 → w0.field 7 6 ≠ s.devIndex →
            runs (.fetch clu f) s (fun t =>
              t.reg (CRX_CNT_STORE_FETCH.V n).a = Word.ofN ((s.reg (CRX_CNT_STORE_FETCH.V n).a).toNat + 1) ∧
              t.reg (CRX_CNT_STORE_BLOCK.V n).a = s.reg (CRX_CNT_STORE_BLOCK.V n).a ∧ t.gate = s.gate)))) ∧
      (∀ P, f.op = 4 → s.gate.fill = none → f.addr / 2 ^ 32 % 2 ^ 18 ≠ f.dst → f.mcast = false → f.trav = false →
        s.reaches n f.harness f.cls (f.addr / 2 ^ 32 % 2 ^ 18) P →
        runs (.block clu f) s (fun t => t.fwd.inbox = s.fwd.inbox.erase x ∧ t.gate = s.gate ∧
          s.queued t P (fun g => g.kind = 4 ∧ g.op = 4 ∧ g.dst = f.addr / 2 ^ 32 % 2 ^ 18 ∧ g.seq = f.seq ∧ g.payload = f.payload))))

/-- R417, R427, R428, R430, R431, R432: doorbells. A doorbell page of no enabled ring pair is counted in RING_CNT_DB_NONE. SQ_TAIL and the
payload of an accepted SQ_DB frame set the submission tail, CQ_HEAD and that of a CQ_DB frame the completion head and free its entries;
a value outside the ring, or past what was written, takes the ring to ERROR with cause REJECT. SLOT_ARM arms the slots of its mask and no
other. A RING frame that is not accepted is discarded and counted in RING_CNT_DB_DENIED. A SUBMIT message that is not whole is held; a
whole one of n entries with room (here one entry, of a ring in H) is written at the tail, which advances by n. -/
def Obligations.RingDoorbells : Prop :=
  (∀ (s : State) (v : Fin 256) (page : Fin 8192) (x : BitVec 16) (mask : Word) (l : List (List Byte)), awake s →
    (s.pageRing v page = none → ∀ c : Instr, (c = .sqTail v page x l ∨ c = .cqHead v page x ∨ c = .slotArm v page mask) →
      runs c s (fun t =>
        t.reg RING_CNT_DB_NONE.a = Word.ofN ((s.reg RING_CNT_DB_NONE.a).toNat + 1) ∧
        s.frame t [.sticky] (fun a => a = RING_CNT_DB_NONE.a))) ∧
    (∀ i, s.pageRing v page = some i → i < 8192 →
      (x.toNat < s.sqSize i → runs (.sqTail v page x l) s (fun t => t.sqTail i = x.toNat)) ∧
      (s.sqSize i ≤ x.toNat →
        runs (.sqTail v page x l) s (fun t => t.ringState i = 4 ∧ t.rf (RING_STS2.CAUSE i) = 0x0E ∧ t.sqTail i = s.sqTail i)) ∧
      (x.toNat < s.cqSize i → (x.toNat + s.cqSize i - s.rf (RING_STS2.CQ_HEAD i)) % s.cqSize i ≤ s.cqUsed i → s.sqWait i = 0 →
        runs (.cqHead v page x) s (fun t =>
          t.rf (RING_STS2.CQ_HEAD i) = x.toNat ∧
          t.cqUsed i = s.cqUsed i - (x.toNat + s.cqSize i - s.rf (RING_STS2.CQ_HEAD i)) % s.cqSize i ∧
          s.frame t [.host] (fun a => a = RING_STS2.a i))) ∧
      ((s.cqSize i ≤ x.toNat ∨ s.cqUsed i < (x.toNat + s.cqSize i - s.rf (RING_STS2.CQ_HEAD i)) % s.cqSize i) →
        runs (.cqHead v page x) s (fun t => t.ringState i = 4 ∧ t.rf (RING_STS2.CAUSE i) = 0x0E)) ∧
      runs (.slotArm v page mask) s (fun t =>
        (∀ j, j < 64 → mask.field j 1 = 1 →
          (sparseGet (fun _ => RingSlot.idle) t.host.slots (64 * i + j)).armed = true ∧
          (sparseGet (fun _ => RingSlot.idle) t.host.slots (64 * i + j)).status = 0x01) ∧
        (∀ k, (k < 64 * i ∨ 64 * i + 64 ≤ k ∨ mask.field (k - 64 * i) 1 = 0) →
          sparseGet (fun _ => RingSlot.idle) t.host.slots k = sparseGet (fun _ => RingSlot.idle) s.host.slots k) ∧
        s.frame t [.host] (fun _ => False)))) ∧
  (∀ (s : State) (l : List (List Byte)) (x : Steered) (c : Instr) (op : Nat), awake s →
    s.fwd.steer.find? (fun y => y.place == .ring) = some x → x.frame.op = op →
    (c = .sqDb l ∧ op = 1 ∨ c = .cqDb ∧ op = 2 ∨ c = .submit ∧ op = 3) →
    (s.ringAccepts x.frame = false →
      runs c s (fun t =>
        t.fwd.steer = s.fwd.steer.erase x ∧ t.host = s.host ∧
        t.reg RING_CNT_DB_DENIED.a = Word.ofN ((s.reg RING_CNT_DB_DENIED.a).toNat + 1) ∧ s.noted t clREQUEST 5 0 0x08)) ∧
    (s.ringAccepts x.frame = true →
      (op = 1 → leAt x.frame.payload 0 2 < s.sqSize x.frame.ctx →
        runs c s (fun t => t.fwd.steer = s.fwd.steer.erase x ∧ t.sqTail x.frame.ctx = leAt x.frame.payload 0 2)) ∧
      (op = 2 → leAt x.frame.payload 0 2 < s.cqSize x.frame.ctx → s.sqWait x.frame.ctx = 0 →
        (leAt x.frame.payload 0 2 + s.cqSize x.frame.ctx - s.rf (RING_STS2.CQ_HEAD x.frame.ctx)) % s.cqSize x.frame.ctx ≤ s.cqUsed x.frame.ctx →
        runs c s (fun t =>
          t.fwd.steer = s.fwd.steer.erase x ∧ t.rf (RING_STS2.CQ_HEAD x.frame.ctx) = leAt x.frame.payload 0 2)) ∧
      (op = 3 → x.frame.first = true → x.frame.last = false → s.host.submits = [] →
        runs c s (fun t =>
          t.fwd.steer = s.fwd.steer.erase x ∧ t.host.submits = [⟨x.frame.ctx, x.frame.src, x.frame.seq, x.frame.payload⟩] ∧
          s.frame t [.fwd, .host] (fun _ => False))) ∧
      (∀ rs, op = 3 → x.frame.first = true → x.frame.last = true → s.host.submits = [] → x.frame.payload.length = 64 →
        s.sqWait x.frame.ctx + 1 < s.sqSize x.frame.ctx → s.sqSize x.frame.ctx ≤ 65536 → s.ringState x.frame.ctx = 3 → s.sqTail x.frame.ctx < s.sqSize x.frame.ctx →
        s.hRange (s.ringH x.frame.ctx) (s.rf (RING_SQ_BASE.V x.frame.ctx) + 64 * s.sqTail x.frame.ctx) 64 = some rs →
        rs.flatMap (fun r => s.mem.mergeFails (s.ringH x.frame.ctx) r.1 r.2) = [] → s.comp.flights = [] →
        runs c s (fun t =>
          t.fwd.steer = s.fwd.steer.erase x ∧ t.mem = s.mem.writeRuns (s.ringH x.frame.ctx) rs x.frame.payload ∧
          t.sqTail x.frame.ctx = (s.sqTail x.frame.ctx + 1) % s.sqSize x.frame.ctx ∧
          s.frame t [.fwd, .mem, .host, .power] (fun a => a = RING_STS.a x.frame.ctx)))))

/-- R418, R420, R433, R441: RING_CMD while BUSY is refused. ENABLE that passes the checks makes the pair ACTIVE with both heads and tails 0 and
PHASE 1 and takes a unit of the quota; one that fails them ends with the status of the first and changes nothing. FLUSH and DISABLE of a
pair that is OFF end with REJECT. With no command waiting or in progress FLUSH ends at once with the pair ACTIVE, and DISABLE with it OFF
and its unit returned; with one in progress the pair is FLUSHING and the command BUSY. The pair waits on no pool and has no cause to
pause. -/
def Obligations.RingPairCommands : Prop :=
  ∀ (s : State) (src : Src) (i : Fin 8192), awake s → s.opens src RING_CMD.a →
    (s.rb RING_CMD.BUSY = true →
      turnedAway (.ringEnable src i) s src RING_CMD.a 0x0E ∧ turnedAway (.flush src i) s src RING_CMD.a 0x0E ∧
      turnedAway (.ringDisable src i) s src RING_CMD.a 0x0E) ∧
    (s.rb RING_CMD.BUSY = false →
      (∀ st, st ≠ 0 → st < 256 → s.enableStatus i = st →
        runs (.ringEnable src i) s (fun t =>
          t.rf RING_CMD.STATUS = st ∧ t.rb RING_CMD.BUSY = false ∧ s.frame t [] (fun a => a = RING_CMD.a))) ∧
      (s.enableStatus i = 0 →
        runs (.ringEnable src i) s (fun t =>
          t.ringState i = 1 ∧ t.sqHead i = 0 ∧ t.sqTail i = 0 ∧ t.rf (RING_STS.CQ_TAIL i) = 0 ∧ t.rf (RING_STS2.CQ_HEAD i) = 0 ∧
          t.rf (RING_STS2.CQ_PHASE i) = 1 ∧ t.cqUsed i = 0 ∧ i.val ∈ t.host.opened ∧ t.rf RING_CMD.STATUS = 0 ∧
          (s.ringH i ≠ 0 → s.rf (HRN_Q_RINGS.USED (s.ringH i)) < 8192 →
            t.rf (HRN_Q_RINGS.USED (s.ringH i)) = s.rf (HRN_Q_RINGS.USED (s.ringH i)) + 1))) ∧
      (s.ringState i = 0 → ∀ c : Instr, (c = .flush src i ∨ c = .ringDisable src i) →
        runs c s (fun t => t.rf RING_CMD.STATUS = 0x0E ∧ t.rb RING_CMD.BUSY = false ∧ s.frame t [] (fun a => a = RING_CMD.a))) ∧
      (s.ringState i = 1 → s.sqWait i = 0 → s.sqHead i < s.sqSize i → s.host.submits = [] → s.host.waits = [] → s.host.disable = [] → s.host.cut = [] →
        s.pauseCause i = false →
        (s.runsOf i = [] →
          runs (.flush src i) s (fun t => t.ringState i = 1 ∧ t.rf RING_CMD.STATUS = 0 ∧ t.rb RING_CMD.BUSY = false ∧ t.out = s.out) ∧
          runs (.ringDisable src i) s (fun t =>
            t.ringState i = 0 ∧ i.val ∉ t.host.opened ∧ t.rf RING_CMD.STATUS = 0 ∧ t.rb RING_CMD.BUSY = false ∧ t.out = s.out ∧
            (s.ringH i ≠ 0 → s.hrnState (s.ringH i) ≠ 0 →
              t.rf (HRN_Q_RINGS.USED (s.ringH i)) = s.rf (HRN_Q_RINGS.USED (s.ringH i)) - 1))) ∧
        (s.runsOf i ≠ [] → ∀ c : Instr, (c = .flush src i ∨ c = .ringDisable src i) →
          runs c s (fun t => t.ringState i = 2 ∧ t.rb RING_CMD.BUSY = true ∧ t.host.runs = s.host.runs ∧ t.out = s.out))))

/-- R422 to R425, R437, R438: the commands a ring pair starts. What stands alone at the submission head leaves it and is in progress, and it is
known at once how it ends where the spec says so: a NOP with OK; a DMA of no bytes with REJECT, and one that leaves the harness's pools
with DENIED; a LOAD, GO or HALT that names a core of another harness with DENIED; a GO with OK, its core RUNNING; a HALT with OK; a LOAD
that passes the loader's checks goes on to load; a WAIT_FLAG with OK where the flag has its value, else it waits; a REMOTE_REG of a
tenant with DENIED, one of no or mixed accesses with REJECT, and else its request goes in band with the list.
R422, R426, R429, R430, R434, R437, R438: how ring commands end. The bound of a WAIT_FLAG or a REMOTE_REG ends it with TIMEOUT; a REG_RSP ends its
REMOTE_REG with OK and the index of the first access that failed. A command whose end is known completes in any order: its entry is
written at the completion tail with the layout of R426, the tail advances, and it is counted; a SILENT one that ended OK writes none; an
armed slot it names takes its status and value. A DMA that the host answers whole has moved its bytes and counts them. COAL_NS sends the
vector of unsignalled entries. The completion ring lies in host memory, no interrupt is due, and nothing waits at the submission head. -/
def Obligations.RingCommands : Prop :=
  (∀ (s : State) (i : Fin 8192) (es : List (List Byte)) (args : List Byte), awake s → args = (es.headD []).drop 16 →
    (s.heads i 0x00 es →
      runs (.ringNop i) s (fun t => t.host.runs = s.begun i es (some ⟨0, 0, []⟩) ∧ s.frame t [.host, .power] (State.ringReg i))) ∧
    (∀ c : Instr, (c = .dmaToDev i ∧ s.heads i 0x01 es ∨ c = .dmaFromDev i ∧ s.heads i 0x02 es) →
      runs c s (fun t =>
        t.host.runs = s.begun i es (if leAt args 16 4 = 0 then some ⟨0x0E, 0, []⟩
          else if s.hRange (s.ringH i) (leAt args 8 5) (leAt args 16 4) = none then some ⟨0x08, 0, []⟩ else none) ∧
        s.frame t [.host, .power] (State.ringReg i))) ∧
    (∀ (img : Image) (cores : List Nat), s.heads i 0x10 es → cores = State.maskCores (leAt args 0 1 % 16) (leAt args 2 4) →
      ((∃ k ∈ cores, s.boundCore k = false ∨ s.coreH k ≠ s.ringH i) →
        runs (.ringLoad i img) s (fun t => t.host.runs = s.begun i es (some ⟨0x08, 0, []⟩) ∧ t.comp = s.comp)) ∧
      ((∀ k ∈ cores, s.boundCore k = true ∧ s.coreH k = s.ringH i) → (s.loadCheck cores (leAt args 1 1) (s.ringH i) (leAt args 6 5) (leAt args 11 3) img).1 = 0 →
        runs (.ringLoad i img) s (fun t =>
          t.host.runs = s.begun i es none ∧
          (∃ l, t.comp.loads = s.comp.loads ++ [l] ∧ l.cores = cores ∧ l.launch = (leAt args 1 1 == 2) ∧ l.h = s.ringH i ∧ l.img = img ∧
            l.run = some s.host.next ∧
            l.args = (List.range 4).map (fun k => Word.ofN (leAt args (14 + 8 * k) 8)) ++
              (List.range 4).map (fun k => Word.ofN (leAt ((es.getD 1 []).drop 8) (8 * k) 8)))))) ∧
    (∀ c : Instr, (c = .ringGo i ∧ s.heads i 0x11 es ∨ c = .ringHalt i ∧ s.heads i 0x12 es) →
      (∃ k ∈ State.maskCores (leAt args 0 1) (leAt args 2 4), s.boundCore k = false ∨ s.coreH k ≠ s.ringH i) →
      runs c s (fun t => t.host.runs = s.begun i es (some ⟨0x08, 0, []⟩) ∧ t.comp = s.comp)) ∧
    (∀ k : Fin 512, State.maskCores (leAt args 0 1) (leAt args 2 4) = [k.val] → s.boundCore k = true → s.coreH k = s.ringH i →
      (s.heads i 0x11 es → (s.cstate k = 1 ∨ s.cstate k = 5) → s.mayRun (s.ringH i) = true →
        runs (.ringGo i) s (fun t => t.host.runs = s.begun i es (some ⟨0, 0, []⟩) ∧ t.cstate k = 2 ∧ t.pc k = (s.cst k).entry % 2 ^ 32)) ∧
      (s.heads i 0x12 es → s.rope.ctxs = [] → s.comp.flights = [] → (s.cstate k = 2 ∨ s.cstate k = 3 ∨ s.cstate k = 4) →
        runs (.ringHalt i) s (fun t => t.host.runs = s.begun i es (some ⟨0, 0, []⟩) ∧ t.cstate k = 1))) ∧
    (∀ (f : Nat) (v : Bool), s.heads i 0x21 es → f = leAt args 0 2 % 4096 → v = (leAt args 2 1 % 2 == 1) →
      (s.pflagH f ≠ some (s.ringH i) →
        runs (.waitFlag i) s (fun t => t.host.runs = s.begun i es (some ⟨0x08, 0, []⟩) ∧ t.comp = s.comp)) ∧
      (s.pflagH f = some (s.ringH i) → leAt args 3 4 ≠ 0 →
        (s.flagOf (pfKey f) = v →
          runs (.waitFlag i) s (fun t => t.host.runs = s.begun i es (some ⟨0, 0, [s.now]⟩) ∧ t.comp = s.comp)) ∧
        (s.flagOf (pfKey f) ≠ v →
          runs (.waitFlag i) s (fun t =>
            t.host.runs = s.begun i es none ∧
            t.comp.waits = s.comp.waits ++ [⟨1000000 + s.host.next, .flag (pfKey f) v false, false, 0⟩])))) ∧
    (∀ wr mixed : Bool, s.heads i 0x22 es →
      (s.ringH i ≠ 0 →
        runs (.remoteReg i wr mixed) s (fun t => t.host.runs = s.begun i es (some ⟨0x08, 0, []⟩) ∧ t.fwd = s.fwd)) ∧
      (s.ringH i = 0 → (leAt args 1 1 = 0 ∨ mixed = true) →
        runs (.remoteReg i wr mixed) s (fun t => t.host.runs = s.begun i es (some ⟨0x0E, 0, []⟩) ∧ t.fwd = s.fwd)) ∧
      (∀ rs, s.ringH i = 0 → leAt args 1 1 ≠ 0 → mixed = false → s.hRange 0 (leAt args 2 5) (16 * leAt args 1 1) = some rs →
        rs.flatMap (fun r => s.mem.badWords 0 r.1 r.2) = [] → leAt args 0 1 % 64 = s.devIndex → s.devIndex < s.planeSize →
        s.fwd.steer = [] → s.fault.outUnits = [] →
        runs (.remoteReg i wr mixed) s (fun t =>
          t.host.runs = s.begun i es none ∧ t.host.remote = s.host.remote ++ [(s.host.next, s.host.tag, s.devIndex)] ∧
          ∃ g, t.fwd.steer = [⟨.mgmt, g, none⟩] ∧ g.op = (if wr then 0x11 else 0x10) ∧ g.payload = s.mem.readRuns 0 rs)))) ∧
  ((∀ (s : State) (i : Fin 8192) (j : Fin 64) (r : RingRun) (c : Instr), awake s → (s.runsOf i)[j.val]? = some r → s.findRun r.no = some r →
    r.ended = none → s.comp.waits.any (fun w => w.core == 1000000 + r.no && w.met) = false →
    (c = .waitFlagTimeout i j ∧ r.opc = 0x21 ∨ c = .remoteRegTimeout i j ∧ r.opc = 0x22) →
    runs c s (fun t =>
      t.findRun r.no = some { r with ended := some ⟨0x07, 0, []⟩ } ∧ (∀ x ∈ t.host.remote, x.1 ≠ r.no) ∧
      (∀ w ∈ t.comp.waits, w.core ≠ 1000000 + r.no) ∧ s.frame t [.comp, .host] (fun _ => False))) ∧
  (∀ (s : State) (x : Steered) (r : RingRun) (dev : Nat), awake s → s.mgmtHeld = false →
    s.fwd.steer.find? (fun y => y.place == .mgmt) = some x → x.frame.op = 0x12 →
    s.host.remote.find? (fun y => y.2.1 == x.frame.tag) = some (r.no, x.frame.tag, dev) → s.findRun r.no = some r → r.ended = none →
    runs .regRsp s (fun t =>
      t.fwd.steer = s.fwd.steer.erase x ∧ t.host.remote = s.host.remote.erase (r.no, x.frame.tag, dev) ∧
      t.findRun r.no = some { r with ended := some ⟨0, 0, [((List.range (leAt r.args 1 1)).find? (fun k =>
        leAt (x.frame.payload.take (16 * leAt r.args 1 1)) (16 * k + 4) 1 != 0)).getD 0xFFFFFFFFFFFFFFFF]⟩ })) ∧
  (∀ (s : State) (i : Fin 8192) (j : Fin 64) (r : RingRun) (e : RingEnd) (segs : List HostSeg), awake s → (s.runsOf i)[j.val]? = some r →
    s.findRun r.no = some r → s.ringState i = 1 → s.rf (RING_CFG.CQ_LOC i) = 0 → s.rb HUB_HOST_CTL.NONE = false →
    s.cqUsed i < s.cqSize i → s.cqSize i ≤ 65536 → s.rf (RING_STS.CQ_TAIL i) < s.cqSize i → s.sqWait i = 0 → s.rb (RING_IRQ.IRQ_EN i) = false →
    r.flags / 4 % 2 = 0 → r.ring = i.val →
    (r.ended = some e → r.opc ≠ 0xFF →
      (r.flags / 8 % 2 = 0 →
        runs (.ringCommandComplete i j segs) s (fun t =>
          t.out = s.out ++ [.hostWrite (s.rf (RING_CQ_BASE.V i) + 64 * s.rf (RING_STS.CQ_TAIL i))
            (bytesLE 8 r.user ++ bytesLE 2 i ++ bytesLE 2 (s.sqHead i) ++ bytesLE 1 e.status ++ bytesLE 1 r.opc ++ bytesLE 1 e.reason ++
              bytesLE 1 0 ++ (List.range 5).flatMap (fun k => bytesLE 8 (nth e.vals k)) ++ List.replicate 7 0 ++
              bytesLE 1 (128 * s.rf (RING_STS2.CQ_PHASE i)))] ∧
          t.host.runs = s.host.runs.filter (fun y => y.no != r.no) ∧ t.cqUsed i = s.cqUsed i + 1 ∧
          t.rf (RING_STS.CQ_TAIL i) = (s.rf (RING_STS.CQ_TAIL i) + 1) % s.cqSize i ∧
          (s.rf (RING_STS.CQ_TAIL i) + 1 = s.cqSize i → t.rf (RING_STS2.CQ_PHASE i) = 1 - s.rf (RING_STS2.CQ_PHASE i)) ∧
          t.reg RING_CNT_CMD.a = Word.ofN ((s.reg RING_CNT_CMD.a).toNat + 1) ∧
          s.frame t [.host, .out, .sticky] (fun a => State.ringReg i a ∨ a = RING_CNT_CMD.a))) ∧
      (r.flags / 8 % 2 = 1 → e.status = 0 →
        runs (.ringCommandComplete i j segs) s (fun t =>
          t.out = s.out ∧ t.host.runs = s.host.runs.filter (fun y => y.no != r.no) ∧ t.cqUsed i = s.cqUsed i ∧
          t.reg RING_CNT_CMD.a = Word.ofN ((s.reg RING_CNT_CMD.a).toNat + 1)))) ∧
    (∀ (bs : List Byte) (rs : List (Nat × Nat)), r.ended = none → segs = [.ok bs] → bs ≠ [] → bs.length = leAt r.args 16 4 →
      s.hRange (s.ringH i) (leAt r.args 8 5) (leAt r.args 16 4) = some rs → s.comp.flights = [] →
      (r.opc = 0x01 → rs.flatMap (fun q => s.mem.mergeFails (s.ringH i) q.1 q.2) = [] →
        runs (.ringCommandComplete i j segs) s (fun t =>
          t.mem = s.mem.writeRuns (s.ringH i) rs bs ∧ t.host.runs = s.host.runs.filter (fun y => y.no != r.no) ∧
          t.reg RING_CNT_DMA_BYTES.a = Word.ofN ((s.reg RING_CNT_DMA_BYTES.a).toNat + leAt r.args 16 4))) ∧
      (r.opc = 0x02 → r.flags / 8 % 2 = 0 → rs.flatMap (fun q => s.mem.badWords (s.ringH i) q.1 q.2) = [] →
        runs (.ringCommandComplete i j segs) s (fun t =>
          (∃ y, t.out = s.out ++ [.hostWrite (leAt r.args 0 8) ((s.mem.readRuns (s.ringH i) rs).take (leAt r.args 16 4)), y]) ∧
          t.mem = s.mem ∧ t.host.runs = s.host.runs.filter (fun y => y.no != r.no) ∧
          t.reg RING_CNT_DMA_BYTES.a = Word.ofN ((s.reg RING_CNT_DMA_BYTES.a).toNat + leAt r.args 16 4))))) ∧
  (∀ (s : State) (i : Fin 8192) (j : Fin 64) (r : RingRun) (e : RingEnd), awake s → (s.runsOf i)[j.val]? = some r → s.findRun r.no = some r →
    s.ringState i = 1 → s.rf (RING_CFG.CQ_LOC i) = 0 → s.rb HUB_HOST_CTL.NONE = false → s.cqUsed i < s.cqSize i → s.sqWait i = 0 →
    r.flags / 4 % 2 = 1 → r.ring = i.val → r.ended = some e →
    (sparseGet (fun _ => RingSlot.idle) s.host.slots (64 * i.val + r.slot)).armed = true →
    runs (.ringCommandComplete i j []) s (fun t =>
      sparseGet (fun _ => RingSlot.idle) t.host.slots (64 * i.val + r.slot) = ⟨e.status, false, r.sq, nth e.vals 0⟩)) ∧
  (∀ (s : State) (i : Fin 8192), awake s → s.rb (RING_IRQ.IRQ_EN i) = true → (lookupKey s.host.unsig i).isSome = true →
    s.rb HUB_HOST_CTL.NONE = false → s.rf (RING_CFG.VF i) = 0 →
    runs (.irqCoalExpire i) s (fun t =>
      t.out = s.out ++ [.msix 0 (s.rf (RING_IRQ.VECTOR i))] ∧ lookupKey t.host.unsig i = none ∧ s.frame t [.host, .out] (fun _ => False))))

/-- R412, R414, R415, R416, R434, R439: FAILOVER_MS moves the host role to the other port where it is up, counts a takeover and records an alarm;
TAKEOVER from the standby port does the same at once. A port down with the other down leaves no active port; one up where none was
active is active. An FLR of the PF disables every ring pair, one of a VF its own. A VF binding takes its 13 bits, and taking VALID away
disables the VF's pairs (none is held here). A BAR4 read answers the bytes of the window's harness and a write stores them; one past the
window's harness, while it is FREE, or from the standby port is an access error with status DENIED and reads as ones. -/
def Obligations.HostPortsAndWindow : Prop :=
  (∀ (s : State) (src : Src), awake s →
    (s.rb HUB_HOST_CTL.NONE = false → s.rb (State.upBit (s.rf HUB_HOST_CTL.ACTIVE)) = false → s.rb (State.upBit (1 - s.rf HUB_HOST_CTL.ACTIVE)) = true →
      runs .failover s (fun t =>
        t.rf HUB_HOST_CTL.ACTIVE = 1 - s.rf HUB_HOST_CTL.ACTIVE ∧ t.rf HUB_HOST_CTL.TAKEOVERS = min 65535 (s.rf HUB_HOST_CTL.TAKEOVERS + 1) ∧
        s.noted t clMGMT 1 1 0 ∧ s.frame t State.recordParts State.recordReg)) ∧
    (s.rb (State.upBit (s.rf HUB_HOST_CTL.ACTIVE)) = true → runs .failover s (fun t => t = s)) ∧
    (s.opens src HUB_HOST_CTL.a → s.standby src = true → s.rb HUB_HOST_CTL.NONE = false →
      runs (.takeover src) s (fun t =>
        t.rf HUB_HOST_CTL.ACTIVE = State.srcCode src ∧ t.rf HUB_HOST_CTL.TAKEOVERS = min 65535 (s.rf HUB_HOST_CTL.TAKEOVERS + 1) ∧
        s.noted t clMGMT 1 1 0 ∧ s.frame t State.recordParts State.recordReg)) ∧
    (∀ p : Fin 2, s.host.opened = [] →
      runs (.pcieLinkDown p) s (fun t =>
        t.rb (State.upBit p) = false ∧ t.rb (State.upBit (1 - p.val)) = s.rb (State.upBit (1 - p.val)) ∧
        t.rb HUB_HOST_CTL.NONE = (s.rb HUB_HOST_CTL.NONE || !s.rb (State.upBit (1 - p.val))) ∧ s.frame t [] (fun a => a = HUB_HOST_CTL.a)) ∧
      runs (.pcieLinkUp p) s (fun t =>
        t.rb (State.upBit p) = true ∧ t.rb HUB_HOST_CTL.NONE = false ∧
        t.rf HUB_HOST_CTL.ACTIVE = (if s.rb HUB_HOST_CTL.NONE then p.val else s.rf HUB_HOST_CTL.ACTIVE) ∧
        s.frame t [] (fun a => a = HUB_HOST_CTL.a)))) ∧
  (∀ (s : State), awake s → (∀ i ∈ s.host.opened, i < 8192) →
    runs .pfFlr s (fun t =>
      (∀ i ∈ s.host.opened, t.ringState i = 0) ∧ t.host.opened = [] ∧ t.host.msix = [] ∧ t.host.pendV = []) ∧
    (∀ v : Fin 255,
      runs (.vfFlr v) s (fun t =>
        (∀ i ∈ s.host.opened, s.rf (RING_CFG.VF i) = v.val + 1 → t.ringState i = 0) ∧
        (∀ i ∈ s.host.opened, s.rf (RING_CFG.VF i) ≠ v.val + 1 → t.ringState i = s.ringState i ∧ i ∈ t.host.opened) ∧
        (∀ m ∈ t.host.msix, m.1 / 128 ≠ v.val + 1)))) ∧
  (∀ (s : State) (src : Src) (v : Fin 255) (w : Word), awake s → s.opens src (HUB_VF_BIND.a (v.val + 1)) → s.vfRings (v.val + 1) = [] →
    runs (.vfBind src v w) s (fun t =>
      (t.reg (HUB_VF_BIND.a (v.val + 1))).toNat = w.toNat % 2 ^ 13 ∧ s.frame t [] (fun a => a = HUB_VF_BIND.a (v.val + 1)))) ∧
  (∀ (s : State) (src : Src) (o : BitVec 36), awake s → s.standby src = false → s.campOk 4 = true →
    (∀ (n : Fin 8192) (rs : List (Nat × Nat)), n.val ≠ 0 → o.toNat % 4096 + n.val ≤ 4096 → s.hrnState (s.rf HUB_BAR4_CFG.HARNESS) ≠ 0 →
      s.hRange (s.rf HUB_BAR4_CFG.HARNESS) (s.rf HUB_BAR4_CFG.BASE + o.toNat) n = some rs →
      rs.flatMap (fun r => s.mem.badWords (s.rf HUB_BAR4_CFG.HARNESS) r.1 r.2) = [] →
      runs (.bar4Read src o n) s (fun t =>
        t.out = s.out ++ [.readData (s.mem.readRuns (s.rf HUB_BAR4_CFG.HARNESS) rs) false] ∧ s.frame t [.out, .power] (fun _ => False))) ∧
    (∀ (bs : List Byte) (rs : List (Nat × Nat)), bs ≠ [] → o.toNat % 4096 + bs.length ≤ 4096 → s.hrnState (s.rf HUB_BAR4_CFG.HARNESS) ≠ 0 →
      s.hRange (s.rf HUB_BAR4_CFG.HARNESS) (s.rf HUB_BAR4_CFG.BASE + o.toNat) bs.length = some rs →
      rs.flatMap (fun r => s.mem.mergeFails (s.rf HUB_BAR4_CFG.HARNESS) r.1 r.2) = [] → s.comp.flights = [] →
      runs (.bar4Write src o bs) s (fun t =>
        t.mem = s.mem.writeRuns (s.rf HUB_BAR4_CFG.HARNESS) rs bs ∧ s.frame t [.mem, .power] (fun _ => False))) ∧
    (∀ (n : Fin 8192), n.val ≠ 0 → o.toNat % 4096 + n.val ≤ 4096 →
      (s.hrnState (s.rf HUB_BAR4_CFG.HARNESS) = 0 ∨
        s.hRange (s.rf HUB_BAR4_CFG.HARNESS) (s.rf HUB_BAR4_CFG.BASE + o.toNat) n = none) →
      runs (.bar4Read src o n) s (fun t =>
        t.out.getLast? = some (.readData (allOnes n) false) ∧ t.reg HUB_HACC_CNT.a = Word.ofN ((s.reg HUB_HACC_CNT.a).toNat + 1) ∧
        s.frame t State.recordParts State.recordReg)))

/-- R445, R457 to R460, R462, R464, R468: POOL_CMD while BUSY is refused. CREATE that passes the checks takes the pool's pages of the quota and
executes; one that fails them ends with the status of the first. DESTROY of a pool that is not OFF executes and its H range is gone at
once; REBUILD of a BROKEN one executes; else each ends with REJECT. A CREATE completes with the pool READY, every buffer free, and a
tenant's memory in it zero; a DESTROY with it OFF, its memory poison and its pages returned; a REBUILD with it READY and FREE the buffers
not in use. A requester entry or FLOOR takes its bits (no allocation waits).
R461 to R467: allocations. A command for a pool of another harness, or whose list lies outside its own, ends with DENIED; a POOL_QUERY
answers FREE, WAITERS and the requester's account; a POOL_ALLOC that does not fit ends with NOMEM, or waits under WAIT; one over the
requester's limit ends with QUOTA; one of one buffer that fits takes the head of the list, moves the head to its link, lists its H offset
and ends with OK; a POOL_FREE of one buffer in use makes it the head and ends with OK; a buffer not in use ends it with DOUBLE_FREE; the
bound of a waiting allocation ends it with TIMEOUT. -/
def Obligations.PoolsAndAllocations : Prop :=
  (∀ (s : State) (src : Src) (q : Fin 64), awake s → s.host.waits = [] →
    (s.opens src (POOL_CMD.a q) →
      (s.rb (POOL_CMD.BUSY q) = true →
        turnedAway (.poolCreate src q) s src (POOL_CMD.a q) 0x0E ∧ turnedAway (.poolDestroy src q) s src (POOL_CMD.a q) 0x0E ∧
        turnedAway (.poolRebuild src q) s src (POOL_CMD.a q) 0x0E) ∧
      (s.rb (POOL_CMD.BUSY q) = false →
        (s.createStatus q = 0 →
          runs (.poolCreate src q) s (fun t =>
            t.mem = { s.mem with pcmds := s.mem.pcmds ++ [(q.val, 1)] } ∧ t.rb (POOL_CMD.BUSY q) = true ∧
            (s.poolH q ≠ 0 → s.rf (HRN_Q_HBM.USED (s.poolH q)) + s.rf (POOL_PAGES.V q) < 2 ^ 28 →
              t.rf (HRN_Q_HBM.USED (s.poolH q)) = s.rf (HRN_Q_HBM.USED (s.poolH q)) + s.rf (POOL_PAGES.V q)) ∧
            s.frame t [.mem] (fun a => a = POOL_CMD.a q ∨ a = HRN_Q_HBM.a (s.poolH q) ∨ a = HRN_STS.a (s.poolH q)))) ∧
        (∀ (st : Nat) (c : Instr), st ≠ 0 → st < 256 →
          (c = .poolCreate src q ∧ s.createStatus q = st ∨ c = .poolDestroy src q ∧ s.rf (POOL_STS.STATE q) = 0 ∧ st = 0x0E ∨
            c = .poolRebuild src q ∧ s.rf (POOL_STS.STATE q) ≠ 2 ∧ st = 0x0E) →
          runs c s (fun t =>
            t.rf (POOL_CMD.STATUS q) = st ∧ t.rb (POOL_CMD.BUSY q) = false ∧ s.frame t [] (fun a => a = POOL_CMD.a q))) ∧
        (s.rf (POOL_STS.STATE q) ≠ 0 →
          runs (.poolDestroy src q) s (fun t =>
            t.mem = { s.mem with dying := s.mem.dying ++ [q.val], pcmds := s.mem.pcmds ++ [(q.val, 2)] } ∧
            t.rb (POOL_CMD.BUSY q) = true ∧ t.poolHeld q = false ∧ t.host.runs = s.host.runs)) ∧
        (s.rf (POOL_STS.STATE q) = 2 →
          runs (.poolRebuild src q) s (fun t =>
            t.mem = { s.mem with pcmds := s.mem.pcmds ++ [(q.val, 3)] } ∧ t.rb (POOL_CMD.BUSY q) = true ∧
            s.frame t [.mem] (fun a => a = POOL_CMD.a q))))) ∧
    (∀ op : Nat, s.mem.pcmds.find? (fun p => p.1 == q.val) = some (q.val, op) →
      runs (.poolCommandComplete q) s (fun t =>
        t.mem.pcmds = s.mem.pcmds.erase (q.val, op) ∧ t.rf (POOL_CMD.STATUS q) = 0 ∧ t.rb (POOL_CMD.BUSY q) = false ∧
        (op = 1 → s.bufCount q < 2 ^ 28 →
          t.rf (POOL_STS.STATE q) = 1 ∧ t.poolFree q = s.bufCount q ∧ (∀ b, t.bufUsed q b = false) ∧
          t.rf (POOL_HEAD.V q) = (if s.bufCount q = 0 then 0xFFFFFFFF else 0) ∧
          (s.poolBuffers q = false → s.poolH q ≠ 0 → ∀ a, s.poolLo q ≤ a → a < s.poolHi q → t.mem.readByte (s.poolH q) a = 0)) ∧
        (op = 2 →
          t.rf (POOL_STS.STATE q) = 0 ∧ t.poolFree q = 0 ∧ (∀ b, t.bufUsed q b = false) ∧ q.val ∉ t.mem.dying ∧
          (∀ e, e < 16 → t.reqUsed q e = 0) ∧ (∀ a, s.poolLo q ≤ a → a < s.poolHi q → t.mem.readByte 0 a = 0xFF) ∧
          (s.poolH q ≠ 0 → s.hrnState (s.poolH q) ≠ 0 →
            t.rf (HRN_Q_HBM.USED (s.poolH q)) = s.rf (HRN_Q_HBM.USED (s.poolH q)) - s.rf (POOL_PAGES.V q))) ∧
        (op = 3 → s.bufCount q < 2 ^ 28 →
          t.rf (POOL_STS.STATE q) = 1 ∧ t.poolFree q = ((List.range (s.bufCount q)).filter (fun b => !s.bufUsed q b)).length ∧
          (∀ b, t.bufUsed q b = s.bufUsed q b)))) ∧
    (∀ (e : Fin 16) (v : Word), s.opens src (POOL_REQ.a q e) →
      runs (.poolReqWrite src q (some e) v) s (fun t =>
        (t.reg (POOL_REQ.a q e)).toNat = v.toNat % 2 ^ 43 ∧ t.reqUsed q e = s.reqUsed q e ∧
        t.rb (POOL_REQ_USED.OVER q e) = decide (v.field 15 28 < s.reqUsed q e) ∧
        s.frame t [] (fun a => a = POOL_REQ.a q e ∨ a = POOL_REQ_USED.a q e))) ∧
    (∀ v : Word, s.opens src (POOL_FLOOR.a q) →
      runs (.poolReqWrite src q none v) s (fun t =>
        t.rf (POOL_FLOOR.V q) = v.field 0 28 ∧ s.frame t [] (fun a => a = POOL_FLOOR.a q)))) ∧
  ((∀ (s : State) (i : Fin 8192) (es : List (List Byte)) (args : List Byte) (q e n : Nat), awake s → args = (es.headD []).drop 16 →
    q = leAt args 0 1 % 64 → e = s.reqEntry q i → n = leAt args 2 2 →
    (∀ (c : Instr) (vals : List Nat), (c = .poolAlloc i ∧ s.heads i 0x30 es ∧ vals = [0, s.poolFree q] ∨
        c = .poolFree i ∧ s.heads i 0x31 es ∧ vals = [0] ∨ c = .poolQuery i ∧ s.heads i 0x32 es ∧ vals = []) →
      s.poolH q ≠ s.ringH i →
      runs c s (fun t => t.host.runs = s.begun i es (some ⟨0x08, 0, vals⟩) ∧ t.mem = s.mem ∧ t.host.waits = s.host.waits)) ∧
    (s.heads i 0x32 es → s.poolH q = s.ringH i →
      runs (.poolQuery i) s (fun t =>
        t.host.runs = s.begun i es (some ⟨0, 0, [s.poolFree q, s.rf (POOL_STS.WAITERS q), s.reqUsed q e, s.rf (POOL_REQ.LIMIT q e),
          s.rf (POOL_REQ_USED.OVER q e)]⟩) ∧ s.frame t [.host, .power] (State.ringReg i))) ∧
    (s.heads i 0x30 es → s.poolH q = s.ringH i → s.listOk q (s.ringH i) (leAt args 8 5) n = true → s.poolShut q = false → 1 ≤ n → n ≤ 256 →
      n + s.rf (POOL_FLOOR.V q) ≤ s.bufCount q → s.rf (POOL_STS.STATE q) = 1 →
      (s.overLimit q e n = true →
        runs (.poolAlloc i) s (fun t =>
          t.host.runs = s.begun i es (some ⟨stQUOTA, 0, [0, s.poolFree q]⟩) ∧ t.mem = s.mem ∧
          t.reg (POOL_CNT_QUOTA.V q).a = Word.ofN ((s.reg (POOL_CNT_QUOTA.V q).a).toNat + 1))) ∧
      (s.overLimit q e n = false → s.poolFits q e n = false →
        (leAt args 1 1 % 2 = 0 →
          runs (.poolAlloc i) s (fun t =>
            t.host.runs = s.begun i es (some ⟨stNOMEM, 0, [0, s.poolFree q]⟩) ∧ t.mem = s.mem ∧
            t.reg (POOL_CNT_NOMEM.V q).a = Word.ofN ((s.reg (POOL_CNT_NOMEM.V q).a).toNat + 1))) ∧
        (leAt args 1 1 % 2 = 1 → s.host.waits = [] →
          runs (.poolAlloc i) s (fun t =>
            t.host.runs = s.begun i es none ∧ t.mem = s.mem ∧ t.rf (POOL_STS.WAITERS q) = 1 ∧
            t.host.waits = [⟨q, s.host.next, i, n, e, leAt args 1 1 / 2 % 2 == 1, leAt args 8 5, leAt args 4 4⟩]))) ∧
      (∀ b link a, n = 1 → s.overLimit q e 1 = false → s.poolFits q e 1 = true → s.host.waits = [] → s.mem.dead = [] →
        b = s.rf (POOL_HEAD.V q) → b < s.bufCount q → s.bufUsed q b = false → s.mem.poisoned (s.poolH q) (s.bufAddr q b) 8 = false →
        link = leNat (s.mem.read (s.poolH q) (s.bufAddr q b) 8) → link < s.bufCount q → link < 0xFFFFFFFF → s.bufUsed q link = false → link ≠ b →
        s.hRange (s.poolH q) (leAt args 8 5) 8 = some [(a, 8)] → a % 8 = 0 → s.reqUsed q e + 1 < 2 ^ 28 →
        runs (.poolAlloc i) s (fun t =>
          t.host.runs = s.begun i es (some ⟨0, 0, [1, s.poolFree q - 1]⟩) ∧ t.rf (POOL_HEAD.V q) = link ∧ t.poolFree q = s.poolFree q - 1 ∧
          t.bufUsed q b = true ∧ t.reqUsed q e = s.reqUsed q e + 1 ∧
          t.mem.read (s.poolH q) a 8 = bytesLE 8 (s.rf (POOL_HBASE.V q) + b * s.bufSize q) ∧
          t.reg (POOL_CNT_ALLOC.V q).a = Word.ofN ((s.reg (POOL_CNT_ALLOC.V q).a).toNat + 1)))) ∧
    (∀ rs o b, s.heads i 0x31 es → s.poolH q = s.ringH i → s.listOk q (s.ringH i) (leAt args 8 5) n = true → s.poolShut q = false → n = 1 →
      s.rf (POOL_STS.STATE q) = 1 → s.hRange (s.ringH i) (leAt args 8 5) 8 = some rs →
      rs.flatMap (fun r => s.mem.badWords (s.ringH i) r.1 r.2) = [] → o = leAt (s.mem.readRuns (s.ringH i) rs) 0 8 →
      s.rf (POOL_HBASE.V q) ≤ o → o = s.rf (POOL_HBASE.V q) + b * s.bufSize q → b < s.bufCount q → s.host.waits = [] →
      (s.bufUsed q b = true → s.poolFree q + 1 < 2 ^ 28 → s.bufCount q < 2 ^ 32 →
        runs (.poolFree i) s (fun t =>
          t.host.runs = s.begun i es (some ⟨0, 0, [1]⟩) ∧ t.bufUsed q b = false ∧ t.rf (POOL_HEAD.V q) = b ∧
          t.poolFree q = s.poolFree q + 1 ∧ t.reqUsed q e = s.reqUsed q e - 1 ∧
          t.reg (POOL_CNT_FREE.V q).a = Word.ofN ((s.reg (POOL_CNT_FREE.V q).a).toNat + 1))) ∧
      (s.bufUsed q b = false →
        runs (.poolFree i) s (fun t =>
          t.host.runs = s.begun i es (some ⟨stDOUBLE_FREE, 0, [0]⟩) ∧ t.mem = s.mem ∧
          t.reg (POOL_CNT_DOUBLE_FREE.V q).a = Word.ofN ((s.reg (POOL_CNT_DOUBLE_FREE.V q).a).toNat + 1))))) ∧
  (∀ (s : State) (w : PoolWait) (r : RingRun), awake s → s.host.waits = [w] → w.bound ≠ 0 → s.findRun w.run = some r → r.no = w.run →
    r.ended = none →
    runs (.poolWaitTimeout w.run) s (fun t =>
      t.host.waits = [] ∧ t.findRun w.run = some { r with ended := some ⟨0x07, 0, [0, s.poolFree w.pool]⟩ } ∧
      t.rf (POOL_STS.WAITERS w.pool) = 0 ∧ t.mem = s.mem)))

/-- R444, R447 to R451: a scrubber that is off visits nothing; one that finds a correctable error in a written word counts and reports it
and changes no byte; one that finds an uncorrectable word counts and reports it, and the word reads as poison from then on. A line at
the CE threshold, or that read back wrong, takes a free piton of its group under AUTO_PITON, which is counted; where none is free an
alarm says so. A harness table copy is reloaded with an alarm, and no state of a harness changes. The fault ring is off. -/
def Obligations.ScrubsAndPitons : Prop :=
  ∀ (s : State) (store : Fin 3) (unit : Fin 512) (o : BitVec 40) (a w line : Nat), awake s → a = memAddr store unit o.toNat → w = a / 8 * 8 →
    line = a / 64 * 64 → s.rb HUB_FAULT_RING.EN = false →
    (s.scrubOn w = false → ∀ ce ue, runs (.scrubVisit store unit o ce ue) s (fun t => t = s)) ∧
    (s.scrubOn w = true → s.power.hbmSr = false → s.mem.live (s.ownAt w) w = true → s.mem.found w = .clean →
      runs (.scrubVisit store unit o true false) s (fun t =>
        t.mem.cells = s.mem.cells ∧ t.mem.ue = s.mem.ue ∧
        lookupKey t.mem.ceHits (w / 64 * 64) = some ((lookupKey s.mem.ceHits (w / 64 * 64)).getD 0 + 1) ∧ s.noted t clMEMORY 1 0 0 ∧
        (w < 0x10000000000 → t.reg (HBM_CNT_CE.V (stackOf w)).a = Word.ofN ((s.reg (HBM_CNT_CE.V (stackOf w)).a).toNat + 1)) ∧
        (0x10000000000 ≤ w → t.reg (CRX_CNT_SRAM_CE.V (State.sramDie w)).a = Word.ofN ((s.reg (CRX_CNT_SRAM_CE.V (State.sramDie w)).a).toNat + 1))) ∧
      (∀ ce, runs (.scrubVisit store unit o ce true) s (fun t =>
        t.mem.found w = .ue ∧ t.mem.cells = s.mem.cells ∧ (∀ x, x / 8 * 8 ≠ w → t.mem.found x = s.mem.found x) ∧ s.noted t clMEMORY 2 1 0x06 ∧
        (w < 0x10000000000 → t.reg (HBM_CNT_UE.V (stackOf w)).a = Word.ofN ((s.reg (HBM_CNT_UE.V (stackOf w)).a).toNat + 1)) ∧
        (0x10000000000 ≤ w → t.reg (CRX_CNT_SRAM_UE.V (State.sramDie w)).a = Word.ofN ((s.reg (CRX_CNT_SRAM_UE.V (State.sramDie w)).a).toNat + 1))))) ∧
    (∀ rb : Bool,
      (s.autoPiton line = false → runs (.pitonInstall store unit o rb) s (fun t => t = s)) ∧
      (s.autoPiton line = true → s.mem.pitons.any (fun p => p.1 == line) = false →
        (rb = true ∨ s.pitonCe line ≤ (lookupKey s.mem.ceHits line).getD 0) →
        (s.pitonsIn (State.pitonGroup line) < State.pitonMax line →
          runs (.pitonInstall store unit o rb) s (fun t =>
            t.mem.pitons = s.mem.pitons ++ [(line, State.pitonGroup line)] ∧ lookupKey t.mem.ceHits line = none ∧
            (line < 0x10000000000 → t.reg (HBM_CNT_PITON.V (stackOf line)).a = Word.ofN ((s.reg (HBM_CNT_PITON.V (stackOf line)).a).toNat + 1)) ∧
            (0x10000000000 ≤ line →
              t.reg (CRX_CNT_SRAM_PITON.V (State.sramDie line)).a = Word.ofN ((s.reg (CRX_CNT_SRAM_PITON.V (State.sramDie line)).a).toNat + 1)))) ∧
        (State.pitonMax line ≤ s.pitonsIn (State.pitonGroup line) →
          runs (.pitonInstall store unit o rb) s (fun t => t.mem = s.mem ∧ s.noted t clMEMORY 4 1 0)))) ∧
    (∀ (n : Fin 16) (h : Fin 4096),
      runs (.harnessCopyReload n h) s (fun t =>
        t.hrn = s.hrn ∧ t.mem = s.mem ∧ s.noted t clMEMORY 6 1 0x06 ∧ s.frame t State.recordParts State.recordReg))

/-- R173, R478 to R482, R486: the crampon, which is in service. At a 1 us boundary P = K dyn + leak, EST_W is P in watts, the bubble fraction
moves by (P - CAP_W) / P_full rounded up and stays within 0 to 56 sixty-fourths, and energy that no share claims is charged to harness 0
in whole microjoules. A millisecond at 56/64 above the cap lowers the ceiling by 100 MHz and is counted, one below 32/64 raises it; at
800 MHz above the cap an alarm is raised. A calibration moves K to the measured over the estimated energy within 0.80 to 1.25, and a
ratio beyond sets CAL_FAULT, raises an alarm and leaves K at the bound; ten missing measurements do the same with K as it was.
R484, R485, R530, R570: a droop trip of a crux die sets DROOP and is counted, and its release clears it. A periodic trim of the dies in
service, AUTO set and each regulator answering, lowers the set voltage by STEP_MV where the slack is above the upper guard, not below
the die's floor, and raises it where it is below the lower guard, not above 850 mV; without AUTO it reads and trims nothing. Slack below
the alarm level raises it by twice STEP_MV and is recorded. -/
def Obligations.PowerAndVoltage : Prop :=
  (∀ (s : State), awake s → s.crampon = true →
    (∀ (dyn cd leak : BitVec 32) (lent : BitVec 12) (p : Nat), p = s.rf PWR_CAL.K * dyn.toNat + leak.toNat * 16384 →
      runs (.cramponInterval dyn cd leak lent [] []) s (fun t =>
        t.rf PWR_STS.EST_W = min 4095 (p / 16384 / 1000) ∧ t.rf PWR_STS.LENT_W = lent.toNat ∧ t.rf PWR_STS.BUBBLE ≤ 56 ∧
        (s.rf PWR_CAL.K * cd.toNat ≠ 0 →
          t.rf PWR_STS.BUBBLE = State.nextBubble p (s.rf PWR_CAL.K * cd.toNat) (s.rf PWR_CTL.CAP_W) (s.rf PWR_STS.BUBBLE)) ∧
        t.power.est = p ∧ t.power.sum = s.power.sum + p ∧
        t.reg (HRN_ENERGY_UJ.a 0) =
          Word.ofN ((s.reg (HRN_ENERGY_UJ.a 0)).toNat + ((lookupKey s.power.frac 0).getD 0 + p / 16384) / 1000) ∧
        t.rf PWR_STS.CORE_MHZ_ACT = s.rf PWR_STS.CORE_MHZ_ACT ∧ t.rf PWR_CAL.K = s.rf PWR_CAL.K)) ∧
    (s.rf PWR_STS.BUBBLE = 56 → s.overCap = true → 800 < s.ceilingMhz →
      runs .ceilingStep s (fun t =>
        t.ceilingMhz = s.ceilingMhz - 100 ∧ t.rf PWR_STS.CORE_MHZ_ACT = min (s.rf PWR_CTL.CORE_MHZ) (s.ceilingMhz - 100) ∧
        t.reg PWR_CNT_STEPDOWN.a = Word.ofN ((s.reg PWR_CNT_STEPDOWN.a).toNat + 1))) ∧
    (∀ k, s.rf PWR_STS.BUBBLE < 32 → s.power.steps = k + 1 →
      runs .ceilingStep s (fun t =>
        t.power.steps = k ∧ t.rf PWR_STS.CORE_MHZ_ACT = min (s.rf PWR_CTL.CORE_MHZ) (gradeMhz - 100 * k) ∧
        t.reg PWR_CNT_STEPDOWN.a = s.reg PWR_CNT_STEPDOWN.a)) ∧
    (s.ceilingMhz = 800 → s.overCap = true →
      runs .powerCap s (fun t => s.noted t clPOWER 1 1 0 ∧ s.frame t State.recordParts State.recordReg)) ∧
    (∀ (v : BitVec 40) (a : Nat), a = s.rf PWR_CAL.K * v.toNat * 16384 → s.power.sum ≠ 0 →
      runs (.calibration (some v)) s (fun t =>
        t.power.sum = 0 ∧ t.power.miss = 0 ∧ t.rf PWR_CAL.RAIL_W = min 4095 (v.toNat / 1000000) ∧
        (10 * a < 131072 * s.power.sum → t.rf PWR_CAL.K = 13108 ∧ t.rb PWR_STS.CAL_FAULT = true ∧ s.noted t clPOWER 2 1 0) ∧
        (20480 * s.power.sum < a → t.rf PWR_CAL.K = 20480 ∧ t.rb PWR_STS.CAL_FAULT = true ∧ s.noted t clPOWER 2 1 0) ∧
        (131072 * s.power.sum ≤ 10 * a → a ≤ 20480 * s.power.sum →
          13108 ≤ t.rf PWR_CAL.K ∧ t.rf PWR_CAL.K ≤ 20480 ∧ t.power.good = s.power.good + 1 ∧
          (13108 ≤ a / s.power.sum → a % s.power.sum = 0 → t.rf PWR_CAL.K = a / s.power.sum) ∧
          (100 ≤ s.power.good + 1 → t.rb PWR_STS.CAL_FAULT = false)))) ∧
    runs (.calibration none) s (fun t =>
      t.power.miss = s.power.miss + 1 ∧ t.power.good = 0 ∧ t.rf PWR_CAL.K = s.rf PWR_CAL.K ∧
      ((s.power.miss + 1) % 10 = 0 → t.rb PWR_STS.CAL_FAULT = true ∧ s.noted t clPOWER 2 1 0))) ∧
  (∀ (s : State) (n : Fin 16), awake s →
    (s.rb (PWR_DIE_STS.DROOP n) = false →
      runs (.droopTrip n) s (fun t =>
        t.rb (PWR_DIE_STS.DROOP n) = true ∧ t.reg PWR_CNT_DROOP.a = Word.ofN ((s.reg PWR_CNT_DROOP.a).toNat + 1) ∧
        s.frame t [.power, .sticky] (fun a => a = PWR_DIE_STS.a n ∨ a = PWR_CNT_DROOP.a))) ∧
    (s.rb (PWR_DIE_STS.DROOP n) = true → runs (.droopTrip n) s (fun t => t = s)) ∧
    runs (.droopRelease n) s (fun t => t.rb (PWR_DIE_STS.DROOP n) = false ∧ s.frame t [] (fun a => a = PWR_DIE_STS.a n)) ∧
    (∀ (rs : List DieRead) (r : DieRead) (v : Nat), rs.length = 16 → rs[n.val]? = some r → s.crampon = true → s.rf PWR_TRIM_CFG.PERIOD_S ≠ 0 →
      s.fault.outUnits = [] → v = s.rf (PWR_DIE_STS.VSET_MV n) →
      (s.rb PWR_TRIM_CFG.AUTO = false →
        runs (.voltageTrim rs) s (fun t =>
          t.rf (PWR_DIE_STS.VSET_MV n) = v ∧ t.rf (PWR_DIE_STS.VMEAS_MV n) = r.vmeas.toNat ∧ t.rf (PWR_DIE_STS.TJ_C n) = r.tj.toNat)) ∧
      (s.rb PWR_TRIM_CFG.AUTO = true → r.avs = true →
        runs (.voltageTrim rs) s (fun t =>
          t.rf (PWR_DIE_STS.SLACK_PS n) = min 255 r.slack ∧
          t.rf (PWR_DIE_STS.VSET_MV n) =
            (if Config.guardUp n < r.slack then min v (max (Config.vFloorMv n) (v - s.rf PWR_TRIM_CFG.STEP_MV))
             else if r.slack < Config.guardLow n ∧ v < 850 then min 850 (v + s.rf PWR_TRIM_CFG.STEP_MV) else v)))) ∧
    (∀ (r : DieRead) (v : Nat), s.crampon = true → s.fault.outUnits = [] → s.rb PWR_TRIM_CFG.AUTO = true → r.avs = true →
      v = s.rf (PWR_DIE_STS.VSET_MV n) →
      runs (.marginAlarmTrim n r) s (fun t =>
        (r.slack < Config.slackAlarm n →
          t.rf (PWR_DIE_STS.VSET_MV n) = min (max v 850) (v + 2 * s.rf PWR_TRIM_CFG.STEP_MV) ∧
          t.rf (PWR_DIE_STS.SLACK_PS n) = min 255 r.slack ∧ s.noted t clMARGIN 1 0 0) ∧
        (Config.slackAlarm n ≤ r.slack → t = s))))

/-- R471 to R478, R487: the low-power states. A port that may idle enters PORT_IDLE and is counted, one that may not does not, and it leaves;
an idle tensor engine whose tolerance is 100 ns enters LIGHT, one that may enters DEEP and is counted; the stacks enter self-refresh
where every tolerance is 10 us, and are counted. A write of a tolerance is in force at once: a bivouacked core it no longer permits wakes.
CORE_MHZ and CAP_W take a value in range, the clock at once, and any other write is refused. -/
def Obligations.LowPowerStates : Prop :=
  ∀ (s : State) (src : Src), awake s →
    (∀ P : Fin 1152,
      ((s.port P).idle = false → s.mayIdle P = true →
        runs (.portIdleEnter P) s (fun t =>
          t.port P = { s.port P with idle := true } ∧ (∀ Q, Q ≠ P.val → t.port Q = s.port Q) ∧
          t.reg PWR_CNT_PORT_IDLE.a = Word.ofN ((s.reg PWR_CNT_PORT_IDLE.a).toNat + 1) ∧
          s.frame t [.ports, .sticky] (fun a => a = PWR_CNT_PORT_IDLE.a))) ∧
      (s.mayIdle P = false → runs (.portIdleEnter P) s (fun t => t = s)) ∧
      (s.loneTorus P = false →
        runs (.portIdleExit P) s (fun t =>
          t.port P = { s.port P with idle := false } ∧ (∀ Q, Q ≠ P.val → t.port Q = s.port Q) ∧ s.frame t [.ports] (fun _ => False)))) ∧
    (∀ c : Fin 64, s.tenBusy c = false →
      (lookupKey s.power.ten c.val = none → 100 ≤ s.tolTen c →
        runs (.tenLightEnter c) s (fun t => lookupKey t.power.ten c.val = some 1 ∧ s.frame t [.power] (fun _ => False))) ∧
      (lookupKey s.power.ten c.val ≠ some 2 → s.mayDeep c = true →
        runs (.deepEnter c) s (fun t =>
          lookupKey t.power.ten c.val = some 2 ∧ t.reg PWR_CNT_DEEP.a = Word.ofN ((s.reg PWR_CNT_DEEP.a).toNat + 1) ∧
          s.frame t [.power, .sticky] (fun a => a = PWR_CNT_DEEP.a)))) ∧
    (s.power.hbmSr = false → s.rf PWR_IDLE_CFG.HBM_SR_US ≠ 0 → 10000 ≤ s.tolHbm →
      runs .hbmSelfRefresh s (fun t =>
        t.power.hbmSr = true ∧ t.reg PWR_CNT_HBM_SR.a = Word.ofN ((s.reg PWR_CNT_HBM_SR.a).toNat + 1) ∧
        s.frame t [.power, .sticky] (fun a => a = PWR_CNT_HBM_SR.a))) ∧
    (∀ (h : Fin 4096) (v : Word), s.opens src (HRN_WAKE.a h) →
      runs (.wakeToleranceWrite src (some h) v) s (fun t =>
        t.reg (HRN_WAKE.a h) = v ∧
        (∀ k, k < 512 → s.cstate k = 4 → s.coreH k = h → t.cstate k = (if v.field 0 16 < 100 then 3 else 4)) ∧
        (∀ k, k < 512 → s.cstate k ≠ 4 → t.cstate k = s.cstate k) ∧
        s.frame t [.ports, .power] (fun a => a = HRN_WAKE.a h ∨ ∃ k, k < 512 ∧ a = CRX_CORE_STS.a k))) ∧
    (∀ v : Word, s.opens src PWR_SYS_WAKE.a →
      runs (.wakeToleranceWrite src none v) s (fun t =>
        (t.reg PWR_SYS_WAKE.a).toNat = v.toNat % 2 ^ 48 ∧ (v.field 16 16 < 10000 → t.power.hbmSr = false))) ∧
    (s.opens src PWR_CTL.a →
      (∀ v : BitVec 11, 1500 ≤ s.rf PWR_CTL.CAP_W → s.rf PWR_CTL.CAP_W ≤ gradeW →
        (800 ≤ v.toNat → v.toNat ≤ gradeMhz → v.toNat % 100 = 0 →
          runs (.coreMhzSet src v) s (fun t =>
            t.rf PWR_CTL.CORE_MHZ = v.toNat ∧ t.rf PWR_CTL.CAP_W = s.rf PWR_CTL.CAP_W ∧
            t.rf PWR_STS.CORE_MHZ_ACT = min v.toNat s.ceilingMhz ∧ s.frame t [] (fun a => a = PWR_CTL.a ∨ a = PWR_STS.a))) ∧
        ((v.toNat < 800 ∨ gradeMhz < v.toNat ∨ v.toNat % 100 ≠ 0) → turnedAway (.coreMhzSet src v) s src PWR_CTL.a 0x0E)) ∧
      (∀ v : BitVec 12, 800 ≤ s.rf PWR_CTL.CORE_MHZ → s.rf PWR_CTL.CORE_MHZ ≤ gradeMhz → s.rf PWR_CTL.CORE_MHZ % 100 = 0 →
        (1500 ≤ v.toNat → v.toNat ≤ gradeW →
          runs (.capWSet src v) s (fun t =>
            t.rf PWR_CTL.CAP_W = v.toNat ∧ t.rf PWR_CTL.CORE_MHZ = s.rf PWR_CTL.CORE_MHZ ∧
            s.frame t [] (fun a => a = PWR_CTL.a ∨ a = PWR_STS.a))) ∧
        ((v.toNat < 1500 ∨ gradeW < v.toNat) → turnedAway (.capWSet src v) s src PWR_CTL.a 0x0E)))

/-- R489, R490, R493, R494, R498, R500, R501: a running camp whose work is clean ends OK, with its report, and the next begins or waits; Camp 0
sets FUSES_OK, Camp 1 takes the slot of the boot pointer where it verifies and else the other, Camps 3 and 4 leave the poison code in
L and S and in H, Camp 4 waits for LASER_EN, Camp 5 ends only once every enabled port has settled. A finding stops the camp with
its STATUS, REASON and DETAIL; so does the camp's maximum duration, but in Camp 5. -/
def Obligations.CampsAdvance : Prop :=
  ∀ (s : State) (w : CampWork), awake s → s.campState = 0 →
    (s.campNow = 0 →
      (w.fail = none → runs (.campComplete w) s (fun t =>
        s.campPassed t 0 ∧ t.rb HUB_IDENT_STS.FUSES_OK = true ∧
        s.frame t [.boot] (fun a => a = HUB_IDENT_STS.a ∨ a = HUB_CAMP_STS.a ∨ a = HUB_CAMP_RPT.a 0))) ∧
      (∀ b, w.fail = some (.fuse b) → runs (.campComplete w) s (fun t => s.stopped t 0x06 1 b.toNat))) ∧
    (s.campNow = 1 →
      (w.fail ≠ some .flashSilent →
        (w.causeA.val = 0 → w.ptrB = false → s.boot.minSvn ≤ w.svn.toNat →
          runs (.campComplete w) s (fun t =>
            s.campPassed t 0 ∧ t.rf HUB_BOOT_IMAGE.SLOT = 0 ∧ t.rf HUB_BOOT_IMAGE.FALLBACK = 0 ∧
            t.rf HUB_BOOT_IMAGE.SVN = w.svn.toNat ∧ t.rb HUB_CAMP_STS.FW_READY = true)) ∧
        (w.causeA.val ≠ 0 → w.ptrB = false → w.causeB.val = 0 → s.boot.minSvn ≤ w.svn.toNat →
          runs (.campComplete w) s (fun t =>
            s.campPassed t 0 ∧ t.rf HUB_BOOT_IMAGE.SLOT = 1 ∧ t.rf HUB_BOOT_IMAGE.FALLBACK = 1)) ∧
        (w.causeA.val ≠ 0 → w.causeB.val ≠ 0 →
          runs (.campComplete w) s (fun t => s.stopped t 0x0E 3 (w.causeA.val + 16 * w.causeB.val)))) ∧
      (w.fail = some .flashSilent → runs (.campComplete w) s (fun t => s.stopped t 0x07 4 0))) ∧
    (s.campNow = 2 → State.cleanWork w → s.cairn.copyA = none → s.cairn.copyB = none →
      runs (.campComplete w) s (fun t =>
        s.campPassed t 0 ∧ t.rf CRN_STS.STATE = 1 ∧ t.rb CRN_STS.FRESH = true ∧ t.rb CRN_STS.CAIRN_FAIL = false ∧ t.rf CRN_GEN.V = 0)) ∧
    (s.campNow = 3 → State.cleanWork w →
      runs (.campComplete w) s (fun t => s.campPassed t 0 ∧ t.mem = s.mem.poison 0x10000000000 0x30000000000)) ∧
    (s.campNow = 4 → State.cleanWork w →
      (s.boot.laserEn = false →
        runs (.campComplete w) s (fun t => s.campPassed t 1 ∧ t.mem = s.mem.poison 0 0x10000000000 ∧ t.boot.lasers = s.boot.lasers)) ∧
      (s.boot.laserEn = true → w.lasers.ports = [] →
        runs (.campComplete w) s (fun t => s.campPassed t 0 ∧ t.boot.lasers = State.answering w.lasers.modules)) ∧
      (∀ d : Fin 12, runs (.campComplete { w with fail := some (.training d) }) s (fun t => s.stopped t 0x0E 10 d.val))) ∧
    (s.campNow = 5 →
      ((∃ P ∈ s.enabledPorts, s.portSettled P = false) → runs (.campComplete w) s (fun t => t = s)) ∧
      ((∀ P ∈ s.enabledPorts, s.portSettled P = true) → w.defects = [] →
        runs (.campComplete w) s (fun t =>
          s.campPassed t 1 ∧ t.rf (HUB_CAMP_RPT.DETAIL 5) = (s.enabledPorts.filter (fun P => s.pstate P != 7)).length)) ∧
      runs .campTimeout s (fun t => t = s)) ∧
    (s.campNow < 5 → runs .campTimeout s (fun t => s.stopped t 0x07 12 s.campNow))

/-- R490, R495, R496, R501, R524, R574: PERST_N released with the rails good and no thermal trip, and RESET, start Camp 0 with every block
in its reset state; what flash, fuses and pins hold stays, and so does SOD_QUICK. LASER_EN's rise lights the modules that answer
where Camp 5 waits, its fall puts every laser out. BURN_SVN takes MIN_SVN up to the running image's version once Camp 6 is done. A token
that matches keeps JTAG open; one that does not counts a try, of which there are three. -/
def Obligations.ResetAndStart : Prop :=
  ∀ (s : State) (src : Src),
    (s.boot.perst = false →
      (s.boot.pwrgd = true → s.boot.thermTrip = false →
        runs .perstNRelease s (fun t =>
          t.boot.perst = true ∧ t.boot.held = false ∧ t.campNow = 0 ∧ t.campState = 0 ∧ t.mem = MemSt.initial ∧ t.ports = [] ∧
          t.fwd = FwdSt.initial ∧ t.comp = CompSt.initial ∧ t.rope.ctxs = [] ∧ t.gate = GateSt.initial ∧
          t.boot.minSvn = s.boot.minSvn ∧ t.cairn.log = s.cairn.log ∧ t.boot.defects = s.boot.defects ∧
          t.rf HUB_BOOT_CTL.SOD_QUICK = s.rf HUB_BOOT_CTL.SOD_QUICK ∧ t.rf (CRN_LIFE.V 3) = 1 ∧ t.pending = s.pending)) ∧
      (s.boot.pwrgd = false → runs .perstNRelease s (fun t => t = s.withBoot { s.boot with perst := true }))) ∧
    (s.boot.perst = true → runs .perstNRelease s (fun t => t = s)) ∧
    (awake s → s.opens src HUB_BOOT_CTL.a →
      runs (.bootReset src) s (fun t =>
        t.boot.held = false ∧ t.campNow = 0 ∧ t.campState = 0 ∧ t.mem = MemSt.initial ∧ t.fwd = FwdSt.initial ∧
        t.boot.minSvn = s.boot.minSvn ∧ t.cairn.log = s.cairn.log ∧ t.boot.perst = s.boot.perst ∧ t.boot.pwrgd = s.boot.pwrgd ∧
        t.rf HUB_BOOT_CTL.SOD_QUICK = s.rf HUB_BOOT_CTL.SOD_QUICK ∧ t.rf (CRN_LIFE.V 3) = 1) ∧
      (s.campState = 3 →
        runs (.burnSvn src) s (fun t =>
          t.boot = { s.boot with minSvn := s.rf HUB_BOOT_IMAGE.SVN } ∧ t.rf HUB_BOOT_IMAGE.MIN_SVN = s.rf HUB_BOOT_IMAGE.SVN ∧
          s.frame t [.boot] (fun a => a = HUB_BOOT_IMAGE.a ∨ a = HUB_BOOT_CTL.a))) ∧
      (s.campState ≠ 3 → turnedAway (.burnSvn src) s src HUB_BOOT_CTL.a 0x01)) ∧
    (awake s → ∀ l : LaserUp,
      (s.campNow = 5 → s.campState = 1 → l.ports = [] →
        runs (.laserEnRise l) s (fun t =>
          t.boot = { s.boot with laserEn := true, lasers := State.answering l.modules, campNs := 0 } ∧ t.campState = 0 ∧ t.campNow = 5 ∧
          s.frame t [.boot] (fun a => a = HUB_CAMP_STS.a))) ∧
      (s.campNow ≠ 5 → runs (.laserEnRise l) s (fun t => t = s.withBoot { s.boot with laserEn := true })) ∧
      ((∀ m ∈ s.boot.lasers, ∀ P ∈ State.diePorts m, s.belayUp P = false) →
        runs .laserEnFall s (fun t => t = s.withBoot { s.boot with laserEn := false, lasers := [] }))) ∧
    (∀ v : Word, awake s → s.opens src HUB_JTAG_TOKEN.a →
      (s.rf (HUB_CAMP_RPT.STATUS 1) ≠ 0 → s.rf HUB_JTAG_STS.TRIES < 3 →
        runs (.jtagToken src v) s (fun t =>
          (Config.tokenOk v = true → t = s.withBoot { s.boot with jtagKeep := true }) ∧
          (Config.tokenOk v = false →
            t.rf HUB_JTAG_STS.TRIES = s.rf HUB_JTAG_STS.TRIES + 1 ∧ s.frame t [] (fun a => a = HUB_JTAG_STS.a)))) ∧
      (s.rf HUB_JTAG_STS.TRIES = 3 → runs (.jtagToken src v) s (fun t => t = s)))

/-- R502, R503, R505, R509: COMMIT of a join record that R23 allows, in Camp 6, whose class is the expected one, copies its fields into
HUB_PLANE; a field out of range or another class stops the camp. LOCK of a committed device whose time, tables and processor are ready
sets LOCKED, ends Camp 6 and releases FAULT_N where the device is NORMAL; an unmet condition stops the camp. Outside Camp 6 neither has an effect. -/
def Obligations.CommitAndLock : Prop :=
  ∀ (s : State) (src : Src), awake s → s.opens src HUB_BOOT_CTL.a →
    (s.atCamp6 = true →
      (s.joinFault = none → (s.rb HUB_JOIN1.EQUIV_ANY = true ∨ s.rf HUB_JOIN1.EQUIV_EXPECT = s.rf HUB_EQUIV_CLASS.CODE) →
        (∀ P, P < 1152 → s.belayUp P = false) →
        runs (.commit src) s (fun t =>
          t.rf HUB_PLANE.PLANE_ID = s.rf HUB_JOIN0.PLANE_ID ∧ t.rf HUB_PLANE.INDEX = s.rf HUB_JOIN0.INDEX ∧
          t.rf HUB_PLANE.A = s.rf HUB_JOIN0.A ∧ t.rf HUB_PLANE.B = s.rf HUB_JOIN0.B ∧ t.rf HUB_PLANE.C = s.rf HUB_JOIN0.C ∧
          t.rf HUB_PLANE.FPLANE = s.rf HUB_JOIN0.FPLANE ∧ t.rb HUB_PLANE.COMMITTED = true ∧ t.rb HUB_PLANE.LOCKED = false ∧
          t.boot.committed = true ∧ t.campState = 0 ∧
          s.frame t [.boot] (fun a => a = HUB_PLANE.a ∨ a = HUB_CAMP_STS.a ∨ a = HUB_BOOT_CTL.a))) ∧
      (∀ f, s.joinFault = some f → runs (.commit src) s (fun t => s.stopped t 0x0E 13 f)) ∧
      (s.joinFault = none → s.rb HUB_JOIN1.EQUIV_ANY = false → s.rf HUB_JOIN1.EQUIV_EXPECT ≠ s.rf HUB_EQUIV_CLASS.CODE →
        runs (.commit src) s (fun t => s.stopped t 0x0E 14 0)) ∧
      (s.lockFault = none →
        runs (.lock src) s (fun t =>
          t.campState = 3 ∧ t.campNow = 6 ∧ t.rb HUB_PLANE.LOCKED = true ∧
          t.rf HUB_FAULT_STS.FAULT_N = (if s.devState = 0 then 0 else s.rf HUB_FAULT_STS.FAULT_N) ∧
          t.rf (HUB_CAMP_RPT.STATUS 6) = 0 ∧ t.boot = s.boot)) ∧
      (∀ d, s.lockFault = some d → runs (.lock src) s (fun t => s.stopped t 0x01 15 d))) ∧
    (s.atCamp6 = false →
      runs (.commit src) s (fun t => s.frame t [] (fun a => a = HUB_BOOT_CTL.a)) ∧
      runs (.lock src) s (fun t => s.frame t [] (fun a => a = HUB_BOOT_CTL.a)))

/-- R513, R514, R515: the DEVICE fault at the front asserts FAULT_N, leaves FENCED as it is, takes a device where a harness is RECOVERING
to FENCED and any other to DEGRADED; where a HARNESS fault comes first, or none waits, it does nothing. FENCE enters FENCED, where every
tenant's core that ran stands halted. CLEAR returns DEGRADED to NORMAL and releases FAULT_N, and is refused in FENCED. -/
def Obligations.DeviceStates : Prop :=
  ∀ (s : State) (src : Src), awake s → s.rope.ctxs = [] → s.gate.ctxs = [] → s.host.opened = [] →
    (∀ r t0, s.fault.raised = [⟨r, t0⟩] →
      (r.sev = 3 → s.fault.aval = [] →
        runs (.deviceFault none) s (fun t =>
          t.fault.raised = [] ∧ t.rf HUB_FAULT_STS.FAULT_N = 1 ∧ t.boot.smbAlert = true ∧
          t.rf HUB_FAULT_STS.DEV_STATE = (if s.devState = 2 ∨ s.anyRecovering = true then 2 else 1) ∧
          t.reg HUB_FAULT_CNT.a = Word.ofN ((s.reg HUB_FAULT_CNT.a).toNat + 1) ∧ t.fault.seqno = s.fault.seqno + 1)) ∧
      (r.sev = 2 → runs (.deviceFault none) s (fun t => t = s))) ∧
    (s.fault.raised = [] → runs (.deviceFault none) s (fun t => t = s)) ∧
    (s.opens src HUB_FAULT_CTL.a → s.faultBitsClear →
      (s.devState ≠ 2 →
        runs (.fence src) s (fun t =>
          t.devState = 2 ∧ (∀ k, k < 512 → s.boundCore k = true → s.coreH k ≠ 0 → s.cstate k ∈ [2, 3, 4] → t.cstate k = 1) ∧
          (∀ k, k < 512 → s.coreH k = 0 → t.cstate k = s.cstate k) ∧ (s.comp.flights = [] → t.mem = s.mem) ∧ t.boot = s.boot)) ∧
      (s.devState = 2 →
        runs (.fence src) s (fun t => s.frame t [] (fun _ => False)) ∧ turnedAway (.clear src) s src HUB_FAULT_CTL.a 0x0E) ∧
      (s.devState = 1 →
        runs (.clear src) s (fun t =>
          t.devState = 0 ∧ t.rf HUB_FAULT_STS.FAULT_N = (if s.campState = 2 then s.rf HUB_FAULT_STS.FAULT_N else 0) ∧
          s.frame t [] (fun a => a = HUB_FAULT_STS.a))) ∧
      (s.devState = 0 → runs (.clear src) s (fun t => s.frame t [] (fun _ => False))))

/-- R517, R518: hub 0, and a unit that is out already, change nothing. A unit that goes out of service raises a DEVICE fault, and then a
harness fault against each harness of R518's table; a stack's words read as uncorrectable, a crux die's cores are FAILED. Every torus port
toward a neighbour out of ACTIVE is one alarm; it is none while one of them is ACTIVE or the dimension has no neighbours. -/
def Obligations.UnitsAndNeighboursLost : Prop :=
  ∀ s : State, awake s →
    runs (.unitOutOfService (.hub 0)) s (fun t => t = s) ∧
    (∀ u : DevUnit, State.unitCode u ∈ s.fault.outUnits → runs (.unitOutOfService u) s (fun t => t = s)) ∧
    (∀ (u : DevUnit) (c : Nat), c = State.unitCode u → c ≠ 48 → c ∉ s.fault.outUnits → s.rope.ctxs = [] → s.gate.ctxs = [] → s.host.opened = [] →
      (∀ P, P < 1152 → s.pstate P = 0) →
      runs (.unitOutOfService u) s (fun t =>
        (∀ x, x ∈ t.fault.outUnits ↔ x = c ∨ x ∈ s.fault.outUnits) ∧
        t.fault.raised.map (fun r => (r.what.sev, r.what.unit, r.what.harness)) =
          s.fault.raised.map (fun r => (r.what.sev, r.what.unit, r.what.harness)) ++
            (3, c, 0) :: (s.unitHarnesses u).map (fun h => (2, c, h)) ∧
        (∀ i, u = .stack i → i.val ∈ t.mem.dead ∧ t.mem.cells = s.mem.cells) ∧
        (∀ n, u = .crux n → ∀ q, q < 32 → t.cstate (32 * n.val + q) = 6) ∧
        (∀ n k, u = .crux n → k < 512 → k / 32 ≠ n.val → t.cstate k = s.cstate k))) ∧
    (∀ d : Fin 6,
      (s.rb HUB_PLANE.COMMITTED = true → 1 < s.dim (d.val / 2) →
        ((∀ P, 768 ≤ P → P < 1152 → s.active P = false) →
          runs (.neighbourLost d) s (fun t => s.noted t clLINK 0x10 1 0x09 ∧ s.frame t State.recordParts State.recordReg)) ∧
        (∀ P, 768 ≤ P → P < 1152 → s.active P = true → s.dim ((P - 768) % 24 / 8) ≠ 1 →
          s.neighbour s.devIndex ((P - 768) % 24 / 4) = s.neighbour s.devIndex d →
          runs (.neighbourLost d) s (fun t => t = s))) ∧
      (s.dim (d.val / 2) ≤ 1 → runs (.neighbourLost d) s (fun t => t = s)))

/-- R523: the watchdog or an exception takes the processor from UP or RETURNED to RESTARTING, recorded; it starts again only on the image
verified at Camp 1, to UP from RESTARTING and to RETURNED from EXPIRED; the headless interval expires in RESTARTING only; RESUME returns
RETURNED to UP and is refused elsewhere.
R524: LASER_OFF puts every laser out; LASER_ON, while LASER_EN is high, lights those of the port dies whose modules answer, and is
without effect while LASER_EN is low. -/
def Obligations.ProcessorAndLasers : Prop :=
  (∀ (s : State) (src : Src), awake s →
    let m := s.rf HUB_FAULT_STS.MP_STATE
    let goes : Nat → State → Prop := fun st t =>
      t.rf HUB_FAULT_STS.MP_STATE = st ∧ s.noted t clMGMT 0x02 1 0 ∧ s.frame t State.recordParts State.recordReg
    (m ≠ 1 → m ≠ 2 → s.campOk 1 = true →
      runs .mpWatchdog s (fun t => goes 1 t ∧ t.rb HUB_CAMP_STS.FW_READY = false) ∧
      runs .mpException s (fun t => goes 1 t ∧ t.rb HUB_CAMP_STS.FW_READY = false)) ∧
    (m = 1 ∨ m = 2 → runs .mpWatchdog s (fun t => t = s) ∧ runs .mpException s (fun t => t = s) ∧
      runs (.mpStart true) s (fun t => goes (if m = 1 then 0 else 3) t ∧ t.rb HUB_CAMP_STS.FW_READY = true)) ∧
    runs (.mpStart false) s (fun t => t = s) ∧
    (m = 1 → runs .headlessExpire s (goes 2)) ∧
    (m ≠ 1 → runs .headlessExpire s (fun t => t = s)) ∧
    (s.opens src HUB_FAULT_CTL.a → s.faultBitsClear →
      (m = 3 → s.host.opened = [] → runs (.resume src) s (goes 0)) ∧
      (m ≠ 3 → turnedAway (.resume src) s src HUB_FAULT_CTL.a 0x0E))) ∧
  (∀ (s : State) (src : Src) (m : BitVec 32), awake s → s.opens src HUB_FAULT_CTL.a → s.faultBitsClear →
    ((∀ i ∈ s.boot.lasers, ∀ P ∈ State.diePorts i, s.belayUp P = false) →
      runs (.laserOff src) s (fun t => t.boot = { s.boot with lasers := [] } ∧ s.frame t [.boot] (fun _ => False))) ∧
    (s.boot.laserEn = false → runs (.laserOn src m) s (fun t => s.frame t [] (fun _ => False))) ∧
    (s.boot.laserEn = true → (∀ i, m.getLsbD i = true → ∀ P ∈ State.diePorts i, s.rb (PRT_PORT_CTL.ENABLE P) = false) →
      runs (.laserOn src m) s (fun t =>
        (∀ i, i ∈ t.boot.lasers ↔ i ∈ s.boot.lasers ∨ m.getLsbD i = true) ∧ s.frame t [.boot] (fun _ => False))))

/-- R525 to R527: a REQUEST that fails its check is counted, recorded and answered with nothing. One with the last accepted SEQ brings
the saved RESPONSE again; one below it a RESPONSE of its accesses with status REJECT; one above it is applied and answered: here a read
of HUB_FAULT_STS. An ACK releases the records of every EVENT up to its SEQ. Unacknowledged EVENTs are sent again. Without the channel
nothing happens.
R436: a REG_READ or REG_WRITE frame at the front of the management queue that is not the plane master's, of harness 0 and from a torus
port, is discarded and counted; the plane master's read of one register is answered by a REG_RSP with its TAG, the value and status OK.
While the processor is held the frame waits. -/
def Obligations.FaultChannel : Prop :=
  (∀ (s : State) (b : List Byte) (from_ : BitVec 32), awake s →
    (s.fmRuns = false → runs (.fmRequest b from_) s (fun t => t = s) ∧ runs (.fmAck b from_) s (fun t => t = s)) ∧
    (s.fmRuns = true →
      (s.fmOk b = false →
        (∀ c : Instr, c = .fmRequest b from_ ∨ c = .fmAck b from_ →
          runs c s (fun t => t.reg HUB_FM_CNT_BAD.a = Word.ofN ((s.reg HUB_FM_CNT_BAD.a).toNat + 1) ∧ s.noted t clMGMT 0x03 1 0x08 ∧
            s.frame t State.recordParts State.recordReg ∧ t.fault.reqSeq = s.fault.reqSeq))) ∧
      (s.fmOk b = true → State.fmType b = 1 → State.fmLen b % 16 = 0 → 16 ≤ State.fmLen b → State.fmLen b ≤ 1024 →
        (State.fmSeq b = s.fault.reqSeq → s.fault.reqAny = true →
          runs (.fmRequest b from_) s (fun t => t = s.emit (.response from_.toNat s.fault.reqSeq s.fault.saved))) ∧
        ((State.fmSeq b < s.fault.reqSeq ∨ (s.fault.reqAny = false ∧ State.fmSeq b = 0 ∧ s.fault.reqSeq = 0)) →
          runs (.fmRequest b from_) s (fun t => ∃ r, t = s.emit (.response from_.toNat s.fault.reqSeq r) ∧ r.length = State.fmLen b ∧
            ∀ i, i < State.fmLen b / 16 → r.getD (16 * i + 4) 0 = 0x0E#8)) ∧
        (s.fault.reqSeq < State.fmSeq b → State.fmLen b = 16 → leAt (State.fmPayload b) 0 4 = HUB_FAULT_STS.a →
          leAt (State.fmPayload b) 5 1 % 2 = 0 → s.campOk 0 = true →
          runs (.fmRequest b from_) s (fun t =>
            t.fault.reqSeq = State.fmSeq b ∧ t.fault.reqAny = true ∧ t.fault.reqFrom = from_.toNat ∧
            t.reg HUB_FM_CNT_RX.a = Word.ofN ((s.reg HUB_FM_CNT_RX.a).toNat + 1) ∧
            t.fault.saved = (State.fmPayload b).take 4 ++ [0#8] ++ ((State.fmPayload b).drop 5).take 3 ++ bytesLE 8 (s.reg HUB_FAULT_STS.a).toNat ∧
            t.out = s.out ++ [.response from_.toNat (State.fmSeq b) t.fault.saved] ∧
            s.frame t [.fault, .out, .sticky] (fun a => a = HUB_FM_CNT_RX.a)))) ∧
      (s.fmOk b = true → State.fmType b = 4 → State.fmLen b = 0 →
        runs (.fmAck b from_) s (fun t =>
          t.fault.hold = s.fault.hold.filter (fun i => i.tag == 0 || decide (State.fmSeq b < i.tag)) ∧
          t.rf HUB_FAULT_STS.QUEUE = t.fault.hold.length % 8192 ∧ t.out = s.out ∧ t.fault.reqSeq = s.fault.reqSeq))) ∧
    (s.fmUp = false → runs .eventResend s (fun t => t = s)) ∧
    (∀ q, s.fmUp = true → q ≠ 0 → s.fault.hold ≠ [] → (∀ i ∈ s.fault.hold, i.tag = q) →
      runs .eventResend s (fun t =>
        t.out = s.out ++ [.event s.eventTo q (s.fault.hold.map (fun i => i.bytes))] ∧
        t.reg HUB_FM_CNT_RESEND.a = Word.ofN ((s.reg HUB_FM_CNT_RESEND.a).toNat + 1) ∧ t.fault = s.fault))) ∧
  (∀ (s : State), awake s →
    (s.mgmtHeld = true → runs .regRead s (fun t => t = s) ∧ runs .regWrite s (fun t => t = s)) ∧
    (∀ x : Steered, s.mgmtHeld = false → s.fwd.steer.find? (fun y => y.place == .mgmt) = some x →
      (s.inbandOk x = false →
        let out : State → Prop := fun t =>
          t.fwd = { s.fwd with steer := s.fwd.steer.erase x } ∧
          t.reg RING_CNT_MGMT_DENIED.a = Word.ofN ((s.reg RING_CNT_MGMT_DENIED.a).toNat + 1) ∧
          s.frame t [.fwd, .sticky] (fun a => a = RING_CNT_MGMT_DENIED.a)
        (x.frame.op = 0x10 → runs .regRead s out) ∧ (x.frame.op = 0x11 → runs .regWrite s out)) ∧
      (s.inbandOk x = true → x.frame.len = 16 → x.frame.payload.length = 16 → x.frame.dst < 0x3FFC0 → s.campOk 0 = true → s.campOk 1 = true →
        ∀ P, s.reaches 0 0 6 x.frame.src P → s.fault.outUnits = [] →
          (x.frame.op = 0x10 → leAt x.frame.payload 0 4 = HUB_FAULT_STS.a →
            runs .regRead s (fun t =>
              t.fwd.steer = s.fwd.steer.erase x ∧
              s.queued t P (fun g => g.kind = 6 ∧ g.op = 0x12 ∧ g.tag = x.frame.tag ∧ g.dst = x.frame.src ∧
                g.payload = x.frame.payload.take 4 ++ [0#8] ++ (x.frame.payload.drop 5).take 3 ++ bytesLE 8 (s.reg HUB_FAULT_STS.a).toNat))) ∧
          (x.frame.op = 0x11 → leAt x.frame.payload 0 4 = HUB_JOIN1.a → s.locked = false →
            runs .regWrite s (fun t =>
              t.fwd.steer = s.fwd.steer.erase x ∧ t.rf HUB_JOIN1.DEVICE_FEID = leAt x.frame.payload 8 8 % 2 ^ 18 ∧
              s.queued t P (fun g => g.kind = 6 ∧ g.op = 0x12 ∧ g.tag = x.frame.tag ∧ g.dst = x.frame.src ∧
                g.payload.getD 4 0xFF = 0#8))))))

/-- R519, R520, R522, R532: a fill, or a MARK, of a crux die that holds no created store completes with REJECT; a write while BUSY is refused. A
fill of a store whose one block has no other copy marks it LOST and completes with LOST, recorded. ABORT ends a fill with FLUSHED where
a copy was not yet written; a copy's timeout leaves every copy that waits on its device LOST and ends the fill with TIMEOUT. MARK sets or
clears LOST of the named device's copies. -/
def Obligations.FillsAndMarks : Prop :=
  ∀ (s : State) (src : Src) (n : Fin 16), awake s →
    (s.opens src HUB_FILL_CTL.a →
      (s.rb HUB_FILL_CTL.BUSY = true → turnedAway (.fillStart src n) s src HUB_FILL_CTL.a 0x0E) ∧
      (s.rb HUB_FILL_CTL.BUSY = false →
        (s.liveStore n = none →
          runs (.fillStart src n) s (fun t => t.rf HUB_FILL_CTL.STATUS = 0x0E ∧ t.rb HUB_FILL_CTL.BUSY = false ∧
            s.frame t [] (fun a => a = HUB_FILL_CTL.a))) ∧
        (∀ y a w0, s.soleEntry n y a w0 → s.gate.fill = none → s.hrnState y.h ≠ 0 → State.copyDev w0 0 = s.devIndex → s.mfb.carabs = [] →
          runs (.fillStart src n) s (fun t =>
            t.rf HUB_FILL_CTL.STATUS = 0x09 ∧ t.rb HUB_FILL_CTL.BUSY = false ∧ t.gate = s.gate ∧
            t.rf HUB_FILL_STS.WRITTEN = 0 ∧ t.rf HUB_FILL_STS.LOST = 1 ∧ s.noted t clMEMORY 5 1 0x09 ∧
            Word.ofN (leAt (t.mem.read y.h a 8) 0 8) = w0.withField 2 1 1))) ∧
      (∀ f, s.gate.fill = some f → f.copies.length < 2 ^ 32 →
        (s.rb HUB_FILL_CTL.BUSY = true →
          runs (.fillAbort src) s (fun t =>
            t.gate = { s.gate with fill := none } ∧ t.rb HUB_FILL_CTL.BUSY = false ∧
            t.rf HUB_FILL_STS.WRITTEN = (f.copies.filter (fun c => c.st == 2)).length ∧
            t.rf HUB_FILL_STS.LOST = (f.copies.filter (fun c => c.st != 2)).length ∧
            ((∀ c ∈ f.copies, c.st < 3) →
              t.rf HUB_FILL_CTL.STATUS = (if f.copies.all (fun c => c.st == 2) then 0 else 0x02)))) ∧
        (∀ c x, f.copies.find? (fun y => y.st == 1 && y.entry == c.entry) = some c → s.findStore f.die = some x →
          (∀ y ∈ f.copies, y.st < 3 ∧ y.dev = c.dev) →
          runs (.fillCopyTimeout c.entry) s (fun t =>
            t.gate = { s.gate with fill := none } ∧ t.rb HUB_FILL_CTL.BUSY = false ∧ t.rf HUB_FILL_CTL.STATUS = 0x07)) ∧
        (∀ i, (∀ y ∈ f.copies, y.st ≠ 1 ∨ y.entry ≠ i) → runs (.fillCopyTimeout i) s (fun t => t = s)))) ∧
    (∀ (dev : Fin 64) (on : Bool), s.opens src HUB_MARK_CTL.a →
      (s.rb HUB_MARK_CTL.BUSY = true → turnedAway (.mark src n dev on) s src HUB_MARK_CTL.a 0x0E) ∧
      (s.rb HUB_MARK_CTL.BUSY = false →
        (s.liveStore n = none →
          runs (.mark src n dev on) s (fun t => t.rf HUB_MARK_CTL.STATUS = 0x0E ∧ t.rb HUB_MARK_CTL.BUSY = false ∧
            s.frame t [] (fun a => a = HUB_MARK_CTL.a))) ∧
        (∀ y a w0, s.soleEntry n y a w0 →
          runs (.mark src n dev on) s (fun t =>
            t.rf HUB_MARK_CTL.STATUS = 0 ∧ t.rb HUB_MARK_CTL.BUSY = true ∧
            Word.ofN (leAt (t.mem.read y.h a 8) 0 8) = (if State.copyDev w0 0 = dev then w0.withField 2 1 (b2n on) else w0))))) ∧
    runs .markComplete s (fun t => t.rb HUB_MARK_CTL.BUSY = false ∧ s.frame t [] (fun a => a = HUB_MARK_CTL.a))

/-- R529, R532, R534, R550, R554, R555: a period, unless it is 0, and NOW give one MARGIN record of each crux die, port die and stack in
service; a lane's readings go to its registers. A fault ring whose base is aligned to its size is taken and RING_SKIP cleared, any other is
refused. An avalanche entry whose window passes with nothing accumulated closes; with something it sends one record and starts
again. A path leaves whiteout, recorded, once its occupancy has fallen to a quarter and nothing was dropped for 1 ms. -/
def Obligations.MarginsAndRecords : Prop :=
  ∀ (s : State) (src : Src), awake s →
    (∀ temps : List (BitVec 8), temps.length = 12 →
      (s.rf HUB_MARGIN_CFG.PERIOD_S = 0 → runs (.marginReport temps) s (fun t => t = s)) ∧
      (s.rf HUB_MARGIN_CFG.PERIOD_S ≠ 0 →
        runs (.marginReport temps) s (fun t => s.recordedTimes t s.marginUnits.length ∧ s.frame t (.power :: State.recordParts) State.recordReg)) ∧
      (s.opens src HUB_MARGIN_CFG.a →
        runs (.marginNow src temps) s (fun t => s.recordedTimes t s.marginUnits.length ∧ s.frame t (.power :: State.recordParts) State.recordReg))) ∧
    (∀ (m : Fin 32) (rs : List LaneRead) (l : Nat) (r : LaneRead), rs.length = 100 → rs[l]? = some r →
      runs (.laneMarginRefresh m rs) s (fun t =>
        t.rf (PRT_LANE_MARGIN.RX_PWR m l) = r.rxPwr.toNat ∧ t.rf (PRT_LANE_MARGIN.EYE_V m l) = r.eyeV.toNat ∧
        t.rf (PRT_LANE_MARGIN.EYE_H m l) = r.eyeH.toNat ∧ s.frame t [] (fun a => ∃ i, i < 100 ∧ a = PRT_LANE_MARGIN.a m i))) ∧
    (∀ v : Word, s.opens src HUB_FAULT_RING.a →
      (12 ≤ v.field 40 5 → v.field 40 5 ≤ 30 → v.field 0 40 % 2 ^ v.field 40 5 = 0 →
        runs (.faultRingWrite src v) s (fun t =>
          t.rf HUB_FAULT_RING.BASE = v.field 0 40 ∧ t.rf HUB_FAULT_RING.LOG2 = v.field 40 5 ∧ t.rf HUB_FAULT_RING.EN = v.field 45 1 ∧
          t.rf HUB_FAULT_STS.RING_SKIP = 0 ∧ s.frame t [] (fun a => a = HUB_FAULT_RING.a ∨ a = HUB_FAULT_STS.a))) ∧
      (v.field 40 5 < 12 ∨ 30 < v.field 40 5 ∨ v.field 0 40 % 2 ^ v.field 40 5 ≠ 0 →
        turnedAway (.faultRingWrite src v) s src HUB_FAULT_RING.a 0x0E)) ∧
    (∀ slot : Fin 256,
      ((∀ e ∈ s.fault.aval, e.slot ≠ slot.val) → runs (.avalancheWindow slot) s (fun t => t = s)) ∧
      (∀ e, s.fault.aval = [e] → e.slot = slot.val →
        (e.count = 0 →
          runs (.avalancheWindow slot) s (fun t => t.fault = { s.fault with aval := [] } ∧ t.rf HUB_AVAL_STS.USED = 0 ∧
            s.frame t [.fault] (fun a => a = HUB_AVAL_STS.a))) ∧
        (0 < e.count →
          runs (.avalancheWindow slot) s (fun t => t.fault.aval = [{ e with count := 0 }] ∧ t.fault.seqno = s.fault.seqno + 1 ∧
            t.reg HUB_FAULT_CNT.a = s.reg HUB_FAULT_CNT.a ∧ s.frame t State.recordParts State.recordReg)))) ∧
    (∀ p : Fin 2,
      (s.rb (TEL_WO_STS.ACTIVE p) = false → runs (.whiteoutExit p) s (fun t => t = s)) ∧
      (s.rb (TEL_WO_STS.ACTIVE p) = true →
        (State.woCap p < 4 * s.rf (TEL_WO_STS.OCC p) ∨ s.now < (s.woOf p).lastDrop + 1000000 →
          runs (.whiteoutExit p) s (fun t => t = s)) ∧
        (4 * s.rf (TEL_WO_STS.OCC p) ≤ State.woCap p → (s.woOf p).lastDrop + 1000000 ≤ s.now →
          runs (.whiteoutExit p) s (fun t =>
            t.reg HUB_FAULT_CNT.a = Word.ofN ((s.reg HUB_FAULT_CNT.a).toNat + 1) ∧ t.fault.seqno = s.fault.seqno + 1 ∧
            s.frame t State.recordParts State.recordReg))))

/-- R538 to R543, R557: GO of a range that R539 allows, on an engine that is free or the writer's own, claims the engine and latches COUNT
registers and stickies at one plane time, clearing the stickies it acknowledges; the data words, stickies, times and STATUS change
together when it completes. A range that breaks R539 gives STATUS REJECT and latches nothing; GO while BUSY is refused, GO or RELEASE by
another than the owner ends in CONFLICT; RELEASE by the owner frees the engine.
R535, R544, R545, R547, R548: a value that a unit takes is counted, and falls into the bin that BASE, SHIFT and MODE give it; a full bin
stays full and its sticky is set. A unit without a source, or whose filter names another harness, takes nothing. A summary list whose
range breaks R539 sets STATUS REJECT; one that latches sets OK and, with a collector set, sends one summary, numbered; PERIOD_MS 0 is off. -/
def Obligations.SnapshotsAndSummaries : Prop :=
  (∀ (s : State) (src : Src) (e : Fin 4), awake s →
    let o := State.ownCode src
    (s.opens src (TEL_SNAP_CTL.a e) →
      (∀ (base : BitVec 26) (n : BitVec 10) (ack : Bool),
        (s.rb (TEL_SNAP_CTL.BUSY e) = true → turnedAway (.snapshotGo src e base n ack) s src (TEL_SNAP_CTL.a e) 0x0E) ∧
        (s.rb (TEL_SNAP_CTL.BUSY e) = false → s.owner (6 + e) ≠ 0 → s.owner (6 + e) ≠ o →
          turnedAway (.snapshotGo src e base n ack) s src (TEL_SNAP_CTL.a e) 0x05) ∧
        (s.rb (TEL_SNAP_CTL.BUSY e) = false → (s.owner (6 + e) = 0 ∨ s.owner (6 + e) = o) →
          (State.snapOk base.toNat n.toNat = false →
            runs (.snapshotGo src e base n ack) s (fun t =>
              t.rf (TEL_SNAP_CTL.STATUS e) = 0x0E ∧ t.rb (TEL_SNAP_CTL.BUSY e) = false ∧
              s.frame t [] (fun a => a = TEL_SNAP_CTL.a e ∨ a = HUB_OWN.a (6 + e)))) ∧
          (State.snapOk base.toNat n.toNat = true →
            runs (.snapshotGo src e base n ack) s (fun t =>
              t.rb (TEL_SNAP_CTL.BUSY e) = true ∧ t.rf (HUB_OWN.OWNER (6 + e)) = o ∧
              t.rf (TEL_SNAP_CTL.STATUS e) = s.rf (TEL_SNAP_CTL.STATUS e) ∧
              ∃ x, t.tel.snaps = s.tel.snaps ++ [x] ∧ x.eng = e.val ∧ x.time = s.now ∧ x.words.length = n.toNat ∧ x.ovf.length = n.toNat ∧
                (base.toNat = HUB_FAULT_CNT.a → n = 1 → s.campOk 0 = true →
                  x.words = [s.reg HUB_FAULT_CNT.a] ∧ x.ovf = [s.sticky.contains HUB_FAULT_CNT.a] ∧
                  t.sticky = (if ack then s.sticky.filter (fun a => a != HUB_FAULT_CNT.a) else s.sticky)))))) ∧
      (s.owner (6 + e) = o →
        runs (.snapshotRelease src e) s (fun t => t.owner (6 + e) = 0 ∧ s.frame t [] (fun a => a = HUB_OWN.a (6 + e)))) ∧
      (s.owner (6 + e) ≠ o → turnedAway (.snapshotRelease src e) s src (TEL_SNAP_CTL.a e) 0x05)) ∧
    (∀ x, s.tel.snaps = [x] → x.eng = e.val → x.words.length ≤ 512 → x.ovf.length ≤ 512 → x.time < 2 ^ 64 →
      runs (.snapshotComplete e) s (fun t =>
        t.tel.snaps = [] ∧ t.rf (TEL_SNAP_CTL.STATUS e) = 0 ∧ t.rb (TEL_SNAP_CTL.BUSY e) = false ∧
        t.rf (TEL_SNAP_TIME0.V e) = x.time ∧ t.rf (TEL_SNAP_TIME1.V e) = x.time ∧
        (∀ i, i < x.words.length → t.reg (TEL_SNAP_DATA.a e i) = x.words.getD i 0) ∧
        (∀ i, i < 512 → (t.reg (TEL_SNAP_OVF.a e (i / 64))).getLsbD (i % 64) = x.ovf.getD i false) ∧
        s.frame t [.tel] (fun a => 0x380000 ≤ a ∧ a < 0x386100))) ∧
    ((∀ x ∈ s.tel.snaps, x.eng ≠ e.val) → runs (.snapshotComplete e) s (fun t => t = s))) ∧
  (∀ s : State, awake s → s.telUp = true →
    (∀ (u : Fin 64) (v : Word) (h : Fin 4096) (cfg : Word), cfg = s.histCfg u 0 → s.campOk 1 = true →
      (cfg.field 0 4 = 0 → runs (.histSample u v h) s (fun t => t = s)) ∧
      (cfg.field 0 4 ∈ [3, 4, 5] → cfg.field 30 1 = 1 → cfg.field 18 12 ≠ h → runs (.histSample u v h) s (fun t => t = s)) ∧
      ((cfg.field 0 4 = 2 ∨ (cfg.field 0 4 ∈ [3, 4, 5] ∧ (cfg.field 30 1 = 0 ∨ cfg.field 18 12 = h))) →
        ∃ b, (v.toNat < cfg.field 38 26 → b = 0) ∧
          (cfg.field 38 26 ≤ v.toNat → ∀ w, w = (v.toNat - cfg.field 38 26) / 2 ^ cfg.field 32 6 →
            (cfg.field 31 1 = 0 → b = min 63 w) ∧
            (cfg.field 31 1 = 1 → (w = 0 → b = 0) ∧ (0 < w → b ≤ 63 ∧ (b < 63 → 2 ^ (b - 1) ≤ w ∧ w < 2 ^ b ∧ 1 ≤ b) ∧ (b = 63 → 2 ^ 62 ≤ w)))) ∧
          runs (.histSample u v h) s (fun t =>
            t.reg (TEL_HIST_N.a u) = Word.ofN ((s.reg (TEL_HIST_N.a u)).toNat + 1) ∧
            t.rf (TEL_HIST_BIN.V u b) = min 0xFFFFFFFF (s.rf (TEL_HIST_BIN.V u b) + 1) ∧
            (s.rf (TEL_HIST_BIN.V u b) = 0xFFFFFFFF → TEL_HIST_BIN.a u b ∈ t.sticky) ∧
            s.frame t [.sticky] (fun a => a = TEL_HIST_N.a u ∨ a = TEL_HIST_BIN.a u b)))) ∧
    (∀ l : Fin 16,
      (s.rf (TEL_SUM_CFG.PERIOD_MS l) = 0 → runs (.summaryPeriod l) s (fun t => t = s)) ∧
      (s.rf (TEL_SUM_CFG.PERIOD_MS l) ≠ 0 →
        (State.snapOk (s.rf (TEL_SUM_CFG.BASE l)) (s.rf (TEL_SUM_CFG.COUNT l)) = false →
          runs (.summaryPeriod l) s (fun t => t.rf (TEL_SUM_STS.STATUS l) = 0x0E ∧ s.frame t [] (fun a => a = TEL_SUM_STS.a l))) ∧
        (s.rf (TEL_SUM_CFG.BASE l) = HUB_FAULT_CNT.a → s.rf (TEL_SUM_CFG.COUNT l) = 1 → s.campOk 0 = true →
          runs (.summaryPeriod l) s (fun t =>
            t.rf (TEL_SUM_STS.STATUS l) = 0 ∧
            (s.rf TEL_COLLECT.MODE = 0 → t.fault = s.fault) ∧
            (s.rf TEL_COLLECT.MODE ≠ 0 → s.fault.coll = [] →
              lookupKey t.fault.sumSeq l.val = some ((lookupKey s.fault.sumSeq l.val).getD 0 + 1) ∧
              ∃ it, t.fault.coll = [it] ∧ it.tag = 3 ∧ it.prio = 3 ∧ it.bytes.take 1 = bytesLE 1 l.val ∧
                (it.bytes.drop 32).take 8 = bytesLE 8 (s.reg HUB_FAULT_CNT.a).toNat))))))

/-- R544, R556 to R558, R582: a write of HUB_SYNC_CFG with a function the pin does not have is refused, one whose pin or engine another owns
ends in CONFLICT; else the pin, and with SNAP_TRIG its engine, is claimed, and FUNC 0 frees it. HUB_OWN_CTL frees an engine of the writer,
FORCE any resource but the PPS_IN of TIME. A SNAP_TRIG edge takes a snapshot unless the engine is busy; an edge without a function
does nothing; an output pin pulses under TIME or GATE_MARK only. -/
def Obligations.SharedPins : Prop :=
  ∀ (s : State) (src : Src), awake s →
    (∀ (n : Fin 6) (v : Word), s.opens src (HUB_SYNC_CFG.a n) →
      (State.pinFunc n (v.field 0 3) = false → turnedAway (.syncCfgWrite src n v) s src (HUB_SYNC_CFG.a n) 0x0E) ∧
      (v.field 0 3 = 0 → s.rf (HUB_SYNC_CFG.FUNC n) ∈ [1, 2, 4] →
        runs (.syncCfgWrite src n v) s (fun t =>
          t.owner n = 0 ∧ (t.reg (HUB_SYNC_CFG.a n)).toNat = v.toNat % 2 ^ 16 ∧
          s.frame t [] (fun a => a = HUB_SYNC_CFG.a n ∨ a = HUB_OWN.a n))) ∧
      (State.pinFunc n (v.field 0 3) = true → v.field 0 3 ≠ 0 → s.owner n ≠ 0 → s.owner n ≠ v.field 0 3 →
        turnedAway (.syncCfgWrite src n v) s src (HUB_SYNC_CFG.a n) 0x05) ∧
      (State.pinFunc n (v.field 0 3) = true → v.field 0 3 = 3 → s.owner n = 0 → s.owner (6 + v.field 3 2) ≠ 0 →
        (s.owner (6 + v.field 3 2) = 3 → s.rf (HUB_OWN.INSTANCE (6 + v.field 3 2)) ≠ n) →
        turnedAway (.syncCfgWrite src n v) s src (HUB_SYNC_CFG.a n) 0x05) ∧
      (State.pinFunc n (v.field 0 3) = true → v.field 0 3 ≠ 0 → s.owner n = 0 → s.rf (HUB_SYNC_CFG.FUNC n) = 0 →
        (v.field 0 3 = 3 → s.owner (6 + v.field 3 2) = 0) →
        runs (.syncCfgWrite src n v) s (fun t =>
          t.owner n = v.field 0 3 ∧ t.rf (HUB_SYNC_CFG.FUNC n) = v.field 0 3 ∧
          (v.field 0 3 = 3 → t.owner (6 + v.field 3 2) = 3 ∧ t.rf (HUB_OWN.INSTANCE (6 + v.field 3 2)) = n) ∧
          s.frame t [] (fun a => a = HUB_SYNC_CFG.a n ∨ a = HUB_OWN.a n ∨ (v.field 0 3 = 3 ∧ a = HUB_OWN.a (6 + v.field 3 2)))))) ∧
    (∀ r : Fin 16, r.val < 10 → s.opens src HUB_OWN_CTL.a →
      (6 ≤ r.val → s.owner r = State.ownCode src →
        runs (.ownRelease src r false) s (fun t => t.owner r = 0 ∧ s.frame t [] (fun a => a = HUB_OWN.a r))) ∧
      (s.owner r ≠ State.ownCode src → turnedAway (.ownRelease src r false) s src HUB_OWN_CTL.a 0x05) ∧
      (r.val = 4 → s.owner r = 1 → turnedAway (.ownRelease src r true) s src HUB_OWN_CTL.a 0x0E) ∧
      ((r.val = 4 → s.owner r ≠ 1) → runs (.ownRelease src r true) s (fun t => t.owner r = 0)) ∧
      (r.val < 6 → (r.val = 4 → s.owner r ≠ 1) → runs (.ownRelease src r true) s (fun t => t.rf (HUB_SYNC_CFG.FUNC r) = 0))) ∧
    (∀ n : Fin 5, s.telUp = true →
      (s.rf (HUB_SYNC_CFG.FUNC n) ≠ 3 → s.rf (HUB_SYNC_CFG.FUNC n) ≠ 4 → runs (.syncIoEdge n) s (fun t => t = s)) ∧
      (∀ e, s.rf (HUB_SYNC_CFG.FUNC n) = 3 → s.rf (HUB_SYNC_CFG.ARG n) = e →
        (s.rb (TEL_SNAP_CTL.BUSY e) = true → runs (.syncIoEdge n) s (fun t => t = s)) ∧
        (s.rb (TEL_SNAP_CTL.BUSY e) = false → State.snapOk (s.rf (TEL_SNAP_CTL.BASE e)) (s.rf (TEL_SNAP_CTL.COUNT e)) = true →
          runs (.syncIoEdge n) s (fun t => t.rb (TEL_SNAP_CTL.BUSY e) = true ∧
            ∃ x, t.tel.snaps = s.tel.snaps ++ [x] ∧ x.eng = e ∧ x.time = s.now))) ∧
      (s.rf (HUB_SYNC_CFG.FUNC n) = 4 → s.rf TEL_COLLECT.MODE ≠ 0 → s.rf TEL_TRACE_CFG.MASK / 128 % 2 = 1 → s.fault.coll = [] →
        runs (.syncIoEdge n) s (fun t => ∃ it, t.fault.coll = [it] ∧ it.tag = 2 ∧ it.bytes.take 8 = bytesLE 8 s.now ∧
          (it.bytes.drop 8).take 1 = [7#8] ∧ (it.bytes.drop 12).take 1 = bytesLE 1 n))) ∧
    (∀ n : Fin 6,
      (s.rf (HUB_SYNC_CFG.FUNC n) ∈ [1, 2] → runs (.ppsOutPulse n) s (fun t => t = s.emit (.ppsOut n))) ∧
      (s.rf (HUB_SYNC_CFG.FUNC n) ∉ [1, 2] → runs (.ppsOutPulse n) s (fun t => t = s)))

/-- R560 to R565: while Cairn runs, a checkpoint writes the image to the older copy under the next generation; otherwise it does nothing, and
CKPT ends with REJECT. The oldest buffered record is programmed under the next SEQ, with its CRC. A failure takes a last-gasp entry while
one is free, sets CAIRN_FAIL, is counted and recorded, and stops every further write. RD of a record held returns it, of another
REJECT. FORMAT empties the log and the copies and starts a fresh image of generation 0.
R560: each second counts in the power-on seconds, and in one bin of each crux die's temperature and voltage, of the power estimate and
of each stack's temperature. -/
def Obligations.Cairn : Prop :=
  (∀ (s : State) (src : Src), awake s →
    let live := s.rf CRN_STS.STATE = 1 ∧ s.cairn.dead = false
    let g := s.rf CRN_GEN.V + 1
    let c : LifeCopy := ⟨g, Config.serial, s.lifeWords⟩
    let failed : CairnBad → State → Prop := fun b t =>
      t.rb CRN_STS.CAIRN_FAIL = true ∧ t.rf CRN_STS.STATE = 2 ∧ t.cairn.dead = true ∧
      t.reg CRN_CNT_FLASH_ERR.a = Word.ofN ((s.reg CRN_CNT_FLASH_ERR.a).toNat + 1) ∧ s.noted t clLOG 0x30 1 0 ∧
      (s.cairn.lg.length < 64 → ∃ e, t.cairn.lg = s.cairn.lg ++ [e] ∧ e.length = 16 ∧ e.getD 8 0 = BitVec.ofNat 8 b.cause ∧
        leAt e 10 4 = b.off.toNat) ∧
      (64 ≤ s.cairn.lg.length → t.cairn.lg = s.cairn.lg) ∧ t.cairn.log = s.cairn.log ∧ t.cairn.copyA = s.cairn.copyA ∧
      t.cairn.copyB = s.cairn.copyB
    let kept : State → Prop := fun t =>
      t.reg CRN_GEN.a = Word.ofN g ∧
      (∀ x y, s.cairn.copyA = some x → s.cairn.copyB = some y →
        (y.gen < x.gen → t.cairn.copyB = some c ∧ t.cairn.copyA = some x) ∧
        (x.gen ≤ y.gen → t.cairn.copyA = some c ∧ t.cairn.copyB = some y)) ∧
      (s.cairn.buf.length < 1024 → ∃ r, t.cairn.buf = s.cairn.buf ++ [r] ∧ r.kind = 7) ∧ t.cairn.log = s.cairn.log
    (live → runs (.cairnCheckpoint none) s kept) ∧
    (live → ∀ b, runs (.cairnCheckpoint (some b)) s (failed b)) ∧
    (¬ live → runs (.cairnCheckpoint none) s (fun t => t = s) ∧ ∀ b, runs (.cairnProgram b) s (fun t => t = s)) ∧
    (s.cairn.buf = [] → runs (.cairnProgram none) s (fun t => t = s)) ∧
    (∀ r rest q, live → s.cairn.buf = r :: rest → r.body.length = 36 → q = s.rf CRN_SEQ_NEXT.V →
      runs (.cairnProgram none) s (fun t =>
        t.cairn.buf = rest ∧ t.reg CRN_SEQ_NEXT.a = Word.ofN (q + 1) ∧
        t.reg CRN_CNT_REC.a = Word.ofN ((s.reg CRN_CNT_REC.a).toNat + 1) ∧
        (∃ e, t.cairn.log.getLast? = some (q, e) ∧ e.length = 64 ∧ e.take 1 = bytesLE 1 r.kind ∧ (e.drop 8).take 8 = bytesLE 8 r.time ∧
          (e.drop 16).take 8 = bytesLE 8 q ∧ (e.drop 24).take 36 = r.body ∧ e.drop 60 = bytesLE 4 (crc32c 0 (e.take 60))) ∧
        (q - s.rf CRN_SEQ_FIRST.V < logRecords → t.rf CRN_SEQ_FIRST.V = s.rf CRN_SEQ_FIRST.V) ∧
        (logRecords ≤ q - s.rf CRN_SEQ_FIRST.V →
          t.reg CRN_SEQ_FIRST.a = Word.ofN (s.rf CRN_SEQ_FIRST.V + 1023) ∧
          ∀ x ∈ t.cairn.log, s.rf CRN_SEQ_FIRST.V + 1023 ≤ x.1) ∧
        s.frame t [.cairn, .sticky] (fun a => 0x340000 ≤ a ∧ a < 0x341000)) ∧
      (∀ b, runs (.cairnProgram (some b)) s (fun t => failed b t ∧ ∃ l, t.cairn.buf = s.cairn.buf ++ l))) ∧
    (s.opens src CRN_CMD.a →
      (live → runs (.ckpt src none) s (fun t => kept t ∧ t.rf CRN_CMD.STATUS = 0)) ∧
      (¬ live → runs (.ckpt src none) s (fun t => t.rf CRN_CMD.STATUS = 0x0E ∧ s.frame t [] (fun a => a = CRN_CMD.a))) ∧
      (∀ bs, lookupKey s.cairn.log (s.rf CRN_RD_SEQ.V) = some bs →
        runs (.rd src) s (fun t => t.rf CRN_CMD.STATUS = 0 ∧ (∀ w, w < 8 → t.reg (CRN_RD_DATA.a w) = Word.ofN (leAt bs (8 * w) 8)) ∧
          s.frame t [] (fun a => a = CRN_CMD.a ∨ ∃ w, w < 8 ∧ a = CRN_RD_DATA.a w))) ∧
      (lookupKey s.cairn.log (s.rf CRN_RD_SEQ.V) = none →
        runs (.rd src) s (fun t => t.rf CRN_CMD.STATUS = 0x0E ∧ s.frame t [] (fun a => a = CRN_CMD.a))) ∧
      runs (.format src none) s (fun t =>
        t.rf CRN_CMD.STATUS = 0 ∧ t.cairn.log = [] ∧ t.cairn.copyA = none ∧ t.cairn.copyB = none ∧ t.rf CRN_GEN.V = 0 ∧
        t.rf CRN_STS.STATE = 1 ∧ t.rb CRN_STS.CAIRN_FAIL = false ∧ t.rb CRN_STS.FRESH = true ∧
        s.frame t [.cairn] (fun a => (0x340000 ≤ a ∧ a < 0x341000) ∨ (0x350000 ≤ a ∧ a < 0x370000))))) ∧
  (∀ (s : State) (temps : List (BitVec 8)), awake s → temps.length = 12 →
    let up : State → Nat → Prop := fun t i => t.reg (CRN_LIFE.a i) = Word.ofN ((s.reg (CRN_LIFE.a i)).toNat + 1)
    runs (.lifetimeSample temps) s (fun t =>
      up t 2 ∧
      (∀ n, n < 16 → up t (0x040 + 32 * n + min 31 (s.rf (PWR_DIE_STS.TJ_C n) / 5)) ∧
        (650 ≤ s.rf (PWR_DIE_STS.VSET_MV n) → up t (0x240 + 16 * n + min 15 ((s.rf (PWR_DIE_STS.VSET_MV n) - 650) * 10 / 125)))) ∧
      up t (0x340 + min 31 (s.rf PWR_STS.EST_W / 125)) ∧
      (∀ i tj, temps[i]? = some tj → up t (0x360 + 16 * i + min 15 (tj.toNat / 8))) ∧
      s.frame t [.sticky] (fun a => CRN_LIFE.a 2 ≤ a ∧ a < CRN_LIFE.a 0x420)))

/-- R574, R576, R589: a fall of PWRGD or PERST_N, a rail that drops or a reference clock that is lost while PWRGD is high, a thermal trip and
the removal of VDD_AON hold the device in reset with every laser off and memory lost; what flash and fuses hold stays. A loss of the
clock asserts FAULT_N; the trip is latched until VDD_AON is removed. PWRGD's rise starts nothing. A PCIe port's own reset takes only that
port down.
R583, R584, R589: a sensor at 105 C or more asserts SMB_ALERT_N, and is recorded once until the sensors have been below 100 C; below that
nothing is recorded. The sideband answers, from PWRGD on, a read of the camp status and of a few more, and any other offset with zero and
a NACK. The Alert Response clears SMB_ALERT_N where neither FAULT_N nor a hot sensor holds. A JTAG instruction that is not available
selects BYPASS. -/
def Obligations.PinsAndReset : Prop :=
  (∀ s : State,
    let off : State → Prop := fun t =>
      t.boot.held = true ∧ t.boot.lasers = [] ∧ t.mem = MemSt.initial ∧ t.fwd = FwdSt.initial ∧ t.comp = CompSt.initial ∧
      t.boot.minSvn = s.boot.minSvn ∧ t.boot.defects = s.boot.defects ∧ t.cairn.log = s.cairn.log ∧ t.cairn.copyA = s.cairn.copyA ∧
      t.cairn.copyB = s.cairn.copyB ∧ t.pending = s.pending
    (s.boot.pwrgd = true →
      runs .pwrgdFall s (fun t => off t ∧ t.boot.pwrgd = false ∧ t.boot.perst = s.boot.perst ∧ t.rf HUB_BOOT_CTL.SOD_QUICK = 0) ∧
      runs .railDrop s (fun t => off t ∧ t.boot.perst = s.boot.perst ∧ t.rf HUB_BOOT_CTL.SOD_QUICK = 0) ∧
      runs .refclkLoss s (fun t => off t ∧ t.boot.perst = s.boot.perst ∧ t.rf HUB_FAULT_STS.FAULT_N = 1)) ∧
    (s.boot.pwrgd = false →
      runs .pwrgdFall s (fun t => t = s) ∧ runs .railDrop s (fun t => t = s) ∧ runs .refclkLoss s (fun t => t = s)) ∧
    (s.boot.perst = true → runs .perstNAssert s (fun t => off t ∧ t.boot.perst = false ∧ t.boot.pwrgd = s.boot.pwrgd ∧
      t.rf HUB_BOOT_CTL.SOD_QUICK = s.rf HUB_BOOT_CTL.SOD_QUICK)) ∧
    (s.boot.perst = false → runs .perstNAssert s (fun t => t = s)) ∧
    runs .pwrgdRise s (fun t => t = s.withBoot { s.boot with pwrgd := true }) ∧
    runs (.thermtrip false) s (fun t => off t ∧ t.boot.thermTrip = true ∧ t.cairn.lg = s.cairn.lg) ∧
    (s.boot.held = false → s.cairn.lg.length < 64 →
      runs (.thermtrip true) s (fun t => off t ∧ t.boot.thermTrip = true ∧ t.cairn.lg.length = s.cairn.lg.length + 1)) ∧
    runs .vddAonRemoval s (fun t => off t ∧ t.boot.thermTrip = false ∧ t.boot.pwrgd = false ∧ t.boot.jtag = .idcode) ∧
    (awake s → ∀ p : Fin 2,
      (s.rb (State.upBit (1 - p.val)) = true →
        runs (.pciePerst p) s (fun t => t.rb (State.upBit p) = false ∧ t.rb (State.upBit (1 - p.val)) = true ∧
          t.rb HUB_HOST_CTL.NONE = s.rb HUB_HOST_CTL.NONE ∧ s.frame t [] (fun a => a = HUB_HOST_CTL.a))) ∧
      (s.rb (State.upBit (1 - p.val)) = false → s.host.opened = [] →
        runs (.pciePerst p) s (fun t => t.rb (State.upBit p) = false ∧ t.rb HUB_HOST_CTL.NONE = true ∧
          s.frame t [] (fun a => a = HUB_HOST_CTL.a))))) ∧
  (∀ s : State,
    (∀ (u : DevUnit) (tj : BitVec 8) (cooled : Bool),
      (tj.toNat < 105 → runs (.thermalAlarm u tj cooled) s (fun t =>
        t.boot.smbAlert = s.boot.smbAlert ∧ s.frame t [.boot] (fun a => ∃ n, a = PWR_DIE_STS.a n))) ∧
      (105 ≤ tj.toNat →
        (awake s → (s.boot.hot = false ∨ cooled = true) →
          runs (.thermalAlarm u tj cooled) s (fun t => t.boot.smbAlert = true ∧ t.boot.hot = true ∧ s.noted t clPOWER 0x05 1 0 ∧
            (∀ n, u = .crux n → t.rf (PWR_DIE_STS.TJ_C n) = tj.toNat))) ∧
        (s.boot.hot = true → cooled = false →
          runs (.thermalAlarm u tj cooled) s (fun t => t.boot.smbAlert = true ∧ s.frame t [.boot] (fun a => ∃ n, a = PWR_DIE_STS.a n))))) ∧
    (s.boot.pwrgd = true →
      runs (.sidebandRead (BitVec.ofNat 32 HUB_CAMP_STS.a)) s (fun t => t = s.emit (.sideband (s.reg HUB_CAMP_STS.a) false)) ∧
      runs (.sidebandRead (BitVec.ofNat 32 HUB_FAULT_STS.a)) s (fun t => t = s.emit (.sideband (s.reg HUB_FAULT_STS.a) false)) ∧
      runs (.sidebandRead (BitVec.ofNat 32 PWR_STS.a)) s (fun t =>
        t = s.emit (if s.rf (HUB_CAMP_RPT.STATUS 1) = 0 then .sideband (s.reg PWR_STS.a) false else .sideband 0 true)) ∧
      (∀ a : BitVec 32, State.sideOpen a.toNat = false → State.sideCamp1 a.toNat = false →
        runs (.sidebandRead a) s (fun t => t = s.emit (.sideband 0 true)))) ∧
    (∀ a, s.boot.pwrgd = false → runs (.sidebandRead a) s (fun t => t = s)) ∧
    (∀ tj : BitVec 8,
      (s.boot.pwrgd = true → s.boot.smbAlert = true → s.rb HUB_FAULT_STS.FAULT_N = false → tj.toNat < 105 →
        runs (.alertResponse tj) s (fun t => t = (s.emit .alertResponse).withBoot { s.boot with smbAlert := false })) ∧
      (s.boot.pwrgd = true → s.boot.smbAlert = true → (s.rb HUB_FAULT_STS.FAULT_N = true ∨ 105 ≤ tj.toNat) →
        runs (.alertResponse tj) s (fun t => t = s.emit .alertResponse)) ∧
      (s.boot.pwrgd = false ∨ s.boot.smbAlert = false → runs (.alertResponse tj) s (fun t => t = s))) ∧
    (∀ i : JtagIr,
      (s.rb HUB_JTAG_STS.OPEN = true ∨ i = .idcode ∨ i = .bypass →
        runs (.jtagInstruction i) s (fun t => t = s.withBoot { s.boot with jtag := i })) ∧
      (∀ c, i = .other c → s.rb HUB_JTAG_STS.OPEN = false →
        runs (.jtagInstruction i) s (fun t => t = s.withBoot { s.boot with jtag := .bypass }))))
end

