-- ==== Sys2Proof/Laws/State.lean ====
section
/-! SUPPORT. What each update of the state leaves in each of its components: one lemma per component per update. -/
namespace Sys2Proof.Machine.State
variable (s : State)

/-! ## withPorts -/
@[simp] theorem withPorts_regs (v : List (Nat × PortSt)) : (s.withPorts v).regs = s.regs := rfl
@[simp] theorem withPorts_sticky (v : List (Nat × PortSt)) : (s.withPorts v).sticky = s.sticky := rfl
@[simp] theorem withPorts_xdom (v : List (Nat × PortSt)) : (s.withPorts v).xdom = s.xdom := rfl
@[simp] theorem withPorts_ports (v : List (Nat × PortSt)) : (s.withPorts v).ports = v := rfl
@[simp] theorem withPorts_fwd (v : List (Nat × PortSt)) : (s.withPorts v).fwd = s.fwd := rfl
@[simp] theorem withPorts_gateTbl (v : List (Nat × PortSt)) : (s.withPorts v).gateTbl = s.gateTbl := rfl
@[simp] theorem withPorts_time (v : List (Nat × PortSt)) : (s.withPorts v).time = s.time := rfl
@[simp] theorem withPorts_fault (v : List (Nat × PortSt)) : (s.withPorts v).fault = s.fault := rfl
@[simp] theorem withPorts_mem (v : List (Nat × PortSt)) : (s.withPorts v).mem = s.mem := rfl
@[simp] theorem withPorts_mfb (v : List (Nat × PortSt)) : (s.withPorts v).mfb = s.mfb := rfl
@[simp] theorem withPorts_hrn (v : List (Nat × PortSt)) : (s.withPorts v).hrn = s.hrn := rfl
@[simp] theorem withPorts_comp (v : List (Nat × PortSt)) : (s.withPorts v).comp = s.comp := rfl
@[simp] theorem withPorts_rope (v : List (Nat × PortSt)) : (s.withPorts v).rope = s.rope := rfl
@[simp] theorem withPorts_gate (v : List (Nat × PortSt)) : (s.withPorts v).gate = s.gate := rfl
@[simp] theorem withPorts_host (v : List (Nat × PortSt)) : (s.withPorts v).host = s.host := rfl
@[simp] theorem withPorts_cairn (v : List (Nat × PortSt)) : (s.withPorts v).cairn = s.cairn := rfl
@[simp] theorem withPorts_power (v : List (Nat × PortSt)) : (s.withPorts v).power = s.power := rfl
@[simp] theorem withPorts_tel (v : List (Nat × PortSt)) : (s.withPorts v).tel = s.tel := rfl
@[simp] theorem withPorts_boot (v : List (Nat × PortSt)) : (s.withPorts v).boot = s.boot := rfl
@[simp] theorem withPorts_pending (v : List (Nat × PortSt)) : (s.withPorts v).pending = s.pending := rfl
@[simp] theorem withPorts_out (v : List (Nat × PortSt)) : (s.withPorts v).out = s.out := rfl
@[simp] theorem withPorts_free (v : List (Nat × PortSt)) : (s.withPorts v).free = s.free := rfl
/-! ## withFwd -/
@[simp] theorem withFwd_regs (v : FwdSt) : (s.withFwd v).regs = s.regs := rfl
@[simp] theorem withFwd_sticky (v : FwdSt) : (s.withFwd v).sticky = s.sticky := rfl
@[simp] theorem withFwd_xdom (v : FwdSt) : (s.withFwd v).xdom = s.xdom := rfl
@[simp] theorem withFwd_ports (v : FwdSt) : (s.withFwd v).ports = s.ports := rfl
@[simp] theorem withFwd_fwd (v : FwdSt) : (s.withFwd v).fwd = v := rfl
@[simp] theorem withFwd_gateTbl (v : FwdSt) : (s.withFwd v).gateTbl = s.gateTbl := rfl
@[simp] theorem withFwd_time (v : FwdSt) : (s.withFwd v).time = s.time := rfl
@[simp] theorem withFwd_fault (v : FwdSt) : (s.withFwd v).fault = s.fault := rfl
@[simp] theorem withFwd_mem (v : FwdSt) : (s.withFwd v).mem = s.mem := rfl
@[simp] theorem withFwd_mfb (v : FwdSt) : (s.withFwd v).mfb = s.mfb := rfl
@[simp] theorem withFwd_hrn (v : FwdSt) : (s.withFwd v).hrn = s.hrn := rfl
@[simp] theorem withFwd_comp (v : FwdSt) : (s.withFwd v).comp = s.comp := rfl
@[simp] theorem withFwd_rope (v : FwdSt) : (s.withFwd v).rope = s.rope := rfl
@[simp] theorem withFwd_gate (v : FwdSt) : (s.withFwd v).gate = s.gate := rfl
@[simp] theorem withFwd_host (v : FwdSt) : (s.withFwd v).host = s.host := rfl
@[simp] theorem withFwd_cairn (v : FwdSt) : (s.withFwd v).cairn = s.cairn := rfl
@[simp] theorem withFwd_power (v : FwdSt) : (s.withFwd v).power = s.power := rfl
@[simp] theorem withFwd_tel (v : FwdSt) : (s.withFwd v).tel = s.tel := rfl
@[simp] theorem withFwd_boot (v : FwdSt) : (s.withFwd v).boot = s.boot := rfl
@[simp] theorem withFwd_pending (v : FwdSt) : (s.withFwd v).pending = s.pending := rfl
@[simp] theorem withFwd_out (v : FwdSt) : (s.withFwd v).out = s.out := rfl
@[simp] theorem withFwd_free (v : FwdSt) : (s.withFwd v).free = s.free := rfl
/-! ## withFault -/
@[simp] theorem withFault_regs (v : FaultSt) : (s.withFault v).regs = s.regs := rfl
@[simp] theorem withFault_sticky (v : FaultSt) : (s.withFault v).sticky = s.sticky := rfl
@[simp] theorem withFault_xdom (v : FaultSt) : (s.withFault v).xdom = s.xdom := rfl
@[simp] theorem withFault_ports (v : FaultSt) : (s.withFault v).ports = s.ports := rfl
@[simp] theorem withFault_fwd (v : FaultSt) : (s.withFault v).fwd = s.fwd := rfl
@[simp] theorem withFault_gateTbl (v : FaultSt) : (s.withFault v).gateTbl = s.gateTbl := rfl
@[simp] theorem withFault_time (v : FaultSt) : (s.withFault v).time = s.time := rfl
@[simp] theorem withFault_fault (v : FaultSt) : (s.withFault v).fault = v := rfl
@[simp] theorem withFault_mem (v : FaultSt) : (s.withFault v).mem = s.mem := rfl
@[simp] theorem withFault_mfb (v : FaultSt) : (s.withFault v).mfb = s.mfb := rfl
@[simp] theorem withFault_hrn (v : FaultSt) : (s.withFault v).hrn = s.hrn := rfl
@[simp] theorem withFault_comp (v : FaultSt) : (s.withFault v).comp = s.comp := rfl
@[simp] theorem withFault_rope (v : FaultSt) : (s.withFault v).rope = s.rope := rfl
@[simp] theorem withFault_gate (v : FaultSt) : (s.withFault v).gate = s.gate := rfl
@[simp] theorem withFault_host (v : FaultSt) : (s.withFault v).host = s.host := rfl
@[simp] theorem withFault_cairn (v : FaultSt) : (s.withFault v).cairn = s.cairn := rfl
@[simp] theorem withFault_power (v : FaultSt) : (s.withFault v).power = s.power := rfl
@[simp] theorem withFault_tel (v : FaultSt) : (s.withFault v).tel = s.tel := rfl
@[simp] theorem withFault_boot (v : FaultSt) : (s.withFault v).boot = s.boot := rfl
@[simp] theorem withFault_pending (v : FaultSt) : (s.withFault v).pending = s.pending := rfl
@[simp] theorem withFault_out (v : FaultSt) : (s.withFault v).out = s.out := rfl
@[simp] theorem withFault_free (v : FaultSt) : (s.withFault v).free = s.free := rfl
/-! ## withTime -/
@[simp] theorem withTime_regs (v : TimeSt) : (s.withTime v).regs = s.regs := rfl
@[simp] theorem withTime_sticky (v : TimeSt) : (s.withTime v).sticky = s.sticky := rfl
@[simp] theorem withTime_xdom (v : TimeSt) : (s.withTime v).xdom = s.xdom := rfl
@[simp] theorem withTime_ports (v : TimeSt) : (s.withTime v).ports = s.ports := rfl
@[simp] theorem withTime_fwd (v : TimeSt) : (s.withTime v).fwd = s.fwd := rfl
@[simp] theorem withTime_gateTbl (v : TimeSt) : (s.withTime v).gateTbl = s.gateTbl := rfl
@[simp] theorem withTime_time (v : TimeSt) : (s.withTime v).time = v := rfl
@[simp] theorem withTime_fault (v : TimeSt) : (s.withTime v).fault = s.fault := rfl
@[simp] theorem withTime_mem (v : TimeSt) : (s.withTime v).mem = s.mem := rfl
@[simp] theorem withTime_mfb (v : TimeSt) : (s.withTime v).mfb = s.mfb := rfl
@[simp] theorem withTime_hrn (v : TimeSt) : (s.withTime v).hrn = s.hrn := rfl
@[simp] theorem withTime_comp (v : TimeSt) : (s.withTime v).comp = s.comp := rfl
@[simp] theorem withTime_rope (v : TimeSt) : (s.withTime v).rope = s.rope := rfl
@[simp] theorem withTime_gate (v : TimeSt) : (s.withTime v).gate = s.gate := rfl
@[simp] theorem withTime_host (v : TimeSt) : (s.withTime v).host = s.host := rfl
@[simp] theorem withTime_cairn (v : TimeSt) : (s.withTime v).cairn = s.cairn := rfl
@[simp] theorem withTime_power (v : TimeSt) : (s.withTime v).power = s.power := rfl
@[simp] theorem withTime_tel (v : TimeSt) : (s.withTime v).tel = s.tel := rfl
@[simp] theorem withTime_boot (v : TimeSt) : (s.withTime v).boot = s.boot := rfl
@[simp] theorem withTime_pending (v : TimeSt) : (s.withTime v).pending = s.pending := rfl
@[simp] theorem withTime_out (v : TimeSt) : (s.withTime v).out = s.out := rfl
@[simp] theorem withTime_free (v : TimeSt) : (s.withTime v).free = s.free := rfl
/-! ## withMem -/
@[simp] theorem withMem_regs (v : MemSt) : (s.withMem v).regs = s.regs := rfl
@[simp] theorem withMem_sticky (v : MemSt) : (s.withMem v).sticky = s.sticky := rfl
@[simp] theorem withMem_xdom (v : MemSt) : (s.withMem v).xdom = s.xdom := rfl
@[simp] theorem withMem_ports (v : MemSt) : (s.withMem v).ports = s.ports := rfl
@[simp] theorem withMem_fwd (v : MemSt) : (s.withMem v).fwd = s.fwd := rfl
@[simp] theorem withMem_gateTbl (v : MemSt) : (s.withMem v).gateTbl = s.gateTbl := rfl
@[simp] theorem withMem_time (v : MemSt) : (s.withMem v).time = s.time := rfl
@[simp] theorem withMem_fault (v : MemSt) : (s.withMem v).fault = s.fault := rfl
@[simp] theorem withMem_mem (v : MemSt) : (s.withMem v).mem = v := rfl
@[simp] theorem withMem_mfb (v : MemSt) : (s.withMem v).mfb = s.mfb := rfl
@[simp] theorem withMem_hrn (v : MemSt) : (s.withMem v).hrn = s.hrn := rfl
@[simp] theorem withMem_comp (v : MemSt) : (s.withMem v).comp = s.comp := rfl
@[simp] theorem withMem_rope (v : MemSt) : (s.withMem v).rope = s.rope := rfl
@[simp] theorem withMem_gate (v : MemSt) : (s.withMem v).gate = s.gate := rfl
@[simp] theorem withMem_host (v : MemSt) : (s.withMem v).host = s.host := rfl
@[simp] theorem withMem_cairn (v : MemSt) : (s.withMem v).cairn = s.cairn := rfl
@[simp] theorem withMem_power (v : MemSt) : (s.withMem v).power = s.power := rfl
@[simp] theorem withMem_tel (v : MemSt) : (s.withMem v).tel = s.tel := rfl
@[simp] theorem withMem_boot (v : MemSt) : (s.withMem v).boot = s.boot := rfl
@[simp] theorem withMem_pending (v : MemSt) : (s.withMem v).pending = s.pending := rfl
@[simp] theorem withMem_out (v : MemSt) : (s.withMem v).out = s.out := rfl
@[simp] theorem withMem_free (v : MemSt) : (s.withMem v).free = s.free := rfl
/-! ## withBoot -/
@[simp] theorem withBoot_regs (v : BootSt) : (s.withBoot v).regs = s.regs := rfl
@[simp] theorem withBoot_sticky (v : BootSt) : (s.withBoot v).sticky = s.sticky := rfl
@[simp] theorem withBoot_xdom (v : BootSt) : (s.withBoot v).xdom = s.xdom := rfl
@[simp] theorem withBoot_ports (v : BootSt) : (s.withBoot v).ports = s.ports := rfl
@[simp] theorem withBoot_fwd (v : BootSt) : (s.withBoot v).fwd = s.fwd := rfl
@[simp] theorem withBoot_gateTbl (v : BootSt) : (s.withBoot v).gateTbl = s.gateTbl := rfl
@[simp] theorem withBoot_time (v : BootSt) : (s.withBoot v).time = s.time := rfl
@[simp] theorem withBoot_fault (v : BootSt) : (s.withBoot v).fault = s.fault := rfl
@[simp] theorem withBoot_mem (v : BootSt) : (s.withBoot v).mem = s.mem := rfl
@[simp] theorem withBoot_mfb (v : BootSt) : (s.withBoot v).mfb = s.mfb := rfl
@[simp] theorem withBoot_hrn (v : BootSt) : (s.withBoot v).hrn = s.hrn := rfl
@[simp] theorem withBoot_comp (v : BootSt) : (s.withBoot v).comp = s.comp := rfl
@[simp] theorem withBoot_rope (v : BootSt) : (s.withBoot v).rope = s.rope := rfl
@[simp] theorem withBoot_gate (v : BootSt) : (s.withBoot v).gate = s.gate := rfl
@[simp] theorem withBoot_host (v : BootSt) : (s.withBoot v).host = s.host := rfl
@[simp] theorem withBoot_cairn (v : BootSt) : (s.withBoot v).cairn = s.cairn := rfl
@[simp] theorem withBoot_power (v : BootSt) : (s.withBoot v).power = s.power := rfl
@[simp] theorem withBoot_tel (v : BootSt) : (s.withBoot v).tel = s.tel := rfl
@[simp] theorem withBoot_boot (v : BootSt) : (s.withBoot v).boot = v := rfl
@[simp] theorem withBoot_pending (v : BootSt) : (s.withBoot v).pending = s.pending := rfl
@[simp] theorem withBoot_out (v : BootSt) : (s.withBoot v).out = s.out := rfl
@[simp] theorem withBoot_free (v : BootSt) : (s.withBoot v).free = s.free := rfl
/-! ## withMfb -/
@[simp] theorem withMfb_regs (v : MfbSt) : (s.withMfb v).regs = s.regs := rfl
@[simp] theorem withMfb_sticky (v : MfbSt) : (s.withMfb v).sticky = s.sticky := rfl
@[simp] theorem withMfb_xdom (v : MfbSt) : (s.withMfb v).xdom = s.xdom := rfl
@[simp] theorem withMfb_ports (v : MfbSt) : (s.withMfb v).ports = s.ports := rfl
@[simp] theorem withMfb_fwd (v : MfbSt) : (s.withMfb v).fwd = s.fwd := rfl
@[simp] theorem withMfb_gateTbl (v : MfbSt) : (s.withMfb v).gateTbl = s.gateTbl := rfl
@[simp] theorem withMfb_time (v : MfbSt) : (s.withMfb v).time = s.time := rfl
@[simp] theorem withMfb_fault (v : MfbSt) : (s.withMfb v).fault = s.fault := rfl
@[simp] theorem withMfb_mem (v : MfbSt) : (s.withMfb v).mem = s.mem := rfl
@[simp] theorem withMfb_mfb (v : MfbSt) : (s.withMfb v).mfb = v := rfl
@[simp] theorem withMfb_hrn (v : MfbSt) : (s.withMfb v).hrn = s.hrn := rfl
@[simp] theorem withMfb_comp (v : MfbSt) : (s.withMfb v).comp = s.comp := rfl
@[simp] theorem withMfb_rope (v : MfbSt) : (s.withMfb v).rope = s.rope := rfl
@[simp] theorem withMfb_gate (v : MfbSt) : (s.withMfb v).gate = s.gate := rfl
@[simp] theorem withMfb_host (v : MfbSt) : (s.withMfb v).host = s.host := rfl
@[simp] theorem withMfb_cairn (v : MfbSt) : (s.withMfb v).cairn = s.cairn := rfl
@[simp] theorem withMfb_power (v : MfbSt) : (s.withMfb v).power = s.power := rfl
@[simp] theorem withMfb_tel (v : MfbSt) : (s.withMfb v).tel = s.tel := rfl
@[simp] theorem withMfb_boot (v : MfbSt) : (s.withMfb v).boot = s.boot := rfl
@[simp] theorem withMfb_pending (v : MfbSt) : (s.withMfb v).pending = s.pending := rfl
@[simp] theorem withMfb_out (v : MfbSt) : (s.withMfb v).out = s.out := rfl
@[simp] theorem withMfb_free (v : MfbSt) : (s.withMfb v).free = s.free := rfl
/-! ## withHrn -/
@[simp] theorem withHrn_regs (v : HrnSt) : (s.withHrn v).regs = s.regs := rfl
@[simp] theorem withHrn_sticky (v : HrnSt) : (s.withHrn v).sticky = s.sticky := rfl
@[simp] theorem withHrn_xdom (v : HrnSt) : (s.withHrn v).xdom = s.xdom := rfl
@[simp] theorem withHrn_ports (v : HrnSt) : (s.withHrn v).ports = s.ports := rfl
@[simp] theorem withHrn_fwd (v : HrnSt) : (s.withHrn v).fwd = s.fwd := rfl
@[simp] theorem withHrn_gateTbl (v : HrnSt) : (s.withHrn v).gateTbl = s.gateTbl := rfl
@[simp] theorem withHrn_time (v : HrnSt) : (s.withHrn v).time = s.time := rfl
@[simp] theorem withHrn_fault (v : HrnSt) : (s.withHrn v).fault = s.fault := rfl
@[simp] theorem withHrn_mem (v : HrnSt) : (s.withHrn v).mem = s.mem := rfl
@[simp] theorem withHrn_mfb (v : HrnSt) : (s.withHrn v).mfb = s.mfb := rfl
@[simp] theorem withHrn_hrn (v : HrnSt) : (s.withHrn v).hrn = v := rfl
@[simp] theorem withHrn_comp (v : HrnSt) : (s.withHrn v).comp = s.comp := rfl
@[simp] theorem withHrn_rope (v : HrnSt) : (s.withHrn v).rope = s.rope := rfl
@[simp] theorem withHrn_gate (v : HrnSt) : (s.withHrn v).gate = s.gate := rfl
@[simp] theorem withHrn_host (v : HrnSt) : (s.withHrn v).host = s.host := rfl
@[simp] theorem withHrn_cairn (v : HrnSt) : (s.withHrn v).cairn = s.cairn := rfl
@[simp] theorem withHrn_power (v : HrnSt) : (s.withHrn v).power = s.power := rfl
@[simp] theorem withHrn_tel (v : HrnSt) : (s.withHrn v).tel = s.tel := rfl
@[simp] theorem withHrn_boot (v : HrnSt) : (s.withHrn v).boot = s.boot := rfl
@[simp] theorem withHrn_pending (v : HrnSt) : (s.withHrn v).pending = s.pending := rfl
@[simp] theorem withHrn_out (v : HrnSt) : (s.withHrn v).out = s.out := rfl
@[simp] theorem withHrn_free (v : HrnSt) : (s.withHrn v).free = s.free := rfl
/-! ## withComp -/
@[simp] theorem withComp_regs (v : CompSt) : (s.withComp v).regs = s.regs := rfl
@[simp] theorem withComp_sticky (v : CompSt) : (s.withComp v).sticky = s.sticky := rfl
@[simp] theorem withComp_xdom (v : CompSt) : (s.withComp v).xdom = s.xdom := rfl
@[simp] theorem withComp_ports (v : CompSt) : (s.withComp v).ports = s.ports := rfl
@[simp] theorem withComp_fwd (v : CompSt) : (s.withComp v).fwd = s.fwd := rfl
@[simp] theorem withComp_gateTbl (v : CompSt) : (s.withComp v).gateTbl = s.gateTbl := rfl
@[simp] theorem withComp_time (v : CompSt) : (s.withComp v).time = s.time := rfl
@[simp] theorem withComp_fault (v : CompSt) : (s.withComp v).fault = s.fault := rfl
@[simp] theorem withComp_mem (v : CompSt) : (s.withComp v).mem = s.mem := rfl
@[simp] theorem withComp_mfb (v : CompSt) : (s.withComp v).mfb = s.mfb := rfl
@[simp] theorem withComp_hrn (v : CompSt) : (s.withComp v).hrn = s.hrn := rfl
@[simp] theorem withComp_comp (v : CompSt) : (s.withComp v).comp = v := rfl
@[simp] theorem withComp_rope (v : CompSt) : (s.withComp v).rope = s.rope := rfl
@[simp] theorem withComp_gate (v : CompSt) : (s.withComp v).gate = s.gate := rfl
@[simp] theorem withComp_host (v : CompSt) : (s.withComp v).host = s.host := rfl
@[simp] theorem withComp_cairn (v : CompSt) : (s.withComp v).cairn = s.cairn := rfl
@[simp] theorem withComp_power (v : CompSt) : (s.withComp v).power = s.power := rfl
@[simp] theorem withComp_tel (v : CompSt) : (s.withComp v).tel = s.tel := rfl
@[simp] theorem withComp_boot (v : CompSt) : (s.withComp v).boot = s.boot := rfl
@[simp] theorem withComp_pending (v : CompSt) : (s.withComp v).pending = s.pending := rfl
@[simp] theorem withComp_out (v : CompSt) : (s.withComp v).out = s.out := rfl
@[simp] theorem withComp_free (v : CompSt) : (s.withComp v).free = s.free := rfl
/-! ## withRope -/
@[simp] theorem withRope_regs (v : RopeSt) : (s.withRope v).regs = s.regs := rfl
@[simp] theorem withRope_sticky (v : RopeSt) : (s.withRope v).sticky = s.sticky := rfl
@[simp] theorem withRope_xdom (v : RopeSt) : (s.withRope v).xdom = s.xdom := rfl
@[simp] theorem withRope_ports (v : RopeSt) : (s.withRope v).ports = s.ports := rfl
@[simp] theorem withRope_fwd (v : RopeSt) : (s.withRope v).fwd = s.fwd := rfl
@[simp] theorem withRope_gateTbl (v : RopeSt) : (s.withRope v).gateTbl = s.gateTbl := rfl
@[simp] theorem withRope_time (v : RopeSt) : (s.withRope v).time = s.time := rfl
@[simp] theorem withRope_fault (v : RopeSt) : (s.withRope v).fault = s.fault := rfl
@[simp] theorem withRope_mem (v : RopeSt) : (s.withRope v).mem = s.mem := rfl
@[simp] theorem withRope_mfb (v : RopeSt) : (s.withRope v).mfb = s.mfb := rfl
@[simp] theorem withRope_hrn (v : RopeSt) : (s.withRope v).hrn = s.hrn := rfl
@[simp] theorem withRope_comp (v : RopeSt) : (s.withRope v).comp = s.comp := rfl
@[simp] theorem withRope_rope (v : RopeSt) : (s.withRope v).rope = v := rfl
@[simp] theorem withRope_gate (v : RopeSt) : (s.withRope v).gate = s.gate := rfl
@[simp] theorem withRope_host (v : RopeSt) : (s.withRope v).host = s.host := rfl
@[simp] theorem withRope_cairn (v : RopeSt) : (s.withRope v).cairn = s.cairn := rfl
@[simp] theorem withRope_power (v : RopeSt) : (s.withRope v).power = s.power := rfl
@[simp] theorem withRope_tel (v : RopeSt) : (s.withRope v).tel = s.tel := rfl
@[simp] theorem withRope_boot (v : RopeSt) : (s.withRope v).boot = s.boot := rfl
@[simp] theorem withRope_pending (v : RopeSt) : (s.withRope v).pending = s.pending := rfl
@[simp] theorem withRope_out (v : RopeSt) : (s.withRope v).out = s.out := rfl
@[simp] theorem withRope_free (v : RopeSt) : (s.withRope v).free = s.free := rfl
/-! ## withHost -/
@[simp] theorem withHost_regs (v : HostSt) : (s.withHost v).regs = s.regs := rfl
@[simp] theorem withHost_sticky (v : HostSt) : (s.withHost v).sticky = s.sticky := rfl
@[simp] theorem withHost_xdom (v : HostSt) : (s.withHost v).xdom = s.xdom := rfl
@[simp] theorem withHost_ports (v : HostSt) : (s.withHost v).ports = s.ports := rfl
@[simp] theorem withHost_fwd (v : HostSt) : (s.withHost v).fwd = s.fwd := rfl
@[simp] theorem withHost_gateTbl (v : HostSt) : (s.withHost v).gateTbl = s.gateTbl := rfl
@[simp] theorem withHost_time (v : HostSt) : (s.withHost v).time = s.time := rfl
@[simp] theorem withHost_fault (v : HostSt) : (s.withHost v).fault = s.fault := rfl
@[simp] theorem withHost_mem (v : HostSt) : (s.withHost v).mem = s.mem := rfl
@[simp] theorem withHost_mfb (v : HostSt) : (s.withHost v).mfb = s.mfb := rfl
@[simp] theorem withHost_hrn (v : HostSt) : (s.withHost v).hrn = s.hrn := rfl
@[simp] theorem withHost_comp (v : HostSt) : (s.withHost v).comp = s.comp := rfl
@[simp] theorem withHost_rope (v : HostSt) : (s.withHost v).rope = s.rope := rfl
@[simp] theorem withHost_gate (v : HostSt) : (s.withHost v).gate = s.gate := rfl
@[simp] theorem withHost_host (v : HostSt) : (s.withHost v).host = v := rfl
@[simp] theorem withHost_cairn (v : HostSt) : (s.withHost v).cairn = s.cairn := rfl
@[simp] theorem withHost_power (v : HostSt) : (s.withHost v).power = s.power := rfl
@[simp] theorem withHost_tel (v : HostSt) : (s.withHost v).tel = s.tel := rfl
@[simp] theorem withHost_boot (v : HostSt) : (s.withHost v).boot = s.boot := rfl
@[simp] theorem withHost_pending (v : HostSt) : (s.withHost v).pending = s.pending := rfl
@[simp] theorem withHost_out (v : HostSt) : (s.withHost v).out = s.out := rfl
@[simp] theorem withHost_free (v : HostSt) : (s.withHost v).free = s.free := rfl
/-! ## withGate -/
@[simp] theorem withGate_regs (v : GateSt) : (s.withGate v).regs = s.regs := rfl
@[simp] theorem withGate_sticky (v : GateSt) : (s.withGate v).sticky = s.sticky := rfl
@[simp] theorem withGate_xdom (v : GateSt) : (s.withGate v).xdom = s.xdom := rfl
@[simp] theorem withGate_ports (v : GateSt) : (s.withGate v).ports = s.ports := rfl
@[simp] theorem withGate_fwd (v : GateSt) : (s.withGate v).fwd = s.fwd := rfl
@[simp] theorem withGate_gateTbl (v : GateSt) : (s.withGate v).gateTbl = s.gateTbl := rfl
@[simp] theorem withGate_time (v : GateSt) : (s.withGate v).time = s.time := rfl
@[simp] theorem withGate_fault (v : GateSt) : (s.withGate v).fault = s.fault := rfl
@[simp] theorem withGate_mem (v : GateSt) : (s.withGate v).mem = s.mem := rfl
@[simp] theorem withGate_mfb (v : GateSt) : (s.withGate v).mfb = s.mfb := rfl
@[simp] theorem withGate_hrn (v : GateSt) : (s.withGate v).hrn = s.hrn := rfl
@[simp] theorem withGate_comp (v : GateSt) : (s.withGate v).comp = s.comp := rfl
@[simp] theorem withGate_rope (v : GateSt) : (s.withGate v).rope = s.rope := rfl
@[simp] theorem withGate_gate (v : GateSt) : (s.withGate v).gate = v := rfl
@[simp] theorem withGate_host (v : GateSt) : (s.withGate v).host = s.host := rfl
@[simp] theorem withGate_cairn (v : GateSt) : (s.withGate v).cairn = s.cairn := rfl
@[simp] theorem withGate_power (v : GateSt) : (s.withGate v).power = s.power := rfl
@[simp] theorem withGate_tel (v : GateSt) : (s.withGate v).tel = s.tel := rfl
@[simp] theorem withGate_boot (v : GateSt) : (s.withGate v).boot = s.boot := rfl
@[simp] theorem withGate_pending (v : GateSt) : (s.withGate v).pending = s.pending := rfl
@[simp] theorem withGate_out (v : GateSt) : (s.withGate v).out = s.out := rfl
@[simp] theorem withGate_free (v : GateSt) : (s.withGate v).free = s.free := rfl
/-! ## withCairn -/
@[simp] theorem withCairn_regs (v : CairnSt) : (s.withCairn v).regs = s.regs := rfl
@[simp] theorem withCairn_sticky (v : CairnSt) : (s.withCairn v).sticky = s.sticky := rfl
@[simp] theorem withCairn_xdom (v : CairnSt) : (s.withCairn v).xdom = s.xdom := rfl
@[simp] theorem withCairn_ports (v : CairnSt) : (s.withCairn v).ports = s.ports := rfl
@[simp] theorem withCairn_fwd (v : CairnSt) : (s.withCairn v).fwd = s.fwd := rfl
@[simp] theorem withCairn_gateTbl (v : CairnSt) : (s.withCairn v).gateTbl = s.gateTbl := rfl
@[simp] theorem withCairn_time (v : CairnSt) : (s.withCairn v).time = s.time := rfl
@[simp] theorem withCairn_fault (v : CairnSt) : (s.withCairn v).fault = s.fault := rfl
@[simp] theorem withCairn_mem (v : CairnSt) : (s.withCairn v).mem = s.mem := rfl
@[simp] theorem withCairn_mfb (v : CairnSt) : (s.withCairn v).mfb = s.mfb := rfl
@[simp] theorem withCairn_hrn (v : CairnSt) : (s.withCairn v).hrn = s.hrn := rfl
@[simp] theorem withCairn_comp (v : CairnSt) : (s.withCairn v).comp = s.comp := rfl
@[simp] theorem withCairn_rope (v : CairnSt) : (s.withCairn v).rope = s.rope := rfl
@[simp] theorem withCairn_gate (v : CairnSt) : (s.withCairn v).gate = s.gate := rfl
@[simp] theorem withCairn_host (v : CairnSt) : (s.withCairn v).host = s.host := rfl
@[simp] theorem withCairn_cairn (v : CairnSt) : (s.withCairn v).cairn = v := rfl
@[simp] theorem withCairn_power (v : CairnSt) : (s.withCairn v).power = s.power := rfl
@[simp] theorem withCairn_tel (v : CairnSt) : (s.withCairn v).tel = s.tel := rfl
@[simp] theorem withCairn_boot (v : CairnSt) : (s.withCairn v).boot = s.boot := rfl
@[simp] theorem withCairn_pending (v : CairnSt) : (s.withCairn v).pending = s.pending := rfl
@[simp] theorem withCairn_out (v : CairnSt) : (s.withCairn v).out = s.out := rfl
@[simp] theorem withCairn_free (v : CairnSt) : (s.withCairn v).free = s.free := rfl
/-! ## withPower -/
@[simp] theorem withPower_regs (v : PowerSt) : (s.withPower v).regs = s.regs := rfl
@[simp] theorem withPower_sticky (v : PowerSt) : (s.withPower v).sticky = s.sticky := rfl
@[simp] theorem withPower_xdom (v : PowerSt) : (s.withPower v).xdom = s.xdom := rfl
@[simp] theorem withPower_ports (v : PowerSt) : (s.withPower v).ports = s.ports := rfl
@[simp] theorem withPower_fwd (v : PowerSt) : (s.withPower v).fwd = s.fwd := rfl
@[simp] theorem withPower_gateTbl (v : PowerSt) : (s.withPower v).gateTbl = s.gateTbl := rfl
@[simp] theorem withPower_time (v : PowerSt) : (s.withPower v).time = s.time := rfl
@[simp] theorem withPower_fault (v : PowerSt) : (s.withPower v).fault = s.fault := rfl
@[simp] theorem withPower_mem (v : PowerSt) : (s.withPower v).mem = s.mem := rfl
@[simp] theorem withPower_mfb (v : PowerSt) : (s.withPower v).mfb = s.mfb := rfl
@[simp] theorem withPower_hrn (v : PowerSt) : (s.withPower v).hrn = s.hrn := rfl
@[simp] theorem withPower_comp (v : PowerSt) : (s.withPower v).comp = s.comp := rfl
@[simp] theorem withPower_rope (v : PowerSt) : (s.withPower v).rope = s.rope := rfl
@[simp] theorem withPower_gate (v : PowerSt) : (s.withPower v).gate = s.gate := rfl
@[simp] theorem withPower_host (v : PowerSt) : (s.withPower v).host = s.host := rfl
@[simp] theorem withPower_cairn (v : PowerSt) : (s.withPower v).cairn = s.cairn := rfl
@[simp] theorem withPower_power (v : PowerSt) : (s.withPower v).power = v := rfl
@[simp] theorem withPower_tel (v : PowerSt) : (s.withPower v).tel = s.tel := rfl
@[simp] theorem withPower_boot (v : PowerSt) : (s.withPower v).boot = s.boot := rfl
@[simp] theorem withPower_pending (v : PowerSt) : (s.withPower v).pending = s.pending := rfl
@[simp] theorem withPower_out (v : PowerSt) : (s.withPower v).out = s.out := rfl
@[simp] theorem withPower_free (v : PowerSt) : (s.withPower v).free = s.free := rfl
/-! ## withTel -/
@[simp] theorem withTel_regs (v : TelSt) : (s.withTel v).regs = s.regs := rfl
@[simp] theorem withTel_sticky (v : TelSt) : (s.withTel v).sticky = s.sticky := rfl
@[simp] theorem withTel_xdom (v : TelSt) : (s.withTel v).xdom = s.xdom := rfl
@[simp] theorem withTel_ports (v : TelSt) : (s.withTel v).ports = s.ports := rfl
@[simp] theorem withTel_fwd (v : TelSt) : (s.withTel v).fwd = s.fwd := rfl
@[simp] theorem withTel_gateTbl (v : TelSt) : (s.withTel v).gateTbl = s.gateTbl := rfl
@[simp] theorem withTel_time (v : TelSt) : (s.withTel v).time = s.time := rfl
@[simp] theorem withTel_fault (v : TelSt) : (s.withTel v).fault = s.fault := rfl
@[simp] theorem withTel_mem (v : TelSt) : (s.withTel v).mem = s.mem := rfl
@[simp] theorem withTel_mfb (v : TelSt) : (s.withTel v).mfb = s.mfb := rfl
@[simp] theorem withTel_hrn (v : TelSt) : (s.withTel v).hrn = s.hrn := rfl
@[simp] theorem withTel_comp (v : TelSt) : (s.withTel v).comp = s.comp := rfl
@[simp] theorem withTel_rope (v : TelSt) : (s.withTel v).rope = s.rope := rfl
@[simp] theorem withTel_gate (v : TelSt) : (s.withTel v).gate = s.gate := rfl
@[simp] theorem withTel_host (v : TelSt) : (s.withTel v).host = s.host := rfl
@[simp] theorem withTel_cairn (v : TelSt) : (s.withTel v).cairn = s.cairn := rfl
@[simp] theorem withTel_power (v : TelSt) : (s.withTel v).power = s.power := rfl
@[simp] theorem withTel_tel (v : TelSt) : (s.withTel v).tel = v := rfl
@[simp] theorem withTel_boot (v : TelSt) : (s.withTel v).boot = s.boot := rfl
@[simp] theorem withTel_pending (v : TelSt) : (s.withTel v).pending = s.pending := rfl
@[simp] theorem withTel_out (v : TelSt) : (s.withTel v).out = s.out := rfl
@[simp] theorem withTel_free (v : TelSt) : (s.withTel v).free = s.free := rfl
/-! ## One register -/
@[simp] theorem setReg_regs (a : Nat) (v : Word) : (s.setReg a v).regs = sparseSet regReset s.regs a v := rfl
@[simp] theorem setReg_sticky (a : Nat) (v : Word) : (s.setReg a v).sticky = s.sticky := rfl
@[simp] theorem setReg_xdom (a : Nat) (v : Word) : (s.setReg a v).xdom = s.xdom := rfl
@[simp] theorem setReg_ports (a : Nat) (v : Word) : (s.setReg a v).ports = s.ports := rfl
@[simp] theorem setReg_fwd (a : Nat) (v : Word) : (s.setReg a v).fwd = s.fwd := rfl
@[simp] theorem setReg_gateTbl (a : Nat) (v : Word) : (s.setReg a v).gateTbl = s.gateTbl := rfl
@[simp] theorem setReg_time (a : Nat) (v : Word) : (s.setReg a v).time = s.time := rfl
@[simp] theorem setReg_fault (a : Nat) (v : Word) : (s.setReg a v).fault = s.fault := rfl
@[simp] theorem setReg_mem (a : Nat) (v : Word) : (s.setReg a v).mem = s.mem := rfl
@[simp] theorem setReg_mfb (a : Nat) (v : Word) : (s.setReg a v).mfb = s.mfb := rfl
@[simp] theorem setReg_hrn (a : Nat) (v : Word) : (s.setReg a v).hrn = s.hrn := rfl
@[simp] theorem setReg_comp (a : Nat) (v : Word) : (s.setReg a v).comp = s.comp := rfl
@[simp] theorem setReg_rope (a : Nat) (v : Word) : (s.setReg a v).rope = s.rope := rfl
@[simp] theorem setReg_gate (a : Nat) (v : Word) : (s.setReg a v).gate = s.gate := rfl
@[simp] theorem setReg_host (a : Nat) (v : Word) : (s.setReg a v).host = s.host := rfl
@[simp] theorem setReg_cairn (a : Nat) (v : Word) : (s.setReg a v).cairn = s.cairn := rfl
@[simp] theorem setReg_power (a : Nat) (v : Word) : (s.setReg a v).power = s.power := rfl
@[simp] theorem setReg_tel (a : Nat) (v : Word) : (s.setReg a v).tel = s.tel := rfl
@[simp] theorem setReg_boot (a : Nat) (v : Word) : (s.setReg a v).boot = s.boot := rfl
@[simp] theorem setReg_pending (a : Nat) (v : Word) : (s.setReg a v).pending = s.pending := rfl
@[simp] theorem setReg_out (a : Nat) (v : Word) : (s.setReg a v).out = s.out := rfl
@[simp] theorem setReg_free (a : Nat) (v : Word) : (s.setReg a v).free = s.free := rfl
/-! ## One register field -/
@[simp] theorem wf_sticky (x : Rf) (n : Nat) : (s.wf x n).sticky = s.sticky := rfl
@[simp] theorem wf_xdom (x : Rf) (n : Nat) : (s.wf x n).xdom = s.xdom := rfl
@[simp] theorem wf_ports (x : Rf) (n : Nat) : (s.wf x n).ports = s.ports := rfl
@[simp] theorem wf_fwd (x : Rf) (n : Nat) : (s.wf x n).fwd = s.fwd := rfl
@[simp] theorem wf_gateTbl (x : Rf) (n : Nat) : (s.wf x n).gateTbl = s.gateTbl := rfl
@[simp] theorem wf_time (x : Rf) (n : Nat) : (s.wf x n).time = s.time := rfl
@[simp] theorem wf_fault (x : Rf) (n : Nat) : (s.wf x n).fault = s.fault := rfl
@[simp] theorem wf_mem (x : Rf) (n : Nat) : (s.wf x n).mem = s.mem := rfl
@[simp] theorem wf_mfb (x : Rf) (n : Nat) : (s.wf x n).mfb = s.mfb := rfl
@[simp] theorem wf_hrn (x : Rf) (n : Nat) : (s.wf x n).hrn = s.hrn := rfl
@[simp] theorem wf_comp (x : Rf) (n : Nat) : (s.wf x n).comp = s.comp := rfl
@[simp] theorem wf_rope (x : Rf) (n : Nat) : (s.wf x n).rope = s.rope := rfl
@[simp] theorem wf_gate (x : Rf) (n : Nat) : (s.wf x n).gate = s.gate := rfl
@[simp] theorem wf_host (x : Rf) (n : Nat) : (s.wf x n).host = s.host := rfl
@[simp] theorem wf_cairn (x : Rf) (n : Nat) : (s.wf x n).cairn = s.cairn := rfl
@[simp] theorem wf_power (x : Rf) (n : Nat) : (s.wf x n).power = s.power := rfl
@[simp] theorem wf_tel (x : Rf) (n : Nat) : (s.wf x n).tel = s.tel := rfl
@[simp] theorem wf_boot (x : Rf) (n : Nat) : (s.wf x n).boot = s.boot := rfl
@[simp] theorem wf_pending (x : Rf) (n : Nat) : (s.wf x n).pending = s.pending := rfl
@[simp] theorem wf_out (x : Rf) (n : Nat) : (s.wf x n).out = s.out := rfl
@[simp] theorem wf_free (x : Rf) (n : Nat) : (s.wf x n).free = s.free := rfl
/-! ## A counter -/
@[simp] theorem count_xdom (x : Rf) (n : Nat) : (s.count x n).xdom = s.xdom := by simp only [count]; split <;> rfl
@[simp] theorem inc_xdom (x : Rf) : (s.inc x).xdom = s.xdom := count_xdom s x 1
@[simp] theorem count_ports (x : Rf) (n : Nat) : (s.count x n).ports = s.ports := by simp only [count]; split <;> rfl
@[simp] theorem inc_ports (x : Rf) : (s.inc x).ports = s.ports := count_ports s x 1
@[simp] theorem count_fwd (x : Rf) (n : Nat) : (s.count x n).fwd = s.fwd := by simp only [count]; split <;> rfl
@[simp] theorem inc_fwd (x : Rf) : (s.inc x).fwd = s.fwd := count_fwd s x 1
@[simp] theorem count_gateTbl (x : Rf) (n : Nat) : (s.count x n).gateTbl = s.gateTbl := by simp only [count]; split <;> rfl
@[simp] theorem inc_gateTbl (x : Rf) : (s.inc x).gateTbl = s.gateTbl := count_gateTbl s x 1
@[simp] theorem count_time (x : Rf) (n : Nat) : (s.count x n).time = s.time := by simp only [count]; split <;> rfl
@[simp] theorem inc_time (x : Rf) : (s.inc x).time = s.time := count_time s x 1
@[simp] theorem count_fault (x : Rf) (n : Nat) : (s.count x n).fault = s.fault := by simp only [count]; split <;> rfl
@[simp] theorem inc_fault (x : Rf) : (s.inc x).fault = s.fault := count_fault s x 1
@[simp] theorem count_mem (x : Rf) (n : Nat) : (s.count x n).mem = s.mem := by simp only [count]; split <;> rfl
@[simp] theorem inc_mem (x : Rf) : (s.inc x).mem = s.mem := count_mem s x 1
@[simp] theorem count_mfb (x : Rf) (n : Nat) : (s.count x n).mfb = s.mfb := by simp only [count]; split <;> rfl
@[simp] theorem inc_mfb (x : Rf) : (s.inc x).mfb = s.mfb := count_mfb s x 1
@[simp] theorem count_hrn (x : Rf) (n : Nat) : (s.count x n).hrn = s.hrn := by simp only [count]; split <;> rfl
@[simp] theorem inc_hrn (x : Rf) : (s.inc x).hrn = s.hrn := count_hrn s x 1
@[simp] theorem count_comp (x : Rf) (n : Nat) : (s.count x n).comp = s.comp := by simp only [count]; split <;> rfl
@[simp] theorem inc_comp (x : Rf) : (s.inc x).comp = s.comp := count_comp s x 1
@[simp] theorem count_rope (x : Rf) (n : Nat) : (s.count x n).rope = s.rope := by simp only [count]; split <;> rfl
@[simp] theorem inc_rope (x : Rf) : (s.inc x).rope = s.rope := count_rope s x 1
@[simp] theorem count_gate (x : Rf) (n : Nat) : (s.count x n).gate = s.gate := by simp only [count]; split <;> rfl
@[simp] theorem inc_gate (x : Rf) : (s.inc x).gate = s.gate := count_gate s x 1
@[simp] theorem count_host (x : Rf) (n : Nat) : (s.count x n).host = s.host := by simp only [count]; split <;> rfl
@[simp] theorem inc_host (x : Rf) : (s.inc x).host = s.host := count_host s x 1
@[simp] theorem count_cairn (x : Rf) (n : Nat) : (s.count x n).cairn = s.cairn := by simp only [count]; split <;> rfl
@[simp] theorem inc_cairn (x : Rf) : (s.inc x).cairn = s.cairn := count_cairn s x 1
@[simp] theorem count_power (x : Rf) (n : Nat) : (s.count x n).power = s.power := by simp only [count]; split <;> rfl
@[simp] theorem inc_power (x : Rf) : (s.inc x).power = s.power := count_power s x 1
@[simp] theorem count_tel (x : Rf) (n : Nat) : (s.count x n).tel = s.tel := by simp only [count]; split <;> rfl
@[simp] theorem inc_tel (x : Rf) : (s.inc x).tel = s.tel := count_tel s x 1
@[simp] theorem count_boot (x : Rf) (n : Nat) : (s.count x n).boot = s.boot := by simp only [count]; split <;> rfl
@[simp] theorem inc_boot (x : Rf) : (s.inc x).boot = s.boot := count_boot s x 1
@[simp] theorem count_pending (x : Rf) (n : Nat) : (s.count x n).pending = s.pending := by simp only [count]; split <;> rfl
@[simp] theorem inc_pending (x : Rf) : (s.inc x).pending = s.pending := count_pending s x 1
@[simp] theorem count_out (x : Rf) (n : Nat) : (s.count x n).out = s.out := by simp only [count]; split <;> rfl
@[simp] theorem inc_out (x : Rf) : (s.inc x).out = s.out := count_out s x 1
@[simp] theorem count_free (x : Rf) (n : Nat) : (s.count x n).free = s.free := by simp only [count]; split <;> rfl
@[simp] theorem inc_free (x : Rf) : (s.inc x).free = s.free := count_free s x 1
/-! ## A message out -/
@[simp] theorem emit_regs (o : Out) : (s.emit o).regs = s.regs := rfl
@[simp] theorem emit_sticky (o : Out) : (s.emit o).sticky = s.sticky := rfl
@[simp] theorem emit_xdom (o : Out) : (s.emit o).xdom = s.xdom := rfl
@[simp] theorem emit_ports (o : Out) : (s.emit o).ports = s.ports := rfl
@[simp] theorem emit_fwd (o : Out) : (s.emit o).fwd = s.fwd := rfl
@[simp] theorem emit_gateTbl (o : Out) : (s.emit o).gateTbl = s.gateTbl := rfl
@[simp] theorem emit_time (o : Out) : (s.emit o).time = s.time := rfl
@[simp] theorem emit_fault (o : Out) : (s.emit o).fault = s.fault := rfl
@[simp] theorem emit_mem (o : Out) : (s.emit o).mem = s.mem := rfl
@[simp] theorem emit_mfb (o : Out) : (s.emit o).mfb = s.mfb := rfl
@[simp] theorem emit_hrn (o : Out) : (s.emit o).hrn = s.hrn := rfl
@[simp] theorem emit_comp (o : Out) : (s.emit o).comp = s.comp := rfl
@[simp] theorem emit_rope (o : Out) : (s.emit o).rope = s.rope := rfl
@[simp] theorem emit_gate (o : Out) : (s.emit o).gate = s.gate := rfl
@[simp] theorem emit_host (o : Out) : (s.emit o).host = s.host := rfl
@[simp] theorem emit_cairn (o : Out) : (s.emit o).cairn = s.cairn := rfl
@[simp] theorem emit_power (o : Out) : (s.emit o).power = s.power := rfl
@[simp] theorem emit_tel (o : Out) : (s.emit o).tel = s.tel := rfl
@[simp] theorem emit_boot (o : Out) : (s.emit o).boot = s.boot := rfl
@[simp] theorem emit_pending (o : Out) : (s.emit o).pending = s.pending := rfl
@[simp] theorem emit_out (o : Out) : (s.emit o).out = s.out ++ [o] := rfl
@[simp] theorem emit_free (o : Out) : (s.emit o).free = s.free := rfl
/-! ## One port -/
@[simp] theorem setPort_regs (P : Nat) (p : PortSt) : (s.setPort P p).regs = s.regs := rfl
@[simp] theorem setPort_sticky (P : Nat) (p : PortSt) : (s.setPort P p).sticky = s.sticky := rfl
@[simp] theorem setPort_xdom (P : Nat) (p : PortSt) : (s.setPort P p).xdom = s.xdom := rfl
@[simp] theorem setPort_ports (P : Nat) (p : PortSt) : (s.setPort P p).ports = sparseSet (fun _ => PortSt.initial) s.ports P p := rfl
@[simp] theorem setPort_fwd (P : Nat) (p : PortSt) : (s.setPort P p).fwd = s.fwd := rfl
@[simp] theorem setPort_gateTbl (P : Nat) (p : PortSt) : (s.setPort P p).gateTbl = s.gateTbl := rfl
@[simp] theorem setPort_time (P : Nat) (p : PortSt) : (s.setPort P p).time = s.time := rfl
@[simp] theorem setPort_fault (P : Nat) (p : PortSt) : (s.setPort P p).fault = s.fault := rfl
@[simp] theorem setPort_mem (P : Nat) (p : PortSt) : (s.setPort P p).mem = s.mem := rfl
@[simp] theorem setPort_mfb (P : Nat) (p : PortSt) : (s.setPort P p).mfb = s.mfb := rfl
@[simp] theorem setPort_hrn (P : Nat) (p : PortSt) : (s.setPort P p).hrn = s.hrn := rfl
@[simp] theorem setPort_comp (P : Nat) (p : PortSt) : (s.setPort P p).comp = s.comp := rfl
@[simp] theorem setPort_rope (P : Nat) (p : PortSt) : (s.setPort P p).rope = s.rope := rfl
@[simp] theorem setPort_gate (P : Nat) (p : PortSt) : (s.setPort P p).gate = s.gate := rfl
@[simp] theorem setPort_host (P : Nat) (p : PortSt) : (s.setPort P p).host = s.host := rfl
@[simp] theorem setPort_cairn (P : Nat) (p : PortSt) : (s.setPort P p).cairn = s.cairn := rfl
@[simp] theorem setPort_power (P : Nat) (p : PortSt) : (s.setPort P p).power = s.power := rfl
@[simp] theorem setPort_tel (P : Nat) (p : PortSt) : (s.setPort P p).tel = s.tel := rfl
@[simp] theorem setPort_boot (P : Nat) (p : PortSt) : (s.setPort P p).boot = s.boot := rfl
@[simp] theorem setPort_pending (P : Nat) (p : PortSt) : (s.setPort P p).pending = s.pending := rfl
@[simp] theorem setPort_out (P : Nat) (p : PortSt) : (s.setPort P p).out = s.out := rfl
@[simp] theorem setPort_free (P : Nat) (p : PortSt) : (s.setPort P p).free = s.free := rfl

end Sys2Proof.Machine.State
end

