-- ==== Sys2Proof/Laws/Sparse.lean ====
section
/-! SUPPORT. Sparse tables: a read after a write, and the canonical form (rising keys, no entry that equals what an unlisted
key reads as). -/
namespace Sys2Proof.Machine

section
variable {α : Type}

/-- Every key of `l` lies above `a`. -/
def above (a : Nat) (l : List (Nat × α)) : Prop := ∀ p ∈ l, a < p.1

theorem rising_cons (a : Nat) (x : α) (l : List (Nat × α)) : rising ((a, x) :: l) = true ↔ above a l ∧ rising l = true := by
  induction l generalizing a x with
  | nil => simp [rising, above]
  | cons p t ih =>
    obtain ⟨b, y⟩ := p
    simp only [rising, Bool.and_eq_true, decide_eq_true_eq, above, List.mem_cons, forall_eq_or_imp]
    constructor
    · rintro ⟨h1, h2⟩
      exact ⟨⟨h1, fun q hq => lt_trans h1 (((ih b y).1 h2).1 q hq)⟩, h2⟩
    · rintro ⟨⟨h1, _⟩, h2⟩
      exact ⟨h1, h2⟩

theorem rising_filter (p : Nat × α → Bool) (l : List (Nat × α)) (h : rising l = true) : rising (l.filter p) = true := by
  induction l with
  | nil => simpa using h
  | cons q t ih =>
    obtain ⟨a, x⟩ := q
    have h' := (rising_cons a x t).1 h
    simp only [List.filter_cons]
    split
    · exact (rising_cons a x _).2 ⟨fun r hr => h'.1 r (List.mem_filter.1 hr).1, ih h'.2⟩
    · exact ih h'.2

theorem rising_eraseKey (l : List (Nat × α)) (a : Nat) (h : rising l = true) : rising (eraseKey l a) = true :=
  rising_filter _ l h

theorem above_insertKey (l : List (Nat × α)) (a b : Nat) (v : α) (h : above a l) (hb : a < b) : above a (insertKey l b v) := by
  induction l with
  | nil => intro p hp; simp only [insertKey, List.mem_singleton] at hp; subst hp; exact hb
  | cons q t ih =>
    obtain ⟨k, x⟩ := q
    have ht : above a t := fun p hp => h p (List.mem_cons_of_mem _ hp)
    simp only [insertKey]
    split
    · intro p hp
      rcases List.mem_cons.1 hp with rfl | hp
      · exact hb
      · exact h p hp
    · intro p hp
      rcases List.mem_cons.1 hp with rfl | hp
      · exact h _ (List.mem_cons_self ..)
      · exact ih ht p hp

theorem rising_insertKey (l : List (Nat × α)) (a : Nat) (v : α) (h : rising l = true) (hn : ∀ p ∈ l, p.1 ≠ a) :
    rising (insertKey l a v) = true := by
  induction l with
  | nil => rfl
  | cons q t ih =>
    obtain ⟨k, x⟩ := q
    have h' := (rising_cons k x t).1 h
    have hk : k ≠ a := hn _ (List.mem_cons_self ..)
    simp only [insertKey]
    split
    · rename_i hlt
      refine (rising_cons a v _).2 ⟨?_, h⟩
      intro p hp
      rcases List.mem_cons.1 hp with rfl | hp
      · exact hlt
      · exact lt_trans hlt (h'.1 p hp)
    · exact (rising_cons k x _).2 ⟨above_insertKey t k a v h'.1 (by omega),
        ih h'.2 (fun p hp => hn p (List.mem_cons_of_mem _ hp))⟩

theorem eraseKey_ne (l : List (Nat × α)) (a : Nat) : ∀ p ∈ eraseKey l a, p.1 ≠ a := by
  intro p hp
  simpa [eraseKey] using (List.mem_filter.1 hp).2

/-- Putting an entry keeps keys rising. -/
theorem rising_put (l : List (Nat × α)) (a : Nat) (v : α) (h : rising l = true) :
    rising (insertKey (eraseKey l a) a v) = true :=
  rising_insertKey _ a v (rising_eraseKey l a h) (eraseKey_ne l a)

theorem rising_sparseSet [DecidableEq α] (d : Nat → α) (l : List (Nat × α)) (a : Nat) (v : α) (h : rising l = true) :
    rising (sparseSet d l a v) = true := by
  simp only [sparseSet]
  split
  · exact rising_eraseKey l a h
  · exact rising_put l a v h

theorem lookupKey_eraseKey_self (l : List (Nat × α)) (a : Nat) : lookupKey (eraseKey l a) a = none := by
  induction l with
  | nil => rfl
  | cons q t ih =>
    obtain ⟨k, x⟩ := q
    by_cases hk : k = a
    · subst hk; simpa [eraseKey] using ih
    · simp only [eraseKey] at ih; simp [eraseKey, hk, lookupKey, ih]

theorem lookupKey_eraseKey_ne (l : List (Nat × α)) (a b : Nat) (h : b ≠ a) : lookupKey (eraseKey l a) b = lookupKey l b := by
  induction l with
  | nil => rfl
  | cons q t ih =>
    obtain ⟨k, x⟩ := q
    by_cases hk : k = a
    · subst hk
      have : k ≠ b := fun e => h e.symm
      simp only [eraseKey] at ih
      simp [eraseKey, lookupKey, this, ih]
    · simp only [eraseKey] at ih
      simp [eraseKey, hk, lookupKey, ih]

theorem lookupKey_insertKey_self (l : List (Nat × α)) (a : Nat) (v : α) (h : lookupKey l a = none) :
    lookupKey (insertKey l a v) a = some v := by
  induction l with
  | nil => simp [insertKey, lookupKey]
  | cons q t ih =>
    obtain ⟨k, x⟩ := q
    by_cases hk : k = a
    · simp [lookupKey, hk] at h
    · simp only [lookupKey, hk, if_false] at h
      simp only [insertKey]
      split
      · simp [lookupKey]
      · simp [lookupKey, hk, ih h]

theorem lookupKey_insertKey_ne (l : List (Nat × α)) (a b : Nat) (v : α) (h : b ≠ a) :
    lookupKey (insertKey l a v) b = lookupKey l b := by
  have h' : ¬ a = b := fun e => h e.symm
  induction l with
  | nil => simp [insertKey, lookupKey, h']
  | cons q t ih =>
    obtain ⟨k, x⟩ := q
    simp only [insertKey]
    split
    · simp [lookupKey, h']
    · simp [lookupKey, ih]

/-- A read after a write of the same key gives the value written. -/
@[simp] theorem sparseGet_set_self [DecidableEq α] (d : Nat → α) (l : List (Nat × α)) (a : Nat) (v : α) :
    sparseGet d (sparseSet d l a v) a = v := by
  simp only [sparseGet, sparseSet]
  split
  · rename_i h; simp [lookupKey_eraseKey_self, h]
  · simp [lookupKey_insertKey_self _ _ _ (lookupKey_eraseKey_self l a)]

/-- A write of one key leaves what every other key reads as. -/
theorem sparseGet_set_ne [DecidableEq α] (d : Nat → α) (l : List (Nat × α)) (a b : Nat) (v : α) (h : b ≠ a) :
    sparseGet d (sparseSet d l a v) b = sparseGet d l b := by
  simp only [sparseGet, sparseSet]
  split
  · simp [lookupKey_eraseKey_ne l a b h]
  · simp [lookupKey_insertKey_ne _ _ _ _ h, lookupKey_eraseKey_ne l a b h]

end

/-! ## Registers and ports through the table laws -/
namespace State
variable (s : State)

@[simp] theorem reg_setReg_self (a : Nat) (v : Word) : (s.setReg a v).reg a = v := sparseGet_set_self _ _ _ _
theorem reg_setReg_ne (a b : Nat) (v : Word) (h : b ≠ a) : (s.setReg a v).reg b = s.reg b := sparseGet_set_ne _ _ _ _ _ h
/-- A register field written leaves every other register. -/
theorem reg_wf_ne (x : Rf) (n b : Nat) (h : b ≠ x.a) : (s.wf x n).reg b = s.reg b := reg_setReg_ne s _ _ _ h
@[simp] theorem reg_wf_self (x : Rf) (n : Nat) : (s.wf x n).reg x.a = (s.reg x.a).withField x.lo x.w n := reg_setReg_self s _ _
@[simp] theorem reg_emit (o : Out) (a : Nat) : (s.emit o).reg a = s.reg a := rfl
@[simp] theorem reg_setPort (P : Nat) (p : PortSt) (a : Nat) : (s.setPort P p).reg a = s.reg a := rfl
@[simp] theorem port_setPort_self (P : Nat) (p : PortSt) : (s.setPort P p).port P = p := sparseGet_set_self _ _ _ _
theorem port_setPort_ne (P Q : Nat) (p : PortSt) (h : Q ≠ P) : (s.setPort P p).port Q = s.port Q := sparseGet_set_ne _ _ _ _ _ h
@[simp] theorem port_setReg (a : Nat) (v : Word) (P : Nat) : (s.setReg a v).port P = s.port P := rfl
@[simp] theorem port_wf (x : Rf) (n P : Nat) : (s.wf x n).port P = s.port P := rfl

/-- A counter gains `n` modulo 2^64. -/
theorem reg_count_self (x : Rf) (n : Nat) : (s.count x n).reg x.a = Word.ofN ((s.reg x.a).toNat + n) := by
  simp only [count]; split <;> exact reg_setReg_self s _ _
theorem reg_count_ne (x : Rf) (n b : Nat) (h : b ≠ x.a) : (s.count x n).reg b = s.reg b := by
  simp only [count]; split <;> exact reg_setReg_ne s _ _ _ h
/-- A register write keeps the canonical form of the register table. -/
theorem rising_setReg (a : Nat) (v : Word) (h : rising s.regs = true) : rising (s.setReg a v).regs = true :=
  rising_sparseSet _ _ _ _ h

end State
end Sys2Proof.Machine
end

