-- ==== Sys2Proof/Laws/Memory.lean ====
section
/-! SUPPORT. Every memory operation keeps the canonical form of memory; a byte read after it was stored; bytes outside a
store. -/
namespace Sys2Proof.Machine.MemSt
variable (m : MemSt)

theorem putByte_wf (a : Nat) (b : Byte) (h : Memory.wf m.cells = true) : Memory.wf (m.putByte a b).cells = true := rising_put _ _ _ h

theorem putBytes_wf (bs : List Byte) (a : Nat) (h : Memory.wf m.cells = true) : Memory.wf (m.putBytes a bs).cells = true := by
  induction bs generalizing m a with
  | nil => exact h
  | cons b t ih => exact ih _ _ (putByte_wf m a b h)

theorem poison_wf (lo hi : Nat) (h : Memory.wf m.cells = true) : Memory.wf (m.poison lo hi).cells = true := rising_filter _ _ h

theorem clearValid_wf (lo hi : Nat) (h : Memory.wf m.cells = true) : Memory.wf (m.clearValid lo hi).cells = true := h

theorem openUnit_wf (u : Nat) (h : Memory.wf m.cells = true) : Memory.wf (m.openUnit u).cells = true :=
  putBytes_wf _ _ _ (poison_wf m _ _ h)

theorem writeWord_wf (a : Nat) (bs : List Byte) (h : Memory.wf m.cells = true) : Memory.wf (m.writeWord a bs).cells = true := by
  simp only [writeWord]
  split
  · exact putBytes_wf _ _ _ (poison_wf m _ _ h)
  · split
    · exact putBytes_wf _ _ _ h
    · exact poison_wf m _ _ h

theorem writeWords_wf (k a : Nat) (bs : List Byte) (h : Memory.wf m.cells = true) :
    Memory.wf (writeWords k m a bs).cells = true := by
  induction k generalizing m a bs with
  | zero => exact h
  | succ k ih =>
    simp only [writeWords]
    split
    · exact h
    · exact ih _ _ _ (writeWord_wf m a _ h)

theorem openUnits_wf (us : List Nat) (h : Memory.wf m.cells = true) :
    Memory.wf (us.foldl (fun m u => if m.valid.contains u then m else m.openUnit u) m).cells = true := by
  induction us generalizing m with
  | nil => exact h
  | cons u t ih =>
    simp only [List.foldl_cons]
    apply ih
    split
    · exact h
    · exact openUnit_wf m u h

theorem write_wf (owner a : Nat) (bs : List Byte) (h : Memory.wf m.cells = true) : Memory.wf (m.write owner a bs).cells = true := by
  simp only [write]
  apply writeWords_wf
  split
  · exact h
  · exact openUnits_wf m _ h

theorem writeRuns_wf (owner : Nat) (rs : List (Nat × Nat)) (bs : List Byte) (h : Memory.wf m.cells = true) :
    Memory.wf (m.writeRuns owner rs bs).cells = true := by
  induction rs generalizing m bs with
  | nil => exact h
  | cons r t ih => exact ih _ _ (write_wf m owner r.1 _ h)

/-- The memory after reset lists nothing. -/
theorem reset_wf : Memory.wf State.reset.mem.cells = true := rfl

/-! ## What a stored byte reads as -/

theorem lookup_putByte_self (a : Nat) (b : Byte) : lookupKey (m.putByte a b).cells a = some b :=
  lookupKey_insertKey_self _ _ _ (lookupKey_eraseKey_self _ _)
theorem lookup_putByte_ne (a c : Nat) (b : Byte) (h : c ≠ a) : lookupKey (m.putByte a b).cells c = lookupKey m.cells c := by
  simp only [putByte]
  rw [lookupKey_insertKey_ne _ _ _ _ h, lookupKey_eraseKey_ne _ _ _ h]
theorem lookup_putBytes_below (bs : List Byte) (a c : Nat) (h : c < a) :
    lookupKey (m.putBytes a bs).cells c = lookupKey m.cells c := by
  induction bs generalizing m a with
  | nil => rfl
  | cons b t ih => simp only [putBytes]; rw [ih _ _ (by omega), lookup_putByte_ne _ _ _ _ (by omega)]
/-- A byte outside the stored run keeps its entry. -/
theorem lookup_putBytes_outside (bs : List Byte) (a c : Nat) (h : c < a ∨ a + bs.length ≤ c) :
    lookupKey (m.putBytes a bs).cells c = lookupKey m.cells c := by
  induction bs generalizing m a with
  | nil => rfl
  | cons b t ih =>
    simp only [List.length_cons] at h
    simp only [putBytes]
    rw [ih _ _ (by omega), lookup_putByte_ne _ _ _ _ (by omega)]
/-- A byte of the stored run holds what was stored. -/
theorem lookup_putBytes_inside (bs : List Byte) (a i : Nat) (h : i < bs.length) :
    lookupKey (m.putBytes a bs).cells (a + i) = some bs[i] := by
  induction bs generalizing m a i with
  | nil => simp at h
  | cons b t ih =>
    simp only [putBytes]
    cases i with
    | zero => rw [lookup_putBytes_below _ _ _ _ (by omega)]; simpa using lookup_putByte_self m a b
    | succ i =>
      have := ih (m.putByte a b) (a + 1) i (by simpa using h)
      rw [show a + (i + 1) = a + 1 + i by omega, this]
      rfl

@[simp] theorem putByte_valid (a : Nat) (b : Byte) : (m.putByte a b).valid = m.valid := rfl
@[simp] theorem putBytes_valid (bs : List Byte) (a : Nat) : (m.putBytes a bs).valid = m.valid := by
  induction bs generalizing m a with
  | nil => rfl
  | cons b t ih => simp only [putBytes, ih, putByte_valid]
@[simp] theorem putByte_ue (a : Nat) (b : Byte) : (m.putByte a b).ue = m.ue := rfl
@[simp] theorem putBytes_ue (bs : List Byte) (a : Nat) : (m.putBytes a bs).ue = m.ue := by
  induction bs generalizing m a with
  | nil => rfl
  | cons b t ih => simp only [putBytes, ih, putByte_ue]
@[simp] theorem poison_valid (lo hi : Nat) : (m.poison lo hi).valid = m.valid := rfl

end Sys2Proof.Machine.MemSt
end

