-- ==== Sys2Proof/Laws/PerInstr.lean ====
section
/-! SUPPORT. One lemma per command: only a command whose operands a rule shapes can be ill formed. -/
namespace Sys2Proof.Laws.Shape

/-- A command that is not well formed is one of those whose operands a rule shapes. -/
def Statement (i : Instr) : Prop := i.wf = false → i.shaped = true

theorem registerWrite (src : Src) (fn : BitVec 8) (a : BitVec 26) (v : Word) : Statement (.registerWrite src fn a v) := fun e => Bool.noConfusion e
theorem malformedAccess (src : Src) (fn : BitVec 8) (a : BitVec 26) (write : Bool) : Statement (.malformedAccess src fn a write) := fun e => Bool.noConfusion e
theorem crossDomainWriteEffect (g : Group) : Statement (.crossDomainWriteEffect g) := fun e => Bool.noConfusion e
theorem pcsAlign (P : Fin 1152) (rtt : Nat) : Statement (.pcsAlign P rtt) := fun e => Bool.noConfusion e
theorem partner (P : Fin 1152) (w : Word) (k : LinkCheck) (bs : List Byte) : Statement (.partner P w k bs) := fun _ => rfl
theorem linkFrameReceive (P : Fin 1152) (w : Word) (k : LinkCheck) (f : Frame) (bw : Bool) (late : Bool) (started : Bool) : Statement (.linkFrameReceive P w k f bw late started) := fun _ => rfl
theorem ack (P : Fin 1152) (w : Word) (k : LinkCheck) : Statement (.ack P w k) := fun e => Bool.noConfusion e
theorem nak (P : Fin 1152) (w : Word) (k : LinkCheck) : Statement (.nak P w k) := fun e => Bool.noConfusion e
theorem reservedLtype (P : Fin 1152) (w : Word) : Statement (.reservedLtype P w) := fun _ => rfl
theorem ackDelayExpire (P : Fin 1152) : Statement (.ackDelayExpire P) := fun e => Bool.noConfusion e
theorem ackTimeoutExpire (P : Fin 1152) (part : Option (Frame × Bool)) : Statement (.ackTimeoutExpire P part) := fun e => Bool.noConfusion e
theorem pcsAlignLoss (P : Fin 1152) (part : Option (Frame × Bool)) : Statement (.pcsAlignLoss P part) := fun e => Bool.noConfusion e
theorem xoffChangeAck (P : Fin 1152) : Statement (.xoffChangeAck P) := fun e => Bool.noConfusion e
theorem xoffRepeat (P : Fin 1152) : Statement (.xoffRepeat P) := fun e => Bool.noConfusion e
theorem trainingTimeout (P : Fin 1152) : Statement (.trainingTimeout P) := fun e => Bool.noConfusion e
theorem departedTimeout (P : Fin 1152) : Statement (.departedTimeout P) := fun e => Bool.noConfusion e
theorem portEnable (src : Src) (P : Fin 1152) (on : Bool) : Statement (.portEnable src P on) := fun e => Bool.noConfusion e
theorem drain (src : Src) (P : Fin 1152) (on : Bool) : Statement (.drain src P on) := fun e => Bool.noConfusion e
theorem retrain (src : Src) (P : Fin 1152) (spare : Option (Fin 100)) : Statement (.retrain src P spare) := fun e => Bool.noConfusion e
theorem portAdmit (src : Src) (P : Fin 1152) : Statement (.portAdmit src P) := fun e => Bool.noConfusion e
theorem evict (src : Src) (P : Fin 1152) : Statement (.evict src P) := fun e => Bool.noConfusion e
theorem bond (src : Src) (P : Fin 1152) (on : Bool) : Statement (.bond src P on) := fun e => Bool.noConfusion e
theorem portMode (src : Src) (P : Fin 1152) (mode : Fin 4) : Statement (.portMode src P mode) := fun e => Bool.noConfusion e
theorem portIdWrite (src : Src) (P : Fin 1152) (v : Word) : Statement (.portIdWrite src P v) := fun e => Bool.noConfusion e
theorem macsecKeyLoad (src : Src) (P : Fin 1152) (v : Word) : Statement (.macsecKeyLoad src P v) := fun e => Bool.noConfusion e
theorem udpDatagramReceive (P : Fin 1152) (d : Datagram) : Statement (.udpDatagramReceive P d) := fun e => Bool.noConfusion e
theorem arpRequest (P : Fin 1152) (ip : BitVec 32) : Statement (.arpRequest P ip) := fun e => Bool.noConfusion e
theorem heldFrameAdmit (P : Option (Fin 1152)) (c : Fin 8) (bw : Bool) : Statement (.heldFrameAdmit P c bw) := fun e => Bool.noConfusion e
theorem steerLand (c : Fin 64) : Statement (.steerLand c) := fun e => Bool.noConfusion e
theorem directionMapRewrite (t : Fin 384) : Statement (.directionMapRewrite t) := fun e => Bool.noConfusion e
theorem fwdTblWrite (src : Src) (n : Fin 16) (v : Word) : Statement (.fwdTblWrite src n v) := fun e => Bool.noConfusion e
theorem fwdTblRead (src : Src) (n : Fin 16) : Statement (.fwdTblRead src n) := fun e => Bool.noConfusion e
theorem queueLimitWrite (src : Src) (n : Fin 16) (q : Fin 72) (c : Fin 8) (v : Word) : Statement (.queueLimitWrite src n q c v) := fun e => Bool.noConfusion e
theorem holdCfgWrite (src : Src) (n : Fin 16) (q : Fin 72) (v : Word) : Statement (.holdCfgWrite src n q v) := fun e => Bool.noConfusion e
theorem frameStart (P : Fin 1152) : Statement (.frameStart P) := fun e => Bool.noConfusion e
theorem gateEntryOpen : Statement (.gateEntryOpen) := fun e => Bool.noConfusion e
theorem gateBankSwitch : Statement (.gateBankSwitch) := fun e => Bool.noConfusion e
theorem arm (src : Src) : Statement (.arm src) := fun e => Bool.noConfusion e
theorem disarm (src : Src) : Statement (.disarm src) := fun e => Bool.noConfusion e
theorem gateTblWrite (src : Src) (v : Word) : Statement (.gateTblWrite src v) := fun e => Bool.noConfusion e
theorem timeSyncSend : Statement (.timeSyncSend) := fun e => Bool.noConfusion e
theorem timeFrame (t : Fin 384) (est : BitVec 32) (t1 : Word) (t2 : Word) (t3 : Word) (t4 : Word) : Statement (.timeFrame t est t1 t2 t3 t4) := fun e => Bool.noConfusion e
theorem ptpMessage (o : Int) : Statement (.ptpMessage o) := fun e => Bool.noConfusion e
theorem ppsInEdge : Statement (.ppsInEdge) := fun e => Bool.noConfusion e
theorem hwmClear (src : Src) (n : Fin 16) (q : Fin 128) (mask : BitVec 8) : Statement (.hwmClear src n q mask) := fun e => Bool.noConfusion e
theorem memRequestAccept (n : Fin 16) (f : Frame) : Statement (.memRequestAccept n f) := fun e => Bool.noConfusion e
theorem load (n : Fin 16) (f : Frame) : Statement (.load n f) := fun _ => rfl
theorem store (n : Fin 16) (f : Frame) : Statement (.store n f) := fun _ => rfl
theorem storeQuiet (n : Fin 16) (f : Frame) : Statement (.storeQuiet n f) := fun _ => rfl
theorem atomic (n : Fin 16) (f : Frame) : Statement (.atomic n f) := fun _ => rfl
theorem combineWindowEnd (g : Nat) : Statement (.combineWindowEnd g) := fun e => Bool.noConfusion e
theorem groupResponse (g : Nat) : Statement (.groupResponse g) := fun e => Bool.noConfusion e
theorem loadRsp (n : Fin 16) (f : Frame) : Statement (.loadRsp n f) := fun _ => rfl
theorem storeAck (n : Fin 16) (f : Frame) : Statement (.storeAck n f) := fun _ => rfl
theorem atomicRsp (n : Fin 16) (f : Frame) : Statement (.atomicRsp n f) := fun _ => rfl
theorem anchorRelease (source : Fin 1680) : Statement (.anchorRelease source) := fun e => Bool.noConfusion e
theorem memTimeout (source : Fin 1680) (tag : BitVec 16) : Statement (.memTimeout source tag) := fun e => Bool.noConfusion e
theorem carabinerInsert (src : Src) (n : Fin 16) (all : Bool) : Statement (.carabinerInsert src n all) := fun e => Bool.noConfusion e
theorem carabinerRemove (src : Src) (n : Fin 16) (all : Bool) : Statement (.carabinerRemove src n all) := fun e => Bool.noConfusion e
theorem carabinerRead (src : Src) (n : Fin 16) (slot : BitVec 16) : Statement (.carabinerRead src n slot) := fun e => Bool.noConfusion e
theorem bind (src : Src) (h : Fin 4096) : Statement (.bind src h) := fun e => Bool.noConfusion e
theorem start (src : Src) (h : Fin 4096) : Statement (.start src h) := fun e => Bool.noConfusion e
theorem stop (src : Src) (h : Fin 4096) : Statement (.stop src h) := fun e => Bool.noConfusion e
theorem recover (src : Src) (h : Fin 4096) : Statement (.recover src h) := fun e => Bool.noConfusion e
theorem unbind (src : Src) (h : Fin 4096) : Statement (.unbind src h) := fun e => Bool.noConfusion e
theorem quarantine (src : Src) (h : Fin 4096) : Statement (.quarantine src h) := fun e => Bool.noConfusion e
theorem harnessFault : Statement (.harnessFault) := fun e => Bool.noConfusion e
theorem stableExpire (h : Fin 4096) : Statement (.stableExpire h) := fun e => Bool.noConfusion e
theorem harnessStatePropagate (h : Fin 4096) : Statement (.harnessStatePropagate h) := fun e => Bool.noConfusion e
theorem unbindComplete : Statement (.unbindComplete) := fun e => Bool.noConfusion e
theorem quotaLimitWrite (src : Src) (k : Fin 5) (h : Fin 4096) (v : BitVec 32) : Statement (.quotaLimitWrite src k h v) := fun e => Bool.noConfusion e
theorem coreBind (src : Src) (k : Fin 512) (h : Fin 4096) : Statement (.coreBind src k h) := fun e => Bool.noConfusion e
theorem coreBindComplete (n : Fin 16) : Statement (.coreBindComplete n) := fun e => Bool.noConfusion e
theorem coreUnbind (src : Src) (k : Fin 512) : Statement (.coreUnbind src k) := fun e => Bool.noConfusion e
theorem go (src : Src) (k : Fin 512) : Statement (.go src k) := fun e => Bool.noConfusion e
theorem coreHalt (src : Src) (k : Fin 512) : Statement (.coreHalt src k) := fun e => Bool.noConfusion e
theorem pflagBind (src : Src) (b : Fin 64) (h : Fin 4096) : Statement (.pflagBind src b h) := fun e => Bool.noConfusion e
theorem cchWrite (src : Src) (n : Fin 16) (v : Word) : Statement (.cchWrite src n v) := fun e => Bool.noConfusion e
theorem jumarCfgWrite (src : Src) (n : Fin 16) (i : Fin 32) (v : Word) : Statement (.jumarCfgWrite src n i v) := fun e => Bool.noConfusion e
theorem jumarReset (src : Src) (n : Fin 16) (i : Fin 32) : Statement (.jumarReset src n i) := fun e => Bool.noConfusion e
theorem bivouacEnter (k : Fin 512) : Statement (.bivouacEnter k) := fun e => Bool.noConfusion e
theorem bivouacExit (k : Fin 512) : Statement (.bivouacExit k) := fun e => Bool.noConfusion e
theorem waitLimitExpire (k : Fin 512) : Statement (.waitLimitExpire k) := fun e => Bool.noConfusion e
theorem coreLoad (src : Src) (n : Fin 16) (mask : BitVec 32) (img : Image) : Statement (.coreLoad src n mask img) := fun e => Bool.noConfusion e
theorem loadLaunch (src : Src) (n : Fin 16) (mask : BitVec 32) (img : Image) : Statement (.loadLaunch src n mask img) := fun e => Bool.noConfusion e
theorem loadComplete (n : Fin 16) : Statement (.loadComplete n) := fun e => Bool.noConfusion e
theorem mov (k : Fin 512) (d : Fin 32) (a : Opd64) : Statement (.mov k d a) := fun e => Bool.noConfusion e
theorem add (k : Fin 512) (d : Fin 32) (a : Fin 32) (b : Opd) : Statement (.add k d a b) := fun e => Bool.noConfusion e
theorem sub (k : Fin 512) (d : Fin 32) (a : Fin 32) (b : Opd) : Statement (.sub k d a b) := fun e => Bool.noConfusion e
theorem mul (k : Fin 512) (d : Fin 32) (a : Fin 32) (b : Opd) : Statement (.mul k d a b) := fun e => Bool.noConfusion e
theorem and (k : Fin 512) (d : Fin 32) (a : Fin 32) (b : Opd) : Statement (.and k d a b) := fun e => Bool.noConfusion e
theorem or (k : Fin 512) (d : Fin 32) (a : Fin 32) (b : Opd) : Statement (.or k d a b) := fun e => Bool.noConfusion e
theorem xor (k : Fin 512) (d : Fin 32) (a : Fin 32) (b : Opd) : Statement (.xor k d a b) := fun e => Bool.noConfusion e
theorem shl (k : Fin 512) (d : Fin 32) (a : Fin 32) (b : Opd) : Statement (.shl k d a b) := fun e => Bool.noConfusion e
theorem shr (k : Fin 512) (d : Fin 32) (a : Fin 32) (b : Opd) : Statement (.shr k d a b) := fun e => Bool.noConfusion e
theorem sar (k : Fin 512) (d : Fin 32) (a : Fin 32) (b : Opd) : Statement (.sar k d a b) := fun e => Bool.noConfusion e
theorem min (k : Fin 512) (d : Fin 32) (a : Fin 32) (b : Opd) : Statement (.min k d a b) := fun e => Bool.noConfusion e
theorem max (k : Fin 512) (d : Fin 32) (a : Fin 32) (b : Opd) : Statement (.max k d a b) := fun e => Bool.noConfusion e
theorem minu (k : Fin 512) (d : Fin 32) (a : Fin 32) (b : Opd) : Statement (.minu k d a b) := fun e => Bool.noConfusion e
theorem maxu (k : Fin 512) (d : Fin 32) (a : Fin 32) (b : Opd) : Statement (.maxu k d a b) := fun e => Bool.noConfusion e
theorem cmp (k : Fin 512) (c : Cond) (d : Fin 32) (a : Fin 32) (b : Opd) : Statement (.cmp k c d a b) := fun e => Bool.noConfusion e
theorem ld (k : Fin 512) (d : Fin 32) (b : Arg) : Statement (.ld k d b) := fun e => Bool.noConfusion e
theorem st (k : Fin 512) (b : Arg) (a : Fin 32) : Statement (.st k b a) := fun e => Bool.noConfusion e
theorem time (k : Fin 512) (r : Fin 32) (d : Int) : Statement (.time k r d) := fun e => Bool.noConfusion e
theorem jmp (k : Fin 512) (l : Fin 1048576) : Statement (.jmp k l) := fun e => Bool.noConfusion e
theorem br (k : Fin 512) (a : Fin 32) (l : Fin 1048576) : Statement (.br k a l) := fun e => Bool.noConfusion e
theorem brz (k : Fin 512) (a : Fin 32) (l : Fin 1048576) : Statement (.brz k a l) := fun e => Bool.noConfusion e
theorem loop (k : Fin 512) (a : Fin 32) (l : Fin 1048576) : Statement (.loop k a l) := fun e => Bool.noConfusion e
theorem call (k : Fin 512) (l : Fin 1048576) : Statement (.call k l) := fun e => Bool.noConfusion e
theorem ret (k : Fin 512) : Statement (.ret k) := fun e => Bool.noConfusion e
theorem idle (k : Fin 512) : Statement (.idle k) := fun e => Bool.noConfusion e
theorem halt (k : Fin 512) (a : Fin 32) (f : Option FlagRef) : Statement (.halt k a f) := fun e => Bool.noConfusion e
theorem nop (k : Fin 512) : Statement (.nop k) := fun e => Bool.noConfusion e
theorem fset (k : Fin 512) (f : FlagRef) : Statement (.fset k f) := fun e => Bool.noConfusion e
theorem fclr (k : Fin 512) (f : FlagRef) : Statement (.fclr k f) := fun e => Bool.noConfusion e
theorem ftest (k : Fin 512) (d : Fin 32) (f : FlagRef) : Statement (.ftest k d f) := fun e => Bool.noConfusion e
theorem fwait (k : Fin 512) (f : FlagRef) (v : Bool) : Statement (.fwait k f v) := fun e => Bool.noConfusion e
theorem fwaitClr (k : Fin 512) (f : FlagRef) : Statement (.fwaitClr k f) := fun e => Bool.noConfusion e
theorem flagWaitSatisfied (k : Fin 512) : Statement (.flagWaitSatisfied k) := fun e => Bool.noConfusion e
theorem ctake (k : Fin 512) (c : Arg) (n : Opd64) : Statement (.ctake k c n) := fun e => Bool.noConfusion e
theorem ctakeNw (k : Fin 512) (c : Arg) (n : Opd64) : Statement (.ctakeNw k c n) := fun e => Bool.noConfusion e
theorem creditTakeServed (k : Fin 512) : Statement (.creditTakeServed k) := fun e => Bool.noConfusion e
theorem cret (k : Fin 512) (c : Arg) (n : Opd64) : Statement (.cret k c n) := fun e => Bool.noConfusion e
theorem cread (k : Fin 512) (d : Fin 32) (c : Arg) : Statement (.cread k d c) := fun e => Bool.noConfusion e
theorem jadd (l : List JAdd) : Statement (.jadd l) := fun e => Bool.noConfusion e
theorem jread (k : Fin 512) (d : Fin 32) (j : Arg) : Statement (.jread k d j) := fun e => Bool.noConfusion e
theorem jwait (k : Fin 512) (j : Arg) (a : Fin 32) : Statement (.jwait k j a) := fun e => Bool.noConfusion e
theorem jumarWaitSatisfied (k : Fin 512) : Statement (.jumarWaitSatisfied k) := fun e => Bool.noConfusion e
theorem vreSum (k : Fin 512) (acc : AccOpt) (d : Tensor) (a : Tensor) (o : Opts) : Statement (.vreSum k acc d a o) := fun _ => rfl
theorem vreDot (k : Fin 512) (acc : AccOpt) (d : Tensor) (a : Tensor) (b : Tensor) (o : Opts) : Statement (.vreDot k acc d a b o) := fun _ => rfl
theorem vreAxpy (k : Fin 512) (r : Fin 32) (d : Tensor) (x : Tensor) (y : Tensor) (o : Opts) : Statement (.vreAxpy k r d x y o) := fun _ => rfl
theorem vreMin (k : Fin 512) (d : Tensor) (a : Tensor) (o : Opts) : Statement (.vreMin k d a o) := fun _ => rfl
theorem vreMax (k : Fin 512) (d : Tensor) (a : Tensor) (o : Opts) : Statement (.vreMax k d a o) := fun _ => rfl
theorem vreSumPair (k : Fin 512) (acc : AccOpt) (dh : Tensor) (dl : Tensor) (a : Tensor) (o : Opts) : Statement (.vreSumPair k acc dh dl a o) := fun _ => rfl
theorem vreDotPair (k : Fin 512) (acc : AccOpt) (dh : Tensor) (dl : Tensor) (a : Tensor) (b : Tensor) (o : Opts) : Statement (.vreDotPair k acc dh dl a b o) := fun _ => rfl
theorem gseGather (k : Fin 512) (m : IMode) (oob : Oob) (d : Tensor) (t : Tensor) (i : Tensor) (o : Opts) : Statement (.gseGather k m oob d t i o) := fun _ => rfl
theorem gseScatter (k : Fin 512) (m : IMode) (oob : Oob) (t : Tensor) (x : Tensor) (i : Tensor) (o : Opts) : Statement (.gseScatter k m oob t x i o) := fun _ => rfl
theorem gseScatadd (k : Fin 512) (m : IMode) (oob : Oob) (t : Tensor) (x : Tensor) (i : Tensor) (o : Opts) : Statement (.gseScatadd k m oob t x i o) := fun _ => rfl
theorem sseSort (k : Fin 512) (desc : Bool) (dk : Tensor) (dp : Tensor) (key : Tensor) (o : Opts) : Statement (.sseSort k desc dk dp key o) := fun _ => rfl
theorem sseTopk (k : Fin 512) (desc : Bool) (n : Arg) (dv : Tensor) (dp : Tensor) (key : Tensor) (o : Opts) : Statement (.sseTopk k desc n dv dp key o) := fun _ => rfl
theorem sseSelect (k : Fin 512) (d : Tensor) (m : Tensor) (a : Tensor) (b : Tensor) (o : Opts) : Statement (.sseSelect k d m a b o) := fun _ => rfl
theorem sseCompact (k : Fin 512) (cnt : Option (Fin 32)) (d : Tensor) (a : Tensor) (m : Tensor) (o : Opts) : Statement (.sseCompact k cnt d a m o) := fun _ => rfl
theorem sseFilter (k : Fin 512) (cmp : Cond) (thr : Fin 32) (cnt : Option (Fin 32)) (d : Tensor) (a : Tensor) (o : Opts) : Statement (.sseFilter k cmp thr cnt d a o) := fun _ => rfl
theorem sseDedup (k : Fin 512) (cnt : Option (Fin 32)) (d : Tensor) (dp : Tensor) (a : Tensor) (o : Opts) : Statement (.sseDedup k cnt d dp a o) := fun _ => rfl
theorem sseHist (k : Fin 512) (add : Bool) (oob : Oob) (d : Tensor) (a : Tensor) (o : Opts) : Statement (.sseHist k add oob d a o) := fun _ => rfl
theorem tenMma (k : Fin 512) (add : Bool) (ta : Bool) (tb : Bool) (tmask : Option Arg) (c : Tensor) (a : Tensor) (b : Tensor) (o : Opts) : Statement (.tenMma k add ta tb tmask c a b o) := fun _ => rfl
theorem cdcCvt (k : Fin 512) (d : Tensor) (a : Tensor) (o : Opts) : Statement (.cdcCvt k d a o) := fun _ => rfl
theorem cdcMxq (k : Fin 512) (d : Tensor) (a : Tensor) (o : Opts) : Statement (.cdcMxq k d a o) := fun _ => rfl
theorem cdcUnpack (k : Fin 512) (d : Tensor) (a : Tensor) (o : Opts) : Statement (.cdcUnpack k d a o) := fun _ => rfl
theorem cdcPack (k : Fin 512) (d : Tensor) (a : Tensor) (o : Opts) : Statement (.cdcPack k d a o) := fun _ => rfl
theorem cdcSpx (k : Fin 512) (cnt : Option (Fin 32)) (d : Tensor) (v : Tensor) (m : Tensor) (o : Opts) : Statement (.cdcSpx k cnt d v m o) := fun _ => rfl
theorem cdcSpc (k : Fin 512) (cnt : Option (Fin 32)) (v : Tensor) (m : Tensor) (a : Tensor) (o : Opts) : Statement (.cdcSpc k cnt v m a o) := fun _ => rfl
theorem cdcSplit (k : Fin 512) (dh : Tensor) (dl : Tensor) (a : Tensor) (o : Opts) : Statement (.cdcSplit k dh dl a o) := fun _ => rfl
theorem cdcCrc (k : Fin 512) (sd : Fin 32) (init : Option (Fin 32)) (a : Tensor) (o : Opts) : Statement (.cdcCrc k sd init a o) := fun _ => rfl
theorem cdcRes (k : Fin 512) (sd : Fin 32) (a : Tensor) (o : Opts) : Statement (.cdcRes k sd a o) := fun _ => rfl
theorem cdcCrcChk (k : Fin 512) (init : Option (Fin 32)) (a : Tensor) (se : Fin 32) (o : Opts) : Statement (.cdcCrcChk k init a se o) := fun _ => rfl
theorem cdcResChk (k : Fin 512) (a : Tensor) (se : Fin 32) (o : Opts) : Statement (.cdcResChk k a se o) := fun _ => rfl
theorem fdeMove (k : Fin 512) (p : Option Space) (d : Option Tensor) (a : Option Tensor) (idx : Option FdeIdx) (flow : Arg) (opw : Option (Fin 32)) (chunk : Option (Fin 32)) (o : Opts) : Statement (.fdeMove k p d a idx flow opw chunk o) := fun _ => rfl
theorem fdePut (k : Fin 512) (x : FLoc) (a : Fin 32) (flow : Arg) (anchor : Bool) (o : Opts) : Statement (.fdePut k x a flow anchor o) := fun _ => rfl
theorem fdeAmo (k : Fin 512) (sd : Fin 32) (x : FLoc) (a : Fin 32) (b : Option (Fin 32)) (fn : Fin 8) (w64 : Bool) (signed : Bool) (ordered : Bool) (anchor : Bool) (flow : Arg) (o : Opts) : Statement (.fdeAmo k sd x a b fn w64 signed ordered anchor flow o) := fun _ => rfl
theorem selectionRecord (ctx : BitVec 14) : Statement (.selectionRecord ctx) := fun e => Bool.noConfusion e
theorem engineComplete (k : Fin 512) (eng : Fin 7) (i : Fin 16) (err : EngErr) : Statement (.engineComplete k eng i err) := fun e => Bool.noConfusion e
theorem ropeCreate (src : Src) (n : Fin 16) (ctx : Fin 16384) : Statement (.ropeCreate src n ctx) := fun e => Bool.noConfusion e
theorem ropeReform (src : Src) (n : Fin 16) (ctx : Fin 16384) : Statement (.ropeReform src n ctx) := fun e => Bool.noConfusion e
theorem ropeAbort (src : Src) (n : Fin 16) (ctx : Fin 16384) : Statement (.ropeAbort src n ctx) := fun e => Bool.noConfusion e
theorem ropeDestroy (src : Src) (n : Fin 16) (ctx : Fin 16384) : Statement (.ropeDestroy src n ctx) := fun e => Bool.noConfusion e
theorem contrib (c : Fin 64) (f : Frame) (hw : HwCheck) : Statement (.contrib c f hw) := fun _ => rfl
theorem ropePartial (c : Fin 64) (f : Frame) (hw : HwCheck) : Statement (.ropePartial c f hw) := fun _ => rfl
theorem ropeResult (c : Fin 64) (f : Frame) (hw : HwCheck) : Statement (.ropeResult c f hw) := fun _ => rfl
theorem credit (c : Fin 64) (f : Frame) (hw : HwCheck) : Statement (.credit c f hw) := fun _ => rfl
theorem summary (c : Fin 64) (f : Frame) : Statement (.summary c f) := fun _ => rfl
theorem counts (c : Fin 64) (f : Frame) : Statement (.counts c f) := fun _ => rfl
theorem a2a (c : Fin 64) (f : Frame) : Statement (.a2a c f) := fun _ => rfl
theorem ropeAbortFrame (c : Fin 64) (f : Frame) : Statement (.ropeAbortFrame c f) := fun _ => rfl
theorem ropeWatchdog (ctx : Fin 16384) : Statement (.ropeWatchdog ctx) := fun e => Bool.noConfusion e
theorem gateCreate (src : Src) (n : Fin 16) (ctx : BitVec 14) : Statement (.gateCreate src n ctx) := fun e => Bool.noConfusion e
theorem gateReform (src : Src) (n : Fin 16) (ctx : BitVec 14) : Statement (.gateReform src n ctx) := fun e => Bool.noConfusion e
theorem gateDestroy (src : Src) (n : Fin 16) (ctx : BitVec 14) : Statement (.gateDestroy src n ctx) := fun e => Bool.noConfusion e
theorem token (c : Fin 64) (f : Frame) : Statement (.token c f) := fun _ => rfl
theorem dispatch (c : Fin 64) (f : Frame) : Statement (.dispatch c f) := fun _ => rfl
theorem output (c : Fin 64) (f : Frame) (k : HwCheck) : Statement (.output c f k) := fun _ => rfl
theorem gateTimeout (ctx : BitVec 14) (slot : Fin 256) : Statement (.gateTimeout ctx slot) := fun e => Bool.noConfusion e
theorem fetch (c : Fin 64) (f : Frame) : Statement (.fetch c f) := fun _ => rfl
theorem block (c : Fin 64) (f : Frame) : Statement (.block c f) := fun _ => rfl
theorem storeCreate (src : Src) (n : Fin 16) (ctx : BitVec 14) : Statement (.storeCreate src n ctx) := fun e => Bool.noConfusion e
theorem storeDestroy (src : Src) (n : Fin 16) (ctx : BitVec 14) : Statement (.storeDestroy src n ctx) := fun e => Bool.noConfusion e
theorem heatClear (src : Src) (n : Fin 16) : Statement (.heatClear src n) := fun e => Bool.noConfusion e
theorem heatRead (src : Src) (n : Fin 16) : Statement (.heatRead src n) := fun e => Bool.noConfusion e
theorem witnessCfgWrite (src : Src) (h : Fin 4096) (v : Word) : Statement (.witnessCfgWrite src h v) := fun e => Bool.noConfusion e
theorem sqTail (v : Fin 256) (page : Fin 8192) (t : BitVec 16) (fetched : List (List Byte)) : Statement (.sqTail v page t fetched) := fun e => Bool.noConfusion e
theorem cqHead (v : Fin 256) (page : Fin 8192) (h : BitVec 16) : Statement (.cqHead v page h) := fun e => Bool.noConfusion e
theorem slotArm (v : Fin 256) (page : Fin 8192) (mask : Word) : Statement (.slotArm v page mask) := fun e => Bool.noConfusion e
theorem ringEnable (src : Src) (i : Fin 8192) : Statement (.ringEnable src i) := fun e => Bool.noConfusion e
theorem flush (src : Src) (i : Fin 8192) : Statement (.flush src i) := fun e => Bool.noConfusion e
theorem ringDisable (src : Src) (i : Fin 8192) : Statement (.ringDisable src i) := fun e => Bool.noConfusion e
theorem ringNop (i : Fin 8192) : Statement (.ringNop i) := fun e => Bool.noConfusion e
theorem dmaToDev (i : Fin 8192) : Statement (.dmaToDev i) := fun e => Bool.noConfusion e
theorem dmaFromDev (i : Fin 8192) : Statement (.dmaFromDev i) := fun e => Bool.noConfusion e
theorem ringLoad (i : Fin 8192) (img : Image) : Statement (.ringLoad i img) := fun e => Bool.noConfusion e
theorem ringGo (i : Fin 8192) : Statement (.ringGo i) := fun e => Bool.noConfusion e
theorem ringHalt (i : Fin 8192) : Statement (.ringHalt i) := fun e => Bool.noConfusion e
theorem waitFlag (i : Fin 8192) : Statement (.waitFlag i) := fun e => Bool.noConfusion e
theorem waitFlagTimeout (i : Fin 8192) (j : Fin 64) : Statement (.waitFlagTimeout i j) := fun e => Bool.noConfusion e
theorem remoteReg (i : Fin 8192) (write : Bool) (mixed : Bool) : Statement (.remoteReg i write mixed) := fun e => Bool.noConfusion e
theorem remoteRegTimeout (i : Fin 8192) (j : Fin 64) : Statement (.remoteRegTimeout i j) := fun e => Bool.noConfusion e
theorem regRsp : Statement (.regRsp) := fun e => Bool.noConfusion e
theorem poolAlloc (i : Fin 8192) : Statement (.poolAlloc i) := fun e => Bool.noConfusion e
theorem poolFree (i : Fin 8192) : Statement (.poolFree i) := fun e => Bool.noConfusion e
theorem poolQuery (i : Fin 8192) : Statement (.poolQuery i) := fun e => Bool.noConfusion e
theorem ringCommandComplete (i : Fin 8192) (j : Fin 64) (segs : List HostSeg) : Statement (.ringCommandComplete i j segs) := fun e => Bool.noConfusion e
theorem irqCoalExpire (i : Fin 8192) : Statement (.irqCoalExpire i) := fun e => Bool.noConfusion e
theorem sqDb (fetched : List (List Byte)) : Statement (.sqDb fetched) := fun e => Bool.noConfusion e
theorem cqDb : Statement (.cqDb) := fun e => Bool.noConfusion e
theorem submit : Statement (.submit) := fun e => Bool.noConfusion e
theorem failover : Statement (.failover) := fun e => Bool.noConfusion e
theorem takeover (src : Src) : Statement (.takeover src) := fun e => Bool.noConfusion e
theorem pcieLinkDown (p : Fin 2) : Statement (.pcieLinkDown p) := fun e => Bool.noConfusion e
theorem pfFlr : Statement (.pfFlr) := fun e => Bool.noConfusion e
theorem vfFlr (v : Fin 255) : Statement (.vfFlr v) := fun e => Bool.noConfusion e
theorem vfBind (src : Src) (v : Fin 255) (w : Word) : Statement (.vfBind src v w) := fun e => Bool.noConfusion e
theorem regRead : Statement (.regRead) := fun e => Bool.noConfusion e
theorem regWrite : Statement (.regWrite) := fun e => Bool.noConfusion e
theorem bar4Read (src : Src) (o : BitVec 36) (n : Fin 8192) : Statement (.bar4Read src o n) := fun e => Bool.noConfusion e
theorem bar4Write (src : Src) (o : BitVec 36) (bs : List Byte) : Statement (.bar4Write src o bs) := fun e => Bool.noConfusion e
theorem scrubVisit (store : Fin 3) (unit : Fin 512) (o : BitVec 40) (ce : Bool) (ue : Bool) : Statement (.scrubVisit store unit o ce ue) := fun e => Bool.noConfusion e
theorem pitonInstall (store : Fin 3) (unit : Fin 512) (o : BitVec 40) (readback : Bool) : Statement (.pitonInstall store unit o readback) := fun e => Bool.noConfusion e
theorem harnessCopyReload (n : Fin 16) (h : Fin 4096) : Statement (.harnessCopyReload n h) := fun e => Bool.noConfusion e
theorem poolCreate (src : Src) (q : Fin 64) : Statement (.poolCreate src q) := fun e => Bool.noConfusion e
theorem poolDestroy (src : Src) (q : Fin 64) : Statement (.poolDestroy src q) := fun e => Bool.noConfusion e
theorem poolRebuild (src : Src) (q : Fin 64) : Statement (.poolRebuild src q) := fun e => Bool.noConfusion e
theorem poolReqWrite (src : Src) (q : Fin 64) (e : Option (Fin 16)) (v : Word) : Statement (.poolReqWrite src q e v) := fun e => Bool.noConfusion e
theorem poolWaitTimeout (no : Nat) : Statement (.poolWaitTimeout no) := fun e => Bool.noConfusion e
theorem cramponInterval (dyn : BitVec 32) (cd : BitVec 32) (leak : BitVec 32) (lent : BitVec 12) (dies : List (Fin 16 × DieRead)) (shares : List (EnergyOf × BitVec 32)) : Statement (.cramponInterval dyn cd leak lent dies shares) := fun e => Bool.noConfusion e
theorem ceilingStep : Statement (.ceilingStep) := fun e => Bool.noConfusion e
theorem powerCap : Statement (.powerCap) := fun e => Bool.noConfusion e
theorem calibration (m : Option (BitVec 40)) : Statement (.calibration m) := fun e => Bool.noConfusion e
theorem droopTrip (n : Fin 16) : Statement (.droopTrip n) := fun e => Bool.noConfusion e
theorem droopRelease (n : Fin 16) : Statement (.droopRelease n) := fun e => Bool.noConfusion e
theorem voltageTrim (rs : List DieRead) : Statement (.voltageTrim rs) := fun _ => rfl
theorem marginAlarmTrim (n : Fin 16) (r : DieRead) : Statement (.marginAlarmTrim n r) := fun e => Bool.noConfusion e
theorem portIdleEnter (P : Fin 1152) : Statement (.portIdleEnter P) := fun e => Bool.noConfusion e
theorem portIdleExit (P : Fin 1152) : Statement (.portIdleExit P) := fun e => Bool.noConfusion e
theorem tenLightEnter (c : Fin 64) : Statement (.tenLightEnter c) := fun e => Bool.noConfusion e
theorem deepEnter (c : Fin 64) : Statement (.deepEnter c) := fun e => Bool.noConfusion e
theorem hbmSelfRefresh : Statement (.hbmSelfRefresh) := fun e => Bool.noConfusion e
theorem wakeToleranceWrite (src : Src) (h : Option (Fin 4096)) (v : Word) : Statement (.wakeToleranceWrite src h v) := fun e => Bool.noConfusion e
theorem coreMhzSet (src : Src) (v : BitVec 11) : Statement (.coreMhzSet src v) := fun e => Bool.noConfusion e
theorem capWSet (src : Src) (v : BitVec 12) : Statement (.capWSet src v) := fun e => Bool.noConfusion e
theorem perstNRelease : Statement (.perstNRelease) := fun e => Bool.noConfusion e
theorem bootReset (src : Src) : Statement (.bootReset src) := fun e => Bool.noConfusion e
theorem campComplete (w : CampWork) : Statement (.campComplete w) := fun e => Bool.noConfusion e
theorem campTimeout : Statement (.campTimeout) := fun e => Bool.noConfusion e
theorem laserEnRise (l : LaserUp) : Statement (.laserEnRise l) := fun e => Bool.noConfusion e
theorem laserEnFall : Statement (.laserEnFall) := fun e => Bool.noConfusion e
theorem commit (src : Src) : Statement (.commit src) := fun e => Bool.noConfusion e
theorem lock (src : Src) : Statement (.lock src) := fun e => Bool.noConfusion e
theorem burnSvn (src : Src) : Statement (.burnSvn src) := fun e => Bool.noConfusion e
theorem jtagToken (src : Src) (v : Word) : Statement (.jtagToken src v) := fun e => Bool.noConfusion e
theorem deviceFault (ue : Option (Fin 4 × Fin 16 × Fin 262144)) : Statement (.deviceFault ue) := fun e => Bool.noConfusion e
theorem fence (src : Src) : Statement (.fence src) := fun e => Bool.noConfusion e
theorem clear (src : Src) : Statement (.clear src) := fun e => Bool.noConfusion e
theorem unitOutOfService (u : DevUnit) : Statement (.unitOutOfService u) := fun e => Bool.noConfusion e
theorem neighbourLost (d : Fin 6) : Statement (.neighbourLost d) := fun e => Bool.noConfusion e
theorem mpWatchdog : Statement (.mpWatchdog) := fun e => Bool.noConfusion e
theorem mpStart (same : Bool) : Statement (.mpStart same) := fun e => Bool.noConfusion e
theorem headlessExpire : Statement (.headlessExpire) := fun e => Bool.noConfusion e
theorem resume (src : Src) : Statement (.resume src) := fun e => Bool.noConfusion e
theorem laserOff (src : Src) : Statement (.laserOff src) := fun e => Bool.noConfusion e
theorem laserOn (src : Src) (m : BitVec 32) : Statement (.laserOn src m) := fun e => Bool.noConfusion e
theorem avalancheWindow (slot : Fin 256) : Statement (.avalancheWindow slot) := fun e => Bool.noConfusion e
theorem fmRequest (b : List Byte) (from_ : BitVec 32) : Statement (.fmRequest b from_) := fun e => Bool.noConfusion e
theorem fmAck (b : List Byte) (from_ : BitVec 32) : Statement (.fmAck b from_) := fun e => Bool.noConfusion e
theorem eventResend : Statement (.eventResend) := fun e => Bool.noConfusion e
theorem fillStart (src : Src) (n : Fin 16) : Statement (.fillStart src n) := fun e => Bool.noConfusion e
theorem fillAbort (src : Src) : Statement (.fillAbort src) := fun e => Bool.noConfusion e
theorem fillCopyTimeout (i : Nat) : Statement (.fillCopyTimeout i) := fun e => Bool.noConfusion e
theorem mark (src : Src) (n : Fin 16) (dev : Fin 64) (on : Bool) : Statement (.mark src n dev on) := fun e => Bool.noConfusion e
theorem marginReport (temps : List (BitVec 8)) : Statement (.marginReport temps) := fun _ => rfl
theorem marginNow (src : Src) (temps : List (BitVec 8)) : Statement (.marginNow src temps) := fun _ => rfl
theorem laneMarginRefresh (m : Fin 32) (rs : List LaneRead) : Statement (.laneMarginRefresh m rs) := fun _ => rfl
theorem faultRingWrite (src : Src) (v : Word) : Statement (.faultRingWrite src v) := fun e => Bool.noConfusion e
theorem snapshotGo (src : Src) (e : Fin 4) (base : BitVec 26) (count : BitVec 10) (ack : Bool) : Statement (.snapshotGo src e base count ack) := fun e => Bool.noConfusion e
theorem snapshotComplete (e : Fin 4) : Statement (.snapshotComplete e) := fun e => Bool.noConfusion e
theorem snapshotRelease (src : Src) (e : Fin 4) : Statement (.snapshotRelease src e) := fun e => Bool.noConfusion e
theorem histSample (u : Fin 64) (v : Word) (h : Fin 4096) : Statement (.histSample u v h) := fun e => Bool.noConfusion e
theorem summaryPeriod (l : Fin 16) : Statement (.summaryPeriod l) := fun e => Bool.noConfusion e
theorem whiteoutExit (p : Fin 2) : Statement (.whiteoutExit p) := fun e => Bool.noConfusion e
theorem ownRelease (src : Src) (r : Fin 16) (force : Bool) : Statement (.ownRelease src r force) := fun e => Bool.noConfusion e
theorem syncCfgWrite (src : Src) (n : Fin 6) (v : Word) : Statement (.syncCfgWrite src n v) := fun e => Bool.noConfusion e
theorem syncIoEdge (n : Fin 5) : Statement (.syncIoEdge n) := fun e => Bool.noConfusion e
theorem ppsOutPulse (n : Fin 6) : Statement (.ppsOutPulse n) := fun e => Bool.noConfusion e
theorem cairnCheckpoint (bad : Option CairnBad) : Statement (.cairnCheckpoint bad) := fun e => Bool.noConfusion e
theorem ckpt (src : Src) (bad : Option CairnBad) : Statement (.ckpt src bad) := fun e => Bool.noConfusion e
theorem rd (src : Src) : Statement (.rd src) := fun e => Bool.noConfusion e
theorem format (src : Src) (bad : Option CairnBad) : Statement (.format src bad) := fun e => Bool.noConfusion e
theorem cairnProgram (bad : Option CairnBad) : Statement (.cairnProgram bad) := fun e => Bool.noConfusion e
theorem lifetimeSample (temps : List (BitVec 8)) : Statement (.lifetimeSample temps) := fun _ => rfl
theorem pwrgdFall : Statement (.pwrgdFall) := fun e => Bool.noConfusion e
theorem perstNAssert : Statement (.perstNAssert) := fun e => Bool.noConfusion e
theorem railDrop : Statement (.railDrop) := fun e => Bool.noConfusion e
theorem refclkLoss : Statement (.refclkLoss) := fun e => Bool.noConfusion e
theorem pciePerst (p : Fin 2) : Statement (.pciePerst p) := fun e => Bool.noConfusion e
theorem thermalAlarm (u : DevUnit) (tj : BitVec 8) (cooled : Bool) : Statement (.thermalAlarm u tj cooled) := fun e => Bool.noConfusion e
theorem thermtrip (rail : Bool) : Statement (.thermtrip rail) := fun e => Bool.noConfusion e
theorem sidebandRead (a : BitVec 32) : Statement (.sidebandRead a) := fun e => Bool.noConfusion e
theorem alertResponse (tj : BitVec 8) : Statement (.alertResponse tj) := fun e => Bool.noConfusion e
theorem jtagInstruction (ir : JtagIr) : Statement (.jtagInstruction ir) := fun e => Bool.noConfusion e
theorem pcieLinkUp (p : Fin 2) : Statement (.pcieLinkUp p) := fun e => Bool.noConfusion e
theorem pwrgdRise : Statement (.pwrgdRise) := fun e => Bool.noConfusion e
theorem vddAonRemoval : Statement (.vddAonRemoval) := fun e => Bool.noConfusion e
theorem mpException : Statement (.mpException) := fun e => Bool.noConfusion e
theorem inServiceSelfCheck (k : Fin 512) : Statement (.inServiceSelfCheck k) := fun e => Bool.noConfusion e
theorem repeatRecordExpire (n : Fin 16) (feid : BitVec 18) (tag : BitVec 16) : Statement (.repeatRecordExpire n feid tag) := fun e => Bool.noConfusion e
theorem ropeCommandComplete (n : Fin 16) : Statement (.ropeCommandComplete n) := fun e => Bool.noConfusion e
theorem gateCommandComplete (n : Fin 16) : Statement (.gateCommandComplete n) := fun e => Bool.noConfusion e
theorem poolCommandComplete (q : Fin 64) : Statement (.poolCommandComplete q) := fun e => Bool.noConfusion e
theorem storeCommandComplete (n : Fin 16) : Statement (.storeCommandComplete n) := fun e => Bool.noConfusion e
theorem carabinerCommandComplete (n : Fin 16) : Statement (.carabinerCommandComplete n) := fun e => Bool.noConfusion e
theorem markComplete : Statement (.markComplete) := fun e => Bool.noConfusion e

end Sys2Proof.Laws.Shape
end

