-- ==== Sys2Proof/Laws/Word.lean ====
section
/-! SUPPORT. A bit field read after a write: of the same field, of a field below or above it. -/
namespace Sys2Proof

theorem Word.withField_toNat (w : Word) (lo n v : Nat) (h : lo + n ≤ 64) :
    (w.withField lo n v).toNat = w.toNat / 2 ^ (lo + n) * 2 ^ (lo + n) + v % 2 ^ n * 2 ^ lo + w.toNat % 2 ^ lo := by
  have hlo : 0 < 2 ^ lo := Nat.two_pow_pos lo
  have hn : 0 < 2 ^ n := Nat.two_pow_pos n
  have h1 : w.toNat % 2 ^ lo < 2 ^ lo := Nat.mod_lt _ hlo
  have h2 : v % 2 ^ n < 2 ^ n := Nat.mod_lt _ hn
  have h3 : v % 2 ^ n * 2 ^ lo + w.toNat % 2 ^ lo < 2 ^ (lo + n) := by
    calc v % 2 ^ n * 2 ^ lo + w.toNat % 2 ^ lo < v % 2 ^ n * 2 ^ lo + 2 ^ lo := by omega
      _ = (v % 2 ^ n + 1) * 2 ^ lo := by ring
      _ ≤ 2 ^ n * 2 ^ lo := Nat.mul_le_mul_right _ (by omega)
      _ = 2 ^ (lo + n) := by rw [← Nat.pow_add, Nat.add_comm]
  have h4 : w.toNat / 2 ^ (lo + n) < 2 ^ (64 - (lo + n)) := by
    rw [Nat.div_lt_iff_lt_mul (Nat.two_pow_pos _), ← Nat.pow_add]
    have : 64 - (lo + n) + (lo + n) = 64 := by omega
    rw [this]; exact w.isLt
  have h5 : (w.toNat / 2 ^ (lo + n) + 1) * 2 ^ (lo + n) ≤ 2 ^ 64 := by
    calc (w.toNat / 2 ^ (lo + n) + 1) * 2 ^ (lo + n) ≤ 2 ^ (64 - (lo + n)) * 2 ^ (lo + n) := Nat.mul_le_mul_right _ (by omega)
      _ = 2 ^ 64 := by rw [← Nat.pow_add]; congr 1; omega
  simp only [Word.withField, BitVec.toNat_ofNat]
  apply Nat.mod_eq_of_lt
  have : (w.toNat / 2 ^ (lo + n) + 1) * 2 ^ (lo + n) = w.toNat / 2 ^ (lo + n) * 2 ^ (lo + n) + 2 ^ (lo + n) := by ring
  omega

/-- The field written reads as the value, modulo its width. -/
theorem Word.field_withField_self (w : Word) (lo n v : Nat) (h : lo + n ≤ 64) : (w.withField lo n v).field lo n = v % 2 ^ n := by
  have hlo : 0 < 2 ^ lo := Nat.two_pow_pos lo
  rw [Word.field, Word.withField_toNat w lo n v h]
  have e : w.toNat / 2 ^ (lo + n) * 2 ^ (lo + n) + v % 2 ^ n * 2 ^ lo + w.toNat % 2 ^ lo =
      (w.toNat / 2 ^ (lo + n) * 2 ^ n + v % 2 ^ n) * 2 ^ lo + w.toNat % 2 ^ lo := by rw [Nat.pow_add]; ring
  rw [e, Nat.mul_comm _ (2 ^ lo), Nat.mul_add_div hlo, Nat.div_eq_of_lt (Nat.mod_lt _ hlo), Nat.add_zero,
    Nat.mul_add_mod_self_right, Nat.mod_mod]

/-- A field below the one written reads as before. -/
theorem Word.field_withField_below (w : Word) (lo n v l m : Nat) (h : lo + n ≤ 64) (hb : l + m ≤ lo) :
    (w.withField lo n v).field l m = w.field l m := by
  rw [Word.field, Word.withField_toNat w lo n v h, Word.field]
  obtain ⟨d, rfl⟩ := Nat.exists_eq_add_of_le hb
  have key : ∀ x : Nat, x / 2 ^ l % 2 ^ m = x % 2 ^ (l + m) / 2 ^ l := by
    intro x; rw [Nat.pow_add, Nat.mod_mul_right_div_self]
  have p : ∀ x : Nat, x % 2 ^ (l + m + d) % 2 ^ (l + m) = x % 2 ^ (l + m) := fun x =>
    Nat.mod_mod_of_dvd x (Nat.pow_dvd_pow 2 (by omega))
  rw [key, key]
  congr 1
  have e : w.toNat / 2 ^ (l + m + d + n) * 2 ^ (l + m + d + n) + v % 2 ^ n * 2 ^ (l + m + d) + w.toNat % 2 ^ (l + m + d) =
      w.toNat % 2 ^ (l + m + d) + 2 ^ (l + m) * (2 ^ (d + n) * (w.toNat / 2 ^ (l + m + d + n)) + v % 2 ^ n * 2 ^ d) := by
    simp only [Nat.pow_add]; ring
  rw [e, Nat.add_mul_mod_self_left, p]

/-- A field above the one written reads as before. -/
theorem Word.field_withField_above (w : Word) (lo n v l m : Nat) (h : lo + n ≤ 64) (ha : lo + n ≤ l) :
    (w.withField lo n v).field l m = w.field l m := by
  obtain ⟨d, rfl⟩ := Nat.exists_eq_add_of_le ha
  have hlo : 0 < 2 ^ lo := Nat.two_pow_pos lo
  have h1 : w.toNat % 2 ^ lo < 2 ^ lo := Nat.mod_lt _ hlo
  have h2 : v % 2 ^ n < 2 ^ n := Nat.mod_lt _ (Nat.two_pow_pos n)
  have h3 : v % 2 ^ n * 2 ^ lo + w.toNat % 2 ^ lo < 2 ^ (lo + n) := by
    calc v % 2 ^ n * 2 ^ lo + w.toNat % 2 ^ lo < v % 2 ^ n * 2 ^ lo + 2 ^ lo := by omega
      _ = (v % 2 ^ n + 1) * 2 ^ lo := by ring
      _ ≤ 2 ^ n * 2 ^ lo := Nat.mul_le_mul_right _ (by omega)
      _ = 2 ^ (lo + n) := by rw [← Nat.pow_add, Nat.add_comm]
  have h4 : (w.withField lo n v).toNat / 2 ^ (lo + n) = w.toNat / 2 ^ (lo + n) := by
    rw [Word.withField_toNat w lo n v h, Nat.add_assoc, Nat.mul_comm, Nat.mul_add_div (Nat.two_pow_pos _),
      Nat.div_eq_of_lt h3, Nat.add_zero]
  simp only [Word.field]
  rw [Nat.pow_add 2 (lo + n) d, ← Nat.div_div_eq_div_mul, ← Nat.div_div_eq_div_mul, h4]

namespace Machine.State
variable (s : State)

/-- A register field written reads as the value, modulo its width. -/
theorem rf_wf_self (x : Rf) (n : Nat) (h : x.lo + x.w ≤ 64) : (s.wf x n).rf x = n % 2 ^ x.w := by
  simp only [rf, reg_wf_self]; exact Word.field_withField_self _ _ _ _ h
/-- A field of another register reads as before. -/
theorem rf_wf_reg (x y : Rf) (n : Nat) (h : y.a ≠ x.a) : (s.wf x n).rf y = s.rf y := by
  simp only [rf]; rw [reg_wf_ne s x n y.a h]
/-- A disjoint field of the same register reads as before. -/
theorem rf_wf_disj (x y : Rf) (n : Nat) (h : x.lo + x.w ≤ 64) (ha : y.a = x.a) (hd : y.lo + y.w ≤ x.lo ∨ x.lo + x.w ≤ y.lo) :
    (s.wf x n).rf y = s.rf y := by
  simp only [rf, ha, reg_wf_self]
  rcases hd with hd | hd
  · exact Word.field_withField_below _ _ _ _ _ _ h hd
  · exact Word.field_withField_above _ _ _ _ _ _ h hd
@[simp] theorem rf_emit (o : Out) (x : Rf) : (s.emit o).rf x = s.rf x := rfl
@[simp] theorem rf_setPort (P : Nat) (p : PortSt) (x : Rf) : (s.setPort P p).rf x = s.rf x := rfl

end Machine.State
end Sys2Proof
end

