-- ==== Sys2Proof/Laws/Record.lean ====
section
/-! SUPPORT. What a record on its way to its readers touches (R510 to R514, R549 to R555, R561): the frame of every operation of
Machine/Record.lean, and how frames compose. -/
namespace Sys2Proof.Machine.State
variable {s t u : State}

/-! ## Frames compose -/

theorem agree_refl (s : State) (p : Part) : agree s s p := by cases p <;> rfl
theorem agree_trans {p : Part} (h : agree s t p) (k : agree t u p) : agree s u p := by
  cases p <;> exact Eq.trans k h
theorem frame_refl (s : State) (ch : List Part) (rg : Nat → Prop) : frame s s ch rg :=
  ⟨fun p _ => agree_refl s p, fun _ _ => rfl, rfl⟩
theorem frame_trans {ch : List Part} {rg : Nat → Prop} (h : frame s t ch rg) (k : frame t u ch rg) : frame s u ch rg :=
  ⟨fun p hp => agree_trans (h.1 p hp) (k.1 p hp), fun a ha => (k.2.1 a ha).trans (h.2.1 a ha), k.2.2.trans h.2.2⟩
theorem frame_mono {ch ch' : List Part} {rg rg' : Nat → Prop} (h : frame s t ch rg) (hc : ∀ p ∈ ch, p ∈ ch') (hr : ∀ a, rg a → rg' a) :
    frame s t ch' rg' :=
  ⟨fun p hp => h.1 p (fun m => hp (hc p m)), fun a ha => h.2.1 a (fun m => ha (hr a m)), h.2.2⟩

/-! ## The updates of one component, one register, one counter -/

theorem frame_setReg (a : Nat) (v : Word) {ch : List Part} {rg : Nat → Prop} (h : rg a) : frame s (s.setReg a v) ch rg :=
  ⟨fun p _ => by cases p <;> rfl, fun b hb => reg_setReg_ne s a b v (fun e => hb (e ▸ h)), rfl⟩
theorem frame_wf (x : Rf) (n : Nat) {ch : List Part} {rg : Nat → Prop} (h : rg x.a) : frame s (s.wf x n) ch rg :=
  frame_setReg x.a _ h
theorem frame_satInc (x : Rf) (n : Nat) {ch : List Part} {rg : Nat → Prop} (h : rg x.a) : frame s (s.satInc x n) ch rg :=
  frame_wf x _ h
theorem frame_count (x : Rf) (n : Nat) {ch : List Part} {rg : Nat → Prop} (h : rg x.a) (hs : Part.sticky ∈ ch) :
    frame s (s.count x n) ch rg := by
  simp only [count]
  split
  · exact ⟨fun p hp => by cases p <;> first | rfl | exact absurd hs hp,
      fun b hb => reg_setReg_ne s x.a b _ (fun e => hb (e ▸ h)), rfl⟩
  · exact frame_setReg x.a _ h
theorem frame_inc (x : Rf) {ch : List Part} {rg : Nat → Prop} (h : rg x.a) (hs : Part.sticky ∈ ch) : frame s (s.inc x) ch rg :=
  frame_count x 1 h hs
theorem frame_emit (o : Out) {ch : List Part} {rg : Nat → Prop} (h : Part.out ∈ ch) : frame s (s.emit o) ch rg :=
  ⟨fun p hp => by cases p <;> first | rfl | exact absurd h hp, fun _ _ => rfl, rfl⟩
theorem frame_withFault (v : FaultSt) {ch : List Part} {rg : Nat → Prop} (h : Part.fault ∈ ch) : frame s (s.withFault v) ch rg :=
  ⟨fun p hp => by cases p <;> first | rfl | exact absurd h hp, fun _ _ => rfl, rfl⟩
theorem frame_withCairn (v : CairnSt) {ch : List Part} {rg : Nat → Prop} (h : Part.cairn ∈ ch) : frame s (s.withCairn v) ch rg :=
  ⟨fun p hp => by cases p <;> first | rfl | exact absurd h hp, fun _ _ => rfl, rfl⟩
theorem frame_withMem (v : MemSt) {ch : List Part} {rg : Nat → Prop} (h : Part.mem ∈ ch) : frame s (s.withMem v) ch rg :=
  ⟨fun p hp => by cases p <;> first | rfl | exact absurd h hp, fun _ _ => rfl, rfl⟩
theorem frame_setPort (P : Nat) (p : PortSt) {ch : List Part} {rg : Nat → Prop} (h : Part.ports ∈ ch) : frame s (s.setPort P p) ch rg :=
  ⟨fun q hq => by cases q <;> first | rfl | exact absurd h hq, fun _ _ => rfl, rfl⟩
theorem frame_withBoot (v : BootSt) {ch : List Part} {rg : Nat → Prop} (h : Part.boot ∈ ch) : frame s (s.withBoot v) ch rg :=
  ⟨fun q hq => by cases q <;> first | rfl | exact absurd h hq, fun _ _ => rfl, rfl⟩

/-! ## Records -/

/-- `t` differs from `s` only where a record may. -/
abbrev recorded (s t : State) : Prop := frame s t recordParts recordReg

theorem recorded_setWoItems (p : Nat) (l : List Item) : recorded s (s.setWoItems p l) := by
  simp only [setWoItems]; split <;> exact frame_withFault _ (by decide)
theorem recorded_setWo (p : Nat) (w : Whiteout) : recorded s (s.setWo p w) := by
  simp only [setWo]; split <;> exact frame_withFault _ (by decide)
theorem recorded_lifeInc (i : Nat) (h : i < 100) : recorded s (s.lifeInc i) :=
  frame_inc _ (Or.inr (by simp only [CRN_LIFE.V, CRN_LIFE.a]; omega)) (by decide)

theorem recorded_woSettle (p : Nat) (h : p < 2) : recorded s (s.woSettle p) := by
  have r1 : recordReg (TEL_WO_STS.OCC p).a := Or.inr (by simp only [TEL_WO_STS.OCC, TEL_WO_STS.a]; omega)
  have r2 : recordReg (TEL_WO_STS.ACTIVE p).a := r1
  have r3 : recordReg (TEL_WO_STS.EPISODES p).a := r1
  have r4 : recordReg HUB_FAULT_STS.QUEUE.a := Or.inl (by decide)
  have b : recorded s ((s.wf (TEL_WO_STS.OCC p) (occupancy (s.woItems p))).wf HUB_FAULT_STS.QUEUE s.fault.hold.length) :=
    frame_trans (frame_wf _ _ r1) (frame_wf _ _ r4)
  simp only [woSettle]
  split
  · exact frame_trans b (frame_trans (frame_wf _ _ r2) (frame_trans (frame_satInc _ _ r3)
      (frame_trans (recorded_setWo _ _) (recorded_lifeInc 15 (by decide)))))
  · exact b

theorem recorded_woDrop (p k : Nat) (hp : p < 2) (hk : k ≤ 5) : recorded s (s.woDrop p k) :=
  frame_trans (frame_inc _ (Or.inr (by simp only [TEL_WO_DROP.V, TEL_WO_DROP.a]; omega)) (by decide)) (recorded_setWo _ _)

theorem foldl_min_le (l : List Nat) (m : Nat) : l.foldl min m ≤ m := by
  induction l generalizing m with
  | nil => exact le_refl _
  | cons a t ih => exact le_trans (ih _) (Nat.min_le_left _ _)

theorem evictOne_le {l : List Item} {k : Nat} {r : List Item} (h : evictOne l = some (k, r)) : k ≤ 5 := by
  simp only [evictOne] at h
  split at h
  · cases h
  · cases h; exact foldl_min_le _ _

theorem recorded_evictFor (p n : Nat) (hp : p < 2) (fuel : Nat) (s : State) : recorded s (evictFor p n fuel s) := by
  induction fuel generalizing s with
  | zero => exact frame_refl _ _ _
  | succ k ih =>
    simp only [evictFor]
    split
    · exact frame_refl _ _ _
    · split
      · exact frame_refl _ _ _
      · rename_i e
        exact frame_trans (recorded_setWoItems _ _) (frame_trans (recorded_woDrop _ _ hp (evictOne_le e)) (ih _))

theorem recorded_offer (p : Nat) (it : Item) (hp : p < 2) (hk : it.prio ≤ 5) : recorded s (s.offer p it) := by
  unfold offer
  extract_lets n s1 o lim
  have h1 : recorded s s1 := by
    show recorded s (if it.prio = 5 then evictFor p n ((s.woItems p).length + 1) s else s)
    split
    · exact recorded_evictFor p _ hp _ s
    · exact frame_refl _ _ _
  clear_value s1 lim o
  refine frame_trans h1 ?_
  split
  · exact frame_trans (recorded_setWoItems _ _) (recorded_woSettle p hp)
  · exact frame_trans (recorded_woDrop _ _ hp hk) (recorded_woSettle p hp)

theorem recorded_sendEvents (fuel : Nat) (s : State) : recorded s (sendEvents fuel s) := by
  induction fuel generalizing s with
  | zero => exact frame_refl _ _ _
  | succ k ih =>
    simp only [sendEvents]
    split
    · exact frame_refl _ _ _
    · exact frame_trans (frame_withFault _ (by decide)) (frame_trans (frame_emit _ (by decide)) (ih _))

theorem recorded_cairnRec (kind time : Nat) (body : List Byte) : recorded s (s.cairnRec kind time body) := by
  simp only [cairnRec]
  split
  · exact frame_trans (frame_inc _ (Or.inr (by decide)) (by decide)) (recorded_lifeInc 17 (by decide))
  · exact frame_trans (frame_withCairn _ (by decide)) (frame_wf _ _ (Or.inr (by decide)))

theorem recorded_cairnFault (sev last : Nat) (bs : List Byte) : recorded s (s.cairnFault sev last bs) := by
  unfold cairnFault
  extract_lets sec n
  split
  · exact frame_refl _ _ _
  · split
    · exact frame_trans (frame_withCairn _ (by decide)) (frame_inc _ (Or.inr (by decide)) (by decide))
    · exact frame_trans (frame_withCairn _ (by decide)) (recorded_cairnRec _ _ _)

theorem recorded_ringRecord (bs : List Byte) : recorded s (s.ringRecord bs) := by
  simp only [ringRecord]
  split
  · exact frame_refl _ _ _
  · split
    · split
      · exact frame_trans (frame_withMem _ (by decide)) (frame_wf _ _ (Or.inl (by decide)))
      · exact frame_wf _ _ (Or.inl (by decide))
    · exact frame_wf _ _ (Or.inl (by decide))

theorem recorded_sendRecord (r : FaultRec) (n f l : Nat) : recorded s (s.sendRecord r n f l) := by
  unfold sendRecord
  extract_lets q bytes prio src0 s1 s2 s3 s4 s5
  have hp : prio ≤ 5 := by show (if 2 ≤ r.sev then 5 else 4) ≤ 5; split <;> omega
  have h1 : recorded s s1 := frame_withFault _ (by decide)
  have h2 : recorded s1 s2 := recorded_offer 1 _ (by decide) hp
  have h3 : recorded s2 s3 := recorded_sendEvents _ _
  have h4 : recorded s3 s4 := recorded_ringRecord _
  have h5 : recorded s4 s5 := by
    show recorded s4 (if _ then _ else _)
    split
    · exact recorded_offer 0 _ (by decide) hp
    · exact frame_refl _ _ _
  exact frame_trans h1 (frame_trans h2 (frame_trans h3 (frame_trans h4 (frame_trans h5 (recorded_cairnFault _ _ _)))))

theorem recorded_occur (r : FaultRec) (n : Nat) (hc : r.cls < 256) : recorded s (s.occur r n) := by
  unfold occur
  extract_lets s0 win
  have h0 : recorded s s0 := by
    refine frame_trans (t := match lifeWord r with | some i => s.lifeInc i | none => s) ?_ (frame_inc _ (Or.inl (by decide)) (by decide))
    split
    · rename_i i e
      apply recorded_lifeInc
      unfold lifeWord at e
      split at e
      · cases e; decide
      · split at e
        · cases e; decide
        · split at e
          · cases e; decide
          · split at e
            · cases e; decide
            · cases e
    · exact frame_refl _ _ _
  refine frame_trans h0 ?_
  clear_value s0
  split
  · exact frame_withFault _ (by decide)
  · split
    · exact recorded_sendRecord _ _ _ _
    · split
      · exact frame_trans (frame_withFault _ (by decide)) (frame_trans (frame_wf _ _ (Or.inl (by decide)))
          (recorded_sendRecord _ _ _ _))
      · have h1 : recorded s0 (s0.inc (HUB_AVAL_OVF.V r.cls)) :=
          frame_inc _ (Or.inl (by simp only [HUB_AVAL_OVF.V, HUB_AVAL_OVF.a]; omega)) (by decide)
        refine frame_trans h1 ?_
        split
        · exact frame_withFault _ (by decide)
        · exact frame_trans (frame_withFault _ (by decide)) (frame_trans (frame_inc _ (Or.inl (by decide)) (by decide))
            (recorded_sendRecord _ _ _ _))

/-- A report touches only what records touch. -/
theorem recorded_report (r : FaultRec) (hc : r.cls < 256) : recorded s (s.report r) := by
  simp only [report]
  split
  · exact frame_withFault _ (by decide)
  · exact recorded_occur r _ hc

theorem recorded_trace (p q h : Nat) (l : List Byte) : recorded s (s.trace p q h l) := by
  simp only [trace]
  split
  · exact recorded_offer 0 _ (by decide) (show 2 ≤ 5 by decide)
  · exact frame_refl _ _ _

/-- A refused register access is counted, latched once and reported: only what records touch. -/
theorem recorded_haccCode (code : Nat) (src : Src) (fn off : Nat) (w : Bool) (st : Nat) : recorded s (s.haccCode code src fn off w st) := by
  simp only [haccCode]
  have a : ∀ (x : Rf) (n : Nat) (u : State), x.a = HUB_HACC_ERR.a → recorded u (u.wf x n) := fun x n u e =>
    frame_wf _ _ (Or.inl (by rw [e]; decide))
  have h1 : recorded s (s.inc HUB_HACC_CNT.V) := frame_inc _ (Or.inl (by decide)) (by decide)
  split
  · exact frame_trans h1 (recorded_report _ (show (1 : Nat) < 256 by decide))
  · exact frame_trans h1 (frame_trans (a _ _ _ rfl) (frame_trans (a _ _ _ rfl) (frame_trans (a _ _ _ rfl) (frame_trans (a _ _ _ rfl)
      (frame_trans (a _ _ _ rfl) (frame_trans (a _ _ _ rfl) (recorded_report _ (show (1 : Nat) < 256 by decide))))))))
theorem recorded_hacc (src : Src) (fn off : Nat) (w : Bool) (st : Nat) : recorded s (s.hacc src fn off w st) := recorded_haccCode _ _ _ _ _ _
theorem recorded_reject (src : Src) (off : Nat) : recorded s (s.reject src off) := recorded_haccCode _ _ _ _ _ _

end Sys2Proof.Machine.State
end

