-- ==== Sys2Proof/Tests/Slice0.lean ====
section
/-! SUPPORT. Tests: for the statements with hypotheses, concrete states and operands that meet them, clause by clause; terms no
interface can bring; a few rows on small states with the numbers of the spec. -/
namespace Sys2Proof.Tests
set_option Elab.async false
open Sys2Proof.Machine

/-- `s` with the fields of `l` set. -/
def tSet (s : State) (l : List (Rf × Nat)) : State := l.foldl (fun t x => t.wf x.1 x.2) s
/-- All camps have ended. -/
def tUp : State := tSet State.reset
  [(HUB_CAMP_STS.CAMP, 6), (HUB_CAMP_STS.STATE, 3), (HUB_CAMP_RPT.STATUS 0, 0), (HUB_CAMP_RPT.STATUS 1, 0), (HUB_CAMP_RPT.STATUS 2, 0),
   (HUB_CAMP_RPT.STATUS 3, 0), (HUB_CAMP_RPT.STATUS 4, 0), (HUB_CAMP_RPT.STATUS 5, 0), (HUB_CAMP_RPT.STATUS 6, 0)]
/-- `tUp` with port `P` in port state `st`. -/
def tPort (P st : Nat) : State := tSet tUp [(PRT_PORT_STS.STATE P, st)]
def tFrame : Frame := ⟨0, 0, 0, 0, 0, 0, [], 0, 0⟩
/-- A FEID table entry on crux die 0: an endpoint behind port `P` of device `d`, or device `d` itself. -/
def tEp (d P : Nat) : Word := Word.ofN (1 + 8 * d + 512 * P)
def tDev (d : Nat) : Word := Word.ofN (3 + 8 * d)
/-- A plane of two devices: FEID 7 behind port 4 (ACTIVE) and FEID 9 this device; harness 5 RUNNING, with pool 0 of 16 pages at H 0. -/
def tNet : State :=
  let s := tSet tUp [(HUB_PLANE.A, 2), (HUB_PLANE.B, 1), (HUB_PLANE.C, 1), (HUB_JOIN1.DEVICE_FEID, 9), (PRT_PORT_STS.STATE 4, 4), (HRN_STS.STATE 5, 2),
    (POOL_STS.STATE 0, 1), (POOL_CFG.HARNESS 0, 5), (POOL_PAGES.V 0, 16)]
  { s with fwd := { s.fwd with feid := [(7, tEp 0 4), (9, tDev 0)] } }
/-- A frame of the memory fabric from FEID 7 to FEID 9. -/
def tMem (op : Nat) (bs : List Byte) : Frame :=
  FrameSpec.make { cls := 1, kind := 1, dst := 9, src := 7, harness := 5, op := op, tag := 3, chunk := 8, payload := bs }
/-- `s` with a frame landed at a place. -/
def tLand (s : State) (p : Place) (f : Frame) : State := { s with fwd := { s.fwd with inbox := [⟨p, f, some 4⟩] } }
/-- Core 3 of crux die 0, of harness 5, in state `st`, with `c`. -/
def tCoreSt : CoreSt :=
  { CoreSt.initial with bound := true, ldata := 4096, stack := [9], entry := 2, sregs := (List.range 32).map (fun i => Word.ofN (8 * i)) }
def tCore (st : Nat) (c : CoreSt) : State :=
  { tSet tNet [(CRX_CORE_STS.STATE 3, st), (CRX_CORE_STS.HARNESS 3, 5), (CRX_CLU_STS.BOUND 0 0, 1), (CRX_CLU_STS.OWNED 0 0, 1), (CRX_CLU_STS.HARNESS 0 0, 5)] with
    comp := { CompSt.initial with cores := [(3, c)] } }
/-- A frame has at most 33 cells, so an empty queue with a limit of 33 cells or more takes it. -/
theorem takes_empty (s : State) (P c : Nat) (hd : s.depth P c = 0) (hp : s.placesOf P c = []) (hq : 33 ≤ s.qlimit P c) :
    ∀ f : Frame, f.cls = c → s.takes P f true = true := by
  intro f hf
  have hl : f.len < 2 ^ 13 := by
    unfold Frame.len Word.field
    exact Nat.mod_lt _ (by decide)
  have hc : State.cellsOf f ≤ 33 := by unfold State.cellsOf; omega
  have h1 : decide (0 + State.cellsOf f ≤ s.qlimit P c) = true := by simp; omega
  have h2 : decide (2 * 0 < s.qlimit P c) = true := by simp; omega
  simp only [State.takes, hf, hd, hp, h1, h2, Bool.or_true, Bool.true_or, Bool.true_and]
/-- Frames of class `c` of harness 5 to FEID 7 reach port 4. -/
theorem reaches7 (s : State) (c : Nat) (he : s.feidEntry 0 7 = some (tEp 0 4)) (hd : s.devIndex = 0)
    (h : s.active 4 = true ∧ s.draining 4 = false ∧ s.gatewayPort 4 = false ∧ s.rf (PRT_PORT_ID.HARNESS 4) = 5 ∧
      s.rf HUB_FAULT_STS.DEV_STATE ≠ 2 ∧ s.depth 4 c = 0 ∧ s.placesOf 4 c = [] ∧ 33 ≤ s.qlimit 4 c) : s.reaches 0 5 c 7 4 :=
  ⟨⟨tEp 0 4, he, by decide, by decide, by rw [hd]; decide, by decide⟩, by decide, h.1, h.2.1, h.2.2.1, Or.inr h.2.2.2.1, h.2.2.2.2.1,
    fun f hf _ => takes_empty s 4 c h.2.2.2.2.2.1 h.2.2.2.2.2.2.1 h.2.2.2.2.2.2.2 f hf⟩
/-- One written sector of a tenant's memory from address `a`, beginning with `bs`. -/
def tBytes (a : Nat) (bs : List Byte) : MemSt :=
  { MemSt.initial with cells := (List.range (unitSize a)).map (fun i => (a + i, bs.getD i 0)), valid := [a] }
theorem witness_malformedAccess : awake State.reset ∧ (0x7 : BitVec 26).toNat % 8 ≠ 0 ∧ State.reset.rb HUB_HACC_ERR.VALID = false := by decide +kernel

/-- Linear and logarithmic bins. -/
def tHist (c : Word) : State := { tUp with tel := { tUp.tel with hist := [(2, c)] } }
theorem witness_histogramBins :
    (let s := tHist 0x2; awake s ∧ s.telUp = true ∧ s.campOk 1 = true ∧ (s.histCfg 1 0).field 0 4 = 2 ∧ (s.histCfg 1 0).field 31 1 = 0) ∧
    (let s := tHist 0x80000002; awake s ∧ s.telUp = true ∧ s.campOk 1 = true ∧ (s.histCfg 1 0).field 0 4 = 2 ∧
      (s.histCfg 1 0).field 31 1 = 1) := by decide +kernel

/-- A torus port in `st` with one C0 frame held under LSEQ 5. -/
def tLink (st : Nat) : State :=
  { tPort 800 st with ports := [(800, { PortSt.initial with held := [⟨5, 0, .frame tFrame⟩], ackDue := true, xoffDirty := true, xoffTx := 1 })] }
theorem witness_linkAcknowledgements :
    let s := tLink 2
    awake s ∧ s.belayUp 800 = true ∧ s.oddBonded 800 = false ∧ (s.port 800).idle = false ∧ s.rb (PRT_PORT_CTL.MACSEC 800) = false ∧
    (s.port 800).ackDue = true ∧ (s.port 800).xoffDirty = true ∧ (s.port 800).xoffTx ≠ 0 ∧ pfAckValid 0 = false ∧ (s.port 800).held ≠ [] ∧
    (s.port 800).failed + 1 < max 1 (s.rf (PRT_BELAY_CFG.REPLAY_LIMIT 800)) ∧ pfAckValid (mkPrefix 0 6 1 0 true) = true := by decide +kernel
theorem witness_linkReception :
    let s := tPort 800 2
    awake s ∧ s.belayUp 800 = true ∧ s.oddBonded 800 = false ∧ (s.port 800).idle = false ∧ s.rb (PRT_PORT_CTL.MACSEC 800) = false ∧
    (pfType 0 = 0 ∧ pfAckValid 0 = false ∧ pfLseq 0 = (s.port 800).rxExpect ∧ s.active 800 = false ∧ isTorus 800 = true ∧
      (s.port 800).unacked < 31) ∧
    (let w := mkPrefix 0x7FFFFF 0 0 0 false
     pfType w = 0 ∧ pfAckValid w = false ∧ 1 ≤ (pfLseq w + 2 ^ 24 - (s.port 800).rxExpect) % 2 ^ 24 ∧
      (pfLseq w + 2 ^ 24 - (s.port 800).rxExpect) % 2 ^ 24 ≤ 0x7FFFFF ∧ (s.port 800).nak = none) ∧
    (let w := mkPrefix 0x800000 0 0 0 false
     pfType w = 0 ∧ pfAckValid w = false ∧ 0x7FFFFF < (pfLseq w + 2 ^ 24 - (s.port 800).rxExpect) % 2 ^ 24) := by decide +kernel
/-- An endpoint port in UDP mode. -/
def tUdp : State := tSet (tPort 3 4) [(PRT_PORT_CTL.MODE 3, 1)]
def tDgram : Datagram := ⟨0, none, 0x0800, 5, false, true, 17, 0, 0, 4791, true, true, mkPrefix 0 0 1 3 false, .none, .ok⟩
theorem witness_linkDiscardsAndPartners :
    (let s := tUdp
     awake s ∧ s.belayUp 3 = true ∧ s.oddBonded 3 = false ∧ 4 ≤ pfType (mkPrefix 0 0 4 0 false) ∧ isTorus 3 = false ∧
     s.rf (PRT_PORT_CTL.MODE 3) = 1 ∧ (0 : BitVec 32).toNat = s.rf (PRT_UDP_CFG0.LOCAL_IPV4 3) ∧ tDgram.ipCheckOk = true ∧
     s.udpGood 3 { tDgram with dstPort := s.rf (PRT_UDP_CFG1.UDP_PORT 3) } = true ∧ pfType tDgram.pre = 1 ∧
     pfAckValid tDgram.pre = false) ∧
    (let s := tPort 3 2
     awake s ∧ isTorus 3 = false ∧ s.oddBonded 3 = false ∧ s.rf (PRT_PORT_CTL.MODE 3) ≠ 2 ∧ (s.port 3).idle = false ∧ s.pstate 3 = 2 ∧
     pfLseq 0 = (s.port 3).rxExpect ∧ pfAckValid 0 = false ∧ (s.port 3).unacked < 31) := by decide +kernel
theorem witness_portStateTimers :
    ((tPort 800 1).pstate 800 = 1 ∧ (tPort 800 1).oddBonded 800 = false ∧ (tPort 800 1).rb (PRT_PORT_CTL.MACSEC 800) = false) ∧
    (tPort 3 6).pstate 3 = 6 ∧ (tPort 800 5).belayUp 800 = true ∧ isTorus 800 = true ∧ awake (tPort 800 1) ∧ awake (tPort 3 6) := by decide +kernel
theorem witness_portControl_torus :
    (let s := tPort 800 0
     awake s ∧ s.opens .faultCh (PRT_PORT_CTL.a 800) ∧ s.oddBonded 800 = false ∧ s.cmdClear 800 ∧ s.rf (PRT_PORT_CTL.MODE 800) = 0 ∧
     s.rb (PRT_PORT_CTL.MACSEC 800) = false ∧ s.rb (PRT_PORT_CTL.BOND 800) = false ∧ s.rb (PRT_PORT_CTL.ENABLE 800) = false ∧
     s.pstate 800 = 0 ∧ s.rb (PRT_PORT_CTL.DRAIN 800) = false) ∧
    (let s := tSet (tPort 800 2) [(PRT_PORT_CTL.ENABLE 800, 1)]
     awake s ∧ s.opens .faultCh (PRT_PORT_CTL.a 800) ∧ s.cmdClear 800 ∧ s.rb (PRT_PORT_CTL.ENABLE 800) = true ∧ s.fwd.queues = [] ∧
     isTorus 800 = true ∧ s.pstate 800 ≠ 0 ∧ s.active 800 = false) := by decide +kernel
theorem witness_portControl_endpoint :
    (let s := tPort 2 3
     awake s ∧ s.opens .faultCh (PRT_PORT_CTL.a 2) ∧ s.oddBonded 2 = false ∧ s.cmdClear 2 ∧ isTorus 2 = false ∧ s.pstate 2 = 3 ∧
     s.campsDone = true ∧ s.rf (PRT_PORT_ID.HARNESS 2) = 0 ∧ s.rb (PRT_PORT_CTL.MACSEC 2) = false ∧ s.rf (PRT_PORT_CTL.MODE 2) = 0 ∧
     s.rb (PRT_PORT_CTL.ENABLE 2) = false ∧ s.rb (PRT_PORT_CTL.ENABLE 3) = false ∧ s.rb (PRT_PORT_CTL.DRAIN 2) = false ∧
     s.rb (PRT_PORT_CTL.BOND 2) = false ∧ s.opens .faultCh (PRT_PORT_ID.a 2) ∧ s.active 2 = false ∧
     s.opens .faultCh (PRT_MACSEC_KSEL.a 2) ∧ (0x4 : Word).field 2 1 = 1) ∧
    (let s := tPort 2 4
     awake s ∧ s.opens .faultCh (PRT_PORT_CTL.a 2) ∧ s.oddBonded 2 = false ∧ s.cmdClear 2 ∧ s.active 2 = true ∧ s.fwd.queues = [] ∧
     s.mfb.pends = [] ∧ s.rope.ctxs = [] ∧ s.gate.ctxs = []) ∧
    (let s := tSet (tPort 2 2) [(PRT_PORT_CTL.MACSEC 2, 1)]
     s.rb (PRT_PORT_CTL.MACSEC 2) = true ∧ (s.port 2).sas.length = 4) ∧ (tPort 3 0).oddBonded 3 = false := by decide +kernel
theorem witness_gatewayCount : tUp.gatewayCount < 64 := by decide +kernel
theorem witness_fwdTables :
    (let s := tUp
     awake s ∧ s.opens .faultCh (FWD_TBL_DATA.a 2) ∧ s.rf (FWD_TBL_CTL.TABLE 2) = 0 ∧ s.rf (FWD_TBL_CTL.INDEX 2) < 1536 ∧
     s.rb (FWD_TBL_CTL.ALL 2) = false) ∧
    (let s := tSet tUp [(FWD_TBL_CTL.ALL 2, 1), (FWD_TBL_CTL.INDEX 2, 262143)]
     s.opens .faultCh (FWD_TBL_DATA.a 2) ∧ s.rf (FWD_TBL_CTL.INDEX 2) < 262144 ∧ s.rb (FWD_TBL_CTL.ALL 2) = true) ∧
    (let s := tSet tUp [(FWD_TBL_CTL.TABLE 2, 1), (FWD_TBL_CTL.WORD 2, 1), (FWD_TBL_CTL.INDEX 2, 16383)]
     s.opens .faultCh (FWD_TBL_DATA.a 2) ∧ s.rf (FWD_TBL_CTL.TABLE 2) = 1 ∧ s.rf (FWD_TBL_CTL.WORD 2) = 1 ∧
     s.rf (FWD_TBL_CTL.INDEX 2) < 16384) ∧
    (let s := tSet tUp [(FWD_TBL_CTL.TABLE 2, 1), (FWD_TBL_CTL.AUTOINC 2, 1)]
     s.rb (FWD_TBL_CTL.AUTOINC 2) = true ∧ s.rf (FWD_TBL_CTL.WORD 2) = 0) ∧
    (tSet tUp [(FWD_TBL_CTL.TABLE 2, 2)]).rf (FWD_TBL_CTL.TABLE 2) = 2 ∧
    (tSet tUp [(FWD_TBL_CTL.TABLE 2, 3)]).rf (FWD_TBL_CTL.TABLE 2) = 3 ∧
    262144 ≤ (tSet tUp [(FWD_TBL_CTL.INDEX 2, 262144)]).rf (FWD_TBL_CTL.INDEX 2) := by decide +kernel
theorem witness_queueLimits :
    (let s := tUp
     s.opens .faultCh (FWD_QLIMIT.a 1 71 7) ∧ s.opens .faultCh (FWD_HOLD_CFG.a 1 71) ∧ s.locked = false ∧
     s.limitSum 1 - s.rf (FWD_QLIMIT.CELLS 1 71 7) + (0 : Word).field 0 20 + 18432 ≤ 393216 ∧
     393216 < s.limitSum 1 - s.rf (FWD_QLIMIT.CELLS 1 71 7) + (0xFFFFF : Word).field 0 20 + 18432 ∧
     (let v : Word := 0x009_00A_100
      v.field 24 12 < v.field 12 12 ∧ v.field 12 12 + 102 < v.field 0 12 ∧
      s.limitSum 1 - s.rf (FWD_HOLD_CFG.HOLD_CELLS 1 71) + v.field 0 12 + 18432 ≤ 393216) ∧
     (0x00A_00A_100 : Word).field 12 12 ≤ (0x00A_00A_100 : Word).field 24 12) ∧
    (let s := tSet tUp [(HUB_PLANE.LOCKED, 1)]
     s.locked = true ∧ s.rf (FWD_QLIMIT.CELLS 1 71 7) ≠ (0xFFFFF : Word).field 0 20 ∧
     (s.reg (FWD_HOLD_CFG.a 1 71)).field 0 36 ≠ (0 : Word).field 0 36) := by decide +kernel
theorem witness_directionMap :
    let s := tPort 769 4
    awake s ∧ s.eligible 768 = false ∧ s.eligiblePorts 0 ≠ [] ∧ s.dirEntry 15 0 0 = 0 := by decide +kernel
/-- A C3 frame held at endpoint port 4 for torus port 800; a frame steered to cluster 3. -/
def tHeld : State :=
  let f := FrameSpec.make { cls := 3, kind := 1 }
  { tSet tUp [(PRT_PORT_STS.STATE 800, 4)] with fwd := { FwdSt.initial with
      holds := [⟨some 4, 3, f, [.port 800], 1, 0, false⟩], steer := [⟨.cluster 3, f, none⟩] } }
theorem witness_heldAndSteered :
    let s := tHeld
    let f := FrameSpec.make { cls := 3, kind := 1 }
    awake s ∧ s.fwd.holds.find? (fun y => y.P == some 4 && y.cls == 3) = some ⟨some 4, 3, f, [.port 800], 1, 0, false⟩ ∧ isTorus 800 = true ∧
    s.takes 800 f true = true ∧ s.fwd.steer.find? (fun y => y.place == .cluster 3) = some ⟨.cluster 3, f, none⟩ ∧
    f.bad = false ∧ f.checksOk = true ∧ f.setBad.bad = true := by decide +kernel
/-- A frame of class `c` queued at port 4. -/
def tQueued (c : Nat) : State :=
  { tNet with fwd := { tNet.fwd with queues := [⟨4, c, FrameSpec.make { cls := c, kind := 1 }, 1, none, 0, false, false⟩] } }
theorem witness_frameStart : ∀ c ∈ [0, 6],
    let s := tQueued c
    let x : Queued := ⟨4, c, FrameSpec.make { cls := c, kind := 1 }, 1, none, 0, false, false⟩
    awake s ∧ s.maySend 4 = true ∧ s.gateOn = false ∧ s.rb (PRT_PORT_CTL.MACSEC 4) = false ∧ s.replayRoom 4 x.frame = true ∧
    s.xoffed 4 c = false ∧ (s.queueOf 4 c).head? = some x ∧ (∀ y ∈ s.fwd.queues, y.P = 4 → y.cls = c) := by decide +kernel
/-- A schedule of one entry of 2,000 ns in bank A, applied. -/
def tGate : State :=
  { tSet (tPort 800 4) [(TIM_GATE_CTL.MODE, 1), (TIM_GATE_CTL.LEN_A, 1)] with gateTbl := [(1, 2000)] }
theorem witness_gateEdges :
    (let s := tSet tGate [(TIM_OFFSET_EST.V, 25)]
     awake s ∧ s.gateOn = true ∧ s.fwd.queues = [] ∧ s.time.step = none ∧ s.rf TIM_GUARD.V < 2 * s.rf TIM_OFFSET_EST.V) ∧
    (let s := { tGate with ports := [(800, { PortSt.initial with pEst := 25 })] }
     s.gateOn = true ∧ s.active 800 = true ∧ s.rf TIM_GUARD.V < 2 * (s.port 800).pEst ∧
     s.now - (s.port 800).pSeen ≤ 64 * (s.rf TIM_SYNC_CFG.INTERVAL * 1000)) ∧
    (let s := { tGate with time := { tGate.time with step := some 5000 } }
     s.gateOn = true ∧ s.time.step = some ((5000 : Nat) : Int) ∧ s.now + 5000 < 2 ^ 64) := by decide +kernel
theorem witness_gateBank :
    (let s := tSet tGate [(TIM_GATE_CTL.PENDING, 1), (TIM_GATE_SWITCH.V, 9001)]
     awake s ∧ s.opens .faultCh TIM_GATE_CTL.a ∧ s.rb TIM_GATE_CTL.PENDING = true ∧ s.gateOn = true ∧
     s.rf TIM_GATE_BASE.V < s.rf TIM_GATE_SWITCH.V ∧ s.rf TIM_GATE_SWITCH.V + s.gatePeriod s.gateBank < 2 ^ 64) ∧
    tUp.rb TIM_GATE_CTL.PENDING = false ∧ tUp.gateOn = false ∧ tUp.opens .faultCh TIM_GATE_CTL.a := by decide +kernel
theorem witness_gateTables :
    (let s := tSet tUp [(TIM_GATE_TBL_CTL.BANK, 1), (TIM_GATE_TBL_CTL.WORD, 1), (TIM_GATE_TBL_CTL.AUTOINC, 1)]
     awake s ∧ s.opens .faultCh TIM_GATE_TBL_DATA.a ∧ s.rf TIM_GATE_TBL_CTL.BANK ≠ s.rf TIM_GATE_CTL.ACTIVE_BANK ∧
     s.rb TIM_GATE_CTL.PENDING = false ∧ s.rf TIM_GATE_TBL_CTL.WORD = 1 ∧ 1000 ≤ (1000 : Word).field 0 24 ∧
     (999 : Word).field 0 24 < 1000) ∧
    tUp.rf TIM_GATE_TBL_CTL.BANK = tUp.rf TIM_GATE_CTL.ACTIVE_BANK ∧ tUp.opens .faultCh (SCH_HWM_CLR.a 15) := by decide +kernel
/-- Device 1 of a plane of two, whose parent is device 0 through torus port 0. -/
def tChild : State := tSet tUp [(HUB_PLANE.A, 2), (HUB_PLANE.B, 1), (HUB_PLANE.C, 1), (HUB_PLANE.INDEX, 1), (PRT_PORT_STS.STATE 768, 4)]
theorem witness_planeTime :
    (let s := tChild
     awake s ∧ s.parentPort = some 0 ∧ s.active 768 = true ∧ (State.halfDelay 100 150 200 248).natAbs < 1000 ∧
     (s.time.syncN + 1) % 16 ≠ 0 ∧ s.rb (PRT_PORT_CTL.MACSEC 768) = false) ∧
    (tPort 770 4).active 770 = true ∧ (tPort 770 4).parentPort ≠ some 2 ∧
    (let s := tSet tNet [(TIM_CTL.SOURCE, 2)]
     s.isRoot = true ∧ s.rf TIM_CTL.SOURCE = 2 ∧ ((-999 : Int)).natAbs < 1000) ∧
    (let s := tSet tNet [(TIM_CTL.SOURCE, 3)]
     s.isRoot = true ∧ s.rf TIM_CTL.SOURCE = 3 ∧
     ((s.rf TIM_PPS_SECONDS.V * 1000000000 : Nat) - (s.now : Int)).natAbs < 1000) := by decide +kernel
/-- `tNet` with a carabiner of harness 5 for FEID 9, page 0 to H 0, all rights, on crux die 0, and 16 bytes written. -/
def tCar : State :=
  { tNet with mfb := { tNet.mfb with carabs := [⟨0, 0, Word.ofN (1 + 4 + 8 + 16 + 12 * 32 + 5 * 2 ^ 11 + 9 * 2 ^ 23), 0, 0, 0⟩] },
              mem := tBytes 0 (bytesLE 16 0x0102030405060708) }
def tAtom (op : Nat) : Frame := tMem op (bytesLE 8 5 ++ bytesLE 8 0)
theorem tNet_home7 : ∀ s : State, s.feidEntry 0 7 = some (tEp 0 4) → s.devIndex = 0 → s.homePort 0 7 4 :=
  fun s h d => ⟨tEp 0 4, h, by decide, by decide, by rw [d]; decide, by decide⟩
theorem witness_deviceMemory : ∀ f ∈ [tMem 2 (bytesLE 8 77), tMem 3 (bytesLE 8 77), tMem 1 []],
    let s := tLand tCar (.memCheck 0) f
    awake s ∧ f.kind = 1 ∧ s.landed (.memCheck 0) f = some ⟨.memCheck 0, f, some 4⟩ ∧ f.bad = false ∧ f.checksOk = true ∧
    s.toDevice 0 f = true ∧ s.memCheckStatus 0 f = 0 ∧ (s.carabiner 0 f.harness f.dst f.addr).isSome = true ∧
    s.hAddr f.harness 0 8 = some 0 ∧ f.payload.length = f.len ∧ f.harness ≠ 0 ∧ s.mfb.groups = [] ∧ s.fault.outUnits = [] ∧
    s.feidEntry 0 f.src = some (tEp 0 4) ∧ s.mem.dead = [] ∧ s.mem.mergeFails 5 0 8 = [] ∧ s.mem.badWords 5 0 8 = [] := by
  decide +kernel
theorem witness_deviceAtomics : ∀ f ∈ [tAtom 0x48, tAtom 0x4F, tAtom 0x41],
    let s := tLand (tSet tCar [(MFB_CFG.COMBINE_EN 0, 0)]) (.memCheck 0) f
    awake s ∧ isAtomic f = true ∧ s.landed (.memCheck 0) f = some ⟨.memCheck 0, f, some 4⟩ ∧ f.bad = false ∧ f.checksOk = true ∧
    s.toDevice 0 f = true ∧ s.memCheckStatus 0 f = 0 ∧ s.hAddr 5 0 (atWidth f.op / 8) = some 0 ∧
    s.rb (MFB_CFG.COMBINE_EN 0) = false ∧ s.mfb.groups = [] ∧ s.mfb.repeats = [] ∧ s.feidEntry 0 f.src = some (tEp 0 4) ∧
    s.mem.badWords 5 0 (atWidth f.op / 8) = [] := by decide +kernel
theorem witness_hotGroups :
    (let g : HotGroup := ⟨2, 0, true, 0, 0, 0, 0, [tAtom 0x48], false, none⟩
     let s : State := { tCar with mfb := { tCar.mfb with groups := [g] } }
     awake s ∧ s.mfb.groups = [g] ∧ g.sent = false ∧ g.dev = true ∧ s.mem.badWords (tAtom 0x48).harness g.addr 8 = []) ∧
    (let g : HotGroup := ⟨2, 0, true, 0, 0, 0, 0, [tAtom 0x48], true, some (0, 8)⟩
     let s : State := { tCar with mfb := { tCar.mfb with groups := [g] } }
     g.sent = true ∧ g.answer = some (0, 8) ∧ s.mfb.repeats = [] ∧ s.feidEntry 0 (tAtom 0x48).src = some (tEp 0 4)) ∧
    (let g : HotGroup := ⟨2, 0, true, 0, 0, 0, 0, [], false, none⟩
     g.members = [] ∧ g.sent = false) := by decide +kernel
theorem witness_carabinerMiss : ∀ f ∈ [tMem 1 [], tMem 2 (bytesLE 8 77), tMem 3 (bytesLE 8 77), tAtom 0x48],
    let s := tLand tNet (.memCheck 0) f
    awake s ∧ s.landed (.memCheck 0) f = some ⟨.memCheck 0, f, some 4⟩ ∧ f.bad = false ∧ f.checksOk = true ∧ f.harness ≠ 0 ∧
    1 ≤ f.chunk ∧ f.chunk ≤ 4096 ∧ s.rf HUB_FAULT_STS.DEV_STATE ≠ 2 ∧ s.carabiner 0 f.harness f.dst f.addr = none ∧
    s.fault.outUnits = [] ∧ s.feidEntry 0 f.src = some (tEp 0 4) ∧ s.rb HUB_FAULT_RING.EN = false := by decide +kernel
theorem witness_carabinerCommands :
    (let s : State := { tSet tNet [(MFB_CAR_CMD.BUSY 0, 1)] with mfb := { tNet.mfb with carRes := [(0, 14)] } }
     awake s ∧ s.opens .faultCh (MFB_CAR_CMD.a 0) ∧ s.rb (MFB_CAR_CMD.BUSY 0) = true ∧ lookupKey s.mfb.carRes 0 = some 14) ∧
    (let s := tNet.setReg (MFB_CAR_W0.a 0) (Word.ofN (1 + 4 + 12 * 32 + 9 * 2 ^ 23))
     s.opens .faultCh (MFB_CAR_CMD.a 0) ∧ s.rb (MFB_CAR_CMD.BUSY 0) = false ∧
     s.insertStatus [0] (s.reg (MFB_CAR_W0.a 0)) (s.reg (MFB_CAR_W1.a 0)) (s.reg (MFB_CAR_W2.a 0)) = 0 ∧
     (s.carFree 0 (s.reg (MFB_CAR_W0.a 0)) (s.reg (MFB_CAR_W1.a 0))).isSome = true ∧ s.gate.fill = none ∧
     carHarness (s.reg (MFB_CAR_W0.a 0)) = 0) ∧
    tNet.insertStatus [0] (tNet.reg (MFB_CAR_W0.a 0)) (tNet.reg (MFB_CAR_W1.a 0)) (tNet.reg (MFB_CAR_W2.a 0)) = 0x0E ∧
    (tCar.mfb.carabs.find? (fun c => c.die == 0 && c.slot == 0)).isSome = true := by decide +kernel
/-- A request of FEID 7 through port 4 pending at crux die 0. -/
def tPend (f : Frame) (q : Bool) : Pend := ⟨1, 0, 4, f, q, 0⟩
def tAnch (op : Nat) : Frame := FrameSpec.make { cls := 1, kind := 1, dst := 9, src := 7, harness := 5, anchor := true, op := op, tag := 4 }
theorem tDev_home : ∀ s : State, s.feidEntry 0 9 = some (tDev 0) → s.devIndex = 0 → s.homeDevice 0 9 :=
  fun s h d => ⟨tDev 0, h, by decide, by rw [d]; decide⟩
theorem witness_pendingAccept :
    (let s := { tLand tNet (.memAccept 0) (tMem 1 []) with mfb := { tNet.mfb with pends := [tPend (tMem 1 []) false] } }
     awake s ∧ State.isMemReq (tMem 1 []) = true ∧ s.landed (.memAccept 0) (tMem 1 []) = some ⟨.memAccept 0, tMem 1 [], some 4⟩ ∧
     s.mfb.pends.any (fun p => p.source == 4 && p.frame.tag == (tMem 1 []).tag) = true) ∧
    (let s := { tLand tNet (.memAccept 0) (tAnch 1) with mfb := { tNet.mfb with pends := [tPend (tMem 2 []) false], next := 2 } }
     State.isMemReq (tAnch 1) = true ∧ s.landed (.memAccept 0) (tAnch 1) = some ⟨.memAccept 0, tAnch 1, some 4⟩ ∧
     s.mfb.pends.any (fun p => p.source == 4 && p.frame.tag == (tAnch 1).tag) = false ∧ s.memRoom 7 true 0 = true ∧
     (tAnch 1).anchor = true ∧ s.earlierWrite 4 s.mfb.next = true) ∧
    (let s := tLand tNet (.memAccept 0) (tMem 1 [])
     let f := tMem 1 []
     s.memRoom f.src f.anchor 0 = true ∧ f.anchor = false ∧ f.mcast = false ∧ f.trav = false ∧ s.feidEntry 0 f.dst = some (tDev 0) ∧
     s.fault.outUnits = [] ∧ s.fwd.holds = [] ∧ s.mfb.pends = []) ∧
    (let s : State := { tNet with mfb := { tNet.mfb with pends := [tPend (tAnch 1) true] } }
     s.mfb.pends.find? (fun q => q.source == 4 && q.queued) = some (tPend (tAnch 1) true) ∧ s.earlierWrite 4 1 = false ∧
     s.feidEntry 0 (tAnch 1).dst = some (tDev 0)) := by decide +kernel
/-- The device's own request of core 2, and its answer. -/
def tOwn (op : Nat) : Frame := FrameSpec.make { cls := 1, kind := 1, dst := 7, src := 9, harness := 5, op := op, tag := 3, chunk := 8 }
def tAns (op : Nat) : Frame := FrameSpec.make { cls := 2, kind := 1, dst := 9, src := 7, harness := 5, op := op, tag := 3, payload := bytesLE 8 7 }
theorem witness_pendingAnswers :
    (∀ o ∈ [(1, 0x81), (2, 0x82), (0x48, 0xC0)],
      let p : Pend := ⟨1, 0, 1154, tOwn o.1, false, 0⟩
      let f := tAns o.2
      let s := { tLand tNet (.memReply 0) f with mfb := { tNet.mfb with pends := [p] } }
      awake s ∧ s.gate.ovf = [] ∧ p.frame.op = o.1 ∧ f.op = o.2 ∧ f.tstatus = 0 ∧ s.landed (.memAccept 0) f = none ∧ f.kind = 1 ∧
      s.landed (.memReply 0) f = some ⟨.memReply 0, f, some 4⟩ ∧ f.bad = false ∧ s.mfb.coreWait = [] ∧ p.source = 1152 + 2 ∧
      s.mfb.pends.find? (fun q => !q.queued && q.frame.src == f.dst && q.frame.tag == f.tag && q.frame.dst == f.src) = some p ∧
      (o.1 = 1 → s.mfb.pends.find? (fun q => q.source == 1154 && q.frame.tag == 3) = some p)) ∧
    (let f := FrameSpec.make { cls := 2, kind := 1, dst := 7, src := 9, op := 0x82, tag := 3 }
     let p := tPend (tMem 3 (bytesLE 8 77)) false
     let s := { tLand tNet (.memReply 0) f with mfb := { tNet.mfb with pends := [p] } }
     f.kind = 1 ∧ f.op = 0x82 ∧ f.tstatus = 0 ∧ f.bad = false ∧ s.landed (.memReply 0) f = some ⟨.memReply 0, f, some 4⟩ ∧
     p.source < 1152 ∧ p.frame.op = 3 ∧
     s.mfb.pends.find? (fun q => !q.queued && q.frame.src == f.dst && q.frame.tag == f.tag && q.frame.dst == f.src) = some p) ∧
    (let s := tLand tNet (.memReply 0) (tAns 0x81)
     s.landed (.memReply 0) (tAns 0x81) = some ⟨.memReply 0, tAns 0x81, some 4⟩ ∧ s.mfb.pends = [] ∧ s.mfb.gone = []) := by
  decide +kernel
theorem witness_registerWrites :
    let s := tUp
    awake s ∧ (0x13 : BitVec 26).toNat % 8 ≠ 0 ∧ s.accessFails .faultCh 0x400000 = some 8 ∧
    State.reset.accessFails .faultCh 0x1000000 = some 1 ∧
    s.opens .faultCh 0xFF000 ∧ regRow 0xFF000 = none ∧
    s.opens .faultCh (CRX_CORE_CFG.a 3) ∧ (regRow (CRX_CORE_CFG.a 3)).isSome = true ∧ State.groupOf (CRX_CORE_CFG.a 3) = some .crux ∧
    CRX_CORE_CFG.a 3 % 8 = 0 ∧ CRX_CORE_CFG.a 3 < 2 ^ 26 ∧ s.opens .faultCh HUB_AVAL_CFG.a ∧ HUB_AVAL_CFG.a < 2 ^ 26 ∧
    (let t : State := { s with xdom := [⟨.crux, .faultCh, 0, CRX_CORE_CFG.a 3, 5⟩] }
     t.xdom.find? (fun x => x.grp == .crux) = some ⟨.crux, .faultCh, 0, CRX_CORE_CFG.a 3, 5⟩) ∧
    (1 : BitVec 8) ≠ 0 ∧ (0x3F8 : BitVec 26).toNat % 8 = 0 ∧ (0x3F8 : BitVec 26).toNat < 0x400 ∧ s.host.pendV = [] := by decide +kernel
/-- Harness 6 in state `st`. -/
def tHrn (st : Nat) : State := tSet tUp [(HRN_STS.STATE 6, st)]
theorem witness_harnessCommands :
    (let s := tSet tUp [(HRN_CMD.BUSY, 1)]
     awake s ∧ s.opens .faultCh HRN_CMD.a ∧ s.rb HRN_CMD.BUSY = true) ∧
    (∀ st ∈ [0, 1, 2, 3, 4],
      let s := tHrn st
      s.opens .faultCh HRN_CMD.a ∧ s.rb HRN_CMD.BUSY = false ∧ s.hrnState 6 = st ∧ s.campOk 6 = true ∧ lookupKey s.hrn.old 6 = none ∧
      s.host.opened = [] ∧ s.rf HUB_FAULT_STS.DEV_STATE ≠ 2 ∧ s.mpStopped = false ∧ s.portNamed 6 = false ∧ s.coresOf 6 = [] ∧
      s.rope.ctxs = [] ∧ s.gate.ctxs = [] ∧ s.gate.stores = [] ∧ s.host.waits = []) ∧
    (tSet tUp [(HUB_CAMP_RPT.STATUS 6, 1)]).campOk 6 = false ∧ (tSet tUp [(HUB_CAMP_RPT.STATUS 6, 1)]).opens .faultCh HRN_CMD.a ∧
    (let s := { tHrn 1 with hrn := { HrnSt.initial with unbinding := some 6 } }
     s.hrn.unbinding = some 6 ∧ s.poolsOf 6 = [] ∧ lookupKey s.hrn.old 6 = none ∧ s.host.opened = []) := by decide +kernel
def tRaised (h : Nat) : Raised := ⟨⟨2, 0, 2, 8, 0, h, []⟩, 0⟩
theorem witness_harnessFaults :
    (∀ st ∈ [0, 1, 2, 3, 4],
      let s := { tHrn st with fault := { FaultSt.initial with raised := [tRaised 6] } }
      awake s ∧ s.nextRaised = some (tRaised 6) ∧ (tRaised 6).what.sev = 2 ∧ lookupKey s.hrn.old 6 = none ∧ s.host.opened = [] ∧
      s.hrnState 6 = st ∧ s.rf (HRN_STS.FAIL_CNT 6) < 2 ∧ lookupKey s.hrn.started 6 = none) ∧
    (let s := { tHrn 2 with hrn := { HrnSt.initial with started := [(6, 0)] } }
     lookupKey s.hrn.started 6 = some 0 ∧ s.now - 0 < max 1 (s.rf HRN_GCFG.STABLE_MS) * 1000000) ∧
    2 ≤ (tSet (tHrn 3) [(HRN_STS.FAIL_CNT 6, 2)]).rf (HRN_STS.FAIL_CNT 6) := by decide +kernel
theorem witness_harnessSettings :
    (let s := { tHrn 3 with hrn := { HrnSt.initial with old := [(6, 2)] } }
     awake s ∧ lookupKey s.hrn.old 6 = some 2 ∧ s.hrnState 6 ≠ 2 ∧ s.rope.ctxs = [] ∧ s.gate.ctxs = [] ∧ s.comp.flights = []) ∧
    (tHrn 2).hrnState 6 = 2 ∧
    (∀ k ∈ [(0 : Fin 5), 1, 2, 3, 4], tUp.opens .faultCh ((State.qkind k).limit 6).a ∧ (State.qkind k).total < 2 ^ 32 - 1) ∧
    tUp.opens .faultCh (HRN_WIT_CFG.a 6) ∧
    (let v := Word.ofN (12 * 2 ^ 40 + 4096)
     12 ≤ v.field 40 5 ∧ v.field 40 5 ≤ 30 ∧ v.field 45 2 ≠ 3 ∧ v.field 0 40 % 2 ^ v.field 40 5 = 0) ∧
    (Word.ofN (11 * 2 ^ 40)).field 40 5 < 12 := by decide +kernel
theorem witness_coreBinding :
    (let s := tSet tNet [(CRX_BIND_CMD.BUSY 0, 1)]
     awake s ∧ s.opens .faultCh (CRX_BIND_CMD.a 0) ∧ s.rb (CRX_BIND_CMD.BUSY 0) = true) ∧
    (let s := tSet tNet [(HRN_Q_CORES.LIMIT 5, 1)]
     s.opens .faultCh (CRX_BIND_CMD.a 0) ∧ s.rb (CRX_BIND_CMD.BUSY 0) = false ∧ s.loading 3 = false ∧ s.bindStatus 3 5 = 0 ∧
     s.rf (HRN_Q_CORES.USED 5) < 512 ∧ s.boundCore 3 = false) ∧
    tUp.bindStatus 3 6 = 0x0E ∧
    (let s := tSet (tCore 1 tCoreSt) [(HRN_STS.STATE 5, 1)]
     s.opens .faultCh (CRX_BIND_CMD.a 0) ∧ s.rb (CRX_BIND_CMD.BUSY 0) = false ∧ s.loading 3 = false ∧ s.boundCore 3 = true ∧
     s.hrnState (s.coreH 3) ≠ 2 ∧ s.cstate 3 = 1 ∧ s.coreH 3 ≠ 0) ∧
    (let s : State := { tNet with comp := { CompSt.initial with binds := [⟨0, 3, 5, true, false⟩] } }
     s.comp.binds.find? (fun b => b.die == 0 && b.bind && !b.waits) = some ⟨0, 3, 5, true, false⟩ ∧
     s.rf (CRX_CLU_STS.BOUND 0 0) < 8) := by decide +kernel
theorem witness_sharedUnits :
    (let s := tUp
     awake s ∧ s.opens .faultCh (CRX_PFLAG_BIND.a (63 / 4) (63 % 4)) ∧ s.comp.waits = [] ∧ s.opens .faultCh (CRX_CCH_DATA.a 0) ∧
     s.opens .faultCh (CRX_JUMAR_CFG.a 0 31) ∧ (s.cchOf (s.cchSel 0)).field 0 1 = 0) ∧
    (let v := Word.ofN (1 + 2 * 5 + 2 ^ 16 * 4)
     v.field 0 1 = 1 ∧ v.field 16 16 ≠ 0) ∧ (1 : Word).field 0 1 = 1 ∧ (1 : Word).field 16 16 = 0 ∧ (0x2000 : Word).field 13 1 = 1 ∧
    (let s : State := { tCore 3 tCoreSt with comp := { CompSt.initial with cch := [(0, 1)], waits := [⟨3, .credit 0 1, false, 0⟩] } }
     (0 : Word).field 0 1 = 0 ∧ (s.cchOf (s.cchSel 0)).field 0 1 = 1 ∧ s.comp.flights = [] ∧ s.rope.ctxs = [] ∧
     s.comp.waits = [⟨3, .credit (s.cchSel 0) 1, false, 0⟩]) := by decide +kernel
theorem witness_coreControl :
    (∀ st ∈ [1, 5], (tCore st tCoreSt).opens .faultCh (CRX_CORE_CTL.a 3) ∧ (tCore st tCoreSt).cstate 3 = st ∧
      (tCore st tCoreSt).mayRun ((tCore st tCoreSt).coreH 3) = true) ∧
    (∀ st ∈ [2, 3, 4], let s := tCore st tCoreSt
      awake s ∧ s.opens .faultCh (CRX_CORE_CTL.a 3) ∧ s.cstate 3 = st ∧ s.rope.ctxs = [] ∧ s.comp.flights = []) ∧
    (∀ st ∈ [0, 1, 5, 6], (tCore st tCoreSt).cstate 3 = st ∧ (tCore st tCoreSt).comp.flights = []) := by decide +kernel
/-- The core waits for `op`, which is met or not. -/
def tWait (st kind : Nat) (op : WaitOp) (met : Bool) : State :=
  { tSet (tCore st tCoreSt) [(CRX_CORE_STS.WAIT_KIND 3, kind), (CRX_CORE_CFG.BIVOUAC_US 3, 1), (CRX_CORE_CFG.WAIT_LIMIT_US 3, 50),
      (⟨HRN_WAKE.a 5, 0, 16⟩, 100)] with
    comp := { CompSt.initial with cores := [(3, tCoreSt)], waits := [⟨3, op, met, 0⟩] } }
theorem witness_waits :
    (∀ op ∈ [WaitOp.flag (lfKey 3 0) true false, .credit 7 2, .jumar 5 9], ∀ st ∈ [3, 4],
      let s := tWait st 1 op true
      awake s ∧ s.waitOf 3 = some ⟨3, op, true, 0⟩ ∧ s.cstate 3 = st) ∧
    (let s := tWait 3 5 (.jumar 5 9) false
     s.cstate 3 = 3 ∧ 1 ≤ s.rf (CRX_CORE_STS.WAIT_KIND 3) ∧ s.rf (CRX_CORE_STS.WAIT_KIND 3) ≤ 5 ∧ s.flightsOf 3 = [] ∧
     s.rf (CRX_CORE_CFG.BIVOUAC_US 3) ≠ 0 ∧ 100 ≤ (s.reg (HRN_WAKE.a (s.coreH 3))).field 0 16 ∧
     s.rf (CRX_CORE_CFG.WAIT_LIMIT_US 3) ≠ 0 ∧ s.rope.ctxs = [] ∧ s.comp.flights = []) := by decide +kernel
/-- An image of one L segment of 16 bytes. -/
def tImage : Image := ⟨Config.encMin.toNat, true, 64, 16, 0, 0, 0, 0, 0, 0, [(0, bytesLE 16 5)], 2, 7⟩
theorem witness_loads :
    (let s := tSet tUp [(CRX_LOAD_CMD.BUSY 0, 1)]
     awake s ∧ s.opens .faultCh (CRX_LOAD_CMD.a 0) ∧ s.rb (CRX_LOAD_CMD.BUSY 0) = true) ∧
    (let s := tSet (tCore 1 tCoreSt) [(CRX_LOAD_LEN.V 0, 4096)]
     s.rb (CRX_LOAD_CMD.BUSY 0) = false ∧ s.loadCheck (State.maskCores 0 0) 1 0 0 4096 ⟨0, true, 0, 0, 0, 0, 0, 0, 0, 0, [], 0, 0⟩ = (0x0E, 7)) ∧
    (let l : Load := ⟨0, [3], true, 5, ⟨0, true, 64, 16, 0, 0, 0, 0, 0, 0, [(0, bytesLE 16 5)], 2, 7⟩, List.replicate 8 1, none, false⟩
     let s := { tCore 1 tCoreSt with comp := { CompSt.initial with loads := [l], cores := [(3, tCoreSt)] } }
     s.comp.loads.find? (fun x => x.die == 0) = some l ∧ l.args.length = 8 ∧ s.comp.binds = [] ∧ (∀ k ∈ l.cores, k < 512) ∧
     s.mayRun l.h = true ∧ l.cores = [3] ∧ s.coreH 3 ≠ 0 ∧ (bytesLE 16 5).length = 8 * 2 ∧ 8 * 2 + l.img.code ≤ sizeL) := by
  decide +kernel
theorem tImage_rev : ¬ (tImage.rev < Config.encMin.toNat || Config.encMax.toNat < tImage.rev) = true := by
  unfold tImage Config.encMax
  split <;> simp_all
theorem witness_loadPasses :
    (tCore 1 tCoreSt).loadCheck (State.maskCores 0 8) 1 5 0 4096 tImage = (0, 0) ∧
    (tCore 1 tCoreSt).loadCheck (State.maskCores 0 8) 2 5 0 4096 tImage = (0, 0) := by
  have h := tImage_rev
  constructor <;> (unfold State.loadCheck; rw [if_neg (by decide +kernel), if_neg (by decide +kernel), if_neg (by decide +kernel), if_neg (by decide +kernel), if_neg (by decide +kernel), if_neg h, if_neg (by decide +kernel), if_neg (by decide +kernel)]; rfl)
/-- The core runs. -/
def tRun : State := { tCore 2 tCoreSt with mem := tBytes (addrL 3 0) (bytesLE 64 7) }
theorem witness_sequencer :
    (let s := tRun
     awake s ∧ s.able 3 ∧ s.wordOk 3 (State.argOf (s.sreg 3) (.reg 1 0)).toNat = true ∧ s.raced [(addrL 3 8, 8)] = false ∧
     s.mem.badWords (s.coreH 3) (addrL 3 8) 8 = [] ∧ s.comp.flights = [] ∧ s.rope.ctxs = [] ∧
     s.wordOk 3 (State.argOf (s.sreg 3) (.imm 4089)).toNat = false ∧
     (s.cst 3).stack = [9] ∧ (s.cst 3).stack.length < 16 ∧ s.flightsOf 3 = [] ∧ s.comp.waits = [] ∧
     s.flagKey 3 (.lf 255) = .inl (lfKey 3 255) ∧ s.flagKey 3 (.cf 1023) = .inl (cfKey 0 1023) ∧
     s.flagKey 3 (.pf (.imm 4096)) = .inr (0x0E, 4096) ∧ s.flagKey 3 (.pf (.imm 7)) = .inr (0x08, 7) ∧ s.flagOf (lfKey 3 255) = false) ∧
    (tCore 2 { tCoreSt with stack := List.replicate 16 1 }).able 3 ∧
    16 ≤ ((tCore 2 { tCoreSt with stack := List.replicate 16 1 }).cst 3).stack.length ∧
    ((tCore 2 { tCoreSt with stack := [] }).cst 3).stack = [] := by decide +kernel
/-- Channel 7 of crux die 0 with capacity 4 and 2 credits; jumar pair 0 with limit 10. -/
def tShare : State :=
  let s := tSet tRun [(CRX_JUMAR_CFG.VALID 0 0, 1), (CRX_JUMAR_CFG.HARNESS 0 0, 5), (CRX_JUMAR_CFG.LIMIT 0 0, 10)]
  let s := s.setReg (CRX_JUMAR_EVEN.a 0 0) 5
  s.setCch 7 (Word.ofN (1 + 2 * 5 + 4 * 2 ^ 16 + 2 * 2 ^ 32))
theorem witness_creditsAndJumars :
    let s := tShare
    awake s ∧ s.able 3 ∧ s.comp.waits = [] ∧ s.cchH 7 = some (s.coreH 3) ∧ s.cchCount 7 = 2 ∧ s.cchCap 7 = 4 ∧
    s.cchH 8 ≠ some (s.coreH 3) ∧ (State.argOf (s.sreg 3) (.imm 7)).toNat = 7 ∧ (State.opd64Of (s.sreg 3) (.imm 2)).toNat = 2 ∧
    s.comp.flights = [] ∧ s.rope.ctxs = [] ∧ s.jumarH 0 = some (s.coreH 3) ∧ s.jumarH 1 = some (s.coreH 3) ∧ s.jumar 0 = 5 ∧ s.jumar 1 = 0 ∧
    s.rf (CRX_JUMAR_CFG.LIMIT (0 / 64) (0 % 64 / 2)) = 10 ∧ (s.sreg 3 0).toNat ≤ s.jumar 0 ∧ s.jumar 0 < (s.sreg 3 1).toNat := by
  decide +kernel
def tT (sp : Space) (base : Nat) (f : Fmt) (sh : List Nat) (st : List Int) : Tensor := ⟨sp, .imm (Word.ofN base), f, sh, st, none⟩
def tL (base : Nat) (f : Fmt) (n : Nat) : Tensor := tT .l base f [n] [(f.bytes : Int)]
def tS (base : Nat) (f : Fmt) (m n : Nat) : Tensor := tT .s base f [m, n] [(n * f.bytes : Nat), (f.bytes : Int)]
def tMx (base scale n : Nat) : Tensor := { tT .l base .e2m1 [n] [(Fmt.e2m1.unit : Int)] with scale := some ⟨false, .imm (Word.ofN scale)⟩ }
/-- A row of n elements of L as a matrix of one row. -/
def tRow (base : Nat) (f : Fmt) (n : Nat) : Tensor := tT .l base f [1, n] [(n * f.bytes : Nat), (f.bytes : Int)]
def tOpts : Opts := ⟨.rne, .sat, none, .imm 0, .imm 0, none, none⟩
/-- One form of every engine instruction. -/
def tEngines : List EngOp :=
  [.vreSum .none (tL 0 .fp32 1) (tRow 64 .fp32 4), .vreDot .none (tL 0 .fp32 1) (tRow 64 .fp32 4) (tRow 128 .fp32 4),
   .vreAxpy 1 (tL 0 .fp32 4) (tL 64 .fp32 4) (tL 128 .fp32 4), .vreMin (tL 0 .fp32 1) (tRow 64 .fp32 4),
   .vreMax (tL 0 .int8 1) (tRow 64 .int8 4), .vreSumPair .none (tL 0 .fp32 1) (tL 32 .fp32 1) (tRow 64 .fp32 4),
   .vreDotPair .none (tL 0 .fp32 1) (tL 32 .fp32 1) (tRow 64 .fp32 4) (tRow 128 .fp32 4),
   .gseGather .flat .zero (tL 0 .int8 4) (tL 64 .int8 8) (tL 128 .int16 4),
   .gseScatter .flat .skip (tL 0 .int8 8) (tL 64 .int8 4) (tL 128 .int16 4),
   .gseScatadd .flat .wrap (tL 0 .int32 8) (tL 64 .int32 4) (tL 128 .int16 4),
   .sseSort true (tL 0 .fp32 4) (tL 32 .int32 4) (tL 64 .fp32 4), .sseTopk true (.imm 2) (tL 0 .fp32 2) (tL 32 .int32 2) (tL 64 .fp32 4),
   .sseSelect (tL 0 .int8 4) (tL 32 .int8 4) (tL 64 .int8 4) (tL 96 .int8 4), .sseCompact (some 1) (tL 0 .int8 4) (tL 32 .int8 4) (tL 64 .int8 4),
   .sseFilter .gt 1 none (tL 0 .int8 4) (tL 32 .int8 4), .sseDedup none (tL 0 .int8 4) (tL 32 .int32 4) (tL 64 .int8 4),
   .sseHist false .skip (tL 0 .int32 4) (tL 64 .int8 4), .cdcCvt (tL 0 .bf16 4) (tL 64 .fp32 4), .cdcMxq (tMx 0 32 32) (tL 64 .fp32 32),
   .cdcUnpack (tL 0 .int8 32) (tMx 64 96 32), .cdcPack (tMx 0 32 32) (tL 64 .int8 32), .cdcSpx none (tL 0 .int8 8) (tL 32 .int8 4) (tL 64 .int8 1),
   .cdcSpc none (tL 0 .int8 8) (tL 32 .int8 1) (tL 64 .int8 8), .cdcSplit (tL 0 .bf16 4) (tL 32 .bf16 4) (tL 64 .fp32 4),
   .cdcCrc 1 none (tL 0 .int8 4), .cdcRes 1 (tL 0 .int8 4), .cdcCrcChk none (tL 0 .int8 4) 1, .cdcResChk (tL 0 .int8 4) 1,
   .tenMma false false false none (tS 0 .fp32 2 2) (tS 64 .bf16 2 2) (tS 128 .bf16 2 2),
   .fdeMove none (some (tL 0 .int8 8)) (some (tT .h 0 .int8 [8] [1])) none (.imm 0) none none,
   .fdePut ⟨.imm 7, .imm 0⟩ 1 (.imm 0) false, .fdeAmo 1 ⟨.imm 7, .imm 0⟩ 2 none 0 true false false false (.imm 0)]
theorem witness_engineForms : ∀ op ∈ tEngines, okEng op tOpts = true := by decide +kernel
theorem witness_engineIssue :
    let s := tRun
    awake s ∧ s.running 3 = true ∧
    ∀ op ∈ tEngines, s.hazard 3 (engReads op tOpts) = false ∧ s.queueFull 3 (engOf op) = false ∧
      (engOf op ≤ 4 → startCheck s ⟨3, (s.cst 3).sregs, tOpts⟩ (engOf op) op = none) := by decide +kernel
/-- An instruction of core 3 on engine `e`, in progress or queued. -/
def tFlight (e : Nat) (op : EngOp) (go : Bool) (r : EngRes) : Flight :=
  ⟨0, 3, e, op, tOpts, tCoreSt.sregs, 0, go, [], [], false, r, [], [], [], [], none⟩
def tBusy (l : List Flight) : State := { tRun with comp := { tRun.comp with flights := l, next := 1 } }
theorem witness_engineBusy :
    (∀ op ∈ tEngines,
      let s := tBusy (List.replicate (if engOf op = 5 then 16 else 1) (tFlight (engOf op) op true EngRes.none))
      s.queueFull 3 (engOf op) = false ∧ s.hazard 3 (engReads (.fdePut ⟨.imm 7, .imm 0⟩ 2 (.imm 0) false) tOpts) = false) ∧
    (let s := tBusy (List.replicate 64 (tFlight 1 (tEngines.headD (.cdcRes 1 (tL 0 .int8 4))) false EngRes.none))
     s.queueFull 3 1 = true ∧ s.flightsOf 3 ≠ []) ∧
    (let op := EngOp.vreSum .none (tL 3 .fp32 1) (tRow 64 .fp32 4)
     okEng op tOpts = true ∧ (startCheck tRun ⟨3, tCoreSt.sregs, tOpts⟩ 1 op).isSome = true) := by decide +kernel
theorem witness_engineCompletes :
    (let f := tFlight 1 (.vreMin (tL 0 .fp32 1) (tRow 64 .fp32 4)) true { EngRes.none with writes := [(addrL 3 0, bytesLE 4 9)], flags := 1 }
     let s := tBusy [f]
     awake s ∧ s.comp.flights = [f] ∧ f.core = 3 ∧ f.eng = 1 ∧ f.started = true ∧ s.comp.waits = [] ∧ s.rope.ctxs = [] ∧ f.res.fault = none ∧
     0x10000000000 ≤ addrL 3 0 ∧ s.mem.mergeFails (s.ownOf (addrL 3 0)) (addrL 3 0) 4 = []) ∧
    (let f := tFlight 2 (.gseGather .flat .fault (tL 0 .int8 4) (tL 64 .int8 8) (tL 128 .int16 4)) true { EngRes.none with fault := some (8, 3, 0, 0, 0) }
     (tBusy [f]).comp.flights = [f] ∧ f.res.fault = some (8, 3, 0, 0, 0)) ∧
    (let f : Flight := { tFlight 5 (.fdeAmo 1 ⟨.imm 7, .imm 0⟩ 2 none 0 true false false false (.imm 0)) true EngRes.none with parts := [⟨4, 0, 8, none⟩] }
     let s := { tBusy [f] with mfb := { MfbSt.initial with coreRsp := [⟨3, 4, 0, bytesLE 8 9⟩] } }
     s.comp.flights = [f] ∧ s.mfb.coreRsp = [⟨3, 4, 0, bytesLE 8 9⟩] ∧ f.res = EngRes.none ∧ f.taint = false ∧ f.stream = none) ∧
    (tFlight 6 (.tenMma false false false none (tS 0 .fp32 2 2) (tS 64 .bf16 2 2) (tS 128 .bf16 2 2)) true EngRes.none).eng = 6 := by decide +kernel
theorem witness_accumulators :
    (∀ a ∈ [(⟨-(2 ^ 479), 0, false, false, false, false, false, true, false, false⟩ : Acc), ⟨2 ^ 479 - 1, 0, false, false, false, false, false, true, false, false⟩],
      -(2 ^ 479) ≤ a.v ∧ a.v < 2 ^ 479 ∧ a.wrap = 0 ∧ a.v.natAbs < 126 * 2 ^ 480) := by decide +kernel
/-- Device `me` of a plane of three; FEIDs 9, 19 and 29 the devices, 7 and 17 endpoints of devices 0 and 1. -/
def tRopeNet (me : Nat) : State :=
  let s := tSet (tCore 2 tCoreSt) [(HUB_PLANE.A, 3), (HUB_PLANE.INDEX, me), (POOL_STS.STATE 1, 1), (POOL_PAGES.V 1, 16), (POOL_HBASE.V 1, 0), (POOL_PBASE.V 1, 16),
    (HRN_Q_CTX.LIMIT 5, 2), (PRT_PORT_ID.HARNESS 4, 5)]
  { s with fwd := { s.fwd with feid := [(7, tEp 0 4), (9, tDev 0), (17, tEp 1 4), (19, tDev 1), (29, tDev 2)] } }
/-- A descriptor of harness 5: FP32, chunks of 2^lg elements, 4 slots, epoch `e`, summit 0, `m` members. -/
def tDesc (lg e m : Nat) : List Word :=
  [Word.ofN (5 + lg * 2 ^ 28 + 4 * 2 ^ 32 + e * 2 ^ 41), 1, Word.ofN (2 ^ 38), 7, Word.ofN m, 0, 0, 0]
def tMembers (me : Nat) : List Member :=
  if me = 0 then [⟨false, 7, 0⟩, ⟨true, 3, 0⟩, ⟨false, 17, 1⟩, ⟨true, 9, 2⟩] else [⟨true, 3, 1⟩, ⟨false, 7, 0⟩, ⟨true, 9, 2⟩]
def tOp (w : Nat) (told : Bool) (chunks : List RopeChunk) : RopeOp :=
  ⟨0, 0, w, chunks, [], [], Summary.empty, [], told, [], 0, ⟨0, [], [], [], [], [], [], []⟩⟩
def tRope (ms : List Member) (lg : Nat) (ops : List RopeOp) : RopeCtx := { State.newCtx 0 2 (tDesc lg 1 ms.length) ms with bytes := 8192, ops := ops }
def tRopeAt (me : Nat) (c : RopeCtx) : State := { tRopeNet me with rope := { RopeSt.initial with ctxs := [c] } }
/-- A rope frame of context 2, operation 0. -/
def tRf (op src w k : Nat) (bs : List Byte) : Frame :=
  FrameSpec.make { cls := 0, kind := 2, dst := 9, src := src, harness := 5, op := op, ctx := 2, addr := w, epoch := 1, chunk := k, payload := bs }
theorem witness_ropeCommands :
    (let s := tSet (tRopeNet 0) [(CRX_ROPE_CMD.BUSY 0, 1)]
     awake s ∧ s.opens .faultCh (CRX_ROPE_CMD.a 0) ∧ s.rb (CRX_ROPE_CMD.BUSY 0) = true) ∧
    (let d := tDesc 7 1 2
     let s0 := (List.range 8).foldl (fun (t : State) w => t.setReg (CRX_ROPE_D.a 0 w) (d.getD w 0)) (tSet (tRopeNet 0) [(CRX_CLU_STS.OWNED 0 0, 0)])
     let s : State := { s0 with mem := s0.mem.write 0 65536 (bytesLE 4 7 ++ bytesLE 4 (2 ^ 31 + 3)) }
     let c0 := State.newCtx 0 2 d [⟨false, 7, 0⟩, ⟨true, 3, 0⟩]
     d = (List.range 8).map (fun w => s.reg (CRX_ROPE_D.a 0 w)) ∧ s.rb (CRX_ROPE_CMD.BUSY 0) = false ∧ s.mpStopped = false ∧
     s.findRope 2 = none ∧ s.grantable c0.harness = true ∧ s.descOk d = true ∧ s.quotaOk .ctx c0.harness 1 = true ∧
     s.cluOwner c0.cluster = none ∧
     s.maxFoot c0.cluster + s.rf (CRX_CLU_SRES.BYTES 0 (c0.cluster % 4)) + c0.bytesOf (s.localRanks c0).length ≤ 0x1800000 ∧
     s.readMembers 0 d = some [⟨false, 7, 0⟩, ⟨true, 3, 0⟩] ∧ s.membersOk c0 = true) ∧
    (let d := tDesc 7 2 2
     let s0 := (List.range 8).foldl (fun (t : State) w => t.setReg (CRX_ROPE_D.a 0 w) (d.getD w 0)) (tRopeAt 0 (tRope (tMembers 0) 7 []))
     let s : State := { s0 with mem := s0.mem.write 0 65536 (bytesLE 4 7 ++ bytesLE 4 (2 ^ 31 + 3)) }
     let c0 := State.newCtx 0 2 d [⟨false, 7, 0⟩, ⟨true, 3, 0⟩]
     let c := tRope (tMembers 0) 7 []
     s.findRope 2 = some c ∧ c.die = 0 ∧ c.ops = [] ∧ c0.epoch ≠ c.epoch ∧ s.grantable c0.harness = true ∧ s.descOk d = true ∧
     c.cluster = c0.cluster ∧ c.harness = c0.harness ∧ s.cluOwner c0.cluster = some c0.harness ∧
     s.maxFoot c0.cluster + (s.rf (CRX_CLU_SRES.BYTES 0 (c0.cluster % 4)) - c.bytes) + c0.bytesOf (s.localRanks c0).length ≤ 0x1800000 ∧
     s.readMembers 0 d = some [⟨false, 7, 0⟩, ⟨true, 3, 0⟩] ∧ s.membersOk c0 = true) ∧
    (let s := tRopeAt 0 (tRope (tMembers 0) 7 [tOp 1 false []])
     (s.findRope 2).isSome = true ∧ (tRope (tMembers 0) 7 [tOp 1 false []]).broken = false ∧ s.rb (CRX_ROPE_CMD.BUSY 0) = false) ∧
    (let s : State := { tRopeNet 0 with rope := { RopeSt.initial with cmds := [(0, 14)] } }
     lookupKey s.rope.cmds 0 = some 14) := by decide +kernel
theorem witness_ropeStale : ∀ op ∈ [1, 2, 3, 4, 5, 6, 7, 8],
    (let s := tLand (tRopeNet 0) (.cluster 0) (tRf op 7 0 0 [])
     awake s ∧ (tRf op 7 0 0 []).kind = 2 ∧ (tRf op 7 0 0 []).op = op ∧ s.landed (.cluster 0) (tRf op 7 0 0 []) = some ⟨.cluster 0, tRf op 7 0 0 [], some 4⟩ ∧
     s.findRope (tRf op 7 0 0 []).ctx = none) ∧
    (let c := { tRope (tMembers 0) 7 [] with broken := true }
     let s := tLand (tRopeAt 0 c) (.cluster 0) (tRf op 7 0 0 [])
     s.findRope (tRf op 7 0 0 []).ctx = some c ∧ c.cluster = 0 ∧ c.broken = true) := by decide +kernel
/-- ALLREDUCE of 8 elements, SUM and MIN; of 2,048 elements. -/
def tSum8 : Nat := 1 + 8 * 2 ^ 22
def tMin8 : Nat := 1 + 16 + 8 * 2 ^ 22
theorem witness_contribAndPartial :
    (let f := tRf 1 7 tSum8 0 (bytesLE 32 1)
     let c := tRope (tMembers 0) 7 [tOp tSum8 false []]
     let s := tLand (tRopeAt 0 c) (.cluster 0) f
     s.ropeTakes 0 f c ⟨.cluster 0, f, some 4⟩ ∧ c.ctx = f.ctx ∧ (tOp tSum8 false []).opno = State.opnoOf f ∧ f.addr = tSum8 ∧
     s.memberOf c (some 4) f = some 0 ∧ c.isSum f.addr = true ∧ c.enters f.addr 0 (State.chunkOf f) = 0 ∧
     (tOp tSum8 false []).begunBy 0 = State.chunkOf f ∧ State.chunkOf f < c.sendsOf f.addr 0 ∧ f.frag = 0 ∧ 0 < c.lenOf f.addr 0 ∧
     f.payload.length = Min.min (c.perFrame c.inFmt) (c.lenOf f.addr 0) * c.inFmt.bytes ∧ c.unsettled 0 < c.slots ∧
     s.isTop c f.addr 0 = true ∧ s.inTree c f.addr 0 = true ∧ 1 ≤ c.chunksOf f.addr ∧ (∃ q ∈ s.sources c f.addr 0, q ≠ 0) ∧ s.comp.flights = []) ∧
    (let f := tRf 2 19 tMin8 0 (bytesLE 32 1)
     let c := tRope (tMembers 0) 7 [tOp tMin8 false []]
     let s := tLand (tRopeAt 0 c) (.cluster 0) f
     s.ropeTakes 0 f c ⟨.cluster 0, f, some 4⟩ ∧ s.partialSrc c f = some 65537 ∧ c.merging f.addr = true ∧ c.isSum f.addr = false ∧
     opColl f.addr ≠ 6 ∧ State.chunkOf f < c.chunksOf f.addr ∧ 0 < c.lenOf f.addr 0 ∧
     f.len = Min.min (c.perFrame c.inFmt) (c.lenOf f.addr 0) * c.inFmt.bytes ∧ 0 < c.slots ∧ s.isTop c f.addr 0 = true ∧
     s.inTree c f.addr 0 = true ∧ (∃ q ∈ s.sources c f.addr 0, q ≠ 65537)) := by decide +kernel
theorem witness_resultAndCredit :
    (let w := 1 + 2048 * 2 ^ 22
     let f := tRf 3 9 w 0 (bytesLE 8 1)
     let y : RopeChunk := ⟨0, [], 0, true, []⟩
     let c := tRope (tMembers 1) 11 [tOp w true [y]]
     let s := tLand (tRopeAt 1 c) (.cluster 0) f
     s.ropeTakes 0 f c ⟨.cluster 0, f, some 4⟩ ∧ s.isTop c f.addr (State.chunkOf f) = false ∧ s.upFeid c f.addr (State.chunkOf f) = f.src ∧
     c.merging f.addr = true ∧ opColl f.addr ≠ 6 ∧ 0 < c.chunksOf f.addr ∧ y.c = State.chunkOf f ∧ f.frag = 0 ∧
     c.perFrame (c.downFmt f.addr) < c.lenOf f.addr 0 ∧ s.kidsTaking c f.addr 0 = [] ∧
     (s.localRanks c).filter (c.receives f.addr 0) = [0] ∧ (c.member 0).core = true ∧ c.fed = false ∧ s.inTree c f.addr 0 = true) ∧
    (let w := 1 + 300 * 2 ^ 22
     let f := tRf 4 9 w 0 []
     let y : RopeChunk := ⟨0, [], 0, true, []⟩
     let c := tRope (tMembers 1) 7 [tOp w true [y]]
     let s := tLand (tRopeAt 1 c) (.cluster 0) f
     s.ropeTakes 0 f c ⟨.cluster 0, f, some 4⟩ ∧ s.isTop c f.addr (State.chunkOf f) = false ∧ s.upFeid c f.addr (State.chunkOf f) = f.src ∧
     s.childrenOf c (s.summitOf c f.addr 0) s.devIndex = [] ∧ (∀ r ∈ s.localRanks c, (c.member r).core = true) ∧
     s.isTop c f.addr 0 = false ∧ 2 ∈ s.handled c f.addr) := by decide +kernel
theorem witness_contribNoCrc :
    (let f := FrameSpec.make { kind := 2, dst := 9, src := 7, harness := 5, op := 1, ctx := 2, addr := tSum8, epoch := 1, checkKind := 2, payload := [] }
     let c := tRope (tMembers 0) 7 [tOp tSum8 false []]
     let s := tLand (tRopeAt 0 c) (.cluster 0) f
     awake s ∧ s.landed (.cluster 0) f = some ⟨.cluster 0, f, some 4⟩ ∧ s.findRope f.ctx = some c ∧ c.cluster = 0 ∧ c.broken = false ∧
     c.epoch = f.epoch ∧ f.kind = 2 ∧ f.op = 1 ∧ f.checkKind ≠ 1 ∧ s.memberOf c (some 4) f = some 0) := by decide +kernel
theorem witness_summaryCountsA2a :
    (let f := tRf 5 19 tSum8 0 (bytesLE 32 1)
     let c := tRope (tMembers 0) 7 [tOp tSum8 false []]
     let s := tLand (tRopeAt 0 c) (.cluster 0) f
     s.ropeTakes 0 f c ⟨.cluster 0, f, some 4⟩ ∧ s.devOfFeid c.die f.src = some 1 ∧
     1 ∈ s.childrenOf c (s.summitOf c f.addr 0) s.devIndex ∧ 2 ∈ s.childrenOf c (s.summitOf c f.addr 0) s.devIndex ∧ s.inTree c f.addr 0 = true) ∧
    (let f := tRf 6 19 8 0 (bytesLE 8 (2 + 4 * 2 ^ 32))
     let c := tRope (tMembers 0) 7 [tOp 8 false []]
     let s := tLand (tRopeAt 0 c) (.cluster 0) f
     s.ropeTakes 0 f c ⟨.cluster 0, f, some 4⟩ ∧ s.memberOf c (some 4) f = none ∧ s.devOfFeid c.die f.src = some 1 ∧ 1 ∈ c.devs ∧ opColl f.addr = 8 ∧
     0 ∈ s.localRanks c ∧ State.vecDone c (tOp 8 false []) 0 = false ∧ s.inTree c f.addr 0 = true) ∧
    (let w := 7 + 8 * 2 ^ 22
     let f := tRf 7 17 w 0 (bytesLE 32 1)
     let c := tRope [⟨false, 7, 0⟩, ⟨false, 17, 1⟩] 7 [tOp w true []]
     let s := tLand (tRopeAt 0 c) (.cluster 0) f
     s.ropeTakes 0 f c ⟨.cluster 0, f, some 4⟩ ∧ s.rankOf c f.src = some 1 ∧ (c.member 1).dev ≠ s.devIndex ∧ (c.member 0).dev = s.devIndex ∧
     (c.member 0).core = false ∧ opColl f.addr = 7 ∧ 0 ∈ s.localRanks c ∧ f.len / c.inFmt.bytes < c.ranks * opCount f.addr ∧
     (∀ j ∈ s.localRanks c, 0 < c.ranks * opCount f.addr ∧ j = State.chunkOf f) ∧ s.inTree c f.addr 0 = true) := by decide +kernel
/-- A gate descriptor of harness 5: BF16 tokens of 32 elements, one expert, one chosen, two slots, weights at H 0, hosts at H 64. -/
def tGDesc (prog e : Nat) : List Word :=
  [Word.ofN (5 + prog * 2 ^ 12 + 2 ^ 13 + 2 ^ 32 + e * 2 ^ 41), Word.ofN (32 + 2 ^ 16 + 2 * 2 ^ 32 + 7 * 2 ^ 52), 0, 0, Word.ofN (64 + 2 ^ 40), 0, 0, 1]
def tGate0 (prog : Nat) (toks : List Token) : GateCtx :=
  { ctx := 4, die := 0, desc := tGDesc prog 1, broken := false, cause := 0, weights := List.replicate 64 0, pred := [], hosts := [2 ^ 31 + 7],
    masks := [], bytes := [(0, 8192)], base := 0, ring := 4096, tokens := toks, landed := 0, heat := [(0, 3)], recent := [], tally := GateTally.zero }
def tGateNet : State :=
  let s := tSet (tCore 2 tCoreSt) [(HRN_Q_CTX.LIMIT 5, 2), (PRT_PORT_ID.HARNESS 4, 5)]
  let s := s.setCch 7 (Word.ofN (1 + 2 * 5 + 4 * 2 ^ 16 + 2 * 2 ^ 32))
  { s with mem := tBytes 0 (List.replicate 64 0 ++ bytesLE 8 (2 ^ 31 + 7)) }
def tGateAt (c : GateCtx) : State := { tGateNet with gate := { GateSt.initial with ctxs := [c] } }
def tGf (kind op ad st : Nat) (l : Bool) (bs : List Byte) : Frame :=
  FrameSpec.make { cls := 1, kind := kind, dst := 9, src := 7, harness := 5, op := op, ctx := 4, addr := ad, epoch := 1, seq := 6, status := st, last := l, payload := bs }
theorem witness_gateCommands :
    (let s := tSet tGateNet [(CRX_GATE_CMD.BUSY 0, 1)]
     awake s ∧ s.opens .faultCh (CRX_GATE_CMD.a 0) ∧ s.rb (CRX_GATE_CMD.BUSY 0) = true) ∧
    (let d := tGDesc 1 2
     let s := (List.range 8).foldl (fun (t : State) w => t.setReg (CRX_GATE_D.a 0 w) (d.getD w 0)) tGateNet
     let c0 : GateCtx := { tGate0 1 [] with desc := d, weights := [], hosts := [], bytes := [], ring := 0, heat := [] }
     d = (List.range 8).map (fun w => s.reg (CRX_GATE_D.a 0 w)) ∧ s.rb (CRX_GATE_CMD.BUSY 0) = false ∧ s.mpStopped = false ∧
     s.findGate 4 = none ∧ s.gateFits 0 c0 none ∧ s.hRange c0.harness ((c0.word 3).field 0 40) c0.allWeights = some [(0, 64)] ∧
     s.hRange c0.harness ((c0.word 4).field 0 40) (4 * c0.e) = some [(64, 4)] ∧ s.mem.badWords 5 0 64 = [] ∧ s.mem.badWords 5 64 4 = []) ∧
    lookupKey ([(0, 8)] : List (Nat × Nat)) 0 = some 8 := by decide +kernel
theorem witness_gateReform :
    (let d := tGDesc 1 2
     let s := (List.range 8).foldl (fun (t : State) w => t.setReg (CRX_GATE_D.a 0 w) (d.getD w 0)) (tGateAt (tGate0 1 []))
     let c0 : GateCtx := { tGate0 1 [] with desc := d, weights := [], hosts := [], bytes := [], ring := 0, heat := [] }
     s.findGate 4 = some (tGate0 1 []) ∧ s.rf (HRN_WIT_CFG.MODE 5) = 0 ∧ (tGate0 1 []).epoch ≠ c0.epoch ∧ (tGate0 1 []).harness = c0.harness ∧
     s.gateFits 0 c0 (some (tGate0 1 [])) ∧ c0.passes = 1 ∧ (lookupKey (tGate0 1 []).bytes (c0.cluster 0)).isSome = true) := by decide +kernel
theorem witness_tokenLands :
    (let f := tGf 3 1 0 0 true (List.replicate 64 0)
     let s := tLand tGateNet (.cluster 0) f
     awake s ∧ f.kind = 3 ∧ f.op = 1 ∧ s.landed (.cluster 0) f = some ⟨.cluster 0, f, some 4⟩ ∧ s.findGate f.ctx = none) ∧
    (∀ prog ∈ [0, 1],
      let f := tGf 3 1 0 0 true (List.replicate 64 0)
      let c := tGate0 prog []
      let s := tLand (tGateAt c) (.cluster 0) f
      s.gateTakes 0 f c ⟨.cluster 0, f, some 4⟩ ∧ c.epoch = f.epoch ∧ f.first = true ∧ f.last = true ∧ f.frag = 0 ∧ f.len = c.tokBytes ∧
      f.payload.length = c.tokBytes ∧ 0 < c.slots ∧ f.tstatus ≠ 0x06 ∧ s.comp.waits = [] ∧ s.comp.flights = [] ∧
      s.cchCount (4096 * c.die + c.notify) + 1 ≤ s.cchCap (4096 * c.die + c.notify) ∧
      s.mem.mergeFails c.harness (addrS 0 c.base) c.tokBytes = [] ∧
      (s.mem.writeRuns c.harness [(addrS 0 c.base, c.tokBytes)] f.payload).mergeFails c.harness (addrS 0 (c.ring + c.landed % 256)) 1 = [] ∧
      c.program = (prog == 1) ∧ c.predOn = false ∧ c.prefetch = false ∧ c.overflow = 0 ∧ 1 ≤ c.k ∧
      (let vals := (piecesOf c.tokFmt.bytes c.h f.payload).map (fun b => decodeElem c.tokFmt (leNat b) 0)
       let logits := (List.range c.e).map (fun i => (i, c.logit vals i))
       logits.any (fun p => isNanCode .fp32 p.2) = false ∧
       sortDesc (fun p => rankKey p.2) (logits.filter (fun p => (c.host p.1).isSome)) ≠ [])) ∧
    (tGf 3 1 0 6 true (List.replicate 64 0)).tstatus = 0x06 ∧ (tGf 3 1 0 0 true [0]).len ≠ (tGate0 0 []).tokBytes ∧
    (tGf 3 1 0 0 false []).last = false ∧ State.freeSlot (tGate0 0 []) = some 0 ∧ (tGate0 0 []).epoch ≠ { tGf 3 1 0 0 true [] with w4 := 2 }.epoch ∧
    (tGate0 0 []).resBytes ≤ 4096 := by decide +kernel
/-- A token of FEID 7, SEQ 6, in phase `ph`. -/
def tTok (slot ph : Nat) (l : List Chosen) : Token := ⟨slot, 7, 6, [(0, List.replicate 64 0)], some 0, false, ph, [], l, 0, 0⟩
theorem witness_tokenSlots :
    (let c := tGate0 0 [tTok 0 3 [], { tTok 1 3 [] with seq := 5 }]
     State.freeSlot c = none) ∧
    (let f := tGf 3 1 0 0 true (List.replicate 64 0)
     (tGate0 0 [tTok 0 3 []]).tokens.any (fun t => t.src == f.src && t.seq == f.seq) = true ∧
     f.len = (tGate0 0 []).tokBytes) := by decide +kernel
theorem witness_tokenReplies : (tGateAt (tGate0 0 [])).reaches 0 5 0 7 4 ∧ (tGateAt (tGate0 0 [])).reaches 0 5 1 7 4 :=
  ⟨reaches7 _ 0 (by decide +kernel) (by decide +kernel) (by decide +kernel), reaches7 _ 1 (by decide +kernel) (by decide +kernel) (by decide +kernel)⟩
theorem witness_selection :
    (∀ n ∈ [0, 1],
      let r : SelRec := ⟨4, bytesLE 1 0 ++ bytesLE 1 n ++ List.replicate 62 0⟩
      let c := tGate0 1 [tTok 0 1 []]
      let s := { tGateNet with gate := { GateSt.initial with ctxs := [c], recs := [r] } }
      awake s ∧ s.gate.recs.find? (fun y => y.ctx == 4) = some r ∧ s.findGate 4 = some c ∧ c.program = true ∧ leAt r.bytes 0 1 = 0 ∧
      c.overflow = 0 ∧ c.prefetch = false ∧ s.fault.outUnits = [] ∧ leAt r.bytes 1 1 = n ∧ 1 ≤ c.k ∧ leAt r.bytes 4 2 % 4096 < c.e ∧
      (c.host (leAt r.bytes 4 2 % 4096)).isSome = true) ∧
    (let f := tGf 4 1 7 0 false (List.replicate 9 0 ++ bytesLE 1 1 ++ List.replicate 54 0)
     let c := tGate0 0 []
     let s := tLand (tGateAt c) (.cluster 0) f
     f.kind = 4 ∧ f.op = 1 ∧ s.gateTakes 0 f c ⟨.cluster 0, f, some 4⟩ ∧ f.frag = 0 ∧ f.last = false ∧ f.mcast = false ∧ f.trav = false ∧
     s.maskHosts c f.payload = [(7, [(0, 0, 0)])] ∧ f.harness = 5 ∧ f.cls = 1) := by decide +kernel
theorem witness_outputs :
    (let f := tGf 4 2 7 0 true (List.replicate 128 0)
     awake (tLand tGateNet (.cluster 0) f) ∧ (tLand tGateNet (.cluster 0) f).findGate f.ctx = none) ∧
    (∀ l ∈ [[(⟨0, 0, 0x3F800000, [], false⟩ : Chosen), ⟨1, 0, 0x3F800000, [], false⟩], [⟨0, 0, 0x3F800000, [], false⟩]],
      let f := tGf 4 2 7 0 true (List.replicate 128 0)
      let tk := tTok 0 3 l
      let c := tGate0 0 [tk]
      let s := tLand (tGateAt c) (.cluster 0) f
      s.gateTakes 0 f c ⟨.cluster 0, f, some 4⟩ ∧ tk.slot = f.addr / 2 ^ 43 % 256 ∧ tk.phase = 3 ∧ tk.src = f.addr % 2 ^ 18 ∧ tk.seq = f.seq ∧
      0 = f.addr / 2 ^ 36 % 8 ∧ 0 = f.addr / 2 ^ 24 % 4096 ∧ f.first = true ∧ f.last = true ∧ f.frag = 0 ∧ f.payload.length = c.outBytes ∧
      s.fault.outUnits = [] ∧ c.rnd = .rne ∧ c.resBytes ≤ 4096 ∧ c.tally.tokens + 1 < 65536) ∧
    (let c := tGate0 0 [tTok 0 3 []]
     (tGateAt c).findGate 4 = some c ∧ (tTok 0 3 []).phase ≠ 0) := by decide +kernel
/-- Crux die 0 with CRX_STORE registers for harness 5: REPL 1, blocks of 64 KiB, 1 x 1 x 1, device 0 alone, 32 pages. -/
def tStoreRegs : State :=
  tSet tGateNet [(CRX_STORE_D0.HARNESS 0, 5), (CRX_STORE_D0.REPL 0, 1), (CRX_STORE_D0.BLOCK_LOG2 0, 16), (CRX_STORE_D0.LAYERS 0, 1),
    (CRX_STORE_D0.EXPERTS 0, 1), (CRX_STORE_D0.BLOCKS 0, 1), (⟨CRX_STORE_DEV_MASK.a 0, 0, 64⟩, 1), (CRX_STORE_BUDGET.V 0, 32),
    (HRN_Q_HBM.LIMIT 5, 64)]
def tStore (ctx : Nat) : Store := { tStoreRegs.storeOf 0 ctx with dir := 0, pool := 0 }
/-- The store is created, with directory word `w0` at H 0 of harness 5. -/
def tStored (w0 : Word) : State :=
  let s := tSet tStoreRegs [(CRX_STORE_DIR.STATE 0, 1)]
  { s with gate := { GateSt.initial with stores := [tStore 4] }, mem := tBytes 0 (bytesLE 8 w0.toNat) }
theorem witness_storeCommands :
    (let s := tGateAt (tGate0 0 [])
     awake s ∧ s.opens .faultCh (CRX_GATE_HEAT_CTL.a 0) ∧ s.opens .faultCh (CRX_GATE_HEAT.a 0) ∧ s.opens .faultCh (CRX_STORE_CMD.a 0) ∧
     (tSet s [(CRX_GATE_SEL.CTX 0, 4)]).gateSel 0 = some (tGate0 0 [])) ∧
    (let s := tSet tGateNet [(CRX_STORE_CMD.BUSY 0, 1)]
     s.rb (CRX_STORE_CMD.BUSY 0) = true ∧ s.opens .faultCh (CRX_STORE_CMD.a 0)) ∧
    (let s := tStored 1
     s.rb (CRX_STORE_CMD.BUSY 0) = false ∧ s.gate.scmds = [] ∧ (s.findStore 0).isSome = true ∧
     s.grantable (s.rf (CRX_STORE_D0.HARNESS 0)) = true ∧ s.liveStore 0 = some (tStore 4) ∧ (tStore 4).ctx = 4 ∧ (tStore 4).dir < 2 ^ 40 ∧
     (tStore 4).pool < 64) ∧
    (let s := tStoreRegs
     let st := s.storeOf 0 4
     s.findStore 0 = none ∧ s.grantable st.h = true ∧ s.hRange st.h (s.rf (CRX_STORE_MANIFEST.V 0)) (8 * st.layers * st.experts) = some [(0, 8)] ∧
     s.mem.badWords 5 0 8 = [] ∧ s.storeFieldsOk st (some [⟨0, 0, 0, 0, false⟩]) = true ∧ s.quotaOk .hbm st.h st.pages = true ∧
     s.ovfHeld 0 st = true ∧ s.mem.pcmds = [] ∧ s.rf (POOL_STS.STATE 1) = 0 ∧ (∃ g ∈ s.pageGaps, st.pages ≤ g.2) ∧
     (∃ g ∈ s.hGaps st.h, st.pages ≤ g.2) ∧ st.dirBytes ≤ st.pages * 4096) := by decide +kernel
theorem witness_storePlaces : ∀ b, ((tStoreRegs.storeOf 0 4).place b 0 [⟨0, 0, 0, 0, false⟩]).ovf ≤ 0 := fun _ => Nat.le_refl 0
theorem witness_fetchAndBlock :
    (∀ v ∈ [1, 5, 129],
      let w := Word.ofN v
      let f := tGf 4 3 (7 * 2 ^ 32) 0 true []
      let s : State := { tStored w with fwd := { tNet.fwd with inbox := [⟨.cluster 0, f, none⟩] } }
      f.kind = 4 ∧ f.op = 3 ∧ s.landed (.cluster 0) f = some ⟨.cluster 0, f, none⟩ ∧ s.fault.outUnits = [] ∧ f.addr / 2 ^ 32 % 2 ^ 18 = 7 ∧
      s.liveStore 0 = some (tStore 4) ∧ (tStore 4).die = 0 ∧ (tStore 4).ctx = f.ctx ∧ (tStore 4).index (f.addr % 2 ^ 32) = some 0 ∧
      s.hRange 5 0 16 = some [(0, 16)] ∧ s.mem.badWords 5 0 16 = [] ∧ w = Word.ofN (leAt (s.mem.readRuns 5 [(0, 16)]) 0 8) ∧
      w.field 0 1 = 1 ∧ w.field 1 1 = 0 ∧ (tStore 4).repl = 1 ∧ (w.field 2 1 = 1 ∨ w.field 2 1 = 0 ∧ (w.field 7 6 = s.devIndex ∨ w.field 7 6 = 1))) ∧
    (let f := tGf 4 4 (7 * 2 ^ 32) 0 true [1]
     f.op = 4 ∧ f.addr / 2 ^ 32 % 2 ^ 18 ≠ f.dst ∧ f.mcast = false ∧ f.trav = false ∧ tGateNet.liveStore 0 = none ∧ tGateNet.gate.fill = none) := by
  decide +kernel
/-- Ring pair 2 of harness 5, ACTIVE, of 64 entries each way, both in host memory, with the entries `es` waiting and `runs` in progress;
core 3 is in state `st`. -/
def tRing (st : Nat) (es : List (List Byte)) (rn : List RingRun) : State :=
  let s := tSet (tCore st tCoreSt) [(HUB_HOST_CTL.UP0, 1), (HUB_HOST_CTL.NONE, 0), (RING_CFG.SQ_LOG2 2, 6), (RING_CFG.CQ_LOG2 2, 6), (RING_CFG.HARNESS 2, 5),
    (RING_STS.STATE 2, 1), (RING_STS.SQ_TAIL 2, es.length), (RING_STS2.CQ_PHASE 2, 1), (CRX_PFLAG_BIND.VALID 0 0, 1),
    (CRX_PFLAG_BIND.HARNESS 0 0, 5), (HRN_Q_RINGS.LIMIT 5, 4), (HRN_Q_RINGS.USED 5, 1)]
  { s with host := { HostSt.initial with opened := [2], runs := rn, next := 9,
                                         cache := (List.range es.length).map (fun k => (65536 * 2 + k, es.getD k [])) } }
/-- An entry of opcode `o` and flags `f`, with its arguments from byte 16. -/
def tEnt (o f : Nat) (args : List Byte) : List Byte := padTo 64 0 (bytesLE 1 o ++ bytesLE 1 f ++ bytesLE 6 5 ++ bytesLE 8 77 ++ args)
theorem heads_host (s : State) (i opc : Nat) (es : List (List Byte))
    (h : s.ringState i = 1 ∧ s.peek i = .cmd es true ∧ entOp (es.headD []) = opc ∧ s.canStart i es = true ∧ s.sqWait i = es.length ∧
      (∀ r ∈ s.host.runs, r.no < s.host.next) ∧ s.rf (RING_CFG.SQ_LOC i) = 0) : s.heads i opc es :=
  ⟨h.1, h.2.1, h.2.2.1, h.2.2.2.1, h.2.2.2.2.1, h.2.2.2.2.2.1, Or.inl h.2.2.2.2.2.2⟩
theorem witness_doorbells :
    (let s := tRing 2 [] []
     awake s ∧ s.pageRing 0 3 = none ∧ s.pageRing 0 2 = some 2 ∧ 2 < 8192 ∧ (1 : Nat) < s.sqSize 2 ∧ s.sqSize 2 ≤ 64 ∧
     (0 + s.cqSize 2 - s.rf (RING_STS2.CQ_HEAD 2)) % s.cqSize 2 ≤ s.cqUsed 2 ∧ s.sqWait 2 = 0 ∧
     s.cqUsed 2 < (5 + s.cqSize 2 - s.rf (RING_STS2.CQ_HEAD 2)) % s.cqSize 2 ∧ 0 < s.cqSize 2 ∧ s.cqSize 2 ≤ 64) ∧
    (∀ op ∈ [1, 2, 3],
      let f := FrameSpec.make { cls := 2, kind := 5, dst := 9, src := 7, harness := 5, op := op, ctx := 2, payload := [0, 0] }
      let s := tSet (tRing 2 [] []) [(RING_CFG.SQ_LOC 2, 1)]
      let t : State := { s with fwd := { tNet.fwd with steer := [⟨.ring, f, some 4⟩] } }
      awake t ∧ t.fwd.steer.find? (fun y => y.place == .ring) = some ⟨.ring, f, some 4⟩ ∧ f.op = op ∧ t.ringAccepts f = false ∧
      (tSet t [(RING_CFG.DB_ANY 2, 1)]).ringAccepts f = true ∧ leAt f.payload 0 2 < s.sqSize 2 ∧ leAt f.payload 0 2 < s.cqSize 2 ∧
      s.sqWait 2 = 0 ∧ (leAt f.payload 0 2 + s.cqSize 2 - s.rf (RING_STS2.CQ_HEAD 2)) % s.cqSize 2 ≤ s.cqUsed 2 ∧ f.first = true ∧
      s.host.submits = []) := by decide +kernel
theorem witness_submit :
    (let f := FrameSpec.make { cls := 2, kind := 5, dst := 9, src := 7, harness := 5, op := 3, ctx := 2, last := false, payload := [0, 0] }
     f.first = true ∧ f.last = false) ∧
    (let f := FrameSpec.make { cls := 2, kind := 5, dst := 9, src := 7, harness := 5, op := 3, ctx := 2, payload := List.replicate 64 0 }
     let s := tSet (tRing 2 [] []) [(RING_CFG.SQ_LOC 2, 1), (RING_CFG.DB_ANY 2, 1), (RING_STS.STATE 2, 3)]
     let t : State := { s with fwd := { tNet.fwd with steer := [⟨.ring, f, some 4⟩] } }
     t.ringAccepts f = true ∧ f.first = true ∧ f.last = true ∧ f.payload.length = 64 ∧ t.sqWait 2 + 1 < t.sqSize 2 ∧ t.sqSize 2 ≤ 65536 ∧
     t.ringState 2 = 3 ∧ t.sqTail 2 < t.sqSize 2 ∧ t.hRange (t.ringH 2) (t.rf (RING_SQ_BASE.V 2) + 64 * t.sqTail 2) 64 = some [(0, 64)] ∧
     t.mem.mergeFails 5 0 64 = [] ∧ t.comp.flights = []) := by decide +kernel
theorem witness_ringPair :
    (let s := tSet (tRing 2 [] []) [(RING_CMD.BUSY, 1)]
     awake s ∧ s.opens .faultCh RING_CMD.a ∧ s.rb RING_CMD.BUSY = true) ∧
    (let s := tRing 2 [] []
     s.rb RING_CMD.BUSY = false ∧ s.enableStatus 2 = 0x0E ∧ s.ringState 0 = 0 ∧ s.ringState 2 = 1 ∧ s.sqWait 2 = 0 ∧ s.sqHead 2 < s.sqSize 2 ∧
     s.host.submits = [] ∧ s.host.waits = [] ∧ s.host.disable = [] ∧ s.host.cut = [] ∧ s.pauseCause 2 = false ∧ s.runsOf 2 = [] ∧
     s.ringH 2 ≠ 0 ∧ s.hrnState 5 ≠ 0) ∧
    (tSet (tRing 2 [] []) [(RING_STS.STATE 2, 0)]).enableStatus 2 = 0 ∧
    (tRing 2 [] [⟨0, 2, 0, 0x01, 0, 5, 77, [], [], none⟩]).runsOf 2 ≠ [] := by decide +kernel
theorem witness_headsPlain :
    (tRing 2 [tEnt 0 0 []] []).heads 2 0x00 [tEnt 0 0 []] ∧ (tRing 2 [tEnt 1 0 []] []).heads 2 0x01 [tEnt 1 0 []] ∧
    (tRing 2 [tEnt 2 0 []] []).heads 2 0x02 [tEnt 2 0 []] :=
  ⟨heads_host _ _ _ _ (by decide +kernel), heads_host _ _ _ _ (by decide +kernel), heads_host _ _ _ _ (by decide +kernel)⟩
/-- The arguments of GO and HALT for core 3. -/
def tMask : List Byte := [0, 0] ++ bytesLE 4 8
theorem witness_headsCores :
    ((tRing 1 [tEnt 0x11 0 tMask] []).heads 2 0x11 [tEnt 0x11 0 tMask] ∧
      (let s := tRing 1 [] []
       State.maskCores (leAt tMask 0 1) (leAt tMask 2 4) = [3] ∧ s.boundCore 3 = true ∧ s.coreH 3 = s.ringH 2 ∧ s.cstate 3 = 1 ∧
       s.mayRun (s.ringH 2) = true)) ∧
    ((tRing 2 [tEnt 0x12 0 tMask] []).heads 2 0x12 [tEnt 0x12 0 tMask] ∧
      (let s := tRing 2 [] []
       s.rope.ctxs = [] ∧ s.comp.flights = [] ∧ s.cstate 3 = 2)) ∧
    (∃ k ∈ State.maskCores 0 16, (tRing 1 [] []).boundCore k = false ∨ (tRing 1 [] []).coreH k ≠ (tRing 1 [] []).ringH 2) :=
  ⟨⟨heads_host _ _ _ _ (by decide +kernel), by decide +kernel⟩, ⟨heads_host _ _ _ _ (by decide +kernel), by decide +kernel⟩, by decide +kernel⟩
/-- The arguments of a LOAD on core `q`. -/
def tLoadArgs (q : Nat) : List Byte := [0, 1] ++ bytesLE 4 q ++ bytesLE 5 0 ++ bytesLE 3 4096
theorem witness_headsLoad :
    (∀ q ∈ [8, 16], (tRing 1 [tEnt 0x10 1 (tLoadArgs q), tEnt 0xFF 0 []] []).peek 2 = .cmd [tEnt 0x10 1 (tLoadArgs q), tEnt 0xFF 0 []] true) ∧
    (tRing 1 [tEnt 0x10 1 (tLoadArgs 8), tEnt 0xFF 0 []] []).heads 2 0x10 [tEnt 0x10 1 (tLoadArgs 8), tEnt 0xFF 0 []] ∧
    (∀ k ∈ State.maskCores 0 8, (tRing 1 [] []).boundCore k = true ∧ (tRing 1 [] []).coreH k = (tRing 1 [] []).ringH 2) ∧
    ((tRing 1 [tEnt 0x10 1 (tLoadArgs 8), tEnt 0xFF 0 []] []).loadCheck (State.maskCores 0 8) 1 5 0 4096 tImage).1 = 0 := by
  refine ⟨by decide +kernel, heads_host _ _ _ _ (by decide +kernel), by decide +kernel, ?_⟩
  have h := tImage_rev
  unfold State.loadCheck
  rw [if_neg (by decide +kernel), if_neg (by decide +kernel), if_neg (by decide +kernel), if_neg (by decide +kernel), if_neg (by decide +kernel), if_neg h, if_neg (by decide +kernel), if_neg (by decide +kernel)]
  rfl
/-- The arguments of a WAIT_FLAG on package flag `f` for value `v`. -/
def tFlagArgs (f v : Nat) : List Byte := bytesLE 2 f ++ bytesLE 1 v ++ bytesLE 4 1000
theorem witness_headsWait :
    ((tRing 2 [tEnt 0x21 0 (tFlagArgs 1 0)] []).heads 2 0x21 [tEnt 0x21 0 (tFlagArgs 1 0)]) ∧
    (let s := tRing 2 [] []
     leAt (tFlagArgs 1 0) 0 2 % 4096 = 1 ∧ s.pflagH 1 = some (s.ringH 2) ∧ s.pflagH 300 ≠ some (s.ringH 2) ∧ leAt (tFlagArgs 1 0) 3 4 ≠ 0 ∧
     s.flagOf (pfKey 1) = false ∧ s.flagOf (pfKey 1) ≠ true) :=
  ⟨heads_host _ _ _ _ (by decide +kernel), by decide +kernel⟩
/-- Ring pair 2 given to harness 0, with pool 1 of harness 0 at H 0. -/
def tRing0 (es : List (List Byte)) : State :=
  { tSet (tRing 2 es []) [(RING_CFG.HARNESS 2, 0), (POOL_STS.STATE 1, 1), (POOL_PAGES.V 1, 16), (⟨POOL_PBASE.a 1, 0, 28⟩, 64)] with
    mem := tBytes 0x40000 (List.replicate 64 0) }
theorem witness_headsRemote :
    ((tRing 2 [tEnt 0x22 0 [0, 1]] []).heads 2 0x22 [tEnt 0x22 0 [0, 1]] ∧ (tRing 2 [] []).ringH 2 ≠ 0) ∧
    ((tRing0 [tEnt 0x22 0 [0, 1]]).heads 2 0x22 [tEnt 0x22 0 [0, 1]] ∧
      (let s := tRing0 [tEnt 0x22 0 [0, 1]]
       s.ringH 2 = 0 ∧ leAt [0, 1] 1 1 = 1 ∧ s.hRange 0 0 16 = some [(0x40000, 16)] ∧ s.mem.badWords 0 0x40000 16 = [] ∧
       leAt [0, 1] 0 1 % 64 = s.devIndex ∧ s.devIndex < s.planeSize ∧ s.fwd.steer = [] ∧ s.fault.outUnits = [])) :=
  ⟨⟨heads_host _ _ _ _ (by decide +kernel), by decide +kernel⟩, ⟨heads_host _ _ _ _ (by decide +kernel), by decide +kernel⟩⟩
theorem witness_ringEnds :
    (∀ opc ∈ [0x21, 0x22],
      let r : RingRun := ⟨3, 2, 0, opc, 0, 5, 77, [], [], none⟩
      let s := tRing 2 [] [r]
      awake s ∧ (s.runsOf 2)[0]? = some r ∧ s.findRun r.no = some r ∧ r.ended = none ∧
      s.comp.waits.any (fun w => w.core == 1000000 + r.no && w.met) = false) ∧
    (let r : RingRun := ⟨3, 2, 0, 0x22, 0, 5, 77, [0, 1], [], none⟩
     let f := FrameSpec.make { cls := 6, kind := 6, dst := 9, src := 7, op := 0x12, tag := 4, payload := List.replicate 16 0 }
     let s := tRing 2 [] [r]
     let t : State := { s with host := { s.host with remote := [(3, 4, 0)] }, fwd := { tNet.fwd with steer := [⟨.mgmt, f, none⟩] } }
     awake t ∧ t.mgmtHeld = false ∧ t.fwd.steer.find? (fun y => y.place == .mgmt) = some ⟨.mgmt, f, none⟩ ∧ f.op = 0x12 ∧
     t.host.remote.find? (fun y => y.2.1 == f.tag) = some (3, f.tag, 0) ∧ t.findRun 3 = some r) ∧
    (∀ fl ∈ [0, 4, 8],
      let r : RingRun := ⟨3, 2, 0, 0x00, fl, 5, 77, [], [], some ⟨0, 0, []⟩⟩
      let s := tRing 2 [] [r]
      let t := { s with host := { s.host with slots := [(64 * 2 + 5, ⟨1, true, 0, 0⟩)] } }
      (t.runsOf 2)[0]? = some r ∧ t.findRun r.no = some r ∧ t.ringState 2 = 1 ∧ t.rf (RING_CFG.CQ_LOC 2) = 0 ∧ t.rb HUB_HOST_CTL.NONE = false ∧
      t.cqUsed 2 < t.cqSize 2 ∧ t.cqSize 2 ≤ 65536 ∧ t.rf (RING_STS.CQ_TAIL 2) < t.cqSize 2 ∧ t.sqWait 2 = 0 ∧
      t.rb (RING_IRQ.IRQ_EN 2) = false ∧ r.ring = 2 ∧ (sparseGet (fun _ => RingSlot.idle) t.host.slots (64 * 2 + r.slot)).armed = true) := by
  decide +kernel
theorem witness_dma :
    (∀ opc ∈ [1, 2],
      let r : RingRun := ⟨3, 2, 0, opc, 0, 5, 77, bytesLE 8 0x1000 ++ bytesLE 8 0 ++ bytesLE 4 8, [], none⟩
      let s : State := { tRing 2 [] [r] with mem := tBytes 0 [] }
      (s.runsOf 2)[0]? = some r ∧ s.findRun r.no = some r ∧ leAt r.args 16 4 = 8 ∧
      s.hRange (s.ringH 2) (leAt r.args 8 5) (leAt r.args 16 4) = some [(0, 8)] ∧ s.comp.flights = [] ∧ s.mem.mergeFails 5 0 8 = [] ∧
      s.mem.badWords 5 0 8 = []) ∧
    (let s := tSet (tRing 2 [] []) [(RING_IRQ.IRQ_EN 2, 1)]
     let t := { s with host := { s.host with unsig := [(2, 1)] } }
     awake t ∧ t.rb (RING_IRQ.IRQ_EN 2) = true ∧ (lookupKey t.host.unsig 2).isSome = true ∧ t.rb HUB_HOST_CTL.NONE = false ∧
     t.rf (RING_CFG.VF 2) = 0) := by decide +kernel
theorem witness_hostPorts :
    (let s := tSet tUp [(HUB_HOST_CTL.NONE, 0), (HUB_HOST_CTL.UP1, 1), (HUB_HOST_CTL.ACTIVE, 0)]
     awake s ∧ s.rb HUB_HOST_CTL.NONE = false ∧ s.rb (State.upBit (s.rf HUB_HOST_CTL.ACTIVE)) = false ∧
     s.rb (State.upBit (1 - s.rf HUB_HOST_CTL.ACTIVE)) = true ∧ s.opens .pcie1 HUB_HOST_CTL.a ∧ s.standby .pcie1 = true ∧ s.host.opened = []) ∧
    (let s := tSet tUp [(HUB_HOST_CTL.UP0, 1)]
     s.rb (State.upBit (s.rf HUB_HOST_CTL.ACTIVE)) = true) ∧
    (let s := tSet (tRing 2 [] []) [(RING_CFG.VF 2, 7)]
     awake s ∧ (∀ i ∈ s.host.opened, i < 8192) ∧ (∃ i ∈ s.host.opened, s.rf (RING_CFG.VF i) = 6 + 1) ∧
     (∃ i ∈ s.host.opened, s.rf (RING_CFG.VF i) ≠ 8 + 1) ∧ s.opens .faultCh (HUB_VF_BIND.a (8 + 1)) ∧ s.vfRings (8 + 1) = []) ∧
    (let s : State := { tSet tNet [(HUB_BAR4_CFG.HARNESS, 5)] with mem := tBytes 0 [] }
     awake s ∧ s.standby .faultCh = false ∧ s.campOk 4 = true ∧ s.hrnState (s.rf HUB_BAR4_CFG.HARNESS) ≠ 0 ∧
     s.hRange (s.rf HUB_BAR4_CFG.HARNESS) (s.rf HUB_BAR4_CFG.BASE + 16) 8 = some [(16, 8)] ∧ s.mem.badWords 5 16 8 = [] ∧
     s.mem.mergeFails 5 16 8 = [] ∧ s.comp.flights = [] ∧ s.hRange (s.rf HUB_BAR4_CFG.HARNESS) (s.rf HUB_BAR4_CFG.BASE + 65536) 8 = none) := by
  decide +kernel
/-- Pool 3 of harness 5: four buffers of 4 KiB at H 65536 and device page 16, READY, all free, buffer 0 linked to 1. -/
def tPoolSet (s : State) : State :=
  { tSet s [(POOL_CFG.HARNESS 3, 5), (POOL_CFG.KIND 3, 1), (POOL_CFG.BUF_LOG2 3, 12), (POOL_PAGES.V 3, 4), (POOL_PBASE.V 3, 16), (POOL_HBASE.V 3, 65536),
      (POOL_STS.STATE 3, 1), (POOL_STS.FREE 3, 4), (POOL_HEAD.V 3, 0), (POOL_REQ.LIMIT 3 0, 2), (HRN_Q_HBM.LIMIT 5, 64)] with
    mem := tBytes 65536 (bytesLE 8 1) }
theorem witness_poolCommands :
    (let s := tSet (tPoolSet tNet) [(POOL_CMD.BUSY 3, 1)]
     awake s ∧ s.host.waits = [] ∧ s.opens .faultCh (POOL_CMD.a 3) ∧ s.rb (POOL_CMD.BUSY 3) = true) ∧
    (let s := tSet (tPoolSet tNet) [(POOL_STS.STATE 3, 0)]
     s.createStatus 3 = 0 ∧ s.rb (POOL_CMD.BUSY 3) = false ∧ s.poolH 3 ≠ 0 ∧ s.rf (HRN_Q_HBM.USED (s.poolH 3)) + s.rf (POOL_PAGES.V 3) < 2 ^ 28 ∧
     s.rf (POOL_STS.STATE 3) = 0) ∧
    (tPoolSet tNet).createStatus 3 = 0x0E ∧ (tPoolSet tNet).rf (POOL_STS.STATE 3) ≠ 2 ∧ (tPoolSet tNet).rf (POOL_STS.STATE 3) ≠ 0 ∧
    (tSet (tPoolSet tNet) [(POOL_STS.STATE 3, 2)]).rf (POOL_STS.STATE 3) = 2 ∧
    (tPoolSet tNet).opens .faultCh (POOL_REQ.a 3 2) ∧ (tPoolSet tNet).opens .faultCh (POOL_FLOOR.a 3) := by decide +kernel
theorem witness_poolCompletes :
    (∀ op ∈ [1, 2, 3],
      let s : State := { tPoolSet tNet with mem := { tBytes 65536 [] with pcmds := [(3, op)] } }
      s.mem.pcmds.find? (fun p => p.1 == 3) = some (3, op) ∧ s.bufCount 3 = 4 ∧ s.poolH 3 ≠ 0 ∧ s.hrnState (s.poolH 3) ≠ 0) ∧
    (tSet (tPoolSet tNet) [(POOL_CFG.KIND 3, 0)]).poolBuffers 3 = false := by decide +kernel
/-- The arguments of a pool command: pool 3, options, count 1 or more, bound 0, list at H 0. -/
def tPoolArgs (opt n : Nat) : List Byte := [3, BitVec.ofNat 8 opt] ++ bytesLE 2 n ++ bytesLE 4 1000 ++ bytesLE 5 0
theorem witness_poolHeads :
    (tPoolSet (tRing 2 [tEnt 0x30 0 (tPoolArgs 0 1)] [])).heads 2 0x30 [tEnt 0x30 0 (tPoolArgs 0 1)] ∧
    (tPoolSet (tRing 2 [tEnt 0x31 0 (tPoolArgs 0 1)] [])).heads 2 0x31 [tEnt 0x31 0 (tPoolArgs 0 1)] ∧
    (tPoolSet (tRing 2 [tEnt 0x32 0 (tPoolArgs 0 0)] [])).heads 2 0x32 [tEnt 0x32 0 (tPoolArgs 0 0)] ∧
    (tPoolSet (tRing 2 [tEnt 0x30 0 (tPoolArgs 1 3)] [])).heads 2 0x30 [tEnt 0x30 0 (tPoolArgs 1 3)] ∧
    (∀ opc ∈ [0x30, 0x31, 0x32],
      let s := tSet (tPoolSet (tRing 2 [tEnt opc 0 (tPoolArgs 0 1)] [])) [(POOL_CFG.HARNESS 3, 6)]
      s.poolH 3 ≠ s.ringH 2 ∧ s.canStart 2 [tEnt opc 0 (tPoolArgs 0 1)] = true) :=
  ⟨heads_host _ _ _ _ (by decide +kernel), heads_host _ _ _ _ (by decide +kernel), heads_host _ _ _ _ (by decide +kernel), heads_host _ _ _ _ (by decide +kernel),
    by decide +kernel⟩
theorem witness_poolAllocs :
    (let s := tPoolSet (tRing 2 [tEnt 0x30 0 (tPoolArgs 0 1)] [])
     3 = leAt (tPoolArgs 0 1) 0 1 % 64 ∧ s.reqEntry 3 2 = 0 ∧ leAt (tPoolArgs 0 1) 2 2 = 1 ∧ s.poolH 3 = s.ringH 2 ∧
     s.listOk 3 (s.ringH 2) (leAt (tPoolArgs 0 1) 8 5) 1 = true ∧ s.poolShut 3 = false ∧ 1 + s.rf (POOL_FLOOR.V 3) ≤ s.bufCount 3 ∧
     s.rf (POOL_STS.STATE 3) = 1 ∧ s.overLimit 3 0 1 = false ∧ s.overLimit 3 0 3 = true ∧ s.poolFits 3 0 1 = true ∧ s.host.waits = [] ∧ s.mem.dead = [] ∧
     s.rf (POOL_HEAD.V 3) = 0 ∧ 0 < s.bufCount 3 ∧ s.bufUsed 3 0 = false ∧ s.mem.poisoned (s.poolH 3) (s.bufAddr 3 0) 8 = false ∧
     leNat (s.mem.read (s.poolH 3) (s.bufAddr 3 0) 8) = 1 ∧ 1 < s.bufCount 3 ∧ s.bufUsed 3 1 = false ∧
     s.hRange (s.poolH 3) (leAt (tPoolArgs 0 1) 8 5) 8 = some [(0, 8)] ∧ s.reqUsed 3 0 + 1 < 2 ^ 28) ∧
    (let s := tSet (tPoolSet (tRing 2 [tEnt 0x30 0 (tPoolArgs 1 1)] [])) [(POOL_STS.FREE 3, 0)]
     s.overLimit 3 0 1 = false ∧ s.poolFits 3 0 1 = false ∧ leAt (tPoolArgs 1 1) 1 1 % 2 = 1 ∧ leAt (tPoolArgs 0 1) 1 1 % 2 = 0) ∧
    (∀ used ∈ [[], [(3, 0)]],
      let s : State := { tPoolSet (tRing 2 [tEnt 0x31 0 (tPoolArgs 0 1)] []) with mem := { tBytes 0 (bytesLE 8 65536) with bufs := used } }
      s.hRange (s.ringH 2) (leAt (tPoolArgs 0 1) 8 5) 8 = some [(0, 8)] ∧ s.mem.badWords 5 0 8 = [] ∧ s.listOk 3 5 0 1 = true ∧
      leAt (s.mem.readRuns (s.ringH 2) [(0, 8)]) 0 8 = s.rf (POOL_HBASE.V 3) + 0 * s.bufSize 3 ∧ 0 < s.bufCount 3 ∧
      s.bufUsed 3 0 = (used == [(3, 0)]) ∧ s.poolFree 3 + 1 < 2 ^ 28 ∧ s.bufCount 3 < 2 ^ 32) ∧
    (let r : RingRun := ⟨3, 2, 0, 0x30, 0, 5, 77, [], [], none⟩
     let w : PoolWait := ⟨3, 3, 2, 1, 0, false, 0, 1000⟩
     let s0 := tRing 2 [] [r]
     let s := { s0 with host := { s0.host with waits := [w] } }
     awake s ∧ s.host.waits = [w] ∧ w.bound ≠ 0 ∧ s.findRun w.run = some r ∧ r.no = w.run ∧ r.ended = none) := by decide +kernel
theorem witness_scrubs :
    (∀ store : Fin 3, ∀ on ∈ [0, 1],
      let s : State := { tSet (tCore 2 tCoreSt) [(HBM_SCRUB_CFG.PERIOD_H 0, on), (CRX_MEM_CFG.SCRUB_S 0, on), (HBM_SCRUB_CFG.AUTO_PITON 0, on),
        (CRX_MEM_CFG.AUTO_PITON 0, on), (CRX_CORE_STS.STATE 0, 2), (CRX_CORE_STS.HARNESS 0, 5), (HRN_STS.STATE 0, 0)] with mem := tBytes (memAddr store 0 0) [] }
      let w := memAddr store 0 0
      awake s ∧ s.rb HUB_FAULT_RING.EN = false ∧ s.scrubOn w = (on == 1) ∧ s.autoPiton w = (on == 1) ∧ s.power.hbmSr = false ∧
      s.mem.found w = .clean ∧ s.mem.pitons.any (fun p => p.1 == w) = false ∧
      s.pitonsIn (State.pitonGroup w) < State.pitonMax w ∧
      State.pitonMax w ≤ ({ s with mem := { s.mem with pitons := List.replicate 16 (64, State.pitonGroup w) } }).pitonsIn (State.pitonGroup w)) ∧
    (let s : State := { tSet tNet [(HBM_SCRUB_CFG.PERIOD_H 0, 1)] with mem := { tBytes 0 [] with ceHits := [(0, 9)] } }
     s.mem.live (s.ownAt 0) 0 = true ∧ s.pitonCe 0 ≤ (lookupKey s.mem.ceHits 0).getD 0) := by decide +kernel
/-- After reset, with a CORE clock, a cap and a bubble fraction. -/
def tCap (mhz w b : Nat) : State :=
  { State.reset with regs := [(PWR_CTL.a, Word.ofN (mhz + w * 2 ^ 11)), (PWR_STS.a, Word.ofN (b * 2 ^ 12))], boot := tUp.boot }
theorem witness_power :
    (awake tUp ∧ tUp.crampon = true) ∧
    (let s : State := { tCap 0 0 56 with power := { PowerSt.initial with est := 2 ^ 40, good := 99, sum := 100 } }
     s.rf PWR_STS.BUBBLE = 56 ∧ s.power.sum ≠ 0) ∧
    (let s : State := { tCap 0 0 0 with power := { PowerSt.initial with steps := 1 } }
     s.rf PWR_STS.BUBBLE < 32 ∧ s.power.steps = 0 + 1) ∧
    (∀ d ∈ [0, 1],
      let s : State := { tUp with regs := [(PWR_DIE_STS.a 3, (0 : Word).withField (PWR_DIE_STS.DROOP 3).lo 1 d)] }
      awake s ∧ s.rb (PWR_DIE_STS.DROOP 3) = (d == 1)) ∧
    (∀ auto ∈ [0, 1],
      let s := tSet tUp [(PWR_TRIM_CFG.AUTO, auto), (PWR_TRIM_CFG.PERIOD_S, 2)]
      let r : DieRead := ⟨700, 10, 60, true⟩
      (List.replicate 16 r).length = 16 ∧ (List.replicate 16 r)[3]? = some r ∧ s.crampon = true ∧ s.rf PWR_TRIM_CFG.PERIOD_S ≠ 0 ∧
      s.fault.outUnits = [] ∧ s.rb PWR_TRIM_CFG.AUTO = (auto == 1)) := by decide +kernel
theorem grade_range : (1200 ≤ gradeMhz ∧ gradeMhz % 100 = 0) ∧ 2800 ≤ gradeW := by
  unfold gradeMhz gradeW; repeat' split
  all_goals omega
/-- A cap of 2 W, below what is drawn. -/
def tHot (n : Nat) : State := { tCap 0 2 56 with power := { PowerSt.initial with est := 2 ^ 40, steps := n } }
theorem witness_ceiling :
    ((tHot 0).rf PWR_STS.BUBBLE = 56 ∧ (tHot 0).overCap = true ∧ 800 < (tHot 0).ceilingMhz) ∧
    (∃ n, (tHot n).ceilingMhz = 800 ∧ (tHot n).overCap = true) := by
  have g := grade_range
  have h : (tHot 0).overCap = true := by decide +kernel
  have h0 : ∀ n, (tHot n).overCap = true := fun n => h
  have hc : ∀ n, (tHot n).ceilingMhz = gradeMhz - 100 * n := fun _ => rfl
  refine ⟨⟨by decide +kernel, h0 0, ?_⟩, (gradeMhz - 800) / 100, ?_, h0 _⟩
  · rw [hc]; omega
  · rw [hc]; omega
theorem witness_lowPower :
    (let s := tSet (tPort 4 4) [(PWR_IDLE_CFG.PORT_IDLE_US, 5), (PWR_IDLE_CFG.TEN_DEEP_US, 5), (PWR_IDLE_CFG.HBM_SR_US, 5), (PRT_PORT_ID.HARNESS 4, 5),
       (⟨HRN_WAKE.a 5, 32, 16⟩, 2000), (PWR_SYS_WAKE.FREE_CLUSTER, 20000), (PWR_SYS_WAKE.HBM, 10000)]
     awake s ∧ (s.port 4).idle = false ∧ s.mayIdle 4 = true ∧ s.mayIdle 5 = false ∧ s.loneTorus 4 = false ∧ s.tenBusy 0 = false ∧
     lookupKey s.power.ten 0 = none ∧ 100 ≤ s.tolTen 0 ∧ lookupKey s.power.ten 0 ≠ some 2 ∧ s.mayDeep 0 = true ∧
     s.power.hbmSr = false ∧ s.rf PWR_IDLE_CFG.HBM_SR_US ≠ 0 ∧ 10000 ≤ s.tolHbm ∧ s.opens .faultCh (HRN_WAKE.a 5) ∧ s.opens .faultCh PWR_SYS_WAKE.a ∧
     s.opens .faultCh PWR_CTL.a) ∧
    ((tCore 4 tCoreSt).cstate 3 = 4 ∧ (tCore 4 tCoreSt).coreH 3 = 5) := by decide +kernel
theorem witness_clocks :
    (1500 ≤ (tCap 900 2000 0).rf PWR_CTL.CAP_W ∧ (tCap 900 2000 0).rf PWR_CTL.CAP_W ≤ gradeW ∧ 800 ≤ (tCap 900 2000 0).rf PWR_CTL.CORE_MHZ ∧
      (tCap 900 2000 0).rf PWR_CTL.CORE_MHZ ≤ gradeMhz ∧ (tCap 900 2000 0).rf PWR_CTL.CORE_MHZ % 100 = 0) ∧
    800 ≤ (1200#11).toNat ∧ (1200#11).toNat ≤ gradeMhz ∧ (1200#11).toNat % 100 = 0 ∧ (850#11).toNat % 100 ≠ 0 ∧
    1500 ≤ (2800#12).toNat ∧ (2800#12).toNat ≤ gradeW ∧ (1000#12).toNat < 1500 := by
  have g := grade_range
  have h1 : (tCap 900 2000 0).rf PWR_CTL.CAP_W = 2000 := by decide +kernel
  have h2 : (tCap 900 2000 0).rf PWR_CTL.CORE_MHZ = 900 := by decide +kernel
  rw [h1, h2]
  refine ⟨⟨by omega, by omega, by omega, by omega, by omega⟩, by decide, ?_, by decide, by decide, by decide, ?_, by decide⟩
  · show 1200 ≤ gradeMhz; omega
  · show 2800 ≤ gradeW; omega
/-- After reset, at camp `n` in state `st`. -/
def tCamp (n st : Nat) : State :=
  tSet State.reset ([(HUB_CAMP_STS.CAMP, n), (HUB_CAMP_STS.STATE, st)] ++ (List.range n).map (fun c => (HUB_CAMP_RPT.STATUS c, 0)))
/-- The work of a camp that found nothing, of an image of version 5. -/
def tWork : CampWork := ⟨none, [], false, 0, 0, 5, false, none, false, [], [], ⟨0, []⟩⟩
theorem witness_camps :
    (∀ n ∈ [0, 1, 2, 3, 4, 5], awake (tCamp n 0) ∧ (tCamp n 0).campState = 0 ∧ (tCamp n 0).campNow = n) ∧ tWork.fail = none ∧
    ({ tWork with fail := some (.fuse 3) } : CampWork).fail = some (.fuse 3) ∧ ({ tWork with fail := some .flashSilent } : CampWork).fail = some .flashSilent ∧
    tWork.causeA.val = 0 ∧ tWork.ptrB = false ∧
    (let s : State := { tCamp 1 0 with boot := { BootSt.initial with minSvn := 4 } }
     s.boot.minSvn ≤ tWork.svn.toNat ∧ awake s ∧ s.campNow = 1) ∧
    (({ tWork with causeA := 2 } : CampWork).causeA.val ≠ 0) ∧ tWork.causeB.val = 0 ∧ State.cleanWork tWork ∧
    (tCamp 2 0).cairn.copyA = none ∧ (tCamp 2 0).cairn.copyB = none ∧ (tCamp 4 0).boot.laserEn = false ∧ tWork.lasers.ports = [] ∧
    ({ (tCamp 4 0).boot with laserEn := true } : BootSt).laserEn = true := by decide +kernel
theorem witness_campPorts :
    (let s := tSet (tCamp 5 0) [(PRT_PORT_CTL.ENABLE 3, 1)]
     ∃ P ∈ s.enabledPorts, s.portSettled P = false) ∧
    (let s := tSet (tCamp 5 0) [(PRT_PORT_CTL.ENABLE 3, 1), (PRT_PORT_STS.STATE 3, 7)]
     ∀ P ∈ s.enabledPorts, s.portSettled P = true) := by decide +kernel
theorem witness_reset :
    (∀ g ∈ [true, false],
      let s : State := { tUp with boot := { tUp.boot with perst := false, pwrgd := g, thermTrip := false } }
      s.boot.perst = false ∧ s.boot.pwrgd = g ∧ s.boot.thermTrip = false) ∧
    ({ tUp.boot with perst := true } : BootSt).perst = true ∧ awake tUp ∧ tUp.opens .faultCh HUB_BOOT_CTL.a ∧ tUp.campState = 3 ∧ (tCamp 5 0).campState ≠ 3 ∧
    (tCamp 5 0).opens .faultCh HUB_BOOT_CTL.a ∧ (tCamp 5 1).campNow = 5 ∧ (tCamp 5 1).campState = 1 ∧ (⟨3, []⟩ : LaserUp).ports = [] ∧
    tUp.campNow ≠ 5 ∧ (tCamp 1 0).opens .faultCh HUB_JTAG_TOKEN.a ∧ (tCamp 1 0).rf (HUB_CAMP_RPT.STATUS 1) ≠ 0 ∧ (tCamp 1 0).rf HUB_JTAG_STS.TRIES < 3 ∧
    (tSet (tCamp 1 0) [(HUB_JTAG_STS.TRIES, 3)]).rf HUB_JTAG_STS.TRIES = 3 := by decide +kernel
theorem witness_lasers :
    (let s : State := { tCamp 5 1 with boot := { tUp.boot with lasers := [2] } }
     ∀ m ∈ s.boot.lasers, ∀ P ∈ State.diePorts m, s.belayUp P = false) := by decide +kernel
/-- Camp 6, with a join record of a plane of two devices that accepts any class. -/
def tJoin : State := tSet (tCamp 6 1) [(HUB_JOIN0.PLANE_ID, 77), (HUB_JOIN0.A, 2), (HUB_JOIN0.B, 1), (HUB_JOIN0.C, 1), (HUB_JOIN0.INDEX, 1), (HUB_JOIN1.EQUIV_ANY, 1)]
theorem witness_join :
    awake tJoin ∧ tJoin.opens .faultCh HUB_BOOT_CTL.a ∧ tJoin.atCamp6 = true ∧ tJoin.joinFault = none ∧ tJoin.rb HUB_JOIN1.EQUIV_ANY = true ∧
    (tSet tJoin [(HUB_JOIN0.INDEX, 2)]).joinFault = some 5 ∧
    (let s : State := { tCamp 6 1 with regs := [(HUB_CAMP_STS.a, (tCamp 6 1).reg HUB_CAMP_STS.a), (HUB_EQUIV_CLASS.a, 4), (HUB_CAMP_RPT.a 0, 0), (HUB_JOIN0.a, tJoin.reg HUB_JOIN0.a)] }
     s.atCamp6 = true ∧ s.joinFault = none ∧ s.rb HUB_JOIN1.EQUIV_ANY = false ∧ s.rf HUB_JOIN1.EQUIV_EXPECT ≠ s.rf HUB_EQUIV_CLASS.CODE ∧
     s.opens .faultCh HUB_BOOT_CTL.a) ∧
    (let s0 := tSet tJoin [(HUB_JOIN1.DEVICE_FEID, 9), (TIM_STS.LOCKED, 1), (HUB_CAMP_STS.FW_READY, 1), (HUB_PLANE.A, 2), (HUB_PLANE.B, 1), (HUB_PLANE.C, 1)]
     let s : State := { s0 with boot := { s0.boot with committed := true },
                                fwd := { s0.fwd with feid := (List.range 16).map (fun n => (n * 262144 + 9, tDev 0)) } }
     s.lockFault = none ∧ s.atCamp6 = true) ∧
    tJoin.lockFault = some 4 ∧ tUp.atCamp6 = false ∧ tUp.opens .faultCh HUB_BOOT_CTL.a := by decide +kernel
theorem witness_joinPorts : ∀ P, P < 1152 → tJoin.belayUp P = false := by decide +kernel
/-- A fault of severity `sev` against harness `h`. -/
def tRec (sev h : Nat) : FaultRec := ⟨clMEMORY, 2, sev, 6, 3, h, []⟩
theorem witness_deviceStates :
    (∀ sev ∈ [2, 3],
      let s : State := { tNet with fault := { FaultSt.initial with raised := [⟨tRec sev 5, 8⟩] } }
      awake s ∧ s.rope.ctxs = [] ∧ s.gate.ctxs = [] ∧ s.host.opened = [] ∧ s.fault.raised = [⟨tRec sev 5, 8⟩] ∧ (tRec sev 5).sev = sev ∧ s.fault.aval = []) ∧
    tNet.fault.raised = [] ∧
    (∀ d ∈ [0, 1, 2],
      let s := tSet tNet [(HUB_FAULT_STS.DEV_STATE, d)]
      s.opens .faultCh HUB_FAULT_CTL.a ∧ s.faultBitsClear ∧ s.devState = d) ∧
    ((tCore 2 tCoreSt).boundCore 3 = true ∧ (tCore 2 tCoreSt).coreH 3 ≠ 0 ∧ (tCore 2 tCoreSt).cstate 3 ∈ [2, 3, 4]) := by decide +kernel
theorem witness_units :
    (∀ u ∈ [DevUnit.crux 1, .port 3, .hub 2, .stack 4], State.unitCode u ≠ 48 ∧ State.unitCode u ∉ tUp.fault.outUnits ∧
      State.unitCode u ∈ ({ tUp.fault with outUnits := [State.unitCode u] } : FaultSt).outUnits) ∧
    tUp.rope.ctxs = [] ∧ tUp.gate.ctxs = [] ∧ tUp.host.opened = [] := by decide +kernel
theorem witness_unitPorts : ∀ P, P < 1152 → tUp.pstate P = 0 := by decide +kernel
/-- A committed plane of two devices. -/
def tPlane : State := tSet tUp [(HUB_PLANE.COMMITTED, 1), (HUB_PLANE.A, 2), (HUB_PLANE.B, 1), (HUB_PLANE.C, 1)]
theorem witness_neighbours :
    awake tPlane ∧ tPlane.rb HUB_PLANE.COMMITTED = true ∧ 1 < tPlane.dim ((0 : Fin 6).val / 2) ∧ tPlane.dim ((2 : Fin 6).val / 2) ≤ 1 ∧
    (let s := tSet tPlane [(PRT_PORT_STS.STATE 768, 4)]
     s.active 768 = true ∧ s.dim ((768 - 768) % 24 / 8) ≠ 1 ∧ s.neighbour s.devIndex ((768 - 768) % 24 / 4) = s.neighbour s.devIndex (0 : Fin 6)) := by
  decide +kernel
theorem witness_neighbourPorts : ∀ P, 768 ≤ P → P < 1152 → tPlane.active P = false := by
  have h : ∀ k : Fin 384, tPlane.active (768 + k.val) = false := by decide +kernel
  intro P h1 h2
  have e := h ⟨P - 768, by omega⟩
  simp only [Nat.add_sub_cancel' h1] at e
  exact e
theorem witness_processor :
    (∀ m ∈ [0, 1, 2, 3],
      let s := tSet tUp [(HUB_FAULT_STS.MP_STATE, m)]
      awake s ∧ s.campOk 1 = true ∧ s.rf HUB_FAULT_STS.MP_STATE = m ∧ s.opens .faultCh HUB_FAULT_CTL.a ∧ s.faultBitsClear ∧ s.host.opened = []) ∧
    (∀ en ∈ [true, false],
      let s : State := { tUp with boot := { tUp.boot with laserEn := en, lasers := [2] } }
      awake s ∧ s.opens .faultCh HUB_FAULT_CTL.a ∧ s.faultBitsClear ∧ s.boot.laserEn = en ∧
      (∀ i ∈ s.boot.lasers, ∀ P ∈ State.diePorts i, s.belayUp P = false) ∧ (∀ P ∈ State.diePorts 3, s.rb (PRT_PORT_CTL.ENABLE P) = false)) ∧
    (8#32).getLsbD 3 = true ∧ (∀ i, i < 32 → (8#32).getLsbD i = true → i = 3) := by decide +kernel
/-- A key of the fault channel. -/
def tKey : List Word := [1, 2, 3, 4]
/-- A datagram of type `ty` with payload `p` under that key. -/
def tFm (ty seq : Nat) (p : List Byte) : List Byte :=
  let b := [1, BitVec.ofNat 8 ty] ++ bytesLE 2 p.length ++ bytesLE 4 0 ++ bytesLE 8 seq ++ p
  b ++ (hmac256 (tKey.flatMap (fun w => bytesLE 8 w.toNat)) b).take 16
/-- All camps have ended and the channel has a key; the last request accepted had SEQ 5. -/
def tFmUp : State := { tUp with fault := { FaultSt.initial with key := tKey, reqSeq := 5, reqAny := true, saved := [1], hold := [⟨3, 1, [7]⟩] } }
theorem witness_fmDatagrams :
    (awake tFmUp ∧ tFmUp.fmRuns = true ∧ (tSet tFmUp [(HUB_FAULT_STS.MP_STATE, 1)]).fmRuns = false ∧ tFmUp.fmOk [1] = false) ∧
    (let p := bytesLE 4 HUB_FAULT_STS.a ++ List.replicate 12 0
     let b := tFm 1 6 p
     tFmUp.fmOk b = true ∧ State.fmType b = 1 ∧ State.fmLen b = 16 ∧ State.fmSeq b = 6 ∧ tFmUp.fault.reqSeq < State.fmSeq b ∧ 4 < State.fmSeq b ∧
     leAt (State.fmPayload b) 0 4 = HUB_FAULT_STS.a ∧ leAt (State.fmPayload b) 5 1 % 2 = 0 ∧ tFmUp.campOk 0 = true) := by decide +kernel
theorem witness_fmOthers :
    (let b := tFm 1 5 (List.replicate 16 0)
     tFmUp.fmOk b = true ∧ State.fmSeq b = tFmUp.fault.reqSeq ∧ tFmUp.fault.reqAny = true ∧
     State.fmSeq b < ({ tFmUp.fault with reqSeq := 7 } : FaultSt).reqSeq) ∧
    (let b := tFm 4 5 []
     tFmUp.fmOk b = true ∧ State.fmType b = 4 ∧ State.fmLen b = 0) ∧
    tUp.fmUp = false ∧ tFmUp.fmUp = true ∧ tFmUp.fault.hold ≠ [] ∧ (∀ i ∈ tFmUp.fault.hold, i.tag = 3) := by decide +kernel
/-- A management frame from FEID 7, of one access to the register at `a`. -/
def tReg (op src a : Nat) : Frame := FrameSpec.make { cls := 6, kind := 6, dst := 9, src := src, op := op, tag := 3, payload := bytesLE 4 a ++ List.replicate 12 0 }
def tMaster (f : Frame) : State :=
  let s := tSet tNet [(HUB_MGMT_MASTER.VALID, 1), (HUB_MGMT_MASTER.FEID, 7)]
  { s with fwd := { s.fwd with steer := [⟨.mgmt, f, some 770⟩] } }
theorem witness_inband :
    (tSet (tMaster tFrame) [(HUB_FAULT_STS.MP_STATE, 1)]).mgmtHeld = true ∧
    (∀ op ∈ [0x10, 0x11], ∀ src ∈ [7, 8], ∀ a ∈ [HUB_FAULT_STS.a, HUB_JOIN1.a],
      let f := tReg op src a
      let x : Steered := ⟨.mgmt, f, some 770⟩
      let s := tMaster f
      awake s ∧ s.mgmtHeld = false ∧ s.fwd.steer.find? (fun y => y.place == .mgmt) = some x ∧ s.inbandOk x = (src == 7) ∧ f.op = op ∧ f.len = 16 ∧
      f.payload.length = 16 ∧ f.dst < 0x3FFC0 ∧ s.campOk 0 = true ∧ s.campOk 1 = true ∧ s.fault.outUnits = [] ∧ leAt f.payload 0 4 = a ∧ s.locked = false) := by
  decide +kernel
theorem witness_inbandAnswer : (tMaster (tReg 0x10 7 HUB_FAULT_STS.a)).reaches 0 0 6 7 4 :=
  ⟨⟨tEp 0 4, by decide +kernel⟩, by decide, by decide +kernel, by decide +kernel, by decide +kernel, Or.inl rfl, by decide +kernel,
    fun f hf _ => takes_empty _ 4 6 (by decide +kernel) (by decide +kernel) (by decide +kernel) f hf⟩
/-- A fill of crux die 0 with copies in states `sts`. -/
def tFill (sts : List Nat) : State :=
  let s := tSet (tStored 1) [(HUB_FILL_CTL.BUSY, 1)]
  { s with gate := { s.gate with fill := some ⟨0, 5, 65536, (List.range sts.length).map (fun i => ⟨i, 0, 0, 1, sts.getD i 0, 0, []⟩)⟩ } }
theorem witness_fills :
    (tNet.rb HUB_FILL_CTL.BUSY = false ∧ tNet.opens .faultCh HUB_FILL_CTL.a ∧ tNet.liveStore 0 = none ∧ tNet.opens .faultCh HUB_MARK_CTL.a ∧
      tNet.rb HUB_MARK_CTL.BUSY = false ∧ (tSet tNet [(HUB_MARK_CTL.BUSY, 1)]).rb HUB_MARK_CTL.BUSY = true) ∧
    (let s := tStored 1
     let y := tStore 4
     awake s ∧ s.opens .faultCh HUB_FILL_CTL.a ∧ s.rb HUB_FILL_CTL.BUSY = false ∧ s.soleEntry 0 y 0 1 ∧ s.gate.fill = none ∧ s.hrnState y.h ≠ 0 ∧
     State.copyDev 1 0 = s.devIndex ∧ s.mfb.carabs = []) ∧
    (∀ sts ∈ [[2], [1, 1]],
      let s := tFill sts
      s.opens .faultCh HUB_FILL_CTL.a ∧ s.rb HUB_FILL_CTL.BUSY = true ∧ s.gate.fill.isSome = true ∧
      (∀ f ∈ s.gate.fill.toList, f.copies.length < 2 ^ 32 ∧ (∀ c ∈ f.copies, c.st < 3 ∧ c.dev = 1) ∧ (s.findStore f.die).isSome = true ∧
        (f.copies.find? (fun y => y.st == 1 && y.entry == 0)).isSome = (sts == [1, 1]))) := by decide +kernel
theorem witness_records :
    (tUp.rf HUB_MARGIN_CFG.PERIOD_S = 0 ∨ tUp.rf HUB_MARGIN_CFG.PERIOD_S ≠ 0) ∧ (tSet tUp [(HUB_MARGIN_CFG.PERIOD_S, 0)]).rf HUB_MARGIN_CFG.PERIOD_S = 0 ∧
    (tSet tUp [(HUB_MARGIN_CFG.PERIOD_S, 5)]).rf HUB_MARGIN_CFG.PERIOD_S ≠ 0 ∧ tUp.opens .faultCh HUB_MARGIN_CFG.a ∧ tUp.opens .faultCh HUB_FAULT_RING.a ∧
    (List.replicate 12 (40#8)).length = 12 ∧ (List.replicate 100 (⟨5, 6, 7⟩ : LaneRead)).length = 100 ∧
    (List.replicate 100 (⟨5, 6, 7⟩ : LaneRead))[3]? = some ⟨5, 6, 7⟩ ∧
    (∀ v ∈ [12 * 2 ^ 40 + 4096, 12 * 2 ^ 40 + 64, 30 * 2 ^ 40, 31 * 2 ^ 40, 11 * 2 ^ 40],
      let w := Word.ofN v
      ((12 ≤ w.field 40 5 ∧ w.field 40 5 ≤ 30 ∧ w.field 0 40 % 2 ^ w.field 40 5 = 0) ↔ (v = 12 * 2 ^ 40 + 4096 ∨ v = 30 * 2 ^ 40))) ∧
    (∀ n ∈ [0, 3],
      let e : Aval := ⟨9, tRec 1 5, n, 0, 0, 0, 100⟩
      let s : State := { tUp with fault := { FaultSt.initial with aval := [e] } }
      awake s ∧ s.fault.aval = [e] ∧ e.slot = (9 : Fin 256).val ∧ (∀ x ∈ s.fault.aval, x.slot ≠ (8 : Fin 256).val) ∧ e.count = n) := by decide +kernel
theorem witness_whiteout :
    (∀ p : Fin 2, tUp.rb (TEL_WO_STS.ACTIVE p) = false ∧
      (let s := tSet tUp [(TEL_WO_STS.ACTIVE p, 1), (TEL_WO_STS.OCC p, 4)]
       s.rb (TEL_WO_STS.ACTIVE p) = true ∧ 4 * s.rf (TEL_WO_STS.OCC p) ≤ State.woCap p ∧ s.now < (s.woOf p).lastDrop + 1000000) ∧
      (let s := tSet tUp [(TEL_WO_STS.ACTIVE p, 1), (TEL_WO_STS.OCC p, 4)]
       let t := tSet s [(TIM_NOW.V, 2000000)]
       t.rb (TEL_WO_STS.ACTIVE p) = true ∧ (t.woOf p).lastDrop + 1000000 ≤ t.now)) := by decide +kernel
theorem witness_snapshots :
    (let s := tSet tUp [(TEL_SNAP_CTL.BUSY 1, 1)]
     awake s ∧ s.opens .faultCh (TEL_SNAP_CTL.a 1) ∧ s.rb (TEL_SNAP_CTL.BUSY 1) = true) ∧
    (let s := tSet tUp [(HUB_OWN.OWNER 7, 6)]
     s.rb (TEL_SNAP_CTL.BUSY 1) = false ∧ s.owner (6 + 1) ≠ 0 ∧ s.owner (6 + 1) ≠ State.ownCode .faultCh ∧ s.owner (6 + 1) = State.ownCode .inband) ∧
    tUp.owner (6 + 1) = 0 ∧ tUp.opens .faultCh (TEL_SNAP_CTL.a 1) ∧ tUp.owner 7 ≠ State.ownCode .faultCh ∧
    State.snapOk HUB_FAULT_CNT.a 1 = true ∧ State.snapOk HUB_FAULT_CNT.a 0 = false ∧
    ({ TelSt.initial with snaps := [⟨1, [5], [true], 9⟩] } : TelSt).snaps = [⟨1, [5], [true], 9⟩] ∧ tUp.telUp = true := by decide +kernel
theorem witness_samples :
    (∀ src ∈ [0, 2, 3, 5], ∀ mode ∈ [0, 1], ∀ flt ∈ [0, 1],
      let cfg := Word.ofN (src + 7 * 2 ^ 18 + flt * 2 ^ 30 + mode * 2 ^ 31 + 3 * 2 ^ 32 + 5 * 2 ^ 38)
      let s : State := { tUp with tel := { TelSt.initial with hist := [(2 * 4, cfg)] } }
      awake s ∧ s.telUp = true ∧ s.campOk 1 = true ∧ s.histCfg 4 0 = cfg ∧ cfg.field 0 4 = src ∧ cfg.field 30 1 = flt ∧ cfg.field 18 12 = 7 ∧
      cfg.field 38 26 = 5 ∧ cfg.field 31 1 = mode) ∧
    (tUp.rf (TEL_SUM_CFG.PERIOD_MS 2) = 0) ∧
    (∀ m ∈ [0, 1],
      let s := tSet tUp [(TEL_SUM_CFG.PERIOD_MS 2, 10), (TEL_SUM_CFG.BASE 2, HUB_FAULT_CNT.a), (TEL_SUM_CFG.COUNT 2, 1), (TEL_COLLECT.MODE, m)]
      s.rf (TEL_SUM_CFG.PERIOD_MS 2) ≠ 0 ∧ s.rf (TEL_SUM_CFG.BASE 2) = HUB_FAULT_CNT.a ∧ s.rf (TEL_SUM_CFG.COUNT 2) = 1 ∧ s.campOk 0 = true ∧
      s.rf TEL_COLLECT.MODE = m ∧ s.fault.coll = []) ∧
    (let s := tSet tUp [(TEL_SUM_CFG.PERIOD_MS 2, 10)]
     State.snapOk (s.rf (TEL_SUM_CFG.BASE 2)) (s.rf (TEL_SUM_CFG.COUNT 2)) = false) := by decide +kernel
theorem witness_pins :
    awake tUp ∧ (∀ n : Fin 6, tUp.opens .faultCh (HUB_SYNC_CFG.a n)) ∧ State.pinFunc 0 1 = false ∧ State.pinFunc 4 2 = false ∧
    (let s := tSet tUp [(HUB_SYNC_CFG.FUNC 0, 2), (HUB_OWN.OWNER 0, 2), (HUB_OWN.OWNER 7, 5), (HUB_OWN.OWNER 4, 1)]
     let v := Word.ofN (3 + 1 * 2 ^ 3)
     s.rf (HUB_SYNC_CFG.FUNC 0) ∈ [1, 2, 4] ∧ State.pinFunc 0 (v.field 0 3) = true ∧ s.owner 0 ≠ v.field 0 3 ∧ s.owner 1 = 0 ∧
     v.field 3 2 = 1 ∧ s.owner (6 + 1) ≠ 0 ∧ s.rf (HUB_SYNC_CFG.FUNC 1) = 0 ∧ tUp.owner (6 + 1) = 0 ∧ s.opens .faultCh HUB_OWN_CTL.a ∧
     s.owner (7 : Fin 16) = State.ownCode .pcie0 ∧ s.owner (7 : Fin 16) ≠ State.ownCode .faultCh ∧ s.owner 4 = 1 ∧ tUp.owner 4 ≠ 1) ∧
    (∀ b ∈ [0, 1],
      let s := tSet tUp [(HUB_SYNC_CFG.FUNC 2, 3), (HUB_SYNC_CFG.ARG 2, 1), (TEL_SNAP_CTL.BUSY 1, b), (TEL_SNAP_CTL.BASE 1, 8), (TEL_SNAP_CTL.COUNT 1, 1)]
      s.telUp = true ∧ s.rf (HUB_SYNC_CFG.FUNC 2) = 3 ∧ s.rf (HUB_SYNC_CFG.ARG 2) = 1 ∧ s.rb (TEL_SNAP_CTL.BUSY 1) = (b == 1) ∧
      State.snapOk (s.rf (TEL_SNAP_CTL.BASE 1)) (s.rf (TEL_SNAP_CTL.COUNT 1)) = true) ∧
    (let s := tSet tUp [(HUB_SYNC_CFG.FUNC 2, 4), (TEL_COLLECT.MODE, 1), (TEL_TRACE_CFG.MASK, 128)]
     s.rf (HUB_SYNC_CFG.FUNC 2) = 4 ∧ s.rf TEL_COLLECT.MODE ≠ 0 ∧ s.rf TEL_TRACE_CFG.MASK / 128 % 2 = 1 ∧ s.fault.coll = []) := by decide +kernel
theorem witness_cairn :
    (let s : State := { tSet tUp [(CRN_STS.STATE, 1), (CRN_SEQ_NEXT.V, 4)] with
       cairn := { CairnSt.initial with buf := [⟨2, 8, List.replicate 36 0⟩], log := [(0, List.replicate 64 1)], copyA := some ⟨4, 0, []⟩, copyB := some ⟨3, 0, []⟩ } }
     awake s ∧ s.rf CRN_STS.STATE = 1 ∧ s.cairn.dead = false ∧ s.cairn.buf.length < 1024 ∧ s.cairn.lg.length < 64 ∧
     (List.replicate 36 (0 : Byte)).length = 36 ∧ s.opens .faultCh CRN_CMD.a ∧ lookupKey s.cairn.log (s.rf CRN_RD_SEQ.V) = some (List.replicate 64 1) ∧
     s.cairn.copyA = some ⟨4, 0, []⟩ ∧ s.cairn.copyB = some ⟨3, 0, []⟩ ∧ 3 < 4) ∧
    ¬ (tUp.rf CRN_STS.STATE = 1 ∧ tUp.cairn.dead = false) ∧ tUp.cairn.buf = [] ∧ lookupKey tUp.cairn.log (tUp.rf CRN_RD_SEQ.V) = none ∧
    ({ CairnSt.initial with lg := List.replicate 64 [] } : CairnSt).lg.length = 64 ∧ (List.replicate 12 (40#8))[3]? = some 40#8 := by decide +kernel
theorem witness_package :
    (∀ g ∈ [true, false],
      let s : State := { tUp with boot := { tUp.boot with pwrgd := g, perst := g, hot := g, smbAlert := g } }
      s.boot.pwrgd = g ∧ s.boot.perst = g ∧ s.boot.held = false ∧ s.cairn.lg.length < 64 ∧ s.boot.hot = g ∧ s.boot.smbAlert = g ∧
      s.rb HUB_FAULT_STS.FAULT_N = false) ∧
    (∀ p : Fin 2, tUp.rb (State.upBit (1 - p.val)) = false ∧
      (tSet tUp [(State.upBit 0, 1), (State.upBit 1, 1)]).rb (State.upBit (1 - p.val)) = true) ∧ tUp.host.opened = [] ∧
    (104#8).toNat < 105 ∧ 105 ≤ (105#8).toNat ∧ State.sideOpen (0x1000#32).toNat = false ∧ State.sideCamp1 (0x1000#32).toNat = false ∧
    (tSet tUp [(HUB_JTAG_STS.OPEN, 1)]).rb HUB_JTAG_STS.OPEN = true ∧ (tSet tUp [(HUB_JTAG_STS.OPEN, 0)]).rb HUB_JTAG_STS.OPEN = false ∧
    (tSet tUp [(HUB_FAULT_STS.FAULT_N, 1)]).rb HUB_FAULT_STS.FAULT_N = true := by decide +kernel
theorem witness_globals :
    State.reset.canon ∧ awake tUp ∧ ¬ (awake { tUp with boot := { tUp.boot with held := true } }) ∧
    ({ tUp with boot := { tUp.boot with held := true } } : State).asleep := by decide +kernel
/-! ### The worked examples of the spec, with its numbers -/
/-- R216: FP32 to BF16 in the four rounding modes; 4 OVF, 16 INEXACT. -/
theorem test_bf16 :
    (∀ x ∈ [(0x3F808000, [0x3F80, 0x3F80, 0x3F81, 0x3F80]), (0xBF808000, [0xBF80, 0xBF80, 0xBF80, 0xBF81]), (0x3F818000, [0x3F82, 0x3F81, 0x3F82, 0x3F81])],
      [Rnd.rne, .rtz, .rup, .rdn].map (fun m => convertVal .bf16 m .sat 0 (decodeElem .fp32 x.1 0)) = x.2.map (fun y => (y, 16))) ∧
    [Rnd.rne, .rtz, .rup, .rdn].map (fun m => convertVal .bf16 m .ieee 0 (decodeElem .fp32 0x7F7FFFFF 0)) = [(0x7F80, 20), (0x7F7F, 16), (0x7F80, 20), (0x7F7F, 16)] ∧
    [Rnd.rne, .rtz, .rup, .rdn].map (fun m => convertVal .bf16 m .sat 0 (decodeElem .fp32 0x7F7FFFFF 0)) = [(0x7F7F, 20), (0x7F7F, 16), (0x7F7F, 20), (0x7F7F, 16)] := by
  decide +kernel
/-- R220: SR(12) of 1 + 3 x 2^-13 rounds up from the random bits 0xF40 on. -/
theorem test_stochastic : [0, 0xF3F, 0xF40, 0xFFF].map (fun r => convertVal .bf16 (.sr 12) .sat r (decodeElem .fp32 0x3F800C00 0)) =
    [(0x3F80, 16), (0x3F80, 16), (0x3F81, 16), (0x3F81, 16)] := by decide +kernel
/-- R224, R225: FP32 to FP8-E4M3; 8 UNF, 1 NAN_IN. -/
theorem test_e4m3 : [0x43FA0000, 0x43E80000, 0xC3E00000, 0x3C100000, 0x3AC00000, 0x3A800000, 0x7F800000, 0xFFC01234].map
      (fun x => convertVal .e4m3 .rne .sat 0 (decodeElem .fp32 x 0)) =
    [(0x7E, 20), (0x7E, 16), (0xFE, 0), (0x04, 24), (0x01, 24), (0x00, 24), (0x7E, 20), (0x7F, 1)] := by decide +kernel
/-- R225: FP32 to INT8; 2 INVALID. -/
theorem test_int8 :
    [0x43008000, 0xC3008000, 0xC2FF0000, 0xFF800000, 0x7FC00000].map (fun x => convertVal .int8 .rne .sat 0 (decodeElem .fp32 x 0)) =
      [(0x7F, 20), (0x80, 16), (0x80, 16), (0x80, 22), (0x00, 3)] ∧
    [0x43008000, 0xC3008000, 0xC2FF0000].map (fun x => convertVal .int8 .rtz .sat 0 (decodeElem .fp32 x 0)) = [(0x7F, 20), (0x80, 16), (0x81, 16)] := by
  decide +kernel
/-- R211: an FP4 block: codes, scale byte, flags UNF and INEXACT; read back 8.0, -0, +0, 16.0. -/
theorem test_block :
    (let b := encodeBlock .e2m1 .rne [] (([0x41200000, 0xBF400000, 0x3E800000, 0x41800000] ++ List.replicate 28 0).map (fun x => (decodeElem .fp32 x 0).exact))
     b.1.take 5 = [4, 8, 0, 6, 0] ∧ b.2 = (0x81, 24)) ∧
    [4, 8, 0, 6].map (fun c => decodeElem .e2m1 c 0x81) = [decodeElem .fp32 0x41000000 0, .zero true, .zero false, decodeElem .fp32 0x41800000 0] := by
  decide +kernel
/-- R226, R227: FP32 values as BF16 pairs. -/
theorem test_pair : encodePair .bf16 .sat (decodeElem .fp32 0x40490FDB 0).exact = (0x4049, 0x3A7E, 16) ∧
    encodePair .bf16 .sat (decodeElem .fp32 0x3F800001 0).exact = (0x3F80, 0x3400, 0) := by decide +kernel
/-- An FP32 dot product of lists of codes. -/
def tDot (ov : Ovf) (a b : List Nat) : Acc := mergeAll (zipProd ov (a.map (fun x => decodeElem .fp32 x 0)) (b.map (fun x => decodeElem .fp32 x 0)))
/-- R237: the six cases of the ridge accumulator's precedence; state word, result and flags. -/
theorem test_dot :
    (let a := fun x => [0x7F000000, x, 0x3FC00000, 0x33800000, 0xC0400000]
     let b := fun x => [0x40000000, x, 0x40000000, 0x3F800000, 0x3F800000]
     let f := fun ov x y => ((tDot ov (a x) (b y)).stateWord, finishAcc .fp32 .rne ov 0 (tDot ov (a x) (b y)))
     f .ieee 0xFFC05555 0x3F800000 = (0x35, 0x7FC00000, 21) ∧ f .sat 0xFFC05555 0x3F800000 = (0x31, 0x7FC00000, 21) ∧
     (f .ieee 0x40800000 0x3F800000).2 = (0x7F800000, 20) ∧ f .sat 0x40800000 0x3F800000 = (0x30, 0x7F7FFFFF, 20) ∧
     (f .ieee 0x40800000 0xFF000000).2 = (0x7FC00000, 22) ∧ (f .sat 0x40800000 0xFF000000).2 = (0x33800000, 20) ∧
     finishAcc .bf16 .rne .sat 0 (tDot .sat (a 0x40800000) (b 0x3F800000)) = (0x7F7F, 20)) := by decide +kernel
/-- R229, R230: three terms summed exactly. -/
theorem test_sum : finishAcc .fp32 .rne .sat 0 (mergeAll ([0x3F800000, 0x33800000, 0x33800000].map (fun x => Acc.ofVal .sat (decodeElem .fp32 x 0)))) = (0x3F800001, 0) := by
  decide +kernel
/-- R239, R240: the RP64 block of the example, and the block that escapes. -/
theorem test_partial :
    (let z := List.replicate 30 (Acc.ofVal .sat (.zero false))
     let e := encodeRp false ([Acc.plain (3 * 2 ^ 298 + 2 ^ 274), Acc.plain (-3 * 2 ^ 297)] ++ z)
     e.2 = false ∧ e.1.take 18 = [0x12, 0x01, 0x01, 0x00, 0x00, 0x03, 0x00, 0x00, 0x00, 0x00, 0x00, 0x00, 0x80, 0xFE, 0xFF, 0xFF, 0xFF, 0xFF] ∧ e.1.length = 258 ∧
     e.1.drop 18 = List.replicate 240 0) ∧
    (let z := List.replicate 29 (Acc.ofVal .sat (.zero false))
     let e := encodeRp false ([Acc.plain (3 * 2 ^ 298 + 2 ^ 274), Acc.plain (-3 * 2 ^ 297), Acc.plain (2 ^ 398)] ++ z)
     e.2 = true ∧ e.1.take 2 = [0xFF, 0xFF] ∧ e.1.getD (2 + 34) 0 = 0x04 ∧ e.1.getD (2 + 37) 0 = 0x0C ∧ e.1.getD (2 + 64 + 37) 0 = 0xFA ∧
     e.1.getD (2 + 64 + 38) 0 = 0xFF ∧ e.1.getD (2 + 128 + 49) 0 = 0x40 ∧ leAt e.1 62 4 = 0x20 ∧ leAt e.1 (62 + 64 * 3) 4 = 0xA0) := by decide +kernel
/-- R301: the order keys. -/
theorem test_keys : [0x3F800000, 0xFFFFFFFF, 0x80000000, 0x7FC00000, 0x00000000, 0xBF800000].map (sortKey .fp32) =
    [0xBF800000, 0x00000000, 0x7FFFFFFF, 0xFFC00000, 0x80000000, 0x407FFFFF] := by decide +kernel
/-- R312: the CRC-32C of the bytes 0x31 to 0x39. -/
theorem test_crc : crc32c 0 [0x31, 0x32, 0x33, 0x34, 0x35, 0x36, 0x37, 0x38, 0x39] = 0xE3069283 := by decide +kernel
/-- R389, R405: the residues of the example. -/
theorem test_residues :
    let v := fun x => Acc.ofVal .sat (decodeElem .fp32 x 0)
    let w := resWeight 77 0
    residue 77 0 [v 0x3F800000] = w * 0x0040000000000000 % resP ∧ residue 77 0 [v 0x33800000] = w * 0x40000000 % resP ∧
    residue 77 0 [(v 0x3F800000).merge (v 0x33800000)] = w * 0x0040000040000000 % resP ∧ residue 77 0 [v 0x3F800001] = w * 0x0040000080000000 % resP := by
  decide +kernel
/-- A 4 x 4 x 4 plane, seen from device `i`. -/
def tFour (i : Nat) : State := tSet tUp [(HUB_PLANE.A, 4), (HUB_PLANE.B, 4), (HUB_PLANE.C, 4), (HUB_PLANE.INDEX, i)]
/-- R23, R24: the +x neighbour of device 43 is 40; R47: the partner of its torus port 14 is device 39. -/
theorem test_torus : (tFour 43).neighbour 43 0 = 40 ∧ (tFour 43).neighbour 43 3 = 0x27 ∧ [0, 1, 2].map (fun k => (tFour 43).coord k 43) = [3, 2, 2] := by decide +kernel
/-- R74 to R79: the two flows from device 43 to device 5. -/
theorem test_routes :
    (tFour 43).minRoute 0x5C1E93A7 5 12 43 = [0x2B, 0x28, 0x29, 0x25, 0x15, 0x05] ∧
    State.dirHome 0 0xA7 = 0xAA ∧ State.dirHome 3 0xA7 = 0xB6 ∧ State.dirHome 5 0xA7 = 0xBE ∧
    (let s := tSet (tFour 43) [(FWD_ROUTE_CFG.TRAV_MODE 0 4, 1), (FWD_ROUTE_CFG.TRAV_FRAC 0 4, 0x40)]
     let f := FrameSpec.make { cls := 4, kind := 0, dst := 7, src := 9 }
     s.traverse 0 f 0x5C1E93A7 5 = none ∧ s.traverse 0 f 0x5C1E30A7 5 = some 0x20 ∧
     (s.minRoute 0x5C1E30A7 0x20 12 43).length = 4 ∧ (s.minRoute 0x5C1E30A7 5 12 0x20).length = 5) := by decide +kernel
/-- R326: the tree of the example, and its mask. -/
theorem test_tree :
    let s := tFour 0x15
    s.treeRoute 0x15 0x03 = [0x03, 0x00, 0x01, 0x05, 0x15] ∧ s.treeRoute 0x15 0x00 = [0x00, 0x01, 0x05, 0x15] ∧
    s.treeRoute 0x15 0x2A = [0x2A, 0x29, 0x25, 0x15] ∧
    ((([0x00, 0x03, 0x15, 0x2A].flatMap (fun d => s.treeRoute 0x15 d)).dedup).map (fun d => 2 ^ d)).sum = 0x06200020002B := by
  decide +kernel
/-- R479, R483: the bubble fraction at the boundaries of the example, in 64ths; P and the CORE part in W and mW. -/
theorem test_bubble :
    State.nextBubble (3350000 * 16384) (1000000 * 16384) 3200 0 = 10 ∧ State.nextBubble (3193750 * 16384) (843750 * 16384) 3200 10 = 10 ∧
    State.nextBubble (3171070 * 16384) (821070 * 16384) 3200 10 = 9 ∧ State.nextBubble (3209375 * 16384) (859375 * 16384) 3200 9 = 10 ∧
    State.nextBubble (3137050 * 16384) (787050 * 16384) 3200 10 = 6 ∧ State.nextBubble (3195350 * 16384) (845350 * 16384) 3200 6 = 6 := by decide +kernel
/-- R590 to R594: offsets of registers; R176: core 423. -/
theorem test_offsets :
    (PRT_CNT_TX_BYTES.V 0x3DB).a = 0x02981798 ∧ MFB_CFG.a 11 = 0x01BA0000 ∧ POOL_CMD.a 45 = 0x01B71000 ∧ HBM_SHARE.a 7 = 0x03070010 ∧
    HRN_WIT_CFG.a 0x5C = 0x188B80 ∧ State.reservedRange 0x500000 = true ∧ CRX_CORE_STS.a 423 / 0x100 = 0x1D107 ∧ (PRT_CNT_RX_FRAMES.V 0).a = 0x02001180 := by
  decide +kernel
def tNoT : Tensor := ⟨.l, .imm 0, .bf16, [], [], none⟩
def tBadO : Opts := ⟨.sr 0, .sat, none, .imm 0, .imm 0, none, none⟩
/-- An operand without extents (R266), or an option an operation does not take (R272). -/
theorem test_ill_formed_engine0 :
    (Instr.vreSum 3 .none tNoT tNoT tOpts).wf = false ∧ (Instr.vreDot 3 .none tNoT tNoT tNoT tOpts).wf = false ∧ (Instr.vreAxpy 3 0 tNoT tNoT tNoT tOpts).wf = false ∧
    (Instr.vreMin 3 tNoT tNoT tOpts).wf = false ∧ (Instr.vreMax 3 tNoT tNoT tOpts).wf = false ∧ (Instr.vreSumPair 3 .none tNoT tNoT tNoT tOpts).wf = false ∧
    (Instr.vreDotPair 3 .none tNoT tNoT tNoT tNoT tOpts).wf = false ∧ (Instr.gseGather 3 .row .zero tNoT tNoT tNoT tOpts).wf = false ∧ (Instr.gseScatter 3 .row .zero tNoT tNoT tNoT tOpts).wf = false ∧
    (Instr.gseScatadd 3 .row .zero tNoT tNoT tNoT tOpts).wf = false ∧ (Instr.sseSort 3 false tNoT tNoT tNoT tOpts).wf = false ∧ (Instr.sseTopk 3 false (.imm 0) tNoT tNoT tNoT tOpts).wf = false ∧
    (Instr.sseSelect 3 tNoT tNoT tNoT tNoT tOpts).wf = false ∧ (Instr.sseCompact 3 none tNoT tNoT tNoT tOpts).wf = false ∧ (Instr.sseFilter 3 .eq 0 none tNoT tNoT tOpts).wf = false ∧
    (Instr.sseDedup 3 none tNoT tNoT tNoT tOpts).wf = false := by decide +kernel
/-- An operand without extents (R266), or an option an operation does not take (R272). -/
theorem test_ill_formed_engine1 :
    (Instr.sseHist 3 false .zero tNoT tNoT tOpts).wf = false ∧ (Instr.tenMma 3 false false false none tNoT tNoT tNoT tOpts).wf = false ∧ (Instr.cdcCvt 3 tNoT tNoT tOpts).wf = false ∧
    (Instr.cdcMxq 3 tNoT tNoT tOpts).wf = false ∧ (Instr.cdcUnpack 3 tNoT tNoT tOpts).wf = false ∧ (Instr.cdcPack 3 tNoT tNoT tOpts).wf = false ∧
    (Instr.cdcSpx 3 none tNoT tNoT tNoT tOpts).wf = false ∧ (Instr.cdcSpc 3 none tNoT tNoT tNoT tOpts).wf = false ∧ (Instr.cdcSplit 3 tNoT tNoT tNoT tOpts).wf = false ∧
    (Instr.cdcCrc 3 0 none tNoT tOpts).wf = false ∧ (Instr.cdcRes 3 0 tNoT tOpts).wf = false ∧ (Instr.cdcCrcChk 3 none tNoT 0 tOpts).wf = false ∧
    (Instr.cdcResChk 3 tNoT 0 tOpts).wf = false ∧ (Instr.fdeMove 3 none (some tNoT) (some tNoT) none (.imm 0) none none tOpts).wf = false ∧ (Instr.fdePut 3 ⟨.imm 0, .imm 0⟩ 0 (.imm 0) false tBadO).wf = false ∧
    (Instr.fdeAmo 3 0 ⟨.imm 0, .imm 0⟩ 0 none 7 false false false false (.imm 0) tBadO).wf = false := by decide +kernel
/-- A frame of another class and OP than its row names (R127, R331, R364, R370). -/
theorem test_ill_formed_frame :
    (Instr.load 0 tFrame).wf = false ∧ (Instr.store 0 tFrame).wf = false ∧ (Instr.storeQuiet 0 tFrame).wf = false ∧
    (Instr.atomic 0 tFrame).wf = false ∧ (Instr.loadRsp 0 tFrame).wf = false ∧ (Instr.storeAck 0 tFrame).wf = false ∧
    (Instr.atomicRsp 0 tFrame).wf = false ∧ (Instr.contrib 0 tFrame .none).wf = false ∧ (Instr.ropePartial 0 tFrame .none).wf = false ∧
    (Instr.ropeResult 0 tFrame .none).wf = false ∧ (Instr.credit 0 tFrame .none).wf = false ∧ (Instr.summary 0 tFrame).wf = false ∧
    (Instr.counts 0 tFrame).wf = false ∧ (Instr.a2a 0 tFrame).wf = false ∧ (Instr.ropeAbortFrame 0 tFrame).wf = false ∧
    (Instr.token 0 tFrame).wf = false ∧ (Instr.dispatch 0 tFrame).wf = false ∧ (Instr.output 0 tFrame .none).wf = false ∧
    (Instr.fetch 0 tFrame).wf = false ∧ (Instr.block 0 tFrame).wf = false := by decide +kernel
/-- Wrong lengths of lists, and link frames of another LTYPE. -/
theorem test_ill_formed_list :
    (Instr.lifetimeSample []).wf = false ∧ (Instr.voltageTrim []).wf = false ∧ (Instr.marginReport []).wf = false ∧ (Instr.marginNow .pcie0 []).wf = false ∧
    (Instr.laneMarginRefresh 0 []).wf = false ∧ (Instr.partner 0 0 .ok []).wf = false := by decide +kernel
/-- R274: 5, 999, 1000 and -1 into 1000 rows, under each mode; R277: the status word. -/
theorem test_index_modes :
    let ix : List Int := [5, 999, 1000, -1]
    planOf .fault 1000 ix = ([], 0, some 2) ∧ planOf .zero 1000 ix = ([.at_ 5, .at_ 999, .zero, .zero], 2, none) ∧
    planOf .skip 1000 ix = ([.at_ 5, .at_ 999, .skip, .skip], 2, none) ∧ planOf .clamp 1000 ix = ([.at_ 5, .at_ 999, .at_ 999, .at_ 0], 2, none) ∧
    planOf .wrap 1000 ix = ([.at_ 5, .at_ 999, .at_ 0, .at_ 999], 2, none) ∧ statusWord 0 0 2 = 0x0000000200002000 := by decide +kernel
/-- R308: the masks of the example name tiles (0, 0), (1, 1), (2, 2), (3, 0), as stored and transposed. -/
theorem test_tiles :
    ((List.range 4).flatMap (fun r => ((List.range 3).filter (fun q => tilePresent [0x11, 0x03] 96 (32 * r) (32 * q))).map (fun q => (r, q)))) = [(0, 0), (1, 1), (2, 2), (3, 0)] ∧
    ((List.range 4).flatMap (fun r => ((List.range 3).filter (fun q => tilePresent [0x29, 0x04] 128 (32 * q) (32 * r))).map (fun q => (r, q)))) = [(0, 0), (1, 1), (2, 2), (3, 0)] := by
  decide +kernel
/-- R369: the gate values of tokens A and B. -/
theorem test_gate_values : gateValues 1 [0x40000000, 0x40000000] [] = [0x3F000000, 0x3F000000] ∧ gateValues 1 [0x00000000, 0x80000000] [] = [0x3F000000, 0x3F000000] := by
  decide +kernel
/-- R192: pair 249 (counters 498 and 499), LIMIT 8: producer and consumer together, then the overrun. -/
theorem test_jumar :
    let s := tSet State.reset [(CRX_JUMAR_CFG.LIMIT 7 25, 8), (CRX_JUMAR_EVEN.V 7 25, 0x42), (CRX_JUMAR_ODD.V 7 25, 0x3A)]
    let t := s.jaddPair 249 [(3, 498, 1), (40, 499, 1)]
    (t.jumar 498, t.jumar 499) = (0x43, 0x3B) ∧ ((t.jaddPair 249 [(3, 498, 1)]).jumar 498, (t.jaddPair 249 [(40, 499, 9)]).jumar 499) = (0x43, 0x3B) ∧
    (t.jaddPair 249 [(3, 498, 1)]).rf (CRX_CORE_FAULT.STATUS 3) = stOVERFLOW ∧ (t.jaddPair 249 [(40, 499, 9)]).rf (CRX_CORE_FAULT.STATUS 40) = stUNDERFLOW := by decide +kernel
end Sys2Proof.Tests
end

section
/-! PROOF. The hub registers that no record on its way touches, and what a host-access error leaves in the registers (R528). -/
namespace Sys2Proof.Machine.State

/-! ## Hub registers below the avalanche block, beside those that records count in -/

/-- The registers below HUB_AVAL_STS that no record on its way to its readers writes (R510 to R512, R549 to R555, R561). -/
abbrev unrecorded (a : Nat) : Prop :=
  a < HUB_AVAL_STS.a ∧ a ≠ HUB_FAULT_STS.a ∧ a ≠ HUB_FAULT_WPTR.a ∧ a ≠ HUB_FAULT_CNT.a

theorem not_unrecorded_of_le {b : Nat} (h : HUB_AVAL_STS.a ≤ b) : ¬ unrecorded b := fun u => Nat.not_lt.mpr h u.1

section
variable {s : State} {a : Nat} (h : unrecorded a)
include h

theorem reg_wf_unrecorded (x : Rf) (n : Nat) (hx : ¬ unrecorded x.a) : (s.wf x n).reg a = s.reg a :=
  reg_wf_ne s x n a (fun e => hx (e ▸ h))
theorem reg_inc_unrecorded (x : Rf) (hx : ¬ unrecorded x.a) : (s.inc x).reg a = s.reg a :=
  reg_count_ne s x 1 a (fun e => hx (e ▸ h))
theorem reg_lifeInc_unrecorded (i : Nat) : (s.lifeInc i).reg a = s.reg a :=
  reg_inc_unrecorded h _ (not_unrecorded_of_le (by simp only [HUB_AVAL_STS.a, CRN_LIFE.V, CRN_LIFE.a]; omega))
omit h in
theorem reg_setWoItems (p : Nat) (l : List Item) : (s.setWoItems p l).reg a = s.reg a := by
  simp only [setWoItems]; split <;> rfl
omit h in
theorem reg_setWo (p : Nat) (w : Whiteout) : (s.setWo p w).reg a = s.reg a := by
  simp only [setWo]; split <;> rfl

theorem reg_woSettle_unrecorded (p : Nat) : (s.woSettle p).reg a = s.reg a := by
  have hw : ¬ unrecorded (TEL_WO_STS.a p) := not_unrecorded_of_le (by simp only [HUB_AVAL_STS.a, TEL_WO_STS.a]; omega)
  have hq : ¬ unrecorded HUB_FAULT_STS.a := by decide
  have base : ((s.wf (TEL_WO_STS.OCC p) (occupancy (s.woItems p))).wf HUB_FAULT_STS.QUEUE s.fault.hold.length).reg a = s.reg a := by
    rw [reg_wf_unrecorded h _ _ hq, reg_wf_unrecorded h _ _ hw]
  simp only [woSettle]
  split
  · rw [reg_lifeInc_unrecorded h, reg_setWo, satInc, reg_wf_unrecorded h _ _ hw, reg_wf_unrecorded h _ _ hw, base]
  · exact base

theorem reg_woDrop_unrecorded (p k : Nat) : (s.woDrop p k).reg a = s.reg a := by
  rw [woDrop, reg_setWo]
  exact reg_inc_unrecorded h _ (not_unrecorded_of_le (by simp only [HUB_AVAL_STS.a, TEL_WO_DROP.V, TEL_WO_DROP.a]; omega))

theorem reg_evictFor_unrecorded (p n fuel : Nat) (s : State) : (evictFor p n fuel s).reg a = s.reg a := by
  induction fuel generalizing s with
  | zero => rfl
  | succ k ih =>
    simp only [evictFor]
    split
    · rfl
    · split
      · rfl
      · rw [ih, reg_woDrop_unrecorded h, reg_setWoItems]

theorem reg_offer_unrecorded (p : Nat) (it : Item) : (s.offer p it).reg a = s.reg a := by
  unfold offer
  extract_lets n s1 o lim
  have h1 : s1.reg a = s.reg a := by
    show (if it.prio = 5 then evictFor p n ((s.woItems p).length + 1) s else s).reg a = s.reg a
    split
    · exact reg_evictFor_unrecorded h p n _ s
    · rfl
  split
  · rw [reg_woSettle_unrecorded h, reg_setWoItems, h1]
  · rw [reg_woSettle_unrecorded h, reg_woDrop_unrecorded h, h1]

omit h in
theorem reg_sendEvents (fuel : Nat) (s : State) : (sendEvents fuel s).reg a = s.reg a := by
  induction fuel generalizing s with
  | zero => rfl
  | succ k ih =>
    simp only [sendEvents]
    split
    · rfl
    · exact ih _

theorem reg_cairnRec_unrecorded (kind time : Nat) (body : List Byte) : (s.cairnRec kind time body).reg a = s.reg a := by
  simp only [cairnRec]
  split
  · rw [reg_lifeInc_unrecorded h, reg_inc_unrecorded h _ (by decide)]
  · exact reg_wf_unrecorded h _ _ (by decide)

theorem reg_cairnFault_unrecorded (sev last : Nat) (bs : List Byte) : (s.cairnFault sev last bs).reg a = s.reg a := by
  unfold cairnFault
  extract_lets sec n
  split
  · rfl
  · split
    · exact reg_inc_unrecorded h CRN_CNT_RATE_DROP.V (by decide)
    · exact reg_cairnRec_unrecorded h _ _ _

theorem reg_ringRecord_unrecorded (bs : List Byte) : (s.ringRecord bs).reg a = s.reg a := by
  simp only [ringRecord]
  split
  · rfl
  · split
    · split <;> exact reg_wf_unrecorded h _ _ (by decide)
    · exact reg_wf_unrecorded h _ _ (by decide)

theorem reg_sendRecord_unrecorded (r : FaultRec) (n f l : Nat) : (s.sendRecord r n f l).reg a = s.reg a := by
  unfold sendRecord
  extract_lets q bytes prio src0 s1 s2 s3 s4 s5
  have h4 : s4.reg a = s.reg a := by
    rw [reg_ringRecord_unrecorded h, reg_sendEvents, reg_offer_unrecorded h]; rfl
  have h5 : s5.reg a = s4.reg a := by
    show (if _ then _ else s4).reg a = s4.reg a
    split
    · exact reg_offer_unrecorded h _ _
    · rfl
  rw [reg_cairnFault_unrecorded h, h5, h4]

/-- An occurrence counts, coalesces and sends in no register that is `unrecorded`. -/
theorem reg_occur_unrecorded (r : FaultRec) (n : Nat) : (s.occur r n).reg a = s.reg a := by
  unfold occur
  extract_lets s0 win
  have h0 : s0.reg a = s.reg a := by
    show (State.inc (match lifeWord r with | some i => s.lifeInc i | none => s) HUB_FAULT_CNT.V).reg a = s.reg a
    rw [reg_inc_unrecorded h _ (by decide)]
    split
    · exact reg_lifeInc_unrecorded h _
    · rfl
  rw [← h0]
  clear_value s0
  split
  · rfl
  · split
    · exact reg_sendRecord_unrecorded h _ _ _ _
    · split
      · rw [reg_sendRecord_unrecorded h, reg_wf_unrecorded h _ _ (by decide)]; rfl
      · have ho : (s0.inc (HUB_AVAL_OVF.V r.cls)).reg a = s0.reg a :=
          reg_inc_unrecorded h _ (not_unrecorded_of_le (by simp only [HUB_AVAL_STS.a, HUB_AVAL_OVF.V, HUB_AVAL_OVF.a]; omega))
        split
        · exact ho
        · rw [reg_sendRecord_unrecorded h, reg_inc_unrecorded h _ (by decide)]; exact ho

/-- A report leaves every register that is `unrecorded`. -/
theorem reg_report_unrecorded (r : FaultRec) : (s.report r).reg a = s.reg a := by
  simp only [report]
  split
  · rfl
  · exact reg_occur_unrecorded h _ _

end

/-! ## Host-access errors (R528) -/

variable {s : State} (code : Nat) (src : Src) (fn off : Nat) (w : Bool) (st : Nat)

/-- HUB_HACC_ERR latches an access, as R532 lays its fields out. -/
def latchAccess (s : State) : State :=
  (((((s.wf HUB_HACC_ERR.OFFSET off).wf HUB_HACC_ERR.WRITE (b2n w)).wf HUB_HACC_ERR.STATUS st).wf HUB_HACC_ERR.FUNC fn).wf
    HUB_HACC_ERR.SOURCE (srcCode src)).wf HUB_HACC_ERR.VALID 1

theorem reg_latchAccess_ne {a : Nat} (h : a ≠ HUB_HACC_ERR.a) : (s.latchAccess src fn off w st).reg a = s.reg a := by
  simp only [latchAccess]
  iterate 6 rw [reg_wf_ne _ _ _ _ h]

/-- What a host-access error leaves in a register that no record touches: one more counted, and the access latched where none is. -/
theorem reg_haccCode {a : Nat} (h : unrecorded a) :
    (s.haccCode code src fn off w st).reg a =
      (if (s.inc HUB_HACC_CNT.V).rb HUB_HACC_ERR.VALID then s.inc HUB_HACC_CNT.V
        else (s.inc HUB_HACC_CNT.V).latchAccess src fn off w st).reg a :=
  reg_report_unrecorded h _

theorem rb_inc_haccCnt : (s.inc HUB_HACC_CNT.V).rb HUB_HACC_ERR.VALID = s.rb HUB_HACC_ERR.VALID := by
  simp only [rb, rf]; rw [inc, reg_count_ne _ _ _ _ (by decide)]

/-- Every host-access error counts in HUB_HACC_CNT. -/
theorem reg_haccCode_count : (s.haccCode code src fn off w st).reg HUB_HACC_CNT.a = Word.ofN ((s.reg HUB_HACC_CNT.a).toNat + 1) := by
  rw [reg_haccCode _ _ _ _ _ _ (by decide)]
  split
  · exact reg_count_self s HUB_HACC_CNT.V 1
  · rw [reg_latchAccess_ne _ _ _ _ _ (by decide)]; exact reg_count_self s HUB_HACC_CNT.V 1

/-- Where HUB_HACC_ERR holds none, it latches the access. -/
theorem rf_haccCode_err (hv : s.rb HUB_HACC_ERR.VALID = false) {x : Rf} (hx : x.a = HUB_HACC_ERR.a) :
    (s.haccCode code src fn off w st).rf x = ((s.inc HUB_HACC_CNT.V).latchAccess src fn off w st).rf x := by
  simp only [rf]
  rw [reg_haccCode _ _ _ _ _ _ (by rw [hx]; decide), rb_inc_haccCnt, hv]
  rfl

theorem rb_emit (o : Out) (x : Rf) : (s.emit o).rb x = s.rb x := rfl
theorem srcCode_lt : srcCode src < 4 := by cases src <;> decide

/-- What HUB_HACC_ERR shows of a latched access. -/
theorem latchAccess_shows (ho : off < 2 ^ 26) (hs : st < 2 ^ 8) (hf : fn < 2 ^ 8) :
    let t := s.latchAccess src fn off w st
    t.rb HUB_HACC_ERR.VALID = true ∧ t.rf HUB_HACC_ERR.OFFSET = off ∧ t.rf HUB_HACC_ERR.STATUS = st ∧
    t.rb HUB_HACC_ERR.WRITE = w ∧ t.rf HUB_HACC_ERR.FUNC = fn ∧ t.rf HUB_HACC_ERR.SOURCE = srcCode src := by
  have hw : (b2n w % 2 ^ 1 == 1) = w := by cases w <;> rfl
  simp only [latchAccess, rb]
  refine ⟨?_, ?_, ?_, ?_, ?_, ?_⟩
  · rw [rf_wf_self _ _ _ (by decide)]; rfl
  · iterate 5 rw [rf_wf_disj _ _ _ _ (by decide) (by decide) (by decide)]
    rw [rf_wf_self _ _ _ (by decide)]; exact Nat.mod_eq_of_lt ho
  · iterate 3 rw [rf_wf_disj _ _ _ _ (by decide) (by decide) (by decide)]
    rw [rf_wf_self _ _ _ (by decide)]; exact Nat.mod_eq_of_lt hs
  · iterate 4 rw [rf_wf_disj _ _ _ _ (by decide) (by decide) (by decide)]
    rw [rf_wf_self _ _ _ (by decide)]; exact hw
  · iterate 2 rw [rf_wf_disj _ _ _ _ (by decide) (by decide) (by decide)]
    rw [rf_wf_self _ _ _ (by decide)]; exact Nat.mod_eq_of_lt hf
  · rw [rf_wf_disj _ _ _ _ (by decide) (by decide) (by decide), rf_wf_self _ _ _ (by decide)]
    exact Nat.mod_eq_of_lt (srcCode_lt src)

/-- A refused register access, where HUB_HACC_ERR holds none: what HUB_HACC_ERR then shows. -/
theorem hacc_latches (hv : s.rb HUB_HACC_ERR.VALID = false) (ho : off < 2 ^ 26) (hs : st < 2 ^ 8) (hf : fn < 2 ^ 8) :
    let t := s.hacc src fn off w st
    t.rb HUB_HACC_ERR.VALID = true ∧ t.rf HUB_HACC_ERR.OFFSET = off ∧ t.rf HUB_HACC_ERR.STATUS = st ∧
    t.rb HUB_HACC_ERR.WRITE = w ∧ t.rf HUB_HACC_ERR.FUNC = fn ∧ t.rf HUB_HACC_ERR.SOURCE = srcCode src := by
  simp only [hacc, rb]
  iterate 6 rw [rf_haccCode_err _ _ _ _ _ _ hv rfl]
  exact latchAccess_shows src fn off w st ho hs hf

theorem reg_hacc_count : (s.hacc src fn off w st).reg HUB_HACC_CNT.a = Word.ofN ((s.reg HUB_HACC_CNT.a).toNat + 1) :=
  reg_haccCode_count 1 src fn off w st

end Sys2Proof.Machine.State

namespace Sys2Proof.Machine

/-- A command whose whole effect is a refused write by the physical function is turned away. -/
theorem turnedAway_of_exec {c : Instr} {s : State} {src : Src} {a st : Nat} (h : exec c s = .next (s.hacc src 0 a true st))
    (ha : a < 2 ^ 26) (hs : st < 2 ^ 8) : turnedAway c s src a st := by
  refine ⟨_, h, State.reg_hacc_count .., fun hv => ?_, State.recorded_hacc ..⟩
  obtain ⟨valid, offset, status, write, -, source⟩ := State.hacc_latches src 0 a true st hv ha hs (by decide)
  exact ⟨valid, offset, status, write, source⟩

end Sys2Proof.Machine
end

section
/-! PROOF. The way of a register write (R7, R8, R32, R35, R412, R491, R591, R598), and the two obligations on it. -/
namespace Sys2Proof

/-- The bits of a mask of the low `n` bits replaced: the word keeps what lies above them. -/
theorem Word.toNat_mergeLow (old v : Word) (n : Nat) (hn : n ≤ 64) :
    ((old &&& ~~~ Word.ofN (2 ^ n - 1)) ||| (v &&& Word.ofN (2 ^ n - 1))).toNat = old.toNat / 2 ^ n * 2 ^ n + v.toNat % 2 ^ n := by
  have hm : ∀ i, i < 64 → (Word.ofN (2 ^ n - 1)).getLsbD i = decide (i < n) := fun i hi => by
    rw [Word.ofN, BitVec.getLsbD_ofNat, Nat.testBit_two_pow_sub_one, decide_eq_true hi, Bool.true_and]
  rw [Nat.mul_comm, Nat.two_pow_add_eq_or_of_lt (Nat.mod_lt _ (Nat.two_pow_pos n))]
  refine Nat.eq_of_testBit_eq fun i => ?_
  rw [Nat.testBit_or, Nat.testBit_two_pow_mul, Nat.testBit_div_two_pow, Nat.testBit_mod_two_pow]
  rw [BitVec.testBit_toNat, BitVec.testBit_toNat, BitVec.testBit_toNat]
  rcases Nat.lt_or_ge i 64 with hi | hi
  · rw [BitVec.getLsbD_or, BitVec.getLsbD_and, BitVec.getLsbD_and, BitVec.getLsbD_not, hm i hi]
    rcases Nat.lt_or_ge i n with h | h
    · simp [hi, h, Nat.not_le.mpr h]
    · simp [hi, h, Nat.not_lt.mpr h]
  · have hin : ¬ i < n := by omega
    have hio : n ≤ i := by omega
    simp [BitVec.getLsbD_of_ge _ _ hi, hin, hio]

namespace Machine

/-! ## The commands of this family -/

variable {s : State}

theorem exec_registerWrite (hu : awake s) (src : Src) (fn : BitVec 8) (a : BitVec 26) (v : Word) :
    exec (.registerWrite src fn a v) s = .next (s.regWrite src fn.toNat a.toNat v) := by
  show unheld s _ = _
  rw [unheld, hu]; rfl
theorem exec_malformedAccess (hu : awake s) (src : Src) (fn : BitVec 8) (a : BitVec 26) (w : Bool) :
    exec (.malformedAccess src fn a w) s =
      .next (if w then s.hacc src fn.toNat a.toNat w stREJECT else (s.hacc src fn.toNat a.toNat w stREJECT).emit (.regData 0)) := by
  show unheld s _ = _
  rw [unheld, hu]; rfl
theorem exec_crossDomainWriteEffect (hu : awake s) (g : Group) : exec (.crossDomainWriteEffect g) s = .next (s.xdomEffect g) := by
  show unheld s _ = _
  rw [unheld, hu]; rfl

namespace State

/-! ## The branches of a write of BAR0 -/

variable (src : Src) {a : Nat} (v : Word) (hu : awake s)
include hu

theorem regWrite_misaligned (fn : Nat) (ha : a % 8 ≠ 0) : s.regWrite src fn a v = s.hacc src fn a true stREJECT := by
  by_cases hf : fn = 0
  · simp [regWrite, hu, ha, hf]
  · simp [regWrite, hu, ha, hf]
theorem regWrite_fails {st : Nat} (ha : a % 8 = 0) (hf : s.accessFails src a = some st) :
    s.regWrite src 0 a v = s.hacc src 0 a true st := by
  simp [regWrite, hu, ha, hf]
theorem regWrite_unassigned (ha : a % 8 = 0) (ho : s.opens src a) (hr : regRow a = none) : s.regWrite src 0 a v = s := by
  simp [regWrite, hu, ha, ho, hr]
theorem regWrite_staged {r : RegRow} {g : Group} (ha : a % 8 = 0) (ho : s.opens src a) (hr : regRow a = some r)
    (hg : groupOf a = some g) : s.regWrite src 0 a v = { s with xdom := s.xdom ++ [⟨g, src, 0, a, v⟩] } := by
  simp [regWrite, hu, ha, ho, hr, hg]
theorem regWrite_applied {r : RegRow} (ha : a % 8 = 0) (ho : s.opens src a) (hr : regRow a = some r) (hg : groupOf a = none) :
    s.regWrite src 0 a v = s.applyWrite src a v := by
  simp [regWrite, hu, ha, ho, hr, hg]
theorem regWrite_vf {fn : Nat} (hf : fn ≠ 0) (ha : a % 8 = 0) (hl : a < 0x400) :
    s.regWrite src fn a v = s.writeMsix fn (a / 8) v := by
  simp [regWrite, hu, ha, hf, hl]

omit hu

/-- The status that turns an access away fits its field. -/
theorem accessFails_lt {st : Nat} (h : s.accessFails src a = some st) : st < 2 ^ 8 := by
  simp only [accessFails] at h
  split at h
  · cases h; decide
  · split at h
    · cases h; decide
    · split at h
      · cases h; decide
      · cases h

/-- With no vector pending, a write of a VF's MSI-X table word is just that. -/
theorem writeMsix_quiet (fn x : Nat) (hp : s.host.pendV = []) :
    s.writeMsix fn x v = s.withHost { s.host with msix := sparseSet (fun _ => 0#64) s.host.msix (128 * fn + x) v } := by
  simp [writeMsix, hp]
theorem frame_withHost (x : HostSt) {ch : List Part} {rg : Nat → Prop} (h : Part.host ∈ ch) : frame s (s.withHost x) ch rg :=
  ⟨fun p hp => by cases p <;> first | rfl | exact absurd h hp, fun _ _ => rfl, rfl⟩
theorem frame_xdom (x : List XWrite) {ch : List Part} {rg : Nat → Prop} (h : Part.xdom ∈ ch) : frame s { s with xdom := x } ch rg :=
  ⟨fun p hp => by cases p <;> first | rfl | exact absurd h hp, fun _ _ => rfl, rfl⟩

/-! ## A write by field access types, of a register whose low bits are RW -/

/-- A register whose bits are all RW or read-only takes the bits of its mask. -/
theorem plainWrite_rw {r : RegRow} (hl : r.rwl = 0) (hc : r.w1c = 0) :
    s.plainWrite src r a v = s.setReg a ((s.reg a &&& ~~~ Word.ofN r.rw) ||| (v &&& Word.ofN r.rw)) := by
  have hz : Word.ofN 0 = 0#64 := rfl
  have keep : ∀ w : Word, w &&& 18446744073709551615#64 = w := fun _ => BitVec.and_allOnes
  simp [plainWrite, hl, hc, hz, keep]

/-- What a write leaves in a register whose low `n` bits are RW and whose others are read-only. -/
theorem toNat_reg_plainWrite {r : RegRow} {n : Nat} (hn : n ≤ 64) (hrw : r.rw = 2 ^ n - 1) (hl : r.rwl = 0) (hc : r.w1c = 0) :
    ((s.plainWrite src r a v).reg a).toNat = (s.reg a).toNat / 2 ^ n * 2 ^ n + v.toNat % 2 ^ n := by
  rw [plainWrite_rw src v hl hc, reg_setReg_self, hrw]
  exact Word.toNat_mergeLow _ _ n hn
theorem frame_plainWrite {r : RegRow} (hl : r.rwl = 0) (hc : r.w1c = 0) {ch : List Part} {rg : Nat → Prop} (h : rg a) :
    frame s (s.plainWrite src r a v) ch rg := by
  rw [plainWrite_rw src v hl hc]; exact frame_setReg a _ h

/-- The row of HUB_AVAL_CFG (R552). -/
def avalRow : RegRow := ⟨"HUB_AVAL_CFG", 0x700, 1, 0x0, 1, 0x0, 1, 0x0, 1, 0x0, 0xFFFF, 0x0, 0x0, false⟩
theorem regRow_avalCfg : regRow HUB_AVAL_CFG.a = some avalRow := by decide +kernel
theorem applyWrite_avalCfg : s.applyWrite src HUB_AVAL_CFG.a v = s.plainWrite src avalRow HUB_AVAL_CFG.a v := by
  simp only [applyWrite, regRow_avalCfg]; rfl

/-! ## The rows of the access map -/

/-- What a row reaches past the offset of its first index. -/
def rowSpan (r : RegRow) : Nat := (r.n2 - 1) * r.s2 + (r.n3 - 1) * r.s3 + (r.n4 - 1) * r.s4

/-- The index that `RegRow.hits` finds along one stride. -/
def strideIndex (n s x : Nat) : Nat := if n ≤ 1 then 0 else min (x / s) (n - 1)
theorem strideIndex_mul_le (n s x : Nat) : strideIndex n s x * s ≤ x := by
  unfold strideIndex
  split
  · omega
  · exact (Nat.mul_le_mul_right s (Nat.min_le_left _ _)).trans (Nat.div_mul_le_self x s)
theorem strideIndex_le (n s x : Nat) : strideIndex n s x ≤ n - 1 := by
  unfold strideIndex
  split
  · omega
  · exact Nat.min_le_right _ _

/-- A row reaches only its own offset, moved by whole first strides and by a multiple of what divides its others, within its span. -/
theorem hits_reach {r : RegRow} (h : r.hits a = true) :
    ∃ i y, a = r.off + i * r.s1 + y ∧ y ≤ rowSpan r ∧ ∀ d, d ∣ r.s2 → d ∣ r.s3 → d ∣ r.s4 → d ∣ y := by
  unfold RegRow.hits at h
  split at h
  · cases h
  · extract_lets x0 i1 x1 i2 x2 i3 x3 i4 at h
    have e1 : i1 * r.s1 ≤ x0 := strideIndex_mul_le r.n1 r.s1 x0
    have e2 : i2 * r.s2 ≤ x1 := strideIndex_mul_le r.n2 r.s2 x1
    have e3 : i3 * r.s3 ≤ x2 := strideIndex_mul_le r.n3 r.s3 x2
    have e4 : x3 = i4 * r.s4 := beq_iff_eq.mp h
    have l2 : i2 * r.s2 ≤ (r.n2 - 1) * r.s2 := Nat.mul_le_mul_right _ (strideIndex_le r.n2 r.s2 x1)
    have l3 : i3 * r.s3 ≤ (r.n3 - 1) * r.s3 := Nat.mul_le_mul_right _ (strideIndex_le r.n3 r.s3 x2)
    have l4 : i4 * r.s4 ≤ (r.n4 - 1) * r.s4 := Nat.mul_le_mul_right _ (strideIndex_le r.n4 r.s4 x3)
    refine ⟨i1, i2 * r.s2 + i3 * r.s3 + i4 * r.s4, ?_, ?_, fun d h2 h3 h4 => ?_⟩
    · omega
    · unfold rowSpan; omega
    · exact Nat.dvd_add (Nat.dvd_add (h2.mul_left _) (h3.mul_left _)) (h4.mul_left _)

/-- The first element that passes a filter is the first that passes a stricter one, if it passes that. -/
theorem find?_eq_some_of_imp {α : Type} {p q : α → Bool} {l : List α} {x : α} (hpq : ∀ y, p y = true → q y = true)
    (hp : p x = true) (h : l.find? q = some x) : l.find? p = some x := by
  induction l with
  | nil => cases h
  | cons y t ih =>
    rw [List.find?_cons] at h ⊢
    cases hy : q y with
    | true => rw [hy] at h; cases h; rw [hp]
    | false =>
      rw [hy] at h
      rw [Bool.eq_false_iff.mpr (fun e => Bool.eq_false_iff.mp hy (hpq y e))]
      exact ih h

/-- In every crux die's window the row lies below the block of cores, above it, or at another place of a core's registers than 0x10. -/
def clearOfCoreCfg (r : RegRow) : Bool :=
  decide (r.s1 = 0x100000) &&
  (decide (r.off % 0x100000 + rowSpan r < 0x10000) ||
    decide (0x12000 ≤ r.off % 0x100000 ∧ r.off % 0x100000 + rowSpan r < 0x110000) ||
    decide (0x100 ∣ r.s2 ∧ 0x100 ∣ r.s3 ∧ 0x100 ∣ r.s4 ∧ r.off % 0x100 ≠ 0x10))
theorem not_clear_of_hits {r : RegRow} (h : r.hits a = true) (lo : 0x10010 ≤ a % 0x100000) (hi : a % 0x100000 < 0x12000)
    (hx : a % 0x100 = 0x10) : clearOfCoreCfg r = false := by
  obtain ⟨i, y, ha, hy, hd⟩ := hits_reach h
  simp only [clearOfCoreCfg, Bool.and_eq_false_iff, Bool.or_eq_false_iff, decide_eq_false_iff_not]
  by_cases hs : r.s1 = 0x100000
  · rw [hs] at ha
    refine Or.inr ⟨⟨by omega, by omega⟩, fun ⟨h2, h3, h4, ho⟩ => ?_⟩
    have := hd _ h2 h3 h4
    omega
  · exact Or.inl hs

/-- A write in the lower half of a crux die's window is one of `applyCores` (R593). -/
theorem applyWrite_cores {r : RegRow} (lo : 0x1000000 ≤ a) (hi : a < 0x2000000) (ho : a % 0x100000 < 0x70000) (hr : regRow a = some r) :
    s.applyWrite src a v = s.applyCores src r ((a - 0x1000000) / 0x100000) (a % 0x100000) a v := by
  simp only [applyWrite, hr]
  rw [if_neg (by omega), if_neg (by omega), if_neg (by omega), if_neg (by omega), if_pos hi, if_pos ho]
/-- In the block of cores every register but CRX_CORE_CTL is written by its fields' access types (R202). -/
theorem applyCores_plain (r : RegRow) (n : Nat) {o : Nat} (lo : 0x10000 ≤ o) (hi : o < 0x12000) (hc : o % 0x100 ≠ 8) :
    s.applyCores src r n o a v = s.plainWrite src r a v := by
  simp only [applyCores, Bool.and_eq_true, decide_eq_true_eq]
  iterate 13 rw [if_neg (by omega)]

/-- The row of CRX_CORE_CFG (R202). -/
def coreCfgRow : RegRow := ⟨"CRX_CORE_CFG", 0x1010010, 16, 0x100000, 32, 0x100, 1, 0x0, 1, 0x0, 0xFFFFFFFF, 0x0, 0x0, false⟩
/-- CRX_CORE_CFG of core `k` lies in the window of its crux die, in the block of cores. -/
theorem coreCfg_place (k : Fin 512) :
    0x1000000 ≤ CRX_CORE_CFG.a k ∧ CRX_CORE_CFG.a k < 0x2000000 ∧
    CRX_CORE_CFG.a k % 0x100000 = 0x10010 + k % 32 * 0x100 := by
  simp only [CRX_CORE_CFG.a, coreBase]; omega
/-- The row's two strides, by crux die and by core. -/
theorem hits_coreCfgRow {x : Nat} : coreCfgRow.hits (coreCfgRow.off + x) =
    (x - min (x / 0x100000) 15 * 0x100000 - min ((x - min (x / 0x100000) 15 * 0x100000) / 0x100) 31 * 0x100 == 0) := by
  simp [RegRow.hits, coreCfgRow]
theorem hits_coreCfg (k : Fin 512) : coreCfgRow.hits (CRX_CORE_CFG.a k) = true := by
  have place : CRX_CORE_CFG.a k = coreCfgRow.off + (k / 32 * 0x100000 + k % 32 * 0x100) := by
    simp only [CRX_CORE_CFG.a, coreBase, coreCfgRow]; omega
  rw [place, hits_coreCfgRow, beq_iff_eq]
  omega
/-- The offset names its row: every row searched before it clears the CRX_CORE_CFG of every core. -/
theorem regRow_coreCfg (k : Fin 512) : regRow (CRX_CORE_CFG.a k) = some coreCfgRow := by
  obtain ⟨lo, hi, ho⟩ := coreCfg_place k
  rw [regRow, rowsFor, if_neg (by omega), if_neg (by omega), if_pos lo]
  refine find?_eq_some_of_imp (q := fun r => !clearOfCoreCfg r) (fun r hr => ?_) (hits_coreCfg k) (by decide +kernel)
  rw [not_clear_of_hits hr (by omega) (by omega) (by omega)]; rfl
theorem applyWrite_coreCfg (k : Fin 512) : s.applyWrite src (CRX_CORE_CFG.a k) v = s.plainWrite src coreCfgRow (CRX_CORE_CFG.a k) v := by
  obtain ⟨lo, hi, ho⟩ := coreCfg_place k
  rw [applyWrite_cores src v lo hi (by omega) (regRow_coreCfg k)]
  exact applyCores_plain src v _ _ (by omega) (by omega) (by omega)

/-- The oldest staged write of a group, taken from the queue, is applied (R33, R35). -/
theorem xdomEffect_of_find {g : Group} {x : XWrite} (h : s.xdom.find? (fun y => y.grp == g) = some x) :
    s.xdomEffect g = ({ s with xdom := s.xdom.eraseP (fun y => y.grp == g) } : State).applyWrite x.src x.addr x.val := by
  simp only [xdomEffect, h]

end State

/-! ## The obligations -/

open State

/-- A malformed access of either kind is a refused access with status REJECT; a read returns zero beside. -/
theorem malformedAccess_runs (hu : awake s) (src : Src) (fn : BitVec 8) (a : BitVec 26) (w : Bool) :
    runs (.malformedAccess src fn a w) s (fun t =>
      t.reg HUB_HACC_CNT.a = Word.ofN ((s.reg HUB_HACC_CNT.a).toNat + 1) ∧
      (s.rb HUB_HACC_ERR.VALID = false →
        t.rb HUB_HACC_ERR.VALID = true ∧ t.rf HUB_HACC_ERR.OFFSET = a.toNat ∧ t.rf HUB_HACC_ERR.STATUS = stREJECT ∧
        t.rb HUB_HACC_ERR.WRITE = w ∧ t.rf HUB_HACC_ERR.FUNC = fn.toNat ∧ t.rf HUB_HACC_ERR.SOURCE = srcCode src) ∧
      (w = false → t.out.getLast? = some (.regData 0)) ∧
      s.frame t recordParts recordReg) := by
  have hl := fun hv => hacc_latches (s := s) src fn.toNat a.toNat w stREJECT hv a.isLt (by decide) fn.isLt
  have hc := reg_hacc_count (s := s) src fn.toNat a.toNat w stREJECT
  have hf : recorded s (s.hacc src fn.toNat a.toNat w stREJECT) := recorded_hacc ..
  refine ⟨_, exec_malformedAccess hu src fn a w, ?_⟩
  cases w with
  | true => exact ⟨hc, hl, fun e => Bool.noConfusion e, hf⟩
  | false =>
    simp only [Bool.false_eq_true, if_false, reg_emit, rf_emit, rb_emit, emit_out]
    exact ⟨hc, hl, fun _ => List.getLast?_concat, frame_trans hf (frame_emit _ (by decide))⟩

/-- Settles O7: both kinds of malformed access end in the same refused access. -/
theorem malformedAccesses : Obligations.MalformedAccesses := by
  unfold Obligations.MalformedAccesses
  rintro s src fn a v w c hu (rfl | ⟨rfl, rfl, ha⟩)
  · exact malformedAccess_runs hu src fn a w
  · refine ⟨_, exec_registerWrite hu src fn a v, ?_⟩
    rw [regWrite_misaligned src v hu _ ha]
    exact ⟨reg_hacc_count .., fun hv => hacc_latches src _ _ true stREJECT hv a.isLt (by decide) fn.isLt,
      fun e => Bool.noConfusion e, recorded_hacc ..⟩

/-- Settles O23: one clause per branch of a write of BAR0, and the delivery of a staged write. -/
theorem registerWritePaths : Obligations.RegisterWritePaths := by
  unfold Obligations.RegisterWritePaths
  intro s src a v hu
  have hx : ∀ fn, exec (.registerWrite src fn a v) s = _ := fun fn => exec_registerWrite hu src fn a v
  refine ⟨fun ha => ?misaligned, fun st ha hf => ?refused, fun ha ho hr => ?unassigned, fun r g ha ho hr hg => ?staged,
    fun ea ho => ?applied, fun g k hq => ?delivered, fun fn hfn ha hlt hp => ?vf, fun fn => ⟨?write, ?read⟩⟩
  case misaligned => exact turnedAway_of_exec ((hx 0).trans (congrArg _ (regWrite_misaligned src v hu 0 ha))) a.isLt (by decide)
  case refused => exact turnedAway_of_exec ((hx 0).trans (congrArg _ (regWrite_fails src v hu ha hf))) a.isLt (accessFails_lt src hf)
  case unassigned => exact ⟨_, hx 0, regWrite_unassigned src v hu ha ho hr⟩
  case staged =>
    refine ⟨_, (hx 0).trans (congrArg _ (regWrite_staged src v hu ha ho hr hg)), rfl, frame_xdom _ (by decide)⟩
  case applied =>
    have hw : s.regWrite src 0 a.toNat v = s.plainWrite src avalRow HUB_AVAL_CFG.a v := by
      rw [ea, regWrite_applied src v hu (by decide) ho regRow_avalCfg (by decide), applyWrite_avalCfg]
    exact ⟨_, (hx 0).trans (congrArg _ hw), toNat_reg_plainWrite (n := 16) src v (by decide) rfl rfl rfl,
      frame_plainWrite src v rfl rfl rfl⟩
  case delivered =>
    refine ⟨_, (exec_crossDomainWriteEffect hu g).trans (congrArg _ ((xdomEffect_of_find hq).trans (applyWrite_coreCfg src v k))),
      ?_, ?_, frame_trans (frame_xdom _ (by decide)) (frame_plainWrite src v rfl rfl rfl)⟩
    · rw [plainWrite_rw src v rfl rfl, setReg_xdom]
    · exact toNat_reg_plainWrite (n := 32) src v (by decide) rfl rfl rfl
  case vf =>
    have hn : fn.toNat ≠ 0 := fun e => hfn (BitVec.eq_of_toNat_eq e)
    refine ⟨_, (hx fn).trans (congrArg _ ((regWrite_vf src v hu hn ha hlt).trans (writeMsix_quiet v _ _ hp))), ?_,
      frame_withHost _ (by decide)⟩
    rw [vfRead, if_pos hlt]
    exact sparseGet_set_self _ _ _ _
  case write =>
    obtain ⟨t, ht, hc, -, -, hf⟩ := malformedAccess_runs hu src fn a true
    exact ⟨t, ht, hc, hf⟩
  case read =>
    obtain ⟨t, ht, hc, -, ho, hf⟩ := malformedAccess_runs hu src fn a false
    exact ⟨t, ht, hc, ho rfl, hf⟩

end Machine
end Sys2Proof
end

section
/-! PROOF. What the register map reads after reset where it depends on an index (R62, R160, R459), and the obligation on reset. -/
namespace Sys2Proof

/-- A field of a natural number taken as a word is the number's own, where the word holds it. -/
theorem Word.field_ofN (v lo n : Nat) (h : lo + n ≤ 64) : (Word.ofN v).field lo n = v / 2 ^ lo % 2 ^ n := by
  have split : 2 ^ 64 = 2 ^ lo * 2 ^ (64 - lo) := by rw [← Nat.pow_add]; congr 1; omega
  rw [Word.field, Word.ofN, BitVec.toNat_ofNat, split, Nat.mod_mul_right_div_self, Nat.mod_mod_of_dvd _ (Nat.pow_dvd_pow 2 (by omega))]

namespace Machine
namespace State

/-! ## Where a row of the map cannot reach -/

/-- A row reaches nothing below its offset and nothing past the last of its registers. -/
theorem hits_bounds {r : RegRow} {a : Nat} (h : r.hits a = true) : r.off ≤ a ∧ a ≤ r.off + (r.n1 - 1) * r.s1 + rowSpan r := by
  unfold RegRow.hits at h
  split at h
  · cases h
  · extract_lets x0 i1 x1 i2 x2 i3 x3 i4 at h
    have e : x3 = i4 * r.s4 := beq_iff_eq.mp h
    have l1 : i1 * r.s1 ≤ (r.n1 - 1) * r.s1 := Nat.mul_le_mul_right _ (strideIndex_le r.n1 r.s1 x0)
    have l2 : i2 * r.s2 ≤ (r.n2 - 1) * r.s2 := Nat.mul_le_mul_right _ (strideIndex_le r.n2 r.s2 x1)
    have l3 : i3 * r.s3 ≤ (r.n3 - 1) * r.s3 := Nat.mul_le_mul_right _ (strideIndex_le r.n3 r.s3 x2)
    have l4 : i4 * r.s4 ≤ (r.n4 - 1) * r.s4 := Nat.mul_le_mul_right _ (strideIndex_le r.n4 r.s4 x3)
    unfold rowSpan
    omega

/-- The row reaches no address from `lo` to below `hi` whose remainder by `m` is from `o` to below `o'`: it lies below or above them,
its first stride keeps it before or behind these remainders, or all its strides keep its remainder. -/
def spares (lo hi m o o' : Nat) (r : RegRow) : Bool :=
  decide (r.off + (r.n1 - 1) * r.s1 + rowSpan r < lo) || decide (hi ≤ r.off) ||
  (decide (m ∣ r.s1) && (decide (r.off % m + rowSpan r < o) || decide (o' ≤ r.off % m ∧ r.off % m + rowSpan r < m) ||
    decide (m ∣ r.s2 ∧ m ∣ r.s3 ∧ m ∣ r.s4 ∧ (r.off % m < o ∨ o' ≤ r.off % m))))

theorem not_spares_of_hits {r : RegRow} {a lo hi m o o' : Nat} (h : r.hits a = true) (l : lo ≤ a) (u : a < hi) (p : o ≤ a % m)
    (q : a % m < o') : spares lo hi m o o' r = false := by
  obtain ⟨b, t⟩ := hits_bounds h
  obtain ⟨i, y, ha, hy, hd⟩ := hits_reach h
  have rem : m ∣ r.s1 → a % m = (r.off % m + y) % m := fun hs => by
    rw [ha, Nat.add_right_comm, Nat.add_mod, Nat.mod_eq_zero_of_dvd (hs.mul_left i), Nat.add_zero, Nat.mod_mod, Nat.mod_add_mod]
  rw [Bool.eq_false_iff]
  simp only [spares, Bool.or_eq_true, Bool.and_eq_true, decide_eq_true_eq, ne_eq]
  rintro ((hlo | hhi) | ⟨hs, (hb | ⟨ho, hm⟩) | ⟨h2, h3, h4, hr⟩⟩)
  · omega
  · omega
  · have := Nat.mod_le (r.off % m + y) m
    have := rem hs
    omega
  · have := rem hs
    rw [Nat.mod_eq_of_lt (a := r.off % m + y) (by omega)] at this
    omega
  · have := rem hs
    rw [Nat.add_mod, Nat.mod_eq_zero_of_dvd (hd m h2 h3 h4), Nat.add_zero, Nat.mod_mod, Nat.mod_mod] at this
    omega

/-! ## Registers after reset -/

theorem reg_reset {a : Nat} (h : a ≠ 0x350018) : State.reset.reg a = regReset a := by
  have : lookupKey State.reset.regs a = none := if_neg (Ne.symm h)
  simp only [reg, sparseGet, this, Option.getD_none]

/-- The reset value of the register is one of the reset table's rows, or zero: no fuse gives it, and it is no hold or queue limit. -/
abbrev resetByRow (a : Nat) : Prop :=
  0x100000 ≤ a ∧ ¬ (0x300000 ≤ a ∧ a < 0x400000) ∧
  ¬ (0x01000000 ≤ a ∧ a < 0x02000000 ∧ (a % 0x100000 = 0x30080 ∨ 0x80100 ≤ a % 0x100000 ∧ a % 0x100000 < 0x81600))

theorem fusedReset_eq_none {a : Nat} (h : resetByRow a) : fusedReset a = none := by
  have hub : ∀ {b : Nat}, b < 0x100000 → a ≠ b := by omega
  have pwr : ∀ {b : Nat}, 0x300000 ≤ b ∧ b < 0x400000 → a ≠ b := by omega
  unfold fusedReset
  iterate 8 rw [if_neg (hub (by decide))]
  iterate 2 rw [if_neg (pwr (by decide))]
  rw [if_neg (by simp only [PWR_DIE_STS.a]; omega), if_neg (by omega)]

/-- A field is zero after reset where it is zero in every row of the reset table that reaches its register. -/
theorem rf_reset_zero {x : Rf} (ha : resetByRow x.a) (hw : x.lo + x.w ≤ 64)
    (h : ∀ p ∈ resetRows, p.1.hits x.a = true → p.2 / 2 ^ x.lo % 2 ^ x.w = 0) : State.reset.rf x = 0 := by
  rw [rf, reg_reset (by omega), regReset, fusedReset_eq_none ha, ← Word.ofN, Word.field_ofN _ _ _ hw]
  dsimp only
  rw [if_neg (by omega), if_neg (by omega)]
  split
  · rename_i p hp
    exact h p (List.mem_of_find?_eq_some hp) (List.find?_some (p := fun q : RegRow × Nat => q.1.hits x.a) hp)
  · simp

/-- A row that reaches a register of a window has a zero there, if it is zero wherever it does not spare the window. -/
theorem field_zero_of_spares {lo hi m o o' l w a : Nat} {p : RegRow × Nat} (h : p.1.hits a = true)
    (ha : lo ≤ a ∧ a < hi ∧ o ≤ a % m ∧ a % m < o') (k : spares lo hi m o o' p.1 = true ∨ p.2 / 2 ^ l % 2 ^ w = 0) :
    p.2 / 2 ^ l % 2 ^ w = 0 := by
  obtain ⟨h1, h2, h3, h4⟩ := ha
  exact k.resolve_left (by rw [not_spares_of_hits h h1 h2 h3 h4]; decide)

/-- A port's registers lie in the first 28 KiB past offset 0x1000 of the port dies' windows, in blocks of 0x200 (R12 to R14, R594). -/
theorem portBase_place {P : Nat} (h : P < 1152) :
    0x02001000 ≤ portBase P ∧ portBase P < 0x03000000 ∧ portBase P % 0x200 = 0 ∧ 0x1000 ≤ portBase P % 0x80000 ∧
    portBase P % 0x80000 < 0x7000 := by
  unfold portBase; split <;> omega

theorem pstate_reset {P : Nat} (h : P < 1152) : State.reset.pstate P = 0 := by
  obtain ⟨lo, hi, hm, l, u⟩ := portBase_place h
  have key : ∀ p ∈ resetRows, spares 0x02001000 0x03000008 0x80000 0x1000 0x7008 p.1 = true ∨
      spares 0x02001000 0x03000008 0x200 8 9 p.1 = true ∨ p.2 / 2 ^ 0 % 2 ^ 4 = 0 := by decide +kernel
  refine rf_reset_zero (x := PRT_PORT_STS.STATE P) ?_ (show 0 + 4 ≤ 64 by decide) fun p hp hh => ?_ <;>
    simp only [PRT_PORT_STS.STATE, PRT_PORT_STS.a] at *
  · omega
  · exact field_zero_of_spares hh (by omega) ((key p hp).imp_right (field_zero_of_spares hh (by omega)))

theorem enable_reset {P : Nat} (h : P < 1152) : State.reset.rf (PRT_PORT_CTL.ENABLE P) = 0 := by
  obtain ⟨lo, hi, hm, l, u⟩ := portBase_place h
  have key : ∀ p ∈ resetRows, spares 0x02001000 0x03000000 0x80000 0x1000 0x7000 p.1 = true ∨ p.2 / 2 ^ 0 % 2 ^ 1 = 0 := by decide +kernel
  refine rf_reset_zero (x := PRT_PORT_CTL.ENABLE P) ?_ (show 0 + 1 ≤ 64 by decide) fun p hp hh => ?_ <;>
    simp only [PRT_PORT_CTL.ENABLE, PRT_PORT_CTL.a] at *
  · omega
  · exact field_zero_of_spares hh (by omega) (key p hp)

theorem hrnState_reset {h : Nat} (h1 : 1 ≤ h) (h2 : h < 4096) : State.reset.hrnState h = 0 := by
  have key : ∀ p ∈ resetRows, spares 0x100000 0x180000 0x80 0 1 p.1 = true := by decide +kernel
  rw [hrnState, if_neg (by omega)]
  refine rf_reset_zero (x := HRN_STS.STATE h) ?_ (show 0 + 3 ≤ 64 by decide) fun p hp hh => ?_ <;>
    simp only [HRN_STS.STATE, HRN_STS.a] at *
  · omega
  · exact field_zero_of_spares hh (by omega) (.inl (key p hp))

theorem poolState_reset {q : Nat} (h : q < 64) : State.reset.rf (POOL_STS.STATE q) = 0 := by
  have key : ∀ p ∈ resetRows, spares 0x01070000 0x02000000 0x100000 0x70000 0x74000 p.1 = true := by decide +kernel
  refine rf_reset_zero (x := POOL_STS.STATE q) ?_ (show 0 + 2 ≤ 64 by decide) fun p hp hh => ?_ <;>
    simp only [POOL_STS.STATE, POOL_STS.a, poolBase] at *
  · omega
  · exact field_zero_of_spares hh (by omega) (.inl (key p hp))

end State

open State

/-- Settles O6: the fields of one index are read off the register map; those of every port, harness and pool are zero because no row of
the reset table with a bit there reaches them. -/
theorem resetLeaves : Obligations.ResetLeaves := by
  unfold Obligations.ResetLeaves
  refine ⟨by decide, rfl, rfl, rfl, rfl, rfl, ?_, ?_, ?_, ?_, ?_, ?_, ?_, ?_, ?_, ?_, ?_, ?_, ?_, ?_, ?_, ?_,
    fun P h => ⟨pstate_reset h, enable_reset h⟩, fun h => hrnState_reset, fun q => poolState_reset, fun k _ => rfl⟩ <;> decide +kernel

end Machine
end Sys2Proof
end

section
/-! PROOF. The rules of a link: which commands reach a port, what a sent link frame, an acknowledgement and a replay leave (R39 to
R44), and the obligation on acknowledgements. -/
namespace Sys2Proof.Machine

/-- A command that runs where the device is awake leaves what its meaning says. -/
theorem runs_unheld {c : Instr} {s u : State} {Q : State → Prop} (hu : awake s) (he : exec c s = unheld s u) (h : Q u) : runs c s Q :=
  ⟨u, by rw [he, unheld, hu]; rfl, h⟩

/-- What a port remembers of its link beside the acknowledgement it owes: belay, the replay buffer and the XOFF bits. -/
def PortSt.belay (p : PortSt) : (Nat × Nat × List Held) × (Nat × Bool) × (Nat × Nat) :=
  ((p.rxExpect, p.txNext, p.held), (p.failed, p.replayed), (p.xoffRx, p.xoffTx))
/-- The port once a link frame has carried its acknowledgement and XOFF bits. -/
def PortSt.carried (p : PortSt) : PortSt := { p with ackDue := false, unacked := 0, xoffDirty := false }
/-- The port at a replay trigger: a replay made since LACK last advanced has failed (R43). -/
def PortSt.tried (p : PortSt) : PortSt := { p with failed := p.failed + (if p.replayed then 1 else 0), replayed := true }
/-- The LTYPE under which a held frame goes out again (R39). -/
def heldType : LinkBody → Nat
  | .partner _ => 3
  | _ => 0

namespace State
variable {s t : State} {P : Nat}

/-! ## Reading through a frame -/

theorem rf_of_frame {ch : List Part} {rg : Nat → Prop} (h : frame s t ch rg) {x : Rf} (hx : ¬ rg x.a) : t.rf x = s.rf x := by
  rw [rf, rf, h.2.1 _ hx]
theorem rb_of_frame {ch : List Part} {rg : Nat → Prop} (h : frame s t ch rg) {x : Rf} (hx : ¬ rg x.a) : t.rb x = s.rb x := by
  rw [rb, rb, rf_of_frame h hx]
theorem port_of_frame {ch : List Part} {rg : Nat → Prop} (h : frame s t ch rg) (hp : Part.ports ∉ ch) (Q : Nat) : t.port Q = s.port Q := by
  have e : t.ports = s.ports := h.1 _ hp
  rw [port, port, e]
/-- No record counts in a port's block of registers. -/
theorem not_recordReg_port (P o : Nat) : ¬ recordReg (portBase P + o) := by
  unfold recordReg portBase; split <;> omega

theorem port_count (x : Rf) (n Q : Nat) : (s.count x n).port Q = s.port Q := by
  rw [port, port, count_ports]

/-! ## Which link commands reach the port -/

section
variable (hb : s.belayUp P = true) (ho : s.oddBonded P = false)
include hb ho
theorem onLink_up (k : State → State) : s.onLink P k = k s := by rw [onLink, hb, ho]; rfl
theorem onFrame_up (hi : (s.port P).idle = false) (k : State → State) : s.onFrame P k = k s := by
  rw [onFrame, onLink_up hb ho, if_neg (by rw [hi]; decide)]
end

/-! ## What a link frame that passes its check brings beside its body: LACK and XOFF (R39, R42, R44) -/

/-- The held frames that an LACK `l` leaves (R42). -/
def heldFrom (s : State) (P l : Nat) : List Held :=
  (s.port P).held.filter (fun h => !(decide (1 ≤ sub24 l h.lseq) && decide (sub24 l h.lseq ≤ 2 ^ 23)))

theorem freeBefore_eq (l : Nat) :
    s.freeBefore P l =
      if (s.heldFrom P l).length < (s.port P).held.length then
        s.setPort P { s.port P with held := s.heldFrom P l, failed := 0, replayed := false }
      else s := rfl
theorem port_freeBefore (l : Nat) :
    (s.freeBefore P l).port P =
      if (s.heldFrom P l).length < (s.port P).held.length then { s.port P with held := s.heldFrom P l, failed := 0, replayed := false }
      else s.port P := by
  rw [freeBefore_eq, apply_ite (fun t : State => t.port P), port_setPort_self]
/-- Where an acknowledgement frees nothing, every held frame is left. -/
theorem heldFrom_eq (l : Nat) (h : ¬ (s.heldFrom P l).length < (s.port P).held.length) : s.heldFrom P l = (s.port P).held :=
  (List.filter_sublist).eq_of_length_le (Nat.not_lt.mp h)
theorem frame_freeBefore (l : Nat) : frame s (s.freeBefore P l) [.ports] (fun _ => False) := by
  rw [freeBefore_eq]
  split
  · exact frame_setPort _ _ (by decide)
  · exact frame_refl _ _ _
theorem port_freeBefore_ne {Q : Nat} (h : Q ≠ P) (l : Nat) : (s.freeBefore P l).port Q = s.port Q := by
  rw [freeBefore_eq]
  split
  · exact port_setPort_ne _ _ _ _ h
  · rfl

theorem frame_takePrefix (w : Word) : frame s (s.takePrefix P w) [.ports] (fun _ => False) := by
  simp only [takePrefix]
  split
  · exact frame_trans (frame_freeBefore _) (frame_setPort _ _ (by decide))
  · exact frame_setPort _ _ (by decide)
theorem port_takePrefix_ne {Q : Nat} (h : Q ≠ P) (w : Word) : (s.takePrefix P w).port Q = s.port Q := by
  simp only [takePrefix]
  rw [port_setPort_ne _ _ _ _ h]
  split
  · exact port_freeBefore_ne h _
  · rfl
theorem port_takePrefix_plain {w : Word} (ha : pfAckValid w = false) : (s.takePrefix P w).port P = { s.port P with xoffRx := pfXoff w } := by
  simp only [takePrefix, ha, port_setPort_self]; rfl
theorem port_takePrefix_ack {w : Word} (ha : pfAckValid w = true) :
    (s.takePrefix P w).port P = { (s.freeBefore P (pfLack w)).port P with xoffRx := pfXoff w } := by
  simp only [takePrefix, ha, port_setPort_self]; rfl

/-- An LACK lies below 2^24, so the distance to it is what R42 writes. -/
theorem sub24_pfLack (w : Word) (b : Nat) : sub24 (pfLack w) b = (pfLack w + 2 ^ 24 - b % 2 ^ 24) % 2 ^ 24 := by
  rw [sub24, Nat.mod_eq_of_lt (show pfLack w < 2 ^ 24 from Nat.mod_lt _ (by decide))]

/-- What an ACK leaves in its port (R42). -/
theorem port_takePrefix (w : Word) :
    let q := (s.takePrefix P w).port P
    q.held = (if pfAckValid w then s.heldFrom P (pfLack w) else (s.port P).held) ∧
    (q.held.length < (s.port P).held.length → q.failed = 0 ∧ q.replayed = false) ∧
    (q.held.length = (s.port P).held.length → q.failed = (s.port P).failed) ∧
    q.xoffRx = pfXoff w ∧ q.rxExpect = (s.port P).rxExpect ∧ q.txNext = (s.port P).txNext := by
  cases ha : pfAckValid w with
  | false =>
    rw [port_takePrefix_plain ha]
    exact ⟨rfl, fun h => absurd h (Nat.lt_irrefl _), fun _ => rfl, rfl, rfl, rfl⟩
  | true =>
    rw [port_takePrefix_ack ha, port_freeBefore]
    by_cases h : (s.heldFrom P (pfLack w)).length < (s.port P).held.length
    · rw [if_pos h]
      exact ⟨rfl, fun _ => ⟨rfl, rfl⟩, fun e => absurd e (Nat.ne_of_lt h), rfl, rfl, rfl⟩
    · rw [if_neg h]
      exact ⟨(heldFrom_eq _ h).symm, fun e => absurd e (Nat.lt_irrefl _), fun _ => rfl, rfl, rfl, rfl⟩

/-! ## Link frames sent by a port without MACsec (R40, R42, R44) -/

section
variable (hm : s.rb (PRT_PORT_CTL.MACSEC P) = false)
include hm

theorem sendLink_plain (l ty : Nat) (b : LinkBody) :
    s.sendLink P l ty b =
      (s.setPort P (s.port P).carried).emit (.link P (mkPrefix l (s.port P).rxExpect ty (s.port P).xoffTx true) b) := by
  have hs : ∀ p, (s.setPort P p).macsecSend P = s.setPort P p := fun p => if_pos (by
    rw [Bool.not_eq_true']; exact hm)
  rw [sendLink, hs]; rfl
theorem out_sendLink (l ty : Nat) (b : LinkBody) :
    (s.sendLink P l ty b).out = s.out ++ [.link P (mkPrefix l (s.port P).rxExpect ty (s.port P).xoffTx true) b] := by
  rw [sendLink_plain hm]; rfl
theorem port_sendLink (l ty : Nat) (b : LinkBody) : (s.sendLink P l ty b).port P = (s.port P).carried := by
  rw [sendLink_plain hm]; exact port_setPort_self _ _ _
theorem frame_sendLink (l ty : Nat) (b : LinkBody) : frame s (s.sendLink P l ty b) [.ports, .out] (fun _ => False) := by
  rw [sendLink_plain hm]; exact frame_trans (frame_setPort _ _ (by decide)) (frame_emit _ (by decide))
theorem port_sendLink_ne {Q : Nat} (h : Q ≠ P) (l ty : Nat) (b : LinkBody) : (s.sendLink P l ty b).port Q = s.port Q := by
  rw [sendLink_plain hm]; exact port_setPort_ne _ _ _ _ h

omit hm in
theorem sendHeld_eq (cls : Nat) (b : LinkBody) :
    s.sendHeld P cls b =
      (s.setPort P { s.port P with
        txNext := ((s.port P).txNext + 1) % 2 ^ 24, held := (s.port P).held ++ [⟨(s.port P).txNext, cls, b⟩] }).sendLink P (s.port P).txNext
        (heldType b) b := by
  cases b <;> rfl
/-- A first transmission takes the next LSEQ, is held, and goes out (R40). -/
theorem sendHeld_plain (cls : Nat) (b : LinkBody) :
    (s.sendHeld P cls b).out =
      s.out ++ [.link P (mkPrefix (s.port P).txNext (s.port P).rxExpect (heldType b) (s.port P).xoffTx true) b] ∧
    (s.sendHeld P cls b).port P =
      { (s.port P).carried with txNext := ((s.port P).txNext + 1) % 2 ^ 24, held := (s.port P).held ++ [⟨(s.port P).txNext, cls, b⟩] } ∧
    frame s (s.sendHeld P cls b) [.ports, .out] (fun _ => False) := by
  have hm' : ∀ p, (s.setPort P p).rb (PRT_PORT_CTL.MACSEC P) = false := fun _ => hm
  refine ⟨?_, ?_, by rw [sendHeld_eq]; exact frame_trans (frame_setPort _ _ (by decide)) (frame_sendLink (hm' _) _ _ _)⟩
  · rw [sendHeld_eq, out_sendLink (hm' _), port_setPort_self]; rfl
  · rw [sendHeld_eq, port_sendLink (hm' _), port_setPort_self]; rfl

end

/-! ## Replays (R43) -/

/-- Link frames sent again, in order, each with its own LSEQ. -/
def sendAgain (P : Nat) (hs : List Held) (s : State) : State :=
  hs.foldl (fun t h => t.sendLink P h.lseq (heldType h.body) h.body) s
theorem resendHeld_eq : s.resendHeld P = (sendAgain P (s.port P).held s).count (PRT_CNT_REPLAY.V P) (s.port P).held.length := rfl

theorem sendAgain_plain (hs : List Held) {s : State} (hm : s.rb (PRT_PORT_CTL.MACSEC P) = false) :
    (sendAgain P hs s).out =
      s.out ++ hs.map (fun x => .link P (mkPrefix x.lseq (s.port P).rxExpect (heldType x.body) (s.port P).xoffTx true) x.body) ∧
    ((sendAgain P hs s).port P).belay = (s.port P).belay ∧ frame s (sendAgain P hs s) [.ports, .out] (fun _ => False) := by
  induction hs generalizing s with
  | nil => exact ⟨(List.append_nil _).symm, rfl, frame_refl _ _ _⟩
  | cons h hs ih =>
    have hf := frame_sendLink hm h.lseq (heldType h.body) h.body
    obtain ⟨out, belay, rest⟩ := ih ((rb_of_frame hf not_false).trans hm)
    rw [port_sendLink hm] at out belay
    refine ⟨?_, belay, frame_trans hf rest⟩
    rw [sendAgain, List.foldl_cons, ← sendAgain, out, out_sendLink hm, List.append_assoc]
    rfl

/-- From `s` to `t` port `P` has made a replay: every held frame has gone out again with its own LSEQ, is still held and is counted. -/
def replaysTo (s t : State) (P : Nat) : Prop :=
  t.out = s.out ++ (s.port P).held.map (fun x =>
    .link P (mkPrefix x.lseq (s.port P).rxExpect (heldType x.body) (s.port P).xoffTx true) x.body) ∧
  (t.port P).held = (s.port P).held ∧ (t.port P).replayed = true ∧
  (t.port P).failed = (s.port P).failed + (if (s.port P).replayed then 1 else 0) ∧
  t.reg (PRT_CNT_REPLAY.V P).a = Word.ofN ((s.reg (PRT_CNT_REPLAY.V P).a).toNat + (s.port P).held.length) ∧
  s.frame t [.ports, .out, .sticky] (fun a => a = (PRT_CNT_REPLAY.V P).a)

/-- A replay trigger below REPLAY_LIMIT (R43). -/
theorem replayTrigger_replays (hm : s.rb (PRT_PORT_CTL.MACSEC P) = false) (hh : (s.port P).held ≠ [])
    (hl : (s.port P).failed + 1 < max 1 (s.rf (PRT_BELAY_CFG.REPLAY_LIMIT P))) :
    s.replaysTo (s.replayTrigger P) P := by
  have count : (if (s.port P).replayed then (s.port P).failed + 1 else (s.port P).failed) =
      (s.port P).failed + (if (s.port P).replayed then 1 else 0) := by split <;> rfl
  have below : ¬ s.replayLimit P ≤ (s.port P).failed + (if (s.port P).replayed then 1 else 0) := by
    rw [replayLimit]; split <;> omega
  have trigger : s.replayTrigger P = (s.setPort P (s.port P).tried).resendHeld P := by
    simp only [replayTrigger, count, if_neg below, List.isEmpty_eq_false_iff.mpr hh]; rfl
  obtain ⟨out, belay, hf⟩ := sendAgain_plain (s.port P).held (s := s.setPort P (s.port P).tried) hm
  rw [port_setPort_self] at out belay
  simp only [PortSt.belay, Prod.mk.injEq] at belay
  obtain ⟨⟨-, -, held⟩, ⟨failed, replayed⟩, -⟩ := belay
  rw [trigger, resendHeld_eq, port_setPort_self, show (s.port P).tried.held = (s.port P).held from rfl]
  refine ⟨?_, ?_, ?_, ?_, ?_, ?_⟩
  · rw [count_out]; exact out
  · rw [port_count]; exact held
  · rw [port_count]; exact replayed
  · rw [port_count]; exact failed
  · rw [reg_count_self, hf.2.1 _ not_false]; rfl
  · exact frame_trans (frame_setPort _ _ (by decide)) (frame_trans (frame_mono hf (by decide) (fun _ => False.elim))
      (frame_count _ _ rfl (by decide)))

/-- What a standalone ACK leaves: it goes out with LACK = E, ACK_VALID and the XOFF bits, and no acknowledgement is due (R42, R44). -/
theorem sendAck_plain (hm : s.rb (PRT_PORT_CTL.MACSEC P) = false) :
    (s.sendAck P).out = s.out ++ [.link P (mkPrefix 0 (s.port P).rxExpect 1 (s.port P).xoffTx true) .none] ∧
    (s.sendAck P).port P = { s.port P with ackDue := false, unacked := 0, xoffDirty := false } ∧
    (∀ Q, Q ≠ P → (s.sendAck P).port Q = s.port Q) ∧ s.frame (s.sendAck P) [.ports, .out] (fun _ => False) :=
  ⟨out_sendLink hm _ _ _, port_sendLink hm _ _ _, fun _ h => port_sendLink_ne hm h _ _ _, frame_sendLink hm _ _ _⟩

/-- A NAK that frees nothing triggers a replay as its port stood. -/
theorem nakIn_replays {w : Word} (ha : pfAckValid w = false) (hm : s.rb (PRT_PORT_CTL.MACSEC P) = false) (hh : (s.port P).held ≠ [])
    (hl : (s.port P).failed + 1 < max 1 (s.rf (PRT_BELAY_CFG.REPLAY_LIMIT P))) :
    s.replaysTo (s.nakIn P w .ok) P := by
  have hf := frame_takePrefix (s := s) (P := P) w
  have hp := port_takePrefix_plain (s := s) (P := P) ha
  obtain ⟨out, held, replayed, failed, count, rest⟩ := replayTrigger_replays (s := s.takePrefix P w) (P := P)
    ((rb_of_frame hf not_false).trans hm) (by rw [hp]; exact hh) (by rw [hp, rf_of_frame hf not_false]; exact hl)
  rw [hp] at out held failed count
  rw [hf.2.1 _ not_false] at count
  rw [show (s.takePrefix P w).out = s.out from hf.1 .out (by decide)] at out
  exact ⟨out, held, replayed, failed, count, frame_trans (frame_mono hf (by decide) (fun _ => False.elim)) rest⟩

end State

open State

/-- Settles O9: an ACK is its LACK and XOFF bits, the three timers send one standalone ACK, and both replay triggers send again what is held. -/
theorem linkAcknowledgements : Obligations.LinkAcknowledgements := by
  unfold Obligations.LinkAcknowledgements
  refine ⟨fun s P w hu hb ho hi => ?ack, fun s P c hu hb ho hm hc => ?timer, fun s P w c hu hb ho hi hm ha hh hl hc => ?replay⟩
  case ack =>
    refine runs_unheld hu rfl ?_
    rw [onFrame_up hb ho hi]
    obtain ⟨held, fewer, same, xoff, expect, next⟩ := port_takePrefix (s := s) (P := P) w
    simp only [heldFrom, sub24_pfLack] at held
    exact ⟨held, fewer, same, xoff, expect, next, fun Q h => port_takePrefix_ne h w, frame_takePrefix w⟩
  case timer =>
    have sent := sendAck_plain (s := s) (P := P) hm
    rcases hc with ⟨rfl, due⟩ | ⟨rfl, dirty⟩ | ⟨rfl, raised⟩
    · refine runs_unheld hu rfl ?_
      rw [onLink_up hb ho, if_pos due]
      exact sent
    · refine runs_unheld hu rfl ?_
      rw [onLink_up hb ho, if_pos dirty]
      exact sent
    · refine runs_unheld hu rfl ?_
      rw [onLink_up hb ho]
      dsimp only
      rw [if_pos (by rw [bne_iff_ne.mpr raised]; rfl)]
      exact sent
  case replay =>
    rcases hc with rfl | rfl
    · refine runs_unheld hu rfl ?_
      rw [onFrame_up hb ho hi]
      exact nakIn_replays ha hm hh hl
    · refine runs_unheld hu rfl ?_
      rw [onLink_up hb ho]
      dsimp only [cutShort]
      rw [ite_self]
      exact replayTrigger_replays hm hh hl

end Sys2Proof.Machine
end

section
/-! PROOF. Port states (R51, R53, R57): what entering a state, a link failure and a PARTNER message leave, and the two obligations on
port timers and on discards and partners. -/
namespace Sys2Proof

/-- Byte `k` of a number given by its little-endian bytes. -/
theorem leNat_byte (l : List Byte) (k : Nat) : leNat l / 2 ^ (8 * k) % 2 ^ 8 = (l.getD k 0).toNat := by
  induction l generalizing k with
  | nil => simp [leNat]
  | cons b l ih =>
    have hb : b.toNat < 256 := b.isLt
    cases k with
    | zero => simp only [leNat, List.getD_cons_zero]; omega
    | succ k =>
      rw [List.getD_cons_succ, ← ih, leNat, show 2 ^ (8 * (k + 1)) = 256 * 2 ^ (8 * k) by rw [Nat.mul_succ, Nat.pow_add]; ring,
        ← Nat.div_div_eq_div_mul, Nat.add_mul_div_left _ _ (by decide), Nat.div_eq_of_lt hb, Nat.zero_add]

namespace Machine

/-- The port with belay from zero (R40, R57). -/
def PortSt.fresh (p : PortSt) : PortSt :=
  { p with rxExpect := 0, txNext := 0, held := [], failed := 0, replayed := false, ackDue := false, unacked := 0, nak := none,
           xoffRx := 0, xoffDirty := false, openMsgs := [], partnerOk := false }
/-- The port with the frame of link word `w` accepted: E advances and an acknowledgement falls due (R41). -/
def PortSt.accepting (p : PortSt) (w : Word) : PortSt :=
  { p with xoffRx := pfXoff w, rxExpect := (p.rxExpect + 1) % 2 ^ 24, ackDue := true, unacked := p.unacked + 1, nak := none }

namespace State
variable {s t : State} {P : Nat}

/-! ## Offers and traces send nothing out of the device, and write no hub register below the avalanche block but records' own -/

theorem out_setWoItems (p : Nat) (l : List Item) : (s.setWoItems p l).out = s.out := by simp only [setWoItems]; split <;> rfl
theorem out_setWo (p : Nat) (w : Whiteout) : (s.setWo p w).out = s.out := by simp only [setWo]; split <;> rfl
theorem out_woSettle (p : Nat) : (s.woSettle p).out = s.out := by
  simp only [woSettle]
  split
  · rw [lifeInc, inc, count_out, out_setWo, satInc, wf_out, wf_out, wf_out, wf_out]
  · rw [wf_out, wf_out]
theorem out_woDrop (p k : Nat) : (s.woDrop p k).out = s.out := by rw [woDrop, out_setWo, inc, count_out]
theorem out_evictFor (p n fuel : Nat) (s : State) : (evictFor p n fuel s).out = s.out := by
  induction fuel generalizing s with
  | zero => rfl
  | succ k ih =>
    simp only [evictFor]
    split
    · rfl
    · split
      · rfl
      · rw [ih, out_woDrop, out_setWoItems]
theorem out_offer (p : Nat) (it : Item) : (s.offer p it).out = s.out := by
  unfold offer
  extract_lets n s1 o lim
  have evicted : s1.out = s.out := by
    show (if it.prio = 5 then evictFor p n ((s.woItems p).length + 1) s else s).out = s.out
    split
    · exact out_evictFor _ _ _ _
    · rfl
  split
  · rw [out_woSettle, out_setWoItems, evicted]
  · rw [out_woSettle, out_woDrop, evicted]

theorem out_trace (q u h : Nat) (l : List Byte) : (s.trace q u h l).out = s.out := by
  simp only [trace]
  split
  · exact out_offer _ _
  · rfl
theorem reg_trace_unrecorded {a : Nat} (ha : unrecorded a) (q u h : Nat) (l : List Byte) : (s.trace q u h l).reg a = s.reg a := by
  simp only [trace]
  split
  · exact reg_offer_unrecorded ha _ _
  · rfl

/-! ## Entering a port state (R53) -/

/-- The registers that a change of a port's state may touch: its status, and those that records count in. -/
abbrev stateReg (P a : Nat) : Prop := a = PRT_PORT_STS.a P ∨ recordReg a

theorem recorded_memberEvent (c v : Nat) : recorded s (s.memberEvent P c v) := recorded_report _ (show (4 : Nat) < 256 by decide)
/-- A record leaves a field of a port's registers. -/
theorem rf_port_of_recorded (h : recorded s t) {x : Rf} {o : Nat} (hx : x.a = portBase P + o) : t.rf x = s.rf x :=
  rf_of_frame h (by rw [hx]; exact not_recordReg_port P o)
/-- In a port's block a change of its state touches only its status. -/
theorem not_stateReg_port {a : Nat} (o : Nat) (ha : a = portBase P + o) (h : o ≠ 8) : ¬ stateReg P a := by
  subst ha
  exact fun e => e.elim (fun e => h (Nat.add_left_cancel e)) (not_recordReg_port P o)

/-- A port in state `st`, before the event record of R53. -/
def showState (s : State) (P st : Nat) : State :=
  ((s.wf (PRT_PORT_STS.STATE P) st).trace 4 (portUnit P) 0 (bytesLE 2 P ++ bytesLE 1 st)).wf (PRT_PORT_STS.LINK_UP P)
    (b2n (decide (2 ≤ st) && decide (st ≤ 5)))
theorem enterState_eq (st sev : Nat) :
    s.enterState P st sev = if 3 ≤ st then (s.showState P st).memberEvent P st sev else s.showState P st := rfl

theorem frame_showState (st : Nat) : frame s (s.showState P st) recordParts (stateReg P) :=
  frame_trans (frame_wf _ _ (.inl rfl)) (frame_trans (frame_mono (recorded_trace _ _ _ _) (fun _ h => h) (fun _ => .inr))
    (frame_wf _ _ (.inl rfl)))
theorem pstate_showState {st : Nat} (h : st < 16) : (s.showState P st).pstate P = st := by
  rw [pstate, showState, rf_wf_disj _ (PRT_PORT_STS.LINK_UP P) (PRT_PORT_STS.STATE P) _ (show 4 + 1 ≤ 64 by decide) rfl
    (show 0 + 4 ≤ 4 ∨ 4 + 1 ≤ 0 by decide), rf_port_of_recorded (P := P) (recorded_trace _ _ _ _) rfl]
  exact (rf_wf_self _ _ _ (show 0 + 4 ≤ 64 by decide)).trans (Nat.mod_eq_of_lt h)
theorem linkUp_showState (st : Nat) : (s.showState P st).rb (PRT_PORT_STS.LINK_UP P) = (decide (2 ≤ st) && decide (st ≤ 5)) := by
  rw [rb, showState, rf_wf_self _ _ _ (show 4 + 1 ≤ 64 by decide)]
  cases decide (2 ≤ st) && decide (st ≤ 5) <;> rfl

theorem recorded_enterState (st sev : Nat) : recorded (s.showState P st) (s.enterState P st sev) := by
  rw [enterState_eq]
  split
  · exact recorded_memberEvent _ _
  · exact frame_refl _ _ _
theorem frame_enterState (st sev : Nat) : frame s (s.enterState P st sev) recordParts (stateReg P) :=
  frame_trans (frame_showState st) (frame_mono (recorded_enterState st sev) (fun _ h => h) (fun _ => .inr))
theorem pstate_enterState {st : Nat} (h : st < 16) (sev : Nat) : (s.enterState P st sev).pstate P = st :=
  (rf_port_of_recorded (P := P) (recorded_enterState st sev) rfl).trans (pstate_showState h)
theorem linkUp_enterState (st sev : Nat) :
    (s.enterState P st sev).rb (PRT_PORT_STS.LINK_UP P) = (decide (2 ≤ st) && decide (st ≤ 5)) := by
  rw [← linkUp_showState (s := s) (P := P) st, rb, rb, rf_port_of_recorded (P := P) (recorded_enterState st sev) rfl]
theorem port_enterState (st sev Q : Nat) : (s.enterState P st sev).port Q = s.port Q :=
  port_of_frame (frame_enterState st sev) (by decide) Q
/-- Alignment is no event of R53: nothing leaves the device but on the link, and no setting of the hub changes. -/
theorem enterState_two :
    (s.enterState P 2 0).out = s.out ∧ ∀ a, unrecorded a → (s.enterState P 2 0).reg a = s.reg a := by
  refine ⟨out_trace _ _ _ _, fun a ha => ?_⟩
  have ne : a ≠ PRT_PORT_STS.a P := fun e => not_recordReg_port P 8 (.inl (Nat.lt_trans (e ▸ ha.1) (by decide)))
  exact (reg_wf_ne _ _ _ _ ne).trans ((reg_trace_unrecorded ha _ _ _ _).trans (reg_wf_ne _ _ _ _ ne))

/-! ## Belay from zero, and one more retrain (R40, R57) -/

theorem frame_resetBelay : frame s (s.resetBelay P) [.ports] (fun _ => False) := frame_setPort _ _ (by decide)
theorem port_resetBelay : (s.resetBelay P).port P = (s.port P).fresh := port_setPort_self _ _ _
theorem frame_noteRetrain : frame s (s.noteRetrain P) recordParts (stateReg P) :=
  frame_trans (frame_satInc _ _ (.inl rfl)) (frame_mono (recorded_lifeInc 11 (by decide)) (fun _ h => h) (fun _ => .inr))

/-- The words of a port's PARTNER message are settled by HUB_PLANE and PRT_PORT_CTL. -/
theorem partnerWords_congr (hp : t.reg HUB_PLANE.a = s.reg HUB_PLANE.a) (hc : t.reg (PRT_PORT_CTL.a P) = s.reg (PRT_PORT_CTL.a P)) :
    t.partnerWords P = s.partnerWords P := by
  have plane : ∀ x : Rf, x.a = HUB_PLANE.a → t.rf x = s.rf x := fun x h => by rw [rf, rf, h, hp]
  have mode : t.rf (PRT_PORT_CTL.MODE P) = s.rf (PRT_PORT_CTL.MODE P) := congrArg (fun w => Word.field w 3 2) hc
  simp only [partnerWords, gatewayPort, mode, shapeA, shapeB, shapeC, devIndex, planeId, plane HUB_PLANE.A rfl, plane HUB_PLANE.B rfl,
    plane HUB_PLANE.C rfl, plane HUB_PLANE.INDEX rfl, plane HUB_PLANE.PLANE_ID rfl]
  rfl

/-! ## Link failure on a torus port (R43, R53) -/

theorem frame_leaveActive_torus (ht : isTorus P = true) : frame s (s.leaveActive P) [.ports] (fun _ => False) := by
  simp only [leaveActive, ht, if_true]
  split
  · exact frame_refl _ _ _
  · exact frame_setPort _ _ (by decide)

/-- The frames held are counted and the failure is reported. -/
def countLost (s : State) (P : Nat) : State :=
  (s.count (PRT_CNT_LOST.V P) (s.port P).held.length).report
    ⟨clLINK, 0x01, 1, stOK, portUnit P, 0, bytesLE 2 P ++ bytesLE 4 (s.port P).rxExpect ++ bytesLE 4 (s.port P).txNext⟩
theorem frame_countLost : frame s (s.countLost P) recordParts (fun a => a = (PRT_CNT_LOST.V P).a ∨ recordReg a) :=
  frame_trans (frame_count _ _ (.inl rfl) (by decide))
    (frame_mono (recorded_report _ (show (2 : Nat) < 256 by decide)) (fun _ h => h) (fun _ => .inr))
theorem reg_countLost :
    (s.countLost P).reg (PRT_CNT_LOST.V P).a = Word.ofN ((s.reg (PRT_CNT_LOST.V P).a).toNat + (s.port P).held.length) :=
  ((recorded_report _ (show (2 : Nat) < 256 by decide)).2.1 _ (not_recordReg_port P 0x130)).trans (reg_count_self _ _ _)

theorem linkFailure_torus (ht : isTorus P = true) :
    s.linkFailure P = ((((s.countLost P).leaveActive P).resetBelay P).noteRetrain P).enterState P 1 0 := by
  have endpoint : (s.active P && !isTorus P && !s.gatewayPort P) = false := by rw [ht, Bool.not_true, Bool.and_false, Bool.false_and]
  unfold linkFailure
  extract_lets p s1 was sev s2
  rw [show was = false from endpoint, if_neg (by decide)]
  rfl

/-! ## Alignment (R51, R53) -/

/-- A port at PCS alignment, before it sends its PARTNER message: belay from zero, the link measured, PARTNERED. -/
def aligned (s : State) (P rtt : Nat) : State :=
  ((s.resetBelay P).setPort P { (s.resetBelay P).port P with delay := rtt / 2 }).enterState P 2 0
theorem frame_aligned (rtt : Nat) : frame s (s.aligned P rtt) (.ports :: recordParts) (stateReg P) :=
  frame_trans (frame_setPort _ _ (by decide)) (frame_trans (frame_setPort _ _ (by decide))
    (frame_mono (frame_enterState 2 0) (by decide) (fun _ h => h)))
theorem port_aligned (rtt : Nat) :
    (s.aligned P rtt).port P = { (s.port P).fresh with delay := rtt / 2 } := by
  rw [aligned, port_enterState, port_setPort_self, port_resetBelay]
/-- Alignment sends nothing of itself, and leaves what the PARTNER message says of the device. -/
theorem aligned_quiet (rtt : Nat) : (s.aligned P rtt).out = s.out ∧ (s.aligned P rtt).partnerWords P = s.partnerWords P :=
  ⟨enterState_two.1, partnerWords_congr (enterState_two.2 _ (by decide)) ((frame_aligned rtt).2.1 _ (not_stateReg_port 0 rfl (by decide)))⟩

/-! ## PARTNER messages at an endpoint port (R51) -/

theorem frame_setRegs (f : Nat → Nat) (g : Nat → Word) (l : List Nat) (s : State) :
    frame s (l.foldl (fun t i => t.setReg (f i) (g i)) s) [] (fun a => ∃ i ∈ l, a = f i) := by
  induction l generalizing s with
  | nil => exact frame_refl _ _ _
  | cons i l ih =>
    exact frame_trans (frame_setReg _ _ ⟨i, List.mem_cons_self, rfl⟩)
      (frame_mono (ih _) (fun _ h => h) (fun a ⟨j, hj, e⟩ => ⟨j, List.mem_cons_of_mem _ hj, e⟩))
/-- Registers written one after the other at distinct offsets hold what was written. -/
theorem reg_setRegs {f : Nat → Nat} (inj : Function.Injective f) (g : Nat → Word) {l : List Nat} {i : Nat} (h : i ∈ l) (s : State) :
    (l.foldl (fun t j => t.setReg (f j) (g j)) s).reg (f i) = g i := by
  induction l generalizing s with
  | nil => cases h
  | cons j l ih =>
    rw [List.foldl_cons]
    by_cases hi : i ∈ l
    · exact ih hi _
    · rw [(frame_setRegs f g l _).2.1 _ (fun ⟨k, hk, e⟩ => hi (inj e ▸ hk)), (List.mem_cons.mp h).resolve_right hi, reg_setReg_self]

/-- The registers that hold a port's last PARTNER message. -/
abbrev partnerReg (P a : Nat) : Prop := ∃ i, i < 8 ∧ a = PRT_PARTNER.a P i
theorem frame_copyPartner (bs : List Byte) : frame s (s.copyPartner P bs) [.ports] (partnerReg P) :=
  frame_trans (frame_mono (frame_setRegs _ _ _ _) (by decide) (fun _ ⟨i, hi, e⟩ => ⟨i, List.mem_range.mp hi, e⟩))
    (frame_setPort _ _ (by decide))
theorem port_copyPartner (bs : List Byte) : (s.copyPartner P bs).port P = { s.port P with partnerOk := true } := port_setPort_self _ _ _
theorem reg_copyPartner (bs : List Byte) {i : Nat} (h : i < 8) :
    (s.copyPartner P bs).reg (PRT_PARTNER.a P i) = Word.ofN (leAt bs (8 * i) 8) :=
  reg_setRegs (f := PRT_PARTNER.a P) (fun a b e => by simp only [PRT_PARTNER.a] at e; omega)
    (fun i => Word.ofN (leAt bs (8 * i) 8)) (List.mem_range.mpr h) _
theorem partnerRole_copyPartner (bs : List Byte) : (s.copyPartner P bs).partnerRole P = (bs.getD 2 0).toNat := by
  rw [partnerRole, pw, reg_copyPartner bs (by decide), Word.field_ofN _ _ _ (by decide), leAt, leNat_byte _ 2]
  simp
/-- A port's registers but its status and those of its partner keep what they hold when a PARTNER message is copied. -/
theorem not_partnerReg_port {o : Nat} (h : o < 0x20) : ¬ partnerReg P (portBase P + o) := fun ⟨i, _, e⟩ => by
  simp only [PRT_PARTNER.a] at e; omega

/-- What an endpoint port in PARTNERED does with a PARTNER message (R51). -/
theorem actOnPartner_endpoint (hs : s.pstate P = 2) (ht : isTorus P = false) (hg : s.rf (PRT_PORT_CTL.MODE P) ≠ 2) :
    frame s (s.actOnPartner P) recordParts (stateReg P) ∧
    (s.actOnPartner P).pstate P =
      (if s.partnerRole P = 1 then 3 else if 2 ≤ s.partnerRole P ∧ s.partnerRole P ≤ 4 then 5 else 2) := by
  have act : s.actOnPartner P = if s.partnerRole P = 0 ∨ 4 < s.partnerRole P then s.memberEvent P 0x08 1
      else if s.partnerRole P = 1 then s.enterState P 3 0 else s.enterState P 5 1 := by
    simp [actOnPartner, hs, ht, gatewayPort, hg]
  rw [act]
  by_cases other : s.partnerRole P = 0 ∨ 4 < s.partnerRole P
  · rw [if_pos other, if_neg (by omega), if_neg (by omega)]
    exact ⟨frame_mono (recorded_memberEvent _ _) (fun _ h => h) (fun _ => .inr),
      (rf_port_of_recorded (P := P) (recorded_memberEvent _ _) rfl).trans hs⟩
  · rw [if_neg other]
    by_cases one : s.partnerRole P = 1
    · rw [if_pos one, if_pos one]
      exact ⟨frame_enterState _ _, pstate_enterState (by decide) _⟩
    · rw [if_neg one, if_neg one, if_pos (by omega)]
      exact ⟨frame_enterState _ _, pstate_enterState (by decide) _⟩

/-! ## A sequenced link frame that is the next expected (R41, R42) -/

/-- The state in which the next expected frame, of link word `w`, is taken. -/
def accepted (s : State) (P : Nat) (w : Word) : State :=
  (s.takePrefix P w).setPort P
    { (s.takePrefix P w).port P with
        rxExpect := (((s.takePrefix P w).port P).rxExpect + 1) % 2 ^ 24, ackDue := true,
        unacked := ((s.takePrefix P w).port P).unacked + 1, nak := none }
theorem frame_accepted (w : Word) : frame s (s.accepted P w) [.ports] (fun _ => False) :=
  frame_trans (frame_takePrefix w) (frame_setPort _ _ (by decide))
theorem port_accepted {w : Word} (ha : pfAckValid w = false) : (s.accepted P w).port P = (s.port P).accepting w := by
  rw [accepted, port_setPort_self, port_takePrefix_plain ha]; rfl
theorem sub24_self (a : Nat) : sub24 a a = 0 := by
  rw [sub24, Nat.add_sub_cancel_left, Nat.mod_self]
/-- The next expected frame is taken; below 32 frames accepted without an acknowledgement nothing is sent (R42). -/
theorem sequenced_expected {w : Word} (ha : pfAckValid w = false) (he : pfLseq w = (s.port P).rxExpect) (take : State → State)
    (hu : ((take (s.accepted P w)).port P).unacked < 32) : s.sequenced P w take = take (s.accepted P w) := by
  have here : sub24 (pfLseq w) ((s.takePrefix P w).port P).rxExpect = 0 := by
    rw [port_takePrefix_plain ha, he]; exact sub24_self _
  simp only [sequenced, here, if_true]
  exact if_neg (Nat.not_le.mpr hu)

/-! ## UDP mode (R61) -/

theorem inc_counts (x : Rf) :
    (s.inc x).reg x.a = Word.ofN ((s.reg x.a).toNat + 1) ∧ s.frame (s.inc x) [.sticky] (fun a => a = x.a) :=
  ⟨reg_count_self s x 1, frame_inc x rfl (by decide)⟩

theorem udpIn_bad {d : Datagram} (h : d.ipCheckOk = false) : s.udpIn P d = s.inc (PRT_CNT_UDP_DROP.V P) := by
  have bad : s.udpGood P d = false := by simp [udpGood, h]
  rw [udpIn, bad]; rfl
theorem udpIn_ack {d : Datagram} (h : s.udpGood P d = true) (ht : pfType d.pre = 1) (hb : d.body = .none) (hc : d.check = .ok) :
    s.udpIn P d = s.takePrefix P d.pre := by
  rw [udpIn, h, ht, hb, hc]; rfl

end State

open State

/-- Settles O11: a discarded frame is one count; a PARTNER message accepted is copied and acted on as its role says. -/
theorem linkDiscardsAndPartners : Obligations.LinkDiscardsAndPartners := by
  unfold Obligations.LinkDiscardsAndPartners
  refine ⟨fun s P hu hb ho => ⟨fun w hw hi => ?reserved, fun ht hm => ⟨fun ip h => ?answered, fun ip h => ?asked, fun d h => ?header,
    fun d hg hty hbody hck ha => ?ack⟩⟩, fun s P w bs hu ht ho hm hi hs he ha hn hl => ?partner⟩
  case reserved =>
    refine runs_unheld hu (if_pos hw) ?_
    rw [onFrame_up hb ho hi]
    exact inc_counts _
  case answered =>
    refine runs_unheld hu rfl ?_
    rw [ht, hm, if_pos (by decide), onLink_up hb ho, if_pos h]
    exact ⟨rfl, frame_emit _ (by decide)⟩
  case asked =>
    refine runs_unheld hu rfl ?_
    rw [ht, hm, if_pos (by decide), onLink_up hb ho, if_neg h]
    exact inc_counts _
  case header =>
    refine runs_unheld hu rfl ?_
    rw [ht, hm, if_pos (by decide), onLink_up hb ho, udpIn_bad h]
    exact inc_counts _
  case ack =>
    refine runs_unheld hu rfl ?_
    rw [ht, hm, if_pos (by decide), onLink_up hb ho, udpIn_ack hg hty hbody hck]
    exact ⟨port_takePrefix_plain ha, frame_takePrefix _⟩
  case partner =>
    have hb : s.belayUp P = true := by rw [belayUp, hs]; rfl
    refine runs_unheld hu (if_pos hl) ?_
    rw [onFrame_up hb ho hi]
    have fa := frame_accepted (s := s) (P := P) w
    have fc := frame_copyPartner (s := s.accepted P w) (P := P) bs
    have f : frame s ((s.accepted P w).copyPartner P bs) [.ports] (partnerReg P) :=
      frame_trans (frame_mono fa (by decide) (fun _ => False.elim)) fc
    have pc := port_copyPartner (s := s.accepted P w) (P := P) bs
    rw [port_accepted ha] at pc
    obtain ⟨fact, state⟩ := actOnPartner_endpoint (s := (s.accepted P w).copyPartner P bs) (P := P)
      ((rf_of_frame f (not_partnerReg_port (o := 8) (by decide))).trans hs) ht
      (by rw [rf_of_frame f (not_partnerReg_port (o := 0) (by decide))]; exact hm)
    have pact := (port_of_frame fact (by decide) P).trans pc
    rw [partnerIn, sequenced_expected ha he _ (by rw [pact]; exact Nat.succ_lt_succ hn)]
    rw [partnerRole_copyPartner] at state
    refine ⟨fun i h => ?_, by rw [pact]; rfl, by rw [pact]; rfl, state, ?_⟩
    · rw [fact.2.1 (PRT_PARTNER.a P i) (not_stateReg_port (0x20 + 8 * i) (Nat.add_assoc _ _ _) (by omega)), reg_copyPartner bs h]
    · exact frame_trans (frame_mono f (by decide) (fun _ h => .inr (.inl h)))
        (frame_mono fact (fun _ h => List.mem_cons_of_mem _ h) (fun _ h => h.imp_right .inr))

/-- Settles O12: each clause is what entering a port state leaves, after belay from zero where a link begins or fails. -/
theorem portStateTimers : Obligations.PortStateTimers := by
  unfold Obligations.PortStateTimers
  refine fun s P rtt hu ho hm => ⟨fun hs => ⟨?align, ?training⟩, fun hs => ?departed, fun hb ht => ?loss⟩
  case align =>
    have here : (s.pstate P == 1 && !s.oddBonded P) = true := by rw [hs, ho]; rfl
    refine runs_unheld hu (congrArg (unheld s) (if_pos here)) ?_
    have fa := frame_aligned (s := s) (P := P) rtt
    have pa := port_aligned (s := s) (P := P) rtt
    obtain ⟨quiet, words⟩ := aligned_quiet (s := s) (P := P) rtt
    obtain ⟨out, port, fs⟩ := sendHeld_plain (s := s.aligned P rtt) (P := P)
      ((rb_of_frame fa (not_stateReg_port 0 rfl (by decide))).trans hm) 0 (.partner (s.partnerWords P))
    have sent : (s.aligned P rtt).sendPartner P = (s.aligned P rtt).sendHeld P 0 (.partner (s.partnerWords P)) := by
      rw [sendPartner, words]
    show _ ∧ _
    rw [← aligned, sent]
    rw [pa] at out port
    rw [quiet] at out
    refine ⟨?_, ?_, by rw [port]; rfl, by rw [port]; rfl, by rw [port]; rfl, by rw [port]; rfl, out, ?_⟩
    · exact (rf_of_frame fs not_false).trans (pstate_enterState (by decide) _)
    · exact (rb_of_frame fs not_false).trans (linkUp_enterState _ _)
    · exact frame_trans fa (frame_mono fs (by decide) (fun _ => False.elim))
  case training =>
    refine runs_unheld hu (congrArg (unheld s) (if_pos hs)) ?_
    exact ⟨pstate_enterState (by decide) _, linkUp_enterState _ _, frame_enterState _ _⟩
  case departed =>
    refine runs_unheld hu (congrArg (unheld s) (if_pos hs)) ?_
    exact ⟨pstate_enterState (by decide) _, frame_trans frame_noteRetrain (frame_enterState _ _)⟩
  case loss =>
    refine runs_unheld hu rfl ?_
    rw [onLink_up hb ho, cutShort, linkFailure_torus ht]
    have fl := frame_leaveActive_torus (s := s.countLost P) ht
    have fr := frame_resetBelay (s := (s.countLost P).leaveActive P) (P := P)
    have fe : frame (((s.countLost P).leaveActive P).resetBelay P) _ recordParts (stateReg P) :=
      frame_trans frame_noteRetrain (frame_enterState (P := P) 1 0)
    have pe := (port_of_frame fe (by decide) P).trans port_resetBelay
    refine ⟨pstate_enterState (by decide) _, linkUp_enterState _ _, by rw [pe]; rfl, by rw [pe]; rfl, by rw [pe]; rfl, ?_, ?_⟩
    · rw [fe.2.1 (PRT_CNT_LOST.V P).a (not_stateReg_port 0x130 rfl (by decide)), fr.2.1 _ not_false, fl.2.1 _ not_false, reg_countLost]
    · exact frame_trans (frame_mono frame_countLost (fun _ h => List.mem_cons_of_mem _ h) (fun _ => .inr))
        (frame_trans (frame_mono (frame_trans fl fr) (by decide) (fun _ => False.elim))
          (frame_mono fe (fun _ h => List.mem_cons_of_mem _ h) (fun _ h => h.imp_right .inr)))

end Machine
end Sys2Proof
end

section
/-! PROOF. The start of a queued frame where no gate schedule is applied (R40, R83, R103, R105), and the obligation on it. -/
namespace Sys2Proof.Machine.State
variable {s t : State} {P : Nat}

/-! ## The choice of R103 without a gate schedule (R110) -/

theorem gateOn_congr (hg : t.gateTbl = s.gateTbl) (hc : t.reg TIM_GATE_CTL.a = s.reg TIM_GATE_CTL.a) : t.gateOn = s.gateOn := by
  have ctl : ∀ x : Rf, x.a = TIM_GATE_CTL.a → t.rf x = s.rf x := fun x h => by rw [rf, rf, h, hc]
  have word : t.gateWord = s.gateWord := by funext b e w; rw [gateWord, gateWord, hg]
  have dur : t.gateDur = s.gateDur := by funext b e; rw [gateDur, gateDur, word]
  simp only [gateOn, rb, gatePeriod, gateLen, gateBank, dur, ctl TIM_GATE_CTL.MODE rfl, ctl TIM_GATE_CTL.ACTIVE_BANK rfl,
    ctl TIM_GATE_CTL.LEN_A rfl, ctl TIM_GATE_CTL.LEN_B rfl]
  rfl

section
variable (hg : s.gateOn = false)
include hg

theorem inFallback_ungated : s.inFallback P = false := by rw [inFallback, hg]; rfl
theorem openEntry_ungated (n : Nat) : s.openEntry n = none := by simp [openEntry, hg]
theorem endsBefore_ungated (f : Frame) : s.endsBefore P f = true := by simp [endsBefore, nextPitch, hg]
theorem pitchHead_ungated : s.pitchHead P = none := by simp [pitchHead, openEntry_ungated hg]
theorem rank1_ungated : s.rank1 P = none := by rw [rank1, pitchHead_ungated hg]
theorem noteWait_ungated : s.noteWait P = s := by rw [noteWait, pitchHead_ungated hg]
theorem wfqHead_ungated (c : Nat) : s.wfqHead P c = (s.queueOf P c).head? := by simp [wfqHead, inFallback_ungated hg]

/-- Every C0 frame is unpitched: rank 2 is the oldest, where XOFF of class 0 is clear. -/
theorem rank2_ungated : s.rank2 P = if s.xoffed P 0 then none else (s.queueOf P 0).head? := by
  have any : (s.queueOf P 0).find? (fun x => s.unpitched P x.frame) = (s.queueOf P 0).head? := by
    cases s.queueOf P 0 with
    | nil => rfl
    | cons x l => rw [List.find?_cons_of_pos (by rw [unpitched, hg]; rfl)]; rfl
  rw [rank2, inFallback_ungated hg, Bool.false_or, any]
  split
  · rfl
  · cases (s.queueOf P 0).head? with
    | none => rfl
    | some x => exact if_pos (endsBefore_ungated hg _)

/-- The head of a class of 1 to 6 is ready where its XOFF bit is clear. -/
theorem wfqReady_ungated {c : Nat} (hc : c ≠ 7) {x : Queued} (hq : (s.queueOf P c).head? = some x) (hx : s.xoffed P x.cls = false) :
    s.wfqReady P c = some x := by
  simp [wfqReady, wfqHead_ungated hg, hq, hx, endsBefore_ungated hg, hc]
theorem wfqReady_empty {c : Nat} (hq : s.queueOf P c = []) : s.wfqReady P c = none := by
  simp [wfqReady, wfqHead_ungated hg, hq]

/-- The one class of 1 to 6 with frames is served at rank 3. -/
theorem rank3_ungated {c : Nat} (h1 : 1 ≤ c) (h6 : c ≤ 6) {x : Queued} (hq : (s.queueOf P c).head? = some x) (hx : s.xoffed P x.cls = false)
    (only : ∀ d, d ≠ c → s.queueOf P d = []) : s.rank3 P = some (c, x) := by
  have ready : ∀ d, s.wfqReady P d = if d = c then some x else none := fun d => by
    split
    · next h => rw [h]; exact wfqReady_ungated hg (by omega) hq hx
    · next h => exact wfqReady_empty hg (only d h)
  simp only [rank3, ready]
  interval_cases c <;> rfl

end

/-! ## Before the choice: tags and counts change nothing that the start depends on -/

/-- From `s` to `t` the scheduler has looked at port `P`: tags given, waits counted; queues, the gate schedule and what the port
remembers of its link are the same. -/
def looked (s t : State) (P : Nat) : Prop :=
  frame s t [.ports, .sticky] (fun a => a = (SCH_CNT_C7_HELD.V (dieOf P)).a) ∧ (t.port P).belay = (s.port P).belay
theorem looked_refl : looked s s P := ⟨frame_refl _ _ _, rfl⟩
theorem looked_trans {u : State} (h : looked s t P) (k : looked t u P) : looked s u P :=
  ⟨frame_trans h.1 k.1, k.2.trans h.2⟩
theorem looked_setPort {p : PortSt} (h : p.belay = (s.port P).belay) : looked s (s.setPort P p) P :=
  ⟨frame_setPort _ _ (by decide), by rw [port_setPort_self]; exact h⟩
theorem looked_tagHead (c : Nat) : looked s (s.tagHead P c) P := by
  simp only [tagHead]
  split
  · exact looked_setPort rfl
  · exact looked_refl
theorem looked_tagHeads (l : List Nat) (s : State) : looked s (l.foldl (fun t i => t.tagHead P (i + 1)) s) P := by
  induction l generalizing s with
  | nil => exact looked_refl
  | cons i l ih => exact looked_trans (looked_tagHead _) (ih _)
theorem looked_inc_c7 : looked s (s.inc (SCH_CNT_C7_HELD.V (dieOf P))) P :=
  ⟨frame_inc _ rfl (by decide), by rw [inc, port_count]⟩
theorem looked_noteC7 : looked s (s.noteC7 P) P := by
  simp only [noteC7]
  split
  · split
    · exact looked_trans (looked_setPort (p := { s.port P with c7Held := true }) rfl) looked_inc_c7
    · exact looked_refl
  · exact looked_refl

theorem gateOn_of_looked (h : looked s t P) : t.gateOn = s.gateOn :=
  gateOn_congr (h.1.1 .gateTbl (by decide)) (h.1.2.1 _ (by simp only [TIM_GATE_CTL.a, SCH_CNT_C7_HELD.V, SCH_CNT_C7_HELD.a, cruxBase]; omega))
theorem queueOf_of_looked (h : looked s t P) (c : Nat) : t.queueOf P c = s.queueOf P c := by
  rw [queueOf, queueOf, show t.fwd = s.fwd from h.1.1 .fwd (by decide)]
theorem xoffed_of_looked (h : looked s t P) (c : Nat) : t.xoffed P c = s.xoffed P c := by
  have rx : (t.port P).xoffRx = (s.port P).xoffRx := congrArg (fun b => b.2.2.1) h.2
  rw [xoffed, xoffed, rx]

theorem dieOf_lt (h : P < 1152) : dieOf P < 16 := by unfold dieOf; split <;> omega
theorem idxOf_lt (P : Nat) : idxOf P < 72 := by unfold idxOf; split <;> omega

/-- The register is neither the port's control nor its count of frames sent. -/
abbrev besides (P a : Nat) : Prop := a ≠ PRT_PORT_CTL.a P ∧ a ≠ (PRT_CNT_TX_FRAMES.V P).a
theorem besides_crux (hP : P < 1152) {a n : Nat} (hn : n < 16) (o : Nat) (ha : a = cruxBase n + o) (ho : o < 0x100000) : besides P a := by
  have := portBase_place hP
  simp only [besides, PRT_PORT_CTL.a, PRT_CNT_TX_FRAMES.V, PRT_CNT_TX_FRAMES.a, ha, cruxBase]
  omega
theorem besides_port {a : Nat} (o : Nat) (ha : a = portBase P + o) (h : o ≠ 0 ∧ o ≠ 0x190) : besides P a := by
  simp only [besides, PRT_PORT_CTL.a, PRT_CNT_TX_FRAMES.V, PRT_CNT_TX_FRAMES.a, ha]
  omega
theorem besides_c7Held (hP : P < 1152) : besides P (SCH_CNT_C7_HELD.V (dieOf P)).a :=
  besides_crux hP (dieOf_lt hP) (0x90000 + 0x2020) (Nat.add_assoc _ _ _) (by decide)

theorem replayRoom_of_looked (hP : P < 1152) (h : looked s t P) (f : Frame) : t.replayRoom P f = s.replayRoom P f := by
  have held : (t.port P).held = (s.port P).held := congrArg (fun b => b.1.2.2) h.2
  have bond : t.rb (PRT_PORT_CTL.BOND P) = s.rb (PRT_PORT_CTL.BOND P) :=
    rb_of_frame h.1 (fun e => (besides_c7Held hP).1 e.symm)
  rw [replayRoom, replayRoom, held, replayCap, replayCap, fast, fast, bond]

/-! ## Mirroring leaves the ports, what goes out, the queues and every register that no record counts in (R95 to R97) -/

/-- From `s` to `t` copies of a frame may have been taken. -/
def mirrored (s t : State) : Prop :=
  t.ports = s.ports ∧ t.out = s.out ∧ t.fwd.queues = s.fwd.queues ∧ ∀ a, ¬ recordReg a → t.reg a = s.reg a
theorem mirrored_trans {u : State} (h : mirrored s t) (k : mirrored t u) : mirrored s u := by
  obtain ⟨hp, ho, hq, hr⟩ := h
  obtain ⟨kp, ko, kq, kr⟩ := k
  exact ⟨kp.trans hp, ko.trans ho, kq.trans hq, fun a ha => (kr a ha).trans (hr a ha)⟩
theorem mirrored_of_recorded (h : recorded s t) (ho : t.out = s.out) : mirrored s t :=
  ⟨h.1 .ports (by decide), ho, congrArg FwdSt.queues (h.1 .fwd (by decide)), fun a ha => h.2.1 a ha⟩
theorem mirrored_inc {x : Rf} (h : recordReg x.a) : mirrored s (s.inc x) :=
  mirrored_of_recorded (frame_inc _ h (by decide)) (count_out ..)
theorem mirrored_offer (p : Nat) (hp : p < 2) (it : Item) (hk : it.prio ≤ 5) : mirrored s (s.offer p it) :=
  mirrored_of_recorded (recorded_offer p it hp hk) (out_offer p it)
theorem mirrored_refl : mirrored s s := ⟨rfl, rfl, rfl, fun _ _ => rfl⟩
theorem mirrored_withFwd {v : FwdSt} (h : v.queues = s.fwd.queues) : mirrored s (s.withFwd v) := ⟨rfl, rfl, h, fun _ _ => rfl⟩
theorem port_of_mirrored (h : mirrored s t) (Q : Nat) : t.port Q = s.port Q := by rw [port, port, h.1]
/-- The registers of a mirror session are among those that records may touch. -/
theorem recordReg_mir {m o : Nat} (hm : m < 16) (ho : o < 0x40) : recordReg (0x00381000 + m * 0x40 + o) := by
  unfold recordReg; omega

theorem mirrored_mirTake {m : Nat} (hm : m < 16) (point : Nat) (f : Frame) (cut : Bool) : mirrored s (s.mirTake m point P f cut) := by
  unfold mirTake
  extract_lets seen full src s1 size w w0 s2
  have h1 : mirrored s s1 := mirrored_trans (mirrored_inc (x := TEL_MIR_MATCH.V m) (recordReg_mir hm (o := 0x28) (by decide)))
    (mirrored_withFwd (show s.fwd.queues = (s.inc (TEL_MIR_MATCH.V m)).fwd.queues by rw [inc, count_fwd]))
  have drop : ∀ u : State, mirrored u (u.inc (TEL_MIR_DROP.V m)) := fun u => mirrored_inc (recordReg_mir hm (o := 0x30) (by decide))
  have h2 : mirrored s1 s2 := mirrored_offer 0 (by decide) _ (show 1 ≤ 5 by decide)
  clear_value s1 s2
  split
  · exact mirrored_refl
  · refine mirrored_trans h1 ?_
    split
    · split
      · exact mirrored_of_recorded (frame_trans (frame_withMem _ (by decide)) (frame_wf _ _ (recordReg_mir hm (o := 0x20) (by decide)))) rfl
      · exact drop _
    · split
      · split
        · exact mirrored_refl
        · split
          · exact h2
          · exact mirrored_trans h2 (drop _)
      · exact mirrored_refl
theorem mirrored_mirrorFrom (m point : Nat) (f : Frame) (cut : Bool) (s : State) : mirrored s (mirrorFrom m point P f cut s) := by
  induction m generalizing s with
  | zero => exact mirrored_refl
  | succ m ih =>
    simp only [mirrorFrom]
    split
    · exact mirrored_trans (mirrored_mirTake (by omega) _ _ _) (ih _)
    · exact ih _

/-! ## The start itself (R40, R83, R103) -/

/-- From `s` to `t` frame `x` has been started at port `P`: it has left its queue, taken the next LSEQ, is held, has gone out and is
counted. -/
def started (s t : State) (P : Nat) (x : Queued) : Prop :=
  t.fwd.queues = s.fwd.queues.erase x ∧
  (t.port P).held = (s.port P).held ++ [⟨(s.port P).txNext, x.cls, .frame x.frame⟩] ∧
  (t.port P).txNext = ((s.port P).txNext + 1) % 2 ^ 24 ∧
  t.out = s.out ++ [.link P (mkPrefix (s.port P).txNext (s.port P).rxExpect 0 (s.port P).xoffTx true) (.frame x.frame)] ∧
  t.reg (PRT_CNT_TX_FRAMES.V P).a = Word.ofN ((s.reg (PRT_CNT_TX_FRAMES.V P).a).toNat + 1)

theorem started_of_looked {u : State} {x : Queued} (hP : P < 1152) (h : looked s t P) (k : started t u P x) : started s u P x := by
  obtain ⟨hf, hb⟩ := h
  simp only [PortSt.belay, Prod.mk.injEq] at hb
  obtain ⟨⟨expect, next, held⟩, -, -, xoff⟩ := hb
  have frames : t.reg (PRT_CNT_TX_FRAMES.V P).a = s.reg (PRT_CNT_TX_FRAMES.V P).a := hf.2.1 _ (fun e =>
    (besides_c7Held hP).2 e.symm)
  rw [started, expect, next, held, xoff, frames, show t.fwd = s.fwd from hf.1 .fwd (by decide),
    show t.out = s.out from hf.1 .out (by decide)] at k
  exact k

theorem frame_dequeue (x : Queued) {ch : List Part} {rg : Nat → Prop} (h : Part.fwd ∈ ch) : frame s (s.dequeue x) ch rg := by
  refine ⟨fun p hp => ?_, fun _ _ => rfl, rfl⟩
  cases p
  case fwd => exact absurd h hp
  all_goals rfl
theorem belay_settlePort (s : State) (P : Nat) : ((s.settlePort P).port P).belay = (s.port P).belay := by
  simp only [settlePort]
  split
  · rfl
  · rw [emptyPort, port_setPort_self]; rfl
theorem frame_settlePort (s : State) (P : Nat) : frame s (s.settlePort P) [.ports] (besides P) := by
  simp only [settlePort]
  split
  · exact frame_refl _ _ _
  · exact frame_setPort _ _ (by decide)
theorem frame_markRes {x : Queued} (hP : x.P < 1152) (hc : x.cls ≤ 6) : frame s (s.markRes x) [] (besides x.P) := by
  have hi := idxOf_lt x.P
  have reg : besides x.P (SCH_QSTAT.HWM_RES (dieOf x.P) (idxOf x.P) x.cls).a :=
    besides_crux hP (dieOf_lt hP) (0x90000 + 0x4000 + 0x40 * idxOf x.P + 0x8 * x.cls) (by simp only [SCH_QSTAT.HWM_RES, SCH_QSTAT.a, Nat.add_assoc])
      (by omega)
  simp only [markRes]
  split
  · exact frame_wf _ _ reg
  · exact frame_refl _ _ _

/-- Frame `x`, served for class `c`, has left its queue and the tag of its class is taken (R83, R105, R108, R123). -/
def takeOut (s : State) (P c : Nat) (x : Queued) : State :=
  let u := (s.dequeue x).markRes x
  let p := u.port P
  (if c = 0 then u.setPort P { p with waitMark := p.waitMark && s.unsched P x.frame }
    else if c = 7 then u.setPort P { p with v := (p.heads.getD c none).getD p.v, heads := p.heads.set c none,
                                            c7 := s.c7Now P - 4 * s.wireCost P x.frame, c7Time := s.now, c7Held := false }
    else u.setPort P { p with v := (p.heads.getD c none).getD p.v, heads := p.heads.set c none }).settlePort P
/-- The counters of a start; `fb`: the port is in fallback; `un`: no pitch can take the frame. -/
def countStart (P : Nat) (x : Queued) (fb un : Bool) (s : State) : State :=
  let u := ((s.inc (PRT_CNT_TX_FRAMES.V P)).count (PRT_CNT_TX_BYTES.V P) x.frame.wireLen).count (PRT_CNT_TX_BYTES_C.V P x.cls) x.frame.wireLen
  let v := u.inc (if x.cut then FWD_CNT_CUT.V (dieOf P) else FWD_CNT_SAF.V (dieOf P))
  if x.cls = 0 && fb then v.inc (SCH_CNT_FALLBACK.V (dieOf P))
  else if x.cls = 0 && un then v.inc (SCH_CNT_UNSCHED.V (dieOf P)) else v
theorem startFrame_eq (c : Nat) (x : Queued) :
    s.startFrame P c x =
      ((countStart P x (s.inFallback P) (s.unsched P x.frame) (s.takeOut P c x)).sendHeld P x.cls (.frame x.frame)).mirror 1 P x.frame x.cut :=
  rfl

theorem takeOut_spec {c : Nat} {x : Queued} (hP : P < 1152) (hx : x.P = P) (hc : x.cls ≤ 6) :
    (s.takeOut P c x).fwd.queues = s.fwd.queues.erase x ∧ ((s.takeOut P c x).port P).belay = (s.port P).belay ∧
    frame s (s.takeOut P c x) [.ports, .fwd] (besides P) := by
  unfold takeOut
  extract_lets u p
  have f1 : frame (s.dequeue x) u [] (besides P) := hx ▸ frame_markRes (hx ▸ hP) hc
  have take : ∀ q : PortSt, q.belay = (u.port P).belay →
      let t := (u.setPort P q).settlePort P
      t.fwd.queues = s.fwd.queues.erase x ∧ (t.port P).belay = (s.port P).belay ∧ frame s t [.ports, .fwd] (besides P) := fun q hq => by
    have f2 : frame u ((u.setPort P q).settlePort P) [.ports] (besides P) := frame_trans (frame_setPort _ _ (by decide)) (frame_settlePort _ _)
    have fwd : ((u.setPort P q).settlePort P).fwd = (s.dequeue x).fwd := (f2.1 .fwd (by decide)).trans (f1.1 .fwd (by decide))
    refine ⟨by rw [fwd]; rfl, ?_, ?_⟩
    · rw [belay_settlePort, port_setPort_self, hq, port_of_frame f1 (by decide)]; rfl
    · exact frame_trans (frame_dequeue x (by decide)) (frame_trans (frame_mono f1 (by decide) (fun _ h => h))
        (frame_mono f2 (by decide) (fun _ h => h)))
  split
  · exact take _ rfl
  · split
    · exact take _ rfl
    · exact take _ rfl

theorem countStart_spec {x : Queued} (hP : P < 1152) (hc : x.cls ≤ 6) (fb un : Bool) :
    (countStart P x fb un s).reg (PRT_CNT_TX_FRAMES.V P).a = Word.ofN ((s.reg (PRT_CNT_TX_FRAMES.V P).a).toNat + 1) ∧
    frame s (countStart P x fb un s) [.sticky] (fun a => a ≠ PRT_PORT_CTL.a P) := by
  unfold countStart
  extract_lets u v
  have die : ∀ (t : State) (y : Rf) (o : Nat), y.a = cruxBase (dieOf P) + o → o < 0x100000 → frame t (t.inc y) [.sticky] (besides P) :=
    fun t y o e ho => frame_inc _ (besides_crux hP (dieOf_lt hP) o e ho) (by decide)
  have fu : frame (s.inc (PRT_CNT_TX_FRAMES.V P)) u [.sticky] (besides P) :=
    frame_trans (frame_count _ _ (besides_port 0x198 rfl (by decide)) (by decide))
      (frame_count _ _ (besides_port (0x1A0 + 8 * x.cls) (Nat.add_assoc _ _ _) (by omega)) (by decide))
  have fv : frame u v [.sticky] (besides P) := by
    show frame u (u.inc (if x.cut then FWD_CNT_CUT.V (dieOf P) else FWD_CNT_SAF.V (dieOf P))) _ _
    split
    · exact die _ _ (0x80000 + 0x2008) (Nat.add_assoc _ _ _) (by decide)
    · exact die _ _ (0x80000 + 0x2010) (Nat.add_assoc _ _ _) (by decide)
  have spec : ∀ t, frame v t [.sticky] (besides P) →
      t.reg (PRT_CNT_TX_FRAMES.V P).a = Word.ofN ((s.reg (PRT_CNT_TX_FRAMES.V P).a).toNat + 1) ∧
      frame s t [.sticky] (fun a => a ≠ PRT_PORT_CTL.a P) := fun t ft => by
    have f := frame_trans fu (frame_trans fv ft)
    refine ⟨?_, frame_trans (frame_inc _ ?_ (by decide)) (frame_mono f (fun _ h => h) (fun _ h => h.1))⟩
    · rw [f.2.1 (PRT_CNT_TX_FRAMES.V P).a (fun h => h.2 rfl), inc, reg_count_self]
    · simp only [PRT_CNT_TX_FRAMES.V, PRT_CNT_TX_FRAMES.a, PRT_PORT_CTL.a]; omega
  split
  · exact spec _ (die _ _ (0x90000 + 0x2010) (Nat.add_assoc _ _ _) (by decide))
  · split
    · exact spec _ (die _ _ (0x90000 + 0x2008) (Nat.add_assoc _ _ _) (by decide))
    · exact spec _ (frame_refl _ _ _)

/-- A frame out of its queue and counted is started once it is sent and held, and copies are taken. -/
theorem started_of_sent {u : State} {x : Queued} (queues : u.fwd.queues = s.fwd.queues.erase x)
    (belay : (u.port P).belay = (s.port P).belay) (out : u.out = s.out)
    (frames : u.reg (PRT_CNT_TX_FRAMES.V P).a = Word.ofN ((s.reg (PRT_CNT_TX_FRAMES.V P).a).toNat + 1))
    (hm : u.rb (PRT_PORT_CTL.MACSEC P) = false) :
    started s ((u.sendHeld P x.cls (.frame x.frame)).mirror 1 P x.frame x.cut) P x := by
  obtain ⟨sent, port, fs⟩ := sendHeld_plain hm x.cls (.frame x.frame)
  have copied : mirrored _ ((u.sendHeld P x.cls (.frame x.frame)).mirror 1 P x.frame x.cut) := mirrored_mirrorFrom 16 1 x.frame x.cut _
  simp only [PortSt.belay, Prod.mk.injEq] at belay
  obtain ⟨⟨expect, next, held⟩, -, -, xoff⟩ := belay
  have fwd : (u.sendHeld P x.cls (.frame x.frame)).fwd = u.fwd := fs.1 .fwd (by decide)
  have ⟨_, mout, mqueues, mreg⟩ := copied
  rw [started, port_of_mirrored copied, port, mout, sent, mqueues, fwd, mreg (PRT_CNT_TX_FRAMES.V P).a (not_recordReg_port P 0x190),
    fs.2.1 _ not_false,     out, expect, next, xoff, held]
  exact ⟨queues, rfl, rfl, rfl, frames⟩

/-- A start leaves what `started` says, where the port has no MACsec. -/
theorem startFrame_starts {c : Nat} {x : Queued} (hP : P < 1152) (hx : x.P = P) (hc : x.cls ≤ 6)
    (hm : s.rb (PRT_PORT_CTL.MACSEC P) = false) : started s (s.startFrame P c x) P x := by
  obtain ⟨queues, belay, fq⟩ := takeOut_spec (s := s) (c := c) hP hx hc
  obtain ⟨frames, fc⟩ := countStart_spec (s := s.takeOut P c x) hP hc (s.inFallback P) (s.unsched P x.frame)
  rw [startFrame_eq]
  refine started_of_sent ?_ ?_ ((fc.1 .out (by decide)).trans (fq.1 .out (by decide))) ?_ ?_
  · rw [show State.fwd _ = (s.takeOut P c x).fwd from fc.1 .fwd (by decide), queues]
  · rw [port_of_frame fc (by decide), belay]
  · rw [frames, fq.2.1 (PRT_CNT_TX_FRAMES.V P).a (fun h => h.2 rfl)]
  · exact (rb_of_frame fc (fun h => h rfl)).trans ((rb_of_frame fq (fun h => h.1 rfl)).trans hm)

/-! ## The scheduler where one frame is its choice -/

/-- The scheduler starts what ranks 1 and 2, or rank 3, choose after it has looked at the port. -/
theorem schedule_starts {x : Queued} (hP : P < 1152) (hs : s.maySend P = true) (hg : s.gateOn = false)
    (hm : s.rb (PRT_PORT_CTL.MACSEC P) = false) (hr : s.replayRoom P x.frame = true) (hx : x.P = P) (hc : x.cls ≤ 6)
    (choice : ∀ u, looked s u P → u.rank2 P = some x ∨ u.rank2 P = none ∧ ∃ c, u.rank3 P = some (c, x)) :
    started s (s.schedule P) P x := by
  rw [schedule, if_neg (by rw [hs]; decide)]
  extract_lets u
  have tagged : looked s (s.tagHeads P) P := looked_tagHeads _ s
  have look : looked s u P := by
    show looked s (((s.tagHeads P).noteWait P).noteC7 P) P
    rw [noteWait_ungated ((gateOn_of_looked tagged).trans hg)]
    exact looked_trans tagged looked_noteC7
  clear_value u
  have starts : ∀ c, started s (if u.replayRoom P x.frame then u.startFrame P c x else u) P x := fun c => by
    rw [if_pos ((replayRoom_of_looked hP look x.frame).trans hr)]
    exact started_of_looked hP look
      (startFrame_starts hP hx hc ((rb_of_frame look.1 (fun e => (besides_c7Held hP).1 e.symm)).trans hm))
  rw [rank1_ungated ((gateOn_of_looked look).trans hg)]
  rcases choice u look with second | ⟨none, c, third⟩
  · rw [second]
    exact starts 0
  · rw [none, third]
    exact starts c

end Sys2Proof.Machine.State

namespace Sys2Proof.Machine
open State

/-- Settles O15: rank 2 gives the oldest C0 frame, rank 3 the head of the one other class with frames, and either is started. -/
theorem frameStarts : Obligations.FrameStarts := by
  unfold Obligations.FrameStarts
  intro s P x hu hs hg hm hr hx hP hq
  have hc : x.cls ≤ 6 := by omega
  refine runs_unheld hu rfl (schedule_starts P.isLt hs hg hm hr hP hc fun u look => ?_)
  have ungated := (gateOn_of_looked look).trans hg
  have clear := (xoffed_of_looked look x.cls).trans hx
  rw [rank2_ungated ungated, queueOf_of_looked look]
  rcases hq with ⟨h0, head⟩ | ⟨h1, h6, head, only⟩
  · rw [h0] at clear
    exact .inl (by rw [clear]; exact head)
  · have empty : ∀ d, d ≠ x.cls → s.queueOf P d = [] := fun d hd => List.filter_eq_nil_iff.mpr fun y hy e => by
      rw [Bool.and_eq_true, beq_iff_eq, beq_iff_eq] at e
      exact hd (e.2.symm.trans (only y hy e.1))
    refine .inr ⟨by rw [empty 0 (by omega), List.head?_nil, ite_self], x.cls, ?_⟩
    exact rank3_ungated ungated h1 h6 (by rw [queueOf_of_looked look]; exact head) clear
      (fun d hd => by rw [queueOf_of_looked look]; exact empty d hd)

end Sys2Proof.Machine
end

section
/-! PROOF. Plane time (R111, R112, R116 to R118, R120): what its discipline, a time frame, the edge of a gate entry and a bank switch
leave, and the two obligations on them. -/
namespace Sys2Proof.Machine.State
variable {s t : State}

theorem frame_withTime (v : TimeSt) {ch : List Part} {rg : Nat → Prop} (h : Part.time ∈ ch) : frame s (s.withTime v) ch rg := by
  refine ⟨fun p hp => ?_, fun _ _ => rfl, rfl⟩
  cases p
  case time => exact absurd h hp
  all_goals rfl
theorem rf_withTime (v : TimeSt) (x : Rf) : (s.withTime v).rf x = s.rf x := rfl
theorem rb_wf_self (x : Rf) (n : Nat) (h : x.lo + x.w ≤ 64) : (s.wf x n).rb x = (n % 2 ^ x.w == 1) := by
  rw [rb, rf_wf_self _ _ _ h]
/-- No record counts in the TIM block or above it. -/
theorem not_recordReg_of_ge {a : Nat} (h : TIM_NOW.a ≤ a) : ¬ recordReg a := by
  rw [TIM_NOW.a] at h
  unfold recordReg
  omega

/-- The registers that a gate edge may touch, beside plane time itself: TIM_STS, and those that records count in. -/
abbrev edgeReg (a : Nat) : Prop := a = TIM_STS.a ∨ recordReg a
theorem not_edgeReg_port (P o : Nat) : ¬ edgeReg (portBase P + o) := fun h => h.elim
  (by rw [TIM_STS.a, portBase]; split <;> omega) (not_recordReg_port P o)
theorem not_edgeReg_tim {a : Nat} (h : TIM_NOW.a ≤ a) (hn : a ≠ TIM_STS.a) : ¬ edgeReg a := fun e => e.elim hn (not_recordReg_of_ge h)

/-! ## The discipline of plane time (R116, R117) -/

/-- An offset below 1 µs is slewed. -/
theorem discipline_slews {o : Int} (h : o.natAbs < 1000) :
    s.discipline o = (s.wf TIM_STS.LOCKED 1).withTime { s.time with slew := o, slewTicks := 0, step := none } := by
  simp only [discipline, if_pos h]; rfl
theorem discipline_leaves {o : Int} (h : o.natAbs < 1000) :
    (s.discipline o).time.slew = o ∧ (s.discipline o).rb TIM_STS.LOCKED = true ∧
    frame s (s.discipline o) [.time] (fun a => a = TIM_STS.a) := by
  rw [discipline_slews h]
  exact ⟨rfl, rb_wf_self TIM_STS.LOCKED 1 (by decide), frame_trans (frame_wf _ _ rfl) (frame_withTime _ (by decide))⟩

/-! ## A time frame (R117, R118) -/

/-- Torus port `i` has heard its partner's estimate `est` now. -/
def heardEst (s : State) (i est : Nat) : State :=
  s.setPort (768 + i) { s.port (768 + i) with
    pEst := est, pSeen := s.now, goodSince := s.goodFrom est (s.port (768 + i)).goodSince }
theorem parentPort_heardEst (i est : Nat) : (s.heardEst i est).parentPort = s.parentPort := rfl

/-- The parent has been heard on torus port `i`, and the estimate is `est`: the state in which its offset is applied. -/
def heardParent (s : State) (i est : Nat) : State :=
  ((s.wf TIM_STS.PARENT_PORT i).withTime { s.time with parentSeen := s.now }).setEst est

theorem timeFrame_parent {i : Nat} (ha : s.active (768 + i) = true) (hp : s.parentPort = some i) (est t1 t2 t3 t4 : Nat) :
    s.timeFrame i est t1 t2 t3 t4 =
      ((s.heardEst i est).heardParent i ((halfDelay t1 t2 t3 t4).natAbs + est)).discipline (halfDelay t1 t2 t3 t4) := by
  simp only [timeFrame, ha, Bool.not_true, Bool.false_eq_true, if_false]
  exact if_pos ((parentPort_heardEst i est).trans hp)
theorem timeFrame_other {i : Nat} (ha : s.active (768 + i) = true) (hp : s.parentPort ≠ some i) (est t1 t2 t3 t4 : Nat) :
    s.timeFrame i est t1 t2 t3 t4 = s.heardEst i est := by
  simp only [timeFrame, ha, Bool.not_true, Bool.false_eq_true, if_false]
  exact if_neg (fun e => hp ((parentPort_heardEst i est).symm.trans e))

/-- TIM_OFFSET_EST saturates (R118). -/
theorem setEst_shows (est : Nat) :
    (s.setEst est).rf TIM_OFFSET_EST.V = min est 0xFFFFFFFF ∧ frame s (s.setEst est) [.time] (fun a => a = TIM_OFFSET_EST.a) := by
  refine ⟨?_, frame_trans (frame_wf _ _ rfl) (frame_withTime _ (by decide))⟩
  rw [setEst, rf_withTime, rf_wf_self _ _ _ (by decide)]
  exact Nat.mod_eq_of_lt (Nat.lt_of_le_of_lt (Nat.min_le_right _ _) (by decide))
theorem rf_setParentPort {i : Nat} (hi : i < 384) : (s.wf TIM_STS.PARENT_PORT i).rf TIM_STS.PARENT_PORT = i :=
  (rf_wf_self _ _ _ (by decide)).trans (Nat.mod_eq_of_lt (hi.trans (by decide)))
theorem heardParent_shows {i : Nat} (hi : i < 384) (est : Nat) :
    (s.heardParent i est).rf TIM_STS.PARENT_PORT = i ∧ (s.heardParent i est).time.parentSeen = s.now ∧
    (s.heardParent i est).rf TIM_OFFSET_EST.V = min est 0xFFFFFFFF ∧
    frame s (s.heardParent i est) [.time] (fun a => a = TIM_STS.a ∨ a = TIM_OFFSET_EST.a) := by
  obtain ⟨shows, leaves⟩ := setEst_shows (s := (s.wf TIM_STS.PARENT_PORT i).withTime { s.time with parentSeen := s.now }) est
  refine ⟨?_, rfl, shows, frame_trans (frame_wf _ _ (.inl rfl)) (frame_trans (frame_withTime _ (by decide))
    (frame_mono leaves (fun _ h => h) (fun _ h => .inr h)))⟩
  rw [heardParent, rf_of_frame leaves (by decide), rf_withTime, rf_setParentPort hi]

/-- What a time frame from the parent leaves where its offset is slewed. -/
theorem timeFrame_slews {i : Nat} (hi : i < 384) (ha : s.active (768 + i) = true) (hp : s.parentPort = some i) (est t1 t2 t3 t4 : Nat)
    (h : (halfDelay t1 t2 t3 t4).natAbs < 1000) :
    let t := s.timeFrame i est t1 t2 t3 t4
    t.rf TIM_STS.PARENT_PORT = i ∧ t.rb TIM_STS.LOCKED = true ∧ t.time.slew = halfDelay t1 t2 t3 t4 ∧ t.time.parentSeen = s.now ∧
    t.rf TIM_OFFSET_EST.V = min ((halfDelay t1 t2 t3 t4).natAbs + est) 0xFFFFFFFF ∧
    frame s t [.ports, .time] (fun a => a = TIM_STS.a ∨ a = TIM_OFFSET_EST.a) := by
  rw [timeFrame_parent ha hp]
  obtain ⟨port, seen, shows, hf⟩ := heardParent_shows (s := s.heardEst i est) hi ((halfDelay t1 t2 t3 t4).natAbs + est)
  generalize (s.heardEst i est).heardParent _ _ = u at *
  obtain ⟨slew, locked, hd⟩ := discipline_leaves (s := u) h
  refine ⟨?_, locked, slew, ?_, (rf_of_frame hd (by decide)).trans shows, ?_⟩
  · rw [← port, discipline_slews h, rf_withTime]
    exact rf_wf_disj _ _ _ _ (by decide) (by decide) (by decide)
  · rw [discipline_slews h]; exact seen
  · exact frame_trans (frame_setPort _ _ (by decide)) (frame_trans (frame_mono hf (by decide) (fun _ r => r))
      (frame_mono hd (by decide) (fun _ r => .inl r)))

/-- INTERVAL short of every sixteenth: one time frame, to the parent (R117). -/
theorem timeSync_parent {i : Nat} (hp : s.parentPort = some i) (hk : (s.time.syncN + 1) % 16 ≠ 0) :
    s.timeSync = ((s.withTime { s.time with syncN := s.time.syncN + 1 }).wf TIM_STS.PARENT_PORT i).sendTimeFrame i := by
  have hp' : (s.withTime { s.time with syncN := s.time.syncN + 1 }).parentPort = some i := hp
  simp only [timeSync, hp', bne_iff_ne.mpr hk, if_true]

/-- A time frame sent by a port without MACsec: the link frame with the next LSEQ, and beside it what the frame carries. -/
theorem sendTimeFrame_plain {i : Nat} (hm : s.rb (PRT_PORT_CTL.MACSEC (768 + i)) = false) :
    (s.sendTimeFrame i).out.drop (s.out.length + 1) = [.timeFrame (768 + i) (s.rf TIM_OFFSET_EST.V)] ∧
    ((s.sendTimeFrame i).port (768 + i)).txNext = ((s.port (768 + i)).txNext + 1) % 2 ^ 24 ∧
    frame s (s.sendTimeFrame i) [.ports, .out] (fun _ => False) := by
  unfold sendTimeFrame
  extract_lets P f
  obtain ⟨out, port, hf⟩ := sendHeld_plain (P := P) hm 6 (.frame f)
  refine ⟨?_, congrArg PortSt.txNext port, frame_trans hf (frame_emit _ (by decide))⟩
  rw [emit_out, out, List.drop_left' (by simp)]

/-- What INTERVAL leaves: the time frame to the parent is out, with the estimate. -/
theorem timeSync_sends {i : Nat} (hi : i < 384) (hp : s.parentPort = some i) (hk : (s.time.syncN + 1) % 16 ≠ 0)
    (hm : s.rb (PRT_PORT_CTL.MACSEC (768 + i)) = false) :
    s.timeSync.rf TIM_STS.PARENT_PORT = i ∧ s.timeSync.time.syncN = s.time.syncN + 1 ∧
    s.timeSync.out.drop (s.out.length + 1) = [.timeFrame (768 + i) (s.rf TIM_OFFSET_EST.V)] ∧
    (s.timeSync.port (768 + i)).txNext = ((s.port (768 + i)).txNext + 1) % 2 ^ 24 := by
  rw [timeSync_parent hp hk]
  have plain : ((s.withTime { s.time with syncN := s.time.syncN + 1 }).wf TIM_STS.PARENT_PORT i).rb (PRT_PORT_CTL.MACSEC (768 + i)) =
      false := by
    rw [rb, rf_wf_reg _ _ _ _ (fun e => not_edgeReg_port (768 + i) 0 (.inl e))]; exact hm
  obtain ⟨out, next, hf⟩ := sendTimeFrame_plain plain
  refine ⟨?_, congrArg TimeSt.syncN (hf.1 .time (by decide)), ?_, next⟩
  · rw [rf_of_frame hf not_false, rf_setParentPort hi]
  · rw [rf_wf_reg _ _ _ _ (by decide), rf_withTime] at out
    exact out

/-! ## The opening edge of a gate entry (R120) -/

/-- A pending step has been applied, and decides for this entry (R117, R120). -/
def edgeStart (s : State) : State :=
  s.applyStep.withTime { s.applyStep.time with stepFb := decide (s.applyStep.now < s.applyStep.time.fallUntil) }
/-- The decisions of torus ports for their partners (R120). -/
def decidePartners (l : List Nat) (s : State) : State := l.foldl (fun u i => u.decidePartner i) s

/-- Where no frame is queued, no pitch is missed. -/
theorem gateEdge_idle (hg : s.gateOn = true) (hq : s.fwd.queues = []) :
    s.gateEdge = (decidePartners (List.range 384) s.edgeStart.decideOwn).settleDrift := by
  simp only [gateEdge, hg, hq, decidePartners, edgeStart, Bool.not_true, Bool.false_eq_true, if_false, List.map_nil, List.dedup_nil,
    List.foldl_nil]

theorem edgeStart_stepless (h : s.time.step = none) :
    s.edgeStart = s.withTime { s.time with stepFb := decide (s.now < s.time.fallUntil) } := by
  have : s.applyStep = s := by rw [applyStep, h]
  rw [edgeStart, this]

theorem now_stepTime {o : Nat} (h : s.now + o < 2 ^ 64) : (s.stepTime o).now = s.now + o := by
  rw [now, rf, stepTime, show TIM_NOW.V.a = TIM_NOW.a from rfl, reg_setReg_self, ← Int.natCast_add, BitVec.ofInt_natCast]
  exact (Word.field_ofN _ 0 64 (by decide)).trans (by rw [Nat.pow_zero, Nat.div_one, Nat.mod_eq_of_lt h])
theorem gatePeriod_pos (hg : s.gateOn = true) : 0 < s.gatePeriod s.gateBank := by
  rw [gateOn, Bool.and_eq_true, bne_iff_ne] at hg
  exact Nat.pos_of_ne_zero hg.2
/-- A pending step moves plane time, and the cycle that follows keeps every port in fallback. -/
theorem edgeStart_steps {o : Nat} (hg : s.gateOn = true) (hs : s.time.step = some (o : Int)) (h : s.now + o < 2 ^ 64) :
    s.edgeStart.now = s.now + o ∧ s.edgeStart.time.step = none ∧ s.edgeStart.time.stepFb = true := by
  have applied : s.applyStep = (s.stepTime o).withTime { s.time with
      step := none, fallUntil := (s.stepTime o).now + (s.stepTime o).gatePeriod (s.stepTime o).gateBank } := by
    simp only [applyStep, hs]; rfl
  have on : (s.stepTime o).gateOn = true := (gateOn_congr (s := s) (setReg_gateTbl ..) (reg_setReg_ne _ _ _ _ (by decide))).trans hg
  have period := gatePeriod_pos on
  rw [edgeStart, applied]
  exact ⟨now_stepTime h, rfl, decide_eq_true (Nat.lt_add_of_pos_right period)⟩

/-- The decision for the own estimate and the parent: fallback of every port with DRIFT, recorded when new, or, where the estimate does not
demand it, whether that fallback goes on. -/
theorem decideOwn_cases :
    recorded ((s.withTime { s.time with own := true }).wf TIM_STS.DRIFT 1) s.decideOwn ∨
    ¬ s.rf TIM_GUARD.V < 2 * s.rf TIM_OFFSET_EST.V ∧ ∃ b, s.decideOwn = s.withTime { s.time with own := b } := by
  unfold decideOwn
  extract_lets lost bad s1
  split
  · refine .inl ?_
    split
    · exact frame_refl _ _ _
    · exact recorded_report _ (show clTIME < 256 by decide)
  · next hb =>
    have small : ¬ s.rf TIM_GUARD.V < 2 * s.rf TIM_OFFSET_EST.V := fun h => hb (Bool.or_eq_true_iff.mpr (.inl (decide_eq_true h)))
    refine .inr ⟨small, ?_⟩
    split
    · exact ⟨false, rfl⟩
    · exact ⟨s.time.own, rfl⟩

theorem frame_decideOwn : frame s s.decideOwn (.time :: recordParts) edgeReg := by
  rcases decideOwn_cases (s := s) with h | ⟨-, b, h⟩
  · exact frame_trans (frame_withTime _ (by decide)) (frame_trans (frame_wf _ _ (.inl rfl))
      (frame_mono h (fun _ m => List.mem_cons_of_mem _ m) (fun _ r => .inr r)))
  · rw [h]; exact frame_withTime _ (by decide)
theorem time_decideOwn : ∃ b, s.decideOwn.time = { s.time with own := b } := by
  rcases decideOwn_cases (s := s) with h | ⟨-, b, h⟩
  · exact ⟨true, h.1 .time (by decide)⟩
  · exact ⟨b, by rw [h]; rfl⟩
theorem decideOwn_drifts (h : s.rf TIM_GUARD.V < 2 * s.rf TIM_OFFSET_EST.V) :
    s.decideOwn.time.own = true ∧ s.decideOwn.rb TIM_STS.DRIFT = true := by
  rcases decideOwn_cases (s := s) with k | ⟨small, -⟩
  · exact ⟨congrArg TimeSt.own (k.1 .time (by decide)),
      (rb_of_frame k (not_recordReg_of_ge (by decide))).trans (rb_wf_self TIM_STS.DRIFT 1 (by decide))⟩
  · exact absurd h small

/-- A decision for a partner is one of that port's state. -/
theorem decidePartner_cases (i : Nat) : s.decidePartner i = s ∨ ∃ p, s.decidePartner i = s.setPort (768 + i) p := by
  unfold decidePartner
  extract_lets P p silent
  split
  · split
    · exact .inr ⟨_, rfl⟩
    · exact .inl rfl
  · split
    · exact .inr ⟨_, rfl⟩
    · split
      · exact .inr ⟨_, rfl⟩
      · split
        · exact .inr ⟨_, rfl⟩
        · exact .inl rfl
theorem frame_decidePartner (i : Nat) : frame s (s.decidePartner i) [.ports] (fun _ => False) := by
  rcases decidePartner_cases (s := s) i with h | ⟨p, h⟩
  · rw [h]; exact frame_refl _ _ _
  · rw [h]; exact frame_setPort _ _ (by decide)
theorem port_decidePartner_ne {i P : Nat} (hn : P ≠ 768 + i) : (s.decidePartner i).port P = s.port P := by
  rcases decidePartner_cases (s := s) i with h | ⟨p, h⟩
  · rw [h]
  · rw [h]; exact port_setPort_ne _ _ _ _ hn

theorem frame_decidePartners (l : List Nat) (s : State) : frame s (decidePartners l s) [.ports] (fun _ => False) := by
  induction l generalizing s with
  | nil => exact frame_refl _ _ _
  | cons i l ih => exact frame_trans (frame_decidePartner i) (ih _)
theorem port_decidePartners_of_notMem {l : List Nat} {i : Nat} (h : i ∉ l) (s : State) :
    (decidePartners l s).port (768 + i) = s.port (768 + i) := by
  induction l generalizing s with
  | nil => rfl
  | cons j l ih =>
    rw [List.mem_cons, not_or] at h
    exact (ih h.2 _).trans (port_decidePartner_ne (by omega))

/-- Torus port `i` is ACTIVE, and its partner, heard of within 64 intervals, reported an estimate above half of TIM_GUARD (R120). -/
def partnerDrifts (s : State) (i : Nat) : Prop :=
  s.active (768 + i) = true ∧ s.rf TIM_GUARD.V < 2 * (s.port (768 + i)).pEst ∧ s.now - (s.port (768 + i)).pSeen ≤ 64 * s.intervalNs
theorem partnerDrifts_of_frame {ch : List Part} {rg : Nat → Prop} {i : Nat} (hf : frame s t ch rg) (hr : ∀ a, rg a → edgeReg a)
    (hp : t.port (768 + i) = s.port (768 + i)) (h : s.partnerDrifts i) : t.partnerDrifts i := by
  have rf_same : ∀ {x : Rf}, ¬ edgeReg x.a → t.rf x = s.rf x := fun hx => rf_of_frame hf (fun r => hx (hr _ r))
  rw [partnerDrifts, active, pstate, now, intervalNs, hp, rf_same (not_edgeReg_port (768 + i) 8),
    rf_same (x := TIM_GUARD.V) (not_edgeReg_tim (by decide) (by decide)),
    rf_same (x := TIM_NOW.V) (not_edgeReg_tim (by decide) (by decide)),
    rf_same (x := TIM_SYNC_CFG.INTERVAL) (not_edgeReg_tim (by decide) (by decide))]
  exact h
theorem fallback_decidePartner {i : Nat} (h : s.partnerDrifts i) : ((s.decidePartner i).port (768 + i)).fallback = true := by
  obtain ⟨active, drifts, heard⟩ := h
  simp only [decidePartner, active, Bool.not_true, Bool.false_eq_true, if_false, decide_eq_true_eq, if_neg (Nat.not_lt.mpr heard),
    if_pos drifts, port_setPort_self]
theorem fallback_decidePartners {l : List Nat} {i : Nat} (hl : l.Nodup) (hi : i ∈ l) {s : State} (h : s.partnerDrifts i) :
    ((decidePartners l s).port (768 + i)).fallback = true := by
  induction l generalizing s with
  | nil => cases hi
  | cons j l ih =>
    obtain ⟨hj, hl⟩ := List.nodup_cons.mp hl
    by_cases e : i = j
    · subst e
      exact (congrArg PortSt.fallback (port_decidePartners_of_notMem hj _)).trans (fallback_decidePartner h)
    · exact ih hl (List.mem_of_ne_of_mem e hi)
        (partnerDrifts_of_frame (frame_decidePartner j) (fun _ => False.elim) (port_decidePartner_ne (by omega)) h)

theorem settleDrift_own (h : s.time.own = true) : s.settleDrift = s := by
  rw [settleDrift, h]; rfl
theorem frame_settleDrift : frame s s.settleDrift [] (fun a => a = TIM_STS.a) := by
  rw [settleDrift]
  split
  · exact frame_refl _ _ _
  · exact frame_wf _ _ rfl

/-- From the applied step on, an edge touches plane time's component, the ports, TIM_STS and what a record touches. -/
theorem frame_gateEdge (hg : s.gateOn = true) (hq : s.fwd.queues = []) :
    frame s.edgeStart s.gateEdge (.time :: .ports :: recordParts) edgeReg := by
  rw [gateEdge_idle hg hq]
  exact frame_trans (frame_mono frame_decideOwn (by decide) (fun _ h => h))
    (frame_trans (frame_mono (frame_decidePartners _ _) (by decide) (fun _ => False.elim))
      (frame_mono frame_settleDrift (by decide) (fun _ h => .inl h)))
theorem now_gateEdge (hg : s.gateOn = true) (hq : s.fwd.queues = []) : s.gateEdge.now = s.edgeStart.now :=
  rf_of_frame (frame_gateEdge hg hq) (not_edgeReg_tim (by decide) (by decide))
/-- Of plane time's component the decisions touch only the device's own fallback. -/
theorem time_gateEdge (hg : s.gateOn = true) (hq : s.fwd.queues = []) : ∃ b, s.gateEdge.time = { s.edgeStart.time with own := b } := by
  obtain ⟨b, own⟩ := time_decideOwn (s := s.edgeStart)
  refine ⟨b, ?_⟩
  rw [gateEdge_idle hg hq, ← own]
  exact (frame_settleDrift.1 .time (by decide)).trans ((frame_decidePartners _ _).1 .time (by decide))

/-- An estimate above half of TIM_GUARD: every port in fallback, and DRIFT (R120). -/
theorem gateEdge_drifts (hg : s.gateOn = true) (hq : s.fwd.queues = []) (hs : s.time.step = none)
    (h : s.rf TIM_GUARD.V < 2 * s.rf TIM_OFFSET_EST.V) :
    s.gateEdge.time.own = true ∧ s.gateEdge.rb TIM_STS.DRIFT = true ∧ s.gateEdge.now = s.now ∧ s.gateEdge.fwd = s.fwd := by
  have start : s.edgeStart.rf TIM_GUARD.V < 2 * s.edgeStart.rf TIM_OFFSET_EST.V ∧ s.edgeStart.now = s.now ∧ s.edgeStart.fwd = s.fwd := by
    rw [edgeStart_stepless hs]; exact ⟨h, rfl, rfl⟩
  obtain ⟨drifts, now, fwd⟩ := start
  obtain ⟨own, drift⟩ := decideOwn_drifts drifts
  have partners := frame_decidePartners (List.range 384) s.edgeStart.decideOwn
  have own' : (decidePartners (List.range 384) s.edgeStart.decideOwn).time.own = true :=
    (congrArg TimeSt.own (partners.1 .time (by decide))).trans own
  have edge := (gateEdge_idle hg hq).trans (settleDrift_own own')
  refine ⟨?_, ?_, (now_gateEdge hg hq).trans now, ((frame_gateEdge hg hq).1 .fwd (by decide)).trans fwd⟩
  · rw [edge]; exact own'
  · rw [edge, rb_of_frame partners not_false]; exact drift

/-- A partner's estimate above half of TIM_GUARD: its port in fallback (R120). -/
theorem gateEdge_partner {i : Nat} (hi : i < 384) (hg : s.gateOn = true) (hq : s.fwd.queues = []) (hs : s.time.step = none)
    (h : s.partnerDrifts i) : (s.gateEdge.port (768 + i)).fallback = true := by
  have start : s.edgeStart.decideOwn.partnerDrifts i := by
    refine partnerDrifts_of_frame frame_decideOwn (fun _ r => r) (port_of_frame frame_decideOwn (by decide) _) ?_
    rw [edgeStart_stepless hs]; exact h
  rw [gateEdge_idle hg hq, port_of_frame frame_settleDrift (by decide)]
  exact fallback_decidePartners List.nodup_range (List.mem_range.mpr hi) start

/-! ## A bank switch (R111, R112) -/

theorem switchInstant_ungated (hg : s.gateOn = false) : s.switchInstant = s.rf TIM_GATE_SWITCH.V := by
  rw [switchInstant, hg]; rfl
/-- A length rounded up to whole periods. -/
theorem roundUp_bounds (d : Nat) {p : Nat} (hp : 0 < p) : d ≤ (d + p - 1) / p * p ∧ (d + p - 1) / p * p < d + p := by
  have below := Nat.div_mul_le_self (d + p - 1) p
  have above := Nat.lt_div_mul_add (a := d + p - 1) hp
  omega
/-- Under a schedule the instant is the first cycle boundary at or after TIM_GATE_SWITCH. -/
theorem switchInstant_gated (hg : s.gateOn = true) (hb : s.rf TIM_GATE_BASE.V < s.rf TIM_GATE_SWITCH.V) :
    (∃ k, s.switchInstant = s.rf TIM_GATE_BASE.V + k * s.gatePeriod s.gateBank) ∧
    s.rf TIM_GATE_SWITCH.V ≤ s.switchInstant ∧ s.switchInstant < s.rf TIM_GATE_SWITCH.V + s.gatePeriod s.gateBank := by
  have instant : s.switchInstant = s.rf TIM_GATE_BASE.V +
      (s.rf TIM_GATE_SWITCH.V - s.rf TIM_GATE_BASE.V + s.gatePeriod s.gateBank - 1) / s.gatePeriod s.gateBank * s.gatePeriod s.gateBank := by
    simp only [switchInstant, hg, Bool.not_true, Bool.false_eq_true, if_false, if_neg (Nat.not_le.mpr hb)]
  obtain ⟨reaches, least⟩ := roundUp_bounds (s.rf TIM_GATE_SWITCH.V - s.rf TIM_GATE_BASE.V) (gatePeriod_pos hg)
  exact ⟨⟨_, instant⟩, by omega, by omega⟩

/-- The registers of an applied switch (R111). -/
def switchRegs (s : State) : State :=
  (((s.wf TIM_GATE_CTL.ACTIVE_BANK (1 - s.gateBank)).wf TIM_GATE_CTL.PENDING 0).wf TIM_GATE_BASE.V s.switchInstant).wf
    TIM_GATE_PERIOD.V (s.gatePeriod (1 - s.gateBank))
/-- An applied switch before its trace record: its registers and its guard (R114). -/
def switched (s : State) : State := s.switchRegs.withTime { s.switchRegs.time with guardAt := s.rf TIM_GUARD.V }
theorem gateSwitch_armed (h : s.rb TIM_GATE_CTL.PENDING = true) :
    s.gateSwitch = s.switched.trace 5 (unitHub 0) 0 (bytesLE 1 (1 - s.gateBank) ++ bytesLE 8 s.switchInstant) := by
  rw [gateSwitch, if_neg (by rw [h]; decide)]; rfl
theorem gateSwitch_idle (h : s.rb TIM_GATE_CTL.PENDING = false) : s.gateSwitch = s := by
  rw [gateSwitch, h]; rfl

theorem gateSwitch_switches (h : s.rb TIM_GATE_CTL.PENDING = true) :
    s.gateSwitch.rf TIM_GATE_CTL.ACTIVE_BANK = 1 - s.rf TIM_GATE_CTL.ACTIVE_BANK ∧ s.gateSwitch.rb TIM_GATE_CTL.PENDING = false ∧
    s.gateSwitch.time.guardAt = s.rf TIM_GUARD.V ∧ s.gateSwitch.gateTbl = s.gateTbl ∧
    s.gateSwitch.rf TIM_GATE_BASE.V = s.switchInstant % 2 ^ 64 := by
  have hr : recorded s.switched s.gateSwitch := by rw [gateSwitch_armed h]; exact recorded_trace _ _ _ _
  have rf_same : ∀ {x : Rf}, TIM_NOW.a ≤ x.a → s.gateSwitch.rf x = s.switched.rf x := fun hx =>
    rf_of_frame hr (not_recordReg_of_ge hx)
  have time : s.gateSwitch.time = s.switched.time := hr.1 .time (by decide)
  have table : s.gateSwitch.gateTbl = s.switched.gateTbl := hr.1 .gateTbl (by decide)
  refine ⟨?bank, ?pending, by rw [time, switched, withTime_time], ?table, ?base⟩
  case table => rw [table, switched, withTime_gateTbl, switchRegs, wf_gateTbl, wf_gateTbl, wf_gateTbl, wf_gateTbl]
  case bank =>
    rw [rf_same (by decide), switched, rf_withTime, switchRegs, rf_wf_reg _ _ _ _ (by decide), rf_wf_reg _ _ _ _ (by decide),
      rf_wf_disj _ _ _ _ (by decide) (by decide) (by decide), rf_wf_self _ _ _ (by decide)]
    exact Nat.mod_eq_of_lt (Nat.lt_of_le_of_lt (Nat.sub_le _ _) (by decide))
  case pending =>
    rw [rb, rf_same (by decide), switched, rf_withTime, switchRegs, rf_wf_reg _ _ _ _ (by decide), rf_wf_reg _ _ _ _ (by decide),
      rf_wf_self _ _ _ (by decide)]
    rfl
  case base =>
    rw [rf_same (by decide), switched, rf_withTime, switchRegs, rf_wf_reg _ _ _ _ (by decide), rf_wf_self _ _ _ (by decide)]
    rfl

/-- Where the access reaches its register, a write's effect is its own. -/
theorem guardWrite_opens (hu : awake s) {src : Src} {a : Nat} (ho : s.opens src a) (k : State → State) : s.guardWrite src a k = k s := by
  rw [guardWrite, hu, ho]; rfl

/-- PENDING written leaves the bank, and every other register. -/
theorem setPending_leaves (n : Nat) :
    (s.wf TIM_GATE_CTL.PENDING n).rf TIM_GATE_CTL.ACTIVE_BANK = s.rf TIM_GATE_CTL.ACTIVE_BANK ∧
    frame s (s.wf TIM_GATE_CTL.PENDING n) [] (fun a => a = TIM_GATE_CTL.a) :=
  ⟨rf_wf_disj _ _ _ _ (by decide) rfl (by decide), frame_wf _ _ rfl⟩

end Sys2Proof.Machine.State

namespace Sys2Proof.Machine
open State

/-- Settles O16: the edge through the decisions for the device and for each partner, the switch through its instant. -/
theorem gateEdgesAndBanks : Obligations.GateEdgesAndBanks := by
  unfold Obligations.GateEdgesAndBanks
  refine ⟨fun s hu hg hq => ⟨fun hs h => ?drift, fun p hs ha h hn => ?partner, fun o hs h => ?step⟩,
    fun s hu => ⟨fun hp => ?switch, fun hp => ?idle, fun src ho => ⟨fun hp => ?arm, fun hp => ?again, ?disarm⟩⟩⟩
  case drift => exact runs_unheld hu rfl (gateEdge_drifts hg hq hs h)
  case partner => exact runs_unheld hu rfl (gateEdge_partner p.isLt hg hq hs ⟨ha, h, hn⟩)
  case step =>
    obtain ⟨now, step, stepFb⟩ := edgeStart_steps hg hs h
    obtain ⟨b, time⟩ := time_gateEdge hg hq
    refine runs_unheld hu rfl ⟨(now_gateEdge hg hq).trans now, ?_, ?_⟩
    · rw [time]; exact step
    · rw [time]; exact stepFb
  case switch =>
    obtain ⟨bank, pending, guard, table, base⟩ := gateSwitch_switches hp
    refine runs_unheld hu rfl ⟨bank, pending, guard, table, fun hg => ?_, fun hg hb hw => ?_⟩
    · rw [base, switchInstant_ungated hg]
      exact Nat.mod_eq_of_lt (Nat.lt_of_lt_of_eq (Nat.mod_lt _ (by decide)) rfl)
    · obtain ⟨cycle, atOrAfter, first⟩ := switchInstant_gated hg hb
      rw [base, Nat.mod_eq_of_lt (first.trans hw)]
      exact ⟨cycle, atOrAfter, first⟩
  case idle => exact runs_unheld hu rfl (gateSwitch_idle hp)
  case arm =>
    refine runs_unheld hu rfl ?_
    rw [guardWrite_opens hu ho, State.arm, hp]
    exact ⟨rb_wf_self TIM_GATE_CTL.PENDING 1 (by decide), setPending_leaves 1⟩
  case again =>
    refine turnedAway_of_exec ?_ (by decide) (by decide)
    show unheld s _ = _
    rw [guardWrite_opens hu ho, State.arm, hp, unheld, hu]; rfl
  case disarm =>
    refine runs_unheld hu rfl ?_
    rw [guardWrite_opens hu ho]
    exact ⟨rb_wf_self TIM_GATE_CTL.PENDING 0 (by decide), setPending_leaves 0⟩

/-- Settles O18: a time frame of the parent is its estimate kept, then its offset slewed, as the root slews its source's. -/
theorem planeTimeDiscipline : Obligations.PlaneTimeDiscipline := by
  unfold Obligations.PlaneTimeDiscipline
  intro s hu
  refine ⟨fun p est t1 t2 t3 t4 ha => ⟨fun hp h => ?parent, fun hp => ?other⟩, fun p hp hlt hk hm => ?sync,
    fun hr o hs h => ?ptp, fun hr hs h => ?pps⟩
  case parent => exact runs_unheld hu rfl (timeFrame_slews p.isLt ha hp _ _ _ _ _ h)
  case other =>
    refine runs_unheld hu rfl ?_
    rw [timeFrame_other ha hp, heardEst, port_setPort_self]
    exact ⟨rfl, rfl, frame_setPort _ _ (by decide)⟩
  case sync => exact runs_unheld hu rfl (timeSync_sends hlt hp hk hm)
  case ptp =>
    refine runs_unheld hu rfl ?_
    rw [hr, hs]
    exact discipline_leaves h
  case pps =>
    refine runs_unheld hu rfl ?_
    rw [hr, hs]
    exact discipline_leaves h

end Sys2Proof.Machine
end

section
/-! PROOF. Memory: what a write of a few bytes leaves in every byte its harness can read (R170, R171, R444, R446). -/
namespace Sys2Proof.Machine

theorem lookupKey_filter {α : Type} (p : Nat → Bool) (l : List (Nat × α)) (a : Nat) :
    lookupKey (l.filter (fun q => p q.1)) a = if p a then lookupKey l a else none := by
  induction l with
  | nil => simp [lookupKey]
  | cons q t ih =>
    obtain ⟨k, x⟩ := q
    by_cases hk : k = a
    · subst hk; cases hp : p k <;> simp_all [lookupKey]
    · cases hp : p k <;> simp [lookupKey, hp, hk, ih]

theorem mem_insertNat (l : List Nat) (a b : Nat) : b ∈ insertNat l a ↔ b = a ∨ b ∈ l := by
  induction l with
  | nil => simp [insertNat]
  | cons k t ih =>
    simp only [insertNat]
    split
    · simp
    · split
      · next h => subst h; simp
      · simp only [List.mem_cons, ih]; tauto

/-! ## Valid-bit units (R170) -/

/-- An address is the base of a unit. -/
abbrev IsUnit (u : Nat) : Prop := unitBase u = u
theorem unitBase_isUnit (a : Nat) : IsUnit (unitBase a) := by
  unfold IsUnit unitBase; split <;> split <;> omega
theorem unitBase_eq_iff {u : Nat} (hu : IsUnit u) (b : Nat) : unitBase b = u ↔ u ≤ b ∧ b < u + unitSize u := by
  unfold IsUnit unitBase at hu
  unfold unitBase unitSize
  split at hu <;> split <;> omega
theorem isUnit_mod {u : Nat} (hu : IsUnit u) : u % 8 = 0 := by
  unfold IsUnit unitBase at hu
  split at hu <;> omega
theorem unitSize_mod (a : Nat) : unitSize a % 8 = 0 := by unfold unitSize; split <;> rfl
theorem unitSize_pos (a : Nat) : 0 < unitSize a := by unfold unitSize; split <;> decide
theorem unitBase_word (b : Nat) : unitBase (b / 8 * 8) = unitBase b := by
  unfold unitBase; split <;> split <;> omega

/-- A run of at most 64 bytes touches the unit of its first byte and that of its last. -/
theorem mem_units {a n : Nat} (h0 : 0 < n) (h64 : n ≤ 64) (u : Nat) :
    u ∈ MemSt.units a n ↔ u = unitBase a ∨ u = unitBase (a + n - 1) := by
  have last : unitBase (a + n - 1) = unitBase a ∨ unitBase (a + n - 1) = unitBase a + unitSize a := by
    unfold unitBase unitSize; split <;> split <;> omega
  rw [MemSt.units, if_neg (by omega)]
  rcases last with h | h
  · simp [h]
  · rw [h, Nat.add_sub_cancel_left, Nat.div_self (unitSize_pos a)]
    simp [List.range_succ]
theorem unitBase_mem_units {a n b : Nat} (h64 : n ≤ 64) (ha : a ≤ b) (hb : b < a + n) : unitBase b ∈ MemSt.units a n := by
  rw [mem_units (by omega) h64]
  unfold unitBase; split <;> split <;> split <;> omega
theorem units_isUnit {a n u : Nat} (h64 : n ≤ 64) (h : u ∈ MemSt.units a n) : IsUnit u := by
  rcases Nat.eq_zero_or_pos n with rfl | h0
  · simp [MemSt.units] at h
  · rcases (mem_units h0 h64 u).mp h with rfl | rfl
    · exact unitBase_isUnit _
    · exact unitBase_isUnit _

namespace MemSt
variable {m : MemSt} {h : Nat}

/-! ## What a byte reads as -/

/-- Byte `b`, its word and the stacks in service are the same in both memories. -/
def alike (m m' : MemSt) (b : Nat) : Prop :=
  m'.dead = m.dead ∧ m'.ue.contains (b / 8 * 8) = m.ue.contains (b / 8 * 8) ∧
  lookupKey m'.cells (b / 8 * 8) = lookupKey m.cells (b / 8 * 8) ∧ lookupKey m'.cells b = lookupKey m.cells b
theorem found_of_alike {m' : MemSt} {b : Nat} (k : alike m m' b) : m'.found b = m.found b := by
  obtain ⟨dead, ue, word, -⟩ := k
  rw [found, found, dead, ue, word]
theorem readByte_congr {m' : MemSt} {b : Nat} (hl : m'.live h b = m.live h b) (hf : m'.found b = .clean ↔ m.found b = .clean)
    (hv : lookupKey m'.cells b = lookupKey m.cells b) : m'.readByte h b = m.readByte h b := by
  rw [readByte, readByte, hl, hv]
  cases e : m.found b <;> cases e' : m'.found b <;> simp_all
theorem readByte_of_alike {m' : MemSt} {b : Nat} (k : alike m m' b) (hl : m'.live h b = m.live h b) : m'.readByte h b = m.readByte h b :=
  readByte_congr hl (by rw [found_of_alike k]) k.2.2.2
theorem readByte_of_dead {b : Nat} (hl : m.live h b = false) : m.readByte h b = 0 := by rw [readByte, hl]; rfl
theorem readByte_clean {b : Nat} {v : Byte} (hl : m.live h b = true) (hf : m.found b = .clean) (hv : lookupKey m.cells b = some v) :
    m.readByte h b = v := by
  rw [readByte, hl, hf, hv]; rfl

/-- With every stack in service a word decodes where it has been written and is not uncorrectable. -/
theorem found_eq_clean (hd : m.dead = []) {b : Nat} :
    m.found b = .clean ↔ m.ue.contains (b / 8 * 8) = false ∧ (lookupKey m.cells (b / 8 * 8)).isSome = true := by
  have none : (decide (b < 0x10000000000) && m.dead.contains (stackOf b)) = false := by rw [hd]; simp
  rw [found, none, Bool.or_false]
  cases m.ue.contains (b / 8 * 8)
  · cases (lookupKey m.cells (b / 8 * 8)).isSome <;> simp
  · simp
theorem found_word (hd : m.dead = []) (b : Nat) : m.found (b / 8 * 8) = .clean ↔ m.found b = .clean := by
  rw [found_eq_clean hd, found_eq_clean hd, show b / 8 * 8 / 8 * 8 = b / 8 * 8 by omega]
theorem live_word (b : Nat) : m.live h (b / 8 * 8) = m.live h b := by rw [live, live, unitBase_word]

/-! ## Words stored whole -/

theorem putBytes_dead (bs : List Byte) (a : Nat) (m : MemSt) : (m.putBytes a bs).dead = m.dead := by
  induction bs generalizing m a with
  | nil => rfl
  | cons b t ih => exact ih _ _
theorem lookup_poison (lo hi c : Nat) :
    lookupKey (m.poison lo hi).cells c = if c < lo ∨ hi ≤ c then lookupKey m.cells c else none := by
  have e := lookupKey_filter (fun k => decide (k < lo) || decide (hi ≤ k)) m.cells c
  simp only [Bool.or_eq_true, decide_eq_true_eq] at e
  exact e
theorem contains_ue_poison (lo hi w : Nat) : (m.poison lo hi).ue.contains w = (m.ue.contains w && (decide (w < lo) || decide (hi ≤ w))) := by
  rw [Bool.eq_iff_iff]; simp [poison]

/-- Whole words stored at `a`, whatever they held. -/
def overwrite (m : MemSt) (a : Nat) (bs : List Byte) : MemSt := (m.poison a (a + bs.length)).putBytes a bs
theorem overwrite_dead (a : Nat) (bs : List Byte) : (m.overwrite a bs).dead = m.dead := putBytes_dead _ _ _
theorem overwrite_valid (a : Nat) (bs : List Byte) : (m.overwrite a bs).valid = m.valid := putBytes_valid _ _ _

section
variable {a b : Nat} {bs : List Byte} (ha : a % 8 = 0) (hn : bs.length % 8 = 0)
include ha hn
theorem alike_overwrite (hb : b < a ∨ a + bs.length ≤ b) : alike m (m.overwrite a bs) b := by
  have word : b / 8 * 8 < a ∨ a + bs.length ≤ b / 8 * 8 := by omega
  refine ⟨overwrite_dead _ _, ?ue, ?cellw, ?cellb⟩
  case ue => rw [overwrite, putBytes_ue, contains_ue_poison]; simpa using fun _ => word
  case cellw => rw [overwrite, lookup_putBytes_outside _ _ _ _ word, lookup_poison, if_pos word]
  case cellb => rw [overwrite, lookup_putBytes_outside _ _ _ _ hb, lookup_poison, if_pos hb]
theorem overwrite_clean (hd : m.dead = []) (hb : a ≤ b ∧ b < a + bs.length) :
    (m.overwrite a bs).found b = .clean ∧ lookupKey (m.overwrite a bs).cells b = some (bs.getD (b - a) 0) := by
  have cell : ∀ c, a ≤ c → (hc : c < a + bs.length) → lookupKey (m.overwrite a bs).cells c = some (bs.getD (c - a) 0) := fun c lo hi => by
    obtain ⟨i, rfl⟩ := Nat.exists_eq_add_of_le lo
    rw [overwrite, lookup_putBytes_inside _ _ _ _ (by omega), Nat.add_sub_cancel_left, List.getD_eq_getElem _ _ (by omega)]
  refine ⟨(found_eq_clean ((overwrite_dead _ _).trans hd)).mpr ⟨?_, ?_⟩, cell b hb.1 hb.2⟩
  · rw [overwrite, putBytes_ue, contains_ue_poison, decide_eq_false (by omega), decide_eq_false (by omega)]; simp
  · rw [cell _ (by omega) (by omega)]; rfl
end

/-! ## Units opened (R171) -/

/-- The first step of a write to a tenant's memory: every clear unit of `us` made valid. -/
def opened (m : MemSt) (us : List Nat) : MemSt := us.foldl (fun m u => if m.valid.contains u then m else m.openUnit u) m
theorem write_tenant (hh : h ≠ 0) (a : Nat) (bs : List Byte) :
    m.write h a bs = writeWords (bs.length + 1) (m.opened (units a bs.length)) a bs := by rw [write, if_neg hh]; rfl

/-- A byte a harness can read decodes. -/
abbrev decodes (m : MemSt) (h b : Nat) : Prop := m.live h b = true → m.found b = .clean

theorem live_tenant (hh : h ≠ 0) (b : Nat) : m.live h b = m.valid.contains (unitBase b) := by
  rw [live, beq_false_of_ne hh, Bool.false_or]

/-- A clear unit opened reads as it did, zero, and decodes. -/
theorem openUnit_spec (hh : h ≠ 0) (hd : m.dead = []) {u : Nat} (hu : IsUnit u) (hc : m.valid.contains u = false) (b : Nat) :
    ((m.openUnit u).live h b = true ↔ m.live h b = true ∨ unitBase b = u) ∧ (m.openUnit u).readByte h b = m.readByte h b ∧
    (m.decodes h b → (m.openUnit u).decodes h b) := by
  let z := List.replicate (unitSize u) (0 : Byte)
  have zl : z.length = unitSize u := List.length_replicate
  have store : alike (m.overwrite u z) (m.openUnit u) b := by
    rw [overwrite, zl]; exact ⟨rfl, rfl, rfl, rfl⟩
  have live : (m.openUnit u).live h b = true ↔ m.live h b = true ∨ unitBase b = u := by
    rw [live_tenant hh, live_tenant hh, List.contains_iff_mem, List.contains_iff_mem, openUnit, mem_insertNat, putBytes_valid, poison_valid]
    exact or_comm
  by_cases hb : unitBase b = u
  · have inside : u ≤ b ∧ b < u + z.length := by rw [zl]; exact (unitBase_eq_iff hu b).mp hb
    obtain ⟨clean, zero⟩ := overwrite_clean (isUnit_mod hu) (by rw [zl]; exact unitSize_mod u) hd inside
    rw [← found_of_alike store] at clean
    have clear : m.live h b = false := by rw [live_tenant hh, hb]; exact hc
    refine ⟨live, ?_, fun _ _ => clean⟩
    rw [readByte_of_dead clear, readByte_clean (live.mpr (.inr hb)) clean (store.2.2.2.trans zero)]
    simp [z]
  · have outside : b < u ∨ u + z.length ≤ b := by
      by_contra inside
      exact hb ((unitBase_eq_iff hu b).mpr (by omega))
    have same := alike_overwrite (m := m) (isUnit_mod hu) (by rw [zl]; exact unitSize_mod u) outside
    have both : alike m (m.openUnit u) b :=
      ⟨store.1.trans same.1, store.2.1.trans same.2.1, store.2.2.1.trans same.2.2.1, store.2.2.2.trans same.2.2.2⟩
    have kept : (m.openUnit u).live h b = m.live h b := by rw [Bool.eq_iff_iff, live]; simp [hb]
    exact ⟨live, readByte_of_alike both kept, fun k l => (found_of_alike both).trans (k (kept.symm.trans l))⟩

/-- Units opened leave every byte a harness can read as it was; those of `us` are valid. -/
theorem opened_spec (hh : h ≠ 0) {us : List Nat} (hu : ∀ u ∈ us, IsUnit u) (hd : m.dead = []) (b : Nat) :
    (m.opened us).dead = [] ∧ ((m.opened us).live h b = true ↔ m.live h b = true ∨ unitBase b ∈ us) ∧
    (m.opened us).readByte h b = m.readByte h b ∧ (m.decodes h b → (m.opened us).decodes h b) := by
  induction us generalizing m with
  | nil => exact ⟨hd, by simp [opened], rfl, fun k => k⟩
  | cons u us ih =>
    have rest := fun v hv => hu v (List.mem_cons_of_mem u hv)
    cases hc : m.valid.contains u with
    | true =>
      obtain ⟨dead, live, read, decode⟩ := ih rest hd
      have valid : unitBase b = u → m.live h b = true := fun e => by rw [live_tenant hh, e]; exact hc
      have skip : m.opened (u :: us) = m.opened us := by rw [opened, List.foldl_cons, hc]; rfl
      rw [skip]
      refine ⟨dead, live.trans ?_, read, decode⟩
      rw [List.mem_cons]
      exact ⟨fun k => k.imp_right .inr, fun k => k.elim .inl (fun k => k.elim (fun e => .inl (valid e)) .inr)⟩
    | false =>
      obtain ⟨live₁, read₁, decode₁⟩ := openUnit_spec hh hd (hu u List.mem_cons_self) hc b
      obtain ⟨dead, live, read, decode⟩ := ih (m := m.openUnit u) rest ((putBytes_dead _ _ _).trans hd)
      have step : m.opened (u :: us) = (m.openUnit u).opened us := by rw [opened, List.foldl_cons, hc]; rfl
      rw [step]
      refine ⟨dead, ?_, read.trans read₁, fun k => decode (decode₁ k)⟩
      rw [live, live₁, List.mem_cons, or_assoc]

/-! ## Words written where each decodes (R446) -/

/-- `m'` is `m` with `bs` stored at `a`, as harness `h` reads them: what decoded still does. -/
def stored (h : Nat) (m m' : MemSt) (a : Nat) (bs : List Byte) : Prop :=
  m'.dead = m.dead ∧ m'.valid = m.valid ∧ (∀ b, m.found b = .clean → m'.found b = .clean) ∧
  (∀ b, a ≤ b → b < a + bs.length → lookupKey m'.cells b = some (bs.getD (b - a) 0)) ∧
  (∀ b, b < a ∨ a + bs.length ≤ b → m'.readByte h b = m.readByte h b)

theorem stored_overwrite (hd : m.dead = []) {a : Nat} {bs : List Byte} (ha : a % 8 = 0) (hn : bs.length % 8 = 0) :
    stored h m (m.overwrite a bs) a bs := by
  refine ⟨overwrite_dead _ _, overwrite_valid _ _, fun b k => ?_, fun b lo hi => (overwrite_clean ha hn hd ⟨lo, hi⟩).2, fun b k => ?_⟩
  · by_cases inside : a ≤ b ∧ b < a + bs.length
    · exact (overwrite_clean ha hn hd inside).1
    · exact (found_of_alike (alike_overwrite ha hn (by omega))).trans k
  · exact readByte_of_alike (alike_overwrite ha hn k) (by rw [live, live, overwrite_valid])

theorem stored_putBytes (hd : m.dead = []) {a : Nat} {bs : List Byte} (hw : a % 8 + bs.length ≤ 8) (hc : m.found a = .clean) :
    stored h m (m.putBytes a bs) a bs := by
  have inside : ∀ b, a ≤ b → b < a + bs.length → lookupKey (m.putBytes a bs).cells b = some (bs.getD (b - a) 0) := fun b lo hi => by
    obtain ⟨i, rfl⟩ := Nat.exists_eq_add_of_le lo
    rw [lookup_putBytes_inside _ _ _ _ (by omega), Nat.add_sub_cancel_left, List.getD_eq_getElem _ _ (by omega)]
  have found : ∀ b, (m.putBytes a bs).found b = .clean ↔ m.found b = .clean := fun b => by
    rw [found_eq_clean ((putBytes_dead bs a m).trans hd), found_eq_clean hd, putBytes_ue]
    by_cases k : a ≤ b / 8 * 8 ∧ b / 8 * 8 < a + bs.length
    · have word : (lookupKey m.cells (b / 8 * 8)).isSome = true := by
        have := ((found_eq_clean hd).mp hc).2
        rwa [show a / 8 * 8 = b / 8 * 8 by omega] at this
      rw [inside _ k.1 k.2, word]; simp
    · rw [lookup_putBytes_outside _ _ _ _ (by omega)]
  exact ⟨putBytes_dead _ _ _, putBytes_valid _ _ _, fun b k => (found b).mpr k, inside,
    fun b k => readByte_congr (by rw [live, live, putBytes_valid]) (found b) (lookup_putBytes_outside _ _ _ _ k)⟩

/-- Bytes stored within one word that decodes. -/
theorem stored_writeWord (hd : m.dead = []) {a : Nat} {bs : List Byte} (hw : a % 8 + bs.length ≤ 8) (hc : m.found a = .clean) :
    stored h m (m.writeWord a bs) a bs := by
  by_cases full : bs.length = 8
  · have whole : m.writeWord a bs = m.overwrite a bs := by
      rw [writeWord, if_pos full, overwrite, full, show a / 8 * 8 = a by omega]
    rw [whole]; exact stored_overwrite hd (by omega) (by omega)
  · have part : m.writeWord a bs = m.putBytes a bs := by rw [writeWord, if_neg full, hc]
    rw [part]; exact stored_putBytes hd hw hc

/-- Bytes stored word by word where every word touched is valid and decodes. -/
theorem readByte_writeWords (fuel : Nat) {a : Nat} {bs : List Byte} (hd : m.dead = []) (hk : bs.length ≤ fuel)
    (hu : ∀ b, a ≤ b → b < a + bs.length → m.live h b = true ∧ m.found b = .clean) (b : Nat) :
    (writeWords fuel m a bs).readByte h b = if a ≤ b ∧ b < a + bs.length then bs.getD (b - a) 0 else m.readByte h b := by
  induction fuel generalizing m a bs with
  | zero => rw [if_neg (by omega)]; rfl
  | succ fuel ih =>
    by_cases hn : bs = []
    · subst hn; rw [if_neg (by simp only [List.length_nil]; omega)]; rfl
    · have pos := List.length_pos_iff.mpr hn
      have step : writeWords (fuel + 1) m a bs =
          writeWords fuel (m.writeWord a (bs.take (8 - a % 8))) (a + (8 - a % 8)) (bs.drop (8 - a % 8)) := by
        rw [writeWords, if_neg (by simpa using hn)]
      have hl : (bs.take (8 - a % 8)).length = min (8 - a % 8) bs.length := List.length_take
      have hr : (bs.drop (8 - a % 8)).length = bs.length - (8 - a % 8) := List.length_drop
      obtain ⟨dead, valid, clean, inside, outside⟩ := stored_writeWord (h := h) (bs := bs.take (8 - a % 8)) hd (by omega)
        (hu a (Nat.le_refl a) (by omega)).2
      have kept : ∀ c, (m.writeWord a (bs.take (8 - a % 8))).live h c = m.live h c := fun c => by rw [live, live, valid]
      rw [step, ih (dead.trans hd) (by omega) (fun c lo hi => ?_), hr]
      · by_cases far : a + (8 - a % 8) ≤ b ∧ b < a + bs.length
        · rw [if_pos (by omega), if_pos (by omega), List.getD_eq_getElem?_getD, List.getElem?_drop, ← List.getD_eq_getElem?_getD]
          congr 1; omega
        · rw [if_neg (by omega)]
          by_cases near : a ≤ b ∧ b < a + bs.length
          · obtain ⟨live, found⟩ := hu b near.1 near.2
            rw [if_pos near, readByte_clean ((kept b).trans live) (clean b found) (inside b near.1 (by omega)),
              List.getD_eq_getElem?_getD, List.getElem?_take_of_lt (by omega), ← List.getD_eq_getElem?_getD]
          · rw [if_neg near, outside b (by omega)]
      · rw [hr] at hi
        obtain ⟨live, found⟩ := hu c (by omega) (by omega)
        exact ⟨(kept c).trans live, clean c found⟩

/-- A range none of whose words is bad decodes, every byte of it. -/
theorem decodes_of_badWords (hd : m.dead = []) {a n : Nat} (hb : m.badWords h a n = []) {b : Nat} (lo : a ≤ b) (hi : b < a + n) :
    m.decodes h b := by
  intro live
  have word : b / 8 * 8 ∈ words a n := by
    rw [words, if_neg (by omega), List.mem_map]
    exact ⟨b / 8 - a / 8, List.mem_range.mpr (by omega), by omega⟩
  have none := List.filterMap_eq_nil_iff.mp hb _ word
  rw [live_word, if_pos live] at none
  rw [← found_word hd]
  cases e : m.found (b / 8 * 8) with
  | clean => rfl
  | unwritten => rw [e] at none; cases none
  | ue => rw [e] at none; cases none

/-- A write of at most 64 bytes of a tenant's memory, all of whose words decode: the bytes read as written, every other as before. -/
theorem readByte_write (hh : h ≠ 0) (hd : m.dead = []) {a : Nat} {bs : List Byte} (h64 : bs.length ≤ 64)
    (hb : m.badWords h a bs.length = []) (b : Nat) :
    (m.write h a bs).readByte h b = if a ≤ b ∧ b < a + bs.length then bs.getD (b - a) 0 else m.readByte h b := by
  have spec := opened_spec (us := units a bs.length) hh (fun u hu => units_isUnit h64 hu) hd
  rw [write_tenant hh, readByte_writeWords _ (spec b).1 (Nat.le_succ _) (fun c lo hi => ?_), (spec b).2.2.1]
  obtain ⟨-, live, -, decode⟩ := spec c
  have valid := live.mpr (.inr (unitBase_mem_units h64 lo hi))
  exact ⟨valid, decode (decodes_of_badWords hd hb lo hi) valid⟩

end MemSt
end Sys2Proof.Machine
end

section
/-! PROOF. The memory fabric's own frames: how a request reaches its check point and an answer its source (R72, R92, R127, R132, R154). -/
namespace Sys2Proof

/-! ## Frames the device makes -/

section
variable (x : FrameSpec)

theorem b2n_le (b : Bool) : b2n b ≤ 1 := by cases b <;> decide
theorem FrameSpec.kind_make : x.make.kind = x.kind % 8 := by
  have := b2n_le x.first; have := b2n_le x.last; have := b2n_le x.anchor
  show Word.field (Word.ofN _) 7 3 = _
  rw [Word.field_ofN _ _ _ (by decide)]; omega
theorem FrameSpec.dst_make : x.make.dst = x.dst % 2 ^ 18 := by
  have := b2n_le x.first; have := b2n_le x.last; have := b2n_le x.anchor
  show Word.field (Word.ofN _) 10 18 = _
  rw [Word.field_ofN _ _ _ (by decide)]; omega
theorem FrameSpec.mcast_make : x.make.mcast = false := by
  have := b2n_le x.first; have := b2n_le x.last; have := b2n_le x.anchor
  refine beq_false_of_ne ?_
  show Word.field (Word.ofN _) 60 1 ≠ _
  rw [Word.field_ofN _ _ _ (by decide)]; omega
theorem FrameSpec.trav_make : x.make.trav = false := by
  have := b2n_le x.first; have := b2n_le x.last; have := b2n_le x.anchor
  refine beq_false_of_ne ?_
  show Word.field (Word.ofN _) 62 1 ≠ _
  rw [Word.field_ofN _ _ _ (by decide)]; omega
theorem FrameSpec.op_make : x.make.op = x.op % 256 := by
  show Word.field (Word.ofN _) 0 8 = _
  rw [Word.field_ofN _ _ _ (by decide)]; omega
theorem Frame.src_lt (f : Frame) : f.src < 2 ^ 18 := Nat.mod_lt _ (by decide)
end

namespace Machine.State
variable {s t u : State}

theorem frame_withFwd (v : FwdSt) {ch : List Part} {rg : Nat → Prop} (h : Part.fwd ∈ ch) : frame s (s.withFwd v) ch rg :=
  ⟨fun p hp => by cases p <;> first | rfl | exact absurd h hp, fun _ _ => rfl, rfl⟩
theorem frame_withMfb (v : MfbSt) {ch : List Part} {rg : Nat → Prop} (h : Part.mfb ∈ ch) : frame s (s.withMfb v) ch rg :=
  ⟨fun p hp => by cases p <;> first | rfl | exact absurd h hp, fun _ _ => rfl, rfl⟩

/-! ## What a lookup rests on -/

/-- In both states FEIDs are looked up alike, no unit differs in being in service, and it is the same plane time. -/
def sameView (s t : State) : Prop :=
  t.fwd.feid = s.fwd.feid ∧ t.fwd.tblBad = s.fwd.tblBad ∧ t.fault = s.fault ∧ t.reg HUB_PLANE.a = s.reg HUB_PLANE.a ∧ t.now = s.now
theorem sameView_trans (h : sameView s t) (k : sameView t u) : sameView s u := by
  obtain ⟨h1, h2, h3, h4, h5⟩ := h
  obtain ⟨k1, k2, k3, k4, k5⟩ := k
  exact ⟨k1.trans h1, k2.trans h2, k3.trans h3, k4.trans h4, k5.trans h5⟩
/-- The crux dies' registers are none of those it rests on. -/
theorem sameView_of_frame {ch : List Part} {rg : Nat → Prop} (h : frame s t ch rg) (hw : Part.fwd ∉ ch) (hf : Part.fault ∉ ch)
    (hr : ∀ a, rg a → 0x1000000 ≤ a) : sameView s t := by
  have fwd : t.fwd = s.fwd := h.1 .fwd hw
  exact ⟨by rw [fwd], by rw [fwd], h.1 .fault hf, h.2.1 _ (fun k => absurd (hr _ k) (by decide)),
    rf_of_frame h (x := TIM_NOW.V) (fun k => absurd (hr _ k) (by decide))⟩
theorem cruxReg_le {n o : Nat} : 0x1000000 ≤ cruxBase n + o := by unfold cruxBase; omega
theorem sameView_inc {x : Rf} (h : 0x1000000 ≤ x.a) : sameView s (s.inc x) :=
  sameView_of_frame (frame_inc (ch := [.sticky]) (rg := fun a => a = x.a) x rfl (by decide)) (by decide) (by decide) (fun _ e => e ▸ h)
theorem sameView_withMfb (v : MfbSt) : sameView s (s.withMfb v) := ⟨rfl, rfl, rfl, rfl, rfl⟩
theorem sameView_unland (x : Steered) : sameView s (s.unland x) := ⟨rfl, rfl, rfl, rfl, rfl⟩

theorem feidEntry_of_sameView (h : sameView s t) (n f : Nat) : t.feidEntry n f = s.feidEntry n f ∧ t.devIndex = s.devIndex := by
  obtain ⟨feid, bad, -, plane, -⟩ := h
  have rf_plane : ∀ x : Rf, x.a = HUB_PLANE.a → t.rf x = s.rf x := fun x e => by rw [rf, rf, e, plane]
  have size : t.planeSize = s.planeSize := by
    simp only [planeSize, shapeA, shapeB, shapeC, rf_plane HUB_PLANE.A rfl, rf_plane HUB_PLANE.B rfl, rf_plane HUB_PLANE.C rfl]
  refine ⟨?_, rf_plane HUB_PLANE.INDEX rfl⟩
  rw [feidEntry, feidEntry, feidRaw, feidRaw, tblGood, tblGood, feid, bad, size]
theorem homePort_of_sameView (h : sameView s t) {n f P : Nat} (k : s.homePort n f P) : t.homePort n f P := by
  obtain ⟨entry, me⟩ := feidEntry_of_sameView h n f
  rw [homePort, entry, me]; exact k
theorem homeDevice_of_sameView (h : sameView s t) {n f : Nat} (k : s.homeDevice n f) : t.homeDevice n f := by
  obtain ⟨entry, me⟩ := feidEntry_of_sameView h n f
  rw [homeDevice, entry, me]; exact k
theorem feidEntry_lt {n f : Nat} {e : Word} (h : s.feidEntry n f = some e) : f < 0x3FFC0 := by
  by_contra k
  simp [feidEntry, k] at h

/-! ## Path choice inside the memory fabric (R92, R132) -/

/-- A frame of KIND MEM that takes no detour and whose target is here: at the device itself, or at an endpoint of this plane. -/
theorem decide1_mem (o : Origin) {n : Nat} {f : Frame} {e : Word} (hk : f.kind = 1) (ht : f.trav = false) (he : s.feidEntry n f.dst = some e)
    (hd : e.field 3 6 = s.devIndex) (hp : e.field 2 1 = 0 ∨ e.field 1 1 = 1) :
    s.decide1 n o f =
      let m := if e.field 1 1 = 1 then n else dieOf (e.field 9 10)
      .go f (if isMemResp f then .memReply m else .memCheck m) false := by
  unfold decide1
  extract_lets h me fromEp _ mv i f1 m
  have still : f1 = f := by simp [f1, ht]
  rw [if_neg (Nat.not_le.mpr (feidEntry_lt he)), hk, he]
  by_cases device : e.field 1 1 = 1
  · simp [still, ht, hk, hd, device, m, me]
  · simp [still, ht, hk, hd, device, m, me, hp.resolve_right device]
theorem decide1_reply {n P : Nat} {f : Frame} (hk : f.kind = 1) (ht : f.trav = false) (hr : isMemResp f = true) (hh : s.homePort n f.dst P) :
    s.decide1 n .inside f = .go f (.memReply (dieOf P)) false := by
  obtain ⟨e, entry, endpoint, here, dev, port⟩ := hh
  simp [decide1_mem .inside hk ht entry dev (.inl here), endpoint, hr, port]
theorem decide1_request {n P : Nat} {f : Frame} (hq : isMemReq f = true) (ht : f.trav = false) (hh : s.homeDevice n f.dst) :
    s.decide1 n (.endpoint P) f = .go f (.memCheck n) false := by
  obtain ⟨e, entry, device, dev⟩ := hh
  simp only [isMemReq, Bool.and_eq_true, beq_iff_eq, Bool.not_eq_true'] at hq
  simp [decide1_mem _ hq.1 ht entry dev (.inr device), device, hq.2]

/-- A frame with one place to go, inside the device and with room, goes there. -/
theorem admitTo_place (answer : Frame → State → State) {n : Nat} {f : Frame} {ingress : Option Nat} {bw cut : Bool} {p : Place}
    (hp : ∀ P, p ≠ .port P) (hc : s.canPlace p f bw = true) (hb : s.blocked ingress f.cls = false) :
    s.admitTo answer n f ingress bw cut [p] = s.placeFrame n p f ingress cut := by
  have offer : s.offerPlace answer n p f ingress bw cut = (s.placeFrame n p f ingress cut, false) := by
    cases p with
    | port P => exact absurd rfl (hp P)
    | _ => simp only [offerPlace, hc, if_true]
  simp [admitTo, hb, offerAll, offer]

/-- The state with a frame landed at a place. -/
def landAt (s : State) (p : Place) (f : Frame) (ingress : Option Nat) : State :=
  s.withFwd { s.fwd with inbox := s.fwd.inbox ++ [⟨p, f, ingress⟩] }

/-- An answer that the fabric of crux die `n` gives goes to the crux die of its source (R154). -/
theorem forwardF_reply {k n P : Nat} {f : Frame} (hm : f.mcast = false) (hk : f.kind = 1) (ht : f.trav = false) (hr : isMemResp f = true)
    (hh : s.homePort n f.dst P) (ho : s.fault.outUnits = []) :
    forwardF (k + 1) n .inside true f s = (s.inc (FWD_CNT_FRAMES.V n)).landAt (.memReply (dieOf P)) f none := by
  have view := sameView_inc (s := s) (x := FWD_CNT_FRAMES.V n) (Nat.le_trans cruxReg_le (Nat.le_add_right _ _))
  have path := decide1_reply hk ht hr (homePort_of_sameView view hh)
  have free : (s.inc (FWD_CNT_FRAMES.V n)).placeDead (.memReply (dieOf P)) = false := by
    rw [placeDead, view.2.2.1, ho]; rfl
  simp only [forwardF, hm, path, Bool.false_eq_true, if_false]
  rw [admitTo_place _ (by simp) rfl (by simp [blocked, Origin.port]), placeFrame, free]; rfl

/-- A request from an endpoint port to this device goes to its check point on the source's crux die (R132). -/
theorem forwardF_request {k n P : Nat} {f : Frame} (hm : f.mcast = false) (hq : isMemReq f = true) (ht : f.trav = false)
    (hh : s.homeDevice n f.dst) (ho : s.fault.outUnits = []) (hd : s.fwd.holds = []) :
    forwardF (k + 1) n (.endpoint P) true f s =
      ((s.inc (FWD_CNT_FRAMES.V n)).inc (FWD_CNT_STEERED.V n)).landAt (.memCheck n) f (some P) := by
  have view := sameView_inc (s := s) (x := FWD_CNT_FRAMES.V n) (Nat.le_trans cruxReg_le (Nat.le_add_right _ _))
  have path := decide1_request (P := P) hq ht (homeDevice_of_sameView view hh)
  have free : (s.inc (FWD_CNT_FRAMES.V n)).placeDead (.memCheck n) = false := by
    rw [placeDead, view.2.2.1, ho]; rfl
  simp only [forwardF, hm, path, Bool.false_eq_true, if_false]
  rw [admitTo_place _ (by simp) rfl (by simp [blocked, hd]), placeFrame, free]
  simp only [landAt, inc_fwd]; rfl
end Machine.State
end Sys2Proof
end

section
/-! PROOF. The pending table (R139, R142, R151, R152, R154), and the obligation on it. -/
namespace Sys2Proof.Machine.State
variable {s : State}

/-! ## A request at its source crux die (R139, R151) -/

/-- The pending entry of a request taken; `wait`: it stands in its anchor queue. -/
def pended (s : State) (n source no : Nat) (f : Frame) (wait : Bool) : State :=
  s.withMfb { s.mfb with pends := s.mfb.pends ++ [⟨no, n, source, f, wait, s.now⟩],
                         gone := s.mfb.gone.filter (fun g => !(g.1 == f.src && g.2.1 == f.tag)) }
theorem take_waits {n source no : Nat} {f : Frame} (o : Origin) (ha : f.anchor = true) (he : s.earlierWrite source no = true) :
    s.take n source no f o = (s.pended n source no f true).inc (MFB_CNT_ANCHOR_WAIT.V n) := by
  simp only [take, ha, he, Bool.and_self, if_true]; rfl
theorem take_goes {n source no : Nat} {f : Frame} (o : Origin) (ha : f.anchor = false) :
    s.take n source no f o = forwardF 3 n o true f (s.pended n source no f false) := by
  simp only [take, ha, Bool.false_and, Bool.false_eq_true, if_false]; rfl

/-- The landed request of `x` taken, and numbered. -/
def numbered (s : State) (x : Steered) : State := (s.unland x).withMfb { s.mfb with next := s.mfb.next + 1 }

section
variable {n P : Nat} {f : Frame} {x : Steered} (hl : s.landed (.memAccept n) f = some x) (hq : isMemReq f = true) (hi : x.ingress = some P)
include hl hq hi
theorem doAccept_live (ha : s.mfb.pends.any (fun p => p.source == P && p.frame.tag == f.tag) = true) :
    s.doAccept n f = (s.unland x).inc (MFB_CNT_TAG_LIVE.V n) := by
  simp only [doAccept, hl, hq, hi, ha, Bool.not_true, Bool.false_eq_true, if_false, if_true]
theorem doAccept_room (ha : s.mfb.pends.any (fun p => p.source == P && p.frame.tag == f.tag) = false) (hr : s.memRoom f.src f.anchor 0 = true) :
    s.doAccept n f = (s.numbered x).take n P s.mfb.next f (.endpoint P) := by
  simp only [doAccept, hl, hq, hi, ha, hr, Bool.not_true, Bool.false_eq_true, if_false, if_true]; rfl
end

/-- Request number `no` has left its anchor queue. -/
def released (s : State) (no : Nat) : State :=
  s.withMfb { s.mfb with pends := s.mfb.pends.map (fun q => if q.no = no then { q with queued := false } else q) }
/-- An anchored request that nothing earlier holds back goes on to its check point (R139). -/
theorem doAnchorRelease_goes {source : Nat} {p : Pend} (hs : source < 1152)
    (hp : s.mfb.pends.find? (fun q => q.source == source && q.queued) = some p) (he : s.earlierWrite source p.no = false) :
    s.doAnchorRelease source = forwardF 3 p.die (.endpoint source) true p.frame (s.released p.no) := by
  simp only [doAnchorRelease, hp, he, hs, if_true, Bool.false_eq_true, if_false]; rfl

/-! ## An entry retires (R139 to R142, R152, R154) -/

/-- The pending table without entry `no`. -/
def unpended (s : State) (no : Nat) : State := s.withMfb { s.mfb with pends := s.mfb.pends.filter (fun q => q.no != no) }
theorem coreNext_none (h : s.mfb.coreWait = []) (source : Nat) : s.coreNext source = s := by rw [coreNext, h]; rfl
/-- A LOAD's entry, or one answered OK, retires alone; no request of its core waits. -/
theorem retire_alone {p : Pend} {st : Nat} (hs : p.frame.op = 1 ∨ st = stOK) (hw : 1152 ≤ p.source → s.mfb.coreWait = []) :
    s.retire p st = s.unpended p.no := by
  have anchors : (p.frame.op != 1 && st != stOK && st != stDUPLICATE) = false := by rcases hs with h | h <;> simp [h]
  simp only [retire, anchors, Bool.false_eq_true, if_false]
  split
  · next core => exact coreNext_none (s := s.unpended p.no) (hw core) _
  · rfl
theorem pumpOvf_none (h : s.gate.ovf = []) : s.pumpOvf = s := by rw [pumpOvf, h]; rfl

/-- The response answers the pending entry (R154). -/
abbrev answers (f : Frame) (q : Pend) : Bool := !q.queued && q.frame.src == f.dst && q.frame.tag == f.tag && q.frame.dst == f.src
/-- The pending entry that a response matches. -/
abbrev awaits (s : State) (f : Frame) : Option Pend := s.mfb.pends.find? (answers f)

section
variable {n : Nat} {f : Frame} {p : Pend} (hb : f.bad = false)
include hb
theorem response_core {k : Nat} (hp : s.awaits f = some p) (hk : p.source = 1152 + k) (hs : p.frame.op = 1 ∨ f.tstatus = stOK)
    (hw : s.mfb.coreWait = []) : s.response n f = (s.unpended p.no).coreAnswer k p.no f.tstatus f.payload := by
  have core : 1152 ≤ p.source := by omega
  simp only [response, hb, hp, retire_alone hs (fun _ => hw), core, Bool.false_eq_true, if_false, if_true]
  rw [hk, Nat.add_sub_cancel_left]
theorem response_quiet (hp : s.awaits f = some p) (hk : p.source < 1152) (ho : p.frame.op = 3) (ha : f.op = 0x82) (hs : f.tstatus = stOK) :
    s.response n f = s.unpended p.no := by
  have port : ¬ 1152 ≤ p.source := Nat.not_le.mpr hk
  have ack : (p.frame.op = 3 && f.op = 0x82 && f.tstatus = stOK) = true := by simp [ho, ha, hs]
  simp only [response, hb, hp, retire_alone (.inr hs) (fun c => absurd c port), port, ack, Bool.false_eq_true, if_false, if_true]
theorem response_stray (hp : s.mfb.pends = []) (hg : s.mfb.gone = []) : s.response n f = s.inc (MFB_CNT_STRAY_RSP.V n) := by
  simp [response, hb, hp, hg]
end

/-- A response that has landed at the crux die of its source, where no overflow read waits. -/
theorem doResponse_landed {n : Nat} {f : Frame} {x : Steered} (hl : s.landed (.memReply n) f = some x)
    (hg : ((s.unland x).response n f).gate.ovf = []) : s.doResponse n f = (s.unland x).response n f := by
  simp only [doResponse, hl, pumpOvf_none hg]

/-- An answer to a pending entry is none to a group of combined atomics (R148). -/
theorem doAtomicRsp_pending {n : Nat} {f : Frame} {p : Pend} (hp : s.awaits f = some p) (hl : s.landed (.memAccept n) f = none) :
    s.doAtomicRsp n f = s.doResponse n f := by
  have live : s.mfb.pends.any (answers f) = true :=
    List.any_eq_true.mpr ⟨p, List.mem_of_find?_eq_some hp, List.find?_some (p := answers f) hp⟩
  have none : s.mfb.groups.find? (fun g => s.answersGroup g f && s.fwd.inbox.any (fun x => x.frame == f && groupPlace g x)) = none := by
    simp [answersGroup, live]
  simp only [doAtomicRsp, none, hl]

/-! ## An entry reaches its bound (R152) -/

/-- The timeout of an entry counted and reported. -/
def timedOut (s : State) (p : Pend) : State :=
  (s.inc (MFB_CNT_TIMEOUT.V p.die)).reqReport 0x06 1 stTIMEOUT (unitCrux p.die) p.frame
theorem timedOut_spec (p : Pend) :
    (s.timedOut p).reg (MFB_CNT_TIMEOUT.V p.die).a = Word.ofN ((s.reg (MFB_CNT_TIMEOUT.V p.die).a).toNat + 1) ∧
    (s.timedOut p).mfb = s.mfb ∧ (s.timedOut p).gate = s.gate := by
  obtain ⟨count, inc⟩ := inc_counts (s := s) (MFB_CNT_TIMEOUT.V p.die)
  have report : recorded (s.inc (MFB_CNT_TIMEOUT.V p.die)) (s.timedOut p) := recorded_report _ (show (6 : Nat) < 256 by decide)
  refine ⟨(report.2.1 _ ?_).trans count, (report.1 .mfb (by decide)).trans (inc.1 .mfb (by decide)),
    (report.1 .gate (by decide)).trans (inc.1 .gate (by decide))⟩
  simp only [recordReg, MFB_CNT_TIMEOUT.V, MFB_CNT_TIMEOUT.a, cruxBase]; omega

/-- What a core is told of its LOAD that timed out (R130, R152). -/
theorem selfAnswer_load {p : Pend} {k : Nat} (hk : p.source = 1152 + k) (ho : p.frame.op = 1) :
    s.selfAnswer p stTIMEOUT = s.coreAnswer k p.no stTIMEOUT (allOnes (min (p.frame.chunk % 8192) 4096)) := by
  have data : (s.memAnswer p.frame stTIMEOUT).payload = allOnes (min (p.frame.chunk % 8192) 4096) := by
    show (if p.frame.op == 1 then _ else _) = _
    rw [ho]; rfl
  rw [selfAnswer, if_pos (by omega), data, hk, Nat.add_sub_cancel_left]

/-- Core `k` has been told that its LOAD timed out; the entry has retired and is remembered, for a response that comes late. -/
def gaveUp (s : State) (p : Pend) (k : Nat) : State :=
  s.withMfb { s.mfb with
    pends := s.mfb.pends.filter (fun q => q.no != p.no), gone := s.mfb.gone ++ [(p.frame.src, p.frame.tag, p.frame.dst)],
    coreRsp := s.mfb.coreRsp ++ [⟨k, p.no, stTIMEOUT, allOnes (min (p.frame.chunk % 8192) 4096)⟩] }
theorem doTimeout_load {source tag k : Nat} {p : Pend} (hp : s.mfb.pends.find? (fun q => q.source == source && q.frame.tag == tag) = some p)
    (hk : p.source = 1152 + k) (ho : p.frame.op = 1) (hq : p.queued = false) (hw : s.mfb.coreWait = []) :
    s.doTimeout source tag = (s.timedOut p).gaveUp p k := by
  have idle : (s.timedOut p).mfb.coreWait = [] := by rw [(timedOut_spec p).2.1]; exact hw
  simp only [doTimeout, hp, hq]
  rw [← timedOut, selfAnswer_load hk ho]
  generalize s.timedOut p = u at idle ⊢
  exact retire_alone (.inl ho) (fun _ => idle)

end Sys2Proof.Machine.State

namespace Sys2Proof.Machine
open State

/-- Settles O22: a request is discarded, waits, or goes on to its check point; an entry retires alone in each of the four cases. -/
theorem pendingRequests : Obligations.PendingRequests := by
  unfold Obligations.PendingRequests
  refine ⟨⟨fun s n f x P hu hq hl hi => ⟨fun ha => ?live, fun ha hr hf he => ?waits, fun ha hr hf hm ht hh ho hd => ?goes⟩,
    fun s source p hu hs hp he hq hm ht hh ho hd => ?released⟩,
    fun s hu hg => ⟨fun n f c x p k hc hk hl hb hw hp hf => ?answered, fun n f x p hk ho hs hb hl hp hop hf => ?quiet,
      fun n f x hk ho hb hl hp hn => ?stray, fun source tag p k hk hs hp hf ho hq hw hd => ?timeout⟩⟩
  case live =>
    refine runs_unheld hu rfl ?_
    rw [doAccept_live hl hq hi ha]
    exact ⟨inc_mfb .., congrArg FwdSt.inbox (inc_fwd ..), (inc_counts _).1⟩
  case waits =>
    refine runs_unheld hu rfl ?_
    rw [doAccept_room hl hq hi ha hr, take_waits (s := s.numbered x) _ hf he, inc_mfb, inc_fwd]
    exact ⟨rfl, rfl, rfl, (inc_counts _).1⟩
  case goes =>
    refine runs_unheld hu rfl ?_
    rw [doAccept_room hl hq hi ha hr, take_goes _ hf,
      forwardF_request (s := (s.numbered x).pended n P s.mfb.next f false) hm hq ht hh ho hd]
    simp only [landAt, withFwd_mfb, inc_mfb, inc_fwd]
    exact ⟨rfl, rfl, rfl⟩
  case released =>
    refine runs_unheld hu rfl ?_
    rw [doAnchorRelease_goes hs hp he, forwardF_request (s := s.released p.no) hm hq ht hh ho hd]
    simp only [landAt, withFwd_mfb, inc_mfb, inc_fwd]
    exact ⟨rfl, rfl⟩
  case answered =>
    have ended : p.frame.op = 1 ∨ f.tstatus = stOK := by
      rcases hc with ⟨-, -, h⟩ | ⟨-, -, -, h⟩ | ⟨-, -, -, h, -⟩
      · exact .inl h
      · exact .inr h
      · exact .inr h
    have eff := response_core (s := s.unland x) (n := n) hb hf hp ended hw
    have done := doResponse_landed hl (by rw [eff]; exact hg)
    have run : exec c s = unheld s (s.doResponse n f) := by
      rcases hc with ⟨rfl, h, -⟩ | ⟨rfl, h, -⟩ | ⟨rfl, h, -, -, hn⟩
      · exact if_pos ⟨hk, h⟩
      · exact if_pos ⟨hk, h⟩
      · rw [← doAtomicRsp_pending hf hn]; exact if_pos ⟨hk, h⟩
    refine runs_unheld hu run ?_
    rw [done, eff]
    exact ⟨rfl, rfl, rfl, frame_trans (frame_withFwd _ (by decide)) (frame_trans (frame_withMfb _ (by decide)) (frame_withMfb _ (by decide)))⟩
  case quiet =>
    have eff := response_quiet (s := s.unland x) (n := n) hb hf hp hop ho hs
    refine runs_unheld hu (if_pos ⟨hk, ho⟩) ?_
    rw [doResponse_landed hl (by rw [eff]; exact hg), eff]
    exact ⟨rfl, rfl, frame_trans (frame_withFwd _ (by decide)) (frame_withMfb _ (by decide))⟩
  case stray =>
    have eff := response_stray (s := s.unland x) (n := n) (f := f) hb hp hn
    refine runs_unheld hu (if_pos ⟨hk, ho⟩) ?_
    rw [doResponse_landed hl (by rw [eff, inc_gate]; exact hg), eff]
    exact ⟨(inc_counts _).1, inc_mfb ..⟩
  case timeout =>
    obtain ⟨count, mfb, gate⟩ := timedOut_spec (s := s) p
    refine runs_unheld hu rfl ?_
    rw [doTimeout_load hf (hp.trans hs) ho hq hw]
    generalize s.timedOut p = u at count mfb gate ⊢
    rw [pumpOvf_none (s := u.gaveUp p k) ((congrArg GateSt.ovf gate).trans hg), ← mfb]
    exact ⟨rfl, rfl, rfl, count⟩

end Sys2Proof.Machine
end

section
/-! PROOF. Atomics at device memory, alone and combined (R143 to R150), and the obligation on them. -/
namespace Sys2Proof.Machine

theorem length_bytesLE (k n : Nat) : (bytesLE k n).length = k := by
  induction k generalizing n with
  | zero => rfl
  | succ k ih => rw [bytesLE, List.length_cons, ih]
theorem getD_bytesLE (n : Nat) {k l i : Nat} (hk : i < k) (hl : i < l) : (bytesLE k n).getD i 0 = (bytesLE l n).getD i 0 := by
  induction i generalizing n k l with
  | zero =>
    obtain ⟨k, rfl⟩ := Nat.exists_eq_add_of_lt hk
    obtain ⟨l, rfl⟩ := Nat.exists_eq_add_of_lt hl
    simp [bytesLE]
  | succ i ih =>
    cases k with
    | zero => omega
    | succ k =>
      cases l with
      | zero => omega
      | succ l => simpa [bytesLE] using ih (n / 256) (by omega) (by omega)
theorem atWidth_bytes (op : Nat) : atWidth op / 8 = 4 ∨ atWidth op / 8 = 8 := by
  unfold atWidth; split
  · exact .inr rfl
  · exact .inl rfl

namespace State
variable {s t u : State}

/-! ## A request that passes its checks (R47, R134) -/

theorem hRuns_unland (x : Steered) (h fuel o n : Nat) : (s.unland x).hRuns h fuel o n = s.hRuns h fuel o n := by
  induction fuel generalizing o n with
  | zero => rfl
  | succ fuel ih =>
    have pool : (s.unland x).poolOf h o = s.poolOf h o := rfl
    simp only [hRuns, pool, ih]; rfl
theorem hAddr_unland (x : Steered) (h o b : Nat) : (s.unland x).hAddr h o b = s.hAddr h o b := by
  rw [hAddr, hAddr, hRange, hRange, hRuns_unland]

theorem atCheck_passes {n : Nat} {f : Frame} {x : Steered} {c : Carab} (k : Steered → Carab → State → State)
    (hl : s.landed (.memCheck n) f = some x) (hb : f.bad = false) (ho : f.checksOk = true) (hs : s.memCheckStatus n f = 0)
    (hc : s.carabiner n f.harness f.dst f.addr = some c) (hd : c.slot < 65536) : s.atCheck n f k = k x c (s.unland x) := by
  have status : (s.unland x).memCheckStatus n f = 0 := hs
  have car : (s.unland x).carabiner n f.harness f.dst f.addr = some c := hc
  have die : ¬ 65536 ≤ c.slot := Nat.not_le.mpr hd
  simp [atCheck, hl, hb, ho, status, car, die, stOK]

/-! ## Device memory (R129, R145) -/

theorem frame_taintBy (rs : List (Nat × Nat)) : frame s (s.taintBy rs) [.comp] (fun _ => False) := by
  rw [taintBy]
  split
  · exact ⟨fun p hp => by cases p <;> first | rfl | exact absurd (by decide) hp, fun _ _ => rfl, rfl⟩
  · exact frame_refl _ _ _
theorem frame_wakeHbm (rs : List (Nat × Nat)) : frame s (s.wakeHbm rs) [.power] (fun _ => False) := by
  rw [wakeHbm]
  split
  · exact ⟨fun p hp => by cases p <;> first | rfl | exact absurd (by decide) hp, fun _ _ => rfl, rfl⟩
  · exact frame_refl _ _ _

/-- A write of a run none of whose partial words fails to decode (R446). -/
theorem memWrite_merges {h a : Nat} {bs : List Byte} (hm : s.mem.mergeFails h a bs.length = []) :
    (s.memWrite h [(a, bs.length)] bs).2.mem = s.mem.write h a bs ∧
    frame s (s.memWrite h [(a, bs.length)] bs).2 [.mem, .comp, .power] (fun _ => False) := by
  have stored : (s.memWrite h [(a, bs.length)] bs).2 =
      ((s.withMem (s.mem.write h a bs)).taintBy [(a, bs.length)]).wakeHbm [(a, bs.length)] := by
    simp [memWrite, hm, memEvents, MemSt.writeRuns]
  have taint := frame_taintBy (s := s.withMem (s.mem.write h a bs)) [(a, bs.length)]
  have wake := frame_wakeHbm (s := (s.withMem (s.mem.write h a bs)).taintBy [(a, bs.length)]) [(a, bs.length)]
  rw [stored]
  exact ⟨(wake.1 .mem (by decide)).trans (taint.1 .mem (by decide)), frame_trans (frame_withMem _ (by decide))
    (frame_trans (frame_mono taint (by decide) (fun _ k => k)) (frame_mono wake (by decide) (fun _ k => k)))⟩

/-- The value an atomic of the given OP finds at `a`. -/
abbrev atOld (s : State) (h a op : Nat) : Nat := leNat (s.mem.read h a (atWidth op / 8))
/-- An atomic whose words decode fetches the value, and its function's new value is written (R144). -/
theorem atomicApply_fetches {h a op : Nat} (x y : Nat) (hb : s.mem.badWords h a (atWidth op / 8) = []) :
    (s.atomicApply h a op x y).1 = (stOK, s.atOld h a op) ∧
    (s.atomicApply h a op x y).2.mem = s.mem.write h a (bytesLE (atWidth op / 8) (atNew op (s.atOld h a op) x y)) ∧
    frame s (s.atomicApply h a op x y).2 [.mem, .comp, .power] (fun _ => False) := by
  have merges : s.mem.mergeFails h a (atWidth op / 8) = [] := by rw [MemSt.mergeFails, hb]; rfl
  have applied : s.atomicApply h a op x y = ((stOK, s.atOld h a op),
      (s.memWrite h [(a, atWidth op / 8)] (bytesLE (atWidth op / 8) (atNew op (s.atOld h a op) x y))).2) := by
    simp [atomicApply, memRead, hb, MemSt.readRuns]
  have wrote := memWrite_merges (s := s) (h := h) (a := a) (bs := bytesLE (atWidth op / 8) (atNew op (s.atOld h a op) x y))
    (by rw [length_bytesLE]; exact merges)
  rw [length_bytesLE] at wrote
  rw [applied]
  exact ⟨rfl, wrote⟩

/-! ## The answer, and its repeat record (R150, R154) -/

/-- The answer of an atomic: status and value. -/
def atReply (s : State) (f : Frame) (status v : Nat) : Frame :=
  FrameSpec.make { cls := 2, kind := 1, dst := f.src, src := f.dst, harness := f.harness, op := 0xC0, tag := f.tag, flow := f.flow,
                   time := s.now, status := status, payload := bytesLE 8 v }
/-- The answer to an endpoint's atomic goes to the crux die of its port. -/
theorem respond_atomic {n P : Nat} {f : Frame} (st v : Nat) (hh : s.homePort n f.src P) (ho : s.fault.outUnits = []) :
    s.respond n f 0xC0 st (bytesLE 8 v) = (s.inc (FWD_CNT_FRAMES.V n)).landAt (.memReply (dieOf P)) (s.atReply f st v) none := by
  have dst : (s.atReply f st v).dst = f.src := (FrameSpec.dst_make _).trans (Nat.mod_eq_of_lt f.src_lt)
  have op : (s.atReply f st v).op = 0xC0 := FrameSpec.op_make _
  have sent : s.respond n f 0xC0 st (bytesLE 8 v) = forwardF 3 n .inside true (s.atReply f st v) s := rfl
  rw [sent]
  exact forwardF_reply (FrameSpec.mcast_make _) (FrameSpec.kind_make _) (FrameSpec.trav_make _) (by rw [isMemResp, op]; rfl) (dst.symm ▸ hh) ho

theorem closeRecord_none (h : s.mfb.repeats = []) (m src tag target : Nat) (a : Nat × Nat) : s.closeRecord m src tag target a = s := by
  rw [closeRecord, h]; rfl
/-- The record of an original, alone, that has been answered `a`. -/
def recordFor (m : Nat) (f : Frame) (a : Option (Nat × Nat)) : List Repeat :=
  if atRecorded f then [⟨m, f.src, f.tag, f.harness, f.dst, a, []⟩] else []
theorem openRecord_sole (h : s.mfb.repeats = []) (m : Nat) (f : Frame) :
    s.openRecord m f = s.withMfb { s.mfb with repeats := recordFor m f none } := by
  rw [openRecord, recordFor]
  cases atRecorded f
  · rw [← h]; rfl
  · simp [h]
theorem closeRecord_sole {m : Nat} {f : Frame} (h : s.mfb.repeats = recordFor m f none) (a : Nat × Nat) :
    s.closeRecord m f.src f.tag f.dst a = s.withMfb { s.mfb with repeats := recordFor m f (some a) } := by
  rw [recordFor] at h ⊢
  cases e : atRecorded f
  · rw [e] at h
    rw [closeRecord_none h]
    exact congrArg s.withMfb (congrArg (fun r => { s.mfb with repeats := r }) h)
  · rw [e] at h
    simp [closeRecord, h]

/-! ## One atomic sent singly (R145) -/

/-- An atomic at its home crux die `m`, applied to device memory at `a`. -/
def atomicDevice (s : State) (m : Nat) (f : Frame) (a : Nat) : State :=
  let r := (s.openRecord m f).atomicApply f.harness a f.op (atOperand f) (atSwap f)
  (r.2.respond m f 0xC0 r.1.1 (bytesLE 8 r.1.2)).closeRecord m f.src f.tag f.dst r.1

theorem atomicHome_single {n m P a : Nat} {f : Frame} {ingress : Option Nat} {gw : Bool} (hg : s.mfb.groups = [])
    (he : s.rb (MFB_CFG.COMBINE_EN m) = false) : s.atomicHome n m true P f a ingress gw = s.atomicDevice m f a := by
  have none : s.openGroupOf m true f.dst a = none := by rw [openGroupOf, hg]; rfl
  simp only [atomicHome, he, none, Bool.false_and, Bool.false_eq_true, if_false, atomicSingle, if_true, atomicDevice]

/-- With combining off, no group and no record, an atomic that passes its checks is applied at its line's home crux die. -/
theorem doAtomic_single {n a : Nat} {f : Frame} {x : Steered} {c : Carab} (hf : isAtomic f = true)
    (hl : s.landed (.memCheck n) f = some x) (hb : f.bad = false) (ho : f.checksOk = true) (hs : s.memCheckStatus n f = 0)
    (hc : s.carabiner n f.harness f.dst f.addr = some c) (hd : c.slot < 65536) (ht : s.toDevice n f = true)
    (ha : s.hAddr f.harness (translated c f.addr) (atWidth f.op / 8) = some a)
    (he : s.rb (MFB_CFG.COMBINE_EN (translated c f.addr / 64 % 16)) = false) (hg : s.mfb.groups = []) (hr : s.mfb.repeats = []) :
    s.doAtomic n f = ((s.unland x).inc (MFB_CNT_ATOMIC.V n)).atomicDevice (translated c f.addr / 64 % 16) f a := by
  have bytes : reqBytes f = atWidth f.op / 8 := by
    have op : f.op ≠ 1 := fun e => by rw [isAtomic, e] at hf; exact absurd hf (by decide)
    rw [reqBytes, if_neg op, if_pos hf]
  have target : (s.unland x).toDevice n f = true := by
    rw [toDevice, (feidEntry_of_sameView (sameView_unland x) n f.dst).1]; exact ht
  have place : (s.unland x).hAddr f.harness (translated c f.addr) (atWidth f.op / 8) = some a := (hAddr_unland ..).trans ha
  have record : ∀ m, ((s.unland x).inc (MFB_CNT_ATOMIC.V n)).recordOf m f = none := fun m => by
    rw [recordOf, inc_mfb, show (s.unland x).mfb.repeats = [] from hr]; rfl
  have off : ((s.unland x).inc (MFB_CNT_ATOMIC.V n)).rb (MFB_CFG.COMBINE_EN (translated c f.addr / 64 % 16)) = false := by
    rw [rb_of_frame (inc_counts _).2]
    · exact he
    · simp only [MFB_CFG.COMBINE_EN, MFB_CFG.a, MFB_CNT_ATOMIC.V, MFB_CNT_ATOMIC.a, cruxBase]; omega
  simp only [doAtomic, atCheck_passes _ hl hb ho hs hc hd, target, bytes, place, homeDie, record, if_true, ite_self]
  exact atomicHome_single (by rw [inc_mfb]; exact hg) off

theorem atomicDevice_spec {m P a : Nat} {f : Frame} (hb : s.mem.badWords f.harness a (atWidth f.op / 8) = []) (hr : s.mfb.repeats = [])
    (hh : s.homePort m f.src P) (ho : s.fault.outUnits = []) :
    (s.atomicDevice m f a).mem =
      s.mem.write f.harness a (bytesLE (atWidth f.op / 8) (atNew f.op (s.atOld f.harness a f.op) (atOperand f) (atSwap f))) ∧
    (s.atomicDevice m f a).fwd.inbox =
      s.fwd.inbox ++ [⟨.memReply (dieOf P), s.atReply f stOK (s.atOld f.harness a f.op), none⟩] ∧
    (s.atomicDevice m f a).mfb.repeats = recordFor m f (some (stOK, s.atOld f.harness a f.op)) := by
  obtain ⟨value, mem, kept⟩ := atomicApply_fetches (s := s.withMfb { s.mfb with repeats := recordFor m f none }) (atOperand f) (atSwap f) hb
  rw [atomicDevice, openRecord_sole hr]
  generalize (s.withMfb { s.mfb with repeats := recordFor m f none }).atomicApply f.harness a f.op (atOperand f) (atSwap f) = r at value mem kept ⊢
  have view : sameView s r.2 :=
    sameView_trans (sameView_withMfb _) (sameView_of_frame kept (by decide) (by decide) (fun _ k => k.elim))
  have fwd : r.2.fwd = s.fwd := kept.1 .fwd (by decide)
  have mfb : r.2.mfb = { s.mfb with repeats := recordFor m f none } := kept.1 .mfb (by decide)
  have now : r.2.now = s.now := view.2.2.2.2
  simp only [value]
  rw [respond_atomic _ _ (homePort_of_sameView view hh) (by rw [view.2.2.1]; exact ho),
    closeRecord_sole (m := m) (f := f) (by rw [landAt, withFwd_mfb, inc_mfb, mfb])]
  simp only [landAt, withMfb_mem, withFwd_mem, inc_mem, withMfb_fwd, withFwd_fwd, inc_fwd, fwd, withMfb_mfb, atReply, now]
  exact ⟨mem, rfl, rfl⟩

/-! ## Groups of one member (R147, R148) -/

theorem sendGroup_sole {g : HotGroup} {f : Frame} (hg : s.mfb.groups = [g]) (hm : g.members = [f]) (hd : g.dev = true)
    (hb : s.mem.badWords f.harness g.addr (atWidth f.op / 8) = []) :
    (s.sendGroup g).mfb.groups = [{ g with sent := true, answer := some (stOK, s.atOld f.harness g.addr f.op) }] ∧
    (s.sendGroup g).reg (MFB_CNT_COMB_GROUP.V g.die).a = Word.ofN ((s.reg (MFB_CNT_COMB_GROUP.V g.die).a).toNat + 1) ∧
    (s.sendGroup g).mem =
      s.mem.write f.harness g.addr (bytesLE (atWidth f.op / 8) (atNew f.op (s.atOld f.harness g.addr f.op) (atOperand f) 0)) := by
  obtain ⟨count, counted⟩ := inc_counts (s := s) (MFB_CNT_COMB_GROUP.V g.die)
  have same : (s.inc (MFB_CNT_COMB_GROUP.V g.die)).mem = s.mem := inc_mem ..
  obtain ⟨value, mem, kept⟩ := atomicApply_fetches (s := s.inc (MFB_CNT_COMB_GROUP.V g.die)) (op := f.op) (atOperand f) 0 (by rw [same]; exact hb)
  rw [atOld, same] at value mem
  have sent : s.sendGroup g = let r := (s.inc (MFB_CNT_COMB_GROUP.V g.die)).atomicApply f.harness g.addr f.op (atOperand f) 0
      r.2.putGroup { g with sent := true, answer := some r.1 } := by
    simp [sendGroup, hm, hd, foldOperand]
  rw [sent]
  have reg := kept.2.1 (MFB_CNT_COMB_GROUP.V g.die).a not_false
  have mfb := (kept.1 .mfb (by decide)).trans (counted.1 .mfb (by decide))
  generalize (s.inc (MFB_CNT_COMB_GROUP.V g.die)).atomicApply f.harness g.addr f.op (atOperand f) 0 = r at value mem reg mfb ⊢
  refine ⟨?_, reg.trans count, mem⟩
  have groups : r.2.mfb.groups = [g] := (congrArg MfbSt.groups mfb).trans hg
  simp [putGroup, groups, value]

theorem groupAnswer_sole {g : HotGroup} {f : Frame} {v P : Nat} (hg : s.mfb.groups = [g]) (hm : g.members = [f]) (hr : s.mfb.repeats = [])
    (hh : s.homePort g.die f.src P) (ho : s.fault.outUnits = []) :
    s.groupAnswer g stOK v = (((s.withMfb { s.mfb with groups := [] }).inc (MFB_CNT_COMB_MEMBER.V g.die)).inc (FWD_CNT_FRAMES.V g.die)).landAt
      (.memReply (dieOf P)) (s.atReply f stOK v) none := by
  have order : combinedOrder g = [f] := by simp [combinedOrder, hm]
  have drop : s.dropGroup g.no = s.withMfb { s.mfb with groups := [] } := by simp [dropGroup, hg]
  have view : sameView s ((s.withMfb { s.mfb with groups := [] }).inc (MFB_CNT_COMB_MEMBER.V g.die)) :=
    sameView_trans (sameView_withMfb _) (sameView_inc (Nat.le_trans cruxReg_le (Nat.le_add_right _ _)))
  rw [groupAnswer, order, drop]
  simp only [answerMembers, if_true]
  rw [respond_atomic _ _ (homePort_of_sameView view hh) (by rw [view.2.2.1]; exact ho), closeRecord_none]
  · simp only [atReply, view.2.2.2.2]
  · simpa [landAt] using hr

end State

open State

/-- Settles O20: an atomic alone and a group of one member are one fetch and one write of device memory; the answer and the record hold the
value fetched. -/
theorem deviceMemoryAtomics : Obligations.DeviceMemoryAtomics := by
  unfold Obligations.DeviceMemoryAtomics
  refine ⟨fun s n m f x k P a hu hk hf hl hb ho ht hs hc hd ha hm he hg hr hu' hh hdead hne hw => ?single,
    fun s g hu hg hs => ⟨fun hm => ?empty, fun f hm hd hb => ?sent⟩, fun s g f v P hu hg hs hv hm hr ho hh => ?answered,
    fun s n feid tag hu => ?expired⟩
  case single =>
    refine runs_unheld hu (if_pos ⟨hk, hf⟩) ?_
    have view : sameView s ((s.unland x).inc (MFB_CNT_ATOMIC.V n)) :=
      sameView_trans (sameView_unland x) (sameView_inc (Nat.le_trans cruxReg_le (Nat.le_add_right _ _)))
    have memory : ((s.unland x).inc (MFB_CNT_ATOMIC.V n)).mem = s.mem := inc_mem ..
    have inbox : ((s.unland x).inc (MFB_CNT_ATOMIC.V n)).fwd.inbox = s.fwd.inbox.erase x := congrArg FwdSt.inbox (inc_fwd ..)
    have old : ((s.unland x).inc (MFB_CNT_ATOMIC.V n)).atOld f.harness a f.op = s.atOld f.harness a f.op := by rw [atOld, memory]
    obtain ⟨mem, reply, record⟩ := atomicDevice_spec (s := (s.unland x).inc (MFB_CNT_ATOMIC.V n)) (a := a) (by rw [memory]; exact hw)
      (by rw [inc_mfb]; exact hr) (homePort_of_sameView view hh) (by rw [view.2.2.1]; exact hu')
    rw [old] at mem reply record
    rw [doAtomic_single hf hl hb ho hs hc hd ht ha (hm ▸ he) hg hr, ← hm]
    refine ⟨fun b => ?_, ?_, record⟩
    · have bytes := length_bytesLE (atWidth f.op / 8) (atNew f.op (s.atOld f.harness a f.op) (atOperand f) (atSwap f))
      have width := atWidth_bytes f.op
      rw [mem, memory, MemSt.readByte_write hne hdead (by rw [bytes]; omega) (by rw [bytes]; exact hw), bytes]
      split
      · next h => exact getD_bytesLE _ (by omega) (by omega)
      · rfl
    · rw [reply, inbox, atReply, view.2.2.2.2]; rfl
  case empty =>
    have found : s.mfb.groups.find? (fun x => x.no == g.no && !x.sent) = some g := by simp [hg, hs]
    have run : exec (.combineWindowEnd g.no) s = unheld s (s.sendGroup g) := congrArg (unheld s) (by rw [found])
    refine runs_unheld hu run ?_
    have dropped : s.sendGroup g = s.dropGroup g.no := by simp only [sendGroup, hm]
    rw [dropped]
    exact ⟨by simp [dropGroup, hg], frame_withMfb _ (by decide)⟩
  case sent =>
    have found : s.mfb.groups.find? (fun x => x.no == g.no && !x.sent) = some g := by simp [hg, hs]
    exact runs_unheld hu (congrArg (unheld s) (by rw [found])) (sendGroup_sole hg hm hd hb)
  case answered =>
    have answer : s.doGroupResponse g.no = s.groupAnswer g stOK v := by
      have found : s.mfb.groups.find? (fun x => x.no == g.no && x.sent) = some g := by simp [hg, hs]
      simp only [doGroupResponse, found, hv]; rfl
    refine runs_unheld hu rfl ?_
    rw [answer, groupAnswer_sole hg hm hr hh ho]
    have other : (MFB_CNT_COMB_MEMBER.V g.die).a ≠ (FWD_CNT_FRAMES.V g.die).a := by
      simp only [MFB_CNT_COMB_MEMBER.V, MFB_CNT_COMB_MEMBER.a, FWD_CNT_FRAMES.V, FWD_CNT_FRAMES.a]; omega
    have member := inc_counts (s := s.withMfb { s.mfb with groups := [] }) (MFB_CNT_COMB_MEMBER.V g.die)
    generalize (s.withMfb { s.mfb with groups := [] }).inc (MFB_CNT_COMB_MEMBER.V g.die) = u at member ⊢
    obtain ⟨count, kept⟩ := member
    have fwd : u.fwd = s.fwd := kept.1 .fwd (by decide)
    refine ⟨?_, ?_, ?_, ((inc_counts (s := u) (FWD_CNT_FRAMES.V g.die)).2.2.1 _ other).trans count⟩
    · rw [landAt, withFwd_mfb, inc_mfb]; exact congrArg MfbSt.groups (kept.1 .mfb (by decide))
    · rw [landAt, withFwd_mem, inc_mem]; exact kept.1 .mem (by decide)
    · rw [landAt, withFwd_fwd, inc_fwd, fwd]; rfl
  case expired =>
    refine runs_unheld hu rfl ⟨fun r => ?_, frame_withMfb _ (by decide)⟩
    rw [withMfb_mfb, List.mem_filter]
    simp only [Bool.not_eq_true', ← Bool.not_eq_true, Bool.and_eq_true, beq_iff_eq, and_assoc]

end Sys2Proof.Machine
end

section
/-! PROOF. A store across the last byte of H in the model's addresses, and the refutation of the obligation on loads and stores of device
memory. -/
namespace Sys2Proof.Machine
open State

theorem exec_store {s : State} (hu : awake s) {n : Fin 16} {f : Frame} (hk : f.kind = 1) (ho : f.op = 2) :
    exec (.store n f) s = .next (s.doStore n f) := by
  have run : exec (.store n f) s = unheld s (s.doStore n f) := if_pos ⟨hk, ho⟩
  rw [run, unheld, hu]; rfl
/-- What holds of the state a command is run to holds of the one it answers. -/
theorem of_runs {c : Instr} {s u : State} {Q : State → Prop} (he : exec c s = .next u) (h : runs c s Q) : Q u := by
  obtain ⟨t, ht, hq⟩ := h
  cases he.symm.trans ht
  exact hq

/-- 80 bytes of ones from FEID 7 to FEID 9, this device, for harness 5. -/
def edgeStore : Frame :=
  FrameSpec.make { cls := 1, kind := 1, dst := 9, src := 7, harness := 5, op := 2, checkKind := 0, payload := List.replicate 80 1#8 }
/-- The carabiner of harness 5 that lets it write page 0 of FEID 9, at page 1 of its H space. -/
def edgeCarab : Carab := ⟨0, 0, Word.ofN (1 + 8 + 12 * 2 ^ 5 + 5 * 2 ^ 11 + 9 * 2 ^ 23), 0, 1, 0⟩
/-- A pool of harness 5 begins at byte 8 of its H space and at the last page below address 2^40, which CREATE would refuse (R459): page 1
of the H space lies 8 bytes below that address. The store stands at its check point. -/
def edgeState : State :=
  { [(HUB_PLANE.A, 1), (HUB_PLANE.B, 1), (HUB_PLANE.C, 1), (HRN_STS.STATE 5, 2), (POOL_STS.STATE 0, 1), (POOL_CFG.HARNESS 0, 5),
      (POOL_PBASE.V 0, 2 ^ 28 - 1), (POOL_PAGES.V 0, 2), (POOL_HBASE.V 0, 8)].foldl (fun t x => t.wf x.1 x.2) State.reset with
    fwd := { FwdSt.initial with feid := [(7, Word.ofN (1 + 4 * 2 ^ 9)), (9, 3)], inbox := [⟨.memCheck 0, edgeStore, some 4⟩] }
    mfb := { MfbSt.initial with carabs := [edgeCarab] } }

theorem edgeStore_shape : edgeStore.kind = 1 ∧ edgeStore.op = 2 ∧ edgeStore.bad = false ∧ edgeStore.checksOk = true ∧
    edgeStore.payload.length = edgeStore.len ∧ edgeStore.harness = 5 ∧ edgeStore.len = 80 := by decide +kernel
theorem edgeStore_passes :
    edgeState.landed (.memCheck 0) edgeStore = some ⟨.memCheck 0, edgeStore, some 4⟩ ∧ edgeState.toDevice 0 edgeStore = true ∧
    edgeState.memCheckStatus 0 edgeStore = 0 ∧ edgeState.carabiner 0 edgeStore.harness edgeStore.dst edgeStore.addr = some edgeCarab ∧
    edgeState.hAddr edgeStore.harness (translated edgeCarab edgeStore.addr) edgeStore.len = some (2 ^ 40 - 8) ∧
    edgeState.mem.mergeFails edgeStore.harness (2 ^ 40 - 8) edgeStore.len = [] := by decide +kernel
theorem edgeSource_home : edgeState.homePort 0 edgeStore.src 4 := ⟨Word.ofN (1 + 4 * 2 ^ 9), by decide +kernel⟩

/-- Past 2^40 units are of 64 bytes where the store goes on in steps of 256: the unit of its last eight bytes stays clear. -/
theorem edgeUnit_clear : (edgeState.doStore 0 edgeStore).mem.live 5 (2 ^ 40 + 64) = false := by decide +kernel

/-- Refutes O19: no hypothesis keeps a pool to whole pages, nor below address 2^40. A store that crosses that address leaves the last unit it
touches clear, so its last bytes read as zero and not as stored. -/
theorem not_deviceMemoryAccess : ¬ Obligations.DeviceMemoryAccess := by
  unfold Obligations.DeviceMemoryAccess
  rintro ⟨stores, -⟩
  obtain ⟨kind, op, bad, checks, payload, harness, len⟩ := edgeStore_shape
  obtain ⟨landed, target, status, car, place, merges⟩ := edgeStore_passes
  obtain ⟨bytes, -⟩ := of_runs (exec_store rfl kind op) (stores edgeState 0 edgeStore (.store 0 edgeStore) _ edgeCarab 4 (2 ^ 40 - 8) rfl
    (.inl ⟨rfl, op⟩) kind landed bad checks target status car (by decide) place payload (by rw [harness]; decide) rfl rfl edgeSource_home rfl
    merges)
  have last := bytes (2 ^ 40 + 64)
  have zero : (edgeState.doStore (0 : Fin 16).val edgeStore).mem.readByte 5 (2 ^ 40 + 64) = 0 := MemSt.readByte_of_dead edgeUnit_clear
  rw [harness, len, zero, if_pos (by decide)] at last
  exact absurd last (by decide +kernel)

end Sys2Proof.Machine
end

section
/-! PROOF. Commands that are register writes, and the fields of a register apart from the one written (R7, R528). -/
namespace Sys2Proof.Machine

/-- A command that writes a register it reaches leaves what the write leaves. -/
theorem runs_write {c : Instr} {s : State} {src : Src} {a : Nat} {k : State → State} {Q : State → Prop} (hu : awake s) (ho : s.opens src a)
    (he : exec c s = unheld s (s.guardWrite src a k)) (h : Q (k s)) : runs c s Q :=
  runs_unheld hu he (by rwa [State.guardWrite_opens hu ho])

/-- A command whose write of the register it reaches is rejected is turned away. -/
theorem turnedAway_write {c : Instr} {s : State} {src : Src} {a : Nat} {k : State → State} (hu : awake s) (ho : s.opens src a)
    (he : exec c s = unheld s (s.guardWrite src a k)) (hk : k s = s.reject src a) (ha : a < 2 ^ 26) : turnedAway c s src a stREJECT := by
  refine turnedAway_of_exec ?_ ha (by decide)
  rw [he, unheld, hu, State.guardWrite_opens hu ho, hk]; rfl

namespace State
variable {s t : State}

/-- Two fields of registers that share no bit. -/
abbrev apart (x y : Rf) : Prop := y.a ≠ x.a ∨ (x.lo + x.w ≤ 64 ∧ (y.lo + y.w ≤ x.lo ∨ x.lo + x.w ≤ y.lo))

theorem rf_wf_apart {x y : Rf} (n : Nat) (h : apart x y) : (s.wf x n).rf y = s.rf y := by
  by_cases ha : y.a = x.a
  · obtain ⟨hw, hd⟩ := h.resolve_left (not_not_intro ha)
    exact rf_wf_disj s x y n hw ha hd
  · exact rf_wf_reg s x y n ha
theorem rb_wf_apart {x y : Rf} (n : Nat) (h : apart x y) : (s.wf x n).rb y = s.rb y := by rw [rb, rf_wf_apart n h, rb]
theorem rf_lt (x : Rf) : s.rf x < 2 ^ x.w := Nat.mod_lt _ (Nat.two_pow_pos _)
/-- A field written with a value it can hold reads as the value. -/
theorem rf_wf_fits {x : Rf} {n : Nat} (hw : x.lo + x.w ≤ 64) (hn : n < 2 ^ x.w) : (s.wf x n).rf x = n := by
  rw [rf_wf_self _ _ _ hw, Nat.mod_eq_of_lt hn]

theorem frame_withHrn (v : HrnSt) {ch : List Part} {rg : Nat → Prop} (h : Part.hrn ∈ ch) : frame s (s.withHrn v) ch rg :=
  ⟨fun p hp => by cases p <;> first | rfl | exact absurd h hp, fun _ _ => rfl, rfl⟩
theorem frame_withComp (v : CompSt) {ch : List Part} {rg : Nat → Prop} (h : Part.comp ∈ ch) : frame s (s.withComp v) ch rg :=
  ⟨fun p hp => by cases p <;> first | rfl | exact absurd h hp, fun _ _ => rfl, rfl⟩
theorem frame_withPower (v : PowerSt) {ch : List Part} {rg : Nat → Prop} (h : Part.power ∈ ch) : frame s (s.withPower v) ch rg :=
  ⟨fun p hp => by cases p <;> first | rfl | exact absurd h hp, fun _ _ => rfl, rfl⟩

theorem hrn_of_frame {ch : List Part} {rg : Nat → Prop} (h : frame s t ch rg) (hp : Part.hrn ∉ ch) : t.hrn = s.hrn := h.1 _ hp
theorem comp_of_frame {ch : List Part} {rg : Nat → Prop} (h : frame s t ch rg) (hp : Part.comp ∉ ch) : t.comp = s.comp := h.1 _ hp

end State
end Sys2Proof.Machine
end

section
/-! PROOF. The harness table: its registers, and what a change of state at hub 0 leaves (R157, R161, R549). -/
namespace Sys2Proof.Machine.State
variable {s t : State} {h : Nat}

/-! ## Reading the table through a frame -/

/-- A register of the harness block is none that records count in. -/
theorem not_recordReg_hrn {a : Nat} (lo : 0x100000 ≤ a) (hi : a < 0x340000) : ¬ recordReg a := by unfold recordReg; omega

theorem hrnState_of_frame {ch : List Part} {rg : Nat → Prop} (hf : frame s t ch rg) (hr : ¬ rg (HRN_STS.a h)) : t.hrnState h = s.hrnState h := by
  rw [hrnState, hrnState, rf_of_frame hf (x := HRN_STS.STATE h) hr]
theorem campOk_of_frame {ch : List Part} {rg : Nat → Prop} (hf : frame s t ch rg) {c : Nat} (hr : ¬ rg (HUB_CAMP_RPT.a c)) :
    t.campOk c = s.campOk c := by
  rw [campOk, campOk, rf_of_frame hf (x := HUB_CAMP_RPT.STATUS c) hr]
theorem mpStopped_of_frame {ch : List Part} {rg : Nat → Prop} (hf : frame s t ch rg) (hr : ¬ rg HUB_FAULT_STS.a) :
    t.mpStopped = s.mpStopped := by
  rw [mpStopped, mpStopped, rf_of_frame hf (x := HUB_FAULT_STS.MP_STATE) hr]
theorem hrnState_tenant (h0 : h ≠ 0) : s.hrnState h = s.rf (HRN_STS.STATE h) := if_neg h0
theorem hrnState_lt (h : Nat) : s.hrnState h < 8 := by
  unfold hrnState
  split
  · decide
  · exact rf_lt (HRN_STS.STATE h)

/-! ## A change of state at hub 0 (R161) -/

/-- What the copies still show where hub 0 has changed the state of `h`. -/
def oldShown (s : State) (h : Nat) : HrnSt := { s.hrn with old := insertKey (eraseKey s.hrn.old h) h (s.hrnState h) }

/-- Harness `h` in state `st` at hub 0, before the trace record of R549. -/
def showHrn (s : State) (h st : Nat) : State := (s.withHrn (s.oldShown h)).wf (HRN_STS.STATE h) st

theorem propagate_settled (ho : lookupKey s.hrn.old h = none) : s.propagate h = s := by rw [propagate, ho]
theorem ringPauses_none (hr : s.host.opened = []) : s.ringPauses = s := by rw [ringPauses, hr]; rfl
theorem recorded_traceHrn (h old : Nat) : recorded s (s.traceHrn h old) := recorded_trace ..
theorem frame_showHrn (h st : Nat) : frame s (s.showHrn h st) [.hrn] (fun a => a = HRN_STS.a h) :=
  frame_trans (frame_withHrn _ (by decide)) (frame_wf _ _ rfl)

section
variable (ho : lookupKey s.hrn.old h = none) (hr : s.host.opened = [])
include ho hr

theorem setHrn_settled (st : Nat) : s.setHrn h st = (s.showHrn h st).traceHrn h (s.hrnState h) := by
  rw [setHrn, propagate_settled ho]
  exact congrArg (fun u => u.traceHrn h (s.hrnState h)) (ringPauses_none (s := s.showHrn h st) hr)

/-- The registers a change of state may touch: the harness's status, and those that records count in. -/
abbrev hrnReg (h a : Nat) : Prop := a = HRN_STS.a h ∨ recordReg a

theorem recorded_setHrn (st : Nat) : recorded (s.showHrn h st) (s.setHrn h st) := by rw [setHrn_settled ho hr]; exact recorded_traceHrn ..
theorem frame_setHrn (st : Nat) : frame s (s.setHrn h st) (.hrn :: recordParts) (hrnReg h) :=
  frame_trans (frame_mono (frame_showHrn h st) (by decide) (fun _ => .inl))
    (frame_mono (recorded_setHrn ho hr st) (by decide) (fun _ => .inr))
theorem hrn_setHrn (st : Nat) : (s.setHrn h st).hrn = s.oldShown h := (recorded_setHrn ho hr st).1 .hrn (by decide)

/-- The status register of a harness below 4,096 after a change of its state. -/
theorem rf_setHrn (st : Nat) (hh : h < 4096) {x : Rf} (hx : x.a = HRN_STS.a h) : (s.setHrn h st).rf x = (s.wf (HRN_STS.STATE h) st).rf x :=
  rf_of_frame (recorded_setHrn ho hr st) (not_recordReg_hrn (by rw [hx]; simp only [HRN_STS.a]; omega) (by rw [hx]; simp only [HRN_STS.a]; omega))
theorem hrnState_setHrn (h0 : h ≠ 0) (hh : h < 4096) {st : Nat} (hs : st < 8) : (s.setHrn h st).hrnState h = st := by
  rw [hrnState_tenant h0, rf_setHrn ho hr st hh rfl]
  exact rf_wf_fits (show 0 + 3 ≤ 64 by decide) hs
/-- Every other field of the status register keeps its value. -/
theorem rf_setHrn_apart (st : Nat) (hh : h < 4096) {x : Rf} (hx : x.a = HRN_STS.a h) (hl : 3 ≤ x.lo) : (s.setHrn h st).rf x = s.rf x := by
  rw [rf_setHrn ho hr st hh hx]
  exact rf_wf_apart st (.inr ⟨show 0 + 3 ≤ 64 by decide, .inr hl⟩)
/-- The copies show the old state. -/
theorem hrnCopy_setHrn (h0 : h ≠ 0) (st : Nat) : (s.setHrn h st).hrnCopy h = s.hrnState h := by
  rw [hrnCopy, if_neg h0, hrn_setHrn ho hr, oldShown, lookupKey_insertKey_self _ _ _ (lookupKey_eraseKey_self _ _)]; rfl

end
end Sys2Proof.Machine.State
end

section
/-! PROOF. Quotas (R162, R165): the fields of the five resources, and what a LIMIT, a grant and a release leave in them. -/
namespace Sys2Proof.Machine
namespace QKind
variable (k l : QKind) (h : Nat)

theorem used_a : (k.used h).a = (k.limit h).a := by cases k <;> rfl
theorem over_a : (k.over h).a = HRN_STS.a h := by cases k <;> rfl
/-- The registers of a harness's quotas lie above its status and below its wake tolerances. -/
theorem limit_place : HRN_STS.a h + 0x10 ≤ (k.limit h).a ∧ (k.limit h).a < HRN_STS.a h + 0x38 := by
  cases k <;> simp [limit, HRN_STS.a, HRN_Q_CORES.LIMIT, HRN_Q_RINGS.LIMIT, HRN_Q_CTX.LIMIT, HRN_Q_CARAB.LIMIT, HRN_Q_HBM.LIMIT,
    HRN_Q_CORES.a, HRN_Q_RINGS.a, HRN_Q_CTX.a, HRN_Q_CARAB.a, HRN_Q_HBM.a]
theorem limit_ne_status : (k.limit h).a ≠ HRN_STS.a h := by have := k.limit_place h; omega
variable {k l} in
theorem limit_inj (hn : k ≠ l) : (k.limit h).a ≠ (l.limit h).a := by
  cases k <;> cases l <;> simp_all [limit, HRN_Q_CORES.LIMIT, HRN_Q_RINGS.LIMIT, HRN_Q_CTX.LIMIT, HRN_Q_CARAB.LIMIT, HRN_Q_HBM.LIMIT,
    HRN_Q_CORES.a, HRN_Q_RINGS.a, HRN_Q_CTX.a, HRN_Q_CARAB.a, HRN_Q_HBM.a]
theorem used_fits : (k.used h).lo + (k.used h).w ≤ 64 := by cases k <;> exact Nat.le_of_ble_eq_true rfl
theorem limit_fits : (k.limit h).lo + (k.limit h).w ≤ 64 := by cases k <;> exact Nat.le_of_ble_eq_true rfl
theorem limit_below_used : (k.limit h).lo + (k.limit h).w ≤ (k.used h).lo := by cases k <;> exact Nat.le_of_ble_eq_true rfl
theorem total_lt : k.total < 2 ^ (k.limit h).w := by
  cases k <;> simp [total, limit, HRN_Q_CORES.LIMIT, HRN_Q_RINGS.LIMIT, HRN_Q_CTX.LIMIT, HRN_Q_CARAB.LIMIT, HRN_Q_HBM.LIMIT]
/-- The OVER bits stand one after the other above BUSY. -/
theorem over_place : (k.over h).lo = 6 + k.ctorIdx ∧ (k.over h).w = 1 := by cases k <;> exact ⟨rfl, rfl⟩
end QKind

namespace State
variable {s : State} (k l : QKind) (h n : Nat)

/-! ## Which fields share no bit -/

theorem apart_over_limit : apart (k.over h) (l.limit h) := .inl (by rw [QKind.over_a]; exact l.limit_ne_status h)
theorem apart_over_used : apart (k.over h) (l.used h) := .inl (by rw [QKind.over_a, QKind.used_a]; exact l.limit_ne_status h)
theorem apart_used_over : apart (k.used h) (l.over h) := .inl (by rw [QKind.over_a, QKind.used_a]; exact (k.limit_ne_status h).symm)
theorem apart_used_limit : apart (k.used h) (l.limit h) := by
  by_cases hk : k = l
  · exact hk ▸ .inr ⟨k.used_fits h, .inl (k.limit_below_used h)⟩
  · exact .inl (by rw [QKind.used_a]; exact QKind.limit_inj h (Ne.symm hk))
theorem apart_limit_used : apart (k.limit h) (k.used h) := .inr ⟨k.limit_fits h, .inr (k.limit_below_used h)⟩
variable {k l} in
theorem apart_used (hk : k ≠ l) : apart (k.used h) (l.used h) :=
  .inl (by rw [QKind.used_a, QKind.used_a]; exact QKind.limit_inj h (Ne.symm hk))
theorem over_fits : (k.over h).lo + (k.over h).w ≤ 64 := by cases k <;> exact Nat.le_of_ble_eq_true rfl
variable {k l} in
theorem apart_over (hk : k ≠ l) : apart (k.over h) (l.over h) := by
  refine .inr ⟨over_fits k h, ?_⟩
  cases k <;> cases l <;> first | exact absurd rfl hk | exact .inl (Nat.le_of_ble_eq_true rfl) | exact .inr (Nat.le_of_ble_eq_true rfl)
/-- A field of a harness's status below the OVER bits. -/
theorem apart_over_low {x : Rf} (hl : x.lo + x.w ≤ 6) : apart (k.over h) x :=
  .inr ⟨over_fits k h, .inl (by rw [(k.over_place h).1]; omega)⟩
theorem apart_used_status {x : Rf} (hx : x.a = HRN_STS.a h) : apart (k.used h) x :=
  .inl (by rw [hx, QKind.used_a]; exact (k.limit_ne_status h).symm)

/-! ## OVER, grants and releases -/

theorem rf_setOver {x : Rf} (hx : apart (k.over h) x) : (s.setOver k h).rf x = s.rf x := rf_wf_apart _ hx
theorem rb_setOver {x : Rf} (hx : apart (k.over h) x) : (s.setOver k h).rb x = s.rb x := rb_wf_apart _ hx
theorem over_setOver : (s.setOver k h).rb (k.over h) = decide (s.rf (k.limit h) < s.rf (k.used h)) := by
  rw [setOver, rb_wf_self _ _ (over_fits k h), (k.over_place h).2]
  cases decide (s.rf (k.limit h) < s.rf (k.used h)) <;> rfl

/-- The registers that a change of quota `k` of harness `h` touches. -/
abbrev quotaReg (a : Nat) : Prop := a = (k.limit h).a ∨ a = HRN_STS.a h
theorem frame_setOver : frame s (s.setOver k h) [] (quotaReg k h) := frame_wf _ _ (.inr (k.over_a h))
theorem frame_setUsed : frame s ((s.wf (k.used h) n).setOver k h) [] (quotaReg k h) :=
  frame_trans (frame_wf _ _ (.inl (k.used_a h))) (frame_setOver k h)
theorem frame_quotaTake : frame s (s.quotaTake k h n) [] (quotaReg k h) := by
  unfold quotaTake
  split
  · exact frame_refl ..
  · exact frame_setUsed k h _
theorem frame_quotaGive : frame s (s.quotaGive k h n) [] (quotaReg k h) := by
  unfold quotaGive
  split
  · exact frame_refl ..
  · exact frame_setUsed k h _
/-- A release leaves the fields of the status below the OVER bits. -/
theorem rf_quotaGive_low {x : Rf} (hx : x.a = HRN_STS.a h) (hl : x.lo + x.w ≤ 6) : (s.quotaGive k h n).rf x = s.rf x := by
  unfold quotaGive
  split
  · rfl
  · rw [rf_setOver k h (apart_over_low k h hl), rf_wf_apart _ (apart_used_status k h hx)]
theorem used_quotaTake (h0 : h ≠ 0) (hn : s.rf (k.used h) + n < 2 ^ (k.used h).w) :
    (s.quotaTake k h n).rf (k.used h) = s.rf (k.used h) + n := by
  rw [quotaTake, if_neg h0, rf_setOver k h (apart_over_used k k h), rf_wf_fits (k.used_fits h) hn]

/-! ## USED zeroed by BIND (R160) -/

/-- No unit of quota `k` is held, as its USED and OVER show it. -/
def unused (s : State) (k : QKind) (h : Nat) : Prop := s.rf (k.used h) = 0 ∧ s.rb (k.over h) = false
/-- USED of quota `k` is zeroed. -/
def dropUsed (s : State) (k : QKind) (h : Nat) : State := (s.wf (k.used h) 0).setOver k h

theorem unused_dropUsed : unused (s.dropUsed k h) k h := by
  have hu : (s.wf (k.used h) 0).rf (k.used h) = 0 := rf_wf_fits (k.used_fits h) (Nat.two_pow_pos _)
  exact ⟨by rw [dropUsed, rf_setOver k h (apart_over_used k k h), hu], by rw [dropUsed, over_setOver, hu]; simp⟩
/-- Zeroing one USED leaves those that are zero so. -/
theorem unused_dropUsed_of_unused (hu : unused s l h) : unused (s.dropUsed k h) l h := by
  by_cases hk : k = l
  · exact hk ▸ unused_dropUsed k h
  · exact ⟨by rw [dropUsed, rf_setOver k h (apart_over_used k l h), rf_wf_apart _ (apart_used h hk), hu.1],
      by rw [dropUsed, rb_setOver k h (apart_over h hk), rb_wf_apart _ (apart_used_over k l h), hu.2]⟩
theorem limit_dropUsed : (s.dropUsed k h).rf (l.limit h) = s.rf (l.limit h) := by
  rw [dropUsed, rf_setOver k h (apart_over_limit k l h), rf_wf_apart _ (apart_used_limit k l h)]
theorem rf_dropUsed_low {x : Rf} (hx : x.a = HRN_STS.a h) (hl : x.lo + x.w ≤ 6) : (s.dropUsed k h).rf x = s.rf x := by
  rw [dropUsed, rf_setOver k h (apart_over_low k h hl), rf_wf_apart _ (apart_used_status k h hx)]

/-- The USED fields of all resources zeroed, in the order of R162. -/
def dropAllUsed (s : State) (h : Nat) : State := [QKind.cores, .rings, .ctx, .carab, .hbm].foldl (fun t k => t.dropUsed k h) s

theorem unused_foldl_dropUsed {L : List QKind} (hk : k ∈ L ∨ unused s k h) : unused (L.foldl (fun t k => t.dropUsed k h) s) k h := by
  induction L generalizing s with
  | nil => exact hk.resolve_left (by simp)
  | cons l L ih =>
    refine ih ?_
    rcases hk with hk | hk
    · rcases List.mem_cons.mp hk with rfl | hm
      · exact .inr (unused_dropUsed k h)
      · exact .inl hm
    · exact .inr (unused_dropUsed_of_unused l k h hk)
theorem unused_dropAllUsed : unused (s.dropAllUsed h) k h := unused_foldl_dropUsed k h (.inl (by cases k <;> decide))
theorem limit_dropAllUsed : (s.dropAllUsed h).rf (k.limit h) = s.rf (k.limit h) :=
  List.foldlRecOn (motive := fun t : State => t.rf (k.limit h) = s.rf (k.limit h)) _ _ rfl
    (fun _ ht l _ => (limit_dropUsed l k h).trans ht)
theorem rf_dropAllUsed_low {x : Rf} (hx : x.a = HRN_STS.a h) (hl : x.lo + x.w ≤ 6) : (s.dropAllUsed h).rf x = s.rf x :=
  List.foldlRecOn (motive := fun t : State => t.rf x = s.rf x) _ _ rfl (fun _ ht l _ => (rf_dropUsed_low l h hx hl).trans ht)
/-- Beside the status of `h`, only the registers of its quotas change. -/
theorem frame_dropAllUsed : frame s (s.dropAllUsed h) [] (fun a => HRN_STS.a h ≤ a ∧ a < HRN_STS.a h + 0x38) :=
  List.foldlRecOn (motive := fun t : State => frame s t [] _) _ _ (frame_refl ..)
    (fun _ ht l _ => frame_trans ht (frame_mono (frame_setUsed l h 0) (by simp) (fun a ha => by
      have := l.limit_place h; unfold quotaReg at ha; omega)))

end State
end Sys2Proof.Machine
end

section
/-! PROOF. The commands of HRN_CMD (R157, R160, R161, R163), and the obligation on them. -/
namespace Sys2Proof.Machine
namespace State
variable {s t u : State} {h : Nat}

/-- HRN_CMD shows the harness a command names. -/
def naming (s : State) (h : Nat) : State := s.wf HRN_CMD.HARNESS h

theorem frame_naming (h : Nat) {ch : List Part} {rg : Nat → Prop} (hr : rg HRN_CMD.a) : frame s (s.naming h) ch rg := frame_wf _ _ hr
theorem frame_hrnStatus (st : Nat) {ch : List Part} {rg : Nat → Prop} (hr : rg HRN_CMD.a) : frame s (s.hrnStatus st) ch rg := frame_wf _ _ hr
theorem status_hrnStatus {st : Nat} (h : st < 256) : (s.hrnStatus st).rf HRN_CMD.STATUS = st := rf_wf_fits (by decide) h
/-- HRN_CMD lies behind the blocks of the harnesses. -/
theorem status_ne_cmd (hh : h < 4096) : HRN_STS.a h ≠ HRN_CMD.a := by simp only [HRN_STS.a, HRN_CMD.a]; omega

/-! ## What a command finds in HRN_CMD -/

section
variable (src : Src) (op : Nat) (k : State → State)

theorem hrnCmd_refused (hop : op ≠ 0) (hr : s.rb HRN_CMD.BUSY = true ∨ h = 0) : s.hrnCmd src h op k = s.reject src HRN_CMD.a := by
  rcases hr with hb | rfl
  · rw [hrnCmd, if_pos hb]
  · simp [hrnCmd, hop]
variable (hb : s.rb HRN_CMD.BUSY = false) (h0 : h ≠ 0)
include hb h0
theorem hrnCmd_bind : s.hrnCmd src h 1 k = (s.naming h).hrnBind h := by simp [hrnCmd, hb, h0, naming]
theorem hrnCmd_start : s.hrnCmd src h 2 k = (s.naming h).hrnStart h := by simp [hrnCmd, hb, h0, naming]
theorem hrnCmd_stop : s.hrnCmd src h 3 k = (s.naming h).hrnStop h := by simp [hrnCmd, hb, h0, naming]
theorem hrnCmd_recover : s.hrnCmd src h 4 k = (s.naming h).hrnRecover h := by simp [hrnCmd, hb, h0, naming]
theorem hrnCmd_unbind : s.hrnCmd src h 5 k = k (s.naming h) := by simp [hrnCmd, hb, h0, naming]
theorem hrnCmd_quarantine : s.hrnCmd src h 6 k = (s.naming h).hrnQuarantine h := by simp [hrnCmd, hb, h0, naming]
end

/-! ## Naming a harness changes nothing that a command looks at -/

section
variable (hh : h < 4096)
include hh
theorem hrnState_naming : (s.naming h).hrnState h = s.hrnState h :=
  hrnState_of_frame (frame_naming (ch := []) (rg := fun a => a = HRN_CMD.a) h rfl) (status_ne_cmd hh)
theorem rf_status_naming {x : Rf} (hx : x.a = HRN_STS.a h) : (s.naming h).rf x = s.rf x :=
  rf_wf_reg _ _ _ _ (hx ▸ status_ne_cmd hh)
end
theorem campOk_naming (h c : Nat) (hc : c < 7) : (s.naming h).campOk c = s.campOk c :=
  campOk_of_frame (frame_naming (ch := []) (rg := fun a => a = HRN_CMD.a) h rfl) (by simp only [HUB_CAMP_RPT.a, HRN_CMD.a]; omega)
theorem mpStopped_naming (h : Nat) : (s.naming h).mpStopped = s.mpStopped :=
  mpStopped_of_frame (frame_naming (ch := []) (rg := fun a => a = HRN_CMD.a) h rfl) (by decide)
theorem hrn_naming (h : Nat) : (s.naming h).hrn = s.hrn := rfl

/-! ## A command in a state that is not in its row -/

/-- The command has ended with status `st`, and HRN_CMD shows it and the harness; nothing else has changed. -/
def endedWith (s t : State) (h st : Nat) : Prop :=
  t.rf HRN_CMD.STATUS = st ∧ t.rf HRN_CMD.HARNESS = h ∧ frame s t [] (fun a => a = HRN_CMD.a)
theorem endedWith_naming {st : Nat} (hh : h < 4096) (hst : st < 256) : endedWith s ((s.naming h).hrnStatus st) h st := by
  refine ⟨status_hrnStatus hst, ?_, frame_trans (frame_naming h rfl) (frame_hrnStatus st rfl)⟩
  rw [hrnStatus, rf_wf_apart _ (by decide)]
  exact rf_wf_fits (by decide) hh

theorem hrnBind_unready (hc : s.campOk 6 = false) : s.hrnBind h = s.hrnStatus stNOT_READY := by simp [hrnBind, hc]
theorem hrnBind_reject (hc : s.campOk 6 = true) (hs : s.hrnState h ≠ 0) : s.hrnBind h = s.hrnStatus stREJECT := by simp [hrnBind, hc, hs]
theorem hrnStart_reject (h1 : s.hrnState h ≠ 1) (h3 : s.hrnState h ≠ 3) : s.hrnStart h = s.hrnStatus stREJECT := by simp [hrnStart, h1, h3]
theorem hrnStop_reject (h2 : s.hrnState h ≠ 2) : s.hrnStop h = s.hrnStatus stREJECT := by rw [hrnStop, if_neg h2]
theorem hrnRecover_reject (h2 : s.hrnState h ≠ 2) : s.hrnRecover h = s.hrnStatus stREJECT := by rw [hrnRecover, if_neg h2]
theorem hrnQuarantine_reject (hs : s.hrnState h = 0) : s.hrnQuarantine h = s.hrnStatus stREJECT := by simp [hrnQuarantine, hs]
theorem unbindHarness_reject (h1 : s.hrnState h ≠ 1) (h4 : s.hrnState h ≠ 4) : s.unbindHarness h = s.hrnStatus stREJECT := by
  simp [unbindHarness, h1, h4]

/-! ## A command in a state of its row -/

/-- Harness `h` has gone to state `new` at hub 0 by a command that ended OK; the copies hold the old state. -/
def commanded (s t : State) (h new : Nat) : Prop :=
  t.hrnState h = new ∧ t.hrnCopy h = s.hrnState h ∧ t.rf HRN_CMD.STATUS = 0 ∧ t.rf (HRN_STS.FAIL_CNT h) = s.rf (HRN_STS.FAIL_CNT h) ∧
  frame s t (.hrn :: recordParts) (fun a => a = HRN_CMD.a ∨ a = HRN_STS.a h ∨ recordReg a)

/-- A command that ends after a change of state of which only `started` is still set. -/
def concluded (u : State) (l : List (Nat × Nat)) : State := (u.withHrn { u.hrn with started := l }).hrnStatus stOK

theorem frame_concluded (l : List (Nat × Nat)) : frame u (u.concluded l) [.hrn] (fun a => a = HRN_CMD.a) :=
  frame_trans (frame_withHrn _ (by decide)) (frame_hrnStatus _ rfl)
theorem old_concluded (l : List (Nat × Nat)) : (u.concluded l).hrn.old = u.hrn.old := by
  rw [concluded, hrnStatus, wf_hrn, withHrn_hrn]

/-- A change of state, after which only `started` of the harness table may change, commands the harness. -/
theorem commanded_setHrn {new : Nat} (hh : h < 4096) (h0 : h ≠ 0) (ho : lookupKey s.hrn.old h = none) (hr : s.host.opened = [])
    (hn : new < 8) (l : List (Nat × Nat)) : commanded s (((s.naming h).setHrn h new).concluded l) h new := by
  have ho' : lookupKey (s.naming h).hrn.old h = none := ho
  have hr' : (s.naming h).host.opened = [] := hr
  have hf := frame_concluded (u := (s.naming h).setHrn h new) l
  have hs : (((s.naming h).setHrn h new).concluded l).hrnState h = new :=
    (hrnState_of_frame hf (status_ne_cmd hh)).trans (hrnState_setHrn ho' hr' h0 hh hn)
  have copy := hrnCopy_setHrn ho' hr' h0 new
  rw [hrnCopy, if_neg h0, hrnState_naming hh] at copy
  refine ⟨hs, ?_, status_hrnStatus (by decide), ?_, ?_⟩
  · rw [hrnCopy, if_neg h0, old_concluded, rf_of_frame hf (status_ne_cmd hh), copy]
  · rw [rf_of_frame hf (status_ne_cmd hh), rf_setHrn_apart ho' hr' new hh rfl (Nat.le_refl 3), rf_status_naming hh rfl]
  · exact frame_trans (frame_naming h (.inl rfl)) (frame_trans (frame_mono (frame_setHrn ho' hr' new) (fun _ => id) (fun _ => .inr))
      (frame_mono hf (by decide) (fun _ => .inl)))

theorem commanded_setHrn_only {new : Nat} (hh : h < 4096) (h0 : h ≠ 0) (ho : lookupKey s.hrn.old h = none) (hr : s.host.opened = [])
    (hn : new < 8) : commanded s (((s.naming h).setHrn h new).hrnStatus stOK) h new :=
  commanded_setHrn hh h0 ho hr hn ((s.naming h).setHrn h new).hrn.started

/-- START (R160): from RECOVERING its instant is recorded. -/
theorem commanded_start (hh : h < 4096) (h0 : h ≠ 0) (ho : lookupKey s.hrn.old h = none) (hr : s.host.opened = [])
    (hs : s.hrnState h = 1 ∨ s.hrnState h = 3) (hd : s.rf HUB_FAULT_STS.DEV_STATE ≠ 2) (hm : s.mpStopped = false) :
    commanded s ((s.naming h).hrnStart h) h 2 ∧
    (s.hrnState h = 3 → lookupKey ((s.naming h).hrnStart h).hrn.started h = some s.now) := by
  have hd' : (s.naming h).rf HUB_FAULT_STS.DEV_STATE ≠ 2 := by rwa [naming, rf_wf_reg _ _ _ _ (by decide)]
  have hnow : (s.naming h).now = s.now := rf_wf_reg _ _ _ _ (by decide)
  rcases hs with hs | hs
  · have e : (s.naming h).hrnStart h = ((s.naming h).setHrn h 2).hrnStatus stOK := by
      simp [hrnStart, hrnState_naming hh, hs, hd', mpStopped_naming, hm]
    exact ⟨e ▸ commanded_setHrn_only hh h0 ho hr (by decide), fun h3 => absurd (hs.symm.trans h3) (by decide)⟩
  · have e : (s.naming h).hrnStart h = ((s.naming h).setHrn h 2).concluded
        (insertKey (eraseKey ((s.naming h).setHrn h 2).hrn.started h) h s.now) := by
      simp [hrnStart, hrnState_naming hh, hs, hd', mpStopped_naming, hm, hnow, concluded]
    refine ⟨e ▸ commanded_setHrn hh h0 ho hr (by decide) _, fun _ => ?_⟩
    rw [e]
    exact lookupKey_insertKey_self _ _ _ (lookupKey_eraseKey_self _ _)

/-! ## BIND (R160) -/

/-- The harness BOUND, with no fault counted against it, its energy account and counters zero. -/
def fresh (s : State) (h : Nat) : State :=
  ((((s.wf (HRN_STS.FAIL_CNT h) 0).setHrn h 1).setReg (HRN_ENERGY_UJ.a h) 0).setReg (HRN_CNT_DENIED.a h) 0).setReg (HRN_CNT_FAULTS.a h) 0
/-- The witness ring of the harness empty, and BIND ended. -/
def bindEnds (s : State) (h : Nat) : State :=
  let u := ((s.setReg (HRN_WIT_WPTR.a h) 0).setReg (HRN_WIT_RPTR.a h) 0).setReg (HRN_WIT_DROP.a h) 0
  (u.withHrn { u.hrn with wit := eraseKey u.hrn.wit h, started := eraseKey u.hrn.started h }).hrnStatus stOK

theorem hrnBind_binds (hc : s.campOk 6 = true) (hs : s.hrnState h = 0) : s.hrnBind h = ((s.fresh h).dropAllUsed h).bindEnds h := by
  unfold hrnBind fresh dropAllUsed dropUsed bindEnds
  rw [if_neg (by rw [hc]; decide), if_neg (by rw [hs]; decide)]

theorem frame_bindEnds : frame s (s.bindEnds h) [.hrn] (fun a => HRN_CMD.a ≤ a) := by
  have w {a : Nat} (ha : 0x188000 ≤ a) : HRN_CMD.a ≤ a := Nat.le_trans (by decide) ha
  exact frame_trans (frame_setReg _ _ (w (by simp only [HRN_WIT_WPTR.a]; omega))) (frame_trans (frame_setReg _ _ (w (by simp only [HRN_WIT_RPTR.a]; omega)))
    (frame_trans (frame_setReg _ _ (w (by simp only [HRN_WIT_DROP.a]; omega))) (frame_trans (frame_withHrn _ (by decide))
      (frame_hrnStatus _ (Nat.le_refl _)))))
theorem started_bindEnds : lookupKey (s.bindEnds h).hrn.started h = none := by
  show lookupKey (eraseKey _ h) h = none
  exact lookupKey_eraseKey_self _ _

section
variable (hh : h < 4096) (h0 : h ≠ 0) (ho : lookupKey s.hrn.old h = none) (hr : s.host.opened = [])
include hh h0 ho hr

/-- What a BIND clears beside the quotas: FAIL_CNT, and the registers from the energy account to the fault counter. -/
theorem fresh_shows :
    (s.fresh h).hrnState h = 1 ∧ (s.fresh h).rf (HRN_STS.FAIL_CNT h) = 0 ∧ (s.fresh h).reg (HRN_ENERGY_UJ.a h) = 0 ∧
    (s.fresh h).reg (HRN_CNT_DENIED.a h) = 0 ∧ (s.fresh h).reg (HRN_CNT_FAULTS.a h) = 0 ∧
    ∀ k : QKind, (s.fresh h).rf (k.limit h) = s.rf (k.limit h) := by
  have cleared : frame ((s.wf (HRN_STS.FAIL_CNT h) 0).setHrn h 1) (s.fresh h) [] (fun a => HRN_STS.a h + 0x48 ≤ a) :=
    frame_trans (frame_setReg _ _ (by simp only [HRN_ENERGY_UJ.a, HRN_STS.a]; omega)) (frame_trans
      (frame_setReg _ _ (by simp only [HRN_CNT_DENIED.a, HRN_STS.a]; omega))
      (frame_setReg _ _ (by simp only [HRN_CNT_FAULTS.a, HRN_STS.a]; omega)))
  have low : ¬ HRN_STS.a h + 0x48 ≤ HRN_STS.a h := by omega
  have zero : ((s.wf (HRN_STS.FAIL_CNT h) 0).rf (HRN_STS.FAIL_CNT h)) = 0 := rf_wf_fits (Nat.le_of_ble_eq_true rfl) (Nat.two_pow_pos _)
  have ho' : lookupKey (s.wf (HRN_STS.FAIL_CNT h) 0).hrn.old h = none := ho
  have hr' : (s.wf (HRN_STS.FAIL_CNT h) 0).host.opened = [] := hr
  refine ⟨?_, ?_, ?_, ?_, reg_setReg_self .., fun k => ?_⟩
  · rw [hrnState_of_frame cleared low, hrnState_setHrn ho' hr' h0 hh (by decide)]
  · rw [rf_of_frame cleared low, rf_setHrn_apart ho' hr' 1 hh rfl (Nat.le_refl 3), zero]
  · rw [fresh, reg_setReg_ne _ _ _ _ (by simp [HRN_ENERGY_UJ.a, HRN_CNT_FAULTS.a]),
      reg_setReg_ne _ _ _ _ (by simp [HRN_ENERGY_UJ.a, HRN_CNT_DENIED.a]), reg_setReg_self]
  · rw [fresh, reg_setReg_ne _ _ _ _ (by simp [HRN_CNT_DENIED.a, HRN_CNT_FAULTS.a]), reg_setReg_self]
  · have hk := k.limit_place h
    have hrec : ¬ recordReg (k.limit h).a := not_recordReg_hrn (by simp only [HRN_STS.a] at hk; omega) (by simp only [HRN_STS.a] at hk; omega)
    rw [rf_of_frame cleared (by omega), rf_of_frame (frame_setHrn ho' hr' 1) (not_or_intro (k.limit_ne_status h) hrec),
      rf_wf_reg _ _ _ _ (k.limit_ne_status h)]

/-- What BIND leaves. -/
theorem hrnBind_leaves (hc : s.campOk 6 = true) (hs : s.hrnState h = 0) :
    let t := s.hrnBind h
    t.hrnState h = 1 ∧ t.rf HRN_CMD.STATUS = 0 ∧ t.rf (HRN_STS.FAIL_CNT h) = 0 ∧ t.reg (HRN_ENERGY_UJ.a h) = 0 ∧
    t.reg (HRN_CNT_DENIED.a h) = 0 ∧ t.reg (HRN_CNT_FAULTS.a h) = 0 ∧
    (∀ k : QKind, t.rf (k.used h) = 0 ∧ t.rf (k.limit h) = s.rf (k.limit h) ∧ t.rb (k.over h) = false) ∧
    lookupKey t.hrn.started h = none := by
  obtain ⟨state, fails, energy, denied, faults, limits⟩ := fresh_shows hh h0 ho hr
  have ends := frame_bindEnds (s := (s.fresh h).dropAllUsed h) (h := h)
  have below {a : Nat} (ha : a < HRN_STS.a h + 0x80) : ¬ HRN_CMD.a ≤ a := by simp only [HRN_STS.a, HRN_CMD.a] at *; omega
  have above {a : Nat} (ha : HRN_STS.a h + 0x48 ≤ a) (hl : a < HRN_STS.a h + 0x80) :
      (((s.fresh h).dropAllUsed h).bindEnds h).reg a = (s.fresh h).reg a :=
    (ends.2.1 a (below hl)).trans ((frame_dropAllUsed h).2.1 a (by omega))
  rw [hrnBind_binds hc hs]
  refine ⟨?_, status_hrnStatus (by decide), ?_, ?_, ?_, ?_, fun k => ?_, started_bindEnds⟩
  · rw [hrnState_of_frame ends (below (by omega)), hrnState_tenant h0, rf_dropAllUsed_low h rfl (Nat.le_of_ble_eq_true rfl), ← hrnState_tenant h0, state]
  · rw [rf_of_frame ends (below (Nat.lt_add_of_pos_right (by decide))), rf_dropAllUsed_low h rfl (Nat.le_of_ble_eq_true rfl), fails]
  · rw [above (by simp only [HRN_STS.a, HRN_ENERGY_UJ.a]; omega) (by simp only [HRN_STS.a, HRN_ENERGY_UJ.a]; omega), energy]
  · rw [above (by simp only [HRN_STS.a, HRN_CNT_DENIED.a]; omega) (by simp only [HRN_STS.a, HRN_CNT_DENIED.a]; omega), denied]
  · rw [above (by simp only [HRN_STS.a, HRN_CNT_FAULTS.a]; omega) (by simp only [HRN_STS.a, HRN_CNT_FAULTS.a]; omega), faults]
  · have hk := k.limit_place h
    obtain ⟨hused, hover⟩ := unused_dropAllUsed (s := s.fresh h) k h
    have hl : ¬ HRN_CMD.a ≤ (k.limit h).a := below (by omega)
    refine ⟨?_, ?_, ?_⟩
    · rw [rf_of_frame ends (by rw [QKind.used_a]; exact hl), hused]
    · rw [rf_of_frame ends hl, limit_dropAllUsed, limits]
    · rw [rb_of_frame ends (by rw [QKind.over_a]; exact below (by omega)), hover]

end

end State
end Sys2Proof.Machine
end

section
/-! PROOF. UNBIND of a harness that holds nothing but carabiners and pools (R160, R163), and the obligation on the harness commands. -/
namespace Sys2Proof.Machine
namespace State
variable {s t : State} {h : Nat}

/-! ## What UNBIND looks at, through a frame that leaves the ports, the cores and the pools -/

theorem portNamed_of_frame {ch : List Part} {rg : Nat → Prop} (hf : frame s t ch rg) (hr : ∀ a, rg a → a < 0x02001000) :
    t.portNamed h = s.portNamed h := by
  have hp (P o : Nat) : ¬ rg (portBase P + o) := fun e => by
    have := hr _ e
    unfold portBase at this
    split at this <;> omega
  unfold portNamed
  refine congrArg _ (funext fun P => ?_)
  rw [active, active, pstate, pstate, gatewayPort, gatewayPort, rf_of_frame hf (x := PRT_PORT_STS.STATE P) (hp P 8),
    rf_of_frame hf (x := PRT_PORT_CTL.MODE P) (hp P 0), rf_of_frame hf (x := PRT_PORT_ID.HARNESS P) (hp P 0x10)]
theorem coresOf_of_frame {ch : List Part} {rg : Nat → Prop} (hf : frame s t ch rg) (hc : Part.comp ∉ ch)
    (hr : ∀ a, rg a → a < 0x01000000) : t.coresOf h = s.coresOf h := by
  have hk (k : Nat) : ¬ rg (CRX_CORE_STS.a k) := fun e => by
    have := hr _ e
    unfold CRX_CORE_STS.a coreBase at this
    omega
  unfold coresOf
  refine congrArg (fun p => (List.range 512).filter p) (funext fun k => ?_)
  rw [boundCore, boundCore, cst, cst, comp_of_frame hf hc, coreH, coreH, rf_of_frame hf (x := CRX_CORE_STS.HARNESS k) (hk k)]
theorem poolsOf_of_frame {ch : List Part} {rg : Nat → Prop} (hf : frame s t ch rg) (hr : ∀ q, ¬ rg (POOL_STS.a q) ∧ ¬ rg (POOL_CFG.a q)) :
    t.poolsOf h = s.poolsOf h := by
  unfold poolsOf
  refine congrArg (fun p => (List.range 64).filter p) (funext fun q => ?_)
  rw [poolH, poolH, rf_of_frame hf (x := POOL_STS.STATE q) (hr q).1, rf_of_frame hf (x := POOL_CFG.HARNESS q) (hr q).2]

theorem poolsOf_naming (g h : Nat) : (s.naming h).poolsOf g = s.poolsOf g :=
  poolsOf_of_frame (frame_naming (ch := []) (rg := fun a => a = HRN_CMD.a) h rfl) fun q => by
    simp only [POOL_STS.a, POOL_CFG.a, poolBase, HRN_CMD.a]; omega
theorem limit_naming (k : QKind) : (s.naming h).rf (k.limit h) = s.rf (k.limit h) :=
  rf_wf_reg _ _ _ _ (by have := k.limit_place h; simp only [HRN_STS.a, HRN_CMD.HARNESS, HRN_CMD.a] at *; omega)

/-! ## What is released -/

theorem dropContexts_none (hr : s.rope.ctxs = []) (hg : s.gate.ctxs = []) (hs : s.gate.stores = []) : s.dropContexts h = s := by
  have hgate : s.withGate { s.gate with stores := [] } = s := by rw [← hs]; rfl
  rw [dropContexts, hr, List.filter_nil, List.foldl_nil, hg, List.filter_nil, List.foldl_nil, hs, List.filter_nil, List.filter_nil,
    List.foldl_nil, hgate]
theorem endWaits_none (hw : s.host.waits = []) (p : PoolWait → Bool) (st : Nat) : s.endWaits p st = s := by
  have hhost : s.withHost { s.host with waits := [] } = s := by rw [← hw]; rfl
  rw [endWaits, hw, List.filter_nil, List.filter_nil, List.map_nil, List.dedup_nil, List.foldl_nil, List.foldl_nil, hhost]

/-- The registers that a removal of carabiners touches: quotas and states of harnesses, and the spill area's occupancy. -/
abbrev carabReg (a : Nat) : Prop := (0x100000 ≤ a ∧ a < HRN_CMD.a) ∨ (0x01000000 ≤ a ∧ a % 0x100000 = 0xA0038)

theorem frame_quotaGive_carab {e : Nat} (he : e < 4096) (k : QKind) (n : Nat) : frame s (s.quotaGive k e n) [] carabReg :=
  frame_mono (frame_quotaGive k e n) (fun _ => id) fun a ha => .inl (by
    have := k.limit_place e
    unfold quotaReg at ha
    simp only [HRN_STS.a, HRN_CMD.a] at *
    omega)
theorem frame_spillUsed (n : Nat) : frame s (s.spillUsed n) [] carabReg :=
  frame_wf _ _ (.inr (by simp only [MFB_SPILL_USED.V, MFB_SPILL_USED.a, cruxBase]; omega))
theorem carHarness_lt (w : Word) : carHarness w < 4096 := Nat.mod_lt _ (by decide)

/-- Carabiners removed: beside the table, the quota units of the insertions that end. -/
theorem frame_carDelete (p : Carab → Bool) : frame (s.withMfb { s.mfb with carabs := s.mfb.carabs.filter (fun c => !p c) }) (s.carDelete p) [] carabReg := by
  unfold carDelete
  refine List.foldlRecOn (motive := fun t => frame _ t [] carabReg) _ _ ?_ (fun t ht d _ => frame_trans ht (frame_spillUsed d))
  refine List.foldlRecOn (motive := fun t => frame _ t [] carabReg) _ _ (frame_refl ..) (fun t ht e he => frame_trans ht ?_)
  obtain ⟨c, -, rfl⟩ := List.mem_map.mp (List.mem_dedup.mp he)
  exact frame_quotaGive_carab (carHarness_lt _) _ _
/-- A removal of carabiners leaves the state of a harness. -/
theorem hrnState_carDelete (p : Carab → Bool) (hh : h < 4096) : (s.carDelete p).hrnState h = s.hrnState h := by
  unfold carDelete
  refine List.foldlRecOn (motive := fun t : State => t.hrnState h = s.hrnState h) _ _ ?_ (fun t ht d _ => ?_)
  · refine List.foldlRecOn (motive := fun t : State => t.hrnState h = s.hrnState h) _ _ rfl (fun t ht e _ => ?_)
    rw [← ht]
    by_cases h0 : h = 0
    · subst h0; rfl
    rw [hrnState_tenant h0, hrnState_tenant h0]
    by_cases he : e.2 = h
    · exact rf_quotaGive_low .carab e.2 1 (by rw [he]; rfl) (Nat.le_of_ble_eq_true rfl)
    · refine rf_of_frame (frame_quotaGive .carab e.2 1) (fun ha => ?_)
      have := QKind.carab.limit_place e.2
      unfold quotaReg at ha
      simp only [HRN_STS.STATE, HRN_STS.a] at *
      omega
  · rw [← ht]
    exact hrnState_of_frame (ch := []) (rg := fun a => a = MFB_SPILL_USED.a d) (frame_wf _ _ rfl)
      (by simp only [HRN_STS.a, MFB_SPILL_USED.a, cruxBase]; omega)

/-! ## UNBIND -/

/-- What an UNBIND of harness `h` has released and what it destroys. -/
def releasing (s t : State) (h : Nat) : Prop :=
  t.rb HRN_CMD.BUSY = true ∧ t.rb (HRN_STS.BUSY h) = true ∧ t.hrn.unbinding = some h ∧ t.hrnState h = s.hrnState h ∧
  t.mfb.carabs = s.mfb.carabs.filter (fun x => !(carHarness x.w0 == h)) ∧
  ∀ q, q ∈ t.mem.dying ↔ q ∈ s.mem.dying ∨ q < 64 ∧ s.rf (POOL_STS.STATE q) ≠ 0 ∧ s.rf (POOL_CFG.HARNESS q) = h

theorem mem_poolsOf (q : Nat) : q ∈ s.poolsOf h ↔ q < 64 ∧ s.rf (POOL_STS.STATE q) ≠ 0 ∧ s.rf (POOL_CFG.HARNESS q) = h := by
  simp [poolsOf, poolH]

/-- The last step of UNBIND: the pools of the harness are being destroyed, and BUSY is set. -/
def destroyPools (s : State) (h : Nat) : State :=
  let s6 := s.withMem { s.mem with dying := s.mem.dying ++ (s.poolsOf h).filter (fun q => !s.mem.dying.contains q) }
  ((s6.withHrn { s6.hrn with unbinding := some h }).wf HRN_CMD.BUSY 1).wf (HRN_STS.BUSY h) 1

theorem unbindHarness_bare (hs : s.hrnState h = 1 ∨ s.hrnState h = 4) (hp : s.portNamed h = false) (hc : s.coresOf h = [])
    (hr : s.rope.ctxs = []) (hg : s.gate.ctxs = []) (hst : s.gate.stores = []) (ho : s.host.opened = []) (hw : s.host.waits = []) :
    s.unbindHarness h = (s.carDelete (fun c => carHarness c.w0 == h)).destroyPools h := by
  have hf := frame_carDelete (s := s) (fun c => carHarness c.w0 == h)
  have hw' : (s.carDelete (fun c => carHarness c.w0 == h)).host.waits = [] := (congrArg (·.waits) (hf.1 .host (by decide))).trans hw
  have cond : ¬ ((s.hrnState h != 1 && s.hrnState h != 4) || s.portNamed h) = true := by rcases hs with hs | hs <;> simp [hs, hp]
  unfold unbindHarness destroyPools
  rw [if_neg cond, hc]
  simp only [List.foldl_nil, dropContexts_none hr hg hst, ho, List.filter_nil, endWaits_none hw']

theorem unbindHarness_releases (hh : h < 4096) (hs : s.hrnState h = 1 ∨ s.hrnState h = 4) (hp : s.portNamed h = false) (hc : s.coresOf h = [])
    (hr : s.rope.ctxs = []) (hg : s.gate.ctxs = []) (hst : s.gate.stores = []) (ho : s.host.opened = []) (hw : s.host.waits = []) :
    releasing s (s.unbindHarness h) h := by
  rw [unbindHarness_bare hs hp hc hr hg hst ho hw]
  have hd := frame_carDelete (s := s) (fun c => carHarness c.w0 == h)
  have hf : frame s (s.carDelete (fun c => carHarness c.w0 == h)) [.mfb] carabReg :=
    frame_trans (frame_withMfb _ (by decide)) (frame_mono hd (by decide) (fun _ => id))
  have state := hrnState_carDelete (s := s) (fun c => carHarness c.w0 == h) hh
  have pools : (s.carDelete (fun c => carHarness c.w0 == h)).poolsOf h = s.poolsOf h :=
    poolsOf_of_frame hf fun q => by
      unfold carabReg POOL_STS.a POOL_CFG.a poolBase HRN_CMD.a; omega
  have dying : (s.carDelete (fun c => carHarness c.w0 == h)).mem.dying = s.mem.dying := congrArg (·.dying) (hf.1 .mem (by decide))
  have carabs : (s.carDelete (fun c => carHarness c.w0 == h)).mfb.carabs = _ := congrArg (·.carabs) (hd.1 .mfb (by decide))
  generalize s.carDelete (fun c => carHarness c.w0 == h) = u at state pools dying carabs
  have hne : (HRN_CMD.BUSY).a ≠ (HRN_STS.BUSY h).a := (status_ne_cmd hh).symm
  refine ⟨?_, ?_, ?_, ?_, ?_, fun q => ?_⟩
  · rw [destroyPools, rb_wf_apart _ (.inl hne), rb_wf_self _ _ (by decide)]; rfl
  · rw [destroyPools, rb_wf_self _ _ (Nat.le_of_ble_eq_true rfl)]; rfl
  · rw [destroyPools, wf_hrn, wf_hrn, withHrn_hrn]
  · rw [← state]
    unfold hrnState
    split
    · rfl
    · rw [destroyPools, rf_wf_apart _ (.inr ⟨Nat.le_of_ble_eq_true rfl, .inl (Nat.le_of_ble_eq_true rfl)⟩), rf_wf_reg _ _ _ _ (status_ne_cmd hh)]
      rfl
  · rw [destroyPools, wf_mfb, wf_mfb, withHrn_mfb, withMem_mfb, carabs, withMfb_mfb]
  · rw [← mem_poolsOf, ← pools, ← dying, destroyPools, wf_mem, wf_mem, withHrn_mem, withMem_mem, List.mem_append, List.mem_filter]
    by_cases hq : q ∈ u.mem.dying <;> simp [hq]

/-! ## The end of UNBIND (R163) -/

/-- The harness FREE at hub 0, with no witness ring, no START remembered and no UNBIND in progress. -/
def freed (s : State) (h : Nat) : State :=
  let u := (s.wf (HRN_WIT_CFG.MODE h) 0).setHrn h 0
  u.withHrn { u.hrn with unbinding := none, started := eraseKey u.hrn.started h }
/-- The command of an UNBIND shown ended. -/
def unbindShown (s : State) (h : Nat) : State := ((s.wf HRN_CMD.BUSY 0).wf (HRN_STS.BUSY h) 0).hrnStatus stOK

theorem unbindDone_bare (hu : s.hrn.unbinding = some h) (hp : s.poolsOf h = []) : s.unbindDone = (s.freed h).unbindShown h := by
  unfold unbindDone freed unbindShown
  rw [hu]
  simp only [hp, List.foldl_nil]

section
variable (hh : h < 4096) (h0 : h ≠ 0) (ho : lookupKey s.hrn.old h = none) (hr : s.host.opened = [])
include hh

theorem hrnState_unbindShown : (s.unbindShown h).hrnState h = s.hrnState h := by
  unfold hrnState
  split
  · rfl
  · rw [unbindShown, hrnStatus, rf_wf_reg _ _ _ _ (status_ne_cmd hh),
      rf_wf_apart _ (.inr ⟨Nat.le_of_ble_eq_true rfl, .inl (Nat.le_of_ble_eq_true rfl)⟩), rf_wf_reg _ _ _ _ (status_ne_cmd hh)]
theorem unbindShown_shows :
    let t := s.unbindShown h
    t.rb HRN_CMD.BUSY = false ∧ t.rb (HRN_STS.BUSY h) = false ∧ t.rf HRN_CMD.STATUS = 0 ∧ t.hrn = s.hrn ∧
    frame s t [] (fun a => a = HRN_CMD.a ∨ a = HRN_STS.a h) := by
  refine ⟨?_, ?_, status_hrnStatus (by decide), ?_, ?_⟩
  · rw [unbindShown, hrnStatus, rb_wf_apart _ (by decide), rb_wf_apart _ (.inl (status_ne_cmd hh).symm), rb_wf_self _ _ (by decide)]; rfl
  · rw [unbindShown, hrnStatus, rb_wf_apart _ (.inl (status_ne_cmd hh)), rb_wf_self _ _ (Nat.le_of_ble_eq_true rfl)]; rfl
  · rw [unbindShown, hrnStatus, wf_hrn, wf_hrn, wf_hrn]
  · exact frame_trans (frame_wf _ _ (.inl rfl)) (frame_trans (frame_wf _ _ (.inr rfl)) (frame_hrnStatus _ (.inl rfl)))

include h0 ho hr
theorem freed_shows :
    (s.freed h).hrnState h = 0 ∧ (s.freed h).hrn.unbinding = none ∧ (s.freed h).rf (HRN_WIT_CFG.MODE h) = 0 ∧
    frame s (s.freed h) (.hrn :: recordParts) (fun a => a = HRN_STS.a h ∨ a = HRN_WIT_CFG.a h ∨ recordReg a) := by
  have ho' : lookupKey (s.wf (HRN_WIT_CFG.MODE h) 0).hrn.old h = none := by rwa [wf_hrn]
  have hr' : (s.wf (HRN_WIT_CFG.MODE h) 0).host.opened = [] := by rwa [wf_host]
  have last : frame ((s.wf (HRN_WIT_CFG.MODE h) 0).setHrn h 0) (s.freed h) [.hrn] (fun _ => False) := frame_withHrn _ (by decide)
  have change := frame_setHrn ho' hr' 0
  have cfg : ¬ hrnReg h (HRN_WIT_CFG.a h) := by
    simp only [hrnReg, HRN_STS.a, HRN_WIT_CFG.a, recordReg]; omega
  refine ⟨?_, ?_, ?_, ?_⟩
  · rw [hrnState_of_frame last id, hrnState_setHrn ho' hr' h0 hh (by decide)]
  · rw [freed, withHrn_hrn]
  · rw [rf_of_frame last id, rf_of_frame change cfg, rf_wf_fits (show 45 + 2 ≤ 64 by decide) (Nat.two_pow_pos _)]
  · exact frame_trans (frame_wf _ _ (.inr (.inl rfl))) (frame_trans (frame_mono change (fun _ => id) (fun _ => Or.imp_right .inr))
      (frame_mono last (by decide) (fun _ => False.elim)))

/-- What the end of an UNBIND leaves, where no pool is left to destroy. -/
theorem unbindDone_frees (hu : s.hrn.unbinding = some h) (hp : s.poolsOf h = []) :
    let t := s.unbindDone
    t.hrnState h = 0 ∧ t.rb HRN_CMD.BUSY = false ∧ t.rb (HRN_STS.BUSY h) = false ∧ t.rf HRN_CMD.STATUS = 0 ∧
    t.hrn.unbinding = none ∧ t.rf (HRN_WIT_CFG.MODE h) = 0 ∧
    frame s t (.hrn :: recordParts) (fun a => a = HRN_CMD.a ∨ a = HRN_STS.a h ∨ a = HRN_WIT_CFG.a h ∨ recordReg a) := by
  obtain ⟨state, none, mode, hf⟩ := freed_shows hh h0 ho hr
  obtain ⟨cmd, sts, status, hrn, shown⟩ := unbindShown_shows (s := s.freed h) hh
  have cfg : ¬ (HRN_WIT_CFG.a h = HRN_CMD.a ∨ HRN_WIT_CFG.a h = HRN_STS.a h) := by
    simp only [HRN_CMD.a, HRN_STS.a, HRN_WIT_CFG.a]; omega
  rw [unbindDone_bare hu hp]
  refine ⟨?_, cmd, sts, status, ?_, ?_, ?_⟩
  · rw [hrnState_unbindShown hh, state]
  · rw [hrn, none]
  · rw [rf_of_frame shown cfg, mode]
  · exact frame_trans (frame_mono hf (fun _ => id) (fun _ => .inr))
      (frame_mono shown (by simp) (fun _ => Or.imp_right .inl))

end

end State

open State

/-- Settles O24: each command is HRN_CMD named, then its row: refused, ended in a status, or a change of state at hub 0. -/
theorem harnessCommands : Obligations.HarnessCommands := by
  unfold Obligations.HarnessCommands
  intro s src h c hu ho
  have hh : h.val < 4096 := h.isLt
  have cmd {c : Instr} {k : State → State} {Q : State → Prop} (he : exec c s = unheld s (s.guardWrite src HRN_CMD.a k)) :
      Q (k s) → runs c s Q := runs_write hu ho he
  refine ⟨fun hr hc => ?refused, fun hb h0 hc => ?ended, fun hb h0 hold hopen => ⟨fun new hc => ?commanded, fun hready => ?unready,
    fun hready hfree => ?bound, fun hs hp hcores hropes hgates hstores hwaits => ?unbinding⟩, fun h0 hun hpools hold hopen => ?freed⟩
  case refused =>
    have hr' : s.rb HRN_CMD.BUSY = true ∨ h.val = 0 := hr.imp_right (congrArg Fin.val)
    rcases hc with rfl | rfl | rfl | rfl | rfl | rfl <;>
      exact turnedAway_write hu ho rfl (hrnCmd_refused src _ _ (by decide) hr') (by decide)
  all_goals have hne : h.val ≠ 0 := fun e => h0 (Fin.ext e)
  case ended =>
    have hc6 : (s.naming h).campOk 6 = s.campOk 6 := campOk_naming h 6 (by decide)
    have hst : (s.naming h).hrnState h = s.hrnState h := hrnState_naming hh
    have reject := endedWith_naming (s := s) hh (st := stREJECT) (by decide)
    rcases hc with ⟨rfl, hs, h6⟩ | ⟨rfl, h1, h3⟩ | ⟨rfl | rfl, h2⟩ | ⟨rfl, h1, h4⟩ | ⟨rfl, hs⟩
    · refine cmd rfl ?_
      rw [hrnCmd_bind src _ hb hne, hrnBind_reject (hc6.trans h6) (hst ▸ hs)]; exact reject
    · refine cmd rfl ?_
      rw [hrnCmd_start src _ hb hne, hrnStart_reject (hst ▸ h1) (hst ▸ h3)]; exact reject
    · refine cmd rfl ?_
      rw [hrnCmd_stop src _ hb hne, hrnStop_reject (hst ▸ h2)]; exact reject
    · refine cmd rfl ?_
      rw [hrnCmd_recover src _ hb hne, hrnRecover_reject (hst ▸ h2)]; exact reject
    · refine cmd rfl ?_
      rw [hrnCmd_unbind src _ hb hne, unbindHarness_reject (hst ▸ h1) (hst ▸ h4)]; exact reject
    · refine cmd rfl ?_
      rw [hrnCmd_quarantine src _ hb hne, hrnQuarantine_reject (hst.trans hs)]; exact reject
  case commanded =>
    have hst : (s.naming h).hrnState h = s.hrnState h := hrnState_naming hh
    have only (new : Nat) {t : State} (hn : new < 8) (e : t = ((s.naming h).setHrn h new).hrnStatus stOK) : commanded s t h new :=
      e ▸ commanded_setHrn_only hh hne hold hopen hn
    rcases hc with ⟨rfl, hs, hd, hm, rfl⟩ | ⟨rfl, hs, rfl⟩ | ⟨rfl, hs, rfl⟩ | ⟨rfl, hs, rfl⟩
    · refine cmd rfl ?_
      rw [hrnCmd_start src _ hb hne]
      obtain ⟨⟨state, copy, status, fails, hf⟩, instant⟩ := commanded_start hh hne hold hopen hs hd hm
      exact ⟨state, copy, status, fails, fun _ => instant, hf⟩
    · refine cmd rfl ?_
      rw [hrnCmd_stop src _ hb hne]
      obtain ⟨state, copy, status, fails, hf⟩ := only 1 (by decide) (show (s.naming h).hrnStop h = _ by rw [hrnStop, if_pos (hst.trans hs)])
      exact ⟨state, copy, status, fails, fun e => Instr.noConfusion e, hf⟩
    · refine cmd rfl ?_
      rw [hrnCmd_recover src _ hb hne]
      obtain ⟨state, copy, status, fails, hf⟩ := only 3 (by decide) (show (s.naming h).hrnRecover h = _ by rw [hrnRecover, if_pos (hst.trans hs)])
      exact ⟨state, copy, status, fails, fun e => Instr.noConfusion e, hf⟩
    · refine cmd rfl ?_
      rw [hrnCmd_quarantine src _ hb hne]
      obtain ⟨state, copy, status, fails, hf⟩ := only 4 (by decide)
        (show (s.naming h).hrnQuarantine h = _ by rw [hrnQuarantine, if_pos (by simpa [hst] using hs)])
      exact ⟨state, copy, status, fails, fun e => Instr.noConfusion e, hf⟩
  case unready =>
    refine cmd rfl ?_
    rw [hrnCmd_bind src _ hb hne, hrnBind_unready ((campOk_naming h 6 (by decide)).trans hready)]
    obtain ⟨status, -, hf⟩ := endedWith_naming (s := s) hh (st := stNOT_READY) (by decide)
    exact ⟨status, hf⟩
  case bound =>
    refine cmd rfl ?_
    rw [hrnCmd_bind src _ hb hne]
    obtain ⟨state, status, fails, energy, denied, faults, quotas, instant⟩ := hrnBind_leaves (s := s.naming h) hh hne hold hopen
      ((campOk_naming h 6 (by decide)).trans hready) ((hrnState_naming hh).trans hfree)
    refine ⟨state, status, fails, energy, denied, faults, fun k => ?_, instant⟩
    obtain ⟨hused, hlimit, hover⟩ := quotas k
    exact ⟨hused, hlimit.trans (limit_naming k), hover⟩
  case unbinding =>
    refine cmd rfl ?_
    rw [hrnCmd_unbind src _ hb hne]
    have hf := frame_naming (s := s) h (ch := []) (rg := fun a => a = HRN_CMD.a) rfl
    have hlow : ∀ a, a = HRN_CMD.a → a < 0x01000000 := by rintro _ rfl; decide
    obtain ⟨cmdBusy, busy, waiting, state, carabs, pools⟩ := unbindHarness_releases (s := s.naming h) hh (by rwa [hrnState_naming hh])
      ((portNamed_of_frame hf (fun a ha => Nat.lt_trans (hlow a ha) (by decide))).trans hp)
      ((coresOf_of_frame hf (by simp) hlow).trans hcores) hropes hgates hstores hopen hwaits
    exact ⟨cmdBusy, busy, waiting, state.trans (hrnState_naming hh), carabs, fun q => by
      rw [pools, ← mem_poolsOf, poolsOf_naming, mem_poolsOf]; rfl⟩
  case freed =>
    exact runs_unheld hu rfl (unbindDone_frees hh hne hold hopen hun hpools)

end Sys2Proof.Machine
end

section
/-! PROOF. The obligation on harness faults (R157, R160, R551): a record of a class that R511 does not have. -/
namespace Sys2Proof.Machine
open State

theorem exec_harnessFault {s : State} (hu : awake s) : exec .harnessFault s = .next s.applyHarnessFault := by
  show unheld s s.applyHarnessFault = _
  rw [unheld, hu]; rfl

/-- A harness fault against harness 0 of class 0x1FF24: HUB_AVAL_OVF of that class would be HRN_CNT_FAULTS of harness 0. -/
def wildFault : Raised := ⟨⟨0x1FF24, 0, 2, 0, 0, 0, []⟩, 0⟩
/-- The reset state with the coalescing table full of another fault, the overflow of this second reported, and the wild fault next. -/
def crowdedState : State :=
  State.reset.withFault { State.reset.fault with
    aval := (List.range 256).map (fun i => ⟨i, ⟨clLINK, 0, 0, 0, 0, 0, []⟩, 0, 0, 0, 0, 0⟩)
    ovfSec := 1
    raised := [wildFault] }

/-- The fault overflows the table, and is counted in its class and against harness 0: twice in one register. -/
theorem crowdedState_counts_twice : crowdedState.reg (HRN_CNT_FAULTS.a 0) = 0 ∧
    crowdedState.applyHarnessFault.reg (HRN_CNT_FAULTS.a 0) = Word.ofN 2 := by decide +kernel

/-- Refutes O25, for a class alone that no record has: the model's `cls` is any number, and a fault that overflows the coalescing
table is counted in HUB_AVAL_OVF of its class (R551), which for class 0x1FF24 is the address of HRN_CNT_FAULTS of harness 0. -/
theorem not_harnessFaultsAndSettings : ¬ Obligations.HarnessFaultsAndSettings := by
  unfold Obligations.HarnessFaultsAndSettings
  intro h
  obtain ⟨-, counted, -⟩ := of_runs (exec_harnessFault rfl) (h.1 crowdedState wildFault rfl (by decide +kernel) rfl (by decide) rfl rfl)
  obtain ⟨zero, two⟩ := crowdedState_counts_twice
  have one := (counted (.inl rfl)).1
  rw [zero, two] at one
  exact absurd one (by decide)

end Sys2Proof.Machine
end

section
/-! PROOF. What a record leaves of the faults at hub 0 (R510, R512, R550, R551): nothing but its number, and the entry of its key. -/
namespace Sys2Proof.Machine.State
variable {s t u : State}

/-! ## Records sent without an occurrence -/

/-- From `s` to `t` `n` records have been numbered; no occurrence has been counted or coalesced, and no fault raised or unit lost. -/
structure sent (n : Nat) (s t : State) : Prop where
  raised : t.fault.raised = s.fault.raised
  aval : t.fault.aval = s.fault.aval
  seqno : t.fault.seqno = s.fault.seqno + n
  outUnits : t.fault.outUnits = s.fault.outUnits
  counted : t.reg HUB_FAULT_CNT.a = s.reg HUB_FAULT_CNT.a
  window : t.reg HUB_AVAL_CFG.a = s.reg HUB_AVAL_CFG.a

theorem sent.refl (s : State) : sent 0 s s := ⟨rfl, rfl, rfl, rfl, rfl, rfl⟩
theorem sent.trans {m n : Nat} (h : sent m s t) (k : sent n t u) : sent (m + n) s u :=
  ⟨k.raised.trans h.raised, k.aval.trans h.aval, by rw [k.seqno, h.seqno, Nat.add_assoc], k.outUnits.trans h.outUnits,
    k.counted.trans h.counted, k.window.trans h.window⟩
/-- Steps that number no record, one after the other. -/
theorem sent.then {n : Nat} (h : sent 0 s t) (k : sent n t u) : sent n s u := Nat.zero_add n ▸ h.trans k

/-- The registers of the avalanche table's own account. -/
abbrev avalReg (a : Nat) : Prop := a = HUB_FAULT_CNT.a ∨ a = HUB_AVAL_CFG.a

theorem sent_of_frame {ch : List Part} {rg : Nat → Prop} (h : frame s t ch rg) (hp : Part.fault ∉ ch) (hr : ∀ a, avalReg a → ¬ rg a) : sent 0 s t :=
  have hf : t.fault = s.fault := h.1 _ hp
  ⟨by rw [hf], by rw [hf], by rw [hf]; rfl, by rw [hf], h.2.1 _ (hr _ (.inl rfl)), h.2.1 _ (hr _ (.inr rfl))⟩
theorem sent_wf (x : Rf) (n : Nat) (h : ¬ avalReg x.a) : sent 0 s (s.wf x n) :=
  sent_of_frame (frame_wf (ch := []) (rg := fun a => a = x.a) x n rfl) (by simp) (fun _ ha e => h (e ▸ ha))
theorem sent_inc (x : Rf) (h : ¬ avalReg x.a) : sent 0 s (s.inc x) :=
  sent_of_frame (frame_inc (ch := [.sticky]) (rg := fun a => a = x.a) x rfl (by decide)) (by decide) (fun _ ha e => h (e ▸ ha))
theorem not_avalReg_of_lt {a : Nat} (h : HUB_AVAL_CFG.a < a) : ¬ avalReg a := by
  simp only [avalReg, HUB_FAULT_CNT.a, HUB_AVAL_CFG.a] at *; omega

theorem sent_lifeInc (i : Nat) : sent 0 s (s.lifeInc i) :=
  sent_inc _ (not_avalReg_of_lt (by simp only [HUB_AVAL_CFG.a, CRN_LIFE.V, CRN_LIFE.a]; omega))
theorem sent_setWoItems (p : Nat) (l : List Item) : sent 0 s (s.setWoItems p l) := by
  unfold setWoItems; split <;> exact ⟨rfl, rfl, rfl, rfl, rfl, rfl⟩
theorem sent_setWo (p : Nat) (w : Whiteout) : sent 0 s (s.setWo p w) := by
  unfold setWo; split <;> exact ⟨rfl, rfl, rfl, rfl, rfl, rfl⟩
theorem sent_woSettle (p : Nat) : sent 0 s (s.woSettle p) := by
  have sts : ¬ avalReg (TEL_WO_STS.a p) := not_avalReg_of_lt (by simp only [HUB_AVAL_CFG.a, TEL_WO_STS.a]; omega)
  have shown : sent 0 s ((s.wf (TEL_WO_STS.OCC p) (occupancy (s.woItems p))).wf HUB_FAULT_STS.QUEUE s.fault.hold.length) :=
    (sent_wf _ _ sts).then (sent_wf _ _ (by decide))
  simp only [woSettle]
  split
  · exact (shown.then (sent_wf _ _ sts)).then (((sent_wf _ _ sts).then (sent_setWo _ _)).then (sent_lifeInc 15))
  · exact shown
theorem sent_woDrop (p k : Nat) : sent 0 s (s.woDrop p k) :=
  (sent_inc _ (not_avalReg_of_lt (by simp only [HUB_AVAL_CFG.a, TEL_WO_DROP.V, TEL_WO_DROP.a]; omega))).then (sent_setWo _ _)
theorem sent_evictFor (p n fuel : Nat) (s : State) : sent 0 s (evictFor p n fuel s) := by
  induction fuel generalizing s with
  | zero => exact .refl s
  | succ k ih =>
    simp only [evictFor]
    split
    · exact .refl s
    · split
      · exact .refl s
      · exact ((sent_setWoItems _ _).then (sent_woDrop _ _)).then (ih _)
theorem sent_offer (p : Nat) (it : Item) : sent 0 s (s.offer p it) := by
  unfold offer
  extract_lets n s1 o lim
  have room : sent 0 s s1 := by
    show sent 0 s (if _ then _ else _)
    split
    · exact sent_evictFor ..
    · exact .refl s
  clear_value s1
  split
  · exact room.then ((sent_setWoItems _ _).then (sent_woSettle _))
  · exact room.then ((sent_woDrop _ _).then (sent_woSettle _))
theorem sent_sendEvents (fuel : Nat) (s : State) : sent 0 s (sendEvents fuel s) := by
  induction fuel generalizing s with
  | zero => exact .refl s
  | succ k ih =>
    simp only [sendEvents]
    split
    · exact .refl s
    · refine sent.then ?_ (ih _)
      exact ⟨rfl, rfl, rfl, rfl, rfl, rfl⟩
theorem sent_ringRecord (bs : List Byte) : sent 0 s (s.ringRecord bs) := by
  simp only [ringRecord]
  split
  · exact .refl s
  · split
    · split
      · exact (sent_of_frame (frame_withMem (ch := [.mem]) (rg := fun _ => False) _ (by decide)) (by decide) (fun _ _ => id)).then (sent_wf _ _ (by decide))
      · exact sent_wf _ _ (by decide)
    · exact sent_wf _ _ (by decide)
theorem sent_cairnRec (kind time : Nat) (body : List Byte) : sent 0 s (s.cairnRec kind time body) := by
  simp only [cairnRec]
  split
  · exact (sent_inc _ (by decide)).then (sent_lifeInc 17)
  · exact (sent_of_frame (frame_withCairn (ch := [.cairn]) (rg := fun _ => False) _ (by decide)) (by decide) (fun _ _ => id)).then (sent_wf _ _ (by decide))
theorem sent_cairnFault (sev last : Nat) (bs : List Byte) : sent 0 s (s.cairnFault sev last bs) := by
  have rate (v : CairnSt) : sent 0 s (s.withCairn v) :=
    sent_of_frame (frame_withCairn (ch := [.cairn]) (rg := fun _ => False) v (by decide)) (by decide) (fun _ _ => id)
  unfold cairnFault
  extract_lets sec n
  split
  · exact .refl s
  · split
    · exact (rate _).then (sent_inc _ (by decide))
    · exact (rate _).then (sent_cairnRec ..)
theorem sent_trace (p q h : Nat) (l : List Byte) : sent 0 s (s.trace p q h l) := by
  unfold trace
  split
  · exact sent_offer ..
  · exact .refl s

/-- A record on its way takes one number. -/
theorem sent_sendRecord (r : FaultRec) (n f l : Nat) : sent 1 s (s.sendRecord r n f l) := by
  unfold sendRecord
  extract_lets q bytes prio src0 s1 s2 s3 s4 s5
  have h1 : sent 1 s s1 := ⟨rfl, rfl, rfl, rfl, rfl, rfl⟩
  have h4 : sent 0 s1 s4 := ((sent_offer 1 _).then (sent_sendEvents 1 _)).then (sent_ringRecord _)
  have h5 : sent 0 s4 s5 := by
    show sent 0 s4 (if _ then _ else _)
    split
    · exact sent_offer ..
    · exact .refl s4
  exact h1.trans (h4.then (h5.then (sent_cairnFault ..)))

/-! ## Occurrences -/

/-- An occurrence counted, before it is coalesced (R552, R560). -/
def countedFault (s : State) (r : FaultRec) : State := (match lifeWord r with | some i => s.lifeInc i | none => s).inc HUB_FAULT_CNT.V

theorem countedFault_fault (r : FaultRec) : (s.countedFault r).fault = s.fault := by
  rw [countedFault, inc_fault]
  split
  · exact inc_fault ..
  · rfl
theorem reg_countedFault (r : FaultRec) : (s.countedFault r).reg HUB_FAULT_CNT.a = Word.ofN ((s.reg HUB_FAULT_CNT.a).toNat + 1) := by
  have life : (match lifeWord r with | some i => s.lifeInc i | none => s).reg HUB_FAULT_CNT.a = s.reg HUB_FAULT_CNT.a := by
    split
    · exact (sent_lifeInc _).counted
    · rfl
  rw [countedFault, inc, ← life]
  exact reg_count_self ..

/-- An occurrence raises nothing and takes no unit out of service. -/
theorem raised_occur (r : FaultRec) (n : Nat) :
    (s.occur r n).fault.raised = s.fault.raised ∧ (s.occur r n).fault.outUnits = s.fault.outUnits := by
  have record {v : State} (hv : v.fault.raised = s.fault.raised ∧ v.fault.outUnits = s.fault.outUnits) (q : FaultRec) :
      (v.sendRecord q 1 n n).fault.raised = s.fault.raised ∧ (v.sendRecord q 1 n n).fault.outUnits = s.fault.outUnits :=
    have h := sent_sendRecord (s := v) q 1 n n
    ⟨h.raised.trans hv.1, h.outUnits.trans hv.2⟩
  have h0 := countedFault_fault (s := s) r
  unfold occur
  extract_lets s0 win src0 s1 sec mask src1 s2
  have counted : s0.fault.raised = s.fault.raised ∧ s0.fault.outUnits = s.fault.outUnits :=
    ⟨congrArg (·.raised) h0, congrArg (·.outUnits) h0⟩
  clear_value s0
  split
  · rw [withFault_fault]; exact counted
  · split
    · exact record counted r
    · split
      · refine record ?_ r
        rw [wf_fault, withFault_fault]; exact counted
      · have e1 : s1.fault = s0.fault := inc_fault ..
        have overflowed : s2.fault.raised = s.fault.raised ∧ s2.fault.outUnits = s.fault.outUnits :=
          ⟨(congrArg (·.raised) e1).trans counted.1, (congrArg (·.outUnits) e1).trans counted.2⟩
        clear_value s2
        split
        · exact overflowed
        · exact record (by rw [inc_fault]; exact overflowed) _

/-- The first entry of the table is opened for a fault (R550, R551). -/
def opened (s : State) (r : FaultRec) (n : Nat) : State :=
  (s.withFault { s.fault with aval := [⟨0, r, 0, n, n, n, s.rf HUB_AVAL_CFG.WINDOW_MS⟩] }).wf HUB_AVAL_STS.USED 1

theorem window_countedFault (r : FaultRec) : (s.countedFault r).rf HUB_AVAL_CFG.WINDOW_MS = s.rf HUB_AVAL_CFG.WINDOW_MS := by
  have life : (match lifeWord r with | some i => s.lifeInc i | none => s).reg HUB_AVAL_CFG.a = s.reg HUB_AVAL_CFG.a := by
    split
    · exact (sent_lifeInc _).window
    · rfl
  rw [rf, rf, countedFault, inc, reg_count_ne _ _ _ _ (by decide)]
  exact congrArg (fun w : Word => w.field _ _) life
theorem avalSlot_nil (sev : Nat) : avalSlot [] sev = some 0 := by
  unfold avalSlot; split <;> rfl

/-- An occurrence under an empty table is recorded at once, and opens an entry while WINDOW_MS is not 0. -/
theorem occur_first (r : FaultRec) (n : Nat) (ha : s.fault.aval = []) :
    s.occur r n = (if s.rf HUB_AVAL_CFG.WINDOW_MS = 0 then s.countedFault r else (s.countedFault r).opened r n).sendRecord r 1 n n := by
  have h0 : (s.countedFault r).fault.aval = [] := by rw [countedFault_fault, ha]
  rw [← window_countedFault r, opened]
  unfold occur
  generalize e : (match lifeWord r with | some i => s.lifeInc i | none => s).inc HUB_FAULT_CNT.V = u
  rw [countedFault, e] at h0 ⊢
  simp only [h0, List.find?_nil, avalSlot_nil]
  split <;> rfl

theorem noted_occur (r : FaultRec) (n : Nat) : noted s (s.occur r n) r.cls r.code r.sev r.status := by
  intro ha
  have c0 := reg_countedFault (s := s) r
  have q0 : (s.countedFault r).fault.seqno = s.fault.seqno := congrArg (·.seqno) (countedFault_fault r)
  rw [occur_first r n ha]
  split
  case isTrue closed =>
    have h := sent_sendRecord (s := s.countedFault r) r 1 n n
    exact ⟨h.counted.trans c0, by rw [h.seqno, q0], fun hw => absurd closed hw⟩
  case isFalse =>
    have h := sent_sendRecord (s := (s.countedFault r).opened r n) r 1 n n
    refine ⟨h.counted.trans ?_, h.seqno.trans ?_, fun _ => ⟨_, h.aval.trans (by rw [opened, wf_fault, withFault_fault]), rfl, rfl, rfl, rfl⟩⟩
    · rw [opened, reg_wf_ne _ _ _ _ (by decide)]; exact c0
    · rw [opened, wf_fault, withFault_fault]; exact congrArg (· + 1) q0

/-- A NOTE or an ALARM is recorded as it is reported. -/
theorem noted_report {r : FaultRec} (h : r.sev < 2) : noted s (s.report r) r.cls r.code r.sev r.status := by
  rw [report, if_neg (by omega)]
  exact noted_occur r _
/-- Steps before the record that leave the account alone. -/
theorem noted_of_sent {c d e f : Nat} (h : sent 0 s t) (k : noted t u c d e f) : noted s u c d e f := fun ha => by
  obtain ⟨counted, seqno, entry⟩ := k (h.aval.trans ha)
  refine ⟨by rw [counted, h.counted], by rw [seqno, h.seqno], fun hw => entry ?_⟩
  rwa [rf, show HUB_AVAL_CFG.WINDOW_MS.a = HUB_AVAL_CFG.a from rfl, h.window]
/-- Steps after it that do. -/
theorem noted_then_sent {c d e f : Nat} (k : noted s t c d e f) (h : sent 0 t u) : noted s u c d e f := fun ha => by
  obtain ⟨counted, seqno, entry⟩ := k ha
  exact ⟨h.counted.trans counted, h.seqno.trans seqno, fun hw => by rw [h.aval]; exact entry hw⟩

theorem raised_report_alarm {r : FaultRec} (h : r.sev < 2) : (s.report r).fault.raised = s.fault.raised := by
  rw [report, if_neg (by omega)]
  exact (raised_occur ..).1
theorem outUnits_report (r : FaultRec) : (s.report r).fault.outUnits = s.fault.outUnits := by
  unfold report
  split
  · rfl
  · exact (raised_occur ..).2

end Sys2Proof.Machine.State
end

section
/-! PROOF. The crampon: the estimate, the bubble fraction, the ceiling and the calibration (R478 to R482, R486). -/
namespace Sys2Proof.Machine.State
variable {s t : State}

theorem reg_withPower (v : PowerSt) (a : Nat) : (s.withPower v).reg a = s.reg a := rfl
theorem rf_withPower (v : PowerSt) (x : Rf) : (s.withPower v).rf x = s.rf x := rfl
/-- A field of a register that holds the same word. -/
theorem rf_of_reg {x : Rf} {a : Nat} (hx : x.a = a) (h : t.reg a = s.reg a) : t.rf x = s.rf x := by rw [rf, rf, hx, h]
theorem rb_of_reg {x : Rf} {a : Nat} (hx : x.a = a) (h : t.reg a = s.reg a) : t.rb x = s.rb x := by rw [rb, rb, rf_of_reg hx h]
theorem rf_count {x y : Rf} (n : Nat) (h : y.a ≠ x.a) : (s.count x n).rf y = s.rf y := by rw [rf, rf, reg_count_ne _ _ _ _ h]
/-- No record counts in the power block, nor in a harness's block. -/
theorem not_recordReg_power {x : Rf} (h : x.a < 0x340000 ∧ 0x100000 ≤ x.a) : ¬ recordReg x.a := not_recordReg_hrn h.2 h.1
theorem power_of_frame {ch : List Part} {rg : Nat → Prop} (h : frame s t ch rg) (hp : Part.power ∉ ch) : t.power = s.power := h.1 _ hp
theorem ofN_toNat (w : Word) : Word.ofN w.toNat = w := BitVec.ofNat_toNat ..

/-! ## Energy accounts (R173, R486) -/

theorem frame_charge (h n : Nat) : frame s (s.charge h n) (.power :: recordParts) (fun a => a = HRN_ENERGY_UJ.a h ∨ recordReg a) := by
  have account : frame s (s.withPower { s.power with frac := sparseSet (fun _ => 0) s.power.frac h (((lookupKey s.power.frac h).getD 0 + n) % 1000) })
      (.power :: recordParts) (fun a => a = HRN_ENERGY_UJ.a h ∨ recordReg a) := frame_withPower _ (by decide)
  unfold charge
  extract_lets t src s1 old lim s2
  have whole : frame s s2 (.power :: recordParts) (fun a => a = HRN_ENERGY_UJ.a h ∨ recordReg a) :=
    frame_trans account (frame_count _ _ (.inl rfl) (by decide))
  split
  · exact account
  · split
    · exact frame_trans whole (frame_mono (recorded_report _ (show clPOWER < 256 by decide)) (by decide) (fun _ => .inr))
    · exact whole
/-- Whole microjoules reach the account. -/
theorem reg_charge {h : Nat} (hh : h < 4096) (n : Nat) :
    (s.charge h n).reg (HRN_ENERGY_UJ.a h) = Word.ofN ((s.reg (HRN_ENERGY_UJ.a h)).toNat + ((lookupKey s.power.frac h).getD 0 + n) / 1000) := by
  unfold charge
  extract_lets t src s1 old lim s2
  have whole : s2.reg (HRN_ENERGY_UJ.a h) = Word.ofN ((s.reg (HRN_ENERGY_UJ.a h)).toNat + t / 1000) := reg_count_self s1 (HRN_ENERGY_UJ.V h) (t / 1000)
  split
  case isTrue part =>
    rw [Nat.div_eq_of_lt part, Nat.add_zero, ofN_toNat]; rfl
  case isFalse =>
    split
    · have apart : ¬ recordReg (HRN_ENERGY_UJ.a h) :=
        not_recordReg_hrn (by simp only [HRN_ENERGY_UJ.a]; omega) (by simp only [HRN_ENERGY_UJ.a]; omega)
      rw [(recorded_report (s := s2) _ (show clPOWER < 256 by decide)).2.1 _ apart, whole]
    · exact whole
/-- A charge changes the fractions alone of what the crampon holds. -/
theorem power_charge (h n : Nat) : (s.charge h n).power = { s.power with frac := (s.charge h n).power.frac } := by
  unfold charge
  extract_lets t src s1 old lim s2
  have whole : s2.power = s1.power := count_power ..
  split
  · rfl
  · split
    · rw [power_of_frame (recorded_report (s := s2) _ (show clPOWER < 256 by decide)) (by decide), whole]; rfl
    · rw [whole]; rfl
theorem frame_countJoules (n : Nat) : frame s (s.countJoules n) recordParts recordReg := by
  simp only [countJoules]
  split
  · exact frame_withCairn _ (by decide)
  · exact frame_trans (frame_withCairn _ (by decide)) (frame_count _ _ (.inr (by decide)) (by decide))

/-! ## The interval (R478, R479) -/

/-- The estimate `p` and what is lent, as the interval shows them. -/
def shown (s : State) (p lent : Nat) : State :=
  ((s.count PWR_CNT_BUBBLE.V (s.rf PWR_STS.CORE_MHZ_ACT * s.rf PWR_STS.BUBBLE / 4)).wf PWR_STS.EST_W (min 4095 (p / 16384 / 1000))).wf PWR_STS.LENT_W lent
/-- The estimate summed for the next calibration. -/
def metered (s : State) (p lent : Nat) : State :=
  (s.shown p lent).withPower { (s.shown p lent).power with est := p, sum := (s.shown p lent).power.sum + p }
/-- The bubble fraction of the next interval, from that of this one, `b`. -/
def bubbling (s : State) (p pcd b : Nat) : State :=
  if pcd = 0 then (s.freeW.2).wf PWR_STS.BUBBLE (s.freeW.1.toNat % 57) else s.wf PWR_STS.BUBBLE (nextBubble p pcd (s.rf PWR_CTL.CAP_W) b)

theorem interval_bare (hc : s.crampon = true) (dyn cd leak lent : Nat) :
    s.interval dyn cd leak lent [] [] =
      (((s.metered (s.rf PWR_CAL.K * dyn + leak * 16384) lent).bubbling (s.rf PWR_CAL.K * dyn + leak * 16384) (s.rf PWR_CAL.K * cd)
        (s.rf PWR_STS.BUBBLE)).charge 0 ((s.rf PWR_CAL.K * dyn + leak * 16384) / 16384)).countJoules
        ((s.rf PWR_CAL.K * dyn + leak * 16384) / 16384) := by
  unfold interval metered bubbling
  rw [if_neg (by rw [hc]; decide)]
  rfl

theorem reg_shown (p lent : Nat) {a : Nat} (h1 : a ≠ PWR_STS.a) (h2 : a ≠ PWR_CNT_BUBBLE.a) : (s.shown p lent).reg a = s.reg a := by
  rw [shown, reg_wf_ne _ _ _ _ h1, reg_wf_ne _ _ _ _ h1, reg_count_ne _ _ _ _ h2]
/-- What an estimate shows and keeps. -/
theorem metered_shows (p : Nat) {lent : Nat} (hl : lent < 4096) :
    (s.metered p lent).rf PWR_STS.EST_W = min 4095 (p / 16384 / 1000) ∧ (s.metered p lent).rf PWR_STS.LENT_W = lent ∧
    (s.metered p lent).power = { s.power with est := p, sum := s.power.sum + p } ∧
    (s.metered p lent).rf PWR_STS.CORE_MHZ_ACT = s.rf PWR_STS.CORE_MHZ_ACT ∧ ∀ a, a ≠ PWR_STS.a → a ≠ PWR_CNT_BUBBLE.a → (s.metered p lent).reg a = s.reg a := by
  have power : (s.shown p lent).power = s.power := by rw [shown, wf_power, wf_power, count_power]
  refine ⟨?_, ?_, ?_, ?_, fun a h1 h2 => ?_⟩
  · rw [metered, rf_withPower, shown, rf_wf_apart _ (by decide), rf_wf_fits (by decide) (Nat.lt_of_le_of_lt (Nat.min_le_left ..) (by decide))]
  · rw [metered, rf_withPower, shown, rf_wf_fits (by decide) hl]
  · rw [metered, withPower_power, power]
  · rw [metered, rf_withPower, shown, rf_wf_apart _ (by decide), rf_wf_apart _ (by decide), rf_count _ (by decide)]
  · rw [metered, reg_withPower, reg_shown p lent h1 h2]

theorem nextBubble_le (p pcd cap b : Nat) : nextBubble p pcd cap b ≤ 56 := by
  unfold nextBubble; simp only; omega
/-- The bubble fraction is at most 56, and is that of R479 where the CORE domain draws power. -/
theorem bubbling_shows (p pcd b : Nat) :
    (s.bubbling p pcd b).rf PWR_STS.BUBBLE ≤ 56 ∧ (pcd ≠ 0 → (s.bubbling p pcd b).rf PWR_STS.BUBBLE = nextBubble p pcd (s.rf PWR_CTL.CAP_W) b) ∧
    (s.bubbling p pcd b).power = s.power ∧ (∀ x : Rf, apart PWR_STS.BUBBLE x → (s.bubbling p pcd b).rf x = s.rf x) ∧
    ∀ a, a ≠ PWR_STS.a → (s.bubbling p pcd b).reg a = s.reg a := by
  have fits {n : Nat} (h : n ≤ 56) (u : State) : (u.wf PWR_STS.BUBBLE n).rf PWR_STS.BUBBLE = n := rf_wf_fits (by decide) (Nat.lt_of_le_of_lt h (by decide))
  unfold bubbling
  split
  case isTrue h0 =>
    have le : s.freeW.1.toNat % 57 ≤ 56 := Nat.le_of_lt_succ (Nat.mod_lt _ (by decide))
    exact ⟨by rw [fits le]; exact le, fun h => absurd h0 h, wf_power .., fun x hx => rf_wf_apart _ hx, fun a ha => reg_wf_ne _ _ _ _ ha⟩
  case isFalse h0 =>
    have le := nextBubble_le p pcd (s.rf PWR_CTL.CAP_W) b
    exact ⟨by rw [fits le]; exact le, fun _ => fits le s, wf_power .., fun x hx => rf_wf_apart _ hx, fun a ha => reg_wf_ne _ _ _ _ ha⟩

/-! ## The ceiling (R480) -/

/-- The ceiling `n` steps of 100 MHz below the grade limit, in force and traced. -/
def ceiled (s : State) (n : Nat) : State :=
  let u := (s.withPower { s.power with steps := n }).setClock
  u.trace 6 (unitHub 2) 0 (bytesLE 2 u.ceilingMhz)

theorem ceilingStep_down (hc : s.crampon = true) (hb : s.rf PWR_STS.BUBBLE = 56) (ho : s.overCap = true) (h8 : 800 < s.ceilingMhz) :
    s.ceilingStep = (s.ceiled (s.power.steps + 1)).inc PWR_CNT_STEPDOWN.V := by
  simp [ceilingStep, ceiled, hc, hb, ho, h8]
theorem ceilingStep_up (hc : s.crampon = true) (hb : s.rf PWR_STS.BUBBLE < 32) {k : Nat} (hk : s.power.steps = k + 1) : s.ceilingStep = s.ceiled k := by
  have h56 : s.rf PWR_STS.BUBBLE ≠ 56 := by omega
  simp [ceilingStep, ceiled, hc, h56, hb, hk]

theorem ceiled_shows (n : Nat) :
    (s.ceiled n).power = { s.power with steps := n } ∧
    (s.ceiled n).rf PWR_STS.CORE_MHZ_ACT = min (s.rf PWR_CTL.CORE_MHZ) (gradeMhz - 100 * n) ∧
    (s.ceiled n).reg PWR_CNT_STEPDOWN.a = s.reg PWR_CNT_STEPDOWN.a := by
  have traced := recorded_trace (s := (s.withPower { s.power with steps := n }).setClock) 6 (unitHub 2) 0
    (bytesLE 2 (s.withPower { s.power with steps := n }).setClock.ceilingMhz)
  refine ⟨?_, ?_, ?_⟩
  · exact (power_of_frame traced (by decide)).trans rfl
  · refine (rf_of_frame traced (not_recordReg_power (x := PWR_STS.CORE_MHZ_ACT) (by decide))).trans ?_
    rw [setClock, rf_wf_apart _ (by decide)]
    exact rf_wf_fits (by decide) (Nat.lt_of_le_of_lt (Nat.min_le_left ..) (rf_lt PWR_CTL.CORE_MHZ))
  · refine (traced.2.1 _ (not_recordReg_power (x := PWR_CNT_STEPDOWN.V) (by decide))).trans ?_
    rw [setClock, reg_wf_ne _ _ _ _ (by decide), reg_wf_ne _ _ _ _ (by decide)]; rfl

theorem powerCap_reports (hc : s.crampon = true) (h8 : s.ceilingMhz = 800) (ho : s.overCap = true) :
    s.powerCap = s.report ⟨clPOWER, 0x01, 1, stOK, unitHub 2, 0, s.powerDetail⟩ := by
  simp [powerCap, hc, h8, ho]

/-! ## Calibration (R482) -/

/-- What a calibration fault leaves: K as it is, the fault shown and recorded. -/
theorem calFault_shows :
    (s.calFault).rf PWR_CAL.K = s.rf PWR_CAL.K ∧ (s.calFault).rf PWR_CAL.RAIL_W = s.rf PWR_CAL.RAIL_W ∧
    (s.calFault).rb PWR_STS.CAL_FAULT = true ∧ noted s s.calFault clPOWER 2 1 0 ∧ (s.calFault).power = { s.power with good := 0 } := by
  have reported := recorded_report (s := (s.withPower { s.power with good := 0 }).wf PWR_STS.CAL_FAULT 1)
    ⟨clPOWER, 0x02, 1, stOK, unitHub 2, 0, (s.withPower { s.power with good := 0 }).powerDetail⟩ (show clPOWER < 256 by decide)
  have before : sent 0 s ((s.withPower { s.power with good := 0 }).wf PWR_STS.CAL_FAULT 1) :=
    (sent_of_frame (frame_withPower (ch := [.power]) (rg := fun _ => False) _ (by decide)) (by decide) (fun _ _ => id)).then (sent_wf _ _ (by decide))
  refine ⟨?_, ?_, ?_, ?_, ?_⟩
  · exact (rf_of_frame reported (not_recordReg_power (x := PWR_CAL.K) (by decide))).trans (rf_wf_reg _ _ _ _ (by decide))
  · exact (rf_of_frame reported (not_recordReg_power (x := PWR_CAL.RAIL_W) (by decide))).trans (rf_wf_reg _ _ _ _ (by decide))
  · exact (rb_of_frame reported (not_recordReg_power (x := PWR_STS.CAL_FAULT) (by decide))).trans (rb_wf_self _ _ (by decide))
  · exact noted_of_sent before (noted_report (show 1 < 2 by decide))
  · exact (power_of_frame reported (by decide)).trans rfl

/-- What a good calibration to `k` leaves. -/
theorem calGood_shows {k : Nat} (hk : k < 65536) :
    (s.calGood k).rf PWR_CAL.K = k ∧ (s.calGood k).rf PWR_CAL.RAIL_W = s.rf PWR_CAL.RAIL_W ∧
    (s.calGood k).power = { s.power with good := s.power.good + 1 } ∧ (100 ≤ s.power.good + 1 → (s.calGood k).rb PWR_STS.CAL_FAULT = false) := by
  have fits (u : State) : (u.wf PWR_CAL.K k).rf PWR_CAL.K = k := rf_wf_fits (by decide) hk
  unfold calGood
  simp only
  split
  case isTrue =>
    refine ⟨?_, ?_, rfl, fun _ => rb_wf_self _ _ (by decide)⟩
    · rw [rf_wf_reg _ _ _ _ (by decide), rf_withPower, fits]
    · rw [rf_wf_reg _ _ _ _ (by decide), rf_withPower, rf_wf_apart _ (by decide)]
  case isFalse few =>
    exact ⟨(rf_withPower ..).trans (fits s), (rf_withPower ..).trans (rf_wf_apart _ (by decide)), rfl, fun h => absurd h few⟩

/-- The millisecond's sum taken, and its rail measurement shown. -/
def railed (s : State) (v : BitVec 40) : State :=
  (s.withPower { s.power with sum := 0, miss := 0 }).wf PWR_CAL.RAIL_W (min 4095 (v.toNat / 1000000))

theorem railed_shows (v : BitVec 40) :
    (s.railed v).rf PWR_CAL.K = s.rf PWR_CAL.K ∧ (s.railed v).rf PWR_CAL.RAIL_W = min 4095 (v.toNat / 1000000) ∧
    (s.railed v).power = { s.power with sum := 0, miss := 0 } ∧ sent 0 s (s.railed v) := by
  refine ⟨?_, ?_, rfl, ?_⟩
  · rw [railed, rf_wf_apart _ (by decide), rf_withPower]
  · exact rf_wf_fits (by decide) (Nat.lt_of_le_of_lt (Nat.min_le_left ..) (by decide))
  · exact (sent_of_frame (frame_withPower (ch := [.power]) (rg := fun _ => False) _ (by decide)) (by decide) (fun _ _ => id)).then (sent_wf _ _ (by decide))

section
variable (hc : s.crampon = true) (v : BitVec 40)
include hc

/-- A calibration of a millisecond with energy estimated, by its ratio `a` over the estimate. -/
theorem calibrate_some (he : s.power.sum ≠ 0) :
    s.calibrate (some v) =
      let u := s.railed v
      let a := u.rf PWR_CAL.K * v.toNat * 16384
      if 10 * a < 131072 * s.power.sum then (u.wf PWR_CAL.K 13108).calFault
      else if 20480 * s.power.sum < a then (u.wf PWR_CAL.K 20480).calFault
      else (u.freeW.2).calGood (max 13108 (min 20480 (a / s.power.sum + if a % s.power.sum = 0 then 0 else u.freeW.1.toNat % 2))) := by
  unfold calibrate railed
  rw [if_neg (by rw [hc]; decide)]
  simp only [if_neg he]
  rfl

omit hc in
/-- A rail measurement that leaves K at a bound, with a calibration fault. -/
theorem calFault_railed {k : Nat} (hk : k < 65536) :
    let t := ((s.railed v).wf PWR_CAL.K k).calFault
    t.rf PWR_CAL.K = k ∧ t.rb PWR_STS.CAL_FAULT = true ∧ noted s t clPOWER 2 1 0 ∧ t.power.sum = 0 ∧ t.power.miss = 0 ∧
    t.rf PWR_CAL.RAIL_W = min 4095 (v.toNat / 1000000) := by
  obtain ⟨-, rail, power, before⟩ := railed_shows (s := s) v
  obtain ⟨gain, railKept, fault, note, after⟩ := calFault_shows (s := (s.railed v).wf PWR_CAL.K k)
  refine ⟨gain.trans (rf_wf_fits (by decide) hk), fault, noted_of_sent (before.then (sent_wf _ _ (by decide))) note, ?_, ?_, ?_⟩
  · rw [after, wf_power, power]
  · rw [after, wf_power, power]
  · rw [railKept, rf_wf_apart _ (by decide), rail]

/-- A calibration of a millisecond without a rail measurement. -/
theorem calibrate_none :
    s.calibrate none =
      let u := s.withPower { s.power with sum := 0, miss := s.power.miss + 1, good := 0 }
      if (s.power.miss + 1) % 10 = 0 then u.calFault else u := by
  unfold calibrate
  rw [if_neg (by rw [hc]; decide)]
  rfl

end

/-! ## The clauses of the crampon -/

section
variable (hc : s.crampon = true)
include hc

/-- A 1 µs boundary: the estimate, the bubble fraction, and the energy that no share claims (R478, R479, R486). -/
theorem interval_estimates (dyn cd leak lent : Nat) (hl : lent < 4096) {p : Nat} (hp : p = s.rf PWR_CAL.K * dyn + leak * 16384) :
    let t := s.interval dyn cd leak lent [] []
    t.rf PWR_STS.EST_W = min 4095 (p / 16384 / 1000) ∧ t.rf PWR_STS.LENT_W = lent ∧ t.rf PWR_STS.BUBBLE ≤ 56 ∧
    (s.rf PWR_CAL.K * cd ≠ 0 → t.rf PWR_STS.BUBBLE = nextBubble p (s.rf PWR_CAL.K * cd) (s.rf PWR_CTL.CAP_W) (s.rf PWR_STS.BUBBLE)) ∧
    t.power.est = p ∧ t.power.sum = s.power.sum + p ∧
    t.reg (HRN_ENERGY_UJ.a 0) = Word.ofN ((s.reg (HRN_ENERGY_UJ.a 0)).toNat + ((lookupKey s.power.frac 0).getD 0 + p / 16384) / 1000) ∧
    t.rf PWR_STS.CORE_MHZ_ACT = s.rf PWR_STS.CORE_MHZ_ACT ∧ t.rf PWR_CAL.K = s.rf PWR_CAL.K := by
  obtain ⟨est, lentShown, power1, mhz, regs1⟩ := metered_shows (s := s) p hl
  obtain ⟨le, next, power2, rest, regs2⟩ := bubbling_shows (s := s.metered p lent) p (s.rf PWR_CAL.K * cd) (s.rf PWR_STS.BUBBLE)
  rw [interval_bare hc, ← hp]
  generalize (s.metered p lent).bubbling p (s.rf PWR_CAL.K * cd) (s.rf PWR_STS.BUBBLE) = u at *
  have joules := frame_countJoules (s := u.charge 0 (p / 16384)) (p / 16384)
  have kept {x : Rf} (hx : 0x300000 ≤ x.a ∧ x.a < 0x301000) : ((u.charge 0 (p / 16384)).countJoules (p / 16384)).rf x = u.rf x :=
    (rf_of_frame joules (not_recordReg_hrn (by omega) (by omega))).trans (rf_of_frame (frame_charge 0 (p / 16384))
      (not_or_intro (by simp only [HRN_ENERGY_UJ.a]; omega) (not_recordReg_hrn (by omega) (by omega))))
  have power : ((u.charge 0 (p / 16384)).countJoules (p / 16384)).power = { u.power with frac := (u.charge 0 (p / 16384)).power.frac } :=
    (power_of_frame joules (by decide)).trans (power_charge 0 _)
  have cap : (s.metered p lent).rf PWR_CTL.CAP_W = s.rf PWR_CTL.CAP_W := rf_of_reg rfl (regs1 _ (by decide) (by decide))
  have energy : u.reg (HRN_ENERGY_UJ.a 0) = s.reg (HRN_ENERGY_UJ.a 0) := (regs2 _ (by decide)).trans (regs1 _ (by decide) (by decide))
  refine ⟨?_, ?_, ?_, fun h => ?_, ?_, ?_, ?_, ?_, ?_⟩
  · rw [kept (by decide), rest _ (by decide), est]
  · rw [kept (by decide), rest _ (by decide), lentShown]
  · rw [kept (by decide)]; exact le
  · rw [kept (by decide), next h, cap]
  · rw [power, power2, power1]
  · rw [power, power2, power1]
  · rw [joules.2.1 _ (not_recordReg_hrn (by decide) (by decide)), reg_charge (by decide), energy, power2, power1]
  · rw [kept (by decide), rest _ (by decide), mhz]
  · rw [kept (by decide), rest _ (by decide)]; exact rf_of_reg rfl (regs1 _ (by decide) (by decide))

/-- A calibration with a rail measurement, by its ratio (R482). -/
theorem calibrate_measured (v : BitVec 40) (he : s.power.sum ≠ 0) {a : Nat} (ha : a = s.rf PWR_CAL.K * v.toNat * 16384) :
    let t := s.calibrate (some v)
    t.power.sum = 0 ∧ t.power.miss = 0 ∧ t.rf PWR_CAL.RAIL_W = min 4095 (v.toNat / 1000000) ∧
    (10 * a < 131072 * s.power.sum → t.rf PWR_CAL.K = 13108 ∧ t.rb PWR_STS.CAL_FAULT = true ∧ noted s t clPOWER 2 1 0) ∧
    (20480 * s.power.sum < a → t.rf PWR_CAL.K = 20480 ∧ t.rb PWR_STS.CAL_FAULT = true ∧ noted s t clPOWER 2 1 0) ∧
    (131072 * s.power.sum ≤ 10 * a → a ≤ 20480 * s.power.sum →
      13108 ≤ t.rf PWR_CAL.K ∧ t.rf PWR_CAL.K ≤ 20480 ∧ t.power.good = s.power.good + 1 ∧
      (13108 ≤ a / s.power.sum → a % s.power.sum = 0 → t.rf PWR_CAL.K = a / s.power.sum) ∧
      (100 ≤ s.power.good + 1 → t.rb PWR_STS.CAL_FAULT = false)) := by
  obtain ⟨gain, rail, power, -⟩ := railed_shows (s := s) v
  rw [calibrate_some hc v he]
  simp only [gain, ← ha]
  split
  case isTrue low =>
    obtain ⟨k, fault, note, sum, miss, shown⟩ := calFault_railed (s := s) v (k := 13108) (by decide)
    exact ⟨sum, miss, shown, fun _ => ⟨k, fault, note⟩, fun h => by omega, fun h => by omega⟩
  case isFalse notLow =>
    split
    case isTrue high =>
      obtain ⟨k, fault, note, sum, miss, shown⟩ := calFault_railed (s := s) v (k := 20480) (by decide)
      exact ⟨sum, miss, shown, fun h => absurd h notLow, fun _ => ⟨k, fault, note⟩, fun _ h => by omega⟩
    case isFalse notHigh =>
      generalize hup : (if a % s.power.sum = 0 then 0 else ((s.railed v).freeW.1).toNat % 2) = up
      have hk : max 13108 (min 20480 (a / s.power.sum + up)) ≤ 20480 := by omega
      obtain ⟨k, shown, after, many⟩ := calGood_shows (s := (s.railed v).freeW.2) (Nat.lt_of_le_of_lt hk (by decide))
      have power' : (s.railed v).freeW.2.power = { s.power with sum := 0, miss := 0 } := power
      rw [power'] at after many
      refine ⟨by rw [after], by rw [after], shown.trans rail, fun h => absurd h notLow, fun h => absurd h notHigh, fun _ _ => ⟨?_, ?_, by rw [after], fun lo whole => ?_, many⟩⟩
      · rw [k]; omega
      · rw [k]; exact hk
      · have top : a / s.power.sum ≤ 20480 := Nat.div_le_of_le_mul (by rw [Nat.mul_comm]; omega)
        rw [if_pos whole] at hup
        rw [k, ← hup]; omega

/-- A calibration without one (R482). -/
theorem calibrate_unmeasured :
    let t := s.calibrate none
    t.power.miss = s.power.miss + 1 ∧ t.power.good = 0 ∧ t.rf PWR_CAL.K = s.rf PWR_CAL.K ∧
    ((s.power.miss + 1) % 10 = 0 → t.rb PWR_STS.CAL_FAULT = true ∧ noted s t clPOWER 2 1 0) := by
  rw [calibrate_none hc]
  have before : sent 0 s (s.withPower { s.power with sum := 0, miss := s.power.miss + 1, good := 0 }) :=
    sent_of_frame (frame_withPower (ch := [.power]) (rg := fun _ => False) _ (by decide)) (by decide) (fun _ _ => id)
  simp only
  split
  case isTrue =>
    obtain ⟨k, -, fault, note, after⟩ := calFault_shows (s := s.withPower { s.power with sum := 0, miss := s.power.miss + 1, good := 0 })
    exact ⟨congrArg (·.miss) after, congrArg (·.good) after, k, fun _ => ⟨fault, noted_of_sent before note⟩⟩
  case isFalse not10 => exact ⟨rfl, rfl, rfl, fun h => absurd h not10⟩

end

end Sys2Proof.Machine.State
end

section
/-! PROOF. Droop trips and voltage trims of the crux dies (R484, R485, R530, R570), and the obligation on power. -/
namespace Sys2Proof.Machine
namespace State
variable {s t : State} {n m : Nat}

/-! ## Droop (R484) -/

theorem droopTrip_trips (hu : awake s) (hd : s.rb (PWR_DIE_STS.DROOP n) = false) (hn : n < 16) :
    (s.droopTrip n).rb (PWR_DIE_STS.DROOP n) = true ∧
    (s.droopTrip n).reg PWR_CNT_DROOP.a = Word.ofN ((s.reg PWR_CNT_DROOP.a).toNat + 1) ∧
    s.frame (s.droopTrip n) [.power, .sticky] (fun a => a = PWR_DIE_STS.a n ∨ a = PWR_CNT_DROOP.a) := by
  have e : s.droopTrip n = ((s.wf (PWR_DIE_STS.DROOP n) 1).inc PWR_CNT_DROOP.V).withPower
      { ((s.wf (PWR_DIE_STS.DROOP n) 1).inc PWR_CNT_DROOP.V).power with
        trips := sparseSet (fun _ => 0) ((s.wf (PWR_DIE_STS.DROOP n) 1).inc PWR_CNT_DROOP.V).power.trips n
          ((lookupKey ((s.wf (PWR_DIE_STS.DROOP n) 1).inc PWR_CNT_DROOP.V).power.trips n).getD 0 + 1) } := by
    unfold droopTrip
    rw [if_neg (by rw [hu, hd]; decide)]
  have far : PWR_DIE_STS.a n ≠ PWR_CNT_DROOP.a := by simp only [PWR_DIE_STS.a, PWR_CNT_DROOP.a]; omega
  rw [e]
  refine ⟨?_, ?_, ?_⟩
  · rw [rb, rf_withPower, inc, rf_count _ far, ← rb, rb_wf_self _ _ (show 36 + 1 ≤ 64 by decide)]; rfl
  · rw [reg_withPower, ← reg_wf_ne s (PWR_DIE_STS.DROOP n) 1 _ far.symm]
    exact reg_count_self ..
  · exact frame_trans (frame_wf _ _ (.inl rfl)) (frame_trans (frame_inc _ (.inr rfl) (by decide)) (frame_withPower _ (by decide)))
theorem droopTrip_tripped (hd : s.rb (PWR_DIE_STS.DROOP n) = true) : s.droopTrip n = s := by simp [droopTrip, hd]

/-! ## The readings of a die -/

/-- The readings of crux die `n`, as its register shows them. -/
def readDie (s : State) (n : Nat) (r : DieRead) : State :=
  ((s.wf (PWR_DIE_STS.VMEAS_MV n) r.vmeas.toNat).wf (PWR_DIE_STS.SLACK_PS n) (min 255 r.slack)).wf (PWR_DIE_STS.TJ_C n) r.tj.toNat

theorem frame_readDie (n : Nat) (r : DieRead) : frame s (s.readDie n r) [] (fun a => a = PWR_DIE_STS.a n) :=
  frame_trans (frame_wf _ _ rfl) (frame_trans (frame_wf _ _ rfl) (frame_wf _ _ rfl))
theorem not_avalReg_die (n : Nat) : ¬ avalReg (PWR_DIE_STS.a n) := not_avalReg_of_lt (by simp only [HUB_AVAL_CFG.a, PWR_DIE_STS.a]; omega)
theorem sent_readDie (n : Nat) (r : DieRead) : sent 0 s (s.readDie n r) :=
  sent_of_frame (frame_readDie n r) (by simp) (fun _ ha e => not_avalReg_die n (e ▸ ha))
theorem readDie_shows (n : Nat) (r : DieRead) :
    (s.readDie n r).rf (PWR_DIE_STS.VMEAS_MV n) = r.vmeas.toNat ∧ (s.readDie n r).rf (PWR_DIE_STS.SLACK_PS n) = min 255 r.slack ∧
    (s.readDie n r).rf (PWR_DIE_STS.TJ_C n) = r.tj.toNat ∧ (s.readDie n r).rf (PWR_DIE_STS.VSET_MV n) = s.rf (PWR_DIE_STS.VSET_MV n) := by
  have meas : (PWR_DIE_STS.VMEAS_MV n).lo + (PWR_DIE_STS.VMEAS_MV n).w ≤ 64 := show 10 + 10 ≤ 64 by decide
  have slack : (PWR_DIE_STS.SLACK_PS n).lo + (PWR_DIE_STS.SLACK_PS n).w ≤ 64 := show 20 + 8 ≤ 64 by decide
  have temp : (PWR_DIE_STS.TJ_C n).lo + (PWR_DIE_STS.TJ_C n).w ≤ 64 := show 28 + 8 ≤ 64 by decide
  refine ⟨?_, ?_, ?_, ?_⟩
  · rw [readDie, rf_wf_apart _ (.inr ⟨temp, .inl (show 10 + 10 ≤ 28 by decide)⟩), rf_wf_apart _ (.inr ⟨slack, .inl (show 10 + 10 ≤ 20 by decide)⟩)]
    exact rf_wf_fits meas r.vmeas.isLt
  · rw [readDie, rf_wf_apart _ (.inr ⟨temp, .inl (show 20 + 8 ≤ 28 by decide)⟩)]
    exact rf_wf_fits slack (Nat.lt_of_le_of_lt (Nat.min_le_left ..) (show 255 < 2 ^ 8 by decide))
  · exact rf_wf_fits temp r.tj.isLt
  · rw [readDie, rf_wf_apart _ (.inr ⟨temp, .inl (show 0 + 10 ≤ 28 by decide)⟩), rf_wf_apart _ (.inr ⟨slack, .inl (show 0 + 10 ≤ 20 by decide)⟩),
      rf_wf_apart _ (.inr ⟨meas, .inl (show 0 + 10 ≤ 10 by decide)⟩)]

/-! ## A trim of one die (R485, R530, R570) -/

/-- What a trim of crux die `n` may touch beside what records touch: the die's register and the count of trims. -/
abbrev trimReg (n a : Nat) : Prop := a = PWR_DIE_STS.a n ∨ a = PWR_CNT_TRIM.a ∨ recordReg a
/-- From `s` to `t` crux die `n` alone has been trimmed. -/
def trims (s t : State) (n : Nat) : Prop := frame s t (.power :: recordParts) (trimReg n) ∧ t.fault.outUnits = s.fault.outUnits

theorem trims.refl (s : State) (n : Nat) : trims s s n := ⟨frame_refl .., rfl⟩
theorem trims.trans {u : State} (h : trims s t n) (k : trims t u n) : trims s u n := ⟨frame_trans h.1 k.1, k.2.trans h.2⟩

theorem trims_power (v : PowerSt) : trims s (s.withPower v) n := ⟨frame_withPower _ (by decide), rfl⟩
theorem trims_report (r : FaultRec) (hc : r.cls < 256) : trims s (s.report r) n :=
  ⟨frame_mono (recorded_report r hc) (by decide) (fun _ h => .inr (.inr h)), outUnits_report r⟩
theorem trims_readDie (r : DieRead) : trims s (s.readDie n r) n :=
  ⟨frame_mono (frame_readDie n r) (by simp) (fun _ => .inl), (sent_readDie n r).outUnits⟩
theorem trims_marginCrux (sev : Nat) : trims s (s.marginCrux n sev) n := (trims_power _).trans (trims_report _ (show clMARGIN < 256 by decide))
theorem trims_regulator (b : Bool) : trims s (s.regulator n b) n := by
  unfold regulator
  split
  · exact trims_power _
  · split
    · exact .refl s n
    · exact (trims_power _).trans (trims_report _ (show clPOWER < 256 by decide))
/-- A regulator that answers is recorded nowhere. -/
theorem sent_regulator : sent 0 s (s.regulator n true) := by
  rw [regulator, if_pos rfl]
  exact sent_of_frame (frame_withPower (ch := [.power]) (rg := fun _ => False) _ (by decide)) (by decide) (fun _ _ => id)
theorem sent_trimTo (v slack tj : Nat) : sent 0 s (s.trimTo n v slack tj) := by
  simp only [trimTo]
  split
  · exact .refl s
  · exact ((sent_wf _ _ (not_avalReg_die n)).then (sent_inc _ (by decide))).then ((sent_lifeInc 13).then (sent_cairnRec ..))
theorem frame_trimTo (v slack tj : Nat) : frame s (s.trimTo n v slack tj) recordParts (trimReg n) := by
  simp only [trimTo]
  split
  · exact frame_refl ..
  · refine frame_trans (frame_wf (PWR_DIE_STS.VSET_MV n) v (.inl rfl)) (frame_trans (frame_inc PWR_CNT_TRIM.V (.inr (.inl rfl)) (by decide)) ?_)
    exact frame_mono (frame_trans (recorded_lifeInc 13 (by decide)) (recorded_cairnRec ..)) (fun _ => id) (fun _ h => .inr (.inr h))
theorem trims_trimTo (v slack tj : Nat) : trims s (s.trimTo n v slack tj) n :=
  ⟨frame_mono (frame_trimTo v slack tj) (by decide) (fun _ => id), (sent_trimTo v slack tj).outUnits⟩
theorem trims_trimDie (r : DieRead) : trims s (s.trimDie n r) n := by
  unfold trimDie
  extract_lets s0 s1 v step
  have h0 : trims s s0 n := trims_readDie r
  have h1 : trims s s1 n := h0.trans (trims_regulator _)
  split
  · exact h0
  · split
    · exact h1
    · split
      · exact h1.trans (trims_trimTo ..)
      · split
        · split
          · exact h1.trans (trims_marginCrux 1)
          · exact h1.trans (trims_trimTo ..)
        · exact h1

/-- A trim of one die leaves the register of another, and the settings of the trims. -/
theorem reg_of_trims (h : trims s t m) (hn : n < 16) (hne : m ≠ n) : t.reg (PWR_DIE_STS.a n) = s.reg (PWR_DIE_STS.a n) :=
  h.1.2.1 _ (by simp only [trimReg, recordReg, PWR_DIE_STS.a, PWR_CNT_TRIM.a]; omega)
theorem trimCfg_of_trims (h : trims s t m) : t.reg PWR_TRIM_CFG.a = s.reg PWR_TRIM_CFG.a :=
  h.1.2.1 _ (by simp only [trimReg, recordReg, PWR_DIE_STS.a, PWR_CNT_TRIM.a, PWR_TRIM_CFG.a]; omega)

/-- The voltage a trim sets is in force; the rest of the die's register stays. -/
theorem trimTo_shows (hn : n < 16) {v : Nat} (hv : v < 1024) (slack tj : Nat) :
    (s.trimTo n v slack tj).rf (PWR_DIE_STS.VSET_MV n) = v ∧
    (s.trimTo n v slack tj).rf (PWR_DIE_STS.SLACK_PS n) = s.rf (PWR_DIE_STS.SLACK_PS n) := by
  simp only [trimTo]
  split
  case isTrue same => exact ⟨same.symm, rfl⟩
  case isFalse =>
    have after : frame (s.wf (PWR_DIE_STS.VSET_MV n) v) ((((s.wf (PWR_DIE_STS.VSET_MV n) v).inc PWR_CNT_TRIM.V).lifeInc 13).cairnRec 2 s.now
        (bytesLE 1 n ++ bytesLE 2 (s.rf (PWR_DIE_STS.VSET_MV n)) ++ bytesLE 2 v ++ bytesLE 2 slack ++ bytesLE 1 tj)) recordParts
        (fun a => a = PWR_CNT_TRIM.a ∨ recordReg a) :=
      frame_trans (frame_inc PWR_CNT_TRIM.V (.inl rfl) (by decide)) (frame_mono (frame_trans (recorded_lifeInc 13 (by decide)) (recorded_cairnRec ..)) (fun _ => id) (fun _ => .inr))
    have far : ¬ (PWR_DIE_STS.a n = PWR_CNT_TRIM.a ∨ recordReg (PWR_DIE_STS.a n)) := by
      simp only [recordReg, PWR_DIE_STS.a, PWR_CNT_TRIM.a]; omega
    refine ⟨(rf_of_frame after far).trans (rf_wf_fits (show 0 + 10 ≤ 64 by decide) hv), (rf_of_frame after far).trans (rf_wf_apart _ ?_)⟩
    exact .inr ⟨show 0 + 10 ≤ 64 by decide, .inr (show 0 + 10 ≤ 20 by decide)⟩
/-- The regulator and the MARGIN record leave the die's register. -/
theorem reg_regulator (hn : n < 16) (b : Bool) : (s.regulator n b).reg (PWR_DIE_STS.a n) = s.reg (PWR_DIE_STS.a n) := by
  have far : ¬ recordReg (PWR_DIE_STS.a n) := by simp only [recordReg, PWR_DIE_STS.a]; omega
  unfold regulator
  split
  · rfl
  · split
    · rfl
    · exact (recorded_report _ (show clPOWER < 256 by decide)).2.1 _ far
theorem reg_marginCrux (hn : n < 16) (sev : Nat) : (s.marginCrux n sev).reg (PWR_DIE_STS.a n) = s.reg (PWR_DIE_STS.a n) :=
  (recorded_report (s := s.withPower _) _ (show clMARGIN < 256 by decide)).2.1 _ (by simp only [recordReg, PWR_DIE_STS.a]; omega)

/-! ## The periodic trim -/

/-- Without AUTO a trim reads the die alone. -/
theorem trimDie_reads (ha : s.rb PWR_TRIM_CFG.AUTO = false) (r : DieRead) : s.trimDie n r = s.readDie n r := by
  have a0 : (s.readDie n r).rb PWR_TRIM_CFG.AUTO = false :=
    (rb_of_frame (frame_readDie n r) (by simp only [PWR_TRIM_CFG.AUTO, PWR_TRIM_CFG.a, PWR_DIE_STS.a]; omega)).trans ha
  unfold trimDie
  rw [readDie] at a0 ⊢
  simp [a0]

/-- The voltage that a trim of crux die `n` sets from `v`, by the slack. -/
def trimmedMv (n v step slack : Nat) : Nat :=
  if Config.guardUp n < slack then min v (max (Config.vFloorMv n) (v - step))
  else if slack < Config.guardLow n ∧ v < 850 then min 850 (v + step) else v

/-- With AUTO and a regulator that answers the slack is shown and the voltage trimmed. -/
theorem trimDie_trims (hn : n < 16) (ha : s.rb PWR_TRIM_CFG.AUTO = true) {r : DieRead} (hr : r.avs = true) :
    (s.trimDie n r).rf (PWR_DIE_STS.SLACK_PS n) = min 255 r.slack ∧
    (s.trimDie n r).rf (PWR_DIE_STS.VSET_MV n) = trimmedMv n (s.rf (PWR_DIE_STS.VSET_MV n)) (s.rf PWR_TRIM_CFG.STEP_MV) r.slack := by
  have far : ¬ PWR_TRIM_CFG.a = PWR_DIE_STS.a n := by simp only [PWR_TRIM_CFG.a, PWR_DIE_STS.a]; omega
  obtain ⟨-, slack, -, vset⟩ := readDie_shows (s := s) n r
  have read := frame_readDie (s := s) n r
  have step : (s.readDie n r).rf PWR_TRIM_CFG.STEP_MV = s.rf PWR_TRIM_CFG.STEP_MV := rf_of_frame read far
  have auto : (s.readDie n r).rb PWR_TRIM_CFG.AUTO = true := (rb_of_frame read far).trans ha
  have settled : trims (s.readDie n r) ((s.readDie n r).regulator n true) n := trims_regulator true
  have die : ((s.readDie n r).regulator n true).reg (PWR_DIE_STS.a n) = (s.readDie n r).reg (PWR_DIE_STS.a n) := reg_regulator hn true
  have cfg := trimCfg_of_trims settled
  have e : s.trimDie n r =
      (if Config.guardUp n < r.slack then ((s.readDie n r).regulator n true).trimTo n (min (s.rf (PWR_DIE_STS.VSET_MV n)) (max (Config.vFloorMv n)
          (s.rf (PWR_DIE_STS.VSET_MV n) - s.rf PWR_TRIM_CFG.STEP_MV))) r.slack r.tj.toNat
        else if r.slack < Config.guardLow n then
          (if 850 ≤ s.rf (PWR_DIE_STS.VSET_MV n) then ((s.readDie n r).regulator n true).marginCrux n 1
           else ((s.readDie n r).regulator n true).trimTo n (min 850 (s.rf (PWR_DIE_STS.VSET_MV n) + s.rf PWR_TRIM_CFG.STEP_MV)) r.slack r.tj.toNat)
        else (s.readDie n r).regulator n true) := by
    have v1 : ((s.readDie n r).regulator n true).rf (PWR_DIE_STS.VSET_MV n) = s.rf (PWR_DIE_STS.VSET_MV n) :=
      (rf_of_reg (x := PWR_DIE_STS.VSET_MV n) rfl die).trans vset
    have st1 : ((s.readDie n r).regulator n true).rf PWR_TRIM_CFG.STEP_MV = s.rf PWR_TRIM_CFG.STEP_MV :=
      (rf_of_reg (x := PWR_TRIM_CFG.STEP_MV) rfl cfg).trans step
    rw [← v1, ← st1]
    unfold trimDie
    rw [readDie] at auto ⊢
    simp only [auto, hr, Bool.not_true, Bool.false_eq_true, if_false]
  generalize (s.readDie n r).regulator n true = u at die e
  have shown {x : Rf} (hx : x.a = PWR_DIE_STS.a n) : u.rf x = (s.readDie n r).rf x := rf_of_reg hx die
  have slackU : u.rf (PWR_DIE_STS.SLACK_PS n) = min 255 r.slack := (shown rfl).trans slack
  have vsetU : u.rf (PWR_DIE_STS.VSET_MV n) = s.rf (PWR_DIE_STS.VSET_MV n) := (shown rfl).trans vset
  have small : s.rf (PWR_DIE_STS.VSET_MV n) < 1024 := rf_lt (PWR_DIE_STS.VSET_MV n)
  rw [e, trimmedMv]
  split
  · obtain ⟨set, kept⟩ := trimTo_shows (s := u) hn (v := min (s.rf (PWR_DIE_STS.VSET_MV n)) (max (Config.vFloorMv n)
      (s.rf (PWR_DIE_STS.VSET_MV n) - s.rf PWR_TRIM_CFG.STEP_MV))) (by omega) r.slack r.tj.toNat
    exact ⟨kept.trans slackU, set⟩
  · split
    case isTrue low =>
      split
      case isTrue top =>
        have margin {x : Rf} (hx : x.a = PWR_DIE_STS.a n) : (u.marginCrux n 1).rf x = u.rf x := rf_of_reg hx (reg_marginCrux hn 1)
        rw [if_neg (by omega)]
        exact ⟨(margin rfl).trans slackU, (margin rfl).trans vsetU⟩
      case isFalse below =>
        obtain ⟨set, kept⟩ := trimTo_shows (s := u) hn (v := min 850 (s.rf (PWR_DIE_STS.VSET_MV n) + s.rf PWR_TRIM_CFG.STEP_MV)) (by omega) r.slack r.tj.toNat
        rw [if_pos ⟨low, by omega⟩]
        exact ⟨kept.trans slackU, set⟩
    case isFalse high =>
      rw [if_neg (fun h => high h.1)]
      exact ⟨slackU, vsetU⟩

/-- The part of the periodic trim that concerns one die. -/
def trimStep (rs : List DieRead) (t : State) (i : Nat) : State :=
  match rs[i]? with
  | some r => if t.fault.outUnits.contains (unitCrux i) then t else t.trimDie i r
  | none => t
theorem trims_trimStep (rs : List DieRead) (i : Nat) : trims s (s.trimStep rs i) i := by
  unfold trimStep
  split
  · split
    · exact .refl s i
    · exact trims_trimDie _
  · exact .refl s i

/-- From `s` to `t` the trims have left crux die `n`. -/
def untrimmed (s t : State) (n : Nat) : Prop :=
  t.reg (PWR_DIE_STS.a n) = s.reg (PWR_DIE_STS.a n) ∧ t.reg PWR_TRIM_CFG.a = s.reg PWR_TRIM_CFG.a ∧ t.fault.outUnits = s.fault.outUnits
theorem untrimmed_foldl (rs : List DieRead) (hn : n < 16) {L : List Nat} (hL : n ∉ L) : untrimmed s (L.foldl (trimStep rs) s) n := by
  refine List.foldlRecOn (motive := fun t => untrimmed s t n) _ _ ⟨rfl, rfl, rfl⟩ (fun t ht i hi => ?_)
  obtain ⟨die, cfg, out⟩ := ht
  have h := trims_trimStep (s := t) rs i
  exact ⟨(reg_of_trims h hn (fun e => hL (e ▸ hi))).trans die, (trimCfg_of_trims h).trans cfg, h.2.trans out⟩

/-- The periodic trim trims crux die `n` as it stands, and nothing else it does reaches the die. -/
theorem trimAll_die (hc : s.crampon = true) (hp : s.rf PWR_TRIM_CFG.PERIOD_S ≠ 0) (ho : s.fault.outUnits = []) (hn : n < 16)
    {rs : List DieRead} {r : DieRead} (hr : rs[n]? = some r) :
    ∃ u : State, u.reg (PWR_DIE_STS.a n) = s.reg (PWR_DIE_STS.a n) ∧ u.reg PWR_TRIM_CFG.a = s.reg PWR_TRIM_CFG.a ∧
      (s.trimAll rs).reg (PWR_DIE_STS.a n) = (u.trimDie n r).reg (PWR_DIE_STS.a n) := by
  have e : s.trimAll rs = (List.range 16).foldl (trimStep rs) s := by
    unfold trimAll
    rw [if_neg (by simp [hc, hp])]
    rfl
  obtain ⟨before, after, parts⟩ := List.append_of_mem (List.mem_range.mpr hn)
  have once := parts ▸ List.nodup_range (n := 16)
  have notBefore : n ∉ before := fun h => (List.nodup_append.mp once).2.2 n h n (List.mem_cons_self ..) rfl
  have notAfter : n ∉ after := (List.nodup_cons.mp (List.nodup_append.mp once).2.1).1
  obtain ⟨die, cfg, out⟩ := untrimmed_foldl (s := s) rs hn notBefore
  refine ⟨before.foldl (trimStep rs) s, die, cfg, ?_⟩
  have step : trimStep rs (before.foldl (trimStep rs) s) n = (before.foldl (trimStep rs) s).trimDie n r := by
    rw [trimStep, hr]
    simp [out, ho]
  rw [e, parts, List.foldl_append, List.foldl_cons, step]
  exact (untrimmed_foldl rs hn notAfter).1

/-! ## The alarm trim -/

/-- Slack below the alarm level, with AUTO and a regulator that answers: trimmed at once, and recorded (R485, R530). -/
theorem alarmTrim_low (hn : n < 16) (hc : s.crampon = true) (ho : s.fault.outUnits = []) (ha : s.rb PWR_TRIM_CFG.AUTO = true) {r : DieRead}
    (hr : r.avs = true) (hl : r.slack < Config.slackAlarm n) {v : Nat} (hv : v = s.rf (PWR_DIE_STS.VSET_MV n)) :
    (s.alarmTrim n r).rf (PWR_DIE_STS.VSET_MV n) = min (max v 850) (v + 2 * s.rf PWR_TRIM_CFG.STEP_MV) ∧
    (s.alarmTrim n r).rf (PWR_DIE_STS.SLACK_PS n) = min 255 r.slack ∧ noted s (s.alarmTrim n r) clMARGIN 1 0 0 := by
  have far : ¬ PWR_TRIM_CFG.a = PWR_DIE_STS.a n := by simp only [PWR_TRIM_CFG.a, PWR_DIE_STS.a]; omega
  obtain ⟨-, slack, -, vset⟩ := readDie_shows (s := s) n r
  have read := frame_readDie (s := s) n r
  have step : (s.readDie n r).rf PWR_TRIM_CFG.STEP_MV = s.rf PWR_TRIM_CFG.STEP_MV := rf_of_frame read far
  have auto : (s.readDie n r).rb PWR_TRIM_CFG.AUTO = true := (rb_of_frame read far).trans ha
  have quiet : sent 0 (s.readDie n r) ((s.readDie n r).regulator n true) := sent_regulator
  have die : ((s.readDie n r).regulator n true).reg (PWR_DIE_STS.a n) = (s.readDie n r).reg (PWR_DIE_STS.a n) := reg_regulator hn true
  have e : s.alarmTrim n r = (((s.readDie n r).regulator n true).trimTo n (min (max v 850) (v + 2 * s.rf PWR_TRIM_CFG.STEP_MV)) r.slack r.tj.toNat).marginCrux n 0 := by
    have v1 : ((s.readDie n r).regulator n true).rf (PWR_DIE_STS.VSET_MV n) = v :=
      ((rf_of_reg (x := PWR_DIE_STS.VSET_MV n) rfl die).trans vset).trans hv.symm
    have st1 : ((s.readDie n r).regulator n true).rf PWR_TRIM_CFG.STEP_MV = s.rf PWR_TRIM_CFG.STEP_MV :=
      (rf_of_reg (x := PWR_TRIM_CFG.STEP_MV) rfl (trimCfg_of_trims (trims_regulator true))).trans step
    have notYet : ¬ (!s.crampon || s.fault.outUnits.contains (unitCrux n) || decide (Config.slackAlarm n ≤ r.slack)) = true := by
      simp only [hc, ho, Bool.not_true, Bool.false_or, List.contains_nil, decide_eq_true_eq]; omega
    rw [← v1, ← st1]
    unfold alarmTrim
    rw [if_neg notYet]
    rw [readDie] at auto ⊢
    simp only [auto, hr, Bool.not_true, Bool.false_eq_true, if_false, if_true]
  generalize (s.readDie n r).regulator n true = u at quiet die e
  have small : v < 1024 := hv ▸ rf_lt (PWR_DIE_STS.VSET_MV n)
  obtain ⟨set, kept⟩ := trimTo_shows (s := u) hn (v := min (max v 850) (v + 2 * s.rf PWR_TRIM_CFG.STEP_MV)) (by omega) r.slack r.tj.toNat
  have before := ((sent_readDie (s := s) n r).then quiet).then (sent_trimTo (n := n) (min (max v 850) (v + 2 * s.rf PWR_TRIM_CFG.STEP_MV)) r.slack r.tj.toNat)
  generalize u.trimTo n (min (max v 850) (v + 2 * s.rf PWR_TRIM_CFG.STEP_MV)) r.slack r.tj.toNat = w at set kept before e
  have margin {x : Rf} (hx : x.a = PWR_DIE_STS.a n) : (w.marginCrux n 0).rf x = w.rf x := rf_of_reg hx (reg_marginCrux hn 0)
  rw [e]
  refine ⟨(margin rfl).trans set, (margin rfl).trans (kept.trans ((rf_of_reg (x := PWR_DIE_STS.SLACK_PS n) rfl die).trans slack)), ?_⟩
  · have forgotten : sent 0 w (w.withPower { w.power with trips := eraseKey w.power.trips n }) :=
      sent_of_frame (frame_withPower (ch := [.power]) (rg := fun _ => False) _ (by decide)) (by decide) (fun _ _ => id)
    exact noted_of_sent (before.then forgotten) (noted_report (show 0 < 2 by decide))
theorem alarmTrim_ample {r : DieRead} (hl : Config.slackAlarm n ≤ r.slack) : s.alarmTrim n r = s := by simp [alarmTrim, hl]

end State

open State

theorem exec_voltageTrim {rs : List DieRead} (h : rs.length = 16) (s : State) : exec (.voltageTrim rs) s = unheld s (s.trimAll rs) := if_pos h

/-- Settles O46: the crampon clause by clause, then the crux dies, whose trims touch one die at a time. -/
theorem powerAndVoltage : Obligations.PowerAndVoltage := by
  unfold Obligations.PowerAndVoltage
  refine ⟨fun s hu hc => ⟨fun dyn cd leak lent p hp => ?interval, fun hb ho h8 => ?down, fun k hb hk => ?up, fun h8 ho => ?cap,
    fun v a ha he => ?measured, ?unmeasured⟩, fun s n hu => ⟨fun hd => ?trip, fun hd => ?tripped, ?release,
    fun rs r v hlen hr hc hp ho hv => ⟨fun ha => ?reads, fun ha havs => ?trims⟩, fun r v hc ho ha havs hv => ?alarm⟩⟩
  case interval => exact runs_unheld hu rfl (interval_estimates hc dyn.toNat cd.toNat leak.toNat lent.toNat lent.isLt hp)
  case down =>
    obtain ⟨power, mhz, count⟩ := ceiled_shows (s := s) (s.power.steps + 1)
    have sub : gradeMhz - 100 * (s.power.steps + 1) = s.ceilingMhz - 100 := by rw [ceilingMhz]; omega
    refine runs_unheld hu rfl ?_
    rw [ceilingStep_down hc hb ho h8]
    refine ⟨?_, ?_, ?_⟩
    · rw [ceilingMhz, inc_power, power, ← sub]
    · rw [inc, rf_count _ (by decide), mhz, sub]
    · rw [← count]; exact reg_count_self ..
  case up =>
    obtain ⟨power, mhz, count⟩ := ceiled_shows (s := s) k
    refine runs_unheld hu rfl ?_
    rw [ceilingStep_up hc hb hk]
    exact ⟨by rw [power], mhz, count⟩
  case cap =>
    refine runs_unheld hu rfl ?_
    rw [powerCap_reports hc h8 ho]
    exact ⟨noted_report (show 1 < 2 by decide), recorded_report _ (show clPOWER < 256 by decide)⟩
  case measured => exact runs_unheld hu rfl (calibrate_measured hc v he ha)
  case unmeasured => exact runs_unheld hu rfl (calibrate_unmeasured hc)
  case trip => exact runs_unheld hu rfl (droopTrip_trips hu hd n.isLt)
  case tripped => exact runs_unheld hu rfl (droopTrip_tripped hd)
  case release =>
    refine runs_unheld hu rfl ⟨?_, frame_wf _ _ rfl⟩
    rw [rb_wf_self _ _ (show 36 + 1 ≤ 64 by decide)]; rfl
  case reads =>
    obtain ⟨u, die, cfg, at'⟩ := trimAll_die hc hp ho n.isLt hr
    have fromDie {x : Rf} (hx : x.a = PWR_DIE_STS.a n) : (s.trimAll rs).rf x = (u.trimDie n r).rf x := rf_of_reg hx at'
    have auto : u.rb PWR_TRIM_CFG.AUTO = false := (rb_of_reg (x := PWR_TRIM_CFG.AUTO) rfl cfg).trans ha
    obtain ⟨meas, -, temp, vset⟩ := readDie_shows (s := u) n r
    rw [trimDie_reads auto] at fromDie
    refine runs_unheld hu (exec_voltageTrim hlen s) ⟨(fromDie rfl).trans (vset.trans ((rf_of_reg (x := PWR_DIE_STS.VSET_MV n) rfl die).trans hv.symm)), (fromDie rfl).trans meas, (fromDie rfl).trans temp⟩
  case trims =>
    obtain ⟨u, die, cfg, at'⟩ := trimAll_die hc hp ho n.isLt hr
    have fromDie {x : Rf} (hx : x.a = PWR_DIE_STS.a n) : (s.trimAll rs).rf x = (u.trimDie n r).rf x := rf_of_reg hx at'
    have auto : u.rb PWR_TRIM_CFG.AUTO = true := (rb_of_reg (x := PWR_TRIM_CFG.AUTO) rfl cfg).trans ha
    have vset : u.rf (PWR_DIE_STS.VSET_MV n) = v := (rf_of_reg (x := PWR_DIE_STS.VSET_MV n) rfl die).trans hv.symm
    have step : u.rf PWR_TRIM_CFG.STEP_MV = s.rf PWR_TRIM_CFG.STEP_MV := rf_of_reg rfl cfg
    obtain ⟨slack, set⟩ := trimDie_trims (s := u) n.isLt auto havs
    rw [vset, step] at set
    exact runs_unheld hu (exec_voltageTrim hlen s) ⟨(fromDie rfl).trans slack, (fromDie rfl).trans set⟩
  case alarm =>
    refine runs_unheld hu rfl ⟨fun hl => alarmTrim_low n.isLt hc ho ha havs hl hv, fun hl => alarmTrim_ample hl⟩

end Sys2Proof.Machine
end

section
/-! PROOF. Cores: what stopping, halting and resuming one leaves (R161, R194 to R198). -/
namespace Sys2Proof.Machine
namespace State
variable {s t : State} {k : Nat}

theorem frame_withMfb_only (v : MfbSt) : frame s (s.withMfb v) [.mfb] (fun _ => False) := frame_withMfb v (by decide)
theorem frame_setCst (k : Nat) (c : CoreSt) : frame s (s.setCst k c) [.comp] (fun _ => False) := frame_withComp _ (by decide)
theorem cst_setCst_self (k : Nat) (c : CoreSt) : (s.setCst k c).cst k = c := sparseGet_set_self ..
theorem cst_setCst_ne {j : Nat} (k : Nat) (c : CoreSt) (h : j ≠ k) : (s.setCst k c).cst j = s.cst j := sparseGet_set_ne _ _ _ _ _ h
theorem cst_of_comp (h : t.comp.cores = s.comp.cores) (j : Nat) : t.cst j = s.cst j := by rw [cst, cst, h]
theorem waitOf_of_comp (h : t.comp.waits = s.comp.waits) (j : Nat) : t.waitOf j = s.waitOf j := by rw [waitOf, waitOf, h]
theorem cstate_of_frame {ch : List Part} {rg : Nat → Prop} (hf : frame s t ch rg) {k : Nat} (hr : ¬ rg (CRX_CORE_STS.a k)) : t.cstate k = s.cstate k :=
  rf_of_frame hf (x := CRX_CORE_STS.STATE k) hr
theorem coreH_of_frame {ch : List Part} {rg : Nat → Prop} (hf : frame s t ch rg) {k : Nat} (hr : ¬ rg (CRX_CORE_STS.a k)) : t.coreH k = s.coreH k :=
  rf_of_frame hf (x := CRX_CORE_STS.HARNESS k) hr
theorem pc_of_frame {ch : List Part} {rg : Nat → Prop} (hf : frame s t ch rg) {k : Nat} (hr : ¬ rg (CRX_CORE_PC.a k)) : t.pc k = s.pc k :=
  rf_of_frame hf (x := CRX_CORE_PC.V k) hr
theorem pc_ne_sts (j k : Nat) : CRX_CORE_PC.a j ≠ CRX_CORE_STS.a k := by
  simp only [CRX_CORE_PC.a, CRX_CORE_STS.a, coreBase]; omega
/-- No record counts in a core's block. -/
theorem not_recordReg_core (k o : Nat) : ¬ recordReg (coreBase k + o) := by unfold recordReg coreBase; omega

/-! ## A STATE written -/

theorem cstate_wf (k : Nat) {v : Nat} (hv : v < 8) : (s.wf (CRX_CORE_STS.STATE k) v).cstate k = v :=
  rf_wf_fits (show 0 + 3 ≤ 64 by decide) hv
theorem frame_wf_sts {x : Rf} (n : Nat) (hx : x.a = CRX_CORE_STS.a k) {ch : List Part} : frame s (s.wf x n) ch (fun a => a = CRX_CORE_STS.a k) :=
  frame_wf x n hx

/-! ## A wait dropped -/

/-- The waits other than those of core `k`. -/
def otherWaits (s : State) (k : Nat) : List Wait := s.comp.waits.filter (fun w => w.core != k)
theorem find_otherWaits_self (l : List Wait) (k : Nat) : (l.filter (fun w => w.core != k)).find? (fun w => w.core == k) = none := by
  simp [List.find?_eq_none]
theorem find_otherWaits_ne (l : List Wait) {j k : Nat} (h : j ≠ k) :
    (l.filter (fun w => w.core != k)).find? (fun w => w.core == j) = l.find? (fun w => w.core == j) := by
  rw [List.find?_filter]
  refine congrArg (fun p => l.find? p) (funext fun w => ?_)
  by_cases e : w.core = j
  · simp [e, h]
  · simp [e]
theorem waitOf_other_self (h : t.comp.waits = s.otherWaits k) : t.waitOf k = none := by rw [waitOf, h]; exact find_otherWaits_self _ k
theorem waitOf_other_ne (h : t.comp.waits = s.otherWaits k) {j : Nat} (hj : j ≠ k) : t.waitOf j = s.waitOf j := by
  rw [waitOf, h]; exact find_otherWaits_ne _ hj

theorem frame_dropWait (k : Nat) : frame s (s.dropWait k) [.comp] (fun a => a = CRX_CORE_STS.a k) :=
  frame_trans (frame_withComp _ (by decide)) (frame_wf_sts _ rfl)
theorem comp_dropWait (k : Nat) : (s.dropWait k).comp = { s.comp with waits := s.otherWaits k } := rfl
theorem state_dropWait (k : Nat) : (s.dropWait k).cstate k = s.cstate k := by
  rw [cstate, dropWait, rf_wf_apart _ (.inr ⟨show 16 + 3 ≤ 64 by decide, .inl (show 0 + 3 ≤ 16 by decide)⟩)]; rfl
theorem coreH_dropWait (k : Nat) : (s.dropWait k).coreH k = s.coreH k := by
  rw [coreH, dropWait, rf_wf_apart _ (.inr ⟨show 16 + 3 ≤ 64 by decide, .inl (show 3 + 12 ≤ 16 by decide)⟩)]; rfl

/-! ## A core coreStopped whose instructions have not started (R161) -/

/-- Every instruction in flight is core `k`'s and has not started. -/
abbrev unstarted (s : State) (k : Nat) : Prop := ∀ f ∈ s.comp.flights, f.core = k ∧ f.started = false

theorem abandon_unstarted (h : unstarted s k) :
    s.abandon k = ((s.withComp { s.comp with flights := [] }).retireSource (1152 + k)).withMfb
      { ((s.withComp { s.comp with flights := [] }).retireSource (1152 + k)).mfb with
        coreRsp := ((s.withComp { s.comp with flights := [] }).retireSource (1152 + k)).mfb.coreRsp.filter (fun r => r.core != k) } := by
  have gone : s.comp.flights.filter (fun f => f.core != k) = [] := List.filter_eq_nil_iff.mpr fun f hf => by simp [(h f hf).1]
  have none : (s.flightsOf k).filter (fun f => f.started) = [] :=
    List.filter_eq_nil_iff.mpr fun f hf => by simp [(h f (List.mem_filter.mp hf).1).2]
  unfold abandon
  rw [gone]
  simp only [none, List.flatMap_nil, scribble, List.foldl_nil]

theorem comp_abandon (h : unstarted s k) : (s.abandon k).comp = { s.comp with flights := [] } := by rw [abandon_unstarted h]; rfl
theorem frame_abandon (h : unstarted s k) : frame s (s.abandon k) [.comp, .mfb] (fun _ => False) := by
  rw [abandon_unstarted h]
  exact frame_trans (frame_withComp _ (by decide)) (frame_trans (frame_withMfb _ (by decide)) (frame_withMfb _ (by decide)))

/-- What stopping core `k` in state `st` leaves. -/
def coreStopped (s t : State) (k st : Nat) : Prop :=
  t.cstate k = st ∧ t.coreH k = s.coreH k ∧ t.comp.flights = [] ∧ t.comp.waits = s.otherWaits k ∧ t.boundCore k = s.boundCore k ∧
  t.comp.cch = s.comp.cch ∧ frame s t [.comp, .mfb] (fun a => a = CRX_CORE_STS.a k)

theorem stopCore_stops (h : unstarted s k) {st : Nat} (hst : st < 8) : coreStopped s (s.stopCore k st) k st := by
  have ready : unstarted (s.dropWait k) k := by rwa [unstarted, comp_dropWait]
  have gone := comp_abandon ready
  have hf := frame_abandon ready
  generalize e : (s.dropWait k).abandon k = u at gone hf
  have shown : s.stopCore k st = (u.wf (CRX_CORE_STS.STATE k) st).setCst k { (u.wf (CRX_CORE_STS.STATE k) st).cst k with kept := none } := by
    rw [stopCore, e]
  have last := frame_setCst (s := u.wf (CRX_CORE_STS.STATE k) st) k { (u.wf (CRX_CORE_STS.STATE k) st).cst k with kept := none }
  have harness : (u.wf (CRX_CORE_STS.STATE k) st).coreH k = u.coreH k :=
    rf_wf_apart _ (.inr ⟨show 0 + 3 ≤ 64 by decide, .inr (show 0 + 3 ≤ 3 by decide)⟩)
  rw [shown]
  refine ⟨?_, ?_, ?_, ?_, ?_, ?_, ?_⟩
  · rw [cstate_of_frame last id, cstate_wf k hst]
  · rw [coreH_of_frame last id, harness, coreH_of_frame hf id, coreH_dropWait]
  · rw [setCst, withComp_comp, wf_comp, gone]
  · rw [setCst, withComp_comp, wf_comp, gone, comp_dropWait]
  · have cores : (u.wf (CRX_CORE_STS.STATE k) st).comp.cores = s.comp.cores := by rw [wf_comp, gone, comp_dropWait]
    rw [boundCore, cst_setCst_self, boundCore, cst_of_comp cores]
  · rw [setCst, withComp_comp, wf_comp, gone, comp_dropWait]
  · exact frame_trans (frame_mono (frame_dropWait k) (by simp) (fun _ => id)) (frame_trans (frame_mono hf (fun _ => id) (fun _ => False.elim))
      (frame_trans (frame_wf_sts _ rfl) (frame_mono last (by simp) (fun _ => False.elim))))

theorem memberLost_none (h : s.rope.ctxs = []) (core : Bool) (id : Nat) : s.memberLost core id = s := by
  rw [memberLost, h, List.filter_nil, List.foldl_nil]

/-- A running or waiting core is halted. -/
theorem haltCore_halts (h : unstarted s k) (hr : s.rope.ctxs = []) (hs : s.cstate k = 2 ∨ s.cstate k = 3 ∨ s.cstate k = 4) :
    coreStopped s (s.haltCore k) k 1 := by
  have stops := stopCore_stops h (st := 1) (by decide)
  have rope : (s.stopCore k 1).rope.ctxs = [] := (congrArg (·.ctxs) (stops.2.2.2.2.2.2.1 .rope (by decide))).trans hr
  have e : s.haltCore k = s.stopCore k 1 := by
    rw [haltCore, if_pos (by simpa [or_assoc] using hs), memberLost_none rope]
  rw [e]; exact stops
theorem haltCore_idle (h2 : s.cstate k ≠ 2) (h3 : s.cstate k ≠ 3) (h4 : s.cstate k ≠ 4) : s.haltCore k = s := by
  simp [haltCore, h2, h3, h4]

/-- With no instruction in flight a tensor engine has no request to take. -/
theorem tenNext_none (h : s.comp.flights = []) (clu : Nat) : s.tenNext clu = none := by
  unfold tenNext
  rw [h]
  exact List.find?_eq_none.mpr fun _ _ => by simp
theorem pumpTen_none (h : s.comp.flights = []) (n clu : Nat) : pumpTen (n + 1) s clu = s := by
  simp [pumpTen, tenNext_none h, h]

/-! ## A core resumed (R187, R189, R282) -/

theorem resume_resumes (k : Nat) :
    (s.resume k).cstate k = 2 ∧ (s.resume k).pc k = (s.pc k + 1) % 2 ^ 32 ∧ (s.resume k).comp = { s.comp with waits := s.otherWaits k } ∧
    frame s (s.resume k) [.comp] (fun a => a = CRX_CORE_STS.a k ∨ a = CRX_CORE_PC.a k) := by
  have waiting := frame_dropWait (s := s) k
  have sts : frame s ((s.dropWait k).wf (CRX_CORE_STS.STATE k) 2) [.comp] (fun a => a = CRX_CORE_STS.a k) := frame_trans waiting (frame_wf_sts 2 rfl)
  refine ⟨?_, ?_, rfl, ?_⟩
  · rw [resume, nextPc, setPc, cstate, rf_wf_reg _ _ _ _ (pc_ne_sts k k).symm]; exact cstate_wf k (by decide)
  · rw [resume, nextPc, setPc, pc, rf_wf_self _ _ _ (show 0 + 32 ≤ 64 by decide), pc_of_frame sts (pc_ne_sts k k)]; rfl
  · exact frame_trans (frame_mono sts (fun _ => id) (fun _ => .inl)) (frame_wf _ _ (.inr rfl))

end State
end Sys2Proof.Machine
end

section
/-! PROOF. Witness records and core faults: what they touch, and what a coreFaulted core shows (R196, R286, R400, R512). -/
namespace Sys2Proof.Machine
namespace State
variable {s t u : State} {k : Nat}

/-! ## What a witness record touches -/

/-- The registers that a witness record on its way to its ring may count in: a record's, the witness rings', and the counters of crux
dies and stacks. -/
abbrev witnessReg (a : Nat) : Prop :=
  recordReg a ∨ (0x188000 ≤ a ∧ a < 0x1A8000) ∨ (0x1000000 ≤ a ∧ 0x20000 ≤ a % 0x100000) ∨ 0x3000000 ≤ a
abbrev witnessParts : List Part := .hrn :: .power :: recordParts

/-- From `s` to `t` only what a witness record touches has changed, and no fault has been raised. -/
def noticed (s t : State) : Prop := frame s t witnessParts witnessReg ∧ t.fault.raised = s.fault.raised

theorem noticed.refl (s : State) : noticed s s := ⟨frame_refl .., rfl⟩
theorem noticed.trans (h : noticed s t) (k : noticed t u) : noticed s u := ⟨frame_trans h.1 k.1, k.2.trans h.2⟩
theorem noticed_of_frame {ch : List Part} {rg : Nat → Prop} (h : frame s t ch rg) (hf : Part.fault ∉ ch) (hc : ∀ p ∈ ch, p ∈ witnessParts)
    (hr : ∀ a, rg a → witnessReg a) : noticed s t :=
  ⟨frame_mono h hc hr, congrArg (·.raised) (h.1 .fault hf)⟩
theorem noticed_inc (x : Rf) (h : witnessReg x.a) : noticed s (s.inc x) :=
  noticed_of_frame (frame_inc (ch := [.sticky]) (rg := witnessReg) x h (by decide)) (by decide) (by decide) (fun _ => id)
theorem noticed_report {r : FaultRec} (hc : r.cls < 256) (hs : r.sev < 2) : noticed s (s.report r) :=
  ⟨frame_mono (recorded_report r hc) (by decide) (fun _ => .inl), raised_report_alarm hs⟩
theorem noticed_trace (p q h : Nat) (l : List Byte) : noticed s (s.trace p q h l) :=
  ⟨frame_mono (recorded_trace p q h l) (by decide) (fun _ => .inl), (sent_trace p q h l).raised⟩

theorem witnessReg_stack (i o : Nat) : witnessReg (0x03000000 + i * 0x10000 + o) := .inr (.inr (.inr (by omega)))
theorem witnessReg_crux {n o : Nat} (h : 0x20000 ≤ o ∧ o < 0x100000) : witnessReg (cruxBase n + o) := by
  unfold witnessReg cruxBase; omega

/-- A word that fails to decode is counted and noted. -/
theorem noticed_memEvent (code owner a : Nat) : noticed s (s.memEvent code owner a) := by
  unfold memEvent
  extract_lets h s1
  have counted : noticed s s1 := by
    refine noticed_inc _ ?_
    split
    · split
      · exact witnessReg_stack _ _
      · split <;> exact witnessReg_stack _ _
    · split
      · exact witnessReg_crux (by decide)
      · split <;> exact witnessReg_crux (by decide)
  exact counted.trans (noticed_report (show clMEMORY < 256 by decide) (by show (if code = 2 then 1 else 0) < 2; split <;> decide))
theorem noticed_memEvents (owner : Nat) (l : List (Nat × Found)) : noticed s (s.memEvents owner l) :=
  List.foldlRecOn (motive := noticed s) _ _ (.refl s) (fun _ h _ _ => h.trans (noticed_memEvent _ _ _))
theorem comp_noticed (h : noticed s t) : t.comp = s.comp := comp_of_frame h.1 (by decide)

theorem taintBy_none (h : s.comp.flights = []) (rs : List (Nat × Nat)) : s.taintBy rs = s := by simp [taintBy, h]
/-- A write with nothing in flight. -/
theorem noticed_memWrite (h : s.comp.flights = []) (owner : Nat) (rs : List (Nat × Nat)) (bs : List Byte) : noticed s (s.memWrite owner rs bs).2 := by
  simp only [memWrite]
  generalize hb : (rs.flatMap (fun r => s.mem.mergeFails owner r.1 r.2)).map (fun p => (p.1, Found.unwritten)) = bad
  have written : noticed s (s.withMem (s.mem.writeRuns owner rs bs)) :=
    noticed_of_frame (frame_withMem (ch := [.mem]) (rg := fun _ => False) _ (by decide)) (by decide) (by decide) (fun _ => False.elim)
  have events := written.trans (noticed_memEvents owner bad)
  have still : ((s.withMem (s.mem.writeRuns owner rs bs)).memEvents owner bad).comp.flights = [] := (congrArg (·.flights) (comp_noticed events)).trans h
  rw [taintBy_none still]
  exact events.trans (noticed_of_frame (frame_wakeHbm rs) (by decide) (by decide) (fun _ => False.elim))

/-- A witness record with nothing in flight (R400 to R402). -/
theorem noticed_witness (hf : s.comp.flights = []) {h : Nat} (hh : h < 4096) (kind n c status flags : Nat) (body : List Byte) :
    noticed s (s.witness h kind n c status flags body) := by
  have ring {o : Nat} (ho : o < 0x20) : witnessReg (0x00188000 + h * 0x20 + o) := .inr (.inl (by omega))
  unfold witness
  extract_lets q src s1 m r0 r cap wp full
  have numbered : noticed s s1 :=
    (noticed_inc _ (witnessReg_crux (by decide))).trans
      (noticed_of_frame (frame_withHrn (ch := [.hrn]) (rg := fun _ => False) _ (by decide)) (by decide) (by decide) (fun _ => False.elim))
  split
  · exact numbered
  · split
    · split
      · exact numbered.trans (noticed_inc _ (ring (by decide)))
      · have still : s1.comp.flights = [] := (congrArg (·.flights) (comp_noticed numbered)).trans hf
        exact numbered.trans ((noticed_memWrite still _ _ _).trans
          (noticed_of_frame (frame_wf (ch := []) (rg := witnessReg) (HRN_WIT_WPTR.V h) _ (ring (by decide))) (by simp) (by simp) (fun _ => id)))
    · exact numbered.trans (noticed_inc _ (ring (by decide)))
theorem coreH_lt (k : Nat) : s.coreH k < 4096 := rf_lt (CRX_CORE_STS.HARNESS k)
theorem noticed_programWitness (hf : s.comp.flights = []) (k status instr exit : Nat) (wit : List Word) :
    noticed s (s.programWitness k status instr exit wit) := noticed_witness hf (coreH_lt k) ..

/-- No witness record counts in a core's block. -/
theorem not_witnessReg_core (hk : k < 512) {o : Nat} (ho : o < 0x100) : ¬ witnessReg (coreBase k + o) := by
  unfold witnessReg recordReg coreBase; omega

/-! ## A core fault (R196) -/

/-- The fault registers of core `k` written. -/
def faultShown (s : State) (k status instr addr : Nat) : State :=
  (((s.wf (CRX_CORE_FAULT.STATUS k) status).wf (CRX_CORE_FAULT.UNIT k) 0).wf (CRX_CORE_FAULT.INSTR k) instr).wf (CRX_CORE_FAULT_ADDR.V k) addr

theorem frame_faultShown (k status instr addr : Nat) :
    frame s (s.faultShown k status instr addr) [] (fun a => a = CRX_CORE_FAULT.a k ∨ a = CRX_CORE_FAULT_ADDR.a k) :=
  frame_trans (frame_wf _ _ (.inl rfl)) (frame_trans (frame_wf _ _ (.inl rfl)) (frame_trans (frame_wf _ _ (.inl rfl)) (frame_wf _ _ (.inr rfl))))
theorem comp_faultShown (k status instr addr : Nat) : (s.faultShown k status instr addr).comp = s.comp :=
  comp_of_frame (frame_faultShown k status instr addr) (by simp)
theorem faultShown_shows {status instr : Nat} (addr : Nat) (hs : status < 256) (hi : instr < 2 ^ 32) :
    (s.faultShown k status instr addr).rf (CRX_CORE_FAULT.STATUS k) = status ∧ (s.faultShown k status instr addr).rf (CRX_CORE_FAULT.UNIT k) = 0 ∧
    (s.faultShown k status instr addr).rf (CRX_CORE_FAULT.INSTR k) = instr ∧ (s.faultShown k status instr addr).rf (CRX_CORE_FAULT_ADDR.V k) = addr % 2 ^ 64 := by
  have other : (CRX_CORE_FAULT.a k) ≠ (CRX_CORE_FAULT_ADDR.a k) := by simp only [CRX_CORE_FAULT.a, CRX_CORE_FAULT_ADDR.a]; omega
  have hStatus : (CRX_CORE_FAULT.STATUS k).lo + (CRX_CORE_FAULT.STATUS k).w ≤ 64 := show 0 + 8 ≤ 64 by decide
  have hUnit : (CRX_CORE_FAULT.UNIT k).lo + (CRX_CORE_FAULT.UNIT k).w ≤ 64 := show 8 + 3 ≤ 64 by decide
  have hInstr : (CRX_CORE_FAULT.INSTR k).lo + (CRX_CORE_FAULT.INSTR k).w ≤ 64 := show 12 + 32 ≤ 64 by decide
  refine ⟨?_, ?_, ?_, ?_⟩
  · rw [faultShown, rf_wf_apart _ (.inl other), rf_wf_apart _ (.inr ⟨hInstr, .inl (show 0 + 8 ≤ 12 by decide)⟩),
      rf_wf_apart _ (.inr ⟨hUnit, .inl (show 0 + 8 ≤ 8 by decide)⟩), rf_wf_fits hStatus hs]
  · rw [faultShown, rf_wf_apart _ (.inl other), rf_wf_apart _ (.inr ⟨hInstr, .inl (show 8 + 3 ≤ 12 by decide)⟩), rf_wf_fits hUnit (Nat.two_pow_pos _)]
  · rw [faultShown, rf_wf_apart _ (.inl other), rf_wf_fits hInstr hi]
  · rw [faultShown]
    exact rf_wf_self _ _ _ (show 0 + 64 ≤ 64 by decide)

/-- What a fault of core `k` leaves: the core FAULTED with its fault registers, its wait ended, and a harness fault raised. -/
def coreFaulted (s t : State) (k status instr addr : Nat) : Prop :=
  t.cstate k = 5 ∧ t.rf (CRX_CORE_FAULT.STATUS k) = status ∧ t.rf (CRX_CORE_FAULT.UNIT k) = 0 ∧ t.rf (CRX_CORE_FAULT.INSTR k) = instr ∧
  t.rf (CRX_CORE_FAULT_ADDR.V k) = addr % 2 ^ 64 ∧ t.comp.waits = s.otherWaits k ∧ t.comp.cch = s.comp.cch ∧
  ∃ r, t.fault.raised = s.fault.raised ++ [r] ∧ r.what.sev = 2 ∧ r.what.harness = s.coreH k

/-- A fault of severity HARNESS or DEVICE waits at hub 0 (R514). -/
theorem report_raises {r : FaultRec} (h : 2 ≤ r.sev) : s.report r = s.withFault { s.fault with raised := s.fault.raised ++ [⟨r, s.now⟩] } := if_pos h

/-- The record of a fault of core `k` with `status` at instruction `instr`. -/
def faultRec (s : State) (k status instr : Nat) : FaultRec :=
  ⟨clHARNESS, 0x01, 2, status, unitCrux (k / 32), s.coreH k, bytesLE 2 k ++ bytesLE 4 instr⟩
/-- A fault at the current instruction that is not a poisoned one: stopped, shown, witnessed, traced and raised, in this order. -/
theorem seqFault_eq {status : Nat} (hp : status ≠ stPOISON) (addr : Nat) :
    s.seqFault k status addr =
      ((((((s.stopCore k 5).faultShown k status (s.pc k) addr).programWitness k status (s.pc k) 0 [0, 0, 0, 0]).trace 1 (unitCrux (k / 32)) (s.coreH k)
        (bytesLE 2 k ++ bytesLE 1 status ++ bytesLE 4 (s.pc k))).report (s.faultRec k status (s.pc k))).memberLost true k) := by
  unfold seqFault coreFault faultShown faultRec
  simp only [if_neg hp, if_true]

theorem seqFault_faults (hk : k < 512) (hf : s.comp.flights = []) (hr : s.rope.ctxs = []) {status : Nat} (hs : status < 256)
    (hp : status ≠ stPOISON) (addr : Nat) : coreFaulted s (s.seqFault k status addr) k status (s.pc k) addr := by
  have sts : CRX_CORE_STS.a k ≠ CRX_CORE_FAULT.a k ∧ CRX_CORE_STS.a k ≠ CRX_CORE_FAULT_ADDR.a k := by
    simp only [CRX_CORE_STS.a, CRX_CORE_FAULT.a, CRX_CORE_FAULT_ADDR.a]; omega
  obtain ⟨state, -, flights, waits, -, cch, stops⟩ := stopCore_stops (s := s) (k := k) (by simp [unstarted, hf]) (st := 5) (by decide)
  have shown := frame_faultShown (s := s.stopCore k 5) k status (s.pc k) addr
  obtain ⟨hStatus, hUnit, hInstr, hAddr⟩ := faultShown_shows (s := s.stopCore k 5) (k := k) (instr := s.pc k) addr hs (rf_lt (CRX_CORE_PC.V k))
  have comp := comp_faultShown (s := s.stopCore k 5) k status (s.pc k) addr
  have raised0 : ((s.stopCore k 5).faultShown k status (s.pc k) addr).fault.raised = s.fault.raised :=
    congrArg (·.raised) ((shown.1 .fault (by simp)).trans (stops.1 .fault (by decide)))
  have rope0 : ((s.stopCore k 5).faultShown k status (s.pc k) addr).rope.ctxs = [] :=
    (congrArg (·.ctxs) ((shown.1 .rope (by simp)).trans (stops.1 .rope (by decide)))).trans hr
  have state0 : ((s.stopCore k 5).faultShown k status (s.pc k) addr).cstate k = 5 := (cstate_of_frame shown (by simp [sts.1, sts.2])).trans state
  rw [seqFault_eq hp]
  generalize (s.stopCore k 5).faultShown k status (s.pc k) addr = u at *
  have told := noticed_programWitness (s := u) (by rw [comp, flights]) k status (s.pc k) 0 [0, 0, 0, 0]
  have traced := told.trans (noticed_trace 1 (unitCrux (k / 32)) (s.coreH k) (bytesLE 2 k ++ bytesLE 1 status ++ bytesLE 4 (s.pc k)))
  generalize (u.programWitness k status (s.pc k) 0 [0, 0, 0, 0]).trace 1 (unitCrux (k / 32)) (s.coreH k)
    (bytesLE 2 k ++ bytesLE 1 status ++ bytesLE 4 (s.pc k)) = w at traced
  have waiting : w.comp = u.comp := comp_noticed traced
  have rope : (w.withFault { w.fault with raised := w.fault.raised ++ [⟨s.faultRec k status (s.pc k), w.now⟩] }).rope.ctxs = [] := by
    have same : w.rope = u.rope := traced.1.1 .rope (by decide)
    rw [withFault_rope, same, rope0]
  rw [report_raises (r := s.faultRec k status (s.pc k)) (Nat.le_refl 2), memberLost_none rope]
  have field {x : Rf} {o : Nat} (hx : x.a = coreBase k + o) (ho : o < 0x100) (v : FaultSt) : (w.withFault v).rf x = u.rf x :=
    rf_of_frame (t := w.withFault v) (frame_trans traced.1 (frame_withFault v (by decide))) (hx ▸ not_witnessReg_core hk ho)
  refine ⟨?_, ?_, ?_, ?_, ?_, ?_, ?_, ⟨⟨s.faultRec k status (s.pc k), w.now⟩, ?_, rfl, rfl⟩⟩
  · exact (field (x := CRX_CORE_STS.STATE k) (o := 0) rfl (by decide) _).trans state0
  · exact (field (x := CRX_CORE_FAULT.STATUS k) (o := 0x18) rfl (by decide) _).trans hStatus
  · exact (field (x := CRX_CORE_FAULT.UNIT k) (o := 0x18) rfl (by decide) _).trans hUnit
  · exact (field (x := CRX_CORE_FAULT.INSTR k) (o := 0x18) rfl (by decide) _).trans hInstr
  · exact (field (x := CRX_CORE_FAULT_ADDR.V k) (o := 0x20) rfl (by decide) _).trans hAddr
  · rw [withFault_comp, waiting, comp, waits]
  · rw [withFault_comp, waiting, comp, cch]
  · rw [withFault_fault, traced.2, raised0]

end State
end Sys2Proof.Machine
end

section
/-! PROOF. GO, HALT, self-checks and the ends of waits (R193 to R198, R282), and the obligation on them. -/
namespace Sys2Proof.Machine
namespace State
variable {s t : State} {k : Nat}

/-! ## GO (R198) -/

/-- The fault registers of a core cleared, where it is FAULTED. -/
def faultCleared (s : State) (k : Nat) : State :=
  if s.cstate k = 5 then (s.setReg (CRX_CORE_FAULT.a k) 0).setReg (CRX_CORE_FAULT_ADDR.a k) 0 else s
theorem frame_faultCleared (k : Nat) : frame s (s.faultCleared k) [] (fun a => a = CRX_CORE_FAULT.a k ∨ a = CRX_CORE_FAULT_ADDR.a k) := by
  unfold faultCleared
  split
  · exact frame_trans (frame_setReg _ _ (.inl rfl)) (frame_setReg _ _ (.inr rfl))
  · exact frame_refl ..
theorem startCore_eq : s.startCore k = ((s.faultCleared k).wf (CRX_CORE_STS.STATE k) 2).setPc k ((s.faultCleared k).cst k).entry := rfl

theorem startCore_starts (k : Nat) :
    (s.startCore k).cstate k = 2 ∧ (s.startCore k).pc k = (s.cst k).entry % 2 ^ 32 ∧
    (s.cstate k = 5 → (s.startCore k).reg (CRX_CORE_FAULT.a k) = 0 ∧ (s.startCore k).reg (CRX_CORE_FAULT_ADDR.a k) = 0) ∧
    frame s (s.startCore k) [] (fun a => a = CRX_CORE_STS.a k ∨ a = CRX_CORE_PC.a k ∨ a = CRX_CORE_FAULT.a k ∨ a = CRX_CORE_FAULT_ADDR.a k) := by
  have cleared := frame_faultCleared (s := s) k
  have entry : ((s.faultCleared k).cst k).entry = (s.cst k).entry := by rw [cst, cst, comp_of_frame cleared (by simp)]
  have fault : CRX_CORE_FAULT.a k ≠ CRX_CORE_STS.a k ∧ CRX_CORE_FAULT.a k ≠ CRX_CORE_PC.a k ∧ CRX_CORE_FAULT.a k ≠ CRX_CORE_FAULT_ADDR.a k := by
    simp only [CRX_CORE_FAULT.a, CRX_CORE_FAULT_ADDR.a, CRX_CORE_STS.a, CRX_CORE_PC.a]; omega
  have addr : CRX_CORE_FAULT_ADDR.a k ≠ CRX_CORE_STS.a k ∧ CRX_CORE_FAULT_ADDR.a k ≠ CRX_CORE_PC.a k := by
    simp only [CRX_CORE_FAULT_ADDR.a, CRX_CORE_STS.a, CRX_CORE_PC.a]; omega
  have kept {a : Nat} (h1 : a ≠ CRX_CORE_STS.a k) (h2 : a ≠ CRX_CORE_PC.a k) : (s.startCore k).reg a = (s.faultCleared k).reg a := by
    rw [startCore_eq, setPc, reg_wf_ne _ _ _ _ h2, reg_wf_ne _ _ _ _ h1]
  refine ⟨?_, ?_, fun h5 => ⟨?_, ?_⟩, ?_⟩
  · rw [startCore_eq, setPc, cstate, rf_wf_reg _ _ _ _ (pc_ne_sts k k).symm]; exact cstate_wf k (by decide)
  · rw [startCore_eq, setPc, pc, rf_wf_self _ _ _ (show 0 + 32 ≤ 64 by decide), entry]; rfl
  · rw [kept fault.1 fault.2.1, faultCleared, if_pos h5, reg_setReg_ne _ _ _ _ fault.2.2, reg_setReg_self]
  · rw [kept addr.1 addr.2, faultCleared, if_pos h5, reg_setReg_self]
  · exact frame_trans (frame_mono cleared (fun _ => id) (fun _ h => .inr (.inr h))) (frame_trans (frame_wf _ _ (.inl rfl)) (frame_wf _ _ (.inr (.inl rfl))))

theorem go_starts (hs : s.cstate k = 1 ∨ s.cstate k = 5) (hm : s.mayRun (s.coreH k) = true) : s.go k = s.startCore k := by
  rw [go, if_pos (by simpa [hm] using hs)]
theorem go_counts (h : s.cstate k ≠ 1 ∧ s.cstate k ≠ 5 ∨ s.mayRun (s.coreH k) = false) : s.go k = s.inc (HRN_CNT_FAULTS.V 0) := by
  rw [go, if_neg]
  rcases h with ⟨h1, h5⟩ | h
  · simp [h1, h5]
  · simp [h]

/-! ## HALT (R161, R200) -/

/-- HALT of a core that runs or waits. -/
theorem halted_halts (h : unstarted s k) (hr : s.rope.ctxs = []) (hs : s.cstate k = 2 ∨ s.cstate k = 3 ∨ s.cstate k = 4) :
    coreStopped s (s.halted k) k 1 := by
  have halts := haltCore_halts h hr hs
  rw [halted, pumpTen_none halts.2.2.1]
  exact halts
/-- HALT of any other core. -/
theorem halted_idle (hs : s.cstate k = 0 ∨ s.cstate k = 1 ∨ s.cstate k = 5 ∨ s.cstate k = 6) (hf : s.comp.flights = []) : s.halted k = s := by
  rw [halted, haltCore_idle (by omega) (by omega) (by omega), pumpTen_none hf]

/-! ## A failed self-check (R198) -/

theorem coreFails_fails (h : unstarted s k) (hr : s.rope.ctxs = []) (h6 : s.cstate k ≠ 6) :
    (s.coreFails k).cstate k = 6 ∧ (s.coreFails k).boundCore k = s.boundCore k ∧ (s.coreFails k).comp.flights = [] ∧
    frame s (s.coreFails k) (.comp :: .mfb :: recordParts) (fun a => a = CRX_CORE_STS.a k ∨ recordReg a) := by
  obtain ⟨state, -, flights, -, bound, -, stops⟩ := stopCore_stops h (st := 6) (by decide)
  have traced := recorded_trace (s := s.stopCore k 6) 1 (unitCrux (k / 32)) (s.coreH k) (bytesLE 2 k ++ bytesLE 1 stCHECK ++ bytesLE 4 (s.pc k))
  have e : s.coreFails k = (s.stopCore k 6).trace 1 (unitCrux (k / 32)) (s.coreH k) (bytesLE 2 k ++ bytesLE 1 stCHECK ++ bytesLE 4 (s.pc k)) := by
    have rope : ((s.stopCore k 6).trace 1 (unitCrux (k / 32)) (s.coreH k) (bytesLE 2 k ++ bytesLE 1 stCHECK ++ bytesLE 4 (s.pc k))).rope.ctxs = [] := by
      have r1 : _ = (s.stopCore k 6).rope := traced.1 .rope (by decide)
      have r2 : (s.stopCore k 6).rope = s.rope := stops.1 .rope (by decide)
      rw [r1, r2, hr]
    rw [coreFails, if_neg h6]
    simp only [memberLost_none rope, ite_self]
  rw [e]
  generalize (s.stopCore k 6).trace 1 (unitCrux (k / 32)) (s.coreH k) (bytesLE 2 k ++ bytesLE 1 stCHECK ++ bytesLE 4 (s.pc k)) = u at traced
  have comp : u.comp = (s.stopCore k 6).comp := comp_of_frame traced (by decide)
  refine ⟨?_, ?_, ?_, ?_⟩
  · exact (cstate_of_frame traced (not_recordReg_core k 0)).trans state
  · rw [boundCore, cst_of_comp (congrArg (·.cores) comp)]; exact bound
  · rw [comp, flights]
  · exact frame_trans (frame_mono stops (by simp) (fun _ => .inl)) (frame_mono traced (by decide) (fun _ => .inr))

/-! ## Waits that end (R187, R189, R193 to R195, R282) -/

theorem wake_met {w : Wait} {st : Nat} {kind : WaitOp → Bool} (hw : s.waitOf k = some w) (hm : w.met = true) (hs : s.cstate k = st)
    (hk : kind w.op = true) : s.wake k st kind = s.resume k := by
  simp [wake, hw, hm, hs, hk]

theorem bivouac_enters (h3 : s.cstate k = 3) (h1 : 1 ≤ s.rf (CRX_CORE_STS.WAIT_KIND k)) (h5 : s.rf (CRX_CORE_STS.WAIT_KIND k) ≤ 5)
    (hf : s.flightsOf k = []) (hb : s.rf (CRX_CORE_CFG.BIVOUAC_US k) ≠ 0) (ht : 100 ≤ (s.reg (HRN_WAKE.a (s.coreH k))).field 0 16) :
    s.bivouac k = (s.wf (CRX_CORE_STS.STATE k) 4).inc (CRX_CNT_BIVOUAC.V k) := by
  simp [bivouac, h3, h1, h5, hf, hb, ht]
theorem waitLimit_faults {w : Wait} (hw : s.waitOf k = some w) (hm : w.met = false) (hs : s.cstate k = 3 ∨ s.cstate k = 4)
    (hl : s.rf (CRX_CORE_CFG.WAIT_LIMIT_US k) ≠ 0) : s.waitLimit k = s.seqFault k stTIMEOUT (waitAddr w.op) := by
  rw [waitLimit, hw]
  exact if_pos (by simpa [hm, hl] using hs)

end State

open State

/-- Settles O27: GO, HALT and a failed self-check of a core whose instructions have not started, then the ends of its wait. -/
theorem coreControlAndWaits : Obligations.CoreControlAndWaits := by
  unfold Obligations.CoreControlAndWaits
  refine ⟨fun s src k hu => ⟨fun ho => ⟨fun hs hm => ?go, fun h => ?noGo, fun hr hf hs => ?halt, fun hs hf => ?noHalt⟩, fun hr h6 hf => ?check⟩,
    fun s k w hu hw => ⟨fun c hm hc => ?resumes, fun h3 h1 h5 hf hb ht => ?bivouac, fun hm hs hl hr hf => ?limit⟩⟩
  case go =>
    refine runs_write hu ho rfl ?_
    rw [go_starts hs hm]
    exact startCore_starts k
  case noGo =>
    refine runs_write hu ho rfl ?_
    rw [go_counts h]
    exact ⟨reg_count_self .., frame_inc _ rfl (by decide)⟩
  case halt =>
    refine runs_write hu ho rfl ?_
    obtain ⟨state, -, flights, waits, -, -, stops⟩ := halted_halts hf hr hs
    exact ⟨state, flights, waitOf_other_self waits, pc_of_frame stops (pc_ne_sts k k), stops⟩
  case noHalt =>
    refine runs_write hu ho rfl ?_
    rw [halted_idle hs hf]
    exact ⟨rfl, frame_refl ..⟩
  case check => exact runs_unheld hu rfl (coreFails_fails hf hr h6)
  case resumes =>
    have resumed : c = .bivouacExit k ∧ s.cstate k = 4 ∨ c = .flagWaitSatisfied k ∧ s.cstate k = 3 ∧ (∃ key v clr, w.op = .flag key v clr) ∨
        c = .creditTakeServed k ∧ s.cstate k = 3 ∧ (∃ g m, w.op = .credit g m) ∨ c = .jumarWaitSatisfied k ∧ s.cstate k = 3 ∧ (∃ j v, w.op = .jumar j v) →
        exec c s = unheld s (s.resume k) := by
      rintro (⟨rfl, h4⟩ | ⟨rfl, h3, key, v, clr, e⟩ | ⟨rfl, h3, g, m, e⟩ | ⟨rfl, h3, j, v, e⟩)
      · exact congrArg (unheld s) (wake_met hw hm h4 rfl)
      · exact congrArg (unheld s) (wake_met hw hm h3 (by rw [e]))
      · exact congrArg (unheld s) (wake_met hw hm h3 (by rw [e]))
      · exact congrArg (unheld s) (wake_met hw hm h3 (by rw [e]))
    obtain ⟨state, pc, comp, hf⟩ := resume_resumes (s := s) k
    have waits := congrArg (·.waits) comp
    exact runs_unheld hu (resumed hc) ⟨state, pc, waitOf_other_self waits, fun j hj => waitOf_other_ne waits hj,
      fun j r => by rw [sreg, sreg, cst_of_comp (congrArg (·.cores) comp)], hf⟩
  case bivouac =>
    have far : CRX_CNT_BIVOUAC.a k ≠ CRX_CORE_STS.a k := by simp only [CRX_CNT_BIVOUAC.a, CRX_CORE_STS.a]; omega
    refine runs_unheld hu rfl ?_
    rw [bivouac_enters h3 h1 h5 hf hb ht]
    refine ⟨?_, ?_, ?_, ?_⟩
    · rw [cstate, inc, rf_count _ far.symm]; exact cstate_wf k (by decide)
    · rw [waitOf_of_comp (s := s) (by rw [inc_comp, wf_comp]), hw]
    · rw [← reg_wf_ne s (CRX_CORE_STS.STATE k) 4 (CRX_CNT_BIVOUAC.V k).a far]; exact reg_count_self ..
    · exact frame_trans (frame_wf _ _ (.inl rfl)) (frame_inc _ (.inr rfl) (by decide))
  case limit =>
    refine runs_unheld hu rfl ?_
    rw [waitLimit_faults hw hm hs hl]
    obtain ⟨state, status, unit, instr, -, waits, -, raised⟩ := seqFault_faults (s := s) k.isLt hf hr (status := stTIMEOUT) (by decide) (by decide) (waitAddr w.op)
    exact ⟨state, status, unit, instr, waitOf_other_self waits, raised⟩

end Sys2Proof.Machine
end

section
/-! PROOF. Binding and unbinding of cores (R163, R165, R170, R197, R445). -/
namespace Sys2Proof.Machine

namespace MemSt
variable {m : MemSt}

/-- A word whose cells are gone reads as poison to harness 0. -/
theorem readByte_unwritten {b : Nat} (h : lookupKey m.cells (b / 8 * 8) = none) : m.readByte 0 b = 0xFF#8 := by
  have notClean : m.found b ≠ .clean := by
    rw [found, h]
    split <;> simp
  rw [readByte, live, beq_self_eq_true, Bool.true_or, if_pos rfl]
  split
  case h_1 e => exact absurd e notClean
  case h_2 => rfl
theorem lookup_poison_inside {lo hi c : Nat} (h : lo ≤ c ∧ c < hi) : lookupKey (m.poison lo hi).cells c = none := by
  rw [lookup_poison, if_neg (by omega)]
theorem lookup_poison_none {lo hi c : Nat} (h : lookupKey m.cells c = none) : lookupKey (m.poison lo hi).cells c = none := by
  rw [lookup_poison, h, ite_self]
/-- A unit whose valid bit is cleared is dead to a tenant, and stays so as more are cleared. -/
theorem live_clearValid_inside {h lo hi b : Nat} (hh : h ≠ 0) (hb : lo ≤ unitBase b ∧ unitBase b < hi) : (m.clearValid lo hi).live h b = false := by
  rw [live_tenant hh, clearValid, Bool.eq_false_iff]
  simp only [ne_eq, List.contains_iff_mem, List.mem_filter, Bool.or_eq_true, decide_eq_true_eq]
  omega
theorem live_clearValid_dead {h lo hi b : Nat} (hh : h ≠ 0) (hb : m.live h b = false) : (m.clearValid lo hi).live h b = false := by
  rw [live_tenant hh, Bool.eq_false_iff] at hb ⊢
  simp only [clearValid, ne_eq, List.contains_iff_mem, List.mem_filter] at hb ⊢
  exact fun h => hb h.1
end MemSt

namespace State
variable {s t u : State} {n k h : Nat}

theorem rf_withComp (v : CompSt) (x : Rf) : (s.withComp v).rf x = s.rf x := rfl
theorem rb_withComp (v : CompSt) (x : Rf) : (s.withComp v).rb x = s.rb x := rfl

/-! ## CRX_BIND_CMD (R197) -/

/-- CRX_BIND_CMD shows the core and the harness a command names. -/
def bindNamed (s : State) (n q h : Nat) : State := (s.wf (CRX_BIND_CMD.CORE n) q).wf (CRX_BIND_CMD.HARNESS n) h
theorem frame_bindNamed (n q h : Nat) : frame s (s.bindNamed n q h) [] (fun a => a = CRX_BIND_CMD.a n) := frame_trans (frame_wf _ _ rfl) (frame_wf _ _ rfl)
theorem writeBindCmd_busy (src : Src) (q op : Nat) (hb : s.rb (CRX_BIND_CMD.BUSY n) = true) : s.writeBindCmd src n q h op = s.reject src (CRX_BIND_CMD.a n) := by
  simp [writeBindCmd, hb]
theorem writeBindCmd_bind (src : Src) {q : Nat} (hb : s.rb (CRX_BIND_CMD.BUSY n) = false) (hl : s.loading (32 * n + q) = false) :
    s.writeBindCmd src n q h 1 = (s.bindNamed n q h).bindBegin n (32 * n + q) h := by
  simp [writeBindCmd, hb, hl, bindNamed]
theorem writeBindCmd_unbind (src : Src) {q : Nat} (hb : s.rb (CRX_BIND_CMD.BUSY n) = false) (hl : s.loading (32 * n + q) = false) :
    s.writeBindCmd src n q h 2 = (s.bindNamed n q h).unbindBegin n (32 * n + q) := by
  simp [writeBindCmd, hb, hl, bindNamed]

/-- A bind command ended, as CRX_BIND_CMD shows it. -/
theorem bindDone_shows {st : Nat} (hs : st < 256) :
    (s.bindDone n st).rf (CRX_BIND_CMD.STATUS n) = st ∧ (s.bindDone n st).rb (CRX_BIND_CMD.BUSY n) = false ∧
    (s.bindDone n st).comp = { s.comp with binds := s.comp.binds.filter (fun b => b.die != n) } ∧
    frame s (s.bindDone n st) [.comp] (fun a => a = CRX_BIND_CMD.a n) := by
  have busy : (CRX_BIND_CMD.BUSY n).lo + (CRX_BIND_CMD.BUSY n).w ≤ 64 := show 27 + 1 ≤ 64 by decide
  refine ⟨?_, ?_, ?_, ?_⟩
  · rw [bindDone, rf_wf_apart _ (.inr ⟨busy, .inl (show 19 + 8 ≤ 27 by decide)⟩)]
    exact rf_wf_fits (show 19 + 8 ≤ 64 by decide) hs
  · rw [bindDone, rb_wf_self _ _ busy]; rfl
  · rw [bindDone, wf_comp, wf_comp, withComp_comp]
  · exact frame_trans (frame_withComp _ (by decide)) (frame_trans (frame_wf _ _ rfl) (frame_wf _ _ rfl))

/-! ## What a bind looks at is apart from CRX_BIND_CMD -/

/-- The registers that a bind's checks read. -/
theorem bind_reads_apart (n : Nat) (hh : h < 4096) :
    HRN_STS.a h ≠ CRX_BIND_CMD.a n ∧ HUB_CAMP_RPT.a 6 ≠ CRX_BIND_CMD.a n ∧ (∀ j, CRX_CORE_STS.a j ≠ CRX_BIND_CMD.a n) ∧
    (∀ m c, c < 4 → CRX_CLU_STS.a m c ≠ CRX_BIND_CMD.a n ∧ CRX_CLU_SRES.a m c ≠ CRX_BIND_CMD.a n) ∧ HRN_Q_CORES.a h ≠ CRX_BIND_CMD.a n := by
  simp only [HRN_STS.a, CRX_BIND_CMD.a, HUB_CAMP_RPT.a, CRX_CORE_STS.a, CRX_CLU_STS.a, CRX_CLU_SRES.a, HRN_Q_CORES.a, cruxBase, coreBase]
  refine ⟨by omega, by omega, fun j => by omega, fun m c hc => by omega, by omega⟩

theorem bindStatus_of_frame (hf : frame s t [] (fun a => a = CRX_BIND_CMD.a n)) (k : Nat) (hh : h < 4096) : t.bindStatus k h = s.bindStatus k h := by
  obtain ⟨sts, camp, core, clu, quota⟩ := bind_reads_apart n hh
  have comp : t.comp = s.comp := comp_of_frame hf (by simp)
  have gate : t.gate = s.gate := hf.1 .gate (by simp)
  have c4 : k / 8 % 4 < 4 := Nat.mod_lt _ (by decide)
  have owner : t.cluOwner (k / 8) = s.cluOwner (k / 8) := by
    rw [cluOwner, cluOwner, rb_of_frame hf (x := CRX_CLU_STS.OWNED _ _) (clu _ _ c4).1, rf_of_frame hf (x := CRX_CLU_SRES.BYTES _ _) (clu _ _ c4).2,
      rf_of_frame hf (x := CRX_CLU_STS.HARNESS _ _) (clu _ _ c4).1]
  have quotas : t.quotaOk .cores h 1 = s.quotaOk .cores h 1 := by
    rw [quotaOk, quotaOk, rf_of_frame hf (x := QKind.cores.used h) quota, rf_of_frame hf (x := QKind.cores.limit h) quota]
  rw [bindStatus, bindStatus, campOk_of_frame hf camp, grantable, grantable, hrnState_of_frame hf sts, boundCore, boundCore,
    cst_of_comp (congrArg (·.cores) comp), cstate_of_frame hf (core k), owner, gateHolds, gateHolds, gate, quotas]

/-! ## A bind begun (R165, R197) -/

theorem bindBegin_granted (h0 : s.bindStatus k h = 0) :
    s.bindBegin n k h = let u := (s.quotaTake .cores h 1).wf (CRX_BIND_CMD.BUSY n) 1
      u.withComp { u.comp with binds := u.comp.binds.filter (fun b => b.die != n) ++ [⟨n, k, h, true, false⟩] } := by
  unfold bindBegin
  rw [h0]
  exact if_neg (by decide)
theorem bindBegin_refused {st : Nat} (h0 : s.bindStatus k h = st) (hs : st ≠ 0) : s.bindBegin n k h = s.bindDone n st := by
  unfold bindBegin
  rw [h0]
  exact if_pos (by simpa [stOK] using hs)

/-- A bind that passes its checks executes, its unit of the quota taken. -/
theorem bindBegin_begins (h0 : s.bindStatus k h = 0) (hh : h < 4096) :
    let t := s.bindBegin n k h
    t.comp.binds = s.comp.binds.filter (fun b => b.die != n) ++ [⟨n, k, h, true, false⟩] ∧ t.rb (CRX_BIND_CMD.BUSY n) = true ∧
    (h ≠ 0 → s.rf (HRN_Q_CORES.USED h) < 512 → t.rf (HRN_Q_CORES.USED h) = s.rf (HRN_Q_CORES.USED h) + 1) ∧
    frame s t [.comp] (fun a => a = CRX_BIND_CMD.a n ∨ a = HRN_Q_CORES.a h ∨ a = HRN_STS.a h) := by
  have taken := frame_quotaTake (s := s) .cores h 1
  have comp : (s.quotaTake .cores h 1).comp = s.comp := comp_of_frame taken (by simp)
  have apart : HRN_Q_CORES.a h ≠ CRX_BIND_CMD.a n := (bind_reads_apart n hh).2.2.2.2
  have busy : ((s.quotaTake .cores h 1).wf (CRX_BIND_CMD.BUSY n) 1).rb (CRX_BIND_CMD.BUSY n) = true := rb_wf_self _ _ (show 27 + 1 ≤ 64 by decide)
  have used : h ≠ 0 → s.rf (HRN_Q_CORES.USED h) < 512 →
      ((s.quotaTake .cores h 1).wf (CRX_BIND_CMD.BUSY n) 1).rf (HRN_Q_CORES.USED h) = s.rf (HRN_Q_CORES.USED h) + 1 := fun hne room => by
    rw [rf_wf_reg _ _ _ _ apart]
    have wide : (HRN_Q_CORES.USED h).w = 10 := rfl
    exact used_quotaTake .cores h 1 hne (show s.rf (HRN_Q_CORES.USED h) + 1 < 2 ^ (HRN_Q_CORES.USED h).w by rw [wide]; omega)
  have executing : frame s ((s.quotaTake .cores h 1).wf (CRX_BIND_CMD.BUSY n) 1) [] (fun a => a = CRX_BIND_CMD.a n ∨ a = HRN_Q_CORES.a h ∨ a = HRN_STS.a h) :=
    frame_trans (frame_mono taken (by simp) (fun _ => .inr)) (frame_wf _ _ (.inl rfl))
  have comp' : ((s.quotaTake .cores h 1).wf (CRX_BIND_CMD.BUSY n) 1).comp = s.comp := by rw [wf_comp, comp]
  rw [bindBegin_granted h0]
  generalize (s.quotaTake .cores h 1).wf (CRX_BIND_CMD.BUSY n) 1 = u at busy used executing comp' ⊢
  refine ⟨?_, ?_, fun hne room => ?_, ?_⟩
  · rw [withComp_comp, comp']
  · rw [rb_withComp, busy]
  · rw [rf_withComp, used hne room]
  · exact frame_trans (frame_mono executing (by simp) (fun _ => id)) (frame_withComp _ (by decide))

/-! ## Clearing finishes (R163, R170, R197) -/

/-- The memory that a bind clears for a tenant: L, and S for a cluster's first core. -/
def bindClears (s : State) (k h : Nat) : State :=
  let c := k / 8
  let s1 := if h = 0 then s else s.withMem (s.mem.clearValid (addrL k 0) (addrL k sizeL))
  if h = 0 || !(s.boundIn c == 0) then s1 else s1.withMem (s1.mem.clearValid (addrS c 0) (addrS c (s1.sFree c)))
/-- The flags that a bind sets to 0: the core's, and for a cluster's first core the cluster's. -/
def bindDrops (s : State) (k x : Nat) : Bool :=
  (decide (lfKey k 0 ≤ x) && decide (x < lfKey k 256)) || ((s.boundIn (k / 8) == 0) && decide (cfKey (k / 8) 0 ≤ x) && decide (x < cfKey (k / 8) 1024))
/-- The core HALTED in its cluster, its registers as a bind leaves them. -/
def bindOwns (s : State) (k h : Nat) : State :=
  (((s.setClu (k / 8) h (s.boundIn (k / 8) + 1)).wf (CRX_CORE_STS.STATE k) 1).wf (CRX_CORE_STS.HARNESS k) h).setReg (CRX_CORE_ARITH.a k) 0

/-- A core without a program, bound. -/
def bindLoads (s : State) (k : Nat) : State :=
  ((s.setReg (CRX_CORE_IMAGE.a k) 0).setReg (CRX_CORE_CODE.a k) 0).setCst k
    { s.cst k with bound := true, entry := 0, ldata := 0, sFoot := 0, kept := none }

theorem bindFinish_eq {b : BindCmd} (hb : s.comp.binds.find? (fun b => b.die == n && b.bind && !b.waits) = some b) :
    s.bindFinish n =
      let u := (s.bindClears b.core b.h).withComp
        { (s.bindClears b.core b.h).comp with flags := (s.bindClears b.core b.h).comp.flags.filter (fun x => !s.bindDrops b.core x) }
      (((u.bindOwns b.core b.h).bindLoads b.core).wakeTen (b.core / 8)).bindDone n stOK := by
  unfold bindFinish
  rw [hb]
  rfl

/-! ### Memory and flags cleared -/

theorem frame_bindClears (k h : Nat) : frame s (s.bindClears k h) [.mem] (fun _ => False) := by
  unfold bindClears
  extract_lets c s1
  have first : frame s s1 [.mem] (fun _ => False) := by
    show frame s (if _ then _ else _) _ _
    split
    · exact frame_refl ..
    · exact frame_withMem _ (by decide)
  split
  · exact first
  · exact frame_trans first (frame_withMem _ (by decide))
/-- A tenant's L is dead once cleared. -/
theorem live_bindClears (hh : h ≠ 0) {o : Nat} (ho : o < sizeL) : (s.bindClears k h).mem.live h (addrL k o) = false := by
  have inside : addrL k 0 ≤ unitBase (addrL k o) ∧ unitBase (addrL k o) < addrL k sizeL := by
    unfold addrL unitBase sizeL at *
    rw [if_neg (by omega)]; omega
  have cleared : (s.mem.clearValid (addrL k 0) (addrL k sizeL)).live h (addrL k o) = false := MemSt.live_clearValid_inside hh inside
  unfold bindClears
  simp only [if_neg hh]
  split
  · exact cleared
  · exact MemSt.live_clearValid_dead hh cleared

/-- The local flags of the core are among those that drop. -/
theorem bindDrops_local {i : Nat} (hi : i < 256) (k : Nat) : s.bindDrops k (lfKey k i) = true := by
  have lo : lfKey k 0 ≤ lfKey k i := Nat.add_le_add_left (Nat.zero_le _) _
  have top : lfKey k i < lfKey k 256 := Nat.add_lt_add_left hi _
  rw [bindDrops, decide_eq_true lo, decide_eq_true top]; rfl

/-! ### The cluster and the core -/

theorem frame_setClu (c h m : Nat) : frame s (s.setClu c h m) [] (fun a => a = CRX_CLU_STS.a (c / 4) (c % 4)) :=
  frame_trans (frame_wf _ _ rfl) (frame_trans (frame_wf _ _ rfl) (frame_wf _ _ rfl))
theorem setClu_shows {c m : Nat} (hh : h < 4096) (hm : m < 16) :
    (s.setClu c h m).rf (CRX_CLU_STS.BOUND (c / 4) (c % 4)) = m ∧ (s.setClu c h m).rf (CRX_CLU_STS.HARNESS (c / 4) (c % 4)) = h ∧
    (m ≠ 0 → (s.setClu c h m).rb (CRX_CLU_STS.OWNED (c / 4) (c % 4)) = true) := by
  have bound : (CRX_CLU_STS.BOUND (c / 4) (c % 4)).lo + (CRX_CLU_STS.BOUND (c / 4) (c % 4)).w ≤ 64 := show 14 + 4 ≤ 64 by decide
  have owned : (CRX_CLU_STS.OWNED (c / 4) (c % 4)).lo + (CRX_CLU_STS.OWNED (c / 4) (c % 4)).w ≤ 64 := show 12 + 1 ≤ 64 by decide
  have harness : (CRX_CLU_STS.HARNESS (c / 4) (c % 4)).lo + (CRX_CLU_STS.HARNESS (c / 4) (c % 4)).w ≤ 64 := show 0 + 12 ≤ 64 by decide
  refine ⟨?_, rf_wf_fits harness hh, fun h0 => ?_⟩
  · rw [setClu, rf_wf_apart (y := CRX_CLU_STS.BOUND (c / 4) (c % 4)) _ (.inr ⟨harness, .inr (show 0 + 12 ≤ 14 by decide)⟩),
      rf_wf_apart (y := CRX_CLU_STS.BOUND (c / 4) (c % 4)) _ (.inr ⟨owned, .inr (show 12 + 1 ≤ 14 by decide)⟩)]
    exact rf_wf_fits bound hm
  · rw [setClu, rb_wf_apart (y := CRX_CLU_STS.OWNED (c / 4) (c % 4)) _ (.inr ⟨harness, .inr (show 0 + 12 ≤ 12 by decide)⟩), if_neg h0, rb_wf_self _ _ owned]; rfl

/-- What a bind writes in the registers of a core and of its cluster. -/
abbrev ownReg (k a : Nat) : Prop := a = CRX_CLU_STS.a (k / 8 / 4) (k / 8 % 4) ∨ a = CRX_CORE_STS.a k ∨ a = CRX_CORE_ARITH.a k
theorem clu_ne_core (j k : Nat) : CRX_CLU_STS.a (k / 8 / 4) (k / 8 % 4) ≠ CRX_CORE_STS.a j := by
  simp only [CRX_CLU_STS.a, CRX_CORE_STS.a, cruxBase, coreBase]; omega

theorem frame_bindOwns (k h : Nat) : frame s (s.bindOwns k h) [] (ownReg k) :=
  frame_trans (frame_mono (frame_setClu ..) (fun _ => id) (fun _ => .inl)) (frame_trans (frame_wf _ _ (.inr (.inl rfl)))
    (frame_trans (frame_wf _ _ (.inr (.inl rfl))) (frame_setReg _ _ (.inr (.inr rfl)))))
theorem bindOwns_shows (hh : h < 4096) (h8 : s.boundIn (k / 8) < 8) :
    (s.bindOwns k h).cstate k = 1 ∧ (s.bindOwns k h).coreH k = h ∧
    (s.bindOwns k h).rf (CRX_CLU_STS.BOUND (k / 8 / 4) (k / 8 % 4)) = s.boundIn (k / 8) + 1 ∧
    (s.bindOwns k h).rb (CRX_CLU_STS.OWNED (k / 8 / 4) (k / 8 % 4)) = true ∧ (s.bindOwns k h).rf (CRX_CLU_STS.HARNESS (k / 8 / 4) (k / 8 % 4)) = h := by
  obtain ⟨bound, harness, owned⟩ := setClu_shows (s := s) (c := k / 8) (m := s.boundIn (k / 8) + 1) hh (by omega)
  have state : (CRX_CORE_STS.STATE k).lo + (CRX_CORE_STS.STATE k).w ≤ 64 := show 0 + 3 ≤ 64 by decide
  have holder : (CRX_CORE_STS.HARNESS k).lo + (CRX_CORE_STS.HARNESS k).w ≤ 64 := show 3 + 12 ≤ 64 by decide
  have arith : CRX_CORE_STS.a k ≠ CRX_CORE_ARITH.a k := by simp only [CRX_CORE_STS.a, CRX_CORE_ARITH.a]; omega
  have clu : CRX_CLU_STS.a (k / 8 / 4) (k / 8 % 4) ≠ CRX_CORE_ARITH.a k := by
    simp only [CRX_CLU_STS.a, CRX_CORE_ARITH.a, cruxBase, coreBase]; omega
  have far := clu_ne_core k k
  have core {x : Rf} (hx : x.a = CRX_CORE_STS.a k) (u : State) : (u.setReg (CRX_CORE_ARITH.a k) 0).rf x = u.rf x :=
    rf_of_reg hx (reg_setReg_ne _ _ _ _ arith)
  have cluster : (s.bindOwns k h).reg (CRX_CLU_STS.a (k / 8 / 4) (k / 8 % 4)) =
      (s.setClu (k / 8) h (s.boundIn (k / 8) + 1)).reg (CRX_CLU_STS.a (k / 8 / 4) (k / 8 % 4)) := by
    rw [bindOwns, reg_setReg_ne _ _ _ _ clu, reg_wf_ne _ _ _ _ far, reg_wf_ne _ _ _ _ far]
  refine ⟨?_, ?_, ?_, ?_, ?_⟩
  · rw [cstate, bindOwns, core rfl, rf_wf_apart _ (.inr ⟨holder, .inl (show 0 + 3 ≤ 3 by decide)⟩)]
    exact rf_wf_fits state (show 1 < 2 ^ 3 by decide)
  · rw [coreH, bindOwns, core rfl]
    exact rf_wf_fits holder hh
  · exact (rf_of_reg (x := CRX_CLU_STS.BOUND (k / 8 / 4) (k / 8 % 4)) rfl cluster).trans bound
  · exact (rb_of_reg (x := CRX_CLU_STS.OWNED (k / 8 / 4) (k / 8 % 4)) rfl cluster).trans (owned (Nat.succ_ne_zero _))
  · exact (rf_of_reg (x := CRX_CLU_STS.HARNESS (k / 8 / 4) (k / 8 % 4)) rfl cluster).trans harness

/-! ### The bind done -/

theorem frame_wakeTen (c : Nat) : frame s (s.wakeTen c) [.power] (fun _ => False) := by
  unfold wakeTen
  split
  · exact frame_withPower _ (by decide)
  · exact frame_refl ..
theorem comp_wakeTen (c : Nat) : (s.wakeTen c).comp = s.comp := comp_of_frame (frame_wakeTen c) (by decide)

theorem frame_bindLoads (k : Nat) : frame s (s.bindLoads k) [.comp] (fun a => a = CRX_CORE_IMAGE.a k ∨ a = CRX_CORE_CODE.a k) :=
  frame_trans (frame_setReg _ _ (.inl rfl)) (frame_trans (frame_setReg _ _ (.inr rfl)) (frame_mono (frame_setCst k _) (fun _ => id) (fun _ => False.elim)))

/-- What a bind leaves when clearing finishes. -/
theorem bindFinish_finishes (hh : h < 4096) (hn : k / 8 / 4 = n)
    (hb : s.comp.binds.find? (fun b => b.die == n && b.bind && !b.waits) = some ⟨n, k, h, true, false⟩)
    (h8 : s.rf (CRX_CLU_STS.BOUND n (k / 8 % 4)) < 8) :
    let t := s.bindFinish n
    t.cstate k = 1 ∧ t.coreH k = h ∧ t.boundCore k = true ∧
    t.rf (CRX_CLU_STS.BOUND n (k / 8 % 4)) = s.rf (CRX_CLU_STS.BOUND n (k / 8 % 4)) + 1 ∧
    t.rb (CRX_CLU_STS.OWNED n (k / 8 % 4)) = true ∧ t.rf (CRX_CLU_STS.HARNESS n (k / 8 % 4)) = h ∧
    (∀ i, i < 256 → t.flagOf (lfKey k i) = false) ∧ (h ≠ 0 → ∀ o, o < sizeL → t.mem.readByte h (addrL k o) = 0) ∧
    t.rf (CRX_BIND_CMD.STATUS n) = 0 ∧ t.rb (CRX_BIND_CMD.BUSY n) = false ∧
    t.comp.binds = s.comp.binds.filter (fun b => b.die != n) := by
  subst hn
  rw [bindFinish_eq hb]
  dsimp only
  have clears := frame_bindClears (s := s) k h
  have dead : h ≠ 0 → ∀ o, o < sizeL → (s.bindClears k h).mem.live h (addrL k o) = false := fun hne o ho => live_bindClears hne ho
  have comp0 : (s.bindClears k h).comp = s.comp := comp_of_frame clears (by decide)
  generalize s.bindClears k h = a at clears dead comp0
  have dropped : frame s (a.withComp { a.comp with flags := a.comp.flags.filter (fun x => !s.bindDrops k x) }) [.mem, .comp] (fun _ => False) :=
    frame_trans (frame_mono clears (by decide) (fun _ => id)) (frame_withComp _ (by decide))
  have comp1 : (a.withComp { a.comp with flags := a.comp.flags.filter (fun x => !s.bindDrops k x) }).comp =
      { s.comp with flags := s.comp.flags.filter (fun x => !s.bindDrops k x) } := by rw [withComp_comp, comp0]
  have mem1 : (a.withComp { a.comp with flags := a.comp.flags.filter (fun x => !s.bindDrops k x) }).mem = a.mem := withComp_mem ..
  generalize a.withComp { a.comp with flags := a.comp.flags.filter (fun x => !s.bindDrops k x) } = u at dropped comp1 mem1
  have bound1 : u.boundIn (k / 8) = s.boundIn (k / 8) := rf_of_frame dropped (x := CRX_CLU_STS.BOUND (k / 8 / 4) (k / 8 % 4)) id
  obtain ⟨state, core, bound, owned, harness⟩ := bindOwns_shows (s := u) (k := k) hh (by rw [bound1]; exact h8)
  have owns := frame_bindOwns (s := u) k h
  generalize u.bindOwns k h = v at state core bound owned harness owns
  have comp2 : v.comp = u.comp := comp_of_frame owns (by simp)
  have mem2 : v.mem = u.mem := owns.1 .mem (by simp)
  have loads := frame_bindLoads (s := v) k
  have comp3 : (v.bindLoads k).comp.flags = v.comp.flags ∧ (v.bindLoads k).comp.binds = v.comp.binds ∧ (v.bindLoads k).boundCore k = true := by
    rw [bindLoads, boundCore, cst_setCst_self]; exact ⟨rfl, rfl, rfl⟩
  generalize v.bindLoads k = w at loads comp3
  have wakes := frame_wakeTen (s := w) (k / 8)
  have comp4 := comp_wakeTen (s := w) (k / 8)
  generalize w.wakeTen (k / 8) = x at wakes comp4
  obtain ⟨done, idle, comp5, ends⟩ := bindDone_shows (s := x) (n := k / 8 / 4) (st := stOK) (by decide)
  have after : frame v (x.bindDone (k / 8 / 4) stOK) [.comp, .power] (fun a => a = CRX_CORE_IMAGE.a k ∨ a = CRX_CORE_CODE.a k ∨ a = CRX_BIND_CMD.a (k / 8 / 4)) :=
    frame_trans (frame_mono loads (by decide) (fun _ h => h.elim .inl (fun e => .inr (.inl e)))) (frame_trans (frame_mono wakes (by decide) (fun _ => False.elim))
      (frame_mono ends (by decide) (fun _ h => .inr (.inr h))))
  have coreKept : ¬ (CRX_CORE_STS.a k = CRX_CORE_IMAGE.a k ∨ CRX_CORE_STS.a k = CRX_CORE_CODE.a k ∨ CRX_CORE_STS.a k = CRX_BIND_CMD.a (k / 8 / 4)) := by
    simp only [CRX_CORE_STS.a, CRX_CORE_IMAGE.a, CRX_CORE_CODE.a, CRX_BIND_CMD.a, coreBase, cruxBase]; omega
  have cluKept : ¬ (CRX_CLU_STS.a (k / 8 / 4) (k / 8 % 4) = CRX_CORE_IMAGE.a k ∨ CRX_CLU_STS.a (k / 8 / 4) (k / 8 % 4) = CRX_CORE_CODE.a k ∨
      CRX_CLU_STS.a (k / 8 / 4) (k / 8 % 4) = CRX_BIND_CMD.a (k / 8 / 4)) := by
    simp only [CRX_CLU_STS.a, CRX_CORE_IMAGE.a, CRX_CORE_CODE.a, CRX_BIND_CMD.a, coreBase, cruxBase]; omega
  have mem5 : (x.bindDone (k / 8 / 4) stOK).mem = a.mem := (after.1 .mem (by decide)).trans (mem2.trans mem1)
  refine ⟨?_, ?_, ?_, ?_, ?_, ?_, fun i hi => ?_, fun hne o ho => ?_, done, idle, ?_⟩
  · rw [cstate_of_frame after coreKept, state]
  · rw [coreH_of_frame after coreKept, core]
  · rw [boundCore, cst_of_comp (s := w) (by rw [comp5, comp4])]; exact comp3.2.2
  · rw [rf_of_frame after (x := CRX_CLU_STS.BOUND _ _) cluKept, bound, bound1]; rfl
  · rw [rb_of_frame after (x := CRX_CLU_STS.OWNED _ _) cluKept, owned]
  · rw [rf_of_frame after (x := CRX_CLU_STS.HARNESS _ _) cluKept, harness]
  · rw [flagOf, comp5, comp4, comp3.1, comp2, comp1, Bool.eq_false_iff]
    simp [bindDrops_local hi k]
  · rw [mem5]; exact MemSt.readByte_of_dead (dead hne o ho)
  · rw [comp5, comp4, comp3.2.1, comp2, comp1]

end State
end Sys2Proof.Machine
end

section
/-! PROOF. A core unbound (R163, R197, R445). -/
namespace Sys2Proof.Machine
namespace State
variable {s t u : State} {n k h : Nat}

/-! ## The parts of an unbind -/

/-- A tenant's L left holding poison, its valid bits clear. -/
def poisonL (s : State) (k h : Nat) : State :=
  if h = 0 then s else s.withMem ((s.mem.poison (addrL k 0) (addrL k sizeL)).clearValid (addrL k 0) (addrL k sizeL))
/-- S below its reservations likewise, where a tenant's last core leaves the cluster. -/
def poisonS (s : State) (c h left : Nat) : State :=
  if h = 0 || left != 0 then s else s.withMem ((s.mem.poison (addrS c 0) (addrS c (s.sFree c))).clearValid (addrS c 0) (addrS c (s.sFree c)))
/-- The cluster with the cores that are left. -/
def cluLeft (s : State) (c h left : Nat) : State :=
  s.setClu c (if left = 0 && !(s.rf (CRX_CLU_SRES.BYTES (c / 4) (c % 4)) != 0) then 0 else h) left
/-- Core `k` without an owner. -/
def coreLeft (s : State) (k : Nat) : State :=
  let u := if s.cstate k = 6 then s else s.wf (CRX_CORE_STS.STATE k) 0
  (u.wf (CRX_CORE_STS.HARNESS k) 0).setCst k { u.cst k with bound := false }

theorem unbindCore_halted (h1 : s.cstate k = 1) :
    s.unbindCore k =
      let u := (s.quotaGive .cores (s.coreH k) 1).poisonL k (s.coreH k)
      (((u.poisonS (k / 8) (s.coreH k) (u.boundIn (k / 8) - 1)).cluLeft (k / 8) (s.coreH k) (u.boundIn (k / 8) - 1)).coreLeft k) := by
  unfold unbindCore
  rw [haltCore_idle (by omega) (by omega) (by omega)]
  rfl

/-! ## Memory -/

theorem frame_poisonL (k h : Nat) : frame s (s.poisonL k h) [.mem] (fun _ => False) := by
  unfold poisonL
  split
  · exact frame_refl ..
  · exact frame_withMem _ (by decide)
theorem frame_poisonS (c h left : Nat) : frame s (s.poisonS c h left) [.mem] (fun _ => False) := by
  unfold poisonS
  split
  · exact frame_refl ..
  · exact frame_withMem _ (by decide)
theorem lookup_poisonL (hh : h ≠ 0) {a : Nat} (ha : addrL k 0 ≤ a ∧ a < addrL k sizeL) : lookupKey (s.poisonL k h).mem.cells a = none := by
  rw [poisonL, if_neg hh, withMem_mem]
  exact MemSt.lookup_poison_inside ha
theorem lookup_poisonS {a : Nat} (ha : lookupKey s.mem.cells a = none) (c h left : Nat) : lookupKey (s.poisonS c h left).mem.cells a = none := by
  unfold poisonS
  split
  · exact ha
  · rw [withMem_mem]; exact MemSt.lookup_poison_none ha
/-- The word of a byte of L lies in L. -/
theorem addrL_word {o : Nat} (ho : o < sizeL) : addrL k 0 ≤ addrL k o / 8 * 8 ∧ addrL k o / 8 * 8 < addrL k sizeL := by
  unfold addrL sizeL at *; omega

/-! ## The core and its cluster -/

theorem core_ne {j : Nat} (hj : j < 512) (hk : k < 512) (h : j ≠ k) : CRX_CORE_STS.a j ≠ CRX_CORE_STS.a k := by
  unfold CRX_CORE_STS.a coreBase; omega

theorem frame_coreLeft (k : Nat) : frame s (s.coreLeft k) [.comp] (fun a => a = CRX_CORE_STS.a k) := by
  unfold coreLeft
  extract_lets u
  have idle : frame s u [.comp] (fun a => a = CRX_CORE_STS.a k) := by
    show frame s (if _ then _ else _) _ _
    split
    · exact frame_refl ..
    · exact frame_wf_sts 0 rfl
  exact frame_trans idle (frame_trans (frame_wf_sts 0 rfl) (frame_mono (frame_setCst k _) (fun _ => id) (fun _ => False.elim)))
theorem coreLeft_shows (h6 : s.cstate k ≠ 6) :
    (s.coreLeft k).cstate k = 0 ∧ (s.coreLeft k).boundCore k = false ∧ ∀ j, j ≠ k → (s.coreLeft k).boundCore j = s.boundCore j := by
  have e : s.coreLeft k = ((s.wf (CRX_CORE_STS.STATE k) 0).wf (CRX_CORE_STS.HARNESS k) 0).setCst k { (s.wf (CRX_CORE_STS.STATE k) 0).cst k with bound := false } := by
    unfold coreLeft
    rw [if_neg h6]
  have last := frame_setCst (s := (s.wf (CRX_CORE_STS.STATE k) 0).wf (CRX_CORE_STS.HARNESS k) 0) k { (s.wf (CRX_CORE_STS.STATE k) 0).cst k with bound := false }
  rw [e]
  refine ⟨?_, ?_, fun j hj => ?_⟩
  · rw [cstate_of_frame last id, cstate, rf_wf_apart _ (.inr ⟨show 3 + 12 ≤ 64 by decide, .inl (show 0 + 3 ≤ 3 by decide)⟩)]
    exact cstate_wf k (by decide)
  · rw [boundCore, cst_setCst_self]
  · rw [boundCore, cst_setCst_ne k _ hj, cst_of_comp (s := s) (by rw [wf_comp, wf_comp])]; rfl

/-- What an unbind of a HALTED core leaves. -/
theorem unbindCore_leaves (hk : k < 512) (h1 : s.cstate k = 1) :
    let t := s.unbindCore k
    t.boundCore k = false ∧ t.cstate k = 0 ∧
    t.rf (CRX_CLU_STS.BOUND (k / 8 / 4) (k / 8 % 4)) = s.rf (CRX_CLU_STS.BOUND (k / 8 / 4) (k / 8 % 4)) - 1 ∧
    (s.coreH k ≠ 0 → ∀ o, o < sizeL → t.mem.readByte 0 (addrL k o) = 0xFF) ∧
    ∀ j, j < 512 → j ≠ k → t.boundCore j = s.boundCore j ∧ t.cstate j = s.cstate j := by
  have gives : frame s (s.quotaGive .cores (s.coreH k) 1) [] (fun a => a < 0x1000000) :=
    frame_mono (frame_quotaGive .cores (s.coreH k) 1) (fun _ => id) (fun a ha => by
      have := coreH_lt (s := s) k
      have := QKind.cores.limit_place (s.coreH k)
      unfold quotaReg at ha
      simp only [HRN_STS.a] at *; omega)
  have poisonsL := frame_trans (frame_mono gives (by simp) (fun _ => id)) (frame_mono (frame_poisonL (s := s.quotaGive .cores (s.coreH k) 1) k (s.coreH k))
    (fun _ => id) (fun _ => False.elim))
  have wordsL : s.coreH k ≠ 0 → ∀ o, o < sizeL → lookupKey ((s.quotaGive .cores (s.coreH k) 1).poisonL k (s.coreH k)).mem.cells (addrL k o / 8 * 8) = none :=
    fun hne o ho => lookup_poisonL hne (addrL_word ho)
  rw [unbindCore_halted h1]
  dsimp only
  generalize (s.quotaGive .cores (s.coreH k) 1).poisonL k (s.coreH k) = a at poisonsL wordsL
  have bound0 : a.boundIn (k / 8) = s.boundIn (k / 8) :=
    rf_of_frame poisonsL (x := CRX_CLU_STS.BOUND (k / 8 / 4) (k / 8 % 4)) (by simp only [CRX_CLU_STS.BOUND, CRX_CLU_STS.a, cruxBase]; omega)
  rw [bound0]
  have poisons := frame_trans poisonsL (frame_mono (frame_poisonS (s := a) (k / 8) (s.coreH k) (s.boundIn (k / 8) - 1)) (fun _ => id) (fun _ => False.elim))
  have words : s.coreH k ≠ 0 → ∀ o, o < sizeL → lookupKey (a.poisonS (k / 8) (s.coreH k) (s.boundIn (k / 8) - 1)).mem.cells (addrL k o / 8 * 8) = none :=
    fun hne o ho => lookup_poisonS (wordsL hne o ho) ..
  generalize a.poisonS (k / 8) (s.coreH k) (s.boundIn (k / 8) - 1) = b at poisons words
  have small : s.boundIn (k / 8) < 16 := rf_lt (CRX_CLU_STS.BOUND (k / 8 / 4) (k / 8 % 4))
  have owner : (if (decide (s.boundIn (k / 8) - 1 = 0) && !(b.rf (CRX_CLU_SRES.BYTES (k / 8 / 4) (k / 8 % 4)) != 0)) = true then 0 else s.coreH k) < 4096 := by
    split
    · decide
    · exact coreH_lt k
  have left := (setClu_shows (s := b) (c := k / 8) (m := s.boundIn (k / 8) - 1) owner (by omega)).1
  have cluster := frame_setClu (s := b) (k / 8)
    (if (decide (s.boundIn (k / 8) - 1 = 0) && !(b.rf (CRX_CLU_SRES.BYTES (k / 8 / 4) (k / 8 % 4)) != 0)) = true then 0 else s.coreH k) (s.boundIn (k / 8) - 1)
  rw [cluLeft]
  generalize b.setClu (k / 8) _ (s.boundIn (k / 8) - 1) = c at left cluster
  have before : frame s c [.mem] (fun a => a < 0x1000000 ∨ a = CRX_CLU_STS.a (k / 8 / 4) (k / 8 % 4)) :=
    frame_trans (frame_mono poisons (fun _ => id) (fun _ => .inl)) (frame_mono cluster (by simp) (fun _ => .inr))
  have core (j : Nat) : ¬ (CRX_CORE_STS.a j < 0x1000000 ∨ CRX_CORE_STS.a j = CRX_CLU_STS.a (k / 8 / 4) (k / 8 % 4)) :=
    not_or_intro (by unfold CRX_CORE_STS.a coreBase; omega) (clu_ne_core j k).symm
  have state (j : Nat) : c.cstate j = s.cstate j := cstate_of_frame before (core j)
  have comp : c.comp = s.comp := comp_of_frame before (by decide)
  have mem : c.mem = b.mem := cluster.1 .mem (by simp)
  obtain ⟨idle, unbound, others⟩ := coreLeft_shows (s := c) (k := k) (by rw [state, h1]; decide)
  have leaves := frame_coreLeft (s := c) k
  generalize c.coreLeft k = t at idle unbound others leaves
  refine ⟨unbound, idle, ?_, fun hne o ho => ?_, fun j hj hne => ⟨?_, ?_⟩⟩
  · rw [rf_of_frame leaves (x := CRX_CLU_STS.BOUND (k / 8 / 4) (k / 8 % 4)) (clu_ne_core k k), left]; rfl
  · have same : t.mem = c.mem := leaves.1 .mem (by decide)
    rw [same, mem]; exact MemSt.readByte_unwritten (words hne o ho)
  · rw [others j hne, boundCore, cst_of_comp (congrArg (·.cores) comp), boundCore]
  · rw [cstate_of_frame leaves (core_ne hj hk hne), state]

theorem unbindBegin_rejects (hr : s.boundCore k = false ∨ s.hrnState (s.coreH k) = 2) : s.unbindBegin n k = s.bindDone n stREJECT := by
  unfold unbindBegin
  exact if_pos (by rcases hr with hr | hr <;> simp [hr])
theorem unbindBegin_unbinds (hb : s.boundCore k = true) (hs : s.hrnState (s.coreH k) ≠ 2) : s.unbindBegin n k = (s.unbindCore k).bindDone n stOK := by
  unfold unbindBegin
  exact if_neg (by simp [hb, hs])

end State
end Sys2Proof.Machine
end

section
/-! PROOF. Package flag blocks, credit channels and jumar pairs as harness 0 sets them (R188 to R191, R200, R201), and the obligation on
binding and shared units. -/
namespace Sys2Proof.Machine
namespace State
variable {s t u : State} {n k h : Nat}

/-! ## Package flag blocks (R188) -/

/-- With no core waiting, a flag cleared is only cleared. -/
theorem writeFlag_clear (hw : s.comp.waits = []) (key : Nat) :
    s.writeFlag key false = s.withComp { s.comp with flags := s.comp.flags.filter (fun x => x != key), waits := [] } := by
  simp [writeFlag, hw, seeFlag]

/-- From `s` to `t`, with no core waiting, the flags of `keys` have been cleared and no other. -/
def flagsCleared (s t : State) (keys : List Nat) : Prop :=
  t.comp.waits = [] ∧ (∀ key, t.flagOf key = (s.flagOf key && !keys.contains key)) ∧ frame s t [.comp] (fun _ => False)

theorem flagsCleared_foldl (hw : s.comp.waits = []) (f : Nat → Nat) (L : List Nat) :
    flagsCleared s (L.foldl (fun t i => t.writeFlag (f i) false) s) (L.map f) := by
  induction L generalizing s with
  | nil => exact ⟨hw, fun key => by simp, frame_refl ..⟩
  | cons i L ih =>
    rw [List.foldl_cons, writeFlag_clear hw]
    obtain ⟨waits, flags, hf⟩ := ih (s := s.withComp { s.comp with flags := s.comp.flags.filter (fun x => x != f i), waits := [] }) rfl
    refine ⟨waits, fun key => ?_, frame_trans (frame_withComp _ (by decide)) hf⟩
    rw [flags, Bool.eq_iff_iff]
    simp [flagOf]
    tauto

/-- The block's binding register written with VALID set. -/
def pflagShown (s : State) (n b h : Nat) : State := (s.wf (CRX_PFLAG_BIND.HARNESS n b) h).wf (CRX_PFLAG_BIND.VALID n b) 1
theorem writePflag_valid (n b h : Nat) : s.writePflag n b h true =
    (List.range 64).foldl (fun t i => t.writeFlag (pfKey (256 * n + 64 * b + i)) false) (s.pflagShown n b h) := rfl
theorem pflagShown_shows (n b : Nat) (hh : h < 4096) :
    (s.pflagShown n b h).rb (CRX_PFLAG_BIND.VALID n b) = true ∧ (s.pflagShown n b h).rf (CRX_PFLAG_BIND.HARNESS n b) = h := by
  have valid : (CRX_PFLAG_BIND.VALID n b).lo + (CRX_PFLAG_BIND.VALID n b).w ≤ 64 := show 12 + 1 ≤ 64 by decide
  refine ⟨?_, ?_⟩
  · rw [pflagShown, rb_wf_self _ _ valid]; rfl
  · rw [pflagShown, rf_wf_apart _ (.inr ⟨valid, .inl (show 0 + 12 ≤ 12 by decide)⟩)]
    exact rf_wf_fits (show 0 + 12 ≤ 64 by decide) hh

/-- A block bound to `h`: its 64 flags are 0 and answer to `h`. -/
theorem writePflag_binds (b : Nat) (hh : h < 4096) (hw : s.comp.waits = []) :
    let t := s.writePflag (b / 4) (b % 4) h true
    (∀ i, i < 64 → t.pflagH (64 * b + i) = some h ∧ t.flagOf (pfKey (64 * b + i)) = false) ∧
    (∀ key, (key < pfKey (64 * b) ∨ pfKey (64 * b + 64) ≤ key) → t.flagOf key = s.flagOf key) ∧
    frame s t [.comp] (fun a => a = CRX_PFLAG_BIND.a (b / 4) (b % 4)) := by
  obtain ⟨valid, harness⟩ := pflagShown_shows (s := s) (b / 4) (b % 4) hh
  have shown : frame s (s.pflagShown (b / 4) (b % 4) h) [.comp] (fun a => a = CRX_PFLAG_BIND.a (b / 4) (b % 4)) := frame_trans (frame_wf _ _ rfl) (frame_wf _ _ rfl)
  have comp : (s.pflagShown (b / 4) (b % 4) h).comp = s.comp := by rw [pflagShown, wf_comp, wf_comp]
  rw [writePflag_valid]
  generalize s.pflagShown (b / 4) (b % 4) h = u at valid harness shown comp
  obtain ⟨-, flags, hf⟩ := flagsCleared_foldl (s := u) (by rw [comp, hw]) (fun i => pfKey (256 * (b / 4) + 64 * (b % 4) + i)) (List.range 64)
  dsimp only
  generalize (List.range 64).foldl (fun t i => t.writeFlag (pfKey (256 * (b / 4) + 64 * (b % 4) + i)) false) u = t at flags hf
  have mem (key : Nat) : ((List.range 64).map (fun i => pfKey (256 * (b / 4) + 64 * (b % 4) + i))).contains key = true ↔
      pfKey (64 * b) ≤ key ∧ key < pfKey (64 * b + 64) := by
    simp only [List.contains_iff_mem, List.mem_map, List.mem_range, pfKey]
    constructor
    · rintro ⟨i, hi, rfl⟩; omega
    · rintro ⟨lo, hi⟩; exact ⟨key - 0x200000 - 64 * b, by omega, by omega⟩
  refine ⟨fun i hi => ⟨?_, ?_⟩, fun key hk => ?_, frame_trans shown (frame_mono hf (by simp) (fun _ => False.elim))⟩
  · have block : (64 * b + i) / 256 = b / 4 ∧ (64 * b + i) / 64 % 4 = b % 4 := by omega
    rw [pflagH, block.1, block.2, rb_of_frame hf id, rf_of_frame hf id, valid, harness]; rfl
  · rw [flags, (mem _).mpr (by unfold pfKey; omega)]; simp
  · have out : ((List.range 64).map (fun i => pfKey (256 * (b / 4) + 64 * (b % 4) + i))).contains key = false :=
      Bool.eq_false_iff.mpr fun h => by have := (mem key).mp h; omega
    rw [flags, out, flagOf, comp, flagOf]; simp

/-! ## Credit channels (R189, R190, R201) -/

/-- The entry a write of CRX_CCH_DATA makes of `v`, with `count` credits. -/
def cchEntry (v : Word) (count : Nat) : Word := Word.ofN (v.field 0 13 + v.field 16 16 * 2 ^ 16 + count * 2 ^ 32)
theorem cchEntry_fields (v : Word) {count : Nat} (hc : count < 65536) :
    (cchEntry v count).field 0 1 = v.field 0 1 ∧ (cchEntry v count).field 1 12 = v.field 1 12 ∧ (cchEntry v count).field 16 16 = v.field 16 16 ∧
    (cchEntry v count).field 32 16 = count := by
  rw [cchEntry, Word.field_ofN _ _ _ (by decide), Word.field_ofN _ _ _ (by decide), Word.field_ofN _ _ _ (by decide), Word.field_ofN _ _ _ (by decide)]
  simp only [Word.field]
  refine ⟨by omega, by omega, by omega, by omega⟩

theorem cchOf_setCch_self (g : Nat) (w : Word) : (s.setCch g w).cchOf g = w := sparseGet_set_self ..
theorem cchOf_setCch_ne {g g' : Nat} (w : Word) (h : g' ≠ g) : (s.setCch g w).cchOf g' = s.cchOf g' := sparseGet_set_ne _ _ _ _ _ h
theorem frame_setCch (g : Nat) (w : Word) : frame s (s.setCch g w) [.comp] (fun _ => False) := frame_withComp _ (by decide)
theorem frame_cchAdvance (n : Nat) : frame s (s.cchAdvance n) [] (fun a => a = CRX_CCH_CTL.a n) := by
  unfold cchAdvance
  split
  · exact frame_wf _ _ rfl
  · exact frame_refl ..
theorem index_cchAdvance (n : Nat) :
    (s.cchAdvance n).rf (CRX_CCH_CTL.INDEX n) = (s.rf (CRX_CCH_CTL.INDEX n) + (if s.rb (CRX_CCH_CTL.AUTOINC n) then 1 else 0)) % 4096 := by
  unfold cchAdvance
  split
  · exact rf_wf_self _ _ _ (show 0 + 12 ≤ 64 by decide)
  · exact (Nat.mod_eq_of_lt (rf_lt (CRX_CCH_CTL.INDEX n))).symm
theorem cchCount_lt (g : Nat) : s.cchCount g < 65536 := Nat.mod_lt _ (by decide)

/-- The channel written, and the index advanced. -/
def cchPut (s : State) (n : Nat) (e : Word) : State := (s.setCch (s.cchSel n) e).cchAdvance n
theorem comp_cchPut (n : Nat) (e : Word) : (s.cchPut n e).comp = (s.setCch (s.cchSel n) e).comp := comp_of_frame (frame_cchAdvance n) (by simp)
theorem cchOf_cchPut (n : Nat) (e : Word) (g : Nat) : (s.cchPut n e).cchOf g = (s.setCch (s.cchSel n) e).cchOf g := by
  rw [cchOf, comp_cchPut, cchOf]

section
variable {v : Word} (src : Src)

theorem writeCch_refused (hv : v.field 0 1 = 1) (h : (s.cchOf (s.cchSel n)).field 0 1 = 1 ∨ v.field 16 16 = 0) :
    s.writeCch src n v = s.reject src (CRX_CCH_DATA.a n) := by
  unfold writeCch
  exact if_pos (by rcases h with h | h <;> simp [hv, h])
theorem writeCch_valid (hv : v.field 0 1 = 1) (h0 : (s.cchOf (s.cchSel n)).field 0 1 = 0) (hc : v.field 16 16 ≠ 0) :
    s.writeCch src n v = s.cchPut n (cchEntry v (v.field 16 16)) := by
  have on : (v.field 0 1 == 1) = true := by rw [hv]; rfl
  have refused : ¬ ((v.field 0 1 == 1) && ((s.cchOf (s.cchSel n)).field 0 1 == 1 || v.field 16 16 == 0)) = true := by simp [h0, hc]
  unfold writeCch
  rw [if_neg refused, on]
  exact if_pos (by rfl)
theorem writeCch_invalid (hv : v.field 0 1 = 0) (h1 : (s.cchOf (s.cchSel n)).field 0 1 = 1) {m : Nat}
    (hw : s.comp.waits = [⟨k, .credit (s.cchSel n) m, false, 0⟩]) :
    s.writeCch src n v = (s.cchPut n (cchEntry v (s.cchCount (s.cchSel n)))).seqFault k stDENIED (s.cchSel n) := by
  have off : (v.field 0 1 == 1) = false := by rw [hv]; rfl
  have was : ((s.cchOf (s.cchSel n)).field 0 1 == 1) = true := by rw [h1]; rfl
  unfold writeCch cchPut
  generalize s.cchSel n = g at *
  simp only [off, was, hw, cchEntry, Bool.false_and, Bool.false_or, Bool.not_true, Bool.false_eq_true, if_false, List.filterMap_cons,
    List.filterMap_nil, decide_true, Bool.not_false, Bool.and_self, if_true]
  rw [List.foldl_cons, List.foldl_nil]
end

/-! ## Jumar pairs (R191, R200) -/

/-- The configuration a write of CRX_JUMAR_CFG makes of `v`. -/
def jumarEntry (v : Word) : Word := Word.ofN (v.field 0 13 + v.field 32 32 * 2 ^ 32)
theorem jumarEntry_fields (v : Word) :
    (jumarEntry v).field 0 1 = v.field 0 1 ∧ (jumarEntry v).field 1 12 = v.field 1 12 ∧ (jumarEntry v).field 32 32 = v.field 32 32 ∧
    (jumarEntry v).field 13 1 = 0 := by
  rw [jumarEntry, Word.field_ofN _ _ _ (by decide), Word.field_ofN _ _ _ (by decide), Word.field_ofN _ _ _ (by decide), Word.field_ofN _ _ _ (by decide)]
  simp only [Word.field]
  refine ⟨by omega, by omega, by omega, by omega⟩

/-- The pair's configuration written. -/
theorem writeJumar_keeps {v : Word} (hr : v.field 13 1 = 0) (n i : Nat) : s.writeJumar n i v = s.setReg (CRX_JUMAR_CFG.a n i) (jumarEntry v) := by
  simp [writeJumar, hr, jumarEntry]
theorem writeJumar_resets {v : Word} (hr : v.field 13 1 = 1) (n i : Nat) :
    s.writeJumar n i v = ((s.setReg (CRX_JUMAR_CFG.a n i) (jumarEntry v)).setReg (CRX_JUMAR_EVEN.a n i) 0).setReg (CRX_JUMAR_ODD.a n i) 0 := by
  simp [writeJumar, hr, jumarEntry]
theorem jumar_regs_ne (n i : Nat) : CRX_JUMAR_CFG.a n i ≠ CRX_JUMAR_EVEN.a n i ∧ CRX_JUMAR_CFG.a n i ≠ CRX_JUMAR_ODD.a n i ∧
    CRX_JUMAR_EVEN.a n i ≠ CRX_JUMAR_ODD.a n i := by
  simp only [CRX_JUMAR_CFG.a, CRX_JUMAR_EVEN.a, CRX_JUMAR_ODD.a]; omega
theorem reg_writeJumar (n i : Nat) (v : Word) : (s.writeJumar n i v).reg (CRX_JUMAR_CFG.a n i) = jumarEntry v := by
  obtain ⟨even, odd, -⟩ := jumar_regs_ne n i
  rcases Nat.mod_two_eq_zero_or_one (v.toNat / 2 ^ 13) with hr | hr
  · rw [writeJumar_keeps hr, reg_setReg_self]
  · rw [writeJumar_resets hr, reg_setReg_ne _ _ _ _ odd, reg_setReg_ne _ _ _ _ even, reg_setReg_self]
theorem frame_writeJumar (n i : Nat) (v : Word) :
    frame s (s.writeJumar n i v) [] (fun a => a = CRX_JUMAR_CFG.a n i ∨ a = CRX_JUMAR_EVEN.a n i ∨ a = CRX_JUMAR_ODD.a n i) := by
  rcases Nat.mod_two_eq_zero_or_one (v.toNat / 2 ^ 13) with hr | hr
  · rw [writeJumar_keeps hr]; exact frame_setReg _ _ (.inl rfl)
  · rw [writeJumar_resets hr]
    exact frame_trans (frame_setReg _ _ (.inl rfl)) (frame_trans (frame_setReg _ _ (.inr (.inl rfl))) (frame_setReg _ _ (.inr (.inr rfl))))

/-- The two counters of pair `i` of crux die `n`. -/
theorem jumar_pair (hi : k < 32) (n : Nat) :
    s.jumar (64 * n + 2 * k) = s.rf (CRX_JUMAR_EVEN.V n k) ∧ s.jumar (64 * n + 2 * k + 1) = s.rf (CRX_JUMAR_ODD.V n k) := by
  have even : jDie (64 * n + 2 * k) = n ∧ jPair (64 * n + 2 * k) = k := by unfold jDie jPair; omega
  have odd : jDie (64 * n + 2 * k + 1) = n ∧ jPair (64 * n + 2 * k + 1) = k := by unfold jDie jPair; omega
  refine ⟨?_, ?_⟩
  · rw [jumar, if_pos (by omega), even.1, even.2]
  · rw [jumar, if_neg (by omega), odd.1, odd.2]
theorem rf_zero_reg {x : Rf} (h : s.reg x.a = 0) : s.rf x = 0 := by
  rw [rf, h, Word.field]
  simp
theorem jumar_reset (hi : k < 32) {v : Word} (hr : v.field 13 1 = 1) (n : Nat) :
    (s.writeJumar n k v).jumar (64 * n + 2 * k) = 0 ∧ (s.writeJumar n k v).jumar (64 * n + 2 * k + 1) = 0 := by
  obtain ⟨even, odd⟩ := jumar_pair (s := s.writeJumar n k v) hi n
  rw [even, odd, writeJumar_resets hr]
  refine ⟨rf_zero_reg ?_, rf_zero_reg ?_⟩
  · show State.reg _ (CRX_JUMAR_EVEN.a n k) = 0
    rw [reg_setReg_ne _ _ _ _ (jumar_regs_ne n k).2.2, reg_setReg_self]
  · exact reg_setReg_self ..
theorem jumarH_pair (hi : k < 32) (n : Nat) : s.jumarH (64 * n + 2 * k) =
    if s.rb (CRX_JUMAR_CFG.VALID n k) then some (s.rf (CRX_JUMAR_CFG.HARNESS n k)) else none := by
  have even : jDie (64 * n + 2 * k) = n ∧ jPair (64 * n + 2 * k) = k := by unfold jDie jPair; omega
  rw [jumarH, even.1, even.2]

end State
end Sys2Proof.Machine
end

section
/-! PROOF. The obligation on binding of cores and on shared units (R163, R165, R170, R188 to R191, R197, R200, R201, R445). -/
namespace Sys2Proof.Machine
namespace State
variable {s t u : State} {n k h : Nat}

/-- Core `32 n + q` of crux die `n` by its number. -/
theorem core_of_die (hn : n = k / 32) : 32 * n + k % 32 = k := by omega
/-- The crux die of the cluster of core `k`. -/
theorem die_of_cluster (hn : n = k / 32) : k / 8 / 4 = n := by omega

section
variable (q : Nat)
theorem comp_bindNamed : (s.bindNamed n q h).comp = s.comp := comp_of_frame (frame_bindNamed n q h) (by simp)
theorem cstate_bindNamed (j : Nat) : (s.bindNamed n q h).cstate j = s.cstate j :=
  cstate_of_frame (frame_bindNamed n q h) ((bind_reads_apart n (h := 0) (by decide)).2.2.1 j)
theorem coreH_bindNamed (j : Nat) : (s.bindNamed n q h).coreH j = s.coreH j :=
  coreH_of_frame (frame_bindNamed n q h) ((bind_reads_apart n (h := 0) (by decide)).2.2.1 j)
theorem boundCore_bindNamed (j : Nat) : (s.bindNamed n q h).boundCore j = s.boundCore j := by
  rw [boundCore, cst_of_comp (congrArg (·.cores) (comp_bindNamed q)), boundCore]
theorem hrnState_bindNamed {g : Nat} (hg : g < 4096) : (s.bindNamed n q h).hrnState g = s.hrnState g :=
  hrnState_of_frame (frame_bindNamed n q h) (bind_reads_apart n hg).1
end

/-- A bind command that ends in the step, without an effect. -/
theorem bindDone_named {q st : Nat} (hs : st < 256) :
    let t := (s.bindNamed n q h).bindDone n st
    t.rf (CRX_BIND_CMD.STATUS n) = st ∧ t.rb (CRX_BIND_CMD.BUSY n) = false ∧ t.comp.cores = s.comp.cores ∧
    frame s t [.comp] (fun a => a = CRX_BIND_CMD.a n) := by
  obtain ⟨status, busy, comp, hf⟩ := bindDone_shows (s := s.bindNamed n q h) (n := n) hs
  exact ⟨status, busy, by rw [comp, comp_bindNamed], frame_trans (frame_mono (frame_bindNamed n q h) (by simp) (fun _ => id)) hf⟩

/-- The unbind of a HALTED core, with its command. -/
theorem unbindBegin_leaves {q : Nat} (hn : n = k / 32) (hk : k < 512) (hb : s.boundCore k = true) (hs : s.hrnState (s.coreH k) ≠ 2) (h1 : s.cstate k = 1) :
    let t := (s.bindNamed n q h).unbindBegin n k
    t.rf (CRX_BIND_CMD.STATUS n) = 0 ∧ t.rb (CRX_BIND_CMD.BUSY n) = false ∧ t.boundCore k = false ∧ t.cstate k = 0 ∧
    t.rf (CRX_CLU_STS.BOUND n (k / 8 % 4)) = s.rf (CRX_CLU_STS.BOUND n (k / 8 % 4)) - 1 ∧
    (s.coreH k ≠ 0 → ∀ o, o < sizeL → t.mem.readByte 0 (addrL k o) = 0xFF) ∧
    (∀ j, j < 512 → j ≠ k → t.boundCore j = s.boundCore j ∧ t.cstate j = s.cstate j) := by
  have apart := bind_reads_apart n (h := 0) (by decide)
  have clu := (apart.2.2.2.1 n (k / 8 % 4) (Nat.mod_lt _ (by decide))).1
  have named : frame s (s.bindNamed n q h) [] (fun a => a = CRX_BIND_CMD.a n) := frame_bindNamed n q h
  have bound0 : (s.bindNamed n q h).rf (CRX_CLU_STS.BOUND n (k / 8 % 4)) = s.rf (CRX_CLU_STS.BOUND n (k / 8 % 4)) :=
    rf_of_frame named (x := CRX_CLU_STS.BOUND n (k / 8 % 4)) clu
  obtain ⟨unbound, idle, left, poison, others⟩ := unbindCore_leaves (s := s.bindNamed n q h) hk ((cstate_bindNamed q k).trans h1)
  rw [die_of_cluster hn, bound0] at left
  rw [coreH_bindNamed] at poison
  rw [unbindBegin_unbinds ((boundCore_bindNamed q k).trans hb) (by rwa [coreH_bindNamed, hrnState_bindNamed q (coreH_lt k)])]
  have others' (j : Nat) (hj : j < 512) (hne : j ≠ k) :
      ((s.bindNamed n q h).unbindCore k).boundCore j = s.boundCore j ∧ ((s.bindNamed n q h).unbindCore k).cstate j = s.cstate j :=
    ⟨(others j hj hne).1.trans (boundCore_bindNamed q j), (others j hj hne).2.trans (cstate_bindNamed q j)⟩
  generalize (s.bindNamed n q h).unbindCore k = u at unbound idle left poison others'
  obtain ⟨status, busy, comp, hf⟩ := bindDone_shows (s := u) (n := n) (st := stOK) (by decide)
  dsimp only
  generalize u.bindDone n stOK = t at status busy comp hf
  have core (j : Nat) : t.boundCore j = u.boundCore j := by rw [boundCore, cst_of_comp (s := u) (by rw [comp]), boundCore]
  have state (j : Nat) : t.cstate j = u.cstate j := cstate_of_frame hf (apart.2.2.1 j)
  have mem : t.mem = u.mem := hf.1 .mem (by decide)
  refine ⟨status, busy, (core k).trans unbound, (state k).trans idle, ?_, fun hne o ho => ?_, fun j hj hne => ?_⟩
  · rw [rf_of_frame hf (x := CRX_CLU_STS.BOUND n (k / 8 % 4)) clu, left]
  · rw [mem, poison hne o ho]
  · exact ⟨(core j).trans (others' j hj hne).1, (state j).trans (others' j hj hne).2⟩

/-- A channel made valid (R189, R201). -/
theorem cchPut_valid {v : Word} (hv : v.field 0 1 = 1) :
    let t := s.cchPut n (cchEntry v (v.field 16 16))
    t.cchH (s.cchSel n) = some (v.field 1 12) ∧ t.cchCap (s.cchSel n) = v.field 16 16 ∧ t.cchCount (s.cchSel n) = v.field 16 16 ∧
    (∀ g, g ≠ s.cchSel n → t.cchOf g = s.cchOf g) ∧ t.comp.waits = s.comp.waits ∧
    t.rf (CRX_CCH_CTL.INDEX n) = (s.rf (CRX_CCH_CTL.INDEX n) + (if s.rb (CRX_CCH_CTL.AUTOINC n) then 1 else 0)) % 4096 ∧
    frame s t [.comp] (fun a => a = CRX_CCH_CTL.a n) := by
  obtain ⟨valid, harness, cap, count⟩ := cchEntry_fields v (count := v.field 16 16) (Nat.mod_lt _ (by decide))
  have entry : (s.cchPut n (cchEntry v (v.field 16 16))).cchOf (s.cchSel n) = cchEntry v (v.field 16 16) := by rw [cchOf_cchPut, cchOf_setCch_self]
  refine ⟨?_, ?_, ?_, fun g hg => ?_, ?_, ?_, ?_⟩
  · rw [cchH, entry, valid, hv, harness]; rfl
  · rw [cchCap, entry, cap]
  · rw [cchCount, entry, count]
  · rw [cchOf_cchPut, cchOf_setCch_ne _ hg]
  · rw [comp_cchPut, setCch, withComp_comp]
  · rw [cchPut, index_cchAdvance, setCch, rf_withComp, rb_withComp]
  · exact frame_trans (frame_mono (frame_setCch ..) (fun _ => id) (fun _ => False.elim)) (frame_mono (frame_cchAdvance n) (by simp) (fun _ => id))

/-- A selected channel's number is one of 2^16. -/
theorem cchSel_lt (hn : n < 16) : s.cchSel n < 2 ^ 64 := by
  have index : s.rf (CRX_CCH_CTL.INDEX n) < 4096 := rf_lt (CRX_CCH_CTL.INDEX n)
  unfold cchSel
  omega
/-- A channel made invalid: the core whose take waits on it faults with DENIED (R190). -/
theorem cchPut_invalid {v : Word} (hv : v.field 0 1 = 0) (hk : k < 512) (hf : s.comp.flights = []) (hr : s.rope.ctxs = []) {m : Nat}
    (hw : s.comp.waits = [⟨k, .credit (s.cchSel n) m, false, 0⟩]) :
    let t := (s.cchPut n (cchEntry v (s.cchCount (s.cchSel n)))).seqFault k stDENIED (s.cchSel n)
    t.cchH (s.cchSel n) = none ∧ t.cstate k = 5 ∧ t.rf (CRX_CORE_FAULT.STATUS k) = 0x08 ∧ t.rf (CRX_CORE_FAULT_ADDR.V k) = s.cchSel n % 2 ^ 64 ∧
    t.comp.waits = [] := by
  obtain ⟨valid, -, -, -⟩ := cchEntry_fields v (cchCount_lt (s := s) (s.cchSel n))
  have entry : (s.cchPut n (cchEntry v (s.cchCount (s.cchSel n)))).cchOf (s.cchSel n) = cchEntry v (s.cchCount (s.cchSel n)) := by
    rw [cchOf_cchPut, cchOf_setCch_self]
  have put : frame s (s.cchPut n (cchEntry v (s.cchCount (s.cchSel n)))) [.comp] (fun a => a = CRX_CCH_CTL.a n) :=
    frame_trans (frame_mono (frame_setCch ..) (fun _ => id) (fun _ => False.elim)) (frame_mono (frame_cchAdvance n) (by simp) (fun _ => id))
  have comp := comp_cchPut (s := s) n (cchEntry v (s.cchCount (s.cchSel n)))
  have flights : (s.cchPut n (cchEntry v (s.cchCount (s.cchSel n)))).comp.flights = [] := by rw [comp, setCch, withComp_comp, hf]
  have waits : (s.cchPut n (cchEntry v (s.cchCount (s.cchSel n)))).comp.waits = [⟨k, .credit (s.cchSel n) m, false, 0⟩] := by
    rw [comp, setCch, withComp_comp, hw]
  have rope : (s.cchPut n (cchEntry v (s.cchCount (s.cchSel n)))).rope = s.rope := put.1 .rope (by decide)
  generalize s.cchPut n (cchEntry v (s.cchCount (s.cchSel n))) = u at entry flights waits rope
  obtain ⟨state, status, -, -, addr, others, cch, -⟩ := seqFault_faults (s := u) hk flights (by rw [rope, hr]) (status := stDENIED) (by decide) (by decide) (s.cchSel n)
  dsimp only
  generalize u.seqFault k stDENIED (s.cchSel n) = t at state status addr others cch
  refine ⟨?_, state, status, addr, ?_⟩
  · have kept : t.cchOf (s.cchSel n) = u.cchOf (s.cchSel n) := by rw [cchOf, cch, cchOf]
    rw [cchH, kept, entry, valid, hv]; rfl
  · rw [others, otherWaits, waits]; simp

/-- A bind of core `32 n + q` that passes its checks, with its command. -/
theorem bindBegin_grants {q : Nat} (hh : h < 4096) (h0 : s.bindStatus k h = 0) :
    let t := (s.bindNamed n q h).bindBegin n k h
    t.comp.binds = s.comp.binds.filter (fun b => b.die != n) ++ [⟨n, k, h, true, false⟩] ∧ t.rb (CRX_BIND_CMD.BUSY n) = true ∧
    t.cstate k = s.cstate k ∧ (h ≠ 0 → s.rf (HRN_Q_CORES.USED h) < 512 → t.rf (HRN_Q_CORES.USED h) = s.rf (HRN_Q_CORES.USED h) + 1) ∧
    frame s t [.comp] (fun a => a = CRX_BIND_CMD.a n ∨ a = HRN_Q_CORES.a h ∨ a = HRN_STS.a h) := by
  have named : frame s (s.bindNamed n q h) [] (fun a => a = CRX_BIND_CMD.a n) := frame_bindNamed n q h
  obtain ⟨-, -, core, -, quota⟩ := bind_reads_apart n hh
  have used : (s.bindNamed n q h).rf (HRN_Q_CORES.USED h) = s.rf (HRN_Q_CORES.USED h) := rf_of_frame named (x := HRN_Q_CORES.USED h) quota
  have passes : (s.bindNamed n q h).bindStatus k h = 0 := (bindStatus_of_frame named k hh).trans h0
  have comp := comp_bindNamed (s := s) (n := n) (h := h) q
  generalize s.bindNamed n q h = u at named used passes comp
  obtain ⟨binds, busy, takes, hf⟩ := bindBegin_begins (n := n) passes hh
  have whole := frame_trans (frame_mono named (by simp) (fun _ => .inl)) hf
  rw [comp] at binds
  rw [used] at takes
  exact ⟨binds, busy, cstate_of_frame whole (by simp only [HRN_Q_CORES.a, HRN_STS.a, CRX_CORE_STS.a, CRX_BIND_CMD.a, cruxBase, coreBase] at *; omega), takes, whole⟩

/-- A bind that fails a check, with its command. -/
theorem bindBegin_fails {q st : Nat} (hh : h < 4096) (h0 : s.bindStatus k h = st) (hs : st ≠ 0) :
    (s.bindNamed n q h).bindBegin n k h = (s.bindNamed n q h).bindDone n st :=
  bindBegin_refused ((bindStatus_of_frame (frame_bindNamed n q h) k hh).trans h0) hs
/-- An unbind that is rejected, with its command. -/
theorem unbindBegin_fails {q : Nat} (hr : s.boundCore k = false ∨ s.hrnState (s.coreH k) = 2) :
    (s.bindNamed n q h).unbindBegin n k = (s.bindNamed n q h).bindDone n stREJECT :=
  unbindBegin_rejects (by rwa [boundCore_bindNamed, coreH_bindNamed, hrnState_bindNamed q (coreH_lt k)])

/-! ## What the write of a jumar pair leaves -/

theorem rf_writeJumar {x : Rf} {i : Nat} (hx : x.a = CRX_JUMAR_CFG.a n i) (v : Word) : (s.writeJumar n i v).rf x = (jumarEntry v).field x.lo x.w := by
  rw [rf, hx, reg_writeJumar]
/-- The configuration of pair `i` as JUMAR_RESET writes it: RESET set, the rest as it stands. -/
def jumarResetWord (s : State) (n i : Nat) : Word := (s.reg (CRX_JUMAR_CFG.a n i)).withField 13 1 1
theorem jumarResetWord_fields (n i : Nat) :
    (s.jumarResetWord n i).field 13 1 = 1 ∧ (s.jumarResetWord n i).field 0 1 = s.rf (CRX_JUMAR_CFG.VALID n i) ∧
    (s.jumarResetWord n i).field 1 12 = s.rf (CRX_JUMAR_CFG.HARNESS n i) ∧ (s.jumarResetWord n i).field 32 32 = s.rf (CRX_JUMAR_CFG.LIMIT n i) :=
  ⟨Word.field_withField_self _ _ _ _ (by decide), Word.field_withField_below _ _ _ _ _ _ (by decide) (by decide),
    Word.field_withField_below _ _ _ _ _ _ (by decide) (by decide), Word.field_withField_above _ _ _ _ _ _ (by decide) (by decide)⟩
/-- A pair whose counters RESET zeroes keeps its binding and its limit. -/
theorem writeJumar_reset_keeps {i : Nat} (hi : i < 32) (n : Nat) :
    (s.writeJumar n i (s.jumarResetWord n i)).jumarH (64 * n + 2 * i) = s.jumarH (64 * n + 2 * i) ∧
    (s.writeJumar n i (s.jumarResetWord n i)).rf (CRX_JUMAR_CFG.LIMIT n i) = s.rf (CRX_JUMAR_CFG.LIMIT n i) := by
  obtain ⟨-, valid, harness, limit⟩ := jumarResetWord_fields (s := s) n i
  obtain ⟨valid', harness', limit', -⟩ := jumarEntry_fields (s.jumarResetWord n i)
  have same : (s.writeJumar n i (s.jumarResetWord n i)).rf (CRX_JUMAR_CFG.VALID n i) = s.rf (CRX_JUMAR_CFG.VALID n i) :=
    (rf_writeJumar rfl _).trans (valid'.trans valid)
  refine ⟨?_, (rf_writeJumar rfl _).trans (limit'.trans limit)⟩
  rw [jumarH_pair hi, jumarH_pair hi, rb, rb, same, (rf_writeJumar rfl _).trans (harness'.trans harness)]

end State

open State

theorem exec_coreBind (src : Src) (k : Fin 512) {n : Fin 16} (h : Fin 4096) (hn : n.val = k.val / 32) (s : State) :
    exec (.coreBind src k h) s = unheld s (s.guardWrite src (CRX_BIND_CMD.a n) (fun t => t.writeBindCmd src n (k.val % 32) h 1)) := by rw [hn]; rfl
theorem exec_coreUnbind (src : Src) (k : Fin 512) {n : Fin 16} (hn : n.val = k.val / 32) (s : State) :
    exec (.coreUnbind src k) s = unheld s (s.guardWrite src (CRX_BIND_CMD.a n)
      (fun t => t.writeBindCmd src n (k.val % 32) (t.rf (CRX_BIND_CMD.HARNESS n)) 2)) := by rw [hn]; rfl

/-- Settles O26: the bind command by what it finds in CRX_BIND_CMD, then each unit that harness 0 sets. -/
theorem coreBindingAndSharedUnits : Obligations.CoreBindingAndSharedUnits := by
  unfold Obligations.CoreBindingAndSharedUnits
  refine ⟨fun s src k n h hu hn ho => ⟨fun hb => ?busy, fun hb hl => ⟨fun h0 => ?granted, fun st h0 hne hst => ?refused, fun hr => ?rejected,
    fun hbound hs h1 => ?unbound⟩, fun hfind h8 => ?bound⟩, fun s src hu => ⟨fun b h ho hw => ?pflag, fun n v ho => ⟨fun hv h => ?cchRefused,
    fun hv h0 hc => ?cchValid, fun k hv h1 hf hr hw => ?cchInvalid⟩, fun n i v ho => ⟨?jumarCfg, ?jumarReset⟩⟩⟩
  case busy =>
    have low : CRX_BIND_CMD.a n < 2 ^ 26 := by simp only [CRX_BIND_CMD.a, cruxBase]; omega
    exact ⟨turnedAway_write hu ho (exec_coreBind src k h hn s) (writeBindCmd_busy src _ _ hb) low,
      turnedAway_write hu ho (exec_coreUnbind src k hn s) (writeBindCmd_busy src _ _ hb) low⟩
  case granted =>
    refine runs_write hu ho (exec_coreBind src k h hn s) ?_
    rw [writeBindCmd_bind src hb (by rwa [core_of_die hn]), core_of_die hn]
    obtain ⟨binds, busy, state, used, hf⟩ := bindBegin_grants (n := n) (q := k.val % 32) h.isLt h0
    exact ⟨binds, busy, state, fun hne => used (fun e => hne (Fin.ext e)), hf⟩
  case refused =>
    refine runs_write hu ho (exec_coreBind src k h hn s) ?_
    rw [writeBindCmd_bind src hb (by rwa [core_of_die hn]), core_of_die hn, bindBegin_fails h.isLt h0 hne]
    exact bindDone_named hst
  case rejected =>
    refine runs_write hu ho (exec_coreUnbind src k hn s) ?_
    rw [writeBindCmd_unbind src hb (by rwa [core_of_die hn]), core_of_die hn, unbindBegin_fails hr]
    exact bindDone_named (by decide)
  case unbound =>
    refine runs_write hu ho (exec_coreUnbind src k hn s) ?_
    rw [writeBindCmd_unbind src hb (by rwa [core_of_die hn]), core_of_die hn]
    exact unbindBegin_leaves hn k.isLt hbound hs h1
  case bound =>
    obtain ⟨state, core, bound, count, owned, owner, flags, zero, done⟩ := bindFinish_finishes h.isLt (die_of_cluster hn) hfind h8
    exact runs_unheld hu rfl ⟨state, core, bound, count, owned, owner, flags, fun hne => zero (fun e => hne (Fin.ext e)), done⟩
  case pflag => exact runs_write hu ho rfl (writePflag_binds b.val h.isLt hw)
  case cchRefused =>
    exact turnedAway_write hu ho rfl (writeCch_refused src hv h) (by simp only [CRX_CCH_DATA.a, cruxBase]; omega)
  case cchValid =>
    refine runs_write hu ho rfl ?_
    rw [writeCch_valid src hv h0 hc]
    exact cchPut_valid hv
  case cchInvalid =>
    obtain ⟨m, hw⟩ := hw
    refine runs_write hu ho rfl ?_
    rw [writeCch_invalid src hv h1 hw]
    obtain ⟨gone, state, status, addr, waits⟩ := cchPut_invalid hv k.isLt hf hr hw
    exact ⟨gone, state, status, addr.trans (Nat.mod_eq_of_lt (cchSel_lt n.isLt)), waits⟩
  case jumarCfg =>
    obtain ⟨valid, harness, limit, reset⟩ := jumarEntry_fields v
    exact runs_write hu ho rfl ⟨(rf_writeJumar rfl v).trans valid, (rf_writeJumar rfl v).trans harness, (rf_writeJumar rfl v).trans limit,
      (rf_writeJumar rfl v).trans reset, fun hr => by rw [writeJumar_keeps hr]; exact frame_setReg _ _ rfl, fun hr => jumar_reset i.isLt hr n⟩
  case jumarReset =>
    obtain ⟨even, odd⟩ := jumar_reset (s := s) i.isLt (jumarResetWord_fields n i).1 n
    obtain ⟨keeps, limit⟩ := writeJumar_reset_keeps (s := s) i.isLt n
    exact runs_write hu ho rfl ⟨even, odd, keeps, limit, frame_writeJumar ..⟩

end Sys2Proof.Machine
end

section
/-! PROOF. A core that stops or faults whatever is in flight (R161, R184, R196, R400, R446): the memory traffic it causes, and what it shows. -/
namespace Sys2Proof.Machine
namespace State
variable {s t u : State} {k : Nat}

/-! ## Memory traffic -/

/-- The registers that memory errors, records and witness records count in. CRX_CNT_TEN_FAIL, at offset 0x20228 of a crux die, is none. -/
abbrev trafficReg (a : Nat) : Prop :=
  recordReg a ∨ (0x188000 ≤ a ∧ a < 0x1A8000) ∨ (0x1000000 ≤ a ∧ 0x20000 ≤ a % 0x100000 ∧ a % 0x100000 ≠ 0x20228) ∨ 0x3000000 ≤ a
abbrev trafficParts : List Part := .comp :: .free :: witnessParts

/-- From `s` to `t` only what memory traffic touches has changed: of the cores, no more than the taint of instructions in flight; no fault
has been raised. -/
structure Traffic (s t : State) : Prop where
  frame : frame s t trafficParts trafficReg
  raised : t.fault.raised = s.fault.raised
  comp : t.comp = { s.comp with flights := t.comp.flights }
  count : t.comp.flights.length = s.comp.flights.length

theorem frame_freeB (n : Nat) : frame s (s.freeB n).2 [.free] (fun _ => False) := by
  refine ⟨fun p hp => ?_, fun _ _ => rfl, rfl⟩
  cases p with
  | free => exact absurd (List.mem_singleton.mpr rfl) hp
  | _ => rfl

namespace Traffic

theorem refl (s : State) : Traffic s s := ⟨frame_refl .., rfl, rfl, rfl⟩
theorem trans (h : Traffic s t) (k : Traffic t u) : Traffic s u :=
  ⟨frame_trans h.frame k.frame, k.raised.trans h.raised, by rw [k.comp, h.comp], k.count.trans h.count⟩
theorem of_frame {ch : List Part} {rg : Nat → Prop} (h : State.frame s t ch rg) (hf : Part.fault ∉ ch) (hc : Part.comp ∉ ch)
    (hp : ∀ p ∈ ch, p ∈ trafficParts) (hr : ∀ a, rg a → trafficReg a) : Traffic s t := by
  have comp := comp_of_frame h hc
  exact ⟨frame_mono h hp hr, congrArg (·.raised) (h.1 .fault hf), by rw [comp], by rw [comp]⟩
theorem none (h : Traffic s t) (hf : s.comp.flights = []) : t.comp.flights = [] := List.length_eq_zero_iff.mp (by rw [h.count, hf]; rfl)
theorem cst (h : Traffic s t) (j : Nat) : t.cst j = s.cst j := cst_of_comp (by rw [h.comp]) j

theorem inc (x : Rf) (h : trafficReg x.a) : Traffic s (s.inc x) :=
  of_frame (frame_inc (ch := [.sticky]) (rg := trafficReg) x h (by decide)) (by decide) (by decide) (by decide) (fun _ => id)
theorem report {r : FaultRec} (hc : r.cls < 256) (hs : r.sev < 2) : Traffic s (s.report r) := by
  have touched := recorded_report (s := s) r hc
  have comp := comp_of_frame touched (by decide)
  exact ⟨frame_mono touched (by decide) (fun _ => .inl), raised_report_alarm hs, by rw [comp], by rw [comp]⟩
theorem trace (p q h : Nat) (l : List Byte) : Traffic s (s.trace p q h l) := by
  have touched := recorded_trace (s := s) p q h l
  have comp := comp_of_frame touched (by decide)
  exact ⟨frame_mono touched (by decide) (fun _ => .inl), (sent_trace p q h l).raised, by rw [comp], by rw [comp]⟩

theorem memEvent (code owner a : Nat) : Traffic s (s.memEvent code owner a) := by
  have stack (i o : Nat) : trafficReg (0x03000000 + i * 0x10000 + o) := .inr (.inr (.inr (by omega)))
  have crux {n o : Nat} (h : 0x20400 ≤ o ∧ o < 0x20420) : trafficReg (cruxBase n + o) := by unfold trafficReg cruxBase; omega
  unfold State.memEvent
  extract_lets h s1
  have counted : Traffic s s1 := by
    refine inc _ ?_
    split
    · split
      · exact stack _ _
      · split <;> exact stack _ _
    · split
      · exact crux (by decide)
      · split <;> exact crux (by decide)
  exact counted.trans (report (show clMEMORY < 256 by decide) (by show (if code = 2 then 1 else 0) < 2; split <;> decide))
theorem memEvents (owner : Nat) (l : List (Nat × Found)) : Traffic s (s.memEvents owner l) :=
  List.foldlRecOn (motive := Traffic s) _ _ (refl s) (fun _ h _ _ => h.trans (memEvent _ _ _))
theorem taintBy (rs : List (Nat × Nat)) : Traffic s (s.taintBy rs) := by
  have touched := frame_taintBy (s := s) rs
  refine ⟨frame_mono touched (by decide) (fun _ => False.elim), congrArg (·.raised) (touched.1 .fault (by decide)), ?_, ?_⟩
  all_goals
    rw [State.taintBy]
    split
    · simp
    · rfl
theorem memWrite (owner : Nat) (rs : List (Nat × Nat)) (bs : List Byte) : Traffic s (s.memWrite owner rs bs).2 := by
  have stored : Traffic s (s.withMem (s.mem.writeRuns owner rs bs)) :=
    of_frame (frame_withMem (ch := [.mem]) (rg := fun _ => False) _ (by decide)) (by decide) (by decide) (by decide) (fun _ => False.elim)
  exact stored.trans ((memEvents _ _).trans ((taintBy _).trans
    (of_frame (frame_wakeHbm rs) (by decide) (by decide) (by decide) (fun _ => False.elim))))

/-- Destinations left undefined (R161, R292). -/
theorem scribble (rs : List (Nat × Nat)) : Traffic s (s.scribble rs) := by
  refine List.foldlRecOn (motive := Traffic s) _ _ (refl s) (fun t h r _ => h.trans ?_)
  have drawn : Traffic t (t.freeB r.2).2 := of_frame (frame_freeB r.2) (by decide) (by decide) (by decide) (fun _ => False.elim)
  exact drawn.trans (memWrite _ _ _)

theorem witness {h : Nat} (hh : h < 4096) (kind n c status flags : Nat) (body : List Byte) :
    Traffic s (s.witness h kind n c status flags body) := by
  have ring {o : Nat} (ho : o < 0x20) : trafficReg (0x00188000 + h * 0x20 + o) := .inr (.inl (by omega))
  have dropped {t : State} : Traffic t (t.inc (HRN_WIT_DROP.V h)) := inc _ (ring (by decide))
  unfold State.witness
  extract_lets q src s1 m r0 r cap wp full
  have numbered : Traffic s s1 :=
    (inc (CRX_CNT_WITNESS.V n) (by simp only [CRX_CNT_WITNESS.V, CRX_CNT_WITNESS.a, cruxBase, trafficReg]; omega)).trans
      (of_frame (frame_withHrn (ch := [.hrn]) (rg := fun _ => False) _ (by decide)) (by decide) (by decide) (by decide) (fun _ => False.elim))
  split
  · exact numbered
  · split
    · split
      · exact numbered.trans dropped
      · exact numbered.trans ((memWrite _ _ _).trans
          (of_frame (frame_wf (ch := []) (rg := trafficReg) (HRN_WIT_WPTR.V h) _ (ring (by decide))) (by simp) (by simp) (by simp) (fun _ => id)))
    · exact numbered.trans dropped
theorem programWitness (k status instr exit : Nat) (wit : List Word) : Traffic s (s.programWitness k status instr exit wit) :=
  witness (coreH_lt k) ..

end Traffic

/-- No memory traffic counts in a core's block. -/
theorem not_trafficReg_core (hk : k < 512) {o : Nat} (ho : o < 0x100) : ¬ trafficReg (coreBase k + o) := by
  unfold trafficReg recordReg coreBase; omega
theorem not_trafficReg_tenFail {n : Nat} (hn : n < 16) : ¬ trafficReg (CRX_CNT_TEN_FAIL.a n) := by
  unfold trafficReg recordReg CRX_CNT_TEN_FAIL.a cruxBase; omega

/-! ## A core stopped (R161) -/

/-- The instructions in flight of the other cores. -/
def otherFlights (s : State) (k : Nat) : List Flight := s.comp.flights.filter (fun f => f.core != k)

/-- What stopping core `k` leaves, beside its STATE. -/
structure Stopped (s t : State) (k : Nat) : Prop where
  frame : frame s t (.mfb :: trafficParts) (fun a => a = CRX_CORE_STS.a k ∨ trafficReg a)
  raised : t.fault.raised = s.fault.raised
  count : t.comp.flights.length = (s.otherFlights k).length
  sregs : (t.cst k).sregs = (s.cst k).sregs

/-- The state once the instructions of core `k` are discarded and its memory requests retired without answer. -/
def discarded (s : State) (k : Nat) : State :=
  let t := (s.withComp { s.comp with flights := s.otherFlights k }).retireSource (1152 + k)
  t.withMfb { t.mfb with coreRsp := t.mfb.coreRsp.filter (fun r => r.core != k) }
theorem frame_discarded (k : Nat) : State.frame s (s.discarded k) [.comp, .mfb] (fun _ => False) :=
  frame_trans (frame_withComp _ (by decide)) (frame_trans (frame_withMfb _ (by decide)) (frame_withMfb _ (by decide)))
theorem comp_discarded (k : Nat) : (s.discarded k).comp = { s.comp with flights := s.otherFlights k } := rfl
theorem abandon_eq (k : Nat) : s.abandon k = (s.discarded k).scribble
    (((s.flightsOf k).filter (fun f => f.started)).flatMap (fun f => f.dsts.filter (fun r => decide (0x10000000000 ≤ r.1)))) := rfl

theorem abandon_leaves (k : Nat) : Stopped s (s.abandon k) k := by
  rw [abandon_eq]
  have gone := frame_discarded (s := s) k
  have left := Traffic.scribble (s := s.discarded k)
    (((s.flightsOf k).filter (fun f => f.started)).flatMap (fun f => f.dsts.filter (fun r => decide (0x10000000000 ≤ r.1))))
  refine ⟨frame_trans (frame_mono gone (by decide) (fun _ => False.elim)) (frame_mono left.frame (by decide) (fun _ => .inr)),
    left.raised.trans (congrArg (·.raised) (gone.1 .fault (by decide))), ?_, ?_⟩
  · rw [left.count, comp_discarded]
  · rw [left.cst, cst_of_comp (congrArg (·.cores) (comp_discarded k))]

theorem stopCore_leaves (k : Nat) {st : Nat} (hst : st < 8) : (s.stopCore k st).cstate k = st ∧ Stopped s (s.stopCore k st) k := by
  have waiting := frame_dropWait (s := s) k
  obtain ⟨hf, raised, count, sregs⟩ := abandon_leaves (s := s.dropWait k) k
  generalize e : (s.dropWait k).abandon k = u at hf raised count sregs
  have shown : s.stopCore k st = (u.wf (CRX_CORE_STS.STATE k) st).setCst k { (u.wf (CRX_CORE_STS.STATE k) st).cst k with kept := none } := by
    rw [stopCore, e]
  rw [shown]
  refine ⟨cstate_wf k hst, ?_, raised, count, ?_⟩
  · exact frame_trans (frame_mono waiting (by decide) (fun _ => .inl)) (frame_trans hf
      (frame_trans (frame_wf _ _ (.inl rfl)) (frame_mono (frame_setCst k _) (by decide) (fun _ => False.elim))))
  · rw [cst_setCst_self, cst_of_comp (s := u) (by rw [wf_comp]), sregs, cst_of_comp (s := s) (by rw [comp_dropWait])]

/-! ## A core fault (R196, R286, R400, R512) -/

/-- The fault registers of core `k` written. -/
def faultWritten (s : State) (k status unit instr addr : Nat) : State :=
  (((s.wf (CRX_CORE_FAULT.STATUS k) status).wf (CRX_CORE_FAULT.UNIT k) unit).wf (CRX_CORE_FAULT.INSTR k) instr).wf (CRX_CORE_FAULT_ADDR.V k) addr
theorem frame_faultWritten (k status unit instr addr : Nat) :
    State.frame s (s.faultWritten k status unit instr addr) [] (fun a => a = CRX_CORE_FAULT.a k ∨ a = CRX_CORE_FAULT_ADDR.a k) :=
  frame_trans (frame_wf _ _ (.inl rfl)) (frame_trans (frame_wf _ _ (.inl rfl)) (frame_trans (frame_wf _ _ (.inl rfl)) (frame_wf _ _ (.inr rfl))))
theorem faultWritten_shows {status unit : Nat} (instr addr : Nat) (hs : status < 256) (hu : unit < 8) :
    let t := s.faultWritten k status unit instr addr
    t.rf (CRX_CORE_FAULT.STATUS k) = status ∧ t.rf (CRX_CORE_FAULT.UNIT k) = unit ∧ t.rf (CRX_CORE_FAULT.INSTR k) = instr % 2 ^ 32 ∧
    t.rf (CRX_CORE_FAULT_ADDR.V k) = addr % 2 ^ 64 := by
  have other : (CRX_CORE_FAULT.a k) ≠ (CRX_CORE_FAULT_ADDR.a k) := by simp only [CRX_CORE_FAULT.a, CRX_CORE_FAULT_ADDR.a]; omega
  have hStatus : (CRX_CORE_FAULT.STATUS k).lo + (CRX_CORE_FAULT.STATUS k).w ≤ 64 := show 0 + 8 ≤ 64 by decide
  have hUnit : (CRX_CORE_FAULT.UNIT k).lo + (CRX_CORE_FAULT.UNIT k).w ≤ 64 := show 8 + 3 ≤ 64 by decide
  have hInstr : (CRX_CORE_FAULT.INSTR k).lo + (CRX_CORE_FAULT.INSTR k).w ≤ 64 := show 12 + 32 ≤ 64 by decide
  simp only [faultWritten]
  refine ⟨?_, ?_, ?_, rf_wf_self _ _ _ (show 0 + 64 ≤ 64 by decide)⟩
  · rw [rf_wf_apart _ (.inl other), rf_wf_apart _ (.inr ⟨hInstr, .inl (show 0 + 8 ≤ 12 by decide)⟩),
      rf_wf_apart _ (.inr ⟨hUnit, .inl (show 0 + 8 ≤ 8 by decide)⟩), rf_wf_fits hStatus hs]
  · rw [rf_wf_apart _ (.inl other), rf_wf_apart _ (.inr ⟨hInstr, .inl (show 8 + 3 ≤ 12 by decide)⟩), rf_wf_fits hUnit hu]
  · rw [rf_wf_apart _ (.inl other), rf_wf_self _ _ _ hInstr]; rfl

/-- The STATE a fault leaves a core in: FAILED where its own state was uncorrectable, else FAULTED (R196). -/
def faultState (status : Nat) : Nat := if status = stPOISON then 6 else 5
/-- The witness record and the trace record of a core fault. -/
def faultTold (s : State) (h k status instr : Nat) : State :=
  (if status = stPOISON then s else s.programWitness k status instr 0 [0, 0, 0, 0]).trace 1 (unitCrux (k / 32)) h
    (bytesLE 2 k ++ bytesLE 1 status ++ bytesLE 4 instr)
theorem traffic_faultTold (h k status instr : Nat) : Traffic s (s.faultTold h k status instr) := by
  refine Traffic.trans ?_ (Traffic.trace ..)
  split
  · exact .refl s
  · exact Traffic.programWitness ..
/-- The fault record of a core fault: of class CHECK where a check site found it (R398, R512). -/
def coreFaultRec (h k status instr site want got : Nat) : FaultRec :=
  if site = 0 then ⟨clHARNESS, 0x01, 2, status, unitCrux (k / 32), h, bytesLE 2 k ++ bytesLE 4 instr⟩
  else ⟨clCHECK, site, 2, stCHECK, unitCrux (k / 32), h, bytesLE 2 k ++ bytesLE 4 instr ++ bytesLE 8 want ++ bytesLE 8 got⟩
theorem coreFaultRec_shows (h k status instr site want got : Nat) :
    (coreFaultRec h k status instr site want got).sev = 2 ∧ (coreFaultRec h k status instr site want got).harness = h := by
  unfold coreFaultRec; split <;> exact ⟨rfl, rfl⟩

/-- A core fault: the core stopped, its fault registers written, the fault witnessed, traced and raised, its ropes broken, in this order. -/
theorem coreFault_eq (k status unit instr addr site want got : Nat) :
    s.coreFault k status unit instr addr site want got =
      (((((s.stopCore k (faultState status)).faultWritten k status unit instr addr).faultTold (s.coreH k) k status instr).report
        (coreFaultRec (s.coreH k) k status instr site want got)).memberLost true k) := by
  unfold coreFault faultWritten faultTold faultState coreFaultRec checkFault
  split <;> split <;> rfl

/-- What a fault of core `k` leaves. -/
structure Faulted (s t : State) (k status unit instr addr : Nat) (r : FaultRec) : Prop where
  state : t.cstate k = faultState status
  status : t.rf (CRX_CORE_FAULT.STATUS k) = status
  unit : t.rf (CRX_CORE_FAULT.UNIT k) = unit
  instr : t.rf (CRX_CORE_FAULT.INSTR k) = instr % 2 ^ 32
  addr : t.rf (CRX_CORE_FAULT_ADDR.V k) = addr % 2 ^ 64
  pc : t.pc k = s.pc k
  sregs : (t.cst k).sregs = (s.cst k).sregs
  count : t.comp.flights.length = (s.otherFlights k).length
  raised : ∃ n, t.fault.raised = s.fault.raised ++ [⟨r, n⟩]
  tenFail : ∀ n, n < 16 → t.reg (CRX_CNT_TEN_FAIL.a n) = s.reg (CRX_CNT_TEN_FAIL.a n)

theorem coreFault_faults (hk : k < 512) (hr : s.rope.ctxs = []) {status unit : Nat} (hs : status < 256) (hu : unit < 8)
    (instr addr site want got : Nat) :
    Faulted s (s.coreFault k status unit instr addr site want got) k status unit instr addr
      (coreFaultRec (s.coreH k) k status instr site want got) := by
  obtain ⟨state, stopped⟩ := stopCore_leaves (s := s) k (st := faultState status) (by unfold faultState; split <;> decide)
  have written := frame_faultWritten (s := s.stopCore k (faultState status)) k status unit instr addr
  obtain ⟨hStatus, hUnit, hInstr, hAddr⟩ := faultWritten_shows (s := s.stopCore k (faultState status)) (k := k) instr addr hs hu
  have told := traffic_faultTold (s := (s.stopCore k (faultState status)).faultWritten k status unit instr addr) (s.coreH k) k status instr
  rw [coreFault_eq]
  generalize s.stopCore k (faultState status) = a at *
  generalize a.faultWritten k status unit instr addr = b at *
  generalize b.faultTold (s.coreH k) k status instr = c at *
  obtain ⟨sev, -⟩ := coreFaultRec_shows (s.coreH k) k status instr site want got
  have rope : c.rope.ctxs = [] := by
    have r1 : c.rope = b.rope := told.frame.1 .rope (by decide)
    have r2 : b.rope = a.rope := written.1 .rope (by decide)
    have r3 : a.rope = s.rope := stopped.frame.1 .rope (by decide)
    rw [r1, r2, r3, hr]
  rw [report_raises (by rw [sev]), memberLost_none (by rw [withFault_rope, rope])]
  generalize coreFaultRec (s.coreH k) k status instr site want got = r
  have last := frame_withFault (s := c) (ch := [.fault]) (rg := fun _ => False) { c.fault with raised := c.fault.raised ++ [⟨r, c.now⟩] } (by decide)
  have ending : (c.withFault { c.fault with raised := c.fault.raised ++ [⟨r, c.now⟩] }).fault.raised = c.fault.raised ++ [⟨r, c.now⟩] := rfl
  generalize c.withFault { c.fault with raised := c.fault.raised ++ [⟨r, c.now⟩] } = d at last ending
  have comp : b.comp = a.comp := comp_of_frame written (by decide)
  have comp' : d.comp = c.comp := comp_of_frame last (by decide)
  -- a field of the core's block is as the fault registers' writes left it
  have block {x : Rf} {o : Nat} (hx : x.a = coreBase k + o) (ho : o < 0x100) : d.rf x = b.rf x :=
    (rf_of_frame last id).trans (rf_of_frame told.frame (hx ▸ not_trafficReg_core hk ho))
  have kept {x : Rf} {o : Nat} (hx : x.a = coreBase k + o) (ho : o < 0x100) (h1 : o ≠ 0x18) (h2 : o ≠ 0x20) : b.rf x = a.rf x :=
    rf_of_frame written (by simp only [hx, CRX_CORE_FAULT.a, CRX_CORE_FAULT_ADDR.a]; omega)
  refine ⟨?_, ?_, ?_, ?_, ?_, ?_, ?_, ?_, ?_, fun n hn => ?_⟩
  · exact (block (x := CRX_CORE_STS.STATE k) (o := 0) rfl (by decide)).trans
      ((kept (x := CRX_CORE_STS.STATE k) (o := 0) rfl (by decide) (by decide) (by decide)).trans state)
  · exact (block (x := CRX_CORE_FAULT.STATUS k) (o := 0x18) rfl (by decide)).trans hStatus
  · exact (block (x := CRX_CORE_FAULT.UNIT k) (o := 0x18) rfl (by decide)).trans hUnit
  · exact (block (x := CRX_CORE_FAULT.INSTR k) (o := 0x18) rfl (by decide)).trans hInstr
  · exact (block (x := CRX_CORE_FAULT_ADDR.V k) (o := 0x20) rfl (by decide)).trans hAddr
  · exact (block (x := CRX_CORE_PC.V k) (o := 0x58) rfl (by decide)).trans
      ((kept (x := CRX_CORE_PC.V k) (o := 0x58) rfl (by decide) (by decide) (by decide)).trans
        (pc_of_frame stopped.frame (by rintro (h | h); exacts [pc_ne_sts k k h, not_trafficReg_core hk (o := 0x58) (by decide) h])))
  · rw [cst_of_comp (congrArg (·.cores) comp'), told.cst, cst_of_comp (congrArg (·.cores) comp), stopped.sregs]
  · rw [comp', told.count, comp, stopped.count]
  · have before : b.fault = a.fault := written.1 .fault (by decide)
    exact ⟨c.now, by rw [ending, told.raised, before, stopped.raised]⟩
  · have off : CRX_CNT_TEN_FAIL.a n ≠ CRX_CORE_STS.a k ∧ CRX_CNT_TEN_FAIL.a n ≠ CRX_CORE_FAULT.a k ∧ CRX_CNT_TEN_FAIL.a n ≠ CRX_CORE_FAULT_ADDR.a k := by
      simp only [CRX_CNT_TEN_FAIL.a, CRX_CORE_STS.a, CRX_CORE_FAULT.a, CRX_CORE_FAULT_ADDR.a, cruxBase, coreBase]; omega
    have clear := not_trafficReg_tenFail hn
    exact (last.2.1 _ id).trans ((told.frame.2.1 _ clear).trans ((written.2.1 _ (by simp [off.2.1, off.2.2])).trans
      (stopped.frame.2.1 _ (by rintro (h | h); exacts [off.1 h, clear h]))))

/-- A fault of an instruction of the SEQ. -/
theorem seqFault_faulted (hk : k < 512) (hr : s.rope.ctxs = []) {status : Nat} (hs : status < 256) (hp : status ≠ stPOISON) (addr : Nat) :
    faulted s (s.seqFault k status addr) k status addr := by
  obtain ⟨state, stat, unit, instr, addr', pc, sregs, -, ⟨n, raised⟩, -⟩ :=
    coreFault_faults (s := s) hk hr hs (unit := 0) (by decide) (s.pc k) addr 0 0 0
  refine ⟨state.trans (if_neg hp), stat, unit, ?_, addr', pc, sregs, _, raised, rfl, rfl, rfl⟩
  exact instr.trans (Nat.mod_eq_of_lt (rf_lt (CRX_CORE_PC.V k)))

end State
end Sys2Proof.Machine
end

section
/-! PROOF. One instruction of the SEQ (R183, R256, R278): when it executes, and what a core that goes on has kept. -/
namespace Sys2Proof.Machine
namespace State
variable {s t u : State} {k : Nat}

/-! ## Registers named by operands -/

theorem argRegs_lt (a : Arg) : ∀ r ∈ argRegs a, r < 32 := by
  cases a with
  | imm => simp [argRegs]
  | reg r => simp [argRegs]
theorem opdRegs_lt (b : Opd) : ∀ r ∈ opdRegs b, r < 32 := by
  cases b with
  | imm => simp [opdRegs]
  | reg r => simp [opdRegs]
theorem opd64Regs_lt (b : Opd64) : ∀ r ∈ opd64Regs b, r < 32 := by
  cases b with
  | imm => simp [opd64Regs]
  | reg r => simp [opd64Regs]
theorem flagRegs_lt (f : FlagRef) : ∀ r ∈ flagRegs f, r < 32 := by
  cases f with
  | lf => simp [flagRegs]
  | cf => simp [flagRegs]
  | pf a => exact argRegs_lt a
theorem cons_lt {rs : List Nat} (a : Fin 32) (h : ∀ r ∈ rs, r < 32) : ∀ r ∈ a.val :: rs, r < 32 := by simpa using h
theorem append_lt {rs qs : List Nat} (h : ∀ r ∈ rs, r < 32) (g : ∀ r ∈ qs, r < 32) : ∀ r ∈ rs ++ qs, r < 32 :=
  fun r hr => (List.mem_append.mp hr).elim (h r) (g r)

/-- No register is still to be written, so none of those an instruction reads (R183). -/
theorem hazard_clear (h : s.hazard k (List.range 32) = false) {rs : List Nat} (hrs : ∀ r ∈ rs, r < 32) : s.hazard k rs = false := by
  simp only [hazard, List.any_eq_false] at h ⊢
  exact fun f hf w => h f hf (List.any_eq_true.mpr (by
    obtain ⟨r, hr, hm⟩ := List.any_eq_true.mp w
    exact ⟨r, hr, by simpa using hrs r (by simpa using hm)⟩))
theorem seqStep_able (ha : s.able k) {rs : List Nat} (hrs : ∀ r ∈ rs, r < 32) (f : State → State) : s.seqStep k rs f = f s := by
  obtain ⟨run, clear⟩ := ha
  rw [seqStep, run, hazard_clear clear hrs]
  rfl
theorem cstate_able (ha : s.able k) : s.cstate k = 2 := by simpa [running] using ha.1

/-! ## What a core that goes on has kept -/

/-- From `s` to `u` core `k` has come to hold `c` beside its registers; no other core and no instruction in flight has changed, and the
core's STATE and PC stand. -/
structure Worked (s u : State) (k : Nat) (c : CoreSt) : Prop where
  core : u.cst k = c
  others : ∀ j, j ≠ k → u.cst j = s.cst j
  flights : u.comp.flights = s.comp.flights
  state : u.cstate k = s.cstate k
  pc : u.pc k = s.pc k

theorem Worked.refl (s : State) (k : Nat) : Worked s s k (s.cst k) := ⟨rfl, fun _ _ => rfl, rfl, rfl, rfl⟩
theorem Worked.setSreg (k d : Nat) (v : Word) : Worked s (s.setSreg k d v) k { s.cst k with sregs := (s.cst k).sregs.set d v } :=
  ⟨cst_setCst_self .., fun _ h => cst_setCst_ne _ _ h, rfl, rfl, rfl⟩
theorem Worked.withComp (k : Nat) {v : CompSt} (hc : v.cores = s.comp.cores) (hf : v.flights = s.comp.flights) : Worked s (s.withComp v) k (s.cst k) :=
  ⟨cst_of_comp hc k, fun j _ => cst_of_comp hc j, hf, rfl, rfl⟩
/-- A change of registers and of components other than the cores. -/
theorem Worked.of_frame {ch : List Part} {rg : Nat → Prop} (h : frame s u ch rg) (hc : Part.comp ∉ ch) (h1 : ¬ rg (CRX_CORE_STS.a k))
    (h2 : ¬ rg (CRX_CORE_PC.a k)) : Worked s u k (s.cst k) := by
  have comp := comp_of_frame h hc
  exact ⟨cst_of_comp (by rw [comp]) k, fun j _ => cst_of_comp (by rw [comp]) j, by rw [comp], cstate_of_frame h h1, pc_of_frame h h2⟩

theorem frame_setPc (k l : Nat) {ch : List Part} : frame u (u.setPc k l) ch (fun a => a = CRX_CORE_PC.a k) := frame_wf _ _ rfl
theorem comp_setPc (k l : Nat) : (u.setPc k l).comp = u.comp := wf_comp ..
theorem pc_setPc (k l : Nat) : (u.setPc k l).pc k = l % 2 ^ 32 := rf_wf_self _ _ _ (show 0 + 32 ≤ 64 by decide)
theorem cstate_setPc (k l : Nat) : (u.setPc k l).cstate k = u.cstate k := rf_wf_reg _ _ _ _ (pc_ne_sts k k).symm
theorem nextPc_eq {c : CoreSt} (h : Worked s u k c) : u.nextPc k = u.setPc k (s.pc k + 1) := by rw [nextPc, h.pc]

/-- The core goes on at instruction `l`. -/
theorem Worked.jumps {c : CoreSt} (h : Worked s u k c) (hs : s.cstate k = 2) (l : Nat) : stepped s (u.setPc k l) k c l :=
  ⟨(cst_of_comp (by rw [comp_setPc]) k).trans h.core, pc_setPc .., (cstate_setPc k l).trans (h.state.trans hs),
    fun j hj => (cst_of_comp (by rw [comp_setPc]) j).trans (h.others j hj), by rw [comp_setPc, h.flights]⟩
/-- The core goes on at the next instruction. -/
theorem Worked.next {c : CoreSt} (h : Worked s u k c) (hs : s.cstate k = 2) : stepped s (u.nextPc k) k c (s.pc k + 1) := by
  rw [nextPc_eq h]; exact h.jumps hs _
theorem frame_nextPc {ch : List Part} {rg : Nat → Prop} (h : frame s u ch (fun _ => False)) (hr : rg (CRX_CORE_PC.a k)) :
    frame s (u.nextPc k) ch rg :=
  frame_trans (frame_mono h (fun _ => id) (fun _ => False.elim)) (frame_wf _ _ hr)
theorem frame_setSreg (k d : Nat) (v : Word) : frame s (s.setSreg k d v) [.comp] (fun _ => False) := frame_setCst k _

/-- The core blocks: WAITING, its wait the youngest, at the same instruction (R193). -/
theorem block_blocks (k : Nat) (op : WaitOp) :
    (s.block k op).cstate k = 3 ∧ (s.block k op).rf (CRX_CORE_STS.WAIT_KIND k) = waitKind op ∧ (s.block k op).pc k = s.pc k ∧
    (s.block k op).comp = { s.comp with waits := s.comp.waits ++ [⟨k, op, false, 0⟩] } ∧
    frame s (s.block k op) [.comp] (fun a => a = CRX_CORE_STS.a k) := by
  have kind : (CRX_CORE_STS.WAIT_KIND k).lo + (CRX_CORE_STS.WAIT_KIND k).w ≤ 64 := show 16 + 3 ≤ 64 by decide
  have blocks : frame s (s.block k op) [.comp] (fun a => a = CRX_CORE_STS.a k) :=
    frame_trans (frame_withComp _ (by decide)) (frame_trans (frame_wf _ _ rfl) (frame_wf _ _ rfl))
  refine ⟨?_, rf_wf_fits kind ?_, pc_of_frame blocks (pc_ne_sts k k), rfl, blocks⟩
  · rw [cstate, block, rf_wf_apart _ (.inr ⟨kind, .inl (show 0 + 3 ≤ 16 by decide)⟩)]
    exact cstate_wf k (by decide)
  · unfold waitKind
    show _ < 8
    split
    · split
      · decide
      · split <;> decide
    all_goals decide
theorem waitOf_block (hw : s.comp.waits = []) (k : Nat) (op : WaitOp) : (s.block k op).waitOf k = some ⟨k, op, false, 0⟩ := by
  rw [waitOf, (block_blocks k op).2.2.2.1, hw]
  simp

end State
end Sys2Proof.Machine
end

section
/-! PROOF. A word of L written by the SEQ (R171, R183, R446): what every byte its harness can read holds afterwards. -/
namespace Sys2Proof.Machine
namespace MemSt
variable {m : MemSt} {h a u : Nat} {bs : List Byte}

/-- A word of L or S decodes where it has been written and is not uncorrectable: no stack holds it. -/
theorem found_scratch {b : Nat} (hb : 0x10000000000 ≤ b) :
    m.found b = .clean ↔ m.ue.contains (b / 8 * 8) = false ∧ (lookupKey m.cells (b / 8 * 8)).isSome = true := by
  rw [found, decide_eq_false (by omega), Bool.false_and, Bool.or_false]
  cases m.ue.contains (b / 8 * 8)
  · cases (lookupKey m.cells (b / 8 * 8)).isSome <;> simp
  · simp

/-- Whole words stored in L or S decode. -/
theorem overwrite_scratch (ha : a % 8 = 0) (hn : bs.length % 8 = 0) (hs : 0x10000000000 ≤ a) {b : Nat} (hb : a ≤ b ∧ b < a + bs.length) :
    (m.overwrite a bs).found b = .clean ∧ lookupKey (m.overwrite a bs).cells b = some (bs.getD (b - a) 0) := by
  have cell (c : Nat) (lo : a ≤ c) (hi : c < a + bs.length) : lookupKey (m.overwrite a bs).cells c = some (bs.getD (c - a) 0) := by
    obtain ⟨i, rfl⟩ := Nat.exists_eq_add_of_le lo
    rw [overwrite, lookup_putBytes_inside _ _ _ _ (by omega), Nat.add_sub_cancel_left, List.getD_eq_getElem _ _ (by omega)]
  refine ⟨(found_scratch (by omega)).mpr ⟨?_, ?_⟩, cell b hb.1 hb.2⟩
  · rw [overwrite, putBytes_ue, contains_ue_poison, decide_eq_false (by omega), decide_eq_false (by omega)]; simp
  · rw [cell _ (by omega) (by omega)]; rfl

/-- A clear unit of L or S opened reads as it did: zero (R171). -/
theorem openUnit_scratch (hh : h ≠ 0) (hu : IsUnit u) (hs : 0x10000000000 ≤ u) (hc : m.valid.contains u = false) (b : Nat) :
    (m.openUnit u).readByte h b = m.readByte h b ∧ (unitBase b = u → (m.openUnit u).live h b = true) := by
  let z := List.replicate (unitSize u) (0 : Byte)
  have zl : z.length = unitSize u := List.length_replicate
  have store : alike (m.overwrite u z) (m.openUnit u) b := by
    rw [overwrite, zl]; exact ⟨rfl, rfl, rfl, rfl⟩
  have live : (m.openUnit u).live h b = true ↔ m.live h b = true ∨ unitBase b = u := by
    rw [live_tenant hh, live_tenant hh, List.contains_iff_mem, List.contains_iff_mem, openUnit, mem_insertNat, putBytes_valid, poison_valid]
    exact or_comm
  refine ⟨?_, fun e => live.mpr (.inr e)⟩
  by_cases hb : unitBase b = u
  · have inside : u ≤ b ∧ b < u + z.length := by rw [zl]; exact (unitBase_eq_iff hu b).mp hb
    obtain ⟨clean, zero⟩ := overwrite_scratch (m := m) (isUnit_mod hu) (by rw [zl]; exact unitSize_mod u) hs inside
    rw [← found_of_alike store] at clean
    have clear : m.live h b = false := by rw [live_tenant hh, hb]; exact hc
    rw [readByte_of_dead clear, readByte_clean (live.mpr (.inr hb)) clean (store.2.2.2.trans zero)]
    simp [z]
  · have outside : b < u ∨ u + z.length ≤ b := by
      by_contra inside
      exact hb ((unitBase_eq_iff hu b).mpr (by omega))
    obtain ⟨dead, ue, word, cell⟩ := alike_overwrite (m := m) (isUnit_mod hu) (by rw [zl]; exact unitSize_mod u) outside
    have both : alike m (m.openUnit u) b :=
      ⟨store.1.trans dead, store.2.1.trans ue, store.2.2.1.trans word, store.2.2.2.trans cell⟩
    exact readByte_of_alike both (by rw [Bool.eq_iff_iff, live]; simp [hb])

/-- An aligned word is stored whole, after the one unit it lies in. -/
theorem writeWords_word (m : MemSt) (ha : a % 8 = 0) (h8 : bs.length = 8) : writeWords (bs.length + 1) m a bs = m.overwrite a bs := by
  obtain ⟨b, t, rfl⟩ := List.exists_cons_of_ne_nil (List.ne_nil_of_length_pos (by omega : 0 < bs.length))
  have word : m.writeWord a (b :: t) = m.overwrite a (b :: t) := by
    rw [writeWord, if_pos h8, overwrite, h8, show a / 8 * 8 = a by omega]
  simp only [writeWords, List.isEmpty_cons, Bool.false_eq_true, if_false, ha, Nat.sub_zero]
  rw [List.take_of_length_le (by omega), List.drop_of_length_le (by omega), word]
  cases (b :: t).length <;> rfl
theorem units_word (ha : a % 8 = 0) : units a 8 = [unitBase a] := by
  have last : unitBase (a + 8 - 1) = unitBase a := by unfold unitBase; split <;> split <;> omega
  rw [units, if_neg (by omega), last]
  simp

/-- An aligned word of L or S written: it reads as written, every other byte as before. -/
theorem readByte_write_word (ha : a % 8 = 0) (hs : 0x10000000000 ≤ a) (h8 : bs.length = 8) (b : Nat) :
    (m.write h a bs).readByte h b = if a ≤ b ∧ b < a + 8 then bs.getD (b - a) 0 else m.readByte h b := by
  have n8 : bs.length % 8 = 0 := by omega
  have unit (hb : a ≤ b ∧ b < a + 8) : unitBase b = unitBase a := by unfold unitBase; split <;> split <;> omega
  -- the word is stored in a memory that reads as `m`, where its unit is valid
  obtain ⟨m', whole, reads, live⟩ : ∃ m' : MemSt, m.write h a bs = m'.overwrite a bs ∧ m'.readByte h b = m.readByte h b ∧
      (unitBase b = unitBase a → m'.live h b = true) := by
    by_cases hh : h = 0
    · exact ⟨m, by rw [write, if_pos hh, writeWords_word m ha h8], rfl, fun _ => by rw [MemSt.live, hh]; rfl⟩
    · have opens : m.write h a bs = (if m.valid.contains (unitBase a) then m else m.openUnit (unitBase a)).overwrite a bs := by
        rw [write_tenant hh, h8, units_word ha, ← h8, writeWords_word _ ha h8]
        rfl
      cases hc : m.valid.contains (unitBase a) with
      | true => exact ⟨m, by rw [opens, hc]; rfl, rfl, fun e => by rw [live_tenant hh, e]; exact hc⟩
      | false =>
        obtain ⟨reads, live⟩ := openUnit_scratch hh (unitBase_isUnit a) (by unfold unitBase; split <;> omega) hc b
        exact ⟨m.openUnit (unitBase a), by rw [opens, hc]; rfl, reads, live⟩
  rw [whole]
  by_cases hb : a ≤ b ∧ b < a + 8
  · obtain ⟨clean, cell⟩ := overwrite_scratch (m := m') ha n8 hs (b := b) (by omega)
    rw [if_pos hb, readByte_clean (by rw [MemSt.live, overwrite_valid]; exact live (unit hb)) clean cell]
  · rw [if_neg hb, readByte_of_alike (alike_overwrite ha n8 (by omega)) (by rw [MemSt.live, MemSt.live, overwrite_valid]), reads]

end MemSt
end Sys2Proof.Machine
end

section
/-! PROOF. Scalar and memory instructions of the SEQ (R183, R184, R278), and the obligation on them. -/
namespace Sys2Proof.Machine
namespace State
variable {s t u : State} {k : Nat}

/-! ## Reads and writes of L and S -/

theorem addrL_scratch (k v : Nat) : 0x10000000000 ≤ addrL k v := by unfold addrL; omega
theorem wakeHbm_scratch {rs : List (Nat × Nat)} (h : ∀ r ∈ rs, 0x10000000000 ≤ r.1) : s.wakeHbm rs = s := by
  have none : rs.any (fun r => decide (r.1 < 0x10000000000)) = false := by simpa using h
  rw [wakeHbm, none, Bool.and_false]
  rfl
/-- A read of a run of L or S all of whose words decode. -/
theorem memRead_clean {h a n : Nat} (ha : 0x10000000000 ≤ a) (hb : s.mem.badWords h a n = []) :
    s.memRead h [(a, n)] = (s.mem.read h a n, false, s) := by
  have awake := wakeHbm_scratch (s := s) (rs := [(a, n)]) (by simpa using ha)
  simp [memRead, MemSt.readRuns, hb, memEvents, awake]
/-- A write of a run of L or S none of whose partial words fails to decode, with nothing in flight. -/
theorem memWrite_scratch (hf : s.comp.flights = []) {h a : Nat} {bs : List Byte} (ha : 0x10000000000 ≤ a) (hm : s.mem.mergeFails h a bs.length = []) :
    s.memWrite h [(a, bs.length)] bs = (false, s.withMem (s.mem.write h a bs)) := by
  have awake := wakeHbm_scratch (s := s.withMem (s.mem.write h a bs)) (rs := [(a, bs.length)]) (by simpa using ha)
  have clean := taintBy_none (s := s.withMem (s.mem.write h a bs)) hf [(a, bs.length)]
  simp [memWrite, MemSt.writeRuns, hm, memEvents, clean, awake]
/-- A whole word needs no merge. -/
theorem mergeFails_word (m : MemSt) (h : Nat) {a : Nat} (ha : a % 8 = 0) : m.mergeFails h a 8 = [] := by
  have one : MemSt.words a 8 = [a] := by
    rw [MemSt.words, if_neg (by decide), show (a + 8 - 1) / 8 - a / 8 = 0 by omega]
    simp only [Nat.zero_add, List.range_one, List.map_cons, List.map_nil, Nat.add_zero]
    rw [show a / 8 * 8 = a by omega]
  refine List.filter_eq_nil_iff.mpr fun p hp => ?_
  obtain ⟨w, hw, hv⟩ := List.mem_filterMap.mp hp
  rw [one, List.mem_singleton] at hw
  subst hw
  have at_ : p.1 = w := by
    split at hv
    · split at hv
      · cases hv
      · cases hv; rfl
    · cases hv
  simp [at_]

/-- An aligned word inside the data region. -/
theorem addrL_aligned {v : Nat} (h : s.wordOk k v = true) : addrL k v % 8 = 0 := by
  simp only [wordOk, Bool.and_eq_true, beq_iff_eq] at h
  unfold addrL; omega

theorem ld_able (ha : s.able k) {d : Nat} {b : Arg} {v : Nat} (hv : v = (argOf (s.sreg k) b).toNat) (hw : s.wordOk k v = true)
    (hr : s.raced [(addrL k v, 8)] = false) (hb : s.mem.badWords (s.coreH k) (addrL k v) 8 = []) :
    s.ld k d b = (s.setSreg k d (Word.ofN (leNat (s.mem.read (s.coreH k) (addrL k v) 8)))).nextPc k := by
  have read := memRead_clean (addrL_scratch k v) hb
  rw [ld, seqStep_able ha (argRegs_lt b)]
  simp only [← hv, hw, hr, Bool.not_true, Bool.false_eq_true, if_false, ownL, read]
theorem st_able (ha : s.able k) {a : Fin 32} {b : Arg} {v : Nat} (hv : v = (argOf (s.sreg k) b).toNat) (hw : s.wordOk k v = true)
    (hf : s.comp.flights = []) :
    s.st k a b = (s.withMem (s.mem.write (s.coreH k) (addrL k v) (bytesLE 8 (s.sreg k a).toNat))).nextPc k := by
  have write := memWrite_scratch (h := s.coreH k) (bs := bytesLE 8 (s.sreg k a).toNat) hf (addrL_scratch k v)
    (by rw [length_bytesLE]; exact mergeFails_word _ _ (addrL_aligned hw))
  rw [length_bytesLE] at write
  rw [st, seqStep_able ha (cons_lt a (argRegs_lt b))]
  simp only [← hv, hw, Bool.not_true, Bool.false_eq_true, if_false, ownL, write]
theorem ld_denied (ha : s.able k) (d : Nat) {b : Arg} {v : Nat} (hv : v = (argOf (s.sreg k) b).toNat) (hw : s.wordOk k v = false) :
    s.ld k d b = s.seqFault k stDENIED v := by
  rw [ld, seqStep_able ha (argRegs_lt b)]
  simp only [← hv, hw, Bool.not_false, if_true]
theorem st_denied (ha : s.able k) (a : Fin 32) {b : Arg} {v : Nat} (hv : v = (argOf (s.sreg k) b).toNat) (hw : s.wordOk k v = false) :
    s.st k a b = s.seqFault k stDENIED v := by
  rw [st, seqStep_able ha (cons_lt a (argRegs_lt b))]
  simp only [← hv, hw, Bool.not_false, if_true]

/-! ## Arithmetic (R278) -/

theorem shiftLeft_eq_ofN (x : Word) (n : Nat) : x <<< n = Word.ofN (x.toNat * 2 ^ n) :=
  BitVec.eq_of_toNat_eq (by rw [BitVec.toNat_shiftLeft, Nat.shiftLeft_eq, Word.ofN, BitVec.toNat_ofNat])
theorem ushiftRight_eq_ofN (x : Word) (n : Nat) : x >>> n = Word.ofN (x.toNat / 2 ^ n) :=
  BitVec.eq_of_toNat_eq (by
    rw [BitVec.toNat_ushiftRight, Nat.shiftRight_eq_div_pow, Word.ofN, BitVec.toNat_ofNat]
    exact (Nat.mod_eq_of_lt (Nat.lt_of_le_of_lt (Nat.div_le_self ..) x.isLt)).symm)
theorem sshiftRight_eq_ofInt (x : Word) (n : Nat) : x.sshiftRight n = BitVec.ofInt 64 (x.toInt / 2 ^ n) := by
  rw [BitVec.sshiftRight, Int.shiftRight_eq_div_pow]; simp
/-- The lesser and the greater of two words as signed and as unsigned numbers. -/
theorem eq_min_signed {v x y : Word} (h : v.toInt = min x.toInt y.toInt) : v = if x.slt y then x else y := by
  refine BitVec.eq_of_toInt_eq ?_
  split
  next lt => rw [BitVec.slt_iff_toInt_lt] at lt; omega
  next ge => rw [BitVec.slt_iff_toInt_lt] at ge; omega
theorem eq_max_signed {v x y : Word} (h : v.toInt = max x.toInt y.toInt) : v = if x.slt y then y else x := by
  refine BitVec.eq_of_toInt_eq ?_
  split
  next lt => rw [BitVec.slt_iff_toInt_lt] at lt; omega
  next ge => rw [BitVec.slt_iff_toInt_lt] at ge; omega
theorem eq_min_unsigned {v x y : Word} (h : v.toNat = min x.toNat y.toNat) : v = if x.ult y then x else y := by
  refine BitVec.eq_of_toNat_eq ?_
  split
  next lt => rw [BitVec.ult_iff_toNat_lt] at lt; omega
  next ge => rw [BitVec.ult_iff_toNat_lt] at ge; omega
theorem eq_max_unsigned {v x y : Word} (h : v.toNat = max x.toNat y.toNat) : v = if x.ult y then y else x := by
  refine BitVec.eq_of_toNat_eq ?_
  split
  next lt => rw [BitVec.ult_iff_toNat_lt] at lt; omega
  next ge => rw [BitVec.ult_iff_toNat_lt] at ge; omega

theorem alu_able (ha : s.able k) (d : Nat) (a : Fin 32) (b : Opd) (f : Word → Word → Word) :
    s.alu k d a b f = (s.setSreg k d (f (s.sreg k a) (opdOf (s.sreg k) b))).nextPc k :=
  seqStep_able ha (cons_lt a (opdRegs_lt b)) _

/-- From `s` to `t` core `k` has written its scalar register `d` with `v`, and goes on at the next instruction. -/
def regWritten (s : State) (k d : Nat) (v : Word) (t : State) : Prop :=
  stepped s t k { s.cst k with sregs := (s.cst k).sregs.set d v } (s.pc k + 1) ∧
  t.comp.flags = s.comp.flags ∧ t.comp.waits = s.comp.waits ∧ t.comp.cch = s.comp.cch ∧
  frame s t [.comp] (fun x => x = CRX_CORE_PC.a k)
theorem setSreg_writes (ha : s.able k) (d : Nat) (v : Word) : regWritten s k d v ((s.setSreg k d v).nextPc k) := by
  have comp : ((s.setSreg k d v).nextPc k).comp = (s.setSreg k d v).comp := wf_comp ..
  exact ⟨(Worked.setSreg k d v).next (cstate_able ha), by rw [comp]; rfl, by rw [comp]; rfl, by rw [comp]; rfl, frame_nextPc (frame_setSreg k d v) rfl⟩

end State

open State

/-- Settles O29: what each scalar instruction writes, then ld and st by the check of their word. -/
theorem sequencerArithmetic : Obligations.SequencerArithmetic := by
  unfold Obligations.SequencerArithmetic
  refine fun s k d a b c hu ha => ⟨fun v hc => ?scalar, fun base v hv => ⟨fun hw => ⟨fun hr hb => ?load, fun hf => ?store⟩, fun hw hr hf => ?denied⟩⟩
  case scalar =>
    have wrote {w : Word} (he : exec c s = unheld s ((s.setSreg k d w).nextPc k)) (hw : v = w) : runs c s (regWritten s k d v) :=
      runs_unheld hu he (hw ▸ setSreg_writes ha d w)
    have alu (f : Word → Word → Word) (he : exec c s = unheld s (s.alu k d a b f)) (hw : v = f (s.sreg k a) (opdOf (s.sreg k) b)) :
        runs c s (regWritten s k d v) := wrote (he.trans (by rw [alu_able ha])) hw
    have step {rs : List Nat} (hrs : ∀ r ∈ rs, r < 32) (f : State → Word) (he : exec c s = unheld s (s.seqStep k rs (fun t => (t.setSreg k d (f t)).nextPc k)))
        (hw : v = f s) : runs c s (regWritten s k d v) := wrote (he.trans (by rw [seqStep_able ha hrs])) hw
    rcases hc with ⟨rfl, h⟩ | ⟨rfl, h⟩ | ⟨rfl, h⟩ | ⟨rfl, h⟩ | ⟨rfl, h⟩ | ⟨rfl, h⟩ | ⟨rfl, h⟩ | ⟨rfl, h⟩ | ⟨rfl, h⟩ | ⟨rfl, h⟩ | ⟨rfl, h⟩ | ⟨rfl, h⟩ |
      ⟨rfl, h⟩ | ⟨cc, rfl, h⟩ | rfl | ⟨rfl, h⟩ | ⟨δ, rfl, lo, hi, h⟩
    · exact alu _ rfl h
    · exact alu _ rfl h
    · exact alu _ rfl h
    · exact alu _ rfl h
    · exact alu _ rfl h
    · exact alu _ rfl h
    · exact alu _ rfl (h.trans (shiftLeft_eq_ofN ..).symm)
    · exact alu _ rfl (h.trans (ushiftRight_eq_ofN ..).symm)
    · exact alu _ rfl (h.trans (sshiftRight_eq_ofInt ..).symm)
    · exact alu _ rfl (eq_min_signed h)
    · exact alu _ rfl (eq_max_signed h)
    · exact alu _ rfl (eq_min_unsigned h)
    · exact alu _ rfl (eq_max_unsigned h)
    · exact alu _ rfl h
    · exact step (opd64Regs_lt (.imm v)) (fun _ => v) rfl rfl
    · exact step (opd64Regs_lt (.reg a)) (fun t => t.sreg k a) rfl h
    · refine step (rs := []) (by simp) (fun t => BitVec.ofInt 64 (t.now + max (-100) (min 100 δ))) rfl ?_
      rw [h, min_eq_right hi, max_eq_right lo]
  case load =>
    refine runs_unheld hu (congrArg (unheld s) (ld_able ha hv hw hr hb)) ?_
    obtain ⟨steps, -, -, -, hf⟩ := setSreg_writes ha d (Word.ofN (leNat (s.mem.read (s.coreH k) (addrL k v) 8)))
    exact ⟨steps, hf⟩
  case store =>
    refine runs_unheld hu (congrArg (unheld s) (st_able ha hv hw hf)) ?_
    have stored : frame s (s.withMem (s.mem.write (s.coreH k) (addrL k v) (bytesLE 8 (s.sreg k a).toNat))) [.mem] (fun _ => False) :=
      frame_withMem _ (by decide)
    exact ⟨(Worked.of_frame stored (by decide) id id).next (cstate_able ha),
      fun x => MemSt.readByte_write_word (addrL_aligned hw) (addrL_scratch k v) (length_bytesLE ..) x, frame_nextPc stored rfl⟩
  case denied =>
    have faults := seqFault_faulted (s := s) k.isLt hr (status := stDENIED) (by decide) (by decide) v
    exact ⟨runs_unheld hu (congrArg (unheld s) (ld_denied ha d hv hw)) faults, runs_unheld hu (congrArg (unheld s) (st_denied ha a hv hw)) faults⟩

end Sys2Proof.Machine
end

section
/-! PROOF. Control instructions of the SEQ (R258, R278, R286, R400). -/
namespace Sys2Proof.Machine
namespace State
variable {s t u : State} {k : Nat}

/-! ## Branches, calls and returns (R278) -/

/-- From `s` to `t` core `k`, which then holds `c`, goes on at instruction `l`, and nothing else has changed. -/
def goesOn (s : State) (k : Nat) (c : CoreSt) (l : Nat) (t : State) : Prop :=
  stepped s t k c l ∧ t.comp.flags = s.comp.flags ∧ t.comp.waits = s.comp.waits ∧ frame s t [.comp] (fun x => x = CRX_CORE_PC.a k)
theorem setPc_goesOn (ha : s.able k) (l : Nat) : goesOn s k (s.cst k) l (s.setPc k l) :=
  ⟨(Worked.refl s k).jumps (cstate_able ha) l, by rw [comp_setPc], by rw [comp_setPc], frame_setPc k l⟩
theorem setSreg_goesOn (ha : s.able k) (d : Nat) (v : Word) (l : Nat) :
    goesOn s k { s.cst k with sregs := (s.cst k).sregs.set d v } l ((s.setSreg k d v).setPc k l) := by
  refine ⟨(Worked.setSreg k d v).jumps (cstate_able ha) l, ?_, ?_, ?_⟩
  · rw [comp_setPc]; rfl
  · rw [comp_setPc]; rfl
  · exact frame_trans (frame_mono (frame_setSreg k d v) (fun _ => id) (fun _ => False.elim)) (frame_setPc k l)
theorem pc_setSreg (d : Nat) (v : Word) : (s.setSreg k d v).nextPc k = (s.setSreg k d v).setPc k (s.pc k + 1) := nextPc_eq (Worked.setSreg k d v)

/-- The call stack replaced, and its depth shown. -/
theorem setDepth_works (k : Nat) (l : List Nat) : Worked s (s.setDepth k l) k { s.cst k with stack := l } := by
  have shown : (s.setDepth k l).comp = (s.setCst k { s.cst k with stack := l }).comp := wf_comp ..
  have cores := congrArg (·.cores) shown
  refine ⟨(cst_of_comp cores k).trans (cst_setCst_self ..), fun j hj => (cst_of_comp cores j).trans (cst_setCst_ne _ _ hj), ?_, ?_, ?_⟩
  · rw [shown]; rfl
  · exact rf_wf_reg _ _ _ _ (pc_ne_sts k k).symm
  · exact rf_wf_apart _ (.inr ⟨show 32 + 5 ≤ 64 by decide, .inl (show 0 + 32 ≤ 32 by decide)⟩)
theorem depth_setDepth {l : List Nat} (h : l.length < 32) (p : Nat) : ((s.setDepth k l).setPc k p).rf (CRX_CORE_PC.DEPTH k) = l.length := by
  rw [setPc, rf_wf_apart _ (.inr ⟨show 0 + 32 ≤ 64 by decide, .inr (show 0 + 32 ≤ 32 by decide)⟩)]
  exact rf_wf_fits (show 32 + 5 ≤ 64 by decide) h
/-- The call stack replaced and a jump made. -/
theorem setDepth_jumps (ha : s.able k) {l : List Nat} (h : l.length < 32) (p : Nat) :
    let t := (s.setDepth k l).setPc k p
    stepped s t k { s.cst k with stack := l } p ∧ t.rf (CRX_CORE_PC.DEPTH k) = l.length ∧ frame s t [.comp] (fun x => x = CRX_CORE_PC.a k) :=
  ⟨(setDepth_works k l).jumps (cstate_able ha) p, depth_setDepth h p,
    frame_trans (frame_mono (frame_setCst k _) (fun _ => id) (fun _ => False.elim)) (frame_trans (frame_wf _ _ rfl) (frame_setPc k p))⟩

section
variable (ha : s.able k)
include ha
theorem call_pushes (l : Nat) (h : (s.cst k).stack.length < 16) : s.call k l = (s.setDepth k ((s.pc k + 1) :: (s.cst k).stack)).setPc k l := by
  rw [call, seqStep_able ha (by simp)]
  exact if_neg (by omega)
theorem call_overflows (l : Nat) (h : 16 ≤ (s.cst k).stack.length) : s.call k l = s.seqFault k stOVERFLOW 0 := by
  rw [call, seqStep_able ha (by simp)]
  exact if_pos h
theorem ret_pops {p : Nat} {rest : List Nat} (h : (s.cst k).stack = p :: rest) : s.ret k = (s.setDepth k rest).setPc k p := by
  rw [ret, seqStep_able ha (by simp), h]
theorem ret_underflows (h : (s.cst k).stack = []) : s.ret k = s.seqFault k stUNDERFLOW 0 := by
  rw [ret, seqStep_able ha (by simp), h]

theorem br_able (a : Fin 32) (l : Nat) :
    s.seqStep k [a.val] (fun t => if t.sreg k a != 0 then t.setPc k l else t.nextPc k) = s.setPc k (if s.sreg k a = 0 then s.pc k + 1 else l) := by
  rw [seqStep_able ha (cons_lt a (by simp))]
  by_cases h : s.sreg k a = 0
  · rw [if_neg (by simp [h]), if_pos h, nextPc]
  · rw [if_pos (bne_iff_ne.mpr h), if_neg h]
theorem brz_able (a : Fin 32) (l : Nat) :
    s.seqStep k [a.val] (fun t => if t.sreg k a == 0 then t.setPc k l else t.nextPc k) = s.setPc k (if s.sreg k a = 0 then l else s.pc k + 1) := by
  rw [seqStep_able ha (cons_lt a (by simp))]
  by_cases h : s.sreg k a = 0
  · rw [if_pos (by simp [h]), if_pos h]
  · rw [if_neg (mt beq_iff_eq.mp h), if_neg h, nextPc]
theorem loop_able (a : Fin 32) (l : Nat) :
    s.seqStep k [a.val] (fun t =>
      let v := t.sreg k a - 1
      if v != 0 then (t.setSreg k a v).setPc k l else (t.setSreg k a v).nextPc k) =
    (s.setSreg k a (s.sreg k a - 1)).setPc k (if s.sreg k a = 1 then s.pc k + 1 else l) := by
  rw [seqStep_able ha (cons_lt a (by simp))]
  by_cases h : s.sreg k a = 1
  · exact (if_neg (by simp [h])).trans (by rw [if_pos h, pc_setSreg])
  · exact (if_pos (bne_iff_ne.mpr (mt sub_eq_zero.mp h))).trans (by rw [if_neg h])

/-! ## idle and halt (R278, R400) -/

theorem idle_drained (h : s.flightsOf k = []) : s.idle k = s.nextPc k := by
  rw [idle, seqStep_able ha (by simp), h]; rfl
theorem idle_waits (h : s.flightsOf k ≠ []) : s.idle k = s.block k .drain := by
  rw [idle, seqStep_able ha (by simp)]
  exact if_neg (by simpa using h)
theorem halt_waits (a : Nat) (h : s.flightsOf k ≠ []) : s.halt k a none = s.block k (.halt a none) := by
  simp [halt, ha.1, h]
theorem halt_drained (a : Nat) (h : s.flightsOf k = []) : s.halt k a none = s.haltDone k a none := by
  simp [halt, ha.1, h]
theorem halt_drained_flag (a : Nat) (n : Fin 256) (h : s.flightsOf k = []) : s.halt k a (some (.lf n)) = s.haltDone k a (some (lfKey k n)) := by
  simp [halt, ha.1, h, hazard_clear ha.2 (flagRegs_lt (.lf n)), flagKey]
end

/-- A core that has drained, halted: its exit value shown, its PROGRAM record made, its wait ended and its kept set discarded. -/
def haltShown (s : State) (k r : Nat) : State :=
  ((s.setReg (CRX_CORE_EXIT.a k) (s.sreg k r)).programWitness k stOK (s.pc k) (s.sreg k r).toNat
    [s.sreg k 28, s.sreg k 29, s.sreg k 30, s.sreg k 31])
def haltStopped (s : State) (k : Nat) : State :=
  let t := (s.dropWait k).wf (CRX_CORE_STS.STATE k) 1
  (t.setCst k { t.cst k with kept := none }).nextPc k
theorem haltDone_none (k r : Nat) : s.haltDone k r none = (s.haltShown k r).haltStopped k := rfl
theorem haltDone_flag (k r key : Nat) : s.haltDone k r (some key) = ((s.haltShown k r).haltStopped k).writeFlag key true := rfl

theorem haltStopped_leaves (k : Nat) :
    let t := s.haltStopped k
    t.cstate k = 1 ∧ t.pc k = (s.pc k + 1) % 2 ^ 32 ∧ (t.cst k).sregs = (s.cst k).sregs ∧ t.comp.flags = s.comp.flags ∧
    t.comp.waits = s.otherWaits k ∧ (∀ a, a ≠ CRX_CORE_STS.a k → a ≠ CRX_CORE_PC.a k → t.reg a = s.reg a) := by
  have waiting := frame_dropWait (s := s) k
  have sts : frame s ((s.dropWait k).wf (CRX_CORE_STS.STATE k) 1) [.comp] (fun a => a = CRX_CORE_STS.a k) := frame_trans waiting (frame_wf_sts 1 rfl)
  have state : ((s.dropWait k).wf (CRX_CORE_STS.STATE k) 1).cstate k = 1 := cstate_wf k (by decide)
  have comp : ((s.dropWait k).wf (CRX_CORE_STS.STATE k) 1).comp = { s.comp with waits := s.otherWaits k } := by rw [wf_comp, comp_dropWait]
  simp only [haltStopped]
  generalize (s.dropWait k).wf (CRX_CORE_STS.STATE k) 1 = u at sts state comp
  have pc : (u.setCst k { u.cst k with kept := none }).pc k = s.pc k := pc_of_frame sts (pc_ne_sts k k)
  have shown : ((u.setCst k { u.cst k with kept := none }).nextPc k).comp = (u.setCst k { u.cst k with kept := none }).comp := wf_comp ..
  refine ⟨?_, ?_, ?_, ?_, ?_, fun a h1 h2 => ?_⟩
  · rw [nextPc, cstate_setPc]; exact state
  · rw [nextPc, pc_setPc, pc]
  · rw [cst_of_comp (congrArg (·.cores) shown), cst_setCst_self, cst_of_comp (s := s) (congrArg (·.cores) comp)]
  · rw [shown, setCst, withComp_comp, comp]
  · rw [shown, setCst, withComp_comp, comp]
  · rw [nextPc, setPc, reg_wf_ne _ _ _ _ h2]; exact sts.2.1 a h1

theorem haltShown_leaves (hk : k < 512) (r : Nat) :
    let t := s.haltShown k r
    t.reg (CRX_CORE_EXIT.a k) = s.sreg k r ∧ t.pc k = s.pc k ∧ t.comp = { s.comp with flights := t.comp.flights } := by
  have exitVal : frame s (s.setReg (CRX_CORE_EXIT.a k) (s.sreg k r)) [] (fun a => a = CRX_CORE_EXIT.a k) := frame_setReg _ _ rfl
  have told := Traffic.programWitness (s := s.setReg (CRX_CORE_EXIT.a k) (s.sreg k r)) k stOK (s.pc k) (s.sreg k r).toNat
    [s.sreg k 28, s.sreg k 29, s.sreg k 30, s.sreg k 31]
  refine ⟨?_, ?_, told.comp⟩
  · exact (told.frame.2.1 _ (not_trafficReg_core hk (o := 0x48) (by decide))).trans (reg_setReg_self ..)
  · exact (pc_of_frame told.frame (not_trafficReg_core hk (o := 0x58) (by decide))).trans
      (pc_of_frame exitVal (by simp only [CRX_CORE_PC.a, CRX_CORE_EXIT.a]; omega))

/-- What halt leaves of a core that has drained. -/
theorem haltDone_halts (hk : k < 512) (r : Nat) :
    let t := (s.haltShown k r).haltStopped k
    t.cstate k = 1 ∧ t.reg (CRX_CORE_EXIT.a k) = s.sreg k r ∧ t.pc k = (s.pc k + 1) % 2 ^ 32 ∧ (t.cst k).sregs = (s.cst k).sregs ∧
    t.comp.flags = s.comp.flags ∧ t.comp.waits = s.otherWaits k := by
  obtain ⟨exitVal, pc, comp⟩ := haltShown_leaves (s := s) hk r
  dsimp only at exitVal pc comp
  generalize s.haltShown k r = u at exitVal pc comp
  obtain ⟨state, pc', sregs, flags, waits, regs⟩ := haltStopped_leaves (s := u) k
  have apart : CRX_CORE_EXIT.a k ≠ CRX_CORE_STS.a k ∧ CRX_CORE_EXIT.a k ≠ CRX_CORE_PC.a k := by
    simp only [CRX_CORE_EXIT.a, CRX_CORE_STS.a, CRX_CORE_PC.a]; omega
  refine ⟨state, (regs _ apart.1 apart.2).trans exitVal, by rw [pc', pc], ?_, ?_, ?_⟩
  · rw [sregs, cst_of_comp (s := s) (by rw [comp])]
  · rw [flags, comp]
  · rw [waits, otherWaits, comp, otherWaits]

end State
end Sys2Proof.Machine
end

section
/-! PROOF. Flags and credit channels as the SEQ uses them (R186 to R190, R256, R279 to R281). -/
namespace Sys2Proof.Machine
namespace State
variable {s t u : State} {k : Nat}

/-! ## Flags (R186 to R188, R279, R280) -/

section
variable (hw : s.comp.waits = [])
include hw
/-- With no core waiting, a flag set is only set. -/
theorem writeFlag_set (key : Nat) : s.writeFlag key true = s.withComp { s.comp with flags := insertNat s.comp.flags key, waits := [] } := by
  simp [writeFlag, hw, seeFlag]
theorem comp_writeFlag (key : Nat) (v : Bool) : (s.writeFlag key v).comp = { s.comp with flags := (s.writeFlag key v).comp.flags } := by
  cases v with
  | true => rw [writeFlag_set hw]; simp [hw]
  | false => rw [writeFlag_clear hw]; simp [hw]
theorem flagOf_writeFlag (key : Nat) (v : Bool) (x : Nat) :
    (s.writeFlag key v).flagOf x = bif v then (x == key || s.flagOf x) else (x != key && s.flagOf x) := by
  cases v with
  | true => rw [writeFlag_set hw, Bool.eq_iff_iff]; simp [flagOf, mem_insertNat]
  | false => rw [writeFlag_clear hw, Bool.eq_iff_iff]; simp [flagOf, and_comm]
theorem frame_writeFlag (key : Nat) (v : Bool) : frame s (s.writeFlag key v) [.comp] (fun _ => False) := by
  cases v with
  | true => rw [writeFlag_set hw]; exact frame_withComp _ (by decide)
  | false => rw [writeFlag_clear hw]; exact frame_withComp _ (by decide)

/-- From `s` to `t` core `k` has written the flag `key` with `v`, and goes on. -/
theorem writeFlag_steps (ha : s.able k) (key : Nat) (v : Bool) :
    let t := (s.writeFlag key v).nextPc k
    stepped s t k (s.cst k) (s.pc k + 1) ∧ (∀ x, t.flagOf x = bif v then (x == key || s.flagOf x) else (x != key && s.flagOf x)) ∧
    frame s t [.comp] (fun x => x = CRX_CORE_PC.a k) := by
  have wrote := frame_writeFlag hw key v
  have comp := comp_writeFlag hw key v
  have work : Worked s (s.writeFlag key v) k (s.cst k) :=
    ⟨cst_of_comp (congrArg (·.cores) comp) k, fun j _ => cst_of_comp (congrArg (·.cores) comp) j, (congrArg (·.flights) comp),
      cstate_of_frame wrote id, pc_of_frame wrote id⟩
  refine ⟨work.next (cstate_able ha), fun x => ?_, frame_nextPc wrote rfl⟩
  rw [← flagOf_writeFlag hw, flagOf, nextPc, comp_setPc, flagOf]
end

section
variable (ha : s.able k) {f : FlagRef}
include ha
theorem onFlag_key {key : Nat} (h : s.flagKey k f = .inl key) (g : Nat → State → State) : s.onFlag k f g = g key s := by
  rw [onFlag, seqStep_able ha (flagRegs_lt f)]
  simp only [h]
theorem onFlag_fault {st v : Nat} (h : s.flagKey k f = .inr (st, v)) (g : Nat → State → State) : s.onFlag k f g = s.seqFault k st v := by
  rw [onFlag, seqStep_able ha (flagRegs_lt f)]
  simp only [h]
end
/-- Naming a flag faults with REJECT or with DENIED. -/
theorem status_flagKey {f : FlagRef} {st v : Nat} (h : s.flagKey k f = .inr (st, v)) : st = stREJECT ∨ st = stDENIED := by
  cases f with
  | lf | cf => cases h
  | pf a =>
    simp only [flagKey] at h
    split at h
    · cases h; exact .inl rfl
    · split at h
      · cases h; exact .inr rfl
      · cases h

/-! ## Credit channels (R189, R190, R281) -/

section
variable (ha : s.able k) {cc : Arg} {n : Opd64} {g m : Nat} (hg : g = (argOf (s.sreg k) cc).toNat) (hm : m = (opd64Of (s.sreg k) n).toNat)
include ha hg hm
theorem onCch_number (h : 65536 ≤ g) (f : Nat → Nat → State → State) : s.onCch k cc n f = s.seqFault k stREJECT g := by
  rw [onCch, seqStep_able ha (append_lt (argRegs_lt cc) (opd64Regs_lt n)), ← hg, ← hm]
  exact if_pos h
variable (hn : g < 65536)
include hn
theorem onCch_badCount (h : m = 0 ∨ 65535 < m) (f : Nat → Nat → State → State) : s.onCch k cc n f = s.seqFault k stREJECT m := by
  rw [onCch, seqStep_able ha (append_lt (argRegs_lt cc) (opd64Regs_lt n)), ← hg, ← hm]
  exact (if_neg (by omega)).trans (if_pos (by simpa using h))
variable (h1 : 1 ≤ m) (h2 : m ≤ 65535)
include h1 h2
theorem onCch_denied (h : s.cchH g ≠ some (s.coreH k)) (f : Nat → Nat → State → State) : s.onCch k cc n f = s.seqFault k stDENIED g := by
  rw [onCch, seqStep_able ha (append_lt (argRegs_lt cc) (opd64Regs_lt n)), ← hg, ← hm]
  exact (if_neg (by omega)).trans ((if_neg (by simp; omega)).trans (if_pos (by simpa using h)))
theorem onCch_held (h : s.cchH g = some (s.coreH k)) (f : Nat → Nat → State → State) : s.onCch k cc n f = f g m s := by
  rw [onCch, seqStep_able ha (append_lt (argRegs_lt cc) (opd64Regs_lt n)), ← hg, ← hm]
  exact (if_neg (by omega)).trans ((if_neg (by simp; omega)).trans (if_neg (by simp [h])))
end

/-- The credits of channel `g` replaced by `c`, and nothing else of it. -/
def credited (s : State) (g c : Nat) : State := s.setCch g ((s.cchOf g).withField 32 16 c)
theorem credited_channel (g : Nat) {c : Nat} (h : c < 65536) :
    (s.credited g c).cchCount g = c ∧ (s.credited g c).cchCap g = s.cchCap g ∧ ∀ x, x ≠ g → (s.credited g c).cchOf x = s.cchOf x := by
  refine ⟨?_, ?_, fun x hx => cchOf_setCch_ne _ hx⟩
  · rw [cchCount, credited, cchOf_setCch_self, Word.field_withField_self _ _ _ _ (by decide)]
    exact Nat.mod_eq_of_lt h
  · rw [cchCap, credited, cchOf_setCch_self, Word.field_withField_below _ _ _ _ _ _ (by decide) (by decide), cchCap]

theorem Worked.setCch {c : CoreSt} (h : Worked s u k c) (g : Nat) (w : Word) : Worked s (u.setCch g w) k c :=
  ⟨h.core, h.others, h.flights, h.state, h.pc⟩
theorem waits_setCch (g : Nat) (w : Word) : (s.setCch g w).comp.waits = s.comp.waits := rfl
theorem withComp_waits (hw : s.comp.waits = []) : s.withComp { s.comp with waits := [] } = s := by rw [← hw]; rfl

/-- The credits of a channel replaced, after no more than that, and the core goes on. -/
theorem credited_steps (ha : s.able k) (work : Worked s u k (s.cst k)) (hf : frame s u [.comp] (fun _ => False)) {g : Nat}
    (cap : u.cchCap g = s.cchCap g) (others : ∀ x, x ≠ g → u.cchOf x = s.cchOf x) {c : Nat} (h : c < 65536) :
    let t := (u.credited g c).nextPc k
    stepped s t k (s.cst k) (s.pc k + 1) ∧ t.cchCount g = c ∧ t.cchCap g = s.cchCap g ∧ (∀ x, x ≠ g → t.cchOf x = s.cchOf x) ∧
    frame s t [.comp] (fun x => x = CRX_CORE_PC.a k) := by
  have same (x : Nat) : ((u.credited g c).nextPc k).cchOf x = (u.credited g c).cchOf x := by rw [cchOf, nextPc, comp_setPc, cchOf]
  obtain ⟨count, cap', others'⟩ := credited_channel (s := u) g h
  refine ⟨(work.setCch g _).next (cstate_able ha), ?_, ?_, fun x hx => ?_, frame_nextPc (frame_trans hf (frame_setCch g _)) rfl⟩
  · rw [cchCount, same]; exact count
  · rw [cchCap, same]; exact cap'.trans cap
  · rw [same, others' x hx, others x hx]

/-- Credits returned to a channel with room for them, while no take waits (R189). -/
theorem creditReturn_fits (hw : s.comp.waits = []) {g m : Nat} (h : s.cchCount g + m ≤ s.cchCap g) :
    s.creditReturn g m = some ((s.credited g (s.cchCount g + m)).credited g (s.cchCount g + m)) := by
  have count : (s.credited g (s.cchCount g + m)).cchCount g = s.cchCount g + m :=
    (credited_channel g (lt_of_le_of_lt h (Nat.mod_lt _ (by decide)))).1
  have waits : (s.credited g (s.cchCount g + m)).comp.waits = [] := (waits_setCch ..).trans hw
  have served : (s.credited g (s.cchCount g + m)).serveCch g = (s.credited g (s.cchCount g + m)).credited g (s.cchCount g + m) := by
    generalize s.credited g (s.cchCount g + m) = u at count waits
    rw [serveCch, count, waits]
    simp only [serve]
    rw [withComp_waits waits, credited]
  rw [creditReturn, if_pos h]
  exact congrArg some served
theorem creditReturn_over {g m : Nat} (h : s.cchCap g < s.cchCount g + m) : s.creditReturn g m = none := if_neg (by omega)
theorem waitsOnCch_none (hw : s.comp.waits = []) (g : Nat) : s.waitsOnCch g = false := by simp [waitsOnCch, hw]

end State
end Sys2Proof.Machine
end

section
/-! PROOF. Jumar counters as the SEQ uses them (R191, R192, R282), and the obligation on control instructions. -/
namespace Sys2Proof.Machine
namespace State
variable {s t u : State} {k n m : Nat}

/-! ## Jumar counters (R191, R282) -/

/-- The counters of the pair of counter `n`. -/
def evenRf (n : Nat) : Rf := CRX_JUMAR_EVEN.V (n / 64) (n % 64 / 2)
def oddRf (n : Nat) : Rf := CRX_JUMAR_ODD.V (n / 64) (n % 64 / 2)
theorem jumar_even (n : Nat) : s.jumar (n / 2 * 2) = s.rf (evenRf n) := by
  rw [jumar, if_pos (by omega), evenRf, jDie, jPair, show n / 2 * 2 / 64 = n / 64 by omega, show n / 2 * 2 % 64 / 2 = n % 64 / 2 by omega]
theorem jumar_odd (n : Nat) : s.jumar (n / 2 * 2 + 1) = s.rf (oddRf n) := by
  rw [jumar, if_neg (by omega), oddRf, jDie, jPair, show (n / 2 * 2 + 1) / 64 = n / 64 by omega,
    show (n / 2 * 2 + 1) % 64 / 2 = n % 64 / 2 by omega]
section
variable (hw : s.comp.waits = [])
include hw
/-- With no core waiting, a counter written is only written. -/
theorem setJumar_even (v : Nat) : s.setJumar (n / 2 * 2) v = s.wf (evenRf n) v := by
  have waits : (s.wf (evenRf n) v).comp.waits = [] := by rw [wf_comp, hw]
  rw [setJumar, if_pos (by omega), jDie, jPair, show n / 2 * 2 / 64 = n / 64 by omega, show n / 2 * 2 % 64 / 2 = n % 64 / 2 by omega]
  change (s.wf (evenRf n) v).withComp { (s.wf (evenRf n) v).comp with waits := (s.wf (evenRf n) v).comp.waits.map _ } = _
  rw [waits]
  exact withComp_waits waits
theorem setJumar_odd (v : Nat) : s.setJumar (n / 2 * 2 + 1) v = s.wf (oddRf n) v := by
  have waits : (s.wf (oddRf n) v).comp.waits = [] := by rw [wf_comp, hw]
  rw [setJumar, if_neg (by omega), jDie, jPair, show (n / 2 * 2 + 1) / 64 = n / 64 by omega,
    show (n / 2 * 2 + 1) % 64 / 2 = n % 64 / 2 by omega]
  change (s.wf (oddRf n) v).withComp { (s.wf (oddRf n) v).comp with waits := (s.wf (oddRf n) v).comp.waits.map _ } = _
  rw [waits]
  exact withComp_waits waits
end

theorem onJumar_held (ha : s.able k) {j : Arg} (hn : n = (argOf (s.sreg k) j).toNat) (h : n < 1024) (hh : s.jumarH n = some (s.coreH k))
    {rs : List Nat} (hrs : ∀ r ∈ rs, r < 32) (f : Nat → State → State) : s.onJumar k j rs f = f n s := by
  rw [onJumar, seqStep_able ha (append_lt (argRegs_lt j) hrs), ← hn]
  exact (if_neg (by omega)).trans (if_neg (by simp [hh]))

/-! ## One addition (R192, R282) -/

/-- What counter `n` gives of the addition to the even and to the odd counter of its pair. -/
theorem addend_even (k n m : Nat) : ((([(k, n, m)]).filter (fun x => x.2.1 == n / 2 * 2)).map (fun x => x.2.2)).sum = if n % 2 = 0 then m else 0 := by
  by_cases h : n % 2 = 0
  · simp [h, show n / 2 * 2 = n by omega]
  · simp [h, show n ≠ n / 2 * 2 by omega]
theorem addend_odd (k n m : Nat) : ((([(k, n, m)]).filter (fun x => x.2.1 == n / 2 * 2 + 1)).map (fun x => x.2.2)).sum = if n % 2 = 1 then m else 0 := by
  by_cases h : n % 2 = 1
  · simp [h, show n / 2 * 2 + 1 = n by omega]
  · simp [h, show n ≠ n / 2 * 2 + 1 by omega]

section
variable {c : Fin 512} (ha : s.able c) {j : Arg} (hn : n = (argOf (s.sreg c) j).toNat) (h : n < 1024) (hh : s.jumarH n = some (s.coreH c))
  {v : Opd64} (hm : m = (opd64Of (s.sreg c) v).toNat) (h1 : 1 ≤ m) (h2 : m < 2 ^ 32)
include ha hn h hh hm h1 h2
/-- One addition that its operands allow is checked with its pair alone. -/
theorem jadd_one : s.jadd [⟨c, j, v⟩] = s.jaddPair (n / 2) [(c.val, n, m)] := by
  have reads := hazard_clear ha.2 (append_lt (argRegs_lt j) (opd64Regs_lt v))
  have sift : jaddSift [⟨c, j, v⟩] s = ([(c.val, n, m)], s) := by
    simp only [jaddSift, ← hn, ← hm, ha.1, reads, hh]
    rw [if_neg (by decide), if_neg (by omega), if_neg (by simp; omega), if_neg (by simp)]
  rw [jadd, sift]
  simp
end

section
variable {e o : Nat} (he : e = s.jumar (n / 2 * 2) + (if n % 2 = 0 then m else 0)) (ho : o = s.jumar (n / 2 * 2 + 1) + (if n % 2 = 1 then m else 0))
include he ho
theorem jaddPair_underflows (h : e < o) : s.jaddPair (n / 2) [(k, n, m)] = s.seqFault k stUNDERFLOW n := by
  simp only [jaddPair, Nat.mul_comm 2, addend_even, addend_odd, ← he, ← ho, if_pos h]
  rw [List.foldl_cons, List.foldl_nil]
variable (hle : o ≤ e)
include hle
theorem jaddPair_overflows (h : s.rf (CRX_JUMAR_CFG.LIMIT (n / 64) (n % 64 / 2)) < e - o) :
    s.jaddPair (n / 2) [(k, n, m)] = s.seqFault k stOVERFLOW n := by
  simp only [jaddPair, Nat.mul_comm 2, addend_even, addend_odd, ← he, ← ho, show n / 2 / 32 = n / 64 by omega, show n / 2 % 32 = n % 64 / 2 by omega,
    if_neg (Nat.not_lt.mpr hle), if_pos h]
  rw [List.foldl_cons, List.foldl_nil]
theorem jaddPair_adds (hw : s.comp.waits = []) (h : e - o ≤ s.rf (CRX_JUMAR_CFG.LIMIT (n / 64) (n % 64 / 2))) (h64 : e < 2 ^ 64) :
    s.jaddPair (n / 2) [(k, n, m)] = ((s.wf (evenRf n) e).wf (oddRf n) o).nextPc k := by
  have fits : ¬ (decide (2 ^ 64 ≤ e) || decide (2 ^ 64 ≤ o)) = true := by simp only [Bool.or_eq_true, decide_eq_true_eq]; omega
  have waits : (s.wf (evenRf n) e).comp.waits = [] := by rw [wf_comp, hw]
  simp only [jaddPair, Nat.mul_comm 2, addend_even, addend_odd, ← he, ← ho, show n / 2 / 32 = n / 64 by omega, show n / 2 % 32 = n % 64 / 2 by omega,
    if_neg (Nat.not_lt.mpr hle), if_neg (Nat.not_lt.mpr h), if_neg fits]
  rw [List.foldl_cons, List.foldl_nil, setJumar_even hw, setJumar_odd waits]
end

/-- The registers of a pair are no core's. -/
theorem pair_ne_core {a : Nat} (h : a = CRX_CORE_PC.a k ∨ a = CRX_CORE_STS.a k) :
    (evenRf n).a ≠ a ∧ (oddRf n).a ≠ a := by
  rcases h with rfl | rfl
  · simp only [evenRf, oddRf, CRX_JUMAR_EVEN.V, CRX_JUMAR_ODD.V, CRX_JUMAR_EVEN.a, CRX_JUMAR_ODD.a, CRX_CORE_PC.a, cruxBase, coreBase]; omega
  · simp only [evenRf, oddRf, CRX_JUMAR_EVEN.V, CRX_JUMAR_ODD.V, CRX_JUMAR_EVEN.a, CRX_JUMAR_ODD.a, CRX_CORE_STS.a, cruxBase, coreBase]; omega
theorem even_ne_odd (n : Nat) : (evenRf n).a ≠ (oddRf n).a := by
  simp only [evenRf, oddRf, CRX_JUMAR_EVEN.V, CRX_JUMAR_ODD.V, CRX_JUMAR_EVEN.a, CRX_JUMAR_ODD.a]; omega

/-- A pair written, and the core goes on. -/
theorem pair_steps (ha : s.able k) (n : Nat) {e o : Nat} (he : e < 2 ^ 64) (ho : o < 2 ^ 64) :
    let t := ((s.wf (evenRf n) e).wf (oddRf n) o).nextPc k
    stepped s t k (s.cst k) (s.pc k + 1) ∧ t.jumar (n / 2 * 2) = e ∧ t.jumar (n / 2 * 2 + 1) = o ∧
    frame s t [.comp] (fun x => x = CRX_CORE_PC.a k ∨ x = (evenRf n).a ∨ x = (oddRf n).a) := by
  obtain ⟨evenPc, oddPc⟩ := pair_ne_core (.inl rfl)
  obtain ⟨evenSts, oddSts⟩ := pair_ne_core (.inr rfl)
  have wrote : frame s ((s.wf (evenRf n) e).wf (oddRf n) o) [] (fun x => x = (evenRf n).a ∨ x = (oddRf n).a) :=
    frame_trans (frame_wf _ _ (.inl rfl)) (frame_wf _ _ (.inr rfl))
  have work := Worked.of_frame (k := k) wrote (by simp) (by rintro (h | h); exacts [evenSts h.symm, oddSts h.symm])
    (by rintro (h | h); exacts [evenPc h.symm, oddPc h.symm])
  refine ⟨work.next (cstate_able ha), ?_, ?_, ?_⟩
  · rw [jumar_even, nextPc, setPc, rf_wf_reg _ _ _ _ evenPc, rf_wf_reg _ _ _ _ (even_ne_odd n)]
    exact rf_wf_fits (show 0 + 64 ≤ 64 by decide) he
  · rw [jumar_odd, nextPc, setPc, rf_wf_reg _ _ _ _ oddPc]
    exact rf_wf_fits (show 0 + 64 ≤ 64 by decide) ho
  · exact frame_trans (frame_mono wrote (by simp) (fun _ => .inr)) (frame_wf _ _ (.inl rfl))

end State

end Sys2Proof.Machine
end

section
/-! PROOF. The obligation on the control, flag, channel and counter instructions of the SEQ (R186 to R192, R256, R258, R278 to R282, R286, R400). -/
namespace Sys2Proof.Machine
open State

/-- Settles O30: control transfers and waits, then flags, credit channels and jumar counters, each by what its operands allow. -/
theorem sequencerControl : Obligations.SequencerControl := by
  unfold Obligations.SequencerControl
  refine ⟨fun s k a l hu ha => ⟨fun c x st hc => ?moves, fun h => ?call, fun p rest hp hlt => ?ret,
      fun hr _ => ⟨fun h => ?callOverflows, fun h => ?retUnderflows⟩, fun h => ?drains, fun h => ⟨?halt, fun n hw => ?haltSetsFlag⟩⟩,
    fun s k d a hu ha hw => ⟨fun f key hk => ⟨?fset, ?fclr, ?ftest, fun v => ⟨fun h => ?flagSeen, fun h => ?flagAwaited⟩, fun h => ?flagTaken,
        fun h => ?takeAwaited⟩, fun f st v hk hr _ => ?noFlag,
      fun cc n g m hg hm => ⟨fun hn h1 h2 hh => ⟨fun hc c h => ?take, fun hc hcap => ?takeWaits, fun h => ?creditsBack, ?cread⟩,
        fun hr _ => ⟨fun h => ?noChannel, fun hn h => ?badCount, fun hn h1 h2 hh => ?notHeld,
          fun hn h1 h2 hh => ⟨fun h => ?overCap, fun h => ?tooFew, fun h => ?tooMany⟩⟩⟩,
      fun j n hn hlt hh => ⟨?jread, fun h => ?reached, fun h => ?jwaits,
        fun v m e o hm h1 h2 he ho => ⟨fun hle hlim h64 => ?jadd, fun hr _ h => ?addUnderflows, fun hr _ hle h => ?addOverflows⟩⟩⟩⟩
  case moves =>
    rcases hc with ⟨rfl, rfl, rfl⟩ | ⟨rfl, rfl, rfl⟩ | ⟨rfl, rfl, rfl⟩ | ⟨rfl, rfl, rfl⟩ | ⟨rfl, rfl, rfl⟩ | ⟨rfl, h, rfl, rfl⟩
    · exact runs_unheld hu (congrArg (unheld s) (seqStep_able ha (by simp) _)) (setPc_goesOn ha l)
    · exact runs_unheld hu (congrArg (unheld s) (seqStep_able ha (by simp) _)) (setPc_goesOn ha _)
    · exact runs_unheld hu (congrArg (unheld s) (br_able ha a l)) (setPc_goesOn ha _)
    · exact runs_unheld hu (congrArg (unheld s) (brz_able ha a l)) (setPc_goesOn ha _)
    · exact runs_unheld hu (congrArg (unheld s) (loop_able ha a l)) (setSreg_goesOn ha ..)
    · exact runs_unheld hu (congrArg (unheld s) (idle_drained ha h)) (setPc_goesOn ha _)
  case call => exact runs_unheld hu (congrArg (unheld s) (call_pushes ha l h)) (setDepth_jumps ha (by simp; omega) l)
  case ret => exact runs_unheld hu (congrArg (unheld s) (ret_pops ha hp)) (setDepth_jumps ha hlt p)
  case callOverflows =>
    exact runs_unheld hu (congrArg (unheld s) (call_overflows ha l h)) (seqFault_faulted k.isLt hr (status := stOVERFLOW) (by decide) (by decide) 0)
  case retUnderflows =>
    exact runs_unheld hu (congrArg (unheld s) (ret_underflows ha h)) (seqFault_faulted k.isLt hr (status := stUNDERFLOW) (by decide) (by decide) 0)
  case drains =>
    obtain ⟨state, kind, pc, -, hf⟩ := block_blocks (s := s) k .drain
    obtain ⟨state', kind', pc', -, hf'⟩ := block_blocks (s := s) k (.halt a none)
    exact ⟨runs_unheld hu (congrArg (unheld s) (idle_waits ha h)) ⟨state, kind, pc, hf⟩,
      runs_unheld hu (congrArg (unheld s) (halt_waits ha a h)) ⟨state', kind', pc', hf'⟩⟩
  case halt =>
    obtain ⟨state, exitVal, pc, sregs, flags, -⟩ := haltDone_halts (s := s) k.isLt a
    exact runs_unheld hu (congrArg (unheld s) ((halt_drained ha a h).trans (haltDone_none ..))) ⟨state, exitVal, pc, sregs, flags⟩
  case haltSetsFlag =>
    obtain ⟨state, exitVal, -, -, -, waits⟩ := haltDone_halts (s := s) k.isLt a
    have idle : ((s.haltShown k a).haltStopped k).comp.waits = [] := by rw [waits, otherWaits, hw]; rfl
    have wrote := frame_writeFlag idle (lfKey k n) true
    refine runs_unheld hu (congrArg (unheld s) ((halt_drained_flag ha a n h).trans (haltDone_flag ..)))
      ⟨(cstate_of_frame wrote id).trans state, (wrote.2.1 _ id).trans exitVal, ?_⟩
    rw [flagOf_writeFlag idle]
    simp
  case fset => exact runs_unheld hu (congrArg (unheld s) (onFlag_key ha hk _)) (writeFlag_steps hw ha key true)
  case fclr => exact runs_unheld hu (congrArg (unheld s) (onFlag_key ha hk _)) (writeFlag_steps hw ha key false)
  case ftest =>
    have value : Word.ofN (b2n (s.flagOf key)) = if s.flagOf key then 1 else 0 := by cases s.flagOf key <;> rfl
    obtain ⟨steps, flags, -, -, hf⟩ := setSreg_writes ha d (if s.flagOf key then 1 else 0)
    exact runs_unheld hu (congrArg (unheld s) ((onFlag_key ha hk _).trans (by rw [value]))) ⟨steps, flags, hf⟩
  case flagSeen =>
    obtain ⟨steps, flags, -, -⟩ := setPc_goesOn ha (s.pc k + 1)
    exact runs_unheld hu (congrArg (unheld s) ((onFlag_key ha hk _).trans (if_pos (beq_iff_eq.mpr h)))) ⟨steps, flags⟩
  case flagAwaited =>
    obtain ⟨state, -, -, comp, hf⟩ := block_blocks (s := s) k (.flag key v false)
    exact runs_unheld hu (congrArg (unheld s) ((onFlag_key ha hk _).trans (if_neg (mt beq_iff_eq.mp h))))
      ⟨state, waitOf_block hw .., congrArg (·.flags) comp, hf⟩
  case flagTaken =>
    obtain ⟨steps, flags, -⟩ := writeFlag_steps hw ha key false
    exact runs_unheld hu (congrArg (unheld s) ((onFlag_key ha hk _).trans (if_pos h))) ⟨steps, flags⟩
  case takeAwaited =>
    obtain ⟨state, -, -, comp, -⟩ := block_blocks (s := s) k (.flag key true true)
    exact runs_unheld hu (congrArg (unheld s) ((onFlag_key ha hk _).trans (if_neg (by simp [h])))) ⟨state, congrArg (·.flags) comp⟩
  case noFlag =>
    have faults : s.faulted (s.seqFault k st v) k st v := by
      rcases status_flagKey hk with rfl | rfl
      · exact seqFault_faulted k.isLt hr (by decide) (by decide) v
      · exact seqFault_faulted k.isLt hr (by decide) (by decide) v
    exact ⟨runs_unheld hu (congrArg (unheld s) (onFlag_fault ha hk _)) faults, runs_unheld hu (congrArg (unheld s) (onFlag_fault ha hk _)) faults⟩
  case take =>
    have few : s.cchCount g - m < 65536 := lt_of_le_of_lt (Nat.sub_le ..) (cchCount_lt g)
    have takes := credited_steps (g := g) ha (Worked.refl s k) (frame_refl ..) rfl (fun _ _ => rfl) few
    rcases h with ⟨rfl, hcap⟩ | rfl
    · refine runs_unheld hu (congrArg (unheld s) ((onCch_held ha hg hm hn h1 h2 hh _).trans ?_)) takes
      exact (if_neg (Nat.not_lt.mpr hcap)).trans (if_pos (by simp [hc, waitsOnCch_none hw]))
    · exact runs_unheld hu (congrArg (unheld s) ((onCch_held ha hg hm hn h1 h2 hh _).trans (if_pos hc))) takes
  case takeWaits =>
    obtain ⟨state, -, -, comp, -⟩ := block_blocks (s := s) k (.credit g m)
    refine runs_unheld hu (congrArg (unheld s) ((onCch_held ha hg hm hn h1 h2 hh _).trans
      ((if_neg (Nat.not_lt.mpr hcap)).trans (if_neg (by simp; omega))))) ⟨state, waitOf_block hw .., ?_⟩
    rw [cchOf, comp, cchOf]
  case creditsBack =>
    have fits : s.cchCount g + m < 65536 := lt_of_le_of_lt h (Nat.mod_lt _ (by decide))
    obtain ⟨-, cap, others⟩ := credited_channel (s := s) g fits
    obtain ⟨steps, count, -, rest, hf⟩ := credited_steps ha ((Worked.refl s k).setCch g _) (frame_setCch g _) cap others fits
    refine runs_unheld hu (congrArg (unheld s) ((onCch_held ha hg hm hn h1 h2 hh _).trans ?_)) ⟨steps, count, rest, hf⟩
    rw [creditReturn_fits hw h]
    rfl
  case cread =>
    obtain ⟨steps, -, -, cch, hf⟩ := setSreg_writes ha d (Word.ofN (s.cchCount g))
    exact runs_unheld hu (congrArg (unheld s) (onCch_held ha (n := .imm 1) (m := 1) hg rfl hn (by decide) (by decide) hh _)) ⟨steps, cch, hf⟩
  case noChannel => exact runs_unheld hu (congrArg (unheld s) (onCch_number ha hg hm h _)) (seqFault_faulted k.isLt hr (by decide) (by decide) g)
  case badCount => exact runs_unheld hu (congrArg (unheld s) (onCch_badCount ha hg hm hn h _)) (seqFault_faulted k.isLt hr (by decide) (by decide) m)
  case notHeld =>
    exact runs_unheld hu (congrArg (unheld s) (onCch_denied ha hg hm hn h1 h2 hh _)) (seqFault_faulted k.isLt hr (by decide) (by decide) g)
  case overCap =>
    exact runs_unheld hu (congrArg (unheld s) ((onCch_held ha hg hm hn h1 h2 hh _).trans (if_pos h)))
      (seqFault_faulted k.isLt hr (by decide) (by decide) g)
  case tooFew =>
    exact runs_unheld hu (congrArg (unheld s) ((onCch_held ha hg hm hn h1 h2 hh _).trans (if_neg (Nat.not_le.mpr h))))
      (seqFault_faulted k.isLt hr (by decide) (by decide) g)
  case tooMany =>
    refine runs_unheld hu (congrArg (unheld s) ((onCch_held ha hg hm hn h1 h2 hh _).trans ?_))
      (seqFault_faulted (status := stOVERFLOW) k.isLt hr (by decide) (by decide) g)
    rw [creditReturn_over h]
  case jread =>
    obtain ⟨steps, -, -, -, hf⟩ := setSreg_writes ha d (Word.ofN (s.jumar n))
    exact runs_unheld hu (congrArg (unheld s) (onJumar_held ha hn hlt hh (by simp) _)) ⟨steps, hf⟩
  case reached =>
    obtain ⟨steps, -, -, -⟩ := setPc_goesOn ha (s.pc k + 1)
    exact runs_unheld hu (congrArg (unheld s) ((onJumar_held ha hn hlt hh (cons_lt a (by simp)) _).trans (if_pos h))) steps
  case jwaits =>
    obtain ⟨state, kind, -, -, hf⟩ := block_blocks (s := s) k (.jumar n (s.sreg k a).toNat)
    exact runs_unheld hu (congrArg (unheld s) ((onJumar_held ha hn hlt hh (cons_lt a (by simp)) _).trans (if_neg (Nat.not_le.mpr h)))) ⟨state, kind, hf⟩
  case jadd =>
    exact runs_unheld hu (congrArg (unheld s) ((jadd_one ha hn hlt hh hm h1 h2).trans (jaddPair_adds he ho hle hw hlim h64)))
      (pair_steps ha n h64 (lt_of_le_of_lt hle h64))
  case addUnderflows =>
    exact runs_unheld hu (congrArg (unheld s) ((jadd_one ha hn hlt hh hm h1 h2).trans (jaddPair_underflows he ho h)))
      (seqFault_faulted k.isLt hr (status := stUNDERFLOW) (by decide) (by decide) n)
  case addOverflows =>
    exact runs_unheld hu (congrArg (unheld s) ((jadd_one ha hn hlt hh hm h1 h2).trans (jaddPair_overflows he ho hle h)))
      (seqFault_faulted k.isLt hr (status := stOVERFLOW) (by decide) (by decide) n)

end Sys2Proof.Machine
end

section
/-! PROOF. Engine operations as they start: what computing a result touches (R284, R290 to R313). -/
namespace Sys2Proof.Machine
namespace State
variable {s t u : State}

/-! ## Reads notice no more than a witness record does -/

theorem noticed_wakeHbm (rs : List (Nat × Nat)) : noticed s (s.wakeHbm rs) :=
  noticed_of_frame (frame_wakeHbm rs) (by decide) (by decide) (fun _ => False.elim)
theorem noticed_memRead (owner : Nat) (rs : List (Nat × Nat)) : noticed s (s.memRead owner rs).2.2 :=
  (noticed_memEvents ..).trans (noticed_wakeHbm rs)
theorem noticed_readRunsOf (rs : List (Nat × Nat)) : noticed s (s.readRunsOf rs).2.2 := by
  cases rs with
  | nil => exact .refl s
  | cons r rs => exact noticed_memRead ..
theorem noticed_rd (c : Ctx) (a : Tensor) : noticed s (s.rd c a).2 := (noticed_readRunsOf _).trans (noticed_readRunsOf _)
theorem noticed_rd_rd (c : Ctx) (a b : Tensor) : noticed s ((s.rd c a).2.rd c b).2 := (noticed_rd c a).trans (noticed_rd c b)
theorem noticed_rdCodes (c : Ctx) (a : Tensor) : noticed s (s.rdCodes c a).2 := noticed_rd ..
end State
open State
variable {s : State}

/-! ## Each operation reads its sources (R290) -/

theorem noticed_gseGather (c : Ctx) (m : IMode) (oob : Oob) (d t i : Tensor) : noticed s (gseGather s c m oob d t i).2 := by
  refine List.foldlRecOn (motive := fun (acc : List (Option Nat) × List (Option Nat) × Bool × State) => noticed s acc.2.2.2) _ _ (noticed_rd c i) (fun acc h x _ => ?_)
  cases x with
  | at_ r => exact h.trans ((noticed_readRunsOf _).trans (noticed_readRunsOf _))
  | zero => exact h
  | skip => exact h
theorem noticed_sseHist (c : Ctx) (add : Bool) (oob : Oob) (d a : Tensor) : noticed s (sseHist s c add oob d a).2 := by
  cases add with
  | true => exact noticed_rd_rd c a d
  | false => exact noticed_rd c a
theorem noticed_cdcCheck (c : Ctx) (se : Fin 32) (r : Nat × Bool × State) (h : noticed s r.2.2) : noticed s (cdcCheck c se r).2 := by
  unfold cdcCheck
  split <;> exact h

/-- What the operations of the VRE, the GSE, the SSE and the CDC touch when they start. -/
theorem noticed_compute (c : Ctx) (op : EngOp) (h : engOf op ≤ 4) : noticed s (compute s c op).2 := by
  cases op with
  | vreSum | vreMin | vreMax | vreSumPair => exact noticed_rd ..
  | vreDot | vreAxpy | vreDotPair => exact noticed_rd_rd ..
  | gseGather => exact noticed_gseGather ..
  | gseScatter => exact (noticed_rd ..).trans ((noticed_readRunsOf _).trans (noticed_readRunsOf _))
  | gseScatadd => exact (noticed_rd_rd ..).trans (noticed_rd ..)
  | sseSort | sseTopk | sseFilter | sseDedup => exact noticed_rd ..
  | sseSelect => exact (noticed_rd ..).trans ((noticed_rdCodes ..).trans (noticed_rdCodes ..))
  | sseCompact => exact noticed_rd_rd ..
  | sseHist => exact noticed_sseHist ..
  | cdcCvt | cdcSplit | cdcRes => exact noticed_rd ..
  | cdcMxq => exact (noticed_rd ..).trans (noticed_readRunsOf _)
  | cdcUnpack | cdcPack | cdcSpc => exact noticed_rdCodes ..
  | cdcSpx => exact (noticed_readRunsOf _).trans (noticed_rdCodes ..)
  | cdcCrc => exact noticed_readRunsOf _
  | cdcCrcChk => exact noticed_cdcCheck _ _ _ (noticed_readRunsOf _)
  | cdcResChk => exact noticed_cdcCheck _ _ _ (noticed_rd ..)
  | tenMma | fdeMove | fdePut | fdeAmo => exact absurd h (by simp [engOf])

end Sys2Proof.Machine
end

section
/-! PROOF. Engine instructions issued: stalled, queued or started (R182, R183, R196, R270, R284). -/
namespace Sys2Proof.Machine
open State

/-- An engine instruction of a form that Proit accepts is issued by the SEQ of its core. -/
theorem exec_engineOp {c : Instr} {k : Fin 512} {op : EngOp} {o : Opts} (h : c.engineOp = some (k, op, o)) (hok : okEng op o = true) (s : State) :
    exec c s = unheld s (s.issue k op o) := by
  unfold Instr.engineOp at h
  split at h
  all_goals cases h
  all_goals exact if_pos hok

namespace State
variable {s t u : State} {k e : Nat} {op : EngOp} {o : Opts} {f : Flight}

/-! ## Issue (R182, R270) -/

/-- The state in which core `k` has queued flight `f` and gone on. -/
def enqueued (s : State) (k : Nat) (f : Flight) : State :=
  (s.withComp { s.comp with flights := s.comp.flights ++ [f], next := s.comp.next + 1 }).nextPc k
theorem comp_enqueued (s : State) (k : Nat) (f : Flight) :
    (s.enqueued k f).comp = { s.comp with flights := s.comp.flights ++ [f], next := s.comp.next + 1 } := by
  rw [enqueued, nextPc, comp_setPc]; rfl
theorem frame_enqueued (s : State) (k : Nat) (f : Flight) : frame s (s.enqueued k f) [.comp] (fun a => a = CRX_CORE_PC.a k) :=
  frame_nextPc (frame_withComp _ (by decide)) rfl
theorem cst_enqueued (f : Flight) (j : Nat) : (s.enqueued k f).cst j = s.cst j := cst_of_comp (by rw [comp_enqueued]) j
theorem cstate_enqueued (f : Flight) : (s.enqueued k f).cstate k = s.cstate k := cstate_of_frame (frame_enqueued s k f) (pc_ne_sts k k).symm
theorem pc_enqueued (f : Flight) : (s.enqueued k f).pc k = (s.pc k + 1) % 2 ^ 32 := pc_setPc ..

section
variable (hr : s.running k = true) (hz : s.hazard k (engReads op o) = false)
include hr hz
theorem issue_stalls (h : s.queueFull k (engOf op) = true) : s.issue k op o = s.block k (.queue (engOf op)) := by
  rw [issue, seqStep, hr, hz]
  exact if_pos h
theorem issue_queues (h : s.queueFull k (engOf op) = false)
    (hf : f = { no := s.comp.next, core := k, eng := engOf op, op := op, opts := o, sregs := (s.cst k).sregs, pc := s.pc k, started := false,
                srcs := [], dsts := [], taint := false, res := EngRes.none, data := [], parts := [], fill := [], undef := [], stream := none }) :
    s.issue k op o = (s.enqueued k f).pumpEng k (engOf op) := by
  rw [issue, seqStep, hr, hz, hf]
  exact if_neg (Bool.eq_false_iff.mp h)
end

/-! ## An engine that is busy takes nothing (R183, R185) -/

theorem pumpEng_busy (he : e ≤ 4) (h : ∃ x ∈ s.comp.flights, x.core = k ∧ x.eng = e ∧ x.started = true) : s.pumpEng k e = s := by
  obtain ⟨x, hx, core, eng, started⟩ := h
  rw [pumpEng, if_neg (by omega), pumpCore]
  refine if_neg (Nat.not_lt.mpr ?_)
  rw [if_neg (by omega)]
  exact List.length_pos_of_mem (a := x) (by simp [hx, core, eng, started])
theorem pumpEng_full (h : 16 ≤ (s.comp.flights.filter (fun x => x.core == k && x.eng == 5 && x.started)).length) : s.pumpEng k 5 = s := by
  rw [pumpEng, if_neg (by decide), pumpCore]
  refine if_neg (Nat.not_lt.mpr ?_)
  rwa [if_pos rfl, List.filter_filter, List.filter_congr (q := fun x => x.core == k && x.eng == 5 && x.started) (fun x _ => by
    rw [Bool.and_comm])]
theorem pumpEng_served (h : ∃ x ∈ s.comp.flights, x.core / 8 = k / 8 ∧ x.eng = 6 ∧ x.started = true) : s.pumpEng k 6 = s := by
  obtain ⟨x, hx, core, eng, started⟩ := h
  rw [pumpEng, if_pos rfl, pumpTen]
  exact if_pos (List.any_eq_true.mpr ⟨x, hx, by simp [core, eng, started]⟩)

/-! ## An instruction starts (R284) -/

/-- The head of a queue on an engine that is free is the one flight there. -/
theorem pumpEng_takes (he : e ≤ 4) (h : s.comp.flights.filter (fun x => x.core == k && x.eng == e) = [f]) (hs : f.started = false) :
    s.pumpEng k e = s.startFlight f := by
  rw [pumpEng, if_neg (by omega), pumpCore, h]
  simp [hs, show e ≠ 5 by omega]
theorem startFlight_fails {st un ad : Nat} (h : startCheck s ⟨f.core, f.sregs, f.opts⟩ f.eng f.op = some (st, un, ad)) :
    s.startFlight f = s.coreFault f.core st un f.pc ad 0 0 0 := by
  rw [startFlight, h]
/-- A flight that passes its checks starts with the result of its operation; another flight may be marked as written under. -/
theorem startFlight_passes (h : startCheck s ⟨f.core, f.sregs, f.opts⟩ f.eng f.op = none) (he : f.eng ≤ 4) (hs : f.stream = none) :
    ∃ srcs dsts taint undef, ∃ φ : Flight → Flight, s.startFlight f =
      (compute s ⟨f.core, f.sregs, f.opts⟩ f.op).2.withComp { (compute s ⟨f.core, f.sregs, f.opts⟩ f.op).2.comp with
        flights := (compute s ⟨f.core, f.sregs, f.opts⟩ f.op).2.comp.flights.map (fun x =>
          if x.no = f.no then { f with res := (compute s ⟨f.core, f.sregs, f.opts⟩ f.op).1, started := true, srcs := srcs, dsts := dsts,
                                       taint := taint, undef := undef } else φ x) } := by
  rw [startFlight, h]
  simp only [if_neg (show ¬ f.eng = 5 by omega), if_neg (show ¬ f.eng = 6 by omega), fdeAfter, hs]
  exact ⟨_, _, _, _, fun x => _, rfl⟩

/-- The start checks find REJECT at the SEQ or DENIED at the engine. -/
theorem status_startCheck {c : Ctx} {st un ad : Nat} (h : startCheck s c e op = some (st, un, ad)) :
    (st = stREJECT ∨ st = stDENIED) ∧ (un = 0 ∨ un = e) := by
  unfold startCheck at h
  split at h
  · cases h; exact ⟨.inl rfl, .inl rfl⟩
  · split at h
    · cases h; exact ⟨.inr rfl, .inr rfl⟩
    · obtain ⟨a, -, ha⟩ := Option.map_eq_some_iff.mp h
      cases ha; exact ⟨.inr rfl, .inr rfl⟩

/-- What core `k` shows once flight `f` of its own, whose checks pass, has started. -/
theorem startFlight_starts (hk : k < 512) (h : startCheck s ⟨f.core, f.sregs, f.opts⟩ f.eng f.op = none) (he : f.eng ≤ 4) (hop : engOf f.op ≤ 4)
    (hs : f.stream = none) (hm : f ∈ s.comp.flights) :
    let t := s.startFlight f
    t.pc k = s.pc k ∧ t.cstate k = s.cstate k ∧ t.cst k = s.cst k ∧
    ∃ g ∈ t.comp.flights, g.no = f.no ∧ g.core = f.core ∧ g.op = f.op ∧ g.started = true ∧
      g.res = (compute s ⟨f.core, f.sregs, f.opts⟩ f.op).1 := by
  obtain ⟨srcs, dsts, taint, undef, φ, starts⟩ := startFlight_passes h he hs
  have reads := noticed_compute (s := s) ⟨f.core, f.sregs, f.opts⟩ f.op hop
  have comp := comp_noticed reads
  rw [starts]
  generalize compute s ⟨f.core, f.sregs, f.opts⟩ f.op = r at reads comp
  refine ⟨pc_of_frame reads.1 (not_witnessReg_core hk (o := 0x58) (by decide)), cstate_of_frame reads.1 (not_witnessReg_core hk (o := 0) (by decide)),
    cst_of_comp (congrArg (·.cores) comp) k, _, List.mem_map_of_mem (a := f) (by rwa [comp]), ?_⟩
  rw [if_pos rfl]
  exact ⟨rfl, rfl, rfl, rfl, rfl⟩

end State

/-- Settles O31: a full queue stalls the SEQ, a busy engine leaves the instruction queued, and one that is free starts it or faults. -/
theorem engineInstructionsIssue : Obligations.EngineInstructionsIssue := by
  unfold Obligations.EngineInstructionsIssue
  intro s c k op o f hu hc hok hr hz hf
  have core : f.core = k := by rw [hf]
  have eng : f.eng = engOf op := by rw [hf]
  have opIs : f.op = op := by rw [hf]
  have opts : f.opts = o := by rw [hf]
  have pc : f.pc = s.pc k := by rw [hf]
  have started : f.started = false := by rw [hf]
  have stream : f.stream = none := by rw [hf]
  have issues := exec_engineOp hc hok s
  have state : s.cstate k = 2 := by simpa [running] using hr
  have flights : (s.enqueued k f).comp.flights = s.comp.flights ++ [f] := by rw [comp_enqueued]
  refine ⟨fun full => ?stalls, fun room busy => ?queues, fun room he free u hu' => ?free⟩
  case stalls =>
    obtain ⟨state, kind, pc, comp, hfr⟩ := block_blocks (s := s) k (.queue (engOf op))
    exact runs_unheld hu (issues.trans (congrArg (unheld s) (issue_stalls hr hz full))) ⟨state, kind, pc, congrArg (·.flights) comp, hfr⟩
  case queues =>
    have still : (s.enqueued k f).pumpEng k (engOf op) = s.enqueued k f := by
      rcases busy with ⟨he, x, hx, h⟩ | ⟨he, h⟩ | ⟨he, x, hx, h⟩
      · exact pumpEng_busy he ⟨x, by rw [flights]; exact List.mem_append_left _ hx, h⟩
      · rw [he]
        exact pumpEng_full (by rw [flights, List.filter_append, List.length_append]; omega)
      · rw [he]
        exact pumpEng_served ⟨x, by rw [flights]; exact List.mem_append_left _ hx, h⟩
    exact runs_unheld hu (issues.trans (congrArg (unheld s) ((issue_queues hr hz room hf).trans still)))
      ⟨cst_enqueued f k, pc_enqueued f, (cstate_enqueued f).trans state, flights, by rw [comp_enqueued], frame_enqueued s k f⟩
  case free =>
    obtain rfl : u = s.enqueued k f := hu'
    have alone : (s.enqueued k f).comp.flights.filter (fun x => x.core == k.val && x.eng == engOf op) = [f] := by
      have nothing : s.comp.flights.filter (fun x => x.core == k.val && x.eng == engOf op) = [] :=
        List.filter_eq_nil_iff.mpr fun x hx => by simpa using free x hx
      rw [flights, List.filter_append, nothing]
      simp [core, eng]
    have starts := issues.trans (congrArg (unheld s) ((issue_queues hr hz room hf).trans (pumpEng_takes he alone started)))
    refine ⟨fun pass => ?passes, fun st un ad fail rope others => ?fails⟩
    case passes =>
      obtain ⟨pc', state', cst, g, hg, no, gcore, gop, gstarted, res⟩ :=
        startFlight_starts (s := s.enqueued k f) k.isLt (by rwa [core, opts, eng, opIs]) (by rwa [eng]) (by rwa [opIs]) stream (by rw [flights]; simp)
      refine runs_unheld hu starts ⟨pc'.trans (pc_enqueued f), state'.trans ((cstate_enqueued f).trans state), cst.trans (cst_enqueued f k), g, hg, no,
        gcore.trans core, gop.trans opIs, gstarted, ?_⟩
      rw [res, core, opts, opIs]
    case fails =>
      obtain ⟨status, unit⟩ := status_startCheck fail
      have ropeNone : (s.enqueued k f).rope.ctxs = [] := by rw [(frame_enqueued s k f).1 .rope (by decide)]; exact rope
      have faults := coreFault_faults (s := s.enqueued k f) (status := st) (unit := un) k.isLt ropeNone (by rcases status with rfl | rfl <;> decide) (by omega)
        (s.pc k) ad 0 0 0
      refine runs_unheld hu (starts.trans (congrArg (unheld s) (startFlight_fails (by rwa [core, opts, eng, opIs])))) ?_
      rw [core, pc]
      refine ⟨faults.state.trans (if_neg ?_), faults.status, faults.unit, faults.instr.trans (Nat.mod_eq_of_lt (rf_lt (CRX_CORE_PC.V k))), faults.addr⟩
      rcases status with rfl | rfl <;> decide

end Sys2Proof.Machine
end

section
/-! PROOF. How an engine instruction completes (R184, R275 to R277, R291, R293, R310, R396, R398), and the obligation on it. -/
namespace Sys2Proof.Machine
namespace State
variable {s t u : State} {k e : Nat} {f g : Flight}

/-! ## What a completion does, in its order (R291) -/

/-- The flight no longer among those in flight. -/
def retired (s : State) (f : Flight) : State := s.withComp { s.comp with flights := s.comp.flights.filter (fun x => x.no != f.no) }
/-- Its writes made, and whether some merge failed; then its counters. -/
def stored (s : State) (f : Flight) : Bool × State := (s.retired f).writeAs f.core f.res.writes
def counted (s : State) (f : Flight) : State := f.res.cnts.foldl (fun t x => t.count x.1 x.2) (s.stored f).2
/-- The status that its status word reports. -/
def endStatus (s : State) (f : Flight) : Nat := if f.eng = 5 && (s.stored f).1 && f.res.status = stOK then stPOISON else f.res.status
/-- The scalar registers a completion writes, with their values. -/
def endRegs (f : Flight) (st : Nat) : List (Nat × Word) :=
  f.res.regs ++ f.opts.st.toList.map (fun x => (x.val, Word.ofN (statusWord st f.res.flags f.res.oob)))
/-- Its flags and its kept set, then its registers. -/
def endCore (s : State) (f : Flight) : CoreSt :=
  { s.cst f.core with arith := (s.cst f.core).arith ||| f.res.flags, kept := f.res.kept.getD (s.cst f.core).kept }
def endArith (s : State) (f : Flight) : Word := Word.ofN ((s.reg (CRX_CORE_ARITH.a f.core)).toNat ||| f.res.flags)
def finished (s : State) (f : Flight) (st : Nat) : State :=
  ((s.setCst f.core (s.endCore f)).setReg (CRX_CORE_ARITH.a f.core) (s.endArith f)).writeRegs f.core (endRegs f st)
/-- Its done flag, where it names one. -/
def signalled (s : State) (f : Flight) : State :=
  match f.opts.done with
  | some d => s.writeFlag (doneKey f.core (fun i => f.sregs.getD i 0) d) true
  | none => s

section
variable (hq : (if f.eng = 5 then s.fdeEnd f else (f, s)) = (g, u)) (hcore : g.core = f.core) (heng : g.eng = f.eng)
  (ht : g.taint = false) (hd : g.undef = [])
include hq hcore heng ht hd
/-- An instruction that ends without a fault and whose operands no other unit touched. -/
theorem complete_lands (hr : g.res.fault = none) :
    s.complete f .none = ((((((u.counted g).finished g (u.endStatus g)).signalled g).pumpEng g.core g.eng).unqueue g.core g.eng).drained g.core) := by
  simp only [complete, applyWrites, hq, ht, hd, Bool.false_eq_true, if_false, hr]
  simp only [← hcore, ← heng]
  rfl
theorem complete_faults {x : Nat × Nat × Nat × Nat × Nat} (hr : g.res.fault = some x) :
    s.complete f .none = ((u.counted g).coreFault g.core x.1 g.eng g.pc x.2.1 x.2.2.1 x.2.2.2.1 x.2.2.2.2).pumpEng g.core g.eng := by
  simp only [complete, applyWrites, hq, ht, hd, Bool.false_eq_true, if_false, hr]
  simp only [← hcore, ← heng]
  rfl
end

/-! ## Registers written (R291) -/

theorem comp_writeRegs (l : List (Nat × Word)) : (s.writeRegs k l).comp = { s.comp with cores := (s.writeRegs k l).comp.cores } :=
  List.foldlRecOn (motive := fun (t : State) => t.comp = { s.comp with cores := t.comp.cores }) l _ rfl (fun t h x _ => by
    rw [setSreg, setCst, withComp_comp, h])
theorem frame_writeRegs (l : List (Nat × Word)) : frame s (s.writeRegs k l) [.comp] (fun _ => False) :=
  List.foldlRecOn (motive := fun (t : State) => frame s t [.comp] (fun _ => False)) l _ (frame_refl ..) (fun _ h _ _ => frame_trans h (frame_setSreg ..))
theorem cst_writeRegs (l : List (Nat × Word)) :
    (s.writeRegs k l).cst k = { s.cst k with sregs := l.foldl (fun r x => r.set x.1 x.2) (s.cst k).sregs } := by
  induction l generalizing s with
  | nil => rfl
  | cons x l ih =>
    have first : (s.setSreg k x.1 x.2).cst k = { s.cst k with sregs := (s.cst k).sregs.set x.1 x.2 } := cst_setCst_self ..
    exact (ih (s := s.setSreg k x.1 x.2)).trans (by rw [first, List.foldl_cons])

/-- What the flags, the kept set and the registers of a completion leave. -/
theorem finished_leaves (f : Flight) (st : Nat) :
    let t := s.finished f st
    t.cst f.core = { s.endCore f with sregs := (endRegs f st).foldl (fun l x => l.set x.1 x.2) (s.endCore f).sregs } ∧
    t.reg (CRX_CORE_ARITH.a f.core) = s.endArith f ∧ t.comp = { s.comp with cores := t.comp.cores } ∧
    frame s t [.comp] (fun a => a = CRX_CORE_ARITH.a f.core) := by
  have held := cst_setCst_self (s := s) f.core (s.endCore f)
  have kept := frame_setCst (s := s) f.core (s.endCore f)
  have comp : (s.setCst f.core (s.endCore f)).comp = { s.comp with cores := (s.setCst f.core (s.endCore f)).comp.cores } := by
    rw [setCst, withComp_comp]
  simp only [finished]
  generalize s.setCst f.core (s.endCore f) = u at held kept comp
  have regs := frame_setReg (s := u) (ch := [.comp]) (rg := fun a => a = CRX_CORE_ARITH.a f.core) (CRX_CORE_ARITH.a f.core) (s.endArith f) rfl
  have shown := reg_setReg_self u (CRX_CORE_ARITH.a f.core) (s.endArith f)
  have same : (u.setReg (CRX_CORE_ARITH.a f.core) (s.endArith f)).comp = u.comp := setReg_comp ..
  generalize u.setReg (CRX_CORE_ARITH.a f.core) (s.endArith f) = v at regs shown same
  have wrote := frame_writeRegs (s := v) (k := f.core) (endRegs f st)
  refine ⟨?_, (wrote.2.1 _ id).trans shown, ?_, frame_trans (frame_mono kept (fun _ => id) (fun _ => False.elim))
    (frame_trans regs (frame_mono wrote (fun _ => id) (fun _ => False.elim)))⟩
  · rw [cst_writeRegs, cst_of_comp (congrArg (·.cores) same), held]
  · rw [comp_writeRegs, same, comp]

/-! ## A core with nothing left (R183, R275) -/

section
variable (hf : s.comp.flights = [])
include hf
theorem pumpEng_none (k e : Nat) : s.pumpEng k e = s := by
  rw [pumpEng]
  split
  · exact pumpTen_none hf 16 _
  · rw [pumpCore, hf]
    exact ite_self s
/-- With no instruction in flight and no core waiting, nothing follows a completion. -/
theorem drained_none (hw : s.comp.waits = []) (k e : Nat) : ((s.pumpEng k e).unqueue k e).drained k = s := by
  have waits : s.waitOf k = none := by simp [waitOf, hw]
  have stalled : s.unqueue k e = s := by simp only [unqueue, waits]
  rw [pumpEng_none hf, stalled, drained, waits]
  split <;> rfl
end

/-! ## One instruction in flight (R275) -/

section
variable (hf : s.comp.flights = [f])
include hf
theorem engineComplete_alone (hk : f.core = k) (he : f.eng = e) (hs : f.started = true) {err : EngErr}
    (h : e = 5 → err = .none → s.fdeReady f = true) : s.engineComplete k e 0 err = s.complete f err := by
  have mine : (s.comp.flights.filter (fun x => x.core == k && x.eng == e && x.started))[0]? = some f := by simp [hf, hk, he, hs]
  simp only [engineComplete, mine]
  refine if_neg fun hc => ?_
  simp only [Bool.and_eq_true, beq_iff_eq, decide_eq_true_eq, Bool.not_eq_true'] at hc
  obtain ⟨⟨he5, herr⟩, hready⟩ := hc
  rw [h he5 herr] at hready
  cases hready
theorem comp_retired (hg : g.no = f.no) : (s.retired g).comp = { s.comp with flights := [] } := by
  rw [retired, withComp_comp, hf]
  simp [hg]
end

theorem stored_nothing (hw : f.res.writes = []) : s.stored f = (false, s.retired f) := by rw [stored, hw]; rfl
/-- One run of L or S that merges with no poison. -/
theorem stored_run (hf : (s.retired f).comp.flights = []) {a : Nat} {bs : List Byte} (hw : f.res.writes = [(a, bs)]) (ha : 0x10000000000 ≤ a)
    (hm : s.mem.mergeFails (s.ownOf a) a bs.length = []) :
    s.stored f = (false, (s.retired f).withMem (s.mem.write (s.ownOf a) a bs)) := by
  have owner : (s.retired f).ownFde f.core a = s.ownOf a := if_neg (by omega)
  have wrote := memWrite_scratch (s := s.retired f) hf (h := s.ownOf a) ha hm
  rw [stored, hw]
  simp only [writeAs, joinWrites, List.foldl_cons, List.foldl_nil, owner, wrote]
  rfl
/-- Whatever its writes and counters are, a completion leaves the cores as they are. -/
theorem comp_counted (hf : (s.retired f).comp.flights = []) : (s.counted f).comp = (s.retired f).comp := by
  have wrote : Traffic (s.retired f) (s.stored f).2 := by
    refine List.foldlRecOn (motive := fun (t : Bool × State) => Traffic (s.retired f) t.2) _ _ (.refl _) (fun t h x _ => ?_)
    exact h.trans (Traffic.memWrite ..)
  have still : (s.stored f).2.comp = (s.retired f).comp := by rw [wrote.comp, wrote.none hf, ← hf]
  refine List.foldlRecOn (motive := fun (t : State) => t.comp = (s.retired f).comp) _ _ still (fun t h x _ => ?_)
  rw [count_comp, h]

end State
end Sys2Proof.Machine
end

section
/-! PROOF. The obligation on the completion of engine instructions (R184, R196, R275 to R277, R291, R293, R310, R396, R398). -/
namespace Sys2Proof.Machine
namespace State
variable {s t u : State} {k e : Nat} {f g : Flight}

/-! ## A completion with nothing else in flight and no core waiting -/

section
variable (hf : (s.retired f).comp.flights = []) (hw : s.comp.waits = [])
include hf hw
theorem finished_idle (st : Nat) : ((s.counted f).finished f st).comp.flights = [] ∧ ((s.counted f).finished f st).comp.waits = [] := by
  obtain ⟨-, -, comp, -⟩ := finished_leaves (s := s.counted f) f st
  refine ⟨(congrArg (·.flights) comp).trans ?_, (congrArg (·.waits) comp).trans ?_⟩
  · exact (congrArg (·.flights) (comp_counted hf)).trans hf
  · exact (congrArg (·.waits) (comp_counted hf)).trans hw
/-- Nothing follows its done flag. -/
theorem signalled_drained (st : Nat) :
    ((((((s.counted f).finished f st).signalled f).pumpEng f.core f.eng).unqueue f.core f.eng).drained f.core) =
      ((s.counted f).finished f st).signalled f ∧
    (((s.counted f).finished f st).signalled f).comp.flights = [] := by
  obtain ⟨flights, waits⟩ := finished_idle hf hw st
  have kept : (((s.counted f).finished f st).signalled f).comp.flights = [] ∧ (((s.counted f).finished f st).signalled f).comp.waits = [] := by
    rw [signalled]
    split
    · exact ⟨(congrArg (·.flights) (comp_writeFlag waits _ true)).trans flights, (congrArg (·.waits) (comp_writeFlag waits _ true)).trans waits⟩
    · exact ⟨flights, waits⟩
  exact ⟨drained_none kept.1 kept.2 .., kept.1⟩
end

/-- Without counters, what its writes leave: memory, and the flight gone. -/
theorem counted_stores (hf : (s.retired f).comp.flights = []) (hc : f.res.cnts = [])
    (hw : f.res.writes = [] ∨ ∃ a bs, f.res.writes = [(a, bs)] ∧ 0x10000000000 ≤ a ∧ s.mem.mergeFails (s.ownOf a) a bs.length = []) :
    ∃ m, s.counted f = (s.retired f).withMem m ∧ (∀ a bs, f.res.writes = [(a, bs)] → m = s.mem.write (s.ownOf a) a bs) ∧
      (f.res.writes = [] → m = s.mem) := by
  have plain : s.counted f = (s.stored f).2 := by rw [counted, hc, List.foldl_nil]
  rcases hw with cleared | ⟨a, bs, one, ha, hm⟩
  · exact ⟨s.mem, by rw [plain, stored_nothing cleared]; rfl, by simp [cleared], fun _ => rfl⟩
  · refine ⟨s.mem.write (s.ownOf a) a bs, by rw [plain, stored_run hf one ha hm], fun a' bs' h => ?_, by simp [one]⟩
    rw [one] at h
    cases h; rfl

/-- What landing without counters leaves, memory then being `m`. -/
theorem landed_leaves (gone : (s.retired f).comp = { s.comp with flights := [] }) {m : MemSt} (stores : s.counted f = (s.retired f).withMem m) (st : Nat) :
    let t := (s.counted f).finished f st
    t.mem = m ∧ t.mfb = s.mfb ∧
    t.cst f.core = { s.endCore f with sregs := (endRegs f st).foldl (fun l x => l.set x.1 x.2) (s.endCore f).sregs } ∧
    t.reg (CRX_CORE_ARITH.a f.core) = s.endArith f ∧ frame s t [.mem, .comp] (fun a => a = CRX_CORE_ARITH.a f.core) := by
  have before : frame s (s.counted f) [.mem, .comp] (fun _ => False) := by
    rw [stores]
    exact frame_trans (frame_withComp _ (by decide)) (frame_withMem _ (by decide))
  have core : (s.counted f).cst f.core = s.cst f.core :=
    cst_of_comp (by rw [comp_counted (congrArg (·.flights) gone), gone]) _
  obtain ⟨cst, arith, -, after⟩ := finished_leaves (s := s.counted f) f st
  rw [endCore, core] at cst
  rw [endArith, before.2.1 _ id] at arith
  have mem : ((s.counted f).finished f st).mem = (s.counted f).mem := after.1 .mem (by decide)
  have through := frame_trans (frame_mono before (fun _ => id) (fun _ => False.elim)) (frame_mono after (by decide) (fun _ => id))
  exact ⟨by rw [mem, stores]; rfl, through.1 .mfb (by decide), cst, arith, through⟩

/-- An instruction that ends without a fault, names no done flag and is alone in flight. -/
theorem complete_alone (hq : (if f.eng = 5 then s.fdeEnd f else (f, s)) = (g, u)) (hcore : g.core = f.core) (heng : g.eng = f.eng)
    (ht : g.taint = false) (hd : g.undef = []) (hr : g.res.fault = none) (hdone : g.opts.done = none) (hf : (u.retired g).comp.flights = [])
    (hw : u.comp.waits = []) :
    s.complete f .none = (u.counted g).finished g (u.endStatus g) ∧ ((u.counted g).finished g (u.endStatus g)).comp.flights = [] := by
  have silent : ((u.counted g).finished g (u.endStatus g)).signalled g = (u.counted g).finished g (u.endStatus g) := by rw [signalled, hdone]
  obtain ⟨rests, flights⟩ := signalled_drained hf hw (u.endStatus g)
  rw [silent] at flights
  exact ⟨(complete_lands hq hcore heng ht hd hr).trans (rests.trans silent), flights⟩

/-! ## An atomic whose one request is answered (R315, R316) -/

section
variable {no : Nat} {v : Option (Nat × List Byte)} {data : List Byte} (hp : f.parts = [⟨no, 0, 8, v⟩]) (hr : s.mfb.coreRsp = [⟨f.core, no, 0, data⟩])
include hp hr
theorem partAnswers_one : s.partAnswers f = some [(0, data)] := by simp [partAnswers, hp, hr]
theorem fdeReady_one (hs : f.stream = none) : s.fdeReady f = true := by simp [fdeReady, partAnswers_one hp hr, hs]
theorem fdeEnd_amo {sd x a b fn w64 sg od an fl} (hop : f.op = .fdeAmo sd x a b fn w64 sg od an fl) (hfill : f.fill = []) (hs : f.stream = none)
    (hres : f.res = EngRes.none) :
    s.fdeEnd f = ({ f with res := { EngRes.none with regs := [(sd.val, Word.ofN (leNat (data.take 8)))] } },
      s.withMfb { s.mfb with coreRsp := [] }) := by
  simp [fdeEnd, partAnswers_one hp hr, hp, hr, hop, hfill, hs, hres, EngRes.none, stOK]
end

/-! ## A core that faults as its one instruction ends (R196) -/

theorem coreFault_alone (hk : k < 512) (hr : s.rope.ctxs = []) (hf : s.otherFlights k = []) {status unit : Nat} (hs : status < 256) (hu : unit < 8)
    (instr addr site want got : Nat) :
    (s.coreFault k status unit instr addr site want got).comp.flights = [] ∧
    (s.coreFault k status unit instr addr site want got).pumpEng k e = s.coreFault k status unit instr addr site want got := by
  have cleared : (s.coreFault k status unit instr addr site want got).comp.flights = [] :=
    List.length_eq_zero_iff.mp (by rw [(coreFault_faults hk hr hs hu instr addr site want got).count, hf]; rfl)
  exact ⟨cleared, pumpEng_none cleared k e⟩
theorem otherFlights_one (hf : s.comp.flights = [f]) (hk : f.core = k) : s.otherFlights k = [] := by simp [otherFlights, hf, hk]

end State
open State

/-- Settles O32: an instruction alone in flight lands its writes, registers and flags, or faults its core as it ends. -/
theorem engineCompletion : Obligations.EngineCompletion := by
  unfold Obligations.EngineCompletion
  intro s k e f hu hf hk he hs hw hr
  have gone : (s.retired f).comp = { s.comp with flights := [] } := comp_retired hf rfl
  have cleared : (s.retired f).comp.flights = [] := congrArg (·.flights) gone
  have others := otherFlights_one hf hk
  have unit : e.val < 8 := by omega
  have ends {err : EngErr} (h : f.eng = 5 → err = .none → s.fdeReady f = true) : exec (.engineComplete k e 0 err) s = unheld s (s.complete f err) :=
    congrArg (unheld s) (engineComplete_alone hf hk he hs (fun h5 => h (he.trans h5)))
  have notFde (h5 : e.val ≠ 5) : (if f.eng = 5 then s.fdeEnd f else (f, s)) = (f, s) := if_neg (by omega)
  refine ⟨fun h5 ht hd hfault hc hdone hwr => ?lands, fun n h5 ht hd hfault hdone => ?signals,
    fun sd x a b fn w64 sg od an fl no v data h5 hop hdone hst ht hd hfill hstream hres hparts hrsp => ?amo,
    fun st ad want got h5 ht hd hfault hst hlt hwr hc => ?faults, ?uncorrectable, fun want got h6 => ?column⟩
  case lands =>
    obtain ⟨m, stores, written, unwritten⟩ := counted_stores cleared hc hwr
    obtain ⟨lands, flights⟩ := complete_alone (notFde h5) rfl rfl ht hd hfault hdone cleared hw
    have status : s.endStatus f = f.res.status := if_neg (by simp [show f.eng ≠ 5 by omega])
    obtain ⟨mem, -, cst, arith, hfr⟩ := landed_leaves gone stores (s.endStatus f)
    rw [status] at lands flights mem cst arith hfr
    rw [endCore, endRegs, hk] at cst
    rw [endArith, hk] at arith
    rw [hk] at hfr
    exact runs_unheld hu ((ends (fun h => absurd (he.symm.trans h) h5)).trans (congrArg (unheld s) lands))
      ⟨flights, fun a bs h => mem.trans (written a bs h), fun h => mem.trans (unwritten h), cst, arith, hfr⟩
  case signals =>
    obtain ⟨-, waits⟩ := finished_idle cleared hw (s.endStatus f)
    obtain ⟨rests, flights⟩ := signalled_drained cleared hw (s.endStatus f)
    have lands := (complete_lands (notFde h5) rfl rfl ht hd hfault).trans rests
    refine runs_unheld hu ((ends (fun h => absurd (he.symm.trans h) h5)).trans (congrArg (unheld s) lands)) ⟨?_, flights⟩
    rw [signalled, hdone]
    dsimp only
    rw [flagOf_writeFlag waits, hk]
    simp [doneKey]
  case amo =>
    have answered : s.mfb.coreRsp = [⟨f.core, no, 0, data⟩] := by rw [hrsp, hk]
    have taken := fdeEnd_amo hparts answered hop hfill hstream hres
    generalize hg : { f with res := { EngRes.none with regs := [(sd.val, Word.ofN (leNat (data.take 8)))] } } = g at taken
    generalize hm : s.withMfb { s.mfb with coreRsp := [] } = u at taken
    have comp : u.comp = s.comp := by rw [← hm]; rfl
    have gone' : (u.retired g).comp = { u.comp with flights := [] } := comp_retired (by rw [comp]; exact hf) (by rw [← hg])
    have cleared' : (u.retired g).comp.flights = [] := congrArg (·.flights) gone'
    obtain ⟨m, stores, -, unwritten⟩ := counted_stores cleared' (by rw [← hg]; rfl) (.inl (by rw [← hg]; rfl))
    obtain ⟨lands, flights⟩ := complete_alone ((if_pos (he.trans h5)).trans taken) (by rw [← hg]) (by rw [← hg]) (by rw [← hg]; exact ht)
      (by rw [← hg]; exact hd) (by rw [← hg]; rfl) (by rw [← hg]; exact hdone) cleared' (by rw [comp]; exact hw)
    obtain ⟨mem, mfb, cst, -, -⟩ := landed_leaves gone' stores (u.endStatus g)
    have regs : endRegs g (u.endStatus g) = [(sd.val, Word.ofN (leNat (data.take 8)))] := by rw [endRegs, ← hg, hst]; rfl
    have core : u.cst g.core = s.cst k := by rw [← hg, ← hk]; exact cst_of_comp (congrArg (·.cores) comp) _
    rw [regs, endCore, core, show g.core = k by rw [← hg]; exact hk] at cst
    refine runs_unheld hu ((ends (fun _ _ => fdeReady_one hparts answered hstream)).trans (congrArg (unheld s) lands))
      ⟨flights, by rw [mfb, ← hm]; rfl, by rw [cst]; rfl, ?_⟩
    rw [mem, unwritten (by rw [← hg]; rfl), ← hm]
    rfl
  case faults =>
    have plain : s.counted f = s.retired f := by rw [counted, hc, List.foldl_nil, stored_nothing hwr]
    have lost := complete_faults (notFde h5) rfl rfl ht hd hfault
    have alone : (s.retired f).otherFlights k = [] := by rw [otherFlights, cleared]; rfl
    have faults := coreFault_faults (s := s.retired f) k.isLt hr hlt unit f.pc ad 0 want got
    obtain ⟨flights, still⟩ := coreFault_alone (s := s.retired f) (e := e) k.isLt hr alone hlt unit f.pc ad 0 want got
    rw [plain, hk, he, still] at lost
    refine runs_unheld hu ((ends (fun h => absurd (he.symm.trans h) h5)).trans (congrArg (unheld s) lost))
      ⟨faults.state.trans (if_neg hst), faults.status, faults.unit, faults.addr, ?_, flights⟩
    rw [faults.sregs, cst_of_comp (s := s) (congrArg (·.cores) gone)]
  case uncorrectable =>
    have faults := coreFault_faults (s := s) (status := stPOISON) k.isLt hr (by decide) unit f.pc 0 0 0 0
    obtain ⟨flights, still⟩ := coreFault_alone (e := e) (status := stPOISON) k.isLt hr others (by decide) unit f.pc 0 0 0 0
    have lost : s.complete f .state = s.coreFault k stPOISON e f.pc 0 0 0 0 := by
      rw [complete, hk, he]; exact still
    exact runs_unheld hu ((ends (fun _ h => by cases h)).trans (congrArg (unheld s) lost)) ⟨faults.state, faults.status, faults.unit, flights⟩
  case column =>
    have counts : frame s (s.inc (CRX_CNT_TEN_FAIL.V (k / 32))) [.sticky] (fun a => a = CRX_CNT_TEN_FAIL.a (k / 32)) := frame_inc _ rfl (by decide)
    have rope : (s.inc (CRX_CNT_TEN_FAIL.V (k / 32))).rope.ctxs = [] := by rw [inc_rope]; exact hr
    have alone : (s.inc (CRX_CNT_TEN_FAIL.V (k / 32))).otherFlights k = [] := by rw [otherFlights, inc_comp]; exact others
    have faults := coreFault_faults (s := s.inc (CRX_CNT_TEN_FAIL.V (k / 32))) (status := stCHECK) k.isLt rope (by decide) unit f.pc got.toNat 7 want.toNat got.toNat
    obtain ⟨-, still⟩ := coreFault_alone (e := e) (status := stCHECK) k.isLt rope alone (by decide) unit f.pc got.toNat 7 want.toNat got.toNat
    have lost : s.complete f (.column want got) =
        (s.inc (CRX_CNT_TEN_FAIL.V (k / 32))).coreFault k stCHECK e f.pc got.toNat 7 want.toNat got.toNat := by
      rw [complete, hk, he]; exact (if_pos h6).trans still
    exact runs_unheld hu ((ends (fun _ h => by cases h)).trans (congrArg (unheld s) lost))
      ⟨faults.state, faults.status, faults.addr.trans (Nat.mod_eq_of_lt got.isLt), (faults.tenFail _ (by omega)).trans (reg_count_self ..)⟩

end Sys2Proof.Machine
end

section
/-! PROOF. Accumulators in closed form: what a list of them comes to while no count of carries saturates (R229, R230, R233). -/
namespace Sys2Proof.Machine
namespace Acc
variable {a b : Acc} {l m : List Acc} {y : Int}

/-! ## V and WRAP of an exact value (R229, R230) -/

/-- The weight of the sign bit of V; twice it is the modulus of V. -/
def signWeight : Int := 2 ^ 479

theorem modulus_eq : (2 : Int) ^ 480 = 2 * signWeight := pow_succ' 2 479
theorem signWeight_pos : 0 < signWeight := by unfold signWeight; positivity

/-- V is a signed 480-bit integer. -/
def Signed (a : Acc) : Prop := -signWeight ≤ a.v ∧ a.v < signWeight

/-- The V of an exact value: its residue, read as signed. -/
def vOf (y : Int) : Int := (y + signWeight) % (2 * signWeight) - signWeight

/-- The WRAP of an exact value, were it unbounded: the multiples of 2^480 that V leaves. -/
def wrapOf (y : Int) : Int := (y + signWeight) / (2 * signWeight)

/-- An exact value whose WRAP is not the saturated state. -/
def Held (y : Int) : Prop := -127 < wrapOf y ∧ wrapOf y < 127

theorem x_eq (a : Acc) : a.x = a.v + a.wrap * (2 * signWeight) := by rw [x, modulus_eq]

theorem x_sum (a b : Acc) : a.x + b.x = a.v + b.v + (a.wrap + b.wrap) * (2 * signWeight) := by
  rw [x_eq, x_eq]
  ring

theorem vOf_add_wrapOf (y : Int) : vOf y + wrapOf y * (2 * signWeight) = y := by
  have := Int.emod_add_mul_ediv (y + signWeight) (2 * signWeight)
  unfold vOf wrapOf
  linarith

/-- The V of the model's merge, by its name here. -/
theorem residue_eq (y : Int) : (y + 2 ^ 479) % 2 ^ 480 - 2 ^ 479 = vOf y := by
  rw [vOf, ← modulus_eq, signWeight]

theorem vOf_signed (y : Int) : -signWeight ≤ vOf y ∧ vOf y < signWeight := by
  have pos := signWeight_pos
  have low := Int.emod_nonneg (y + signWeight) (b := 2 * signWeight) (by omega)
  have high := Int.emod_lt_of_pos (y + signWeight) (b := 2 * signWeight) (by omega)
  unfold vOf
  omega

theorem wrapOf_add_wraps (y k : Int) : wrapOf (y + k * (2 * signWeight)) = wrapOf y + k := by
  have pos := signWeight_pos
  rw [wrapOf, add_right_comm, Int.add_mul_ediv_right _ _ (by omega), wrapOf]

theorem vOf_add_wraps (y k : Int) : vOf (y + k * (2 * signWeight)) = vOf y := by
  rw [vOf, add_right_comm, Int.add_mul_emod_self_right, vOf]

theorem wrapOf_signed (low : -signWeight ≤ y) (high : y < signWeight) : wrapOf y = 0 := Int.ediv_eq_zero_of_lt (by omega) (by omega)

/-- The WRAP beside a signed V is that of the exact value. -/
theorem wrapOf_x (ha : a.Signed) : wrapOf a.x = a.wrap := by
  rw [x_eq, wrapOf_add_wraps, wrapOf_signed ha.1 ha.2, zero_add]

theorem held_of_natAbs_lt (hy : y.natAbs < 126 * 2 ^ 480) : Held y := by
  have pos := signWeight_pos
  have bound : (y.natAbs : Int) < 126 * (2 * signWeight) := by rw [← modulus_eq]; exact_mod_cast hy
  have low : -126 ≤ wrapOf y := Int.le_ediv_of_mul_le (by omega) (by omega)
  have high : wrapOf y < 127 := Int.ediv_lt_of_lt_mul (by omega) (by omega)
  exact ⟨by omega, high⟩

/-! ## merge (R233) -/

/-- The carry of merge. -/
def carry (a b : Acc) : Int :=
  if 0 ≤ a.v ∧ 0 ≤ b.v ∧ vOf (a.v + b.v) < 0 then 1 else if a.v < 0 ∧ b.v < 0 ∧ 0 ≤ vOf (a.v + b.v) then -1 else 0

theorem carry_comm (a b : Acc) : carry a b = carry b a := by
  simp only [carry, add_comm b.v, and_left_comm (a := 0 ≤ b.v), and_left_comm (a := b.v < 0)]

/-- It counts the multiple of 2^480 by which the sum of two signed integers leaves V. -/
theorem carry_eq_wrapOf (ha : a.Signed) (hb : b.Signed) : carry a b = wrapOf (a.v + b.v) := by
  obtain ⟨aLow, aHigh⟩ := ha
  obtain ⟨bLow, bHigh⟩ := hb
  obtain ⟨low, high⟩ := vOf_signed (a.v + b.v)
  have sum := vOf_add_wrapOf (a.v + b.v)
  have pos := signWeight_pos
  have least : -1 ≤ wrapOf (a.v + b.v) := Int.le_ediv_of_mul_le (by omega) (by omega)
  have most : wrapOf (a.v + b.v) < 2 := Int.ediv_lt_of_lt_mul (by omega) (by omega)
  unfold carry
  obtain under | within | above : wrapOf (a.v + b.v) = -1 ∨ wrapOf (a.v + b.v) = 0 ∨ wrapOf (a.v + b.v) = 1 := by omega
  · rw [under] at sum ⊢
    rw [if_neg (by omega), if_pos (by omega)]
  · rw [within] at sum ⊢
    rw [if_neg (by omega), if_neg (by omega)]
  · rw [above] at sum ⊢
    rw [if_pos (by omega)]

/-- The count of carries after merge: a saturated input keeps it saturated. -/
def wrapSum (a b : Acc) : Int :=
  if a.wrap = 127 ∨ b.wrap = 127 then 127 else if a.wrap = -127 ∨ b.wrap = -127 then -127 else a.wrap + b.wrap + carry a b

theorem wrapSum_comm (a b : Acc) : wrapSum a b = wrapSum b a := by
  simp only [wrapSum, carry_comm a b, add_comm a.wrap, or_comm (a := a.wrap = _)]

/-- Of two accumulators that are not saturated it is the WRAP of the sum of their exact values. -/
theorem wrapSum_eq_wrapOf (ha : a.Signed) (hb : b.Signed) (hax : Held a.x) (hbx : Held b.x) : wrapSum a b = wrapOf (a.x + b.x) := by
  rw [Held, wrapOf_x ha] at hax
  rw [Held, wrapOf_x hb] at hbx
  rw [wrapSum, if_neg (by omega), if_neg (by omega), carry_eq_wrapOf ha hb, x_sum, wrapOf_add_wraps, add_comm]

theorem merge_eq (a b : Acc) : a.merge b =
    { v := vOf (a.v + b.v), wrap := max (-127) (min 127 (wrapSum a b))
      nan := a.nan || b.nan, invalid := a.invalid || b.invalid, pinf := a.pinf || b.pinf, ninf := a.ninf || b.ninf, ovt := a.ovt || b.ovt
      nonempty := a.nonempty || b.nonempty
      nz := (a.nz || !a.nonempty) && (b.nz || !b.nonempty) && (a.nonempty || b.nonempty)
      pz := (a.pz || !a.nonempty) && (b.pz || !b.nonempty) && (a.nonempty || b.nonempty) } := by
  have wrap : (a.merge b).wrap = max (-127) (min 127 (wrapSum a b)) := by
    simp only [merge, residue_eq, wrapSum, carry, Bool.and_eq_true, decide_eq_true_eq, Bool.or_eq_true, beq_iff_eq, and_assoc]
    split_ifs <;> omega
  rw [← wrap, ← residue_eq]
  rfl

theorem merge_comm (a b : Acc) : a.merge b = b.merge a := by
  rw [merge_eq, merge_eq b, wrapSum_comm, add_comm a.v]
  simp only [Bool.or_comm a.nan, Bool.or_comm a.invalid, Bool.or_comm a.pinf, Bool.or_comm a.ninf, Bool.or_comm a.ovt,
    Bool.or_comm a.nonempty, Bool.and_comm (a.nz || _), Bool.and_comm (a.pz || _)]

/-! ## A list merged (R233) -/

/-- What the accumulators of a list come to: V and WRAP of the sum of their exact values, and the state bits of R229. -/
def total (l : List Acc) : Acc :=
  { v := vOf (l.map x).sum, wrap := wrapOf (l.map x).sum
    nan := l.any nan, invalid := l.any invalid, pinf := l.any pinf, ninf := l.any ninf, ovt := l.any ovt, nonempty := l.any nonempty
    nz := l.all (fun a => a.nz || !a.nonempty) && l.any nonempty
    pz := l.all (fun a => a.pz || !a.nonempty) && l.any nonempty }

theorem total_perm (h : l.Perm m) : total l = total m := by
  simp only [total, (h.map x).sum_eq, h.any_eq, h.all_eq]

theorem total_x (l : List Acc) : (total l).x = (l.map x).sum := (x_eq _).trans (vOf_add_wrapOf _)

theorem total_signed (l : List Acc) : (total l).Signed := vOf_signed _

/-- NZ or PZ of a total, as merge reads it: a list that no term has entered passes for all zeros of that sign. -/
theorem all_of_empty (p : Acc → Bool) (l : List Acc) :
    ((l.all (fun a => p a || !a.nonempty) && l.any nonempty) || !l.any nonempty) = l.all (fun a => p a || !a.nonempty) := by
  cases entered : l.any nonempty with
  | true => simp
  | false =>
    have none : l.all (fun a => p a || !a.nonempty) = true := List.all_eq_true.mpr fun a ha => by
      simp [List.any_eq_false.mp entered a ha]
    simp [none]

/-- A total enters a total as one accumulator, whatever was grouped in it. -/
theorem total_pair (l : List Acc) (a : Acc) : total [total l, a] = total (l ++ [a]) := by
  have sum : ([total l, a].map x).sum = ((l ++ [a]).map x).sum := by simp [total_x]
  rw [total, sum, total]
  simp [total, all_of_empty, Bool.and_assoc]

theorem merge_eq_total (ha : a.Signed) (hb : b.Signed) (hax : Held a.x) (hbx : Held b.x) (hx : Held (a.x + b.x)) :
    a.merge b = total [a, b] := by
  obtain ⟨low, high⟩ := hx
  have v : vOf (a.v + b.v) = vOf (a.x + b.x) := by rw [x_sum, vOf_add_wraps]
  have wrap : max (-127) (min 127 (wrapSum a b)) = wrapOf (a.x + b.x) := by rw [wrapSum_eq_wrapOf ha hb hax hbx]; omega
  rw [merge_eq, v, wrap]
  simp [total]

theorem total_nil : total [] = empty := by
  have pos := signWeight_pos
  have wrap : wrapOf 0 = 0 := wrapOf_signed (by omega) (by omega)
  have v := vOf_add_wrapOf 0
  rw [wrap, zero_mul, add_zero] at v
  simp [total, empty, v, wrap]

theorem natAbs_sum_le (l : List Acc) : (l.map x).sum.natAbs ≤ (l.map (fun a => a.x.natAbs)).sum := by
  induction l with
  | nil => rfl
  | cons a l ih =>
    simp only [List.map_cons, List.sum_cons]
    omega

theorem mergeAll_eq_total (hs : ∀ a ∈ l, a.Signed) (hx : (l.map (fun a => a.x.natAbs)).sum < 126 * 2 ^ 480) : mergeAll l = total l := by
  induction l using List.reverseRecOn with
  | nil => exact total_nil.symm
  | append_singleton l a ih =>
    have whole := natAbs_sum_le (l ++ [a])
    have part := natAbs_sum_le l
    simp only [List.map_append, List.map_cons, List.map_nil, List.sum_append, List.sum_singleton] at hx whole
    have prefixTotal := ih (fun a ha => hs a (List.mem_append_left _ ha)) ((Nat.le_add_right _ _).trans_lt hx)
    calc mergeAll (l ++ [a]) = (total l).merge a := by rw [← prefixTotal, mergeAll, List.foldl_append]; rfl
      _ = total [total l, a] := by
        apply merge_eq_total (total_signed l) (hs a (by simp))
        · exact total_x l ▸ held_of_natAbs_lt ((part.trans (Nat.le_add_right _ _)).trans_lt hx)
        · exact held_of_natAbs_lt ((Nat.le_add_left _ _).trans_lt hx)
        · exact total_x l ▸ held_of_natAbs_lt (whole.trans_lt hx)
      _ = total (l ++ [a]) := total_pair l a

end Acc

/-- Settles O33: below the bound each accumulator of the list is its exact value and its state bits, whose total no order changes. -/
theorem accumulatorsMergeInAnyOrder : Obligations.AccumulatorsMergeInAnyOrder := by
  refine ⟨Acc.merge_comm, fun l m perm terms bound => ?_⟩
  have exact : l.map Acc.x = l.map (fun a => a.v) := List.map_congr_left fun a ha => by
    obtain ⟨-, -, unwrapped⟩ := terms a ha
    rw [Acc.x, unwrapped, zero_mul, add_zero]
  have signed : ∀ a ∈ l, a.Signed := fun a ha => let ⟨low, high, _⟩ := terms a ha; ⟨low, high⟩
  have small : (l.map (fun a => a.x.natAbs)).sum < 126 * 2 ^ 480 := by
    have magnitudes := congrArg (List.map Int.natAbs) exact
    rw [List.map_map, List.map_map] at magnitudes
    exact (congrArg List.sum magnitudes).trans_lt bound
  have total := Acc.mergeAll_eq_total signed small
  have total' := Acc.mergeAll_eq_total (l := m) (fun a ha => signed a (perm.mem_iff.mpr ha)) (((perm.map _).sum_eq).symm.trans_lt small)
  exact ⟨by rw [total, total', Acc.total_perm perm], by rw [total, Acc.total_x, exact]⟩
end Sys2Proof.Machine
end

section
/-! PROOF. The obligation on program loads (R262, R263): a load for a harness number that no harness has. -/
namespace Sys2Proof.Machine
open State

/-- A launch on core 0 of an empty image, for harness 0x1E200: HRN_STS of that harness would be CRX_CORE_STS of core 0. -/
def wildLoad : Load := ⟨0, [0], true, 0x1E200, ⟨0, true, 0, 0, 0, 0, 0, 0, 0, 0, [], 0, 0⟩, List.replicate 8 0, none, false⟩
/-- The reset state with core 0 RUNNING and the wild load executing on crux die 0. -/
def wildLoadState : State :=
  (State.reset.wf (CRX_CORE_STS.STATE 0) 2).withComp { CompSt.initial with loads := [wildLoad] }

/-- The wild harness reads as RUNNING before the load, and as BOUND once core 0 is HALTED by it: the launch ends with REJECT. -/
theorem wildLoad_rejected : wildLoadState.mayRun wildLoad.h = true ∧
    (wildLoadState.loadDone 0).rf (CRX_LOAD_CMD.STATUS 0) = stREJECT := by decide +kernel

/-- Refutes O28, for a harness number alone that no harness has: the model's `Load.h` is any number, and that a launch may start is
read from HRN_STS of it when the load completes (R263), which for harness 0x1E200 is the address of CRX_CORE_STS of core 0, and the
load has just written that. A load that the model starts takes its harness from a field of 12 bits. -/
theorem not_programLoads : ¬ Obligations.ProgramLoads := by
  unfold Obligations.ProgramLoads
  intro h
  obtain ⟨-, completes⟩ := h wildLoadState .faultCh 0 0 wildLoad.img .harnessFault 0 rfl
  have completed : exec (.loadComplete 0) wildLoadState = .next (wildLoadState.loadDone 0) := rfl
  obtain ⟨-, -, status, -⟩ := of_runs completed (completes wildLoad rfl rfl rfl rfl (by decide))
  obtain ⟨mayRun, rejected⟩ := wildLoad_rejected
  have ok : (wildLoadState.loadDone 0).rf (CRX_LOAD_CMD.STATUS 0) = 0 := status.trans (by rw [mayRun]; rfl)
  exact absurd (rejected.symm.trans ok) (by decide)

end Sys2Proof.Machine
end

section
/-! PROOF. The obligation on sorting (R301, R302). -/
namespace Sys2Proof.Machine

/-- An element stands before another: by its key in the direction of the sort, and by its position where the keys are equal (R302). -/
def SortBefore (f : Fmt) (desc : Bool) (x y : Nat × Nat) : Prop :=
  (if desc then sortKey f y.1 < sortKey f x.1 else sortKey f x.1 < sortKey f y.1) ∨
    sortKey f x.1 = sortKey f y.1 ∧ x.2 < y.2

/-- The comparison by which `sortRow` inserts: the key of y is strictly behind that of x. -/
def keyBehind (f : Fmt) (desc : Bool) (y x : Nat × Nat) : Bool :=
  if desc then decide (sortKey f y.1 < sortKey f x.1) else decide (sortKey f x.1 < sortKey f y.1)

theorem sortRow_eq_foldl (f : Fmt) (desc : Bool) (codes : List Nat) :
    sortRow f desc codes = (withPos codes).foldl (fun l x => insertBy (keyBehind f desc) x l) [] := rfl

theorem SortBefore.trans {f : Fmt} {desc : Bool} {x y z : Nat × Nat} (hxy : SortBefore f desc x y) (hyz : SortBefore f desc y z) :
    SortBefore f desc x z := by
  unfold SortBefore at *
  cases desc
  · simp only [Bool.false_eq_true, if_false] at *; omega
  · simp only [if_true] at *; omega

theorem keyBehind_iff {f : Fmt} {desc : Bool} {x y : Nat × Nat} : keyBehind f desc y x = true ↔
    if desc then sortKey f y.1 < sortKey f x.1 else sortKey f x.1 < sortKey f y.1 := by
  cases desc
  · exact decide_eq_true_iff
  · exact decide_eq_true_iff

theorem sortBefore_of_keyBehind {f : Fmt} {desc : Bool} {x y : Nat × Nat} (behind : keyBehind f desc y x = true) :
    SortBefore f desc x y := .inl (keyBehind_iff.mp behind)

/-- An element of a lower position whose key is not behind stands before: this is where the sort is stable. -/
theorem sortBefore_of_not_keyBehind {f : Fmt} {desc : Bool} {x y : Nat × Nat} (notBehind : ¬ keyBehind f desc y x = true)
    (lower : y.2 < x.2) : SortBefore f desc y x := by
  rw [keyBehind_iff] at notBehind
  unfold SortBefore
  cases desc
  · simp only [Bool.false_eq_true, if_false] at *; omega
  · simp only [if_true] at *; omega

theorem insertBy_eq_orderedInsert (after : Nat × Nat → Nat × Nat → Bool) (x : Nat × Nat) (l : List (Nat × Nat)) :
    insertBy after x l = l.orderedInsert (fun a b => after b a = true) x := by
  induction l with
  | nil => rfl
  | cons y t ih => rw [insertBy, List.orderedInsert_cons, ih]

theorem insertBy_perm (after : Nat × Nat → Nat × Nat → Bool) (x : Nat × Nat) (l : List (Nat × Nat)) :
    (insertBy after x l).Perm (x :: l) :=
  insertBy_eq_orderedInsert after x l ▸ List.perm_orderedInsert _ x l

/-- The insertion of an element into a sorted list of lower positions keeps the order. -/
theorem insertBy_keyBehind_pairwise {f : Fmt} {desc : Bool} {x : Nat × Nat} {l : List (Nat × Nat)}
    (sorted : l.Pairwise (SortBefore f desc)) (lower : ∀ y ∈ l, y.2 < x.2) :
    (insertBy (keyBehind f desc) x l).Pairwise (SortBefore f desc) := by
  induction l with
  | nil => exact List.pairwise_singleton _ x
  | cons y t ih =>
    obtain ⟨head, tail⟩ := List.pairwise_cons.mp sorted
    obtain ⟨lowerHead, lowerTail⟩ := List.forall_mem_cons.mp lower
    rw [insertBy]
    split
    case isTrue behind =>
      have first := sortBefore_of_keyBehind behind
      exact .cons (List.forall_mem_cons.mpr ⟨first, fun z hz => first.trans (head z hz)⟩) sorted
    case isFalse notBehind =>
      refine .cons (fun z hz => ?_) (ih tail lowerTail)
      obtain rfl | hz := List.mem_cons.mp ((insertBy_perm _ x t).mem_iff.mp hz)
      · exact sortBefore_of_not_keyBehind notBehind lowerHead
      · exact head z hz

/-- Insertions one after another, each of a higher position than all before it, rearrange the elements into the order. -/
theorem foldl_insertBy_keyBehind (f : Fmt) (desc : Bool) {ps : List (Nat × Nat)} (rising : ps.Pairwise (fun x y => x.2 < y.2)) :
    (ps.foldl (fun l x => insertBy (keyBehind f desc) x l) []).Perm ps ∧
    (ps.foldl (fun l x => insertBy (keyBehind f desc) x l) []).Pairwise (SortBefore f desc) := by
  induction ps using List.reverseRecOn with
  | nil => exact ⟨.nil, .nil⟩
  | append_singleton ps x ih =>
    obtain ⟨risingInit, -, last⟩ := List.pairwise_append.mp rising
    obtain ⟨perm, sorted⟩ := ih risingInit
    rw [List.foldl_append, List.foldl_cons, List.foldl_nil]
    constructor
    · exact (insertBy_perm _ x _).trans ((perm.cons x).trans (List.perm_append_singleton x ps).symm)
    · exact insertBy_keyBehind_pairwise sorted fun y hy => last y (perm.mem_iff.mp hy) x (List.mem_singleton_self x)

theorem withPos_positions_rising (codes : List Nat) : (withPos codes).Pairwise (fun x y => x.2 < y.2) :=
  List.pairwise_map.mpr List.pairwise_lt_range

/-- Settles O34: the row is taken in order of position and each element is inserted behind those of equal key (R302). -/
theorem sortsAreStable : Obligations.SortsAreStable := by
  intro f desc codes
  rw [sortRow_eq_foldl]
  exact foldl_insertBy_keyBehind f desc (withPos_positions_rising codes)

end Sys2Proof.Machine
end

section
/-! PROOF. The obligation on tokens (R366, R369, R375): a tracking place of an egress queue for a harness number that no harness has. -/
namespace Sys2Proof.Machine
namespace State
variable {s : State}

/-- A frame takes at most 33 cells (R45, R83). -/
theorem cellsOf_le (f : Frame) : cellsOf f ≤ 33 := by
  have len : f.len < 2 ^ 13 := Nat.mod_lt _ (by decide)
  unfold cellsOf; omega
/-- A queue takes a frame that fits below its limit and keeps its harness within its share (R85, R167). -/
theorem takes_of_share {P : Nat} {f : Frame} {x : Nat × Nat × Nat × Nat} (hd : s.depth P f.cls + cellsOf f ≤ s.qlimit P f.cls)
    (hm : (s.placesOf P f.cls).find? (fun y => y.2.2.1 == f.harness) = some x)
    (hs : (x.2.2.2 + cellsOf f) * ((s.placesOf P f.cls).map (fun y => s.bwWeight y.2.2.1)).sum ≤ s.qlimit P f.cls * s.bwWeight f.harness) :
    s.takes P f true = true := by
  simp [takes, hd, hm, hs]

end State
open State

theorem exec_selectionRecord {s : State} (hu : awake s) (ctx : BitVec 14) :
    exec (.selectionRecord ctx) s = .next (s.selection ctx.toNat) := by
  show unheld s _ = _
  rw [unheld, hu]; rfl

/-- A program context of harness 5 on crux die 0 that awaits the selection record of its one token, from FEID 7. -/
def wildToken : Token := ⟨0, 7, 6, [], none, false, 1, [], [], 0, 0⟩
def wildGate : GateCtx :=
  { ctx := 4, die := 0, desc := [Word.ofN (5 + 2 ^ 12)], broken := false, cause := 0, weights := [], pred := [], hosts := [], masks := [],
    bytes := [], base := 0, ring := 0, tokens := [wildToken], landed := 0, heat := [], recent := [], tally := GateTally.zero }
/-- A record that selects no expert for slot 0. -/
def emptyRecord : SelRec := ⟨4, [0, 0]⟩
/-- FEID 7 behind port 4, whose queue of class C0 holds 900 of 1,000 cells, 467 tracked for harness 5 and 433 for harness 0x1EA40: HRN_CFG of
that harness would be CRX_CNT_GATE_POISON of crux die 0, which has counted 1. -/
def wildShareState : State :=
  { [(HUB_PLANE.A, 1), (HUB_PLANE.B, 1), (HUB_PLANE.C, 1), (PRT_PORT_STS.STATE 4, 4), (PRT_PORT_ID.HARNESS 4, 5), (HRN_CFG.BW_WEIGHT 5, 1),
      (FWD_QLIMIT.CELLS 0 4 0, 1000), (CRX_CNT_GATE_POISON.V 0, 1)].foldl (fun t x => t.wf x.1 x.2) State.reset with
    fwd := { FwdSt.initial with
      feid := [(7, Word.ofN (1 + 4 * 2 ^ 9))]
      queues := [⟨4, 0, FrameSpec.make { harness := 5 }, 900, none, 0, true, false⟩]
      place := [(4, 0, 5, 467), (4, 0, 0x1EA40, 433)] }
    gate := { GateSt.initial with ctxs := [wildGate], recs := [emptyRecord] } }

theorem wildShare_weights : wildShareState.depth 4 0 = 900 ∧ wildShareState.qlimit 4 0 = 1000 ∧
    wildShareState.placesOf 4 0 = [(4, 0, 5, 467), (4, 0, 0x1EA40, 433)] ∧ wildShareState.bwWeight 5 = 1 ∧
    wildShareState.bwWeight 0x1EA40 = 1 := by decide +kernel
/-- The two harnesses share the queue alike, and harness 5 has room in its half for a frame of any length. -/
theorem wildShare_takes (f : Frame) (hc : f.cls = 0) (hh : f.harness = 5) : wildShareState.takes 4 f true = true := by
  obtain ⟨depth, limit, places, mine, other⟩ := wildShare_weights
  have cells := cellsOf_le f
  refine takes_of_share (x := (4, 0, 5, 467)) ?_ ?_ ?_
  · rw [hc, depth, limit]; omega
  · rw [hc, hh, places]; rfl
  · rw [hc, hh, places, limit]
    simp only [List.map_cons, List.map_nil, List.sum_cons, List.sum_nil, mine, other]
    omega
/-- The record stands for the context, whose token awaits it. -/
theorem wildShare_stands : awake wildShareState ∧ wildShareState.gate.recs.find? (fun y => y.ctx == (4 : BitVec 14).toNat) = some emptyRecord ∧
    wildShareState.findGate (4 : BitVec 14).toNat = some wildGate ∧ wildGate.program = true ∧ wildGate.overflow = 0 ∧
    wildGate.prefetch = false ∧ wildShareState.fault.outUnits = [] ∧
    leAt emptyRecord.bytes 0 1 = 0 ∧ leAt emptyRecord.bytes 1 1 = 0 ∧ wildGate.resBytes ≤ 4096 := by
  decide +kernel
theorem wildShare_reaches : wildShareState.reaches 0 5 0 7 4 := by
  refine ⟨⟨Word.ofN (1 + 4 * 2 ^ 9), by decide +kernel⟩, by decide, ?_, ?_, ?_, .inr ?_, ?_, wildShare_takes⟩ <;> decide +kernel

/-- The token is counted as poisoned, so the wild harness weighs 2 where it weighed 1, harness 5 has filled its third, and the RESULT is held
at its ingress. -/
theorem wildShare_holds : (wildShareState.selection (4 : BitVec 14).toNat).fwd.queues.length = 1 ∧
    (wildShareState.selection (4 : BitVec 14).toNat).fwd.holds.length = 1 := by decide +kernel

/-- Refutes O38, by a harness number that no harness has: the model tracks the cells of a queue by harness as any number, and an egress
queue weighs each tracked harness by HRN_CFG (R167), which for harness 0x1EA40 is the address of CRX_CNT_GATE_POISON of crux die 0; a
poisoned token has just been counted there when its RESULT asks for the queue. -/
theorem not_tokensAndTheirAnswers : ¬ Obligations.TokensAndTheirAnswers := by
  unfold Obligations.TokensAndTheirAnswers
  rintro ⟨-, select, -⟩
  obtain ⟨up, record, ctx, program, overflow, prefetch, units, slot, none, bytes⟩ := wildShare_stands
  have answered := (select wildShareState 4 emptyRecord wildGate wildToken up record ctx rfl rfl program rfl slot.symm rfl overflow prefetch
    units).2 4 none bytes (by decide) wildShare_reaches
  obtain ⟨-, -, q, queues, -⟩ := of_runs (exec_selectionRecord up 4) answered
  have length := congrArg List.length queues
  rw [wildShare_holds.1] at length
  exact absurd length (show 1 ≠ 2 by decide)

end Sys2Proof.Machine
end

section
/-! PROOF. Gate contexts: how a command finds and changes its context, and what its checks read (R357, R359 to R361). -/
namespace Sys2Proof.Machine
namespace State
variable {s t u : State}

theorem frame_withGate (v : GateSt) {ch : List Part} {rg : Nat → Prop} (h : Part.gate ∈ ch) : frame s (s.withGate v) ch rg :=
  ⟨fun p hp => by cases p <;> first | rfl | exact absurd h hp, fun _ _ => rfl, rfl⟩
theorem gate_of_frame {ch : List Part} {rg : Nat → Prop} (h : frame s t ch rg) (hp : Part.gate ∉ ch) : t.gate = s.gate := h.1 _ hp

/-! ## The list of contexts -/

/-- The state with one more context. -/
def addGate (s : State) (c : GateCtx) : State := s.withGate { s.gate with ctxs := s.gate.ctxs ++ [c] }
/-- The state without the contexts of a number. -/
def dropGate (s : State) (k : Nat) : State := s.withGate { s.gate with ctxs := s.gate.ctxs.filter (fun c => c.ctx != k) }

theorem findGate_of_ctxs (h : t.gate.ctxs = s.gate.ctxs) (k : Nat) : t.findGate k = s.findGate k := by rw [findGate, findGate, h]
theorem ctx_of_findGate {k : Nat} {c : GateCtx} (h : s.findGate k = some c) : c.ctx = k :=
  beq_iff_eq.mp (List.find?_some (p := fun c : GateCtx => c.ctx == k) h)
theorem findGate_addGate {c : GateCtx} {k : Nat} (h : s.findGate k = none) (hc : c.ctx = k) : (s.addGate c).findGate k = some c := by
  show List.find? _ (s.gate.ctxs ++ [c]) = _
  rw [List.find?_append, show List.find? _ s.gate.ctxs = none from h]
  simp [hc]
theorem dropGate_ctxs (k : Nat) : (s.dropGate k).gate.ctxs = s.gate.ctxs.filter (fun c => c.ctx != k) := rfl
theorem findGate_dropGate (k : Nat) : (s.dropGate k).findGate k = none := by simp [findGate, dropGate, List.find?_eq_none]
theorem findGate_putGate {c c0 : GateCtx} (h : s.findGate c.ctx = some c0) : (s.putGate c).findGate c.ctx = some c := by
  simp only [findGate, putGate, withGate_gate] at h ⊢
  generalize s.gate.ctxs = l at h ⊢
  induction l with
  | nil => simp at h
  | cons x l ih =>
    by_cases hx : x.ctx = c.ctx
    · simp [hx]
    · rw [List.find?_cons_of_neg (by simpa using hx)] at h
      rw [List.map_cons, if_neg hx, List.find?_cons_of_neg (by simpa using hx), ih h]

/-! ## What a command writes of its own (R361) -/

section
variable (n : Nat) {a : Nat}

/-- The command's number in CRX_GATE_CMD. -/
def gateNamed (s : State) (n ctx : Nat) : State := s.wf (CRX_GATE_CMD.CTX n) ctx
/-- The command executes, and will complete with a status. -/
def gateEnding (s : State) (n st : Nat) : State :=
  (s.withGate { s.gate with cmds := insertKey (eraseKey s.gate.cmds n) n st }).wf (CRX_GATE_CMD.BUSY n) 1

theorem frame_gateNamed (ctx : Nat) {ch : List Part} : frame s (s.gateNamed n ctx) ch (fun a => a = CRX_GATE_CMD.a n) := frame_wf _ _ rfl
theorem frame_gateEnding (st : Nat) : frame s (s.gateEnding n st) [.gate] (fun a => a = CRX_GATE_CMD.a n) :=
  frame_trans (frame_withGate _ (by decide)) (frame_wf _ _ rfl)
/-- BUSY is set, the status kept for the command's completion, and no context changed. -/
theorem gateEnding_shows (st : Nat) : (s.gateEnding n st).rb (CRX_GATE_CMD.BUSY n) = true ∧
    lookupKey (s.gateEnding n st).gate.cmds n = some st ∧ (s.gateEnding n st).gate.ctxs = s.gate.ctxs :=
  ⟨rb_wf_self _ _ (show 26 + 1 ≤ 64 by decide), lookupKey_insertKey_self _ _ _ (lookupKey_eraseKey_self _ _), rfl⟩

variable {n}
theorem writeGateCmd_busy (src : Src) (ctx op : Nat) (hb : s.rb (CRX_GATE_CMD.BUSY n) = true) :
    s.writeGateCmd src n ctx op = s.reject src (CRX_GATE_CMD.a n) := by rw [writeGateCmd, if_pos hb]
theorem writeGateCmd_fails {src : Src} {ctx op st : Nat} (hb : s.rb (CRX_GATE_CMD.BUSY n) = false) (hop : op ≠ 0)
    (hr : (s.gateNamed n ctx).gateCmd n ctx op = (st, u)) (hs : st ≠ stOK) : s.writeGateCmd src n ctx op = u.gateEnding n st := by
  unfold gateNamed at hr
  simp only [writeGateCmd, hb, hop, hr, bne_iff_ne, ne_eq, hs, not_false_eq_true, if_true, Bool.false_eq_true, if_false]
  rfl
/-- A command that is accepted leaves a trace record of its own. -/
theorem writeGateCmd_passes {src : Src} {ctx op : Nat} (hb : s.rb (CRX_GATE_CMD.BUSY n) = false) (hop : op ≠ 0)
    (hr : (s.gateNamed n ctx).gateCmd n ctx op = (stOK, u)) : ∃ v, recorded u v ∧ s.writeGateCmd src n ctx op = v.gateEnding n stOK := by
  unfold gateNamed at hr
  refine ⟨u.trace 3 (unitCrux n) (((u.findGate ctx).map (fun c => c.harness)).getD 0)
    (bytesLE 2 ctx ++ bytesLE 1 (if op = 3 then 0 else 1) ++ bytesLE 1 0),
    recorded_trace .., ?_⟩
  simp only [writeGateCmd, hb, hop, hr, bne_self_eq_false, Bool.false_eq_true, if_false]
  rfl

/-- The command of a crux die completes (R361). -/
theorem gateCmdDone_shows {st : Nat} (hst : st < 256) (hl : lookupKey s.gate.cmds n = some st) :
    (s.gateCmdDone n).rf (CRX_GATE_CMD.STATUS n) = st ∧ (s.gateCmdDone n).rb (CRX_GATE_CMD.BUSY n) = false ∧
    (s.gateCmdDone n).gate.ctxs = s.gate.ctxs ∧ lookupKey (s.gateCmdDone n).gate.cmds n = none ∧
    frame s (s.gateCmdDone n) [.gate] (fun a => a = CRX_GATE_CMD.a n) := by
  have done : s.gateCmdDone n =
      ((s.withGate { s.gate with cmds := eraseKey s.gate.cmds n }).wf (CRX_GATE_CMD.STATUS n) st).wf (CRX_GATE_CMD.BUSY n) 0 := by
    rw [gateCmdDone, hl]
  rw [done]
  refine ⟨?_, rb_wf_self _ _ (show 26 + 1 ≤ 64 by decide), by rw [wf_gate, wf_gate, withGate_gate], ?_, ?_⟩
  · rw [rf_wf_apart _ (.inr ⟨show 26 + 1 ≤ 64 by decide, .inl (show 18 + 8 ≤ 26 by decide)⟩)]
    exact rf_wf_fits (show 18 + 8 ≤ 64 by decide) hst
  · rw [wf_gate, wf_gate]
    exact lookupKey_eraseKey_self _ _
  · exact frame_trans (frame_withGate _ (by decide)) (frame_trans (frame_wf _ _ rfl) (frame_wf _ _ rfl))
end

/-! ## What the checks of R361 read -/

/-- From `s` to `t` only CRX_GATE_CMD and CRX_CNT_WITNESS of crux die `n`, witness counts and gate contexts have changed. -/
structure SameChecks (s t : State) (n : Nat) : Prop where
  frame : frame s t [.sticky, .hrn, .gate] (fun a => a = CRX_GATE_CMD.a n ∨ a = CRX_CNT_WITNESS.a n)
  stores : t.gate.stores = s.gate.stores
  scmds : t.gate.scmds = s.gate.scmds

theorem harness_lt (c : GateCtx) : c.harness < 4096 := Nat.mod_lt _ (by decide)

namespace SameChecks
variable {n : Nat}

theorem named (n ctx : Nat) : SameChecks s (s.gateNamed n ctx) n :=
  ⟨frame_mono (frame_gateNamed (ch := []) n ctx) (by simp) (fun _ => .inl), rfl, rfl⟩
theorem trans (h : SameChecks s t n) (k : SameChecks t u n) : SameChecks s u n :=
  ⟨frame_trans h.frame k.frame, k.stores.trans h.stores, k.scmds.trans h.scmds⟩

variable (h : SameChecks s t n)
include h

theorem rf_low {x : Rf} (hx : x.a < 0x1000000) : t.rf x = s.rf x :=
  rf_of_frame h.frame (by simp only [CRX_GATE_CMD.a, CRX_CNT_WITNESS.a, cruxBase]; omega)
theorem rf_crux {x : Rf} (m : Nat) {o : Nat} (hx : x.a = cruxBase m + o) (ho : o < 0x100000) (h1 : o ≠ 0x50000) (h2 : o ≠ 0x20238) :
    t.rf x = s.rf x :=
  rf_of_frame h.frame (by simp only [hx, CRX_GATE_CMD.a, CRX_CNT_WITNESS.a, cruxBase]; omega)

theorem mpStopped : t.mpStopped = s.mpStopped := by
  rw [State.mpStopped, State.mpStopped, h.rf_low (x := HUB_FAULT_STS.MP_STATE) (show HUB_FAULT_STS.a < _ by decide)]
theorem hrnState {k : Nat} (hk : k < 4096) : t.hrnState k = s.hrnState k := by
  rw [State.hrnState, State.hrnState, h.rf_low (x := HRN_STS.STATE k) (by simp only [HRN_STS.STATE, HRN_STS.a]; omega)]
theorem grantable {k : Nat} (hk : k < 4096) : t.grantable k = s.grantable k := by
  rw [State.grantable, State.grantable, h.hrnState hk]
theorem quotaOk {k : Nat} (hk : k < 4096) (m : Nat) : t.quotaOk .ctx k m = s.quotaOk .ctx k m := by
  rw [State.quotaOk, State.quotaOk, h.rf_low (x := QKind.used .ctx k) (by simp only [QKind.used, HRN_Q_CTX.USED, HRN_Q_CTX.a]; omega),
    h.rf_low (x := QKind.limit .ctx k) (by simp only [QKind.limit, HRN_Q_CTX.LIMIT, HRN_Q_CTX.a]; omega)]
theorem sres (k : Nat) : t.rf (CRX_CLU_SRES.BYTES (k / 4) (k % 4)) = s.rf (CRX_CLU_SRES.BYTES (k / 4) (k % 4)) :=
  h.rf_crux (k / 4) (Nat.add_assoc ..) (by omega) (by omega) (by omega)
theorem cluSts {x : Rf} (k : Nat) (hx : x.a = CRX_CLU_STS.a (k / 4) (k % 4)) : t.rf x = s.rf x :=
  h.rf_crux (k / 4) (hx.trans (Nat.add_assoc ..)) (by omega) (by omega) (by omega)
theorem cluOwner (k : Nat) : t.cluOwner k = s.cluOwner k := by
  rw [State.cluOwner, State.cluOwner, rb, rb, h.sres, h.cluSts k (x := CRX_CLU_STS.OWNED (k / 4) (k % 4)) rfl,
    h.cluSts k (x := CRX_CLU_STS.HARNESS (k / 4) (k % 4)) rfl]
theorem boundIn (k : Nat) : t.boundIn k = s.boundIn k := h.cluSts k rfl
theorem maxFoot (k : Nat) : t.maxFoot k = s.maxFoot k := by
  have cst := cst_of_comp (congrArg (·.cores) (comp_of_frame h.frame (by decide)))
  refine congrArg (fun l => l.foldl max 0) (List.map_congr_left fun i _ => ?_)
  rw [boundCore, boundCore, cst]
theorem liveStore (k : Nat) : t.liveStore k = s.liveStore k := by
  have found : t.findStore k = s.findStore k := by rw [findStore, findStore, h.stores]
  rw [State.liveStore, State.liveStore, found, h.scmds,
    h.rf_crux (x := CRX_STORE_DIR.STATE k) k (Nat.add_assoc ..) (by omega) (by omega) (by omega)]
theorem gateFieldsOk (m : Nat) (c : GateCtx) : t.gateFieldsOk m c = s.gateFieldsOk m c := by
  simp only [State.gateFieldsOk, h.liveStore]

theorem pool {x : Rf} (q : Nat) {o : Nat} (hx : x.a = poolBase q + o) (ho : o < 0x40) : t.rf x = s.rf x :=
  rf_of_frame h.frame (by simp only [hx, poolBase, CRX_GATE_CMD.a, CRX_CNT_WITNESS.a, cruxBase]; omega)
theorem hRuns (k fuel o m : Nat) : t.hRuns k fuel o m = s.hRuns k fuel o m := by
  have mem : t.mem = s.mem := h.frame.1 .mem (by decide)
  have state := fun q => h.pool (x := POOL_STS.STATE q) q (o := 0x30) rfl (by decide)
  have owner := fun q => h.pool (x := POOL_CFG.HARNESS q) q (o := 0x8) rfl (by decide)
  have first := fun q => h.pool (x := POOL_HBASE.V q) q (o := 0x20) rfl (by decide)
  have pages := fun q => h.pool (x := POOL_PAGES.V q) q (o := 0x18) rfl (by decide)
  have place := fun q => h.pool (x := POOL_PBASE.V q) q (o := 0x10) rfl (by decide)
  have has : ∀ o, t.poolOf k o = s.poolOf k o := fun o => by
    simp only [poolOf, poolHas, poolHeld, state, owner, first, pages, mem]
  induction fuel generalizing o m with
  | zero => rfl
  | succ fuel ih => simp only [State.hRuns, has, first, pages, ih, poolAddr, place]
theorem hRange (k o m : Nat) : t.hRange k o m = s.hRange k o m := h.hRuns k 65 o m

/-- A descriptor that passes the checks in the one state passes them in the other. -/
theorem gateFits {m : Nat} {c : GateCtx} {old old' : Option GateCtx} (hf : s.gateFits m c old) (hn : old' = none → old = none)
    (ho : ∀ k, gateHas old' k = gateHas old k) : t.gateFits m c old' := by
  have hh := harness_lt c
  obtain ⟨grant, fields, quota, clusters, weights, hosts, pred⟩ := hf
  refine ⟨(h.grantable hh).trans grant, (h.gateFieldsOk m c).trans fields, fun e => (h.quotaOk hh 1).trans (quota (hn e)), fun p hp => ?_, ?_⟩
  · rw [h.cluOwner, h.boundIn, h.sres, h.maxFoot, ho]
    exact clusters p hp
  · rw [h.hRange, h.hRange, h.hRange]
    exact ⟨weights, hosts, pred⟩

end SameChecks

/-! ## A context made (R359, R361) -/

/-- A context of a descriptor before anything is read into it. -/
def blankGate (n ctx : Nat) (d : List Word) : GateCtx :=
  { ctx := ctx, die := n, desc := d, broken := false, cause := 0, weights := [], pred := [], hosts := [], masks := [], bytes := [],
    base := 0, ring := 0, tokens := [], landed := 0, heat := [], recent := [], tally := GateTally.zero }

/-- The state that a context of harness `h` is made in: its unit of the quota taken, or what it replaces given up. -/
def vacated (s : State) (h ctx : Nat) : Option GateCtx → State
  | none => s.quotaTake .ctx h 1
  | some x =>
    let t := s.gateRelease x
    (if x.harness = h then t else (t.quotaGive .ctx x.harness 1).quotaTake .ctx h 1).withGate
      { t.gate with ctxs := t.gate.ctxs.filter (fun y => y.ctx != ctx) }

/-- The registers that making or releasing a context may touch beside its harness's quota. -/
abbrev gateReg (a : Nat) : Prop := witnessReg a ∨ 0x1000000 ≤ a
/-- From `s` to `t` only what reading a context's tables and reserving its S touch has changed. -/
abbrev stocked (s t : State) : Prop := frame s t (.free :: witnessParts) gateReg

theorem stocked_of_noticed (h : noticed s t) : stocked s t := frame_mono h.1 (by decide) (fun _ => .inl)
theorem stocked_setSres (k h b : Nat) : stocked s (s.setSres k h b) := by
  have place {a : Nat} (o : Nat) (ha : a = cruxBase (k / 4) + o) : gateReg a := .inr (by unfold cruxBase at ha; omega)
  have bytes : stocked s (s.wf (CRX_CLU_SRES.BYTES (k / 4) (k % 4)) b) := frame_wf _ _ (place _ (Nat.add_assoc ..))
  simp only [setSres]
  split
  · exact bytes
  · exact frame_trans bytes (frame_wf _ _ (place _ (Nat.add_assoc ..)))
theorem stocked_gateRelease (c : GateCtx) : stocked s (s.gateRelease c) :=
  List.foldlRecOn (motive := stocked s) _ _ (frame_refl ..) (fun _ h _ _ => frame_trans h (stocked_setSres ..))
/-- S reserved on the clusters of a context, its valid bits cleared. -/
theorem stocked_reserve (h : Nat) (l : List (Nat × Nat)) : stocked s (l.foldl (fun t p =>
    let up := t.rf (CRX_CLU_SRES.BYTES (p.1 / 4) (p.1 % 4))
    (t.setSres p.1 h (up + p.2)).withMem (t.mem.clearValid (addrS p.1 (sizeS - up - p.2)) (addrS p.1 (sizeS - up)))) s) :=
  List.foldlRecOn (motive := stocked s) _ _ (frame_refl ..)
    (fun _ h _ _ => frame_trans h (frame_trans (stocked_setSres ..) (frame_withMem _ (by decide))))
theorem stocked_freeW : stocked s s.freeW.2 := by
  refine ⟨fun p hp => ?_, fun _ _ => rfl, rfl⟩
  cases p with
  | free => exact absurd (List.mem_cons_self ..) hp
  | _ => rfl

/-- A descriptor that passes the checks makes a context of what its tables hold, which keeps the landing count and heat of the one it
replaces. -/
theorem gateMake_fits {n ctx : Nat} {d : List Word} {old : Option GateCtx} {c : GateCtx} {wr hr : List (Nat × Nat)}
    (hc : c = blankGate n ctx d) (hf : s.gateFits n c old) (hw : s.hRange c.harness ((c.word 3).field 0 40) c.allWeights = some wr)
    (hh : s.hRange c.harness ((c.word 4).field 0 40) (4 * c.e) = some hr) :
    let v := s.vacated c.harness ctx old
    ∃ u pred bytes base ring, stocked v u ∧ s.gateMake n ctx d old = (stOK, u.addGate { c with
      weights := v.mem.readRuns c.harness wr
      hosts := (List.range c.e).map (fun i => leAt ((v.memRead c.harness wr).2.2.mem.readRuns c.harness hr) (4 * i) 4)
      pred := pred, bytes := bytes, base := base, ring := ring
      landed := (old.map (fun x => x.landed)).getD 0, heat := (old.map (fun x => x.heat)).getD [] }) := by
  obtain ⟨grant, fields, quota, clusters, -, -, pred⟩ := hf
  intro v
  unfold gateMake
  extract_lets c0 h ps own wr' hr' pr s1 slack
  have same : c0 = c := hc.symm
  clear_value c0
  subst same
  have owned : ∀ p < c0.passes, own (c0.cluster p) = true := fun p hp => by
    rcases (clusters p hp).1 with e | e
    · simp only [own, e]
    · simp only [own, e, h, beq_self_eq_true, Bool.true_or]
  have member : ∀ q ∈ ps, ∃ p < c0.passes, q = (c0.cluster p, c0.reserve p) := fun q hq => by
    obtain ⟨p, hp, rfl⟩ := List.mem_map.mp hq
    exact ⟨p, List.mem_range.mp hp, rfl⟩
  have free : ¬ ps.any (fun p => !own p.1 || (!c0.program && s.boundIn p.1 != 0)) = true := fun e => by
    obtain ⟨q, hq, e⟩ := List.any_eq_true.mp e
    obtain ⟨p, hp, rfl⟩ := member q hq
    rcases (clusters p hp).2.1 with unbound | unbound <;> simp [owned p hp, unbound] at e
  have room : ¬ ps.any (fun p => decide (sizeS - s.maxFoot p.1 < s.rf (CRX_CLU_SRES.BYTES (p.1 / 4) (p.1 % 4)) - gateHas old p.1 + p.2)) = true :=
    fun e => by
    obtain ⟨q, hq, e⟩ := List.any_eq_true.mp e
    obtain ⟨p, hp, rfl⟩ := member q hq
    have fits := (clusters p hp).2.2
    have tight := of_decide_eq_true e
    dsimp only at tight
    omega
  have counted : ¬ (old.isNone && !s.quotaOk .ctx h 1) = true := by
    cases old with
    | none => simp [quota rfl, h]
    | some x => simp
  obtain ⟨er, predicted⟩ : ∃ er, pr = some er := by
    by_cases on : c0.predOn = true
    · exact (Option.ne_none_iff_exists'.mp (pred on)).imp fun _ e => by simp only [pr, on, h, e, if_true]
    · exact ⟨[], if_neg on⟩
  rw [if_neg (by rw [grant]; decide), if_neg (by rw [fields]; decide), if_neg counted, if_neg free, if_neg room,
    show wr' = some wr from hw, show hr' = some hr from hh, predicted]
  have read (t : State) (rs : List (Nat × Nat)) : stocked t (t.memRead h rs).2.2 := stocked_of_noticed (noticed_memRead ..)
  exact ⟨_, _, _, _, _, frame_trans (read _ _) (frame_trans (read _ _) (frame_trans (read _ _)
    (frame_trans stocked_freeW (stocked_reserve _ _)))), rfl⟩

/-! ## Its witness record (R360, R400) -/

/-- With no witness ring a record is counted and numbered, and no more (R402). -/
theorem witness_unkept {h : Nat} (hm : s.rf (HRN_WIT_CFG.MODE h) = 0) (kind n c status flags : Nat) (body : List Byte) :
    ∃ x, s.witness h kind n c status flags body = (s.inc (CRX_CNT_WITNESS.V n)).withHrn x := by
  unfold witness
  extract_lets q src s1 m
  rw [if_pos hm]
  exact ⟨_, rfl⟩

section
variable {c : GateCtx} (hm : s.rf (HRN_WIT_CFG.MODE c.harness) = 0)
include hm

theorem gateWitness_unkept : ∃ x, s.gateWitness c = ((s.inc (CRX_CNT_WITNESS.V c.die)).withHrn x).putGate { c with tally := GateTally.zero } := by
  obtain ⟨x, e⟩ := witness_unkept hm 3 c.die (((c.desc.getD 2 0).field 0 8) % 4) stOK c.tally.flags
    (bytesLE 2 c.ctx ++ bytesLE 2 ((c.desc.getD 0 0).field 41 16) ++ bytesLE 4 c.tally.tokens ++ bytesLE 4 c.tally.poisoned ++
      bytesLE 4 c.tally.timeouts ++ bytesLE 4 c.tally.dropped ++ bytesLE 12 0 ++ bytesLE 8 c.tally.resIn ++ bytesLE 8 c.tally.resOut)
  exact ⟨x, congrArg (fun t => t.putGate { c with tally := GateTally.zero }) e⟩
theorem sameChecks_gateWitness : SameChecks s (s.gateWitness c) c.die := by
  obtain ⟨x, e⟩ := gateWitness_unkept hm
  refine e ▸ ⟨frame_trans (frame_inc _ (.inr rfl) (by decide))
    (frame_trans (frame_withHrn x (by decide)) (frame_withGate _ (by decide))), ?_, ?_⟩
  · show (s.inc _).gate.stores = _
    rw [inc_gate]
  · show (s.inc _).gate.scmds = _
    rw [inc_gate]
theorem findGate_gateWitness (hf : s.findGate c.ctx = some c) :
    (s.gateWitness c).findGate c.ctx = some { c with tally := GateTally.zero } := by
  obtain ⟨x, e⟩ := gateWitness_unkept hm
  rw [e]
  exact findGate_putGate (c := { c with tally := GateTally.zero })
    ((findGate_of_ctxs (congrArg (·.ctxs) (inc_gate s (CRX_CNT_WITNESS.V c.die))) c.ctx).trans hf)
end

/-! ## What a command does to its context (R360, R361) -/

/-- The descriptor in the registers of a crux die. -/
def gateDesc (s : State) (n : Nat) : List Word := (List.range 8).map (fun w => s.reg (CRX_GATE_D.a n w))
theorem gateDesc_gateNamed (n ctx : Nat) : (s.gateNamed n ctx).gateDesc n = s.gateDesc n :=
  List.map_congr_left fun w _ => reg_wf_ne _ _ _ _ (by simp only [CRX_GATE_D.a, CRX_GATE_CMD.CTX, CRX_GATE_CMD.a]; omega)

section
variable {n ctx : Nat} {c : GateCtx}

/-- A context that is there cannot be created, one that is not can only be. -/
theorem gateCmd_rejects {op : Nat} (h : op = 1 ∧ (s.findGate ctx).isSome = true ∨ (op = 2 ∨ op = 3) ∧ s.findGate ctx = none) :
    s.gateCmd n ctx op = (stREJECT, s) := by
  rcases h with ⟨rfl, h⟩ | ⟨rfl | rfl, h⟩
  · obtain ⟨c, h⟩ := Option.isSome_iff_exists.mp h
    simp [gateCmd, h]
  · simp [gateCmd, h]
  · simp [gateCmd, h]
theorem gateCmd_create (hs : s.mpStopped = false) (hf : s.findGate ctx = none) :
    s.gateCmd n ctx 1 = s.gateMake n ctx (s.gateDesc n) none := by
  simp [gateCmd, hs, hf, gateDesc]
theorem gateCmd_destroy (hf : s.findGate ctx = some c) (hd : c.die = n) : s.gateCmd n ctx 3 =
    (stOK, (((s.gateWitness c).gateRelease c).quotaGive .ctx c.harness 1).withGate
      { (s.gateWitness c).gate with ctxs := (s.gateWitness c).gate.ctxs.filter (fun x => x.ctx != ctx) }) := by
  simp [gateCmd, hf, hd]
/-- A context with no token is remade from what its witness record leaves of it. -/
theorem gateCmd_reform (hs : s.mpStopped = false) (hf : s.findGate ctx = some c) (hd : c.die = n) (ht : c.tokens = [])
    (he : c.epoch ≠ (blankGate n ctx (s.gateDesc n)).epoch) (hm : s.rf (HRN_WIT_CFG.MODE c.harness) = 0)
    (ho : (s.gateMake n ctx (s.gateDesc n) (some c)).1 = stOK) :
    s.gateCmd n ctx 2 = (s.gateWitness c).gateMake n ctx (s.gateDesc n) (some { c with tally := GateTally.zero }) := by
  obtain rfl : c.ctx = ctx := ctx_of_findGate hf
  have ended : s.gateEnd c stFLUSHED = s.gateWitness c := by rw [gateEnd, ht, List.foldl_nil, hf]
  have found := findGate_gateWitness hm hf
  have epoch : ((s.gateDesc n).getD 0 0).field 41 16 ≠ c.epoch := he.symm
  unfold gateDesc at *
  simp only [gateCmd, hs, hf, hd, ho, ended, found, epoch, Bool.false_and, Bool.false_eq_true, if_false, bne_iff_ne, ne_eq, not_false_eq_true,
    decide_true, Bool.true_and, if_true]
end


/-! ## What is left of the quota and of memory -/

theorem used_quotaGive (k : QKind) {h : Nat} (n : Nat) (h0 : h ≠ 0) (hs : s.hrnState h ≠ 0) :
    (s.quotaGive k h n).rf (k.used h) = s.rf (k.used h) - n := by
  rw [quotaGive, if_neg (by simpa using ⟨h0, hs⟩), rf_setOver k h (apart_over_used k k h),
    rf_wf_fits (k.used_fits h) (Nat.lt_of_le_of_lt (Nat.sub_le ..) (rf_lt _))]
/-- A read of words that all decode leaves memory as it is. -/
theorem mem_memRead {owner : Nat} {rs : List (Nat × Nat)} (hb : rs.flatMap (fun r => s.mem.badWords owner r.1 r.2) = []) :
    (s.memRead owner rs).2.2.mem = s.mem := by
  have still : (s.memRead owner rs).2.2 = s.wakeHbm rs := by rw [memRead, hb]; rfl
  rw [still]
  exact (frame_wakeHbm rs).1 .mem (by decide)
/-- The registers of the harness table lie apart from all that a context's making and releasing touch. -/
theorem rf_stocked (h : stocked s t) {x : Rf} (lo : 0x100000 ≤ x.a) (hi : x.a < 0x180000) : t.rf x = s.rf x :=
  rf_of_frame h (by unfold gateReg witnessReg recordReg; omega)

end State
open State

/-! ## The commands -/

section
variable {s : State} {n : Fin 16} {src : Src} {ctx : Nat}

/-- A command that ends OK: its context as it leaves it, BUSY, and the status it will complete with. -/
theorem gateCmd_runs {i : Instr} {op : Nat} {u : State} (hu : awake s) (ho : s.opens src (CRX_GATE_CMD.a n))
    (he : exec i s = unheld s (s.guardWrite src (CRX_GATE_CMD.a n) (fun t => t.writeGateCmd src n ctx op)))
    (hb : s.rb (CRX_GATE_CMD.BUSY n) = false) (hop : op ≠ 0) (hr : (s.gateNamed n ctx).gateCmd n ctx op = (stOK, u)) :
    runs i s (fun t => t.gate.ctxs = u.gate.ctxs ∧ (t.rb (CRX_GATE_CMD.BUSY n) = true ∧ lookupKey t.gate.cmds n.val = some 0) ∧
      ∀ x : Rf, 0x100000 ≤ x.a → x.a < 0x180000 → t.rf x = u.rf x) := by
  obtain ⟨v, told, wrote⟩ := writeGateCmd_passes (src := src) hb hop hr
  obtain ⟨busy, status, ctxs⟩ := gateEnding_shows (s := v) n stOK
  refine runs_write hu ho he (wrote ▸ ⟨?_, ⟨busy, status⟩, fun x lo hi => ?_⟩)
  · rw [ctxs, gate_of_frame told (by decide)]
  · rw [rf_of_frame (frame_gateEnding n stOK) (by simp only [CRX_GATE_CMD.a, cruxBase]; omega),
      rf_of_frame told (by unfold recordReg; omega)]

/-- A command that the context's state does not permit (R360). -/
theorem gateCmd_runs_rejected {i : Instr} {op : Nat} (hu : awake s) (ho : s.opens src (CRX_GATE_CMD.a n))
    (he : exec i s = unheld s (s.guardWrite src (CRX_GATE_CMD.a n) (fun t => t.writeGateCmd src n ctx op)))
    (hb : s.rb (CRX_GATE_CMD.BUSY n) = false)
    (h : op = 1 ∧ (s.findGate ctx).isSome = true ∨ (op = 2 ∨ op = 3) ∧ s.findGate ctx = none) :
    runs i s (fun t => t.gate.ctxs = s.gate.ctxs ∧ t.rb (CRX_GATE_CMD.BUSY n) = true ∧ lookupKey t.gate.cmds n.val = some stREJECT ∧
      s.frame t [.gate] (fun a => a = CRX_GATE_CMD.a n)) := by
  have rejected := gateCmd_rejects (s := s.gateNamed n ctx) (n := n) h
  have wrote := writeGateCmd_fails (src := src) hb (by omega) rejected (by decide)
  obtain ⟨busy, status, ctxs⟩ := gateEnding_shows (s := s.gateNamed n ctx) n stREJECT
  exact runs_write hu ho he (wrote ▸ ⟨ctxs, busy, status, frame_trans (frame_gateNamed n ctx) (frame_gateEnding n stREJECT)⟩)

variable {c0 : GateCtx} (hc0 : c0 = blankGate n ctx (s.gateDesc n)) (hs : s.mpStopped = false)
include hc0 hs

/-- CREATE of a free number (R361). -/
theorem gateCmd_creates (hf : s.findGate ctx = none) (fits : s.gateFits n c0 none) {wr hr : List (Nat × Nat)}
    (hw : s.hRange c0.harness ((c0.word 3).field 0 40) c0.allWeights = some wr)
    (hh : s.hRange c0.harness ((c0.word 4).field 0 40) (4 * c0.e) = some hr)
    (bw : wr.flatMap (fun r => s.mem.badWords c0.harness r.1 r.2) = []) :
    ∃ u c, (s.gateNamed n ctx).gateCmd n ctx 1 = (stOK, u) ∧ u.findGate ctx = some c ∧
      (c.die = n.val ∧ c.desc = s.gateDesc n ∧ c.broken = false ∧ c.tokens = [] ∧ c.heat = [] ∧ c.weights = s.mem.readRuns c0.harness wr ∧
        c.hosts = (List.range c0.e).map (fun i => leAt (s.mem.readRuns c0.harness hr) (4 * i) 4)) ∧
      (c0.harness ≠ 0 → s.rf (HRN_Q_CTX.USED c0.harness) < 16384 →
        u.rf (HRN_Q_CTX.USED c0.harness) = s.rf (HRN_Q_CTX.USED c0.harness) + 1) := by
  have named := SameChecks.named (s := s) n ctx
  have place := harness_lt c0
  have taken := frame_quotaTake (s := s.gateNamed n ctx) .ctx c0.harness 1
  have mem : ((s.gateNamed n ctx).quotaTake .ctx c0.harness 1).mem = s.mem := taken.1 .mem (by simp)
  obtain ⟨u, pred, bytes, base, ring, stock, made⟩ := gateMake_fits (old := none) hc0 (named.gateFits fits id (fun _ => rfl))
    ((named.hRange ..).trans hw) ((named.hRange ..).trans hh)
  have absent : u.findGate ctx = none :=
    (findGate_of_ctxs (congrArg (·.ctxs) ((gate_of_frame stock (by decide)).trans (gate_of_frame taken (by simp)))) ctx).trans hf
  rw [← gateDesc_gateNamed n ctx, ← gateCmd_create (named.mpStopped.trans hs) hf] at made
  refine ⟨_, _, made, findGate_addGate absent (hc0 ▸ rfl), ?_, fun h0 room => ?_⟩
  · subst hc0
    refine ⟨rfl, rfl, rfl, rfl, rfl, congrArg (fun m : MemSt => m.readRuns (blankGate n ctx (s.gateDesc n)).harness wr) mem, ?_⟩
    have read := mem_memRead (s := (s.gateNamed n ctx).quotaTake .ctx (blankGate n ctx (s.gateDesc n)).harness 1) (mem.symm ▸ bw)
    exact congrArg (fun m : MemSt => (List.range (blankGate n ctx (s.gateDesc n)).e).map (fun i => leAt (m.readRuns _ hr) (4 * i) 4)) (read.trans mem)
  · have before := named.rf_low (x := HRN_Q_CTX.USED c0.harness) (by simp only [HRN_Q_CTX.USED, HRN_Q_CTX.a]; omega)
    rw [← before] at room ⊢
    have counted := used_quotaTake (s := s.gateNamed n ctx) .ctx c0.harness 1 h0 (Nat.lt_of_le_of_lt room (show 16384 < 2 ^ 15 by decide))
    exact (rf_stocked stock (x := HRN_Q_CTX.USED c0.harness) (by simp only [HRN_Q_CTX.USED, HRN_Q_CTX.a]; omega)
      (by simp only [HRN_Q_CTX.USED, HRN_Q_CTX.a]; omega)).trans counted

/-- REFORM by a descriptor of another epoch of a context that holds no token (R360). -/
theorem gateCmd_reforms {c : GateCtx} (hf : s.findGate ctx = some c) (hd : c.die = n.val) (hm : s.rf (HRN_WIT_CFG.MODE c.harness) = 0)
    (ht : c.tokens = []) (he : c.epoch ≠ c0.epoch) (hh : c.harness = c0.harness) (fits : s.gateFits n c0 (some c)) :
    ∃ u c', (s.gateNamed n ctx).gateCmd n ctx 2 = (stOK, u) ∧ u.findGate ctx = some c' ∧ c'.desc = s.gateDesc n ∧ c'.broken = false ∧
      c'.tokens = [] ∧ c'.heat = c.heat ∧ c'.landed = c.landed ∧ c'.tally = GateTally.zero := by
  obtain rfl : c.ctx = ctx := ctx_of_findGate hf
  have named := SameChecks.named (s := s) n c.ctx
  have mode : (s.gateNamed n c.ctx).rf (HRN_WIT_CFG.MODE c.harness) = 0 :=
    (named.rf_low (by have := harness_lt c; simp only [HRN_WIT_CFG.MODE, HRN_WIT_CFG.a]; omega)).trans hm
  have both := named.trans (hd ▸ sameChecks_gateWitness mode)
  obtain ⟨wr, hw⟩ := Option.ne_none_iff_exists'.mp fits.2.2.2.2.1
  obtain ⟨hr, hh'⟩ := Option.ne_none_iff_exists'.mp fits.2.2.2.2.2.1
  obtain ⟨_, _, _, _, _, _, would⟩ := gateMake_fits (old := some c) hc0 (named.gateFits fits id (fun _ => rfl))
    ((named.hRange ..).trans hw) ((named.hRange ..).trans hh')
  obtain ⟨u, pred, bytes, base, ring, stock, made⟩ := gateMake_fits (old := some { c with tally := GateTally.zero }) hc0
    (both.gateFits fits (fun e => by cases e) (fun _ => rfl)) ((both.hRange ..).trans hw) ((both.hRange ..).trans hh')
  have absent : u.findGate c.ctx = none :=
    (findGate_of_ctxs (congrArg (·.ctxs) (gate_of_frame stock (by decide))) c.ctx).trans (findGate_dropGate ..)
  rw [← gateDesc_gateNamed n c.ctx, ← gateCmd_reform (named.mpStopped.trans hs) hf hd ht
    (by rw [gateDesc_gateNamed, ← hc0]; exact he) mode (by rw [gateDesc_gateNamed]; exact congrArg Prod.fst would)] at made
  refine ⟨_, _, made, findGate_addGate absent (hc0 ▸ rfl), ?_⟩
  subst hc0
  exact ⟨rfl, rfl, rfl, rfl, rfl, rfl⟩

omit hc0 hs in
/-- DESTROY (R360). -/
theorem gateCmd_destroys {c : GateCtx} (hf : s.findGate ctx = some c) (hd : c.die = n.val) (hm : s.rf (HRN_WIT_CFG.MODE c.harness) = 0) :
    ∃ u, (s.gateNamed n ctx).gateCmd n ctx 3 = (stOK, u) ∧ u.findGate ctx = none ∧
      (c.harness ≠ 0 → s.hrnState c.harness ≠ 0 → u.rf (HRN_Q_CTX.USED c.harness) = s.rf (HRN_Q_CTX.USED c.harness) - 1) := by
  have place := harness_lt c
  have low {x : Rf} (h : x.a = HRN_Q_CTX.a c.harness ∨ x.a = HRN_STS.a c.harness) : 0x100000 ≤ x.a ∧ x.a < 0x180000 := by
    simp only [HRN_Q_CTX.a, HRN_STS.a] at h; omega
  have named := SameChecks.named (s := s) n ctx
  have mode : (s.gateNamed n ctx).rf (HRN_WIT_CFG.MODE c.harness) = 0 :=
    (named.rf_low (by simp only [HRN_WIT_CFG.MODE, HRN_WIT_CFG.a]; omega)).trans hm
  have both := named.trans (hd ▸ sameChecks_gateWitness mode)
  have freed := stocked_gateRelease (s := (s.gateNamed n ctx).gateWitness c) c
  refine ⟨_, gateCmd_destroy hf hd, ?_, fun h0 live => ?_⟩
  · refine (findGate_of_ctxs (s := ((s.gateNamed n ctx).gateWitness c).dropGate ctx) ?_ ctx).trans (findGate_dropGate ctx)
    rw [withGate_gate, dropGate_ctxs]
  · have used := (rf_stocked freed (x := QKind.used .ctx c.harness) (low (.inl rfl)).1 (low (.inl rfl)).2).trans
      (both.rf_low (x := QKind.used .ctx c.harness) (Nat.lt_trans (low (.inl rfl)).2 (by decide)))
    have state : (((s.gateNamed n ctx).gateWitness c).gateRelease c).hrnState c.harness = s.hrnState c.harness := by
      rw [← both.hrnState place, hrnState, hrnState, rf_stocked freed (x := HRN_STS.STATE c.harness) (low (.inr rfl)).1 (low (.inr rfl)).2]
    have given := used_quotaGive .ctx 1 h0 (state ▸ live)
    rw [used] at given
    exact given

end

/-- Settles O37: the command executes on its context at once and names its status; CREATE and REFORM make the context of what the checks
let through, and the row of completion writes the status. -/
theorem gateContextCommands : Obligations.GateContextCommands := by
  unfold Obligations.GateContextCommands
  rintro s src n ctx d c0 hu hd hc0
  obtain rfl : d = s.gateDesc n := hd
  replace hc0 : c0 = blankGate n ctx.toNat (s.gateDesc n) := hc0
  have within : CRX_GATE_CMD.a n < 2 ^ 26 := by simp only [CRX_GATE_CMD.a, cruxBase]; omega
  have counter (h : Nat) (hh : h < 4096) : 0x100000 ≤ (HRN_Q_CTX.USED h).a ∧ (HRN_Q_CTX.USED h).a < 0x180000 := by
    simp only [HRN_Q_CTX.USED, HRN_Q_CTX.a]; omega
  refine ⟨fun ho => ⟨fun hb => ?busy, fun hb hs => ⟨?create, ?present, ?rejected⟩⟩, fun st hst hl => ?completed⟩
  case busy =>
    have away {i : Instr} {op : Nat}
        (he : exec i s = unheld s (s.guardWrite src (CRX_GATE_CMD.a n) (fun t => t.writeGateCmd src n ctx.toNat op))) :
        turnedAway i s src (CRX_GATE_CMD.a n) 0x0E :=
      turnedAway_write hu ho he (writeGateCmd_busy src ctx.toNat op hb) within
    exact ⟨away (op := 1) rfl, away (op := 2) rfl, away (op := 3) rfl⟩
  case create =>
    intro wr hr hf fits hw hh bw _
    obtain ⟨u, c, made, found, shows, counted⟩ := gateCmd_creates hc0 hs hf fits hw hh bw
    obtain ⟨t, ran, ctxs, ⟨busy, status⟩, regs⟩ := gateCmd_runs (i := .gateCreate src n ctx) hu ho rfl hb (by decide) made
    have place := counter _ (harness_lt c0)
    exact ⟨t, ran, ⟨c, (findGate_of_ctxs ctxs _).trans found, shows⟩, busy, status,
      fun h0 room => (regs (HRN_Q_CTX.USED c0.harness) place.1 place.2).trans (counted h0 room)⟩
  case present =>
    intro c hf hd _ hm
    refine ⟨fun ht he hh _ fits _ => ?_, ?_⟩
    · obtain ⟨u, c', made, found, shows⟩ := gateCmd_reforms hc0 hs hf hd hm ht he hh fits
      obtain ⟨t, ran, ctxs, ended, _⟩ := gateCmd_runs (i := .gateReform src n ctx) hu ho rfl hb (by decide) made
      exact ⟨t, ran, ⟨c', (findGate_of_ctxs ctxs _).trans found, shows⟩, ended⟩
    · obtain ⟨u, done, gone, returned⟩ := gateCmd_destroys hf hd hm
      obtain ⟨t, ran, ctxs, ⟨busy, status⟩, regs⟩ := gateCmd_runs (i := .gateDestroy src n ctx) hu ho rfl hb (by decide) done
      have place := counter _ (harness_lt c)
      exact ⟨t, ran, (findGate_of_ctxs ctxs _).trans gone, busy, status,
        fun h0 live => (regs (HRN_Q_CTX.USED c.harness) place.1 place.2).trans (returned h0 live)⟩
  case rejected =>
    rintro i (⟨rfl, h⟩ | ⟨rfl | rfl, h⟩)
    · exact gateCmd_runs_rejected hu ho rfl hb (op := 1) (.inl ⟨rfl, h⟩)
    · exact gateCmd_runs_rejected hu ho rfl hb (op := 2) (.inr ⟨.inl rfl, h⟩)
    · exact gateCmd_runs_rejected hu ho rfl hb (op := 3) (.inr ⟨.inr rfl, h⟩)
  case completed => exact runs_unheld hu rfl (gateCmdDone_shows hst hl)

end Sys2Proof.Machine
end

section
/-! PROOF. Ring pairs: their registers, what a change of state leaves, and what pausing leaves of the others (R418, R440, R466). -/
namespace Sys2Proof.Machine
namespace State
variable {s t u : State} {i : Nat}

/-! ## The blocks of ring pairs (R440) -/

theorem cfg_ne_cmd (j : Nat) : RING_CFG.a j ≠ RING_CMD.a := by simp only [RING_CFG.a, RING_CMD.a]; omega
theorem sts_ne_cmd (j : Nat) : RING_STS.a j ≠ RING_CMD.a := by simp only [RING_STS.a, RING_CMD.a]; omega
theorem sts2_ne_cmd (j : Nat) : RING_STS2.a j ≠ RING_CMD.a := by simp only [RING_STS2.a, RING_CMD.a]; omega
/-- The registers in which a ring pair that changes its state, and the pools its allocations waited for, show it: the STS of ring pairs, and the
blocks of the crux dies. -/
abbrev pauseReg (a : Nat) : Prop := (∃ j, a = RING_STS.a j) ∨ 0x1000000 ≤ a

theorem pauseReg_ge {a : Nat} (h : pauseReg a) : 0x200000 ≤ a := by
  rcases h with ⟨j, e⟩ | e
  · simp only [RING_STS.a] at e; omega
  · omega
theorem not_pauseReg_low {a : Nat} (h : a < 0x200000) : ¬ pauseReg a := fun e => absurd (pauseReg_ge e) (by omega)
section
variable (hi : i < 8192)
include hi
theorem not_pauseReg_cfg : ¬ pauseReg (RING_CFG.a i) := by
  rintro (⟨j, e⟩ | e)
  · simp only [RING_STS.a, RING_CFG.a] at e; omega
  · simp only [RING_CFG.a] at e; omega
theorem not_pauseReg_sts2 : ¬ pauseReg (RING_STS2.a i) := by
  rintro (⟨j, e⟩ | e)
  · simp only [RING_STS.a, RING_STS2.a] at e; omega
  · simp only [RING_STS2.a] at e; omega
end
theorem not_pauseReg_cmd : ¬ pauseReg RING_CMD.a := by
  rintro (⟨j, e⟩ | e)
  · simp only [RING_STS.a, RING_CMD.a] at e; omega
  · simp only [RING_CMD.a] at e; omega
theorem sts_inj {j : Nat} (h : j ≠ i) : RING_STS.a i ≠ RING_STS.a j := by simp only [RING_STS.a]; omega

/-! ## Waiting allocations end (R466) -/

/-- From `s` to `t` nothing has changed but commands in progress and waiting allocations, and these not where none waits. -/
structure Unwaited (s t : State) (rg : Nat → Prop) : Prop where
  frame : frame s t [.host] rg
  host : t.host = { s.host with runs := t.host.runs, waits := t.host.waits }
  quiet : s.host.waits = [] → t.host.runs = s.host.runs ∧ t.host.waits = []

theorem Unwaited.refl (s : State) (rg : Nat → Prop) : Unwaited s s rg := ⟨frame_refl .., rfl, fun h => ⟨rfl, h⟩⟩
theorem Unwaited.trans {rg : Nat → Prop} (h : Unwaited s t rg) (k : Unwaited t u rg) : Unwaited s u rg :=
  ⟨frame_trans h.frame k.frame, by rw [k.host, h.host], fun hw =>
    ⟨(k.quiet (h.quiet hw).2).1.trans (h.quiet hw).1, (k.quiet (h.quiet hw).2).2⟩⟩
theorem Unwaited.mono {rg rg' : Nat → Prop} (h : Unwaited s t rg) (hr : ∀ a, rg a → rg' a) : Unwaited s t rg' :=
  ⟨frame_mono h.frame (fun _ => id) hr, h.host, h.quiet⟩
theorem Unwaited.wf (x : Rf) (n : Nat) {rg : Nat → Prop} (h : rg x.a) : Unwaited s (s.wf x n) rg :=
  ⟨frame_wf _ _ h, rfl, fun h => ⟨rfl, h⟩⟩

theorem unwaited_endWaits (p : PoolWait → Bool) (st : Nat) : Unwaited s (s.endWaits p st) (0x1000000 ≤ ·) := by
  by_cases hw : s.host.waits = []
  · rw [endWaits_none hw]; exact .refl ..
  · have pool (q : Nat) : 0x1000000 ≤ (POOL_STS.WAITERS q).a := by simp only [POOL_STS.WAITERS, POOL_STS.a, poolBase]; omega
    have ended (L : List PoolWait) (t : State) (h : Unwaited s t (0x1000000 ≤ ·)) :
        Unwaited s (L.foldl (fun t w => t.endRun w.run st 0 [0, t.rf (POOL_STS.FREE w.pool)]) t) (0x1000000 ≤ ·) :=
      List.foldlRecOn (motive := (Unwaited s · (0x1000000 ≤ ·))) _ _ h fun _ h _ _ =>
        ⟨frame_trans h.frame (frame_withHost _ (by decide)), by rw [endRun, withHost_host, h.host], fun e => absurd e hw⟩
    have shown (L : List Nat) (t : State) (h : Unwaited s t (0x1000000 ≤ ·)) : Unwaited s (L.foldl (fun t q => t.setWaiters q) t) (0x1000000 ≤ ·) :=
      List.foldlRecOn (motive := (Unwaited s · (0x1000000 ≤ ·))) _ _ h fun _ h q _ => h.trans (.wf _ _ (pool q))
    exact shown _ _ (ended _ _ ⟨frame_withHost _ (by decide), rfl, fun e => absurd e hw⟩)

/-! ## A ring pair takes a state (R418, R466) -/

theorem unwaited_setRing (j st : Nat) : Unwaited s (s.setRing j st) (fun a => a = RING_STS.a j ∨ 0x1000000 ≤ a) := by
  unfold setRing
  extract_lets s1
  have waits : Unwaited s s1 (fun a => a = RING_STS.a j ∨ 0x1000000 ≤ a) := by
    show Unwaited s (if _ then _ else _) _
    split
    · exact (unwaited_endWaits _ _).mono fun _ => .inr
    · exact .refl ..
  exact waits.trans (.wf _ _ (.inl rfl))
/-- With no allocation waiting a ring pair just takes the state. -/
theorem setRing_quiet (hw : s.host.waits = []) (j st : Nat) : s.setRing j st = s.wf (RING_STS.STATE j) st := by
  simp only [setRing, endWaits_none hw, ite_self]
theorem ringState_setRing (j : Nat) {st : Nat} (h : st < 8) : (s.setRing j st).ringState j = st := rf_wf_fits (show 0 + 3 ≤ 64 by decide) h
/-- STATE is the lowest field of STS: the heads and tails stay. -/
theorem rf_wf_state (j n : Nat) {x : Rf} (hx : 3 ≤ x.lo) : (s.wf (RING_STS.STATE j) n).rf x = s.rf x :=
  rf_wf_apart (x := RING_STS.STATE j) _ (.inr ⟨show 0 + 3 ≤ 64 by decide, .inr hx⟩)
theorem rf_setRing {j st : Nat} (hj : j < 8192) {x : Rf} (ha : x.a = RING_STS.a j) (hx : 3 ≤ x.lo) : (s.setRing j st).rf x = s.rf x := by
  unfold setRing
  extract_lets s1
  have waits : s1.rf x = s.rf x := by
    show (if _ then _ else _ : State).rf x = _
    split
    · exact rf_of_frame (unwaited_endWaits _ _).frame (by rw [ha]; simp only [RING_STS.a]; omega)
    · rfl
  exact (rf_wf_state j st hx).trans waits

/-! ## Pausing (R418) -/

theorem ringH_lt (i : Nat) : s.ringH i < 4096 := rf_lt (RING_CFG.HARNESS i)
theorem pauseCause_congr (hc : t.reg (RING_CFG.a i) = s.reg (RING_CFG.a i)) (hn : t.reg HUB_HOST_CTL.a = s.reg HUB_HOST_CTL.a)
    (hh : t.rf (HRN_STS.STATE (s.ringH i)) = s.rf (HRN_STS.STATE (s.ringH i))) : t.pauseCause i = s.pauseCause i := by
  have harness : t.ringH i = s.ringH i := rf_of_reg (x := RING_CFG.HARNESS i) rfl hc
  rw [pauseCause, pauseCause, harness, hrnState, hrnState, hh, rb_of_reg (x := HUB_HOST_CTL.NONE) rfl hn, rf_of_reg (x := RING_CFG.SQ_LOC i) rfl hc,
    rf_of_reg (x := RING_CFG.CQ_LOC i) rfl hc]

theorem pauseCause_of_frame {ch : List Part} {rg : Nat → Prop} (h : frame s t ch rg) (hc : ¬ rg (RING_CFG.a i)) (hr : ∀ a, rg a → 0x200000 ≤ a) :
    t.pauseCause i = s.pauseCause i := by
  have low (a : Nat) (ha : a < 0x200000) : ¬ rg a := fun e => absurd (hr a e) (by omega)
  have harness := ringH_lt (s := s) i
  exact pauseCause_congr (h.2.1 _ hc) (h.2.1 _ (low _ (by decide))) (rf_of_frame h (low _ (by simp only [HRN_STS.STATE, HRN_STS.a]; omega)))

section
variable (hi : i < 8192)
include hi

/-- An ACTIVE ring pair without a cause stays as it is while the others pause or go on. -/
theorem ringPauses_leaves (hs : s.ringState i = 1) (hc : s.pauseCause i = false) :
    Unwaited s s.ringPauses pauseReg ∧ s.ringPauses.reg (RING_STS.a i) = s.reg (RING_STS.a i) := by
  refine List.foldlRecOn (motive := fun t => Unwaited s t pauseReg ∧ t.reg (RING_STS.a i) = s.reg (RING_STS.a i)) _ _ ⟨.refl .., rfl⟩ ?_
  rintro t ⟨h, kept⟩ j -
  have active : t.ringState i = 1 := (rf_of_reg rfl kept).trans hs
  have free : t.pauseCause i = false := (pauseCause_of_frame h.frame (not_pauseReg_cfg hi) fun _ => pauseReg_ge).trans hc
  have set (st : Nat) (hj : j ≠ i) : Unwaited s (t.setRing j st) pauseReg ∧ (t.setRing j st).reg (RING_STS.a i) = s.reg (RING_STS.a i) := by
    have ring := unwaited_setRing (s := t) j st
    refine ⟨h.trans (ring.mono fun a ha => ha.imp (fun e => ⟨j, e⟩) id), (ring.frame.2.1 _ ?_).trans kept⟩
    have := sts_inj hj
    simp only [RING_STS.a] at this ⊢
    omega
  split
  · next e => exact set 3 (by rintro rfl; simp [free] at e)
  · split
    · next e => exact set 1 (by rintro rfl; simp [active] at e)
    · exact ⟨h, kept⟩
end

/-! ## Nothing to start (R421) -/

/-- What a ring pair has waiting at its head is read from its CFG and STS. -/
theorem sqWait_congr (hc : t.reg (RING_CFG.a i) = s.reg (RING_CFG.a i)) (hh : t.sqHead i = s.sqHead i) (ht : t.sqTail i = s.sqTail i) :
    t.sqWait i = s.sqWait i := by
  rw [sqWait, sqWait, sqSize, sqSize, hh, ht, rf_of_reg (x := RING_CFG.SQ_LOG2 i) rfl hc]

theorem peek_empty (h : s.sqWait i = 0) : s.peek i = .none := by simp [peek, h]
/-- A ring pair with nothing waiting at its head, or that is not ACTIVE, starts nothing. -/
theorem advance_idle (h : s.ringState i = 1 → s.sqWait i = 0) : s.advance i = s := by
  by_cases hs : s.ringState i = 1
  · simp [advance, ringAdvance, hs, peek_empty (h hs)]
  · simp [advance, ringAdvance, hs]

end State
end Sys2Proof.Machine
end

section
/-! PROOF. RING_CMD: what its checks read, and what ENABLE leaves (R420, R441). -/
namespace Sys2Proof.Machine
namespace State
variable {s t u : State} {i : Nat}

/-! ## The command names its ring pair and ends (R441) -/

/-- RING_CMD shows the ring pair the command names. -/
def ringNamed (s : State) (i : Nat) : State := s.wf RING_CMD.RING i
theorem frame_ringNamed (i : Nat) : frame s (s.ringNamed i) [] (fun a => a = RING_CMD.a) := frame_wf _ _ rfl
theorem rf_ringNamed {x : Rf} (h : x.a ≠ RING_CMD.a) : (s.ringNamed i).rf x = s.rf x := rf_wf_reg _ _ _ _ h
theorem frame_ringCmdDone (st : Nat) : frame s (s.ringCmdDone st) [] (fun a => a = RING_CMD.a) := frame_trans (frame_wf _ _ rfl) (frame_wf _ _ rfl)
theorem ringCmdDone_shows {st : Nat} (h : st < 256) : (s.ringCmdDone st).rf RING_CMD.STATUS = st ∧ (s.ringCmdDone st).rb RING_CMD.BUSY = false := by
  refine ⟨?_, rb_wf_self _ _ (by decide)⟩
  rw [ringCmdDone, rf_wf_apart _ (by decide)]
  exact rf_wf_fits (by decide) h

section
variable (src : Src)
theorem writeRingCmd_busy (op : Nat) (h : s.rb RING_CMD.BUSY = true) : s.writeRingCmd src i op = s.reject src RING_CMD.a := by
  rw [writeRingCmd, if_pos h]
variable (h : s.rb RING_CMD.BUSY = false)
include h
theorem writeRingCmd_enable : s.writeRingCmd src i 1 = (s.ringNamed i).ringEnable i := by simp [writeRingCmd, h, ringNamed]
theorem writeRingCmd_flush : s.writeRingCmd src i 2 = (s.ringNamed i).ringFlush i false := by simp [writeRingCmd, h, ringNamed]
theorem writeRingCmd_disable : s.writeRingCmd src i 3 = (s.ringNamed i).ringFlush i true := by simp [writeRingCmd, h, ringNamed]
end

/-! ## What the checks of ENABLE read (R420) -/

theorem hRange_congr (hd : t.mem.dying = s.mem.dying)
    (hp : ∀ q, t.reg (POOL_STS.a q) = s.reg (POOL_STS.a q) ∧ t.reg (POOL_CFG.a q) = s.reg (POOL_CFG.a q) ∧
      t.reg (POOL_HBASE.a q) = s.reg (POOL_HBASE.a q) ∧ t.reg (POOL_PAGES.a q) = s.reg (POOL_PAGES.a q) ∧
      t.reg (POOL_PBASE.a q) = s.reg (POOL_PBASE.a q)) (h o n : Nat) : t.hRange h o n = s.hRange h o n := by
  have base (q : Nat) : t.rf (POOL_HBASE.V q) = s.rf (POOL_HBASE.V q) := rf_of_reg rfl (hp q).2.2.1
  have pages (q : Nat) : t.rf (POOL_PAGES.V q) = s.rf (POOL_PAGES.V q) := rf_of_reg rfl (hp q).2.2.2.1
  have held (o : Nat) : t.poolOf h o = s.poolOf h o := by
    refine congrArg (fun p => (List.range 64).find? p) (funext fun q => ?_)
    rw [poolHas, poolHas, poolHeld, poolHeld, hd, base, pages, rf_of_reg (x := POOL_STS.STATE q) rfl (hp q).1,
      rf_of_reg (x := POOL_CFG.HARNESS q) rfl (hp q).2.1]
  have addr (q o : Nat) : t.poolAddr q o = s.poolAddr q o := by
    rw [poolAddr, poolAddr, base, rf_of_reg (x := POOL_PBASE.V q) rfl (hp q).2.2.2.2]
  unfold hRange
  generalize 65 = fuel
  induction fuel generalizing o n with
  | zero => rfl
  | succ fuel ih => simp only [hRuns, held, addr, base, pages, ih]
/-- The registers of the pools lie in the blocks of the crux dies. -/
theorem hRange_of_frame {ch : List Part} {rg : Nat → Prop} (hf : frame s t ch rg) (hm : t.mem.dying = s.mem.dying) (hr : ∀ a, rg a → a < 0x1000000)
    (h o n : Nat) : t.hRange h o n = s.hRange h o n := by
  refine hRange_congr hm (fun q => ?_) h o n
  have far (a : Nat) (ha : 0x1000000 ≤ a) : t.reg a = s.reg a := hf.2.1 _ (fun e => by have := hr _ e; omega)
  refine ⟨far _ ?_, far _ ?_, far _ ?_, far _ ?_, far _ ?_⟩ <;>
    simp only [POOL_STS.a, POOL_CFG.a, POOL_HBASE.a, POOL_PAGES.a, POOL_PBASE.a, poolBase] <;> omega

theorem enableStatus_ringNamed (hi : i < 8192) : (s.ringNamed i).enableStatus i = s.enableStatus i := by
  have harness := ringH_lt (s := s) i
  have vf : s.rf (RING_CFG.VF i) < 256 := rf_lt (RING_CFG.VF i)
  have low {x : Rf} (hx : x.a < 0x200000) : (s.ringNamed i).rf x = s.rf x := rf_ringNamed (by simp only [RING_CMD.a]; omega)
  have cfg (x : Rf) (j : Nat) (hx : x.a = RING_CFG.a j) : (s.ringNamed i).rf x = s.rf x := rf_ringNamed (hx ▸ cfg_ne_cmd j)
  have tenant (x : Rf) (hx : x.a = HRN_STS.a (s.ringH i) ∨ x.a = HRN_Q_RINGS.a (s.ringH i)) : (s.ringNamed i).rf x = s.rf x :=
    low (by simp only [HRN_STS.a, HRN_Q_RINGS.a] at hx; omega)
  have bound (x : Rf) (hx : x.a = HUB_VF_BIND.a (s.rf (RING_CFG.VF i))) : (s.ringNamed i).rf x = s.rf x :=
    low (by simp only [HUB_VF_BIND.a] at hx; omega)
  have h : (s.ringNamed i).ringH i = s.ringH i := cfg (RING_CFG.HARNESS i) i rfl
  have state : (s.ringNamed i).ringState i = s.ringState i := rf_ringNamed (x := RING_STS.STATE i) (sts_ne_cmd i)
  have based (loc lg : Nat) {b : Rf} (hb : b.a = RING_SQ_BASE.a i ∨ b.a = RING_CQ_BASE.a i) :
      (s.ringNamed i).alignedBase i loc b lg = s.alignedBase i loc b lg := by
    have base : (s.ringNamed i).rf b = s.rf b := rf_ringNamed (by simp only [RING_SQ_BASE.a, RING_CQ_BASE.a, RING_CMD.a] at hb ⊢; omega)
    have range := hRange_of_frame (frame_ringNamed (s := s) i) rfl (fun a e => by rw [e]; decide)
    simp only [alignedBase, h, base, range, rb, low (x := HUB_HOST_CTL.NONE) (by decide)]
  have granted : (s.ringNamed i).grantable (s.ringH i) = s.grantable (s.ringH i) := by
    rw [grantable, grantable, hrnState, hrnState, tenant (HRN_STS.STATE _) (.inl rfl)]
  have quota : (s.ringNamed i).quotaOk .rings (s.ringH i) 1 = s.quotaOk .rings (s.ringH i) 1 := by
    rw [quotaOk, quotaOk, tenant (QKind.used .rings _) (.inr rfl), tenant (QKind.limit .rings _) (.inr rfl)]
  simp only [enableStatus, h, state, granted, quota, based _ _ (b := RING_SQ_BASE.V i) (.inl rfl), based _ _ (b := RING_CQ_BASE.V i) (.inr rfl),
    cfg (RING_CFG.VF _) _ rfl, cfg (RING_CFG.VSLOT _) _ rfl, cfg (RING_CFG.SQ_LOG2 i) i rfl, cfg (RING_CFG.CQ_LOG2 i) i rfl,
    cfg (RING_CFG.SQ_LOC i) i rfl, cfg (RING_CFG.CQ_LOC i) i rfl, low (x := HUB_CAMP_STS.STATE) (by decide), rb,
    bound (HUB_VF_BIND.VALID _) rfl, bound (HUB_VF_BIND.HARNESS _) rfl, show (s.ringNamed i).host = s.host from rfl]
  rfl

/-- A ring pair that passes the checks is OFF and has no cause to pause. -/
theorem pauseCause_of_enableStatus (h : s.enableStatus i = 0) : s.pauseCause i = false := by
  have fits : s.rf (RING_CFG.SQ_LOC i) < 2 := rf_lt (RING_CFG.SQ_LOC i)
  unfold enableStatus at h
  extract_lets harness v lq lc at h
  split at h
  · cases h
  split at h
  · cases h
  next granted =>
  split at h
  · cases h
  next based =>
  simp only [Bool.or_eq_true, Bool.not_eq_true', not_or, Bool.not_eq_false, bne_iff_ne, ne_eq, not_not] at granted based
  have quarantined : s.hrnState (s.ringH i) ≠ 4 := fun e => by simp [grantable, harness, e] at granted
  have port (loc : Nat) (b : Rf) (lg : Nat) (ha : s.alignedBase i loc b lg = true) : (s.rb HUB_HOST_CTL.NONE && loc == 0) = false := by
    rcases loc with - | loc
    · simp only [alignedBase, Bool.and_eq_true] at ha
      simpa using ha.2
    · simp
  have sq := port _ _ _ based.1.2
  have cq := port _ _ _ based.2
  simp [pauseCause, quarantined, Bool.and_or_distrib_left, sq, cq]

/-! ## ENABLE (R420) -/

theorem ringEnable_fails {st : Nat} (h : s.enableStatus i = st) (hs : st ≠ 0) : s.ringEnable i = s.ringCmdDone st := by
  subst h
  exact if_pos (bne_iff_ne.mpr hs)

/-- The STS registers of a ring pair as ENABLE leaves them, but for STATE. -/
def ringZeroed (s : State) (i : Nat) : State := ((s.setReg (RING_STS.a i) 0).setReg (RING_STS2.a i) 0).wf (RING_STS2.CQ_PHASE i) 1
/-- The ring pair is among those that are not OFF, and ACTIVE. -/
def ringOpened (s : State) (i : Nat) : State := (s.withHost { s.host with opened := insertNat s.host.opened i }).wf (RING_STS.STATE i) 1
/-- A ring pair as ENABLE starts it, before the others pause or go on. -/
def ringFresh (s : State) (i : Nat) : State := (((s.ringClear i).quotaTake .rings (s.ringH i) 1).ringZeroed i).ringOpened i
theorem ringEnable_passes (h : s.enableStatus i = 0) : s.ringEnable i = (s.ringFresh i).ringPauses.ringCmdDone stOK := by
  simp only [ringEnable, h]
  rfl

theorem frame_ringClear (i : Nat) : frame s (s.ringClear i) [.comp, .host] (fun a => a = RING_STS2.a i) :=
  frame_trans (frame_withComp _ (by decide)) (frame_trans (frame_withHost _ (by decide)) (frame_wf _ _ rfl))
/-- Clearing a ring pair leaves its harness as it is. -/
theorem ringH_ringClear (i : Nat) : (s.ringClear i).ringH i = s.ringH i :=
  rf_of_frame (frame_ringClear i) (show RING_CFG.a i ≠ RING_STS2.a i by simp only [RING_CFG.a, RING_STS2.a]; omega)
theorem host_ringClear (i : Nat) : (s.ringClear i).host.opened = s.host.opened ∧ (s.ringClear i).host.used = eraseKey s.host.used i ∧
    (s.ringClear i).host.waits = s.host.waits := by
  rw [ringClear, setInFlight, wf_host, withHost_host]
  exact ⟨rfl, rfl, rfl⟩
/-- The registers of a ring pair and of its harness that ENABLE and DISABLE write beside RING_CMD. -/
abbrev enableReg (i h a : Nat) : Prop := a = RING_STS.a i ∨ a = RING_STS2.a i ∨ quotaReg .rings h a
theorem not_enableReg_low {h a : Nat} (ha : a < 0x100000) : ¬ enableReg i h a := by
  simp only [enableReg, quotaReg, QKind.limit, HRN_Q_RINGS.LIMIT, HRN_Q_RINGS.a, HRN_STS.a, RING_STS.a, RING_STS2.a]; omega
theorem not_enableReg_cfg {h : Nat} : ¬ enableReg i h (RING_CFG.a i) := by
  simp only [enableReg, quotaReg, QKind.limit, HRN_Q_RINGS.LIMIT, HRN_Q_RINGS.a, HRN_STS.a, RING_STS.a, RING_STS2.a, RING_CFG.a]; omega

theorem rf_quotaTake_low (k : QKind) (h n : Nat) {x : Rf} (hx : x.a = HRN_STS.a h) (hl : x.lo + x.w ≤ 6) : (s.quotaTake k h n).rf x = s.rf x := by
  unfold quotaTake
  split
  · rfl
  · rw [rf_setOver k h (apart_over_low k h hl), rf_wf_apart _ (apart_used_status k h hx)]

theorem frame_ringZeroed (i : Nat) : frame s (s.ringZeroed i) [] (fun a => a = RING_STS.a i ∨ a = RING_STS2.a i) :=
  frame_trans (frame_setReg _ _ (.inl rfl)) (frame_trans (frame_setReg _ _ (.inr rfl)) (frame_wf _ _ (.inr rfl)))
theorem sts_ne_sts2 (i : Nat) : RING_STS.a i ≠ RING_STS2.a i := by simp only [RING_STS.a, RING_STS2.a]; omega
/-- Both heads and tails are 0, and PHASE is 1. -/
theorem ringZeroed_shows (i : Nat) : (s.ringZeroed i).reg (RING_STS.a i) = 0 ∧ (s.ringZeroed i).rf (RING_STS2.CQ_HEAD i) = 0 ∧
    (s.ringZeroed i).rf (RING_STS2.CQ_PHASE i) = 1 := by
  refine ⟨?_, ?_, rf_wf_fits (show 16 + 1 ≤ 64 by decide) (show 1 < 2 ^ 1 by decide)⟩
  · rw [ringZeroed, reg_wf_ne _ _ _ _ (sts_ne_sts2 i), reg_setReg_ne _ _ _ _ (sts_ne_sts2 i), reg_setReg_self]
  · rw [ringZeroed, rf_wf_apart _ (.inr ⟨show 16 + 1 ≤ 64 by decide, .inl (show 0 + 16 ≤ 16 by decide)⟩)]
    exact rf_zero_reg (reg_setReg_self ..)
theorem frame_ringOpened (i : Nat) : frame s (s.ringOpened i) [.host] (fun a => a = RING_STS.a i) :=
  frame_trans (frame_withHost _ (by decide)) (frame_wf _ _ rfl)

theorem frame_ringFresh (i : Nat) : frame s (s.ringFresh i) [.comp, .host] (enableReg i (s.ringH i)) :=
  frame_trans (frame_mono (frame_ringClear i) (fun _ => id) fun _ e => .inr (.inl e)) <|
  frame_trans (frame_mono (frame_quotaTake .rings (s.ringH i) 1) (by simp) fun _ e => .inr (.inr e)) <|
  frame_trans (frame_mono (frame_ringZeroed i) (by simp) fun _ e => e.imp id .inl) <|
  frame_mono (frame_ringOpened i) (by simp) fun _ e => .inl e
theorem host_ringFresh (i : Nat) : (s.ringFresh i).host.opened = insertNat s.host.opened i ∧ (s.ringFresh i).host.used = eraseKey s.host.used i := by
  have host : (((s.ringClear i).quotaTake .rings (s.ringH i) 1).ringZeroed i).host = (s.ringClear i).host :=
    ((frame_ringZeroed i).1 .host (by simp)).trans ((frame_quotaTake .rings (s.ringH i) 1).1 .host (by simp))
  obtain ⟨opened, used, -⟩ := host_ringClear (s := s) i
  constructor <;> rw [ringFresh, ringOpened, wf_host, withHost_host, host]
  · rw [opened]
  · rw [used]
theorem ringOpened_shows (i : Nat) : (s.ringOpened i).ringState i = 1 ∧
    (∀ x : Rf, x.a = RING_STS.a i → 3 ≤ x.lo → (s.ringOpened i).rf x = s.rf x) ∧
    ∀ x : Rf, x.a = RING_STS2.a i → (s.ringOpened i).rf x = s.rf x := by
  refine ⟨?_, fun x hx hl => ?_, fun x hx => rf_of_frame (frame_ringOpened i) (by rw [hx]; exact (sts_ne_sts2 i).symm)⟩
  · rw [ringOpened, ringState, rf_wf_fits (show 0 + 3 ≤ 64 by decide) (show 1 < 2 ^ 3 by decide)]
  · rw [ringOpened, rf_wf_state i 1 hl]
    rfl
theorem ringFresh_shows (i : Nat) :
    (s.ringFresh i).ringState i = 1 ∧ (∀ x : Rf, x.a = RING_STS.a i → 3 ≤ x.lo → (s.ringFresh i).rf x = 0) ∧
    (s.ringFresh i).rf (RING_STS2.CQ_HEAD i) = 0 ∧ (s.ringFresh i).rf (RING_STS2.CQ_PHASE i) = 1 := by
  unfold ringFresh
  generalize (s.ringClear i).quotaTake .rings (s.ringH i) 1 = z
  obtain ⟨sts, head, phase⟩ := ringZeroed_shows (s := z) i
  obtain ⟨state, rest, sts2⟩ := ringOpened_shows (s := z.ringZeroed i) i
  exact ⟨state, fun x hx hl => (rest x hx hl).trans (rf_zero_reg (hx ▸ sts)), (sts2 _ rfl).trans head, (sts2 _ rfl).trans phase⟩
/-- What else ENABLE writes lies apart from the harness table. -/
theorem rf_ringFresh_harness {x : Rf} (hx : x.a < 0x200000) : (s.ringFresh i).rf x = ((s.ringClear i).quotaTake .rings (s.ringH i) 1).rf x := by
  unfold ringFresh
  generalize (s.ringClear i).quotaTake .rings (s.ringH i) 1 = z
  have apart : x.a ≠ RING_STS.a i ∧ x.a ≠ RING_STS2.a i := by simp only [RING_STS.a, RING_STS2.a]; omega
  exact (rf_of_frame (frame_ringOpened i) apart.1).trans (rf_of_frame (frame_ringZeroed i) (not_or.mpr apart))
theorem rf_ringClear_low {x : Rf} (ha : x.a < 0x200000) : (s.ringClear i).rf x = s.rf x :=
  rf_of_frame (frame_ringClear i) (by simp only [RING_STS2.a]; omega)
theorem used_ringFresh (h0 : s.ringH i ≠ 0) (hu : s.rf (HRN_Q_RINGS.USED (s.ringH i)) < 8192) :
    (s.ringFresh i).rf (HRN_Q_RINGS.USED (s.ringH i)) = s.rf (HRN_Q_RINGS.USED (s.ringH i)) + 1 := by
  have low := ringH_lt (s := s) i
  have place : (HRN_Q_RINGS.USED (s.ringH i)).a < 0x200000 := by simp only [HRN_Q_RINGS.USED, HRN_Q_RINGS.a]; omega
  have held : (s.ringClear i).rf (QKind.used .rings (s.ringH i)) = s.rf (HRN_Q_RINGS.USED (s.ringH i)) := rf_ringClear_low place
  refine (rf_ringFresh_harness place).trans ((used_quotaTake .rings _ _ h0 ?_).trans (congrArg (· + 1) held))
  rw [held]
  exact Nat.lt_of_lt_of_le (Nat.add_lt_add_right hu 1) (show 8192 + 1 ≤ 2 ^ 14 by decide)
theorem pauseCause_ringFresh (i : Nat) : (s.ringFresh i).pauseCause i = s.pauseCause i := by
  have low := ringH_lt (s := s) i
  have place : (HRN_STS.STATE (s.ringH i)).a < 0x200000 := by simp only [HRN_STS.STATE, HRN_STS.a]; omega
  refine pauseCause_congr ((frame_ringFresh i).2.1 _ not_enableReg_cfg) ((frame_ringFresh i).2.1 _ (not_enableReg_low (by decide))) ?_
  exact (rf_ringFresh_harness place).trans ((rf_quotaTake_low .rings _ _ rfl (show 0 + 3 ≤ 6 by decide)).trans (rf_ringClear_low place))

/-- ENABLE that passes the checks (R420). -/
theorem ringEnable_starts (hi : i < 8192) (h : s.enableStatus i = 0) :
    (s.ringEnable i).ringState i = 1 ∧ (s.ringEnable i).sqHead i = 0 ∧ (s.ringEnable i).sqTail i = 0 ∧
    (s.ringEnable i).rf (RING_STS.CQ_TAIL i) = 0 ∧ (s.ringEnable i).rf (RING_STS2.CQ_HEAD i) = 0 ∧
    (s.ringEnable i).rf (RING_STS2.CQ_PHASE i) = 1 ∧ (s.ringEnable i).cqUsed i = 0 ∧ i ∈ (s.ringEnable i).host.opened ∧
    (s.ringEnable i).rf RING_CMD.STATUS = 0 ∧
    (s.ringH i ≠ 0 → s.rf (HRN_Q_RINGS.USED (s.ringH i)) < 8192 →
      (s.ringEnable i).rf (HRN_Q_RINGS.USED (s.ringH i)) = s.rf (HRN_Q_RINGS.USED (s.ringH i)) + 1) := by
  obtain ⟨state, zero, head, phase⟩ := ringFresh_shows (s := s) i
  obtain ⟨opened, used⟩ := host_ringFresh (s := s) i
  obtain ⟨paused, sts⟩ := ringPauses_leaves hi state ((pauseCause_ringFresh i).trans (pauseCause_of_enableStatus h))
  have quota := used_ringFresh (s := s) (i := i)
  have harness := ringH_lt (s := s) i
  rw [ringEnable_passes h]
  generalize s.ringFresh i = u at *
  have host : (u.ringPauses.ringCmdDone stOK).host = { u.host with runs := u.ringPauses.host.runs, waits := u.ringPauses.host.waits } :=
    ((frame_ringCmdDone _).1 .host (by simp)).trans paused.host
  have read {x : Rf} (hx : x.a ≠ RING_CMD.a) : (u.ringPauses.ringCmdDone stOK).rf x = u.ringPauses.rf x := rf_of_frame (frame_ringCmdDone _) hx
  have shown (x : Rf) (hx : x.a = RING_STS.a i) : (u.ringPauses.ringCmdDone stOK).rf x = u.rf x :=
    (read (hx ▸ sts_ne_cmd i)).trans (rf_of_reg hx sts)
  have shown2 (x : Rf) (hx : x.a = RING_STS2.a i) : (u.ringPauses.ringCmdDone stOK).rf x = u.rf x :=
    (read (hx ▸ sts2_ne_cmd i)).trans (rf_of_frame paused.frame (hx ▸ not_pauseReg_sts2 hi))
  have entries : (u.ringPauses.ringCmdDone stOK).cqUsed i = 0 := by
    rw [cqUsed, host]
    exact congrArg (·.getD 0) ((congrArg (lookupKey · i) used).trans (lookupKey_eraseKey_self _ _))
  have listed : i ∈ (u.ringPauses.ringCmdDone stOK).host.opened := by
    rw [host]
    exact opened ▸ (mem_insertNat _ _ _).mpr (.inl rfl)
  refine ⟨(shown (RING_STS.STATE i) rfl).trans state, (shown (RING_STS.SQ_HEAD i) rfl).trans (zero _ rfl (Nat.le_refl 3)),
    (shown (RING_STS.SQ_TAIL i) rfl).trans (zero _ rfl (show 3 ≤ 19 by decide)),
    (shown (RING_STS.CQ_TAIL i) rfl).trans (zero _ rfl (show 3 ≤ 35 by decide)),
    (shown2 (RING_STS2.CQ_HEAD i) rfl).trans head, (shown2 (RING_STS2.CQ_PHASE i) rfl).trans phase, entries, listed,
    (ringCmdDone_shows (by decide)).1, fun h0 hu => (read ?_).trans ((rf_of_frame paused.frame (not_pauseReg_low ?_)).trans (quota h0 hu))⟩
  · simp only [HRN_Q_RINGS.USED, HRN_Q_RINGS.a, RING_CMD.a]; omega
  · simp only [HRN_Q_RINGS.USED, HRN_Q_RINGS.a]; omega

end State
end Sys2Proof.Machine
end

section
/-! PROOF. FLUSH and DISABLE with no command waiting, and the obligation on the commands of ring pairs (R433, R441). -/
namespace Sys2Proof.Machine
namespace State
variable {s t u : State} {i : Nat}

/-! ## FLUSH and DISABLE (R433) -/

theorem ringFlush_off (h : s.ringState i = 0) (off : Bool) : s.ringFlush i off = s.ringCmdDone stREJECT := if_pos h

/-- No entry consumed. -/
theorem consume_none (h : s.sqHead i < s.sqSize i) : s.consume i 0 = s.wf (RING_STS.SQ_HEAD i) (s.sqHead i) := by
  have keep : s.host.cache.filter (fun c => !(c.1 / 65536 == i && ([] : List Nat).contains (c.1 % 65536))) = s.host.cache :=
    List.filter_eq_self.mpr fun c _ => by simp
  have cache : s.withHost { s.host with cache := s.host.cache.filter (fun c => !(c.1 / 65536 == i && ([] : List Nat).contains (c.1 % 65536))) } = s := by
    rw [keep]; rfl
  simp only [consume, List.range_zero, List.map_nil, List.foldl_nil, cache, ite_self, Nat.add_zero, Nat.mod_eq_of_lt h]
theorem flushList_none (fuel x : Nat) (cut : Bool) : s.flushList i fuel x 0 cut = ([], 0, cut) := by cases fuel <;> rfl

/-- The ring pair is FLUSHING and its command BUSY. -/
def ringDrained (s : State) (i : Nat) : State := ((s.wf (RING_STS.STATE i) 2).wf (RING_STS.SQ_HEAD i) (s.sqHead i)).wf RING_CMD.BUSY 1
/-- A ring pair as FLUSH and DISABLE leave it FLUSHING where nothing waits. -/
def ringFlushing (s : State) (i : Nat) (off : Bool) : State :=
  (((s.ringDrained i).withHost { s.host with disable := if off then [i] else [] }).count RING_CNT_FLUSH_MSG.V 0).count RING_CNT_ORPHAN.V 0

/-- Nothing waits at the head of an ACTIVE ring pair, and no message, allocation, DISABLE or cut chain anywhere. -/
structure Quiet (s : State) (i : Nat) : Prop where
  active : s.ringState i = 1
  empty : s.sqWait i = 0
  inside : s.sqHead i < s.sqSize i
  submits : s.host.submits = []
  waits : s.host.waits = []
  disable : s.host.disable = []
  cut : s.host.cut = []

theorem ringFlush_quiet (h : s.Quiet i) (off : Bool) : s.ringFlush i off = (s.ringFlushing i off).endFlush i := by
  have head : (s.wf (RING_STS.STATE i) 2).sqHead i = s.sqHead i :=
    rf_wf_state i _ (x := RING_STS.SQ_HEAD i) (Nat.le_refl 3)
  have size : (s.wf (RING_STS.STATE i) 2).sqSize i = s.sqSize i :=
    congrArg (2 ^ ·) (rf_wf_reg s (RING_STS.STATE i) (RING_CFG.SQ_LOG2 i) _ (by
      simp only [RING_CFG.SQ_LOG2, RING_STS.STATE, RING_CFG.a, RING_STS.a]; omega))
  have none := consume_none (s := s.wf (RING_STS.STATE i) 2) (i := i) (by rw [head, size]; exact h.inside)
  have live : s.ringState i ≠ 0 := by rw [h.active]; decide
  have disabled : (if off then s.host.disable ++ [i] else s.host.disable) = if off then [i] else [] := by rw [h.disable]; rfl
  have uncut : s.host.cut.filter (fun c => c != i) ++ [] = s.host.cut := by rw [h.cut]; rfl
  have unsent : s.host.submits.filter (fun m => m.ring != i) = s.host.submits := by rw [h.submits]; rfl
  rw [ringFlush, if_neg live]
  extract_lets l s1 msgs g s2 s3
  have list : l = ([], 0, false) := by
    show s.flushList i 65536 _ (s.sqWait i) (s.host.cut.contains i) = _
    rw [h.empty, flushList_none, h.cut]
    rfl
  have drained : s1 = s.ringDrained i := by
    show ((s.setRing i 2).consume i (s.sqWait i)).wf RING_CMD.BUSY 1 = _
    rw [setRing_quiet h.waits, h.empty, none, head, ringDrained]
  have host : g = s.host := by
    show s1.host = _
    rw [drained, ringDrained, wf_host, wf_host, wf_host]
  have messages : msgs = 0 := by
    show (g.submits.filter _).length = 0
    rw [host, h.submits]
    rfl
  have shown : s3 = s.ringFlushing i off := by
    show ((s1.withHost { g with
      submits := g.submits.filter (fun m => m.ring != i)
      cut := g.cut.filter (fun c => c != i) ++ (if l.2.2 then [i] else [])
      disable := if off then g.disable ++ [i] else g.disable }).count RING_CNT_FLUSH_MSG.V msgs).count RING_CNT_ORPHAN.V l.2.1 = _
    rw [messages, list, host, drained, disabled, unsent, if_neg Bool.false_ne_true, uncut, ringFlushing]
  rw [shown, list, List.foldl_nil]

/-! ## A ring pair that is FLUSHING (R433) -/

/-- The registers that FLUSH and DISABLE write before the ring pair goes on. -/
abbrev flushReg (i a : Nat) : Prop := a = RING_STS.a i ∨ a = RING_CMD.a ∨ a = RING_CNT_FLUSH_MSG.a ∨ a = RING_CNT_ORPHAN.a
theorem flushReg_range {a : Nat} (hi : i < 8192) (h : flushReg i a) : 0x200000 ≤ a ∧ a < 0x1000000 := by
  simp only [flushReg, RING_STS.a, RING_CMD.a, RING_CNT_FLUSH_MSG.a, RING_CNT_ORPHAN.a] at h; omega
theorem not_flushReg_cfg (hi : i < 8192) : ¬ flushReg i (RING_CFG.a i) := by
  simp only [flushReg, RING_CFG.a, RING_STS.a, RING_CMD.a, RING_CNT_FLUSH_MSG.a, RING_CNT_ORPHAN.a]; omega
theorem frame_ringFlushing (off : Bool) : frame s (s.ringFlushing i off) [.host, .sticky] (flushReg i) :=
  frame_trans (frame_wf _ _ (.inl rfl)) <| frame_trans (frame_wf _ _ (.inl rfl)) <| frame_trans (frame_wf _ _ (.inr (.inl rfl))) <|
  frame_trans (frame_withHost _ (by decide)) <| frame_trans (frame_count _ _ (.inr (.inr (.inl rfl))) (by decide)) <|
  frame_count _ _ (.inr (.inr (.inr rfl))) (by decide)
theorem host_ringFlushing (off : Bool) : (s.ringFlushing i off).host = { s.host with disable := if off then [i] else [] } := by
  rw [ringFlushing, count_host, count_host, withHost_host]

/-- Counters apart, FLUSHING shows as the writes of STATE, SQ_HEAD and BUSY left it. -/
theorem rf_ringFlushing {x : Rf} (hi : i < 8192) (hx : x.a = RING_STS.a i ∨ x.a = RING_CMD.a) (off : Bool) :
    (s.ringFlushing i off).rf x = (s.ringDrained i).rf x := by
  have apart : x.a ≠ RING_CNT_ORPHAN.V.a ∧ x.a ≠ RING_CNT_FLUSH_MSG.V.a := by
    simp only [RING_STS.a, RING_CMD.a, RING_CNT_ORPHAN.V, RING_CNT_ORPHAN.a, RING_CNT_FLUSH_MSG.V, RING_CNT_FLUSH_MSG.a] at hx ⊢; omega
  rw [ringFlushing, rf_count _ apart.1, rf_count _ apart.2]
  exact rf_of_frame (frame_withHost (ch := [.host]) (rg := fun _ => False) _ (by decide)) id
theorem ringDrained_shows (i : Nat) : (s.ringDrained i).ringState i = 2 ∧ (s.ringDrained i).sqHead i = s.sqHead i ∧
    (s.ringDrained i).sqTail i = s.sqTail i ∧ (s.ringDrained i).rb RING_CMD.BUSY = true ∧ (s.ringDrained i).rf RING_CMD.RING = s.rf RING_CMD.RING := by
  have sts {x : Rf} (hx : x.a = RING_STS.a i) : (s.ringDrained i).rf x = ((s.wf (RING_STS.STATE i) 2).wf (RING_STS.SQ_HEAD i) (s.sqHead i)).rf x :=
    rf_wf_reg _ RING_CMD.BUSY _ _ (hx ▸ sts_ne_cmd i)
  have head : s.sqHead i < 2 ^ 16 := rf_lt (RING_STS.SQ_HEAD i)
  refine ⟨(sts (x := RING_STS.STATE i) rfl).trans ?_, (sts (x := RING_STS.SQ_HEAD i) rfl).trans ?_,
    (sts (x := RING_STS.SQ_TAIL i) rfl).trans ?_, rb_wf_self _ _ (by decide), ?_⟩
  · rw [rf_wf_apart (x := RING_STS.SQ_HEAD i) _ (.inr ⟨show 3 + 16 ≤ 64 by decide, .inl (show 0 + 3 ≤ 3 by decide)⟩),
      rf_wf_fits (show 0 + 3 ≤ 64 by decide) (show 2 < 2 ^ 3 by decide)]
  · exact rf_wf_fits (show 3 + 16 ≤ 64 by decide) head
  · rw [rf_wf_apart (x := RING_STS.SQ_HEAD i) (y := RING_STS.SQ_TAIL i) _ (.inr ⟨show 3 + 16 ≤ 64 by decide, .inr (show 3 + 16 ≤ 19 by decide)⟩),
      rf_wf_state i 2 (show 3 ≤ 19 by decide)]
    rfl
  · rw [ringDrained, rf_wf_apart _ (by decide), rf_wf_reg _ _ _ _ (sts_ne_cmd i).symm, rf_wf_reg _ _ _ _ (sts_ne_cmd i).symm]

/-- A FLUSHING ring pair at whose head nothing waits, with its command BUSY. -/
structure Flushing (s : State) (i : Nat) : Prop where
  state : s.ringState i = 2
  empty : s.sqWait i = 0
  waits : s.host.waits = []
  busy : s.rb RING_CMD.BUSY = true
  named : s.rf RING_CMD.RING = i

theorem flushing_ringFlushing (hi : i < 8192) (h : s.Quiet i) (hn : s.rf RING_CMD.RING = i) (off : Bool) : (s.ringFlushing i off).Flushing i := by
  obtain ⟨state, head, tail, busy, named⟩ := ringDrained_shows (s := s) i
  have sts {x : Rf} (hx : x.a = RING_STS.a i) := rf_ringFlushing (s := s) hi (.inl hx) off
  have cmd {x : Rf} (hx : x.a = RING_CMD.a) := rf_ringFlushing (s := s) hi (.inr hx) off
  refine ⟨(sts (x := RING_STS.STATE i) rfl).trans state, ?_, ?_, ?_, (cmd rfl).trans (named.trans hn)⟩
  · exact (sqWait_congr ((frame_ringFlushing off).2.1 _ (not_flushReg_cfg hi)) ((sts (x := RING_STS.SQ_HEAD i) rfl).trans head)
      ((sts (x := RING_STS.SQ_TAIL i) rfl).trans tail)).trans h.empty
  · rw [host_ringFlushing]; exact h.waits
  · exact (congrArg (· == 1) (cmd (x := RING_CMD.BUSY) rfl)).trans busy

/-! ## The end of a flush (R433) -/

theorem endFlush_running (hr : s.runsOf i ≠ []) : s.endFlush i = s := by
  rw [endFlush, if_neg]
  simp [hr]
theorem endFlush_ended (hs : s.ringState i = 2) (hr : s.runsOf i = []) {t : State}
    (ht : (if s.host.disable.contains i then s.ringOff i else (s.setRing i 1).ringPauses.advance i) = t)
    (hb : t.rb RING_CMD.BUSY = true) (hn : t.rf RING_CMD.RING = i) : s.endFlush i = t.ringCmdDone stOK := by
  rw [endFlush, if_pos (by simp [hs, hr])]
  extract_lets s1
  rw [show s1 = t from ht, hb, hn]
  simp

/-- A FLUSH ends with the pair ACTIVE. -/
theorem endFlush_flush (hi : i < 8192) (h : s.Flushing i) (hr : s.runsOf i = []) (hd : s.host.disable = []) (hc : s.pauseCause i = false) :
    (s.endFlush i).ringState i = 1 ∧ (s.endFlush i).rf RING_CMD.STATUS = 0 ∧ (s.endFlush i).rb RING_CMD.BUSY = false ∧
    (s.endFlush i).out = s.out := by
  have set : s.setRing i 1 = s.wf (RING_STS.STATE i) 1 := setRing_quiet h.waits i 1
  have frameSet : frame s (s.wf (RING_STS.STATE i) 1) [] (fun a => a = RING_STS.a i) := frame_wf _ _ rfl
  have active : (s.wf (RING_STS.STATE i) 1).ringState i = 1 := rf_wf_fits (show 0 + 3 ≤ 64 by decide) (show 1 < 2 ^ 3 by decide)
  have cfg : RING_CFG.a i ≠ RING_STS.a i := by simp only [RING_CFG.a, RING_STS.a]; omega
  have cause : (s.wf (RING_STS.STATE i) 1).pauseCause i = false :=
    (pauseCause_of_frame frameSet cfg fun a e => by simp only [RING_STS.a] at e; omega).trans hc
  obtain ⟨paused, sts⟩ := ringPauses_leaves hi active cause
  have idle : (s.wf (RING_STS.STATE i) 1).sqWait i = 0 := by
    refine (sqWait_congr (frameSet.2.1 _ cfg) ?_ ?_).trans h.empty
    · exact rf_wf_state i _ (x := RING_STS.SQ_HEAD i) (Nat.le_refl 3)
    · exact rf_wf_state i _ (x := RING_STS.SQ_TAIL i) (show 3 ≤ 19 by decide)
  have cmd : (s.wf (RING_STS.STATE i) 1).reg RING_CMD.a = s.reg RING_CMD.a := frameSet.2.1 _ (sts_ne_cmd i).symm
  have out : (s.wf (RING_STS.STATE i) 1).out = s.out := frameSet.1 .out (by simp)
  have ends := endFlush_ended h.state hr (t := (s.setRing i 1).ringPauses)
  rw [set] at ends
  generalize s.wf (RING_STS.STATE i) 1 = u at *
  have read : u.ringPauses.reg RING_CMD.a = s.reg RING_CMD.a := (paused.frame.2.1 _ not_pauseReg_cmd).trans cmd
  have waits : u.ringPauses.sqWait i = 0 :=
    (sqWait_congr (paused.frame.2.1 _ (not_pauseReg_cfg hi)) (rf_of_reg (x := RING_STS.SQ_HEAD i) rfl sts)
      (rf_of_reg (x := RING_STS.SQ_TAIL i) rfl sts)).trans idle
  rw [ends (by simp [hd, advance_idle fun _ => waits]) ((rb_of_reg rfl read).trans h.busy) ((rf_of_reg rfl read).trans h.named)]
  obtain ⟨status, done⟩ := ringCmdDone_shows (s := u.ringPauses) (st := stOK) (by decide)
  have state : u.ringPauses.ringState i = 1 := (rf_of_reg (x := RING_STS.STATE i) rfl sts).trans active
  refine ⟨(rf_of_frame (frame_ringCmdDone _) (x := RING_STS.STATE i) (sts_ne_cmd i)).trans state, status, done, ?_⟩
  exact ((frame_ringCmdDone stOK).1 .out (by simp)).trans ((paused.frame.1 .out (by decide)).trans out)

/-! ## A ring pair becomes OFF (R433) -/

/-- The ring pair is OFF and cleared, and no longer among those that are not OFF. -/
def ringClosed (s : State) (i : Nat) : State :=
  (((s.setRing i 0).ringClear i).withHost { ((s.setRing i 0).ringClear i).host with
    opened := ((s.setRing i 0).ringClear i).host.opened.filter (fun x => x != i) })
theorem ringOff_eq (i : Nat) : s.ringOff i = (s.ringClosed i).quotaGive .rings (((s.setRing i 0).ringClear i).ringH i) 1 := rfl

section
variable (hw : s.host.waits = [])
include hw
theorem frame_ringClosed (i : Nat) : frame s (s.ringClosed i) [.comp, .host] (fun a => a = RING_STS.a i ∨ a = RING_STS2.a i) := by
  rw [ringClosed, setRing_quiet hw]
  exact frame_trans (frame_wf _ _ (.inl rfl)) <| frame_trans (frame_mono (frame_ringClear i) (fun _ => id) fun _ => .inr) (frame_withHost _ (by decide))
theorem ringOff_gives (i : Nat) : s.ringOff i = (s.ringClosed i).quotaGive .rings (s.ringH i) 1 := by
  have cfg : RING_CFG.a i ≠ RING_STS.a i := by simp only [RING_CFG.a, RING_STS.a]; omega
  have harness : (s.wf (RING_STS.STATE i) 0).ringH i = s.ringH i := rf_wf_reg s (RING_STS.STATE i) (RING_CFG.HARNESS i) _ cfg
  rw [ringOff_eq, ringH_ringClear, setRing_quiet hw, harness]
theorem frame_ringOff (i : Nat) : frame s (s.ringOff i) [.comp, .host] (enableReg i (s.ringH i)) := by
  rw [ringOff_gives hw]
  exact frame_trans (frame_mono (frame_ringClosed hw i) (fun _ => id) fun _ e => e.imp id .inl)
    (frame_mono (frame_quotaGive .rings (s.ringH i) 1) (by simp) fun _ e => .inr (.inr e))

theorem ringState_ringOff (i : Nat) : (s.ringOff i).ringState i = 0 := by
  have harness := ringH_lt (s := s) i
  have apart : ¬ quotaReg .rings (s.ringH i) (RING_STS.a i) := by
    simp only [quotaReg, QKind.limit, HRN_Q_RINGS.LIMIT, HRN_Q_RINGS.a, HRN_STS.a, RING_STS.a]; omega
  rw [ringOff_gives hw, ringClosed, setRing_quiet hw]
  refine (rf_of_frame (frame_quotaGive .rings (s.ringH i) 1) (x := RING_STS.STATE i) apart).trans ?_
  exact (rf_of_frame (frame_ringClear i) (x := RING_STS.STATE i) (sts_ne_sts2 i)).trans
    (rf_wf_fits (show 0 + 3 ≤ 64 by decide) (show 0 < 2 ^ 3 by decide))
theorem not_mem_opened_ringOff (i : Nat) : i ∉ (s.ringOff i).host.opened := by
  have host : (s.ringOff i).host = (s.ringClosed i).host := by
    rw [ringOff_gives hw]
    exact (frame_quotaGive .rings (s.ringH i) 1).1 .host (by simp)
  rw [host, ringClosed, withHost_host]
  simp
theorem used_ringOff (i : Nat) (h0 : s.ringH i ≠ 0) (hs : s.hrnState (s.ringH i) ≠ 0) :
    (s.ringOff i).rf (HRN_Q_RINGS.USED (s.ringH i)) = s.rf (HRN_Q_RINGS.USED (s.ringH i)) - 1 := by
  have harness := ringH_lt (s := s) i
  have closed := frame_ringClosed hw i
  have bound : (s.ringClosed i).hrnState (s.ringH i) = s.hrnState (s.ringH i) := by
    rw [hrnState, hrnState, rf_of_frame closed (x := HRN_STS.STATE _) (by simp only [HRN_STS.STATE, HRN_STS.a, RING_STS.a, RING_STS2.a]; omega)]
  have held : (s.ringClosed i).rf (HRN_Q_RINGS.USED (s.ringH i)) = s.rf (HRN_Q_RINGS.USED (s.ringH i)) :=
    rf_of_frame closed (by simp only [HRN_Q_RINGS.USED, HRN_Q_RINGS.a, RING_STS.a, RING_STS2.a]; omega)
  rw [ringOff_gives hw]
  exact (used_quotaGive .rings 1 h0 (by rwa [bound])).trans (congrArg (· - 1) held)
end

/-- A DISABLE ends with the pair OFF. -/
theorem endFlush_disable (h : s.Flushing i) (hr : s.runsOf i = []) (hd : s.host.disable = [i]) :
    (s.endFlush i).ringState i = 0 ∧ i ∉ (s.endFlush i).host.opened ∧ (s.endFlush i).rf RING_CMD.STATUS = 0 ∧
    (s.endFlush i).rb RING_CMD.BUSY = false ∧ (s.endFlush i).out = s.out ∧
    (s.ringH i ≠ 0 → s.hrnState (s.ringH i) ≠ 0 →
      (s.endFlush i).rf (HRN_Q_RINGS.USED (s.ringH i)) = s.rf (HRN_Q_RINGS.USED (s.ringH i)) - 1) := by
  have harness := ringH_lt (s := s) i
  have off := frame_ringOff h.waits i
  have cmd : (s.ringOff i).reg RING_CMD.a = s.reg RING_CMD.a := off.2.1 _ (by
    have ring := sts_ne_cmd i
    have ring2 := sts2_ne_cmd i
    simp only [enableReg, quotaReg, QKind.limit, HRN_Q_RINGS.LIMIT, HRN_Q_RINGS.a, HRN_STS.a, RING_CMD.a] at *
    omega)
  have ends : s.endFlush i = (s.ringOff i).ringCmdDone stOK :=
    endFlush_ended h.state hr (by simp [hd]) ((rb_of_reg rfl cmd).trans h.busy) ((rf_of_reg rfl cmd).trans h.named)
  have state := ringState_ringOff h.waits i
  have opened := not_mem_opened_ringOff h.waits i
  have used := used_ringOff h.waits i
  have out := off.1 .out (by decide)
  rw [ends]
  generalize s.ringOff i = u at *
  obtain ⟨status, done⟩ := ringCmdDone_shows (s := u) (st := stOK) (by decide)
  have last := frame_ringCmdDone (s := u) stOK
  refine ⟨(rf_of_frame last (x := RING_STS.STATE i) (sts_ne_cmd i)).trans state, ?_, status, done, (last.1 .out (by simp)).trans out, fun h0 hs =>
    (rf_of_frame last ?_).trans (used h0 hs)⟩
  · rwa [show (u.ringCmdDone stOK).host = u.host from last.1 .host (by simp)]
  · simp only [HRN_Q_RINGS.USED, HRN_Q_RINGS.a, RING_CMD.a]; omega

/-! ## RING_CMD of a pair at rest -/

theorem quiet_ringNamed (h : s.Quiet i) : (s.ringNamed i).Quiet i := by
  have frame := frame_ringNamed (s := s) i
  have sts {x : Rf} (hx : x.a = RING_STS.a i) : (s.ringNamed i).rf x = s.rf x := rf_ringNamed (hx ▸ sts_ne_cmd i)
  have size : (s.ringNamed i).sqSize i = s.sqSize i := congrArg (2 ^ ·) (rf_ringNamed (x := RING_CFG.SQ_LOG2 i) (cfg_ne_cmd i))
  refine ⟨(sts (x := RING_STS.STATE i) rfl).trans h.active, ?_, ?_, h.submits, h.waits, h.disable, h.cut⟩
  · exact (sqWait_congr (frame.2.1 _ (cfg_ne_cmd i)) (sts (x := RING_STS.SQ_HEAD i) rfl) (sts (x := RING_STS.SQ_TAIL i) rfl)).trans h.empty
  · rw [size]
    exact (sts (x := RING_STS.SQ_HEAD i) rfl).trans_lt h.inside
/-- What the flush of the pair that RING_CMD names begins with. -/
theorem ringFlush_named (hi : i < 8192) (h : s.Quiet i) (off : Bool) :
    ∃ u, (s.ringNamed i).ringFlush i off = u.endFlush i ∧ u.Flushing i ∧ u.host = { s.host with disable := if off then [i] else [] } ∧
      frame s u [.host, .sticky] (flushReg i) := by
  have named : (s.ringNamed i).rf RING_CMD.RING = i := rf_wf_fits (show 0 + 13 ≤ 64 by decide) hi
  exact ⟨(s.ringNamed i).ringFlushing i off, ringFlush_quiet (quiet_ringNamed h) off, flushing_ringFlushing hi (quiet_ringNamed h) named off,
    host_ringFlushing off, frame_trans (frame_mono (frame_ringNamed i) (by simp) fun _ e => .inr (.inl e)) (frame_ringFlushing off)⟩

/-- The pair has no command in progress: FLUSH. -/
theorem ringFlush_ends (hi : i < 8192) (h : s.Quiet i) (hc : s.pauseCause i = false) (hr : s.runsOf i = []) {t : State}
    (ht : (s.ringNamed i).ringFlush i false = t) :
    t.ringState i = 1 ∧ t.rf RING_CMD.STATUS = 0 ∧ t.rb RING_CMD.BUSY = false ∧ t.out = s.out := by
  obtain ⟨u, ends, flushing, host, frame⟩ := ringFlush_named hi h false
  have cause : u.pauseCause i = false := (pauseCause_of_frame frame (not_flushReg_cfg hi) fun _ e => (flushReg_range hi e).1).trans hc
  obtain ⟨state, status, busy, out⟩ := endFlush_flush hi flushing (show u.runsOf i = [] by rw [runsOf, host]; exact hr) (by rw [host]; rfl) cause
  rw [← ht, ends]
  exact ⟨state, status, busy, out.trans (frame.1 .out (by decide))⟩
/-- The pair has no command in progress: DISABLE. -/
theorem ringDisable_ends (hi : i < 8192) (h : s.Quiet i) (hr : s.runsOf i = []) {t : State} (ht : (s.ringNamed i).ringFlush i true = t) :
    t.ringState i = 0 ∧ i ∉ t.host.opened ∧ t.rf RING_CMD.STATUS = 0 ∧ t.rb RING_CMD.BUSY = false ∧ t.out = s.out ∧
    (s.ringH i ≠ 0 → s.hrnState (s.ringH i) ≠ 0 → t.rf (HRN_Q_RINGS.USED (s.ringH i)) = s.rf (HRN_Q_RINGS.USED (s.ringH i)) - 1) := by
  obtain ⟨u, ends, flushing, host, frame⟩ := ringFlush_named hi h true
  have bound := ringH_lt (s := s) i
  have low {x : Rf} (hx : x.a < 0x200000) : u.rf x = s.rf x :=
    rf_of_frame frame fun e => absurd (flushReg_range hi e).1 (by omega)
  have harness : u.ringH i = s.ringH i := rf_of_frame frame (x := RING_CFG.HARNESS i) (not_flushReg_cfg hi)
  have live : u.hrnState (s.ringH i) = s.hrnState (s.ringH i) := by
    rw [hrnState, hrnState, low (x := HRN_STS.STATE _) (by simp only [HRN_STS.STATE, HRN_STS.a]; omega)]
  have none : u.runsOf i = [] := by rw [runsOf, host]; exact hr
  obtain ⟨state, opened, status, busy, out, used⟩ := endFlush_disable flushing none (by rw [host]; rfl)
  rw [← ht, ends]
  refine ⟨state, opened, status, busy, out.trans (frame.1 .out (by decide)), fun h0 hs => ?_⟩
  rw [harness, live, low (x := HRN_Q_RINGS.USED _) (by simp only [HRN_Q_RINGS.USED, HRN_Q_RINGS.a]; omega)] at used
  exact used h0 hs
/-- The pair has commands in progress: it is FLUSHING. -/
theorem ringFlush_waits (hi : i < 8192) (h : s.Quiet i) (hr : s.runsOf i ≠ []) (off : Bool) {t : State} (ht : (s.ringNamed i).ringFlush i off = t) :
    t.ringState i = 2 ∧ t.rb RING_CMD.BUSY = true ∧ t.host.runs = s.host.runs ∧ t.out = s.out := by
  obtain ⟨u, ends, flushing, host, frame⟩ := ringFlush_named hi h off
  have still := endFlush_running (s := u) (i := i) (by rw [runsOf, host]; exact hr)
  rw [← ht, ends, still]
  exact ⟨flushing.state, flushing.busy, by rw [host], frame.1 .out (by decide)⟩

end State

/-- Settles O41, by the state RING_CMD leaves once it names the pair: the checks of ENABLE read none of its register; a flush of a pair
with nothing waiting is a state named FLUSHING, whose end is known from the commands in progress. -/
theorem ringPairCommands : Obligations.RingPairCommands := by
  unfold Obligations.RingPairCommands
  intro s src i hu ho
  have write {c : Instr} {k : State → State} {Q : State → Prop} (he : exec c s = unheld s (s.guardWrite src RING_CMD.a k))
      (h : Q (k s)) : runs c s Q :=
    runs_write hu ho he h
  refine ⟨fun hb => ?_, fun hb => ?_⟩
  · exact ⟨turnedAway_write hu ho rfl (State.writeRingCmd_busy src 1 hb) (by decide),
      turnedAway_write hu ho rfl (State.writeRingCmd_busy src 2 hb) (by decide),
      turnedAway_write hu ho rfl (State.writeRingCmd_busy src 3 hb) (by decide)⟩
  have enable := State.writeRingCmd_enable (i := i.val) src hb
  have flush := State.writeRingCmd_flush (i := i.val) src hb
  have disable := State.writeRingCmd_disable (i := i.val) src hb
  have hi := i.isLt
  have status := State.enableStatus_ringNamed (s := s) hi
  have done (st : Nat) (hs : st < 256) : ((s.ringNamed i).ringCmdDone st).rf RING_CMD.STATUS = st ∧
      ((s.ringNamed i).ringCmdDone st).rb RING_CMD.BUSY = false ∧ s.frame ((s.ringNamed i).ringCmdDone st) [] (fun a => a = RING_CMD.a) :=
    ⟨(State.ringCmdDone_shows hs).1, (State.ringCmdDone_shows hs).2, State.frame_trans (State.frame_ringNamed i.val) (State.frame_ringCmdDone st)⟩
  refine ⟨fun st h0 hs he => write rfl ?_, fun he => write rfl ?_, fun h0 c hc => ?_,
    fun h1 he hl hm hw hd hk hc => ⟨fun hr => ⟨write rfl ?_, write rfl ?_⟩, fun hr c hc => ?_⟩⟩
  · rw [enable, State.ringEnable_fails (status.trans he) h0]
    exact done st hs
  · have harness : (s.ringNamed i).ringH i = s.ringH i := State.rf_ringNamed (x := RING_CFG.HARNESS i) (State.cfg_ne_cmd i)
    have bound := State.ringH_lt (s := s) i
    have used : (s.ringNamed i).rf (HRN_Q_RINGS.USED (s.ringH i)) = s.rf (HRN_Q_RINGS.USED (s.ringH i)) :=
      State.rf_ringNamed (by simp only [HRN_Q_RINGS.USED, HRN_Q_RINGS.a, RING_CMD.a]; omega)
    have starts := State.ringEnable_starts hi (status.trans he)
    rw [harness, used] at starts
    rw [enable]
    exact starts
  · have off : (s.ringNamed i).ringState i = 0 := (State.rf_ringNamed (x := RING_STS.STATE i) (State.sts_ne_cmd i)).trans h0
    rcases hc with rfl | rfl
    · refine write rfl ?_
      rw [flush, State.ringFlush_off off]
      exact done stREJECT (by decide)
    · refine write rfl ?_
      rw [disable, State.ringFlush_off off]
      exact done stREJECT (by decide)
  · exact State.ringFlush_ends hi ⟨h1, he, hl, hm, hw, hd, hk⟩ hc hr flush.symm
  · exact State.ringDisable_ends hi ⟨h1, he, hl, hm, hw, hd, hk⟩ hr disable.symm
  · rcases hc with rfl | rfl
    · exact write rfl (State.ringFlush_waits hi ⟨h1, he, hl, hm, hw, hd, hk⟩ hr false flush.symm)
    · exact write rfl (State.ringFlush_waits hi ⟨h1, he, hl, hm, hw, hd, hk⟩ hr true disable.symm)

end Sys2Proof.Machine
end

section
/-! PROOF. Doorbells of ring pairs and RING frames (R427 to R432). -/
namespace Sys2Proof.Machine
namespace State
variable {s t u : State} {i : Nat}

/-! ## The submission tail (R419) -/

/-- A submission tail that fits is taken, and the state stays. -/
theorem wf_sqTail_shows (i : Nat) {n : Nat} (hn : n < 2 ^ 16) :
    (s.wf (RING_STS.SQ_TAIL i) n).sqTail i = n ∧ (s.wf (RING_STS.SQ_TAIL i) n).ringState i = s.ringState i :=
  ⟨rf_wf_fits (show 19 + 16 ≤ 64 by decide) hn,
    rf_wf_apart (x := RING_STS.SQ_TAIL i) (y := RING_STS.STATE i) _ (.inr ⟨show 19 + 16 ≤ 64 by decide, .inl (show 0 + 3 ≤ 19 by decide)⟩)⟩

/-! ## A ring pair goes on (R421) -/

/-- From `s` to `t` ring pair `i` may have gone on: its submission tail and what waits at the hubs stay. -/
structure Advanced (s t : State) (i : Nat) : Prop where
  fwd : t.fwd = s.fwd
  tail : t.sqTail i = s.sqTail i

theorem Advanced.refl (s : State) (i : Nat) : Advanced s s i := ⟨rfl, rfl⟩
theorem Advanced.trans (h : Advanced s t i) (k : Advanced t u i) : Advanced s u i := ⟨k.fwd.trans h.fwd, k.tail.trans h.tail⟩
theorem advanced_of_frame {ch : List Part} {rg : Nat → Prop} (h : frame s t ch rg) (hf : Part.fwd ∉ ch) (hr : ¬ rg (RING_STS.a i)) : Advanced s t i :=
  ⟨h.1 .fwd hf, rf_of_frame h (x := RING_STS.SQ_TAIL i) hr⟩
theorem advanced_withHost (v : HostSt) : Advanced s (s.withHost v) i :=
  advanced_of_frame (frame_withHost (ch := [.host]) (rg := fun _ => False) v (by decide)) (by decide) id
theorem advanced_inc {x : Rf} (h : RING_STS.a i ≠ x.a) : Advanced s (s.inc x) i :=
  advanced_of_frame (inc_counts x).2 (by decide) h
theorem advanced_setInFlight (i : Nat) : Advanced s (s.setInFlight i) i :=
  advanced_of_frame (frame_wf (ch := []) (rg := fun a => a = RING_STS2.a i) (RING_STS2.IN_FLIGHT i) _ rfl) (by simp) (sts_ne_sts2 i)

section
variable (hi : i < 8192)
include hi

theorem sts_lt : RING_STS.a i < 0x280000 := by simp only [RING_STS.a]; omega
theorem advanced_noticed (h : noticed s t) : Advanced s t i :=
  advanced_of_frame h.1 (by decide) (by unfold witnessReg recordReg RING_STS.a; omega)
theorem advanced_consume (n : Nat) : Advanced s (s.consume i n) i := by
  unfold consume
  extract_lets x idx cached s1
  have read : Advanced s s1 i := by
    show Advanced s (if _ then _ else _) i
    split
    · exact advanced_withHost _
    · refine List.foldlRecOn (motive := (Advanced s · i)) _ _ (.refl s i) fun t h k _ => h.trans ?_
      split
      · exact advanced_noticed hi (noticed_memRead _ _)
      · exact .refl t i
  refine read.trans ⟨wf_fwd .., ?_⟩
  generalize (x + n) % s1.sqSize i = head
  exact rf_wf_apart (x := RING_STS.SQ_HEAD i) (y := RING_STS.SQ_TAIL i) _ (.inr ⟨show 3 + 16 ≤ 64 by decide, .inr (show 3 + 16 ≤ 19 by decide)⟩)
theorem advanced_startRun (es : List (List Byte)) (e : Option RingEnd) : Advanced s (s.startRun i es e) i :=
  (advanced_withHost _).trans ((advanced_consume hi es.length).trans (advanced_setInFlight i))
theorem advanced_noteFull : Advanced s (s.noteFull i) i := by
  have apart : RING_STS.a i ≠ RING_CNT_CQ_FULL.V.a := by have := sts_lt hi; simp only [RING_CNT_CQ_FULL.V, RING_CNT_CQ_FULL.a]; omega
  unfold noteFull
  split
  · exact .refl s i
  · exact (advanced_withHost _).trans (advanced_inc apart)
theorem advanced_ringAdvance (fuel : Nat) : Advanced s (ringAdvance i fuel s) i := by
  have apart : RING_STS.a i ≠ RING_CNT_ORPHAN.V.a := by have := sts_lt hi; simp only [RING_CNT_ORPHAN.V, RING_CNT_ORPHAN.a]; omega
  induction fuel generalizing s with
  | zero => exact .refl s i
  | succ fuel ih =>
    unfold ringAdvance
    split
    · exact .refl s i
    · split
      · exact .refl s i
      · refine Advanced.trans ?_ ih
        have discarded : Advanced s ((s.consume i 1).inc RING_CNT_ORPHAN.V) i := (advanced_consume hi 1).trans (advanced_inc apart)
        split
        · exact discarded
        · exact discarded.trans (advanced_withHost _)
      · split
        · exact advanced_noteFull hi
        · split
          · exact (advanced_startRun hi ..).trans ih
          · exact advanced_noteFull hi
theorem advanced_advance : Advanced s (s.advance i) i := advanced_ringAdvance hi _

/-! ## Submission doorbells (R427, R428) -/

/-- A ring pair that goes to ERROR. -/
theorem ringError_shows {cause : Nat} (hc : cause < 256) :
    (s.ringError i cause).ringState i = 4 ∧ (s.ringError i cause).rf (RING_STS2.CAUSE i) = cause ∧
    (s.ringError i cause).sqTail i = s.sqTail i := by
  have sts {x : Rf} (hx : x.a = RING_STS.a i) : (s.ringError i cause).rf x = (s.setRing i 4).rf x :=
    rf_wf_reg _ (RING_STS2.CAUSE i) _ _ (hx ▸ sts_ne_sts2 i)
  exact ⟨(sts (x := RING_STS.STATE i) rfl).trans (ringState_setRing i (by decide)), rf_wf_fits (show 24 + 8 ≤ 64 by decide) hc,
    (sts (x := RING_STS.SQ_TAIL i) rfl).trans (rf_setRing hi rfl (show 3 ≤ 19 by decide))⟩
omit hi in
theorem doorSq_outside {x : Nat} (hx : s.sqSize i ≤ x) (l : List (List Byte)) : s.doorSq i x l = s.ringError i stREJECT := if_pos hx
omit hi in
theorem frame_fetchTo (x : Nat) (l : List (List Byte)) : frame s (s.fetchTo i x l) [.free, .host] (fun _ => False) := by
  unfold fetchTo
  split
  · exact frame_refl ..
  · extract_lets old n s1 es
    have free : frame s s1 [.free, .host] (fun _ => False) := by
      show frame s (if _ then _ else _) _ _
      split
      · exact ⟨fun p hp => by cases p <;> first | rfl | exact absurd (by decide) hp, fun _ _ => rfl, rfl⟩
      · exact frame_refl ..
    exact frame_trans free (frame_withHost _ (by decide))
/-- A submission doorbell within the ring sets the tail. -/
theorem doorSq_within {x : Nat} (hx : x < s.sqSize i) (hw : x < 2 ^ 16) (l : List (List Byte)) :
    (s.doorSq i x l).sqTail i = x ∧ (s.doorSq i x l).fwd = s.fwd := by
  rw [doorSq, if_neg (Nat.not_le.mpr hx)]
  have on := advanced_advance (s := (s.fetchTo i x l).wf (RING_STS.SQ_TAIL i) x) hi
  refine ⟨on.tail.trans (wf_sqTail_shows i hw).1, on.fwd.trans ?_⟩
  rw [wf_fwd]
  exact (frame_fetchTo x l).1 .fwd (by decide)

/-! ## Completion doorbells (R427, R428) -/

/-- The entries a completion doorbell frees. -/
def cqFreed (s : State) (i h : Nat) : Nat := (h + s.cqSize i - s.rf (RING_STS2.CQ_HEAD i)) % s.cqSize i
/-- The completion head as a doorbell sets it. -/
def cqMoved (s : State) (i h : Nat) : State := (s.wf (RING_STS2.CQ_HEAD i) h).setCqUsed i (s.cqUsed i - s.cqFreed i h)
/-- The ring is no longer noted as full. -/
def unfull (s : State) (i : Nat) : State := s.withHost { s.host with full := s.host.full.filter (fun x => x != i) }
omit hi in
theorem doorCq_inside {h : Nat} (hx : h < s.cqSize i) (hu : s.cqFreed i h ≤ s.cqUsed i) : s.doorCq i h = ((s.cqMoved i h).unfull i).advance i :=
  if_neg (by simpa [cqFreed] using And.intro hx hu)
omit hi in
theorem doorCq_outside {h : Nat} (hx : s.cqSize i ≤ h ∨ s.cqUsed i < s.cqFreed i h) : s.doorCq i h = s.ringError i stREJECT :=
  if_pos (by simpa [cqFreed] using hx)
omit hi in
/-- A completion doorbell within the ring, with nothing waiting at the submission head, frees the entries. -/
theorem doorCq_within {h : Nat} (hx : h < s.cqSize i) (hw : h < 2 ^ 16) (hu : s.cqFreed i h ≤ s.cqUsed i) (hq : s.sqWait i = 0) :
    (s.doorCq i h).rf (RING_STS2.CQ_HEAD i) = h ∧ (s.doorCq i h).cqUsed i = s.cqUsed i - s.cqFreed i h ∧
    frame s (s.doorCq i h) [.host] (fun a => a = RING_STS2.a i) := by
  have moved : frame s (s.cqMoved i h) [.host] (fun a => a = RING_STS2.a i) := frame_trans (frame_wf _ _ rfl) (frame_withHost _ (by decide))
  have unfull : frame (s.cqMoved i h) ((s.cqMoved i h).unfull i) [.host] (fun _ => False) := frame_withHost _ (by decide)
  have framed := frame_trans moved (frame_mono unfull (fun _ => id) fun _ => False.elim)
  have cfg : RING_CFG.a i ≠ RING_STS2.a i := by simp only [RING_CFG.a, RING_STS2.a]; omega
  have idle : ((s.cqMoved i h).unfull i).sqWait i = 0 := (sqWait_congr (framed.2.1 _ cfg) (rf_of_frame framed (x := RING_STS.SQ_HEAD i) (sts_ne_sts2 i))
    (rf_of_frame framed (x := RING_STS.SQ_TAIL i) (sts_ne_sts2 i))).trans hq
  have head : (s.cqMoved i h).rf (RING_STS2.CQ_HEAD i) = h :=
    (rf_of_frame (frame_withHost (ch := [.host]) (rg := fun _ => False) _ (by decide)) id).trans
      (rf_wf_fits (x := RING_STS2.CQ_HEAD i) (show 0 + 16 ≤ 64 by decide) hw)
  rw [doorCq_inside hx hu, advance_idle fun _ => idle]
  refine ⟨?_, ?_, framed⟩
  · exact (rf_of_frame unfull id).trans head
  · rw [cqUsed, State.unfull, withHost_host]
    exact sparseGet_set_self (fun _ => 0) s.host.used i _
end

/-! ## Result slots (R430) -/

/-- What a result slot holds. -/
abbrev slotAt (s : State) (key : Nat) : RingSlot := sparseGet (fun _ => RingSlot.idle) s.host.slots key
/-- Slot `j` of ring pair `i` is armed where the mask has its bit. -/
def armSlot (i : Nat) (mask : Word) (s : State) (j : Nat) : State :=
  if mask.field j 1 = 1 then
    s.withHost { s.host with
      slots := sparseSet (fun _ => RingSlot.idle) s.host.slots (64 * i + j) { s.slotAt (64 * i + j) with status := stNOT_READY, armed := true } }
  else s
theorem doorArm_eq (i : Nat) (mask : Word) : s.doorArm i mask = (List.range 64).foldl (armSlot i mask) s := rfl
theorem armSlot_set {mask : Word} {j : Nat} (h : mask.field j 1 = 1) :
    (armSlot i mask s j).slotAt (64 * i + j) = { s.slotAt (64 * i + j) with status := stNOT_READY, armed := true } := by
  rw [armSlot, if_pos h]
  simp only [slotAt, withHost_host, sparseGet_set_self]
theorem armSlot_other {mask : Word} {j k : Nat} (h : mask.field j 1 = 1 → k ≠ 64 * i + j) : (armSlot i mask s j).slotAt k = s.slotAt k := by
  rw [armSlot]
  split
  · next hm =>
    simp only [slotAt, withHost_host, sparseGet_set_ne _ _ _ _ _ (h hm)]
  · rfl
theorem frame_armSlot (i : Nat) (mask : Word) (j : Nat) : frame s (armSlot i mask s j) [.host] (fun _ => False) := by
  rw [armSlot]
  split
  · exact frame_withHost _ (by decide)
  · exact frame_refl ..

/-- The first `n` slots of the mask armed. -/
theorem armSlots_show (i : Nat) (mask : Word) (n : Nat) :
    frame s ((List.range n).foldl (armSlot i mask) s) [.host] (fun _ => False) ∧
    (∀ j, j < n → mask.field j 1 = 1 → (((List.range n).foldl (armSlot i mask) s).slotAt (64 * i + j)).armed = true ∧
      (((List.range n).foldl (armSlot i mask) s).slotAt (64 * i + j)).status = stNOT_READY) ∧
    ∀ k, (k < 64 * i ∨ 64 * i + n ≤ k ∨ mask.field (k - 64 * i) 1 = 0) → ((List.range n).foldl (armSlot i mask) s).slotAt k = s.slotAt k := by
  induction n with
  | zero => exact ⟨frame_refl .., fun j h => absurd h (Nat.not_lt_zero j), fun _ _ => rfl⟩
  | succ n ih =>
    rw [List.range_succ, List.foldl_append, List.foldl_cons, List.foldl_nil]
    generalize (List.range n).foldl (armSlot i mask) s = t at ih ⊢
    obtain ⟨framed, armed, others⟩ := ih
    refine ⟨frame_trans framed (frame_armSlot i mask n), fun j hj hm => ?_, fun k hk => ?_⟩
    · rcases Nat.lt_or_eq_of_le (Nat.le_of_lt_succ hj) with hlt | rfl
      · rw [armSlot_other fun _ => by omega]
        exact armed j hlt hm
      · rw [armSlot_set hm]
        exact ⟨rfl, rfl⟩
    · rw [armSlot_other ?_]
      · exact others k (hk.imp id (Or.imp (fun h => by omega) id))
      · rintro hm rfl
        rcases hk with h | h | h
        · omega
        · omega
        · rw [Nat.add_sub_cancel_left, hm] at h; cases h

/-! ## Doorbell pages (R417, R428) -/

variable {v page : Nat}
theorem doorbell_none (h : s.pageRing v page = none) (k : Nat → State → State) : s.doorbell v page k = s.inc RING_CNT_DB_NONE.V := by
  rw [doorbell, h]
theorem doorbell_ring (h : s.pageRing v page = some i) (k : Nat → State → State) : s.doorbell v page k = k i s := by
  rw [doorbell, h]

/-! ## RING frames (R431) -/

/-- A frame leaves its hub queue. -/
def unsteer (s : State) (x : Steered) : State := s.withFwd { s.fwd with steer := s.fwd.steer.erase x }
theorem frame_unsteer (x : Steered) : frame s (s.unsteer x) [.fwd] (fun _ => False) := frame_withFwd _ (by decide)
theorem rf_unsteer (x : Steered) (r : Rf) : (s.unsteer x).rf r = s.rf r := rf_of_frame (frame_unsteer x) id

section
variable {x : Steered} {op : Nat} {k : Frame → State → State} (hx : s.fwd.steer.find? (fun y => y.place == .ring) = some x) (ho : x.frame.op = op)
include hx ho

theorem takeHub_ring : s.takeHub .ring (fun f => f.op == op || !(f.op == 1 || f.op == 2 || f.op == 3)) = some (x, s.unsteer x) := by
  rw [takeHub, hx]
  simp [ho, unsteer]
theorem ringFrame_accepted (ha : s.ringAccepts x.frame = true) : s.ringFrame op k = k x.frame (s.unsteer x) := by
  have accepts : (s.unsteer x).ringAccepts x.frame = true := ha
  rw [ringFrame, takeHub_ring hx ho]
  simp [ho, accepts]
theorem ringFrame_denied (ha : s.ringAccepts x.frame = false) :
    s.ringFrame op k = ((s.unsteer x).inc RING_CNT_DB_DENIED.V).reqReport 0x05 0 stDENIED (unitHub 0) x.frame := by
  have accepts : (s.unsteer x).ringAccepts x.frame = false := ha
  rw [ringFrame, takeHub_ring hx ho]
  simp [ho, accepts]

/-- A RING frame that is not accepted. -/
theorem ringFrame_denied_shows (ha : s.ringAccepts x.frame = false) {t : State} (ht : s.ringFrame op k = t) :
    t.fwd.steer = s.fwd.steer.erase x ∧ t.host = s.host ∧ t.reg RING_CNT_DB_DENIED.a = Word.ofN ((s.reg RING_CNT_DB_DENIED.a).toNat + 1) ∧
    noted s t clREQUEST 5 0 0x08 := by
  obtain ⟨counted, framed⟩ := inc_counts (s := s.unsteer x) RING_CNT_DB_DENIED.V
  have gone : sent 0 s ((s.unsteer x).inc RING_CNT_DB_DENIED.V) :=
    (sent_of_frame (frame_unsteer x) (by decide) fun _ _ => id).then (sent_inc _ (by decide))
  have fwd : ((s.unsteer x).inc RING_CNT_DB_DENIED.V).fwd.steer = s.fwd.steer.erase x := congrArg (·.steer) (framed.1 .fwd (by decide))
  have host : ((s.unsteer x).inc RING_CNT_DB_DENIED.V).host = s.host := framed.1 .host (by decide)
  rw [ringFrame_denied hx ho ha] at ht
  subst ht
  have recorded := recorded_report (s := (s.unsteer x).inc RING_CNT_DB_DENIED.V)
    ⟨clREQUEST, 0x05, 0, stDENIED, unitHub 0, x.frame.harness, bytesLE 4 x.frame.src ++ bytesLE 4 x.frame.dst ++ bytesLE 1 x.frame.op⟩
    (show clREQUEST < 256 by decide)
  refine ⟨(congrArg (·.steer) (recorded.1 .fwd (by decide))).trans fwd, (recorded.1 .host (by decide)).trans host, ?_,
    noted_of_sent gone (noted_report (show 0 < 2 by decide))⟩
  exact (recorded.2.1 _ (not_recordReg_hrn (by decide) (by decide))).trans counted
end

/-! ## Messages (R432) -/

variable {f : Frame}
/-- The first frame of a message of more is held. -/
theorem submitFrame_held (hf : f.first = true) (hl : f.last = false) (hm : s.host.submits = []) :
    s.submitFrame f = s.withHost { s.host with submits := [⟨f.ctx, f.src, f.seq, f.payload⟩] } := by
  simp [submitFrame, hf, hl, hm]
/-- A message of one frame is whole. -/
theorem submitFrame_whole (hf : f.first = true) (hl : f.last = true) (hm : s.host.submits = []) (hp : f.payload.length = 64) :
    s.submitFrame f = (s.withHost { s.host with submits := [] }).submitEnd f.ctx f.payload := by
  have full : f.payload ≠ [] := fun e => by simp [e] at hp
  simp [submitFrame, hf, hl, hm, hp, full]

/-- A write none of whose partial words fails to decode, with nothing in flight. -/
theorem memWrite_runs {h : Nat} {rs : List (Nat × Nat)} (bs : List Byte) (hb : rs.flatMap (fun r => s.mem.mergeFails h r.1 r.2) = [])
    (hf : s.comp.flights = []) :
    (s.memWrite h rs bs).2.mem = s.mem.writeRuns h rs bs ∧ frame s (s.memWrite h rs bs).2 [.mem, .power] (fun _ => False) := by
  have stored : (s.memWrite h rs bs).2 = (s.withMem (s.mem.writeRuns h rs bs)).wakeHbm rs := by
    simp only [memWrite, hb, List.map_nil, memEvents, List.foldl_nil]
    rw [taintBy_none (s := s.withMem (s.mem.writeRuns h rs bs)) hf]
  have wake := frame_wakeHbm (s := s.withMem (s.mem.writeRuns h rs bs)) rs
  rw [stored]
  exact ⟨wake.1 .mem (by decide), frame_trans (frame_withMem _ (by decide)) (frame_mono wake (by decide) fun _ => id)⟩

/-- One entry is written at the tail of a PAUSED ring of H. -/
theorem submitEnd_paused {bs : List Byte} {rs : List (Nat × Nat)} (hp : bs.length = 64) (hr : s.sqWait i + 1 < s.sqSize i) (hz : s.sqSize i ≤ 65536)
    (h3 : s.ringState i = 3) (ht : s.sqTail i < s.sqSize i)
    (hh : s.hRange (s.ringH i) (s.rf (RING_SQ_BASE.V i) + 64 * s.sqTail i) 64 = some rs)
    (hb : rs.flatMap (fun r => s.mem.mergeFails (s.ringH i) r.1 r.2) = []) (hf : s.comp.flights = []) :
    (s.submitEnd i bs).mem = s.mem.writeRuns (s.ringH i) rs bs ∧ (s.submitEnd i bs).sqTail i = (s.sqTail i + 1) % s.sqSize i ∧
    frame s (s.submitEnd i bs) [.mem, .power] (fun a => a = RING_STS.a i) := by
  have put : (s.dmaPut (s.ringH i) (s.rf (RING_SQ_BASE.V i) + 64 * ((s.sqTail i + 0) % s.sqSize i)) ((bs.drop (64 * 0)).take 64)).2 =
      (s.memWrite (s.ringH i) rs bs).2 := by
    rw [Nat.add_zero, Nat.mod_eq_of_lt ht, Nat.mul_zero, List.drop_zero, List.take_of_length_le hp.le, dmaPut, hp, hh]
  obtain ⟨mem, framed⟩ := memWrite_runs (s := s) bs hb hf
  have ended : s.submitEnd i bs = ((s.memWrite (s.ringH i) rs bs).2.wf (RING_STS.SQ_TAIL i) ((s.sqTail i + 1) % s.sqSize i)).advance i := by
    rw [submitEnd, hp]
    simp only [show 64 / 64 = 1 from rfl, if_neg (show ¬ s.sqSize i - 1 < s.sqWait i + 1 by omega), List.range_one, List.foldl_cons, List.foldl_nil, put]
  have fits : (s.sqTail i + 1) % s.sqSize i < 2 ^ 16 := (Nat.mod_lt _ (Nat.zero_lt_of_lt ht)).trans_le (hz.trans (by decide))
  generalize (s.sqTail i + 1) % s.sqSize i = n at *
  generalize (s.memWrite (s.ringH i) rs bs).2 = u at *
  obtain ⟨tail, state⟩ := wf_sqTail_shows (s := u) i fits
  have paused : (u.wf (RING_STS.SQ_TAIL i) n).ringState i = 3 := state.trans ((rf_of_frame framed id).trans h3)
  rw [ended, advance_idle fun h => by rw [paused] at h; cases h]
  exact ⟨(wf_mem ..).trans mem, tail, frame_trans (frame_mono framed (fun _ => id) fun _ => False.elim) (frame_wf _ _ rfl)⟩

/-! ## What an accepted frame names (R431) -/

theorem ringAccepts_ctx (h : s.ringAccepts f = true) : f.ctx < 8192 := by
  simp only [ringAccepts, Bool.and_eq_true, decide_eq_true_eq] at h
  exact h.1.1.1.1
theorem sqSize_unsteer (x : Steered) (i : Nat) : (s.unsteer x).sqSize i = s.sqSize i := congrArg (2 ^ ·) (rf_unsteer x _)
theorem cqSize_unsteer (x : Steered) (i : Nat) : (s.unsteer x).cqSize i = s.cqSize i := congrArg (2 ^ ·) (rf_unsteer x _)
theorem sqWait_unsteer (x : Steered) (i : Nat) : (s.unsteer x).sqWait i = s.sqWait i :=
  sqWait_congr ((frame_unsteer x).2.1 _ id) (rf_unsteer x _) (rf_unsteer x _)
theorem cqFreed_unsteer (x : Steered) (i h : Nat) : (s.unsteer x).cqFreed i h = s.cqFreed i h := by
  rw [cqFreed, cqFreed, cqSize_unsteer, rf_unsteer]
theorem leNat_lt (l : List Byte) : leNat l < 256 ^ l.length := by
  induction l with
  | nil => exact Nat.one_pos
  | cons b l ih =>
    have byte : b.toNat < 256 := b.isLt
    rw [leNat, List.length_cons, Nat.pow_succ]
    omega
/-- Two bytes hold a head or a tail. -/
theorem leAt_two_lt (l : List Byte) (k : Nat) : leAt l k 2 < 2 ^ 16 :=
  (leNat_lt _).trans_le (Nat.pow_le_pow_right (by decide) (List.length_take_le 2 _))

end State
open State

/-- A doorbell page of an enabled ring pair. -/
theorem doorbell_shows {s : State} {v : Fin 256} {page : Fin 8192} {i : Nat} (x : BitVec 16) (mask : Word) (l : List (List Byte)) (hu : awake s)
    (hp : s.pageRing v page = some i) (hi : i < 8192) :
    (x.toNat < s.sqSize i → runs (.sqTail v page x l) s (fun t => t.sqTail i = x.toNat)) ∧
    (s.sqSize i ≤ x.toNat →
      runs (.sqTail v page x l) s (fun t => t.ringState i = 4 ∧ t.rf (RING_STS2.CAUSE i) = 0x0E ∧ t.sqTail i = s.sqTail i)) ∧
    (x.toNat < s.cqSize i → s.cqFreed i x.toNat ≤ s.cqUsed i → s.sqWait i = 0 →
      runs (.cqHead v page x) s (fun t => t.rf (RING_STS2.CQ_HEAD i) = x.toNat ∧ t.cqUsed i = s.cqUsed i - s.cqFreed i x.toNat ∧
        s.frame t [.host] (fun a => a = RING_STS2.a i))) ∧
    (s.cqSize i ≤ x.toNat ∨ s.cqUsed i < s.cqFreed i x.toNat →
      runs (.cqHead v page x) s (fun t => t.ringState i = 4 ∧ t.rf (RING_STS2.CAUSE i) = 0x0E)) ∧
    runs (.slotArm v page mask) s (fun t =>
      (∀ j, j < 64 → mask.field j 1 = 1 → (t.slotAt (64 * i + j)).armed = true ∧ (t.slotAt (64 * i + j)).status = 0x01) ∧
      (∀ k, (k < 64 * i ∨ 64 * i + 64 ≤ k ∨ mask.field (k - 64 * i) 1 = 0) → t.slotAt k = s.slotAt k) ∧
      s.frame t [.host] (fun _ => False)) := by
  have door {c : Instr} {k : Nat → State → State} {Q : State → Prop} (he : exec c s = unheld s (s.doorbell v page k)) (h : Q (k i s)) : runs c s Q :=
    runs_unheld hu he (by rwa [doorbell_ring hp])
  obtain ⟨state, cause, tail⟩ := ringError_shows (s := s) hi (cause := stREJECT) (by decide)
  refine ⟨fun hx => door rfl (doorSq_within hi hx x.isLt l).1, fun hx => door rfl ?_, fun hx hf hq => door rfl (doorCq_within hx x.isLt hf hq),
    fun hx => door rfl ?_, door rfl ?_⟩
  · rw [doorSq_outside hx]
    exact ⟨state, cause, tail⟩
  · rw [doorCq_outside hx]
    exact ⟨state, cause⟩
  · obtain ⟨framed, armed, others⟩ := armSlots_show (s := s) i mask 64
    rw [doorArm_eq]
    exact ⟨armed, others, framed⟩

/-- A RING frame that is accepted. -/
theorem ringFrame_shows {s : State} {x : Steered} {op : Nat} (l : List (List Byte)) (hu : awake s)
    (hx : s.fwd.steer.find? (fun y => y.place == .ring) = some x) (ho : x.frame.op = op) (ha : s.ringAccepts x.frame = true) :
    (op = 1 → leAt x.frame.payload 0 2 < s.sqSize x.frame.ctx →
      runs (.sqDb l) s (fun t => t.fwd.steer = s.fwd.steer.erase x ∧ t.sqTail x.frame.ctx = leAt x.frame.payload 0 2)) ∧
    (op = 2 → leAt x.frame.payload 0 2 < s.cqSize x.frame.ctx → s.sqWait x.frame.ctx = 0 →
      s.cqFreed x.frame.ctx (leAt x.frame.payload 0 2) ≤ s.cqUsed x.frame.ctx →
      runs .cqDb s (fun t => t.fwd.steer = s.fwd.steer.erase x ∧ t.rf (RING_STS2.CQ_HEAD x.frame.ctx) = leAt x.frame.payload 0 2)) ∧
    (op = 3 → x.frame.first = true → x.frame.last = false → s.host.submits = [] →
      runs .submit s (fun t => t.fwd.steer = s.fwd.steer.erase x ∧
        t.host.submits = [⟨x.frame.ctx, x.frame.src, x.frame.seq, x.frame.payload⟩] ∧ s.frame t [.fwd, .host] (fun _ => False))) := by
  have take {c : Instr} {k : Frame → State → State} {Q : State → Prop} (he : exec c s = unheld s (s.ringFrame op k))
      (h : Q (k x.frame (s.unsteer x))) : runs c s Q := runs_unheld hu he (by rwa [ringFrame_accepted hx ho ha])
  have hc := ringAccepts_ctx ha
  have fits := leAt_two_lt x.frame.payload 0
  refine ⟨?_, ?_, ?_⟩
  · rintro rfl hl
    obtain ⟨tail, fwd⟩ := doorSq_within hc ((sqSize_unsteer x _).symm ▸ hl) fits l
    exact take rfl ⟨congrArg (·.steer) fwd, tail⟩
  · rintro rfl hl hq hf
    obtain ⟨head, -, framed⟩ := doorCq_within (s := s.unsteer x) (by rwa [cqSize_unsteer]) fits (by rwa [cqFreed_unsteer]) (by rwa [sqWait_unsteer])
    exact take rfl ⟨congrArg (·.steer) (framed.1 .fwd (by decide)), head⟩
  · rintro rfl hf hl hm
    refine take rfl ?_
    rw [submitFrame_held (s := s.unsteer x) hf hl hm]
    exact ⟨rfl, rfl, frame_trans (frame_mono (frame_unsteer x) (by decide) fun _ => id) (frame_withHost _ (by decide))⟩

/-- A whole message of one entry, of a PAUSED ring of H with room. -/
theorem submit_whole {s : State} {x : Steered} {rs : List (Nat × Nat)} (hu : awake s)
    (hx : s.fwd.steer.find? (fun y => y.place == .ring) = some x) (ho : x.frame.op = 3) (ha : s.ringAccepts x.frame = true)
    (hf : x.frame.first = true) (hl : x.frame.last = true) (hm : s.host.submits = []) (hp : x.frame.payload.length = 64)
    (hr : s.sqWait x.frame.ctx + 1 < s.sqSize x.frame.ctx) (hz : s.sqSize x.frame.ctx ≤ 65536) (h3 : s.ringState x.frame.ctx = 3)
    (ht : s.sqTail x.frame.ctx < s.sqSize x.frame.ctx)
    (hh : s.hRange (s.ringH x.frame.ctx) (s.rf (RING_SQ_BASE.V x.frame.ctx) + 64 * s.sqTail x.frame.ctx) 64 = some rs)
    (hb : rs.flatMap (fun r => s.mem.mergeFails (s.ringH x.frame.ctx) r.1 r.2) = []) (hi : s.comp.flights = []) :
    runs .submit s (fun t => t.fwd.steer = s.fwd.steer.erase x ∧ t.mem = s.mem.writeRuns (s.ringH x.frame.ctx) rs x.frame.payload ∧
      t.sqTail x.frame.ctx = (s.sqTail x.frame.ctx + 1) % s.sqSize x.frame.ctx ∧
      s.frame t [.fwd, .mem, .host, .power] (fun a => a = RING_STS.a x.frame.ctx)) := by
  refine runs_unheld (u := s.ringFrame 3 (fun f t => t.submitFrame f)) hu rfl ?_
  rw [ringFrame_accepted hx ho ha, submitFrame_whole (s := s.unsteer x) hf hl hm hp]
  have steer : ((s.unsteer x).withHost { (s.unsteer x).host with submits := [] }).fwd.steer = s.fwd.steer.erase x := rfl
  have framed : s.frame ((s.unsteer x).withHost { (s.unsteer x).host with submits := [] }) [.fwd, .host] (fun _ => False) :=
    frame_trans (frame_mono (frame_unsteer x) (by decide) fun _ => id) (frame_withHost _ (by decide))
  generalize (s.unsteer x).withHost { (s.unsteer x).host with submits := [] } = u at *
  have same (r : Rf) : u.rf r = s.rf r := rf_of_frame framed id
  have mem : u.mem = s.mem := framed.1 .mem (by decide)
  have comp : u.comp = s.comp := framed.1 .comp (by decide)
  have tail : u.sqTail x.frame.ctx = s.sqTail x.frame.ctx := same _
  have size : u.sqSize x.frame.ctx = s.sqSize x.frame.ctx := congrArg (2 ^ ·) (same _)
  have wait : u.sqWait x.frame.ctx = s.sqWait x.frame.ctx := sqWait_congr (framed.2.1 _ id) (same _) tail
  have harness : u.ringH x.frame.ctx = s.ringH x.frame.ctx := same _
  have state : u.ringState x.frame.ctx = s.ringState x.frame.ctx := same _
  have range := hRange_of_frame framed (by rw [mem]) (fun _ => False.elim)
  obtain ⟨stored, advanced, wrote⟩ := submitEnd_paused (s := u) (i := x.frame.ctx) (rs := rs) hp (by rwa [wait, size]) (by rwa [size]) (by rwa [state])
    (by rwa [tail, size]) (by rwa [range, harness, same, tail]) (by rwa [mem, harness]) (by rwa [comp])
  rw [mem, harness] at stored
  rw [tail, size] at advanced
  exact ⟨(congrArg (·.steer) (wrote.1 .fwd (by decide))).trans steer, stored, advanced,
    frame_trans (frame_mono framed (by decide) fun _ => False.elim) (frame_mono wrote (by decide) fun _ => id)⟩

/-- Settles O40, doorbell by doorbell: what a ring pair does as it goes on leaves its submission tail and the hubs' queues, so a doorbell's
own write shows; a RING frame acts on the state it has left the queue of. -/
theorem ringDoorbells : Obligations.RingDoorbells := by
  unfold Obligations.RingDoorbells
  refine ⟨fun s v page x mask l hu => ⟨fun hp c hc => ?_, fun i hp hi => doorbell_shows x mask l hu hp hi⟩,
    fun s l x c op hu hx ho hc => ⟨fun ha => ?_, fun ha => ?_⟩⟩
  · have counted := inc_counts (s := s) RING_CNT_DB_NONE.V
    rcases hc with rfl | rfl | rfl <;> exact runs_unheld hu rfl (by rw [doorbell_none hp]; exact counted)
  · have denied {k : Frame → State → State} := ringFrame_denied_shows (k := k) hx ho ha rfl
    rcases hc with ⟨rfl, rfl⟩ | ⟨rfl, rfl⟩ | ⟨rfl, rfl⟩ <;> exact runs_unheld hu rfl denied
  · obtain ⟨sq, cq, held⟩ := ringFrame_shows l hu hx ho ha
    rcases hc with ⟨rfl, rfl⟩ | ⟨rfl, rfl⟩ | ⟨rfl, rfl⟩
    · exact ⟨sq, (nomatch ·), (nomatch ·), fun _ => (nomatch ·)⟩
    · exact ⟨(nomatch ·), cq, (nomatch ·), fun _ => (nomatch ·)⟩
    · exact ⟨(nomatch ·), (nomatch ·), held, fun _ _ hf hl hm hp hr hz h3 ht hh hb hi =>
        submit_whole hu hx ho ha hf hl hm hp hr hz h3 ht hh hb hi⟩

end Sys2Proof.Machine
end

section
/-! PROOF. The obligation on ring commands (R422): a HALT whose crux die byte names no crux die of the device. -/
namespace Sys2Proof.Machine
open State

/-- A HALT whose byte 16 names crux die 16 and whose CORE_MASK names core 3 of it. -/
def highDieHalt : List Byte := padTo 64 0 (bytesLE 1 0x12 ++ List.replicate 15 0 ++ bytesLE 2 16 ++ bytesLE 4 8)
/-- Core 3 of crux die 0 is bound to harness 5 and RUNNING; the HALT stands alone at the submission head of ring pair 2, which is ACTIVE and
of harness 5, its rings of 64 entries in host memory. -/
def highDieState : State :=
  { [(CRX_CORE_STS.STATE 3, 2), (CRX_CORE_STS.HARNESS 3, 5), (RING_CFG.SQ_LOG2 2, 6), (RING_CFG.CQ_LOG2 2, 6), (RING_CFG.HARNESS 2, 5),
      (RING_STS.STATE 2, 1), (RING_STS.SQ_TAIL 2, 1)].foldl (fun t x => t.wf x.1 x.2) State.reset with
    comp := { CompSt.initial with cores := [(3, { CoreSt.initial with bound := true })] }
    host := { HostSt.initial with opened := [2], cache := [(65536 * 2, highDieHalt)] } }

theorem highDie_heads : awake highDieState ∧ highDieState.heads 2 0x12 [highDieHalt] := by
  refine ⟨rfl, ?_, ?_, ?_, ?_, ?_, ?_, .inl ?_⟩ <;> decide +kernel
/-- The core that the entry names, core 3 of crux die 16, is none that is bound. -/
theorem highDie_core : 515 ∈ maskCores (leAt (highDieHalt.drop 16) 0 1) (leAt (highDieHalt.drop 16) 2 4) ∧
    highDieState.boundCore 515 = false := by decide +kernel
/-- What the command leaves. -/
def highDieHalted : State := highDieState.ringOp 2 0x12 (fun t r => t.ringMask r (fun k u => u.haltCore k))
/-- The model halts core 3 of crux die 0 in its place, and ends the command with OK. -/
theorem highDie_ends : (highDieHalted.host.runs.map (·.ended)) = [some ⟨stOK, 0, []⟩] ∧ highDieHalted.cstate 3 = 1 := by decide +kernel

/-- Refutes O42, by a crux die byte of 16 or more: the cores of a GO or HALT are those of the whole byte in the statement, none of which is
bound, so that the command ends with DENIED (R422); the model takes the byte modulo 16, and the HALT of crux die 16 halts a core of crux
die 0 and ends with OK. -/
theorem not_ringCommands : ¬ Obligations.RingCommands := by
  unfold Obligations.RingCommands
  rintro ⟨starts, -⟩
  obtain ⟨up, heads⟩ := highDie_heads
  obtain ⟨-, -, -, denied, -⟩ := starts highDieState 2 [highDieHalt] _ up rfl
  have halted : exec (.ringHalt 2) highDieState = .next highDieHalted := rfl
  obtain ⟨runs, -⟩ := of_runs halted (denied (.ringHalt 2) (.inr ⟨rfl, heads⟩) ⟨515, highDie_core.1, .inl highDie_core.2⟩)
  have ended := congrArg (List.map (·.ended)) runs
  rw [highDie_ends.1] at ended
  exact absurd ended (show [some (⟨stOK, 0, []⟩ : RingEnd)] ≠ [some ⟨0x08, 0, []⟩] by decide)

end Sys2Proof.Machine
end

section
/-! PROOF. How a step runs, and what a device held in reset does (R574): every command but an event of a pin takes the state its meaning
answers only where the device is not held. -/
namespace Sys2Proof.Machine
open State

/-- Command `c`, where its operands are well formed, answers `f` of the state, but for an event of a pin only where the device is awake;
ill-formed operands are a fault. -/
def answers (c : Instr) (f : State → State) : Prop :=
  (c.wf = true → ∀ s, exec c s = if c.pin then .next (f s) else unheld s (f s)) ∧
    (c.wf = false → ∃ m, ∀ s, exec c s = .fault (.illFormed m))

variable {c : Instr} {f : State → State}

theorem answers_pin (hw : c.wf = true) (hp : c.pin = true) (h : ∀ s, exec c s = .next (f s)) : answers c f :=
  ⟨fun _ s => by rw [h, if_pos hp], fun hn => absurd (hw.symm.trans hn) (by decide)⟩
theorem answers_plain (hw : c.wf = true) (hp : c.pin = false) (h : ∀ s, exec c s = unheld s (f s)) : answers c f :=
  ⟨fun _ s => by rw [h, hp]; rfl, fun hn => absurd (hw.symm.trans hn) (by decide)⟩
theorem answers_shaped {p : Prop} [Decidable p] {m : String} (hw : p ↔ c.wf = true) (hp : c.pin = false)
    (h : ∀ s, exec c s = if p then unheld s (f s) else .fault (.illFormed m)) : answers c f :=
  ⟨fun hc s => by rw [h, if_pos (hw.mpr hc), hp]; rfl, fun hn => ⟨m, fun s => by rw [h, if_neg fun k => absurd ((hw.mp k).symm.trans hn)
    (by decide)]⟩⟩

theorem beq_and_beq {a b c d : Nat} : (a = b ∧ c = d) ↔ (a == b && c == d) = true := by simp

/-- Every command answers: an event of a pin always, a row whose operands a rule shapes where they have that shape,
every other row where the
device is awake. -/
theorem exec_answers (c : Instr) : ∃ f, answers c f := by
  cases c with
  | perstNRelease | perstNAssert | pwrgdRise | pwrgdFall | railDrop | refclkLoss | thermalAlarm | thermtrip | vddAonRemoval | sidebandRead
    | alertResponse | jtagInstruction | laserEnRise | laserEnFall => exact ⟨_, answers_pin rfl rfl fun _ => rfl⟩
  | partner | linkFrameReceive | voltageTrim | marginReport | marginNow | laneMarginRefresh | lifetimeSample =>
    exact ⟨_, answers_shaped beq_iff_eq.symm rfl fun _ => rfl⟩
  | reservedLtype => exact ⟨_, answers_shaped decide_eq_true_iff.symm rfl fun _ => rfl⟩
  | atomic => exact ⟨_, answers_shaped (by rw [← beq_iff_eq, ← Bool.and_eq_true]; rfl) rfl fun _ => rfl⟩
  | load | store | storeQuiet | loadRsp | storeAck | atomicRsp | contrib | ropePartial | ropeResult | credit | summary | counts | a2a
    | ropeAbortFrame | token | dispatch | output | fetch | block => exact ⟨_, answers_shaped beq_and_beq rfl fun _ => rfl⟩
  | vreSum | vreDot | vreAxpy | vreMin | vreMax | vreSumPair | vreDotPair | gseGather | gseScatter | gseScatadd | sseSort | sseTopk
    | sseSelect | sseCompact | sseFilter | sseDedup | sseHist | tenMma | cdcCvt | cdcMxq | cdcUnpack | cdcPack | cdcSpx | cdcSpc
    | cdcSplit | cdcCrc | cdcRes | cdcCrcChk | cdcResChk | fdeMove | fdePut | fdeAmo =>
    exact ⟨_, answers_shaped Iff.rfl rfl fun _ => rfl⟩
  | wakeToleranceWrite src h v => cases h <;> exact ⟨_, answers_plain rfl rfl fun _ => rfl⟩
  | deviceFault ue => cases ue <;> exact ⟨_, answers_plain rfl rfl fun _ => rfl⟩
  | _ => exact ⟨_, answers_plain rfl rfl fun _ => rfl⟩

/-- Settles O1: both clauses are the definition of a step. -/
theorem stepRunsFront : Obligations.StepRunsFront := by
  unfold Obligations.StepRunsFront
  refine ⟨fun s c r => rfl, fun s h => ?_⟩
  rw [step, h]

/-- Settles O2: a command that is no pin's takes its meaning's state only where the device is awake. -/
theorem heldInReset : Obligations.HeldInReset := by
  unfold Obligations.HeldInReset
  intro c s hh hp hw
  obtain ⟨f, runs, -⟩ := exec_answers c
  rw [runs hw s, hp, if_neg (by decide), unheld, if_pos hh]

/-- Settles O4: every command answers, and the only other outcome is the fault of ill-formed operands. -/
theorem everyCommandRuns : Obligations.EveryCommandRuns := by
  unfold Obligations.EveryCommandRuns
  intro c s
  obtain ⟨f, runs, faults⟩ := exec_answers c
  have next (hw : c.wf = true) : ∃ t, exec c s = .next t := by
    rw [runs hw s]
    cases c.pin
    · exact ⟨_, rfl⟩
    · exact ⟨_, rfl⟩
  have fault (hw : c.wf = false) : ∃ m, exec c s = .fault (.illFormed m) := (faults hw).imp fun _ h => h s
  refine ⟨next, fault, fun r hr => ?_⟩
  cases hw : c.wf
  · obtain ⟨m, hm⟩ := fault hw
    exact nomatch hm.symm.trans hr
  · obtain ⟨t, ht⟩ := next hw
    exact nomatch ht.symm.trans hr

/-- Time that passes leaves a held device as it is. -/
theorem tick_held {s : State} (h : s.boot.held = true) : s.tick = s := if_pos h

/-- Settles O3: the command at the front is no pin's,
so a held device keeps everything but that command; with none waiting no time passes. -/
theorem asleepKept : Obligations.AsleepKept := by
  unfold Obligations.AsleepKept
  rintro s t ⟨held, quiet⟩ hs
  cases hq : s.pending with
  | nil =>
    rw [stepRunsFront.2 s hq, tick_held held] at hs
    cases hs
    exact ⟨held, quiet⟩
  | cons c rest =>
    rw [hq] at quiet
    have front : exec c { s with pending := rest } = .next t := by rwa [step, hq] at hs
    cases hw : c.wf
    · obtain ⟨-, fault, -⟩ := everyCommandRuns c { s with pending := rest }
      obtain ⟨m, hm⟩ := fault hw
      exact nomatch hm.symm.trans front
    · rw [heldInReset c { s with pending := rest } held (quiet c (by simp)) hw] at front
      cases front
      exact ⟨held, fun d hd => quiet d (List.mem_cons_of_mem c hd)⟩

end Sys2Proof.Machine
end

section
/-! PROOF. Every step keeps registers, ports and memory in canonical form: one lemma per function of the model that answers a state, in the
order and under the file names of the model; its proof is the chain of state operations the function makes. -/
namespace Sys2Proof.Machine
namespace State
-- One proof after another: each makes the model's unfolding equation, and many at once take more memory than the check gives.
set_option Elab.async false

variable {s : State}

/-- The state lists registers, ports and memory with keys strictly rising. -/
structure tidy (s : State) : Prop where
  regs : rising s.regs = true
  ports : rising s.ports = true
  mem : Memory.wf s.mem.cells = true

theorem tidy_iff : s.tidy ↔ s.canon := ⟨fun h => ⟨h.regs, h.ports, h.mem⟩, fun h => ⟨h.1, h.2.1, h.2.2⟩⟩
/-- A state that differs from a tidy one only beside registers, ports and memory is tidy. -/
theorem tidy.same {t : State} (h : s.tidy) (hr : t.regs = s.regs := by rfl) (hp : t.ports = s.ports := by rfl)
    (hm : t.mem = s.mem := by rfl) : t.tidy :=
  ⟨hr ▸ h.regs, hp ▸ h.ports, hm ▸ h.mem⟩
theorem tidy.ite {c : Prop} [Decidable c] {t : State} (h : s.tidy) (ht : t.tidy) : (if c then s else t).tidy := by
  split
  · exact h
  · exact ht
theorem tidy.foldl {α : Type} {l : List α} {f : State → α → State} (h : s.tidy) (hf : ∀ t x, t.tidy → (f t x).tidy) :
    (l.foldl f s).tidy :=
  List.foldlRecOn l f h fun t ht x _ => hf t x ht

/-! ## Ops -/

theorem tidy.setReg {a v} (hs : s.tidy) : (s.setReg a v).tidy := ⟨rising_sparseSet _ _ _ _ hs.regs, hs.ports, hs.mem⟩
theorem tidy.wf {x v} (hs : s.tidy) : (s.wf x v).tidy := hs.setReg
theorem tidy.count {x n} (hs : s.tidy) : (s.count x n).tidy := by
  unfold State.count
  extract_lets v t
  have ht : t.tidy := hs.setReg
  exact .ite ht.same ht
theorem tidy.inc {x} (hs : s.tidy) : (s.inc x).tidy := hs.count
theorem tidy.satInc {x n} (hs : s.tidy) : (s.satInc x n).tidy := hs.wf
theorem tidy.freeW (hs : s.tidy) : s.freeW.2.tidy := by
  unfold State.freeW
  exact hs.same
theorem tidy.freeB {n} (hs : s.tidy) : (s.freeB n).2.tidy := by
  unfold State.freeB
  exact hs.same
theorem tidy.emit {o} (hs : s.tidy) : (s.emit o).tidy := hs.same
theorem tidy.lifeInc {i} (hs : s.tidy) : (s.lifeInc i).tidy := hs.inc
theorem tidy.withPorts {v} (hs : s.tidy) (hv : rising v = true) : (s.withPorts v).tidy := ⟨hs.regs, hv, hs.mem⟩
theorem tidy.withFwd {v} (hs : s.tidy) : (s.withFwd v).tidy := hs.same
theorem tidy.withFault {v} (hs : s.tidy) : (s.withFault v).tidy := hs.same
theorem tidy.withTime {v} (hs : s.tidy) : (s.withTime v).tidy := hs.same
theorem tidy.withMem {m v : MemSt} (hs : s.tidy) (hm : Memory.wf m.cells = true) (e : v.cells = m.cells := by rfl) : (s.withMem v).tidy :=
  ⟨hs.regs, hs.ports, e ▸ hm⟩
theorem tidy.withBoot {v} (hs : s.tidy) : (s.withBoot v).tidy := hs.same
theorem tidy.withMfb {v} (hs : s.tidy) : (s.withMfb v).tidy := hs.same
theorem tidy.withHrn {v} (hs : s.tidy) : (s.withHrn v).tidy := hs.same
theorem tidy.withComp {v} (hs : s.tidy) : (s.withComp v).tidy := hs.same
theorem tidy.withRope {v} (hs : s.tidy) : (s.withRope v).tidy := hs.same
theorem tidy.withHost {v} (hs : s.tidy) : (s.withHost v).tidy := hs.same
theorem tidy.withGate {v} (hs : s.tidy) : (s.withGate v).tidy := hs.same
theorem tidy.withCairn {v} (hs : s.tidy) : (s.withCairn v).tidy := hs.same
theorem tidy.withPower {v} (hs : s.tidy) : (s.withPower v).tidy := hs.same
theorem tidy.withTel {v} (hs : s.tidy) : (s.withTel v).tidy := hs.same
theorem tidy.wakeTen {c} (hs : s.tidy) : (s.wakeTen c).tidy := .ite hs.withPower hs
theorem tidy.wakeHbm {rs} (hs : s.tidy) : (s.wakeHbm rs).tidy := .ite hs.withPower hs
theorem tidy.setPort {P p} (hs : s.tidy) : (s.setPort P p).tidy := hs.withPorts (rising_sparseSet _ _ _ _ hs.ports)

/-! ## Record -/

theorem tidy.setWoItems {p l} (hs : s.tidy) : (s.setWoItems p l).tidy := .ite hs.withFault hs.withFault
theorem tidy.setWo {p w} (hs : s.tidy) : (s.setWo p w).tidy := .ite hs.withFault hs.withFault
theorem tidy.woSettle {p} (hs : s.tidy) : (s.woSettle p).tidy := by
  unfold State.woSettle
  extract_lets o s1
  have hs1 : s1.tidy := hs.wf.wf
  exact .ite hs1.wf.satInc.setWo.lifeInc hs1
theorem tidy.woDrop {p k} (hs : s.tidy) : (s.woDrop p k).tidy := by
  unfold State.woDrop
  exact hs.inc.setWo
theorem tidy.evictFor {p n x2} (hs : s.tidy) : (State.evictFor p n x2 s).tidy := by
  induction x2 generalizing p n s with
  | zero =>
    unfold State.evictFor
    exact hs
  | succ k ih =>
    unfold State.evictFor
    refine .ite hs ?_
    split
    · exact hs
    · exact ih hs.setWoItems.woDrop
theorem tidy.offer {p it} (hs : s.tidy) : (s.offer p it).tidy := by
  unfold State.offer
  extract_lets n s1 o lim
  have hs1 : s1.tidy := .ite hs.evictFor hs
  exact .ite hs1.setWoItems.woSettle hs1.woDrop.woSettle
theorem tidy.sendEvents {x0} (hs : s.tidy) : (State.sendEvents x0 s).tidy := by
  induction x0 generalizing s with
  | zero =>
    unfold State.sendEvents
    exact hs
  | succ k ih =>
    unfold State.sendEvents
    exact .ite hs (ih hs.withFault.emit)
theorem tidy.cairnRec {kind time body} (hs : s.tidy) : (s.cairnRec kind time body).tidy := .ite hs.inc.lifeInc hs.withCairn.wf
theorem tidy.cairnFault {sev last bytes} (hs : s.tidy) : (s.cairnFault sev last bytes).tidy := by
  unfold State.cairnFault
  exact .ite hs (.ite hs.withCairn.inc hs.withCairn.cairnRec)
theorem tidy.appendDefect {kind camp die loc} (hs : s.tidy) : (s.appendDefect kind camp die loc).tidy := by
  unfold State.appendDefect
  exact .ite hs.satInc.wf hs.withBoot.wf.satInc.cairnRec
theorem tidy.ringRecord {bytes} (hs : s.tidy) : (s.ringRecord bytes).tidy := by
  unfold State.ringRecord
  refine .ite hs ?_
  extract_lets
  split
  · exact .ite ((hs.withMem (MemSt.writeRuns_wf _ _ _ _ hs.mem)).wf) hs.wf
  · exact hs.wf
theorem tidy.sendRecord {r count first last} (hs : s.tidy) : (s.sendRecord r count first last).tidy := by
  unfold State.sendRecord
  extract_lets q bytes prio _ s1 s2 s3 s4 s5
  have hs4 : s4.tidy := hs.withFault.offer.sendEvents.ringRecord
  exact .cairnFault (.ite hs4.offer hs4)
theorem tidy.occur {r t} (hs : s.tidy) : (s.occur r t).tidy := by
  unfold State.occur
  extract_lets s0 win _ s1 sec mask _ s2
  have hs0 : s0.tidy := by
    unfold s0
    refine .inc ?_
    split
    · exact hs.lifeInc
    · exact hs
  have hs2 : s2.tidy := hs0.inc.withFault
  split
  · exact hs0.withFault
  · refine .ite hs0.sendRecord ?_
    split
    · exact hs0.withFault.wf.sendRecord
    · exact .ite hs2 hs2.inc.sendRecord
theorem tidy.report {r} (hs : s.tidy) : (s.report r).tidy := .ite hs.withFault hs.occur
theorem tidy.trace {point unit harness args} (hs : s.tidy) : (s.trace point unit harness args).tidy := .ite hs.offer hs
theorem tidy.haccCode {code src fn off write status} (hs : s.tidy) : (s.haccCode code src fn off write status).tidy := by
  unfold State.haccCode
  extract_lets s1 s2
  have hs1 : s1.tidy := hs.inc
  exact .report (.ite hs1 hs1.wf.wf.wf.wf.wf.wf)
theorem tidy.hacc {src fn off write status} (hs : s.tidy) : (s.hacc src fn off write status).tidy := hs.haccCode
theorem tidy.reject {src off} (hs : s.tidy) : (s.reject src off).tidy := hs.hacc

/-! ## Access -/

theorem tidy.guardWrite {src a k} (hs : s.tidy) (hk : ∀ {t}, t.tidy → (k t).tidy) : (s.guardWrite src a k).tidy := by
  unfold State.guardWrite
  refine .ite hs ?_
  split
  · exact hs.hacc
  · exact hk hs

/-! ## Quota -/

theorem tidy.setOver {k h} (hs : s.tidy) : (s.setOver k h).tidy := hs.wf
theorem tidy.quotaTake {k h n} (hs : s.tidy) : (s.quotaTake k h n).tidy := .ite hs hs.wf.setOver
theorem tidy.quotaGive {k h n} (hs : s.tidy) : (s.quotaGive k h n).tidy := .ite hs hs.wf.setOver
theorem tidy.writeLimit {src k h v} (hs : s.tidy) : (s.writeLimit src k h v).tidy := .ite hs.reject hs.wf.setOver
theorem tidy.memEvent {code owner a} (hs : s.tidy) : (s.memEvent code owner a).tidy := by
  unfold State.memEvent
  exact hs.inc.report
theorem tidy.memEvents {owner l} (hs : s.tidy) : (s.memEvents owner l).tidy := by
  unfold State.memEvents
  exact hs.foldl fun _ _ ht => ht.memEvent
theorem tidy.memRead {owner rs} (hs : s.tidy) : (s.memRead owner rs).2.2.tidy := by
  unfold State.memRead
  extract_lets
  exact hs.memEvents.wakeHbm
theorem tidy.taintBy {rs} (hs : s.tidy) : (s.taintBy rs).tidy := .ite hs.withComp hs
theorem tidy.memWrite {owner rs bs} (hs : s.tidy) : (s.memWrite owner rs bs).2.tidy := by
  unfold State.memWrite
  extract_lets
  exact (hs.withMem (MemSt.writeRuns_wf _ _ _ _ hs.mem)).memEvents.taintBy.wakeHbm
theorem tidy.retireSource {source} (hs : s.tidy) : (s.retireSource source).tidy := by
  unfold State.retireSource
  exact hs.withMfb

/-! ## Forward -/

theorem tidy.markDepth {P c} (hs : s.tidy) : (s.markDepth P c).tidy := by
  unfold State.markDepth
  exact .ite hs.wf hs
theorem tidy.enqueue {P f ingress cut} (hs : s.tidy) : (s.enqueue P f ingress cut).tidy := by
  unfold State.enqueue
  exact hs.withFwd.markDepth
theorem tidy.emptyPort {P} (hs : s.tidy) : (s.emptyPort P).tidy := hs.setPort
theorem tidy.xoffRaise {P c} (hs : s.tidy) : (s.xoffRaise P c).tidy := by
  unfold State.xoffRaise
  exact .ite hs.setPort.inc hs
theorem tidy.xoffClear {P c} (hs : s.tidy) : (s.xoffClear P c).tidy := by
  unfold State.xoffClear
  exact .ite hs.setPort hs
theorem tidy.hold {P f dests cut} (hs : s.tidy) : (s.hold P f dests cut).tidy := by
  unfold State.hold
  extract_lets
  split
  · exact hs.withFwd
  · exact .ite hs.withFwd.xoffRaise (.ite hs.withFwd.xoffRaise hs.inc.report)
theorem tidy.reqReport {code sev status unit f} (hs : s.tidy) : (s.reqReport code sev status unit f).tidy := hs.report
theorem tidy.endRecord {m f a} (hs : s.tidy) : (s.endRecord m f a).1.tidy := by
  unfold State.endRecord
  split
  · exact hs
  · exact hs.withMfb
theorem tidy.absent {answer P f} (hs : s.tidy) (ha : ∀ {x0 t}, t.tidy → (answer x0 t).tidy) : (s.absent answer P f).tidy := by
  unfold State.absent
  extract_lets s1 s2 r
  have hs1 : s1.tidy := hs.inc
  exact .ite ((ha hs1.inc.reqReport.endRecord).foldl fun _ _ ht => ha ht.inc) hs1
theorem tidy.egressCheck {P f} (hs : s.tidy) : (s.egressCheck P f).1.tidy := by
  unfold State.egressCheck
  split
  · exact hs
  · dsimp only
    exact hs.inc.report
theorem tidy.placeFrame {n p f ingress cut} (hs : s.tidy) : (s.placeFrame n p f ingress cut).tidy := by
  unfold State.placeFrame
  refine .ite hs ?_
  split
  · exact hs.egressCheck.enqueue
  · exact hs.withFwd
  · exact hs.withFwd
  · exact hs.inc.withFwd
  · exact hs.inc.withFwd
  · exact hs.inc.withFwd
  · exact hs.inc.withFwd
  · exact hs.inc.withFwd
theorem tidy.offerPlace {answer n p f ingress bw cut} (hs : s.tidy) (ha : ∀ {x t}, t.tidy → (answer x t).tidy) :
    (s.offerPlace answer n p f ingress bw cut).1.tidy := by
  unfold State.offerPlace
  split
  · split
    · exact hs.absent ha
    · split
      · split
        · exact hs.inc
        · dsimp only
          exact hs.inc.inc.reqReport
      · split
        · dsimp only
          exact hs.placeFrame
        · exact hs
  · split
    · exact hs.placeFrame
    · exact hs
theorem tidy.offerAll {answer n f ingress bw cut ps} (ha : ∀ {x t}, t.tidy → (answer x t).tidy) (hs : s.tidy) :
    (State.offerAll answer n f ingress bw cut ps s).1.tidy := by
  induction ps generalizing s with
  | nil => exact hs
  | cons p ps ih => exact ih (hs.offerPlace ha)
theorem tidy.admitTo {answer n f ingress bw cut ps} (hs : s.tidy) (ha : ∀ {x0 t}, t.tidy → (answer x0 t).tidy) :
    (s.admitTo answer n f ingress bw cut ps).tidy := by
  unfold State.admitTo
  refine .ite hs.hold ?_
  extract_lets r
  have hr : r.1.tidy := .offerAll ha hs
  exact .ite hr hr.hold
theorem tidy.mirTake {m point P f cut} (hs : s.tidy) : (s.mirTake m point P f cut).tidy := by
  unfold State.mirTake
  refine .ite hs ?_
  extract_lets _ s1 size w w0 s2
  have hs1 : s1.tidy := hs.inc.withFwd
  have hs2 : s2.tidy := hs1.offer
  refine .ite ?_ (.ite (.ite hs1 (.ite hs2 hs2.inc)) hs1)
  split
  · exact (hs1.withMem (MemSt.writeRuns_wf _ _ _ _ hs1.mem)).wf
  · exact hs1.inc
theorem tidy.mirrorFrom {x0 x1 x2 x3 x4} (hs : s.tidy) : (State.mirrorFrom x0 x1 x2 x3 x4 s).tidy := by
  induction x0 generalizing x1 x2 x3 x4 s with
  | zero =>
    unfold State.mirrorFrom
    exact hs
  | succ k ih =>
    unfold State.mirrorFrom
    exact ih (.ite hs.mirTake hs)
theorem tidy.mirror {point P f cut} (hs : s.tidy) : (s.mirror point P f cut).tidy := hs.mirrorFrom
theorem tidy.noRouteFault {n f x} (hs : s.tidy) : (s.noRouteFault n f x).tidy := hs.report
theorem tidy.forwardF {x0 x1 x2 x3 x4} (hs : s.tidy) : (State.forwardF x0 x1 x2 x3 x4 s).tidy := by
  induction x0 generalizing x1 x2 x3 x4 s with
  | zero =>
    unfold State.forwardF
    exact hs
  | succ k ih =>
    unfold State.forwardF
    extract_lets s answer ps s1 s1'
    have hs : s.tidy := hs.inc
    have hs1' : s1'.tidy := hs.inc
    refine .ite (.ite hs.inc ((hs.foldl fun _ _ ht => ht.inc.noRouteFault).count.admitTo fun ha => ih ha)) ?_
    split
    · split
      · exact hs1'.noRouteFault
      · exact hs1'
    · exact hs.inc.inc.reqReport
    · exact .admitTo (.ite hs.inc hs) fun ha => ih ha
theorem tidy.send {n f} (hs : s.tidy) : (s.send n f).tidy := hs.forwardF
theorem tidy.noteMessage {P f} (hs : s.tidy) : (s.noteMessage P f).tidy := by
  unfold State.noteMessage
  exact hs.setPort
theorem tidy.endpointIngress {P bw f} (hs : s.tidy) : (s.endpointIngress P bw f).tidy := by
  unfold State.endpointIngress
  refine .ite hs.inc (.ite hs.inc (.ite hs.inc (.ite hs.inc (.ite hs.inc (.ite hs.inc (.ite hs.inc ?_))))))
  extract_lets g s1
  have hs1 : s1.tidy := hs.noteMessage.mirror
  exact .ite hs1.placeFrame (.ite (.ite hs1.hold hs1.placeFrame) hs1.forwardF)
theorem tidy.gatewayIngress {P bw started f} (hs : s.tidy) : (s.gatewayIngress P bw started f).tidy := by
  unfold State.gatewayIngress
  exact .ite hs.inc (.ite hs.inc.inc.reqReport (.ite hs.inc hs.mirror.forwardF))
theorem tidy.torusIngress {P bw started f} (hs : s.tidy) : (s.torusIngress P bw started f).tidy := by
  unfold State.torusIngress
  exact .ite hs.inc (.ite hs.inc (.ite hs (.ite hs.inc (.ite hs.inc.report hs.mirror.forwardF))))
theorem tidy.ingress {P bw late started f} (hs : s.tidy) : (s.ingress P bw late started f).tidy := by
  unfold State.ingress
  extract_lets s0 s1
  have hs0 : s0.tidy := hs.inc.count
  have hs1 : s1.tidy := .ite hs0.inc hs0
  exact .ite hs1.torusIngress (.ite hs1.gatewayIngress hs1.endpointIngress)

/-! ## RopeBase -/

theorem tidy.witness {h kind n c status flags body} (hs : s.tidy) : (s.witness h kind n c status flags body).tidy := by
  unfold State.witness
  extract_lets q _ s1 m r0 r cap wp full
  have hs1 : s1.tidy := hs.inc.withHrn
  refine .ite hs1 ?_
  split
  · exact .ite hs1.inc hs1.memWrite.wf
  · exact hs1.inc
theorem tidy.checkFault {site h n detail} (hs : s.tidy) : (s.checkFault site h n detail).tidy := hs.report
theorem tidy.putRope {c} (hs : s.tidy) : (s.putRope c).tidy := hs.withRope
theorem tidy.putGate {c} (hs : s.tidy) : (s.putGate c).tidy := hs.withGate
theorem tidy.ropeRecord {c o principal sm broke} (hs : s.tidy) : (s.ropeRecord c o principal sm broke).tidy := by
  unfold State.ropeRecord
  exact hs.witness
theorem tidy.brokenRecord {c o status} (hs : s.tidy) : (s.brokenRecord c o status).tidy := by
  unfold State.brokenRecord
  exact .ite (.ite hs hs.ropeRecord) (.ite hs hs.ropeRecord)
theorem tidy.ropeFrame {c op dst opno word chunk frag first last status kind residue_ payload} (hs : s.tidy) :
    (s.ropeFrame c op dst opno word chunk frag first last status kind residue_ payload).tidy :=
  hs.send
theorem tidy.endStreams {ctx status} (hs : s.tidy) : (s.endStreams ctx status).tidy := hs.withComp
theorem tidy.breakRope {ctx status quiet from_} (hs : s.tidy) : (s.breakRope ctx status quiet from_).tidy := by
  unfold State.breakRope
  split
  · exact hs
  · refine .ite hs ?_
    extract_lets opno word ends s0 s1 s2
    have hs2 : s2.tidy := (hs.foldl fun _ _ ht => ht.brokenRecord).putRope.inc.endStreams
    exact .ite hs2 (hs2.foldl fun _ _ ht => ht.ropeFrame)
theorem tidy.ropeCheck {c site opno chunk want got} (hs : s.tidy) : (s.ropeCheck c site opno chunk want got).tidy := hs.checkFault.breakRope
theorem tidy.memberLost {core id} (hs : s.tidy) : (s.memberLost core id).tidy := by
  unfold State.memberLost
  exact hs.foldl fun _ _ ht => ht.breakRope
theorem tidy.memberGone {P} (hs : s.tidy) : (s.memberGone P).tidy := hs.memberLost
theorem tidy.gateWitness {c} (hs : s.tidy) : (s.gateWitness c).tidy := by
  unfold State.gateWitness
  exact hs.witness.putGate
theorem tidy.breakGate {ctx status} (hs : s.tidy) : (s.breakGate ctx status).tidy := by
  unfold State.breakGate
  split
  · exact hs
  · exact .ite hs hs.gateWitness.putGate.trace
theorem tidy.breakContexts {h status quiet} (hs : s.tidy) : (s.breakContexts h status quiet).tidy := by
  unfold State.breakContexts
  exact (hs.foldl fun _ _ ht => ht.breakRope).foldl fun _ _ ht => ht.breakGate
theorem tidy.frameCrcFault {p f} (hs : s.tidy) : (s.frameCrcFault p f).tidy := by
  unfold State.frameCrcFault
  extract_lets n s1 plain
  have hs1 : s1.tidy := hs.inc
  have hplain : plain.tidy := hs1.checkFault
  refine .ite ?_ hplain
  split
  · exact .ite hs1.ropeCheck hplain
  · exact hplain

/-! ## Cores -/

theorem tidy.setCst {k c} (hs : s.tidy) : (s.setCst k c).tidy := hs.withComp
theorem tidy.setSreg {k r v} (hs : s.tidy) : (s.setSreg k r v).tidy := hs.setCst
theorem tidy.setPc {k v} (hs : s.tidy) : (s.setPc k v).tidy := hs.wf
theorem tidy.nextPc {k} (hs : s.tidy) : (s.nextPc k).tidy := hs.setPc
theorem tidy.writeFlag {key v} (hs : s.tidy) : (s.writeFlag key v).tidy := by
  unfold State.writeFlag
  extract_lets fl ws taker _
  clear_value taker
  split
  · exact hs.withComp
  · exact hs.withComp
theorem tidy.setCch {g w} (hs : s.tidy) : (s.setCch g w).tidy := hs.withComp
theorem tidy.serveCch {g} (hs : s.tidy) : (s.serveCch g).tidy := by
  unfold State.serveCch
  exact hs.withComp.setCch
theorem tidy.creditReturn {g n u} (hs : s.tidy) (h : s.creditReturn g n = some u) : u.tidy := by
  unfold State.creditReturn at h
  split at h
  · cases h
    exact hs.setCch.serveCch
  · cases h
theorem tidy.setJumar {j v} (hs : s.tidy) : (s.setJumar j v).tidy := by
  unfold State.setJumar
  exact .withComp (.ite hs.wf hs.wf)
theorem tidy.dropWait {k} (hs : s.tidy) : (s.dropWait k).tidy := hs.withComp.wf
theorem tidy.block {k op} (hs : s.tidy) : (s.block k op).tidy := hs.withComp.wf.wf
theorem tidy.resume {k} (hs : s.tidy) : (s.resume k).tidy := hs.dropWait.wf.nextPc
theorem tidy.scribble {rs} (hs : s.tidy) : (s.scribble rs).tidy := by
  unfold State.scribble
  exact hs.foldl fun _ _ ht => ht.freeB.memWrite
theorem tidy.abandon {k} (hs : s.tidy) : (s.abandon k).tidy := by
  unfold State.abandon
  exact hs.withComp.retireSource.withMfb.scribble
theorem tidy.programWitness {k status instr exit wit} (hs : s.tidy) : (s.programWitness k status instr exit wit).tidy := by
  unfold State.programWitness
  exact hs.witness
theorem tidy.stopCore {k st} (hs : s.tidy) : (s.stopCore k st).tidy := by
  unfold State.stopCore
  exact hs.dropWait.abandon.wf.setCst
theorem tidy.haltCore {k} (hs : s.tidy) : (s.haltCore k).tidy := by
  unfold State.haltCore
  exact .ite hs.stopCore.memberLost hs
theorem tidy.coreFault {k status unit instr addr site want got} (hs : s.tidy) :
    (s.coreFault k status unit instr addr site want got).tidy := by
  unfold State.coreFault
  extract_lets h s1 s2 s3 s3' s4
  have hs2 : s2.tidy := hs.stopCore.wf.wf.wf.wf
  have hs3' : s3'.tidy := .trace (.ite hs2 hs2.programWitness)
  exact .memberLost (.ite hs3'.report hs3'.checkFault)
theorem tidy.seqFault {k status addr} (hs : s.tidy) : (s.seqFault k status addr).tidy := hs.coreFault
theorem tidy.haltDone {k r flag} (hs : s.tidy) : (s.haltDone k r flag).tidy := by
  unfold State.haltDone
  extract_lets i exit s1 s2 s3 _ s4
  have hs4 : s4.tidy := hs.setReg.programWitness.dropWait.wf.setCst.nextPc
  split
  · exact hs4.writeFlag
  · exact hs4
theorem tidy.drained {k} (hs : s.tidy) : (s.drained k).tidy := by
  unfold State.drained
  refine .ite hs ?_
  split
  · split
    · exact hs.resume
    · exact hs.haltDone
    · exact hs
  · exact hs
theorem tidy.seqStep {k rs f} (hs : s.tidy) (hf : ∀ {t}, t.tidy → (f t).tidy) : (s.seqStep k rs f).tidy := .ite (hf hs) hs

/-! ## RingBase -/

theorem tidy.endRun {no status reason vals} (hs : s.tidy) : (s.endRun no status reason vals).tidy := hs.withHost
theorem tidy.setWaiters {q} (hs : s.tidy) : (s.setWaiters q).tidy := hs.wf
theorem tidy.endWaits {p status} (hs : s.tidy) : (s.endWaits p status).tidy := by
  unfold State.endWaits
  exact (hs.withHost.foldl fun _ _ ht => ht.endRun).foldl fun _ _ ht => ht.setWaiters
theorem tidy.setRing {i st} (hs : s.tidy) : (s.setRing i st).tidy := by
  unfold State.setRing
  exact .wf (.ite hs.endWaits hs)
theorem tidy.ringPauses (hs : s.tidy) : s.ringPauses.tidy := by
  unfold State.ringPauses
  exact hs.foldl fun _ _ ht => .ite ht.setRing (.ite ht.setRing ht)
theorem tidy.ringError {i cause} (hs : s.tidy) : (s.ringError i cause).tidy := hs.setRing.wf

/-! ## Harness -/

theorem tidy.haltHarness {h} (hs : s.tidy) : (s.haltHarness h).tidy := by
  unfold State.haltHarness
  exact (hs.foldl fun _ _ ht => ht.haltCore).withComp
theorem tidy.propagate {h} (hs : s.tidy) : (s.propagate h).tidy := by
  unfold State.propagate
  split
  · exact hs
  · extract_lets __src s1
    have hs1 : s1.tidy := hs.withHrn
    exact .ite hs1.haltHarness.breakContexts hs1
theorem tidy.traceHrn {h old} (hs : s.tidy) : (s.traceHrn h old).tidy := hs.trace
theorem tidy.setHrn {h st} (hs : s.tidy) : (s.setHrn h st).tidy := by
  unfold State.setHrn
  exact hs.propagate.withHrn.wf.ringPauses.traceHrn
theorem tidy.hrnStatus {st} (hs : s.tidy) : (s.hrnStatus st).tidy := hs.wf
theorem tidy.hrnBind {h} (hs : s.tidy) : (s.hrnBind h).tidy := by
  unfold State.hrnBind
  exact .ite hs.hrnStatus (.ite hs.hrnStatus ((hs.wf.setHrn.setReg.setReg.setReg.foldl fun _ _ ht =>
      ht.wf.setOver).setReg.setReg.setReg.withHrn.hrnStatus))
theorem tidy.hrnStart {h} (hs : s.tidy) : (s.hrnStart h).tidy := by
  unfold State.hrnStart
  refine .ite ?_ hs.hrnStatus
  extract_lets s1 _ s2
  have hs1 : s1.tidy := hs.setHrn
  exact .hrnStatus (.ite hs1.withHrn hs1)
theorem tidy.hrnStop {h} (hs : s.tidy) : (s.hrnStop h).tidy := .ite hs.setHrn.hrnStatus hs.hrnStatus
theorem tidy.hrnRecover {h} (hs : s.tidy) : (s.hrnRecover h).tidy := .ite hs.setHrn.hrnStatus hs.hrnStatus
theorem tidy.hrnQuarantine {h} (hs : s.tidy) : (s.hrnQuarantine h).tidy := .ite hs.setHrn.hrnStatus hs.hrnStatus
theorem tidy.hrnCmd {src h op unbind} (hs : s.tidy) (hunbind : ∀ {t}, t.tidy → (unbind t).tidy) : (s.hrnCmd src h op unbind).tidy := by
  unfold State.hrnCmd
  refine .ite hs.reject (.ite hs.reject ?_)
  extract_lets s1
  have hs1 : s1.tidy := hs.wf
  split
  · exact hs1
  · exact hs1.hrnBind
  · exact hs1.hrnStart
  · exact hs1.hrnStop
  · exact hs1.hrnRecover
  · exact hunbind hs1
  · exact hs1.hrnQuarantine
  · exact hs1.hrnStatus
theorem tidy.failOnce {h other} (hs : s.tidy) : (s.failOnce h other).tidy := by
  unfold State.failOnce
  exact hs.wf.setHrn
theorem tidy.harnessFault {r t} (hs : s.tidy) : (s.harnessFault r t).tidy := by
  unfold State.harnessFault
  refine .ite hs.occur.inc ?_
  split
  · exact hs.occur.inc
  · extract_lets s1 near
    have hs1 : s1.tidy := hs.occur.inc
    exact .ite hs1.failOnce hs1.setHrn
  · exact hs.occur.inc.failOnce
  · exact hs.occur.inc
theorem tidy.applyHarnessFault (hs : s.tidy) : s.applyHarnessFault.tidy := by
  unfold State.applyHarnessFault
  split
  · exact .ite hs.withFault.harnessFault hs
  · exact hs
theorem tidy.writeWitCfg {src h v} (hs : s.tidy) : (s.writeWitCfg src h v).tidy := by
  unfold State.writeWitCfg
  exact .ite hs.reject hs.setReg.setReg.setReg

/-! ## Binding -/

theorem tidy.setClu {c h n} (hs : s.tidy) : (s.setClu c h n).tidy := hs.wf.wf.wf
theorem tidy.bindDone {n st} (hs : s.tidy) : (s.bindDone n st).tidy := hs.withComp.wf.wf
theorem tidy.bindBegin {n k h} (hs : s.tidy) : (s.bindBegin n k h).tidy := by
  unfold State.bindBegin
  exact .ite hs.bindDone hs.quotaTake.wf.withComp
theorem tidy.bindFinish {n} (hs : s.tidy) : (s.bindFinish n).tidy := by
  unfold State.bindFinish
  split
  · exact hs
  · extract_lets k c first s1 s2 gone __src s3 s4 __src' s5
    have hs1 : s1.tidy := .ite hs (hs.withMem (MemSt.clearValid_wf _ _ _ hs.mem))
    exact .bindDone (.wakeTen (.setCst (.setReg (.setReg (.setReg (.wf (.wf (.setClu (.withComp (.ite hs1 (hs1.withMem (MemSt.clearValid_wf
        _ _ _ hs1.mem))))))))))))
theorem tidy.unbindCore {k} (hs : s.tidy) : (s.unbindCore k).tidy := by
  unfold State.unbindCore
  extract_lets h c s0 s1 left s2 keep s3 s4 _
  have hs0 : s0.tidy := hs.haltCore.quotaGive
  have hs1 : s1.tidy := .ite hs0 (hs0.withMem (MemSt.clearValid_wf _ _ _ (MemSt.poison_wf _ _ _ hs0.mem)))
  have hs3 : s3.tidy := .setClu (.ite hs1 (hs1.withMem (MemSt.clearValid_wf _ _ _ (MemSt.poison_wf _ _ _ hs1.mem))))
  exact .setCst (.wf (.ite hs3 hs3.wf))
theorem tidy.unbindBegin {n k} (hs : s.tidy) : (s.unbindBegin n k).tidy := .ite hs.bindDone hs.unbindCore.bindDone
theorem tidy.writeBindCmd {src n q h op} (hs : s.tidy) : (s.writeBindCmd src n q h op).tidy := by
  unfold State.writeBindCmd
  refine .ite hs.reject ?_
  extract_lets s1 k _
  have hs1 : s1.tidy := hs.wf.wf
  exact .ite hs1 (.ite hs1.bindDone (.ite hs1.withComp.wf (.ite hs1.bindBegin hs1.unbindBegin)))
theorem tidy.startCore {k} (hs : s.tidy) : (s.startCore k).tidy := by
  unfold State.startCore
  exact .setPc (.wf (.ite hs.setReg.setReg hs))
theorem tidy.go {k} (hs : s.tidy) : (s.go k).tidy := .ite hs.startCore hs.inc
theorem tidy.loadReport {n st reason sh} (hs : s.tidy) : (s.loadReport n st reason sh).tidy := by
  unfold State.loadReport
  exact hs.wf.wf.wf.setReg.setReg.setReg.wf.wf.wf.wf
theorem tidy.loadCore {args i k} (hs : s.tidy) : (s.loadCore args i k).tidy := by
  unfold State.loadCore
  exact (hs.freeB.memWrite.foldl fun _ _ ht => ht.memWrite).setCst.setReg.setReg.setReg.setReg.wf.setReg.wf
theorem tidy.writeLoadCmd {src n mask op img} (hs : s.tidy) : (s.writeLoadCmd src n mask op img).tidy := by
  unfold State.writeLoadCmd
  refine .ite hs.reject ?_
  extract_lets s1 cores i r h _
  have hs1 : s1.tidy := hs.wf
  exact .ite hs1 (.ite hs1.loadReport hs1.withComp.wf)
theorem tidy.lateBind {n} (hs : s.tidy) : (s.lateBind n).tidy := by
  unfold State.lateBind
  split
  · exact .ite hs (.ite hs.bindBegin hs.unbindBegin)
  · exact hs
theorem tidy.loadDone {n} (hs : s.tidy) : (s.loadDone n).tidy := by
  unfold State.loadDone
  split
  · exact hs
  · extract_lets __src s1 s2 ok s3 r s4
    have hs2 : s2.tidy := hs.withComp.foldl fun _ _ ht => ht.loadCore
    have hs3 : s3.tidy := .ite (hs2.foldl fun _ _ ht => ht.startCore) hs2
    have hs4 : s4.tidy := by
      unfold s4
      split
      · exact hs3.loadReport
      · exact hs3.endRun
    exact hs4.lateBind
theorem tidy.writePflag {n b h valid} (hs : s.tidy) : (s.writePflag n b h valid).tidy := by
  unfold State.writePflag
  extract_lets s1
  have hs1 : s1.tidy := hs.wf.wf
  exact .ite (hs1.foldl fun _ _ ht => ht.writeFlag) hs1
theorem tidy.cchAdvance {n} (hs : s.tidy) : (s.cchAdvance n).tidy := .ite hs.wf hs
theorem tidy.writeCch {src n v} (hs : s.tidy) : (s.writeCch src n v).tidy := by
  unfold State.writeCch
  refine .ite hs.reject ?_
  extract_lets e s1 ks
  have hs1 : s1.tidy := hs.setCch.cchAdvance
  exact .ite hs1 (hs1.foldl fun _ _ ht => ht.seqFault)
theorem tidy.writeJumar {n i v} (hs : s.tidy) : (s.writeJumar n i v).tidy := by
  unfold State.writeJumar
  extract_lets s1
  have hs1 : s1.tidy := hs.setReg
  exact .ite hs1.setReg.setReg hs1
theorem tidy.bivouac {k} (hs : s.tidy) : (s.bivouac k).tidy := by
  unfold State.bivouac
  exact .ite hs.wf.inc hs
theorem tidy.wake {k st kind} (hs : s.tidy) : (s.wake k st kind).tidy := by
  unfold State.wake
  split
  · exact .ite hs.resume hs
  · exact hs
theorem tidy.waitLimit {k} (hs : s.tidy) : (s.waitLimit k).tidy := by
  unfold State.waitLimit
  split
  · exact .ite hs.seqFault hs
  · exact hs

/-! ## Cairn -/

theorem tidy.setGen {g} (hs : s.tidy) : (s.setGen g).tidy := hs.wf.wf
theorem tidy.freshImage (hs : s.tidy) : s.freshImage.tidy := by
  unfold State.freshImage
  exact (hs.foldl fun _ _ ht => ht.setReg).setReg.setGen
theorem tidy.loadImage {c} (hs : s.tidy) : (s.loadImage c).tidy := by
  unfold State.loadImage
  exact (hs.foldl fun _ _ ht => ht.setReg).setReg.setGen
theorem tidy.showLg (hs : s.tidy) : s.showLg.tidy := by
  unfold State.showLg
  exact (hs.foldl fun _ _ ht => ht.setReg.setReg).wf.wf
theorem tidy.lastGasp {cause off} (hs : s.tidy) : (s.lastGasp cause off).tidy := by
  unfold State.lastGasp
  exact .ite hs hs.withCairn.showLg
theorem tidy.cairnFail {b} (hs : s.tidy) : (s.cairnFail b).tidy := by
  unfold State.cairnFail
  exact hs.lastGasp.wf.wf.withCairn.inc.report
theorem tidy.showLog (hs : s.tidy) : s.showLog.tidy := by
  unfold State.showLog
  split
  · exact hs.wf.wf
  · exact hs
theorem tidy.cairnStart {bad} (hs : s.tidy) : (s.cairnStart bad).tidy := by
  unfold State.cairnStart
  extract_lets _ s0 s1
  have hs0 : s0.tidy := hs.withCairn.showLog
  have hs1 : s1.tidy := hs0.wf.wf
  split
  · exact hs0.cairnFail
  · split
    · exact hs1.loadImage.cairnRec
    · exact hs1.wf.loadImage.cairnRec
theorem tidy.checkpoint {bad} (hs : s.tidy) : (s.checkpoint bad).2.tidy := by
  unfold State.checkpoint
  split
  · exact hs
  · split
    · dsimp only
      exact hs.cairnFail
    · extract_lets g c toB old s1
      have hs1 : s1.tidy := hs.withCairn.setGen
      clear_value s1
      dsimp only
      exact hs1.cairnRec
theorem tidy.cairnProgram {bad} (hs : s.tidy) : (s.cairnProgram bad).tidy := by
  unfold State.cairnProgram
  refine .ite hs ?_
  split
  · exact hs
  · split
    · exact hs.cairnFail
    · exact hs.withCairn.wf.wf.wf.inc
theorem tidy.cairnRead (hs : s.tidy) : s.cairnRead.2.tidy := by
  unfold State.cairnRead
  split
  · exact hs.foldl fun _ _ ht => ht.setReg
  · exact hs
theorem tidy.cairnFormat {bad} (hs : s.tidy) : (s.cairnFormat bad).2.tidy := by
  unfold State.cairnFormat
  split
  · dsimp only
    exact hs.cairnFail
  · extract_lets old s1 s2
    have hs2 : s2.tidy := hs.withCairn.wf.wf.wf.freshImage
    clear_value s2
    dsimp only
    exact hs2.wf.wf
theorem tidy.writeCrnCmd {v bad} (hs : s.tidy) : (s.writeCrnCmd v bad).tidy := by
  unfold State.writeCrnCmd
  exact .ite (.wf (.cairnFormat (.ite (.wf (.cairnRead (.ite hs.checkpoint.wf hs))) (.ite hs.checkpoint.wf hs)))) (.ite (.wf (.cairnRead
      (.ite hs.checkpoint.wf hs))) (.ite hs.checkpoint.wf hs))
theorem tidy.lifeSample {temps} (hs : s.tidy) : (s.lifeSample temps).tidy := by
  unfold State.lifeSample
  exact .ite hs ((hs.lifeInc.foldl fun _ _ ht => ht.lifeInc.lifeInc).lifeInc.foldl fun _ _ ht => ht.lifeInc)

/-! ## Pools -/

theorem tidy.freeBuf {q b} (hs : s.tidy) : (s.freeBuf q b).tidy := hs.withMem hs.mem
theorem tidy.takeBuf {q b} (hs : s.tidy) : (s.takeBuf q b).tidy := hs.withMem hs.mem
theorem tidy.putLink {q b v} (hs : s.tidy) : (s.putLink q b v).tidy := hs.withMem (MemSt.write_wf _ _ _ _ hs.mem)
theorem tidy.thread {q l} (hs : s.tidy) : (s.thread q l).tidy := by
  unfold State.thread
  exact (hs.foldl fun _ _ ht => ht.putLink).wf.wf
theorem tidy.poolDone {q st} (hs : s.tidy) : (s.poolDone q st).tidy := hs.wf.wf
theorem tidy.poolExec {q op} (hs : s.tidy) : (s.poolExec q op).tidy := (hs.withMem hs.mem).wf
theorem tidy.poolCreate {q} (hs : s.tidy) : (s.poolCreate q).tidy := by
  unfold State.poolCreate
  exact .ite hs.poolDone hs.quotaTake.poolExec
theorem tidy.poolDestroy {q} (hs : s.tidy) : (s.poolDestroy q).tidy := by
  unfold State.poolDestroy
  refine .ite hs.poolDone ?_
  extract_lets s1 _
  have hs1 : s1.tidy := hs.endWaits
  exact (hs1.withMem hs1.mem).poolExec
theorem tidy.poolRebuild {q} (hs : s.tidy) : (s.poolRebuild q).tidy := .ite hs.poolExec hs.poolDone
theorem tidy.writePoolCmd {src q op} (hs : s.tidy) : (s.writePoolCmd src q op).tidy := by
  unfold State.writePoolCmd
  refine .ite hs.reject ?_
  split
  · exact hs
  · exact hs.poolCreate
  · exact hs.poolDestroy
  · exact hs.poolRebuild
  · exact hs
theorem tidy.poolGone {q} (hs : s.tidy) : (s.poolGone q).tidy := by
  unfold State.poolGone
  extract_lets lo hi m s1 s2
  have hm : Memory.wf m.cells = true := MemSt.clearValid_wf _ _ _ (MemSt.poison_wf _ _ _ hs.mem)
  clear_value m
  have hs1 : s1.tidy := hs.withMem hm
  have hs2 : s2.tidy := hs1.quotaGive.wf.wf.wf
  exact hs2.foldl fun _ _ ht => ht.setReg
theorem tidy.poolMade {q} (hs : s.tidy) : (s.poolMade q).tidy := by
  unfold State.poolMade
  extract_lets s1 _ s2
  have hs1 : s1.tidy := .ite hs (hs.withMem (MemSt.clearValid_wf _ _ _ hs.mem))
  exact (hs1.withMem hs1.mem).thread.wf
theorem tidy.poolRebuilt {q} (hs : s.tidy) : (s.poolRebuilt q).tidy := hs.thread.wf
theorem tidy.poolComplete {q} (hs : s.tidy) : (s.poolComplete q).tidy := by
  unfold State.poolComplete
  split
  · exact hs
  · extract_lets __src s1 s2
    have hs1 : s1.tidy := hs.withMem hs.mem
    exact .poolDone (.ite hs1.poolMade (.ite hs1.poolGone hs1.poolRebuilt))
theorem tidy.setReqUsed {q e n} (hs : s.tidy) : (s.setReqUsed q e n).tidy := hs.wf.wf
theorem tidy.pop {q r} (hs : s.tidy) (h : s.pop q = some r) : r.2.tidy := by
  unfold State.pop at h
  extract_lets at h
  split at h
  · cases h
  · split at h
    · cases h
    · split at h
      · split at h
        · cases h
          exact hs.takeBuf.wf.wf
        · cases h
      · split at h
        · cases h
        · cases h
          exact hs.takeBuf.wf.wf
theorem tidy.pops {q n r} (hs : s.tidy) (h : s.pops q n = some r) : r.2.tidy := by
  induction n generalizing r with
  | zero =>
    cases h
    exact hs
  | succ n ih =>
    unfold State.pops at h
    split at h
    · cases h
    · next hl =>
      split at h
      · cases h
      · next hp =>
        cases h
        exact (ih hl).pop hp
theorem tidy.handOut {q b clear} (hs : s.tidy) : (s.handOut q b clear).tidy := by
  unfold State.handOut
  extract_lets a s1
  have hs1 : s1.tidy := hs.putLink
  exact .ite hs1 (.ite (hs1.withMem (MemSt.write_wf _ _ _ _ hs1.mem)) (hs1.withMem (MemSt.clearValid_wf _ _ _ hs1.mem)))
theorem tidy.breakPool {q} (hs : s.tidy) : (s.breakPool q).tidy := by
  unfold State.breakPool
  exact hs.wf.inc.report.endWaits
theorem tidy.grantBufs {w} (hs : s.tidy) : (s.grantBufs w).tidy := by
  unfold State.grantBufs
  extract_lets
  split
  · exact hs.endRun.breakPool
  · extract_lets t1 list h t2
    have ht1 : t1.tidy := (hs.pops ‹_›).foldl fun _ _ hu => hu.handOut
    have ht2 : t2.tidy := by
      unfold t2
      split
      · exact ht1.memWrite
      · exact ht1
    exact ht2.setReqUsed.inc.endRun
theorem tidy.serveWaits {q x1} (hs : s.tidy) : (State.serveWaits q x1 s).tidy := by
  induction x1 generalizing q s with
  | zero =>
    unfold State.serveWaits
    exact hs
  | succ k ih =>
    unfold State.serveWaits
    split
    · exact hs
    · extract_lets __src s1
      have hs1 : s1.tidy := hs.withHost.setWaiters
      exact .ite (ih hs1.endRun.inc) (.ite (ih hs1.grantBufs) hs)
theorem tidy.servePool {q} (hs : s.tidy) : (s.servePool q).tidy := .ite hs.serveWaits hs
theorem tidy.poolAlloc {i no args} (hs : s.tidy) : (s.poolAlloc i no args).tidy := by
  unfold State.poolAlloc
  exact .ite hs.endRun (.ite hs.endRun (.ite hs.endRun (.ite hs.endRun.inc (.ite hs.grantBufs (.ite hs.withHost.setWaiters
      hs.endRun.inc)))))
theorem tidy.freeOne {q b} (hs : s.tidy) : (s.freeOne q b).tidy := by
  unfold State.freeOne
  extract_lets s1
  have hs1 : s1.tidy := hs.freeBuf
  exact .ite hs1.wf hs1.putLink.wf.wf
theorem tidy.poolFreeCmd {i no args} (hs : s.tidy) : (s.poolFreeCmd i no args).tidy := by
  unfold State.poolFreeCmd
  refine .ite hs.endRun (.ite hs.endRun ?_)
  extract_lets r s1 l e s2 s3
  have hs1 : s1.tidy := hs.memRead
  split
  · extract_lets s2
    have hs2 : s2.tidy := hs1.endRun
    exact .ite hs2.inc hs2
  · exact (hs1.foldl fun _ _ ht => ht.freeOne).setReqUsed.inc.endRun.servePool
theorem tidy.poolQuery {i no args} (hs : s.tidy) : (s.poolQuery i no args).tidy := by
  unfold State.poolQuery
  exact .ite hs.endRun hs.endRun
theorem tidy.writePoolReq {q e v} (hs : s.tidy) : (s.writePoolReq q e v).tidy := by
  unfold State.writePoolReq
  exact hs.setReg.setReqUsed.servePool
theorem tidy.writePoolFloor {q v} (hs : s.tidy) : (s.writePoolFloor q v).tidy := hs.wf.servePool
theorem tidy.writePoolCfg {src q a w v} (hs : s.tidy) : (s.writePoolCfg src q a w v).tidy := .ite hs.reject hs.setReg
theorem tidy.poolWaitOut {no} (hs : s.tidy) : (s.poolWaitOut no).tidy := .ite hs.endWaits hs
theorem tidy.scrub {a ce ue} (hs : s.tidy) : (s.scrub a ce ue).tidy := by
  unfold State.scrub
  refine .ite hs ?_
  extract_lets u n _ s0 s1 _ line k
  have hs0 : s0.tidy := hs.withMem hs.mem
  have hs1 : s1.tidy := .ite hs0.inc hs0
  refine .ite hs1 ?_
  split
  · exact hs1.memEvent
  · exact .ite ((hs1.withMem hs1.mem).memEvent) hs1
  · exact .ite ((hs1.withMem hs1.mem).memEvent) (.ite ((hs1.withMem hs1.mem).memEvent) hs1)
theorem tidy.pitonSts {a} (hs : s.tidy) : (s.pitonSts a).tidy := by
  unfold State.pitonSts
  exact .ite hs.wf.wf hs
theorem poisons_wf {l : List Nat} {f g : Nat → Nat} {m : MemSt} (h : Memory.wf m.cells = true) :
    Memory.wf (l.foldl (fun m w => m.poison (f w) (g w)) m).cells = true := by
  induction l generalizing m with
  | nil => exact h
  | cons w l ih => exact ih (MemSt.poison_wf m _ _ h)
theorem tidy.pitonAt {a} (hs : s.tidy) : (s.pitonAt a).tidy := by
  unfold State.pitonAt
  extract_lets line g h h0 bad m
  refine .ite hs.report ?_
  have hm : Memory.wf m.cells = true := poisons_wf hs.mem
  clear_value m
  exact (hs.withMem hm (v := { m with pitons := _, ceHits := _ })).pitonSts.inc
theorem tidy.putPiton {a} (hs : s.tidy) : (s.putPiton a).tidy := by
  unfold State.putPiton
  extract_lets line h0 d s1
  have hs1 : s1.tidy := hs.pitonAt
  exact .ite hs1 hs1.appendDefect.cairnRec
theorem tidy.pitonInstall {a readback} (hs : s.tidy) : (s.pitonInstall a readback).tidy := by
  unfold State.pitonInstall
  exact .ite hs.putPiton hs
theorem tidy.copyReload {n h} (hs : s.tidy) : (s.copyReload n h).tidy := hs.report

/-! ## Link -/

theorem tidy.macsecSend {P} (hs : s.tidy) : (s.macsecSend P).tidy := by
  unfold State.macsecSend
  refine .ite hs ?_
  extract_lets pn s1
  have hs1 : s1.tidy := hs.wf
  exact .ite hs1.report hs1
theorem tidy.sendLink {P lseq ty body} (hs : s.tidy) : (s.sendLink P lseq ty body).tidy := by
  unfold State.sendLink
  exact hs.setPort.macsecSend.emit
theorem tidy.sendAck {P} (hs : s.tidy) : (s.sendAck P).tidy := hs.sendLink
theorem tidy.sendNak {P} (hs : s.tidy) : (s.sendNak P).tidy := hs.sendLink
theorem tidy.sendHeld {P cls body} (hs : s.tidy) : (s.sendHeld P cls body).tidy := by
  unfold State.sendHeld
  exact hs.setPort.sendLink
theorem tidy.sendPartner {P} (hs : s.tidy) : (s.sendPartner P).tidy := hs.sendHeld
theorem tidy.memberEvent {P code sev} (hs : s.tidy) : (s.memberEvent P code sev).tidy := hs.report
theorem tidy.enterState {P st sev} (hs : s.tidy) : (s.enterState P st sev).tidy := by
  unfold State.enterState
  extract_lets s1 s2
  have hs2 : s2.tidy := hs.wf.trace.wf
  exact .ite hs2.memberEvent hs2
theorem tidy.resetBelay {P} (hs : s.tidy) : (s.resetBelay P).tidy := by
  unfold State.resetBelay
  exact hs.setPort
theorem tidy.flushQueue {P} (hs : s.tidy) : (s.flushQueue P).tidy := by
  unfold State.flushQueue
  exact hs.withFwd.emptyPort.foldl fun _ _ ht => ht.absent fun hu => hu.forwardF
theorem tidy.leaveActive {P} (hs : s.tidy) : (s.leaveActive P).tidy := by
  unfold State.leaveActive
  refine .ite hs ?_
  extract_lets _ s1
  have hs1 : s1.tidy := hs.setPort
  exact .ite hs1 hs1.retireSource.memberGone
theorem tidy.noteRetrain {P} (hs : s.tidy) : (s.noteRetrain P).tidy := hs.satInc.lifeInc
theorem tidy.linkFailure {P} (hs : s.tidy) : (s.linkFailure P).tidy := by
  unfold State.linkFailure
  extract_lets p s1 was sev s2
  have hs2 : s2.tidy := hs.count.report.leaveActive.resetBelay
  exact .ite hs2.enterState.flushQueue hs2.noteRetrain.enterState
theorem tidy.cutShort {P x2} (hs : s.tidy) : (s.cutShort P x2).tidy := by
  unfold State.cutShort
  split
  · exact hs
  · exact .ite hs.inc hs.inc.forwardF
theorem tidy.freeBefore {P l} (hs : s.tidy) : (s.freeBefore P l).tidy := by
  unfold State.freeBefore
  exact .ite hs.setPort hs
theorem tidy.takePrefix {P w} (hs : s.tidy) : (s.takePrefix P w).tidy := by
  unfold State.takePrefix
  exact .setPort (.ite hs.freeBefore hs)
theorem tidy.resendHeld {P} (hs : s.tidy) : (s.resendHeld P).tidy := by
  unfold State.resendHeld
  exact (hs.foldl fun _ _ ht => ht.sendLink).count
theorem tidy.replayTrigger {P} (hs : s.tidy) : (s.replayTrigger P).tidy := by
  unfold State.replayTrigger
  exact .ite hs (.ite hs.linkFailure hs.setPort.resendHeld)
theorem tidy.linkCheckFail {P k} (hs : s.tidy) : (s.linkCheckFail P k).tidy := by
  unfold State.linkCheckFail
  refine .sendNak (.inc ?_)
  split
  · exact hs.inc
  · exact hs.inc
  · exact hs
theorem tidy.gapNak {P} (hs : s.tidy) : (s.gapNak P).tidy := by
  unfold State.gapNak
  exact .ite hs hs.setPort.inc.sendNak
theorem tidy.sequenced {P w take} (hs : s.tidy) (htake : ∀ {t}, t.tidy → (take t).tidy) : (s.sequenced P w take).tidy := by
  unfold State.sequenced
  extract_lets s1 p ahead s2
  have hs1 : s1.tidy := hs.takePrefix
  have hs2 : s2.tidy := htake hs1.setPort
  exact .ite (.ite hs2.sendAck hs2) (.ite hs1.gapNak hs1.inc.setPort)
theorem tidy.torusCheck {P} (hs : s.tidy) : (s.torusCheck P).tidy := by
  unfold State.torusCheck
  exact .ite hs (.ite (.ite hs hs.enterState) hs.leaveActive.enterState)
theorem tidy.gatewayCheck {P} (hs : s.tidy) : (s.gatewayCheck P).tidy := by
  unfold State.gatewayCheck
  exact .ite hs (.ite hs (.ite (.ite hs hs.enterState) hs.leaveActive.enterState))
theorem tidy.actOnPartner {P} (hs : s.tidy) : (s.actOnPartner P).tidy := by
  unfold State.actOnPartner
  exact .ite hs (.ite hs.memberEvent (.ite hs.torusCheck (.ite hs.gatewayCheck (.ite hs (.ite hs.enterState hs.enterState)))))
theorem tidy.copyPartner {P bs} (hs : s.tidy) : (s.copyPartner P bs).tidy := by
  unfold State.copyPartner
  exact (hs.foldl fun _ _ ht => ht.setReg).setPort
theorem tidy.train {P} (hs : s.tidy) : (s.train P).tidy := hs.leaveActive.resetBelay.enterState
theorem tidy.retrain {P} (hs : s.tidy) : (s.retrain P).tidy := .ite hs hs.count.noteRetrain.train
theorem tidy.admitPort {src P} (hs : s.tidy) : (s.admitPort src P).tidy := by
  unfold State.admitPort
  exact .ite hs (.ite hs.hacc (.ite hs.reject hs.wf.enterState))
theorem tidy.evictPort {P} (hs : s.tidy) : (s.evictPort P).tidy := .ite hs hs.count.leaveActive.resetBelay.enterState.flushQueue
theorem tidy.writePortCtl {src P v} (hs : s.tidy) : (s.writePortCtl src P v).tidy := by
  unfold State.writePortCtl
  refine .ite hs.reject ?_
  extract_lets en v' s1 on s2 s3 s4 s5
  have hs1 : s1.tidy := hs.setReg
  have hs2 : s2.tidy := .ite hs1.train (.ite hs1.leaveActive.resetBelay.enterState.flushQueue hs1)
  have hs3 : s3.tidy := .ite hs2.flushQueue hs2
  have hs4 : s4.tidy := .ite hs3.retrain hs3
  have hs5 : s5.tidy := .ite hs4.admitPort hs4
  exact .ite hs5.evictPort hs5
theorem tidy.writePortId {src P v} (hs : s.tidy) : (s.writePortId src P v).tidy := .ite hs.reject hs.wf.wf
theorem tidy.writeMacsecKsel {src P v} (hs : s.tidy) : (s.writeMacsecKsel src P v).tidy := by
  unfold State.writeMacsecKsel
  refine .ite hs.reject ?_
  extract_lets s1 p w sa
  have hs1 : s1.tidy := hs.wf
  exact .ite hs1 hs1.setPort
theorem tidy.writeMacsecKey {P i v} (hs : s.tidy) : (s.writeMacsecKey P i v).tidy := hs.setPort
theorem tidy.writeGwPeer0 {src P v} (hs : s.tidy) : (s.writeGwPeer0 src P v).tidy := .ite hs.reject hs.setReg
theorem tidy.writeGwHset {src P w v} (hs : s.tidy) : (s.writeGwHset src P w v).tidy := by
  unfold State.writeGwHset
  exact .ite hs.reject hs.setReg

/-! ## Ports -/

theorem tidy.onLink {P k} (hs : s.tidy) (hk : ∀ {t}, t.tidy → (k t).tidy) : (s.onLink P k).tidy := .ite (hk hs) hs
theorem tidy.onFrame {P k} (hs : s.tidy) (hk : ∀ {t}, t.tidy → (k t).tidy) : (s.onFrame P k).tidy := by
  unfold State.onFrame
  exact hs.onLink fun ht => .ite ht.inc (hk ht)
theorem tidy.portWrite {src P a k} (hs : s.tidy) (hk : ∀ {t}, t.tidy → (k t).tidy) : (s.portWrite src P a k).tidy := by
  unfold State.portWrite
  exact hs.guardWrite fun ht => .ite ht.reject (hk ht)
theorem tidy.spareLane {P l} (hs : s.tidy) : (s.spareLane P l).tidy := by
  unfold State.spareLane
  extract_lets
  split
  · exact hs
  · exact hs.wf.wf.wf.wf.appendDefect.lifeInc
theorem tidy.badCopy {P bw started f} (hs : s.tidy) : (s.badCopy P bw started f).tidy := by
  unfold State.badCopy
  exact .ite hs.inc.forwardF hs.inc
theorem tidy.frameIn {P w k f bw late started} (hs : s.tidy) : (s.frameIn P w k f bw late started).tidy := by
  unfold State.frameIn
  split
  · exact hs.sequenced fun ht => ht.ingress
  · exact hs.linkCheckFail.badCopy
theorem tidy.partnerIn {P w k bs} (hs : s.tidy) : (s.partnerIn P w k bs).tidy := by
  unfold State.partnerIn
  split
  · exact hs.sequenced fun ht => ht.copyPartner.actOnPartner
  · exact hs.linkCheckFail
theorem tidy.ackIn {P w k} (hs : s.tidy) : (s.ackIn P w k).tidy := by
  unfold State.ackIn
  split
  · exact hs.takePrefix
  · exact hs.linkCheckFail
theorem tidy.nakIn {P w k} (hs : s.tidy) : (s.nakIn P w k).tidy := by
  unfold State.nakIn
  split
  · exact hs.takePrefix.replayTrigger
  · exact hs.linkCheckFail
theorem tidy.reservedIn {P k} (hs : s.tidy) : (s.reservedIn P k).tidy := by
  unfold State.reservedIn
  split
  · exact hs.inc
  · exact hs.linkCheckFail
theorem tidy.udpIn {P d} (hs : s.tidy) : (s.udpIn P d).tidy := by
  unfold State.udpIn
  refine .ite hs.inc ?_
  split
  · exact hs.frameIn
  · exact hs.ackIn
  · exact hs.nakIn
  · exact hs.partnerIn
  · exact hs.inc
  · exact hs.inc
  · exact hs.inc
  · exact hs.inc
  · exact hs.reservedIn

/-! ## Schedule -/

theorem tidy.tagHead {P c} (hs : s.tidy) : (s.tagHead P c).tidy := by
  unfold State.tagHead
  extract_lets
  split
  · exact hs.setPort
  · exact hs
theorem tidy.tagHeads {P} (hs : s.tidy) : (s.tagHeads P).tidy := by
  unfold State.tagHeads
  exact hs.foldl fun _ _ ht => ht.tagHead
theorem tidy.noteC7 {P} (hs : s.tidy) : (s.noteC7 P).tidy := by
  unfold State.noteC7
  split
  · exact .ite hs.setPort.inc hs
  · exact hs
theorem tidy.noteWait {P} (hs : s.tidy) : (s.noteWait P).tidy := by
  unfold State.noteWait
  split
  · exact .ite hs.setPort.inc hs
  · exact hs
theorem tidy.dequeue {x} (hs : s.tidy) : (s.dequeue x).tidy := by
  unfold State.dequeue
  exact hs.withFwd
theorem tidy.markRes {x} (hs : s.tidy) : (s.markRes x).tidy := by
  unfold State.markRes
  exact .ite hs.wf hs
theorem tidy.settlePort {P} (hs : s.tidy) : (s.settlePort P).tidy := .ite hs hs.emptyPort
theorem tidy.startFrame {P c x} (hs : s.tidy) : (s.startFrame P c x).tidy := by
  unfold State.startFrame
  extract_lets n fb un cost tok s1 p s2 s3 s4 s5 s6
  have hs1 : s1.tidy := hs.dequeue.markRes
  have hs5 : s5.tidy := .inc (.count (.count (.inc (.settlePort (.ite hs1.setPort (.ite hs1.setPort hs1.setPort))))))
  exact .mirror (.sendHeld (.ite hs5.inc (.ite hs5.inc hs5)))
theorem tidy.schedule {P} (hs : s.tidy) : (s.schedule P).tidy := by
  unfold State.schedule
  refine .ite hs ?_
  extract_lets s1
  have hs1 : s1.tidy := hs.tagHeads.noteWait.noteC7
  split
  · exact .ite hs1.startFrame hs1
  · split
    · exact .ite hs1.startFrame hs1
    · split
      · exact .ite hs1.startFrame hs1
      · exact hs1
theorem tidy.stepTime {o} (hs : s.tidy) : (s.stepTime o).tidy := hs.setReg
theorem tidy.discipline {o} (hs : s.tidy) : (s.discipline o).tidy := by
  unfold State.discipline
  extract_lets s1 _
  have hs1 : s1.tidy := hs.wf
  exact .ite hs1.withTime (.ite hs1.withTime hs1.withTime.stepTime)
theorem tidy.setEst {est} (hs : s.tidy) : (s.setEst est).tidy := by
  unfold State.setEst
  exact hs.wf.withTime
theorem tidy.timeFrame {t est t1 t2 t3 t4} (hs : s.tidy) : (s.timeFrame t est t1 t2 t3 t4).tidy := by
  unfold State.timeFrame
  refine .ite hs ?_
  extract_lets p s1 o _ s2
  have hs1 : s1.tidy := hs.setPort
  exact .ite hs1.wf.withTime.setEst.discipline hs1
theorem tidy.sendTimeFrame {t} (hs : s.tidy) : (s.sendTimeFrame t).tidy := by
  unfold State.sendTimeFrame
  exact hs.sendHeld.emit
theorem tidy.timeSync (hs : s.tidy) : s.timeSync.tidy := by
  unfold State.timeSync
  extract_lets k _ s1 pp s2
  have hs1 : s1.tidy := hs.withTime
  have hs2 : s2.tidy := by
    unfold s2
    clear_value pp
    split
    · exact hs1.wf.sendTimeFrame
    · exact hs1
  exact .ite hs2 (hs2.foldl fun _ _ hu => hu.sendTimeFrame)
theorem tidy.missed {P} (hs : s.tidy) : (s.missed P).tidy := by
  unfold State.missed
  extract_lets
  split
  · exact .ite hs.setPort hs.inc
  · exact .ite hs.setPort hs
theorem tidy.applyStep (hs : s.tidy) : s.applyStep.tidy := by
  unfold State.applyStep
  split
  · exact hs.stepTime.withTime
  · exact hs
theorem tidy.decideOwn (hs : s.tidy) : s.decideOwn.tidy := by
  unfold State.decideOwn
  refine .ite ?_ (.ite hs.withTime hs)
  extract_lets _ s1
  have hs1 : s1.tidy := hs.withTime.wf
  exact .ite hs1 hs1.report
theorem tidy.decidePartner {t} (hs : s.tidy) : (s.decidePartner t).tidy := by
  unfold State.decidePartner
  exact .ite (.ite hs.setPort hs) (.ite hs.setPort (.ite hs.setPort (.ite hs.setPort hs)))
theorem tidy.settleDrift (hs : s.tidy) : s.settleDrift.tidy := .ite hs hs.wf
theorem tidy.gateEdge (hs : s.tidy) : s.gateEdge.tidy := by
  unfold State.gateEdge
  exact .ite hs (((hs.foldl fun _ _ hu => hu.missed).applyStep.withTime.decideOwn.foldl fun _ _ hu => hu.decidePartner).settleDrift)
theorem tidy.gateSwitch (hs : s.tidy) : s.gateSwitch.tidy := by
  unfold State.gateSwitch
  exact .ite hs hs.wf.wf.wf.wf.withTime.trace
theorem tidy.arm {src} (hs : s.tidy) : (s.arm src).tidy := .ite hs.reject hs.wf
theorem tidy.disarm (hs : s.tidy) : s.disarm.tidy := hs.wf
theorem tidy.writeGateCtl {src v} (hs : s.tidy) : (s.writeGateCtl src v).tidy := by
  unfold State.writeGateCtl
  refine .ite hs.reject ?_
  extract_lets s1 s2
  have hs1 : s1.tidy := hs.wf.wf.wf
  have hs2 : s2.tidy := .ite hs1.disarm hs1
  exact .ite hs2.arm hs2
theorem tidy.writeGateSwitch {src v} (hs : s.tidy) : (s.writeGateSwitch src v).tidy := .ite hs.reject hs.setReg
theorem tidy.gateAdvance (hs : s.tidy) : s.gateAdvance.tidy := .ite hs (.ite hs.wf hs.wf.wf)
theorem tidy.writeGateTbl {src v} (hs : s.tidy) : (s.writeGateTbl src v).tidy := by
  unfold State.writeGateTbl
  exact .ite hs.reject hs.same.gateAdvance
theorem tidy.writeGuard {src v} (hs : s.tidy) : (s.writeGuard src v).tidy := .ite hs.reject hs.setReg
theorem tidy.writeSyncCfg {src v} (hs : s.tidy) : (s.writeSyncCfg src v).tidy := .ite hs.reject hs.setReg
theorem tidy.writeWeights {n a v} (hs : s.tidy) : (s.writeWeights n a v).tidy := by
  unfold State.writeWeights
  exact (hs.foldl fun _ _ hu => hu.tagHeads).setReg
theorem tidy.clearMark {n q c} (hs : s.tidy) : (s.clearMark n q c).tidy := hs.wf.wf
theorem tidy.clearMarks {n q mask} (hs : s.tidy) : (s.clearMarks n q mask).tidy := by
  unfold State.clearMarks
  exact hs.foldl fun _ _ hu => hu.foldl fun _ _ ht => ht.clearMark

/-! ## Boot -/

theorem tidy.setFaultN (hs : s.tidy) : s.setFaultN.tidy := hs.wf.withBoot
theorem tidy.resetAll {power} (_ : s.tidy) : (s.resetAll power).tidy := by
  unfold State.resetAll
  extract_lets quick old b old' c t
  have ht : t.tidy := ⟨rfl, rfl, rfl⟩
  exact ht.wf.wf.showLg
theorem tidy.startCamp0 (hs : s.tidy) : s.startCamp0.tidy := by
  unfold State.startCamp0
  exact hs.resetAll.withBoot.lifeInc
theorem tidy.enterReset {power} (hs : s.tidy) : (s.enterReset power).tidy := by
  unfold State.enterReset
  exact hs.resetAll.withBoot
theorem tidy.perstRise (hs : s.tidy) : s.perstRise.tidy := by
  unfold State.perstRise
  refine .ite hs ?_
  extract_lets _ t
  have ht : t.tidy := hs.withBoot
  exact .ite ht.startCamp0 ht
theorem tidy.lasersOff (hs : s.tidy) : s.lasersOff.tidy := by
  unfold State.lasersOff
  exact hs.withBoot.foldl fun _ _ hu => .ite hu.linkFailure hu
theorem tidy.lasersOn {m} (hs : s.tidy) : (s.lasersOn m).tidy := by
  unfold State.lasersOn
  exact hs.withBoot.foldl fun _ _ hu => .ite hu.retrain hu
theorem tidy.campLasers {l} (hs : s.tidy) : (s.campLasers l).tidy := by
  unfold State.campLasers
  refine hs.withBoot.wf.foldl fun _ _ hu => ?_
  extract_lets P u1
  have hu1 : u1.tidy := hu.wf.wf
  exact .ite hu1.train hu1.enterState
theorem tidy.campReport {c status reason detail new} (hs : s.tidy) : (s.campReport c status reason detail new).tidy := by
  unfold State.campReport
  extract_lets s1 s2
  have hs2 : s2.tidy := hs.wf.wf.wf.wf.wf
  exact .ite hs2.cairnRec hs2
theorem tidy.campStop {status reason detail new} (hs : s.tidy) : (s.campStop status reason detail new).tidy := by
  unfold State.campStop
  exact hs.wf.wf.wf.wf.withBoot.setFaultN.lifeInc.campReport
theorem tidy.campEnd {detail new waits} (hs : s.tidy) : (s.campEnd detail new waits).tidy := by
  unfold State.campEnd
  exact hs.campReport.wf.wf.withBoot
theorem tidy.addDefects {c l} (hs : s.tidy) : (s.addDefects c l).tidy := by
  unfold State.addDefects
  exact hs.foldl fun _ _ ht => ht.appendDefect
theorem tidy.campOne {w} (hs : s.tidy) : (s.campOne w).tidy := by
  unfold State.campOne
  extract_lets eff first second fell s1 s2 s3 _ s4
  have hs2 : s2.tidy := hs.wf.wf.wf.wf
  split
  · exact hs.campStop
  · exact .ite hs.campStop (.campEnd (.wf (.wf (.withFault (.ite hs2.lifeInc hs2)))))
theorem tidy.campTwo {w} (hs : s.tidy) : (s.campTwo w).tidy := by
  unfold State.campTwo
  extract_lets n s1 new
  have hs1 : s1.tidy := hs.addDefects
  split
  · exact hs1.campStop
  · exact hs1.campStop
  · exact hs1.cairnStart.campEnd
theorem tidy.campThree {w} (hs : s.tidy) : (s.campThree w).tidy := by
  unfold State.campThree
  extract_lets n _ s0 s1 new s2 s3
  have hs1 : s1.tidy := .addDefects (.wf (.ite hs.withBoot.wf hs))
  have hs2 : s2.tidy := hs1.foldl fun _ _ ht => ht.wf.wf
  split
  · exact hs1.campStop
  · exact hs1.campStop
  · exact hs1.campStop
  · exact hs1.campStop
  · exact ((hs2.withMem (MemSt.poison_wf _ _ _ hs2.mem)).foldl fun _ _ ht => ht.pitonAt).campEnd
theorem tidy.campFour {w} (hs : s.tidy) : (s.campFour w).tidy := by
  unfold State.campFour
  extract_lets n s1 new s2 s3 s4
  have hs1 : s1.tidy := hs.addDefects
  have hs4 : s4.tidy := ((hs1.withMem (MemSt.poison_wf _ _ _ hs1.mem)).foldl fun _ _ ht => ht.pitonAt).campEnd
  split
  · exact hs1.campStop
  · exact hs1.campStop
  · exact hs1.campStop
  · exact .ite hs4.campLasers hs4
theorem tidy.campFive {w} (hs : s.tidy) : (s.campFive w).tidy := by
  unfold State.campFive
  exact .ite hs hs.addDefects.campEnd
theorem tidy.campComplete {w} (hs : s.tidy) : (s.campComplete w).tidy := by
  unfold State.campComplete
  refine .ite hs ?_
  split
  · split
    · exact hs.campStop
    · exact hs.wf.campEnd
  · exact hs.campOne
  · exact hs.campTwo
  · exact hs.campThree
  · exact hs.campFour
  · exact hs.campFive
  · exact hs
theorem tidy.campTimeout (hs : s.tidy) : s.campTimeout.tidy := by
  unfold State.campTimeout
  exact .ite hs hs.campStop
theorem tidy.commit (hs : s.tidy) : s.commit.tidy := by
  unfold State.commit
  refine .ite hs ?_
  extract_lets +onlyGivenNames s0
  have h0 : s0.tidy := hs.wf.wf.wf.wf
  have h1 : (s0.withBoot { s0.boot with campNs := 0, committed := false }).tidy := h0.withBoot
  generalize s0.withBoot { s0.boot with campNs := 0, committed := false } = s1 at h1 ⊢
  extract_lets +onlyGivenNames s2
  split
  · exact h1.campStop
  · exact .ite h1.campStop (h1.setReg.withBoot.foldl fun _ _ ht => ht.sendPartner.actOnPartner)
theorem tidy.lockTables (hs : s.tidy) : s.lockTables.tidy := by
  unfold State.lockTables
  refine .ite hs ?_
  split
  · exact hs.campStop
  · extract_lets s1
    have hs1 : s1.tidy := hs.wf.wf
    exact .campReport (.ite hs1.wf hs1)
theorem tidy.burnSvn {src} (hs : s.tidy) : (s.burnSvn src).tidy := by
  unfold State.burnSvn
  exact .ite hs.hacc hs.withBoot.wf
theorem tidy.writeBootCtl {src v} (hs : s.tidy) : (s.writeBootCtl src v).tidy := by
  unfold State.writeBootCtl
  extract_lets s1 s2 s3
  have hs1 : s1.tidy := hs.wf
  have hs2 : s2.tidy := .ite hs1.commit hs1
  have hs3 : s3.tidy := .ite hs2.lockTables hs2
  exact .ite hs1.startCamp0 (.ite hs3.burnSvn hs3)
theorem tidy.writeJtagToken {v} (hs : s.tidy) : (s.writeJtagToken v).tidy := .ite hs (.ite hs.withBoot hs.satInc)
theorem tidy.bootCmd {src bit} (hs : s.tidy) : (s.bootCmd src bit).tidy := by
  unfold State.bootCmd
  exact hs.guardWrite fun ht => ht.writeBootCtl

/-! ## Tensor -/

theorem tidy.readRunsOf {rs} (hs : s.tidy) : (s.readRunsOf rs).2.2.tidy := by
  unfold State.readRunsOf
  split
  · exact hs
  · exact hs.memRead
theorem tidy.rd {c t} (hs : s.tidy) : (s.rd c t).2.tidy := by
  unfold State.rd
  extract_lets
  exact hs.readRunsOf.readRunsOf
theorem tidy.rdCodes {c t} (hs : s.tidy) : (s.rdCodes c t).2.tidy := by
  unfold State.rdCodes
  exact hs.rd

/-! ## Engines -/

theorem tidy.vreSum {c acc n a fin} (hs : s.tidy) : (Machine.vreSum s c acc n a fin).2.tidy := by
  unfold Machine.vreSum
  extract_lets
  exact hs.rd
theorem tidy.vreDot {c acc n a b fin} (hs : s.tidy) : (Machine.vreDot s c acc n a b fin).2.tidy := by
  unfold Machine.vreDot
  extract_lets
  exact hs.rd.rd
theorem tidy.vreAxpy {c r d x y} (hs : s.tidy) : (Machine.vreAxpy s c r d x y).2.tidy := by
  unfold Machine.vreAxpy
  extract_lets
  exact hs.rd.rd
theorem tidy.vreBest {c greatest d a} (hs : s.tidy) : (Machine.vreBest s c greatest d a).2.tidy := by
  unfold Machine.vreBest
  extract_lets
  exact hs.rd
theorem tidy.gseGather {c m oob d t i} (hs : s.tidy) : (Machine.gseGather s c m oob d t i).2.tidy := by
  unfold Machine.gseGather
  extract_lets ix n per p ta tsc u step r
  have hix : ix.2.tidy := hs.rd
  have hr : r.2.2.2.tidy := by
    refine List.foldlRecOn (motive := fun q : List (Option Nat) × List (Option Nat) × Bool × State => q.2.2.2.tidy) _ _ hix
      fun acc ha x _ => ?_
    cases x
    · exact ha.readRunsOf.readRunsOf
    · exact ha
    · exact ha
  exact hr
theorem tidy.gseScatter {c m oob t src i} (hs : s.tidy) : (Machine.gseScatter s c m oob t src i).2.tidy := by
  unfold Machine.gseScatter
  extract_lets
  exact hs.rd.readRunsOf.readRunsOf
theorem tidy.gseScatadd {c m oob t src i} (hs : s.tidy) : (Machine.gseScatadd s c m oob t src i).2.tidy := by
  unfold Machine.gseScatadd
  extract_lets
  exact hs.rd.rd.rd
theorem tidy.sseSort {c desc k dk dp key} (hs : s.tidy) : (Machine.sseSort s c desc k dk dp key).2.tidy := by
  unfold Machine.sseSort
  extract_lets
  exact hs.rd
theorem tidy.sseSelect {c d m a b} (hs : s.tidy) : (Machine.sseSelect s c d m a b).2.tidy := by
  unfold Machine.sseSelect
  extract_lets
  exact hs.rd.rdCodes.rdCodes
theorem tidy.sseCompact {c cnt d a m} (hs : s.tidy) : (Machine.sseCompact s c cnt d a m).2.tidy := by
  unfold Machine.sseCompact
  extract_lets
  exact hs.rd.rd
theorem tidy.sseFilter {c cc thr cnt d a} (hs : s.tidy) : (Machine.sseFilter s c cc thr cnt d a).2.tidy := by
  unfold Machine.sseFilter
  extract_lets
  exact hs.rd
theorem tidy.sseDedup {c cnt d dp a} (hs : s.tidy) : (Machine.sseDedup s c cnt d dp a).2.tidy := by
  unfold Machine.sseDedup
  extract_lets
  exact hs.rd
theorem tidy.sseHist {c add oob d a} (hs : s.tidy) : (Machine.sseHist s c add oob d a).2.tidy := by
  unfold Machine.sseHist
  extract_lets x old b p cnt bins top
  have hx : x.2.tidy := hs.rd
  exact .ite hx.rd hx
theorem tidy.tenMma {c add ta tb tmask d a b} (hs : s.tidy) : (Machine.tenMma s c add ta tb tmask d a b).2.tidy := by
  unfold Machine.tenMma
  extract_lets m n kk x y z av bv cv cols tiles mk present term start bad st die as w satCol skip _ g gs outs w' skips last all _
  have hz : z.2.tidy := hs.rd.rd.rd
  have hmk : mk.2.2.tidy := by
    unfold mk
    split
    · exact hz.readRunsOf
    · exact hz
  have hst : st.tidy := .ite hmk hmk
  split
  · exact hst
  · exact hst
theorem tidy.cdcCvt {c d a} (hs : s.tidy) : (Machine.cdcCvt s c d a).2.tidy := by
  unfold Machine.cdcCvt
  extract_lets
  exact hs.rd
theorem tidy.cdcMxq {c d a} (hs : s.tidy) : (Machine.cdcMxq s c d a).2.tidy := by
  unfold Machine.cdcMxq
  extract_lets
  exact hs.rd.readRunsOf
theorem tidy.cdcCodes {c d a} (hs : s.tidy) : (Machine.cdcCodes s c d a).2.tidy := by
  unfold Machine.cdcCodes
  extract_lets
  exact hs.rdCodes
theorem tidy.cdcSpx {c cnt d v m} (hs : s.tidy) : (Machine.cdcSpx s c cnt d v m).2.tidy := by
  unfold Machine.cdcSpx
  extract_lets
  exact hs.readRunsOf.rdCodes
theorem tidy.cdcSpc {c cnt v m a} (hs : s.tidy) : (Machine.cdcSpc s c cnt v m a).2.tidy := by
  unfold Machine.cdcSpc
  extract_lets
  exact hs.rdCodes
theorem tidy.cdcSplit {c dh dl a} (hs : s.tidy) : (Machine.cdcSplit s c dh dl a).2.tidy := by
  unfold Machine.cdcSplit
  extract_lets
  exact hs.rd
theorem tidy.crcOf {c init a} (hs : s.tidy) : (Machine.crcOf s c init a).2.2.tidy := by
  unfold Machine.crcOf
  extract_lets
  exact hs.readRunsOf
theorem tidy.resOf {c a} (hs : s.tidy) : (Machine.resOf s c a).2.2.tidy := by
  unfold Machine.resOf
  extract_lets
  exact hs.rd
theorem tidy.cdcValue {sd r} (hr : r.2.2.tidy) : (Machine.cdcValue sd r).2.tidy := by
  unfold Machine.cdcValue
  exact hr
theorem tidy.cdcCheck {c se r} (hr : r.2.2.tidy) : (Machine.cdcCheck c se r).2.tidy := by
  unfold Machine.cdcCheck
  split
  · exact hr
  · exact hr
theorem tidy.compute {c x2} (hs : s.tidy) : (Machine.compute s c x2).2.tidy := by
  unfold Machine.compute
  split
  · exact hs.vreSum
  · exact hs.vreDot
  · exact hs.vreAxpy
  · exact hs.vreBest
  · exact hs.vreBest
  · exact hs.vreSum
  · exact hs.vreDot
  · exact hs.gseGather
  · exact hs.gseScatter
  · exact hs.gseScatadd
  · exact hs.sseSort
  · exact hs.sseSort
  · exact hs.sseSelect
  · exact hs.sseCompact
  · exact hs.sseFilter
  · exact hs.sseDedup
  · exact hs.sseHist
  · exact hs.tenMma
  · exact hs.cdcCvt
  · exact hs.cdcMxq
  · exact hs.cdcCodes
  · exact hs.cdcCodes
  · exact hs.cdcSpx
  · exact hs.cdcSpc
  · exact hs.cdcSplit
  · exact .cdcValue hs.crcOf
  · exact .cdcValue hs.resOf
  · exact .cdcCheck hs.crcOf
  · exact .cdcCheck hs.resOf
  · exact hs
  · exact hs
  · exact hs

/-! ## StoreBase -/

theorem tidy.storeFrame {die ctx h op dst block origin seq frag first last status bs} (hs : s.tidy) :
    (s.storeFrame die ctx h op dst block origin seq frag first last status bs).tidy :=
  hs.send
theorem tidy.streamBlock {die ctx h block origin seq pieces} (hs : s.tidy) : (s.streamBlock die ctx h block origin seq pieces).tidy := by
  unfold State.streamBlock
  exact hs.foldl fun _ _ ht => ht.storeFrame.inc
theorem tidy.pumpOvf (hs : s.tidy) : s.pumpOvf.tidy := by
  unfold State.pumpOvf
  refine hs.foldl fun _ _ ht => ?_
  split
  · exact ht
  · exact ht.withGate.withMfb.streamBlock

/-! ## Tables -/

theorem tidy.tblAdvance {n} (hs : s.tidy) : (s.tblAdvance n).tidy := .ite hs (.ite hs.wf hs.wf.wf)
theorem tidy.tblPut {n t i w v} (hs : s.tidy) : (s.tblPut n t i w v).tidy := by
  unfold State.tblPut
  exact hs.withFwd
theorem tidy.writeTbl {src n v} (hs : s.tidy) : (s.writeTbl src n v).tidy := by
  unfold State.writeTbl
  exact .ite hs.reject (.tblAdvance (.ite (hs.foldl fun _ _ hu => hu.tblPut) hs.tblPut))
theorem tidy.readTbl {src n} (hs : s.tidy) : (s.readTbl src n).tidy := .ite hs.hacc.emit hs.emit.tblAdvance
theorem tidy.rwlWrite {src a old new k} (hs : s.tidy) (hk : ∀ {t}, t.tidy → (k t).tidy) : (s.rwlWrite src a old new k).tidy :=
  .ite (.ite hs hs.hacc) (hk hs)
theorem tidy.writeQlimit {src n q c v} (hs : s.tidy) : (s.writeQlimit src n q c v).tidy := by
  unfold State.writeQlimit
  exact hs.rwlWrite fun ht => .ite ht.reject ht.wf
theorem tidy.writeHoldCfg {src n q v} (hs : s.tidy) : (s.writeHoldCfg src n q v).tidy := by
  unfold State.writeHoldCfg
  exact hs.rwlWrite fun ht => .ite ht.setReg ht.reject
theorem tidy.writeRouteCfg {src n c v} (hs : s.tidy) : (s.writeRouteCfg src n c v).tidy := by
  unfold State.writeRouteCfg
  exact .ite hs.reject hs.setReg
theorem tidy.writeMirCtl {src m v} (hs : s.tidy) : (s.writeMirCtl src m v).tidy := by
  unfold State.writeMirCtl
  exact .ite hs.reject hs.setReg.withFwd
theorem tidy.writeMirLog2 {src m v} (hs : s.tidy) : (s.writeMirLog2 src m v).tidy := by
  unfold State.writeMirLog2
  exact .ite hs.reject hs.setReg
theorem tidy.rewriteDie {t n} (hs : s.tidy) : (s.rewriteDie t n).tidy := by
  unfold State.rewriteDie
  exact hs.withFwd.count
theorem tidy.moveQueued {t} (hs : s.tidy) : (s.moveQueued t).tidy := by
  unfold State.moveQueued
  exact .ite hs hs.withFwd.emptyPort
theorem tidy.mapRewrite {t} (hs : s.tidy) : (s.mapRewrite t).tidy := by
  unfold State.mapRewrite
  exact (hs.foldl fun _ _ hu => hu.rewriteDie).moveQueued
theorem tidy.admitHeld {P c bw} (hs : s.tidy) : (s.admitHeld P c bw).tidy := by
  unfold State.admitHeld
  split
  · exact hs
  · extract_lets n rest answer __src s1 r __src'
    have hr : r.1.tidy := .offerAll (fun ha => ha.forwardF) hs.withFwd
    refine .ite ?_ hr.withFwd
    split
    · exact hr.xoffClear
    · exact hr
theorem tidy.land {p} (hs : s.tidy) : (s.land p).tidy := by
  unfold State.land
  split
  · exact hs
  · extract_lets __src s1 __src'
    have hs1 : s1.tidy := hs.withFwd
    exact .ite hs1 (.ite hs1.withFwd hs1.frameCrcFault)

/-! ## Fabric -/

theorem tidy.memRefuse {n f st} (hs : s.tidy) : (s.memRefuse n f st).tidy := by
  unfold State.memRefuse
  extract_lets s1 s2
  have hs1 : s1.tidy := .ite hs.inc (.ite hs hs.inc)
  exact .send (.ite hs1.inc.reqReport hs1)
theorem tidy.toPort {n P f ingress} (hs : s.tidy) : (s.toPort n P f ingress).tidy := by
  unfold State.toPort
  exact hs.admitTo fun ht => ht.forwardF
theorem tidy.deliverReq {n P f addr ingress} (hs : s.tidy) : (s.deliverReq n P f addr ingress).tidy := by
  unfold State.deliverReq
  exact hs.egressCheck.toPort
theorem tidy.respond {n f op status data} (hs : s.tidy) : (s.respond n f op status data).tidy := hs.send
theorem tidy.coreAnswer {k no status data} (hs : s.tidy) : (s.coreAnswer k no status data).tidy := hs.withMfb
theorem tidy.take {n source no f o} (hs : s.tidy) : (s.take n source no f o).tidy := by
  unfold State.take
  extract_lets wait _ s1
  have hs1 : s1.tidy := hs.withMfb
  exact .ite hs1.inc hs1.forwardF
theorem tidy.coreRequest {k x} (hs : s.tidy) : (s.coreRequest k x).2.tidy := by
  unfold State.coreRequest
  extract_lets no f _ s1 _
  have hs1 : s1.tidy := hs.withMfb
  exact .ite hs1.take hs1.withMfb
theorem tidy.coreNext {source} (hs : s.tidy) : (s.coreNext source).tidy := by
  unfold State.coreNext
  split
  · exact hs.withMfb.take
  · exact hs
theorem tidy.selfAnswer {p st} (hs : s.tidy) : (s.selfAnswer p st).tidy := by
  unfold State.selfAnswer
  exact .ite hs.coreAnswer hs.toPort
theorem tidy.anchorFail {source no st} (hs : s.tidy) : (s.anchorFail source no st).tidy := by
  unfold State.anchorFail
  exact hs.withMfb.foldl fun _ _ ht => ht.reqReport.selfAnswer
theorem tidy.retire {p st} (hs : s.tidy) : (s.retire p st).tidy := by
  unfold State.retire
  extract_lets _ s1 s2
  have hs1 : s1.tidy := hs.withMfb
  have hs2 : s2.tidy := .ite hs1.anchorFail hs1
  exact .ite hs2.coreNext hs2
theorem tidy.response {n f} (hs : s.tidy) : (s.response n f).tidy := by
  unfold State.response
  refine .ite hs ?_
  split
  · extract_lets s1
    have hs1 : s1.tidy := hs.retire
    exact .ite hs1.coreAnswer (.ite hs1 hs1.toPort)
  · exact .ite hs.inc.withMfb hs.inc
theorem tidy.answerRepeat {m f a} (hs : s.tidy) : (s.answerRepeat m f a).tidy := hs.inc.respond
theorem tidy.openRecord {m f} (hs : s.tidy) : (s.openRecord m f).tidy := .ite hs hs.withMfb
theorem tidy.closeRecord {m src tag target a} (hs : s.tidy) : (s.closeRecord m src tag target a).tidy := by
  unfold State.closeRecord
  split
  · exact hs
  · exact hs.withMfb.foldl fun _ _ ht => ht.answerRepeat
theorem tidy.atomicApply {h a op x y} (hs : s.tidy) : (s.atomicApply h a op x y).2.tidy := by
  unfold State.atomicApply
  extract_lets
  split
  · exact hs.memRead
  · exact hs.memWrite
theorem tidy.putGroup {g} (hs : s.tidy) : (s.putGroup g).tidy := hs.withMfb
theorem tidy.dropGroup {no} (hs : s.tidy) : (s.dropGroup no).tidy := hs.withMfb
theorem tidy.sendGroup {g} (hs : s.tidy) : (s.sendGroup g).tidy := by
  unfold State.sendGroup
  split
  · exact hs.dropGroup
  · extract_lets s1 v r q
    have hs1 : s1.tidy := hs.inc
    exact .ite hs1.atomicApply.putGroup hs1.putGroup.toPort
theorem tidy.closeLines {m dev feid lo n} (hs : s.tidy) : (s.closeLines m dev feid lo n).tidy := by
  unfold State.closeLines
  refine .ite hs (hs.foldl fun _ _ ht => ?_)
  extract_lets
  split
  · exact ht.sendGroup
  · exact ht
theorem tidy.openGroup {m dev port feid addr oper} (hs : s.tidy) : (s.openGroup m dev port feid addr oper).tidy := by
  unfold State.openGroup
  exact .ite hs hs.withMfb
theorem tidy.atomicSingle {n m dev P f addr ingress} (hs : s.tidy) : (s.atomicSingle n m dev P f addr ingress).tidy := by
  unfold State.atomicSingle
  extract_lets s1 r
  have hs1 : s1.tidy := hs.openRecord
  exact .ite hs1.atomicApply.respond.closeRecord hs1.deliverReq
theorem tidy.atomicHome {n m dev P f addr ingress gw} (hs : s.tidy) : (s.atomicHome n m dev P f addr ingress gw).tidy := by
  unfold State.atomicHome
  extract_lets joins oper places full s0 s1
  have hs1 : s1.tidy := .atomicSingle (.ite hs.inc hs)
  split
  · refine .ite (.ite ?_ hs.sendGroup.inc.atomicSingle) ?_
    · extract_lets g' s1
      have hs1 : s1.tidy := hs.openRecord.putGroup
      exact .ite hs1.sendGroup hs1
    · extract_lets s1
      have hs1 : s1.tidy := hs.sendGroup.atomicSingle
      exact .ite hs1.openGroup hs1
  · exact .ite hs1.openGroup hs1
theorem tidy.answerMembers {m st x3 x4} (hs : s.tidy) : (s.answerMembers m st x3 x4).tidy := by
  induction x4 generalizing s m st x3 with
  | nil =>
    unfold State.answerMembers
    exact hs
  | cons x t ih =>
    unfold State.answerMembers
    exact ih hs.inc.respond.closeRecord
theorem tidy.groupAnswer {g st v} (hs : s.tidy) : (s.groupAnswer g st v).tidy := hs.dropGroup.answerMembers
theorem tidy.unland {x} (hs : s.tidy) : (s.unland x).tidy := hs.withFwd
theorem tidy.atCheck {n f k} (hs : s.tidy) (hk : ∀ {x0 x1 t}, t.tidy → (k x0 x1 t).tidy) : (s.atCheck n f k).tidy := by
  unfold State.atCheck
  split
  · exact hs
  · extract_lets s1 st
    have hs1 : s1.tidy := hs.unland
    refine .ite hs1 (.ite hs1.frameCrcFault ?_)
    split
    · exact .ite hs1.memRefuse (hk (.ite hs1.inc hs1))
    · exact hs1.memRefuse
theorem tidy.doLoad {n f} (hs : s.tidy) : (s.doLoad n f).tidy := by
  unfold State.doLoad
  refine hs.atCheck ?_
  intro _ _ _ ht
  refine .ite ?_ ht.inc.closeLines.deliverReq
  split
  · exact ht.memRefuse
  · exact ht.inc.closeLines.memRead.respond
theorem tidy.doStore {n f} (hs : s.tidy) : (s.doStore n f).tidy := by
  unfold State.doStore
  refine hs.atCheck ?_
  intro _ _ _ ht
  refine .ite ?_ ht.inc.closeLines.deliverReq
  split
  · exact ht.memRefuse
  · exact ht.inc.closeLines.memWrite.respond
theorem tidy.doAtomic {n f} (hs : s.tidy) : (s.doAtomic n f).tidy := by
  unfold State.doAtomic
  refine hs.atCheck fun ht => ?_
  extract_lets o dev m go
  have hgo {a u} (hu : u.tidy) : (go a u).tidy := by
    unfold go
    extract_lets v
    have hv : v.tidy := hu.inc
    split
    · split
      · exact hv.answerRepeat
      · exact hv.withMfb
    · exact hv.atomicHome
  refine .ite ?_ (hgo ht)
  split
  · exact ht.memRefuse
  · exact hgo ht
theorem tidy.doAccept {n f} (hs : s.tidy) : (s.doAccept n f).tidy := by
  unfold State.doAccept
  split
  · exact hs
  · refine .ite hs ?_
    split
    · exact hs
    · extract_lets s1 __src behind __src' s2
      have hs1 : s1.tidy := hs.unland
      exact .ite hs1.inc (.ite hs1.withMfb.take (hs1.withFwd.foldl fun _ _ ht => ht.hold))
theorem tidy.doResponse {n f} (hs : s.tidy) : (s.doResponse n f).tidy := by
  unfold State.doResponse
  split
  · exact hs.unland.response.pumpOvf
  · exact hs
theorem tidy.doAtomicRsp {n f} (hs : s.tidy) : (s.doAtomicRsp n f).tidy := by
  unfold State.doAtomicRsp
  split
  · split
    · exact hs.unland.groupAnswer
    · exact hs
  · split
    · extract_lets s1 s2
      have hs2 : s2.tidy := hs.unland.closeRecord.forwardF
      split
      · split
        · exact hs2.unland.response
        · exact hs2
      · exact hs2
    · exact hs.doResponse
theorem tidy.doGroupResponse {no} (hs : s.tidy) : (s.doGroupResponse no).tidy := by
  unfold State.doGroupResponse
  split
  · exact hs
  · split
    · exact hs.groupAnswer
    · split
      · exact hs.unland.groupAnswer
      · exact hs
theorem tidy.doAnchorRelease {source} (hs : s.tidy) : (s.doAnchorRelease source).tidy := by
  unfold State.doAnchorRelease
  split
  · exact hs
  · exact .ite hs hs.withMfb.forwardF
theorem tidy.doTimeout {source tag} (hs : s.tidy) : (s.doTimeout source tag).tidy := by
  unfold State.doTimeout
  split
  · exact hs
  · exact hs.inc.reqReport.selfAnswer.withMfb.retire
theorem tidy.spillUsed {n} (hs : s.tidy) : (s.spillUsed n).tidy := hs.wf
theorem tidy.carBegin {n st} (hs : s.tidy) : (s.carBegin n st).tidy := hs.withMfb.wf
theorem tidy.carInsert {n} (hs : s.tidy) : (s.carInsert n).tidy := by
  unfold State.carInsert
  exact .ite hs.carBegin ((hs.withMfb.quotaTake.foldl fun _ _ ht => ht.spillUsed).carBegin)
theorem tidy.carDelete {p} (hs : s.tidy) : (s.carDelete p).tidy := by
  unfold State.carDelete
  exact (hs.withMfb.foldl fun _ _ ht => ht.quotaGive).foldl fun _ _ ht => ht.spillUsed
theorem tidy.carRemove {n} (hs : s.tidy) : (s.carRemove n).tidy := by
  unfold State.carRemove
  exact .ite hs.carDelete.carBegin hs.carBegin
theorem tidy.carRead {n} (hs : s.tidy) : (s.carRead n).tidy := by
  unfold State.carRead
  exact hs.setReg.setReg.setReg.carBegin
theorem tidy.writeCarCmd {src n v} (hs : s.tidy) : (s.writeCarCmd src n v).tidy := by
  unfold State.writeCarCmd
  refine .ite hs.reject ?_
  extract_lets s1
  have hs1 : s1.tidy := hs.wf.wf
  split
  · exact hs1.carInsert
  · exact hs1.carRemove
  · exact hs1.carRead
  · exact hs1
theorem tidy.carDone {n} (hs : s.tidy) : (s.carDone n).tidy := by
  unfold State.carDone
  split
  · exact hs.withMfb.wf.wf
  · exact hs
theorem tidy.writeMfbCfg {src n v} (hs : s.tidy) : (s.writeMfbCfg src n v).tidy := .ite hs.reject hs.setReg
theorem tidy.writeCarWord {src n a v} (hs : s.tidy) : (s.writeCarWord src n a v).tidy := .ite hs.reject hs.setReg
theorem tidy.writeCarSpill {src n v} (hs : s.tidy) : (s.writeCarSpill src n v).tidy := by
  unfold State.writeCarSpill
  exact .ite hs.reject hs.setReg

/-! ## Rope -/

theorem tidy.setSres {clu h bytes} (hs : s.tidy) : (s.setSres clu h bytes).tidy := by
  unfold State.setSres
  extract_lets n c s1
  have hs1 : s1.tidy := hs.wf
  exact .ite hs1 hs1.wf
theorem tidy.ropeMake {n ctx d old} (hs : s.tidy) : (s.ropeMake n ctx d old).2.tidy := by
  unfold State.ropeMake
  extract_lets h ms c0 clu bytes had sres free _ s1 top s2 _
  have hs1 : s1.tidy := by
    unfold s1
    split
    · exact hs.quotaTake
    · extract_lets t
      have ht : t.tidy := hs.setSres
      exact .withRope (.ite ht ht.quotaGive.quotaTake)
  split
  · exact hs
  · split
    · exact hs
    · split
      · exact hs
      · split
        · exact hs
        · split
          · exact hs
          · split
            · exact hs
            · exact (hs1.setSres.withMem (MemSt.clearValid_wf _ _ _ hs1.mem)).withRope
theorem tidy.ropeDestroy {c} (hs : s.tidy) : (s.ropeDestroy c).tidy := by
  unfold State.ropeDestroy
  exact hs.setSres.quotaGive.withRope
theorem tidy.ropeCmd {n ctx op} (hs : s.tidy) : (s.ropeCmd n ctx op).2.tidy := by
  unfold State.ropeCmd
  extract_lets
  split
  · exact hs
  · split
    · exact hs.ropeMake
    · split
      · exact hs.ropeMake
      · exact hs
    · split
      · exact hs.breakRope
      · exact hs
    · split
      · exact hs.ropeDestroy
      · exact hs
    · exact hs
theorem tidy.writeRopeCmd {src n ctx op} (hs : s.tidy) : (s.writeRopeCmd src n ctx op).tidy := by
  unfold State.writeRopeCmd
  refine .ite hs.reject ?_
  extract_lets s1 r _
  have hs1 : s1.tidy := hs.wf
  exact .ite hs1 hs1.ropeCmd.withRope.wf
theorem tidy.writeRopeD {src n w v} (hs : s.tidy) : (s.writeRopeD src n w v).tidy := .ite hs.reject hs.setReg
theorem tidy.ropeCmdDone {n} (hs : s.tidy) : (s.ropeCmdDone n).tidy := by
  unfold State.ropeCmdDone
  split
  · exact hs
  · exact hs.withRope.wf.wf

/-! ## RopeOps -/

theorem tidy.landPiece {ctx r opno k off bytes} (hs : s.tidy) : (s.landPiece ctx r opno k off bytes).tidy := by
  unfold State.landPiece
  split
  · exact hs
  · extract_lets
    split
    · exact hs.putRope
    · split
      · extract_lets at_ n cx rs s1 l end_ _ s2 whole
        have hs1 : s1.tidy := .ite hs hs.memWrite
        have hs2 : s2.tidy := hs1.withComp
        clear_value s2
        split
        · split
          · next hc =>
            split at hc
            · exact hs2.creditReturn hc
            · cases hc
          · exact hs2.breakRope
        · exact hs2
      · exact hs
theorem tidy.releaseCore {c} (hs : s.tidy) : (s.releaseCore c).tidy := by
  unfold State.releaseCore
  split
  · split
    · next hc =>
      split at hc
      · exact hs.creditReturn hc
      · cases hc
    · exact hs.breakRope
  · exact hs
theorem tidy.passDown {c o k frag off first last payload} (hs : s.tidy) : (s.passDown c o k frag off first last payload).tidy := by
  unfold State.passDown
  extract_lets s1 s2
  have hs1 : s1.tidy := hs.foldl fun _ _ ht => ht.ropeFrame
  exact tidy.foldl (.ite (hs1.foldl fun _ _ ht => ht.ropeFrame) hs1) fun _ _ ht => .ite (.ite ht.releaseCore ht.landPiece) ht.ropeFrame
theorem tidy.sendCredits {c o k all} (hs : s.tidy) : (s.sendCredits c o k all).tidy := by
  unfold State.sendCredits
  exact (hs.foldl fun _ _ ht => ht.ropeFrame).foldl fun _ _ ht => ht.ropeFrame
theorem tidy.freeChunk {ctx opno k} (hs : s.tidy) : (s.freeChunk ctx opno k).tidy := by
  unfold State.freeChunk
  split
  · exact hs
  · split
    · exact hs
    · exact hs.putRope
theorem tidy.sendPartial {c o k accs codes} (hs : s.tidy) : (s.sendPartial c o k accs codes).tidy := by
  unfold State.sendPartial
  extract_lets dst base out s1 n bs esc s2
  have hs1 : s1.tidy := hs.inc
  exact .ite (hs1.foldl fun _ _ hu => hu.ropeFrame) (.ite (hs1.count.count.foldl fun _ _ hu => hu.ropeFrame) (hs1.foldl fun _ _ hu =>
      hu.ropeFrame))
theorem tidy.dualFault {c opno k} (hs : s.tidy) : (s.dualFault c opno k).tidy := by
  unfold State.dualFault
  exact hs.freeW.freeW.inc.ropeCheck
theorem tidy.leave {c o x hw} (hs : s.tidy) : (s.leave c o x hw).tidy := by
  unfold State.leave
  extract_lets k sum accs base got want s0 fr g f rs codes bytes s1 fin s2 fs s3 hop hops codes' s1' hf o1 _
  have hs0 : s0.tidy := .ite hs.inc hs
  have hs3 : s3.tidy := by
    unfold s3
    refine tidy.foldl (.putRope (.inc (.ite hs0.count hs0))) fun _ _ ht => ?_
    extract_lets
    split
    · split
      · exact ht.passDown
      · exact ht
    · exact ht
  refine .ite (.ropeCheck (.inc (.ite hs0.freeW hs0))) (.ite (.ite hs0.dualFault ?_) (.ite hs0.dualFault (.sendPartial (.putRope (.ite
      hs0.count.count hs0)))))
  split
  · exact .ite hs3 hs3.sendCredits.freeChunk
  · exact hs3
theorem tidy.settleOp {c o u} (hs : s.tidy) (h : s.settleOp c o = some u) : u.tidy := by
  unfold State.settleOp at h
  extract_lets at h
  split at h
  · cases h
    exact hs.ropeRecord.putRope
  · split at h
    · cases h
      exact hs.putRope.ropeFrame
    · split at h
      · cases h
        exact hs.ropeRecord.putRope
      · split at h
        · cases h
          exact hs.putRope.trace
        · cases h
theorem tidy.forwardCopy {c o k src frag off first last payload} (hs : s.tidy) :
    (s.forwardCopy c o k src frag off first last payload).tidy := by
  unfold State.forwardCopy
  refine .ite ?_ (.ropeFrame (.putRope (.ite hs.inc hs)))
  extract_lets x x1 s1 ordered fin
  have hs1 : s1.tidy := hs.putRope.passDown
  split
  · exact hs1
  · refine .ite hs1 ?_
    split
    · exact hs1
    · exact hs1.inc.putRope.freeChunk
theorem tidy.contribute {ctx r opno word i frag first last payload} (hs : s.tidy) :
    (s.contribute ctx r opno word i frag first last payload).tidy := by
  unfold State.contribute
  split
  · exact hs
  · split
    · exact hs.breakRope
    · split
      · exact hs
      · exact .ite hs.breakRope (.ite hs.breakRope (.ite hs.breakRope (.ite hs.putRope hs.putRope.forwardCopy)))
theorem tidy.handOver {c f r} (hs : s.tidy) : (s.handOver c f r).tidy := by
  unfold State.handOver
  split
  · exact hs
  · extract_lets word len rest fs __src s1 s2 __src'
    have hs2 : s2.tidy := hs.withComp.foldl fun _ _ ht => ht.contribute
    exact .ite hs2.withComp hs2
theorem tidy.pumpLoop {fuel ctx hw} (hs : s.tidy) : (State.pumpLoop fuel s ctx hw).tidy := by
  induction fuel generalizing s hw with
  | zero => exact hs
  | succ fuel ih =>
    unfold State.pumpLoop
    split
    · exact hs
    · refine .ite hs ?_
      split
      · exact ih hs.leave
      · split
        · exact ih hs.handOver
        · split
          · next ho =>
            obtain ⟨_, -, hu⟩ := List.exists_of_findSome?_eq_some ho
            exact ih (hs.settleOp hu)
          · exact hs
theorem tidy.pumpRope {ctx hw} (hs : s.tidy) : (s.pumpRope ctx hw).tidy := by
  unfold State.pumpRope
  split
  · exact hs
  · exact hs.pumpLoop

/-! ## Fde -/

theorem tidy.readAs {k rs} (hs : s.tidy) : (s.readAs k rs).2.2.tidy := by
  unfold State.readAs
  split
  · exact hs
  · exact hs.memRead
theorem tidy.writeAs {k ws} (hs : s.tidy) : (s.writeAs k ws).2.tidy := by
  unfold State.writeAs
  refine List.foldlRecOn (motive := fun q : Bool × State => q.2.tidy) _ _ hs fun t ht w _ => ?_
  exact ht.memWrite
theorem tidy.movePlan {c d a idx} (hs : s.tidy) : (s.movePlan c d a idx).2.2.2.2.tidy := by
  unfold State.movePlan
  split
  · exact hs
  · extract_lets
    exact hs.rd
theorem tidy.fRequests {k feid flow pieces data} (hs : s.tidy) : (s.fRequests k feid flow pieces data).2.tidy := by
  unfold State.fRequests
  extract_lets r
  have hr : r.2.2.tidy := by
    unfold r
    refine List.foldlRecOn (motive := fun q : List Machine.Part × Nat × State => q.2.2.tidy) _ _ hs fun t ht p _ => ?_
    exact ht.coreRequest
  exact hr
theorem tidy.moveStart {f d a idx flow} (hs : s.tidy) : (s.moveStart f d a idx flow).2.tidy := by
  unfold State.moveStart
  extract_lets c k _ p u su du fo feid sa da sc scw base res live offs rq zeros src us res1 offs' rq' ws l twice
  have hsc : sc.2.2.tidy := hs.movePlan.readAs
  have hsrc : src.2.2.tidy := hsc.readAs
  split
  · exact hs
  · split
    · exact hsc.fRequests
    · split
      · exact hsrc.fRequests
      · exact hsrc
theorem tidy.fdeStart {f} (hs : s.tidy) : (s.fdeStart f).2.tidy := by
  unfold State.fdeStart
  extract_lets
  split
  · exact hs.moveStart
  · extract_lets ctx first r x
    have hr : r.2.2.tidy := by
      unfold r
      split
      · exact hs.readAs
      · exact hs
    exact hr
  · extract_lets
    exact hs.readAs.withGate
  · split
    · exact hs
    · extract_lets
      exact hs.coreRequest
  · extract_lets
    exact hs.coreRequest
  · exact hs
theorem tidy.fdeAfter {f} (hs : s.tidy) : (s.fdeAfter f).tidy := by
  unfold State.fdeAfter
  split
  · exact hs
  · split
    · exact .pumpRope (.ite hs (hs.putRope.foldl fun _ _ ht => ht.landPiece))
    · exact hs
theorem tidy.fdeEnd {f} (hs : s.tidy) : (s.fdeEnd f).2.tidy := by
  unfold State.fdeEnd
  extract_lets
  exact hs.withMfb

/-! ## Seq -/

theorem tidy.alu {k d a b f} (hs : s.tidy) : (s.alu k d a b f).tidy := by
  unfold State.alu
  exact hs.seqStep fun ht => ht.setSreg.nextPc
theorem tidy.ld {k d b} (hs : s.tidy) : (s.ld k d b).tidy := by
  unfold State.ld
  exact hs.seqStep fun ht => .ite ht.seqFault (.ite ht.freeW.setSreg.nextPc ht.memRead.setSreg.nextPc)
theorem tidy.st {k a b} (hs : s.tidy) : (s.st k a b).tidy := by
  unfold State.st
  exact hs.seqStep fun ht => .ite ht.seqFault ht.memWrite.nextPc
theorem tidy.setDepth {k l} (hs : s.tidy) : (s.setDepth k l).tidy := hs.setCst.wf
theorem tidy.call {k l} (hs : s.tidy) : (s.call k l).tidy := by
  unfold State.call
  exact hs.seqStep fun ht => .ite ht.seqFault ht.setDepth.setPc
theorem tidy.ret {k} (hs : s.tidy) : (s.ret k).tidy := by
  unfold State.ret
  refine hs.seqStep ?_
  intro _ ht
  split
  · exact ht.seqFault
  · exact ht.setDepth.setPc
theorem tidy.idle {k} (hs : s.tidy) : (s.idle k).tidy := by
  unfold State.idle
  exact hs.seqStep fun ht => .ite ht.nextPc ht.block
theorem tidy.halt {k a f} (hs : s.tidy) : (s.halt k a f).tidy := by
  unfold State.halt
  refine .ite hs ?_
  extract_lets
  split
  · exact .ite hs.haltDone hs.block
  · refine .ite hs ?_
    split
    · exact .ite hs.haltDone hs.block
    · exact hs.seqFault
theorem tidy.onFlag {k f g} (hs : s.tidy) (hg : ∀ {x0 t}, t.tidy → (g x0 t).tidy) : (s.onFlag k f g).tidy := by
  unfold State.onFlag
  refine hs.seqStep ?_
  intro _ ht
  split
  · exact hg ht
  · exact ht.seqFault
theorem tidy.onCch {k c n g} (hs : s.tidy) (hg : ∀ {x0 x1 t}, t.tidy → (g x0 x1 t).tidy) : (s.onCch k c n g).tidy := by
  unfold State.onCch
  exact hs.seqStep fun ht => .ite ht.seqFault (.ite ht.seqFault (.ite ht.seqFault (hg ht)))
theorem tidy.cchTake {g n} (hs : s.tidy) : (s.cchTake g n).tidy := hs.setCch
theorem tidy.onJumar {k j rs g} (hs : s.tidy) (hg : ∀ {x0 t}, t.tidy → (g x0 t).tidy) : (s.onJumar k j rs g).tidy := by
  unfold State.onJumar
  exact hs.seqStep fun ht => .ite ht.seqFault (.ite ht.seqFault (hg ht))
theorem tidy.jaddSift {x0} (hs : s.tidy) : (State.jaddSift x0 s).2.tidy := by
  induction x0 generalizing s with
  | nil =>
    unfold State.jaddSift
    exact hs
  | cons x t ih =>
    unfold State.jaddSift
    extract_lets
    split
    · exact ih hs
    · split
      · exact ih hs.seqFault
      · split
        · exact ih hs.seqFault
        · split
          · exact ih hs.seqFault
          · exact ih hs
theorem tidy.jaddPair {p l} (hs : s.tidy) : (s.jaddPair p l).tidy := by
  unfold State.jaddPair
  extract_lets e o bad
  clear_value bad
  split
  · exact hs.foldl fun _ _ ht => ht.seqFault
  · exact hs.setJumar.setJumar.foldl fun _ _ ht => ht.nextPc
theorem tidy.jadd {l} (hs : s.tidy) : (s.jadd l).tidy := by
  unfold State.jadd
  exact hs.jaddSift.foldl fun _ _ ht => ht.jaddPair

/-! ## EngIssue -/

theorem tidy.startFlight {f} (hs : s.tidy) : (s.startFlight f).tidy := by
  unfold State.startFlight
  extract_lets c srcs und x r g dsts others hit g1 _ s1
  have hr : r.2.tidy := by
    unfold r
    split
    · exact hs.fdeStart
    · exact hs.compute
  have hs1 : s1.tidy := hr.withComp
  split
  · exact hs.coreFault
  · exact .fdeAfter (.ite hs1.wakeTen hs1)
theorem tidy.pumpCore {k eng} (hs : s.tidy) : (s.pumpCore k eng).tidy := by
  unfold State.pumpCore
  refine .ite ?_ hs
  split
  · exact hs.startFlight
  · exact hs
theorem tidy.pumpTen {x0 x2} (hs : s.tidy) : (State.pumpTen x0 s x2).tidy := by
  induction x0 generalizing s x2 with
  | zero =>
    unfold State.pumpTen
    exact hs
  | succ k ih =>
    unfold State.pumpTen
    refine .ite hs ?_
    split
    · exact hs
    · split
      · exact hs
      · exact ih hs.withComp.startFlight
theorem tidy.pumpEng {k eng} (hs : s.tidy) : (s.pumpEng k eng).tidy := .ite hs.pumpTen hs.pumpCore
theorem tidy.issue {k op o} (hs : s.tidy) : (s.issue k op o).tidy := by
  unfold State.issue
  exact hs.seqStep fun ht => .ite ht.block ht.withComp.nextPc.pumpEng
theorem tidy.unqueue {k eng} (hs : s.tidy) : (s.unqueue k eng).tidy := by
  unfold State.unqueue
  split
  · exact .ite hs.dropWait.wf hs
  · exact hs
theorem tidy.freeAcc (hs : s.tidy) : s.freeAcc.2.tidy := by
  unfold State.freeAcc
  exact hs.freeB (n := 61)
theorem tidy.freeAccs {x0} (hs : s.tidy) : (State.freeAccs x0 s).2.tidy := by
  induction x0 generalizing s with
  | zero =>
    unfold State.freeAccs
    exact hs
  | succ k ih =>
    unfold State.freeAccs
    extract_lets
    exact ih hs.freeAcc
theorem tidy.blur {f} (hs : s.tidy) : (s.blur f).2.tidy := by
  unfold State.blur
  extract_lets a b d regs kept pick status chk want fault oob
  have hd : d.2.tidy := hs.freeW.freeW.freeW
  have hregs : regs.2.tidy := by
    refine List.foldlRecOn (motive := fun q : List (Nat × Word) × State => q.2.tidy) _ _ hd fun t ht r _ => ?_
    split
    · exact ht
    · exact ht.freeW
  have hkept : kept.2.tidy := by
    unfold kept
    split
    · exact hregs.freeAccs
    · exact hregs
  exact hkept
theorem tidy.writeRegs {k l} (hs : s.tidy) : (s.writeRegs k l).tidy := by
  unfold State.writeRegs
  exact hs.foldl fun _ _ ht => ht.setSreg
theorem tidy.applyWrites {f r} (hs : s.tidy) : (s.applyWrites f r).2.tidy := by
  unfold State.applyWrites
  extract_lets
  exact hs.writeAs.foldl fun _ _ hu => hu.freeB.memWrite
theorem tidy.complete {f0 err} (hs : s.tidy) : (s.complete f0 err).tidy := by
  unfold State.complete
  extract_lets k e q f b r _ s1 w s2 st c s3 s4 s5 regs s6
  have hq : q.2.tidy := by
    unfold q
    split
    · exact hs.fdeEnd
    · exact hs
  have hb : b.2.tidy := by
    unfold b
    split
    · exact hq.blur
    · exact hq
  have hs2 : s2.tidy := hb.withComp.applyWrites.foldl fun _ _ ht => ht.count
  have hs5 : s5.tidy := hs2.setCst.setReg.writeRegs
  have hs6 : s6.tidy := by
    unfold s6
    split
    · exact hs5.writeFlag
    · exact hs5
  split
  · exact hs.coreFault.pumpEng
  · exact .ite hs.inc.coreFault.pumpEng hs
  · split
    · exact hs2.coreFault.pumpEng
    · exact hs6.pumpEng.unqueue.drained
theorem tidy.engineComplete {k eng i err} (hs : s.tidy) : (s.engineComplete k eng i err).tidy := by
  unfold State.engineComplete
  split
  · exact hs
  · exact .ite hs hs.complete
theorem tidy.halted {k} (hs : s.tidy) : (s.halted k).tidy := hs.haltCore.pumpTen

/-! ## Power -/

theorem tidy.setClock (hs : s.tidy) : s.setClock.tidy := hs.wf.wf
theorem tidy.writePwrCtl {src v} (hs : s.tidy) : (s.writePwrCtl src v).tidy := by
  unfold State.writePwrCtl
  exact .ite hs.reject hs.wf.wf.setClock
theorem tidy.charge {h n} (hs : s.tidy) : (s.charge h n).tidy := by
  unfold State.charge
  extract_lets t _ s1 old lim s2
  have hs1 : s1.tidy := hs.withPower
  have hs2 : s2.tidy := hs1.count
  exact .ite hs1 (.ite hs2.report hs2)
theorem tidy.chargeAll {total shares} (hs : s.tidy) : (s.chargeAll total shares).tidy := by
  unfold State.chargeAll
  exact (hs.foldl fun _ _ ht => ht.charge).charge
theorem tidy.countJoules {n} (hs : s.tidy) : (s.countJoules n).tidy := by
  unfold State.countJoules
  extract_lets t _ s1
  have hs1 : s1.tidy := hs.withCairn
  exact .ite hs1 hs1.count
theorem tidy.interval {dyn cd leak lent dies shares} (hs : s.tidy) : (s.interval dyn cd leak lent dies shares).tidy := by
  unfold State.interval
  refine .ite hs ?_
  extract_lets k b p pcd s0 s1 w s2 _ s3 s4
  have hs3 : s3.tidy := (hs.foldl fun _ _ ht => ht.wf.wf).count.wf.wf.withPower
  exact .countJoules (.chargeAll (.ite hs3.freeW.wf hs3.wf))
theorem tidy.ceilingStep (hs : s.tidy) : s.ceilingStep.tidy := by
  unfold State.ceilingStep
  exact .ite hs (.ite hs.withPower.setClock.trace.inc (.ite hs.withPower.setClock.trace hs))
theorem tidy.powerCap (hs : s.tidy) : s.powerCap.tidy := .ite hs.report hs
theorem tidy.calFault (hs : s.tidy) : s.calFault.tidy := by
  unfold State.calFault
  exact hs.withPower.wf.report
theorem tidy.calGood {k} (hs : s.tidy) : (s.calGood k).tidy := by
  unfold State.calGood
  extract_lets n _ s1
  have hs1 : s1.tidy := hs.wf.withPower
  exact .ite hs1.wf hs1
theorem tidy.calibrate {m} (hs : s.tidy) : (s.calibrate m).tidy := by
  unfold State.calibrate
  refine .ite hs ?_
  extract_lets e _ s0 n _ s1
  have hs0 : s0.tidy := hs.withPower
  have hs1 : s1.tidy := hs0.withPower
  split
  · exact .ite hs1.calFault hs1
  · extract_lets s1 a up
    have hs1 : s1.tidy := hs0.withPower.wf
    exact .ite (.ite hs1.freeW.calGood hs1.wf.calFault) (.ite hs1.wf.calFault (.ite hs1.wf.calFault hs1.freeW.calGood))
theorem tidy.droopTrip {n} (hs : s.tidy) : (s.droopTrip n).tidy := by
  unfold State.droopTrip
  exact .ite hs hs.wf.inc.withPower
theorem tidy.marginCrux {n sev} (hs : s.tidy) : (s.marginCrux n sev).tidy := by
  unfold State.marginCrux
  exact hs.withPower.report
theorem tidy.trimTo {n v slack tj} (hs : s.tidy) : (s.trimTo n v slack tj).tidy := by
  unfold State.trimTo
  exact .ite hs hs.wf.inc.lifeInc.cairnRec
theorem tidy.regulator {n answers} (hs : s.tidy) : (s.regulator n answers).tidy := .ite hs.withPower (.ite hs hs.withPower.report)
theorem tidy.trimDie {n r} (hs : s.tidy) : (s.trimDie n r).tidy := by
  unfold State.trimDie
  extract_lets s0 s1 v step
  have hs0 : s0.tidy := hs.wf.wf.wf
  have hs1 : s1.tidy := hs0.regulator
  exact .ite hs0 (.ite hs1 (.ite hs1.trimTo (.ite (.ite hs1.marginCrux hs1.trimTo) hs1)))
theorem tidy.trimAll {rs} (hs : s.tidy) : (s.trimAll rs).tidy := by
  unfold State.trimAll
  refine .ite hs (hs.foldl fun _ _ ht => ?_)
  split
  · exact .ite ht ht.trimDie
  · exact ht
theorem tidy.alarmTrim {n r} (hs : s.tidy) : (s.alarmTrim n r).tidy := by
  unfold State.alarmTrim
  refine .ite hs ?_
  extract_lets s0 s1 v s2
  have hs0 : s0.tidy := hs.wf.wf.wf
  have hs1 : s1.tidy := hs0.regulator
  exact .ite hs0 (.marginCrux (.ite hs1.trimTo hs1))
theorem tidy.idlePort {P} (hs : s.tidy) : (s.idlePort P).tidy := .ite hs hs.setPort.inc
theorem tidy.setTen {c v} (hs : s.tidy) : (s.setTen c v).tidy := hs.withPower
theorem tidy.tenLight {c} (hs : s.tidy) : (s.tenLight c).tidy := .ite hs hs.setTen
theorem tidy.tenDeep {c} (hs : s.tidy) : (s.tenDeep c).tidy := .ite hs hs.setTen.inc
theorem tidy.selfRefresh (hs : s.tidy) : s.selfRefresh.tidy := .ite hs hs.withPower.inc
theorem tidy.wakeBlocks (hs : s.tidy) : s.wakeBlocks.tidy := by
  unfold State.wakeBlocks
  exact (hs.foldl fun _ _ ht => .ite ht.wf ht).withPower.foldl fun _ _ ht => .ite ht.setPort ht
theorem tidy.writeHrnWake {h v} (hs : s.tidy) : (s.writeHrnWake h v).tidy := hs.setReg.wakeBlocks
theorem tidy.writeSysWake {v} (hs : s.tidy) : (s.writeSysWake v).tidy := hs.setReg.wakeBlocks
theorem tidy.writeDroopCfg {src v} (hs : s.tidy) : (s.writeDroopCfg src v).tidy := .ite hs.reject hs.setReg
theorem tidy.writeTrimCfg {src v} (hs : s.tidy) : (s.writeTrimCfg src v).tidy := .ite hs.reject hs.setReg

/-! ## Store -/

theorem tidy.storeEntry {x i} (hs : s.tidy) : (s.storeEntry x i).2.2.tidy := by
  unfold State.storeEntry
  split
  · exact hs
  · extract_lets
    exact hs.memRead
theorem tidy.putDir {x i w0} (hs : s.tidy) : (s.putDir x i w0).tidy := by
  unfold State.putDir
  split
  · exact hs.memWrite
  · exact hs
theorem tidy.streamCopy {x block origin seq o} (hs : s.tidy) : (s.streamCopy x block origin seq o).tidy := by
  unfold State.streamCopy
  refine tidy.streamBlock (List.foldlRecOn (motive := fun q : List (Nat × List Byte) × State => q.2.tidy) _ _ hs fun acc ha i _ => ?_)
  split
  · exact ha.memRead
  · exact ha
theorem tidy.serveFetch {x block origin seq} (hs : s.tidy) : (s.serveFetch x block origin seq).tidy := by
  unfold State.serveFetch
  extract_lets s1 refuse n c0
  have hs1 : s1.tidy := hs.inc
  split
  · exact hs1.streamBlock
  · extract_lets e s2 s3 r _ lost c
    have hs2 : s2.tidy := hs1.storeEntry
    have hr : r.2.tidy := by
      unfold r
      have hs3 : s3.tidy := hs2.inc
      refine List.foldlRecOn (motive := fun q : List Machine.Part × State => q.2.tidy) _ _ hs3 fun acc ha k _ => ?_
      exact ha.withMfb.take
    exact .ite hs2.streamBlock (.ite hr.withGate.pumpOvf (.ite hs2.inc.streamBlock (.ite hs2.streamCopy hs2.storeFrame)))
theorem tidy.serveHeld {x block origin seq} (hs : s.tidy) : (s.serveHeld x block origin seq).tidy := by
  unfold State.serveHeld
  extract_lets
  split
  · exact hs.streamBlock
  · extract_lets e mine
    have he : e.2.2.tidy := hs.storeEntry
    refine .ite he.streamBlock ?_
    split
    · exact he.streamCopy
    · exact he.inc.streamBlock
theorem tidy.fetchIn {clu f} (hs : s.tidy) : (s.fetchIn clu f).tidy := by
  unfold State.fetchIn
  split
  · exact hs
  · extract_lets s1 block origin
    have hs1 : s1.tidy := hs.unland
    split
    · exact .ite hs1 (.ite hs1.serveHeld hs1.serveFetch)
    · exact hs1.streamBlock
theorem tidy.manifestOf {n x r} (hs : s.tidy) (h : s.manifestOf n x = some r) : r.2.tidy := by
  unfold State.manifestOf at h
  split at h
  · cases h
  · cases h
    exact hs.memRead
theorem tidy.storeMake {n ctx} (hs : s.tidy) : (s.storeMake n ctx).2.2.tidy := by
  unfold State.storeMake
  extract_lets x mf
  have hm : s.manifestOf n x = mf := rfl
  clear_value mf
  split
  · exact hs
  · split
    · exact hs
    · split
      · exact hs
      · split
        · exact hs
        · next _ ms s0 _ =>
          have h0 : s0.tidy := hs.manifestOf hm
          split
          · exact h0
          · extract_lets words fw s1 offs room s2
            have h1 : s1.tidy := h0.freeW
            split
            · extract_lets base pl s3 s4 s5 s6
              have h6 : s6.tidy := h1.quotaTake.setReg.setReg.setReg.setReg.poolMade.memWrite.foldl fun _ _ ht => ht.memWrite
              split
              · exact h0
              · split
                · exact h0
                · exact h6.withGate
            · exact h0
theorem tidy.writeStoreCmd {src n ctx op} (hs : s.tidy) : (s.writeStoreCmd src n ctx op).tidy := by
  unfold State.writeStoreCmd
  refine .ite hs.reject ?_
  extract_lets s1 begin_ r
  have hs1 : s1.tidy := hs.wf
  have hr : r.2.2.tidy := hs1.storeMake
  split
  · exact hs1
  · exact .wf (.withGate (.ite hr.setReg hr))
  · exact hs1.withGate.wf
  · exact hs1.withGate.wf
theorem tidy.writeStoreD {src n a mask v} (hs : s.tidy) : (s.writeStoreD src n a mask v).tidy := .ite hs.reject hs.setReg
theorem tidy.storeDone {n} (hs : s.tidy) : (s.storeDone n).tidy := by
  unfold State.storeDone
  split
  · exact hs
  · extract_lets __src s1 __src' s2
    have hs1 : s1.tidy := hs.withGate.wf.wf
    refine .ite hs1 ?_
    split
    · exact hs1
    · exact .ite hs1.wf.wf hs1.withGate.poolGone.wf.wf
theorem tidy.fillEnd {f} (hs : s.tidy) : (s.fillEnd f).tidy := by
  unfold State.fillEnd
  exact hs.withGate.wf.wf.wf.wf.report
theorem tidy.fillNext {x x1} (hs : s.tidy) : (State.fillNext x x1 s).tidy := by
  induction x1 generalizing x s with
  | zero =>
    unfold State.fillNext
    exact hs
  | succ k ih =>
    unfold State.fillNext
    split
    · exact hs
    · extract_lets
      split
      · exact .ite hs (ih hs.withGate.storeFrame)
      · exact .ite hs.fillEnd hs
theorem tidy.fillStart {n} (hs : s.tidy) : (s.fillStart n).tidy := by
  unfold State.fillStart
  split
  · exact hs.wf
  · exact .ite hs.wf ((hs.foldl fun _ _ ht => ht.putDir).withMfb.withGate.setReg.wf.fillNext)
theorem tidy.fillLose {p st} (hs : s.tidy) : (s.fillLose p st).tidy := by
  unfold State.fillLose
  split
  · exact hs.withGate
  · exact hs
theorem tidy.fillGo (hs : s.tidy) : s.fillGo.tidy := by
  unfold State.fillGo
  split
  · exact hs
  · split
    · exact hs.fillNext
    · exact hs.fillEnd
theorem tidy.fillFail {c st} (hs : s.tidy) : (s.fillFail c st).tidy := hs.fillLose.fillGo
theorem tidy.fillWrite {x f c} (hs : s.tidy) : (s.fillWrite x f c).tidy := by
  unfold State.fillWrite
  extract_lets s1 s2 f2 _ s3
  have hs1 : s1.tidy := by
    refine hs.foldl fun t i ht => ?_
    split
    · split
      · extract_lets t1
        have h1 : t1.tidy := ht.memWrite
        exact .ite (h1.withMem (poisons_wf h1.mem)) h1
      · exact ht.memWrite
      · exact ht
    · exact ht
  clear_value s1
  have hs3 : s3.tidy := hs1.putDir.withGate.wf
  exact hs3.withMfb.fillGo
theorem tidy.fillBlock {x f fr} (hs : s.tidy) : (s.fillBlock x f fr).tidy := by
  unfold State.fillBlock
  split
  · exact hs
  · exact .ite hs.fillFail (.ite hs.fillWrite hs.withGate)
theorem tidy.blockIn {clu fr} (hs : s.tidy) : (s.blockIn clu fr).tidy := by
  unfold State.blockIn
  split
  · exact hs
  · extract_lets s1 origin
    have hs1 : s1.tidy := hs.unland
    split
    · refine .ite ?_ (.ite hs1 hs1.send)
      split
      · exact hs1.fillBlock
      · exact hs1
    · exact .ite hs1 hs1.send
theorem tidy.fillAbort (hs : s.tidy) : s.fillAbort.tidy := by
  unfold State.fillAbort
  split
  · exact hs.fillLose.fillEnd
  · exact hs
theorem tidy.writeFillCtl {src v} (hs : s.tidy) : (s.writeFillCtl src v).tidy := by
  unfold State.writeFillCtl
  refine .ite (.ite hs.fillAbort hs.reject) ?_
  extract_lets s1
  have hs1 : s1.tidy := hs.wf.wf
  split
  · exact hs1
  · exact hs1.fillStart
  · exact hs1.wf
theorem tidy.fillTimeout {i} (hs : s.tidy) : (s.fillTimeout i).tidy := by
  unfold State.fillTimeout
  split
  · split
    · exact hs.fillFail
    · exact hs
  · exact hs
theorem tidy.writeMarkCtl {src v} (hs : s.tidy) : (s.writeMarkCtl src v).tidy := by
  unfold State.writeMarkCtl
  refine .ite hs.reject ?_
  extract_lets n s1
  have hs1 : s1.tidy := hs.wf.wf.wf
  refine .ite hs1 ?_
  split
  · exact hs1.wf
  · exact (hs1.foldl fun _ _ ht => .ite ht ht.putDir).wf.wf

/-! ## Gate -/

theorem tidy.gateFrame {c kind op dst seq frag first last status word bs} (hs : s.tidy) :
    (s.gateFrame c kind op dst seq frag first last status word bs).tidy :=
  hs.send
theorem tidy.gateMessage {c kind op dst seq at_ status word begun bs} (hs : s.tidy) :
    (s.gateMessage c kind op dst seq at_ status word begun bs).tidy := by
  unfold State.gateMessage
  exact hs.foldl fun _ _ ht => ht.gateFrame
theorem tidy.refuseToken {c f st} (hs : s.tidy) : (s.refuseToken c f st).tidy := hs.gateFrame
theorem tidy.answerToken {ctx slot st bs tally} (hs : s.tidy) : (s.answerToken ctx slot st bs tally).tidy := by
  unfold State.answerToken
  split
  · exact hs
  · split
    · exact hs
    · extract_lets s1 __src g c1 s2
      have hs2 : s2.tidy := hs.gateMessage.putGate
      exact .ite hs2.gateWitness hs2
theorem tidy.failToken {ctx slot st} (hs : s.tidy) : (s.failToken ctx slot st).tidy := by
  unfold State.failToken
  split
  · exact hs
  · exact hs.answerToken
theorem tidy.poisonToken {ctx slot die} (hs : s.tidy) : (s.poisonToken ctx slot die).tidy := hs.inc.failToken
theorem tidy.requestBlock {ctx origin block seq} (hs : s.tidy) : (s.requestBlock ctx origin block seq).tidy := by
  unfold State.requestBlock
  split
  · exact hs
  · refine .ite hs.inc ?_
    extract_lets kept s1
    have hs1 : s1.tidy := hs.putGate.inc
    split
    · exact hs1.serveFetch
    · exact hs1
theorem tidy.prefetchFor {c f seq es} (hs : s.tidy) : (s.prefetchFor c f seq es).tidy := by
  unfold State.prefetchFor
  refine .ite hs ?_
  split
  · exact hs
  · refine hs.foldl fun _ _ ht => ?_
    refine ht.foldl fun _ _ hu => ?_
    extract_lets
    split
    · exact .ite hu.requestBlock hu
    · exact hu
theorem tidy.dispatchTo {c t dst es} (hs : s.tidy) : (s.dispatchTo c t dst es).tidy := by
  unfold State.dispatchTo
  exact hs.gateFrame.gateMessage
theorem tidy.dispatchToken {c t} (hs : s.tidy) : (s.dispatchToken c t).tidy := by
  unfold State.dispatchToken
  exact ((hs.foldl fun _ _ hu => hu.dispatchTo).foldl fun _ _ hu => hu.dispatchTo).putGate.foldl fun _ _ hu => hu.prefetchFor
theorem tidy.tryDispatch {c t} (hs : s.tidy) : (s.tryDispatch c t).2.tidy := by
  unfold State.tryDispatch
  extract_lets hit r kept lost lg gs final t1 s1 s2 z
  have hs2 : s2.tidy := hs.count.count.putGate
  clear_value s2
  split
  · exact hs.dispatchToken
  · split
    · exact .ite hs hs.putGate.inc
    · split
      · dsimp only
        exact hs2.answerToken
      · exact hs2.dispatchToken
theorem tidy.gateMove {ctx x1} (hs : s.tidy) : (State.gateMove ctx x1 s).tidy := by
  induction x1 generalizing ctx s with
  | zero =>
    unfold State.gateMove
    exact hs
  | succ k ih =>
    unfold State.gateMove
    split
    · exact hs
    · split
      · exact hs
      · refine .ite hs ?_
        extract_lets r
        have hr : r.2.tidy := hs.tryDispatch
        exact .ite hr (ih hr)
theorem tidy.advanceGate {ctx} (hs : s.tidy) : (s.advanceGate ctx).tidy := hs.gateMove
theorem tidy.gateToken {c t} (hs : s.tidy) : (s.gateToken c t).tidy := by
  unfold State.gateToken
  split
  · extract_lets clu n w w2 _ w3
    have h3 : w3.tidy := hs.memWrite.memWrite.putGate
    clear_value w3
    cases hc : w3.creditReturn (4096 * c.die + c.notify) 1 with
    | none => exact h3
    | some u => exact h3.creditReturn hc
  · extract_lets vals logits ranking top gs chosen s1
    refine .ite hs.putGate.poisonToken ?_
    have h1 : s1.tidy := by
      refine .ite ?_ hs
      split
      · exact hs.foldl fun _ _ ht => ht.requestBlock
      · exact hs
    clear_value s1
    split
    · exact h1
    · extract_lets s2
      have h2 : s2.tidy := h1.putGate
      exact .ite h2.answerToken h2.advanceGate
theorem tidy.takeGate {clu f k} (hs : s.tidy) (hk : ∀ {t x1}, t.tidy → (k t x1).tidy) : (s.takeGate clu f k).tidy := by
  unfold State.takeGate
  split
  · exact hs
  · extract_lets s1
    have hs1 : s1.tidy := hs.unland
    split
    · exact hs1.inc
    · exact .ite hs1.inc (hk hs1)
theorem tidy.tokenFrame {c t f} (hs : s.tidy) : (s.tokenFrame c t f).tidy := by
  unfold State.tokenFrame
  refine .ite hs.putGate (.ite hs.putGate.refuseToken ?_)
  extract_lets t2 c2 s1
  have hs1 : s1.tidy := hs.inc.putGate
  exact .ite hs1.putGate.poisonToken hs1.gateToken
theorem tidy.tokenIn {clu f} (hs : s.tidy) : (s.tokenIn clu f).tidy := by
  unfold State.tokenIn
  refine .ite hs (hs.takeGate ?_)
  intro _ _ hs1
  refine .ite hs1.inc (.ite ?_ (.ite hs1.refuseToken (.ite hs1.refuseToken ?_)))
  · split
    · exact .ite hs1.tokenFrame hs1
    · exact hs1
  · split
    · exact hs1
    · exact hs1.putGate.tokenFrame
theorem tidy.selection {ctx} (hs : s.tidy) : (s.selection ctx).tidy := by
  unfold State.selection
  split
  · exact hs
  · extract_lets __src s1 slot n es chosen
    have hs1 : s1.tidy := hs.withGate
    split
    · exact hs1
    · refine .ite hs1.inc ?_
      split
      · exact hs1.inc
      · exact .ite hs1.inc.failToken (.ite hs1.poisonToken.advanceGate (.ite hs1.inc.failToken.advanceGate hs1.putGate.advanceGate))
theorem tidy.dispatchIn {clu f} (hs : s.tidy) : (s.dispatchIn clu f).tidy := by
  unfold State.dispatchIn
  refine hs.takeGate ?_
  intro _ _ hs1
  refine .ite ((hs1.foldl fun _ _ hu => hu.send).putGate) ?_
  split
  · exact hs1.inc
  · extract_lets s2
    have hs2 : s2.tidy := hs1.foldl fun _ _ hu => hu.send
    exact .ite hs2.putGate hs2
theorem tidy.combine {c t k} (hs : s.tidy) : (s.combine c t k).tidy := by
  unfold State.combine
  exact .ite hs.inc.checkFault.failToken hs.answerToken
theorem tidy.outputIn {clu f k} (hs : s.tidy) : (s.outputIn clu f k).tidy := by
  unfold State.outputIn
  refine hs.takeGate ?_
  intro _ _ hs1
  extract_lets slot e rank stale
  have hstale : stale.tidy := hs1.inc
  split
  · exact hstale
  · split
    · exact hstale
    · refine .ite hstale ?_
      extract_lets got whole x1 t1 s2
      have hs2 : s2.tidy := hs1.putGate
      exact .ite hs2 (.ite hs2.inc (.advanceGate (.ite hs2.combine hs2)))
theorem tidy.gateTimeout {ctx slot} (hs : s.tidy) : (s.gateTimeout ctx slot).tidy := by
  unfold State.gateTimeout
  split
  · exact hs
  · split
    · exact hs
    · exact .ite hs hs.inc.report.failToken.advanceGate
theorem tidy.gateRelease {c} (hs : s.tidy) : (s.gateRelease c).tidy := by
  unfold State.gateRelease
  exact hs.foldl fun _ _ ht => ht.setSres
theorem tidy.gateMake {n ctx d old} (hs : s.tidy) : (s.gateMake n ctx d old).2.tidy := by
  unfold State.gateMake
  extract_lets c0 h ps own wr hr pr s1 slack
  have hs1 : s1.tidy := by
    unfold s1
    split
    · exact hs.quotaTake
    · extract_lets t
      have ht : t.tidy := hs.gateRelease
      exact .withGate (.ite ht ht.quotaGive.quotaTake)
  clear_value s1 pr wr hr
  split
  · exact hs
  · split
    · exact hs
    · split
      · exact hs
      · split
        · exact hs
        · split
          · exact hs
          · split
            · extract_lets mw mh mp fw top lo first s2
              have h2 : s2.tidy := hs1.memRead.memRead.memRead.freeW.foldl fun _ _ ht =>
                ht.setSres.withMem (MemSt.clearValid_wf _ _ _ ht.mem)
              exact h2.withGate
            · exact hs
theorem tidy.gateEnd {c st} (hs : s.tidy) : (s.gateEnd c st).tidy := by
  unfold State.gateEnd
  extract_lets s1
  have hs1 : s1.tidy := hs.foldl fun _ _ ht => ht.failToken
  split
  · exact hs1.gateWitness
  · exact hs1
theorem tidy.gateCmd {n ctx op} (hs : s.tidy) : (s.gateCmd n ctx op).2.tidy := by
  unfold State.gateCmd
  extract_lets
  split
  · exact hs
  · split
    · exact hs.gateMake
    · split
      · extract_lets
        split
        · exact hs.gateEnd.gateMake
        · exact hs
      · exact hs
    · split
      · extract_lets
        exact hs.gateWitness.gateRelease.quotaGive.withGate
      · exact hs
    · exact hs
theorem tidy.writeGateCmd {src n ctx op} (hs : s.tidy) : (s.writeGateCmd src n ctx op).tidy := by
  unfold State.writeGateCmd
  refine .ite hs.reject ?_
  extract_lets s1 r r2 _
  have hs1 : s1.tidy := hs.wf
  have hr : r.2.tidy := hs1.gateCmd
  exact .ite hs1 (.wf (.withGate (.ite hr hr.trace)))
theorem tidy.writeGateD {src n w v} (hs : s.tidy) : (s.writeGateD src n w v).tidy := .ite hs.reject hs.setReg
theorem tidy.gateCmdDone {n} (hs : s.tidy) : (s.gateCmdDone n).tidy := by
  unfold State.gateCmdDone
  split
  · exact hs
  · exact hs.withGate.wf.wf
theorem tidy.heatAdvance {n} (hs : s.tidy) : (s.heatAdvance n).tidy := .ite hs.wf hs
theorem tidy.readHeat {n} (hs : s.tidy) : (s.readHeat n).tidy := hs.emit.heatAdvance
theorem tidy.writeHeatCtl {n v} (hs : s.tidy) : (s.writeHeatCtl n v).tidy := by
  unfold State.writeHeatCtl
  extract_lets s1
  have hs1 : s1.tidy := hs.wf.wf
  refine .ite hs1 ?_
  split
  · exact hs1.putGate
  · exact hs1
theorem tidy.guardRead {src a k} (hs : s.tidy) (hk : ∀ {t}, t.tidy → (k t).tidy) : (s.guardRead src a k).tidy := by
  unfold State.guardRead
  refine .ite hs ?_
  split
  · exact hs.hacc.emit
  · exact hk hs

/-! ## Rings -/

theorem tidy.setCqUsed {i n} (hs : s.tidy) : (s.setCqUsed i n).tidy := hs.withHost
theorem tidy.setInFlight {i} (hs : s.tidy) : (s.setInFlight i).tidy := hs.wf
theorem tidy.irqSend {i} (hs : s.tidy) : (s.irqSend i).tidy := by
  unfold State.irqSend
  refine .ite hs ?_
  extract_lets fn vec _ s1 ctl hidden _
  have hs1 : s1.tidy := hs.withHost
  exact .ite hs1.withHost hs1.emit
theorem tidy.irqEntry {i} (hs : s.tidy) : (s.irqEntry i).tidy := by
  unfold State.irqEntry
  refine .ite hs ?_
  extract_lets n _ s1
  have hs1 : s1.tidy := hs.withHost
  exact .ite hs1.irqSend hs1
theorem tidy.writeCqe {i user status opc reason lost vals} (hs : s.tidy) : (s.writeCqe i user status opc reason lost vals).tidy := by
  unfold State.writeCqe
  extract_lets x phase e at_ h s1 nx s2
  have hs1 : s1.tidy := by
    unfold s1
    split
    · exact hs.emit
    · split
      · exact hs.memWrite
      · exact hs
    · exact hs.send
  have hs2 : s2.tidy := hs1.wf.setCqUsed
  exact .irqEntry (.ite hs2.wf hs2)
theorem tidy.finishRun {r e} (hs : s.tidy) : (s.finishRun r e).tidy := by
  unfold State.finishRun
  extract_lets i key named armed _ s1 lost s2
  have hs1 : s1.tidy := .ite hs.withHost hs
  have hs2 : s2.tidy := .ite hs1 hs1.writeCqe
  exact .ite hs2 hs2.inc
theorem tidy.consume {i n} (hs : s.tidy) : (s.consume i n).tidy := by
  unfold State.consume
  refine .wf (.ite hs.withHost (hs.foldl fun _ _ ht => ?_))
  split
  · exact ht.memRead
  · exact ht
theorem tidy.startRun {i es e} (hs : s.tidy) : (s.startRun i es e).tidy := by
  unfold State.startRun
  exact hs.withHost.consume.setInFlight
theorem tidy.noteFull {i} (hs : s.tidy) : (s.noteFull i).tidy := .ite hs hs.withHost.inc
theorem tidy.ringAdvance {i x1} (hs : s.tidy) : (State.ringAdvance i x1 s).tidy := by
  induction x1 generalizing i s with
  | zero =>
    unfold State.ringAdvance
    exact hs
  | succ k ih =>
    unfold State.ringAdvance
    refine .ite hs ?_
    split
    · exact hs
    · extract_lets more s1 __src
      have hs1 : s1.tidy := hs.consume.inc
      exact ih (.ite hs1 hs1.withHost)
    · exact .ite hs.noteFull (.ite (ih hs.startRun) hs.noteFull)
theorem tidy.advance {i} (hs : s.tidy) : (s.advance i).tidy := hs.ringAdvance
theorem tidy.ringOp {i opc k} (hs : s.tidy) (hk : ∀ {t x}, t.tidy → (k t x).tidy) : (s.ringOp i opc k).tidy := by
  unfold State.ringOp
  extract_lets s1
  have hs1 : s1.tidy := hs.advance
  split
  · exact .ite (hk hs1.startRun).advance hs1
  · exact hs1
theorem tidy.fetchTo {i t fetched} (hs : s.tidy) : (s.fetchTo i t fetched).tidy := by
  unfold State.fetchTo
  exact .ite hs (.withHost (.ite hs.same hs))
theorem tidy.doorSq {i t fetched} (hs : s.tidy) : (s.doorSq i t fetched).tidy := .ite hs.ringError hs.fetchTo.wf.advance
theorem tidy.doorCq {i h} (hs : s.tidy) : (s.doorCq i h).tidy := by
  unfold State.doorCq
  exact .ite hs.ringError hs.wf.setCqUsed.withHost.advance
theorem tidy.doorArm {i mask} (hs : s.tidy) : (s.doorArm i mask).tidy := by
  unfold State.doorArm
  exact hs.foldl fun _ _ ht => .ite ht.withHost ht
theorem tidy.doorbell {v page k} (hs : s.tidy) (hk : ∀ {x0 t}, t.tidy → (k x0 t).tidy) : (s.doorbell v page k).tidy := by
  unfold State.doorbell
  split
  · exact hk hs
  · exact hs.inc
theorem tidy.ringCmdDone {st} (hs : s.tidy) : (s.ringCmdDone st).tidy := hs.wf.wf
theorem tidy.ringClear {i} (hs : s.tidy) : (s.ringClear i).tidy := by
  unfold State.ringClear
  exact hs.withComp.withHost.setInFlight
theorem tidy.ringEnable {i} (hs : s.tidy) : (s.ringEnable i).tidy := by
  unfold State.ringEnable
  exact .ite hs.ringCmdDone hs.ringClear.quotaTake.setReg.setReg.wf.withHost.wf.ringPauses.ringCmdDone
theorem tidy.ringOff {i} (hs : s.tidy) : (s.ringOff i).tidy := by
  unfold State.ringOff
  exact hs.setRing.ringClear.withHost.quotaGive
theorem tidy.endFlush {i} (hs : s.tidy) : (s.endFlush i).tidy := by
  unfold State.endFlush
  refine .ite ?_ hs
  extract_lets s1
  have hs1 : s1.tidy := .ite hs.ringOff hs.setRing.ringPauses.advance
  exact .ite hs1.ringCmdDone hs1
theorem tidy.ringKill {i} (hs : s.tidy) : (s.ringKill i).tidy := by
  unfold State.ringKill
  extract_lets s1
  have hs1 : s1.tidy := hs.ringOff
  exact .ite hs1.ringCmdDone hs1
theorem tidy.endUnstarted {r e} (hs : s.tidy) : (s.endUnstarted r e).tidy := .ite hs.finishRun hs.withHost.setInFlight
theorem tidy.ringFlush {i off} (hs : s.tidy) : (s.ringFlush i off).tidy := by
  unfold State.ringFlush
  exact .ite hs.ringCmdDone ((hs.setRing.consume.wf.withHost.count.count.foldl fun _ _ ht => ht.endUnstarted).endFlush)
theorem tidy.writeRingCmd {src i op} (hs : s.tidy) : (s.writeRingCmd src i op).tidy := by
  unfold State.writeRingCmd
  refine .ite hs.reject ?_
  extract_lets s1
  have hs1 : s1.tidy := hs.wf
  split
  · exact hs1
  · exact hs1.ringEnable
  · exact hs1.ringFlush
  · exact hs1.ringFlush
  · exact hs1.ringCmdDone
theorem tidy.dmaStart {r} (hs : s.tidy) : (s.dmaStart r).tidy := by
  unfold State.dmaStart
  exact .ite hs.endRun (.ite hs.endRun hs)
theorem tidy.dmaPut {h o bs} (hs : s.tidy) : (s.dmaPut h o bs).2.tidy := by
  unfold State.dmaPut
  split
  · exact hs.memWrite
  · exact hs
theorem tidy.dmaIn {h base len x3 x4 x5} (hs : s.tidy) : (State.dmaIn h base len x3 x4 x5 s).2.tidy := by
  induction x4 generalizing h base len x3 x5 s with
  | nil =>
    unfold State.dmaIn
    exact hs
  | cons x t ih =>
    unfold State.dmaIn
    extract_lets
    split
    · extract_lets
      exact ih hs.dmaPut
    · exact ih hs
    · exact ih hs
    · extract_lets
      exact (ih hs).dmaPut
theorem tidy.dmaOut {addr x1 x2 x3} (hs : s.tidy) : (State.dmaOut addr x1 x2 x3 s).2.tidy := by
  induction x1 generalizing addr x2 x3 s with
  | nil =>
    unfold State.dmaOut
    exact hs
  | cons x t ih =>
    unfold State.dmaOut
    extract_lets
    exact ih (.ite hs.emit hs)
theorem tidy.dmaRun {r segs} (hs : s.tidy) : (s.dmaRun r segs).tidy := by
  unfold State.dmaRun
  refine .ite hs.endRun (.ite hs ?_)
  split
  · exact hs.endRun
  · exact .ite hs.dmaIn.count.endRun hs.memRead.dmaOut.count.endRun
theorem tidy.ringLoad {r img} (hs : s.tidy) : (s.ringLoad r img).tidy := by
  unfold State.ringLoad
  extract_lets
  split
  · exact hs.endRun
  · exact .ite hs.endRun hs.withComp
theorem tidy.ringMask {r f} (hs : s.tidy) (hf : ∀ {x0 t}, t.tidy → (f x0 t).tidy) : (s.ringMask r f).tidy := by
  unfold State.ringMask
  split
  · exact hs.endRun
  · exact (hs.foldl fun _ _ ht => hf ht).endRun
theorem tidy.ringWait {r} (hs : s.tidy) : (s.ringWait r).tidy := by
  unfold State.ringWait
  exact .ite hs.endRun (.ite hs.endRun (.ite hs.endRun hs.withComp))
theorem tidy.remoteReg {r write mixed} (hs : s.tidy) : (s.remoteReg r write mixed).tidy := by
  unfold State.remoteReg
  refine .ite hs.endRun (.ite hs.endRun ?_)
  split
  · exact hs.endRun
  · exact hs.memRead.withHost.send
theorem tidy.takeHub {place p r} (hs : s.tidy) (h : s.takeHub place p = some r) : r.2.tidy := by
  unfold State.takeHub at h
  split at h
  · split at h
    · cases h
      exact hs.withFwd
    · cases h
  · cases h
theorem tidy.regRsp (hs : s.tidy) : s.regRsp.tidy := by
  unfold State.regRsp
  refine .ite hs ?_
  split
  · exact hs
  · split
    · exact hs.takeHub ‹_›
    · extract_lets __src s2
      have hs2 : s2.tidy := (hs.takeHub ‹_›).withHost
      split
      · exact hs2
      · refine .endRun ?_
        split
        · exact hs2.memWrite
        · exact hs2
theorem tidy.resolve {r segs} (hs : s.tidy) : (s.resolve r segs).tidy := by
  unfold State.resolve
  refine .ite hs (.ite hs.dmaRun ?_)
  split
  · exact hs.withComp.endRun
  · exact hs
theorem tidy.ringComplete {i j segs} (hs : s.tidy) : (s.ringComplete i j segs).tidy := by
  unfold State.ringComplete
  split
  · exact hs
  · extract_lets s1 __src
    have hs1 : s1.tidy := hs.resolve
    split
    · exact hs1
    · split
      · exact hs1
      · refine .ite hs1 ?_
        extract_lets s2 s3
        have hs3 : s3.tidy := hs1.withHost.finishRun.setInFlight.endFlush
        exact .ite hs3.advance hs3
theorem tidy.ringTimeout {i j opc} (hs : s.tidy) : (s.ringTimeout i j opc).tidy := by
  unfold State.ringTimeout
  split
  · exact hs
  · exact .ite hs hs.withComp.withHost.endRun
theorem tidy.ringFrame {op k} (hs : s.tidy) (hk : ∀ {x0 t}, t.tidy → (k x0 t).tidy) : (s.ringFrame op k).tidy := by
  unfold State.ringFrame
  split
  · exact hs
  · exact .ite (hs.takeHub ‹_›) (.ite (hk (hs.takeHub ‹_›)) ((hs.takeHub ‹_›).inc.reqReport))
theorem tidy.submitEnd {i bs} (hs : s.tidy) : (s.submitEnd i bs).tidy := by
  unfold State.submitEnd
  exact .ite hs.endUnstarted ((hs.foldl fun _ _ ht => ht.dmaPut).wf.advance)
theorem tidy.submitFrame {f} (hs : s.tidy) : (s.submitFrame f).tidy := by
  unfold State.submitFrame
  refine .ite hs (.ite hs.withHost ?_)
  extract_lets _ s1
  have hs1 : s1.tidy := hs.withHost
  exact .ite hs1.inc hs1.submitEnd
theorem tidy.portUp {p} (hs : s.tidy) : (s.portUp p).tidy := by
  unfold State.portUp
  extract_lets s1
  have hs1 : s1.tidy := hs.wf
  exact .ringPauses (.ite hs1.wf.wf hs1)
theorem tidy.portDown {p} (hs : s.tidy) : (s.portDown p).tidy := by
  unfold State.portDown
  extract_lets s1
  have hs1 : s1.tidy := hs.wf
  exact .ite hs1.wf.ringPauses hs1
theorem tidy.roleMoves {p} (hs : s.tidy) : (s.roleMoves p).tidy := hs.wf.satInc.report
theorem tidy.failover (hs : s.tidy) : s.failover.tidy := by
  unfold State.failover
  exact .ite hs.roleMoves hs
theorem tidy.writeHostCtl {src v} (hs : s.tidy) : (s.writeHostCtl src v).tidy := by
  unfold State.writeHostCtl
  extract_lets s1
  have hs1 : s1.tidy := hs.wf
  exact .ite hs1.roleMoves hs1
theorem tidy.vfReset {v} (hs : s.tidy) : (s.vfReset v).tidy := by
  unfold State.vfReset
  exact (hs.foldl fun _ _ ht => ht.ringKill).withHost
theorem tidy.pfReset (hs : s.tidy) : s.pfReset.tidy := by
  unfold State.pfReset
  exact (hs.foldl fun _ _ ht => ht.ringKill).withHost
theorem tidy.writeVfBind {v w} (hs : s.tidy) : (s.writeVfBind v w).tidy := by
  unfold State.writeVfBind
  extract_lets was s1
  have hs1 : s1.tidy := hs.setReg
  exact .ite (hs1.foldl fun _ _ ht => ht.ringKill) hs1
theorem tidy.writeMsix {v x w} (hs : s.tidy) : (s.writeMsix v x w).tidy := by
  unfold State.writeMsix
  extract_lets _ s1 vec _
  have hs1 : s1.tidy := hs.withHost
  exact .ite hs1.withHost.emit hs1
theorem tidy.bar4Read {src o n} (hs : s.tidy) : (s.bar4Read src o n).tidy := by
  unfold State.bar4Read
  extract_lets
  split
  · extract_lets s1
    have hs1 : s1.tidy := hs.haccCode
    exact .ite hs1 hs1.emit
  · exact hs.memRead.emit
theorem tidy.bar4Write {src o bs} (hs : s.tidy) : (s.bar4Write src o bs).tidy := by
  unfold State.bar4Write
  extract_lets
  split
  · exact hs.haccCode
  · exact hs.dmaPut

/-! ## Unbind -/

theorem tidy.dropContexts {h} (hs : s.tidy) : (s.dropContexts h).tidy := by
  unfold State.dropContexts
  exact ((hs.foldl fun _ _ ht => ht.breakRope.ropeDestroy).foldl fun _ _ ht =>
      ht.gateWitness.gateRelease.quotaGive.withGate).withGate.foldl fun _ _ ht => ht.wf.wf
theorem tidy.unbindHarness {h} (hs : s.tidy) : (s.unbindHarness h).tidy := by
  unfold State.unbindHarness
  refine .ite hs.hrnStatus ?_
  extract_lets s1 s2 s3 s4 qs s5 _ s6
  have hs2 : s2.tidy := (hs.foldl fun _ _ ht => ht.unbindCore).dropContexts
  have hs3 : s3.tidy := hs2.foldl fun _ _ ht => ht.ringKill
  have hs5 : s5.tidy := hs3.carDelete.endWaits
  clear_value s5
  have hs6 : s6.tidy := hs5.withMem hs5.mem
  exact hs6.withHrn.wf.wf
theorem tidy.unbindDone (hs : s.tidy) : s.unbindDone.tidy := by
  unfold State.unbindDone
  split
  · exact hs
  · exact (hs.foldl fun _ _ ht => ht.poolGone).wf.setHrn.withHrn.wf.wf.hrnStatus
theorem tidy.coreFails {k} (hs : s.tidy) : (s.coreFails k).tidy := by
  unfold State.coreFails
  refine .ite hs ?_
  extract_lets s1
  have hs1 : s1.tidy := hs.stopCore.trace
  exact .ite hs1.memberLost hs1

/-! ## Fault -/

theorem tidy.fenceRing {i} (hs : s.tidy) : (s.fenceRing i).tidy := by
  unfold State.fenceRing
  exact hs.consume.withHost.count.foldl fun _ _ ht => ht.endUnstarted
theorem tidy.enterFenced (hs : s.tidy) : s.enterFenced.tidy := by
  unfold State.enterFenced
  exact .ite hs (((hs.wf.lifeInc.foldl fun _ _ ht => ht.breakContexts).foldl fun _ _ ht => ht.haltCore).withComp.foldl fun _ _ ht =>
      ht.fenceRing)
theorem tidy.releaseFaultN (hs : s.tidy) : s.releaseFaultN.tidy := .ite hs.wf hs
theorem tidy.deviceFault {r t} (hs : s.tidy) : (s.deviceFault r t).tidy := by
  unfold State.deviceFault
  extract_lets s1
  have hs1 : s1.tidy := hs.occur.setFaultN
  exact .ite hs1 (.ite hs1.enterFenced hs1.wf)
theorem tidy.applyDeviceFault (hs : s.tidy) : s.applyDeviceFault.tidy := by
  unfold State.applyDeviceFault
  split
  · exact .ite hs.withFault.deviceFault hs
  · exact hs
theorem tidy.tableUe {tbl n i} (hs : s.tidy) : (s.tableUe tbl n i).tidy := hs.withFwd.report
theorem tidy.mpChange {new cause} (hs : s.tidy) : (s.mpChange new cause).tidy := by
  unfold State.mpChange
  exact hs.wf.report.cairnRec
theorem tidy.sendHeldEvents (hs : s.tidy) : s.sendHeldEvents.tidy := hs.sendEvents
theorem tidy.mpRestart {cause} (hs : s.tidy) : (s.mpRestart cause).tidy := by
  unfold State.mpRestart
  exact .ite hs hs.lifeInc.wf.mpChange
theorem tidy.mpStart {same} (hs : s.tidy) : (s.mpStart same).tidy := by
  unfold State.mpStart
  exact .ite hs hs.wf.mpChange.sendHeldEvents
theorem tidy.headlessExpire (hs : s.tidy) : s.headlessExpire.tidy := .ite hs.mpChange hs
theorem tidy.mpResume {src} (hs : s.tidy) : (s.mpResume src).tidy := by
  unfold State.mpResume
  exact .ite hs.reject (hs.mpChange.foldl fun _ _ ht => ht.advance)
theorem tidy.clearDev {src} (hs : s.tidy) : (s.clearDev src).tidy := .ite hs.reject (.ite hs.wf.releaseFaultN hs)
theorem tidy.writeFaultCtl {src v m} (hs : s.tidy) : (s.writeFaultCtl src v m).tidy := by
  unfold State.writeFaultCtl
  extract_lets s1 s2 s3 s4 s5
  have hs1 : s1.tidy := hs.wf.wf
  have hs2 : s2.tidy := .ite hs1.enterFenced hs1
  have hs3 : s3.tidy := .ite hs2.clearDev hs2
  have hs4 : s4.tidy := .ite hs3.mpResume hs3
  have hs5 : s5.tidy := .ite hs4.lasersOff hs4
  exact .ite hs5.lasersOn hs5
theorem tidy.faultCmd {src bit m} (hs : s.tidy) : (s.faultCmd src bit m).tidy := by
  unfold State.faultCmd
  exact hs.guardWrite fun ht => ht.writeFaultCtl
theorem tidy.portFails {P} (hs : s.tidy) : (s.portFails P).tidy := .ite hs hs.leaveActive.resetBelay.enterState.flushQueue
theorem tidy.unitLost {u} (hs : s.tidy) : (s.unitLost u).tidy := by
  unfold State.unitLost
  split
  · exact ((((hs.foldl fun _ _ ht => ht.portFails).foldl fun _ _ ht => ht.coreFails).foldl fun _ _ ht => ht.breakRope).foldl fun _ _ ht =>
      ht.breakGate).withFwd
  · exact hs.foldl fun _ _ ht => ht.portFails
  · exact .ite hs.portDown hs
  · exact hs.withMem hs.mem
theorem tidy.unitOut {u} (hs : s.tidy) : (s.unitOut u).tidy := by
  unfold State.unitOut
  exact .ite hs (hs.withFault.report.unitLost.foldl fun _ _ ht => ht.report)
theorem tidy.neighbourLost {d} (hs : s.tidy) : (s.neighbourLost d).tidy := by
  unfold State.neighbourLost
  exact .ite hs (.ite hs hs.report)
theorem tidy.avalWindow {i} (hs : s.tidy) : (s.avalWindow i).tidy := by
  unfold State.avalWindow
  split
  · exact hs
  · exact .ite hs.withFault.wf hs.withFault.sendRecord
theorem tidy.woExit {p} (hs : s.tidy) : (s.woExit p).tidy := by
  unfold State.woExit
  exact .ite hs hs.wf.inc.sendRecord
theorem tidy.fmBad {from_} (hs : s.tidy) : (s.fmBad from_).tidy := hs.inc.report
theorem tidy.fmAck {b from_} (hs : s.tidy) : (s.fmAck b from_).tidy := .ite hs (.ite hs.fmBad hs.withFault.woSettle)
theorem tidy.eventResend (hs : s.tidy) : s.eventResend.tidy := by
  unfold State.eventResend
  exact .ite hs (hs.foldl fun _ _ ht => ht.emit.inc)
theorem tidy.setMark {k v} (hs : s.tidy) : (s.setMark k v).tidy := hs.withFault
theorem tidy.marginPort {m} (hs : s.tidy) : (s.marginPort m).tidy := by
  unfold State.marginPort
  exact hs.setMark.report
theorem tidy.marginStack {i tj} (hs : s.tidy) : (s.marginStack i tj).tidy := by
  unfold State.marginStack
  exact hs.setMark.report
theorem tidy.marginSet {temps} (hs : s.tidy) : (s.marginSet temps).tidy := by
  unfold State.marginSet
  exact ((hs.foldl fun _ _ ht => ht.marginCrux).foldl fun _ _ ht => ht.marginPort).foldl fun _ _ ht => ht.marginStack
theorem tidy.writeMarginCfg {v temps} (hs : s.tidy) : (s.writeMarginCfg v temps).tidy := by
  unfold State.writeMarginCfg
  extract_lets s1
  have hs1 : s1.tidy := hs.setReg
  exact .ite hs1.marginSet hs1
theorem tidy.laneRefresh {m rs} (hs : s.tidy) : (s.laneRefresh m rs).tidy := by
  unfold State.laneRefresh
  refine hs.foldl fun _ _ ht => ?_
  split
  · exact ht
  · extract_lets t1
    have ht1 : t1.tidy := ht.wf.wf.wf
    exact .ite ht1.wf ht1
theorem tidy.writeFaultRing {src v} (hs : s.tidy) : (s.writeFaultRing src v).tidy := by
  unfold State.writeFaultRing
  exact .ite hs.reject hs.setReg.wf

/-! ## RegRead -/

theorem tidy.portStsWord {P} (hs : s.tidy) : (s.portStsWord P).2.tidy := by
  unfold State.portStsWord
  extract_lets
  split
  · exact hs
  · exact hs.freeW
theorem tidy.readCrux {src n o a} (hs : s.tidy) : (s.readCrux src n o a).2.tidy := by
  unfold State.readCrux
  split
  · split
    · exact hs.hacc
    · exact hs.tblAdvance
  · split
    · exact hs.cchAdvance
    · split
      · exact hs
      · split
        · exact hs
        · split
          · exact hs
          · split
            · exact hs
            · split
              · exact hs.heatAdvance
              · split
                · exact hs
                · split
                  · exact hs
                  · exact hs
theorem tidy.readReg {src a} (hs : s.tidy) : (s.readReg src a).2.tidy := by
  have pick {c : Prop} [Decidable c] {p q : Word × State} (hp : p.2.tidy) (hq : q.2.tidy) : (if c then p else q).2.tidy := by
    split
    · exact hp
    · exact hq
  unfold State.readReg
  exact pick hs (pick hs (pick hs (pick hs (pick hs (pick hs (pick hs (pick hs (pick hs (pick hs.gateAdvance (pick hs.readCrux
    (pick hs.portStsWord (pick hs hs))))))))))))
theorem tidy.regRead {src a} (hs : s.tidy) : (s.regRead src a).2.tidy := by
  unfold State.regRead
  split
  · exact hs
  · split
    · exact hs.hacc
    · exact hs.readReg

/-! ## Telemetry -/

theorem tidy.setOwner {r o i} (hs : s.tidy) : (s.setOwner r o i).tidy := hs.wf.wf
theorem tidy.freeOwner {r} (hs : s.tidy) : (s.freeOwner r).tidy := hs.setOwner
theorem tidy.conflict {src a} (hs : s.tidy) : (s.conflict src a).tidy := hs.hacc
theorem tidy.latch1 {ack a} (hs : s.tidy) : (s.latch1 ack a).2.2.tidy := by
  unfold State.latch1
  split
  · exact hs
  · extract_lets blind r __src
    have hr : r.2.tidy := by
      unfold r
      split
      · exact hs
      · exact hs.readReg
    split
    · split
      · exact .ite hr.same hr
      · exact hr
    · exact hs
theorem tidy.latchN {ack x1 x2} (hs : s.tidy) : (State.latchN ack x1 x2 s).2.2.tidy := by
  induction x1 generalizing ack x2 s with
  | zero =>
    unfold State.latchN
    exact hs
  | succ k ih =>
    unfold State.latchN
    extract_lets
    exact ih hs.latch1
theorem tidy.histBoundary {u} (hs : s.tidy) : (s.histBoundary u).tidy := by
  unfold State.histBoundary
  refine .ite hs ?_
  extract_lets bins s1 h h1 _ s2
  have hs1 : s1.tidy := hs.foldl fun _ _ ht => ht.setReg
  clear_value s1
  have hs2 : s2.tidy := hs1.withTel
  exact (hs2.same : State.tidy { s2 with sticky := _ }).wf
theorem tidy.histBoundaries {base n} (hs : s.tidy) : (s.histBoundaries base n).tidy := by
  unfold State.histBoundaries
  exact hs.foldl fun _ _ ht => ht.histBoundary
theorem tidy.latchRange {ack base n} (hs : s.tidy) : (s.latchRange ack base n).2.2.tidy := by
  unfold State.latchRange
  extract_lets
  exact hs.latchN.histBoundaries
theorem tidy.snapGo {e} (hs : s.tidy) : (s.snapGo e).tidy := by
  unfold State.snapGo
  exact .ite hs.wf hs.latchRange.withTel.wf
theorem tidy.snapRelease {src e} (hs : s.tidy) : (s.snapRelease src e).tidy := .ite hs.freeOwner hs.conflict
theorem tidy.writeSnapCtl {src e v} (hs : s.tidy) : (s.writeSnapCtl src e v).tidy := by
  unfold State.writeSnapCtl
  refine .ite hs.reject (.ite hs.conflict ?_)
  extract_lets s1 s2
  have hs1 : s1.tidy := hs.wf.wf.wf
  have hs2 : s2.tidy := .ite hs1.setOwner.snapGo hs1
  exact .ite hs2.snapRelease hs2
theorem tidy.snapDone {e} (hs : s.tidy) : (s.snapDone e).tidy := by
  unfold State.snapDone
  split
  · exact hs
  · exact ((hs.withTel.foldl fun _ _ ht => ht.setReg).foldl fun _ _ ht => ht.setReg).wf.wf.wf.wf
theorem tidy.histAdd {u b} (hs : s.tidy) : (s.histAdd u b).tidy := by
  unfold State.histAdd
  extract_lets s1
  have hs1 : s1.tidy := hs.inc
  exact .ite hs1.same hs1.wf
theorem tidy.histSample {u v h} (hs : s.tidy) : (s.histSample u v h).tidy := by
  unfold State.histSample
  refine .ite hs ?_
  split
  · exact hs.histAdd
  · exact hs.histAdd
  · exact .ite hs.histAdd hs
  · exact .ite hs.histAdd hs
  · exact .ite hs.histAdd hs
  · exact hs.histAdd
  · exact hs.histAdd
  · exact hs
theorem tidy.writeHistCfg {src u v} (hs : s.tidy) : (s.writeHistCfg src u v).tidy := .ite hs.reject hs.setReg.wf
theorem tidy.writeHistSample {u v} (hs : s.tidy) : (s.writeHistSample u v).tidy := hs.setReg.wf
theorem tidy.summary {l} (hs : s.tidy) : (s.summary l).tidy := by
  unfold State.summary
  refine .ite hs (.ite hs.wf ?_)
  extract_lets late r s1 seq old _ s2
  have hs1 : s1.tidy := hs.latchRange.wf
  exact .ite hs1 hs1.withFault.offer
theorem tidy.writeCollect {src v} (hs : s.tidy) : (s.writeCollect src v).tidy := .ite hs.reject hs.setReg
theorem tidy.pinFree {n} (hs : s.tidy) : (s.pinFree n).tidy := by
  unfold State.pinFree
  extract_lets f s1
  have hs1 : s1.tidy := .ite hs.freeOwner hs
  exact .ite hs1 hs1.freeOwner
theorem tidy.writeSync {src n v} (hs : s.tidy) : (s.writeSync src n v).tidy := by
  unfold State.writeSync
  refine .ite hs.reject (.ite hs.pinFree.setReg (.ite hs.conflict ?_))
  extract_lets s1
  have hs1 : s1.tidy := hs.pinFree.setReg.setOwner
  exact .ite hs1.setOwner hs1
theorem tidy.writeTimCtl {src v} (hs : s.tidy) : (s.writeTimCtl src v).tidy := by
  unfold State.writeTimCtl
  exact hs.rwlWrite fun ht => .ite ht.conflict (.setReg (.ite ht.setOwner (.ite ht.freeOwner ht)))
theorem tidy.writeOwnCtl {src r force} (hs : s.tidy) : (s.writeOwnCtl src r force).tidy := by
  unfold State.writeOwnCtl
  exact .ite hs (.ite (.ite hs.reject (.ite hs.pinFree.wf.freeOwner hs.freeOwner)) (.ite hs.freeOwner hs.conflict))
theorem tidy.pinEdge {n} (hs : s.tidy) : (s.pinEdge n).tidy := by
  unfold State.pinEdge
  refine .ite hs ?_
  split
  · exact .ite hs hs.snapGo
  · exact hs.trace
  · exact hs

/-! ## RegWrite -/

theorem tidy.plainWrite {src r a v} (hs : s.tidy) : (s.plainWrite src r a v).tidy := by
  unfold State.plainWrite
  extract_lets m old locked open_ new s1
  have hs1 : s1.tidy := hs.setReg
  exact .ite hs1.hacc hs1
theorem tidy.writeShare {src a v} (hs : s.tidy) : (s.writeShare src a v).tidy := by
  unfold State.writeShare
  exact .ite hs.setReg hs.reject
theorem tidy.applyHub {src r a v} (hs : s.tidy) : (s.applyHub src r a v).tidy :=
  .ite hs.writeHostCtl (.ite (.ite hs hs.writeVfBind) (.ite hs.writeBootCtl (.ite hs.writeJtagToken (.ite (.ite hs.freeW.writeFaultCtl
      hs.writeFaultCtl) (.ite hs.writeFaultRing (.ite hs.writeFillCtl (.ite hs.writeMarkCtl (.ite hs.withFault (.ite (.ite
      hs.freeB.writeMarginCfg hs.writeMarginCfg) (.ite hs.writeOwnCtl (.ite hs.writeSync hs.plainWrite)))))))))))
theorem tidy.applyHarness {src r a v} (hs : s.tidy) : (s.applyHarness src r a v).tidy := by
  unfold State.applyHarness
  refine .ite (hs.hrnCmd fun hu => hu.unbindHarness) (.ite ?_ (.ite hs.writeWitCfg hs.plainWrite))
  split
  · exact hs.writeLimit
  · exact hs.writeLimit
  · exact hs.writeLimit
  · exact hs.writeLimit
  · exact hs.writeLimit
  · exact hs.writeHrnWake
  · exact hs.plainWrite
theorem tidy.applyRing {src r a v} (hs : s.tidy) : (s.applyRing src r a v).tidy := .ite hs.writeRingCmd (.ite hs.reject hs.plainWrite)
theorem tidy.applySystem {src r a v} (hs : s.tidy) : (s.applySystem src r a v).tidy :=
  .ite hs.writePwrCtl (.ite hs.writeSysWake (.ite hs.writeDroopCfg (.ite hs.writeTrimCfg (.ite hs.writeCrnCmd (.ite hs.writeSnapCtl (.ite
      hs.writeMirCtl (.ite hs.writeMirLog2 (.ite hs.writeHistCfg (.ite hs.writeHistSample (.ite hs.writeCollect (.ite hs.writeTimCtl (.ite
      hs.writeGuard (.ite hs.writeSyncCfg (.ite hs.writeGateCtl (.ite hs.writeGateSwitch (.ite hs.writeGateTbl hs.plainWrite))))))))))))))))
theorem tidy.applyCores {src r n o a v} (hs : s.tidy) : (s.applyCores src r n o a v).tidy := by
  unfold State.applyCores
  refine .ite hs.writeBindCmd (.ite hs.writeCch (.ite hs.writePflag (.ite hs.writeJumar (.ite ?_ (.ite hs.writeLoadCmd (.ite
      hs.writeRopeCmd (.ite hs.writeRopeD (.ite hs.writeGateCmd (.ite hs.writeGateD (.ite hs.writeHeatCtl (.ite hs.writeStoreCmd (.ite
      hs.writeStoreD hs.plainWrite))))))))))))
  extract_lets k s1
  have hs1 : s1.tidy := .ite hs.go hs
  exact .ite hs1.halted hs1
theorem tidy.applyFabric {src r n o a v} (hs : s.tidy) : (s.applyFabric src r n o a v).tidy := by
  unfold State.applyFabric
  refine .ite ?_ (.ite hs.writeTbl (.ite hs.writeRouteCfg (.ite hs.writeHoldCfg (.ite hs.writeQlimit (.ite hs.writeWeights (.ite
      hs.clearMarks (.ite hs.writeMfbCfg (.ite hs.writeCarCmd (.ite hs.writeCarWord (.ite hs.writeCarSpill hs.plainWrite))))))))))
  extract_lets
  split
  · exact hs.writePoolCmd
  · exact hs.writePoolCfg
  · exact hs.writePoolCfg
  · exact hs.writePoolCfg
  · exact hs.writePoolCfg
  · exact hs.writePoolFloor
  · exact .ite hs.writePoolReq hs.plainWrite
theorem tidy.applyPort {src r P x a v} (hs : s.tidy) : (s.applyPort src r P x a v).tidy :=
  .ite hs.reject (.ite hs.writePortCtl (.ite hs.writePortId (.ite hs.writeMacsecKsel (.ite hs.writeMacsecKey (.ite hs.writeGwPeer0 (.ite
      hs.writeGwHset hs.plainWrite))))))
theorem tidy.applyWrite {src a v} (hs : s.tidy) : (s.applyWrite src a v).tidy := by
  unfold State.applyWrite
  split
  · exact hs
  · exact .ite hs.applyHub (.ite hs.applyHarness (.ite hs.applyRing (.ite hs.applySystem (.ite (.ite hs.applyCores hs.applyFabric) (.ite
      (.ite hs.applyPort hs.plainWrite) (.ite hs.writeShare hs.plainWrite))))))
theorem tidy.regWrite {src fn a v} (hs : s.tidy) : (s.regWrite src fn a v).tidy := by
  unfold State.regWrite
  refine .ite hs (.ite (.ite hs.hacc (.ite hs.writeMsix hs)) (.ite hs.hacc ?_))
  split
  · exact hs.hacc
  · refine .ite hs ?_
    split
    · exact hs.same
    · exact hs.applyWrite
theorem tidy.xdomEffect {g} (hs : s.tidy) : (s.xdomEffect g).tidy := by
  unfold State.xdomEffect
  split
  · exact hs
  · exact hs.same.applyWrite

/-! ## Inband -/

theorem tidy.flushGroup {g x1} (hs : s.tidy) : (State.flushGroup g x1 s).tidy := by
  induction x1 generalizing g s with
  | zero =>
    unfold State.flushGroup
    exact hs
  | succ k ih =>
    unfold State.flushGroup
    exact .ite (ih hs.xdomEffect) hs
theorem tidy.regWriteNow {src a v} (hs : s.tidy) : (s.regWriteNow src a v).tidy := by
  unfold State.regWriteNow
  extract_lets t
  have ht : t.tidy := hs.regWrite
  split
  · exact .ite ht.flushGroup ht
  · exact ht
theorem tidy.regReadNow {src a} (hs : s.tidy) : (s.regReadNow src a).2.tidy := by
  unfold State.regReadNow
  split
  · exact hs.hacc
  · exact hs.regRead
theorem tidy.access {src a write v} (hs : s.tidy) : (s.access src a write v).2.2.tidy := by
  unfold State.access
  extract_lets
  split
  · exact hs.regWriteNow
  · exact hs.regReadNow
theorem tidy.accesses {src w ls} (hs : s.tidy) : (State.accesses src w ls s).2.tidy := by
  induction ls generalizing s with
  | nil => exact hs
  | cons l ls ih => exact ih hs.access
theorem tidy.regFrame {op mine} (hs : s.tidy) : (s.regFrame op mine).tidy := by
  unfold State.regFrame
  refine .ite hs ?_
  split
  · exact hs
  · next hx =>
    have h1 := hs.takeHub hx
    refine .ite h1.inc ?_
    extract_lets r dst
    have hr : r.2.tidy := h1.accesses
    exact .ite hr hr.send
theorem tidy.fmRequest {b sender} (hs : s.tidy) : (s.fmRequest b sender).tidy := by
  unfold State.fmRequest
  refine .ite hs (.ite hs.fmBad ?_)
  extract_lets last ls _ s1 r
  have hr : r.2.tidy := hs.withFault.inc.accesses
  exact .ite (.ite hr hr.withFault.emit) (.ite hs.emit hs.emit)

/-! ## Package -/

theorem tidy.pwrgdFall (hs : s.tidy) : s.pwrgdFall.tidy := by
  unfold State.pwrgdFall
  exact .ite hs hs.enterReset.withBoot
theorem tidy.perstFall (hs : s.tidy) : s.perstFall.tidy := by
  unfold State.perstFall
  exact .ite hs hs.enterReset.withBoot
theorem tidy.railDrop (hs : s.tidy) : s.railDrop.tidy := .ite hs.enterReset hs
theorem tidy.refclkLoss (hs : s.tidy) : s.refclkLoss.tidy := .ite hs.enterReset.setFaultN hs
theorem tidy.thermalAlarm {u tj cooled} (hs : s.tidy) : (s.thermalAlarm u tj cooled).tidy := by
  unfold State.thermalAlarm
  extract_lets _ s0 s1 _ s2 _
  have hs0 : s0.tidy := .ite hs.withBoot hs
  have hs1 : s1.tidy := by
    unfold s1
    split
    · exact .ite hs0 hs0.wf
    · exact hs0
  have hs2 : s2.tidy := hs1.withBoot
  exact .ite hs1 (.ite hs2 hs2.withBoot.report)
theorem tidy.thermTrip {rail} (hs : s.tidy) : (s.thermTrip rail).tidy := by
  unfold State.thermTrip
  exact .withBoot (.enterReset (.ite hs.freeW.freeW.lastGasp hs))
theorem tidy.aonRemoved (hs : s.tidy) : s.aonRemoved.tidy := by
  unfold State.aonRemoved
  exact hs.enterReset.withBoot
theorem tidy.sideband {a} (hs : s.tidy) : (s.sideband a).tidy := .ite hs (.ite hs.emit hs.emit)
theorem tidy.alertResponse {tj} (hs : s.tidy) : (s.alertResponse tj).tidy := by
  unfold State.alertResponse
  refine .ite hs ?_
  extract_lets s1 _
  have hs1 : s1.tidy := hs.emit
  exact .ite hs1 hs1.withBoot
theorem tidy.jtagSelect {ir} (hs : s.tidy) : (s.jtagSelect ir).tidy := by
  unfold State.jtagSelect
  exact hs.withBoot

/-! ## RopeFrames -/

theorem tidy.ropeBad {c} (hs : s.tidy) : (s.ropeBad c).tidy := hs.inc
theorem tidy.ropeDenied {c f} (hs : s.tidy) : (s.ropeDenied c f).tidy := hs.ropeBad.reqReport
theorem tidy.takeRope {clu f k} (hs : s.tidy) (hk : ∀ {t x1 x2}, t.tidy → (k t x1 x2).tidy) : (s.takeRope clu f k).tidy := by
  unfold State.takeRope
  split
  · exact hs
  · extract_lets s1
    have hs1 : s1.tidy := hs.unland
    split
    · exact hs1.inc
    · exact .ite hs1.inc (.ite hs1.inc (.ite hs1.ropeCheck (hk hs1)))
theorem tidy.onOp {ctx opno g} (hs : s.tidy) : (s.onOp ctx opno g).tidy := by
  unfold State.onOp
  split
  · split
    · exact hs.putRope
    · exact hs
  · exact hs
theorem tidy.completeRecv {ctx opno} (hs : s.tidy) : (s.completeRecv ctx opno).tidy := by
  unfold State.completeRecv
  split
  · exact hs
  · exact hs.foldl fun _ _ ht => ht.ropeFrame.onOp
theorem tidy.sendEntries {c o d es begun final} (hs : s.tidy) : (s.sendEntries c o d es begun final).tidy := by
  unfold State.sendEntries
  exact hs.foldl fun _ _ ht => ht.ropeFrame
theorem tidy.sendVector {c o j} (hs : s.tidy) : (s.sendVector c o j).tidy := by
  unfold State.sendVector
  exact hs.foldl fun _ _ ht => ht.ropeFrame
theorem tidy.a2aRelease {c o} (hs : s.tidy) : (s.a2aRelease c o).tidy := by
  unfold State.a2aRelease
  exact ((hs.foldl fun _ _ ht => ht.ropeFrame).foldl fun _ _ ht => ht.sendVector).onOp.completeRecv
theorem tidy.a2aAdvance {x0 x2 x3} (hs : s.tidy) : (State.a2aAdvance x0 s x2 x3).tidy := by
  induction x0 generalizing s x2 x3 with
  | zero =>
    unfold State.a2aAdvance
    exact hs
  | succ k ih =>
    unfold State.a2aAdvance
    split
    · exact hs
    · extract_lets me kids s1
      have hs1 : s1.tidy := hs.onOp
      split
      · exact .ite (ih hs.onOp) hs
      · exact .ite (ih hs.onOp) hs
      · refine .ite (.ite ?_ hs1.ropeFrame) hs
        split
        · exact hs1.a2aRelease
        · exact hs1
      · exact hs
theorem tidy.countsIn {c0 ingress f} (hs : s.tidy) : (s.countsIn c0 ingress f).tidy := by
  unfold State.countsIn
  extract_lets
  split
  · split
    · exact hs.breakRope
    · split
      · exact hs
      · refine .ite hs.breakRope ?_
        extract_lets _ o1 whole o2 s1 final begun es at_ s2 s3
        have hs1 : s1.tidy := hs.putRope
        exact .ite hs1 ((hs1.onOp.foldl fun _ _ ht => ht.sendEntries).a2aAdvance)
  · split
    · exact hs.ropeDenied
    · refine .ite hs.ropeBad ?_
      split
      · exact hs.breakRope
      · exact hs.putRope.onOp.a2aAdvance
theorem tidy.a2aFrame {c f dst chunk} (hs : s.tidy) : (s.a2aFrame c f dst chunk).tidy := hs.send
theorem tidy.a2aDeliver {c f r j} (hs : s.tidy) : (s.a2aDeliver c f r j).tidy := hs.a2aFrame.onOp.completeRecv
theorem tidy.a2aIn {c0 ingress f} (hs : s.tidy) : (s.a2aIn c0 ingress f).tidy := by
  unfold State.a2aIn
  extract_lets
  split
  · exact hs.ropeDenied
  · refine .ite (.ite hs.ropeDenied ?_) ?_
    · split
      · exact hs.breakRope
      · split
        · exact hs
        · refine .ite hs.breakRope ?_
          extract_lets _ o1 all o2 s1
          have hs1 : s1.tidy := hs.putRope
          exact .ite hs1.a2aDeliver hs1.a2aFrame
    · split
      · exact hs.breakRope
      · exact .ite hs.putRope.a2aDeliver hs.ropeBad
theorem tidy.partialIn {c0 f} (hs : s.tidy) : (s.partialIn c0 f).tidy := by
  unfold State.partialIn
  extract_lets
  split
  · exact hs.ropeBad
  · split
    · exact hs.breakRope
    · split
      · exact hs
      · refine .ite hs.putRope.onOp.a2aAdvance (.ite hs.breakRope (.ite hs.ropeBad (.ite hs.breakRope (.ite hs.putRope.forwardCopy (.ite
          hs.putRope ?_)))))
        split
        · exact hs.inc.ropeCheck
        · extract_lets got s1 y
          have hs1 : s1.tidy := hs.inc
          exact .ite hs1.inc.ropeCheck hs1.putRope
theorem tidy.contribIn {c ingress f} (hs : s.tidy) : (s.contribIn c ingress f).tidy := by
  unfold State.contribIn
  split
  · exact hs.contribute
  · exact .ite hs.partialIn hs.ropeDenied
theorem tidy.settled {ctx} (hs : s.tidy) : (s.settled ctx).tidy := by
  unfold State.settled
  split
  · exact hs.putRope
  · exact hs
theorem tidy.resultIn {c0 f} (hs : s.tidy) : (s.resultIn c0 f).tidy := by
  unfold State.resultIn
  refine .ite hs.ropeBad ?_
  split
  · exact hs.breakRope
  · split
    · exact hs
    · refine .ite (.ite hs.putRope.a2aRelease hs.ropeBad) (.ite hs.ropeBad (.ite hs.ropeBad ?_))
      extract_lets x x1 o1 s1 all
      have hs1 : s1.tidy := hs.putRope.passDown
      refine .ite hs1 ?_
      split
      · exact hs1
      · exact .ite hs1 (.ite hs1.settled.sendCredits.freeChunk hs1.freeChunk)
theorem tidy.creditIn {c f} (hs : s.tidy) : (s.creditIn c f).tidy := by
  unfold State.creditIn
  extract_lets
  split
  · exact hs.ropeBad
  · exact .ite hs.breakRope (.ite hs.ropeBad hs.settled.sendCredits.freeChunk)
theorem tidy.summaryIn {c0 f} (hs : s.tidy) : (s.summaryIn c0 f).tidy := by
  unfold State.summaryIn
  extract_lets src
  clear_value src
  split
  · exact hs.ropeBad
  · split
    · exact hs.breakRope
    · exact hs.putRope.onOp
theorem tidy.abortIn {c f} (hs : s.tidy) : (s.abortIn c f).tidy := by
  unfold State.abortIn
  exact hs.breakRope
theorem tidy.watchdog {ctx} (hs : s.tidy) : (s.watchdog ctx).tidy := by
  unfold State.watchdog
  split
  · exact hs
  · split
    · exact hs.inc.breakRope.report
    · exact hs

/-! ## Tick -/

theorem tidy.tickTime (hs : s.tidy) : s.tickTime.tidy := by
  unfold State.tickTime
  exact .ite hs.setReg (.ite hs.setReg.withTime hs.setReg.withTime)
theorem tidy.tickBoot (hs : s.tidy) : s.tickBoot.tidy := by
  unfold State.tickBoot
  exact hs.withBoot
theorem tidy.tickQueue {P} (hs : s.tidy) : (s.tickQueue P).tidy := by
  unfold State.tickQueue
  extract_lets heads s1
  have hs1 : s1.tidy := .ite hs.inc hs
  exact .ite hs1.inc hs1
theorem tidy.tickPorts (hs : s.tidy) : s.tickPorts.tidy := by
  unfold State.tickPorts
  exact ((hs.foldl fun _ _ ht => ht.tickQueue).foldl fun _ _ ht => ht.inc).foldl fun _ _ ht => ht.inc
theorem tidy.sendTele {op total x3 x4 x5} (hs : s.tidy) : (s.sendTele op total x3 x4 x5).tidy := by
  induction x3 generalizing s op total x4 x5 with
  | zero =>
    unfold State.sendTele
    exact hs
  | succ k ih =>
    unfold State.sendTele
    exact .ite hs (ih hs.send)
theorem tidy.tickCollector (hs : s.tidy) : s.tickCollector.tidy := by
  unfold State.tickCollector
  split
  · exact hs
  · refine .ite hs ?_
    extract_lets _ s1
    have hs1 : s1.tidy := hs.withFault.woSettle
    exact .ite hs1.sendTele hs1.emit
theorem tidy.tickTele (hs : s.tidy) : s.tickTele.tidy := by
  unfold State.tickTele
  split
  · exact hs.withFwd
  · exact hs
theorem tidy.tick (hs : s.tidy) : s.tick.tidy := .ite hs hs.tickPorts.tickCollector.tickTele.tickTime.tickBoot

end State

variable {s : State}

/-- Whatever state a command answers is tidy. -/
def tidyOutcome (r : Res) : Prop := ∀ t, r = .next t → t.tidy

theorem tidyOutcome.next {t : State} (h : t.tidy) : tidyOutcome (.next t) := fun _ he => by
  cases he
  exact h
theorem tidyOutcome.fault {e : Fault} : tidyOutcome (.fault e) := fun _ he => nomatch he
theorem tidyOutcome.ite {c : Prop} [Decidable c] {p q : Res} (hp : tidyOutcome p) (hq : tidyOutcome q) :
    tidyOutcome (if c then p else q) := by
  split
  · exact hp
  · exact hq
theorem State.tidy.unheld {t : State} (hs : s.tidy) (ht : t.tidy) : tidyOutcome (unheld s t) := .next (.ite hs ht)

theorem exec_tidy (c : Instr) (hs : s.tidy) : tidyOutcome (exec c s) := by
  cases c with
  | registerWrite => exact hs.unheld hs.regWrite
  | malformedAccess =>
    refine hs.unheld (.ite hs ?_)
    extract_lets t
    have ht : t.tidy := hs.hacc
    exact .ite ht ht.emit
  | crossDomainWriteEffect => exact hs.unheld hs.xdomEffect
  | pcsAlign => exact hs.unheld (.ite hs.resetBelay.setPort.enterState.sendPartner hs)
  | partner => exact .ite (hs.unheld (hs.onFrame fun ht => ht.partnerIn)) .fault
  | linkFrameReceive => exact .ite (hs.unheld (hs.onFrame fun ht => ht.frameIn)) .fault
  | ack => exact hs.unheld (hs.onFrame fun ht => ht.ackIn)
  | nak => exact hs.unheld (hs.onFrame fun ht => ht.nakIn)
  | reservedLtype => exact .ite (hs.unheld (hs.onFrame fun ht => ht.reservedIn)) .fault
  | ackDelayExpire => exact hs.unheld (hs.onLink fun ht => .ite ht.sendAck ht)
  | ackTimeoutExpire =>
    refine hs.unheld (hs.onLink ?_)
    intro _ ht
    extract_lets u
    have hu : u.tidy := ht.replayTrigger
    exact .ite hu hu.cutShort
  | pcsAlignLoss => exact hs.unheld (hs.onLink fun ht => ht.linkFailure.cutShort)
  | xoffChangeAck | xoffRepeat => exact hs.unheld (hs.onLink fun ht => .ite ht.sendAck ht)
  | trainingTimeout => exact hs.unheld (.ite hs.enterState hs)
  | departedTimeout => exact hs.unheld (.ite hs.noteRetrain.enterState hs)
  | portEnable | drain => exact hs.unheld (hs.portWrite fun ht => ht.writePortCtl)
  | retrain =>
    refine hs.unheld (hs.portWrite ?_)
    intro _ ht
    extract_lets u
    have hu : u.tidy := ht.writePortCtl
    split
    · exact .ite hu.spareLane hu
    · exact hu
  | portAdmit | evict | bond | portMode => exact hs.unheld (hs.portWrite fun ht => ht.writePortCtl)
  | portIdWrite => exact hs.unheld (hs.portWrite fun ht => ht.writePortId)
  | macsecKeyLoad => exact hs.unheld (hs.portWrite fun ht => ht.writeMacsecKsel)
  | udpDatagramReceive => exact hs.unheld (.ite (hs.onLink fun ht => ht.udpIn) hs)
  | arpRequest => exact hs.unheld (.ite (hs.onLink fun ht => .ite ht.emit ht.inc) hs)
  | heldFrameAdmit => exact hs.unheld hs.admitHeld
  | steerLand => exact hs.unheld hs.land
  | directionMapRewrite => exact hs.unheld hs.mapRewrite
  | fwdTblWrite => exact hs.unheld (hs.guardWrite fun ht => ht.writeTbl)
  | fwdTblRead =>
    refine hs.unheld (.ite hs ?_)
    split
    · exact hs.hacc.emit
    · exact hs.readTbl
  | queueLimitWrite => exact hs.unheld (hs.guardWrite fun ht => ht.writeQlimit)
  | holdCfgWrite => exact hs.unheld (hs.guardWrite fun ht => ht.writeHoldCfg)
  | frameStart => exact hs.unheld hs.schedule
  | gateEntryOpen => exact hs.unheld hs.gateEdge
  | gateBankSwitch => exact hs.unheld hs.gateSwitch
  | arm => exact hs.unheld (hs.guardWrite fun ht => ht.arm)
  | disarm => exact hs.unheld (hs.guardWrite fun ht => ht.disarm)
  | gateTblWrite => exact hs.unheld (hs.guardWrite fun ht => ht.writeGateTbl)
  | timeSyncSend => exact hs.unheld hs.timeSync
  | timeFrame => exact hs.unheld hs.timeFrame
  | ptpMessage | ppsInEdge => exact hs.unheld (.ite hs.discipline hs)
  | hwmClear => exact hs.unheld (hs.guardWrite fun ht => ht.clearMarks)
  | memRequestAccept => exact hs.unheld hs.doAccept
  | load => exact .ite (hs.unheld hs.doLoad) .fault
  | store | storeQuiet => exact .ite (hs.unheld hs.doStore) .fault
  | atomic => exact .ite (hs.unheld hs.doAtomic) .fault
  | combineWindowEnd =>
    refine hs.unheld ?_
    split
    · exact hs.sendGroup
    · exact hs
  | groupResponse => exact hs.unheld hs.doGroupResponse
  | loadRsp | storeAck => exact .ite (hs.unheld hs.doResponse) .fault
  | atomicRsp => exact .ite (hs.unheld hs.doAtomicRsp) .fault
  | anchorRelease => exact hs.unheld hs.doAnchorRelease
  | memTimeout => exact hs.unheld hs.doTimeout.pumpOvf
  | carabinerInsert | carabinerRemove | carabinerRead => exact hs.unheld (hs.guardWrite fun ht => ht.writeCarCmd)
  | bind | start | stop | recover => exact hs.unheld (hs.guardWrite fun ht => ht.hrnCmd fun hu => hu)
  | unbind => exact hs.unheld (hs.guardWrite fun ht => ht.hrnCmd fun hu => hu.unbindHarness)
  | quarantine => exact hs.unheld (hs.guardWrite fun ht => ht.hrnCmd fun hu => hu)
  | harnessFault => exact hs.unheld hs.applyHarnessFault
  | stableExpire => exact hs.unheld (.ite hs.wf.traceHrn hs)
  | harnessStatePropagate => exact hs.unheld hs.propagate
  | unbindComplete => exact hs.unheld hs.unbindDone
  | quotaLimitWrite => exact hs.unheld (hs.guardWrite fun ht => ht.writeLimit)
  | coreBind => exact hs.unheld (hs.guardWrite fun ht => ht.writeBindCmd)
  | coreBindComplete => exact hs.unheld hs.bindFinish
  | coreUnbind => exact hs.unheld (hs.guardWrite fun ht => ht.writeBindCmd)
  | go => exact hs.unheld (hs.guardWrite fun ht => ht.go)
  | coreHalt => exact hs.unheld (hs.guardWrite fun ht => ht.halted)
  | pflagBind => exact hs.unheld (hs.guardWrite fun ht => ht.writePflag)
  | cchWrite => exact hs.unheld (hs.guardWrite fun ht => ht.writeCch)
  | jumarCfgWrite | jumarReset => exact hs.unheld (hs.guardWrite fun ht => ht.writeJumar)
  | bivouacEnter => exact hs.unheld hs.bivouac
  | bivouacExit => exact hs.unheld hs.wake
  | waitLimitExpire => exact hs.unheld hs.waitLimit
  | coreLoad | loadLaunch => exact hs.unheld (hs.guardWrite fun ht => ht.writeLoadCmd)
  | loadComplete => exact hs.unheld hs.loadDone
  | mov => exact hs.unheld (hs.seqStep fun ht => ht.setSreg.nextPc)
  | add | sub | mul | and | or | xor | shl | shr | sar | min | max | minu | maxu | cmp => exact hs.unheld hs.alu
  | ld => exact hs.unheld hs.ld
  | st => exact hs.unheld hs.st
  | time => exact hs.unheld (hs.seqStep fun ht => ht.setSreg.nextPc)
  | jmp => exact hs.unheld (hs.seqStep fun ht => ht.setPc)
  | br | brz => exact hs.unheld (hs.seqStep fun ht => .ite ht.setPc ht.nextPc)
  | loop => exact hs.unheld (hs.seqStep fun ht => .ite ht.setSreg.setPc ht.setSreg.nextPc)
  | call => exact hs.unheld hs.call
  | ret => exact hs.unheld hs.ret
  | idle => exact hs.unheld hs.idle
  | halt => exact hs.unheld hs.halt
  | nop => exact hs.unheld (hs.seqStep fun ht => ht.nextPc)
  | fset | fclr => exact hs.unheld (hs.onFlag fun ht => ht.writeFlag.nextPc)
  | ftest => exact hs.unheld (hs.onFlag fun ht => ht.setSreg.nextPc)
  | fwait => exact hs.unheld (hs.onFlag fun ht => .ite ht.nextPc ht.block)
  | fwaitClr => exact hs.unheld (hs.onFlag fun ht => .ite ht.writeFlag.nextPc ht.block)
  | flagWaitSatisfied => exact hs.unheld hs.wake
  | ctake => exact hs.unheld (hs.onCch fun ht => .ite ht.seqFault (.ite ht.cchTake.nextPc ht.block))
  | ctakeNw => exact hs.unheld (hs.onCch fun ht => .ite ht.cchTake.nextPc ht.seqFault)
  | creditTakeServed => exact hs.unheld hs.wake
  | cret =>
    refine hs.unheld (hs.onCch fun ht => ?_)
    split
    · next hc => exact (ht.creditReturn hc).nextPc
    · exact ht.seqFault
  | cread => exact hs.unheld (hs.onCch fun ht => ht.setSreg.nextPc)
  | jadd => exact hs.unheld hs.jadd
  | jread => exact hs.unheld (hs.onJumar fun ht => ht.setSreg.nextPc)
  | jwait => exact hs.unheld (hs.onJumar fun ht => .ite ht.nextPc ht.block)
  | jumarWaitSatisfied => exact hs.unheld hs.wake
  | vreSum | vreDot | vreAxpy | vreMin | vreMax | vreSumPair | vreDotPair | gseGather | gseScatter | gseScatadd | sseSort | sseTopk
    | sseSelect | sseCompact | sseFilter | sseDedup | sseHist | tenMma | cdcCvt | cdcMxq | cdcUnpack | cdcPack | cdcSpx | cdcSpc
    | cdcSplit | cdcCrc | cdcRes | cdcCrcChk | cdcResChk | fdeMove | fdePut | fdeAmo => exact .ite (hs.unheld hs.issue) .fault
  | selectionRecord => exact hs.unheld hs.selection
  | engineComplete => exact hs.unheld hs.engineComplete
  | ropeCreate | ropeReform | ropeAbort | ropeDestroy => exact hs.unheld (hs.guardWrite fun ht => ht.writeRopeCmd)
  | contrib => exact .ite (hs.unheld ((hs.takeRope fun ht => ht.contribIn).pumpRope)) .fault
  | ropePartial => exact .ite (hs.unheld ((hs.takeRope fun ht => ht.partialIn).pumpRope)) .fault
  | ropeResult => exact .ite (hs.unheld ((hs.takeRope fun ht => ht.resultIn).pumpRope)) .fault
  | credit => exact .ite (hs.unheld ((hs.takeRope fun ht => ht.creditIn).pumpRope)) .fault
  | summary => exact .ite (hs.unheld ((hs.takeRope fun ht => ht.summaryIn).pumpRope)) .fault
  | counts => exact .ite (hs.unheld ((hs.takeRope fun ht => ht.countsIn).pumpRope)) .fault
  | a2a => exact .ite (hs.unheld ((hs.takeRope fun ht => ht.a2aIn).pumpRope)) .fault
  | ropeAbortFrame => exact .ite (hs.unheld ((hs.takeRope fun ht => ht.abortIn).pumpRope)) .fault
  | ropeWatchdog => exact hs.unheld hs.watchdog
  | gateCreate | gateReform | gateDestroy => exact hs.unheld (hs.guardWrite fun ht => ht.writeGateCmd)
  | token => exact .ite (hs.unheld hs.tokenIn) .fault
  | dispatch => exact .ite (hs.unheld hs.dispatchIn) .fault
  | output => exact .ite (hs.unheld hs.outputIn) .fault
  | gateTimeout => exact hs.unheld hs.gateTimeout
  | fetch => exact .ite (hs.unheld hs.fetchIn) .fault
  | block => exact .ite (hs.unheld hs.blockIn) .fault
  | storeCreate | storeDestroy => exact hs.unheld (hs.guardWrite fun ht => ht.writeStoreCmd)
  | heatClear => exact hs.unheld (hs.guardWrite fun ht => ht.writeHeatCtl)
  | heatRead => exact hs.unheld (hs.guardRead fun ht => ht.readHeat)
  | witnessCfgWrite => exact hs.unheld (hs.guardWrite fun ht => ht.writeWitCfg)
  | sqTail => exact hs.unheld (hs.doorbell fun hu => hu.doorSq)
  | cqHead => exact hs.unheld (hs.doorbell fun hu => hu.doorCq)
  | slotArm => exact hs.unheld (hs.doorbell fun hu => hu.doorArm)
  | ringEnable | flush | ringDisable => exact hs.unheld (hs.guardWrite fun ht => ht.writeRingCmd)
  | ringNop => exact hs.unheld (hs.ringOp fun ht => ht.endRun)
  | dmaToDev | dmaFromDev => exact hs.unheld (hs.ringOp fun ht => ht.dmaStart)
  | ringLoad => exact hs.unheld (hs.ringOp fun ht => ht.ringLoad)
  | ringGo => exact hs.unheld (hs.ringOp fun ht => .ite ht.endRun (ht.ringMask fun hu => hu.go))
  | ringHalt => exact hs.unheld (hs.ringOp fun ht => ht.ringMask fun hu => hu.haltCore)
  | waitFlag => exact hs.unheld (hs.ringOp fun ht => ht.ringWait)
  | waitFlagTimeout => exact hs.unheld hs.ringTimeout
  | remoteReg => exact hs.unheld (hs.ringOp fun ht => ht.remoteReg)
  | remoteRegTimeout => exact hs.unheld hs.ringTimeout
  | regRsp => exact hs.unheld hs.regRsp
  | poolAlloc => exact hs.unheld (hs.ringOp fun ht => ht.poolAlloc)
  | poolFree => exact hs.unheld (hs.ringOp fun ht => ht.poolFreeCmd)
  | poolQuery => exact hs.unheld (hs.ringOp fun ht => ht.poolQuery)
  | ringCommandComplete => exact hs.unheld hs.ringComplete
  | irqCoalExpire => exact hs.unheld (.ite hs.irqSend hs)
  | sqDb => exact hs.unheld (hs.ringFrame fun ht => ht.doorSq)
  | cqDb => exact hs.unheld (hs.ringFrame fun ht => ht.doorCq)
  | submit => exact hs.unheld (hs.ringFrame fun ht => ht.submitFrame)
  | failover => exact hs.unheld hs.failover
  | takeover => exact hs.unheld (hs.guardWrite fun ht => ht.writeHostCtl)
  | pcieLinkDown => exact hs.unheld hs.portDown
  | pfFlr => exact hs.unheld hs.pfReset
  | vfFlr => exact hs.unheld hs.vfReset
  | vfBind => exact hs.unheld (hs.guardWrite fun ht => ht.writeVfBind)
  | regRead | regWrite => exact hs.unheld hs.regFrame
  | bar4Read => exact hs.unheld hs.bar4Read
  | bar4Write => exact hs.unheld hs.bar4Write
  | scrubVisit => exact hs.unheld hs.scrub
  | pitonInstall => exact hs.unheld hs.pitonInstall
  | harnessCopyReload => exact hs.unheld hs.copyReload
  | poolCreate | poolDestroy | poolRebuild => exact hs.unheld (hs.guardWrite fun ht => ht.writePoolCmd)
  | poolReqWrite =>
    refine hs.unheld ?_
    split
    · exact hs.guardWrite fun ht => ht.writePoolReq
    · exact hs.guardWrite fun ht => ht.writePoolFloor
  | poolWaitTimeout => exact hs.unheld hs.poolWaitOut
  | cramponInterval => exact hs.unheld hs.interval
  | ceilingStep => exact hs.unheld hs.ceilingStep
  | powerCap => exact hs.unheld hs.powerCap
  | calibration => exact hs.unheld hs.calibrate
  | droopTrip => exact hs.unheld hs.droopTrip
  | droopRelease => exact hs.unheld hs.wf
  | voltageTrim => exact .ite (hs.unheld hs.trimAll) .fault
  | marginAlarmTrim => exact hs.unheld hs.alarmTrim
  | portIdleEnter => exact hs.unheld hs.idlePort
  | portIdleExit => exact hs.unheld (.ite hs.setPort hs)
  | tenLightEnter => exact hs.unheld hs.tenLight
  | deepEnter => exact hs.unheld hs.tenDeep
  | hbmSelfRefresh => exact hs.unheld hs.selfRefresh
  | wakeToleranceWrite =>
    next h _ =>
    cases h with
    | none => exact hs.unheld (hs.guardWrite fun ht => ht.writeSysWake)
    | some i => exact hs.unheld (hs.guardWrite fun ht => ht.writeHrnWake)
  | coreMhzSet | capWSet => exact hs.unheld (hs.guardWrite fun ht => ht.writePwrCtl)
  | perstNRelease => exact .next hs.perstRise
  | bootReset => exact hs.unheld hs.bootCmd
  | campComplete => exact hs.unheld hs.campComplete
  | campTimeout => exact hs.unheld hs.campTimeout
  | laserEnRise => exact .next (.ite hs.withBoot.campLasers hs.withBoot)
  | laserEnFall => exact .next hs.withBoot.lasersOff
  | commit | lock | burnSvn => exact hs.unheld hs.bootCmd
  | jtagToken => exact hs.unheld (hs.guardWrite fun ht => ht.writeJtagToken)
  | deviceFault =>
    next ue =>
    cases ue with
    | none => exact hs.unheld hs.applyDeviceFault
    | some x => exact hs.unheld hs.tableUe.applyDeviceFault
  | fence | clear => exact hs.unheld hs.faultCmd
  | unitOutOfService => exact hs.unheld hs.unitOut
  | neighbourLost => exact hs.unheld hs.neighbourLost
  | mpWatchdog => exact hs.unheld hs.mpRestart
  | mpStart => exact hs.unheld hs.mpStart
  | headlessExpire => exact hs.unheld hs.headlessExpire
  | resume | laserOff | laserOn => exact hs.unheld hs.faultCmd
  | avalancheWindow => exact hs.unheld hs.avalWindow
  | fmRequest => exact hs.unheld hs.fmRequest
  | fmAck => exact hs.unheld hs.fmAck
  | eventResend => exact hs.unheld hs.eventResend
  | fillStart | fillAbort => exact hs.unheld (hs.guardWrite fun ht => ht.writeFillCtl)
  | fillCopyTimeout => exact hs.unheld hs.fillTimeout
  | mark => exact hs.unheld (hs.guardWrite fun ht => ht.writeMarkCtl)
  | marginReport => exact .ite (hs.unheld (.ite hs hs.marginSet)) .fault
  | marginNow => exact .ite (hs.unheld (hs.guardWrite fun ht => ht.writeMarginCfg)) .fault
  | laneMarginRefresh => exact .ite (hs.unheld (.ite hs hs.laneRefresh)) .fault
  | faultRingWrite => exact hs.unheld (hs.guardWrite fun ht => ht.writeFaultRing)
  | snapshotGo => exact hs.unheld (hs.guardWrite fun ht => ht.writeSnapCtl)
  | snapshotComplete => exact hs.unheld hs.snapDone
  | snapshotRelease => exact hs.unheld (hs.guardWrite fun ht => ht.snapRelease)
  | histSample => exact hs.unheld hs.histSample
  | summaryPeriod => exact hs.unheld hs.summary
  | whiteoutExit => exact hs.unheld hs.woExit
  | ownRelease => exact hs.unheld (hs.guardWrite fun ht => ht.writeOwnCtl)
  | syncCfgWrite => exact hs.unheld (hs.guardWrite fun ht => ht.writeSync)
  | syncIoEdge => exact hs.unheld hs.pinEdge
  | ppsOutPulse => exact hs.unheld (.ite hs.emit hs)
  | cairnCheckpoint => exact hs.unheld (.ite hs hs.checkpoint)
  | ckpt | rd | format => exact hs.unheld (hs.guardWrite fun ht => ht.writeCrnCmd)
  | cairnProgram => exact hs.unheld hs.cairnProgram
  | lifetimeSample => exact .ite (hs.unheld hs.lifeSample) .fault
  | pwrgdFall => exact .next hs.pwrgdFall
  | perstNAssert => exact .next hs.perstFall
  | railDrop => exact .next hs.railDrop
  | refclkLoss => exact .next hs.refclkLoss
  | pciePerst => exact hs.unheld (.ite hs hs.portDown)
  | thermalAlarm => exact .next hs.thermalAlarm
  | thermtrip => exact .next hs.thermTrip
  | sidebandRead => exact .next hs.sideband
  | alertResponse => exact .next hs.alertResponse
  | jtagInstruction => exact .next hs.jtagSelect
  | pcieLinkUp => exact hs.unheld hs.portUp
  | pwrgdRise => exact .next hs.withBoot
  | vddAonRemoval => exact .next hs.aonRemoved
  | mpException => exact hs.unheld hs.mpRestart
  | inServiceSelfCheck => exact hs.unheld hs.coreFails
  | repeatRecordExpire => exact hs.unheld hs.withMfb
  | ropeCommandComplete => exact hs.unheld hs.ropeCmdDone
  | gateCommandComplete => exact hs.unheld hs.gateCmdDone
  | poolCommandComplete => exact hs.unheld hs.poolComplete
  | storeCommandComplete => exact hs.unheld hs.storeDone
  | carabinerCommandComplete => exact hs.unheld hs.carDone
  | markComplete => exact hs.unheld hs.wf

/-- Settles O5: a step runs one command or lets a nanosecond pass, and each keeps the tables tidy. -/
theorem canonicalFormKept : Obligations.CanonicalFormKept := by
  unfold Obligations.CanonicalFormKept
  intro s t hs ht
  rw [← State.tidy_iff] at hs ⊢
  rw [step] at ht
  split at ht
  · cases ht
    exact hs.tick
  · exact exec_tidy _ hs.same t ht

end Sys2Proof.Machine
end

section
/-! PROOF. What a histogram unit does with a value (R545, R546). -/
namespace Sys2Proof.Machine
open State

/-- The bin as R545 gives it: linear, and logarithmic in the shifted distance from BASE. -/
theorem histBin_eq (cfg : Word) (v : Nat) : State.histBin cfg v =
    (let x := if v < cfg.field 38 26 then 0 else (v - cfg.field 38 26) / 2 ^ cfg.field 32 6
     if cfg.field 31 1 = 0 then (if v < cfg.field 38 26 then 0 else min 63 x) else if x = 0 then 0 else min 63 (Nat.log2 x + 1)) := by
  simp only [State.histBin, Nat.shiftRight_eq_div_pow]
  by_cases hv : v < cfg.field 38 26
  · simp [hv]
  · simp [hv]

theorem histBin_lt (cfg : Word) (v : Nat) : State.histBin cfg v < 64 := by
  unfold State.histBin
  extract_lets base u
  split
  · omega
  · split
    · omega
    · omega

variable {s : State} {u b : Nat}

theorem histN_ne_bin : TEL_HIST_N.a u ≠ TEL_HIST_BIN.a u b := by
  unfold TEL_HIST_N.a TEL_HIST_BIN.a
  omega

theorem rf_inc_histN : (s.inc (TEL_HIST_N.V u)).rf (TEL_HIST_BIN.V u b) = s.rf (TEL_HIST_BIN.V u b) :=
  congrArg (·.field 0 32) (reg_count_ne s _ _ _ histN_ne_bin.symm)

/-- A bin that is full stays full and shows it by its sticky (R535). -/
theorem histAdd_full (hf : s.rf (TEL_HIST_BIN.V u b) = 0xFFFFFFFF) : s.histAdd u b =
    { s.inc (TEL_HIST_N.V u) with sticky := insertNat (s.inc (TEL_HIST_N.V u)).sticky (TEL_HIST_BIN.a u b) } :=
  if_pos (rf_inc_histN.trans hf)
theorem histAdd_room (hf : s.rf (TEL_HIST_BIN.V u b) ≠ 0xFFFFFFFF) : s.histAdd u b =
    (s.inc (TEL_HIST_N.V u)).wf (TEL_HIST_BIN.V u b) (s.rf (TEL_HIST_BIN.V u b) + 1) :=
  (if_neg (rf_inc_histN.trans_ne hf)).trans (by rw [rf_inc_histN])

theorem histAdd_rf : (s.histAdd u b).rf (TEL_HIST_BIN.V u b) = min 0xFFFFFFFF (s.rf (TEL_HIST_BIN.V u b) + 1) := by
  have hb : s.rf (TEL_HIST_BIN.V u b) < 2 ^ 32 := rf_lt (TEL_HIST_BIN.V u b)
  by_cases hf : s.rf (TEL_HIST_BIN.V u b) = 0xFFFFFFFF
  · rw [histAdd_full hf, hf]
    exact rf_inc_histN.trans hf
  · have hv : (s.rf (TEL_HIST_BIN.V u b) + 1) % 2 ^ 32 = min 0xFFFFFFFF (s.rf (TEL_HIST_BIN.V u b) + 1) := by omega
    rw [histAdd_room hf, ← hv]
    exact rf_wf_self _ (TEL_HIST_BIN.V u b) _ (Nat.le_of_ble_eq_true rfl)

theorem histAdd_sticky (hf : s.rf (TEL_HIST_BIN.V u b) = 0xFFFFFFFF) : TEL_HIST_BIN.a u b ∈ (s.histAdd u b).sticky := by
  rw [histAdd_full hf]
  exact (mem_insertNat _ _ _).mpr (.inl rfl)
theorem histAdd_reg {a : Nat} (h : a ≠ TEL_HIST_BIN.a u b) : (s.histAdd u b).reg a = (s.inc (TEL_HIST_N.V u)).reg a := by
  by_cases hf : s.rf (TEL_HIST_BIN.V u b) = 0xFFFFFFFF
  · rw [histAdd_full hf]
    rfl
  · rw [histAdd_room hf]
    exact reg_wf_ne _ _ _ _ h
theorem frame_sticky (l : List Nat) {ch : List State.Part} {rg : Nat →
    Prop} (h : State.Part.sticky ∈ ch) : frame s { s with sticky := l } ch rg :=
  ⟨fun p hp => by cases p <;> first | rfl | exact absurd h hp, fun _ _ => rfl, rfl⟩
theorem frame_histAdd : s.frame (s.histAdd u b) [.sticky] (fun a => a = TEL_HIST_N.a u ∨ a = TEL_HIST_BIN.a u b) := by
  have hi : s.frame (s.inc (TEL_HIST_N.V u)) [.sticky] (fun a => a = TEL_HIST_N.a u ∨ a = TEL_HIST_BIN.a u b) :=
    frame_inc _ (Or.inl (rfl : (TEL_HIST_N.V u).a = TEL_HIST_N.a u)) (by decide)
  by_cases hf : s.rf (TEL_HIST_BIN.V u b) = 0xFFFFFFFF
  · rw [histAdd_full hf]
    exact frame_trans hi (frame_sticky _ (by decide))
  · rw [histAdd_room hf]
    exact frame_trans hi (frame_wf (TEL_HIST_BIN.V u b) _ (.inr rfl))

theorem histSample_measured {v h : Nat} (hu : s.telUp = true) (hc : s.campOk 1 = true) (h2 : (s.histCfg u 0).field 0 4 = 2) :
    s.histSample u v h = s.histAdd u (State.histBin (s.histCfg u 0) v) := by
  simp [State.histSample, hu, hc, h2]

/-- Settles O8: the bin is the model's own arithmetic on the value, and an increment counts in that bin's register alone. -/
theorem histogramBins : Obligations.HistogramBins := by
  unfold Obligations.HistogramBins
  rintro s u v h _ _ _ x b hw hu hc rfl h2 rfl rfl hx hb
  have hbin : b = State.histBin (s.histCfg u 0) v.toNat := by rw [histBin_eq, hb, hx]
  refine ⟨hbin ▸ histBin_lt _ _, runs_unheld hw rfl ?_⟩
  rw [histSample_measured hu hc h2, ← hbin]
  refine ⟨?_, histAdd_rf, histAdd_sticky, fun c _ hcb => ?_, frame_histAdd⟩
  · rw [histAdd_reg histN_ne_bin]
    exact reg_count_self _ _ _
  · rw [histAdd_reg (by unfold TEL_HIST_BIN.a; omega)]
    exact reg_count_ne s _ _ _ histN_ne_bin.symm
end Sys2Proof.Machine
end

section
/-! PROOF. The low-power states, the tolerances and the settings of the clock and of the cap (R471 to R478, R487). -/
namespace Sys2Proof.Machine
namespace State
variable {s t : State}

/-- What every step of a fold leaves as it was, the fold leaves. -/
theorem frame_foldl {α : Type} {l : List α} {f : State → α → State} {ch : List Part} {rg : Nat → Prop}
    (h : ∀ t, ∀ x ∈ l, frame t (f t x) ch rg) : frame s (l.foldl f s) ch rg :=
  List.foldlRecOn l f (frame_refl s ch rg) fun t ht x hx => frame_trans ht (h t x hx)

theorem lookupKey_sparseSet {α : Type} [DecidableEq α] {d : Nat → α} {l : List (Nat × α)} {a : Nat} {v : α} (h : v ≠ d a) :
    lookupKey (sparseSet d l a v) a = some v := by
  rw [sparseSet, if_neg h]
  exact lookupKey_insertKey_self _ _ _ (lookupKey_eraseKey_self l a)

/-! ## Ports, tensor engines and stacks -/

theorem idlePort_may {P : Nat} (hu : awake s) (hi : (s.port P).idle = false) (hm : s.mayIdle P = true) :
    s.idlePort P = (s.setPort P { s.port P with idle := true }).inc PWR_CNT_PORT_IDLE.V :=
  if_neg (by rw [hu, hi, hm]; decide)
theorem idlePort_kept {P : Nat} (hm : s.mayIdle P = false) : s.idlePort P = s := if_pos (by rw [hm]; simp)

theorem tenLight_may {c : Nat} (hu : awake s) (hb : s.tenBusy c = false) (hn : lookupKey s.power.ten c = none) (ht : 100 ≤ s.tolTen c) :
    s.tenLight c = s.setTen c 1 := if_neg (by rw [hu, hb, hn]; simpa using ht)
theorem tenDeep_may {c : Nat} (hu : awake s) (hb : s.tenBusy c = false) (hn : lookupKey s.power.ten c ≠ some 2) (hm : s.mayDeep c = true) :
    s.tenDeep c = (s.setTen c 2).inc PWR_CNT_DEEP.V := if_neg (by rw [hu, hb, hm]; simpa using hn)
theorem selfRefresh_may (hu : awake s) (hr : s.power.hbmSr = false) (hn : s.rf PWR_IDLE_CFG.HBM_SR_US ≠ 0) (ht : 10000 ≤ s.tolHbm) :
    s.selfRefresh = (s.withPower { s.power with hbmSr := true }).inc PWR_CNT_HBM_SR.V :=
  if_neg (by rw [hu, hr]; simpa using ⟨hn, ht⟩)
theorem lookup_setTen {c v : Nat} (hv : v ≠ 0) : lookupKey (s.setTen c v).power.ten c = some v :=
  lookupKey_sparseSet (d := fun _ => 0) hv

/-! ## A tolerance written (R473) -/

/-- The tolerance that governs core `k`, in nanoseconds. -/
def tolCore (s : State) (k : Nat) : Nat := (s.reg (HRN_WAKE.a (s.coreH k))).field 0 16
/-- What a core's tolerance makes of its state: bivouac (4) ends where the tolerance is below 100 ns, the core waits (3). -/
def roused (tol st : Nat) : Nat := if st = 4 ∧ tol < 100 then 3 else st
/-- Core `k` leaves bivouac where its tolerance no longer permits it. -/
def rouseCore (s : State) (k : Nat) : State :=
  if s.cstate k = 4 && decide ((s.reg (HRN_WAKE.a (s.coreH k))).field 0 16 < 100) then s.wf (CRX_CORE_STS.STATE k) 3 else s
/-- Tensor engines and stacks leave the states their tolerances no longer permit. -/
def rouseUnits (s : State) : State :=
  s.withPower { s.power with ten := s.power.ten.filter (fun x => decide ((if x.2 = 2 then 20000 else 100) ≤ s.tolTen x.1)),
                             hbmSr := s.power.hbmSr && decide (10000 ≤ s.tolHbm) }
/-- So does a port. -/
def rousePort (s : State) (P : Nat) : State :=
  if (s.port P).idle && !s.loneTorus P && decide (s.tolPort P < 2000) then s.setPort P { s.port P with idle := false } else s

def rouseCores (s : State) : State := (List.range 512).foldl rouseCore s
def rousePorts (s : State) : State := (s.ports.map (fun x => x.1)).foldl rousePort s

theorem wakeBlocks_eq : s.wakeBlocks = rousePorts (rouseUnits (rouseCores s)) := by
  unfold wakeBlocks rouseCores rouseCore
  generalize List.foldl _ s (List.range 512) = s1
  rfl

theorem roused_roused (tol st : Nat) : roused tol (roused tol st) = roused tol st := by
  unfold roused
  split <;> simp

theorem rouseCore_wakes {k : Nat} (h : s.cstate k = 4 ∧ s.tolCore k < 100) : s.rouseCore k = s.wf (CRX_CORE_STS.STATE k) 3 :=
  if_pos (by simpa [tolCore] using h)
theorem rouseCore_sleeps {k : Nat} (h : ¬ (s.cstate k = 4 ∧ s.tolCore k < 100)) : s.rouseCore k = s :=
  if_neg (by simpa [tolCore] using h)

theorem frame_rouseCore (k : Nat) : frame s (s.rouseCore k) [] (fun a => a = CRX_CORE_STS.a k) := by
  by_cases h : s.cstate k = 4 ∧ s.tolCore k < 100
  · rw [rouseCore_wakes h]
    exact frame_wf_sts 3 rfl
  · rw [rouseCore_sleeps h]
    exact frame_refl ..
theorem coreH_rouseCore (j k : Nat) (hj : j < 512) (hk : k < 512) : (s.rouseCore j).coreH k = s.coreH k := by
  by_cases e : k = j
  · subst e
    by_cases h : s.cstate k = 4 ∧ s.tolCore k < 100
    · rw [rouseCore_wakes h, coreH, rf_wf_apart _ (.inr ⟨show 0 + 3 ≤ 64 by decide, .inr (show 0 + 3 ≤ 3 by decide)⟩)]
      rfl
    · rw [rouseCore_sleeps h]
  · exact coreH_of_frame (frame_rouseCore j) (core_ne hk hj e)
theorem wake_ne_core {h : Nat} (_ : h < 4096) (k : Nat) : HRN_WAKE.a h ≠ CRX_CORE_STS.a k := by
  unfold HRN_WAKE.a CRX_CORE_STS.a coreBase
  omega
theorem tolCore_rouseCore (j k : Nat) (hj : j < 512) (hk : k < 512) : (s.rouseCore j).tolCore k = s.tolCore k := by
  rw [tolCore, coreH_rouseCore j k hj hk, (frame_rouseCore j).2.1 _ (wake_ne_core (coreH_lt k) j), tolCore]
theorem cstate_rouseCore (j k : Nat) (hj : j < 512) (hk : k < 512) :
    (s.rouseCore j).cstate k = if k = j then roused (s.tolCore k) (s.cstate k) else s.cstate k := by
  split
  · next e =>
    subst e
    by_cases h : s.cstate k = 4 ∧ s.tolCore k < 100
    · rw [rouseCore_wakes h, cstate_wf k (by decide), roused, if_pos h]
    · rw [rouseCore_sleeps h, roused, if_neg h]
  · next e => exact cstate_of_frame (frame_rouseCore j) (core_ne hk hj e)

theorem cstate_rouse {k : Nat} (hk : k < 512) (L : List Nat) (hL : ∀ j ∈ L, j < 512) :
    (L.foldl rouseCore s).cstate k = if k ∈ L then roused (s.tolCore k) (s.cstate k) else s.cstate k := by
  induction L generalizing s with
  | nil => rfl
  | cons j L ih =>
    have hj : j < 512 := hL j List.mem_cons_self
    rw [List.foldl_cons, ih fun i hi => hL i (List.mem_cons_of_mem j hi), tolCore_rouseCore j k hj hk, cstate_rouseCore j k hj hk]
    by_cases e : k = j
    · simp [e, roused_roused]
    · simp [e]

/-- Registers of the cores' states. -/
abbrev stsReg (a : Nat) : Prop := ∃ k, k < 512 ∧ a = CRX_CORE_STS.a k

theorem frame_rouseCores : frame s (rouseCores s) [] stsReg :=
  frame_foldl fun _ k hk => frame_mono (frame_rouseCore k) (fun _ h => h) fun _ e => ⟨k, List.mem_range.mp hk, e⟩
theorem frame_rousePorts : frame s (rousePorts s) [.ports] (fun _ => False) :=
  frame_foldl fun t P _ => by
    unfold rousePort
    split
    · exact frame_setPort _ _ (by decide)
    · exact frame_refl ..
theorem frame_wakeBlocks : frame s s.wakeBlocks [.ports, .power] stsReg := by
  rw [wakeBlocks_eq]
  exact frame_trans (frame_mono frame_rouseCores (by simp) fun _ h => h)
    (frame_trans (frame_withPower _ (by decide)) (frame_mono frame_rousePorts (by simp) fun _ h => h.elim))

theorem cstate_rouseUnits (k : Nat) : (rouseUnits s).cstate k = s.cstate k := rfl
theorem cstate_wakeBlocks {k : Nat} (hk : k < 512) : s.wakeBlocks.cstate k = roused (s.tolCore k) (s.cstate k) := by
  rw [wakeBlocks_eq, cstate_of_frame frame_rousePorts not_false, cstate_rouseUnits, rouseCores,
    cstate_rouse hk _ fun _ => List.mem_range.mp, if_pos (List.mem_range.mpr hk)]

theorem sysWake_ne_core (k : Nat) : PWR_SYS_WAKE.a ≠ CRX_CORE_STS.a k := by
  unfold PWR_SYS_WAKE.a CRX_CORE_STS.a coreBase
  omega
theorem foldl_min_map_le {α : Type} (f : α → Nat) (l : List α) (m : Nat) : l.foldl (fun m q => min m (f q)) m ≤ m := by
  rw [← List.foldl_map]
  exact foldl_min_le _ _
theorem tolHbm_le : s.tolHbm ≤ s.rf PWR_SYS_WAKE.HBM := foldl_min_map_le _ _ _
theorem hbmSr_rouseUnits (h : s.tolHbm < 10000) : (rouseUnits s).power.hbmSr = false :=
  Bool.and_eq_false_imp.mpr fun _ => decide_eq_false (Nat.not_le.mpr h)
theorem hbmSr_wakeBlocks (h : s.rf PWR_SYS_WAKE.HBM < 10000) : s.wakeBlocks.power.hbmSr = false := by
  have hp : (rousePorts (rouseUnits (rouseCores s))).power = (rouseUnits (rouseCores s)).power := frame_rousePorts.1 .power (by decide)
  have ht : (rouseCores s).tolHbm < 10000 := by
    refine Nat.lt_of_le_of_lt tolHbm_le ?_
    rwa [rf_of_frame frame_rouseCores]
    rintro ⟨k, -, e⟩
    exact absurd e (sysWake_ne_core k)
  rw [wakeBlocks_eq, hp, hbmSr_rouseUnits ht]

/-! ## PWR_CTL (R477, R478) -/

/-- Both fields of a write of PWR_CTL are within their ranges. -/
def pwrFits (mhz cap : Nat) : Prop := 800 ≤ mhz ∧ mhz ≤ gradeMhz ∧ mhz % 100 = 0 ∧ 1500 ≤ cap ∧ cap ≤ gradeW

theorem writePwrCtl_fits {src : Src} {v : Word} (h : pwrFits (v.field 0 11) (v.field 11 12)) :
    s.writePwrCtl src v = ((s.wf PWR_CTL.CORE_MHZ (v.field 0 11)).wf PWR_CTL.CAP_W (v.field 11 12)).setClock :=
  if_neg (by obtain ⟨h1, h2, h3, h4, h5⟩ := h; simp; omega)
theorem writePwrCtl_unfit {src : Src} {v : Word} (h : ¬ pwrFits (v.field 0 11) (v.field 11 12)) :
    s.writePwrCtl src v = s.reject src PWR_CTL.a :=
  if_pos (by unfold pwrFits at h; simp; omega)

theorem rf_setClock {x : Rf} (hx : x.a ≠ PWR_STS.a) : s.setClock.rf x = s.rf x := by
  rw [setClock, rf_wf_apart _ (.inl hx), rf_wf_apart _ (.inl hx)]
theorem clock_setClock (h : s.rf PWR_CTL.CORE_MHZ < 2 ^ 11) :
    s.setClock.rf PWR_STS.CORE_MHZ_ACT = min (s.rf PWR_CTL.CORE_MHZ) s.ceilingMhz := by
  rw [setClock, rf_wf_apart _ (by decide)]
  exact rf_wf_fits (by decide) (Nat.lt_of_le_of_lt (Nat.min_le_left _ _) h)
theorem frame_setClock : frame s s.setClock [] (fun a => a = PWR_CTL.a ∨ a = PWR_STS.a) :=
  frame_trans (frame_wf PWR_STS.CORE_MHZ_ACT _ (.inr rfl)) (frame_wf PWR_STS.CEILING _ (.inr rfl))

theorem ceilingMhz_wf (x : Rf) (n : Nat) : (s.wf x n).ceilingMhz = s.ceilingMhz :=
    congrArg (fun p : PowerSt => gradeMhz - 100 * p.steps) (wf_power s x n)

theorem pwrCtl_written {src : Src} {v : Word} (h : pwrFits (v.field 0 11) (v.field 11 12)) :
    (s.writePwrCtl src v).rf PWR_CTL.CORE_MHZ = v.field 0 11 ∧ (s.writePwrCtl src v).rf PWR_CTL.CAP_W = v.field 11 12 ∧
    (s.writePwrCtl src v).rf PWR_STS.CORE_MHZ_ACT = min (v.field 0 11) s.ceilingMhz ∧
    s.frame (s.writePwrCtl src v) [] (fun a => a = PWR_CTL.a ∨ a = PWR_STS.a) := by
  have hm : v.field 0 11 < 2 ^ 11 := Nat.mod_lt _ (by decide)
  have hc : v.field 11 12 < 2 ^ 12 := Nat.mod_lt _ (by decide)
  have mhz : ((s.wf PWR_CTL.CORE_MHZ (v.field 0 11)).wf PWR_CTL.CAP_W (v.field 11 12)).rf PWR_CTL.CORE_MHZ = v.field 0 11 := by
    rw [rf_wf_apart _ (by decide), rf_wf_fits (by decide) hm]
  rw [writePwrCtl_fits h]
  refine ⟨(rf_setClock (by decide)).trans mhz, ?_, ?_, ?_⟩
  · rw [rf_setClock (by decide), rf_wf_fits (by decide) hc]
  · rw [clock_setClock (by rwa [mhz]), mhz, ceilingMhz_wf, ceilingMhz_wf]
  · exact frame_trans (frame_trans (frame_wf PWR_CTL.CORE_MHZ _ (.inl rfl)) (frame_wf PWR_CTL.CAP_W _ (.inl rfl))) frame_setClock

end State

open State
variable {s : State} {src : Src}

theorem portIdle_enters (P : Nat) (hu : awake s) (hi : (s.port P).idle = false) (hm : s.mayIdle P = true) :
    (s.idlePort P).port P = { s.port P with idle := true } ∧ (∀ Q, Q ≠ P → (s.idlePort P).port Q = s.port Q) ∧
    (s.idlePort P).reg PWR_CNT_PORT_IDLE.a = Word.ofN ((s.reg PWR_CNT_PORT_IDLE.a).toNat + 1) ∧
    s.frame (s.idlePort P) [.ports, .sticky] (fun a => a = PWR_CNT_PORT_IDLE.a) := by
  rw [idlePort_may hu hi hm]
  obtain ⟨counts, keeps⟩ := (s.setPort P { s.port P with idle := true }).inc_counts PWR_CNT_PORT_IDLE.V
  refine ⟨(port_count ..).trans (port_setPort_self ..), fun Q hQ => (port_count ..).trans (port_setPort_ne _ _ _ _ hQ), counts, ?_⟩
  exact frame_trans (frame_setPort _ _ (by decide)) (frame_mono keeps (by decide) fun _ h => h)

theorem PortSt.eq_awake {p : PortSt} (h : p.idle = false) : p = { p with idle := false } := by
  cases p
  cases h
  rfl

theorem portIdle_leaves (P : Nat) (hl : s.loneTorus P = false) :
    ∃ t, (if (s.port P).idle && !s.loneTorus P then s.setPort P { s.port P with idle := false } else s) = t ∧
    t.port P = { s.port P with idle := false } ∧ (∀ Q, Q ≠ P → t.port Q = s.port Q) ∧ s.frame t [.ports] (fun _ => False) := by
  refine ⟨_, rfl, ?_⟩
  cases hi : (s.port P).idle
  · rw [Bool.false_and, if_neg (by decide)]
    exact ⟨PortSt.eq_awake hi, fun _ _ => rfl, frame_refl ..⟩
  · rw [hl, if_pos (by decide)]
    exact ⟨port_setPort_self .., fun Q hQ => port_setPort_ne _ _ _ _ hQ, frame_setPort _ _ (by decide)⟩

theorem tenDeep_enters (c : Nat) (hu : awake s) (hb : s.tenBusy c = false) (hn : lookupKey s.power.ten c ≠ some 2)
    (hm : s.mayDeep c = true) :
    lookupKey (s.tenDeep c).power.ten c = some 2 ∧ (s.tenDeep c).reg PWR_CNT_DEEP.a = Word.ofN ((s.reg PWR_CNT_DEEP.a).toNat + 1) ∧
    s.frame (s.tenDeep c) [.power, .sticky] (fun a => a = PWR_CNT_DEEP.a) := by
  rw [tenDeep_may hu hb hn hm]
  obtain ⟨counts, keeps⟩ := (s.setTen c 2).inc_counts PWR_CNT_DEEP.V
  refine ⟨?_, counts, frame_trans (frame_withPower _ (by decide)) (frame_mono keeps (by decide) fun _ h => h)⟩
  rw [inc_power, lookup_setTen (by decide)]

theorem selfRefresh_enters (hu : awake s) (hr : s.power.hbmSr = false) (hn : s.rf PWR_IDLE_CFG.HBM_SR_US ≠ 0) (ht : 10000 ≤ s.tolHbm) :
    s.selfRefresh.power.hbmSr = true ∧ s.selfRefresh.reg PWR_CNT_HBM_SR.a = Word.ofN ((s.reg PWR_CNT_HBM_SR.a).toNat + 1) ∧
    s.frame s.selfRefresh [.power, .sticky] (fun a => a = PWR_CNT_HBM_SR.a) := by
  rw [selfRefresh_may hu hr hn ht]
  obtain ⟨counts, keeps⟩ := (s.withPower { s.power with hbmSr := true }).inc_counts PWR_CNT_HBM_SR.V
  exact ⟨by rw [inc_power]; rfl, counts, frame_trans (frame_withPower _ (by decide)) (frame_mono keeps (by decide) fun _ h => h)⟩

/-- A harness's tolerance written is in force at once for its cores. -/
theorem hrnWake_written {h : Nat} (hh : h < 4096) (v : Word) :
    (s.writeHrnWake h v).reg (HRN_WAKE.a h) = v ∧
    (∀ k, k < 512 → s.cstate k = 4 → s.coreH k = h → (s.writeHrnWake h v).cstate k = (if v.field 0 16 < 100 then 3 else 4)) ∧
    (∀ k, k < 512 → s.cstate k ≠ 4 → (s.writeHrnWake h v).cstate k = s.cstate k) ∧
    s.frame (s.writeHrnWake h v) [.ports, .power] (fun a => a = HRN_WAKE.a h ∨ stsReg a) := by
  have written : s.frame (s.setReg (HRN_WAKE.a h) v) [.ports, .power] (fun a => a = HRN_WAKE.a h ∨ stsReg a) := frame_setReg _ _ (.inl rfl)
  have kept (k : Nat) : (s.setReg (HRN_WAKE.a h) v).cstate k = s.cstate k ∧ (s.setReg (HRN_WAKE.a h) v).coreH k = s.coreH k :=
    have set : s.frame (s.setReg (HRN_WAKE.a h) v) [] (fun a => a = HRN_WAKE.a h) := frame_setReg _ _ rfl
    ⟨cstate_of_frame set (wake_ne_core hh k).symm, coreH_of_frame set (wake_ne_core hh k).symm⟩
  have state (k : Nat) (hk : k < 512) : (s.writeHrnWake h v).cstate k = roused ((s.setReg (HRN_WAKE.a h) v).tolCore k) (s.cstate k) := by
    rw [writeHrnWake, cstate_wakeBlocks hk, (kept k).1]
  refine ⟨?_, fun k hk h4 hc => ?_, fun k hk h4 => ?_, ?_⟩
  · rw [writeHrnWake, frame_wakeBlocks.2.1, reg_setReg_self]
    rintro ⟨k, -, e⟩
    exact wake_ne_core hh k e
  · rw [state k hk, tolCore, (kept k).2, hc, reg_setReg_self, h4, roused]
    simp
  · rw [state k hk, roused, if_neg fun e => h4 e.1]
  · exact frame_trans written (frame_mono frame_wakeBlocks (fun _ h => h) fun _ => .inr)

theorem sysWake_written (v : Word) :
    ((s.writeSysWake v).reg PWR_SYS_WAKE.a).toNat = v.toNat % 2 ^ 48 ∧
      (v.field 16 16 < 10000 → (s.writeSysWake v).power.hbmSr = false) := by
  have low : (Word.ofN (v.field 0 48)).toNat = v.toNat % 2 ^ 48 := by
    rw [Word.ofN, BitVec.toNat_ofNat, Word.field]
    omega
  refine ⟨?_, fun h => ?_⟩
  · rw [writeSysWake, frame_wakeBlocks.2.1, reg_setReg_self, low]
    rintro ⟨k, -, e⟩
    exact sysWake_ne_core k e
  · have hbm : (Word.ofN (v.field 0 48)).field 16 16 = v.field 16 16 := by
      rw [Word.field, low, Word.field]
      omega
    have reads : (s.setReg PWR_SYS_WAKE.a (Word.ofN (v.field 0 48))).rf PWR_SYS_WAKE.HBM = v.field 16 16 :=
      (congrArg (·.field 16 16) (reg_setReg_self ..)).trans hbm
    rw [writeSysWake]
    exact hbmSr_wakeBlocks (reads.trans_lt h)

theorem mhz_fields (v : BitVec 11) :
    ((s.reg PWR_CTL.a).withField 0 11 v.toNat).field 0 11 = v.toNat ∧
    ((s.reg PWR_CTL.a).withField 0 11 v.toNat).field 11 12 = s.rf PWR_CTL.CAP_W :=
  ⟨(Word.field_withField_self _ 0 11 _ (by decide)).trans (Nat.mod_eq_of_lt v.isLt),
   Word.field_withField_above _ 0 11 _ 11 12 (by decide) (by decide)⟩
theorem cap_fields (v : BitVec 12) :
    ((s.reg PWR_CTL.a).withField 11 12 v.toNat).field 0 11 = s.rf PWR_CTL.CORE_MHZ ∧
    ((s.reg PWR_CTL.a).withField 11 12 v.toNat).field 11 12 = v.toNat :=
  ⟨Word.field_withField_below _ 11 12 _ 0 11 (by decide) (by decide),
   (Word.field_withField_self _ 11 12 _ (by decide)).trans (Nat.mod_eq_of_lt v.isLt)⟩

/-- Settles O47: each command's guard decides between its one write and none, and a tolerance or a clock is written by its own rule. -/
theorem lowPowerStates : Obligations.LowPowerStates := by
  unfold Obligations.LowPowerStates
  refine fun s src hu => ⟨fun P => ⟨fun hi hm => ?_, fun hm => ?_, fun hl => ?_⟩, fun c hb => ⟨fun hn ht => ?_, fun hn hm => ?_⟩,
    fun hr hn ht => ?_, fun h v ho => ?_, fun v ho => ?_, fun ho => ⟨fun v hc hc' => ⟨fun h1 h2 h3 => ?_, fun hv => ?_⟩,
    fun v hm hm' hm'' => ⟨fun h1 h2 => ?_, fun hv => ?_⟩⟩⟩
  · exact runs_unheld hu rfl (portIdle_enters P hu hi hm)
  · exact runs_unheld hu rfl (idlePort_kept hm)
  · obtain ⟨t, rfl, left⟩ := portIdle_leaves P hl
    exact runs_unheld hu rfl left
  · refine runs_unheld hu rfl ?_
    rw [tenLight_may hu hb hn ht]
    exact ⟨lookup_setTen (by decide), frame_withPower _ (by decide)⟩
  · exact runs_unheld hu rfl (tenDeep_enters c hu hb hn hm)
  · exact runs_unheld hu rfl (selfRefresh_enters hu hr hn ht)
  · exact runs_write hu ho rfl (hrnWake_written h.isLt v)
  · exact runs_write hu ho rfl (sysWake_written v)
  · obtain ⟨mhz, cap⟩ := mhz_fields (s := s) v
    obtain ⟨hm, hcap, clock, keeps⟩ := pwrCtl_written (s := s) (src := src) (by rw [mhz, cap]; exact ⟨h1, h2, h3, hc, hc'⟩)
    exact runs_write hu ho rfl ⟨hm.trans mhz, hcap.trans cap, by rw [clock, mhz], keeps⟩
  · obtain ⟨mhz, cap⟩ := mhz_fields (s := s) v
    exact turnedAway_write hu ho rfl (writePwrCtl_unfit (by rw [mhz, cap]; unfold pwrFits; omega)) (by decide)
  · obtain ⟨mhz, cap⟩ := cap_fields (s := s) v
    obtain ⟨hm1, hcap, -, keeps⟩ := pwrCtl_written (s := s) (src := src) (by rw [mhz, cap]; exact ⟨hm, hm', hm'', h1, h2⟩)
    exact runs_write hu ho rfl ⟨hcap.trans cap, hm1.trans mhz, keeps⟩
  · obtain ⟨mhz, cap⟩ := cap_fields (s := s) v
    exact turnedAway_write hu ho rfl (writePwrCtl_unfit (by rw [mhz, cap]; unfold pwrFits; omega)) (by decide)
end Sys2Proof.Machine
end

section
/-! PROOF. Reset and the start of Camp 0, the lasers, MIN_SVN and the JTAG tokens (R490, R495, R496, R501, R524, R574). -/
namespace Sys2Proof
/-- A field written with what it holds leaves the word as it is. -/
theorem Word.withField_field (w : Word) (lo n : Nat) (h : lo + n ≤ 64) : w.withField lo n (w.field lo n) = w := by
  apply BitVec.eq_of_toNat_eq
  rw [Word.withField_toNat _ _ _ _ h, Word.field, Nat.mod_mod, Nat.pow_add, ← Nat.div_div_eq_div_mul]
  have high := Nat.div_add_mod' (w.toNat / 2 ^ lo) (2 ^ n)
  have low := Nat.div_add_mod' w.toNat (2 ^ lo)
  calc _ = (w.toNat / 2 ^ lo / 2 ^ n * 2 ^ n + w.toNat / 2 ^ lo % 2 ^ n) * 2 ^ lo + w.toNat % 2 ^ lo := by ring
    _ = w.toNat := by rw [high, low]
end Sys2Proof

namespace Sys2Proof.Machine
namespace State
variable {s t : State} {src : Src}

/-! ## What a reset leaves -/

/-- Every block in its reset state; flash, fuses and pins as they were. -/
def blank (s : State) : State :=
  { regs := [], sticky := [], xdom := [], ports := [], fwd := FwdSt.initial, gateTbl := [], time := TimeSt.initial,
    fault := FaultSt.initial, mem := MemSt.initial, mfb := MfbSt.initial, hrn := HrnSt.initial, comp := CompSt.initial,
    rope := RopeSt.initial, gate := GateSt.initial, host := HostSt.initial,
    cairn := { CairnSt.initial with log := s.cairn.log, copyA := s.cairn.copyA, copyB := s.cairn.copyB, lg := s.cairn.lg, dead := s.cairn.dead },
    power := PowerSt.initial, tel := TelSt.initial,
    boot := { s.boot with lasers := [], committed := false, campNs := 0, bootNs := 0, jtagKeep := false },
    pending := s.pending, out := s.out, free := s.free }

theorem resetAll_eq (power : Bool) : s.resetAll power =
    (((blank s).wf HUB_BOOT_CTL.SOD_QUICK (if power then 0 else s.rf HUB_BOOT_CTL.SOD_QUICK)).wf HUB_BOOT_IMAGE.MIN_SVN s.boot.minSvn).showLg :=
  rfl
theorem reg_blank (a : Nat) : (blank s).reg a = regReset a := rfl

theorem reg_withBoot (b : BootSt) (a : Nat) : (s.withBoot b).reg a = s.reg a := rfl
theorem rf_withBoot (b : BootSt) (x : Rf) : (s.withBoot b).rf x = s.rf x := rfl

/-- The registers a reset writes: those that hold what survives it, and Cairn's last-gasp entries. -/
abbrev resetReg (a : Nat) : Prop := a = HUB_BOOT_CTL.a ∨ a = HUB_BOOT_IMAGE.a ∨ (0x340000 ≤ a ∧ a < 0x340500)

theorem frame_showLg : frame s s.showLg [] (fun a => 0x340000 ≤ a ∧ a < 0x340500) := by
  have entries : frame s ((s.cairn.lg.zip (List.range 64)).foldl (fun t x =>
      (t.setReg (CRN_LG.a x.2 0) (Word.ofN (leAt x.1 0 8))).setReg (CRN_LG.a x.2 1) (Word.ofN (leAt x.1 8 8))) s) []
      (fun a => 0x340000 ≤ a ∧ a < 0x340500) := by
    refine List.foldlRecOn (motive := fun t => frame s t [] _) _ _ (frame_refl ..) fun t ht x hx => frame_trans ht ?_
    have below : x.2 < 64 := List.mem_range.mp (List.of_mem_zip hx).2
    exact frame_trans (frame_setReg _ _ (by unfold CRN_LG.a; omega)) (frame_setReg _ _ (by unfold CRN_LG.a; omega))
  exact frame_trans entries (frame_trans (frame_wf _ _ (by decide)) (frame_wf _ _ (by decide)))

theorem frame_resetAll (power : Bool) : frame (blank s) (s.resetAll power) [] resetReg := by
  rw [resetAll_eq]
  exact frame_trans (frame_trans (frame_wf HUB_BOOT_CTL.SOD_QUICK _ (.inl rfl)) (frame_wf HUB_BOOT_IMAGE.MIN_SVN _ (.inr (.inl rfl))))
    (frame_mono frame_showLg (fun _ h => h) fun _ h => .inr (.inr h))
theorem quick_resetAll : (s.resetAll false).rf HUB_BOOT_CTL.SOD_QUICK = s.rf HUB_BOOT_CTL.SOD_QUICK := by
  rw [resetAll_eq, rf_of_frame frame_showLg (by decide), rf_wf_apart _ (by decide)]
  exact rf_wf_fits (by decide) (rf_lt _)

theorem startCamp0_eq : s.startCamp0 = ((s.resetAll false).withBoot { (s.resetAll false).boot with held := false }).lifeInc 3 := rfl

theorem frame_startCamp0 : frame (blank s) s.startCamp0 [.boot, .sticky] (fun a => resetReg a ∨ a = CRN_LIFE.a 3) := by
  rw [startCamp0_eq]
  exact frame_trans (frame_mono (frame_resetAll false) (by simp) fun _ => .inl)
    (frame_trans (frame_withBoot _ (by decide)) (frame_inc (CRN_LIFE.V 3) (Or.inr (rfl : (CRN_LIFE.V 3).a = CRN_LIFE.a 3)) (by decide)))
theorem boot_startCamp0 : s.startCamp0.boot = { s.boot with lasers := [], committed := false, campNs := 0, bootNs := 0, jtagKeep := false, held := false } := by
  have kept : (s.resetAll false).boot = (blank s).boot := (frame_resetAll false).1 .boot (by decide)
  rw [startCamp0_eq, lifeInc, inc_boot, withBoot, kept]
  rfl
/-- What flash, fuses and pins hold stays through a reset. -/
theorem startCamp0_keeps :
    s.startCamp0.boot.minSvn = s.boot.minSvn ∧ s.startCamp0.cairn.log = s.cairn.log ∧ s.startCamp0.boot.defects = s.boot.defects ∧
    s.startCamp0.boot.perst = s.boot.perst ∧ s.startCamp0.boot.pwrgd = s.boot.pwrgd := by
  have cairn : s.startCamp0.cairn = (blank s).cairn := frame_startCamp0.1 .cairn (by decide)
  rw [boot_startCamp0, cairn]
  exact ⟨rfl, rfl, rfl, rfl, rfl⟩
theorem rf_startCamp0 {x : Rf} (h : ¬ (resetReg x.a ∨ x.a = CRN_LIFE.a 3)) : s.startCamp0.rf x = (regReset x.a).field x.lo x.w := by
  rw [rf_of_frame frame_startCamp0 h, rf, reg_blank]
theorem quick_startCamp0 : s.startCamp0.rf HUB_BOOT_CTL.SOD_QUICK = s.rf HUB_BOOT_CTL.SOD_QUICK := by
  have counted : frame (s.resetAll false) s.startCamp0 [.boot, .sticky] (fun a => a = CRN_LIFE.a 3) := by
    rw [startCamp0_eq]
    exact frame_trans (frame_withBoot _ (by decide)) (frame_inc (CRN_LIFE.V 3) rfl (by decide))
  rw [rf_of_frame counted (by decide), quick_resetAll]
theorem starts_startCamp0 : s.startCamp0.rf (CRN_LIFE.V 3) = 1 := by
  have zero : ((s.resetAll false).withBoot { (s.resetAll false).boot with held := false }).reg (CRN_LIFE.a 3) = 0#64 := by
    rw [reg_withBoot, (frame_resetAll false).2.1 _ (by decide), reg_blank]
    decide +kernel
  have one : s.startCamp0.reg (CRN_LIFE.a 3) = 1#64 := by
    rw [startCamp0_eq, lifeInc]
    refine (reg_count_self _ _ _).trans ?_
    rw [show (CRN_LIFE.V 3).a = CRN_LIFE.a 3 from rfl, zero]
    rfl
  rw [rf, show (CRN_LIFE.V 3).a = CRN_LIFE.a 3 from rfl, one]
  rfl

/-- The start of Camp 0: out of reset, Camp 0 running, every block in its reset state (R490). -/
theorem startCamp0_starts :
    s.startCamp0.boot.held = false ∧ s.startCamp0.campNow = 0 ∧ s.startCamp0.campState = 0 ∧ s.startCamp0.mem = MemSt.initial ∧
    s.startCamp0.fwd = FwdSt.initial := by
  refine ⟨congrArg BootSt.held boot_startCamp0, ?_, ?_, frame_startCamp0.1 .mem (by decide), frame_startCamp0.1 .fwd (by decide)⟩
  · rw [campNow, rf_startCamp0 (by decide)]
    decide +kernel
  · rw [campState, rf_startCamp0 (by decide)]
    decide +kernel

/-! ## The commands of HUB_BOOT_CTL -/

/-- The word a command of HUB_BOOT_CTL writes: its bit, and SOD_QUICK as it was. -/
def bootWord (bit q : Nat) : Word := Word.ofN (2 ^ bit + 16 * q)
/-- The state with SOD_QUICK written as it was. -/
def quickKept (s : State) : State := s.wf HUB_BOOT_CTL.SOD_QUICK (s.rf HUB_BOOT_CTL.SOD_QUICK)

theorem bootWord_bit {i bit q : Nat} (hi : i < 4) (hb : bit < 4) : (bootWord bit q).field i 1 = if i = bit then 1 else 0 := by
  rw [bootWord, Word.field_ofN _ _ _ (by omega)]
  interval_cases i <;> interval_cases bit <;> simp <;> omega
theorem bootWord_quick {bit q : Nat} (hb : bit < 4) (hq : q < 2) : (bootWord bit q).field 4 1 = q := by
  rw [bootWord, Word.field_ofN _ _ _ (by decide)]
  interval_cases bit <;> simp <;> omega

theorem frame_quickKept : frame s (quickKept s) [] (fun _ => False) := by
  refine ⟨fun p _ => by cases p <;> rfl, fun a _ => ?_, rfl⟩
  by_cases h : a = HUB_BOOT_CTL.SOD_QUICK.a
  · rw [h, quickKept, reg_wf_self]
    exact Word.withField_field _ _ _ (by decide)
  · exact reg_wf_ne s _ _ _ h
theorem quick_quickKept : (quickKept s).rf HUB_BOOT_CTL.SOD_QUICK = s.rf HUB_BOOT_CTL.SOD_QUICK := rf_of_frame frame_quickKept not_false

theorem writeBootCtl_quick {bit : Nat} (hb : bit < 4) :
    s.wf HUB_BOOT_CTL.SOD_QUICK ((bootWord bit (s.rf HUB_BOOT_CTL.SOD_QUICK)).field 4 1) = quickKept s := by
  rw [bootWord_quick hb (rf_lt HUB_BOOT_CTL.SOD_QUICK), quickKept]
/-- A write of HUB_BOOT_CTL that asks for one command does that command alone, SOD_QUICK written first. -/
theorem writeBootCtl_reset {v : Word} (h : v.field 0 1 = 1) :
    s.writeBootCtl src v = (s.wf HUB_BOOT_CTL.SOD_QUICK (v.field 4 1)).startCamp0 := by
  unfold writeBootCtl
  extract_lets
  exact if_pos h
theorem writeBootCtl_commit {v : Word} (h0 : v.field 0 1 ≠ 1) (h1 : v.field 1 1 = 1) (h2 : v.field 2 1 ≠ 1) (h3 : v.field 3 1 ≠ 1) :
    s.writeBootCtl src v = (s.wf HUB_BOOT_CTL.SOD_QUICK (v.field 4 1)).commit := by
  unfold writeBootCtl
  extract_lets s1 s2 s3
  exact (if_neg h0).trans ((if_neg h3).trans ((if_neg h2 : s3 = s2).trans (if_pos h1)))
theorem writeBootCtl_lock {v : Word} (h0 : v.field 0 1 ≠ 1) (h1 : v.field 1 1 ≠ 1) (h2 : v.field 2 1 = 1) (h3 : v.field 3 1 ≠ 1) :
    s.writeBootCtl src v = (s.wf HUB_BOOT_CTL.SOD_QUICK (v.field 4 1)).lockTables := by
  unfold writeBootCtl
  extract_lets s1 s2 s3
  exact (if_neg h0).trans ((if_neg h3).trans ((if_pos h2 : s3 = s2.lockTables).trans (congrArg lockTables (if_neg h1 : s2 = s1))))
theorem writeBootCtl_burn {v : Word} (h0 : v.field 0 1 ≠ 1) (h1 : v.field 1 1 ≠ 1) (h2 : v.field 2 1 ≠ 1) (h3 : v.field 3 1 = 1) :
    s.writeBootCtl src v = (s.wf HUB_BOOT_CTL.SOD_QUICK (v.field 4 1)).burnSvn src := by
  unfold writeBootCtl
  extract_lets s1 s2 s3
  exact (if_neg h0).trans ((if_pos h3).trans (congrArg (burnSvn · src) ((if_neg h2 : s3 = s2).trans (if_neg h1 : s2 = s1))))

/-- HUB_BOOT_CTL written with the bit of one command: that command alone is run. -/
theorem bootCmd_reset : s.writeBootCtl src (bootWord 0 (s.rf HUB_BOOT_CTL.SOD_QUICK)) = (quickKept s).startCamp0 := by
  rw [writeBootCtl_reset (by simp [bootWord_bit]), writeBootCtl_quick (by decide)]
theorem bootCmd_commit : s.writeBootCtl src (bootWord 1 (s.rf HUB_BOOT_CTL.SOD_QUICK)) = (quickKept s).commit := by
  rw [writeBootCtl_commit (by simp [bootWord_bit]) (by simp [bootWord_bit]) (by simp [bootWord_bit]) (by simp [bootWord_bit]),
    writeBootCtl_quick (by decide)]
theorem bootCmd_lock : s.writeBootCtl src (bootWord 2 (s.rf HUB_BOOT_CTL.SOD_QUICK)) = (quickKept s).lockTables := by
  rw [writeBootCtl_lock (by simp [bootWord_bit]) (by simp [bootWord_bit]) (by simp [bootWord_bit]) (by simp [bootWord_bit]),
    writeBootCtl_quick (by decide)]
theorem bootCmd_burn : s.writeBootCtl src (bootWord 3 (s.rf HUB_BOOT_CTL.SOD_QUICK)) = (quickKept s).burnSvn src := by
  rw [writeBootCtl_burn (by simp [bootWord_bit]) (by simp [bootWord_bit]) (by simp [bootWord_bit]) (by simp [bootWord_bit]),
    writeBootCtl_quick (by decide)]

/-- BURN_SVN once Camp 6 is done takes MIN_SVN up to the running image's version, and before it is no access (R495). -/
theorem burnSvn_done (h : s.campState = 3) :
    (s.burnSvn src).boot = { s.boot with minSvn := s.rf HUB_BOOT_IMAGE.SVN } ∧
    (s.burnSvn src).rf HUB_BOOT_IMAGE.MIN_SVN = s.rf HUB_BOOT_IMAGE.SVN ∧
    frame s (s.burnSvn src) [.boot] (fun a => a = HUB_BOOT_IMAGE.a) := by
  have burnt : s.burnSvn src = (s.withBoot { s.boot with minSvn := s.rf HUB_BOOT_IMAGE.SVN }).wf HUB_BOOT_IMAGE.MIN_SVN (s.rf HUB_BOOT_IMAGE.SVN) :=
    if_neg (by simp [h])
  rw [burnt]
  exact ⟨rfl, rf_wf_fits (by decide) (rf_lt HUB_BOOT_IMAGE.SVN), frame_trans (frame_withBoot _ (by decide)) (frame_wf _ _ rfl)⟩
theorem burnSvn_early (h : s.campState ≠ 3) : s.burnSvn src = s.hacc src 0 HUB_BOOT_CTL.a true stNOT_READY := if_pos (by simpa using h)

/-! ## The lasers -/

theorem foldl_same {α β : Type} {f : α → β → α} {a : α} {l : List β} (h : ∀ b ∈ l, f a b = a) : l.foldl f a = a := by
  induction l with
  | nil => rfl
  | cons b l ih =>
    rw [List.foldl_cons, h b List.mem_cons_self]
    exact ih fun c hc => h c (List.mem_cons_of_mem _ hc)

/-- Lasers put out take down the links that were up, and nothing more (R524). -/
theorem lasersOff_down (h : ∀ m ∈ s.boot.lasers, ∀ P ∈ diePorts m, s.belayUp P = false) :
    s.lasersOff = s.withBoot { s.boot with lasers := [] } := by
  refine foldl_same fun P hP => ?_
  obtain ⟨m, hm, hP⟩ := List.mem_flatMap.mp hP
  exact if_neg fun up => absurd ((h m hm P hP).symm.trans up) (by decide)

theorem campLasers_none {l : LaserUp} (h : l.ports = []) :
    s.campLasers l = (s.withBoot { s.boot with lasers := answering l.modules, campNs := 0 }).wf HUB_CAMP_STS.STATE 0 := by
  rw [campLasers, h]
  rfl
end State
open State
variable {s : State} {src : Src}

/-- A command refused in a state that differs in nothing one can read. -/
theorem turnedAway_same {c : Instr} {t : State} {a st : Nat} (h : s.frame t [] (fun _ => False)) (ha : a < 2 ^ 26) (hs : st < 2 ^ 8)
    (hc : exec c s = .next (t.hacc src 0 a true st)) : turnedAway c s src a st := by
  refine ⟨_, hc, ?_, fun hv => ?_, frame_trans (frame_mono h (by simp) fun _ => False.elim) (recorded_hacc ..)⟩
  · rw [reg_hacc_count, h.2.1 _ not_false]
  · obtain ⟨valid, offset, status, write, -, source⟩ := hacc_latches src 0 a true st ((rb_of_frame h not_false).trans hv) ha hs (by decide)
    exact ⟨valid, offset, status, write, source⟩

theorem runs_bootCmd {c : Instr} {bit : Nat} {u : State} {Q : State → Prop} (hu : awake s) (ho : s.opens src HUB_BOOT_CTL.a)
    (he : exec c s = unheld s (s.bootCmd src bit)) (hb : s.writeBootCtl src (bootWord bit (s.rf HUB_BOOT_CTL.SOD_QUICK)) = u) (h : Q u) :
    runs c s Q :=
  runs_write hu ho he (by rw [← hb] at h; exact h)

theorem laserEnRise_waits (hu : awake s) (h5 : s.campNow = 5) (h1 : s.campState = 1) (l : LaserUp) :
    exec (.laserEnRise l) s = .next ((s.withBoot { s.boot with laserEn := true }).campLasers l) := by
  refine congrArg Host.Outcome.next (if_pos ?_)
  rw [h5, h1, hu]
  rfl
theorem laserEnRise_else (h5 : s.campNow ≠ 5) (l : LaserUp) : exec (.laserEnRise l) s = .next (s.withBoot { s.boot with laserEn := true }) := by
  refine congrArg Host.Outcome.next (if_neg ?_)
  simp [h5]

/-! ## The tokens of JTAG -/

theorem jtagToken_tried {v : Word} (hr : s.rf (HUB_CAMP_RPT.STATUS 1) ≠ 0) (ht : s.rf HUB_JTAG_STS.TRIES < 3) :
    s.writeJtagToken v = if Config.tokenOk v then s.withBoot { s.boot with jtagKeep := true } else s.satInc HUB_JTAG_STS.TRIES 1 :=
  if_neg (by simp [campOk, hr, Nat.ne_of_lt ht])
theorem jtagToken_spent {v : Word} (ht : s.rf HUB_JTAG_STS.TRIES = 3) : s.writeJtagToken v = s := if_pos (by simp [ht])

theorem tries_counted (ht : s.rf HUB_JTAG_STS.TRIES < 3) :
    (s.satInc HUB_JTAG_STS.TRIES 1).rf HUB_JTAG_STS.TRIES = s.rf HUB_JTAG_STS.TRIES + 1 := by
  have below : min (2 ^ HUB_JTAG_STS.TRIES.w - 1) (s.rf HUB_JTAG_STS.TRIES + 1) = s.rf HUB_JTAG_STS.TRIES + 1 :=
    Nat.min_eq_right (by change _ ≤ 3; omega)
  rw [satInc, below]
  exact rf_wf_fits (by decide) (by change _ < 4; omega)

/-- Settles O49: a start of Camp 0 is the blank state but for what flash, fuses and pins hold, and each other command is its one write. -/
theorem resetAndStart : Obligations.ResetAndStart := by
  unfold Obligations.ResetAndStart
  refine fun s src => ⟨fun hn => ⟨fun hp ht => ?_, fun hp => ?_⟩, fun hp => ?_, fun hu ho => ⟨?_, fun h3 => ?_, fun h3 => ?_⟩,
    fun hu l => ⟨fun h5 h1 hl => ?_, fun h5 => ?_, fun hl => ?_⟩, fun v hu ho => ⟨fun hr ht => ?_, fun ht => ?_⟩⟩
  · have risen : s.perstRise = (s.withBoot { s.boot with perst := true }).startCamp0 := by simp [perstRise, hn, hp, ht, withBoot]
    refine ⟨_, congrArg Host.Outcome.next risen, ?_⟩
    obtain ⟨held, camp, state, mem, fwd⟩ := startCamp0_starts (s := s.withBoot { s.boot with perst := true })
    have kept := frame_startCamp0 (s := s.withBoot { s.boot with perst := true })
    obtain ⟨svn, log, defects, perst, -⟩ := startCamp0_keeps (s := s.withBoot { s.boot with perst := true })
    exact ⟨perst, held, camp, state, mem, kept.1 .ports (by decide), fwd, kept.1 .comp (by decide),
      congrArg RopeSt.ctxs (kept.1 .rope (by decide)), kept.1 .gate (by decide), svn, log, defects, quick_startCamp0, starts_startCamp0, kept.2.2⟩
  · exact ⟨_, rfl, by simp [perstRise, hn, hp, withBoot]⟩
  · exact ⟨_, rfl, by simp [perstRise, hp]⟩
  · refine runs_bootCmd hu ho rfl bootCmd_reset ?_
    obtain ⟨held, camp, state, mem, fwd⟩ := startCamp0_starts (s := quickKept s)
    obtain ⟨svn, log, -, perst, pwrgd⟩ := startCamp0_keeps (s := quickKept s)
    exact ⟨held, camp, state, mem, fwd, svn, log, perst, pwrgd, quick_startCamp0.trans quick_quickKept, starts_startCamp0⟩
  · refine runs_bootCmd hu ho rfl bootCmd_burn ?_
    have svn : (quickKept s).rf HUB_BOOT_IMAGE.SVN = s.rf HUB_BOOT_IMAGE.SVN := rf_of_frame frame_quickKept not_false
    obtain ⟨boot, min, keeps⟩ := burnSvn_done (s := quickKept s) (src := src) ((rf_of_frame frame_quickKept not_false).trans h3)
    rw [svn] at boot min
    exact ⟨boot, min, frame_trans (frame_mono frame_quickKept (by simp) fun _ => False.elim) (frame_mono keeps (fun _ => id) fun _ => .inl)⟩
  · refine turnedAway_same frame_quickKept (by decide) (by decide) ?_
    rw [show exec (.burnSvn src) s = unheld s (s.bootCmd src 3) from rfl, unheld, hu, if_neg Bool.false_ne_true, bootCmd,
      guardWrite_opens hu ho]
    exact congrArg Host.Outcome.next (bootCmd_burn.trans (burnSvn_early fun h => h3 ((rf_of_frame frame_quickKept not_false).symm.trans h)))
  · refine ⟨_, laserEnRise_waits hu h5 h1 l, ?_⟩
    rw [campLasers_none hl]
    refine ⟨rfl, rf_wf_fits (by decide) (by decide), (rf_wf_apart _ (by decide)).trans h5,
      frame_trans (frame_withBoot _ (by decide)) (frame_trans (frame_withBoot _ (by decide)) (frame_wf _ _ rfl))⟩
  · exact ⟨_, laserEnRise_else h5 l, rfl⟩
  · exact ⟨_, rfl, lasersOff_down hl⟩
  · refine runs_write hu ho rfl ?_
    rw [jtagToken_tried hr ht]
    refine ⟨fun h => if_pos h, fun h => ?_⟩
    rw [if_neg (by simp [h])]
    exact ⟨tries_counted ht, frame_satInc _ _ rfl⟩
  · exact runs_write hu ho rfl (jtagToken_spent ht)
end Sys2Proof.Machine
end

section
/-! PROOF. COMMIT and LOCK of HUB_BOOT_CTL in Camp 6, and how a camp stops (R502, R503, R505, R509). -/
namespace Sys2Proof.Machine
namespace State
variable {s t : State}

/-! ## A camp's report and its stop -/

/-- The registers Cairn's records count in. -/
abbrev cairnReg (a : Nat) : Prop := 0x340000 ≤ a ∧ a < 0x3C0000

theorem frame_cairnRec (kind time : Nat) (body : List Byte) : frame s (s.cairnRec kind time body) [.sticky, .cairn] cairnReg := by
  simp only [cairnRec]
  split
  · exact frame_trans (frame_inc (rg := cairnReg) CRN_CNT_DROP.V (by decide) (by decide)) (frame_inc (CRN_LIFE.V 17) (by decide) (by decide))
  · exact frame_trans (frame_withCairn _ (by decide)) (frame_wf CRN_STS.BUF _ (by decide))

/-- The five fields of the report of camp `c`. -/
def reported (s : State) (c status reason detail new : Nat) : State :=
  let s1 := ((s.wf (HUB_CAMP_RPT.STATUS c) status).wf (HUB_CAMP_RPT.REASON c) reason).wf (HUB_CAMP_RPT.DETAIL c) detail
  (s1.wf (HUB_CAMP_RPT.DURATION_US c) (min 0xFFFFFF (s.boot.campNs / 1000))).wf (HUB_CAMP_RPT.NEW_DEFECTS c) (min 4095 new)
theorem frame_reported {c status reason detail new : Nat} :
    frame s (s.reported c status reason detail new) [] (fun a => a = HUB_CAMP_RPT.a c) :=
  frame_trans (frame_wf _ _ rfl) (frame_trans (frame_wf _ _ rfl) (frame_trans (frame_wf _ _ rfl)
    (frame_trans (frame_wf _ _ rfl) (frame_wf _ _ rfl))))
theorem reported_shows {c status reason detail new : Nat} (h1 : status < 2 ^ 8) (h2 : reason < 2 ^ 8) (h3 : detail < 2 ^ 12) :
    (s.reported c status reason detail new).rf (HUB_CAMP_RPT.STATUS c) = status ∧
    (s.reported c status reason detail new).rf (HUB_CAMP_RPT.REASON c) = reason ∧
    (s.reported c status reason detail new).rf (HUB_CAMP_RPT.DETAIL c) = detail := by
  have fields {lo w lo' w' : Nat} (h : lo' + w' ≤ 64 ∧ (lo + w ≤ lo' ∨ lo' + w' ≤ lo)) :
      apart ⟨HUB_CAMP_RPT.a c, lo', w'⟩ ⟨HUB_CAMP_RPT.a c, lo, w⟩ := .inr h
  refine ⟨?_, ?_, ?_⟩
  · exact (rf_wf_apart _ (fields (by decide))).trans ((rf_wf_apart _ (fields (by decide))).trans ((rf_wf_apart _ (fields (by decide))).trans
      ((rf_wf_apart _ (fields (by decide))).trans (rf_wf_fits (by show 0 + 8 ≤ 64; decide) h1))))
  · exact (rf_wf_apart _ (fields (by decide))).trans ((rf_wf_apart _ (fields (by decide))).trans ((rf_wf_apart _ (fields (by decide))).trans
      (rf_wf_fits (by show 8 + 8 ≤ 64; decide) h2)))
  · exact (rf_wf_apart _ (fields (by decide))).trans ((rf_wf_apart _ (fields (by decide))).trans (rf_wf_fits (by show 40 + 12 ≤ 64; decide) h3))

/-- The report is written, and from Camp 2 on recorded in Cairn. -/
theorem frame_campReport_reported {c status reason detail new : Nat} :
    frame (s.reported c status reason detail new) (s.campReport c status reason detail new) [.sticky, .cairn] cairnReg := by
  unfold campReport reported
  split
  · exact frame_cairnRec ..
  · exact frame_refl ..
theorem not_cairnReg_camp {c : Nat} (h : c < 8) : ¬ cairnReg (HUB_CAMP_RPT.a c) := by
  unfold cairnReg HUB_CAMP_RPT.a
  omega
theorem frame_campReport {c status reason detail new : Nat} :
    frame s (s.campReport c status reason detail new) [.sticky, .cairn] (fun a => a = HUB_CAMP_RPT.a c ∨ cairnReg a) :=
  frame_trans (frame_mono frame_reported (by simp) fun _ => .inl) (frame_mono frame_campReport_reported (fun _ => id) fun _ => .inr)
theorem campReport_shows {c status reason detail new : Nat} (hc : c < 8) (h1 : status < 2 ^ 8) (h2 : reason < 2 ^ 8) (h3 : detail < 2 ^ 12) :
    (s.campReport c status reason detail new).rf (HUB_CAMP_RPT.STATUS c) = status ∧
    (s.campReport c status reason detail new).rf (HUB_CAMP_RPT.REASON c) = reason ∧
    (s.campReport c status reason detail new).rf (HUB_CAMP_RPT.DETAIL c) = detail := by
  obtain ⟨st, re, de⟩ := reported_shows (s := s) (c := c) (new := new) h1 h2 h3
  have kept (x : Rf) (hx : x.a = HUB_CAMP_RPT.a c) :
      (s.campReport c status reason detail new).rf x = (s.reported c status reason detail new).rf x :=
    rf_of_frame frame_campReport_reported (hx ▸ not_cairnReg_camp hc)
  exact ⟨(kept _ rfl).trans st, (kept _ rfl).trans re, (kept _ rfl).trans de⟩

theorem campNow_lt : s.campNow < 8 := rf_lt HUB_CAMP_STS.CAMP

/-- A camp that is stopped shows why in its status and its report, asserts FAULT_N and is committed no more (R493). -/
theorem campStop_stopped {u : State} (hu : s.campNow = u.campNow) {status reason detail new : Nat} (h1 : status < 2 ^ 8) (h2 : reason < 2 ^ 8)
    (h3 : detail < 2 ^ 12) : u.stopped (s.campStop status reason detail new) status reason detail := by
  unfold campStop
  extract_lets c s1 _ s2
  have status1 : s1.rf HUB_CAMP_STS.STATUS = status :=
    (rf_wf_apart _ (by decide)).trans ((rf_wf_apart _ (by decide)).trans (rf_wf_fits (by decide) h1))
  have reason1 : s1.rf HUB_CAMP_STS.REASON = reason := (rf_wf_apart _ (by decide)).trans (rf_wf_fits (by decide) h2)
  have detail1 : s1.rf HUB_CAMP_STS.DETAIL = detail := rf_wf_fits (by decide) h3
  have state1 : s1.campState = 2 :=
    (rf_wf_apart _ (by decide)).trans ((rf_wf_apart _ (by decide)).trans ((rf_wf_apart _ (by decide)).trans (rf_wf_fits (by decide) (by decide))))
  have camp1 : s1.campNow = c :=
    (rf_wf_apart _ (by decide)).trans ((rf_wf_apart _ (by decide)).trans ((rf_wf_apart _ (by decide)).trans (rf_wf_apart _ (by decide))))
  have faultN2 : s2.rf HUB_FAULT_STS.FAULT_N = 1 := (rf_withBoot _ _).trans (rf_wf_fits (by decide) (by decide))
  have boot2 : s2.boot.smbAlert = true ∧ s2.boot.committed = false := ⟨rfl, rfl⟩
  have kept2 : frame s1 s2 [.boot] (fun a => a = HUB_FAULT_STS.a) :=
    frame_trans (frame_withBoot _ (by decide)) (frame_trans (frame_wf _ _ rfl) (frame_withBoot _ (by decide)))
  have counted : frame s2 (s2.lifeInc 4) [.sticky] cairnReg := frame_inc (CRN_LIFE.V 4) (by decide) (by decide)
  clear_value s1 s2
  have reported := frame_trans (frame_mono counted (ch' := [.sticky, .cairn]) (by simp) fun _ => Or.inr)
    (frame_campReport (s := s2.lifeInc 4) (c := c) (status := status) (reason := reason) (detail := detail) (new := new))
  obtain ⟨st, re, de⟩ := campReport_shows (s := s2.lifeInc 4) (c := c) (new := new) campNow_lt h1 h2 h3
  have hub (x : Rf) (hx : x.a = HUB_CAMP_STS.a) : ((s2.lifeInc 4).campReport c status reason detail new).rf x = s1.rf x := by
    refine (rf_of_frame reported ?_).trans (rf_of_frame kept2 (by rw [hx]; decide))
    rw [hx]
    unfold HUB_CAMP_STS.a HUB_CAMP_RPT.a cairnReg
    omega
  have faultN := rf_of_frame reported (x := HUB_FAULT_STS.FAULT_N) (by
    have below : c < 8 := campNow_lt
    change ¬ (HUB_FAULT_STS.a = HUB_CAMP_RPT.a c ∨ cairnReg HUB_FAULT_STS.a)
    unfold HUB_FAULT_STS.a HUB_CAMP_RPT.a cairnReg
    omega)
  have boot : ((s2.lifeInc 4).campReport c status reason detail new).boot = s2.boot := reported.1 .boot (by decide)
  refine ⟨(hub _ rfl).trans (camp1.trans hu), (hub _ rfl).trans state1, (hub _ rfl).trans status1, (hub _ rfl).trans reason1,
    (hub _ rfl).trans detail1, hu ▸ st, hu ▸ re, hu ▸ de, faultN.trans faultN2, ?_, ?_⟩
  · rw [boot, boot2.1]
  · rw [boot, boot2.2]
/-! ## COMMIT (R502, R503) -/

theorem joinFault_of_frame {ch : List Part} {rg : Nat → Prop} (h : frame s t ch rg) (hn : ¬ rg HUB_JOIN0.a) : t.joinFault = s.joinFault := by
  unfold joinFault
  rw [rf_of_frame h (x := HUB_JOIN0.A) hn, rf_of_frame h (x := HUB_JOIN0.B) hn, rf_of_frame h (x := HUB_JOIN0.C) hn,
    rf_of_frame h (x := HUB_JOIN0.INDEX) hn, rf_of_frame h (x := HUB_JOIN0.PLANE_ID) hn]
theorem joinFault_lt {f : Nat} (h : s.joinFault = some f) : f < 6 := by
  unfold joinFault at h
  extract_lets bad at h
  split_ifs at h <;> cases h <;> decide
theorem campNow_atCamp6 (h : s.atCamp6 = true) : s.campNow = 6 := by
  simp only [atCamp6, Bool.and_eq_true, beq_iff_eq] at h
  exact h.1
theorem belayUp_of_frame {ch : List Part} {rg : Nat → Prop} {P : Nat} (h : frame s t ch rg) (hn : ¬ rg (PRT_PORT_STS.a P)) :
    t.belayUp P = s.belayUp P := by
  rw [belayUp, belayUp, pstate, pstate, rf_of_frame h (x := PRT_PORT_STS.STATE P) hn]

theorem port_not_camp (P : Nat) : PRT_PORT_STS.a P ≠ HUB_CAMP_STS.a := by
  unfold PRT_PORT_STS.a portBase HUB_CAMP_STS.a
  split <;> omega
theorem port_not_plane (P : Nat) : PRT_PORT_STS.a P ≠ HUB_PLANE.a := by
  unfold PRT_PORT_STS.a portBase HUB_PLANE.a
  split <;> omega
theorem foldl_filter_none {α β : Type} {f : α → β → α} {a : α} {l : List β} {p : β → Bool} (h : ∀ b ∈ l, p b = false) :
    (l.filter p).foldl f a = a := by
  rw [List.filter_eq_nil_iff.mpr fun b hb => by simp [h b hb]]
  rfl

/-- The class that is looked for is any, or the device's own. -/
abbrev classFits (s : State) : Prop := s.rb HUB_JOIN1.EQUIV_ANY = true ∨ s.rf HUB_JOIN1.EQUIV_EXPECT = s.rf HUB_EQUIV_CLASS.CODE

theorem commit_else (h : s.atCamp6 = false) : s.commit = s := if_pos (by simp [h])

/-- The word COMMIT makes of a join record. -/
def planeWord (j : Word) : Word := Word.ofN (j.field 0 32 + j.field 41 6 * 2 ^ 32 + j.field 32 9 * 2 ^ 38 + j.field 47 2 * 2 ^ 47 + 2 ^ 49)
theorem packed_fields {p i m f : Nat} (hp : p < 2 ^ 32) (hi : i < 2 ^ 6) (hm : m < 2 ^ 9) (hf : f < 2 ^ 2) :
    let w := Word.ofN (p + i * 2 ^ 32 + m * 2 ^ 38 + f * 2 ^ 47 + 2 ^ 49)
    w.field 0 32 = p ∧ w.field 32 6 = i ∧ w.field 38 3 = m % 8 ∧ w.field 41 3 = m / 8 % 8 ∧ w.field 44 3 = m / 64 ∧ w.field 47 2 = f ∧
    w.field 49 1 = 1 ∧ w.field 50 1 = 0 := by
  intro w
  refine ⟨?_, ?_, ?_, ?_, ?_, ?_, ?_, ?_⟩ <;> (rw [Word.field_ofN _ _ _ (by decide)]; omega)
theorem planeWord_fields (j : Word) :
    (planeWord j).field 0 32 = j.field 0 32 ∧ (planeWord j).field 32 6 = j.field 41 6 ∧ (planeWord j).field 38 3 = j.field 32 3 ∧
    (planeWord j).field 41 3 = j.field 35 3 ∧ (planeWord j).field 44 3 = j.field 38 3 ∧ (planeWord j).field 47 2 = j.field 47 2 ∧
    (planeWord j).field 49 1 = 1 ∧ (planeWord j).field 50 1 = 0 := by
  have below (lo n : Nat) : j.field lo n < 2 ^ n := Nat.mod_lt _ (Nat.two_pow_pos n)
  have a : j.field 32 3 = j.field 32 9 % 8 := by simp only [Word.field]; omega
  have b : j.field 35 3 = j.field 32 9 / 8 % 8 := by simp only [Word.field]; omega
  have c : j.field 38 3 = j.field 32 9 / 64 := by simp only [Word.field]; omega
  rw [a, b, c]
  exact packed_fields (below 0 32) (below 41 6) (below 32 9) (below 47 2)
/-- The state COMMIT leaves where the record is in order and no port is up. -/
abbrev joined (s : State) : State := (s.setReg HUB_PLANE.a (planeWord (s.reg HUB_JOIN0.a))).withBoot { s.boot with committed := true }
theorem frame_joined : frame s s.joined [.boot] (fun a => a = HUB_PLANE.a) := frame_trans (frame_setReg _ _ rfl) (frame_withBoot _ (by decide))

/-- What COMMIT does once Camp 6 counts anew, as state `u`: a property of the three ways it ends is one of COMMIT. -/
theorem commit_ends {Q : State → Prop} (h6 : s.atCamp6 = true)
    (h : ∀ u : State, frame s u [.boot] (fun a => a = HUB_CAMP_STS.a) → u.campNow = 6 → u.campState = 0 →
      (∀ f, u.joinFault = some f → Q (u.campStop stREJECT 13 f 0)) ∧
      (u.joinFault = none → ¬ classFits u → Q (u.campStop stREJECT 14 0 0)) ∧
      (u.joinFault = none → classFits u → (∀ P, P < 1152 → u.belayUp P = false) ∧ Q u.joined)) : Q s.commit := by
  unfold commit
  rw [if_neg (by simp [h6])]
  extract_lets +onlyGivenNames s0
  have frame1 : frame s (s0.withBoot { s0.boot with campNs := 0, committed := false }) [.boot] (fun a => a = HUB_CAMP_STS.a) :=
    frame_trans (frame_wf _ _ rfl) (frame_trans (frame_wf _ _ rfl) (frame_trans (frame_wf _ _ rfl) (frame_trans (frame_wf _ _ rfl)
      (frame_withBoot _ (by decide)))))
  have camp1 : (s0.withBoot { s0.boot with campNs := 0, committed := false }).campNow = 6 :=
    (rf_withBoot _ _).trans ((rf_wf_apart _ (by decide)).trans ((rf_wf_apart _ (by decide)).trans ((rf_wf_apart _ (by decide)).trans
      ((rf_wf_apart _ (by decide)).trans (campNow_atCamp6 h6)))))
  have state1 : (s0.withBoot { s0.boot with campNs := 0, committed := false }).campState = 0 :=
    (rf_withBoot _ _).trans ((rf_wf_apart _ (by decide)).trans ((rf_wf_apart _ (by decide)).trans ((rf_wf_apart _ (by decide)).trans
      (rf_wf_fits (by decide) (by decide)))))
  generalize s0.withBoot { s0.boot with campNs := 0, committed := false } = u at frame1 camp1 state1 ⊢
  obtain ⟨unfit, other, joined⟩ := h u frame1 camp1 state1
  extract_lets +onlyGivenNames _
  split
  next f hf => exact unfit f hf
  next hf =>
    split_ifs with hc
    · exact other hf (by simpa [classFits] using hc)
    · obtain ⟨down, ends⟩ := joined hf (by simpa [classFits, imp_iff_not_or] using hc)
      rw [foldl_filter_none]
      · exact ends
      · intro P hP
        have dark : u.joined.belayUp P = false :=
          (belayUp_of_frame frame_joined (port_not_plane P)).trans (down P (List.mem_range.mp hP))
        exact Bool.and_eq_false_iff.mpr (.inl dark)

/-! ## LOCK (R505) -/

theorem lockTables_else (h : s.atCamp6 = false) : s.lockTables = s := if_pos (by simp [h])
theorem lockTables_unmet {d : Nat} (h6 : s.atCamp6 = true) (h : s.lockFault = some d) : s.lockTables = s.campStop stNOT_READY 15 d 0 := by
  unfold lockTables
  rw [if_neg (by simp [h6]), h]
/-- FAULT_N released where the device is NORMAL. -/
def faultNReleased (s : State) : State := if s.rf HUB_FAULT_STS.DEV_STATE = 0 then s.wf HUB_FAULT_STS.FAULT_N 0 else s
theorem frame_faultNReleased : frame s s.faultNReleased [] (fun a => a = HUB_FAULT_STS.a) := by
  unfold faultNReleased
  split
  · exact frame_wf _ _ rfl
  · exact frame_refl ..
theorem faultN_faultNReleased : s.faultNReleased.rf HUB_FAULT_STS.FAULT_N = if s.devState = 0 then 0 else s.rf HUB_FAULT_STS.FAULT_N := by
  unfold faultNReleased devState
  split
  · exact rf_wf_fits (by decide) (by decide)
  · rfl

theorem lockTables_met (h6 : s.atCamp6 = true) (h : s.lockFault = none) :
    s.lockTables.campState = 3 ∧ s.lockTables.campNow = 6 ∧ s.lockTables.rb HUB_PLANE.LOCKED = true ∧
    s.lockTables.rf HUB_FAULT_STS.FAULT_N = (if s.devState = 0 then 0 else s.rf HUB_FAULT_STS.FAULT_N) ∧
    s.lockTables.rf (HUB_CAMP_RPT.STATUS 6) = 0 ∧ s.lockTables.boot = s.boot := by
  unfold lockTables
  rw [if_neg (by simp [h6]), h]
  extract_lets s1
  have frame1 : frame s s1 [] (fun a => a = HUB_CAMP_STS.a ∨ a = HUB_PLANE.a) := frame_trans (frame_wf _ _ (.inl rfl)) (frame_wf _ _ (.inr rfl))
  have state1 : s1.campState = 3 := (rf_wf_apart _ (by decide)).trans (rf_wf_fits (by decide) (by decide))
  have camp1 : s1.campNow = 6 := (rf_wf_apart _ (by decide)).trans ((rf_wf_apart _ (by decide)).trans (campNow_atCamp6 h6))
  have locked1 : s1.rf HUB_PLANE.LOCKED = 1 := rf_wf_fits (by decide) (by decide)
  have dev1 : s1.rf HUB_FAULT_STS.DEV_STATE = s.devState := rf_of_frame frame1 (by decide)
  have faultN1 : s1.rf HUB_FAULT_STS.FAULT_N = s.rf HUB_FAULT_STS.FAULT_N := rf_of_frame frame1 (by decide)
  clear_value s1
  rw [show (if s1.rf HUB_FAULT_STS.DEV_STATE = 0 then s1.wf HUB_FAULT_STS.FAULT_N 0 else s1) = s1.faultNReleased from rfl]
  have faultN2 := faultN_faultNReleased (s := s1)
  have frame2 := frame_faultNReleased (s := s1)
  rw [show s1.devState = s.devState from dev1, faultN1] at faultN2
  generalize s1.faultNReleased = s2 at faultN2 frame2 ⊢
  obtain ⟨status, -, -⟩ := campReport_shows (s := s2) (c := 6) (status := stOK) (reason := 0) (detail := 0) (new := 0) (by decide) (by decide)
    (by decide) (by decide)
  have reported := frame_campReport (s := s2) (c := 6) (status := stOK) (reason := 0) (detail := 0) (new := 0)
  have kept (x : Rf) (hx : ¬ (x.a = HUB_CAMP_RPT.a 6 ∨ cairnReg x.a)) (hf : x.a ≠ HUB_FAULT_STS.a) :
      (s2.campReport 6 stOK 0 0 0).rf x = s1.rf x := (rf_of_frame reported hx).trans (rf_of_frame frame2 hf)
  have boot : (s2.campReport 6 stOK 0 0 0).boot = s2.boot := reported.1 .boot (by decide)
  have boot2 : s2.boot = s1.boot := frame2.1 .boot (by decide)
  refine ⟨(kept HUB_CAMP_STS.STATE (by decide) (by decide)).trans state1, (kept HUB_CAMP_STS.CAMP (by decide) (by decide)).trans camp1, ?_,
    (rf_of_frame reported (by decide)).trans faultN2, status, boot.trans (boot2.trans (frame1.1 .boot (by decide)))⟩
  rw [rb, kept HUB_PLANE.LOCKED (by decide) (by decide), locked1]
  rfl
end State
open State
variable {s : State} {src : Src}

theorem classFits_of_frame {t : State} {ch : List State.Part} {rg : Nat → Prop} (h : s.frame t ch rg) (h1 : ¬ rg HUB_JOIN1.a)
    (h2 : ¬ rg HUB_EQUIV_CLASS.a) : classFits t ↔ classFits s := by
  unfold classFits
  rw [rb_of_frame h (x := HUB_JOIN1.EQUIV_ANY) h1, rf_of_frame h (x := HUB_JOIN1.EQUIV_EXPECT) h1, rf_of_frame h (x := HUB_EQUIV_CLASS.CODE) h2]

/-- From `s` to `t` the fields of the join record were copied into HUB_PLANE, and Camp 6 runs on. -/
def joinCopied (s t : State) : Prop :=
  t.rf HUB_PLANE.PLANE_ID = s.rf HUB_JOIN0.PLANE_ID ∧ t.rf HUB_PLANE.INDEX = s.rf HUB_JOIN0.INDEX ∧
  t.rf HUB_PLANE.A = s.rf HUB_JOIN0.A ∧ t.rf HUB_PLANE.B = s.rf HUB_JOIN0.B ∧ t.rf HUB_PLANE.C = s.rf HUB_JOIN0.C ∧
  t.rf HUB_PLANE.FPLANE = s.rf HUB_JOIN0.FPLANE ∧ t.rb HUB_PLANE.COMMITTED = true ∧ t.rb HUB_PLANE.LOCKED = false ∧
  t.boot.committed = true ∧ t.campState = 0 ∧ s.frame t [.boot] (fun a => a = HUB_PLANE.a ∨ a = HUB_CAMP_STS.a ∨ a = HUB_BOOT_CTL.a)

/-- COMMIT of a record that is in order, with no port up, copies its fields into HUB_PLANE. -/
theorem commit_joins (h6 : s.atCamp6 = true) (hn : s.joinFault = none) (hc : classFits s) (down : ∀ P, P < 1152 → s.belayUp P = false) :
    joinCopied s s.commit := by
  refine commit_ends (Q := joinCopied s) h6 fun u hu _ hst => ⟨fun f hf => ?_, fun _ ho => ?_, fun _ _ => ⟨fun P hP => ?_, ?_⟩⟩
  · rw [joinFault_of_frame hu (by decide), hn] at hf
    cases hf
  · exact absurd ((classFits_of_frame hu (by decide) (by decide)).mpr hc) ho
  · rw [belayUp_of_frame hu (port_not_camp P), down P hP]
  · have plane (lo n : Nat) : u.joined.rf ⟨HUB_PLANE.a, lo, n⟩ = (planeWord (s.reg HUB_JOIN0.a)).field lo n := by
      rw [joined, rf_withBoot, rf, reg_setReg_self, hu.2.1 HUB_JOIN0.a (by decide)]
    obtain ⟨id, index, a, b, c, fplane, committed, locked⟩ := planeWord_fields (s.reg HUB_JOIN0.a)
    refine ⟨(plane _ _).trans id, (plane _ _).trans index, (plane _ _).trans a, (plane _ _).trans b, (plane _ _).trans c,
      (plane _ _).trans fplane, ?_, ?_, rfl, (rf_of_frame frame_joined (by decide)).trans hst,
      frame_trans (frame_mono hu (fun _ m => m) fun _ h => .inr (.inl h)) (frame_mono frame_joined (fun _ m => m) fun _ => .inl)⟩
    · exact congrArg (· == 1) ((plane 49 1).trans committed)
    · exact congrArg (· == 1) ((plane 50 1).trans locked)

/-- COMMIT of a record that R23 does not allow, or of another class, stops the camp. -/
theorem commit_unfit {f : Nat} (h6 : s.atCamp6 = true) (hf : s.joinFault = some f) : s.stopped s.commit stREJECT 13 f := by
  refine commit_ends (Q := fun t => s.stopped t stREJECT 13 f) h6 fun u hu hc _ => ⟨fun g hg => ?_, fun hn _ => ?_, fun hn _ => ?_⟩
  · rw [joinFault_of_frame hu (by decide), hf] at hg
    cases hg
    exact campStop_stopped (hc.trans (campNow_atCamp6 h6).symm) (by decide) (by decide) (Nat.lt_trans (joinFault_lt hf) (by decide))
  all_goals
    rw [joinFault_of_frame hu (by decide), hf] at hn
    cases hn
theorem commit_other (h6 : s.atCamp6 = true) (hn : s.joinFault = none) (ho : ¬ classFits s) : s.stopped s.commit stREJECT 14 0 := by
  refine commit_ends (Q := fun t => s.stopped t stREJECT 14 0) h6 fun u hu hc _ => ⟨fun f hf => ?_, fun _ _ => ?_, fun _ hc => ?_⟩
  · rw [joinFault_of_frame hu (by decide), hn] at hf
    cases hf
  · exact campStop_stopped (hc.trans (campNow_atCamp6 h6).symm) (by decide) (by decide) (by decide)
  · exact absurd ((classFits_of_frame hu (by decide) (by decide)).mp hc) ho

theorem lockFault_of_frame {t : State} (h : s.frame t [] (fun _ => False)) : t.lockFault = s.lockFault := by
  have view : sameView s t := sameView_of_frame h (by decide) (by decide) fun _ => False.elim
  have boot : t.boot = s.boot := h.1 .boot (by decide)
  unfold lockFault isRoot
  simp only [fun n f => (feidEntry_of_sameView view n f).1, (feidEntry_of_sameView view 0 0).2, boot,
    fun x => rf_of_frame h (x := x) not_false, fun x => rb_of_frame h (x := x) not_false]
theorem lockFault_lt {d : Nat} (h : s.lockFault = some d) : d < 5 := by
  unfold lockFault at h
  extract_lets ok at h
  split_ifs at h <;> cases h <;> decide

theorem stopped_of_camp {t u : State} {status reason detail : Nat} (h : s.frame t [] (fun _ => False)) (k : t.stopped u status reason detail) :
    s.stopped u status reason detail := by
  have camp : t.campNow = s.campNow := rf_of_frame h not_false
  rw [stopped, camp] at k
  exact k
theorem joinCopied_of_frame {t u : State} (h : s.frame t [] (fun _ => False)) (k : joinCopied t u) : joinCopied s u := by
  obtain ⟨id, index, a, b, c, fplane, committed, locked, boot, state, keeps⟩ := k
  exact ⟨id.trans (rf_of_frame h not_false), index.trans (rf_of_frame h not_false), a.trans (rf_of_frame h not_false),
    b.trans (rf_of_frame h not_false), c.trans (rf_of_frame h not_false), fplane.trans (rf_of_frame h not_false), committed, locked, boot, state,
    frame_trans (frame_mono h (by simp) fun _ => False.elim) keeps⟩

/-- Settles O50: COMMIT ends in one of three ways and LOCK in one of two, each by its own rule; elsewhere only SOD_QUICK is written again. -/
theorem commitAndLock : Obligations.CommitAndLock := by
  unfold Obligations.CommitAndLock
  refine fun s src hu ho => ?_
  have same : s.frame s.quickKept [] (fun _ => False) := frame_quickKept
  have camp6 : s.quickKept.atCamp6 = s.atCamp6 := by
    rw [atCamp6, atCamp6, campNow, campNow, campState, campState, rf_of_frame same not_false, rf_of_frame same not_false]
  have join : s.quickKept.joinFault = s.joinFault := joinFault_of_frame same not_false
  have lock : s.quickKept.lockFault = s.lockFault := lockFault_of_frame same
  refine ⟨fun h6 => ⟨fun hn hc down => ?_, fun f hf => ?_, fun hn ha he => ?_, fun hl => ?_, fun d hd => ?_⟩, fun h6 => ⟨?_, ?_⟩⟩
  · refine runs_bootCmd hu ho rfl bootCmd_commit (joinCopied_of_frame same (commit_joins (camp6.trans h6) (join.trans hn) ?_ fun P hP => ?_))
    · exact (classFits_of_frame same not_false not_false).mpr hc
    · rw [belayUp_of_frame same not_false, down P hP]
  · exact runs_bootCmd hu ho rfl bootCmd_commit (stopped_of_camp same (commit_unfit (camp6.trans h6) (join.trans hf)))
  · refine runs_bootCmd hu ho rfl bootCmd_commit (stopped_of_camp same (commit_other (camp6.trans h6) (join.trans hn) fun hc => ?_))
    obtain h | h := (classFits_of_frame same not_false not_false).mp hc
    · exact absurd (ha.symm.trans h) (by decide)
    · exact he h
  · refine runs_bootCmd hu ho rfl bootCmd_lock ?_
    obtain ⟨state, camp, locked, faultN, report, boot⟩ := lockTables_met (camp6.trans h6) (lock.trans hl)
    rw [devState, rf_of_frame same not_false, rf_of_frame same not_false] at faultN
    exact ⟨state, camp, locked, faultN, report, boot⟩
  · refine runs_bootCmd hu ho rfl bootCmd_lock ?_
    rw [lockTables_unmet (camp6.trans h6) (lock.trans hd)]
    exact campStop_stopped (rf_of_frame same not_false) (by decide) (by decide) (Nat.lt_trans (lockFault_lt hd) (by decide))
  · exact runs_bootCmd hu ho rfl bootCmd_commit (by rw [commit_else (camp6.trans h6)]; exact frame_mono same (by simp) fun _ => False.elim)
  · exact runs_bootCmd hu ho rfl bootCmd_lock (by rw [lockTables_else (camp6.trans h6)]; exact frame_mono same (by simp) fun _ => False.elim)
end Sys2Proof.Machine
end

section
/-! PROOF. The obligation on DEV_STATE (R513, R515): a tenant's core with a write in progress as the device enters FENCED. -/
namespace Sys2Proof.Machine
open State

/-- An engine instruction of core 3 in progress, whose destination is the first byte of that core's L. -/
def byteWrite : Flight :=
  let l (n : Nat) : Tensor := ⟨.l, .imm 0, .fp32, [n], [4], none⟩
  { no := 0, core := 3, eng := 2, op := .vreSum .none (l 1) (l 4), opts := ⟨.rne, .sat, none, .imm 0, .imm 0, none, none⟩, sregs := [], pc := 0,
    started := true, srcs := [], dsts := [(addrL 3 0, 1)], taint := false, res := EngRes.none, data := [], parts := [], fill := [], undef := [],
    stream := none }
/-- A DEVICE fault of hub 0. -/
def hubFault : FaultRec := ⟨clDEVICE, 1, 3, stPOISON, 0, 0, []⟩
/-- The DEVICE fault waits, harness 7 is RECOVERING; core 3 is bound to harness 5 and RUNNING, its write in progress, and the first word of
its L is valid and uncorrectable. -/
def fencedWriting : State :=
  { [(CRX_CORE_STS.STATE 3, 2), (CRX_CORE_STS.HARNESS 3, 5), (HRN_STS.STATE 7, 3)].foldl (fun t x => t.wf x.1 x.2) State.reset with
    comp := { CompSt.initial with cores := [(3, { CoreSt.initial with bound := true })], flights := [byteWrite] }
    mem := { MemSt.initial with valid := [addrL 3 0], ue := [addrL 3 0] }
    fault := { FaultSt.initial with raised := [⟨hubFault, 0⟩] } }

theorem fencedWriting_idle : awake fencedWriting ∧ fencedWriting.rope.ctxs = [] ∧ fencedWriting.gate.ctxs = [] ∧ fencedWriting.host.opened = [] ∧
    fencedWriting.reg HUB_FAULT_CNT.a = 0#64 := by decide +kernel
/-- The DEVICE fault is counted, and so is the MEMORY record of the write that could not take its merge. -/
theorem fencedWriting_counts : fencedWriting.applyDeviceFault.reg HUB_FAULT_CNT.a = 2#64 := by decide +kernel

theorem of_runs_unheld {c : Instr} {s u : State} {Q : State → Prop} (hu : awake s) (he : exec c s = unheld s u) (h : runs c s Q) : Q u := by
  obtain ⟨t, ran, q⟩ := h
  rw [he, unheld, hu] at ran
  cases ran
  exact q

/-- Refutes O51, by a core with a write in progress: as the fault takes the device to FENCED the core is halted and its destinations are left
undefined (R161), and where that write falls on part of an uncorrectable word it is one more record (R446); the statement has one record. -/
theorem not_deviceStates : ¬ Obligations.DeviceStates := by
  unfold Obligations.DeviceStates
  intro states
  obtain ⟨up, rope, gate, rings, zero⟩ := fencedWriting_idle
  obtain ⟨faults, -⟩ := states fencedWriting .faultCh up rope gate rings
  obtain ⟨-, -, -, -, counted, -⟩ := of_runs_unheld up rfl ((faults hubFault 0 rfl).1 rfl rfl)
  rw [fencedWriting_counts, zero] at counted
  exact absurd counted (by decide)
end Sys2Proof.Machine
end

section
/-! PROOF. The fields beside those that records count in that no record on its way touches (R510 to R513, R523, R563). -/
namespace Sys2Proof.Machine
namespace State

/-- A field that no record on its way writes: of HUB_FAULT_STS below QUEUE, of CRN_STS below BUF, or the count of flash errors. -/
abbrev quietField (x : Rf) : Prop :=
  (x.a = HUB_FAULT_STS.a ∧ x.lo + x.w ≤ 5) ∨ (x.a = CRN_STS.a ∧ x.lo + x.w ≤ 4) ∨ x.a = CRN_CNT_FLASH_ERR.a
/-- A field apart from those. -/
abbrev loudField (y : Rf) : Prop :=
  (y.a ≠ HUB_FAULT_STS.a ∨ (5 ≤ y.lo ∧ y.lo + y.w ≤ 64)) ∧ (y.a ≠ CRN_STS.a ∨ (4 ≤ y.lo ∧ y.lo + y.w ≤ 64)) ∧ y.a ≠ CRN_CNT_FLASH_ERR.a
/-- A register apart from those. -/
abbrev loudReg (a : Nat) : Prop := a ≠ HUB_FAULT_STS.a ∧ a ≠ CRN_STS.a ∧ a ≠ CRN_CNT_FLASH_ERR.a
theorem loudReg_of_gt {a : Nat} (h : CRN_CNT_FLASH_ERR.a < a) : loudReg a := by
  simp only [loudReg, CRN_CNT_FLASH_ERR.a, HUB_FAULT_STS.a, CRN_STS.a] at *
  omega

section
variable {s : State} {x : Rf} (h : quietField x)
include h

theorem rf_wf_quiet {y : Rf} (n : Nat) (hy : loudField y) : (s.wf y n).rf x = s.rf x := by
  obtain ⟨fault, cairn, flash⟩ := hy
  refine rf_wf_apart n ?_
  obtain ⟨ha, hw⟩ | ⟨ha, hw⟩ | ha := h
  · exact fault.imp (fun e => by rw [ha]; exact e.symm) fun ⟨l, f⟩ => ⟨f, .inl (by omega)⟩
  · exact cairn.imp (fun e => by rw [ha]; exact e.symm) fun ⟨l, f⟩ => ⟨f, .inl (by omega)⟩
  · exact .inl (by rw [ha]; exact flash.symm)
theorem rf_inc_quiet {y : Rf} (hy : loudReg y.a) : (s.inc y).rf x = s.rf x := by
  obtain ⟨fault, cairn, flash⟩ := hy
  have other : x.a ≠ y.a := by
    obtain ⟨ha, -⟩ | ⟨ha, -⟩ | ha := h <;> rw [ha]
    · exact fault.symm
    · exact cairn.symm
    · exact flash.symm
  rw [rf, rf, inc, reg_count_ne s y 1 _ other]
theorem rf_lifeInc_quiet (i : Nat) : (s.lifeInc i).rf x = s.rf x :=
  rf_inc_quiet h (loudReg_of_gt (by simp only [CRN_LIFE.V, CRN_LIFE.a, CRN_CNT_FLASH_ERR.a]; omega))
omit h in
theorem rf_setWoItems (p : Nat) (l : List Item) : (s.setWoItems p l).rf x = s.rf x := by rw [rf, rf, reg_setWoItems]
omit h in
theorem rf_setWo (p : Nat) (w : Whiteout) : (s.setWo p w).rf x = s.rf x := by rw [rf, rf, reg_setWo]
theorem rf_woSettle_quiet (p : Nat) : (s.woSettle p).rf x = s.rf x := by
  have path {y : Rf} (hy : y.a = TEL_WO_STS.a p) : loudField y := by
    obtain ⟨fault, cairn, flash⟩ := loudReg_of_gt (a := y.a) (by rw [hy]; simp only [TEL_WO_STS.a, CRN_CNT_FLASH_ERR.a]; omega)
    exact ⟨.inl fault, .inl cairn, flash⟩
  have shown : ((s.wf (TEL_WO_STS.OCC p) (occupancy (s.woItems p))).wf HUB_FAULT_STS.QUEUE s.fault.hold.length).rf x = s.rf x := by
    rw [rf_wf_quiet h _ (by decide), rf_wf_quiet h _ (path rfl)]
  simp only [woSettle]
  split
  · rw [rf_lifeInc_quiet h, rf_setWo, satInc, rf_wf_quiet h _ (path rfl), rf_wf_quiet h _ (path rfl), shown]
  · exact shown
theorem rf_woDrop_quiet (p k : Nat) : (s.woDrop p k).rf x = s.rf x := by
  rw [woDrop, rf_setWo]
  exact rf_inc_quiet h (loudReg_of_gt (by simp only [TEL_WO_DROP.V, TEL_WO_DROP.a, CRN_CNT_FLASH_ERR.a]; omega))
theorem rf_evictFor_quiet (p n fuel : Nat) (s : State) : (evictFor p n fuel s).rf x = s.rf x := by
  induction fuel generalizing s with
  | zero => rfl
  | succ k ih =>
    simp only [evictFor]
    split
    · rfl
    · split
      · rfl
      · rw [ih, rf_woDrop_quiet h, rf_setWoItems]
theorem rf_offer_quiet (p : Nat) (it : Item) : (s.offer p it).rf x = s.rf x := by
  unfold offer
  extract_lets n s1 o lim
  have room : s1.rf x = s.rf x := by
    change (if it.prio = 5 then evictFor p n ((s.woItems p).length + 1) s else s).rf x = s.rf x
    split
    · exact rf_evictFor_quiet h p n _ s
    · rfl
  split
  · rw [rf_woSettle_quiet h, rf_setWoItems, room]
  · rw [rf_woSettle_quiet h, rf_woDrop_quiet h, room]
omit h in
theorem rf_sendEvents (fuel : Nat) : (sendEvents fuel s).rf x = s.rf x := by rw [rf, rf, reg_sendEvents]
theorem rf_cairnRec_quiet (kind time : Nat) (body : List Byte) : (s.cairnRec kind time body).rf x = s.rf x := by
  simp only [cairnRec]
  split
  · rw [rf_lifeInc_quiet h, rf_inc_quiet h (by decide)]
  · exact rf_wf_quiet h (y := CRN_STS.BUF) _ (by decide)
theorem rf_cairnFault_quiet (sev last : Nat) (bs : List Byte) : (s.cairnFault sev last bs).rf x = s.rf x := by
  unfold cairnFault
  extract_lets sec n
  split
  · rfl
  · split
    · exact rf_inc_quiet h (y := CRN_CNT_RATE_DROP.V) (by decide)
    · exact rf_cairnRec_quiet h ..
theorem rf_ringRecord_quiet (bs : List Byte) : (s.ringRecord bs).rf x = s.rf x := by
  have skip (t : State) (n : Nat) : (t.wf HUB_FAULT_STS.RING_SKIP n).rf x = t.rf x := rf_wf_quiet h n (by decide)
  have wptr (t : State) (n : Nat) : (t.wf HUB_FAULT_WPTR.V n).rf x = t.rf x := rf_wf_quiet h n (by decide)
  simp only [ringRecord]
  split
  · rfl
  · split
    · split
      · exact wptr ..
      · exact skip ..
    · exact skip ..
theorem rf_sendRecord_quiet (r : FaultRec) (n f l : Nat) : (s.sendRecord r n f l).rf x = s.rf x := by
  unfold sendRecord
  extract_lets q bytes prio _ s1 s2 s3 s4 s5
  have h4 : s4.rf x = s.rf x := by
    rw [rf_ringRecord_quiet h, rf_sendEvents, rf_offer_quiet h]
    rfl
  have h5 : s5.rf x = s4.rf x := by
    change (if _ then _ else s4).rf x = s4.rf x
    split
    · exact rf_offer_quiet h ..
    · rfl
  rw [rf_cairnFault_quiet h, h5, h4]
theorem rf_occur_quiet {r : FaultRec} (hc : r.cls < 256) (n : Nat) : (s.occur r n).rf x = s.rf x := by
  unfold occur
  extract_lets s0 win
  have counted : s0.rf x = s.rf x := by
    change (State.inc (match lifeWord r with | some i => s.lifeInc i | none => s) HUB_FAULT_CNT.V).rf x = s.rf x
    rw [rf_inc_quiet h (by decide)]
    split
    · exact rf_lifeInc_quiet h _
    · rfl
  rw [← counted]
  clear_value s0
  split
  · rfl
  · split
    · exact rf_sendRecord_quiet h ..
    · split
      · rw [rf_sendRecord_quiet h, rf_wf_quiet h _ (by decide)]
        rfl
      · have dropped : (s0.inc (HUB_AVAL_OVF.V r.cls)).rf x = s0.rf x :=
          rf_inc_quiet h (by simp only [loudReg, HUB_AVAL_OVF.V, HUB_AVAL_OVF.a, HUB_FAULT_STS.a, CRN_STS.a, CRN_CNT_FLASH_ERR.a]; omega)
        split
        · exact dropped
        · rw [rf_sendRecord_quiet h, rf_inc_quiet h (by decide)]
          exact dropped
/-- A report leaves every such field. -/
theorem rf_report_quiet {r : FaultRec} (hc : r.cls < 256) : (s.report r).rf x = s.rf x := by
  rw [report]
  split
  · rfl
  · exact rf_occur_quiet h hc _
end
end State
end Sys2Proof.Machine
end

section
/-! PROOF. The management processor and the laser commands (R523, R524). -/
namespace Sys2Proof.Machine
namespace State
variable {s t u : State} {src : Src}

/-! ## MP_STATE changes (R523) -/

/-- From `s` to `t` the processor went to state `st`, recorded. -/
def mpGoes (s t : State) (st : Nat) : Prop :=
  t.rf HUB_FAULT_STS.MP_STATE = st ∧ noted s t clMGMT 0x02 1 0 ∧ frame s t recordParts recordReg
theorem mpGoes_after {st : Nat} (h : sent 0 s t) (hf : frame s t recordParts recordReg) (k : mpGoes t u st) : mpGoes s u st :=
  ⟨k.1, noted_of_sent h k.2.1, frame_trans hf k.2.2⟩
theorem mpGoes_then {st : Nat} (k : mpGoes s t st) (h : sent 0 t u) (hf : frame t u recordParts recordReg)
    (hm : u.rf HUB_FAULT_STS.MP_STATE = t.rf HUB_FAULT_STS.MP_STATE) : mpGoes s u st :=
  ⟨hm.trans k.1, noted_then_sent k.2.1 h, frame_trans k.2.2 hf⟩

theorem mpChange_goes {new : Nat} (hn : new < 4) (cause : Nat) :
    mpGoes s (s.mpChange new cause) new ∧ (s.mpChange new cause).rb HUB_CAMP_STS.FW_READY = s.rb HUB_CAMP_STS.FW_READY := by
  have mp : quietField HUB_FAULT_STS.MP_STATE := .inl ⟨rfl, by decide⟩
  unfold mpChange
  extract_lets old s1
  have ready : s1.rb HUB_CAMP_STS.FW_READY = s.rb HUB_CAMP_STS.FW_READY := by
    rw [rb, rb, rf, rf, show HUB_CAMP_STS.FW_READY.a = HUB_CAMP_STS.a from rfl, reg_report_unrecorded (by decide)]
    exact congrArg (fun w : Word => w.field 33 1 == 1) (reg_wf_ne s HUB_FAULT_STS.MP_STATE new HUB_CAMP_STS.a (by decide))
  have goes : mpGoes s s1 new := by
    have set : frame s (s.wf HUB_FAULT_STS.MP_STATE new) recordParts recordReg := frame_wf _ _ (.inl (by decide))
    refine ⟨?_, noted_of_sent (sent_wf _ _ (by decide)) (noted_report (show 1 < 2 by decide)), frame_trans set (recorded_report _ (show clMGMT < 256 by decide))⟩
    rw [rf_report_quiet mp (show clMGMT < 256 by decide)]
    exact rf_wf_fits (by decide) hn
  clear_value s1
  refine ⟨mpGoes_then goes (sent_cairnRec ..) (recorded_cairnRec ..) (rf_cairnRec_quiet mp ..), ?_⟩
  rw [rb_of_frame (frame_cairnRec ..) (by decide), ready]

theorem mpRestart_goes (hu : awake s) (h1 : s.rf HUB_FAULT_STS.MP_STATE ≠ 1) (h2 : s.rf HUB_FAULT_STS.MP_STATE ≠ 2) (hc : s.campOk 1 = true)
    (cause : Nat) : mpGoes s (s.mpRestart cause) 1 ∧ (s.mpRestart cause).rb HUB_CAMP_STS.FW_READY = false := by
  have restarts : s.mpRestart cause = ((s.lifeInc 6).wf HUB_CAMP_STS.FW_READY 0).mpChange 1 cause := by
    rw [mpRestart]
    exact if_neg (by simp [show s.boot.held = false from hu, hc, h1, h2])
  obtain ⟨goes, ready⟩ := mpChange_goes (s := (s.lifeInc 6).wf HUB_CAMP_STS.FW_READY 0) (show 1 < 4 by decide) cause
  rw [restarts]
  refine ⟨mpGoes_after ((sent_lifeInc 6).then (sent_wf _ _ (by decide))) (frame_trans (recorded_lifeInc 6 (by decide))
    (frame_wf _ _ (.inl (by decide)))) goes, ready.trans ?_⟩
  rw [rb, rf_wf_fits (by decide) (by decide)]
  rfl
theorem mpRestart_down (h : s.rf HUB_FAULT_STS.MP_STATE = 1 ∨ s.rf HUB_FAULT_STS.MP_STATE = 2) (cause : Nat) : s.mpRestart cause = s := by
  rw [mpRestart]
  exact if_pos (by obtain h | h := h <;> simp [h])
theorem mpStart_goes (h : s.rf HUB_FAULT_STS.MP_STATE = 1 ∨ s.rf HUB_FAULT_STS.MP_STATE = 2) :
    mpGoes s (s.mpStart true) (if s.rf HUB_FAULT_STS.MP_STATE = 1 then 0 else 3) ∧ (s.mpStart true).rb HUB_CAMP_STS.FW_READY = true := by
  have starts : s.mpStart true =
      ((s.wf HUB_CAMP_STS.FW_READY 1).mpChange (if s.rf HUB_FAULT_STS.MP_STATE = 1 then 0 else 3) 3).sendHeldEvents := by
    rw [mpStart]
    exact if_neg (by obtain h | h := h <;> simp [h])
  obtain ⟨goes, ready⟩ := mpChange_goes (s := s.wf HUB_CAMP_STS.FW_READY 1) (new := if s.rf HUB_FAULT_STS.MP_STATE = 1 then 0 else 3)
    (by split <;> decide) 3
  rw [starts, sendHeldEvents]
  refine ⟨mpGoes_then (mpGoes_after (sent_wf _ _ (by decide)) (frame_wf _ _ (.inl (by decide))) goes) (sent_sendEvents ..) (recorded_sendEvents ..)
    (rf_sendEvents ..), ?_⟩
  rw [rb, rf_sendEvents, ← rb, ready, rb, rf_wf_fits (by decide) (by decide)]
  rfl
theorem mpStart_other : s.mpStart false = s := by
  rw [mpStart]
  exact if_pos rfl
theorem headlessExpire_else (h : s.rf HUB_FAULT_STS.MP_STATE ≠ 1) : s.headlessExpire = s := if_neg h
theorem headlessExpire_goes (h : s.rf HUB_FAULT_STS.MP_STATE = 1) : mpGoes s s.headlessExpire 2 := by
  rw [headlessExpire, if_pos h]
  exact (mpChange_goes (by decide) 4).1
theorem mpResume_goes (h : s.rf HUB_FAULT_STS.MP_STATE = 3) (ho : s.host.opened = []) : mpGoes s (s.mpResume src) 0 := by
  obtain ⟨goes, -⟩ := mpChange_goes (s := s) (show 0 < 4 by decide) 5
  have rings : (s.mpChange 0 5).host = s.host := goes.2.2.1 .host (by decide)
  have resumes : s.mpResume src = s.mpChange 0 5 := by
    rw [mpResume, if_neg (by simp [h])]
    extract_lets s1
    rw [show s1.host.opened = [] by rw [rings, ho]]
    rfl
  rw [resumes]
  exact goes
theorem mpResume_refused (h : s.rf HUB_FAULT_STS.MP_STATE ≠ 3) : s.mpResume src = s.reject src HUB_FAULT_CTL.a := if_pos (by simpa using h)

/-! ## The commands of HUB_FAULT_CTL -/

/-- The state with the settings of HUB_FAULT_CTL written as they were. -/
def settingsKept (s : State) : State :=
  (s.wf HUB_FAULT_CTL.HEADLESS_S (s.rf HUB_FAULT_CTL.HEADLESS_S)).wf HUB_FAULT_CTL.MP_WDOG_MS (s.rf HUB_FAULT_CTL.MP_WDOG_MS)
theorem frame_wf_same {x : Rf} (hx : x.lo + x.w ≤ 64) : frame s (s.wf x (s.rf x)) [] (fun _ => False) := by
  refine ⟨fun p _ => by cases p <;> rfl, fun a _ => ?_, rfl⟩
  by_cases h : a = x.a
  · rw [h, reg_wf_self]
    exact Word.withField_field _ _ _ hx
  · exact reg_wf_ne s _ _ _ h
theorem frame_settingsKept : frame s s.settingsKept [] (fun _ => False) := by
  have first := frame_wf_same (s := s) (x := HUB_FAULT_CTL.HEADLESS_S) (by decide)
  have second := frame_wf_same (s := s.wf HUB_FAULT_CTL.HEADLESS_S (s.rf HUB_FAULT_CTL.HEADLESS_S)) (x := HUB_FAULT_CTL.MP_WDOG_MS) (by decide)
  rw [rf_of_frame first not_false] at second
  exact frame_trans first second

/-- The word of command `bit`, where no command's bit stands in HUB_FAULT_CTL. -/
abbrev faultWord (s : State) (bit : Nat) : Word := (s.reg HUB_FAULT_CTL.a).withField bit 1 1
theorem faultWord_bit {i bit : Nat} (h : faultBitsClear s) (hi : i < 5) (hb : bit < 5) : (faultWord s bit).field i 1 = if i = bit then 1 else 0 := by
  have clear : (s.reg HUB_FAULT_CTL.a).field i 1 = 0 := by
    unfold faultBitsClear at h
    simp only [Word.field] at h ⊢
    interval_cases i <;> omega
  obtain e | e | e := Nat.lt_trichotomy i bit
  · rw [if_neg (by omega), Word.field_withField_below _ _ _ _ _ _ (by omega) (by omega), clear]
  · rw [if_pos e, e, Word.field_withField_self _ _ _ _ (by omega)]
    rfl
  · rw [if_neg (by omega), Word.field_withField_above _ _ _ _ _ _ (by omega) (by omega), clear]
theorem faultWord_settings {bit : Nat} (hb : bit < 5) :
    (s.wf HUB_FAULT_CTL.HEADLESS_S ((faultWord s bit).field 5 8)).wf HUB_FAULT_CTL.MP_WDOG_MS ((faultWord s bit).field 13 12) = s.settingsKept := by
  rw [Word.field_withField_above _ _ _ _ _ _ (by omega) (by omega), Word.field_withField_above _ _ _ _ _ _ (by omega) (by omega)]
  rfl

section
variable (h : faultBitsClear s) (m : BitVec 32)
include h
theorem faultCmd_resume : s.writeFaultCtl src (faultWord s 2) m = s.settingsKept.mpResume src := by
  have bit (i : Nat) (hi : i < 5) := faultWord_bit h hi (show 2 < 5 by decide)
  unfold writeFaultCtl
  rw [faultWord_settings (by decide)]
  extract_lets s1 s2 s3 s4 s5
  have h3 : s3 = s1 := (if_neg (by simp [bit])).trans (if_neg (by simp [bit]))
  have h5 : s5 = s3.mpResume src := (if_neg (by simp [bit])).trans (if_pos (by simp [bit]))
  exact (if_neg (by simp [bit])).trans (h5.trans (congrArg (mpResume · src) h3))
theorem faultCmd_laserOff : s.writeFaultCtl src (faultWord s 3) m = s.settingsKept.lasersOff := by
  have bit (i : Nat) (hi : i < 5) := faultWord_bit h hi (show 3 < 5 by decide)
  unfold writeFaultCtl
  rw [faultWord_settings (by decide)]
  extract_lets s1 s2 s3 s4 s5
  have h4 : s4 = s1 := (if_neg (by simp [bit])).trans ((if_neg (by simp [bit])).trans (if_neg (by simp [bit])))
  have h5 : s5 = s4.lasersOff := if_pos (by simp [bit])
  exact (if_neg (by simp [bit])).trans (h5.trans (congrArg lasersOff h4))
theorem faultCmd_laserOn (lit : s.settingsKept.boot.laserEn = true) : s.writeFaultCtl src (faultWord s 4) m = s.settingsKept.lasersOn m := by
  have bit (i : Nat) (hi : i < 5) := faultWord_bit h hi (show 4 < 5 by decide)
  unfold writeFaultCtl
  rw [faultWord_settings (by decide)]
  extract_lets s1 s2 s3 s4 s5
  have h5 : s5 = s1 := (if_neg (by simp [bit])).trans ((if_neg (by simp [bit])).trans ((if_neg (by simp [bit])).trans (if_neg (by simp [bit]))))
  have lit5 : s5.boot.laserEn = true := (congrArg (fun u : State => u.boot.laserEn) h5).trans lit
  exact (if_pos (by simp [bit, lit5])).trans (congrArg (lasersOn · m) h5)
theorem faultCmd_laserOn_dark (dark : s.settingsKept.boot.laserEn = false) : s.writeFaultCtl src (faultWord s 4) m = s.settingsKept := by
  have bit (i : Nat) (hi : i < 5) := faultWord_bit h hi (show 4 < 5 by decide)
  unfold writeFaultCtl
  rw [faultWord_settings (by decide)]
  extract_lets s1 s2 s3 s4 s5
  have h5 : s5 = s1 := (if_neg (by simp [bit])).trans ((if_neg (by simp [bit])).trans ((if_neg (by simp [bit])).trans (if_neg (by simp [bit]))))
  have dark5 : s5.boot.laserEn = false := (congrArg (fun u : State => u.boot.laserEn) h5).trans dark
  exact (if_neg (by simp [dark5])).trans h5
end

/-! ## The lasers (R524) -/

theorem foldl_insertNat_mem {l : List Nat} {acc : List Nat} {i : Nat} : i ∈ l.foldl insertNat acc ↔ i ∈ acc ∨ i ∈ l := by
  induction l generalizing acc with
  | nil => simp
  | cons a l ih => rw [List.foldl_cons, ih, mem_insertNat, List.mem_cons]; tauto
theorem mem_answering {m : BitVec 32} {i : Nat} : i ∈ answering m ↔ m.getLsbD i = true := by
  rw [answering, List.mem_filter, List.mem_range]
  exact ⟨fun h => h.2, fun h => ⟨BitVec.lt_of_getLsbD h, h⟩⟩

/-- The lasers that come on retrain the enabled ports of their dies, and nothing more. -/
theorem lasersOn_none {m : BitVec 32} (h : ∀ i, m.getLsbD i = true → ∀ P ∈ diePorts i, s.rb (PRT_PORT_CTL.ENABLE P) = false) :
    (∀ i, i ∈ (s.lasersOn m).boot.lasers ↔ i ∈ s.boot.lasers ∨ m.getLsbD i = true) ∧ frame s (s.lasersOn m) [.boot] (fun _ => False) := by
  unfold lasersOn
  extract_lets lit _ t
  have lit_iff (i : Nat) : i ∈ lit ↔ m.getLsbD i = true ∧ i ∉ s.boot.lasers := by
    rw [List.mem_filter, mem_answering]
    simp
  have quiet : (lit.flatMap diePorts).foldl (fun u P => if u.rb (PRT_PORT_CTL.ENABLE P) && !u.oddBonded P then u.retrain P else u) t = t := by
    refine foldl_same fun P hP => ?_
    obtain ⟨i, hi, hP⟩ := List.mem_flatMap.mp hP
    have off : t.rb (PRT_PORT_CTL.ENABLE P) = false := h i ((lit_iff i).mp hi).1 P hP
    exact if_neg (by simp [off])
  rw [quiet]
  refine ⟨fun i => ?_, frame_withBoot _ (by decide)⟩
  rw [show t.boot.lasers = lit.foldl insertNat s.boot.lasers from rfl, foldl_insertNat_mem, lit_iff]
  tauto
end State
open State
variable {s : State} {src : Src}

theorem runs_faultCmd {c : Instr} {bit : Nat} {m : BitVec 32} {u : State} {Q : State → Prop} (hu : awake s) (ho : s.opens src HUB_FAULT_CTL.a)
    (he : exec c s = unheld s (s.faultCmd src bit m)) (hb : s.writeFaultCtl src (faultWord s bit) m = u) (h : Q u) : runs c s Q :=
  runs_write hu ho he (by rw [← hb] at h; exact h)

/-- Settles O53: each event changes MP_STATE where its own states allow it, and a command of HUB_FAULT_CTL runs alone. -/
theorem processorAndLasers : Obligations.ProcessorAndLasers := by
  unfold Obligations.ProcessorAndLasers
  refine ⟨fun s src hu => ?_, fun s src m hu ho hb => ⟨fun hl => ?_, fun he => ?_, fun he hp => ?_⟩⟩
  intro m goes
  refine ⟨fun h1 h2 hc => ⟨?_, ?_⟩, fun h => ⟨?_, ?_, ?_⟩, ?_, fun h => ?_, fun h => ?_, fun ho hb => ⟨fun h hr => ?_, fun h => ?_⟩⟩
  · exact runs_unheld hu rfl (mpRestart_goes hu h1 h2 hc 1)
  · exact runs_unheld hu rfl (mpRestart_goes hu h1 h2 hc 2)
  · exact runs_unheld hu rfl (mpRestart_down h 1)
  · exact runs_unheld hu rfl (mpRestart_down h 2)
  · exact runs_unheld hu rfl (mpStart_goes h)
  · exact runs_unheld hu rfl mpStart_other
  · exact runs_unheld hu rfl (headlessExpire_goes h)
  · exact runs_unheld hu rfl (headlessExpire_else h)
  · have same := frame_settingsKept (s := s)
    have rings : s.settingsKept.host = s.host := same.1 .host (by decide)
    exact runs_faultCmd hu ho rfl (faultCmd_resume hb 0) (mpGoes_after (sent_of_frame same (by simp) fun _ _ => id)
      (frame_mono same (by simp) fun _ => False.elim) (mpResume_goes ((rf_of_frame same not_false).trans h) (by rw [rings, hr])))
  · have same := frame_settingsKept (s := s)
    refine turnedAway_same same (by decide) (by decide) ?_
    rw [show exec (.resume src) s = unheld s (s.faultCmd src 2 0) from rfl, unheld, hu, if_neg Bool.false_ne_true, faultCmd,
      guardWrite_opens hu ho]
    exact congrArg Host.Outcome.next ((faultCmd_resume hb 0).trans (mpResume_refused fun k => h ((rf_of_frame same not_false).symm.trans k)))
  · have same := frame_settingsKept (s := s)
    have boot : s.settingsKept.boot = s.boot := same.1 .boot (by decide)
    refine runs_faultCmd hu ho rfl (faultCmd_laserOff hb 0) ?_
    rw [lasersOff_down fun m hm P hP => (belayUp_of_frame same not_false).trans (hl m (by rwa [boot] at hm) P hP), boot]
    exact ⟨rfl, frame_trans (frame_mono same (by simp) fun _ => id) (frame_withBoot _ (by decide))⟩
  · have boot : s.settingsKept.boot = s.boot := frame_settingsKept.1 .boot (by decide)
    exact runs_faultCmd hu ho rfl (faultCmd_laserOn_dark hb m (by rw [boot, he])) frame_settingsKept
  · have same := frame_settingsKept (s := s)
    have boot : s.settingsKept.boot = s.boot := same.1 .boot (by decide)
    refine runs_faultCmd hu ho rfl (faultCmd_laserOn hb m (by rw [boot, he])) ?_
    obtain ⟨lit, keeps⟩ := lasersOn_none (s := s.settingsKept) (m := m) fun i hi P hP => (rb_of_frame same not_false).trans (hp i hi P hP)
    rw [boot] at lit
    exact ⟨lit, frame_trans (frame_mono same (by simp) fun _ => id) keeps⟩
end Sys2Proof.Machine
end

section
/-! PROOF. Pins, thermal protection, the sideband and JTAG (R574, R576, R583, R584, R589). -/
namespace Sys2Proof.Machine
namespace State
variable {s t u : State}

/-! ## A device held in reset (R574) -/

/-- From `s` to `t` the device went into reset: lasers off and memory lost, what flash, fuses and pins hold as it was. -/
def wentDown (s t : State) : Prop :=
  t.boot.held = true ∧ t.boot.lasers = [] ∧ t.mem = MemSt.initial ∧ t.fwd = FwdSt.initial ∧ t.comp = CompSt.initial ∧
  t.boot.minSvn = s.boot.minSvn ∧ t.boot.defects = s.boot.defects ∧ t.cairn.log = s.cairn.log ∧ t.cairn.copyA = s.cairn.copyA ∧
  t.cairn.copyB = s.cairn.copyB ∧ t.pending = s.pending

theorem wentDown_withBoot {b : BootSt} (h : wentDown s t) (held : b.held = true) (lasers : b.lasers = []) (svn : b.minSvn = t.boot.minSvn)
    (defects : b.defects = t.boot.defects) : wentDown s (t.withBoot b) := by
  obtain ⟨-, -, mem, fwd, comp, minSvn, map, log, copyA, copyB, pending⟩ := h
  exact ⟨held, lasers, mem, fwd, comp, svn.trans minSvn, defects.trans map, log, copyA, copyB, pending⟩
theorem wentDown_wf (h : wentDown s t) (x : Rf) (n : Nat) : wentDown s (t.wf x n) := h

theorem frame_enterReset (power : Bool) : frame (blank s) (s.enterReset power) [.boot] resetReg :=
  frame_trans (frame_mono (frame_resetAll power) (by simp) fun _ => id) (frame_withBoot _ (by decide))
theorem boot_enterReset (power : Bool) : (s.enterReset power).boot =
    { s.boot with lasers := [], committed := false, campNs := 0, bootNs := 0, jtagKeep := false, held := true } := by
  have kept : (s.resetAll power).boot = (blank s).boot := (frame_resetAll power).1 .boot (by decide)
  rw [enterReset, withBoot, kept]
  rfl
theorem enterReset_down (power : Bool) : wentDown s (s.enterReset power) := by
  have keeps := frame_enterReset (s := s) power
  have cairn : (s.enterReset power).cairn = (blank s).cairn := keeps.1 .cairn (by decide)
  refine ⟨?_, ?_, keeps.1 .mem (by decide), keeps.1 .fwd (by decide), keeps.1 .comp (by decide), ?_, ?_, ?_, ?_, ?_, keeps.2.2⟩
  · rw [boot_enterReset]
  · rw [boot_enterReset]
  · rw [boot_enterReset]
  · rw [boot_enterReset]
  all_goals
    rw [cairn]
    rfl
/-- A reset for want of power forgets SOD_QUICK, one by PERST_N keeps it. -/
theorem quick_enterReset (power : Bool) :
    (s.enterReset power).rf HUB_BOOT_CTL.SOD_QUICK = if power then 0 else s.rf HUB_BOOT_CTL.SOD_QUICK := by
  rw [enterReset, rf_withBoot, resetAll_eq, rf_of_frame frame_showLg (by decide), rf_wf_apart _ (by decide)]
  refine rf_wf_fits (by decide) ?_
  cases power
  · exact rf_lt HUB_BOOT_CTL.SOD_QUICK
  · exact Nat.two_pow_pos _

theorem pwrgdFall_down (h : s.boot.pwrgd = true) :
    wentDown s s.pwrgdFall ∧ s.pwrgdFall.boot.pwrgd = false ∧ s.pwrgdFall.boot.perst = s.boot.perst ∧
    s.pwrgdFall.rf HUB_BOOT_CTL.SOD_QUICK = 0 := by
  have down := enterReset_down (s := s) true
  have boot := boot_enterReset (s := s) true
  have falls : s.pwrgdFall = (s.enterReset true).withBoot { (s.enterReset true).boot with pwrgd := false } := by
    rw [pwrgdFall]
    exact if_neg (by simp [h])
  rw [falls, rf_withBoot, quick_enterReset]
  exact ⟨wentDown_withBoot down down.1 down.2.1 rfl rfl, rfl, (congrArg BootSt.perst boot :), rfl⟩
theorem railDrop_down (h : s.boot.pwrgd = true) :
    wentDown s s.railDrop ∧ s.railDrop.boot.perst = s.boot.perst ∧ s.railDrop.rf HUB_BOOT_CTL.SOD_QUICK = 0 := by
  rw [railDrop, if_pos h, quick_enterReset, boot_enterReset]
  exact ⟨enterReset_down true, rfl, rfl⟩
theorem refclkLoss_down (h : s.boot.pwrgd = true) :
    wentDown s s.refclkLoss ∧ s.refclkLoss.boot.perst = s.boot.perst ∧ s.refclkLoss.rf HUB_FAULT_STS.FAULT_N = 1 := by
  have down := enterReset_down (s := s) true
  have boot := boot_enterReset (s := s) true
  rw [refclkLoss, if_pos h, setFaultN]
  refine ⟨wentDown_withBoot (wentDown_wf down _ _) down.1 down.2.1 rfl rfl, (congrArg BootSt.perst boot :), ?_⟩
  rw [rf_withBoot]
  exact rf_wf_fits (by decide) (by decide)
theorem perstFall_down (h : s.boot.perst = true) :
    wentDown s s.perstFall ∧ s.perstFall.boot.perst = false ∧ s.perstFall.boot.pwrgd = s.boot.pwrgd ∧
    s.perstFall.rf HUB_BOOT_CTL.SOD_QUICK = s.rf HUB_BOOT_CTL.SOD_QUICK := by
  have down := enterReset_down (s := s) false
  have boot := boot_enterReset (s := s) false
  have falls : s.perstFall = (s.enterReset false).withBoot { (s.enterReset false).boot with perst := false } := by
    rw [perstFall]
    exact if_neg (by simp [h])
  rw [falls, rf_withBoot, quick_enterReset]
  exact ⟨wentDown_withBoot down down.1 down.2.1 rfl rfl, rfl, (congrArg BootSt.pwrgd boot :), rfl⟩
theorem aonRemoved_down : wentDown s s.aonRemoved ∧ s.aonRemoved.boot.thermTrip = false ∧ s.aonRemoved.boot.pwrgd = false ∧
    s.aonRemoved.boot.jtag = .idcode := by
  have down := enterReset_down (s := s) true
  exact ⟨wentDown_withBoot down down.1 down.2.1 rfl rfl, rfl, rfl, rfl⟩

/-! ## Thermal protection (R589) -/

theorem tripped_down : wentDown s ((s.enterReset false).withBoot { (s.enterReset false).boot with thermTrip := true }) ∧
    ((s.enterReset false).withBoot { (s.enterReset false).boot with thermTrip := true }).cairn.lg = s.cairn.lg := by
  have down := enterReset_down (s := s) false
  have cairn : (s.enterReset false).cairn = (blank s).cairn := (frame_enterReset false).1 .cairn (by decide)
  refine ⟨wentDown_withBoot down down.1 down.2.1 rfl rfl, ?_⟩
  rw [withBoot_cairn, cairn]
  rfl

/-- A last-gasp entry adds one to those held, and changes nothing else that a reset keeps. -/
theorem lastGasp_adds (cause off : Nat) (h : s.cairn.lg.length < 64) :
    (s.lastGasp cause off).cairn.lg.length = s.cairn.lg.length + 1 ∧ (s.lastGasp cause off).boot = s.boot ∧
    (s.lastGasp cause off).cairn = { s.cairn with lg := (s.lastGasp cause off).cairn.lg } ∧ (s.lastGasp cause off).pending = s.pending := by
  unfold lastGasp
  rw [if_neg (by omega)]
  extract_lets camp e
  have shown := frame_showLg (s := s.withCairn { s.cairn with lg := s.cairn.lg ++ [e ++ bytesLE 2 (crc32c 0 e)] })
  have cairn := shown.1 .cairn (by decide)
  have boot := shown.1 .boot (by decide)
  change _ = _ at cairn boot
  rw [cairn, boot]
  exact ⟨List.length_append, rfl, rfl, shown.2.2⟩
theorem thermTrip_bare : wentDown s (s.thermTrip false) ∧ (s.thermTrip false).boot.thermTrip = true ∧ (s.thermTrip false).cairn.lg = s.cairn.lg := by
  obtain ⟨down, lg⟩ := tripped_down (s := s)
  exact ⟨down, rfl, lg⟩
theorem thermTrip_gasp (hu : awake s) (h : s.cairn.lg.length < 64) :
    wentDown s (s.thermTrip true) ∧ (s.thermTrip true).boot.thermTrip = true ∧ (s.thermTrip true).cairn.lg.length = s.cairn.lg.length + 1 := by
  have trips : s.thermTrip true = (((s.freeW.2.freeW.2.lastGasp (s.freeW.1.field 0 8) (s.freeW.2.freeW.1.field 0 32)).enterReset false).withBoot
      { ((s.freeW.2.freeW.2.lastGasp (s.freeW.1.field 0 8) (s.freeW.2.freeW.1.field 0 32)).enterReset false).boot with thermTrip := true }) := by
    rw [thermTrip, if_pos (by simp [show s.boot.held = false from hu])]
  obtain ⟨count, boot, cairn, pending⟩ := lastGasp_adds (s := s.freeW.2.freeW.2) (s.freeW.1.field 0 8) (s.freeW.2.freeW.1.field 0 32) h
  rw [trips]
  generalize s.freeW.2.freeW.2.lastGasp (s.freeW.1.field 0 8) (s.freeW.2.freeW.1.field 0 32) = u at count boot cairn pending ⊢
  obtain ⟨⟨held, lasers, mem, fwd, comp, svn, defects, log, copyA, copyB, queue⟩, lg⟩ := tripped_down (s := u)
  refine ⟨⟨held, lasers, mem, fwd, comp, ?_, ?_, ?_, ?_, ?_, queue.trans pending⟩, rfl, ?_⟩
  · rw [svn, boot]
    rfl
  · rw [defects, boot]
    rfl
  · rw [log, cairn]
    rfl
  · rw [copyA, cairn]
    rfl
  · rw [copyB, cairn]
    rfl
  · rw [lg, count]
    rfl

/-! ## A PCIe port's own reset (R574) -/

theorem upBit_a (p : Nat) : (upBit p).a = HUB_HOST_CTL.a := by
  unfold upBit
  split <;> rfl
theorem rb_wf_zero {x : Rf} (hx : x.lo + x.w ≤ 64) : (s.wf x 0).rb x = false := by
  rw [rb, rf_wf_fits hx (Nat.two_pow_pos _)]
  rfl
theorem rb_wf_one {x : Rf} (hx : x.lo + x.w ≤ 64) (hw : 1 < 2 ^ x.w) : (s.wf x 1).rb x = true := by
  rw [rb, rf_wf_fits hx hw]
  rfl

/-- A port goes down while the other is up. -/
theorem portDown_one {p q : Nat} (hpq : p = 0 ∧ q = 1 ∨ p = 1 ∧ q = 0) (h : s.rb (upBit q) = true) :
    (s.portDown p).rb (upBit p) = false ∧ (s.portDown p).rb (upBit q) = true ∧ (s.portDown p).rb HUB_HOST_CTL.NONE = s.rb HUB_HOST_CTL.NONE ∧
    frame s (s.portDown p) [] (fun a => a = HUB_HOST_CTL.a) := by
  obtain ⟨rfl, rfl⟩ | ⟨rfl, rfl⟩ := hpq
  · have up : (s.wf HUB_HOST_CTL.UP0 0).rb HUB_HOST_CTL.UP1 = true := (rb_wf_apart _ (by decide)).trans h
    have down : s.portDown 0 = s.wf HUB_HOST_CTL.UP0 0 := if_neg (by rw [show upBit 0 = HUB_HOST_CTL.UP0 from rfl, up, Bool.not_true, Bool.and_false]; decide)
    rw [down]
    exact ⟨rb_wf_zero (by decide), up, rb_wf_apart _ (by decide), frame_wf _ _ rfl⟩
  · have up : (s.wf HUB_HOST_CTL.UP1 0).rb HUB_HOST_CTL.UP0 = true := (rb_wf_apart _ (by decide)).trans h
    have down : s.portDown 1 = s.wf HUB_HOST_CTL.UP1 0 := if_neg (by rw [show upBit 1 = HUB_HOST_CTL.UP1 from rfl, up, Bool.not_true, Bool.false_and]; decide)
    rw [down]
    exact ⟨rb_wf_zero (by decide), up, rb_wf_apart _ (by decide), frame_wf _ _ rfl⟩
/-- The last port goes down. -/
theorem portDown_last {p q : Nat} (hpq : p = 0 ∧ q = 1 ∨ p = 1 ∧ q = 0) (h : s.rb (upBit q) = false) (ho : s.host.opened = []) :
    (s.portDown p).rb (upBit p) = false ∧ (s.portDown p).rb HUB_HOST_CTL.NONE = true ∧
    frame s (s.portDown p) [] (fun a => a = HUB_HOST_CTL.a) := by
  obtain ⟨one, up0, up1, none⟩ : (s.wf (upBit p) 0).rb (upBit p) = false ∧ (s.wf (upBit p) 0).rb HUB_HOST_CTL.UP0 = false ∧
      (s.wf (upBit p) 0).rb HUB_HOST_CTL.UP1 = false ∧ apart HUB_HOST_CTL.NONE (upBit p) := by
    obtain ⟨rfl, rfl⟩ | ⟨rfl, rfl⟩ := hpq
    · exact ⟨rb_wf_zero (by decide), rb_wf_zero (by decide), (rb_wf_apart _ (by decide)).trans h, .inr (by decide)⟩
    · exact ⟨rb_wf_zero (by decide), (rb_wf_apart _ (by decide)).trans h, rb_wf_zero (by decide), .inr (by decide)⟩
  have pauses : s.portDown p = ((s.wf (upBit p) 0).wf HUB_HOST_CTL.NONE 1).ringPauses := if_pos (by rw [up0, up1]; rfl)
  rw [pauses, ringPauses_none (by rw [wf_host, wf_host, ho])]
  exact ⟨(rb_wf_apart _ none).trans one, rb_wf_one (by decide) (by decide),
    frame_trans (frame_wf _ _ (upBit_a p)) (frame_wf _ _ rfl)⟩

/-! ## The alarm at 105 °C (R589) -/

/-- The alarm forgotten where the sensors have been below 100 °C since. -/
def cooledDown (s : State) (cooled : Bool) : State := if cooled then s.withBoot { s.boot with hot := false } else s
/-- The state as a sensor has read: the crux die shows its temperature, unless the device is held. -/
def sensed (s : State) (v : DevUnit) (tj : Nat) : State :=
  match v with
  | .crux n => if s.boot.held then s else s.wf (PWR_DIE_STS.TJ_C n) tj
  | _ => s
/-- What SMB_ALERT_N and the fault record then make of it. -/
def alarmed (s : State) (v : DevUnit) : State :=
  let s2 := s.withBoot { s.boot with smbAlert := true }
  if s2.boot.held || s2.boot.hot then s2
  else (s2.withBoot { s2.boot with hot := true }).report ⟨clPOWER, 0x05, 1, stOK, unitCode v, 0, s2.powerDetail⟩
theorem exec_thermalAlarm (v : DevUnit) (tj : Nat) (cooled : Bool) :
    s.thermalAlarm v tj cooled = if tj < 105 then (s.cooledDown cooled).sensed v tj else ((s.cooledDown cooled).sensed v tj).alarmed v := by
  unfold thermalAlarm cooledDown sensed alarmed
  cases v <;> rfl

/-- Dies' sensors. -/
abbrev dieReg (a : Nat) : Prop := ∃ n, a = PWR_DIE_STS.a n

theorem cooledDown_leaves (cooled : Bool) : (s.cooledDown cooled).boot.smbAlert = s.boot.smbAlert ∧ (s.cooledDown cooled).boot.held = s.boot.held ∧
    (s.cooledDown cooled).boot.hot = (if cooled then false else s.boot.hot) ∧ frame s (s.cooledDown cooled) [.boot] dieReg := by
  cases cooled
  · exact ⟨rfl, rfl, rfl, frame_refl ..⟩
  · exact ⟨rfl, rfl, rfl, frame_withBoot _ (by decide)⟩
theorem frame_sensed (v : DevUnit) (tj : Nat) : frame s (s.sensed v tj) [] dieReg := by
  cases v with
  | crux n =>
    rw [sensed]
    split
    · exact frame_refl ..
    · exact frame_wf _ _ ⟨n, rfl⟩
  | _ => exact frame_refl ..
theorem sensed_crux (hu : awake s) (n : Fin 16) {tj : Nat} (ht : tj < 2 ^ 8) : (s.sensed (.crux n) tj).rf (PWR_DIE_STS.TJ_C n) = tj := by
  rw [sensed, if_neg (by simp [show s.boot.held = false from hu])]
  exact rf_wf_fits (show 28 + 8 ≤ 64 by decide) ht

/-- An alarm that is recorded: the sensors have been below 100 °C since the last. -/
theorem alarmed_records (hu : awake s) (hh : s.boot.hot = false) (v : DevUnit) :
    (s.alarmed v).boot.smbAlert = true ∧ (s.alarmed v).boot.hot = true ∧ noted s (s.alarmed v) clPOWER 0x05 1 0 ∧
    frame s (s.alarmed v) (.boot :: recordParts) recordReg := by
  have records : s.alarmed v = ((s.withBoot { s.boot with smbAlert := true }).withBoot { s.boot with smbAlert := true, hot := true }).report
      ⟨clPOWER, 0x05, 1, stOK, unitCode v, 0, (s.withBoot { s.boot with smbAlert := true }).powerDetail⟩ := by
    rw [alarmed]
    exact if_neg (by rw [withBoot_boot, hh, show s.boot.held = false from hu]; decide)
  rw [records]
  generalize e : (s.withBoot { s.boot with smbAlert := true }).withBoot { s.boot with smbAlert := true, hot := true } = u
  have lit : frame s u [.boot] (fun _ => False) := e ▸ frame_trans (frame_withBoot _ (by decide)) (frame_withBoot _ (by decide))
  have boot : u.boot = { s.boot with smbAlert := true, hot := true } := e ▸ rfl
  have told := recorded_report (s := u) ⟨clPOWER, 0x05, 1, stOK, unitCode v, 0, (s.withBoot { s.boot with smbAlert := true }).powerDetail⟩
    (show clPOWER < 256 by decide)
  have kept := told.1 .boot (by decide)
  change _ = _ at kept
  rw [kept, boot]
  exact ⟨rfl, rfl, noted_of_sent (sent_of_frame lit (by decide) fun _ _ => id) (noted_report (show 1 < 2 by decide)),
    frame_trans (frame_mono lit (by simp) fun _ => False.elim) (frame_mono told (fun _ => List.mem_cons_of_mem _) fun _ => id)⟩
/-- One that is not. -/
theorem alarmed_known (hh : s.boot.hot = true) (v : DevUnit) :
    (s.alarmed v).boot.smbAlert = true ∧ frame s (s.alarmed v) [.boot] (fun _ => False) := by
  have known : s.alarmed v = s.withBoot { s.boot with smbAlert := true } := by
    rw [alarmed]
    exact if_pos (by rw [withBoot_boot, hh, Bool.or_true])
  rw [known]
  exact ⟨rfl, frame_withBoot _ (by decide)⟩

/-! ## The sideband and JTAG (R583, R584) -/

/-- A register below the crux dies that is read as it stands. -/
def plainReg (a : Nat) : Bool :=
  (regRow a).isSome && decide (0x20 ≤ a) && decide (a < 0x01000000) &&
  !([HUB_IDENT_STS.a, HUB_XDOM_FENCE.a, HUB_EQUIV_CLASS.a, HUB_BOOT_TIME.a, HRN_STS.a 0, HRN_COUNT.a, CRN_LIFE.a 0x3FFF, TIM_GATE_TBL_DATA.a].contains a)
theorem readReg_plain {a : Nat} (h : plainReg a = true) (src : Src) : s.readReg src a = (s.reg a, s) := by
  simp only [plainReg, Bool.and_eq_true, decide_eq_true_eq, Bool.not_eq_true', List.contains_eq_mem, decide_eq_false_iff_not, List.mem_cons,
    List.not_mem_nil, or_false, not_or] at h
  obtain ⟨⟨⟨row, low⟩, high⟩, ident, fence, equiv, time, sts, count, life, gate⟩ := h
  unfold readReg
  rw [if_neg (by simp [Option.isSome_iff_ne_none.mp row]), if_neg (by omega), if_neg ident, if_neg fence, if_neg equiv, if_neg time, if_neg sts,
    if_neg count, if_neg life, if_neg gate, if_neg (by simp; omega), if_neg (by simp; omega), if_neg (by simp; omega)]

theorem sideband_open {a : Nat} (hp : s.boot.pwrgd = true) (ho : sideOpen a = true) (h : plainReg a = true) :
    s.sideband a = s.emit (.sideband (s.reg a) false) := by
  rw [sideband, if_neg (by simp [hp]), if_pos (by simp [ho]), readReg_plain h]
theorem sideband_camp1 {a : Nat} (hp : s.boot.pwrgd = true) (ho : sideOpen a = false) (hc : sideCamp1 a = true) (h : plainReg a = true) :
    s.sideband a = s.emit (if s.rf (HUB_CAMP_RPT.STATUS 1) = 0 then .sideband (s.reg a) false else .sideband 0 true) := by
  rw [sideband, if_neg (by simp [hp]), ho, hc, Bool.true_and, Bool.false_or, campOk, readReg_plain h]
  split <;> simp_all
theorem sideband_closed {a : Nat} (hp : s.boot.pwrgd = true) (ho : sideOpen a = false) (hc : sideCamp1 a = false) :
    s.sideband a = s.emit (.sideband 0 true) := by
  rw [sideband, if_neg (by simp [hp]), if_neg (by simp [ho, hc])]
theorem alertResponse_clears {tj : Nat} (hp : s.boot.pwrgd = true) (ha : s.boot.smbAlert = true) (hf : s.rb HUB_FAULT_STS.FAULT_N = false)
    (ht : tj < 105) : s.alertResponse tj = (s.emit .alertResponse).withBoot { s.boot with smbAlert := false } := by
  rw [alertResponse, if_neg (by simp [hp, ha])]
  exact if_neg (by rw [show (s.emit .alertResponse).rb HUB_FAULT_STS.FAULT_N = s.rb HUB_FAULT_STS.FAULT_N from rfl, hf]; simp; omega)
theorem alertResponse_stands {tj : Nat} (hp : s.boot.pwrgd = true) (ha : s.boot.smbAlert = true)
    (h : s.rb HUB_FAULT_STS.FAULT_N = true ∨ 105 ≤ tj) : s.alertResponse tj = s.emit .alertResponse := by
  rw [alertResponse, if_neg (by simp [hp, ha])]
  exact if_pos (by simpa [show (s.emit .alertResponse).rb HUB_FAULT_STS.FAULT_N = s.rb HUB_FAULT_STS.FAULT_N from rfl] using h)
theorem alertResponse_none {tj : Nat} (h : s.boot.pwrgd = false ∨ s.boot.smbAlert = false) : s.alertResponse tj = s := by
  rw [alertResponse]
  exact if_pos (by simpa using h)
theorem jtagSelect_allowed {i : JtagIr} (h : s.rb HUB_JTAG_STS.OPEN = true ∨ i = .idcode ∨ i = .bypass) :
    s.jtagSelect i = s.withBoot { s.boot with jtag := i } := by
  cases i with
  | other c => rw [jtagSelect, if_pos (by simpa using h)]
  | _ => rfl
theorem jtagSelect_shut {c} (h : s.rb HUB_JTAG_STS.OPEN = false) : s.jtagSelect (.other c) = s.withBoot { s.boot with jtag := .bypass } := by
  rw [jtagSelect, if_neg (by simp [h])]
end State
open State

theorem otherPort (p : Fin 2) : p.val = 0 ∧ 1 - p.val = 1 ∨ p.val = 1 ∧ 1 - p.val = 0 := by omega

/-- Settles O60: every fall, drop, loss and trip is the one blank state of a reset, held; each other pin and bus answers by its own rule. -/
theorem pinsAndReset : Obligations.PinsAndReset := by
  unfold Obligations.PinsAndReset
  refine ⟨fun s => ?_, fun s => ⟨fun v tj cooled => ⟨fun ht => ?_, fun ht => ⟨fun hu hc => ?_, fun hh hc => ?_⟩⟩,
    fun hp => ⟨?_, ?_, ?_, fun a ho hc => ?_⟩, fun a hp => ?_, fun tj => ⟨fun hp ha hf ht => ?_, fun hp ha h => ?_, fun h => ?_⟩,
    fun i => ⟨fun h => ?_, fun c hi h => ?_⟩⟩⟩
  · intro off
    refine ⟨fun hp => ⟨⟨_, rfl, pwrgdFall_down hp⟩, ⟨_, rfl, railDrop_down hp⟩, ⟨_, rfl, refclkLoss_down hp⟩⟩,
      fun hp => ⟨⟨_, rfl, ?_⟩, ⟨_, rfl, ?_⟩, ⟨_, rfl, ?_⟩⟩, fun hp => ⟨_, rfl, perstFall_down hp⟩, fun hp => ⟨_, rfl, ?_⟩, ⟨_, rfl, rfl⟩,
      ⟨_, rfl, thermTrip_bare⟩, fun hu hl => ⟨_, rfl, thermTrip_gasp hu hl⟩, ⟨_, rfl, aonRemoved_down⟩, fun hu p => ⟨fun h => ?_, fun h ho => ?_⟩⟩
    · exact if_pos (by simp [hp])
    · exact if_neg (by simp [hp])
    · exact if_neg (by simp [hp])
    · exact if_pos (by simp [hp])
    · refine runs_unheld hu rfl ?_
      rw [if_neg (by simp [show s.boot.held = false from hu])]
      exact portDown_one (otherPort p) h
    · refine runs_unheld hu rfl ?_
      rw [if_neg (by simp [show s.boot.held = false from hu])]
      exact portDown_last (otherPort p) h ho
  · refine ⟨_, rfl, ?_⟩
    obtain ⟨alert, -, -, cools⟩ := cooledDown_leaves (s := s) cooled
    have reads := frame_sensed (s := s.cooledDown cooled) v tj.toNat
    have boot := reads.1 .boot (by decide)
    change _ = _ at boot
    rw [exec_thermalAlarm, if_pos ht, boot]
    exact ⟨alert, frame_trans cools (frame_mono reads (by simp) fun _ => id)⟩
  · refine ⟨_, rfl, ?_⟩
    obtain ⟨-, held, hot, cools⟩ := cooledDown_leaves (s := s) cooled
    have reads := frame_sensed (s := s.cooledDown cooled) v tj.toNat
    have boot := reads.1 .boot (by decide)
    change _ = _ at boot
    have awakes : awake (s.cooledDown cooled) := held.trans hu
    obtain ⟨alert, hot', told, keeps⟩ := alarmed_records (s := (s.cooledDown cooled).sensed v tj.toNat) (by rw [awake, boot]; exact awakes)
      (by rw [boot, hot]; obtain h | h := hc <;> simp [h]) v
    rw [exec_thermalAlarm, if_neg (by omega)]
    refine ⟨alert, hot', noted_of_sent (sent_of_frame (frame_trans cools (frame_mono reads (by simp) fun _ => id)) (by decide) ?_) told,
      fun n e => ?_⟩
    · rintro a ha ⟨n, rfl⟩
      exact not_avalReg_die n ha
    · subst e
      rw [rf_of_frame keeps (not_recordReg_power ?_)]
      · exact sensed_crux awakes n tj.isLt
      · change PWR_DIE_STS.a n < 0x340000 ∧ 0x100000 ≤ PWR_DIE_STS.a n
        unfold PWR_DIE_STS.a
        omega
  · refine ⟨_, rfl, ?_⟩
    obtain ⟨-, -, hot, cools⟩ := cooledDown_leaves (s := s) cooled
    have reads := frame_sensed (s := s.cooledDown cooled) v tj.toNat
    have boot := reads.1 .boot (by decide)
    change _ = _ at boot
    obtain ⟨alert, keeps⟩ := alarmed_known (s := (s.cooledDown cooled).sensed v tj.toNat) (by rw [boot, hot, hc]; exact hh) v
    rw [exec_thermalAlarm, if_neg (by omega)]
    exact ⟨alert, frame_trans cools (frame_trans (frame_mono reads (by simp) fun _ => id) (frame_mono keeps (fun _ => id) fun _ => False.elim))⟩
  · exact ⟨_, rfl, sideband_open hp (by decide) (by decide +kernel)⟩
  · exact ⟨_, rfl, sideband_open hp (by decide) (by decide +kernel)⟩
  · exact ⟨_, rfl, sideband_camp1 hp (by decide) (by decide) (by decide +kernel)⟩
  · exact ⟨_, rfl, sideband_closed hp ho hc⟩
  · exact ⟨_, rfl, if_pos (by simp [hp])⟩
  · exact ⟨_, rfl, alertResponse_clears hp ha hf ht⟩
  · exact ⟨_, rfl, alertResponse_stands hp ha h⟩
  · exact ⟨_, rfl, alertResponse_none h⟩
  · exact ⟨_, rfl, jtagSelect_allowed h⟩
  · subst hi
    exact ⟨_, rfl, jtagSelect_shut h⟩
end Sys2Proof.Machine
end

section
/-! PROOF. Shared pins, their owners, and what their edges do (R544, R556 to R558, R582). -/
namespace Sys2Proof.Machine
namespace State
variable {s t : State} {src : Src} {n r : Nat} {v : Word}

/-! ## Owners (R556, R557) -/

theorem owner_setOwner (r i : Nat) {o : Nat} (ho : o < 256) : (s.setOwner r o i).owner r = o :=
  (rf_wf_apart (x := HUB_OWN.INSTANCE r) i (.inr ⟨show 8 + 8 ≤ 64 by decide, .inl (show 0 + 8 ≤ 8 by decide)⟩)).trans
    (rf_wf_fits (show 0 + 8 ≤ 64 by decide) ho)
theorem instance_setOwner (r o : Nat) {i : Nat} (hi : i < 256) : (s.setOwner r o i).rf (HUB_OWN.INSTANCE r) = i :=
  rf_wf_fits (show 8 + 8 ≤ 64 by decide) hi
theorem frame_setOwner (r o i : Nat) : frame s (s.setOwner r o i) [] (fun a => a = HUB_OWN.a r) := frame_trans (frame_wf _ _ rfl) (frame_wf _ _ rfl)
theorem own_ne {q : Nat} (h : q ≠ r) : HUB_OWN.a q ≠ HUB_OWN.a r := by
  unfold HUB_OWN.a
  omega
theorem own_ne_sync (hr : r < 10) (n : Nat) : HUB_OWN.a r ≠ HUB_SYNC_CFG.a n := by
  unfold HUB_OWN.a HUB_SYNC_CFG.a
  omega

/-- A pin whose function has no engine is freed with its owner alone. -/
theorem pinFree_plain (h : s.rf (HUB_SYNC_CFG.FUNC n) ∈ [1, 2, 4]) : s.pinFree n = s.freeOwner n := by
  unfold pinFree
  simp only [List.mem_cons, List.not_mem_nil, or_false] at h
  rw [if_neg (by omega), if_neg (by omega)]
theorem pinFree_none (h : s.rf (HUB_SYNC_CFG.FUNC n) = 0) : s.pinFree n = s := by
  unfold pinFree
  exact (if_pos h).trans (if_neg (by omega))

/-- A claim that R557 does not allow. -/
theorem mayClaim_refused {o i : Nat} (h0 : s.owner r ≠ 0) (h : s.owner r = o → o = 3 ∧ 6 ≤ r ∧ s.rf (HUB_OWN.INSTANCE r) ≠ i) :
    s.mayClaim r o i = false := by
  unfold mayClaim
  by_cases e : s.owner r = o
  · obtain ⟨h3, h6, hi⟩ := h e
    simp [h0, h3, hi, Nat.not_lt.mpr h6]
  · simp [h0, e]
theorem mayClaim_free (h0 : s.owner r = 0) (o i : Nat) : s.mayClaim r o i = true := by
  simp [mayClaim, h0]

/-! ## HUB_SYNC_CFG written (R582) -/

theorem writeSync_unknown (h : pinFunc n (v.field 0 3) = false) : s.writeSync src n v = s.reject src (HUB_SYNC_CFG.a n) := by
  unfold writeSync
  exact if_pos (by simp [h])
theorem writeSync_free (h : v.field 0 3 = 0) : s.writeSync src n v = (s.pinFree n).setReg (HUB_SYNC_CFG.a n) (Word.ofN (v.field 0 16)) := by
  unfold writeSync
  rw [h]
  exact if_neg (by simp [pinFunc])
theorem writeSync_conflict (hf : pinFunc n (v.field 0 3) = true) (h0 : v.field 0 3 ≠ 0)
    (h : s.mayClaim n (v.field 0 3) n = false ∨ (v.field 0 3 = 3 ∧ s.mayClaim (6 + v.field 3 2) 3 n = false)) :
    s.writeSync src n v = s.conflict src (HUB_SYNC_CFG.a n) := by
  unfold writeSync
  extract_lets a f e w
  refine (if_neg (by simp [f, hf])).trans ((if_neg h0).trans (if_pos ?_))
  obtain h | ⟨h3, h⟩ := h <;> simp_all [f, e]
/-- The pin claimed, and with SNAP_TRIG its engine. -/
def claimed (s : State) (n : Nat) (v : Word) : State :=
  let s1 := (s.setReg (HUB_SYNC_CFG.a n) (Word.ofN (v.field 0 16))).setOwner n (v.field 0 3) 0
  if v.field 0 3 = 3 then s1.setOwner (6 + v.field 3 2) 3 n else s1
theorem writeSync_claims (hf : pinFunc n (v.field 0 3) = true) (h0 : v.field 0 3 ≠ 0) (ho : s.owner n = 0) (hn : s.rf (HUB_SYNC_CFG.FUNC n) = 0)
    (he : v.field 0 3 = 3 → s.owner (6 + v.field 3 2) = 0) : s.writeSync src n v = s.claimed n v := by
  unfold writeSync claimed
  rw [pinFree_none hn]
  extract_lets a f e w s1
  refine (if_neg (by simp [f, hf])).trans ((if_neg h0).trans (if_neg ?_))
  by_cases h3 : v.field 0 3 = 3
  · simp [f, e, h3, mayClaim_free ho, mayClaim_free (he h3)]
  · simp [f, h3, mayClaim_free ho]
theorem field_lt (w : Word) (lo k : Nat) : w.field lo k < 2 ^ k := Nat.mod_lt _ (Nat.two_pow_pos k)
theorem syncWord_func (w : Word) : (Word.ofN (w.field 0 16)).field 0 3 = w.field 0 3 := by
  rw [Word.field_ofN _ _ _ (by decide)]
  simp only [Word.field]
  omega
theorem claimed_claims (hn : n < 6) :
    (s.claimed n v).owner n = v.field 0 3 ∧ (s.claimed n v).rf (HUB_SYNC_CFG.FUNC n) = v.field 0 3 ∧
    (v.field 0 3 = 3 → (s.claimed n v).owner (6 + v.field 3 2) = 3 ∧ (s.claimed n v).rf (HUB_OWN.INSTANCE (6 + v.field 3 2)) = n) ∧
    frame s (s.claimed n v) [] (fun a => a = HUB_SYNC_CFG.a n ∨ a = HUB_OWN.a n ∨ (v.field 0 3 = 3 ∧ a = HUB_OWN.a (6 + v.field 3 2))) := by
  have engine : v.field 3 2 < 4 := field_lt v 3 2
  unfold claimed
  extract_lets s1
  have owner1 : s1.owner n = v.field 0 3 := owner_setOwner n 0 (Nat.lt_trans (field_lt v 0 3) (by decide))
  have func1 : s1.rf (HUB_SYNC_CFG.FUNC n) = v.field 0 3 := by
    rw [rf_of_frame (frame_setOwner n (v.field 0 3) 0) (own_ne_sync (by omega) n).symm, rf, show (HUB_SYNC_CFG.FUNC n).a = HUB_SYNC_CFG.a n from rfl,
      reg_setReg_self]
    exact syncWord_func v
  have keeps1 : frame s s1 [] (fun a => a = HUB_SYNC_CFG.a n ∨ a = HUB_OWN.a n ∨ (v.field 0 3 = 3 ∧ a = HUB_OWN.a (6 + v.field 3 2))) :=
    frame_trans (frame_setReg _ _ (.inl rfl)) (frame_mono (frame_setOwner n _ 0) (by simp) fun _ h => .inr (.inl h))
  clear_value s1
  by_cases h3 : v.field 0 3 = 3
  · rw [if_pos h3]
    have last := frame_setOwner (s := s1) (6 + v.field 3 2) 3 n
    exact ⟨(rf_of_frame last (own_ne (by omega))).trans owner1, (rf_of_frame last (own_ne_sync (by omega) n).symm).trans func1,
      fun _ => ⟨owner_setOwner _ n (by decide), instance_setOwner _ 3 (by omega)⟩,
      frame_trans keeps1 (frame_mono last (by simp) fun _ h => .inr (.inr ⟨h3, h⟩))⟩
  · rw [if_neg h3]
    exact ⟨owner1, func1, fun h => absurd h h3, keeps1⟩
/-- FUNC 0 frees the pin of a function without an engine, and the rest of the word is written. -/
theorem freed_frees (hn : n < 6) (h : s.rf (HUB_SYNC_CFG.FUNC n) ∈ [1, 2, 4]) :
    let t := (s.pinFree n).setReg (HUB_SYNC_CFG.a n) (Word.ofN (v.field 0 16))
    t.owner n = 0 ∧ (t.reg (HUB_SYNC_CFG.a n)).toNat = v.toNat % 2 ^ 16 ∧ frame s t [] (fun a => a = HUB_SYNC_CFG.a n ∨ a = HUB_OWN.a n) := by
  intro t
  have last : frame (s.pinFree n) t [] (fun a => a = HUB_SYNC_CFG.a n) := frame_setReg _ _ rfl
  have freed := frame_setOwner (s := s) n 0 0
  rw [pinFree_plain h, freeOwner] at last
  refine ⟨(rf_of_frame last (own_ne_sync (by omega) n)).trans (owner_setOwner n 0 (by decide)), ?_,
    frame_trans (frame_mono freed (by simp) fun _ => .inr) (frame_mono last (by simp) fun _ => .inl)⟩
  rw [show t.reg (HUB_SYNC_CFG.a n) = _ from reg_setReg_self .., Word.ofN, BitVec.toNat_ofNat, Word.field]
  omega

/-! ## HUB_OWN_CTL (R558) -/

theorem writeOwnCtl_own (h10 : r < 10) (h6 : 6 ≤ r) (h : s.owner r = ownCode src) : s.writeOwnCtl src r false = s.freeOwner r := by
  rw [writeOwnCtl, if_neg (by omega), if_neg (by decide), if_pos (by simp [h6, h])]
theorem writeOwnCtl_conflict (h10 : r < 10) (h : s.owner r ≠ ownCode src) : s.writeOwnCtl src r false = s.conflict src HUB_OWN_CTL.a := by
  rw [writeOwnCtl, if_neg (by omega), if_neg (by decide), if_neg (by simp [h])]
theorem writeOwnCtl_ppsIn (h : r = 4) (ho : s.owner r = 1) : s.writeOwnCtl src r true = s.reject src HUB_OWN_CTL.a := by
  subst h
  rw [writeOwnCtl, if_neg (by omega), if_pos rfl, if_pos (by simp [ho])]
/-- FORCE on a pin takes its function and its owner, on an engine its pin's too where SNAP_TRIG holds it. -/
theorem writeOwnCtl_force (h10 : r < 10) (h : r = 4 → s.owner r ≠ 1) :
    (s.writeOwnCtl src r true).owner r = 0 ∧ (r < 6 → (s.writeOwnCtl src r true).rf (HUB_SYNC_CFG.FUNC r) = 0) := by
  have forced : s.writeOwnCtl src r true = if r < 6 || s.owner r = 3 then
      ((s.pinFree (if r < 6 then r else s.rf (HUB_OWN.INSTANCE r))).wf (HUB_SYNC_CFG.FUNC (if r < 6 then r else s.rf (HUB_OWN.INSTANCE r))) 0).freeOwner r
      else s.freeOwner r := by
    rw [writeOwnCtl, if_neg (by omega), if_pos rfl, if_neg]
    rintro k
    obtain ⟨e, ho⟩ : r = 4 ∧ s.owner 4 = 1 := by simpa using k
    exact h e (e ▸ ho)
  rw [forced]
  refine ⟨?_, fun h6 => ?_⟩
  · split <;> exact owner_setOwner r 0 (by decide)
  · rw [if_pos (by simp [h6]), if_pos h6]
    exact (rf_of_frame (frame_setOwner r 0 0) (own_ne_sync h10 r).symm).trans (rf_wf_fits (show 0 + 3 ≤ 64 by decide) (Nat.two_pow_pos _))

/-! ## Edges (R544, R582) -/

/-- A read, which may move a table's index on or record a refusal, leaves the telemetry units. -/
theorem tel_ite {c : Prop} [Decidable c] {x y : Word × State} (hx : x.2.tel = s.tel) (hy : y.2.tel = s.tel) : (if c then x else y).2.tel = s.tel := by
  split
  · exact hx
  · exact hy
theorem tel_gateAdvance : s.gateAdvance.tel = s.tel := by
  unfold gateAdvance
  split_ifs <;> simp only [wf_tel]
theorem tel_tblAdvance (n : Nat) : (s.tblAdvance n).tel = s.tel := by
  unfold tblAdvance
  split
  · rfl
  · split
    · rw [wf_tel]
    · rw [wf_tel, wf_tel]
theorem tel_cchAdvance (n : Nat) : (s.cchAdvance n).tel = s.tel := by
  unfold cchAdvance
  split_ifs <;> simp only [wf_tel]
theorem tel_heatAdvance (n : Nat) : (s.heatAdvance n).tel = s.tel := by
  unfold heatAdvance
  split_ifs <;> simp only [wf_tel]
theorem tel_portStsWord (P : Nat) : (s.portStsWord P).2.tel = s.tel := by
  unfold portStsWord
  extract_lets p w
  split <;> rfl
theorem tel_readCrux (src : Src) (n o a : Nat) : (s.readCrux src n o a).2.tel = s.tel := by
  have refused : (s.hacc src 0 a false stREJECT).tel = s.tel := (recorded_hacc ..).1 .tel (by decide)
  unfold readCrux
  exact tel_ite (tel_ite refused (tel_tblAdvance n)) (tel_ite (tel_cchAdvance n) (tel_ite rfl (tel_ite rfl (tel_ite rfl (tel_ite rfl
    (tel_ite (tel_heatAdvance n) (tel_ite rfl (tel_ite rfl rfl))))))))
theorem tel_readReg (src : Src) (a : Nat) : (s.readReg src a).2.tel = s.tel := by
  unfold readReg
  exact tel_ite rfl (tel_ite rfl (tel_ite rfl (tel_ite rfl (tel_ite rfl (tel_ite rfl (tel_ite rfl (tel_ite rfl (tel_ite rfl
    (tel_ite tel_gateAdvance (tel_ite (tel_readCrux ..) (tel_ite (tel_portStsWord _) (tel_ite rfl rfl))))))))))))
theorem tel_latch1 (ack : Bool) (a : Nat) : (s.latch1 ack a).2.2.tel = s.tel := by
  unfold latch1
  split
  · rfl
  · extract_lets blind r
    have read : r.2.tel = s.tel := tel_ite rfl (tel_readReg ..)
    clear_value r
    split
    · split
      · cases ack <;> exact read
      · exact read
    · rfl
theorem tel_latchN (ack : Bool) (k a : Nat) : (latchN ack k a s).2.2.tel = s.tel := by
  induction k generalizing a s with
  | zero => rfl
  | succ k ih => exact (ih _).trans (tel_latch1 ack a)
theorem tel_setRegs (l : List Nat) (w : Word) : (l.foldl (fun t a => t.setReg a w) s).tel = s.tel := by
  induction l generalizing s with
  | nil => rfl
  | cons a l ih => rw [List.foldl_cons, ih, setReg_tel]
theorem snaps_boundary (l : List Nat) (h : List (Nat × Word)) (x : Rf) (k : Nat) :
    (({ s.withTel { s.tel with hist := h } with sticky := l } : State).wf x k).tel.snaps = s.tel.snaps := rfl
/-- A histogram's boundary is passed: only the histograms' settings in force change. -/
theorem snaps_histBoundary (u : Nat) : (s.histBoundary u).tel.snaps = s.tel.snaps := by
  unfold histBoundary
  split
  · rfl
  · extract_lets bins s1 h h1
    have kept : s1.tel = s.tel := tel_setRegs bins 0
    exact (snaps_boundary ..).trans (congrArg TelSt.snaps kept)
theorem snaps_latchRange (ack : Bool) (base k : Nat) : (s.latchRange ack base k).2.2.tel.snaps = s.tel.snaps := by
  have latched := congrArg TelSt.snaps (tel_latchN (s := s) ack k base)
  unfold latchRange histBoundaries
  exact List.foldlRecOn (motive := fun t : State => t.tel.snaps = s.tel.snaps) _ _ latched fun t ht u _ => (snaps_histBoundary u).trans ht

/-- A snapshot taken: its engine is busy, and the snapshot is the last of those taken. -/
theorem snapGo_takes {e : Nat} (h : snapOk (s.rf (TEL_SNAP_CTL.BASE e)) (s.rf (TEL_SNAP_CTL.COUNT e)) = true) :
    (s.snapGo e).rb (TEL_SNAP_CTL.BUSY e) = true ∧ ∃ x, (s.snapGo e).tel.snaps = s.tel.snaps ++ [x] ∧ x.eng = e ∧ x.time = s.now := by
  unfold snapGo
  rw [if_neg (by simp [h])]
  extract_lets r _
  refine ⟨rb_wf_one (show 39 + 1 ≤ 64 by decide) (show 1 < 2 ^ 1 by decide), ⟨e, r.1, r.2.1, s.now⟩, ?_, rfl, rfl⟩
  · rw [wf_tel, withTel_tel]
    exact congrArg (· ++ _) (snaps_latchRange ..)

theorem pinEdge_none (h3 : s.rf (HUB_SYNC_CFG.FUNC n) ≠ 3) (h4 : s.rf (HUB_SYNC_CFG.FUNC n) ≠ 4) : s.pinEdge n = s := by
  unfold pinEdge
  split
  · rfl
  · split
    · exact absurd ‹_› h3
    · exact absurd ‹_› h4
    · rfl
theorem pinEdge_snap {e : Nat} (hu : s.telUp = true) (h3 : s.rf (HUB_SYNC_CFG.FUNC n) = 3) (he : s.rf (HUB_SYNC_CFG.ARG n) = e) :
    s.pinEdge n = if s.rb (TEL_SNAP_CTL.BUSY e) then s else s.snapGo e := by
  unfold pinEdge
  rw [if_neg (by simp [hu]), h3, he]
  rfl
theorem pinEdge_gate (hu : s.telUp = true) (h4 : s.rf (HUB_SYNC_CFG.FUNC n) = 4) : s.pinEdge n = s.trace 7 (unitHub 0) 0 (bytesLE 1 n) := by
  unfold pinEdge
  rw [if_neg (by simp [hu]), h4]
  rfl

theorem coll_setWo (w : Whiteout) : (s.setWo 0 w).fault.coll = s.fault.coll := rfl
theorem coll_woSettle : (s.woSettle 0).fault.coll = s.fault.coll := by
  simp only [woSettle]
  split
  · rw [lifeInc, inc_fault, coll_setWo, satInc, wf_fault, wf_fault, wf_fault, wf_fault]
  · rw [wf_fault, wf_fault]
/-- An item that its empty buffer holds is the only one in it. -/
theorem offer_first {it : Item} (he : s.fault.coll = []) (hp : it.prio = 2) (hl : it.bytes.length ≤ 32) : (s.offer 0 it).fault.coll = [it] := by
  have empty : s.woItems 0 = [] := he
  have room : 8 * (occupancy (s.woItems 0) + it.bytes.length) ≤ (if s.rb (TEL_WO_STS.ACTIVE 0) then (3 + it.prio) * woCap 0 else 8 * woCap 0) := by
    rw [empty, hp, show occupancy [] = 0 from rfl, show woCap 0 = 4194304 from rfl]
    split <;> omega
  have offered : s.offer 0 it = (s.setWoItems 0 (s.woItems 0 ++ [it])).woSettle 0 := by
    unfold offer
    simp only [hp, show ¬ (2 = 5) by decide, if_false]
    rw [hp] at room
    exact if_pos room
  rw [offered, coll_woSettle, empty]
  rfl
/-- A trace record that finds its buffer empty is the only one in it. -/
theorem trace_first {p q h : Nat} {l : List Byte} (hm : s.rf TEL_TRACE_CFG.MASK / 2 ^ p % 2 = 1) (hc : s.rf TEL_COLLECT.MODE ≠ 0)
    (he : s.fault.coll = []) (hl : l.length ≤ 20) :
    (s.trace p q h l).fault.coll = [⟨2, 2, bytesLE 8 s.now ++ bytesLE 1 p ++ bytesLE 1 q ++ bytesLE 2 h ++ padTo 20 0 l⟩] := by
  rw [trace, if_pos (by simp [hm, hc])]
  refine offer_first he rfl ?_
  simp only [List.length_append, length_bytesLE, padTo, List.length_take, List.length_replicate]
  omega
theorem conflict_hacc (a : Nat) : s.conflict src a = s.hacc src 0 a true stCONFLICT := rfl
end State
open State

/-- A command whose write of the register it reaches ends in CONFLICT is turned away. -/
theorem turnedAway_conflict {c : Instr} {s : State} {src : Src} {a : Nat} {k : State → State} (hu : awake s) (ho : s.opens src a)
    (he : exec c s = unheld s (s.guardWrite src a k)) (hk : k s = s.conflict src a) (ha : a < 2 ^ 26) : turnedAway c s src a stCONFLICT := by
  refine turnedAway_of_exec ?_ ha (by decide)
  rw [he, unheld, hu, guardWrite_opens hu ho, hk]
  rfl

theorem syncReg_lt (n : Fin 6) : HUB_SYNC_CFG.a n < 2 ^ 26 := by
  unfold HUB_SYNC_CFG.a
  omega

/-- Settles O58: a write of HUB_SYNC_CFG and of HUB_OWN_CTL by what owns the pin and its engine, an edge by the pin's function. -/
theorem sharedPins : Obligations.SharedPins := by
  unfold Obligations.SharedPins
  refine fun s src hu => ⟨fun n v ho => ⟨fun hf => ?_, fun h0 hf => ?_, fun hf h0 hn hne => ?_, fun hf h3 hn he h3' => ?_, fun hf h0 hn hfn he => ?_⟩,
    fun r hr ho => ⟨fun h6 h => ?_, fun h => ?_, fun h4 h => ?_, fun h => ?_, fun h6 h => ?_⟩,
    fun n hup => ⟨fun h3 h4 => ?_, fun e h3 he => ⟨fun hb => ?_, fun hb hs => ?_⟩, fun h4 hc hm hcoll => ?_⟩, fun n => ⟨fun h => ?_, fun h => ?_⟩⟩
  · exact turnedAway_write hu ho rfl (writeSync_unknown hf) (syncReg_lt n)
  · refine runs_write hu ho rfl ?_
    rw [writeSync_free h0]
    exact freed_frees n.isLt hf
  · exact turnedAway_conflict hu ho rfl (writeSync_conflict hf h0 (.inl (mayClaim_refused hn fun e => absurd e hne))) (syncReg_lt n)
  · exact turnedAway_conflict hu ho rfl (writeSync_conflict hf (by omega) (.inr ⟨h3, mayClaim_refused he fun e => ⟨rfl, by omega, h3' e⟩⟩)) (syncReg_lt n)
  · refine runs_write hu ho rfl ?_
    rw [writeSync_claims hf h0 hn hfn he]
    exact claimed_claims n.isLt
  · refine runs_write hu ho rfl ?_
    rw [writeOwnCtl_own hr h6 h]
    exact ⟨owner_setOwner _ 0 (by decide), frame_setOwner _ 0 0⟩
  · exact turnedAway_conflict hu ho rfl (writeOwnCtl_conflict hr h) (by decide)
  · exact turnedAway_write hu ho rfl (writeOwnCtl_ppsIn h4 h) (by decide)
  · exact runs_write hu ho rfl (writeOwnCtl_force hr h).1
  · exact runs_write hu ho rfl ((writeOwnCtl_force hr h).2 h6)
  · exact runs_unheld hu rfl (pinEdge_none h3 h4)
  · refine runs_unheld hu rfl ?_
    rw [pinEdge_snap hup h3 he, if_pos hb]
  · refine runs_unheld hu rfl ?_
    rw [pinEdge_snap hup h3 he, if_neg (by simp [hb])]
    exact snapGo_takes hs
  · refine runs_unheld hu rfl ?_
    rw [pinEdge_gate hup h4]
    exact ⟨_, trace_first hm hc hcoll (by rw [length_bytesLE]; decide), rfl, rfl, rfl, rfl⟩
  · exact runs_unheld hu rfl (if_pos (by simpa [show s.boot.held = false from hu] using h))
  · exact runs_unheld hu rfl (if_neg (by simpa [show s.boot.held = false from hu] using h))
end Sys2Proof.Machine
end

section
/-! PROOF. What a record leaves in Cairn, and how Cairn fails (R561 to R564). -/
namespace Sys2Proof.Machine

theorem leNat_bytesLE (k n : Nat) : leNat (bytesLE k n) = n % 256 ^ k := by
  induction k generalizing n with
  | zero => rw [bytesLE, leNat, Nat.pow_zero, Nat.mod_one]
  | succ k ih => rw [bytesLE, leNat, ih, BitVec.toNat_ofNat, show 256 ^ (k + 1) = 256 * 256 ^ k from Nat.pow_succ', Nat.mod_mul]

namespace State
variable {s t u : State}

/-! ## Records on their way -/

/-- From `s` to `t` Cairn has at most taken records into its buffer, and counted them against REC_RATE. -/
def cairnGrows (s t : State) : Prop :=
  ∃ l, t.cairn = { s.cairn with buf := s.cairn.buf ++ l, rateSec := t.cairn.rateSec, rateN := t.cairn.rateN }

theorem cairnGrows_of_eq (h : t.cairn = s.cairn) : cairnGrows s t := ⟨[], by rw [h, List.append_nil]⟩
theorem cairnGrows.trans (h : cairnGrows s t) (k : cairnGrows t u) : cairnGrows s u := by
  obtain ⟨l, h⟩ := h
  obtain ⟨m, k⟩ := k
  exact ⟨l ++ m, by rw [k, h, List.append_assoc]⟩

/-- From `s` to `t` only registers, stickies, what waits for its readers and what was sent have changed. -/
abbrev spared (s t : State) : Prop := frame s t [.sticky, .fault, .out] (fun _ => True)

theorem spared_inc (x : Rf) : spared s (s.inc x) := frame_inc x trivial (by decide)
theorem spared_setWoItems (p : Nat) (l : List Item) : spared s (s.setWoItems p l) := by
  rw [setWoItems]
  split <;> exact frame_withFault _ (by decide)
theorem spared_setWo (p : Nat) (w : Whiteout) : spared s (s.setWo p w) := by
  rw [setWo]
  split <;> exact frame_withFault _ (by decide)
theorem spared_woSettle (p : Nat) : spared s (s.woSettle p) := by
  have shown : spared s ((s.wf (TEL_WO_STS.OCC p) (occupancy (s.woItems p))).wf HUB_FAULT_STS.QUEUE s.fault.hold.length) :=
    frame_trans (frame_wf _ _ trivial) (frame_wf _ _ trivial)
  simp only [woSettle]
  split
  · exact frame_trans shown (frame_trans (frame_wf _ _ trivial) (frame_trans (frame_satInc _ _ trivial)
      (frame_trans (spared_setWo ..) (spared_inc _))))
  · exact shown
theorem spared_woDrop (p k : Nat) : spared s (s.woDrop p k) := frame_trans (spared_inc _) (spared_setWo ..)
theorem spared_evictFor (p n fuel : Nat) (s : State) : spared s (evictFor p n fuel s) := by
  induction fuel generalizing s with
  | zero => exact frame_refl ..
  | succ k ih =>
    simp only [evictFor]
    split
    · exact frame_refl ..
    · split
      · exact frame_refl ..
      · exact frame_trans (spared_setWoItems ..) (frame_trans (spared_woDrop ..) (ih _))
theorem spared_offer (p : Nat) (it : Item) : spared s (s.offer p it) := by
  unfold offer
  extract_lets n s1 o lim
  have room : spared s s1 := by
    change spared s (if it.prio = 5 then evictFor p n ((s.woItems p).length + 1) s else s)
    split
    · exact spared_evictFor ..
    · exact frame_refl ..
  split
  · exact frame_trans room (frame_trans (spared_setWoItems ..) (spared_woSettle p))
  · exact frame_trans room (frame_trans (spared_woDrop ..) (spared_woSettle p))
theorem spared_sendEvents (fuel : Nat) (s : State) : spared s (sendEvents fuel s) := by
  induction fuel generalizing s with
  | zero => exact frame_refl ..
  | succ k ih =>
    simp only [sendEvents]
    split
    · exact frame_refl ..
    · exact frame_trans (frame_withFault _ (by decide)) (frame_trans (frame_emit _ (by decide)) (ih _))
/-- A record offered to its readers, and what of it is sent. -/
theorem spared_offered (q p : Nat) (it : Item) : spared s (sendEvents 1 ((s.withFault { s.fault with seqno := q }).offer p it)) :=
  frame_trans (frame_withFault _ (by decide)) (frame_trans (spared_offer ..) (spared_sendEvents ..))
/-- An occurrence counted. -/
theorem spared_counted (r : FaultRec) : spared s (State.inc (match lifeWord r with | some i => s.lifeInc i | none => s) HUB_FAULT_CNT.V) := by
  refine frame_trans (t := match lifeWord r with | some i => s.lifeInc i | none => s) ?_ (spared_inc _)
  split
  · exact spared_inc _
  · exact frame_refl ..
theorem cairn_ringRecord (bs : List Byte) : (s.ringRecord bs).cairn = s.cairn := by
  simp only [ringRecord]
  split
  · rfl
  · split
    · split
      · rw [wf_cairn, withMem_cairn]
      · rw [wf_cairn]
    · rw [wf_cairn]
theorem cairnGrows_cairnRec (kind time : Nat) (body : List Byte) : cairnGrows s (s.cairnRec kind time body) := by
  simp only [cairnRec]
  split
  · exact cairnGrows_of_eq (by rw [lifeInc, inc_cairn, inc_cairn])
  · exact ⟨[_], by rw [wf_cairn, withCairn_cairn]⟩
theorem cairnGrows_rate (sec n : Nat) : cairnGrows s (s.withCairn { s.cairn with rateSec := sec, rateN := n }) :=
  ⟨[], by rw [withCairn_cairn, List.append_nil]⟩
theorem cairnGrows_cairnFault (sev last : Nat) (bs : List Byte) : cairnGrows s (s.cairnFault sev last bs) := by
  unfold cairnFault
  extract_lets sec n
  split
  · exact cairnGrows_of_eq rfl
  · split
    · exact (cairnGrows_rate _ _).trans (cairnGrows_of_eq (inc_cairn ..))
    · exact (cairnGrows_rate _ _).trans (cairnGrows_cairnRec ..)
theorem cairnGrows_sendRecord (r : FaultRec) (n f l : Nat) : cairnGrows s (s.sendRecord r n f l) := by
  unfold sendRecord
  extract_lets q bytes prio _ s1 s2 s3 s4 s5
  have h4 : s4.cairn = s.cairn := (cairn_ringRecord _).trans ((spared_offered ..).1 .cairn (by decide))
  have h5 : s5.cairn = s4.cairn := by
    change (if _ then _ else s4).cairn = s4.cairn
    split
    · exact (spared_offer ..).1 .cairn (by decide)
    · rfl
  exact (cairnGrows_of_eq (h5.trans h4)).trans (cairnGrows_cairnFault ..)
theorem cairnGrows_occur (r : FaultRec) (n : Nat) : cairnGrows s (s.occur r n) := by
  unfold occur
  extract_lets s0 win _ s1 sec mask _ s2
  have counted : s0.cairn = s.cairn := (spared_counted r).1 .cairn (by decide)
  refine (cairnGrows_of_eq counted).trans ?_
  split
  · exact cairnGrows_of_eq (withFault_cairn ..)
  · split
    · exact cairnGrows_sendRecord ..
    · split
      · exact (cairnGrows_of_eq (by rw [wf_cairn, withFault_cairn])).trans (cairnGrows_sendRecord ..)
      · have h2 : s2.cairn = s0.cairn := (withFault_cairn ..).trans (inc_cairn ..)
        clear_value s2
        split
        · exact cairnGrows_of_eq h2
        · exact (cairnGrows_of_eq ((inc_cairn ..).trans h2)).trans (cairnGrows_sendRecord ..)
/-- A report leaves the log, the copies, the last-gasp entries and what has failed. -/
theorem cairnGrows_report (r : FaultRec) : cairnGrows s (s.report r) := by
  rw [report]
  split
  · exact cairnGrows_of_eq (withFault_cairn ..)
  · exact cairnGrows_occur ..

/-! ## A failure (R563, R564) -/

theorem cairn_showLg : s.showLg.cairn = s.cairn := frame_showLg.1 .cairn (by decide)

/-- A last-gasp entry of 16 bytes shows the cause and the partition offset. -/
def gaspEntry (s : State) (cause off : Nat) : List Byte :=
  let camp := if s.rf HUB_CAMP_STS.STATE = 3 then 7 else s.rf HUB_CAMP_STS.CAMP
  let e := bytesLE 4 (s.rf (CRN_LIFE.V 3)) ++ bytesLE 4 (s.rf (CRN_LIFE.V 2)) ++ bytesLE 1 cause ++ bytesLE 1 camp ++ bytesLE 4 off
  e ++ bytesLE 2 (crc32c 0 e)
theorem gaspEntry_shows (cause off : Nat) (h : off < 2 ^ 32) :
    (gaspEntry s cause off).length = 16 ∧ (gaspEntry s cause off).getD 8 0 = BitVec.ofNat 8 cause ∧ leAt (gaspEntry s cause off) 10 4 = off := by
  unfold gaspEntry
  extract_lets camp e
  refine ⟨by simp only [e, List.length_append, length_bytesLE], rfl, ?_⟩
  exact (leNat_bytesLE 4 off).trans (Nat.mod_eq_of_lt h)
theorem lastGasp_free (cause off : Nat) (h : s.cairn.lg.length < 64) :
    s.lastGasp cause off = (s.withCairn { s.cairn with lg := s.cairn.lg ++ [gaspEntry s cause off] }).showLg := by
  unfold lastGasp
  exact if_neg (by omega)
theorem lastGasp_full (cause off : Nat) (h : 64 ≤ s.cairn.lg.length) : s.lastGasp cause off = s := by
  unfold lastGasp
  exact if_pos h
theorem frame_lastGasp (cause off : Nat) : frame s (s.lastGasp cause off) [.cairn] (fun a => 0x340000 ≤ a ∧ a < 0x340500) := by
  by_cases h : s.cairn.lg.length < 64
  · rw [lastGasp_free cause off h]
    exact frame_trans (frame_withCairn _ (by decide)) (frame_mono frame_showLg (by simp) fun _ => id)
  · rw [lastGasp_full cause off (by omega)]
    exact frame_refl ..
theorem cairn_lastGasp_free (cause off : Nat) (h : s.cairn.lg.length < 64) :
    (s.lastGasp cause off).cairn = { s.cairn with lg := s.cairn.lg ++ [gaspEntry s cause off] } := by
  rw [lastGasp_free cause off h, cairn_showLg, withCairn_cairn]

/-- The state of a Cairn that has failed, before the failure is reported. -/
def flashLost (s : State) (b : CairnBad) : State :=
  let s1 := ((s.lastGasp b.cause.val b.off.toNat).wf CRN_STS.CAIRN_FAIL 1).wf CRN_STS.STATE 2
  (s1.withCairn { s1.cairn with dead := true }).inc CRN_CNT_FLASH_ERR.V
theorem flashLost_shows (b : CairnBad) :
    (s.flashLost b).rb CRN_STS.CAIRN_FAIL = true ∧ (s.flashLost b).rf CRN_STS.STATE = 2 ∧
    (s.flashLost b).reg CRN_CNT_FLASH_ERR.a = Word.ofN ((s.reg CRN_CNT_FLASH_ERR.a).toNat + 1) ∧
    (s.flashLost b).cairn = { (s.lastGasp b.cause.val b.off.toNat).cairn with dead := true } ∧
    frame s (s.flashLost b) [.cairn, .sticky] (fun a => 0x340000 ≤ a ∧ a < 0x341000) := by
  unfold flashLost
  extract_lets +onlyGivenNames s1
  have gasp := frame_lastGasp (s := s) b.cause.val b.off.toNat
  have fail1 : s1.rb CRN_STS.CAIRN_FAIL = true := (rb_wf_apart _ (by decide)).trans (rb_wf_one (by decide) (by decide))
  have state1 : s1.rf CRN_STS.STATE = 2 := rf_wf_fits (by decide) (by decide)
  have cairn1 : s1.cairn = (s.lastGasp b.cause.val b.off.toNat).cairn := by rw [wf_cairn, wf_cairn]
  have keeps1 : frame s s1 [.cairn] (fun a => 0x340000 ≤ a ∧ a < 0x340500) :=
    frame_trans gasp (frame_trans (frame_wf _ _ (by decide)) (frame_wf _ _ (by decide)))
  clear_value s1
  have last : frame s1 ((s1.withCairn { s1.cairn with dead := true }).inc CRN_CNT_FLASH_ERR.V) [.cairn, .sticky]
      (fun a => a = CRN_CNT_FLASH_ERR.a) := frame_trans (frame_withCairn _ (by decide)) (frame_inc CRN_CNT_FLASH_ERR.V rfl (by decide))
  refine ⟨(rb_of_frame last (by decide)).trans fail1, (rf_of_frame last (by decide)).trans state1, ?_, ?_,
    frame_trans (frame_mono keeps1 (by simp) fun _ h => ⟨h.1, Nat.lt_trans h.2 (by decide)⟩) (frame_mono last (fun _ m => m) ?_)⟩
  · refine (reg_count_self _ CRN_CNT_FLASH_ERR.V _).trans ?_
    rw [← keeps1.2.1 CRN_CNT_FLASH_ERR.a (by decide)]
    rfl
  · rw [inc_cairn, withCairn_cairn, cairn1]
  · rintro a rfl
    decide

theorem reg_of_rf {a : Nat} (h : t.rf ⟨a, 0, 64⟩ = s.rf ⟨a, 0, 64⟩) : t.reg a = s.reg a := by
  simp only [rf, Word.field, Nat.pow_zero, Nat.div_one, Nat.mod_eq_of_lt (BitVec.isLt _)] at h
  exact BitVec.eq_of_toNat_eq h

/-- What a failure leaves. -/
def cairnFailed (s t : State) (b : CairnBad) : Prop :=
  t.rb CRN_STS.CAIRN_FAIL = true ∧ t.rf CRN_STS.STATE = 2 ∧ t.cairn.dead = true ∧
  t.reg CRN_CNT_FLASH_ERR.a = Word.ofN ((s.reg CRN_CNT_FLASH_ERR.a).toNat + 1) ∧ s.noted t clLOG 0x30 1 0 ∧
  (s.cairn.lg.length < 64 → ∃ e, t.cairn.lg = s.cairn.lg ++ [e] ∧ e.length = 16 ∧ e.getD 8 0 = BitVec.ofNat 8 b.cause ∧
    leAt e 10 4 = b.off.toNat) ∧
  (64 ≤ s.cairn.lg.length → t.cairn.lg = s.cairn.lg) ∧ t.cairn.log = s.cairn.log ∧ t.cairn.copyA = s.cairn.copyA ∧
  t.cairn.copyB = s.cairn.copyB

theorem cairnFail_fails (b : CairnBad) : cairnFailed s (s.cairnFail b) b ∧ ∃ l, (s.cairnFail b).cairn.buf = s.cairn.buf ++ l := by
  have reported : s.cairnFail b = (s.flashLost b).report ⟨clLOG, 0x30, 1, stOK, unitHub 2, 0, bytesLE 4 b.cause.val ++ bytesLE 4 b.off.toNat⟩ := rfl
  obtain ⟨fail, state, errors, cairn, keeps⟩ := flashLost_shows (s := s) b
  obtain ⟨l, grows⟩ := cairnGrows_report (s := s.flashLost b) ⟨clLOG, 0x30, 1, stOK, unitHub 2, 0, bytesLE 4 b.cause.val ++ bytesLE 4 b.off.toNat⟩
  have quiet {x : Rf} (h : quietField x) : (s.cairnFail b).rf x = (s.flashLost b).rf x := by
    rw [reported]
    exact rf_report_quiet h (show clLOG < 256 by decide)
  rw [← reported] at grows
  have told : s.noted (s.cairnFail b) clLOG 0x30 1 0 := by
    rw [reported]
    refine noted_of_sent (sent_of_frame keeps (by decide) ?_) (noted_report (show 1 < 2 by decide))
    rintro a (rfl | rfl) <;> decide
  generalize s.cairnFail b = t at grows told quiet ⊢
  have gasp : (s.lastGasp b.cause.val b.off.toNat).cairn = { s.cairn with lg := (s.lastGasp b.cause.val b.off.toNat).cairn.lg } := by
    by_cases h : s.cairn.lg.length < 64
    · rw [cairn_lastGasp_free _ _ h]
    · rw [lastGasp_full _ _ (by omega)]
  rw [cairn] at grows
  refine ⟨⟨?_, (quiet (.inr (.inl ⟨rfl, by decide⟩))).trans state, by rw [grows], ?_, told, fun h => ⟨gaspEntry s b.cause b.off.toNat, ?_,
    gaspEntry_shows _ _ b.off.isLt⟩, fun h => ?_, ?_, ?_, ?_⟩, l, ?_⟩
  · rw [rb, quiet (.inr (.inl ⟨rfl, by decide⟩)), ← rb, fail]
  · exact (reg_of_rf (a := CRN_CNT_FLASH_ERR.a) (quiet (.inr (.inr rfl)))).trans errors
  · rw [grows, cairn_lastGasp_free _ _ h]
  · rw [grows, lastGasp_full _ _ h]
  · rw [grows, gasp]
  · rw [grows, gasp]
  · rw [grows, gasp]
  · rw [grows, gasp]
end State
end Sys2Proof.Machine
end

section
/-! PROOF. Checkpoints, the record log, the commands of CRN_CMD and the lifetime sample (R560 to R562). -/
namespace Sys2Proof

/-- A whole word written. -/
theorem Word.withField_whole (w : Word) (n : Nat) : w.withField 0 64 n = Word.ofN n := by
  apply BitVec.eq_of_toNat_eq
  rw [Word.withField_toNat _ _ _ _ (by decide), Word.ofN, BitVec.toNat_ofNat, Nat.pow_zero, Nat.mod_one, Nat.add_zero, Nat.mul_one,
    Nat.zero_add, Nat.div_eq_of_lt w.isLt, Nat.zero_mul, Nat.zero_add]

namespace Machine
namespace State
variable {s t u : State}

theorem reg_wf_whole (a n : Nat) : (s.wf ⟨a, 0, 64⟩ n).reg a = Word.ofN n := (reg_wf_self s ⟨a, 0, 64⟩ n).trans (Word.withField_whole ..)

/-! ## Checkpoints (R560) -/

/-- Cairn runs. -/
abbrev cairnLive (s : State) : Prop := s.rf CRN_STS.STATE = 1 ∧ s.cairn.dead = false
theorem cairnLive_iff : ¬ cairnLive s ↔ (s.rf CRN_STS.STATE != 1 || s.cairn.dead) = true := by
  simp only [cairnLive, Bool.or_eq_true, bne_iff_ne, ne_eq]
  cases s.cairn.dead <;> simp

theorem checkpoint_stopped (h : ¬ cairnLive s) (bad : Option CairnBad) : s.checkpoint bad = (stREJECT, s) := by
  unfold checkpoint
  exact if_pos (cairnLive_iff.mp h)
theorem checkpoint_fails (h : cairnLive s) (b : CairnBad) : s.checkpoint (some b) = (stREJECT, s.cairnFail b) := by
  unfold checkpoint
  exact if_neg fun k => cairnLive_iff.mpr k h

/-- What a checkpoint leaves: the image under the next generation in the place of the older copy. -/
def imageKept (s t : State) : Prop :=
  t.reg CRN_GEN.a = Word.ofN (s.rf CRN_GEN.V + 1) ∧
  (∀ x y, s.cairn.copyA = some x → s.cairn.copyB = some y →
    (y.gen < x.gen → t.cairn.copyB = some ⟨s.rf CRN_GEN.V + 1, Config.serial, s.lifeWords⟩ ∧ t.cairn.copyA = some x) ∧
    (x.gen ≤ y.gen → t.cairn.copyA = some ⟨s.rf CRN_GEN.V + 1, Config.serial, s.lifeWords⟩ ∧ t.cairn.copyB = some y)) ∧
  (s.cairn.buf.length < 1024 → ∃ r, t.cairn.buf = s.cairn.buf ++ [r] ∧ r.kind = 7) ∧ t.cairn.log = s.cairn.log

theorem reg_cairnRec {a : Nat} (kind time : Nat) (body : List Byte) (h1 : a ≠ CRN_STS.a) (h2 : a ≠ CRN_CNT_DROP.a) (h3 : a ≠ CRN_LIFE.a 17) :
    (s.cairnRec kind time body).reg a = s.reg a := by
  rw [cairnRec]
  split
  · exact (reg_count_ne _ (CRN_LIFE.V 17) 1 a h3).trans (reg_count_ne _ CRN_CNT_DROP.V 1 a h2)
  · exact reg_wf_ne _ CRN_STS.BUF _ a h1
theorem buf_cairnRec (kind time : Nat) (body : List Byte) (h : s.cairn.buf.length < 1024) :
    (s.cairnRec kind time body).cairn.buf = s.cairn.buf ++ [⟨kind, time, padTo 36 0 body⟩] := by
  rw [cairnRec, if_neg (by omega), wf_cairn, withCairn_cairn]

theorem checkpoint_keeps (h : cairnLive s) : (s.checkpoint none).1 = stOK ∧ imageKept s (s.checkpoint none).2 := by
  unfold checkpoint
  rw [if_neg fun k => cairnLive_iff.mpr k h]
  extract_lets g c toB _ s1
  have gen : s1.reg CRN_GEN.a = Word.ofN g := (reg_wf_ne _ (CRN_LIFE.V 0) _ _ (by decide)).trans (reg_wf_whole CRN_GEN.a g)
  have cairn1 : s1.cairn = { s.cairn with copyA := if toB then s.cairn.copyA else some c, copyB := if toB then some c else s.cairn.copyB } := by
    exact (wf_cairn ..).trans ((wf_cairn ..).trans (withCairn_cairn ..))
  clear_value s1
  obtain ⟨l, grows⟩ := cairnGrows_cairnRec (s := s1) 7 s.now (bytesLE 8 g ++ bytesLE 1 (b2n toB))
  refine ⟨rfl, (reg_cairnRec _ _ _ (by decide) (by decide) (by decide)).trans gen, fun x y hx hy => ?_,
    fun hl => ⟨⟨7, s.now, padTo 36 0 (bytesLE 8 g ++ bytesLE 1 (b2n toB))⟩, ?_, rfl⟩, ?_⟩
  · have newer : toB = decide (y.gen < x.gen) := by
      simp only [toB, hx, hy]
    rw [grows, cairn1, newer]
    exact ⟨fun lt => by simp [lt, hx, c, g], fun le => by simp [Nat.not_lt.mpr le, hy, c, g]⟩
  · rw [buf_cairnRec _ _ _ (by rw [cairn1]; exact hl), cairn1]
  · rw [grows, cairn1]

/-! ## The log (R561, R562) -/

theorem cairnProgram_stopped (h : ¬ cairnLive s) (bad : Option CairnBad) : s.cairnProgram bad = s := by
  unfold cairnProgram
  exact if_pos (cairnLive_iff.mp h)
theorem cairnProgram_empty (h : s.cairn.buf = []) (bad : Option CairnBad) : s.cairnProgram bad = s := by
  unfold cairnProgram
  rw [h]
  exact ite_self _
theorem cairnProgram_fails {r : CairnRec} {rest : List CairnRec} (h : cairnLive s) (hb : s.cairn.buf = r :: rest) (b : CairnBad) :
    s.cairnProgram (some b) = s.cairnFail b := by
  unfold cairnProgram
  rw [hb]
  exact if_neg fun k => cairnLive_iff.mpr k h

/-- A record as it is programmed, without its CRC. -/
def programmed (s : State) (r : CairnRec) : List Byte :=
  bytesLE 1 r.kind ++ bytesLE 1 1 ++ bytesLE 2 0 ++ bytesLE 4 (s.rf (CRN_LIFE.V 3)) ++ bytesLE 8 r.time ++ bytesLE 8 (s.rf CRN_SEQ_NEXT.V) ++ r.body
/-- A slice of a list between two others. -/
theorem slice_append {α : Type} {a b c : List α} {i k : Nat} (ha : a.length = i) (hb : b.length = k) : ((a ++ (b ++ c)).drop i).take k = b := by
  rw [List.drop_left' ha, List.take_left' hb]
theorem programmed_shows {r : CairnRec} (h : r.body.length = 36) :
    let e := programmed s r ++ bytesLE 4 (crc32c 0 (programmed s r))
    e.length = 64 ∧ e.take 1 = bytesLE 1 r.kind ∧ (e.drop 8).take 8 = bytesLE 8 r.time ∧ (e.drop 16).take 8 = bytesLE 8 (s.rf CRN_SEQ_NEXT.V) ∧
    (e.drop 24).take 36 = r.body ∧ e.drop 60 = bytesLE 4 (crc32c 0 (e.take 60)) := by
  intro e
  have whole : (programmed s r).length = 60 := by simp only [programmed, List.length_append, length_bytesLE, h]
  have head : (bytesLE 1 r.kind ++ bytesLE 1 1 ++ bytesLE 2 0 ++ bytesLE 4 (s.rf (CRN_LIFE.V 3))).length = 8 := by
    simp only [List.length_append, length_bytesLE]
  refine ⟨by simp only [e, List.length_append, whole, length_bytesLE], ?_, ?_, ?_, ?_, ?_⟩
  · simp only [e, programmed, List.append_assoc]
    exact List.take_left' (length_bytesLE ..)
  · rw [show e = (bytesLE 1 r.kind ++ bytesLE 1 1 ++ bytesLE 2 0 ++ bytesLE 4 (s.rf (CRN_LIFE.V 3))) ++ (bytesLE 8 r.time ++ _) by
      simp only [e, programmed, List.append_assoc]; rfl]
    exact slice_append head (length_bytesLE ..)
  · rw [show e = (bytesLE 1 r.kind ++ bytesLE 1 1 ++ bytesLE 2 0 ++ bytesLE 4 (s.rf (CRN_LIFE.V 3)) ++ bytesLE 8 r.time) ++
        (bytesLE 8 (s.rf CRN_SEQ_NEXT.V) ++ _) by simp only [e, programmed, List.append_assoc]; rfl]
    exact slice_append (by rw [List.length_append, head, length_bytesLE]) (length_bytesLE ..)
  · rw [show e = (bytesLE 1 r.kind ++ bytesLE 1 1 ++ bytesLE 2 0 ++ bytesLE 4 (s.rf (CRN_LIFE.V 3)) ++ bytesLE 8 r.time ++
        bytesLE 8 (s.rf CRN_SEQ_NEXT.V)) ++ (r.body ++ _) by simp only [e, programmed, List.append_assoc]; rfl]
    exact slice_append (by rw [List.length_append, List.length_append, head, length_bytesLE, length_bytesLE]) h
  · rw [List.take_left' whole, List.drop_left' whole]

/-- The oldest record that is kept when the next one is programmed. -/
def logFirst (s : State) : Nat :=
  if logRecords ≤ s.rf CRN_SEQ_NEXT.V - s.rf CRN_SEQ_FIRST.V then s.rf CRN_SEQ_FIRST.V + sectorRecords else s.rf CRN_SEQ_FIRST.V
/-- The log with one more record in it. -/
def logKept (s : State) (r : CairnRec) : List (Nat × List Byte) :=
  s.cairn.log.filter (fun x => decide (s.logFirst ≤ x.1)) ++ [(s.rf CRN_SEQ_NEXT.V, programmed s r ++ bytesLE 4 (crc32c 0 (programmed s r)))]
theorem cairnProgram_one {r : CairnRec} {rest : List CairnRec} (h : cairnLive s) (hb : s.cairn.buf = r :: rest) :
    s.cairnProgram none = ((((s.withCairn { s.cairn with buf := rest, log := s.logKept r }).wf CRN_SEQ_FIRST.V s.logFirst).wf CRN_SEQ_NEXT.V
      (s.rf CRN_SEQ_NEXT.V + 1)).wf CRN_STS.BUF rest.length).inc CRN_CNT_REC.V := by
  unfold cairnProgram
  rw [hb]
  exact if_neg fun k => cairnLive_iff.mpr k h
theorem cairnProgram_keeps {r : CairnRec} {rest : List CairnRec} {q : Nat} (h : cairnLive s) (hb : s.cairn.buf = r :: rest)
    (hr : r.body.length = 36) (hq : q = s.rf CRN_SEQ_NEXT.V) :
    let t := s.cairnProgram none
    t.cairn.buf = rest ∧ t.reg CRN_SEQ_NEXT.a = Word.ofN (q + 1) ∧ t.reg CRN_CNT_REC.a = Word.ofN ((s.reg CRN_CNT_REC.a).toNat + 1) ∧
    (∃ e, t.cairn.log.getLast? = some (q, e) ∧ e.length = 64 ∧ e.take 1 = bytesLE 1 r.kind ∧ (e.drop 8).take 8 = bytesLE 8 r.time ∧
      (e.drop 16).take 8 = bytesLE 8 q ∧ (e.drop 24).take 36 = r.body ∧ e.drop 60 = bytesLE 4 (crc32c 0 (e.take 60))) ∧
    (q - s.rf CRN_SEQ_FIRST.V < logRecords → t.rf CRN_SEQ_FIRST.V = s.rf CRN_SEQ_FIRST.V) ∧
    (logRecords ≤ q - s.rf CRN_SEQ_FIRST.V → t.reg CRN_SEQ_FIRST.a = Word.ofN (s.rf CRN_SEQ_FIRST.V + 1023) ∧
      ∀ x ∈ t.cairn.log, s.rf CRN_SEQ_FIRST.V + 1023 ≤ x.1) ∧
    s.frame t [.cairn, .sticky] (fun a => 0x340000 ≤ a ∧ a < 0x341000) := by
  subst hq
  intro t
  have ran := cairnProgram_one h hb
  change t = _ at ran
  clear_value t
  generalize entry : s.logKept r = l at ran
  generalize bound : s.logFirst = f at ran
  rw [logKept, bound] at entry
  have cairn : t.cairn = { s.cairn with buf := rest, log := l } := by
    rw [ran, inc_cairn, wf_cairn, wf_cairn, wf_cairn, withCairn_cairn]
  have next : t.reg CRN_SEQ_NEXT.a = Word.ofN (s.rf CRN_SEQ_NEXT.V + 1) := by
    rw [ran]
    exact (reg_count_ne _ CRN_CNT_REC.V 1 _ (by decide)).trans ((reg_wf_ne _ CRN_STS.BUF _ _ (by decide)).trans (reg_wf_whole ..))
  have oldest : t.reg CRN_SEQ_FIRST.a = Word.ofN f := by
    rw [ran]
    exact (reg_count_ne _ CRN_CNT_REC.V 1 _ (by decide)).trans ((reg_wf_ne _ CRN_STS.BUF _ _ (by decide)).trans
      ((reg_wf_ne _ CRN_SEQ_NEXT.V _ _ (by decide)).trans (reg_wf_whole ..)))
  have counted : t.reg CRN_CNT_REC.a = Word.ofN ((s.reg CRN_CNT_REC.a).toNat + 1) := by
    rw [ran]
    refine (reg_count_self _ CRN_CNT_REC.V 1).trans ?_
    rw [reg_wf_ne _ _ _ _ (by decide), reg_wf_ne _ _ _ _ (by decide), reg_wf_ne _ _ _ _ (by decide)]
    rfl
  have keeps : s.frame t [.cairn, .sticky] (fun a => 0x340000 ≤ a ∧ a < 0x341000) := by
    rw [ran]
    exact frame_trans (frame_withCairn _ (by decide)) (frame_trans (frame_wf _ _ (by decide)) (frame_trans (frame_wf _ _ (by decide))
      (frame_trans (frame_wf _ _ (by decide)) (frame_inc CRN_CNT_REC.V (by decide) (by decide)))))
  clear ran
  refine ⟨by rw [cairn], next, counted, ⟨_, ?_, programmed_shows hr⟩, fun lt => ?_, fun le => ?_, keeps⟩
  · rw [cairn, ← entry, List.getLast?_concat]
  · have same : f = s.rf CRN_SEQ_FIRST.V := bound.symm.trans (if_neg (Nat.not_le.mpr lt))
    rw [rf, show CRN_SEQ_FIRST.V.a = CRN_SEQ_FIRST.a from rfl, oldest, same]
    exact (Word.field_ofN _ _ _ (by decide)).trans ((congrArg (· % 2 ^ 64) (Nat.div_one _)).trans (Nat.mod_eq_of_lt (field_lt ..)))
  · have moved : f = s.rf CRN_SEQ_FIRST.V + 1023 := bound.symm.trans (if_pos le)
    rw [← moved]
    refine ⟨oldest, fun x hx => ?_⟩
    rw [cairn, ← entry] at hx
    rcases List.mem_append.mp hx with hx | hx
    · exact of_decide_eq_true (List.mem_filter.mp hx).2
    · rw [List.mem_singleton.mp hx, moved]
      have far : 516615 ≤ s.rf CRN_SEQ_NEXT.V - s.rf CRN_SEQ_FIRST.V := le
      change _ ≤ s.rf CRN_SEQ_NEXT.V
      omega

/-! ## The commands of CRN_CMD (R562) -/

theorem writeCrnCmd_ckpt (bad : Option CairnBad) :
    s.writeCrnCmd 1 bad = (s.checkpoint bad).2.wf CRN_CMD.STATUS (s.checkpoint bad).1 := by
  simp only [writeCrnCmd, show ((1 : Word).field 2 1 == 1) = false by decide, show ((1 : Word).field 1 1 == 1) = false by decide,
    show ((1 : Word).field 0 1 == 1) = true by decide, Bool.false_eq_true, if_false, if_true]
theorem writeCrnCmd_rd (bad : Option CairnBad) : s.writeCrnCmd 2 bad = s.cairnRead.2.wf CRN_CMD.STATUS s.cairnRead.1 := by
  simp only [writeCrnCmd, show ((2 : Word).field 2 1 == 1) = false by decide, show ((2 : Word).field 1 1 == 1) = true by decide,
    show ((2 : Word).field 0 1 == 1) = false by decide, Bool.false_eq_true, if_false, if_true]
theorem writeCrnCmd_format (bad : Option CairnBad) :
    s.writeCrnCmd 4 bad = (s.cairnFormat bad).2.wf CRN_CMD.STATUS (s.cairnFormat bad).1 := by
  simp only [writeCrnCmd, show ((4 : Word).field 2 1 == 1) = true by decide, show ((4 : Word).field 1 1 == 1) = false by decide,
    show ((4 : Word).field 0 1 == 1) = false by decide, Bool.false_eq_true, if_false, if_true]

theorem ckpt_keeps (h : cairnLive s) : imageKept s (s.writeCrnCmd 1 none) ∧ (s.writeCrnCmd 1 none).rf CRN_CMD.STATUS = 0 := by
  obtain ⟨ok, gen, copies, buf, log⟩ := checkpoint_keeps h
  rw [writeCrnCmd_ckpt, ok]
  refine ⟨⟨(reg_wf_ne _ CRN_CMD.STATUS _ _ (by decide)).trans gen, ?_, ?_, ?_⟩, rf_wf_fits (by decide) (by decide)⟩
  · rwa [wf_cairn]
  · rwa [wf_cairn]
  · rwa [wf_cairn]
theorem ckpt_stopped (h : ¬ cairnLive s) :
    (s.writeCrnCmd 1 none).rf CRN_CMD.STATUS = 0x0E ∧ s.frame (s.writeCrnCmd 1 none) [] (fun a => a = CRN_CMD.a) := by
  rw [writeCrnCmd_ckpt, checkpoint_stopped h]
  exact ⟨rf_wf_fits (by decide) (show stREJECT < 256 by decide), frame_wf _ _ rfl⟩
theorem rd_found {bs : List Byte} (h : lookupKey s.cairn.log (s.rf CRN_RD_SEQ.V) = some bs) :
    (s.writeCrnCmd 2 none).rf CRN_CMD.STATUS = 0 ∧ (∀ w, w < 8 → (s.writeCrnCmd 2 none).reg (CRN_RD_DATA.a w) = Word.ofN (leAt bs (8 * w) 8)) ∧
    s.frame (s.writeCrnCmd 2 none) [] (fun a => a = CRN_CMD.a ∨ ∃ w, w < 8 ∧ a = CRN_RD_DATA.a w) := by
  have read : s.cairnRead = (stOK, (List.range 8).foldl (fun t w => t.setReg (CRN_RD_DATA.a w) (Word.ofN (leAt bs (8 * w) 8))) s) := by
    rw [cairnRead, h]
  rw [writeCrnCmd_rd, read]
  have distinct : Function.Injective CRN_RD_DATA.a := fun a b e => by simp only [CRN_RD_DATA.a] at e; omega
  refine ⟨rf_wf_fits (by decide) (show stOK < 256 by decide), fun w hw => ?_, frame_trans (frame_mono (frame_setRegs CRN_RD_DATA.a _ _ s) (fun _ m => m) ?_)
    (frame_wf _ _ (.inl rfl))⟩
  · refine (reg_wf_ne _ CRN_CMD.STATUS _ _ ?_).trans
      (reg_setRegs distinct (fun w => Word.ofN (leAt bs (8 * w) 8)) (List.mem_range.mpr hw) s)
    simp only [CRN_RD_DATA.a, CRN_CMD.STATUS, CRN_CMD.a]
    omega
  · exact fun _ ⟨w, hw, e⟩ => .inr ⟨w, List.mem_range.mp hw, e⟩
theorem rd_absent (h : lookupKey s.cairn.log (s.rf CRN_RD_SEQ.V) = none) :
    (s.writeCrnCmd 2 none).rf CRN_CMD.STATUS = 0x0E ∧ s.frame (s.writeCrnCmd 2 none) [] (fun a => a = CRN_CMD.a) := by
  rw [writeCrnCmd_rd, show s.cairnRead = (stREJECT, s) by rw [cairnRead, h]]
  exact ⟨rf_wf_fits (by decide) (show stREJECT < 256 by decide), frame_wf _ _ rfl⟩

/-- The registers of the lifetime image. -/
abbrev lifeReg (a : Nat) : Prop := 0x350000 ≤ a ∧ a < 0x370000
theorem frame_freshImage : s.frame s.freshImage [] (fun a => a = CRN_GEN.a ∨ lifeReg a) := by
  refine frame_trans (frame_trans (frame_foldl fun t x hx => frame_setReg _ _ (.inr ?_)) (frame_setReg _ _ (.inr (by decide))))
    (frame_trans (frame_wf _ _ (.inl rfl)) (frame_wf _ _ (.inr (by decide))))
  obtain ⟨p, -, hp⟩ := List.mem_filterMap.mp hx
  split at hp
  · next inside =>
    rw [Bool.and_eq_true, decide_eq_true_iff, decide_eq_true_iff] at inside
    rw [← Option.some.inj hp]
    simp only [CRN_LIFE.a, lifeReg] at inside ⊢
    omega
  · cases hp
/-- Cairn's log and copies cleared, and a fresh image started. -/
def cleared (s : State) : State :=
  ((((s.withCairn { s.cairn with log := [], copyA := none, copyB := none, dead := false }).wf CRN_STS.CAIRN_FAIL 0).wf CRN_STS.STATE 1).wf
    CRN_STS.FRESH 1).freshImage
theorem frame_cleared : s.frame s.cleared [.cairn] (fun a => (0x340000 ≤ a ∧ a < 0x341000) ∨ lifeReg a) := by
  refine frame_trans (frame_withCairn _ (by decide)) (frame_trans (frame_trans (frame_wf _ _ ?_) (frame_trans
    (frame_wf _ _ ?_) (frame_wf _ _ ?_))) (frame_mono frame_freshImage (by simp) ?_))
  · exact .inl (by decide)
  · exact .inl (by decide)
  · exact .inl (by decide)
  · rintro a (rfl | h)
    · exact .inl (by decide)
    · exact .inr h
theorem cleared_shows :
    s.cleared.rf CRN_GEN.V = 0 ∧ s.cleared.rf CRN_STS.STATE = 1 ∧ s.cleared.rb CRN_STS.CAIRN_FAIL = false ∧
    s.cleared.rb CRN_STS.FRESH = true ∧ s.cleared.cairn = { s.cairn with log := [], copyA := none, copyB := none, dead := false } := by
  rw [cleared]
  have emptied := withCairn_cairn s { s.cairn with log := [], copyA := none, copyB := none, dead := false }
  generalize s.withCairn _ = s1 at emptied ⊢
  have gen (u : State) : u.freshImage.rf CRN_GEN.V = 0 := (rf_wf_apart _ (by decide)).trans (rf_wf_fits (by decide) (by decide))
  have image := frame_freshImage (s := ((s1.wf CRN_STS.CAIRN_FAIL 0).wf CRN_STS.STATE 1).wf CRN_STS.FRESH 1)
  refine ⟨gen _, (rf_of_frame (x := CRN_STS.STATE) image (by decide)).trans ((rf_wf_apart _ (by decide)).trans
    (rf_wf_fits (by decide) (by decide))), (rb_of_frame (x := CRN_STS.CAIRN_FAIL) image (by decide)).trans ((rb_wf_apart _ (by decide)).trans
    ((rb_wf_apart _ (by decide)).trans (rb_wf_zero (by decide)))), (rb_of_frame (x := CRN_STS.FRESH) image (by decide)).trans
    (rb_wf_one (by decide) (by decide)),
    (image.1 .cairn (by decide)).trans ((wf_cairn ..).trans ((wf_cairn ..).trans ((wf_cairn ..).trans emptied)))⟩
theorem format_keeps :
    let t := s.writeCrnCmd 4 none
    t.rf CRN_CMD.STATUS = 0 ∧ t.cairn.log = [] ∧ t.cairn.copyA = none ∧ t.cairn.copyB = none ∧ t.rf CRN_GEN.V = 0 ∧
    t.rf CRN_STS.STATE = 1 ∧ t.rb CRN_STS.CAIRN_FAIL = false ∧ t.rb CRN_STS.FRESH = true ∧
    s.frame t [.cairn] (fun a => (0x340000 ≤ a ∧ a < 0x341000) ∨ (0x350000 ≤ a ∧ a < 0x370000)) := by
  intro t
  have ran : t = ((s.cleared.wf CRN_SEQ_FIRST.V 0).wf CRN_SEQ_NEXT.V 0).wf CRN_CMD.STATUS stOK := writeCrnCmd_format none
  obtain ⟨gen, state, fail, fresh, cairn⟩ := cleared_shows (s := s)
  have keeps := frame_cleared (s := s)
  generalize s.cleared = s2 at ran gen state fail fresh cairn keeps
  clear_value t
  have last : s2.frame t [] (fun a => a = CRN_CMD.a ∨ a = CRN_SEQ_FIRST.a ∨ a = CRN_SEQ_NEXT.a) := by
    rw [ran]
    exact frame_trans (frame_trans (frame_wf _ _ (.inr (.inl rfl))) (frame_wf _ _ (.inr (.inr rfl)))) (frame_wf _ _ (.inl rfl))
  have told : t.rf CRN_CMD.STATUS = 0 := by
    rw [ran]
    exact rf_wf_fits (by decide) (show stOK < 256 by decide)
  have same : t.cairn = s2.cairn := last.1 .cairn (by decide)
  refine ⟨told, by rw [same, cairn], by rw [same, cairn], by rw [same, cairn], (rf_of_frame last (by decide)).trans gen,
    (rf_of_frame last (by decide)).trans state, (rb_of_frame last (by decide)).trans fail, (rb_of_frame last (by decide)).trans fresh,
    frame_trans keeps (frame_mono last (by simp) ?_)⟩
  rintro a (rfl | rfl | rfl)
  · exact .inl (by decide)
  · exact .inl (by decide)
  · exact .inl (by decide)

/-! ## The lifetime sample (R560) -/

/-- The lifetime counters of one crux die: the bin of its temperature and the bin of its voltage. -/
def dieBins (s : State) (n : Nat) : List Nat :=
  [0x040 + 32 * n + min 31 (s.rf (PWR_DIE_STS.TJ_C n) / 5), 0x240 + 16 * n + min 15 ((s.rf (PWR_DIE_STS.VSET_MV n) - 650) * 2 / 25)]
/-- The lifetime counters a sample counts in. -/
def lifeBins (s : State) (temps : List (BitVec 8)) : List Nat :=
  2 :: ((List.range 16).flatMap s.dieBins ++ (0x340 + min 31 (s.rf PWR_STS.EST_W / 125)) ::
    (List.range 12).map fun i => 0x360 + 16 * i + min 15 ((temps.getD i 0).toNat / 8))
/-- The histogram a lifetime counter is of: a die's temperatures, its voltages, the power estimate, a stack's temperatures. -/
def lifeHist (i : Nat) : Nat :=
  if i < 0x40 then 0 else if i < 0x240 then 1 + (i - 0x40) / 32 else if i < 0x340 then 17 + (i - 0x240) / 16 else
    if i < 0x360 then 33 else 34 + (i - 0x360) / 16

theorem lifeHist_bins (temps : List (BitVec 8)) :
    (s.lifeBins temps).map lifeHist = 0 :: ((List.range 16).flatMap (fun n => [1 + n, 17 + n]) ++ 33 :: (List.range 12).map (34 + ·)) := by
  have die : ∀ n ∈ List.range 16, (s.dieBins n).map lifeHist = [1 + n, 17 + n] := fun n hn => by
    have n16 := List.mem_range.mp hn
    simp only [dieBins, List.map_cons, List.map_nil, lifeHist, List.cons.injEq, and_true]
    exact ⟨by split_ifs <;> omega, by split_ifs <;> omega⟩
  have stack : ∀ i ∈ List.range 12, lifeHist (0x360 + 16 * i + min 15 ((temps.getD i 0).toNat / 8)) = 34 + i := fun i _ => by
    simp only [lifeHist]
    split_ifs <;> omega
  have power : lifeHist (0x340 + min 31 (s.rf PWR_STS.EST_W / 125)) = 33 := by
    simp only [lifeHist]
    split_ifs <;> omega
  rw [lifeBins, List.map_cons, List.map_append, List.map_cons, List.map_flatMap, List.map_map, power, List.flatMap_congr die,
    show lifeHist 2 = 0 by decide]
  exact congrArg (fun l => 0 :: (_ ++ 33 :: l)) (List.map_congr_left stack)
/-- A sample counts in each counter at most once. -/
theorem lifeBins_nodup (temps : List (BitVec 8)) : (s.lifeBins temps).Nodup :=
  List.Nodup.of_map lifeHist (by rw [lifeHist_bins]; decide)

theorem lifeBins_range {temps : List (BitVec 8)} {i : Nat} (h : i ∈ s.lifeBins temps) : 2 ≤ i ∧ i < 0x420 := by
  rw [lifeBins, List.mem_cons, List.mem_append, List.mem_flatMap, List.mem_cons, List.mem_map] at h
  rcases h with rfl | ⟨n, hn, h⟩ | rfl | ⟨n, hn, rfl⟩
  · omega
  · have n16 := List.mem_range.mp hn
    simp only [dieBins, List.mem_cons, List.not_mem_nil, or_false] at h
    omega
  · omega
  · have n12 := List.mem_range.mp hn
    omega
theorem frame_lifeIncs {l : List Nat} (h : ∀ i ∈ l, 2 ≤ i ∧ i < 0x420) :
    s.frame (l.foldl lifeInc s) [.sticky] (fun a => CRN_LIFE.a 2 ≤ a ∧ a < CRN_LIFE.a 0x420) :=
  frame_foldl fun t i hi => frame_inc (CRN_LIFE.V i) (by
    have := h i hi
    simp only [CRN_LIFE.V, CRN_LIFE.a]
    omega) (by decide)
theorem reg_lifeIncs {l : List Nat} {i : Nat} (once : l.Nodup) (h : i ∈ l) :
    (l.foldl lifeInc s).reg (CRN_LIFE.a i) = Word.ofN ((s.reg (CRN_LIFE.a i)).toNat + 1) := by
  have apart {j : Nat} (ne : i ≠ j) : CRN_LIFE.a i ≠ (CRN_LIFE.V j).a := fun e => ne (by simp only [CRN_LIFE.V, CRN_LIFE.a] at e; omega)
  have others (l : List Nat) (out : i ∉ l) (t : State) : (l.foldl lifeInc t).reg (CRN_LIFE.a i) = t.reg (CRN_LIFE.a i) := by
    induction l generalizing t with
    | nil => rfl
    | cons j l ih =>
      rw [List.mem_cons, not_or] at out
      exact (ih out.2 _).trans (reg_count_ne _ (CRN_LIFE.V j) 1 _ (apart out.1))
  induction l generalizing s with
  | nil => cases h
  | cons j l ih =>
    obtain ⟨out, once⟩ := List.nodup_cons.mp once
    by_cases same : i = j
    · subst same
      exact (others l out _).trans (reg_count_self _ (CRN_LIFE.V i) 1)
    · refine (ih once ((List.mem_cons.mp h).resolve_left same)).trans ?_
      rw [lifeInc, inc, reg_count_ne _ (CRN_LIFE.V j) 1 _ (apart same)]

theorem rf_lifeInc {x : Rf} (i : Nat) (h : x.a < 0x350000) : (s.lifeInc i).rf x = s.rf x :=
  rf_of_frame (frame_inc (ch := [.sticky]) (rg := fun a => 0x350000 ≤ a) (CRN_LIFE.V i) (Nat.le_add_right ..) (by decide)) (Nat.not_le.mpr h)
theorem dieBins_lifeInc {n : Nat} (i : Nat) (h : n < 16) : (s.lifeInc i).dieBins n = s.dieBins n := by
  rw [dieBins, dieBins, rf_lifeInc _ (by simp only [PWR_DIE_STS.TJ_C, PWR_DIE_STS.a]; omega),
    rf_lifeInc _ (by simp only [PWR_DIE_STS.VSET_MV, PWR_DIE_STS.a]; omega)]
theorem dieBins_lifeIncs {n : Nat} (l : List Nat) (h : n < 16) : (l.foldl lifeInc s).dieBins n = s.dieBins n := by
  induction l generalizing s with
  | nil => rfl
  | cons i l ih => exact (ih (s := s.lifeInc i)).trans (dieBins_lifeInc i h)
theorem foldl_dieBins {l : List Nat} (h : ∀ n ∈ l, n < 16) :
    l.foldl (fun t n => (t.dieBins n).foldl lifeInc t) s = (l.flatMap s.dieBins).foldl lifeInc s := by
  induction l generalizing s with
  | nil => rw [List.flatMap_nil, List.foldl_nil, List.foldl_nil]
  | cons n l ih =>
    have rest := ih (s := (s.dieBins n).foldl lifeInc s) fun m hm => h m (List.mem_cons_of_mem _ hm)
    have same := List.flatMap_congr fun m hm => dieBins_lifeIncs (s := s) (s.dieBins n) (h m (List.mem_cons_of_mem _ hm))
    rw [same, ← List.foldl_append] at rest
    exact rest
theorem rf_lifeIncs {x : Rf} (l : List Nat) (h : x.a < 0x350000) : (l.foldl lifeInc s).rf x = s.rf x := by
  induction l generalizing s with
  | nil => rfl
  | cons i l ih => exact (ih (s := s.lifeInc i)).trans (rf_lifeInc i h)
theorem lifeSample_counts (hu : awake s) (temps : List (BitVec 8)) : s.lifeSample temps = (s.lifeBins temps).foldl lifeInc s := by
  have dies : (List.range 16).foldl (fun t n => (t.dieBins n).foldl lifeInc t) (s.lifeInc 2) =
      ((List.range 16).flatMap s.dieBins).foldl lifeInc (s.lifeInc 2) := by
    rw [foldl_dieBins fun n hn => List.mem_range.mp hn, List.flatMap_congr fun n hn => dieBins_lifeInc 2 (List.mem_range.mp hn)]
  have power : (((List.range 16).flatMap s.dieBins).foldl lifeInc (s.lifeInc 2)).rf PWR_STS.EST_W = s.rf PWR_STS.EST_W :=
    (rf_lifeIncs _ (by decide)).trans (rf_lifeInc _ (by decide))
  unfold lifeSample
  rw [hu, if_neg Bool.false_ne_true]
  extract_lets s1 s2 s3
  have h2 : s2 = ((List.range 16).flatMap s.dieBins).foldl lifeInc (s.lifeInc 2) := dies
  have h3 : s3 = (((List.range 16).flatMap s.dieBins).foldl lifeInc (s.lifeInc 2)).lifeInc (0x340 + min 31 (s.rf PWR_STS.EST_W / 125)) := by
    rw [← power, ← h2]
  rw [h3, lifeBins, List.foldl_cons, List.foldl_append, List.foldl_cons, List.foldl_map]
end State

theorem exec_cairnCheckpoint {s : State} (hu : awake s) (bad : Option CairnBad) :
    exec (.cairnCheckpoint bad) s = unheld s (s.checkpoint bad).2 :=
  congrArg (unheld s) (if_neg (by rw [hu]; exact Bool.false_ne_true))
theorem exec_cairnCheckpoint_fails {s : State} (hu : awake s) (h : s.cairnLive) (b : CairnBad) :
    exec (.cairnCheckpoint (some b)) s = unheld s (s.cairnFail b) := by
  rw [exec_cairnCheckpoint hu, State.checkpoint_fails h]

/-- Settles O59: checkpoints, the record log, its failures, the commands of CRN_CMD and the lifetime sample. -/
theorem cairn : Obligations.Cairn := by
  unfold Obligations.Cairn
  refine ⟨fun s src hu => ⟨fun h => ?_, fun h b => ?_, fun h => ⟨?_, fun b => ?_⟩, fun h => ?_,
    fun r rest q h hb hr hq => ⟨?_, fun b => ?_⟩, fun ho => ⟨fun h => ?_, fun h => ?_, fun bs h => ?_, fun h => ?_, ?_⟩⟩, fun s temps hu hl => ?_⟩
  · exact runs_unheld hu (exec_cairnCheckpoint hu none) (State.checkpoint_keeps h).2
  · exact runs_unheld hu (exec_cairnCheckpoint_fails hu h b) (State.cairnFail_fails b).1
  · exact runs_unheld hu (exec_cairnCheckpoint hu none) (congrArg Prod.snd (State.checkpoint_stopped h none))
  · exact runs_unheld hu rfl (State.cairnProgram_stopped h b)
  · exact runs_unheld hu rfl (State.cairnProgram_empty h none)
  · exact runs_unheld hu rfl (State.cairnProgram_keeps h hb hr hq)
  · exact runs_unheld hu (congrArg (unheld s) (State.cairnProgram_fails h hb b)) (State.cairnFail_fails b)
  · exact runs_write hu ho rfl (State.ckpt_keeps h)
  · exact runs_write hu ho rfl (State.ckpt_stopped h)
  · exact runs_write hu ho rfl (State.rd_found h)
  · exact runs_write hu ho rfl (State.rd_absent h)
  · exact runs_write hu ho rfl State.format_keeps
  · intro up
    have counts : exec (.lifetimeSample temps) s = unheld s ((s.lifeBins temps).foldl State.lifeInc s) := by
      rw [← State.lifeSample_counts hu]
      exact if_pos hl
    have each {i : Nat} (h : i ∈ s.lifeBins temps) : up ((s.lifeBins temps).foldl State.lifeInc s) i :=
      State.reg_lifeIncs (State.lifeBins_nodup temps) h
    have die {n i : Nat} (hn : n < 16) (h : i ∈ s.dieBins n) : i ∈ s.lifeBins temps :=
      List.mem_cons_of_mem _ (List.mem_append_left _ (List.mem_flatMap.mpr ⟨n, List.mem_range.mpr hn, h⟩))
    refine runs_unheld hu counts ⟨each List.mem_cons_self, fun n hn => ⟨each (die hn List.mem_cons_self), fun _ => ?_⟩,
      each (List.mem_cons_of_mem _ (List.mem_append_right _ List.mem_cons_self)), fun i tj hi => ?_, State.frame_lifeIncs fun i hi => ?_⟩
    · rw [show (s.rf (PWR_DIE_STS.VSET_MV n) - 650) * 10 / 125 = (s.rf (PWR_DIE_STS.VSET_MV n) - 650) * 2 / 25 by omega]
      exact each (die hn (List.mem_cons_of_mem _ List.mem_cons_self))
    · have i12 : i < 12 := hl ▸ (List.getElem?_eq_some_iff.mp hi).1
      refine each (List.mem_cons_of_mem _ (List.mem_append_right _ (List.mem_cons_of_mem _ (List.mem_map.mpr ⟨i, List.mem_range.mpr i12, ?_⟩))))
      rw [List.getD_eq_getElem?_getD, hi, Option.getD_some]
    · exact State.lifeBins_range hi
end Machine
end Sys2Proof
end
section
/-! PROOF. Scrub visits, uncorrectable words and pitons (R447 to R451). -/
namespace Sys2Proof.Machine
namespace State
variable {s t : State}

/-! ## Reports while the fault ring is off -/

theorem rb_ring_unrecorded (h : t.reg HUB_FAULT_RING.a = s.reg HUB_FAULT_RING.a) : t.rb HUB_FAULT_RING.EN = s.rb HUB_FAULT_RING.EN := by
  rw [rb, rb, rf, rf, show HUB_FAULT_RING.EN.a = HUB_FAULT_RING.a from rfl, h]
theorem ringRecord_off (h : s.rb HUB_FAULT_RING.EN = false) (bs : List Byte) : s.ringRecord bs = s := by
  rw [ringRecord, h]
  exact if_pos rfl
theorem mem_cairnFault (sev last : Nat) (bs : List Byte) : (s.cairnFault sev last bs).mem = s.mem := by
  unfold cairnFault
  extract_lets sec n
  split
  · rfl
  · split
    · rw [inc_mem, withCairn_mem]
    · exact ((frame_cairnRec ..).1 .mem (by decide)).trans (withCairn_mem ..)
theorem mem_sendRecord (h : s.rb HUB_FAULT_RING.EN = false) (r : FaultRec) (n f l : Nat) : (s.sendRecord r n f l).mem = s.mem := by
  unfold sendRecord
  extract_lets q bytes prio _ s1 s2 s3 s4 s5
  have off : s3.rb HUB_FAULT_RING.EN = false :=
    (rb_ring_unrecorded ((reg_sendEvents ..).trans (reg_offer_unrecorded (by decide) 1 _))).trans h
  have h4 : s4.mem = s.mem := (congrArg State.mem (ringRecord_off off bytes)).trans ((spared_offered ..).1 .mem (by decide))
  have h5 : s5.mem = s4.mem := by
    change (if _ then _ else s4).mem = s4.mem
    split
    · exact (spared_offer ..).1 .mem (by decide)
    · rfl
  rw [mem_cairnFault, h5, h4]
theorem mem_sendRecord_listed (h : s.rb HUB_FAULT_RING.EN = false) (v : FaultSt) (k : Nat) (r : FaultRec) (n f l : Nat) :
    (((s.withFault v).wf HUB_AVAL_STS.USED k).sendRecord r n f l).mem = s.mem :=
  mem_sendRecord ((rb_ring_unrecorded (reg_wf_ne (s.withFault v) HUB_AVAL_STS.USED _ _ (by decide))).trans h) ..
theorem mem_occur (h : s.rb HUB_FAULT_RING.EN = false) (r : FaultRec) (n : Nat) : (s.occur r n).mem = s.mem := by
  unfold occur
  extract_lets s0 win _ s1 sec mask _ s2
  have counted : s0.mem = s.mem := (spared_counted r).1 .mem (by decide)
  have off : s0.rb HUB_FAULT_RING.EN = false := by
    refine (rb_ring_unrecorded ((reg_inc_unrecorded (by decide) _ (by decide)).trans ?_)).trans h
    split
    · exact reg_lifeInc_unrecorded (by decide) _
    · rfl
  clear_value s0
  split
  · exact counted
  · split
    · exact (mem_sendRecord off ..).trans counted
    · split
      · exact (mem_sendRecord_listed off ..).trans counted
      · have kept1 : s1.mem = s0.mem := inc_mem ..
        have ring1 : s1.reg HUB_FAULT_RING.a = s0.reg HUB_FAULT_RING.a :=
          reg_inc_unrecorded (by decide) _ (not_unrecorded_of_le (by simp only [HUB_AVAL_STS.a, HUB_AVAL_OVF.V, HUB_AVAL_OVF.a]; omega))
        have kept2 : s2.mem = s1.mem := withFault_mem ..
        have ring2 : s2.reg HUB_FAULT_RING.a = s1.reg HUB_FAULT_RING.a := rfl
        clear_value s2 s1
        split
        · rw [kept2, kept1, counted]
        · refine (mem_sendRecord ((rb_ring_unrecorded ?_).trans off) ..).trans ((inc_mem ..).trans (kept2.trans (kept1.trans counted)))
          exact (reg_inc_unrecorded (by decide) _ (by decide)).trans (ring2.trans ring1)
/-- With the fault ring off a report leaves memory as it is. -/
theorem mem_report (h : s.rb HUB_FAULT_RING.EN = false) (r : FaultRec) : (s.report r).mem = s.mem := by
  rw [report]
  split
  · rfl
  · exact mem_occur h r _

/-! ## Scrub visits (R449) -/

/-- A register of the crux dies or of the memory stacks. -/
theorem not_recordReg_of_le {a : Nat} (h : 0x3C0000 ≤ a) : ¬ recordReg a := by
  simp only [recordReg]
  omega
theorem not_avalReg_of_le {a : Nat} (h : 0x3C0000 ≤ a) : ¬ avalReg a := not_avalReg_of_lt (Nat.lt_of_lt_of_le (by decide) h)

/-- The counter of memory events of kind `code` at address `a`. -/
def eventCount (code a : Nat) : Rf :=
  if a < 0x10000000000 then (if code = 1 then HBM_CNT_CE.V (stackOf a) else if code = 2 then HBM_CNT_UE.V (stackOf a)
    else HBM_CNT_UNWRITTEN.V (stackOf a))
  else (if code = 1 then CRX_CNT_SRAM_CE.V (sramDie a) else if code = 2 then CRX_CNT_SRAM_UE.V (sramDie a)
    else CRX_CNT_SRAM_UNWRITTEN.V (sramDie a))
theorem eventCount_far (code a : Nat) : 0x3C0000 ≤ (eventCount code a).a := by
  unfold eventCount
  split_ifs
  · exact Nat.le_trans (by decide : 0x3C0000 ≤ 0x03000000) (by simp only [HBM_CNT_CE.V, HBM_CNT_CE.a]; omega)
  · exact Nat.le_trans (by decide : 0x3C0000 ≤ 0x03000000) (by simp only [HBM_CNT_UE.V, HBM_CNT_UE.a]; omega)
  · exact Nat.le_trans (by decide : 0x3C0000 ≤ 0x03000000) (by simp only [HBM_CNT_UNWRITTEN.V, HBM_CNT_UNWRITTEN.a]; omega)
  · simp only [CRX_CNT_SRAM_CE.V, CRX_CNT_SRAM_CE.a, cruxBase]; omega
  · simp only [CRX_CNT_SRAM_UE.V, CRX_CNT_SRAM_UE.a, cruxBase]; omega
  · simp only [CRX_CNT_SRAM_UNWRITTEN.V, CRX_CNT_SRAM_UNWRITTEN.a, cruxBase]; omega

/-- What a memory event leaves: the memory as it was, a record, and one more counted. -/
structure eventNoted (s t : State) (code w : Nat) : Prop where
  mem : t.mem = s.mem
  noted : s.noted t clMEMORY code (if code = 2 then 1 else 0) (if code = 1 then stOK else stPOISON)
  counted : t.reg (eventCount code w).a = Word.ofN ((s.reg (eventCount code w).a).toNat + 1)

theorem memEvent_noted (h : s.rb HUB_FAULT_RING.EN = false) (code owner w : Nat) : eventNoted s (s.memEvent code owner w) code w := by
  have far := eventCount_far code w
  unfold memEvent
  extract_lets low s1
  have same : s1 = s.inc (eventCount code w) := by
    simp only [s1, low, eventCount, decide_eq_true_eq]
  have off : s1.rb HUB_FAULT_RING.EN = false := by
    rw [same]
    refine (rb_ring_unrecorded (reg_count_ne _ _ _ _ ?_)).trans h
    exact Nat.ne_of_lt (Nat.lt_of_lt_of_le (by decide) far)
  refine ⟨(mem_report off _).trans (by rw [same, inc_mem]), ?_, ?_⟩
  · refine noted_of_sent (by rw [same]; exact sent_inc _ (not_avalReg_of_le far)) (noted_report ?_)
    change (if code = 2 then 1 else 0) < 2
    split <;> decide
  · refine ((recorded_report _ (show clMEMORY < 256 by decide)).2.1 _ (not_recordReg_of_le far)).trans ?_
    rw [same]
    exact reg_count_self ..

/-- A scrubber's place moves on to the next word, and the lines it has been through are counted. -/
def scrubPassed (s : State) (w : Nat) : State :=
  let u := scrubUnit w
  let n := (lookupKey s.mem.scrubAt u).getD 0 + 1
  let s0 := s.withMem { s.mem with scrubAt := insertKey (eraseKey s.mem.scrubAt u) u n }
  if w < 0x10000000000 && n % 8 = 0 then s0.inc (HBM_CNT_SCRUB_LINES.V (stackOf w)) else s0
theorem scrubPassed_keeps (w : Nat) :
    (∃ l, (s.scrubPassed w).mem = { s.mem with scrubAt := l }) ∧
    frame s (s.scrubPassed w) [.mem, .sticky] (fun a => w < 0x10000000000 ∧ a = HBM_CNT_SCRUB_LINES.a (stackOf w)) := by
  unfold scrubPassed
  extract_lets u n _ s0
  have moved : s0.mem = { s.mem with scrubAt := insertKey (eraseKey s.mem.scrubAt u) u n } := withMem_mem ..
  have keeps : frame s s0 [.mem, .sticky] (fun a => w < 0x10000000000 ∧ a = HBM_CNT_SCRUB_LINES.a (stackOf w)) := frame_withMem _ (by decide)
  clear_value s0
  split
  · next counts =>
    exact ⟨⟨_, (inc_mem ..).trans moved⟩, frame_trans keeps (frame_inc (HBM_CNT_SCRUB_LINES.V (stackOf w))
      ⟨of_decide_eq_true (Bool.and_eq_true_iff.mp counts).1, rfl⟩ (by decide))⟩
  · exact ⟨⟨_, moved⟩, keeps⟩
/-- The events a visit may count are apart from the lines it counts. -/
theorem eventCount_apart {code w : Nat} (h : code = 1 ∨ code = 2) :
    ¬ (w < 0x10000000000 ∧ (eventCount code w).a = HBM_CNT_SCRUB_LINES.a (stackOf w)) := by
  rintro ⟨low, e⟩
  rcases h with rfl | rfl
  · rw [eventCount, if_pos low, if_pos rfl] at e
    simp only [HBM_CNT_CE.V, HBM_CNT_CE.a, HBM_CNT_SCRUB_LINES.a] at e
    omega
  · rw [eventCount, if_pos low, if_neg (by decide), if_pos rfl] at e
    simp only [HBM_CNT_UE.V, HBM_CNT_UE.a, HBM_CNT_SCRUB_LINES.a] at e
    omega
/-- The event of a word just visited, after memory has been marked for it. -/
theorem visit_noted (hr : s.rb HUB_FAULT_RING.EN = false) {code w : Nat} (hc : code = 1 ∨ code = 2) (owner : Nat) (m : MemSt) :
    let t := ((s.scrubPassed w).withMem m).memEvent code owner w
    t.mem = m ∧ s.noted t clMEMORY code (if code = 2 then 1 else 0) (if code = 1 then stOK else stPOISON) ∧
    t.reg (eventCount code w).a = Word.ofN ((s.reg (eventCount code w).a).toNat + 1) := by
  intro t
  have keeps : frame s ((s.scrubPassed w).withMem m) [.mem, .sticky] (fun a => w < 0x10000000000 ∧ a = HBM_CNT_SCRUB_LINES.a (stackOf w)) :=
    frame_trans (scrubPassed_keeps w).2 (frame_withMem _ (by decide))
  have far {a : Nat} (ha : a < 0x3C0000) : ¬ (w < 0x10000000000 ∧ a = HBM_CNT_SCRUB_LINES.a (stackOf w)) := by
    simp only [HBM_CNT_SCRUB_LINES.a]
    omega
  have off : ((s.scrubPassed w).withMem m).rb HUB_FAULT_RING.EN = false := (rb_ring_unrecorded (keeps.2.1 _ (far (by decide)))).trans hr
  have event := memEvent_noted off code owner w
  refine ⟨event.mem.trans (withMem_mem ..), noted_of_sent (sent_of_frame keeps (by decide) ?_) event.noted, ?_⟩
  · rintro a (rfl | rfl)
    · exact far (by decide)
    · exact far (by decide)
  · rw [event.counted, keeps.2.1 _ (eventCount_apart hc)]
/-- A word that decodes as uncorrectable from now on. -/
def ueMarked (m : MemSt) (w : Nat) : MemSt := { m with ue := insertNat m.ue w }
/-- One more correctable error found in a line. -/
def ceMarked (m : MemSt) (w : Nat) : MemSt :=
  let line := w / 64 * 64
  let k := (lookupKey m.ceHits line).getD 0 + 1
  { m with ceHits := insertKey (eraseKey m.ceHits line) line k }
theorem found_ueMarked_self (m : MemSt) (w : Nat) (h : w / 8 * 8 = w) : (ueMarked m w).found w = .ue := by
  have marked : (ueMarked m w).ue.contains w = true := List.contains_iff_mem.mpr ((mem_insertNat _ _ _).mpr (.inl rfl))
  rw [MemSt.found, h, marked, Bool.true_or, if_pos rfl]
theorem found_ueMarked_other (m : MemSt) {w x : Nat} (h : x / 8 * 8 ≠ w) : (ueMarked m w).found x = m.found x := by
  have same : (ueMarked m w).ue.contains (x / 8 * 8) = m.ue.contains (x / 8 * 8) := by
    rw [Bool.eq_iff_iff, List.contains_iff_mem, List.contains_iff_mem, ueMarked, mem_insertNat]
    exact or_iff_right h
  rw [MemSt.found, MemSt.found, same, ueMarked]
theorem ceHits_ceMarked (m : MemSt) (w : Nat) :
    lookupKey (ceMarked m w).ceHits (w / 64 * 64) = some ((lookupKey m.ceHits (w / 64 * 64)).getD 0 + 1) :=
  lookupKey_insertKey_self _ _ _ (lookupKey_eraseKey_self ..)

theorem scrub_off {a : Nat} (h : s.scrubOn (a / 8 * 8) = false) (ce ue : Bool) : s.scrub a ce ue = s := by
  unfold scrub
  exact if_pos (by rw [h]; rfl)
theorem scrub_visits {a w : Nat} (hw : w = a / 8 * 8) (hon : s.scrubOn w = true) (hsr : s.power.hbmSr = false)
    (hl : s.mem.live (s.ownAt w) w = true) (hf : s.mem.found w = .clean) (ce ue : Bool) :
    let u := s.scrubPassed w
    s.scrub a ce ue = if ue then (u.withMem (ueMarked u.mem w)).memEvent 2 (s.ownAt w) w
      else if ce then (u.withMem (ceMarked u.mem w)).memEvent 1 (s.ownAt w) w else u := by
  subst hw
  intro u
  obtain ⟨⟨l, moved⟩, -⟩ := scrubPassed_keeps (s := s) (a / 8 * 8)
  have live : u.mem.live (s.ownAt (a / 8 * 8)) (a / 8 * 8) = true := by
    rw [show u.mem = _ from moved]
    exact hl
  have clean : u.mem.found (a / 8 * 8) = .clean := by
    rw [show u.mem = _ from moved]
    exact hf
  unfold scrub
  refine (if_neg (by rw [hon, hsr]; exact Bool.false_ne_true)).trans ?_
  refine (if_neg (show ¬ (!u.mem.live _ _) = true by rw [live]; decide)).trans ?_
  split
  · next found => exact absurd (clean.symm.trans found) (by decide)
  · next found => exact absurd (clean.symm.trans found) (by decide)
  · rfl

theorem eventCount_low {w : Nat} (h : w < 0x10000000000) :
    eventCount 1 w = HBM_CNT_CE.V (stackOf w) ∧ eventCount 2 w = HBM_CNT_UE.V (stackOf w) :=
  ⟨(if_pos h).trans (if_pos rfl), (if_pos h).trans ((if_neg (by decide)).trans (if_pos rfl))⟩
theorem eventCount_high {w : Nat} (h : 0x10000000000 ≤ w) :
    eventCount 1 w = CRX_CNT_SRAM_CE.V (sramDie w) ∧ eventCount 2 w = CRX_CNT_SRAM_UE.V (sramDie w) :=
  ⟨(if_neg (Nat.not_lt.mpr h)).trans (if_pos rfl), (if_neg (Nat.not_lt.mpr h)).trans ((if_neg (by decide)).trans (if_pos rfl))⟩

section
variable {a w : Nat} (hr : s.rb HUB_FAULT_RING.EN = false) (hw : w = a / 8 * 8) (hon : s.scrubOn w = true) (hsr : s.power.hbmSr = false)
  (hl : s.mem.live (s.ownAt w) w = true) (hf : s.mem.found w = .clean)
include hr hw hon hsr hl hf

/-- A correctable error counts, is recorded and changes no byte. -/
theorem scrub_correctable :
    let t := s.scrub a true false
    t.mem.cells = s.mem.cells ∧ t.mem.ue = s.mem.ue ∧
    lookupKey t.mem.ceHits (w / 64 * 64) = some ((lookupKey s.mem.ceHits (w / 64 * 64)).getD 0 + 1) ∧ s.noted t clMEMORY 1 0 0 ∧
    (w < 0x10000000000 → t.reg (HBM_CNT_CE.V (stackOf w)).a = Word.ofN ((s.reg (HBM_CNT_CE.V (stackOf w)).a).toNat + 1)) ∧
    (0x10000000000 ≤ w → t.reg (CRX_CNT_SRAM_CE.V (sramDie w)).a = Word.ofN ((s.reg (CRX_CNT_SRAM_CE.V (sramDie w)).a).toNat + 1)) := by
  intro t
  have visit : t = ((s.scrubPassed w).withMem (ceMarked (s.scrubPassed w).mem w)).memEvent 1 (s.ownAt w) w :=
    (scrub_visits hw hon hsr hl hf true false).trans ((if_neg Bool.false_ne_true).trans (if_pos rfl))
  obtain ⟨mem, note, counted⟩ := visit_noted hr (.inl rfl) (s.ownAt w) (ceMarked (s.scrubPassed w).mem w)
  obtain ⟨⟨l, moved⟩, -⟩ := scrubPassed_keeps (s := s) w
  rw [← visit] at mem note counted
  clear_value t
  rw [moved] at mem
  refine ⟨by rw [mem]; rfl, by rw [mem]; rfl, ?_, note, fun low => ?_, fun high => ?_⟩
  · rw [mem]
    exact ceHits_ceMarked { s.mem with scrubAt := l } w
  · rwa [(eventCount_low low).1] at counted
  · rwa [(eventCount_high high).1] at counted
/-- An uncorrectable word counts, is recorded and stays uncorrectable. -/
theorem scrub_uncorrectable (ce : Bool) :
    let t := s.scrub a ce true
    t.mem.found w = .ue ∧ t.mem.cells = s.mem.cells ∧ (∀ x, x / 8 * 8 ≠ w → t.mem.found x = s.mem.found x) ∧ s.noted t clMEMORY 2 1 0x06 ∧
    (w < 0x10000000000 → t.reg (HBM_CNT_UE.V (stackOf w)).a = Word.ofN ((s.reg (HBM_CNT_UE.V (stackOf w)).a).toNat + 1)) ∧
    (0x10000000000 ≤ w → t.reg (CRX_CNT_SRAM_UE.V (sramDie w)).a = Word.ofN ((s.reg (CRX_CNT_SRAM_UE.V (sramDie w)).a).toNat + 1)) := by
  intro t
  have visit : t = ((s.scrubPassed w).withMem (ueMarked (s.scrubPassed w).mem w)).memEvent 2 (s.ownAt w) w :=
    (scrub_visits hw hon hsr hl hf ce true).trans (if_pos rfl)
  obtain ⟨mem, note, counted⟩ := visit_noted hr (.inr rfl) (s.ownAt w) (ueMarked (s.scrubPassed w).mem w)
  obtain ⟨⟨l, moved⟩, -⟩ := scrubPassed_keeps (s := s) w
  rw [← visit] at mem note counted
  clear_value t
  rw [moved] at mem
  refine ⟨?_, by rw [mem]; rfl, fun x hx => ?_, note, fun low => ?_, fun high => ?_⟩
  · rw [mem]
    exact found_ueMarked_self _ w (by omega)
  · rw [mem]
    exact found_ueMarked_other _ hx
  · rwa [(eventCount_low low).2] at counted
  · rwa [(eventCount_high high).2] at counted
end

/-! ## Pitons (R450, R451) and copies of harness tables (R447) -/

theorem frame_appendDefect (kind camp die loc : Nat) :
    frame s (s.appendDefect kind camp die loc) [.sticky, .cairn, .boot] (fun a => a = HUB_DEFECT_STS.a ∨ cairnReg a) := by
  unfold appendDefect
  extract_lets e e16
  split
  · exact frame_trans (frame_satInc HUB_DEFECT_STS.DROPPED _ (.inl rfl)) (frame_wf HUB_DEFECT_STS.FULL _ (.inl rfl))
  · exact frame_trans (frame_withBoot _ (by decide)) (frame_trans (frame_wf HUB_DEFECT_STS.ENTRIES _ (.inl rfl))
      (frame_trans (frame_satInc HUB_DEFECT_STS.ADDED _ (.inl rfl)) (frame_mono (frame_cairnRec ..) (by simp) fun _ => .inr)))
theorem poisoned_keeps (l : List Nat) (m : MemSt) :
    (l.foldl (fun m w => m.poison w (w + 8)) m).pitons = m.pitons ∧ (l.foldl (fun m w => m.poison w (w + 8)) m).ceHits = m.ceHits := by
  induction l generalizing m with
  | nil => exact ⟨rfl, rfl⟩
  | cons w l ih => exact ih (m.poison w (w + 8))
theorem frame_pitonSts (a : Nat) : frame s (s.pitonSts a) [] (fun x => a < 0x10000000000 ∧ x = HBM_STS.a (stackOf a)) := by
  rw [pitonSts]
  split
  · next low => exact frame_trans (frame_wf _ _ ⟨low, rfl⟩) (frame_wf _ _ ⟨low, rfl⟩)
  · exact frame_refl ..

/-- The counter of the pitons of the store that holds a line. -/
def pitonCount (line : Nat) : Rf := if line < 0x10000000000 then HBM_CNT_PITON.V (stackOf line) else CRX_CNT_SRAM_PITON.V (sramDie line)
theorem pitonCount_low {line : Nat} (h : line < 0x10000000000) : pitonCount line = HBM_CNT_PITON.V (stackOf line) := if_pos h
theorem pitonCount_high {line : Nat} (h : 0x10000000000 ≤ line) : pitonCount line = CRX_CNT_SRAM_PITON.V (sramDie line) :=
  if_neg (Nat.not_lt.mpr h)
theorem pitonCount_far (line : Nat) : 0x3C0000 ≤ (pitonCount line).a := by
  rcases Nat.lt_or_ge line 0x10000000000 with low | high
  · rw [pitonCount_low low]
    exact Nat.le_trans (by decide : 0x3C0000 ≤ 0x03000000) (by simp only [HBM_CNT_PITON.V, HBM_CNT_PITON.a]; omega)
  · rw [pitonCount_high high]
    simp only [CRX_CNT_SRAM_PITON.V, CRX_CNT_SRAM_PITON.a, cruxBase]
    omega
theorem pitonCount_apart (line : Nat) : ¬ (line < 0x10000000000 ∧ (pitonCount line).a = HBM_STS.a (stackOf line)) := by
  rintro ⟨low, e⟩
  rw [pitonCount_low low] at e
  simp only [HBM_CNT_PITON.V, HBM_CNT_PITON.a, HBM_STS.a] at e
  omega

theorem pitonInstall_off {a line : Nat} (hl : line = a / 64 * 64) (h : s.autoPiton line = false) (rb : Bool) : s.pitonInstall a rb = s := by
  subst hl
  unfold pitonInstall
  exact if_neg (by rw [h]; exact Bool.false_ne_true)
theorem pitonInstall_puts {a line : Nat} {rb : Bool} (hl : line = a / 64 * 64) (h : s.autoPiton line = true)
    (hn : s.mem.pitons.any (fun p => p.1 == line) = false) (hc : rb = true ∨ s.pitonCe line ≤ (lookupKey s.mem.ceHits line).getD 0) :
    s.pitonInstall a rb = s.putPiton line := by
  subst hl
  unfold pitonInstall
  refine (if_pos ?_).trans (congrArg s.putPiton rfl)
  rw [h, hn]
  rcases hc with rfl | hc
  · rfl
  · rw [decide_eq_true hc, Bool.or_true]
    rfl
/-- A piton put in place: where the memory, the counter and everything else of it stand. -/
theorem pitonAt_free {line : Nat} (hl : line / 64 * 64 = line) (h : s.pitonsIn (pitonGroup line) < pitonMax line) :
    (s.pitonAt line).mem.pitons = s.mem.pitons ++ [(line, pitonGroup line)] ∧ lookupKey (s.pitonAt line).mem.ceHits line = none ∧
    (s.pitonAt line).reg (pitonCount line).a = Word.ofN ((s.reg (pitonCount line).a).toNat + 1) := by
  unfold pitonAt
  rw [hl]
  extract_lets l g owner low bad m s1
  rw [if_neg (Nat.not_le.mpr h)]
  obtain ⟨pitons, hits⟩ := poisoned_keeps bad s.mem
  have sts := frame_pitonSts (s := s.withMem { m with pitons := m.pitons ++ [(line, g)], ceHits := eraseKey m.ceHits line }) line
  have mem1 : s1.mem = { m with pitons := m.pitons ++ [(line, g)], ceHits := eraseKey m.ceHits line } := sts.1 .mem (by decide)
  have reg1 : s1.reg (pitonCount line).a = s.reg (pitonCount line).a := sts.2.1 _ (pitonCount_apart line)
  have same : (if low then HBM_CNT_PITON.V (stackOf line) else CRX_CNT_SRAM_PITON.V (sramDie line)) = pitonCount line := by
    simp only [low, l, pitonCount, decide_eq_true_eq]
  rw [same]
  clear_value s1
  refine ⟨?_, ?_, ?_⟩
  · rw [inc_mem, mem1]
    exact congrArg (· ++ [(line, g)]) pitons
  · rw [inc_mem, mem1]
    exact lookupKey_eraseKey_self ..
  · exact (reg_count_self ..).trans (by rw [reg1])
theorem putPiton_free {line : Nat} (hl : line / 64 * 64 = line) (h : s.pitonsIn (pitonGroup line) < pitonMax line) :
    let t := s.putPiton line
    t.mem.pitons = s.mem.pitons ++ [(line, pitonGroup line)] ∧ lookupKey t.mem.ceHits line = none ∧
    (line < 0x10000000000 → t.reg (HBM_CNT_PITON.V (stackOf line)).a = Word.ofN ((s.reg (HBM_CNT_PITON.V (stackOf line)).a).toNat + 1)) ∧
    (0x10000000000 ≤ line →
      t.reg (CRX_CNT_SRAM_PITON.V (sramDie line)).a = Word.ofN ((s.reg (CRX_CNT_SRAM_PITON.V (sramDie line)).a).toNat + 1)) := by
  intro t
  obtain ⟨pitons, hits, counted⟩ := pitonAt_free hl h
  have keeps : frame (s.pitonAt line) t [.sticky, .cairn, .boot] (fun a => a = HUB_DEFECT_STS.a ∨ cairnReg a) := by
    change frame _ (s.putPiton line) _ _
    unfold putPiton
    rw [hl]
    extract_lets l low d s1
    rw [if_neg (Nat.not_le.mpr h)]
    exact frame_trans (frame_appendDefect ..) (frame_mono (frame_cairnRec ..) (by simp) fun _ => .inr)
  clear_value t
  have far : ¬ ((pitonCount line).a = HUB_DEFECT_STS.a ∨ cairnReg (pitonCount line).a) := by
    have := pitonCount_far line
    simp only [HUB_DEFECT_STS.a, cairnReg]
    omega
  have mem : t.mem = (s.pitonAt line).mem := keeps.1 .mem (by decide)
  have total := (keeps.2.1 _ far).trans counted
  refine ⟨by rw [mem, pitons], by rw [mem, hits], fun low => ?_, fun high => ?_⟩
  · rwa [pitonCount_low low] at total
  · rwa [pitonCount_high high] at total
theorem putPiton_full (hr : s.rb HUB_FAULT_RING.EN = false) {line : Nat} (hl : line / 64 * 64 = line)
    (h : pitonMax line ≤ s.pitonsIn (pitonGroup line)) : (s.putPiton line).mem = s.mem ∧ s.noted (s.putPiton line) clMEMORY 4 1 0 := by
  have told : s.putPiton line = s.pitonAt line := by
    unfold putPiton
    rw [hl]
    exact if_pos h
  rw [told]
  unfold pitonAt
  rw [hl]
  extract_lets l g owner low bad m s1
  rw [if_pos h]
  exact ⟨mem_report hr _, noted_report (show 1 < 2 by decide)⟩
end State

/-- Settles O45: scrub visits, pitons and the reload of a harness table copy. -/
theorem scrubsAndPitons : Obligations.ScrubsAndPitons := by
  unfold Obligations.ScrubsAndPitons
  rintro s store unit o a w line hu rfl hw hl hr
  have line64 : line / 64 * 64 = line := by omega
  refine ⟨fun off ce ue => ?_, fun hon hsr live clean => ⟨?_, fun ce => ?_⟩,
    fun rb => ⟨fun off => ?_, fun auto unspared why => ⟨fun free => ?_, fun full => ?_⟩⟩, fun n h => ?_⟩
  · exact runs_unheld hu rfl (State.scrub_off (hw ▸ off) ce ue)
  · exact runs_unheld hu rfl (State.scrub_correctable hr hw hon hsr live clean)
  · exact runs_unheld hu rfl (State.scrub_uncorrectable hr hw hon hsr live clean ce)
  · exact runs_unheld hu rfl (State.pitonInstall_off hl off rb)
  · exact runs_unheld hu (congrArg (unheld s) (State.pitonInstall_puts hl auto unspared why)) (State.putPiton_free line64 free)
  · exact runs_unheld hu (congrArg (unheld s) (State.pitonInstall_puts hl auto unspared why)) (State.putPiton_full hr line64 full)
  · have told := State.recorded_report (s := s) ⟨clMEMORY, 6, 1, stPOISON, unitCrux n, 0, bytesLE 2 h⟩ (show clMEMORY < 256 by decide)
    exact runs_unheld hu rfl ⟨told.1 .hrn (by decide), State.mem_report hr _, State.noted_report (show 1 < 2 by decide), told⟩
end Sys2Proof.Machine
end

section
/-! PROOF. What crux die 0 sends through an endpoint port: the frames it makes and the way they take (R45, R46, R72, R82 to R85). -/
namespace Sys2Proof

/-! ## Frames the device makes -/

theorem crcBit_lt {c : Nat} (h : c < 2 ^ 32) : crcBit c < 2 ^ 32 := by
  unfold crcBit
  split
  · exact Nat.xor_lt_two_pow (by omega) (by decide)
  · omega
theorem crcReg_lt (l : List Byte) {c : Nat} (h : c < 2 ^ 32) : crcReg c l < 2 ^ 32 := by
  refine List.foldlRecOn (motive := fun c => c < 2 ^ 32) l crcByte h fun c hc b _ => ?_
  have mixed : c ^^^ b.toNat < 2 ^ 32 := Nat.xor_lt_two_pow hc (Nat.lt_of_lt_of_le b.isLt (by decide))
  exact crcBit_lt (crcBit_lt (crcBit_lt (crcBit_lt (crcBit_lt (crcBit_lt (crcBit_lt (crcBit_lt mixed)))))))
theorem crc32c_lt (l : List Byte) : crc32c 0 l < 2 ^ 32 := by
  rw [crc32c]
  exact Nat.xor_lt_two_pow (crcReg_lt l (by decide)) (by decide)

/-- The header CRC covers nothing of the trailer. -/
theorem Frame.headerCrc_trailer (f : Frame) (w : Word) : ({ f with t1 := w } : Frame).headerCrc = f.headerCrc := rfl
theorem Frame.hdrCrc_sealHeader (f : Frame) : f.sealHeader.hdrCrc = f.sealHeader.headerCrc := by
  rw [show f.sealHeader.headerCrc = f.headerCrc from Frame.headerCrc_trailer ..]
  exact (Word.field_withField_self _ 32 32 _ (by decide)).trans (Nat.mod_eq_of_lt (crc32c_lt _))

section
variable (x : FrameSpec)
theorem FrameSpec.cls_make : x.make.cls = x.cls % 8 := by
  have := b2n_le x.first; have := b2n_le x.last; have := b2n_le x.anchor
  show Word.field (Word.ofN _) 4 3 = _
  rw [Word.field_ofN _ _ _ (by decide)]; omega
theorem FrameSpec.harness_make : x.make.harness = x.harness % 4096 := by
  have := b2n_le x.first; have := b2n_le x.last; have := b2n_le x.anchor
  show Word.field (Word.ofN _) 46 12 = _
  rw [Word.field_ofN _ _ _ (by decide)]; omega
theorem FrameSpec.tag_make : x.make.tag = x.tag % 65536 := by
  show Word.field (Word.ofN _) 8 16 = _
  rw [Word.field_ofN _ _ _ (by decide)]; omega
/-- A frame that carries no payload check passes the checks of R46. -/
theorem FrameSpec.checksOk_make (h : x.checkKind = 0) : x.make.checksOk = true := by
  have kind : x.make.checkKind = 0 := by
    show Word.field (Word.withField (Word.ofN _) 32 32 _) 9 2 = 0
    rw [Word.field_withField_below _ _ _ _ _ _ (by decide) (by decide), Word.field_ofN _ _ _ (by decide), h]
    omega
  obtain ⟨f, made⟩ : ∃ f : Frame, x.make = f.sealHeader := ⟨_, rfl⟩
  rw [Frame.checksOk, kind, made, Frame.hdrCrc_sealHeader, BEq.rfl, show ((0 : Nat) != 1) = true from rfl, Bool.true_or, Bool.true_and]
end

namespace Machine.State
variable {s t u : State}

/-! ## The way to an endpoint port -/

/-- The registers that the way of a frame of harness 0 to an endpoint port rests on. -/
def wayReg (a : Nat) : Prop :=
  a = HUB_PLANE.a ∨ a = HUB_FAULT_STS.a ∨ (∃ P, P < 768 ∧ a = PRT_PORT_CTL.a P) ∨ (∃ P, P < 768 ∧ a = PRT_PORT_STS.a P) ∨
  ∃ n q c, q ≤ 48 ∧ c < 8 ∧ a = FWD_QLIMIT.a n q c
/-- `t` sends a frame of harness 0 to an endpoint port as `s` does. -/
structure sameWay (s t : State) : Prop where
  feid : t.fwd.feid = s.fwd.feid
  bad : t.fwd.tblBad = s.fwd.tblBad
  queues : t.fwd.queues = s.fwd.queues
  reg : ∀ a, wayReg a → t.reg a = s.reg a

theorem sameWay.rf (h : sameWay s t) {x : Rf} (hx : wayReg x.a) : t.rf x = s.rf x := by
  rw [State.rf, State.rf, h.reg _ hx]
theorem sameWay_of_frame {rg : Nat → Prop} {ch : List Part} (h : frame s t ch rg) (hf : Part.fwd ∉ ch) (hr : ∀ a, rg a → ¬ wayReg a) : sameWay s t := by
  have fwd : t.fwd = s.fwd := h.1 .fwd hf
  exact ⟨by rw [fwd], by rw [fwd], by rw [fwd], fun a ha => h.2.1 a fun k => hr a k ha⟩
theorem takes_hub {P : Nat} {f : Frame} (h : f.harness = 0) :
    s.takes P f true = decide (s.depth P f.cls + cellsOf f ≤ s.qlimit P f.cls) := by
  simp [takes, h]
theorem takes_of_sameWay (h : sameWay s t) {P : Nat} (hP : P < 768) {f : Frame} (h0 : f.harness = 0) : t.takes P f true = s.takes P f true := by
  have limit {q : Nat} (hq : q ≤ 48) : t.rf (FWD_QLIMIT.CELLS (dieOf P) q f.cls) = s.rf (FWD_QLIMIT.CELLS (dieOf P) q f.cls) :=
    h.rf (.inr (.inr (.inr (.inr ⟨_, _, _, hq, Nat.mod_lt _ (by decide), rfl⟩))))
  have idx : idxOf P + 1 ≤ 48 := by
    rw [idxOf, if_pos hP]
    omega
  have bond : t.rb (PRT_PORT_CTL.BOND P) = s.rb (PRT_PORT_CTL.BOND P) := by
    rw [rb, rb, h.rf (.inr (.inr (.inl ⟨P, hP, rfl⟩)))]
  rw [takes_hub h0, takes_hub h0, depth, depth, queueOf, queueOf, h.queues, qlimit, qlimit, limit (by omega), limit idx, bond]
theorem homePort_of_sameWay (h : sameWay s t) {n f P : Nat} (k : s.homePort n f P) : t.homePort n f P := by
  have plane {x : Rf} (hx : x.a = HUB_PLANE.a) : t.rf x = s.rf x := h.rf (.inl hx)
  have size : t.planeSize = s.planeSize := by
    simp only [planeSize, shapeA, shapeB, shapeC, plane (x := HUB_PLANE.A) rfl, plane (x := HUB_PLANE.B) rfl, plane (x := HUB_PLANE.C) rfl]
  have entry : t.feidEntry n f = s.feidEntry n f := by
    rw [feidEntry, feidEntry, feidRaw, feidRaw, tblGood, tblGood, h.feid, h.bad, size]
  rw [homePort, entry, show t.devIndex = s.devIndex from plane rfl]
  exact k
theorem reaches_of_sameWay (h : sameWay s t) {n cls dst P : Nat} (r : s.reaches n 0 cls dst P) : t.reaches n 0 cls dst P := by
  obtain ⟨home, low, active, drain, gateway, -, fenced, room⟩ := r
  have ctl {x : Rf} (hx : x.a = PRT_PORT_CTL.a P) : t.rf x = s.rf x := h.rf (.inr (.inr (.inl ⟨P, low, hx⟩)))
  refine ⟨homePort_of_sameWay h home, low, ?_, ?_, ?_, .inl rfl, ?_, fun f hc h0 => ?_⟩
  · rwa [State.active, pstate, h.rf (.inr (.inr (.inr (.inl ⟨P, low, rfl⟩))))]
  · rwa [draining, rb, ctl rfl]
  · rwa [gatewayPort, ctl rfl]
  · rwa [h.rf (.inr (.inl rfl))]
  · rw [takes_of_sameWay h low h0]
    exact room f hc h0

theorem not_wayReg_frames (n : Nat) : ¬ wayReg (FWD_CNT_FRAMES.a n) := by
  rintro (e | e | ⟨P, low, e⟩ | ⟨P, low, e⟩ | ⟨m, q, c, hq, hc, e⟩)
  · simp only [FWD_CNT_FRAMES.a, cruxBase, HUB_PLANE.a] at e
    omega
  · simp only [FWD_CNT_FRAMES.a, cruxBase, HUB_FAULT_STS.a] at e
    omega
  · simp only [FWD_CNT_FRAMES.a, cruxBase, PRT_PORT_CTL.a, portBase] at e
    rw [if_pos low] at e
    omega
  · simp only [FWD_CNT_FRAMES.a, cruxBase, PRT_PORT_STS.a, portBase] at e
    rw [if_pos low] at e
    omega
  · simp only [FWD_CNT_FRAMES.a, cruxBase, FWD_QLIMIT.a] at e
    omega

theorem frame_markDepth (P c : Nat) : frame s (s.markDepth P c) [] (fun a => 0x1000000 ≤ a) := by
  unfold markDepth
  extract_lets x d
  split
  · exact frame_wf x d (by simp only [x, SCH_QSTAT.HWM_DEPTH, SCH_QSTAT.a, cruxBase]; omega)
  · exact frame_refl ..
/-- What a queue gains when it takes a frame. -/
theorem frame_enqueue (P : Nat) (f : Frame) (i : Option Nat) (cut : Bool) :
    frame s (s.enqueue P f i cut) [.fwd] (fun a => 0x1000000 ≤ a) :=
  frame_trans (frame_withFwd _ (by decide)) (frame_mono (frame_markDepth ..) (by simp) fun _ => id)
theorem fwd_enqueue (P : Nat) (f : Frame) (i : Option Nat) (cut : Bool) :
    ∃ q, q.P = P ∧ q.frame = f ∧ (s.enqueue P f i cut).fwd.queues = s.fwd.queues ++ [q] ∧ (s.enqueue P f i cut).fwd.steer = s.fwd.steer := by
  unfold enqueue
  extract_lets c r pl has tr place _
  have kept (u : State) : (u.markDepth P c).fwd = u.fwd := (frame_markDepth P c).1 .fwd (by decide)
  exact ⟨⟨P, c, f, r, i, s.now, tr, cut⟩, rfl, rfl, by rw [kept, withFwd_fwd], by rw [kept, withFwd_fwd]⟩

/-- A frame of harness 0, not of the memory fabric, that crux die `n` makes for an endpoint goes into the queue of its port. -/
theorem forwardF_port {k n P : Nat} {f : Frame} (hm : f.mcast = false) (hk : f.kind ≠ 1) (ht : f.trav = false) (h0 : f.harness = 0)
    (hc : f.checksOk = true) (hr : s.reaches n 0 f.cls f.dst P) :
    ∃ cut, forwardF (k + 1) n .inside true f s = (s.inc (FWD_CNT_FRAMES.V n)).enqueue P f none cut := by
  have way : sameWay s (s.inc (FWD_CNT_FRAMES.V n)) :=
    sameWay_of_frame (frame_inc (ch := [.sticky]) (rg := fun a => a = FWD_CNT_FRAMES.a n) _ rfl (by decide)) (by decide)
      fun a e => e ▸ not_wayReg_frames n
  obtain ⟨⟨e, entry, endpoint, here, dev, port⟩, low, active, drain, gateway, -, -, room⟩ := reaches_of_sameWay way hr
  have torus : isTorus P = false := decide_eq_false (Nat.not_le.mpr low)
  have path : (s.inc (FWD_CNT_FRAMES.V n)).decide1 n .inside f = .go f (.port P) false := by
    unfold decide1
    extract_lets h me fromEp inside mv i f1
    have still : f1 = f := by simp [f1, ht]
    rw [if_neg (Nat.not_le.mpr (feidEntry_lt entry)), entry]
    simp [still, ht, hk, dev, endpoint, port, me, fromEp]
  refine ⟨(s.inc (FWD_CNT_FRAMES.V n)).cutThrough n .inside (.port P), ?_⟩
  simp only [forwardF, hm, path, Bool.false_eq_true, if_false]
  have taken : (s.inc (FWD_CNT_FRAMES.V n)).takes P f true = true := room f rfl h0
  generalize s.inc (FWD_CNT_FRAMES.V n) = u at active drain taken
  have admitted (answer : Frame → State → State) (cut : Bool) :
      u.offerPlace answer n (.port P) f none true cut = (u.enqueue P f none cut, false) := by
    have placed : u.placeFrame n (.port P) f none cut = u.enqueue P f none cut := by
      simp [placeFrame, placeDead, placeUnit, egressCheck, hc]
    simp [offerPlace, torus, active, drain, deliveryDenied, h0, taken, placed]
  simp [admitTo, blocked, offerAll, admitted, Origin.port]
/-- What sending such a frame leaves. -/
theorem send_queues {n P : Nat} {f : Frame} (hm : f.mcast = false) (hk : f.kind ≠ 1) (ht : f.trav = false) (h0 : f.harness = 0)
    (hc : f.checksOk = true) (hr : s.reaches n 0 f.cls f.dst P) :
    s.queued (s.send n f) P (fun g => g = f) ∧ (s.send n f).fwd.steer = s.fwd.steer ∧
    frame s (s.send n f) [.fwd, .sticky] (fun a => 0x1000000 ≤ a) := by
  obtain ⟨cut, sent⟩ := forwardF_port (k := 2) hm hk ht h0 hc hr
  obtain ⟨q, port, same, queues, steer⟩ := fwd_enqueue (s := s.inc (FWD_CNT_FRAMES.V n)) P f none cut
  rw [send, sent]
  refine ⟨⟨q, queues.trans (by rw [inc_fwd]), port, same⟩, steer.trans (by rw [inc_fwd]),
    frame_trans (frame_inc (FWD_CNT_FRAMES.V n) ?_ (by decide)) (frame_mono (frame_enqueue ..) (by simp) fun _ => id)⟩
  simp only [FWD_CNT_FRAMES.V, FWD_CNT_FRAMES.a, cruxBase]
  omega
end Machine.State
end Sys2Proof
end

section
/-! PROOF. Register accesses in datagrams and in frames: the fault channel (R525 to R527) and in band (R436). -/
namespace Sys2Proof.Machine
namespace State
variable {s t u : State}

/-! ## One access and its answer -/

theorem sixteens_one {l : List Byte} (h : l.length = 16) : sixteens 1 l = [l] := by
  have whole : l.take 16 = l := List.take_of_length_le (Nat.le_of_eq h)
  rw [sixteens, sixteens, padTo, whole, whole, h, Nat.sub_self, List.replicate_zero, List.append_nil]
theorem length_padTo (n : Nat) (b : Byte) (l : List Byte) : (padTo n b l).length = n := by
  rw [padTo, List.length_append, List.length_take, List.length_replicate]
  omega
theorem sixteens_pieces (n : Nat) (l : List Byte) : (sixteens n l).length = n ∧ ∀ x ∈ sixteens n l, x.length = 16 := by
  induction n generalizing l with
  | zero => exact ⟨rfl, fun x hx => absurd hx List.not_mem_nil⟩
  | succ n ih =>
    obtain ⟨count, each⟩ := ih (l.drop 16)
    refine ⟨congrArg (· + 1) count, fun x hx => ?_⟩
    rcases List.mem_cons.mp hx with rfl | hx
    · exact length_padTo ..
    · exact each x hx

/-- The accesses of a request that is answered with REJECT. -/
theorem rejected_pieces {L : List (List Byte)} (h : ∀ l ∈ L, l.length = 16) :
    (L.flatMap (fun l => l.take 4 ++ bytesLE 1 stREJECT ++ l.drop 5)).length = 16 * L.length ∧
    ∀ i, i < L.length → (L.flatMap (fun l => l.take 4 ++ bytesLE 1 stREJECT ++ l.drop 5)).getD (16 * i + 4) 0 = 0x0E#8 := by
  induction L with
  | nil => exact ⟨rfl, fun i hi => absurd hi (Nat.not_lt_zero i)⟩
  | cons l L ih =>
    obtain ⟨length, status⟩ := ih fun x hx => h x (List.mem_cons_of_mem _ hx)
    have l16 := h l List.mem_cons_self
    have piece : (l.take 4 ++ bytesLE 1 stREJECT ++ l.drop 5).length = 16 := by
      rw [List.length_append, List.length_append, List.length_take, List.length_drop, length_bytesLE]
      omega
    rw [List.flatMap_cons]
    refine ⟨by rw [List.length_append, piece, length, List.length_cons]; omega, fun i hi => ?_⟩
    cases i with
    | zero =>
      rw [List.getD_append _ _ _ _ (by omega), List.append_assoc, List.getD_append_right _ _ _ _ (by rw [List.length_take]; omega), List.length_take,
        show 16 * 0 + 4 - min 4 l.length = 0 by omega]
      rfl
    | succ i =>
      rw [List.getD_append_right _ _ _ _ (by omega), piece, show 16 * (i + 1) + 4 - 16 = 16 * i + 4 by omega]
      exact status i (Nat.lt_of_succ_lt_succ hi)

/-- The two paths of accesses whose outcome is reported. -/
abbrev reporting (src : Src) : Prop := src = .faultCh ∨ src = .inband
theorem opens_hub {src : Src} {a : Nat} (hs : reporting src) (ha : a < 0x100000) (hc : s.campOk 0 = true) : s.opens src a := by
  have away : reservedRange a = false := by
    simp only [reservedRange, Bool.or_eq_false_iff, Bool.and_eq_false_iff, decide_eq_false_iff_not]
    omega
  have camp : reachCamp a = 0 := if_pos ha
  have main : s.standby src = false := by rcases hs with rfl | rfl <;> rfl
  rw [opens, accessFails, away, main, camp, hc]
  rfl
/-- The state in which an access is tried out: no latched access. -/
theorem campOk_cleared (c : Nat) (h : (HUB_CAMP_RPT.STATUS c).a ≠ HUB_HACC_ERR.a) : (s.wf HUB_HACC_ERR.VALID 0).campOk c = s.campOk c := by
  rw [campOk, campOk, rf, rf, reg_wf_ne _ _ _ _ h]
theorem awake_cleared (hu : awake s) : awake (s.wf HUB_HACC_ERR.VALID 0) := by
  rw [awake, wf_boot]
  exact hu
theorem rb_cleared : (s.wf HUB_HACC_ERR.VALID 0).rb HUB_HACC_ERR.VALID = false := rb_wf_zero (by decide)

theorem regReadNow_plain (hu : awake s) {src : Src} {a : Nat} (ho : s.opens src a) (hp : plainReg a = true) (h8 : a % 8 = 0) :
    s.regReadNow src a = (s.reg a, s) := by
  rw [regReadNow, if_neg (by simp [h8]), regRead, hu, if_neg Bool.false_ne_true, ho]
  exact readReg_plain hp src
/-- A read of a register of the hub that is read as it stands. -/
theorem access_read (hu : awake s) {src : Src} {a : Nat} (hs : reporting src) (ha : a < 0x100000) (hc : s.campOk 0 = true)
    (hp : plainReg a = true) (h8 : a % 8 = 0) (v : Word) : s.access src a false v = (stOK, s.reg a, s) := by
  have tried : (s.wf HUB_HACC_ERR.VALID 0).regReadNow src a = ((s.wf HUB_HACC_ERR.VALID 0).reg a, s.wf HUB_HACC_ERR.VALID 0) :=
    regReadNow_plain (awake_cleared hu) (opens_hub hs ha ((campOk_cleared 0 (by decide)).trans hc)) hp h8
  rw [access, if_neg Bool.false_ne_true, tried, regReadNow_plain hu (opens_hub hs ha hc) hp h8]
  exact congrArg (·, s.reg a, s) (if_neg (by rw [rb_cleared]; exact Bool.false_ne_true))

/-- The row of HUB_JOIN1 (R509). -/
def joinRow : RegRow := ⟨"HUB_JOIN1", 0x270, 1, 0x0, 1, 0x0, 1, 0x0, 1, 0x0, 0xFFFFFFFF0007FFFF, 0xFFFFFFFF0007FFFF, 0x0, false⟩
theorem regRow_join1 : regRow HUB_JOIN1.a = some joinRow := by decide +kernel
/-- HUB_JOIN1 as a write leaves it. -/
def joined1 (old v : Word) : Word := (old &&& ~~~ Word.ofN 0xFFFFFFFF0007FFFF) ||| (v &&& Word.ofN 0xFFFFFFFF0007FFFF)
theorem field_joined1 (old v : Word) : (joined1 old v).field 0 18 = v.toNat % 2 ^ 18 := by
  have open18 : ∀ i, i < 18 → (Word.ofN 0xFFFFFFFF0007FFFF).getLsbD i = true := by decide
  rw [Word.field, Nat.pow_zero, Nat.div_one]
  refine Nat.eq_of_testBit_eq fun i => ?_
  rw [Nat.testBit_mod_two_pow, Nat.testBit_mod_two_pow]
  by_cases h : i < 18
  · rw [decide_eq_true h, Bool.true_and, Bool.true_and, BitVec.testBit_toNat, BitVec.testBit_toNat, joined1, BitVec.getLsbD_or,
      BitVec.getLsbD_and, BitVec.getLsbD_and, BitVec.getLsbD_not, open18 i h]
    simp
  · rw [decide_eq_false h, Bool.false_and, Bool.false_and]
theorem applyWrite_join1 (hl : s.locked = false) (src : Src) (v : Word) :
    s.applyWrite src HUB_JOIN1.a v = s.setReg HUB_JOIN1.a (joined1 (s.reg HUB_JOIN1.a) v) := by
  have plain : s.applyWrite src HUB_JOIN1.a v = s.plainWrite src joinRow HUB_JOIN1.a v := by
    simp only [applyWrite, regRow_join1]
    rfl
  have keep : ∀ w : Word, w &&& 18446744073709551615#64 = w := fun _ => BitVec.and_allOnes
  have zero : Word.ofN 0 = 0#64 := rfl
  rw [plain]
  simp [plainWrite, hl, joinRow, joined1, zero, keep]
theorem regWriteNow_join1 (hu : awake s) {src : Src} (ho : s.opens src HUB_JOIN1.a) (hl : s.locked = false) (v : Word) :
    s.regWriteNow src HUB_JOIN1.a v = s.setReg HUB_JOIN1.a (joined1 (s.reg HUB_JOIN1.a) v) := by
  have written := regWrite_applied src v hu (by decide) ho regRow_join1 (by decide)
  rw [regWriteNow, written, show groupOf HUB_JOIN1.a = none by decide]
  exact applyWrite_join1 hl src v
/-- A write of HUB_JOIN1 before the device is locked. -/
theorem access_join1 (hu : awake s) {src : Src} (hs : reporting src) (hc : s.campOk 0 = true) (hl : s.locked = false) (v : Word) :
    s.access src HUB_JOIN1.a true v = (stOK, v, s.setReg HUB_JOIN1.a (joined1 (s.reg HUB_JOIN1.a) v)) := by
  have cleared : (s.wf HUB_HACC_ERR.VALID 0).locked = false := (rb_wf_apart 0 (by decide)).trans hl
  have tried := regWriteNow_join1 (awake_cleared hu) (opens_hub hs (by decide) ((campOk_cleared 0 (by decide)).trans hc)) cleared v
  have quiet (w : Word) : ((s.wf HUB_HACC_ERR.VALID 0).setReg HUB_JOIN1.a w).rb HUB_HACC_ERR.VALID = false := by
    rw [rb, rf, reg_setReg_ne _ _ _ _ (by decide)]
    exact rb_cleared
  rw [access, if_pos rfl, tried, regWriteNow_join1 hu (opens_hub hs (by decide) hc) hl]
  exact congrArg (·, v, _) (if_neg (by rw [quiet]; exact Bool.false_ne_true))

theorem accesses_one (src : Src) (write : List Byte → Bool) (l : List Byte) :
    let r := s.access src (leAt l 0 4) (write l) (Word.ofN (leAt l 8 8))
    accesses src write [l] s = (l.take 4 ++ bytesLE 1 r.1 ++ (l.drop 5).take 3 ++ bytesLE 8 r.2.1.toNat, r.2.2) := by
  intro r
  rw [accesses, accesses, List.append_nil]
/-- The answer to one access that went well, with the value `w`. -/
def answered (l : List Byte) (w : Word) : List Byte := l.take 4 ++ [0#8] ++ (l.drop 5).take 3 ++ bytesLE 8 w.toNat
theorem answered_status {l : List Byte} (h : l.length = 16) (w : Word) : (answered l w).getD 4 0xFF = 0#8 := by
  have four : (l.take 4).length = 4 := by
    rw [List.length_take, h]
    rfl
  rw [answered, List.append_assoc, List.append_assoc, List.getD_append_right _ _ _ _ (Nat.le_of_eq four), four]
  rfl
theorem accesses_read (hu : awake s) {src : Src} {a : Nat} (hs : reporting src) (ha : a < 0x100000) (hc : s.campOk 0 = true)
    (hp : plainReg a = true) (h8 : a % 8 = 0) {write : List Byte → Bool} {l : List Byte} (hl : leAt l 0 4 = a) (hw : write l = false) :
    accesses src write [l] s = (answered l (s.reg a), s) := by
  rw [accesses_one, hl, hw, access_read hu hs ha hc hp h8]
  rfl

/-! ## What a report leaves of the requests (R527) -/

theorem reqSeq_setWoItems (p : Nat) (l : List Item) : (s.setWoItems p l).fault.reqSeq = s.fault.reqSeq := by
  rw [setWoItems]
  split <;> rfl
theorem reqSeq_setWo (p : Nat) (w : Whiteout) : (s.setWo p w).fault.reqSeq = s.fault.reqSeq ∧ (s.setWo p w).fault.hold = s.fault.hold := by
  rw [setWo]
  split <;> exact ⟨rfl, rfl⟩
/-- A whiteout may begin; what waits stays. -/
theorem fault_woSettle (p : Nat) : (s.woSettle p).fault.reqSeq = s.fault.reqSeq ∧ (s.woSettle p).fault.hold = s.fault.hold := by
  simp only [woSettle]
  split
  · rw [lifeInc, inc_fault]
    obtain ⟨req, hold⟩ := reqSeq_setWo (s := (((s.wf (TEL_WO_STS.OCC p) (occupancy (s.woItems p))).wf HUB_FAULT_STS.QUEUE s.fault.hold.length).wf
      (TEL_WO_STS.ACTIVE p) 1).satInc (TEL_WO_STS.EPISODES p) 1) p ⟨s.now, [0, 0, 0, 0, 0]⟩
    rw [satInc, wf_fault, wf_fault, wf_fault, wf_fault] at req hold
    exact ⟨req, hold⟩
  · rw [wf_fault, wf_fault]
    exact ⟨rfl, rfl⟩
/-- QUEUE shows how many records wait. -/
theorem rf_woSettle_queue (p : Nat) : (s.woSettle p).rf HUB_FAULT_STS.QUEUE = s.fault.hold.length % 8192 := by
  have path {a : Nat} (h : 0x350000 ≤ a) : HUB_FAULT_STS.QUEUE.a ≠ a := Nat.ne_of_lt (Nat.lt_of_lt_of_le (by decide) h)
  have sts : 0x350000 ≤ TEL_WO_STS.a p := by simp only [TEL_WO_STS.a]; omega
  have shown (t : State) : (t.wf HUB_FAULT_STS.QUEUE s.fault.hold.length).rf HUB_FAULT_STS.QUEUE = s.fault.hold.length % 8192 :=
    rf_wf_self _ HUB_FAULT_STS.QUEUE _ (by decide)
  simp only [woSettle]
  split
  · rw [lifeInc, rf, inc, reg_count_ne _ _ _ _ (path (Nat.le_add_right ..)), reg_setWo, satInc,
      reg_wf_ne _ _ _ _ (path sts), reg_wf_ne _ _ _ _ (path sts)]
    exact shown _
  · exact shown _
theorem reqSeq_woDrop (p k : Nat) : (s.woDrop p k).fault.reqSeq = s.fault.reqSeq := by rw [woDrop, (reqSeq_setWo ..).1, inc_fault]
theorem reqSeq_evictFor (p n fuel : Nat) (s : State) : (evictFor p n fuel s).fault.reqSeq = s.fault.reqSeq := by
  induction fuel generalizing s with
  | zero => rfl
  | succ k ih =>
    simp only [evictFor]
    split
    · rfl
    · split
      · rfl
      · rw [ih, reqSeq_woDrop, reqSeq_setWoItems]
theorem reqSeq_offer (p : Nat) (it : Item) : (s.offer p it).fault.reqSeq = s.fault.reqSeq := by
  unfold offer
  extract_lets n s1 o lim
  have room : s1.fault.reqSeq = s.fault.reqSeq := by
    change (if it.prio = 5 then evictFor p n ((s.woItems p).length + 1) s else s).fault.reqSeq = s.fault.reqSeq
    split
    · exact reqSeq_evictFor ..
    · rfl
  split
  · rw [(fault_woSettle _).1, reqSeq_setWoItems, room]
  · rw [(fault_woSettle _).1, reqSeq_woDrop, room]
theorem reqSeq_sendEvents (fuel : Nat) (s : State) : (sendEvents fuel s).fault.reqSeq = s.fault.reqSeq := by
  induction fuel generalizing s with
  | zero => rfl
  | succ k ih =>
    simp only [sendEvents]
    split
    · rfl
    · rw [ih, emit_fault, withFault_fault]
theorem reqSeq_ringRecord (bs : List Byte) : (s.ringRecord bs).fault.reqSeq = s.fault.reqSeq := by
  simp only [ringRecord]
  split
  · rfl
  · split
    · split
      · rw [wf_fault, withMem_fault]
      · rw [wf_fault]
    · rw [wf_fault]
theorem reqSeq_cairnFault (sev last : Nat) (bs : List Byte) : (s.cairnFault sev last bs).fault.reqSeq = s.fault.reqSeq := by
  unfold cairnFault
  extract_lets sec n
  split
  · rfl
  · split
    · rw [inc_fault, withCairn_fault]
    · have kept (t : State) (k m : Nat) (l : List Byte) : (t.cairnRec k m l).fault = t.fault := (frame_cairnRec ..).1 .fault (by decide)
      rw [kept, withCairn_fault]
theorem reqSeq_sendRecord (r : FaultRec) (n f l : Nat) : (s.sendRecord r n f l).fault.reqSeq = s.fault.reqSeq := by
  unfold sendRecord
  extract_lets q bytes prio _ s1 s2 s3 s4 s5
  have h4 : s4.fault.reqSeq = s.fault.reqSeq := by
    rw [reqSeq_ringRecord, reqSeq_sendEvents, reqSeq_offer, withFault_fault]
  have h5 : s5.fault.reqSeq = s4.fault.reqSeq := by
    change (if _ then _ else s4).fault.reqSeq = s4.fault.reqSeq
    split
    · exact reqSeq_offer ..
    · rfl
  rw [reqSeq_cairnFault, h5, h4]
theorem reqSeq_listed (v : FaultSt) (k : Nat) (r : FaultRec) (n f l : Nat) (h : v.reqSeq = s.fault.reqSeq) :
    (((s.withFault v).wf HUB_AVAL_STS.USED k).sendRecord r n f l).fault.reqSeq = s.fault.reqSeq := by
  rw [reqSeq_sendRecord, wf_fault, withFault_fault, h]
theorem reqSeq_occur (r : FaultRec) (n : Nat) : (s.occur r n).fault.reqSeq = s.fault.reqSeq := by
  unfold occur
  extract_lets s0 win _ s1 sec mask _ s2
  have counted : s0.fault.reqSeq = s.fault.reqSeq := by
    change (State.inc (match lifeWord r with | some i => s.lifeInc i | none => s) HUB_FAULT_CNT.V).fault.reqSeq = s.fault.reqSeq
    rw [inc_fault]
    split
    · rw [lifeInc, inc_fault]
    · rfl
  clear_value s0
  split
  · exact counted
  · split
    · exact (reqSeq_sendRecord ..).trans counted
    · split
      · refine (reqSeq_listed _ _ _ _ _ _ ?_).trans counted
        rfl
      · have dropped : s2.fault.reqSeq = s0.fault.reqSeq := by
          change s1.fault.reqSeq = s0.fault.reqSeq
          rw [show s1.fault = s0.fault from inc_fault ..]
        clear_value s2
        split
        · exact dropped.trans counted
        · rw [reqSeq_sendRecord, inc_fault, dropped, counted]
theorem reqSeq_report (r : FaultRec) : (s.report r).fault.reqSeq = s.fault.reqSeq := by
  rw [report]
  split
  · rfl
  · exact reqSeq_occur ..

/-! ## The fault channel -/

/-- A datagram that fails its check. -/
theorem fmBad_counts (from_ : Nat) :
    (s.fmBad from_).reg HUB_FM_CNT_BAD.a = Word.ofN ((s.reg HUB_FM_CNT_BAD.a).toNat + 1) ∧ s.noted (s.fmBad from_) clMGMT 0x03 1 0x08 ∧
    s.frame (s.fmBad from_) recordParts recordReg ∧ (s.fmBad from_).fault.reqSeq = s.fault.reqSeq := by
  refine ⟨?_, noted_of_sent (sent_inc _ (by decide)) (noted_report (show 1 < 2 by decide)),
    frame_trans (frame_inc HUB_FM_CNT_BAD.V (.inl (by decide)) (by decide)) (recorded_report _ (show clMGMT < 256 by decide)), ?_⟩
  · exact (reg_report_unrecorded (by decide) _).trans (reg_count_self _ HUB_FM_CNT_BAD.V 1)
  · rw [fmBad, reqSeq_report, inc_fault]

theorem length_fmPayload {b : List Byte} {n : Nat} (hk : s.fmOk b = true) (hl : fmLen b = n) : (fmPayload b).length = n := by
  simp only [fmOk, Bool.and_eq_true, beq_iff_eq] at hk
  obtain ⟨⟨⟨-, whole⟩, -⟩, -⟩ := hk
  rw [fmPayload, List.length_take, List.length_drop]
  omega
/-- A new request accepted, before its accesses. -/
def requested (s : State) (q from_ : Nat) : State :=
  (s.withFault { s.fault with reqSeq := q, reqAny := true, reqFrom := from_ }).inc HUB_FM_CNT_RX.V
theorem requested_keeps (q from_ : Nat) :
    (s.requested q from_).fault = { s.fault with reqSeq := q, reqAny := true, reqFrom := from_ } ∧
    (s.requested q from_).reg HUB_FM_CNT_RX.a = Word.ofN ((s.reg HUB_FM_CNT_RX.a).toNat + 1) ∧
    frame s (s.requested q from_) [.fault, .sticky] (fun a => a = HUB_FM_CNT_RX.a) :=
  ⟨(inc_fault ..).trans (withFault_fault ..), reg_count_self (s.withFault { s.fault with reqSeq := q, reqAny := true, reqFrom := from_ }) HUB_FM_CNT_RX.V 1,
    frame_trans (frame_withFault _ (by decide)) (frame_inc HUB_FM_CNT_RX.V rfl (by decide))⟩
/-- Its answer, saved and sent unless the processor has stopped meanwhile; `r`: the answered accesses and the state they leave. -/
def responded (q from_ : Nat) (r : List Byte × State) : State :=
  if !r.2.fmRuns then r.2 else (r.2.withFault { r.2.fault with saved := r.1 }).emit (.response from_ q r.1)
theorem responded_up {q from_ : Nat} {l : List Byte} (h : s.fmRuns = true) :
    responded q from_ (l, s) = (s.withFault { s.fault with saved := l }).emit (.response from_ q l) :=
  if_neg (by rw [h]; exact Bool.false_ne_true)
theorem fmRequest_down (h : s.fmRuns = false) (b : List Byte) (from_ : Nat) : s.fmRequest b from_ = s := if_pos (by rw [h]; rfl)
theorem fmAck_down (h : s.fmRuns = false) (b : List Byte) (from_ : Nat) : s.fmAck b from_ = s := if_pos (by rw [h]; rfl)

section
variable (hr : s.fmRuns = true) {b : List Byte} {from_ : Nat}
include hr

theorem fmRequest_bad (h : s.fmOk b = false) : s.fmRequest b from_ = s.fmBad from_ :=
  (if_neg (by rw [hr]; exact Bool.false_ne_true)).trans (if_pos (by rw [h]; rfl))
theorem fmAck_bad (h : s.fmOk b = false) : s.fmAck b from_ = s.fmBad from_ :=
  (if_neg (by rw [hr]; exact Bool.false_ne_true)).trans (if_pos (by rw [h]; rfl))
/-- An ACK of every EVENT up to its SEQ. -/
theorem fmAck_frees (h : s.fmOk b = true) (ht : fmType b = 4) (hl : fmLen b = 0) :
    let t := s.fmAck b from_
    t.fault.hold = s.fault.hold.filter (fun i => i.tag == 0 || decide (fmSeq b < i.tag)) ∧
    t.rf HUB_FAULT_STS.QUEUE = t.fault.hold.length % 8192 ∧ t.out = s.out ∧ t.fault.reqSeq = s.fault.reqSeq := by
  intro t
  have settled : t = (s.withFault { s.fault with hold := s.fault.hold.filter (fun i => i.tag == 0 || decide (fmSeq b < i.tag)) }).woSettle 1 :=
    (if_neg (by rw [hr]; exact Bool.false_ne_true)).trans (if_neg (by rw [h, ht, hl]; decide))
  clear_value t
  have freed := withFault_fault s { s.fault with hold := s.fault.hold.filter (fun i => i.tag == 0 || decide (fmSeq b < i.tag)) }
  have sent := withFault_out s { s.fault with hold := s.fault.hold.filter (fun i => i.tag == 0 || decide (fmSeq b < i.tag)) }
  generalize s.withFault _ = u at settled freed sent
  obtain ⟨req, hold⟩ := fault_woSettle (s := u) 1
  subst settled
  refine ⟨by rw [hold, freed], ?_, ?_, by rw [req, freed]⟩
  · rw [hold]
    exact rf_woSettle_queue 1
  · rw [← sent]
    exact out_woSettle 1

section
variable (hk : s.fmOk b = true) (ht : fmType b = 1) (h16 : fmLen b % 16 = 0) (hl : 16 ≤ fmLen b) (hh : fmLen b ≤ 1024)
include hk ht h16 hl hh

theorem fmRequest_new (hn : s.fault.reqSeq < fmSeq b) :
    s.fmRequest b from_ = responded (fmSeq b) from_
      (accesses .faultCh (fun l => leAt l 5 1 % 2 == 1) (sixteens (fmLen b / 16) (fmPayload b)) (s.requested (fmSeq b) from_)) := by
  refine (if_neg (by rw [hr]; exact Bool.false_ne_true)).trans ((if_neg ?_).trans (if_pos hn))
  rw [hk, ht, h16]
  simp only [Bool.not_true, Bool.false_or, bne_self_eq_false, Bool.or_eq_true, decide_eq_true_eq]
  omega
/-- A request whose SEQ is the last accepted one, or below it. -/
theorem fmRequest_old (hn : ¬ s.fault.reqSeq < fmSeq b) :
    s.fmRequest b from_ = if s.fault.reqAny && fmSeq b = s.fault.reqSeq then s.emit (.response from_ s.fault.reqSeq s.fault.saved)
      else s.emit (.response from_ s.fault.reqSeq ((sixteens (fmLen b / 16) (fmPayload b)).flatMap
        (fun l => l.take 4 ++ bytesLE 1 stREJECT ++ l.drop 5))) := by
  refine (if_neg (by rw [hr]; exact Bool.false_ne_true)).trans ((if_neg ?_).trans (if_neg hn))
  rw [hk, ht, h16]
  simp only [Bool.not_true, Bool.false_or, bne_self_eq_false, Bool.or_eq_true, decide_eq_true_eq]
  omega
theorem fmRequest_again (hn : fmSeq b = s.fault.reqSeq) (ha : s.fault.reqAny = true) :
    s.fmRequest b from_ = s.emit (.response from_ s.fault.reqSeq s.fault.saved) := by
  rw [fmRequest_old hr hk ht h16 hl hh (by omega), if_pos (by rw [ha, hn]; simp)]
theorem fmRequest_stale (hn : fmSeq b < s.fault.reqSeq ∨ (s.fault.reqAny = false ∧ fmSeq b = 0 ∧ s.fault.reqSeq = 0)) :
    ∃ r, s.fmRequest b from_ = s.emit (.response from_ s.fault.reqSeq r) ∧ r.length = fmLen b ∧
      ∀ i, i < fmLen b / 16 → r.getD (16 * i + 4) 0 = 0x0E#8 := by
  obtain ⟨count, pieces⟩ := sixteens_pieces (fmLen b / 16) (fmPayload b)
  obtain ⟨length, status⟩ := rejected_pieces pieces
  rw [count] at length status
  refine ⟨_, (fmRequest_old hr hk ht h16 hl hh (by omega)).trans (if_neg ?_), length.trans (by omega), status⟩
  simp only [Bool.and_eq_true, decide_eq_true_eq, not_and]
  rintro any same
  rcases hn with lt | ⟨none, -, -⟩
  · omega
  · rw [none] at any
    cases any
/-- A request of one read of HUB_FAULT_STS, answered. -/
theorem fmRequest_reads (hu : awake s) (hn : s.fault.reqSeq < fmSeq b) (h1 : fmLen b = 16) (ha : leAt (fmPayload b) 0 4 = HUB_FAULT_STS.a)
    (hw : leAt (fmPayload b) 5 1 % 2 = 0) (hc : s.campOk 0 = true) :
    let t := s.fmRequest b from_
    t.fault.reqSeq = fmSeq b ∧ t.fault.reqAny = true ∧ t.fault.reqFrom = from_ ∧
    t.reg HUB_FM_CNT_RX.a = Word.ofN ((s.reg HUB_FM_CNT_RX.a).toNat + 1) ∧
    t.fault.saved = (fmPayload b).take 4 ++ [0#8] ++ ((fmPayload b).drop 5).take 3 ++ bytesLE 8 (s.reg HUB_FAULT_STS.a).toNat ∧
    t.out = s.out ++ [.response from_ (fmSeq b) t.fault.saved] ∧ s.frame t [.fault, .out, .sticky] (fun a => a = HUB_FM_CNT_RX.a) := by
  intro t
  have ran : t = _ := fmRequest_new (from_ := from_) hr hk ht h16 hl hh hn
  rw [h1, sixteens_one (length_fmPayload hk h1)] at ran
  obtain ⟨fault, counted, taken⟩ := requested_keeps (s := s) (fmSeq b) from_
  generalize s.requested (fmSeq b) from_ = s1 at ran taken fault counted
  have boot : s1.boot = s.boot := taken.1 .boot (by decide)
  have up : awake s1 := by rw [awake, boot, hu]
  have camp {c : Nat} (h : c < 8) : s1.campOk c = s.campOk c := by
    rw [campOk, campOk, rf_of_frame taken]
    simp only [HUB_CAMP_RPT.STATUS, HUB_CAMP_RPT.a, HUB_FM_CNT_RX.a]
    omega
  have runs : s1.fmRuns = true := by
    rw [← hr, fmRuns, fmRuns, camp (by decide), rf_of_frame taken (x := HUB_FAULT_STS.MP_STATE) (by decide), boot]
  have status : s1.reg HUB_FAULT_STS.a = s.reg HUB_FAULT_STS.a := taken.2.1 _ (by decide)
  have read : accesses .faultCh (fun l => leAt l 5 1 % 2 == 1) [fmPayload b] s1 = (answered (fmPayload b) (s.reg HUB_FAULT_STS.a), s1) := by
    rw [accesses_read up (.inl rfl) (by decide) ((camp (by decide)).trans hc) (by decide +kernel) (by decide) ha (by rw [hw]; rfl), status]
  rw [read, responded_up runs] at ran
  clear_value t
  have sent : frame s1 t [.fault, .out] (fun _ => False) := by
    rw [ran]
    exact frame_trans (frame_withFault _ (by decide)) (frame_emit _ (by decide))
  have shown : t.fault = { s1.fault with saved := answered (fmPayload b) (s.reg HUB_FAULT_STS.a) } := by rw [ran, emit_fault, withFault_fault]
  have out : t.out = s.out ++ [.response from_ (fmSeq b) (answered (fmPayload b) (s.reg HUB_FAULT_STS.a))] := by
    rw [ran, emit_out, withFault_out, show s1.out = s.out from taken.1 .out (by decide)]
  refine ⟨by rw [shown, fault], by rw [shown, fault], by rw [shown, fault], (sent.2.1 _ id).trans counted, ?_, ?_,
    frame_trans (frame_mono taken (by simp) fun _ => id) (frame_mono sent (by simp) fun _ => False.elim)⟩
  · rw [shown]
    rfl
  · rw [out, shown]
end
end

theorem eventResend_down (h : s.fmUp = false) : s.eventResend = s := if_pos (by rw [h]; rfl)
/-- One EVENT that was not acknowledged, sent again. -/
theorem eventResend_one (h : s.fmUp = true) {q : Nat} (hq : q ≠ 0) (hn : s.fault.hold ≠ []) (ha : ∀ i ∈ s.fault.hold, i.tag = q) :
    s.eventResend = (s.emit (.event s.eventTo q (s.fault.hold.map (fun i => i.bytes)))).inc HUB_FM_CNT_RESEND.V := by
  have tags : s.fault.hold.map (fun i => i.tag) = List.replicate s.fault.hold.length q := List.map_eq_replicate_iff.mpr ha
  have one : ((s.fault.hold.map (fun i => i.tag)).filter (fun t => t != 0)).dedup = [q] := by
    rw [tags, List.filter_replicate, if_pos (by simpa using hq), List.replicate_dedup]
    exact fun e => hn (List.length_eq_zero_iff.mp e)
  have all : s.fault.hold.filter (fun i => i.tag == q) = s.fault.hold := List.filter_eq_self.mpr fun i hi => by simp [ha i hi]
  rw [eventResend, h, if_neg (by decide), one, List.foldl_cons, List.foldl_nil, all]

/-! ## In band -/

theorem regFrame_held (h : s.mgmtHeld = true) (op : Nat) (mine : Frame → Bool) : s.regFrame op mine = s := if_pos h

/-- The reply of the management processor to a request `x`. -/
def regReply (s : State) (x : Steered) (l : List Byte) : Frame :=
  FrameSpec.make { cls := 6, kind := 6, dst := x.frame.src, src := s.hubFeid, op := 0x12, tag := x.frame.tag, time := s.now, payload := l, checkKind := 0 }
theorem regReply_shows (x : Steered) (l : List Byte) :
    (s.regReply x l).kind = 6 ∧ (s.regReply x l).op = 0x12 ∧ (s.regReply x l).tag = x.frame.tag ∧ (s.regReply x l).dst = x.frame.src ∧
    (s.regReply x l).payload = l :=
  ⟨FrameSpec.kind_make _, FrameSpec.op_make _, (FrameSpec.tag_make _).trans (Nat.mod_eq_of_lt (Nat.mod_lt _ (by decide))),
    (FrameSpec.dst_make _).trans (Nat.mod_eq_of_lt (Frame.src_lt _)), rfl⟩

section
variable {x : Steered} {op : Nat} {mine : Frame → Bool} (hh : s.mgmtHeld = false) (hx : s.fwd.steer.find? (fun y => y.place == .mgmt) = some x)
  (hm : mine x.frame = true) (ho : x.frame.op = op)
include hh hx hm ho

omit hh ho in
theorem takeHub_mgmt : s.takeHub .mgmt mine = some (x, s.unsteer x) := by
  rw [takeHub, hx]
  exact if_pos hm
omit ho in
/-- A frame that is not the plane master's is discarded. -/
theorem regFrame_denied (hi : s.inbandOk x = false) : s.regFrame op mine = (s.unsteer x).inc RING_CNT_MGMT_DENIED.V := by
  have denied : (s.unsteer x).inbandOk x = false := hi
  rw [regFrame, hh, takeHub_mgmt hx hm, if_neg Bool.false_ne_true]
  exact if_pos (by rw [denied, Bool.not_false, Bool.or_true])
/-- The plane master's request is carried out and answered. -/
theorem regFrame_answers (hi : s.inbandOk x = true) (hl : x.frame.len = 16) (hp : x.frame.payload.length = 16) (hd : x.frame.dst < 0x3FFC0)
    {l : List Byte} (hr : accesses .inband (fun _ => op == 0x11) [x.frame.payload] (s.unsteer x) = (l, u)) (hc : u.campOk 1 = true) :
    s.regFrame op mine = u.send 0 (u.regReply x l) := by
  have granted : (s.unsteer x).inbandOk x = true := hi
  rw [regFrame, hh, takeHub_mgmt hx hm, if_neg Bool.false_ne_true]
  dsimp only
  rw [granted, ho, bne_self_eq_false, Bool.not_true, Bool.or_false, if_neg Bool.false_ne_true, hl, show 16 / 16 = 1 from rfl, sixteens_one hp, hr, hc,
    Bool.not_true, if_neg Bool.false_ne_true, if_neg (Nat.not_le.mpr hd)]
  rfl
end

theorem denied_counts (x : Steered) :
    ((s.unsteer x).inc RING_CNT_MGMT_DENIED.V).fwd = { s.fwd with steer := s.fwd.steer.erase x } ∧
    ((s.unsteer x).inc RING_CNT_MGMT_DENIED.V).reg RING_CNT_MGMT_DENIED.a = Word.ofN ((s.reg RING_CNT_MGMT_DENIED.a).toNat + 1) ∧
    s.frame ((s.unsteer x).inc RING_CNT_MGMT_DENIED.V) [.fwd, .sticky] (fun a => a = RING_CNT_MGMT_DENIED.a) :=
  ⟨(inc_fwd ..).trans (withFwd_fwd ..), reg_count_self (s.unsteer x) RING_CNT_MGMT_DENIED.V 1,
    frame_trans (frame_mono (frame_unsteer x) (by simp) fun _ => False.elim) (frame_inc RING_CNT_MGMT_DENIED.V rfl (by decide))⟩
/-- The reply goes into the queue of the port that leads to the plane master. -/
theorem reply_queued {x : Steered} {l : List Byte} {P : Nat} (hr : s.reaches 0 0 6 x.frame.src P) :
    s.queued (s.send 0 (s.regReply x l)) P (fun g => g = s.regReply x l) ∧ (s.send 0 (s.regReply x l)).fwd.steer = s.fwd.steer ∧
    frame s (s.send 0 (s.regReply x l)) [.fwd, .sticky] (fun a => 0x1000000 ≤ a) := by
  obtain ⟨kind, -, -, dst, -⟩ := regReply_shows (s := s) x l
  refine send_queues (FrameSpec.mcast_make _) (by rw [kind]; decide) (FrameSpec.trav_make _) (FrameSpec.harness_make _) (FrameSpec.checksOk_make _ rfl) ?_
  rw [dst, show (s.regReply x l).cls = 6 from FrameSpec.cls_make _]
  exact hr
theorem sameWay_unsteer (x : Steered) : sameWay s (s.unsteer x) := ⟨rfl, rfl, rfl, fun _ _ => rfl⟩
theorem sameWay_join1 (w : Word) : sameWay s (s.setReg HUB_JOIN1.a w) := by
  refine sameWay_of_frame (frame_setReg (ch := []) (rg := fun a => a = HUB_JOIN1.a) _ w rfl) (by decide) ?_
  rintro a rfl (e | e | ⟨P, low, e⟩ | ⟨P, low, e⟩ | ⟨n, q, c, -, -, e⟩)
  · exact absurd e (by decide)
  · exact absurd e (by decide)
  · simp only [HUB_JOIN1.a, PRT_PORT_CTL.a, portBase, if_pos low] at e
    omega
  · simp only [HUB_JOIN1.a, PRT_PORT_STS.a, portBase, if_pos low] at e
    omega
  · simp only [HUB_JOIN1.a, FWD_QLIMIT.a, cruxBase] at e
    omega

section
variable {x : Steered} {P : Nat} (hu : awake s) (hr : s.reaches 0 0 6 x.frame.src P) (hc : s.campOk 0 = true)
include hu hr hc

/-- The plane master reads HUB_FAULT_STS. -/
theorem regRead_answered (ha : leAt x.frame.payload 0 4 = HUB_FAULT_STS.a) :
    accesses .inband (fun _ => (0x10 : Nat) == 0x11) [x.frame.payload] (s.unsteer x) =
      (answered x.frame.payload (s.reg HUB_FAULT_STS.a), s.unsteer x) ∧
    ((s.unsteer x).send 0 ((s.unsteer x).regReply x (answered x.frame.payload (s.reg HUB_FAULT_STS.a)))).fwd.steer = s.fwd.steer.erase x ∧
    s.queued ((s.unsteer x).send 0 ((s.unsteer x).regReply x (answered x.frame.payload (s.reg HUB_FAULT_STS.a)))) P
      (fun g => g.kind = 6 ∧ g.op = 0x12 ∧ g.tag = x.frame.tag ∧ g.dst = x.frame.src ∧
        g.payload = answered x.frame.payload (s.reg HUB_FAULT_STS.a)) := by
  have read := accesses_read (s := s.unsteer x) (write := fun _ => (0x10 : Nat) == 0x11) hu (.inr rfl) (by decide) hc
    (show plainReg HUB_FAULT_STS.a = true by decide +kernel) (by decide) ha rfl
  obtain ⟨⟨q, queues, port, same⟩, steer, -⟩ := reply_queued (l := answered x.frame.payload (s.reg HUB_FAULT_STS.a))
    (reaches_of_sameWay (sameWay_unsteer x) hr)
  exact ⟨read, steer, q, queues, port, by rw [same]; exact regReply_shows ..⟩
/-- The plane master writes HUB_JOIN1. -/
theorem regWrite_answered (hp : x.frame.payload.length = 16) (ha : leAt x.frame.payload 0 4 = HUB_JOIN1.a) (hl : s.locked = false) :
    ∃ l u, accesses .inband (fun _ => (0x11 : Nat) == 0x11) [x.frame.payload] (s.unsteer x) = (l, u) ∧ u.campOk 1 = s.campOk 1 ∧
      (u.send 0 (u.regReply x l)).fwd.steer = s.fwd.steer.erase x ∧
      (u.send 0 (u.regReply x l)).rf HUB_JOIN1.DEVICE_FEID = leAt x.frame.payload 8 8 % 2 ^ 18 ∧
      s.queued (u.send 0 (u.regReply x l)) P (fun g => g.kind = 6 ∧ g.op = 0x12 ∧ g.tag = x.frame.tag ∧ g.dst = x.frame.src ∧
        g.payload.getD 4 0xFF = 0#8) := by
  let v := Word.ofN (leAt x.frame.payload 8 8)
  let u := (s.unsteer x).setReg HUB_JOIN1.a (joined1 (s.reg HUB_JOIN1.a) v)
  have written : accesses .inband (fun _ => (0x11 : Nat) == 0x11) [x.frame.payload] (s.unsteer x) = (answered x.frame.payload v, u) := by
    rw [accesses_one, ha, show ((0x11 : Nat) == 0x11) = true from rfl, access_join1 (s := s.unsteer x) hu (.inr rfl) hc hl]
    rfl
  have way : sameWay (s.unsteer x) u := sameWay_join1 _
  have camp : u.campOk 1 = s.campOk 1 := by
    rw [campOk, campOk, rf, rf, show u.reg (HUB_CAMP_RPT.STATUS 1).a = s.reg (HUB_CAMP_RPT.STATUS 1).a from reg_setReg_ne _ _ _ _ (by decide)]
  have feid : u.reg HUB_JOIN1.a = joined1 (s.reg HUB_JOIN1.a) v := reg_setReg_self ..
  have steered : u.fwd = { s.fwd with steer := s.fwd.steer.erase x } := rfl
  refine ⟨answered x.frame.payload v, u, written, camp, ?_⟩
  obtain ⟨⟨q, queues, port, same⟩, steer, keeps⟩ := reply_queued (l := answered x.frame.payload v)
    (reaches_of_sameWay way (reaches_of_sameWay (sameWay_unsteer x) hr))
  clear_value u
  rw [steered] at queues steer
  refine ⟨steer, ?_, q, queues, port, ?_⟩
  · rw [rf_of_frame keeps (by decide), rf, show HUB_JOIN1.DEVICE_FEID.a = HUB_JOIN1.a from rfl, feid]
    refine (field_joined1 ..).trans ?_
    rw [show v = Word.ofN _ from rfl, Word.ofN, BitVec.toNat_ofNat, Nat.mod_mod_of_dvd _ (by decide)]
  · obtain ⟨kind, op, tag, dst, payload⟩ := regReply_shows (s := u) x (answered x.frame.payload v)
    rw [same]
    exact ⟨kind, op, tag, dst, by rw [payload, answered_status hp]⟩
end
end State

/-- Settles O54: the fault channel's requests, acknowledgements and repeats, and register access in band. -/
theorem faultChannel : Obligations.FaultChannel := by
  unfold Obligations.FaultChannel
  refine ⟨fun s b from_ hu => ⟨fun down => ⟨?_, ?_⟩, fun up => ⟨fun bad c hc => ?_, fun ok ht h16 hl hh => ⟨fun again any => ?_, fun old => ?_,
    fun new h1 ha hw hc => ?_⟩, fun ok ht hl => ?_⟩, fun down => ?_, fun q up hq hn ha => ?_⟩, fun s hu => ⟨fun held => ⟨?_, ?_⟩,
    fun x hh hx => ⟨fun denied => ⟨fun ho => ?_, fun ho => ?_⟩, fun ok hl hp hd hc0 hc1 P hr _ => ⟨fun ho ha => ?_, fun ho ha hlock => ?_⟩⟩⟩⟩
  · exact runs_unheld hu rfl (State.fmRequest_down down b from_.toNat)
  · exact runs_unheld hu rfl (State.fmAck_down down b from_.toNat)
  · rcases hc with rfl | rfl
    · exact runs_unheld hu (congrArg (unheld s) (State.fmRequest_bad up bad)) (State.fmBad_counts _)
    · exact runs_unheld hu (congrArg (unheld s) (State.fmAck_bad up bad)) (State.fmBad_counts _)
  · exact runs_unheld hu rfl (State.fmRequest_again up ok ht h16 hl hh again any)
  · exact runs_unheld hu rfl (State.fmRequest_stale up ok ht h16 hl hh old)
  · exact runs_unheld hu rfl (State.fmRequest_reads up ok ht h16 hl hh hu new h1 ha hw hc)
  · exact runs_unheld hu rfl (State.fmAck_frees up ok ht hl)
  · exact runs_unheld hu rfl (State.eventResend_down down)
  · refine runs_unheld hu (congrArg (unheld s) (State.eventResend_one up hq hn ha)) ⟨?_, ?_, ?_⟩
    · rw [State.inc_out, State.emit_out]
    · exact State.reg_count_self _ HUB_FM_CNT_RESEND.V 1
    · rw [State.inc_fault, State.emit_fault]
  · exact runs_unheld hu rfl (State.regFrame_held held ..)
  · exact runs_unheld hu rfl (State.regFrame_held held ..)
  · exact runs_unheld hu (congrArg (unheld s) (State.regFrame_denied hh hx (by rw [ho]; rfl) denied)) (State.denied_counts x)
  · exact runs_unheld hu (congrArg (unheld s) (State.regFrame_denied hh hx (by rw [ho]; rfl) denied)) (State.denied_counts x)
  · obtain ⟨read, steer, queued⟩ := State.regRead_answered hu hr hc0 ha
    exact runs_unheld hu (congrArg (unheld s) (State.regFrame_answers hh hx (by rw [ho]; rfl) ho ok hl hp hd read hc1)) ⟨steer, queued⟩
  · obtain ⟨l, u, written, camp, answer⟩ := State.regWrite_answered hu hr hc0 hp ha hlock
    exact runs_unheld hu (congrArg (unheld s) (State.regFrame_answers hh hx (by rw [ho]; rfl) ho ok hl hp hd written (camp.trans hc1))) answer
end Sys2Proof.Machine
end
